-- ==== Sys2Proof/Word.lean ====
section
/-! DEFINITION. The word types of the Galtan G1 and their plainest arithmetic (spec/00 R4, R5, R7). -/

namespace Sys2Proof

/-- A 32-bit word: registers, token data, image words. -/
abbrev Word := BitVec 32

/-- One byte of device memory. -/
abbrev Byte := BitVec 8

/-- A 64-bit register of the management space or of a controller. -/
abbrev Dword := BitVec 64

/-- A token's 4-bit tag (R62). -/
abbrev Tag := BitVec 4

/-- An exact integer narrowed to a word, modulo 2^32 (R11). -/
abbrev Word.ofInt (n : Int) : Word := BitVec.ofInt 32 n

/-- An exact natural narrowed to a word, modulo 2^32 (R11). -/
abbrev Word.ofNat (n : Nat) : Word := BitVec.ofNat 32 n

/-- 1 for true, 0 for false, as a word. -/
abbrev Word.ofBool (b : Bool) : Word := if b then 1 else 0

end Sys2Proof
end

