-- ==== Sys2Proof/Parts/Table.lean ====
section
/-! DEFINITION. Sparse tables keyed by hardware id: a list of key and value pairs in strictly rising key order. -/

namespace Sys2Proof

/-- A sparse table: pairs in strictly rising key order. -/
abbrev Table (α : Type) := List (Nat × α)

/-- The entry at `k`, if one is listed. -/
def Table.get? {α : Type} : Table α → Nat → Option α
  | [], _ => none
  | (j, v) :: t, k => if j = k then some v else Table.get? t k

/-- The entry at `k`, or `d` when none is listed. -/
def Table.getD {α : Type} (t : Table α) (k : Nat) (d : α) : α := (Table.get? t k).getD d

/-- Write entry `k`, keeping the keys rising. -/
def Table.put {α : Type} : Table α → Nat → α → Table α
  | [], k, v => [(k, v)]
  | (j, w) :: t, k, v =>
    if k < j then (k, v) :: (j, w) :: t
    else if j = k then (k, v) :: t
    else (j, w) :: Table.put t k v

/-- Remove entry `k`. -/
def Table.erase {α : Type} : Table α → Nat → Table α
  | [], _ => []
  | (j, w) :: t, k => if j = k then Table.erase t k else (j, w) :: Table.erase t k

/-- Change every entry. -/
def Table.mapAll {α : Type} (t : Table α) (f : Nat → α → α) : Table α :=
  t.map (fun p => (p.1, f p.1 p.2))

/-- The keys in use. -/
def Table.keys {α : Type} (t : Table α) : List Nat := t.map Prod.fst

/-- Keys strictly rising: the canonical form of a table. -/
def Table.sorted {α : Type} : Table α → Bool
  | [] => true
  | [_] => true
  | (j, _) :: (k, w) :: t => decide (j < k) && Table.sorted ((k, w) :: t)

end Sys2Proof
end

