-- ==== Sys2Proof/Parts/Token.lean ====
section
/-! DEFINITION. Tokens, tags, channel ends and channels (spec/03 R62, R64, R65; spec/05 R126, R128; spec/01 R19 to R21). -/

namespace Sys2Proof.Machine

/-- R62: a token carries 32 data bits and a 4-bit tag. -/
structure Token where
  data : Word
  tag  : Tag
  deriving DecidableEq, Repr

/-- R62 DATA. -/
abbrev Tag.data : Tag := 0x0
/-- R62 LAST. -/
abbrev Tag.last : Tag := 0x1
/-- R62 S1; S2 to S4 follow it. -/
abbrev Tag.s1 : Tag := 0x2
/-- R62 S4. -/
abbrev Tag.s4 : Tag := 0x5
/-- R62 ABORT. -/
abbrev Tag.abort : Tag := 0x6
/-- R62 MARK, injected by region controllers only. -/
abbrev Tag.mark : Tag := 0xE
/-- R62 DRAIN, injected by region controllers only. -/
abbrev Tag.drain : Tag := 0xF

/-- An entry of an output end: a token, or the place an issued rule reserved (R68 item 2, R75). -/
inductive Slot where
  | full (t : Token)
  | held (id : Nat)
  deriving DecidableEq, Repr

/-- R65, R128: an input end, a buffer of at most 4 tokens. -/
structure InEnd where
  /-- Named by a channel, a source or a press-result route (R103). -/
  wired : Bool := false
  /-- The input end of a back edge (R128 BACK). -/
  back : Bool := false
  /-- Tokens held, head first. -/
  buf : List Token := []
  /-- R87 item 4: back-edge tokens recorded after the freeze. -/
  saved : List Token := []
  deriving DecidableEq, Repr

/-- R65: an output end, a queue of at most 2 entries. -/
structure OutEnd where
  wired : Bool := false
  slots : List Slot := []
  /-- R210: a walk holds the end until its last result token has entered. -/
  walk : Bool := false
  /-- R87, R387: entries behind a saved barrier waiter's, which MARK has passed; they are saved with the end. -/
  keep : List Slot := []
  deriving DecidableEq, Repr

/-- A control end: how many payload-free tokens it holds (R60, R64), at most 2. -/
structure CtlEnd where
  wired : Bool := false
  held  : Nat := 0
  /-- Entries reserved by issued rules that have not completed (R68 item 2). -/
  reserved : Nat := 0
  deriving DecidableEq, Repr

/-- The ends of one node: element, copy engine, Press or unit (R126). -/
structure Ports where
  ins  : Vector InEnd 8 := Vector.replicate 8 {}
  outs : Vector OutEnd 8 := Vector.replicate 8 {}
  cins : Vector CtlEnd 4 := Vector.replicate 4 {}
  couts : Vector CtlEnd 4 := Vector.replicate 4 {}
  deriving DecidableEq, Repr

/-- A hardware end: the tile id of R8, the UNIT code and the PORT of R126. The side is told by where it is used. -/
structure EndPt where
  tile : Nat
  unit : Nat
  port : Nat
  deriving DecidableEq, Repr

/-- A token under way, with the rounds left before it may arrive (R21) and the generation it carries (R331). -/
structure Moving where
  tok  : Token
  left : Nat
  gen  : Byte
  deriving DecidableEq, Repr

/-- A channel or a control channel of the placed images (R19, R128). -/
structure Channel where
  /-- The package key of the placement that owns it: the region id of the span's first region. -/
  owner : Nat
  frm  : EndPt
  dst  : EndPt
  /-- A control channel carries payload-free tokens between control ends. -/
  ctl  : Bool := false
  back : Bool := false
  /-- R21: 1 + hops + 8 for each seam. -/
  delay : Nat := 1
  /-- R128: the lane it takes on each link direction of its route, in route order. -/
  lanes : List Nat := []
  moving : List Moving := []
  deriving DecidableEq, Repr

/-- A token of a whey lane: the word, its tag, and with the fourth token the LEVEL of R276. -/
structure WheyTok where
  data  : Word
  tag   : Tag
  level : BitVec 4 := 0
  kind  : BitVec 2 := 0
  deriving DecidableEq, Repr

/-- A whey lane from a producer to a node's input (R19, R276, R277). -/
structure WheyLink where
  owner : Nat
  /-- Producer: tile, UNIT code and whey port 8 or 9. -/
  frm   : EndPt
  /-- The adder node and the number of its input. -/
  node  : EndPt
  delay : Nat := 1
  moving : List (WheyTok × Nat) := []
  deriving DecidableEq, Repr

/-- R43: a set of conversion counters, saturating at `2 ^ w - 1`. -/
structure Stats (w : Nat) where
  sat   : BitVec w := 0
  nan   : BitVec w := 0
  inf   : BitVec w := 0
  flush : BitVec w := 0
  deriving DecidableEq, Repr

/-- Increments of one result: how many lanes counted SAT, NAN, INF, FLUSH (R42). -/
structure Inc where
  sat   : Nat := 0
  nan   : Nat := 0
  inf   : Nat := 0
  flush : Nat := 0
  deriving DecidableEq, Repr

end Sys2Proof.Machine
end

