-- ==== Sys2Proof/Config.lean ====
section
/-! DEFINITION. What an implementation fixes, and the free values: constants without a body, so that a statement holds
whatever they are (notes/assumptions 5 to 8). -/

namespace Sys2Proof

/-- Whether the `n`-th free choice is taken: timing that the spec does not fix (R21, R25, R194, R296, R397). -/
opaque Config.choice : Nat → Bool

/-- The `n`-th free number: an order the spec leaves open (R343, R386). -/
opaque Config.pick : Nat → Nat

/-- R411: the device's own endpoint id. -/
opaque Config.endpoint : BitVec 12

/-- R430: the SPI flash, by byte address. -/
opaque Config.flash : Nat → BitVec 8

/-- R430: the fused digest of the vendor key. -/
opaque Config.vendorDigest : BitVec 256

/-- R430: the fused minimum of the rollback counter. -/
opaque Config.minRollback : Nat

/-- R432: the device's public key. -/
opaque Config.devicePub : BitVec 512

/-- R431: the SM3 digest (GB/T 32905) of a byte string. -/
opaque Config.sm3 : List (BitVec 8) → BitVec 256

/-- R431: whether an SM2 signature (GB/T 32918) over a digest is valid under a key. -/
opaque Config.sm2Valid : BitVec 512 → BitVec 512 → BitVec 256 → Bool

/-- R436: the device's SM2 signature over a report. -/
opaque Config.sm2Sign : List (BitVec 8) → BitVec 512

/-- R428: the current, in amperes, that a region estimates in its `n`-th sample. -/
opaque Config.current : Nat → Nat → Nat

/-- What a loader's read of a byte of fabric space returns, by the number of the round's choices and its address (R290, R349). -/
opaque Config.fabricByte : Nat → Nat → BitVec 8

/-- R425: the bank that the record of an uncorrectable granule names, by granule and the records made before. -/
opaque Config.badBank : Nat → Nat → Nat

/-- R401, R412: the codewords that the FEC of a link corrects in a flit that comes in. -/
opaque Config.fecCorrected : Nat → Nat

/-- R407, R409: whether an endpoint lies behind a port. -/
opaque Config.reaches : Nat → BitVec 12 → Bool

/-- R403: what a link's peer is called, learned in training. -/
opaque Config.peer : Nat → BitVec 12

end Sys2Proof
end

