-- ==== Sys2Proof/Parts/Txn.lean ====
section
/-! DEFINITION. Transactions of the Relash Fabric (spec/20 R404 to R409). -/

namespace Sys2Proof

/-- R406: a transaction's header and data. -/
structure Txn where
  type : BitVec 4
  dst  : BitVec 12
  src  : BitVec 12
  /-- The reserved bits 3:0 of word 0. -/
  resv : BitVec 4 := 0
  eseq : BitVec 16
  len  : Byte
  opx  : Byte
  addr : Dword
  /-- LEN units of 16 bytes each. -/
  data : List Byte
  deriving DecidableEq, Repr

/-- R342: a task record, as the 16 words received. -/
abbrev Record := List Word

end Sys2Proof
end

