-- ==== Sys2Proof/Parts/Ev.lean ====
section
/-! DEFINITION. The steps that have no encoding, as the agenda and the inputs hold them. Each is the constructor of
Instr of the same name (Laws/Events.lean). -/

namespace Sys2Proof

/-- A step without an encoding. -/
inductive Ev where
  /-- R72. -/
  | ruleUrgent (el : Nat) (rule : Nat)
  /-- R75. -/
  | longLatencyCommit (el : Nat) (id : Nat)
  /-- R21. -/
  | tokenArrival (ch : Nat)
  /-- R89. -/
  | haltedDiscard (el : Nat)
  /-- R87. -/
  | elementMark (el : Nat)
  /-- R88. -/
  | elementDrainForward (el : Nat)
  /-- R187. -/
  | memoryAccessAtHome (acc : Nat)
  /-- R185. -/
  | memoryResponse (acc : Nat)
  /-- R184. -/
  | postedTranslate (acc : Nat)
  /-- R394. -/
  | pageWalk (walk : Nat)
  /-- R191. -/
  | fenceComplete (el : Nat) (id : Nat)
  /-- R203. -/
  | copyTrigger (tile : Nat)
  /-- R205. -/
  | copyIssueDeferred (el : Nat) (id : Nat)
  /-- R200. -/
  | copyTransfer (tile : Nat) (flight : Nat)
  /-- R200. -/
  | copyComplete (tile : Nat) (flight : Nat)
  /-- R203. -/
  | copyEngineDrain (tile : Nat)
  /-- R208. -/
  | bararrSend (el : Nat) (id : Nat)
  /-- R385. -/
  | barrierHomeOp (op : Nat)
  /-- R207. -/
  | barrierVerdict (op : Nat)
  /-- R306. -/
  | walkAccept (el : Nat) (id : Nat)
  /-- R312. -/
  | walkReadReturn (etile : Nat) (slot : Nat)
  /-- R314. -/
  | walkResultDelivery (etile : Nat) (slot : Nat)
  /-- R228. -/
  | pressCommandPerform (tile : Nat)
  /-- R249. -/
  | pressResultDelivery (tile : Nat)
  /-- R252. -/
  | pressMark (tile : Nat)
  /-- R252. -/
  | pressDrain (tile : Nat)
  /-- R261. -/
  | scannerStep (unit : Nat)
  /-- R263. -/
  | intersecterStep (unit : Nat)
  /-- R264. -/
  | repeaterStep (unit : Nat)
  /-- R265. -/
  | reducerStep (unit : Nat)
  /-- R265. -/
  | reducerFlush (unit : Nat)
  /-- R267. -/
  | nmDecoderStep (unit : Nat)
  /-- R269. -/
  | apertureStep (unit : Nat)
  /-- R272. -/
  | splitterStep (unit : Nat)
  /-- R272. -/
  | splitterSlotRetry (unit : Nat)
  /-- R273. -/
  | splitterSpillWrite (unit : Nat)
  /-- R273. -/
  | splitterSpillRead (unit : Nat)
  /-- R275. -/
  | collimatorStep (unit : Nat)
  /-- R258. -/
  | unitMark (unit : Nat)
  /-- R258. -/
  | unitDrain (unit : Nat)
  /-- R282. -/
  | xctlApply (unit : Nat)
  /-- R282. -/
  | unitRegisterRead (el : Nat) (id : Nat)
  /-- R326. -/
  | clockRead (el : Nat) (id : Nat)
  /-- R58. -/
  | wheyAdderStep (unit : Nat)
  /-- R278. -/
  | wheyRootWrite (unit : Nat)
  /-- R279. -/
  | brineWheyEmit (unit : Nat)
  /-- R328. -/
  | imageLoad (task : Nat)
  /-- R329. -/
  | sourceInject (region : Nat) (src : Nat)
  /-- R330. -/
  | sinkTake (region : Nat) (sink : Nat)
  /-- R332. -/
  | faultRecordPost (ctx : Nat)
  /-- R365. -/
  | eventRecordWrite (ctx : Nat)
  /-- R337. -/
  | signalHandle (sig : Nat)
  /-- R321. -/
  | regionDrainComplete (region : Nat)
  /-- R333. -/
  | configSignatureCheck (region : Nat)
  /-- R333. -/
  | configStoreError (region : Nat)
  /-- R333. -/
  | configReloadDone (region : Nat)
  /-- R332. -/
  | regionResume (region : Nat) (endid : Word)
  /-- R339. -/
  | regionFence (region : Nat) (code : Byte)
  /-- R336. -/
  | sigcommit (region : Nat) (v : Word)
  /-- R322. -/
  | unhpop (region : Nat)
  /-- R322. -/
  | udataWrite (region : Nat) (v : Word)
  /-- R343. -/
  | dispatchAdmit
  /-- R345. -/
  | queueAged (queue : Nat)
  /-- R346. -/
  | taskBind
  /-- R346. -/
  | bindReservation
  /-- R350. -/
  | quantumExpiry (task : Nat)
  /-- R351. -/
  | markInject (task : Nat)
  /-- R352. -/
  | taskSaveComplete (task : Nat)
  /-- R354. -/
  | taskDrainDetect (task : Nat)
  /-- R354. -/
  | taskRetire (task : Nat)
  /-- R357. -/
  | abort (ctx : Nat) (taskid : BitVec 16)
  /-- R356. -/
  | preempt (ctx : Nat) (taskid : BitVec 16)
  /-- R362. -/
  | create (ctx : Nat)
  /-- R371. -/
  | restore (ctx : Nat)
  /-- R361. -/
  | contextRestoreDone (ctx : Nat)
  /-- R370. -/
  | quiesce (ctx : Nat)
  /-- R370. -/
  | quiesceComplete (ctx : Nat)
  /-- R371. -/
  | resume (ctx : Nat)
  /-- R372. -/
  | destroy (ctx : Nat)
  /-- R372. -/
  | destroyComplete (ctx : Nat)
  /-- R367. -/
  | resolveReplay (ctx : Nat) (handle : Nat)
  /-- R367. -/
  | resolveDiscard (ctx : Nat) (handle : Nat)
  /-- R369. -/
  | harvest (ctx : Nat)
  /-- R369. -/
  | harvestComplete (ctx : Nat)
  /-- R362. -/
  | quotaWrite (ctx : Nat) (v : Word)
  /-- R377. -/
  | enq (t : Txn)
  /-- R377. -/
  | enqSpillDone (queue : Nat)
  /-- R380. -/
  | queueRefillDone (queue : Nat)
  /-- R376. -/
  | queueEnable (queue : Nat)
  /-- R376. -/
  | queueDisable (queue : Nat)
  /-- R374. -/
  | pause (queue : Nat)
  /-- R374. -/
  | unpause (queue : Nat)
  /-- R374. -/
  | close (queue : Nat)
  /-- R374. -/
  | clear (queue : Nat)
  /-- R398. -/
  | tinvPage (cmd : Dword)
  /-- R398. -/
  | tinvContext (cmd : Dword)
  /-- R399. -/
  | tinvComplete
  /-- R403. -/
  | deviceReset
  /-- R429. -/
  | pllLockLoss
  /-- R431. -/
  | boot
  /-- R403. -/
  | linkTrainingDone (link : Nat) (lanes : BitVec 4)
  /-- R405. -/
  | flitReceive (link : Nat) (flit : List Byte)
  /-- R405. -/
  | replayRequest (link : Nat) (seq : BitVec 12)
  /-- R403. -/
  | replayExhausted (link : Nat)
  /-- R412. -/
  | linkEnable (link : Nat)
  /-- R412. -/
  | linkDisable (link : Nat)
  /-- R412. -/
  | linkRetrain (link : Nat)
  /-- R412. -/
  | linkFence (link : Nat)
  /-- R406. -/
  | read (t : Txn)
  /-- R406. -/
  | write (t : Txn)
  /-- R406. -/
  | signal (t : Txn)
  /-- R406. -/
  | atomic (t : Txn)
  /-- R406. -/
  | xchg64 (t : Txn)
  /-- R406. -/
  | cas64 (t : Txn)
  /-- R406. -/
  | reduce (t : Txn)
  /-- R290. -/
  | response (t : Txn)
  /-- R409. -/
  | nack (t : Txn)
  /-- R410. -/
  | mgmt (t : Txn)
  /-- R407. -/
  | transactionResend (ep : Nat) (eseq : BitVec 16)
  /-- R410. -/
  | registerWrite (off : Nat) (v : Dword) (wide : Bool)
  /-- R433. -/
  | aclWrite (off : Nat) (v : Dword) (wide : Bool)
  /-- R432. -/
  | measmaskWrite (v : Dword) (wide : Bool)
  /-- R436. -/
  | report (cmd : Dword)
  /-- R436. -/
  | reportDone
  /-- R420. -/
  | scrubPass (group : Nat) (bank : Option Nat)
  /-- R428. -/
  | powerGovernorSample
  /-- R424. -/
  | dflRecordWrite
  /-- R201. -/
  | copyEngineMark (tile : Nat)
  deriving DecidableEq, Repr

end Sys2Proof
end

