-- ==== Sys2Proof/Parts/Elem.lean ====
section
/-! DEFINITION. The state of a rule element (spec/03 R60 to R89) and of what its port lane still owes (R75, R186). -/

namespace Sys2Proof.Machine

/-- R61: a loop counter. -/
structure Counter where
  bound  : Word := 1
  value  : Word := 0
  wlevel : BitVec 4 := 0
  chain  : BitVec 4 := 0
  deriving DecidableEq, Repr

/-- R64, R127: a control output's binding. -/
structure Bind where
  en   : Bool := false
  flag : Bool := false
  rule : BitVec 4 := 0
  deriving DecidableEq, Repr

/-- R84, R129: a declared feedback cycle headed by the element. -/
structure Cycle where
  limit  : BitVec 8
  entry  : BitVec 3
  exit   : BitVec 3
  backIn : BitVec 3
  occ    : BitVec 8 := 0
  deriving DecidableEq, Repr

/-- R86: the life cycle of an element; `off` is the unconfigured element of R127. -/
inductive Life where
  | off | running | frozen | halted | marked | drained
  deriving DecidableEq, Repr

/-- R82: the element fault register, field by field. -/
structure FaultReg where
  code   : Byte := 0
  rule   : BitVec 4 := 0
  w      : BitVec 3 := 0
  vav    : Bool := false
  user   : BitVec 16 := 0
  opa    : Word := 0
  opb    : Word := 0
  offset : Word := 0
  va     : Dword := 0
  stamp  : Dword := 0
  deriving DecidableEq, Repr

/-- A register, predicate, counter or SG location that an issued rule still has to write (R68 item 3, R75). -/
inductive Loc where
  | d (k : Nat)
  | p (k : Nat)
  | l (k : Nat)
  | sg
  deriving DecidableEq, Repr

/-- One write of a rule's effect (R135): a register, a predicate, the predicates together, a counter, SG, or tokens
entering an output end. -/
inductive Put where
  | d (k : BitVec 3) (v : Word)
  | p (k : BitVec 3) (v : Bool)
  | pAll (v : BitVec 8)
  | l (k : BitVec 1) (c : Counter)
  | sg (v : BitVec 64)
  | out (k : BitVec 3) (ts : List Token)
  | co (k : BitVec 2)
  deriving DecidableEq, Repr

/-- R181: the fields of a memory-form operation that outlive its issue. -/
structure MemTag where
  opc   : Byte
  win   : BitVec 3
  scope : BitVec 2
  a     : Word
  /-- R185: the tag its token carries. -/
  tag   : Tag
  deriving DecidableEq, Repr

/-- What a port operation still has to do before it delivers (R186). -/
inductive Job where
  /-- Fixed latency: the result is known and waits for its round (R75, R228). -/
  | timed
  /-- Loads, stores, atomics, reductions, LDG, STG: their accesses are listed in the memory system (R182 to R190). -/
  | mem (m : MemTag)
  /-- FENCE at a scope (R191): the accesses it still waits for, and whether one was discarded. -/
  | fence (scope : BitVec 2) (waits : List Nat) (dropped : Bool)
  /-- COPY that passed its checks and waits for a free flight (R205). -/
  | copyIssue (tmpl : Nat) (a b : Word)
  /-- COPY issued: waits for completion (R200). -/
  | copy (flight : Nat)
  /-- CSTAT or a TAG instruction behind an operation that waits (R204): opcode, mask, template. -/
  | tag (opc : Byte) (mask : BitVec 64) (k : BitVec 6)
  /-- BARARR before its arrival is sent (R208): its operation and the accesses it waits for. -/
  | barWait (op : Nat) (waits : List Nat)
  /-- A barrier operation at its home, its verdict outstanding (R207). -/
  | bar (op : Nat)
  /-- An accepted BARARR whose release token is outstanding (R386). -/
  | barPark
  /-- WALK waiting for a slot (R209). -/
  | walkIssue (key root : Word) (win : BitVec 3)
  /-- WALK whose result is outstanding (R210). -/
  | walk
  /-- SIGSEND until accepted (R211). -/
  | signal (region : Nat) (h : BitVec 4) (payload : Word)
  /-- EVENT until its record is written (R211). -/
  | event (a b : Word)
  /-- XCTL until its write takes effect (R282). -/
  | xctl (unit : Nat) (reg : BitVec 4) (v : Word) (arrived : Bool)
  /-- XSTAT until the register is read (R282). -/
  | xstat (unit : Nat) (reg : BitVec 4)
  /-- CLOCK until the counter is read (R326). -/
  | clock
  /-- SUMRD and PSTAT until the Press has performed them (R228). -/
  | press
  /-- PSYNC until it has performed and the PREAD tokens before it have entered the result channel (R251). -/
  | psync (performed : Bool) (toks : Nat)
  deriving DecidableEq, Repr

/-- An issued rule whose effect is not complete (R75, R186). -/
structure Pend where
  id    : Nat
  rule  : BitVec 4
  /-- Locations it still has to write. -/
  locs  : List Loc := []
  /-- Output ends with an entry reserved under `id`. -/
  ends  : List (BitVec 3) := []
  /-- Its destination field D, for what a response delivers (R185). -/
  dst   : BitVec 5 := 24
  /-- The writes, once known. -/
  puts  : List Put := []
  inc   : Inc := {}
  /-- Rounds until the commit of a timed result. -/
  left  : Nat := 0
  /-- Holds one of the 8 port-queue entries (R186). -/
  port  : Bool := false
  job   : Job := .timed
  deriving DecidableEq, Repr

/-- R60: a rule element. -/
structure Elem where
  guards  : Vector Word 16 := Vector.replicate 16 0
  actions : Vector Word 16 := Vector.replicate 16 0
  c : Vector Word 8 := Vector.replicate 8 0
  d : Vector Word 8 := Vector.replicate 8 0
  p : BitVec 8 := 0
  l : Vector Counter 2 := Vector.replicate 2 {}
  sg : BitVec 64 := 0
  ports : Ports := {}
  binds : Vector Bind 4 := Vector.replicate 4 {}
  dis : BitVec 16 := 0
  wait : Vector (BitVec 4) 16 := Vector.replicate 16 0
  rot : BitVec 4 := 0
  /-- R88: rules whose guard has failed since they last fired, before DRAIN headed the forward ends (notes/assumptions/78). -/
  latent : BitVec 16 := 0
  disc : BitVec 16 := 0
  /-- R43, R57: the counters through the last round. -/
  stats : Stats 16 := {}
  /-- R57: increments of this round, which an emission of this round leaves. -/
  now : Inc := {}
  /-- R43, R75: increments of results that become visible in the next round. -/
  due : Inc := {}
  fault : FaultReg := {}
  cycles : List Cycle := []
  life : Life := .off
  /-- R148: HALT has fired in this task. -/
  halted : Bool := false
  /-- Long-latency and port operations in issue order. -/
  pend : List Pend := []
  /-- R56, R276, R281: the whey output, tokens not yet on the lane. -/
  whey : List WheyTok := []
  /-- The element feeds a whey node (R277). -/
  wheyOn : Bool := false
  /-- R182: the windows are the task's; R209: the Loupe (E-tile id) that has the element as a client. -/
  loupe : Option Nat := none
  /-- R87 item 3: MARK or R88: DRAIN still to be enqueued on these output ends and bound control ends. -/
  owed : List Nat := []
  /-- R86: a FROZEN element has taken part in MARK. -/
  markSent : Bool := false
  /-- R191: an operation of the element has been discarded. -/
  dropped : Bool := false
  /-- The number the next issued operation takes. -/
  nextId : Nat := 0
  /-- The region controller has still to post the freeze (R332). -/
  unposted : Bool := false
  deriving DecidableEq, Repr

end Sys2Proof.Machine
end

