-- ==== Sys2Proof/Parts/Mem.lean ====
section
/-! DEFINITION. Accesses under way, translation caches, walks, barrier waiters (spec/08 R181 to R194; spec/12; spec/18;
spec/19). -/

namespace Sys2Proof.Machine

/-- Who issued an access (R287). -/
inductive Port where
  | elem (el : Nat) (pend : Nat)
  | copy (tile : Nat) (flight : Nat)
  | walk (etile : Nat) (slot : Nat)
  | unit (unit : Nat)
  /-- A posted operation of a unit, by its number: a Splitter's spilled vector (R273), a whey root's record (R278). -/
  | root (unit op : Nat)
  /-- R297: an access whose component has been freed and that has still to perform: the element or 16 × the tile, and its own
  number. -/
  | gone (el id : Nat)
  deriving DecidableEq, Repr

/-- What a home does with an access (R187): bytes read, bytes written, or a read-modify-write of one word. -/
inductive Act where
  | read
  | write (v : Word)
  /-- Returning atomic, by its opcode 0xAB to 0xB9; `cmp` is d(K) of ACAS. -/
  | atomic (opc : Byte) (v cmp : Word)
  /-- Reduction, by its opcode 0xBA to 0xC3. -/
  | reduce (opc : Byte) (v : Word)
  /-- R197: one destination element of a reducing copy, by its REDOP. -/
  | combine (op : BitVec 4) (v : Dword)
  /-- R197: the same in fabric space, where a REDUCE does not fit it: the 4 or 8 bytes read there are to be swapped. -/
  | swap (op : BitVec 4) (v old : Dword)
  deriving DecidableEq, Repr

/-- Where an access stands. -/
inductive AccSt where
  /-- Posted, not yet translated (R184). -/
  | point
  /-- Parked with its code under a handle (R184, R366). -/
  | parked (code : Byte) (handle : Nat)
  /-- Translated: the physical address. -/
  | ready (pa : Nat)
  /-- Sent to a fabric endpoint, its RESPONSE outstanding (R290). -/
  | fabric (ep eseq : Nat)
  /-- Performed, with the value read or the old word. -/
  | done (v : Word)
  /-- Discarded (R184). -/
  | dropped
  /-- A fault met after issue: a translation fault of a walk, unit or root access (R315, R257, R278), or an uncorrectable
  group (R421). -/
  | failed (code : Byte)
  deriving DecidableEq, Repr

/-- An access in the memory system. -/
structure Access where
  id    : Nat
  src   : Port
  ctx   : Nat
  task  : Nat
  region : Nat
  /-- Opcode of the instruction, for fault records (R366 DETAIL). -/
  opc   : Byte
  va    : Nat
  /-- Its byte offset in its window (R182), for fault registers. -/
  off   : Nat := 0
  size  : Nat
  lane  : Nat := 0
  act   : Act
  posted : Bool := false
  st    : AccSt := .point
  /-- R21: rounds until its flit reaches where it is going. -/
  left  : Nat := 0
  /-- R78, R300: rounds since its issue. -/
  age   : Nat := 0
  /-- R184, R397: parked on a 256 MiB page. -/
  big   : Bool := false
  deriving DecidableEq, Repr

/-- R396: the kinds of access a leaf is checked against. -/
inductive Kind where
  | read | write | atomic | barrier
  deriving DecidableEq, Repr

/-- R393, R397: the leaf fields a cache entry keeps. -/
structure Leaf where
  /-- Frame base address. -/
  frame : Nat
  w : Bool
  mig : Bool
  obj : Bool
  poison : Bool
  /-- R395: A and D. -/
  acc : Bool
  dirty : Bool
  deriving DecidableEq, Repr

/-- R397, R183: an entry of a translation cache: a page of a context, its leaf, and a fault outcome if a walk ended so. -/
structure TlbEntry where
  ctx  : Nat
  /-- First VA of the page. -/
  base : Nat
  /-- 256 MiB page. -/
  big  : Bool
  leaf : Option Leaf
  /-- The fault outcomes kept, each with the kind of access it applies to. -/
  bad  : List (Kind × Byte) := []
  deriving DecidableEq, Repr

/-- R397: a translation cache, most recently used entry first. `place` is a C-tile or an E-tile. -/
abbrev Tlb := List TlbEntry

/-- R394, R397: a walk in flight or queued at an E-tile's walker. -/
structure PWalk where
  id    : Nat
  etile : Nat
  ctx   : Nat
  va    : Nat
  /-- The kinds of access that wait for it (R183, R397). -/
  kinds : List Kind
  /-- The caches the outcome goes to. -/
  places : List Nat
  /-- R21: rounds until the request has reached the walker, its reads have been answered and the outcome is back. -/
  left  : Nat := 0
  deriving DecidableEq, Repr

/-- R207: a barrier operation on its way to its home or back. -/
structure BarOp where
  id     : Nat
  el     : Nat
  pend   : Nat
  task   : Nat
  opc    : Byte
  pa     : Nat
  va     : Nat
  count  : Word
  /-- What the verdict needs: the rule's operands and input ends, its window and byte offset (R79, R82, R207). -/
  opa    : Word := 0
  ends   : List Nat := []
  win    : BitVec 3 := 0
  off    : Nat := 0
  scope  : BitVec 2 := 0
  /-- The end o(k) that D names, when D is a channel. -/
  dchan  : Option Nat
  /-- The verdict: none until the home decides, then the fault code (0 for accept) and the state word of BARQ. -/
  verdict : Option (Byte × Word) := none
  /-- R389: the task was aborted after the arrival had been sent. -/
  orphan : Bool := false
  /-- R21: rounds until its flit reaches the home, and then the element. -/
  left   : Nat := 0
  deriving DecidableEq, Repr

/-- R386: a waiter parked on chip at a barrier object, or saved (R387). -/
structure Waiter where
  pa    : Nat
  va    : Nat
  el    : Nat
  pend  : Nat
  task  : Nat
  phase : Word
  deriving DecidableEq, Repr

/-- R386: a release token on its way to its waiter's end. -/
structure Release where
  el   : Nat
  pend : Nat
  tok  : Token
  /-- R21: rounds until it reaches the element's tile. -/
  left : Nat := 0
  deriving DecidableEq, Repr

end Sys2Proof.Machine
end

