-- ==== Sys2Proof/Parts/Copy.lean ====
section
/-! DEFINITION. The copy engine of a C-tile (spec/08 R195 to R206). -/

namespace Sys2Proof.Machine

/-- R195: one dimension of a shape record; strides are signed 40-bit values. -/
structure Dim where
  ext : BitVec 24
  sst : BitVec 40
  dst : BitVec 40
  deriving DecidableEq, Repr

/-- R195: a shape record, its used dimensions in order. -/
structure Shape where
  dims  : List Dim
  /-- PERM fields 0 to NDIM − 1. -/
  perm  : List Nat
  ssize : BitVec 2
  dsize : BitVec 2
  swin  : BitVec 3
  dwin  : BitVec 3
  tag   : BitVec 6
  scope : BitVec 2
  redop : BitVec 4
  conv  : BitVec 4
  dkind : BitVec 3
  stop  : BitVec 3
  ltag  : Bool
  dport : BitVec 3
  soff  : Word
  doff  : Word
  pss   : BitVec 40
  pds   : BitVec 40
  deriving DecidableEq, Repr

/-- R201: why a copy is paused. -/
structure Pause where
  code   : Byte
  va     : Nat
  handle : Nat
  /-- Its fault record has still to be written (R365). -/
  posted : Bool := false
  deriving DecidableEq, Repr

/-- R200, R201: a copy in flight. -/
structure Flight where
  id    : Nat
  tmpl  : Nat
  a     : Word
  b     : Word
  /-- The element and operation that issued it; none for a trigger token. -/
  el    : Option (Nat × Nat)
  /-- R200: writes issued. -/
  mark  : Nat := 0
  /-- R199: a linear overlapping copy with its destination above its source runs downwards. -/
  down  : Bool := false
  paused : Option Pause := none
  /-- Elements of an 8-byte channel element, a LAST and a stop still to be enqueued (R198). -/
  rest  : List Token := []
  /-- R219, R220: Hoop slots its index range reaches. -/
  slots : List Nat := []
  /-- R231: Press commands accepted before its issue that have not performed. -/
  ahead : Nat := 0
  deriving DecidableEq, Repr

/-- R203: the trigger freeze. -/
structure TrigFreeze where
  code  : Byte
  tmpl  : Nat
  port  : Nat
  data  : Word
  stamp : Dword
  deriving DecidableEq, Repr

/-- R195 to R206: a copy engine. -/
structure CopyEng where
  on    : Bool := false
  tmpls : Table Shape := []
  arms  : Vector (Option (BitVec 6)) 8 := Vector.replicate 8 none
  /-- R205: CARM and CDIS of this round, in order, effective at its end. -/
  rearm : List (BitVec 3 × Option (BitVec 6)) := []
  ports : Ports := {}
  flights : List Flight := []
  /-- R202: OUT(T). -/
  out   : Vector Nat 64 := Vector.replicate 64 0
  bitmap : BitVec 64 := 0
  /-- R202: what happened to each tag in this round. -/
  issued : BitVec 64 := 0
  zeroed : BitVec 64 := 0
  cleared : BitVec 64 := 0
  freeze : Option TrigFreeze := none
  unposted : Bool := false
  /-- R20: the trigger port last served. -/
  rr    : Nat := 7
  life  : Life := .off
  nextId : Nat := 0
  owed  : List Nat := []
  deriving DecidableEq, Repr

end Sys2Proof.Machine
end

