-- ==== Sys2Proof/Parts/Press.lean ====
section
/-! DEFINITION. The Press and the Hoop of a C-tile (spec/09 R215 to R226; spec/10 R228 to R252). -/

namespace Sys2Proof.Machine

/-- An exact dyadic value `m × 2 ^ e`. -/
structure Dy where
  m : Int
  e : Int
  deriving DecidableEq, Repr

/-- R216: a Hoop slot's header, with the count CIF of R230. -/
structure HoopSlot where
  kind   : BitVec 2 := 3
  sealed : Bool := false
  first  : BitVec 2 := 0
  nbm1   : BitVec 2 := 0
  korg   : BitVec 16 := 0
  cif    : Nat := 0
  deriving DecidableEq, Repr

/-- R215: the Hoop: entries keyed (slot × 512 + column) × 64 + entry, scales keyed slot × 512 + column. An unlisted
entry is 0 and an unlisted scale is 0x3F80 (R217). -/
structure Hoop where
  entries : Table (BitVec 24) := []
  scales  : Table (BitVec 16) := []
  slots   : Vector HoopSlot 4 := Vector.replicate 4 {}
  deriving DecidableEq, Repr

/-- R247: an operand vector: exact lanes, its format and current block scale. -/
structure PVec where
  lanes : Table Dy := []
  fmt   : BitVec 3 := 0
  scale : Byte := 0
  deriving DecidableEq, Repr

/-- A Press command with its operands as read (R228). -/
inductive PCmd where
  | sumnew (a : Word) (kind : BitVec 3)
  | sumapp (a b : Word)
  | sumbsc (a b : Word) (band : BitVec 3)
  | sumpatch (a b : Word)
  | sumrd (b : Word)
  | sumseal
  | ptbl (a : Word)
  | pmask (a b : Word)
  | ppoint (a : Word) (row : BitVec 4)
  | pclr (row : BitVec 4) (all : Bool)
  | pseg (a : Word) (row : BitVec 4)
  | pdense (a b : Word) (row : BitVec 4)
  | pvld (second : Bool) (a b : Word) (fmt : BitVec 3)
  | pouter (a b : Word) (g : BitVec 4)
  | pread (a b : Word) (row : BitVec 4) (fmt : BitVec 2)
  | pstat (a : Word)
  | psync (a : Word)
  deriving DecidableEq, Repr

/-- An accepted command: who issued it and how many rounds remain before it has performed. -/
structure PEntry where
  cmd  : PCmd
  el   : Nat
  pend : Nat
  left : Nat
  deriving DecidableEq, Repr

/-- A token of the result buffer, with the rounds left before it may leave (R249). -/
structure PTok where
  tok  : Token
  left : Nat
  deriving DecidableEq, Repr

/-- R222 to R226: a Press. -/
structure Press where
  on    : Bool := false
  hoop  : Hoop := {}
  /-- R222: accumulator words keyed row × 512 + column; unlisted words are 0. -/
  acc   : Table (BitVec 80) := []
  point : Vector (BitVec 7) 16 := Vector.replicate 16 0
  hr    : BitVec 16 := 0
  tsel  : BitVec 2 := 0
  mask  : BitVec 512 := BitVec.allOnes 512
  va    : PVec := {}
  vb    : PVec := {}
  nf    : Bool := false
  conv  : Stats 32 := {}
  /-- R226: the segment set, words 1 to 4. -/
  seg   : Vector Word 4 := Vector.replicate 4 0
  queue : List PEntry := []
  /-- R249: the result buffer. -/
  result : List PTok := []
  /-- R225: the result port is `ports.outs[0]`. -/
  ports : Ports := {}
  wseg  : BitVec 4 := 3
  wconv : BitVec 4 := 3
  wheyConv : List WheyTok := []
  wheySeg  : List WheyTok := []
  wheyConvOn : Bool := false
  wheySegOn  : Bool := false
  /-- R223: the element whose command was last accepted. -/
  rr    : Nat := 15
  /-- R223: the element granted in this round. -/
  grant : Option Nat := none
  /-- R246: rounds in which no grant is given. -/
  held  : Nat := 0
  /-- R428: the governor withholds acceptance in this round. -/
  throttled : Bool := false
  life  : Life := .off
  deriving DecidableEq, Repr

end Sys2Proof.Machine
end

