-- ==== Sys2Proof/Parts/Loupe.lean ====
section
/-! DEFINITION. The Loupe of an E-tile (spec/13 R305 to R319). -/

namespace Sys2Proof.Machine

/-- R319: the states of a walk slot. -/
inductive WalkSt where
  | free | running | reading | parked | returning | saved
  deriving DecidableEq, Repr

/-- R312: the read a walk has outstanding, and what its return does. -/
inductive WRead where
  | wrd (wr : BitVec 2)
  | wptr
  | wnext
  | wret (n : Nat)
  deriving DecidableEq, Repr

/-- R305: the state of one walk. -/
structure WSlot where
  ptr  : Word := 0
  v    : Vector Word 4 := Vector.replicate 4 0
  key  : Word := 0
  step : BitVec 16 := 0
  p    : BitVec 8 := 0
  win  : BitVec 3 := 0
  /-- RET: submitting element, its operation and its output end. -/
  el   : Nat := 0
  pend : Nat := 0
  out  : BitVec 3 := 0
  st   : WalkSt := .free
  task : Nat := 0
  ctx  : Nat := 0
  /-- The read outstanding, its offset, and the predicate its D names. -/
  read : Option (WRead × Nat × BitVec 5) := none
  /-- PARKED: code, VA, handle. -/
  park : Option (Byte × Nat × Nat) := none
  unposted : Bool := false
  /-- RETURNING: result tokens still to enter the end. -/
  ret  : List Token := []
  /-- R21: rounds until the result reaches the element's tile. -/
  left : Nat := 0
  deriving DecidableEq, Repr

/-- R307, R310: a Loupe: its program and its 32 slots. -/
structure Loupe where
  on      : Bool := false
  /-- POLICY: false PARK, true FAIL. -/
  fail    : Bool := false
  limit   : BitVec 16 := 0
  guards  : Vector Word 16 := Vector.replicate 16 0
  actions : Vector Word 16 := Vector.replicate 16 0
  c       : Vector Word 8 := Vector.replicate 8 0
  clients : List Nat := []
  slots   : Vector WSlot 32 := Vector.replicate 32 {}
  /-- R310: the slot last served. -/
  rr      : Nat := 31
  /-- R317: MARK has been injected. -/
  marked  : Bool := false
  deriving DecidableEq, Repr

end Sys2Proof.Machine
end

