-- ==== Sys2Proof/Parts/Unit.lean ====
section
/-! DEFINITION. Stream units, whey nodes and Brine codecs (spec/11 R253 to R283; spec/02 R55 to R59). -/

namespace Sys2Proof.Machine

/-- The kinds of configured units (R126). -/
inductive UKind where
  | scan | isect | rep | red | aper | split | coll | nm | whey | brine
  deriving DecidableEq, Repr

/-- A scanner's fibre in progress (R261, R262): its reference, entry and bounds, and the words of the line read. -/
structure Fibre where
  ref   : Word
  at_   : Nat := 0
  lo    : Nat := 0
  hi    : Nat := 0
  /-- Compressed: how many of the two positions are known. Lined: 1 when the line's control words are known. -/
  known : Nat := 0
  line  : Nat := 0
  base  : Word := 0
  stop  : Nat := 0
  last  : Bool := false
  /-- Words read for the entry being formed. -/
  got   : List Word := []
  /-- A read is outstanding. -/
  busy  : Bool := false
  deriving DecidableEq, Repr

/-- The working state of a unit. -/
inductive UState where
  | scan (pending : Bool) (fibre : Option Fibre)
  | isect
  /-- R264: filled entries, closing stop, count once taken, copy and entry reached. -/
  | rep (buf : List (Word × Word)) (close : Option (Word × Word × Tag)) (count : Option Word) (copy entry : Nat)
  /-- R265: touched entries with their sums; a flush in progress with the level of the stop to emit. -/
  | red (acc : Table Word) (flush : Option Nat)
  /-- R267: group; for each position of it still to emit, whether it takes a value; whether METAHOLD is the token. -/
  | nm (group : Nat) (left : List Bool) (held : Bool)
  /-- R269: pixels held, pixels taken, index of the next window word, closing stop. -/
  | aper (pix : List Word) (taken win word : Nat) (close : Option Tag)
  /-- R272, R273: vector in progress (target, tokens so far), slot granted, request outstanding, retry timer, rings
  (head, tail, held) of the targets, spill in progress (target, tokens), read in progress (target, words left, read so far),
  the target last tried. -/
  | split (cur : Option (Nat × Nat)) (granted : Bool) (ask : Option Nat) (retry : Nat)
      (rings : List (Nat × Nat × Nat)) (wr : Option (Nat × List Word)) (rd : Option (Nat × Nat × List Word)) (rr : Nat)
  /-- R275: buffered vectors (SEQ, complete, tokens), inputs in progress (port, SEQ, buffered, tokens), the input last
  served. -/
  | coll (buf : List (BitVec 16 × Bool × List Token)) (cur : List (Nat × BitVec 16 × Bool × Nat)) (rr : Nat)
  /-- R58, R276: tokens held from each input; SEQ of a root; the group a root has still to write. -/
  | whey (ins : List (List WheyTok)) (seq : BitVec 16) (group : Option (List Word × BitVec 4))
  /-- R43, R279: the Brine codec's counter set; the level of a group to emit. -/
  | brine (stats : Stats 32) (emit : Option (BitVec 4)) (final : Bool)
  deriving DecidableEq, Repr

/-- R257: a unit's fault. -/
structure UFault where
  code   : Byte := 0
  detail : BitVec 16 := 0
  vav    : Bool := false
  va     : Nat := 0
  offset : Word := 0
  stamp  : Dword := 0
  deriving DecidableEq, Repr

/-- A configured unit (R255, R283). -/
structure SUnit where
  kind    : UKind
  slot    : Nat
  payload : List Word
  /-- R282, R333: the configuration words that XCTL has written, which a reload keeps. -/
  wrote   : BitVec 8 := 0
  st      : UState
  ports   : Ports := {}
  life    : Life := .running
  fault   : UFault := {}
  unposted : Bool := false
  taken   : Word := 0
  emitted : Word := 0
  elems   : Word := 0
  /-- Register 13: METAHOLD or NEXT. -/
  hold    : Word := 0
  /-- R282: writes deferred to the next element boundary: register, value, element and operation to answer. -/
  xctl    : List (BitVec 4 × Word × Option (Nat × Nat)) := []
  whey    : List WheyTok := []
  wheyOn  : Bool := false
  owed    : List Nat := []
  /-- R86: a FROZEN unit has taken part in MARK. -/
  markSent : Bool := false
  deriving DecidableEq, Repr

end Sys2Proof.Machine
end

