-- ==== Sys2Proof/Parts/Region.lean ====
section
/-! DEFINITION. Region controllers (spec/14). -/

namespace Sys2Proof.Machine

/-- R320: region states. -/
inductive RegSt where
  | free | loading | active | draining | frozen | saving | restoring | reloading | fenced
  deriving DecidableEq, Repr

/-- R327: an image-cache entry with its copy of the image words. -/
structure CacheEntry where
  v     : Bool := false
  pin   : Bool := false
  ctx   : BitVec 6 := 0
  addr  : BitVec 52 := 0
  image : Dword := 0
  words : List Word := []
  /-- R418: an uncorrectable error was found in the copy. -/
  bad   : Bool := false
  deriving DecidableEq, Repr

/-- R103, R329: a source end with the argument words still to inject. -/
structure Source where
  dst   : EndPt
  words : List Word
  /-- DRAIN has been injected. -/
  drained : Bool := false
  /-- MARK has been injected. -/
  marked  : Bool := false
  deriving DecidableEq, Repr

/-- R330: a sink end. -/
structure Sink where
  frm : EndPt
  drained : Bool := false
  marked  : Bool := false
  deriving DecidableEq, Repr

/-- R338: an unhandled signal. -/
structure Unhandled where
  payload : Word
  reason  : BitVec 4
  entry   : BitVec 4
  version : BitVec 16
  fab     : Bool
  sender  : BitVec 14
  stamp   : Dword
  deriving DecidableEq, Repr

/-- R322 to R339: a region controller. -/
structure Region where
  st      : RegSt := .free
  /-- RELOADING: the state it left (R321). -/
  left    : RegSt := .free
  ctx     : BitVec 6 := 0
  task    : BitVec 13 := 0
  cycle   : Dword := 0
  /-- R25: the region has left reset. -/
  awake   : Bool := false
  cache   : Vector CacheEntry 4 := Vector.replicate 4 {}
  /-- R327: cache entries, least recently used first. -/
  lru     : List Nat := [0, 1, 2, 3]
  sinkcnt : Word := 0
  flushcnt : Word := 0
  chgen   : Byte := 0
  reloads : BitVec 16 := 0
  fsel    : Word := 0
  usel    : BitVec 36 := 0
  sig     : Vector Dword 16 := Vector.replicate 16 0
  sigstage : Dword := 0
  /-- R336: the last commit was rejected. -/
  sigbad  : Bool := false
  unh     : List Unhandled := []
  sources : List Source := []
  sinks   : List Sink := []
  /-- R347: the round in which it last became FREE, or left reset. -/
  freed   : Nat := 0
  /-- R333: rounds since the last signature check, or since the reload began. -/
  sigage  : Nat := 0
  /-- R333: the CRC-64 signature of the placed configuration words. -/
  sign    : Dword := 0
  /-- R333: an uncorrectable word or a wrong signature was found in this round: the region halts at its end. -/
  cfgbad  : Bool := false
  /-- R328: this region has placed its part. -/
  placed  : Bool := false
  /-- R339: the code that fenced it. -/
  fence   : Byte := 0
  deriving DecidableEq, Repr

/-- A signal on its way to a handler (R337). -/
structure Signal where
  id      : Nat
  region  : Nat
  h       : BitVec 4
  payload : Word
  /-- Sender: an element with its operation, or a fabric endpoint with its ESEQ. -/
  fab     : Bool
  sender  : Nat
  reply   : Nat
  /-- R21: rounds until it reaches the region controller. -/
  left    : Nat := 0
  deriving DecidableEq, Repr

end Sys2Proof.Machine
end

