-- ==== Sys2Proof/Parts/Task.lean ====
section
/-! DEFINITION. Tasks, contexts and queues (spec/15, spec/16, spec/17). -/

namespace Sys2Proof.Machine

/-- R340: task states; QUEUED is a record in its queue. -/
inductive TaskSt where
  | queued | waiting | ready | binding | loading | running | draining | preempting | suspended
  | done | faulted | aborted
  deriving DecidableEq, Repr

/-- R130: a window of a task, fixed at its start (R286). -/
structure Window where
  base : Nat := 0
  len  : Nat := 0
  r : Bool := false
  w : Bool := false
  a : Bool := false
  deriving DecidableEq, Repr

/-- R352: the saved state of a pre-empted task, as its save area holds it, in the local tile numbers of its span. -/
structure Saved where
  /-- The format version R352 requires. -/
  version : Nat := 1
  elems   : Table Elem := []
  copies  : Table CopyEng := []
  presses : Table Press := []
  units   : Table SUnit := []
  loupes  : Table Loupe := []
  /-- Channels with their contents, ends in local tile numbers. -/
  chans   : List Channel := []
  wheys   : List WheyLink := []
  sources : List (Nat × Source) := []
  sinks   : List (Nat × Sink) := []
  /-- R387: saved barrier waiters: element, operation, object, arrival phase. -/
  waiters : List Waiter := []
  deriving DecidableEq, Repr, Inhabited

/-- R363, R387, R389: what the dispatcher keeps of a task's save: the units of 7 MiB of the save area that it holds, and its
saved waiters. -/
structure SaveRef where
  units   : List Nat := []
  waiters : List Waiter := []
  deriving DecidableEq, Repr

/-- R108, R133: what the record of a load fault names: the header, an element and its rule, or a section and one of its records. -/
inductive FaultAt where
  | header
  | rule (el rule : Nat)
  | record (type index : Nat)
  deriving DecidableEq, Repr

/-- R342 to R359: an entry of the dependence table. -/
structure Task where
  st     : TaskSt := .waiting
  ctx    : Nat
  taskid : BitVec 16
  record : Record
  /-- Class of the queue it came from. -/
  cls    : Nat := 0
  /-- Order of admission. -/
  admitted : Nat := 0
  /-- R346: when it last became READY or SUSPENDED, and how many rounds ago. -/
  rank   : Nat := 0
  age    : Nat := 0
  /-- Prerequisites outstanding, as entries of the table. -/
  pre    : List Nat := []
  /-- The span: row and column of its first region in the 8 × 8 grid (R17). -/
  row    : Nat := 0
  col    : Nat := 0
  bound  : Bool := false
  wins   : Vector Window 8 := Vector.replicate 8 {}
  /-- R350: rounds of the quantum left; none when QUANTUM is 0 or charging has stopped. -/
  quantum : Option Nat := none
  /-- R351, R363: expiry or PREEMPT is pending. -/
  expire : Bool := false
  /-- R350, R351: a source of the span has injected DRAIN. -/
  drainIn : Bool := false
  /-- R359: ABORT arrived in this round; the retirement of this round comes first. -/
  abort  : Bool := false
  /-- R184, R354: an operation was parked and replayed; the code of the first discard. -/
  replayed : Bool := false
  dropped  : Option Byte := none
  save   : Option SaveRef := none
  /-- The task is leaving by abort or fault, with this final state and code, once its flush is done. -/
  ending : Option (TaskSt × Byte) := none
  /-- R108, R133: where the loader found the image's fault (notes/assumptions/45). -/
  loadAt : Option FaultAt := none
  /-- R340: the final state whose event has still to be written. -/
  final  : Option (TaskSt × Byte) := none
  deriving DecidableEq, Repr

/-- R360: context states. -/
inductive CtxSt where
  | free | creating | active | quiescing | suspended | faulted | destroying
  deriving DecidableEq, Repr

/-- R366, R367: an unresolved fault record of SRC 2 to 4. -/
inductive Item where
  | posted (acc : Nat)
  | copy (tile flight : Nat)
  | walk (etile slot : Nat)
  deriving DecidableEq, Repr

/-- R381, R371: what QUIESCE writes into the save area besides the tasks' states. -/
structure QSave where
  queue : Nat
  slots : List Record
  cfg   : Word
  spbase : BitVec 52
  splen : BitVec 16
  head  : Nat
  tail  : Nat
  spilled : Nat
  closed : Bool
  deriving DecidableEq, Repr

/-- R370: the header of a save area: its format version, the tasks' dependence-table entries, the queues. -/
structure Head where
  version : Nat := 1
  tasks  : Table Task := []
  queues : List QSave := []
  deriving DecidableEq, Repr, Inhabited

/-- R362: a context. -/
structure Ctx where
  st     : CtxSt := .free
  status : Byte := 0
  ptroot : BitVec 64 := 0
  fqbase : BitVec 64 := 0
  fqlen  : Word := 0
  fqhead : Word := 0
  fqtail : Word := 0
  eqbase : BitVec 64 := 0
  eqlen  : Word := 0
  eqhead : Word := 0
  eqtail : Word := 0
  dlbase : BitVec 64 := 0
  dlva   : BitVec 64 := 0
  dlpages : Word := 0
  dlctl  : Word := 0
  quota  : Word := 0
  savebase : BitVec 64 := 0
  savelen  : BitVec 64 := 0
  discards : Word := 0
  items  : Table Item := []
  nextHandle : Nat := 0
  /-- Records waiting to be written: fault records and event records as words (R365). -/
  faults : List (List Word) := []
  /-- With the dependence-table entry that leaves when its event is written (R340). -/
  events : List (Option Nat × List Word) := []
  /-- R361: CREATE's checks are under way. -/
  making : Bool := false
  /-- R435. -/
  meas   : BitVec 256 := 0
  /-- R369: HARVEST has this many 64-bit words still to merge, and waits for these accesses. -/
  harvest : Option (Nat × List Nat) := none
  /-- R371: a RESUME waits for room in the dependence table. -/
  resuming : Bool := false
  /-- R370: the tasks' entries stand in the save area: written by QUIESCE or found by RESTORE, and not re-admitted since. -/
  away : Bool := false
  deriving DecidableEq, Repr

/-- R373: queue states. -/
inductive QSt where
  | disabled | active | spilling | spillFault | paused | drained
  deriving DecidableEq, Repr

/-- R375: a queue. -/
structure Queue where
  st     : QSt := .disabled
  closed : Bool := false
  slots  : List Record := []
  spilled : Nat := 0
  cfg    : Word := 0
  spbase : BitVec 64 := 0
  splen  : Word := 0
  head   : Nat := 0
  tail   : Nat := 0
  enqcnt : Word := 0
  nackcnt : Word := 0
  lastnack : BitVec 4 := 0
  status : Byte := 0
  /-- R345: rounds since the head record became the head. -/
  age    : Nat := 0
  /-- R378: the ring has had room since the last FULL event. -/
  roomy  : Bool := true
  /-- R345: the head record is aged. -/
  old    : Bool := false
  /-- R377: ENQs whose record is in the spill ring and that have still to be answered, by source and ESEQ. -/
  spill  : List (BitVec 12 × BitVec 16) := []
  /-- R380: a refill read outstanding. -/
  refill : Bool := false
  deriving DecidableEq, Repr

end Sys2Proof.Machine
end

