-- ==== Sys2Proof/Parts/Hub.lean ====
section
/-! DEFINITION. Links, endpoints, security block, device fault log, storage protection (spec/20 to spec/22). -/

namespace Sys2Proof.Machine

/-- R402: link states. -/
inductive LinkSt where
  | down | training | up | retrying | degraded | fenced
  deriving DecidableEq, Repr

/-- R402 to R405, R412: a link and its controller. -/
structure Link where
  st     : LinkSt := .training
  lanes  : BitVec 4 := 0
  /-- RETRYING: the state it left. -/
  left   : LinkSt := .training
  peer   : BitVec 12 := 0
  feccorr : Word := 0
  crcerr : Word := 0
  replays : Word := 0
  /-- R412: entries into TRAINING since reset; the one at the end of device reset is the first. -/
  retrains : BitVec 16 := 1
  /-- R403: failed attempts of this training. -/
  attempts : Nat := 0
  /-- R403: the rounds of the recent entries into TRAINING. -/
  entries : List Nat := [0]
  txseq  : BitVec 12 := 0
  rxseq  : BitVec 12 := 0
  /-- R404: a data flit has been received in order: ACK is valid. -/
  got    : Bool := false
  /-- R405: data flits not yet acknowledged, oldest first. -/
  replay : List (BitVec 12 × List Byte) := []
  /-- R405: a replay request is outstanding. -/
  asked  : Bool := false
  /-- R403: failed replays of the flit wanted. -/
  tries  : Nat := 0
  /-- R406: payload bytes received and not yet a whole transaction. -/
  rx     : List Byte := []
  /-- Flits handed to the lanes, for the outside world to take. -/
  tx     : List (List Byte) := []
  /-- R403: the state at the start of the round, which the events of a round meet. -/
  start  : LinkSt := .training
  /-- R403: an event of this round ends in DOWN. -/
  felled : Bool := false
  /-- R403: an event of this round ends in TRAINING: the entries and RETRAINS before it. -/
  entered : Option (List Nat × BitVec 16) := none
  deriving DecidableEq, Repr

/-- R407: a stored answer. -/
structure Answer where
  eseq : BitVec 16
  txn  : Txn
  deriving DecidableEq, Repr

/-- R407: the hub's state for one endpoint of the domain. -/
structure Endpoint where
  expect  : BitVec 16 := 0
  held    : List Txn := []
  answers : List Answer := []
  /-- Transactions of the device's own, unanswered, with their age in rounds. -/
  next    : BitVec 16 := 0
  sent    : List (Txn × Nat) := []
  deriving DecidableEq, Repr

/-- R425: a device fault log record, as words. -/
abbrev DflRec := List Word

/-- R424: the device fault log. -/
structure Dfl where
  base : BitVec 64 := 0
  len  : Word := 0
  head : Word := 0
  tail : Word := 0
  lost : Word := 0
  hold : List DflRec := []
  deriving DecidableEq, Repr

/-- R432 BOOT. -/
inductive BootSt where
  | reset | verifying | running | fail
  deriving DecidableEq, Repr

/-- R433: an access entry. -/
structure Acl where
  ctxmask : Dword := 0
  v     : Bool := false
  admin : Bool := false
  mem   : Bool := false
  ep    : BitVec 12 := 0
  deriving DecidableEq, Repr

/-- R432: the security block. -/
structure Sec where
  boot   : BootSt := .reset
  copy   : Bool := false
  fwver  : Word := 0
  fwmeas : BitVec 256 := 0
  idpub  : BitVec 512 := 0
  measmask : Word := 0
  attstatus : Byte := 0
  nonce  : BitVec 256 := 0
  acl    : Vector Acl 64 := Vector.replicate 64 {}
  /-- R434: entries written, effective once their RESPONSE is sent: index, entry, and the endpoint and ESEQ of that
  RESPONSE. -/
  aclNew : List (Nat × Acl × Option (Nat × Nat)) := []
  /-- R436: a report being made: its address, the command, and once the command's round has ended its bytes before signing. -/
  report : Option (BitVec 52 × Dword × Option (List Byte)) := none
  deriving DecidableEq, Repr

/-- R419, R420: the banks of one slice, Hoop or image cache. -/
structure Banks where
  failed : Option Nat := none
  /-- Groups with a correction in each bank in this scrub period. -/
  hits   : List (Nat × Nat) := []
  /-- Groups uncorrectable while a bank is failed, in this period. -/
  worse  : List Nat := []
  deriving DecidableEq, Repr

/-- R422, R424: storage whose next reading meets an error that cannot be corrected: a tile's element, channel, route, Press,
copy or walk state; an entry of the dependence table; a context block; a queue slot. -/
inductive Lost where
  | tile (t : Nat)
  | entry (task : Nat)
  | block (ctx : Nat)
  | slot (queue slot : Nat)
  deriving DecidableEq, Repr

/-- R419: the symbol by which a stored group differs from the codeword of its data: the first byte of the group, the bank, and the
difference. -/
structure Flaw where
  group : Nat
  bank  : Nat
  err   : Byte
  deriving DecidableEq, Repr

/-- R418, R422, R423, R426, R333: a fault of the device: a symbol of a stored group goes wrong; an HBM line can no longer be
corrected; other storage is lost; the next result of an element or Press (tile × 64 + UNIT) has a wrong residue; a configuration word
of an element, guards 0 to 15, actions 16 to 31, constants 32 to 39, becomes another that SECDED takes for good. -/
inductive Strike where
  | symbol (group bank : Nat) (err : Byte)
  | line (pa : Nat)
  | store (l : Lost)
  | result (unit : Nat)
  | word (el k : Nat) (v : Word)
  deriving DecidableEq, Repr

/-- R398: the translation block. -/
structure Tinv where
  status : Byte := 0
  cmd    : Option Dword := none
  /-- R399: accesses translated with a dropped entry, not yet performed. -/
  waits  : List Nat := []
  deriving DecidableEq, Repr

end Sys2Proof.Machine
end

