-- ==== Sys2Proof/Syntax.lean ====
section
/-! DEFINITION. The instructions: one constructor for each row of the opcode table (spec/05 R109 to R122; spec/95 for the
steps that have no encoding). The fields of an encoded instruction are the fields the table leaves free, named as the table
names them; a step without an encoding names the element, end, unit, task or register it acts on. -/

namespace Sys2Proof

/-- One constructor per row of the opcode table. -/
inductive Instr where
  /-- NOP (R148). Changes nothing except its optional predicate update and takes no token. -/
  | nop (i : BitVec 3) (p : BitVec 2)
  /-- MOV (R141). Delivers the value of A to the destination. -/
  | mov (d : BitVec 5) (a : BitVec 5) (i : BitVec 3) (p : BitVec 2) (t : BitVec 4)
  /-- PASS (R141). Forwards the head token of A with its own tag to an output end. -/
  | pass (d : BitVec 5) (a : BitVec 5) (i : BitVec 3) (p : BitVec 2)
  /-- DROP (R141). Takes the head token of A and delivers nothing. -/
  | drop (a : BitVec 5) (i : BitVec 3) (p : BitVec 2)
  /-- SEL (R142). Selects A or B by predicate p(PI), taking both taken operands. -/
  | sel (d : BitVec 5) (a : BitVec 5) (b : BitVec 5) (i : BitVec 3) (p : BitVec 2) (t : BitVec 4)
  /-- STEER (R143). Sends the token of A to o(k) or o(k xor 1) according to B. -/
  | steer (d : BitVec 5) (a : BitVec 5) (b : BitVec 5) (i : BitVec 3) (p : BitVec 2)
  /-- TAGOF (R144). Delivers the tag of A's head token. -/
  | tagof (d : BitVec 5) (a : BitVec 5) (i : BitVec 3) (p : BitVec 2) (t : BitVec 4)
  /-- MKTAG (R144). Enqueues A with a tag taken from B, aborting on a forbidden tag. -/
  | mktag (d : BitVec 5) (a : BitVec 5) (b : BitVec 5) (i : BitVec 3) (p : BitVec 2)
  /-- PAND (R145). Delivers the AND of two predicates. -/
  | pand (d : BitVec 5) (a : BitVec 5) (b : BitVec 5) (i : BitVec 3) (p : BitVec 2) (t : BitVec 4)
  /-- POR (R145). Delivers the OR of two predicates. -/
  | por (d : BitVec 5) (a : BitVec 5) (b : BitVec 5) (i : BitVec 3) (p : BitVec 2) (t : BitVec 4)
  /-- PXOR (R145). Delivers the XOR of two predicates. -/
  | pxor (d : BitVec 5) (a : BitVec 5) (b : BitVec 5) (i : BitVec 3) (p : BitVec 2) (t : BitVec 4)
  /-- PNOT (R145). Delivers the inverse of a predicate. -/
  | pnot (d : BitVec 5) (a : BitVec 5) (i : BitVec 3) (p : BitVec 2) (t : BitVec 4)
  /-- PMOV (R145). Delivers a predicate's value. -/
  | pmov (d : BitVec 5) (a : BitVec 5) (i : BitVec 3) (p : BitVec 2) (t : BitVec 4)
  /-- PTOD (R145). Delivers p7..p0 as an 8-bit value. -/
  | ptod (d : BitVec 5) (i : BitVec 3) (p : BitVec 2) (t : BitVec 4)
  /-- DTOP (R145). Sets p0-p7 from the low 8 bits of A. -/
  | dtop (a : BitVec 5)
  /-- ITER (R146). Delivers a loop counter's index, advances it and the chained counter, and emits wrap stops. -/
  | iter (d : BitVec 5) (a : BitVec 5) (i : BitVec 3) (p : BitVec 2)
  /-- CNTRD (R147). Delivers a loop counter's VALUE without changing it. -/
  | cntrd (d : BitVec 5) (a : BitVec 5) (i : BitVec 3) (p : BitVec 2) (t : BitVec 4)
  /-- CNTSET (R147). Sets a loop counter's BOUND and clears VALUE, aborting on zero. -/
  | cntset (d : BitVec 5) (a : BitVec 5) (i : BitVec 3) (p : BitVec 2)
  /-- HALT (R148). Puts the element into HALTED at the end of the round. -/
  | halt
  /-- ADD (R150). Adds A and B modulo 2^32. -/
  | add (d : BitVec 5) (a : BitVec 5) (b : BitVec 5) (i : BitVec 3) (p : BitVec 2) (t : BitVec 4)
  /-- SUB (R150). Subtracts B from A modulo 2^32. -/
  | sub (d : BitVec 5) (a : BitVec 5) (b : BitVec 5) (i : BitVec 3) (p : BitVec 2) (t : BitVec 4)
  /-- ADDS (R150). Adds signed with clamping to i32, counting SAT. -/
  | adds (d : BitVec 5) (a : BitVec 5) (b : BitVec 5) (i : BitVec 3) (p : BitVec 2) (t : BitVec 4)
  /-- SUBS (R150). Subtracts signed with clamping to i32, counting SAT. -/
  | subs (d : BitVec 5) (a : BitVec 5) (b : BitVec 5) (i : BitVec 3) (p : BitVec 2) (t : BitVec 4)
  /-- ADDSN (R150). Adds unsigned with clamping to n32, counting SAT. -/
  | addsn (d : BitVec 5) (a : BitVec 5) (b : BitVec 5) (i : BitVec 3) (p : BitVec 2) (t : BitVec 4)
  /-- SUBSN (R150). Subtracts unsigned with clamping at 0, counting SAT. -/
  | subsn (d : BitVec 5) (a : BitVec 5) (b : BitVec 5) (i : BitVec 3) (p : BitVec 2) (t : BitVec 4)
  /-- NEG (R150). Negates A modulo 2^32. -/
  | neg (d : BitVec 5) (a : BitVec 5) (i : BitVec 3) (p : BitVec 2) (t : BitVec 4)
  /-- ABS (R150). Delivers the absolute value of A modulo 2^32. -/
  | abs (d : BitVec 5) (a : BitVec 5) (i : BitVec 3) (p : BitVec 2) (t : BitVec 4)
  /-- MUL (R150). Multiplies signed, keeping the low 32 bits. -/
  | mul (d : BitVec 5) (a : BitVec 5) (b : BitVec 5) (i : BitVec 3) (p : BitVec 2) (t : BitVec 4)
  /-- MULH (R150). Delivers the high 32 bits of the signed product. -/
  | mulh (d : BitVec 5) (a : BitVec 5) (b : BitVec 5) (i : BitVec 3) (p : BitVec 2) (t : BitVec 4)
  /-- MULHN (R150). Delivers the high 32 bits of the unsigned product. -/
  | mulhn (d : BitVec 5) (a : BitVec 5) (b : BitVec 5) (i : BitVec 3) (p : BitVec 2) (t : BitVec 4)
  /-- MAC (R150). Adds the signed product of A and B into d(D). -/
  | mac (d : BitVec 5) (a : BitVec 5) (b : BitVec 5) (i : BitVec 3) (p : BitVec 2) (t : BitVec 4)
  /-- MIN (R150). Delivers the signed minimum, keeping A on ties. -/
  | min (d : BitVec 5) (a : BitVec 5) (b : BitVec 5) (i : BitVec 3) (p : BitVec 2) (t : BitVec 4)
  /-- MAX (R150). Delivers the signed maximum, keeping A on ties. -/
  | max (d : BitVec 5) (a : BitVec 5) (b : BitVec 5) (i : BitVec 3) (p : BitVec 2) (t : BitVec 4)
  /-- MINN (R150). Delivers the unsigned minimum. -/
  | minn (d : BitVec 5) (a : BitVec 5) (b : BitVec 5) (i : BitVec 3) (p : BitVec 2) (t : BitVec 4)
  /-- MAXN (R150). Delivers the unsigned maximum. -/
  | maxn (d : BitVec 5) (a : BitVec 5) (b : BitVec 5) (i : BitVec 3) (p : BitVec 2) (t : BitVec 4)
  /-- AND (R151). Bitwise AND. -/
  | and (d : BitVec 5) (a : BitVec 5) (b : BitVec 5) (i : BitVec 3) (p : BitVec 2) (t : BitVec 4)
  /-- OR (R151). Bitwise OR. -/
  | or (d : BitVec 5) (a : BitVec 5) (b : BitVec 5) (i : BitVec 3) (p : BitVec 2) (t : BitVec 4)
  /-- XOR (R151). Bitwise XOR. -/
  | xor (d : BitVec 5) (a : BitVec 5) (b : BitVec 5) (i : BitVec 3) (p : BitVec 2) (t : BitVec 4)
  /-- ANDN (R151). A AND NOT B. -/
  | andn (d : BitVec 5) (a : BitVec 5) (b : BitVec 5) (i : BitVec 3) (p : BitVec 2) (t : BitVec 4)
  /-- ORN (R151). A OR NOT B. -/
  | orn (d : BitVec 5) (a : BitVec 5) (b : BitVec 5) (i : BitVec 3) (p : BitVec 2) (t : BitVec 4)
  /-- NOT (R151). Bitwise NOT of A. -/
  | not (d : BitVec 5) (a : BitVec 5) (i : BitVec 3) (p : BitVec 2) (t : BitVec 4)
  /-- SHL (R151). Shifts A left by a whole count. -/
  | shl (d : BitVec 5) (a : BitVec 5) (b : BitVec 5) (i : BitVec 3) (p : BitVec 2) (t : BitVec 4)
  /-- SHR (R151). Shifts A right logically by a whole count. -/
  | shr (d : BitVec 5) (a : BitVec 5) (b : BitVec 5) (i : BitVec 3) (p : BitVec 2) (t : BitVec 4)
  /-- SAR (R151). Shifts A right arithmetically by a whole count. -/
  | sar (d : BitVec 5) (a : BitVec 5) (b : BitVec 5) (i : BitVec 3) (p : BitVec 2) (t : BitVec 4)
  /-- ROL (R151). Rotates A left by the count modulo 32. -/
  | rol (d : BitVec 5) (a : BitVec 5) (b : BitVec 5) (i : BitVec 3) (p : BitVec 2) (t : BitVec 4)
  /-- CLZ (R152). Counts leading zero bits of A. -/
  | clz (d : BitVec 5) (a : BitVec 5) (i : BitVec 3) (p : BitVec 2) (t : BitVec 4)
  /-- CTZ (R152). Counts trailing zero bits of A. -/
  | ctz (d : BitVec 5) (a : BitVec 5) (i : BitVec 3) (p : BitVec 2) (t : BitVec 4)
  /-- POPC (R152). Counts the 1 bits of A. -/
  | popc (d : BitVec 5) (a : BitVec 5) (i : BitVec 3) (p : BitVec 2) (t : BitVec 4)
  /-- BREV (R152). Reverses the bit order of A. -/
  | brev (d : BitVec 5) (a : BitVec 5) (i : BitVec 3) (p : BitVec 2) (t : BitVec 4)
  /-- BFX (R152). Extracts a zero-extended bit field of A. -/
  | bfx (d : BitVec 5) (a : BitVec 5) (b : BitVec 5) (i : BitVec 3) (p : BitVec 2) (t : BitVec 4)
  /-- BFXS (R152). Extracts a sign-extended bit field of A. -/
  | bfxs (d : BitVec 5) (a : BitVec 5) (b : BitVec 5) (i : BitVec 3) (p : BitVec 2) (t : BitVec 4)
  /-- BFI (R152). Inserts the low bits of A into a field of d(D). -/
  | bfi (d : BitVec 5) (a : BitVec 5) (b : BitVec 5) (i : BitVec 3) (p : BitVec 2) (t : BitVec 4)
  /-- CMPEQ (R153). Delivers 1 when A equals B. -/
  | cmpeq (d : BitVec 5) (a : BitVec 5) (b : BitVec 5) (i : BitVec 3) (p : BitVec 2) (t : BitVec 4)
  /-- CMPNE (R153). Delivers 1 when A differs from B. -/
  | cmpne (d : BitVec 5) (a : BitVec 5) (b : BitVec 5) (i : BitVec 3) (p : BitVec 2) (t : BitVec 4)
  /-- CMPLT (R153). Delivers 1 when A is less than B, signed. -/
  | cmplt (d : BitVec 5) (a : BitVec 5) (b : BitVec 5) (i : BitVec 3) (p : BitVec 2) (t : BitVec 4)
  /-- CMPLE (R153). Delivers 1 when A is at most B, signed. -/
  | cmple (d : BitVec 5) (a : BitVec 5) (b : BitVec 5) (i : BitVec 3) (p : BitVec 2) (t : BitVec 4)
  /-- CMPLTN (R153). Delivers 1 when A is less than B, unsigned. -/
  | cmpltn (d : BitVec 5) (a : BitVec 5) (b : BitVec 5) (i : BitVec 3) (p : BitVec 2) (t : BitVec 4)
  /-- CMPLEN (R153). Delivers 1 when A is at most B, unsigned. -/
  | cmplen (d : BitVec 5) (a : BitVec 5) (b : BitVec 5) (i : BitVec 3) (p : BitVec 2) (t : BitVec 4)
  /-- ADDH2 (R154). Adds two 16-bit lanes independently. -/
  | addh2 (d : BitVec 5) (a : BitVec 5) (b : BitVec 5) (i : BitVec 3) (p : BitVec 2) (t : BitVec 4)
  /-- SUBH2 (R154). Subtracts two 16-bit lanes independently. -/
  | subh2 (d : BitVec 5) (a : BitVec 5) (b : BitVec 5) (i : BitVec 3) (p : BitVec 2) (t : BitVec 4)
  /-- MAXH2 (R154). Lane-wise i16 maximum. -/
  | maxh2 (d : BitVec 5) (a : BitVec 5) (b : BitVec 5) (i : BitVec 3) (p : BitVec 2) (t : BitVec 4)
  /-- MINH2 (R154). Lane-wise i16 minimum. -/
  | minh2 (d : BitVec 5) (a : BitVec 5) (b : BitVec 5) (i : BitVec 3) (p : BitVec 2) (t : BitVec 4)
  /-- ADDB4 (R154). Adds four 8-bit lanes independently. -/
  | addb4 (d : BitVec 5) (a : BitVec 5) (b : BitVec 5) (i : BitVec 3) (p : BitVec 2) (t : BitVec 4)
  /-- SUBB4 (R154). Subtracts four 8-bit lanes independently. -/
  | subb4 (d : BitVec 5) (a : BitVec 5) (b : BitVec 5) (i : BitVec 3) (p : BitVec 2) (t : BitVec 4)
  /-- MAXB4 (R154). Lane-wise i8 maximum. -/
  | maxb4 (d : BitVec 5) (a : BitVec 5) (b : BitVec 5) (i : BitVec 3) (p : BitVec 2) (t : BitVec 4)
  /-- MINB4 (R154). Lane-wise i8 minimum. -/
  | minb4 (d : BitVec 5) (a : BitVec 5) (b : BitVec 5) (i : BitVec 3) (p : BitVec 2) (t : BitVec 4)
  /-- DOT4 (R155). Accumulates a four-lane i8 dot product into d(D). -/
  | dot4 (d : BitVec 5) (a : BitVec 5) (b : BitVec 5) (i : BitVec 3) (p : BitVec 2) (t : BitVec 4)
  /-- DOT4N (R155). Accumulates a four-lane n8 dot product into d(D). -/
  | dot4n (d : BitVec 5) (a : BitVec 5) (b : BitVec 5) (i : BitVec 3) (p : BitVec 2) (t : BitVec 4)
  /-- LEA (R156). Forms A + B x 2^s as a scaled offset. -/
  | lea (d : BitVec 5) (a : BitVec 5) (b : BitVec 5) (i : BitVec 3) (p : BitVec 2) (s : BitVec 2)
  /-- HASH (R157). Computes the device mixing function of key A and seed B. -/
  | hash (d : BitVec 5) (a : BitVec 5) (b : BitVec 5) (i : BitVec 3) (p : BitVec 2) (t : BitVec 4)
  /-- XSH (R158). Performs one xorshift step of A. -/
  | xsh (d : BitVec 5) (a : BitVec 5) (i : BitVec 3) (p : BitVec 2) (t : BitVec 4)
  /-- DIVN (R159). Unsigned division, with a fixed result for a zero divisor. -/
  | divn (d : BitVec 5) (a : BitVec 5) (b : BitVec 5) (i : BitVec 3) (p : BitVec 2) (t : BitVec 4)
  /-- REMN (R159). Unsigned remainder, with a fixed result for a zero divisor. -/
  | remn (d : BitVec 5) (a : BitVec 5) (b : BitVec 5) (i : BitVec 3) (p : BitVec 2) (t : BitVec 4)
  /-- FADD (R165). FP32 addition rounded once RNE. -/
  | fadd (d : BitVec 5) (a : BitVec 5) (b : BitVec 5) (i : BitVec 3) (p : BitVec 2) (t : BitVec 4)
  /-- FSUB (R165). FP32 subtraction rounded once RNE. -/
  | fsub (d : BitVec 5) (a : BitVec 5) (b : BitVec 5) (i : BitVec 3) (p : BitVec 2) (t : BitVec 4)
  /-- FMUL (R165). FP32 multiplication rounded once RNE. -/
  | fmul (d : BitVec 5) (a : BitVec 5) (b : BitVec 5) (i : BitVec 3) (p : BitVec 2) (t : BitVec 4)
  /-- FFMA (R165). Fused multiply-add into d(D), rounded once. -/
  | ffma (d : BitVec 5) (a : BitVec 5) (b : BitVec 5) (i : BitVec 3) (p : BitVec 2) (t : BitVec 4)
  /-- FMIN (R167). FP32 minimum where a NaN yields to a number. -/
  | fmin (d : BitVec 5) (a : BitVec 5) (b : BitVec 5) (i : BitVec 3) (p : BitVec 2) (t : BitVec 4)
  /-- FMAX (R167). FP32 maximum where a NaN yields to a number. -/
  | fmax (d : BitVec 5) (a : BitVec 5) (b : BitVec 5) (i : BitVec 3) (p : BitVec 2) (t : BitVec 4)
  /-- FABS (R168). Clears the sign bit of A. -/
  | fabs (d : BitVec 5) (a : BitVec 5) (i : BitVec 3) (p : BitVec 2) (t : BitVec 4)
  /-- FNEG (R168). Inverts the sign bit of A. -/
  | fneg (d : BitVec 5) (a : BitVec 5) (i : BitVec 3) (p : BitVec 2) (t : BitVec 4)
  /-- FCPYS (R168). Copies B's sign onto A. -/
  | fcpys (d : BitVec 5) (a : BitVec 5) (b : BitVec 5) (i : BitVec 3) (p : BitVec 2) (t : BitVec 4)
  /-- FCMPEQ (R169). FP32 equality compare. -/
  | fcmpeq (d : BitVec 5) (a : BitVec 5) (b : BitVec 5) (i : BitVec 3) (p : BitVec 2) (t : BitVec 4)
  /-- FCMPLT (R169). FP32 less-than compare. -/
  | fcmplt (d : BitVec 5) (a : BitVec 5) (b : BitVec 5) (i : BitVec 3) (p : BitVec 2) (t : BitVec 4)
  /-- FCMPLE (R169). FP32 less-or-equal compare. -/
  | fcmple (d : BitVec 5) (a : BitVec 5) (b : BitVec 5) (i : BitVec 3) (p : BitVec 2) (t : BitVec 4)
  /-- FCMPUN (R169). FP32 unordered compare. -/
  | fcmpun (d : BitVec 5) (a : BitVec 5) (b : BitVec 5) (i : BitVec 3) (p : BitVec 2) (t : BitVec 4)
  /-- FCLASS (R170). Delivers the one-hot class mask of A. -/
  | fclass (d : BitVec 5) (a : BitVec 5) (i : BitVec 3) (p : BitVec 2) (t : BitVec 4)
  /-- FDIV (R165). Correctly rounded FP32 division. -/
  | fdiv (d : BitVec 5) (a : BitVec 5) (b : BitVec 5) (i : BitVec 3) (p : BitVec 2) (t : BitVec 4)
  /-- FSQRT (R166). Correctly rounded FP32 square root. -/
  | fsqrt (d : BitVec 5) (a : BitVec 5) (i : BitVec 3) (p : BitVec 2) (t : BitVec 4)
  /-- FRCPE (R171). Reciprocal estimate by a fixed bit formula. -/
  | frcpe (d : BitVec 5) (a : BitVec 5) (i : BitVec 3) (p : BitVec 2) (t : BitVec 4)
  /-- FRSQE (R172). Reciprocal square-root estimate by a fixed bit formula. -/
  | frsqe (d : BitVec 5) (a : BitVec 5) (i : BitVec 3) (p : BitVec 2) (t : BitVec 4)
  /-- FEX2 (R166). Correctly rounded 2^a. -/
  | fex2 (d : BitVec 5) (a : BitVec 5) (i : BitVec 3) (p : BitVec 2) (t : BitVec 4)
  /-- FLG2 (R166). Correctly rounded log2(a). -/
  | flg2 (d : BitVec 5) (a : BitVec 5) (i : BitVec 3) (p : BitVec 2) (t : BitVec 4)
  /-- FRINT (R173). Rounds A to the nearest integral value, ties to even. -/
  | frint (d : BitVec 5) (a : BitVec 5) (i : BitVec 3) (p : BitVec 2) (t : BitVec 4)
  /-- FFLOOR (R173). Rounds A toward minus infinity. -/
  | ffloor (d : BitVec 5) (a : BitVec 5) (i : BitVec 3) (p : BitVec 2) (t : BitVec 4)
  /-- FCEIL (R173). Rounds A toward plus infinity. -/
  | fceil (d : BitVec 5) (a : BitVec 5) (i : BitVec 3) (p : BitVec 2) (t : BitVec 4)
  /-- FTRNC (R173). Rounds A toward zero. -/
  | ftrnc (d : BitVec 5) (a : BitVec 5) (i : BitVec 3) (p : BitVec 2) (t : BitVec 4)
  /-- BADD2 (R174). Adds two BF16 lanes. -/
  | badd2 (d : BitVec 5) (a : BitVec 5) (b : BitVec 5) (i : BitVec 3) (p : BitVec 2) (t : BitVec 4)
  /-- BSUB2 (R174). Subtracts two BF16 lanes. -/
  | bsub2 (d : BitVec 5) (a : BitVec 5) (b : BitVec 5) (i : BitVec 3) (p : BitVec 2) (t : BitVec 4)
  /-- BMUL2 (R174). Multiplies two BF16 lanes. -/
  | bmul2 (d : BitVec 5) (a : BitVec 5) (b : BitVec 5) (i : BitVec 3) (p : BitVec 2) (t : BitVec 4)
  /-- BFMA2 (R174). Fused multiply-add of two BF16 lanes into d(D). -/
  | bfma2 (d : BitVec 5) (a : BitVec 5) (b : BitVec 5) (i : BitVec 3) (p : BitVec 2) (t : BitVec 4)
  /-- BMAX2 (R174). Lane-wise BF16 maximum. -/
  | bmax2 (d : BitVec 5) (a : BitVec 5) (b : BitVec 5) (i : BitVec 3) (p : BitVec 2) (t : BitVec 4)
  /-- BMIN2 (R174). Lane-wise BF16 minimum. -/
  | bmin2 (d : BitVec 5) (a : BitVec 5) (b : BitVec 5) (i : BitVec 3) (p : BitVec 2) (t : BitVec 4)
  /-- HADD2 (R174). Adds two FP16 lanes. -/
  | hadd2 (d : BitVec 5) (a : BitVec 5) (b : BitVec 5) (i : BitVec 3) (p : BitVec 2) (t : BitVec 4)
  /-- HSUB2 (R174). Subtracts two FP16 lanes. -/
  | hsub2 (d : BitVec 5) (a : BitVec 5) (b : BitVec 5) (i : BitVec 3) (p : BitVec 2) (t : BitVec 4)
  /-- HMUL2 (R174). Multiplies two FP16 lanes. -/
  | hmul2 (d : BitVec 5) (a : BitVec 5) (b : BitVec 5) (i : BitVec 3) (p : BitVec 2) (t : BitVec 4)
  /-- HFMA2 (R174). Fused multiply-add of two FP16 lanes into d(D). -/
  | hfma2 (d : BitVec 5) (a : BitVec 5) (b : BitVec 5) (i : BitVec 3) (p : BitVec 2) (t : BitVec 4)
  /-- HMAX2 (R174). Lane-wise FP16 maximum. -/
  | hmax2 (d : BitVec 5) (a : BitVec 5) (b : BitVec 5) (i : BitVec 3) (p : BitVec 2) (t : BitVec 4)
  /-- HMIN2 (R174). Lane-wise FP16 minimum. -/
  | hmin2 (d : BitVec 5) (a : BitVec 5) (b : BitVec 5) (i : BitVec 3) (p : BitVec 2) (t : BitVec 4)
  /-- CVTFI (R179). Converts FP32 to i32 with RNE and saturation. -/
  | cvtfi (d : BitVec 5) (a : BitVec 5) (i : BitVec 3) (p : BitVec 2) (t : BitVec 4)
  /-- CVTIF (R179). Converts i32 to FP32 with RNE. -/
  | cvtif (d : BitVec 5) (a : BitVec 5) (i : BitVec 3) (p : BitVec 2) (t : BitVec 4)
  /-- CVTIFZ (R179). Converts i32 to FP32 truncating toward zero. -/
  | cvtifz (d : BitVec 5) (a : BitVec 5) (i : BitVec 3) (p : BitVec 2) (t : BitVec 4)
  /-- CVTBF (R175). Converts two FP32 values to packed BF16 with RNE. -/
  | cvtbf (d : BitVec 5) (a : BitVec 5) (b : BitVec 5) (i : BitVec 3) (p : BitVec 2) (t : BitVec 4)
  /-- CVTBFZ (R175). Converts two FP32 values to packed BF16 truncating. -/
  | cvtbfz (d : BitVec 5) (a : BitVec 5) (b : BitVec 5) (i : BitVec 3) (p : BitVec 2) (t : BitVec 4)
  /-- CVTHF (R175). Converts two FP32 values to packed FP16 with RNE. -/
  | cvthf (d : BitVec 5) (a : BitVec 5) (b : BitVec 5) (i : BitVec 3) (p : BitVec 2) (t : BitVec 4)
  /-- CVTHFZ (R175). Converts two FP32 values to packed FP16 truncating. -/
  | cvthfz (d : BitVec 5) (a : BitVec 5) (b : BitVec 5) (i : BitVec 3) (p : BitVec 2) (t : BitVec 4)
  /-- CVTFB (R178). Widens a selected BF16 lane to FP32. -/
  | cvtfb (d : BitVec 5) (a : BitVec 5) (b : BitVec 5) (i : BitVec 3) (p : BitVec 2) (t : BitVec 4)
  /-- CVTFH (R178). Widens a selected FP16 lane to FP32. -/
  | cvtfh (d : BitVec 5) (a : BitVec 5) (b : BitVec 5) (i : BitVec 3) (p : BitVec 2) (t : BitVec 4)
  /-- CVTE4 (R176). Shifts two RNE E4M3 codes into the top of d(D). -/
  | cvte4 (d : BitVec 5) (a : BitVec 5) (b : BitVec 5) (i : BitVec 3) (p : BitVec 2) (t : BitVec 4)
  /-- CVTE4Z (R176). Shifts two truncated E4M3 codes into the top of d(D). -/
  | cvte4z (d : BitVec 5) (a : BitVec 5) (b : BitVec 5) (i : BitVec 3) (p : BitVec 2) (t : BitVec 4)
  /-- CVTE5 (R176). Shifts two RNE E5M2 codes into the top of d(D). -/
  | cvte5 (d : BitVec 5) (a : BitVec 5) (b : BitVec 5) (i : BitVec 3) (p : BitVec 2) (t : BitVec 4)
  /-- CVTE5Z (R176). Shifts two truncated E5M2 codes into the top of d(D). -/
  | cvte5z (d : BitVec 5) (a : BitVec 5) (b : BitVec 5) (i : BitVec 3) (p : BitVec 2) (t : BitVec 4)
  /-- CVTFE4 (R178). Widens a selected E4M3 lane to FP32. -/
  | cvtfe4 (d : BitVec 5) (a : BitVec 5) (b : BitVec 5) (i : BitVec 3) (p : BitVec 2) (t : BitVec 4)
  /-- CVTFE5 (R178). Widens a selected E5M2 lane to FP32. -/
  | cvtfe5 (d : BitVec 5) (a : BitVec 5) (b : BitVec 5) (i : BitVec 3) (p : BitVec 2) (t : BitVec 4)
  /-- CVTQ4 (R177). Divides by a block scale and shifts an RNE E2M1 nibble into d(D). -/
  | cvtq4 (d : BitVec 5) (a : BitVec 5) (b : BitVec 5) (i : BitVec 3) (p : BitVec 2) (t : BitVec 4)
  /-- CVTQ4Z (R177). Divides by a block scale and shifts a truncated E2M1 nibble into d(D). -/
  | cvtq4z (d : BitVec 5) (a : BitVec 5) (b : BitVec 5) (i : BitVec 3) (p : BitVec 2) (t : BitVec 4)
  /-- CVTFQ4 (R178). Widens a selected E2M1 lane times an E3M5 scale to FP32. -/
  | cvtfq4 (d : BitVec 5) (a : BitVec 5) (b : BitVec 5) (i : BitVec 3) (p : BitVec 2) (t : BitVec 4)
  /-- QSC (R180). Computes the E3M5 block-scale code for a maximum magnitude. -/
  | qsc (d : BitVec 5) (a : BitVec 5) (i : BitVec 3) (p : BitVec 2) (t : BitVec 4)
  /-- LD8 (R189). Loads a zero-extended byte through a window. -/
  | ld8 (d : BitVec 5) (a : BitVec 5) (w : BitVec 3) (s : BitVec 2)
  /-- LD8S (R189). Loads a sign-extended byte through a window. -/
  | ld8s (d : BitVec 5) (a : BitVec 5) (w : BitVec 3) (s : BitVec 2)
  /-- LD16 (R189). Loads a zero-extended halfword through a window. -/
  | ld16 (d : BitVec 5) (a : BitVec 5) (w : BitVec 3) (s : BitVec 2)
  /-- LD16S (R189). Loads a sign-extended halfword through a window. -/
  | ld16s (d : BitVec 5) (a : BitVec 5) (w : BitVec 3) (s : BitVec 2)
  /-- LD32 (R189). Loads a word through a window. -/
  | ld32 (d : BitVec 5) (a : BitVec 5) (w : BitVec 3) (s : BitVec 2)
  /-- ST8 (R189). Posts a byte store through a window. -/
  | st8 (d : BitVec 5) (a : BitVec 5) (b : BitVec 5) (w : BitVec 3) (s : BitVec 2)
  /-- ST16 (R189). Posts a halfword store through a window. -/
  | st16 (d : BitVec 5) (a : BitVec 5) (b : BitVec 5) (w : BitVec 3) (s : BitVec 2)
  /-- ST32 (R189). Posts a word store through a window. -/
  | st32 (d : BitVec 5) (a : BitVec 5) (b : BitVec 5) (w : BitVec 3) (s : BitVec 2)
  /-- LDG (R190). Gathers lanes through the M-tile gather/scatter unit. -/
  | ldg (d : BitVec 5) (a : BitVec 5) (w : BitVec 3) (s : BitVec 2) (f : BitVec 4)
  /-- STG (R190). Scatters lanes in ascending order through the gather/scatter unit. -/
  | stg (d : BitVec 5) (a : BitVec 5) (b : BitVec 5) (w : BitVec 3) (s : BitVec 2) (f : BitVec 4)
  /-- FENCE (R191). Emits a token once the element's earlier memory operations have performed at scope. -/
  | fence (d : BitVec 5) (s : BitVec 2)
  /-- AADD (R192). Atomic add returning the old word. -/
  | aadd (d : BitVec 5) (a : BitVec 5) (b : BitVec 5) (w : BitVec 3) (s : BitVec 2)
  /-- ASUB (R192). Atomic subtract returning the old word. -/
  | asub (d : BitVec 5) (a : BitVec 5) (b : BitVec 5) (w : BitVec 3) (s : BitVec 2)
  /-- AMIN (R192). Atomic signed minimum. -/
  | amin (d : BitVec 5) (a : BitVec 5) (b : BitVec 5) (w : BitVec 3) (s : BitVec 2)
  /-- AMAX (R192). Atomic signed maximum. -/
  | amax (d : BitVec 5) (a : BitVec 5) (b : BitVec 5) (w : BitVec 3) (s : BitVec 2)
  /-- AMINN (R192). Atomic unsigned minimum. -/
  | aminn (d : BitVec 5) (a : BitVec 5) (b : BitVec 5) (w : BitVec 3) (s : BitVec 2)
  /-- AMAXN (R192). Atomic unsigned maximum. -/
  | amaxn (d : BitVec 5) (a : BitVec 5) (b : BitVec 5) (w : BitVec 3) (s : BitVec 2)
  /-- AAND (R192). Atomic AND. -/
  | aand (d : BitVec 5) (a : BitVec 5) (b : BitVec 5) (w : BitVec 3) (s : BitVec 2)
  /-- AOR (R192). Atomic OR. -/
  | aor (d : BitVec 5) (a : BitVec 5) (b : BitVec 5) (w : BitVec 3) (s : BitVec 2)
  /-- AXOR (R192). Atomic XOR. -/
  | axor (d : BitVec 5) (a : BitVec 5) (b : BitVec 5) (w : BitVec 3) (s : BitVec 2)
  /-- AXCHG (R192). Atomic exchange. -/
  | axchg (d : BitVec 5) (a : BitVec 5) (b : BitVec 5) (w : BitVec 3) (s : BitVec 2)
  /-- ACAS (R192). Atomic compare-and-swap against d(K). -/
  | acas (d : BitVec 5) (a : BitVec 5) (b : BitVec 5) (w : BitVec 3) (s : BitVec 2) (k : BitVec 3)
  /-- AFADD (R192). Atomic FP32 add. -/
  | afadd (d : BitVec 5) (a : BitVec 5) (b : BitVec 5) (w : BitVec 3) (s : BitVec 2)
  /-- ABADD2 (R192). Atomic add of two BF16 lanes. -/
  | abadd2 (d : BitVec 5) (a : BitVec 5) (b : BitVec 5) (w : BitVec 3) (s : BitVec 2)
  /-- ATAKE (R192). Atomic take that subtracts only when the word suffices. -/
  | atake (d : BitVec 5) (a : BitVec 5) (b : BitVec 5) (w : BitVec 3) (s : BitVec 2)
  /-- AGIVE (R192). Atomic saturating add. -/
  | agive (d : BitVec 5) (a : BitVec 5) (b : BitVec 5) (w : BitVec 3) (s : BitVec 2)
  /-- RADD (R193). Posted add reduction. -/
  | radd (d : BitVec 5) (a : BitVec 5) (b : BitVec 5) (w : BitVec 3) (s : BitVec 2)
  /-- RMIN (R193). Posted signed minimum reduction. -/
  | rmin (d : BitVec 5) (a : BitVec 5) (b : BitVec 5) (w : BitVec 3) (s : BitVec 2)
  /-- RMAX (R193). Posted signed maximum reduction. -/
  | rmax (d : BitVec 5) (a : BitVec 5) (b : BitVec 5) (w : BitVec 3) (s : BitVec 2)
  /-- RMINN (R193). Posted unsigned minimum reduction. -/
  | rminn (d : BitVec 5) (a : BitVec 5) (b : BitVec 5) (w : BitVec 3) (s : BitVec 2)
  /-- RMAXN (R193). Posted unsigned maximum reduction. -/
  | rmaxn (d : BitVec 5) (a : BitVec 5) (b : BitVec 5) (w : BitVec 3) (s : BitVec 2)
  /-- RAND (R193). Posted AND reduction. -/
  | rand (d : BitVec 5) (a : BitVec 5) (b : BitVec 5) (w : BitVec 3) (s : BitVec 2)
  /-- ROR (R193). Posted OR reduction. -/
  | ror (d : BitVec 5) (a : BitVec 5) (b : BitVec 5) (w : BitVec 3) (s : BitVec 2)
  /-- RXOR (R193). Posted XOR reduction. -/
  | rxor (d : BitVec 5) (a : BitVec 5) (b : BitVec 5) (w : BitVec 3) (s : BitVec 2)
  /-- RFADD (R193). Posted FP32 add reduction. -/
  | rfadd (d : BitVec 5) (a : BitVec 5) (b : BitVec 5) (w : BitVec 3) (s : BitVec 2)
  /-- RBADD2 (R193). Posted BF16-pair add reduction. -/
  | rbadd2 (d : BitVec 5) (a : BitVec 5) (b : BitVec 5) (w : BitVec 3) (s : BitVec 2)
  /-- COPY (R205). Checks and issues copy template K with parameters a and b. -/
  | copy (d : BitVec 5) (a : BitVec 5) (b : BitVec 5) (k : BitVec 6)
  /-- CARM (R205). Arms template K to a trigger port. -/
  | carm (k : BitVec 6) (p : BitVec 3)
  /-- CDIS (R205). Disarms a trigger port. -/
  | cdis (p : BitVec 3)
  /-- CSTAT (R206). Delivers the status word of a copy template. -/
  | cstat (d : BitVec 5) (k : BitVec 6)
  /-- TAGANY (R204). Delivers 1 when any masked completion-tag bit is set. -/
  | tagany (d : BitVec 5) (a : BitVec 5) (b : BitVec 5)
  /-- TAGALL (R204). Delivers 1 when every masked completion-tag bit is set. -/
  | tagall (d : BitVec 5) (a : BitVec 5) (b : BitVec 5)
  /-- TAGFF (R204). Delivers the lowest set masked completion-tag bit, or 64. -/
  | tagff (d : BitVec 5) (a : BitVec 5) (b : BitVec 5)
  /-- TAGCLR (R204). Clears masked completion-tag bits. -/
  | tagclr (a : BitVec 5) (b : BitVec 5)
  /-- BARINIT (R207). Arms a barrier object with an expected count. -/
  | barinit (d : BitVec 5) (a : BitVec 5) (b : BitVec 5) (w : BitVec 3) (s : BitVec 2)
  /-- BARARR (R208). Arrives at a barrier after earlier operations perform. -/
  | bararr (d : BitVec 5) (a : BitVec 5) (w : BitVec 3) (s : BitVec 2)
  /-- BARKILL (R207). Kills a barrier, releasing waiters with ABORT. -/
  | barkill (d : BitVec 5) (a : BitVec 5) (w : BitVec 3) (s : BitVec 2)
  /-- BARQ (R207). Delivers a barrier's state word. -/
  | barq (d : BitVec 5) (a : BitVec 5) (w : BitVec 3) (s : BitVec 2)
  /-- WALK (R209). Submits a walk to the element's Loupe. -/
  | walk (d : BitVec 5) (a : BitVec 5) (b : BitVec 5) (w : BitVec 3)
  /-- SIGSEND (R211). Sends a signal to a span region's handler entry. -/
  | sigsend (d : BitVec 5) (a : BitVec 5) (b : BitVec 5) (h : BitVec 4)
  /-- EVENT (R211). Posts a user event to the context event queue. -/
  | event (d : BitVec 5) (a : BitVec 5) (b : BitVec 5)
  /-- SEGSTEP (R235). Consumes one activation into the pending run, emitting a closed segment. -/
  | segstep (d : BitVec 5) (a : BitVec 5) (k : BitVec 3) (t : BitVec 1)
  /-- SEGEND (R236). Flushes the pending run at a stop token. -/
  | segend (d : BitVec 5) (a : BitVec 5) (k : BitVec 3) (f : BitVec 2) (t : BitVec 1)
  /-- SUMNEW (R238). Creates and selects a sum table, removing overlapping tables. -/
  | sumnew (a : BitVec 5) (k : BitVec 3)
  /-- SUMAPP (R239). Writes one running sum from its predecessor. -/
  | sumapp (a : BitVec 5) (b : BitVec 5)
  /-- SUMBSC (R240). Sets band scales of a band of the selected table. -/
  | sumbsc (a : BitVec 5) (b : BitVec 5) (n : BitVec 2)
  /-- SUMPATCH (R241). Adds a weight delta to the entries of a band from a row on. -/
  | sumpatch (a : BitVec 5) (b : BitVec 5)
  /-- SUMRD (R242). Reads one Hoop entry. -/
  | sumrd (d : BitVec 5) (b : BitVec 5) (t : BitVec 4)
  /-- SUMSEAL (R243). Seals every slot of the selected table. -/
  | sumseal
  /-- PTBL (R244). Selects the table slot the Press uses. -/
  | ptbl (a : BitVec 5)
  /-- PMASK (R244). Sets words of the Press column mask. -/
  | pmask (a : BitVec 5) (b : BitVec 5)
  /-- PPOINT (R244). Sets the binary point of an accumulator row. -/
  | ppoint (a : BitVec 5) (r : BitVec 4)
  /-- PCLR (R244). Clears one or all accumulator rows. -/
  | pclr (r : BitVec 4) (l : BitVec 1)
  /-- PSEG (R245). Multiplies one segment into an accumulator row across enabled columns. -/
  | pseg (a : BitVec 5) (r : BitVec 4)
  /-- PDENSE (R246). Accumulates four length-1 segments from packed i8 activations. -/
  | pdense (a : BitVec 5) (b : BitVec 5) (r : BitVec 4)
  /-- PVLDA (R247). Loads lanes of vector VA. -/
  | pvlda (a : BitVec 5) (b : BitVec 5) (f : BitVec 3)
  /-- PVLDB (R247). Loads lanes of vector VB. -/
  | pvldb (a : BitVec 5) (b : BitVec 5) (f : BitVec 3)
  /-- POUTER (R248). Adds an outer product of VA and VB into a column group. -/
  | pouter (a : BitVec 5) (b : BitVec 5) (g : BitVec 4)
  /-- PREAD (R249). Converts a run of accumulator columns through the result port. -/
  | pread (a : BitVec 5) (b : BitVec 5) (r : BitVec 4) (f : BitVec 2)
  /-- PSTAT (R250). Delivers the Press status word of a row. -/
  | pstat (d : BitVec 5) (a : BitVec 5)
  /-- PSYNC (R251). Emits a token once earlier Press commands and PREAD tokens are done. -/
  | psync (d : BitVec 5) (a : BitVec 5)
  /-- WRD (R312). Walk read of a word into a walk register. -/
  | wrd (d : BitVec 5) (w : BitVec 2) (m : BitVec 7)
  /-- WPTR (R312). Walk read of a word into PTR. -/
  | wptr (d : BitVec 5) (m : BitVec 7)
  /-- WCMP (R313). Compares a walk register with KEY into a predicate. -/
  | wcmp (d : BitVec 5) (w : BitVec 2)
  /-- WHASH (R313). Hashes KEY with a seed into a walk register. -/
  | whash (d : BitVec 5) (a : BitVec 5) (w : BitVec 2)
  /-- WRET (R312). Reads the record at PTR and ends the walk FOUND. -/
  | wret (n : BitVec 4)
  /-- WMISS (R313). Ends the walk with status MISS. -/
  | wmiss
  /-- WFAIL (R313). Ends the walk with status ABORT code 0. -/
  | wfail
  /-- WNEXT (R312). Follows a pointer field, ending MISS on zero. -/
  | wnext (d : BitVec 5) (m : BitVec 7)
  /-- TRAP (R415). Records a TRAP fault with a user code and freezes the element. -/
  | trap (a : BitVec 5) (b : BitVec 5)
  /-- BRK (R415). Records a BRK fault with a user code and freezes the element. -/
  | brk (a : BitVec 5) (b : BitVec 5)
  /-- WHEY (R281). Emits the element's statistics count group and clears its counters. -/
  | whey
  /-- IDENT (R325). Delivers an identity word chosen by a selector. -/
  | ident (d : BitVec 5) (s : BitVec 3)
  /-- CLOCK (R326). Requests the 64-bit region cycle counter. -/
  | clock (d : BitVec 5)
  /-- XCTL (R282). Sends a write to a unit register. -/
  | xctl (d : BitVec 5) (a : BitVec 5) (s : BitVec 5) (r : BitVec 4)
  /-- XSTAT (R282). Sends a read of a unit register. -/
  | xstat (d : BitVec 5) (s : BitVec 5) (r : BitVec 4)
  /-- RULE_URGENT (R72). A rule whose WAIT count reaches 15 becomes urgent. -/
  | ruleUrgent (el : Nat) (rule : Nat)
  /-- LONG_LATENCY_COMMIT (R75). A long-latency rule commits its register, predicate and counter writes and its token. -/
  | longLatencyCommit (el : Nat) (id : Nat)
  /-- TOKEN_ARRIVAL (R21). A token reaches an input end after its route delay. -/
  | tokenArrival (ch : Nat)
  /-- HALTED_DISCARD (R89). A HALTED element discards a token reaching an input or control input head. -/
  | haltedDiscard (el : Nat)
  /-- ELEMENT_MARK (R87). An element stops when MARK heads its forward inputs, enqueues MARK and enters MARKED. -/
  | elementMark (el : Nat)
  /-- ELEMENT_DRAIN_FORWARD (R88). An element forwards DRAIN with its final whey group and enters DRAINED. -/
  | elementDrainForward (el : Nat)
  /-- MEMORY_ACCESS_AT_HOME (R187). A home performs a read, write, atomic or reduction on its bytes. -/
  | memoryAccessAtHome (acc : Nat)
  /-- MEMORY_RESPONSE (R185). A value or completion token of a memory operation is delivered. -/
  | memoryResponse (acc : Nat)
  /-- POSTED_TRANSLATE (R184). A posted store, STG or reduction is translated at the E-tile translation point. -/
  | postedTranslate (acc : Nat)
  /-- PAGE_WALK (R394). The walker completes a translation walk and records a leaf or fault outcome. -/
  | pageWalk (walk : Nat)
  /-- FENCE_COMPLETE (R191). A FENCE token is emitted once covered operations have performed. -/
  | fenceComplete (el : Nat) (id : Nat)
  /-- COPY_TRIGGER (R203). The copy engine takes a trigger token and issues the armed template. -/
  | copyTrigger (tile : Nat)
  /-- COPY_ISSUE_DEFERRED (R205). A checked COPY waiting for fewer than 256 copies in flight issues. -/
  | copyIssueDeferred (el : Nat) (id : Nat)
  /-- COPY_TRANSFER (R200). A copy in flight reads and writes its next element. -/
  | copyTransfer (tile : Nat) (flight : Nat)
  /-- COPY_COMPLETE (R200). A copy completes when every write has performed at its scope. -/
  | copyComplete (tile : Nat) (flight : Nat)
  /-- COPY_ENGINE_DRAIN (R203). The copy engine enqueues DRAIN once triggers, elements and copies are done. -/
  | copyEngineDrain (tile : Nat)
  /-- BARARR_SEND (R208). A BARARR's arrival is sent once earlier operations have performed. -/
  | bararrSend (el : Nat) (id : Nat)
  /-- BARRIER_HOME_OP (R385). A barrier home decides and performs a barrier operation on its object. -/
  | barrierHomeOp (op : Nat)
  /-- BARRIER_VERDICT (R207). A barrier verdict reaches the element, committing or aborting its rule. -/
  | barrierVerdict (op : Nat)
  /-- WALK_ACCEPT (R306). The Loupe accepts a submitted walk into a free slot. -/
  | walkAccept (el : Nat) (id : Nat)
  /-- WALK_READ_RETURN (R312). A walk read returns and its instruction completes. -/
  | walkReadReturn (etile : Nat) (slot : Nat)
  /-- WALK_RESULT_DELIVERY (R314). An ended walk's status and record tokens enter its RET end. -/
  | walkResultDelivery (etile : Nat) (slot : Nat)
  /-- PRESS_COMMAND_PERFORM (R228). A Press command's effects and register writes become visible. -/
  | pressCommandPerform (tile : Nat)
  /-- PRESS_RESULT_DELIVERY (R249). The result buffer feeds a PREAD token into the result channel. -/
  | pressResultDelivery (tile : Nat)
  /-- PRESS_MARK (R252). The Press enqueues MARK behind buffered tokens. -/
  | pressMark (tile : Nat)
  /-- PRESS_DRAIN (R252). The Press forwards DRAIN once commands, buffer and Hoop copies are done. -/
  | pressDrain (tile : Nat)
  /-- SCANNER_STEP (R261). A scanner takes a reference or emits one fibre entry. -/
  | scannerStep (unit : Nat)
  /-- INTERSECTER_STEP (R263). An intersecter compares its heads and emits a match, union entry or stop. -/
  | intersecterStep (unit : Nat)
  /-- REPEATER_STEP (R264). A repeater fills, takes a count or emits copies of a fibre. -/
  | repeaterStep (unit : Nat)
  /-- REDUCER_STEP (R265). A reducer accumulates a coordinate-value pair or takes a low stop. -/
  | reducerStep (unit : Nat)
  /-- REDUCER_FLUSH (R265). A reducer emits its touched entries and a stop. -/
  | reducerFlush (unit : Nat)
  /-- NM_DECODER_STEP (R267). An N:M decoder expands one group of a metadata token. -/
  | nmDecoderStep (unit : Nat)
  /-- APERTURE_STEP (R269). The Aperture unit takes a pixel or emits a window token. -/
  | apertureStep (unit : Nat)
  /-- SPLITTER_STEP (R272). The Splitter takes a slot and streams a vector, or passes a stop. -/
  | splitterStep (unit : Nat)
  /-- SPLITTER_SLOT_RETRY (R272). A held vector retries its failed ATAKE within 16 rounds. -/
  | splitterSlotRetry (unit : Nat)
  /-- SPLITTER_SPILL_WRITE (R273). A vector is written to its target's spill ring. -/
  | splitterSpillWrite (unit : Nat)
  /-- SPLITTER_SPILL_READ (R273). A spilled vector is read and emitted after a successful ATAKE. -/
  | splitterSpillRead (unit : Nat)
  /-- COLLIMATOR_STEP (R275). The Collimator streams, buffers or emits vectors in SEQ order. -/
  | collimatorStep (unit : Nat)
  /-- UNIT_MARK (R258). A unit enqueues MARK and enters MARKED. -/
  | unitMark (unit : Nat)
  /-- UNIT_DRAIN (R258). A unit forwards DRAIN once inputs, buffers and accesses are done. -/
  | unitDrain (unit : Nat)
  /-- XCTL_APPLY (R282). A deferred unit register write takes effect at an element boundary. -/
  | xctlApply (unit : Nat)
  /-- UNIT_REGISTER_READ (R282). An XSTAT request reads a unit register on arrival. -/
  | unitRegisterRead (el : Nat) (id : Nat)
  /-- CLOCK_READ (R326). A CLOCK request reads the region cycle counter on arrival. -/
  | clockRead (el : Nat) (id : Nat)
  /-- WHEY_ADDER_STEP (R58). A whey adder node sums one group from each input. -/
  | wheyAdderStep (unit : Nat)
  /-- WHEY_ROOT_WRITE (R278). A whey root writes a statistics record. -/
  | wheyRootWrite (unit : Nat)
  /-- BRINE_WHEY_EMIT (R279). The Brine codec emits a conversion group after a closing stop or drain. -/
  | brineWheyEmit (unit : Nat)
  /-- IMAGE_LOAD (R328). Region controllers fetch, check and place an image on a span. -/
  | imageLoad (task : Nat)
  /-- SOURCE_INJECT (R329). A region controller injects an argument word or DRAIN at a source. -/
  | sourceInject (region : Nat) (src : Nat)
  /-- SINK_TAKE (R330). A region controller takes and counts a token at a sink. -/
  | sinkTake (region : Nat) (sink : Nat)
  /-- FAULT_RECORD_POST (R332). A fault record is written to the context fault queue. -/
  | faultRecordPost (ctx : Nat)
  /-- EVENT_RECORD_WRITE (R365). An event record is written to the context event queue. -/
  | eventRecordWrite (ctx : Nat)
  /-- SIGNAL_HANDLE (R337). A region controller handles a signal by its entry. -/
  | signalHandle (sig : Nat)
  /-- REGION_DRAIN_COMPLETE (R321). A DRAINING region becomes FREE once engines and accesses are done. -/
  | regionDrainComplete (region : Nat)
  /-- CONFIG_SIGNATURE_CHECK (R333). The periodic CRC-64 recheck of configuration stores runs. -/
  | configSignatureCheck (region : Nat)
  /-- CONFIG_STORE_ERROR (R333). An uncorrectable configuration word puts the region into RELOADING. -/
  | configStoreError (region : Nat)
  /-- CONFIG_RELOAD_DONE (R333). A verified reload returns the region to its prior state. -/
  | configReloadDone (region : Nat)
  /-- REGION_RESUME (R332). RCMD RESUME resumes a FROZEN element, unit or copy engine. -/
  | regionResume (region : Nat) (endid : Word)
  /-- REGION_FENCE (R339). RCMD FENCE fences the region until reset. -/
  | regionFence (region : Nat) (code : Byte)
  /-- SIGCOMMIT (R336). Replaces or empties a signal-handler entry from SIGSTAGE. -/
  | sigcommit (region : Nat) (v : Word)
  /-- UNHPOP (R322). Removes the oldest unhandled-signal record. -/
  | unhpop (region : Nat)
  /-- UDATA_WRITE (R322). Writes the selected unit register as an XCTL does. -/
  | udataWrite (region : Nat) (v : Word)
  /-- DISPATCH_ADMIT (R343). The dispatcher takes a queue head record and admits or rejects it. -/
  | dispatchAdmit
  /-- QUEUE_AGED (R345). A queue head unserved for 2^20 rounds becomes aged. -/
  | queueAged (queue : Nat)
  /-- TASK_BIND (R346). The dispatcher binds the first ranked task to a span and claims its regions. -/
  | taskBind
  /-- BIND_RESERVATION (R346). A task READY or SUSPENDED for 2^22 rounds reserves binding. -/
  | bindReservation
  /-- QUANTUM_EXPIRY (R350). A task's quantum expires. -/
  | quantumExpiry (task : Nat)
  /-- MARK_INJECT (R351). The dispatcher commands MARK at every source of the span once allowed. -/
  | markInject (task : Nat)
  /-- TASK_SAVE_COMPLETE (R352). A pre-empted task's state is saved and it becomes SUSPENDED. -/
  | taskSaveComplete (task : Nat)
  /-- TASK_DRAIN_DETECT (R354). A task enters DRAINING when every element, unit and sink has drained. -/
  | taskDrainDetect (task : Nat)
  /-- TASK_RETIRE (R354). A task retires DONE or FAULTED once every region is FREE. -/
  | taskRetire (task : Nat)
  /-- ABORT (R357). DCMD ABORT retires a task ABORTED by its state. -/
  | abort (ctx : Nat) (taskid : BitVec 16)
  /-- PREEMPT (R356). DCMD PREEMPT acts as a quantum expiry for a RUNNING task. -/
  | preempt (ctx : Nat) (taskid : BitVec 16)
  /-- CREATE (R362). Checks the control block and makes a context ACTIVE. -/
  | create (ctx : Nat)
  /-- RESTORE (R371). Reads a save area into a FREE context. -/
  | restore (ctx : Nat)
  /-- CONTEXT_RESTORE_DONE (R361). RESTORE finishes reading the save area and the context is SUSPENDED. -/
  | contextRestoreDone (ctx : Nat)
  /-- QUIESCE (R370). Pauses a context's queues and pre-empts its tasks. -/
  | quiesce (ctx : Nat)
  /-- QUIESCE_COMPLETE (R370). The context's tasks are saved and CTX_QUIESCED is posted. -/
  | quiesceComplete (ctx : Nat)
  /-- RESUME (R371). Re-admits a SUSPENDED context's saved entries and resumes its queues. -/
  | resume (ctx : Nat)
  /-- DESTROY (R372). Aborts a context's tasks and releases its resources. -/
  | destroy (ctx : Nat)
  /-- DESTROY_COMPLETE (R372). A DESTROYING context becomes FREE once its accesses are done. -/
  | destroyComplete (ctx : Nat)
  /-- RESOLVE_REPLAY (R367). Replays a parked posted operation, copy or walk read. -/
  | resolveReplay (ctx : Nat) (handle : Nat)
  /-- RESOLVE_DISCARD (R367). Discards a parked posted operation or ends a parked walk. -/
  | resolveDiscard (ctx : Nat) (handle : Nat)
  /-- HARVEST (R369). ORs the live dirty bitmap into the shadow and clears it word by word. -/
  | harvest (ctx : Nat)
  /-- HARVEST_COMPLETE (R369). HARVEST completes once harvested writes have performed. -/
  | harvestComplete (ctx : Nat)
  /-- QUOTA_WRITE (R362). Writes a context's region quota, checked against SAVELEN. -/
  | quotaWrite (ctx : Nat) (v : Word)
  /-- ENQ (R377). A queue accepts a task record into a slot or the spill ring, or NACKs it. -/
  | enq (t : Txn)
  /-- ENQ_SPILL_DONE (R377). A spill write performs and the ENQ is answered. -/
  | enqSpillDone (queue : Nat)
  /-- QUEUE_REFILL_DONE (R380). A refill read moves the oldest spilled record into a slot. -/
  | queueRefillDone (queue : Nat)
  /-- QUEUE_ENABLE (R376). QCMD ENABLE checks and activates a queue. -/
  | queueEnable (queue : Nat)
  /-- QUEUE_DISABLE (R376). QCMD DISABLE discards records and disables a queue. -/
  | queueDisable (queue : Nat)
  /-- PAUSE (R374). QCMD PAUSE stops admission from a queue. -/
  | pause (queue : Nat)
  /-- UNPAUSE (R374). QCMD UNPAUSE reopens a paused queue. -/
  | unpause (queue : Nat)
  /-- CLOSE (R374). QCMD CLOSE sets the CLOSE flag of a queue. -/
  | close (queue : Nat)
  /-- CLEAR (R374). QCMD CLEAR leaves SPILL_FAULT. -/
  | clear (queue : Nat)
  /-- TINV_PAGE (R398). Drops cached translations of a page range of a context. -/
  | tinvPage (cmd : Dword)
  /-- TINV_CONTEXT (R398). Drops every cached translation of a context. -/
  | tinvContext (cmd : Dword)
  /-- TINV_COMPLETE (R399). An invalidation completes and TSTATUS reads 0. -/
  | tinvComplete
  /-- DEVICE_RESET (R403). Device reset clears state and starts link training. -/
  | deviceReset
  /-- PLL_LOCK_LOSS (R429). Loss of PLL lock resets the whole device. -/
  | pllLockLoss
  /-- BOOT (R431). The boot ROM checks firmware copies and runs one or enters BOOTFAIL. -/
  | boot
  /-- LINK_TRAINING_DONE (R403). Training ends UP, DEGRADED or DOWN. -/
  | linkTrainingDone (link : Nat) (lanes : BitVec 4)
  /-- FLIT_RECEIVE (R405). A receiver takes or drops a flit, requesting replay on a gap. -/
  | flitReceive (link : Nat) (flit : List Byte)
  /-- REPLAY_REQUEST (R405). A sender resends flits from the requested SEQ. -/
  | replayRequest (link : Nat) (seq : BitVec 12)
  /-- REPLAY_EXHAUSTED (R403). Eight failed replays of one flit send the link to TRAINING. -/
  | replayExhausted (link : Nat)
  /-- LINK_ENABLE (R412). LCMD ENABLE starts training a DOWN link. -/
  | linkEnable (link : Nat)
  /-- LINK_DISABLE (R412). LCMD DISABLE takes a link DOWN. -/
  | linkDisable (link : Nat)
  /-- LINK_RETRAIN (R412). LCMD RETRAIN sends a link to TRAINING. -/
  | linkRetrain (link : Nat)
  /-- LINK_FENCE (R412). LCMD FENCE fences a link until reset. -/
  | linkFence (link : Nat)
  /-- READ (R406). A fabric READ of device memory. -/
  | read (t : Txn)
  /-- WRITE (R406). A fabric WRITE of device memory. -/
  | write (t : Txn)
  /-- SIGNAL (R406). A fabric SIGNAL to a region's handler entry. -/
  | signal (t : Txn)
  /-- ATOMIC (R406). A fabric 4-byte atomic performed at the word's home. -/
  | atomic (t : Txn)
  /-- XCHG64 (R406). A fabric 8-byte exchange. -/
  | xchg64 (t : Txn)
  /-- CAS64 (R406). A fabric 8-byte compare-and-swap. -/
  | cas64 (t : Txn)
  /-- REDUCE (R406). A fabric reduction performed at the word's home. -/
  | reduce (t : Txn)
  /-- RESPONSE (R290). A RESPONSE from an endpoint completes a device access to fabric space. -/
  | response (t : Txn)
  /-- NACK (R409). A NACK answers a device transaction. -/
  | nack (t : Txn)
  /-- MGMT (R410). A MGMT transaction reads or writes a management register. -/
  | mgmt (t : Txn)
  /-- TRANSACTION_RESEND (R407). A transaction unanswered for 100 µs is resent. -/
  | transactionResend (ep : Nat) (eseq : BitVec 16)
  /-- REGISTER_WRITE (R410). A write to a register without its own row. -/
  | registerWrite (off : Nat) (v : Dword) (wide : Bool)
  /-- ACL_WRITE (R433). Writes an access entry, ignored if no ADMIN entry would remain. -/
  | aclWrite (off : Nat) (v : Dword) (wide : Bool)
  /-- MEASMASK_WRITE (R432). Writes MEASMASK, clearing CTXMEAS of newly set contexts. -/
  | measmaskWrite (v : Dword) (wide : Bool)
  /-- REPORT (R436). ATTCMD REPORT starts a signed attestation report. -/
  | report (cmd : Dword)
  /-- REPORT_DONE (R436). The report has performed and ATTSTATUS reads 0. -/
  | reportDone
  /-- SCRUB_PASS (R420). The scrubber reads and corrects a group. -/
  | scrubPass (group : Nat) (bank : Option Nat)
  /-- POWER_GOVERNOR_SAMPLE (R428). Every 256 rounds regions estimate current and throttle issue. -/
  | powerGovernorSample
  /-- DFL_RECORD_WRITE (R424). A device fault log record is written to the ring. -/
  | dflRecordWrite
  /-- ROUND (R71). Each fabric round advances every region cycle counter, advances ROT of every RUNNING element and updates WAIT counts, and lets the Loupe fire its walks, whether or not any rule fires. -/
  | round
  /-- COPY_ENGINE_MARK (R201). At MARK the copy engine stops issuing, waits for issued writes to perform, saves each copy in flight as template, a, b and watermark, and enqueues MARK as an element does. -/
  | copyEngineMark (tile : Nat)
  deriving DecidableEq, Repr

end Sys2Proof
end

