-- ==== Sys2Proof/Machine/State.lean ====
section
/-! DEFINITION. The machine's state: everything the spec gives the device, as plain data, and the state after reset. -/

namespace Sys2Proof.Machine

/-- R284: device memory, one listed cell for each byte that is not 0, addresses strictly rising. An unlisted byte of a
place that exists reads 0 (DESIGN CHOICE, notes/assumptions/3). -/
abbrev Memory := List Host.Cell

/-- What the round still has to do. -/
inductive Todo where
  /-- A rule the Prism chose (R70). -/
  | fire (el rule : Nat)
  /-- A walk the Loupe serves (R310). -/
  | walk (etile slot : Nat)
  /-- A step without an encoding. -/
  | ev (e : Ev)
  deriving DecidableEq, Repr

/-- Whose action word is executing: a rule of an element, a rule of a walk, or none. -/
inductive Cursor where
  | none
  | rule (el rule : Nat)
  | walk (etile slot rule : Nat)
  deriving DecidableEq, Repr

/-- The whole state. A table lists what differs from its reset value. -/
structure State where
  /-- Rule elements by element id (R8, R60). -/
  elems   : Table Elem := []
  /-- Channels and control channels (R128). -/
  chans   : Table Channel := []
  /-- Whey lanes (R277). -/
  wheys   : Table WheyLink := []
  /-- Copy engines by tile id (R195 to R203). -/
  copies  : Table CopyEng := []
  /-- Presses and Hoops by tile id (R215 to R226). -/
  presses : Table Press := []
  /-- Stream units, whey nodes and Brine codecs by tile id × 64 + UNIT code (R126, R255). -/
  units   : Table SUnit := []
  /-- Loupes by tile id (R305). -/
  loupes  : Table Loupe := []
  /-- Device memory (R284). -/
  mem     : Memory := []
  /-- Accesses in the memory system, oldest first (R186, R187). -/
  accs    : List Access := []
  /-- Page walks (R394, R397). -/
  pwalks  : List PWalk := []
  /-- Translation caches and points by tile id (R397). -/
  tlbs    : Table Tlb := []
  /-- Barrier operations, parked waiters, release tokens (R207, R386). -/
  bars    : List BarOp := []
  waiters : List Waiter := []
  releases : List Release := []
  /-- The first bytes of the groups and lines with a poison mark (R421, R422), numbered as SCRUB_PASS numbers them. -/
  poison  : List Nat := []
  /-- Groups with a symbol in error (R419). -/
  flaws   : List Flaw := []
  /-- Banks with corrections, by slice, Hoop or cache (R420). -/
  banks   : Table Banks := []
  /-- Residue mismatches of each tile in this scrub period (R423). -/
  residue : Table Nat := []
  /-- R423: elements and Presses (tile × 64 + UNIT) whose next result has a wrong residue. -/
  upsets  : List Nat := []
  /-- R422, R424: storage that has failed and has not been read since. -/
  lost    : List Lost := []
  /-- Region controllers by region id (R322). -/
  regions : Table Region := []
  /-- Signals on their way (R337). -/
  signals : List Signal := []
  /-- The dependence table (R343). -/
  tasks   : Table Task := []
  /-- R345: the pattern slot, the class pointers, the aged pointer. -/
  dslot   : Nat := 0
  dptrs   : Vector Nat 4 := Vector.replicate 4 2047
  daged   : Nat := 2047
  /-- R346: the task that holds the binding reservation. -/
  reserve : Option Nat := none
  /-- R352, R370: what the device has written into save areas: the bytes, and the task's state or the header they stand for,
newest first (notes/assumptions/25). -/
  saves   : List (List Byte × Saved) := []
  heads   : List (List Byte × Head) := []
  /-- Contexts (R362) and queues (R375). -/
  ctxs    : Table Ctx := []
  queues  : Table Queue := []
  /-- R398: the translation block. -/
  tinv    : Tinv := {}
  /-- Links (R402) and fabric endpoints (R407). -/
  links   : Table Link := []
  eps     : Table Endpoint := []
  /-- Transactions of the device waiting for a port (R407). -/
  outq    : List Txn := []
  /-- R424: the device fault log. -/
  dfl     : Dfl := {}
  /-- R428: THROTCNT, rounds since the last sample, whether issue is withheld. -/
  throtcnt : Word := 0
  govAge  : Nat := 0
  throttle : Bool := false
  /-- R432: the security block. -/
  sec     : Sec := {}
  /-- The model's own: the steps of the round still to run. -/
  agenda  : List Todo := []
  /-- The model's own: whose action word is executing. -/
  cur     : Cursor := .none
  /-- The model's own: what the outside world does in the coming rounds. -/
  inputs  : List (List Ev) := []
  /-- The model's own: rounds since reset, for what the hub orders by rounds (R346, R347). -/
  round   : Nat := 0
  /-- The model's own: numbers the free choices. -/
  tick    : Nat := 0
  /-- The model's own: names for accesses, walks, signals and channels, and the order of events. -/
  fresh   : Nat := 0
  deriving DecidableEq, Repr

/-- Right after device reset: every region FREE with its counter at 0, every context FREE, every queue DISABLED, every
link TRAINING, the boot state RESET (R24, R403, R437), memory with nothing listed. -/
def State.reset : State := {}

/-- Why the machine stops with a fault. -/
inductive Fault where
  /-- Raised by a control-block access to a physical address that does not exist (R284) and that no check of the spec
  turned away, such as DFLBASE in a hole; safe, since the machine stops where the spec gives nothing. -/
  | hole
  deriving DecidableEq, Repr

/-- Why the machine has no meaning for a step. -/
inductive Refusal where
  /-- Raised by an arm of exec that has no meaning yet; safe. -/
  | notModelled (mnemonic : String)
  /-- Raised by a rule whose action word is no instruction: the loader places no such word (R122); safe. -/
  | badWord
  deriving DecidableEq, Repr

/-- The three outcomes of a step of this machine. -/
abbrev Out := Host.Outcome State Fault Refusal

end Sys2Proof.Machine
end

