-- ==== Sys2Proof/Decode.lean ====
section
/-! DEFINITION. The decoder and the encoder of action words (spec/05 R111, R113 to R122), written from the encoding tables. -/

namespace Sys2Proof

/-- Why a word is not an instruction: the loader's fault (R122). -/
inductive Reject where
  /-- An unassigned opcode, CFG_BADOP. -/
  | badOp
  /-- A reserved or unused field that is not zero, CFG_FIELD. -/
  | field
  /-- Fewer than four bytes. -/
  | short
  deriving DecidableEq, Repr

/-- Bits `lo + n - 1 : lo` of a word. -/
def fld (w : Word) (lo n : Nat) : BitVec n := BitVec.ofNat n (w.toNat / 2 ^ lo)

/-- Bits `lo + n - 1 : lo` of a word as a number. -/
def fldN (w : Word) (lo n : Nat) : Nat := w.toNat / 2 ^ lo % 2 ^ n

/-- R113: a word whose fixed fields hold their values is `i`, any other is refused. -/
def fixed (ok : Bool) (i : Instr) : Except Reject Instr := if ok then .ok i else .error .field


/-- R120: the opcodes 0x00 to 0x0F. -/
def decodeRow0 (w : Word) : Except Reject Instr :=
  match fldN w 24 4 with
  | 0x0 => fixed (fldN w 0 4 == 0 && fldN w 9 15 == 0) (.nop (fld w 6 3) (fld w 4 2))
  | 0x1 => fixed (fldN w 9 5 == 0) (.mov (fld w 19 5) (fld w 14 5) (fld w 6 3) (fld w 4 2) (fld w 0 4))
  | 0x2 => fixed (fldN w 0 4 == 0 && fldN w 9 5 == 0) (.pass (fld w 19 5) (fld w 14 5) (fld w 6 3) (fld w 4 2))
  | 0x3 => fixed (fldN w 0 4 == 0 && fldN w 9 5 == 0 && fldN w 19 5 == 24) (.drop (fld w 14 5) (fld w 6 3) (fld w 4 2))
  | 0x4 => fixed (true) (.sel (fld w 19 5) (fld w 14 5) (fld w 9 5) (fld w 6 3) (fld w 4 2) (fld w 0 4))
  | 0x5 => fixed (fldN w 0 4 == 0) (.steer (fld w 19 5) (fld w 14 5) (fld w 9 5) (fld w 6 3) (fld w 4 2))
  | 0x6 => fixed (fldN w 9 5 == 0) (.tagof (fld w 19 5) (fld w 14 5) (fld w 6 3) (fld w 4 2) (fld w 0 4))
  | 0x7 => fixed (fldN w 0 4 == 0) (.mktag (fld w 19 5) (fld w 14 5) (fld w 9 5) (fld w 6 3) (fld w 4 2))
  | 0x8 => fixed (true) (.pand (fld w 19 5) (fld w 14 5) (fld w 9 5) (fld w 6 3) (fld w 4 2) (fld w 0 4))
  | 0x9 => fixed (true) (.por (fld w 19 5) (fld w 14 5) (fld w 9 5) (fld w 6 3) (fld w 4 2) (fld w 0 4))
  | 0xA => fixed (true) (.pxor (fld w 19 5) (fld w 14 5) (fld w 9 5) (fld w 6 3) (fld w 4 2) (fld w 0 4))
  | 0xB => fixed (fldN w 9 5 == 0) (.pnot (fld w 19 5) (fld w 14 5) (fld w 6 3) (fld w 4 2) (fld w 0 4))
  | 0xC => fixed (fldN w 9 5 == 0) (.pmov (fld w 19 5) (fld w 14 5) (fld w 6 3) (fld w 4 2) (fld w 0 4))
  | 0xD => fixed (fldN w 9 10 == 0) (.ptod (fld w 19 5) (fld w 6 3) (fld w 4 2) (fld w 0 4))
  | 0xE => fixed (fldN w 0 14 == 0 && fldN w 19 5 == 24) (.dtop (fld w 14 5))
  | _ => fixed (fldN w 0 4 == 0 && fldN w 9 5 == 0) (.iter (fld w 19 5) (fld w 14 5) (fld w 6 3) (fld w 4 2))

/-- R120: the opcodes 0x10 to 0x1F. -/
def decodeRow1 (w : Word) : Except Reject Instr :=
  match fldN w 24 4 with
  | 0x0 => fixed (fldN w 9 5 == 0) (.cntrd (fld w 19 5) (fld w 14 5) (fld w 6 3) (fld w 4 2) (fld w 0 4))
  | 0x1 => fixed (fldN w 0 4 == 0 && fldN w 9 5 == 0) (.cntset (fld w 19 5) (fld w 14 5) (fld w 6 3) (fld w 4 2))
  | 0x2 => fixed (fldN w 0 24 == 0) (.halt)
  | _ => .error .badOp

/-- R120: the opcodes 0x20 to 0x2F. -/
def decodeRow2 (w : Word) : Except Reject Instr :=
  match fldN w 24 4 with
  | 0x0 => fixed (true) (.add (fld w 19 5) (fld w 14 5) (fld w 9 5) (fld w 6 3) (fld w 4 2) (fld w 0 4))
  | 0x1 => fixed (true) (.sub (fld w 19 5) (fld w 14 5) (fld w 9 5) (fld w 6 3) (fld w 4 2) (fld w 0 4))
  | 0x2 => fixed (true) (.adds (fld w 19 5) (fld w 14 5) (fld w 9 5) (fld w 6 3) (fld w 4 2) (fld w 0 4))
  | 0x3 => fixed (true) (.subs (fld w 19 5) (fld w 14 5) (fld w 9 5) (fld w 6 3) (fld w 4 2) (fld w 0 4))
  | 0x4 => fixed (true) (.addsn (fld w 19 5) (fld w 14 5) (fld w 9 5) (fld w 6 3) (fld w 4 2) (fld w 0 4))
  | 0x5 => fixed (true) (.subsn (fld w 19 5) (fld w 14 5) (fld w 9 5) (fld w 6 3) (fld w 4 2) (fld w 0 4))
  | 0x6 => fixed (fldN w 9 5 == 0) (.neg (fld w 19 5) (fld w 14 5) (fld w 6 3) (fld w 4 2) (fld w 0 4))
  | 0x7 => fixed (fldN w 9 5 == 0) (.abs (fld w 19 5) (fld w 14 5) (fld w 6 3) (fld w 4 2) (fld w 0 4))
  | 0x8 => fixed (true) (.mul (fld w 19 5) (fld w 14 5) (fld w 9 5) (fld w 6 3) (fld w 4 2) (fld w 0 4))
  | 0x9 => fixed (true) (.mulh (fld w 19 5) (fld w 14 5) (fld w 9 5) (fld w 6 3) (fld w 4 2) (fld w 0 4))
  | 0xA => fixed (true) (.mulhn (fld w 19 5) (fld w 14 5) (fld w 9 5) (fld w 6 3) (fld w 4 2) (fld w 0 4))
  | 0xB => fixed (true) (.mac (fld w 19 5) (fld w 14 5) (fld w 9 5) (fld w 6 3) (fld w 4 2) (fld w 0 4))
  | 0xC => fixed (true) (.min (fld w 19 5) (fld w 14 5) (fld w 9 5) (fld w 6 3) (fld w 4 2) (fld w 0 4))
  | 0xD => fixed (true) (.max (fld w 19 5) (fld w 14 5) (fld w 9 5) (fld w 6 3) (fld w 4 2) (fld w 0 4))
  | 0xE => fixed (true) (.minn (fld w 19 5) (fld w 14 5) (fld w 9 5) (fld w 6 3) (fld w 4 2) (fld w 0 4))
  | _ => fixed (true) (.maxn (fld w 19 5) (fld w 14 5) (fld w 9 5) (fld w 6 3) (fld w 4 2) (fld w 0 4))

/-- R120: the opcodes 0x30 to 0x3F. -/
def decodeRow3 (w : Word) : Except Reject Instr :=
  match fldN w 24 4 with
  | 0x0 => fixed (true) (.and (fld w 19 5) (fld w 14 5) (fld w 9 5) (fld w 6 3) (fld w 4 2) (fld w 0 4))
  | 0x1 => fixed (true) (.or (fld w 19 5) (fld w 14 5) (fld w 9 5) (fld w 6 3) (fld w 4 2) (fld w 0 4))
  | 0x2 => fixed (true) (.xor (fld w 19 5) (fld w 14 5) (fld w 9 5) (fld w 6 3) (fld w 4 2) (fld w 0 4))
  | 0x3 => fixed (true) (.andn (fld w 19 5) (fld w 14 5) (fld w 9 5) (fld w 6 3) (fld w 4 2) (fld w 0 4))
  | 0x4 => fixed (true) (.orn (fld w 19 5) (fld w 14 5) (fld w 9 5) (fld w 6 3) (fld w 4 2) (fld w 0 4))
  | 0x5 => fixed (fldN w 9 5 == 0) (.not (fld w 19 5) (fld w 14 5) (fld w 6 3) (fld w 4 2) (fld w 0 4))
  | 0x6 => fixed (true) (.shl (fld w 19 5) (fld w 14 5) (fld w 9 5) (fld w 6 3) (fld w 4 2) (fld w 0 4))
  | 0x7 => fixed (true) (.shr (fld w 19 5) (fld w 14 5) (fld w 9 5) (fld w 6 3) (fld w 4 2) (fld w 0 4))
  | 0x8 => fixed (true) (.sar (fld w 19 5) (fld w 14 5) (fld w 9 5) (fld w 6 3) (fld w 4 2) (fld w 0 4))
  | 0x9 => fixed (true) (.rol (fld w 19 5) (fld w 14 5) (fld w 9 5) (fld w 6 3) (fld w 4 2) (fld w 0 4))
  | 0xA => fixed (fldN w 9 5 == 0) (.clz (fld w 19 5) (fld w 14 5) (fld w 6 3) (fld w 4 2) (fld w 0 4))
  | 0xB => fixed (fldN w 9 5 == 0) (.ctz (fld w 19 5) (fld w 14 5) (fld w 6 3) (fld w 4 2) (fld w 0 4))
  | 0xC => fixed (fldN w 9 5 == 0) (.popc (fld w 19 5) (fld w 14 5) (fld w 6 3) (fld w 4 2) (fld w 0 4))
  | 0xD => fixed (fldN w 9 5 == 0) (.brev (fld w 19 5) (fld w 14 5) (fld w 6 3) (fld w 4 2) (fld w 0 4))
  | 0xE => fixed (true) (.bfx (fld w 19 5) (fld w 14 5) (fld w 9 5) (fld w 6 3) (fld w 4 2) (fld w 0 4))
  | _ => fixed (true) (.bfxs (fld w 19 5) (fld w 14 5) (fld w 9 5) (fld w 6 3) (fld w 4 2) (fld w 0 4))

/-- R120: the opcodes 0x40 to 0x4F. -/
def decodeRow4 (w : Word) : Except Reject Instr :=
  match fldN w 24 4 with
  | 0x0 => fixed (true) (.bfi (fld w 19 5) (fld w 14 5) (fld w 9 5) (fld w 6 3) (fld w 4 2) (fld w 0 4))
  | 0x1 => fixed (true) (.cmpeq (fld w 19 5) (fld w 14 5) (fld w 9 5) (fld w 6 3) (fld w 4 2) (fld w 0 4))
  | 0x2 => fixed (true) (.cmpne (fld w 19 5) (fld w 14 5) (fld w 9 5) (fld w 6 3) (fld w 4 2) (fld w 0 4))
  | 0x3 => fixed (true) (.cmplt (fld w 19 5) (fld w 14 5) (fld w 9 5) (fld w 6 3) (fld w 4 2) (fld w 0 4))
  | 0x4 => fixed (true) (.cmple (fld w 19 5) (fld w 14 5) (fld w 9 5) (fld w 6 3) (fld w 4 2) (fld w 0 4))
  | 0x5 => fixed (true) (.cmpltn (fld w 19 5) (fld w 14 5) (fld w 9 5) (fld w 6 3) (fld w 4 2) (fld w 0 4))
  | 0x6 => fixed (true) (.cmplen (fld w 19 5) (fld w 14 5) (fld w 9 5) (fld w 6 3) (fld w 4 2) (fld w 0 4))
  | 0x7 => fixed (true) (.addh2 (fld w 19 5) (fld w 14 5) (fld w 9 5) (fld w 6 3) (fld w 4 2) (fld w 0 4))
  | 0x8 => fixed (true) (.subh2 (fld w 19 5) (fld w 14 5) (fld w 9 5) (fld w 6 3) (fld w 4 2) (fld w 0 4))
  | 0x9 => fixed (true) (.maxh2 (fld w 19 5) (fld w 14 5) (fld w 9 5) (fld w 6 3) (fld w 4 2) (fld w 0 4))
  | 0xA => fixed (true) (.minh2 (fld w 19 5) (fld w 14 5) (fld w 9 5) (fld w 6 3) (fld w 4 2) (fld w 0 4))
  | 0xB => fixed (true) (.addb4 (fld w 19 5) (fld w 14 5) (fld w 9 5) (fld w 6 3) (fld w 4 2) (fld w 0 4))
  | 0xC => fixed (true) (.subb4 (fld w 19 5) (fld w 14 5) (fld w 9 5) (fld w 6 3) (fld w 4 2) (fld w 0 4))
  | 0xD => fixed (true) (.maxb4 (fld w 19 5) (fld w 14 5) (fld w 9 5) (fld w 6 3) (fld w 4 2) (fld w 0 4))
  | 0xE => fixed (true) (.minb4 (fld w 19 5) (fld w 14 5) (fld w 9 5) (fld w 6 3) (fld w 4 2) (fld w 0 4))
  | _ => fixed (true) (.dot4 (fld w 19 5) (fld w 14 5) (fld w 9 5) (fld w 6 3) (fld w 4 2) (fld w 0 4))

/-- R120: the opcodes 0x50 to 0x5F. -/
def decodeRow5 (w : Word) : Except Reject Instr :=
  match fldN w 24 4 with
  | 0x0 => fixed (true) (.dot4n (fld w 19 5) (fld w 14 5) (fld w 9 5) (fld w 6 3) (fld w 4 2) (fld w 0 4))
  | 0x1 => fixed (fldN w 2 2 == 0) (.lea (fld w 19 5) (fld w 14 5) (fld w 9 5) (fld w 6 3) (fld w 4 2) (fld w 0 2))
  | 0x2 => fixed (true) (.hash (fld w 19 5) (fld w 14 5) (fld w 9 5) (fld w 6 3) (fld w 4 2) (fld w 0 4))
  | 0x3 => fixed (fldN w 9 5 == 0) (.xsh (fld w 19 5) (fld w 14 5) (fld w 6 3) (fld w 4 2) (fld w 0 4))
  | 0x4 => fixed (true) (.divn (fld w 19 5) (fld w 14 5) (fld w 9 5) (fld w 6 3) (fld w 4 2) (fld w 0 4))
  | 0x5 => fixed (true) (.remn (fld w 19 5) (fld w 14 5) (fld w 9 5) (fld w 6 3) (fld w 4 2) (fld w 0 4))
  | _ => .error .badOp

/-- R120: the opcodes 0x60 to 0x6F. -/
def decodeRow6 (w : Word) : Except Reject Instr :=
  match fldN w 24 4 with
  | 0x0 => fixed (true) (.fadd (fld w 19 5) (fld w 14 5) (fld w 9 5) (fld w 6 3) (fld w 4 2) (fld w 0 4))
  | 0x1 => fixed (true) (.fsub (fld w 19 5) (fld w 14 5) (fld w 9 5) (fld w 6 3) (fld w 4 2) (fld w 0 4))
  | 0x2 => fixed (true) (.fmul (fld w 19 5) (fld w 14 5) (fld w 9 5) (fld w 6 3) (fld w 4 2) (fld w 0 4))
  | 0x3 => fixed (true) (.ffma (fld w 19 5) (fld w 14 5) (fld w 9 5) (fld w 6 3) (fld w 4 2) (fld w 0 4))
  | 0x4 => fixed (true) (.fmin (fld w 19 5) (fld w 14 5) (fld w 9 5) (fld w 6 3) (fld w 4 2) (fld w 0 4))
  | 0x5 => fixed (true) (.fmax (fld w 19 5) (fld w 14 5) (fld w 9 5) (fld w 6 3) (fld w 4 2) (fld w 0 4))
  | 0x6 => fixed (fldN w 9 5 == 0) (.fabs (fld w 19 5) (fld w 14 5) (fld w 6 3) (fld w 4 2) (fld w 0 4))
  | 0x7 => fixed (fldN w 9 5 == 0) (.fneg (fld w 19 5) (fld w 14 5) (fld w 6 3) (fld w 4 2) (fld w 0 4))
  | 0x8 => fixed (true) (.fcpys (fld w 19 5) (fld w 14 5) (fld w 9 5) (fld w 6 3) (fld w 4 2) (fld w 0 4))
  | 0x9 => fixed (true) (.fcmpeq (fld w 19 5) (fld w 14 5) (fld w 9 5) (fld w 6 3) (fld w 4 2) (fld w 0 4))
  | 0xA => fixed (true) (.fcmplt (fld w 19 5) (fld w 14 5) (fld w 9 5) (fld w 6 3) (fld w 4 2) (fld w 0 4))
  | 0xB => fixed (true) (.fcmple (fld w 19 5) (fld w 14 5) (fld w 9 5) (fld w 6 3) (fld w 4 2) (fld w 0 4))
  | 0xC => fixed (true) (.fcmpun (fld w 19 5) (fld w 14 5) (fld w 9 5) (fld w 6 3) (fld w 4 2) (fld w 0 4))
  | 0xD => fixed (fldN w 9 5 == 0) (.fclass (fld w 19 5) (fld w 14 5) (fld w 6 3) (fld w 4 2) (fld w 0 4))
  | 0xE => fixed (true) (.fdiv (fld w 19 5) (fld w 14 5) (fld w 9 5) (fld w 6 3) (fld w 4 2) (fld w 0 4))
  | _ => fixed (fldN w 9 5 == 0) (.fsqrt (fld w 19 5) (fld w 14 5) (fld w 6 3) (fld w 4 2) (fld w 0 4))

/-- R120: the opcodes 0x70 to 0x7F. -/
def decodeRow7 (w : Word) : Except Reject Instr :=
  match fldN w 24 4 with
  | 0x0 => fixed (fldN w 9 5 == 0) (.frcpe (fld w 19 5) (fld w 14 5) (fld w 6 3) (fld w 4 2) (fld w 0 4))
  | 0x1 => fixed (fldN w 9 5 == 0) (.frsqe (fld w 19 5) (fld w 14 5) (fld w 6 3) (fld w 4 2) (fld w 0 4))
  | 0x2 => fixed (fldN w 9 5 == 0) (.fex2 (fld w 19 5) (fld w 14 5) (fld w 6 3) (fld w 4 2) (fld w 0 4))
  | 0x3 => fixed (fldN w 9 5 == 0) (.flg2 (fld w 19 5) (fld w 14 5) (fld w 6 3) (fld w 4 2) (fld w 0 4))
  | 0x4 => fixed (fldN w 9 5 == 0) (.frint (fld w 19 5) (fld w 14 5) (fld w 6 3) (fld w 4 2) (fld w 0 4))
  | 0x5 => fixed (fldN w 9 5 == 0) (.ffloor (fld w 19 5) (fld w 14 5) (fld w 6 3) (fld w 4 2) (fld w 0 4))
  | 0x6 => fixed (fldN w 9 5 == 0) (.fceil (fld w 19 5) (fld w 14 5) (fld w 6 3) (fld w 4 2) (fld w 0 4))
  | 0x7 => fixed (fldN w 9 5 == 0) (.ftrnc (fld w 19 5) (fld w 14 5) (fld w 6 3) (fld w 4 2) (fld w 0 4))
  | 0x8 => fixed (true) (.badd2 (fld w 19 5) (fld w 14 5) (fld w 9 5) (fld w 6 3) (fld w 4 2) (fld w 0 4))
  | 0x9 => fixed (true) (.bsub2 (fld w 19 5) (fld w 14 5) (fld w 9 5) (fld w 6 3) (fld w 4 2) (fld w 0 4))
  | 0xA => fixed (true) (.bmul2 (fld w 19 5) (fld w 14 5) (fld w 9 5) (fld w 6 3) (fld w 4 2) (fld w 0 4))
  | 0xB => fixed (true) (.bfma2 (fld w 19 5) (fld w 14 5) (fld w 9 5) (fld w 6 3) (fld w 4 2) (fld w 0 4))
  | 0xC => fixed (true) (.bmax2 (fld w 19 5) (fld w 14 5) (fld w 9 5) (fld w 6 3) (fld w 4 2) (fld w 0 4))
  | 0xD => fixed (true) (.bmin2 (fld w 19 5) (fld w 14 5) (fld w 9 5) (fld w 6 3) (fld w 4 2) (fld w 0 4))
  | 0xE => fixed (true) (.hadd2 (fld w 19 5) (fld w 14 5) (fld w 9 5) (fld w 6 3) (fld w 4 2) (fld w 0 4))
  | _ => fixed (true) (.hsub2 (fld w 19 5) (fld w 14 5) (fld w 9 5) (fld w 6 3) (fld w 4 2) (fld w 0 4))

/-- R120: the opcodes 0x80 to 0x8F. -/
def decodeRow8 (w : Word) : Except Reject Instr :=
  match fldN w 24 4 with
  | 0x0 => fixed (true) (.hmul2 (fld w 19 5) (fld w 14 5) (fld w 9 5) (fld w 6 3) (fld w 4 2) (fld w 0 4))
  | 0x1 => fixed (true) (.hfma2 (fld w 19 5) (fld w 14 5) (fld w 9 5) (fld w 6 3) (fld w 4 2) (fld w 0 4))
  | 0x2 => fixed (true) (.hmax2 (fld w 19 5) (fld w 14 5) (fld w 9 5) (fld w 6 3) (fld w 4 2) (fld w 0 4))
  | 0x3 => fixed (true) (.hmin2 (fld w 19 5) (fld w 14 5) (fld w 9 5) (fld w 6 3) (fld w 4 2) (fld w 0 4))
  | 0x4 => fixed (fldN w 9 5 == 0) (.cvtfi (fld w 19 5) (fld w 14 5) (fld w 6 3) (fld w 4 2) (fld w 0 4))
  | 0x5 => fixed (fldN w 9 5 == 0) (.cvtif (fld w 19 5) (fld w 14 5) (fld w 6 3) (fld w 4 2) (fld w 0 4))
  | 0x6 => fixed (fldN w 9 5 == 0) (.cvtifz (fld w 19 5) (fld w 14 5) (fld w 6 3) (fld w 4 2) (fld w 0 4))
  | 0x7 => fixed (true) (.cvtbf (fld w 19 5) (fld w 14 5) (fld w 9 5) (fld w 6 3) (fld w 4 2) (fld w 0 4))
  | 0x8 => fixed (true) (.cvtbfz (fld w 19 5) (fld w 14 5) (fld w 9 5) (fld w 6 3) (fld w 4 2) (fld w 0 4))
  | 0x9 => fixed (true) (.cvthf (fld w 19 5) (fld w 14 5) (fld w 9 5) (fld w 6 3) (fld w 4 2) (fld w 0 4))
  | 0xA => fixed (true) (.cvthfz (fld w 19 5) (fld w 14 5) (fld w 9 5) (fld w 6 3) (fld w 4 2) (fld w 0 4))
  | 0xB => fixed (true) (.cvtfb (fld w 19 5) (fld w 14 5) (fld w 9 5) (fld w 6 3) (fld w 4 2) (fld w 0 4))
  | 0xC => fixed (true) (.cvtfh (fld w 19 5) (fld w 14 5) (fld w 9 5) (fld w 6 3) (fld w 4 2) (fld w 0 4))
  | 0xD => fixed (true) (.cvte4 (fld w 19 5) (fld w 14 5) (fld w 9 5) (fld w 6 3) (fld w 4 2) (fld w 0 4))
  | 0xE => fixed (true) (.cvte4z (fld w 19 5) (fld w 14 5) (fld w 9 5) (fld w 6 3) (fld w 4 2) (fld w 0 4))
  | _ => fixed (true) (.cvte5 (fld w 19 5) (fld w 14 5) (fld w 9 5) (fld w 6 3) (fld w 4 2) (fld w 0 4))

/-- R120: the opcodes 0x90 to 0x9F. -/
def decodeRow9 (w : Word) : Except Reject Instr :=
  match fldN w 24 4 with
  | 0x0 => fixed (true) (.cvte5z (fld w 19 5) (fld w 14 5) (fld w 9 5) (fld w 6 3) (fld w 4 2) (fld w 0 4))
  | 0x1 => fixed (true) (.cvtfe4 (fld w 19 5) (fld w 14 5) (fld w 9 5) (fld w 6 3) (fld w 4 2) (fld w 0 4))
  | 0x2 => fixed (true) (.cvtfe5 (fld w 19 5) (fld w 14 5) (fld w 9 5) (fld w 6 3) (fld w 4 2) (fld w 0 4))
  | 0x3 => fixed (true) (.cvtq4 (fld w 19 5) (fld w 14 5) (fld w 9 5) (fld w 6 3) (fld w 4 2) (fld w 0 4))
  | 0x4 => fixed (true) (.cvtq4z (fld w 19 5) (fld w 14 5) (fld w 9 5) (fld w 6 3) (fld w 4 2) (fld w 0 4))
  | 0x5 => fixed (true) (.cvtfq4 (fld w 19 5) (fld w 14 5) (fld w 9 5) (fld w 6 3) (fld w 4 2) (fld w 0 4))
  | 0x6 => fixed (fldN w 9 5 == 0) (.qsc (fld w 19 5) (fld w 14 5) (fld w 6 3) (fld w 4 2) (fld w 0 4))
  | _ => .error .badOp

/-- R120: the opcodes 0xA0 to 0xAF. -/
def decodeRowA (w : Word) : Except Reject Instr :=
  match fldN w 24 4 with
  | 0x0 => fixed (fldN w 0 4 == 0 && fldN w 9 5 == 0) (.ld8 (fld w 19 5) (fld w 14 5) (fld w 6 3) (fld w 4 2))
  | 0x1 => fixed (fldN w 0 4 == 0 && fldN w 9 5 == 0) (.ld8s (fld w 19 5) (fld w 14 5) (fld w 6 3) (fld w 4 2))
  | 0x2 => fixed (fldN w 0 4 == 0 && fldN w 9 5 == 0) (.ld16 (fld w 19 5) (fld w 14 5) (fld w 6 3) (fld w 4 2))
  | 0x3 => fixed (fldN w 0 4 == 0 && fldN w 9 5 == 0) (.ld16s (fld w 19 5) (fld w 14 5) (fld w 6 3) (fld w 4 2))
  | 0x4 => fixed (fldN w 0 4 == 0 && fldN w 9 5 == 0) (.ld32 (fld w 19 5) (fld w 14 5) (fld w 6 3) (fld w 4 2))
  | 0x5 => fixed (fldN w 0 4 == 0) (.st8 (fld w 19 5) (fld w 14 5) (fld w 9 5) (fld w 6 3) (fld w 4 2))
  | 0x6 => fixed (fldN w 0 4 == 0) (.st16 (fld w 19 5) (fld w 14 5) (fld w 9 5) (fld w 6 3) (fld w 4 2))
  | 0x7 => fixed (fldN w 0 4 == 0) (.st32 (fld w 19 5) (fld w 14 5) (fld w 9 5) (fld w 6 3) (fld w 4 2))
  | 0x8 => fixed (fldN w 9 5 == 0) (.ldg (fld w 19 5) (fld w 14 5) (fld w 6 3) (fld w 4 2) (fld w 0 4))
  | 0x9 => fixed (true) (.stg (fld w 19 5) (fld w 14 5) (fld w 9 5) (fld w 6 3) (fld w 4 2) (fld w 0 4))
  | 0xA => fixed (fldN w 0 4 == 0 && fldN w 6 13 == 0) (.fence (fld w 19 5) (fld w 4 2))
  | 0xB => fixed (fldN w 0 4 == 0) (.aadd (fld w 19 5) (fld w 14 5) (fld w 9 5) (fld w 6 3) (fld w 4 2))
  | 0xC => fixed (fldN w 0 4 == 0) (.asub (fld w 19 5) (fld w 14 5) (fld w 9 5) (fld w 6 3) (fld w 4 2))
  | 0xD => fixed (fldN w 0 4 == 0) (.amin (fld w 19 5) (fld w 14 5) (fld w 9 5) (fld w 6 3) (fld w 4 2))
  | 0xE => fixed (fldN w 0 4 == 0) (.amax (fld w 19 5) (fld w 14 5) (fld w 9 5) (fld w 6 3) (fld w 4 2))
  | _ => fixed (fldN w 0 4 == 0) (.aminn (fld w 19 5) (fld w 14 5) (fld w 9 5) (fld w 6 3) (fld w 4 2))

/-- R120: the opcodes 0xB0 to 0xBF. -/
def decodeRowB (w : Word) : Except Reject Instr :=
  match fldN w 24 4 with
  | 0x0 => fixed (fldN w 0 4 == 0) (.amaxn (fld w 19 5) (fld w 14 5) (fld w 9 5) (fld w 6 3) (fld w 4 2))
  | 0x1 => fixed (fldN w 0 4 == 0) (.aand (fld w 19 5) (fld w 14 5) (fld w 9 5) (fld w 6 3) (fld w 4 2))
  | 0x2 => fixed (fldN w 0 4 == 0) (.aor (fld w 19 5) (fld w 14 5) (fld w 9 5) (fld w 6 3) (fld w 4 2))
  | 0x3 => fixed (fldN w 0 4 == 0) (.axor (fld w 19 5) (fld w 14 5) (fld w 9 5) (fld w 6 3) (fld w 4 2))
  | 0x4 => fixed (fldN w 0 4 == 0) (.axchg (fld w 19 5) (fld w 14 5) (fld w 9 5) (fld w 6 3) (fld w 4 2))
  | 0x5 => fixed (fldN w 3 1 == 0) (.acas (fld w 19 5) (fld w 14 5) (fld w 9 5) (fld w 6 3) (fld w 4 2) (fld w 0 3))
  | 0x6 => fixed (fldN w 0 4 == 0) (.afadd (fld w 19 5) (fld w 14 5) (fld w 9 5) (fld w 6 3) (fld w 4 2))
  | 0x7 => fixed (fldN w 0 4 == 0) (.abadd2 (fld w 19 5) (fld w 14 5) (fld w 9 5) (fld w 6 3) (fld w 4 2))
  | 0x8 => fixed (fldN w 0 4 == 0) (.atake (fld w 19 5) (fld w 14 5) (fld w 9 5) (fld w 6 3) (fld w 4 2))
  | 0x9 => fixed (fldN w 0 4 == 0) (.agive (fld w 19 5) (fld w 14 5) (fld w 9 5) (fld w 6 3) (fld w 4 2))
  | 0xA => fixed (fldN w 0 4 == 0) (.radd (fld w 19 5) (fld w 14 5) (fld w 9 5) (fld w 6 3) (fld w 4 2))
  | 0xB => fixed (fldN w 0 4 == 0) (.rmin (fld w 19 5) (fld w 14 5) (fld w 9 5) (fld w 6 3) (fld w 4 2))
  | 0xC => fixed (fldN w 0 4 == 0) (.rmax (fld w 19 5) (fld w 14 5) (fld w 9 5) (fld w 6 3) (fld w 4 2))
  | 0xD => fixed (fldN w 0 4 == 0) (.rminn (fld w 19 5) (fld w 14 5) (fld w 9 5) (fld w 6 3) (fld w 4 2))
  | 0xE => fixed (fldN w 0 4 == 0) (.rmaxn (fld w 19 5) (fld w 14 5) (fld w 9 5) (fld w 6 3) (fld w 4 2))
  | _ => fixed (fldN w 0 4 == 0) (.rand (fld w 19 5) (fld w 14 5) (fld w 9 5) (fld w 6 3) (fld w 4 2))

/-- R120: the opcodes 0xC0 to 0xCF. -/
def decodeRowC (w : Word) : Except Reject Instr :=
  match fldN w 24 4 with
  | 0x0 => fixed (fldN w 0 4 == 0) (.ror (fld w 19 5) (fld w 14 5) (fld w 9 5) (fld w 6 3) (fld w 4 2))
  | 0x1 => fixed (fldN w 0 4 == 0) (.rxor (fld w 19 5) (fld w 14 5) (fld w 9 5) (fld w 6 3) (fld w 4 2))
  | 0x2 => fixed (fldN w 0 4 == 0) (.rfadd (fld w 19 5) (fld w 14 5) (fld w 9 5) (fld w 6 3) (fld w 4 2))
  | 0x3 => fixed (fldN w 0 4 == 0) (.rbadd2 (fld w 19 5) (fld w 14 5) (fld w 9 5) (fld w 6 3) (fld w 4 2))
  | 0x8 => fixed (fldN w 0 3 == 0) (.copy (fld w 19 5) (fld w 14 5) (fld w 9 5) (fld w 3 6))
  | 0x9 => fixed (fldN w 9 15 == 24576) (.carm (fld w 3 6) (fld w 0 3))
  | 0xA => fixed (fldN w 3 21 == 1572864) (.cdis (fld w 0 3))
  | 0xB => fixed (fldN w 0 3 == 0 && fldN w 9 10 == 0) (.cstat (fld w 19 5) (fld w 3 6))
  | 0xC => fixed (fldN w 0 9 == 0) (.tagany (fld w 19 5) (fld w 14 5) (fld w 9 5))
  | 0xD => fixed (fldN w 0 9 == 0) (.tagall (fld w 19 5) (fld w 14 5) (fld w 9 5))
  | 0xE => fixed (fldN w 0 9 == 0) (.tagff (fld w 19 5) (fld w 14 5) (fld w 9 5))
  | 0xF => fixed (fldN w 0 9 == 0 && fldN w 19 5 == 24) (.tagclr (fld w 14 5) (fld w 9 5))
  | _ => .error .badOp

/-- R120: the opcodes 0xD0 to 0xDF. -/
def decodeRowD (w : Word) : Except Reject Instr :=
  match fldN w 24 4 with
  | 0x0 => fixed (fldN w 0 4 == 0) (.barinit (fld w 19 5) (fld w 14 5) (fld w 9 5) (fld w 6 3) (fld w 4 2))
  | 0x1 => fixed (fldN w 0 4 == 0 && fldN w 9 5 == 0) (.bararr (fld w 19 5) (fld w 14 5) (fld w 6 3) (fld w 4 2))
  | 0x2 => fixed (fldN w 0 4 == 0 && fldN w 9 5 == 0) (.barkill (fld w 19 5) (fld w 14 5) (fld w 6 3) (fld w 4 2))
  | 0x3 => fixed (fldN w 0 4 == 0 && fldN w 9 5 == 0) (.barq (fld w 19 5) (fld w 14 5) (fld w 6 3) (fld w 4 2))
  | 0x4 => fixed (fldN w 0 6 == 0) (.walk (fld w 19 5) (fld w 14 5) (fld w 9 5) (fld w 6 3))
  | 0x5 => fixed (fldN w 0 5 == 0) (.sigsend (fld w 19 5) (fld w 14 5) (fld w 9 5) (fld w 5 4))
  | 0x6 => fixed (fldN w 0 9 == 0) (.event (fld w 19 5) (fld w 14 5) (fld w 9 5))
  | 0x8 => fixed (fldN w 1 5 == 0 && fldN w 9 5 == 0) (.segstep (fld w 19 5) (fld w 14 5) (fld w 6 3) (fld w 0 1))
  | 0x9 => fixed (fldN w 1 3 == 0 && fldN w 9 5 == 0) (.segend (fld w 19 5) (fld w 14 5) (fld w 6 3) (fld w 4 2) (fld w 0 1))
  | 0xA => fixed (fldN w 0 6 == 0 && fldN w 9 5 == 0 && fldN w 19 5 == 24) (.sumnew (fld w 14 5) (fld w 6 3))
  | 0xB => fixed (fldN w 0 9 == 0 && fldN w 19 5 == 24) (.sumapp (fld w 14 5) (fld w 9 5))
  | 0xC => fixed (fldN w 0 6 == 0 && fldN w 8 1 == 0 && fldN w 19 5 == 24) (.sumbsc (fld w 14 5) (fld w 9 5) (fld w 6 2))
  | 0xD => fixed (fldN w 0 9 == 0 && fldN w 19 5 == 24) (.sumpatch (fld w 14 5) (fld w 9 5))
  | 0xE => fixed (fldN w 4 5 == 0 && fldN w 14 5 == 0) (.sumrd (fld w 19 5) (fld w 9 5) (fld w 0 4))
  | 0xF => fixed (fldN w 0 24 == 12582912) (.sumseal)
  | _ => .error .badOp

/-- R120: the opcodes 0xE0 to 0xEF. -/
def decodeRowE (w : Word) : Except Reject Instr :=
  match fldN w 24 4 with
  | 0x0 => fixed (fldN w 0 14 == 0 && fldN w 19 5 == 24) (.ptbl (fld w 14 5))
  | 0x1 => fixed (fldN w 0 9 == 0 && fldN w 19 5 == 24) (.pmask (fld w 14 5) (fld w 9 5))
  | 0x2 => fixed (fldN w 0 5 == 0 && fldN w 9 5 == 0 && fldN w 19 5 == 24) (.ppoint (fld w 14 5) (fld w 5 4))
  | 0x3 => fixed (fldN w 0 4 == 0 && fldN w 9 15 == 24576) (.pclr (fld w 5 4) (fld w 4 1))
  | 0x4 => fixed (fldN w 0 5 == 0 && fldN w 9 5 == 0 && fldN w 19 5 == 24) (.pseg (fld w 14 5) (fld w 5 4))
  | 0x5 => fixed (fldN w 0 5 == 0 && fldN w 19 5 == 24) (.pdense (fld w 14 5) (fld w 9 5) (fld w 5 4))
  | 0x6 => fixed (fldN w 0 2 == 0 && fldN w 5 4 == 0 && fldN w 19 5 == 24) (.pvlda (fld w 14 5) (fld w 9 5) (fld w 2 3))
  | 0x7 => fixed (fldN w 0 2 == 0 && fldN w 5 4 == 0 && fldN w 19 5 == 24) (.pvldb (fld w 14 5) (fld w 9 5) (fld w 2 3))
  | 0x8 => fixed (fldN w 4 5 == 0 && fldN w 19 5 == 24) (.pouter (fld w 14 5) (fld w 9 5) (fld w 0 4))
  | 0x9 => fixed (fldN w 0 3 == 0 && fldN w 19 5 == 24) (.pread (fld w 14 5) (fld w 9 5) (fld w 5 4) (fld w 3 2))
  | 0xA => fixed (fldN w 0 14 == 0) (.pstat (fld w 19 5) (fld w 14 5))
  | 0xB => fixed (fldN w 0 14 == 0) (.psync (fld w 19 5) (fld w 14 5))
  | _ => .error .badOp

/-- R120: the opcodes 0xF0 to 0xFF. -/
def decodeRowF (w : Word) : Except Reject Instr :=
  match fldN w 24 4 with
  | 0x0 => fixed (fldN w 9 10 == 0) (.wrd (fld w 19 5) (fld w 7 2) (fld w 0 7))
  | 0x1 => fixed (fldN w 7 12 == 0) (.wptr (fld w 19 5) (fld w 0 7))
  | 0x2 => fixed (fldN w 0 7 == 0 && fldN w 9 10 == 0) (.wcmp (fld w 19 5) (fld w 7 2))
  | 0x3 => fixed (fldN w 0 7 == 0 && fldN w 9 5 == 0) (.whash (fld w 19 5) (fld w 14 5) (fld w 7 2))
  | 0x4 => fixed (fldN w 4 20 == 786432) (.wret (fld w 0 4))
  | 0x5 => fixed (fldN w 0 24 == 12582912) (.wmiss)
  | 0x6 => fixed (fldN w 0 24 == 12582912) (.wfail)
  | 0x7 => fixed (fldN w 7 12 == 0) (.wnext (fld w 19 5) (fld w 0 7))
  | 0x8 => fixed (fldN w 0 9 == 0 && fldN w 19 5 == 24) (.trap (fld w 14 5) (fld w 9 5))
  | 0x9 => fixed (fldN w 0 9 == 0 && fldN w 19 5 == 24) (.brk (fld w 14 5) (fld w 9 5))
  | 0xA => fixed (fldN w 0 24 == 0) (.whey)
  | 0xB => fixed (fldN w 0 6 == 0 && fldN w 9 10 == 0) (.ident (fld w 19 5) (fld w 6 3))
  | 0xC => fixed (fldN w 0 19 == 0) (.clock (fld w 19 5))
  | 0xD => fixed (fldN w 9 5 == 0) (.xctl (fld w 19 5) (fld w 14 5) (fld w 4 5) (fld w 0 4))
  | 0xE => fixed (fldN w 9 10 == 0) (.xstat (fld w 19 5) (fld w 4 5) (fld w 0 4))
  | _ => .error .badOp

/-- R109, R120, R122: the action word `w` as an instruction. -/
def decodeWord (w : Word) : Except Reject Instr :=
  match fldN w 28 4 with
  | 0x0 => decodeRow0 w
  | 0x1 => decodeRow1 w
  | 0x2 => decodeRow2 w
  | 0x3 => decodeRow3 w
  | 0x4 => decodeRow4 w
  | 0x5 => decodeRow5 w
  | 0x6 => decodeRow6 w
  | 0x7 => decodeRow7 w
  | 0x8 => decodeRow8 w
  | 0x9 => decodeRow9 w
  | 0xA => decodeRowA w
  | 0xB => decodeRowB w
  | 0xC => decodeRowC w
  | 0xD => decodeRowD w
  | 0xE => decodeRowE w
  | _ => decodeRowF w

/-- R5: four bytes at rising addresses as a word. -/
def wordOfBytes (b0 b1 b2 b3 : Byte) : Word :=
  BitVec.ofNat 32 (b0.toNat + b1.toNat * 2 ^ 8 + b2.toNat * 2 ^ 16 + b3.toNat * 2 ^ 24)

/-- R5: byte `k` of a word. -/
def byteOfWord (w : Word) (k : Nat) : Byte := fld w (8 * k) 8

/-- R5: a word as four bytes at rising addresses. -/
def bytesOfWord (w : Word) : List Byte := [byteOfWord w 0, byteOfWord w 1, byteOfWord w 2, byteOfWord w 3]

/-- The instruction that the first four bytes hold, with the bytes that follow it. -/
def decodeBytes : List Byte → Except Reject (Instr × List Byte)
  | b0 :: b1 :: b2 :: b3 :: rest =>
    match decodeWord (wordOfBytes b0 b1 b2 b3) with
    | .ok i => .ok (i, rest)
    | .error e => .error e
  | _ => .error .short

/-- R111: the word with opcode `op`, fields D, A, B and bits 8:0. -/
def packWord (op : Nat) (d a b : BitVec 5) (low : Nat) : Word :=
  BitVec.ofNat 32 (op * 2 ^ 24 + d.toNat * 2 ^ 19 + a.toNat * 2 ^ 14 + b.toNat * 2 ^ 9 + low)

/-- Bits 8:0 with one field at bit `k`. -/
def low1 {n : Nat} (x : BitVec n) (k : Nat) : Nat := x.toNat * 2 ^ k

/-- Bits 8:0 with two fields. -/
def low2 {n m : Nat} (x : BitVec n) (k : Nat) (y : BitVec m) (j : Nat) : Nat := x.toNat * 2 ^ k + y.toNat * 2 ^ j

/-- Bits 8:0 with three fields. -/
def low3 {n m q : Nat} (x : BitVec n) (k : Nat) (y : BitVec m) (j : Nat) (z : BitVec q) (i : Nat) : Nat :=
  x.toNat * 2 ^ k + y.toNat * 2 ^ j + z.toNat * 2 ^ i

/-- R109 to R119: the action word of an instruction; a step without an encoding has none. -/
def encode : Instr → Option Word
  | .nop i p => some (packWord 0x00 0 0 0 (low2 i 6 p 4))
  | .mov d a i p t => some (packWord 0x01 d a 0 (low3 i 6 p 4 t 0))
  | .pass d a i p => some (packWord 0x02 d a 0 (low2 i 6 p 4))
  | .drop a i p => some (packWord 0x03 24 a 0 (low2 i 6 p 4))
  | .sel d a b i p t => some (packWord 0x04 d a b (low3 i 6 p 4 t 0))
  | .steer d a b i p => some (packWord 0x05 d a b (low2 i 6 p 4))
  | .tagof d a i p t => some (packWord 0x06 d a 0 (low3 i 6 p 4 t 0))
  | .mktag d a b i p => some (packWord 0x07 d a b (low2 i 6 p 4))
  | .pand d a b i p t => some (packWord 0x08 d a b (low3 i 6 p 4 t 0))
  | .por d a b i p t => some (packWord 0x09 d a b (low3 i 6 p 4 t 0))
  | .pxor d a b i p t => some (packWord 0x0A d a b (low3 i 6 p 4 t 0))
  | .pnot d a i p t => some (packWord 0x0B d a 0 (low3 i 6 p 4 t 0))
  | .pmov d a i p t => some (packWord 0x0C d a 0 (low3 i 6 p 4 t 0))
  | .ptod d i p t => some (packWord 0x0D d 0 0 (low3 i 6 p 4 t 0))
  | .dtop a => some (packWord 0x0E 24 a 0 (0))
  | .iter d a i p => some (packWord 0x0F d a 0 (low2 i 6 p 4))
  | .cntrd d a i p t => some (packWord 0x10 d a 0 (low3 i 6 p 4 t 0))
  | .cntset d a i p => some (packWord 0x11 d a 0 (low2 i 6 p 4))
  | .halt => some (packWord 0x12 0 0 0 (0))
  | .add d a b i p t => some (packWord 0x20 d a b (low3 i 6 p 4 t 0))
  | .sub d a b i p t => some (packWord 0x21 d a b (low3 i 6 p 4 t 0))
  | .adds d a b i p t => some (packWord 0x22 d a b (low3 i 6 p 4 t 0))
  | .subs d a b i p t => some (packWord 0x23 d a b (low3 i 6 p 4 t 0))
  | .addsn d a b i p t => some (packWord 0x24 d a b (low3 i 6 p 4 t 0))
  | .subsn d a b i p t => some (packWord 0x25 d a b (low3 i 6 p 4 t 0))
  | .neg d a i p t => some (packWord 0x26 d a 0 (low3 i 6 p 4 t 0))
  | .abs d a i p t => some (packWord 0x27 d a 0 (low3 i 6 p 4 t 0))
  | .mul d a b i p t => some (packWord 0x28 d a b (low3 i 6 p 4 t 0))
  | .mulh d a b i p t => some (packWord 0x29 d a b (low3 i 6 p 4 t 0))
  | .mulhn d a b i p t => some (packWord 0x2A d a b (low3 i 6 p 4 t 0))
  | .mac d a b i p t => some (packWord 0x2B d a b (low3 i 6 p 4 t 0))
  | .min d a b i p t => some (packWord 0x2C d a b (low3 i 6 p 4 t 0))
  | .max d a b i p t => some (packWord 0x2D d a b (low3 i 6 p 4 t 0))
  | .minn d a b i p t => some (packWord 0x2E d a b (low3 i 6 p 4 t 0))
  | .maxn d a b i p t => some (packWord 0x2F d a b (low3 i 6 p 4 t 0))
  | .and d a b i p t => some (packWord 0x30 d a b (low3 i 6 p 4 t 0))
  | .or d a b i p t => some (packWord 0x31 d a b (low3 i 6 p 4 t 0))
  | .xor d a b i p t => some (packWord 0x32 d a b (low3 i 6 p 4 t 0))
  | .andn d a b i p t => some (packWord 0x33 d a b (low3 i 6 p 4 t 0))
  | .orn d a b i p t => some (packWord 0x34 d a b (low3 i 6 p 4 t 0))
  | .not d a i p t => some (packWord 0x35 d a 0 (low3 i 6 p 4 t 0))
  | .shl d a b i p t => some (packWord 0x36 d a b (low3 i 6 p 4 t 0))
  | .shr d a b i p t => some (packWord 0x37 d a b (low3 i 6 p 4 t 0))
  | .sar d a b i p t => some (packWord 0x38 d a b (low3 i 6 p 4 t 0))
  | .rol d a b i p t => some (packWord 0x39 d a b (low3 i 6 p 4 t 0))
  | .clz d a i p t => some (packWord 0x3A d a 0 (low3 i 6 p 4 t 0))
  | .ctz d a i p t => some (packWord 0x3B d a 0 (low3 i 6 p 4 t 0))
  | .popc d a i p t => some (packWord 0x3C d a 0 (low3 i 6 p 4 t 0))
  | .brev d a i p t => some (packWord 0x3D d a 0 (low3 i 6 p 4 t 0))
  | .bfx d a b i p t => some (packWord 0x3E d a b (low3 i 6 p 4 t 0))
  | .bfxs d a b i p t => some (packWord 0x3F d a b (low3 i 6 p 4 t 0))
  | .bfi d a b i p t => some (packWord 0x40 d a b (low3 i 6 p 4 t 0))
  | .cmpeq d a b i p t => some (packWord 0x41 d a b (low3 i 6 p 4 t 0))
  | .cmpne d a b i p t => some (packWord 0x42 d a b (low3 i 6 p 4 t 0))
  | .cmplt d a b i p t => some (packWord 0x43 d a b (low3 i 6 p 4 t 0))
  | .cmple d a b i p t => some (packWord 0x44 d a b (low3 i 6 p 4 t 0))
  | .cmpltn d a b i p t => some (packWord 0x45 d a b (low3 i 6 p 4 t 0))
  | .cmplen d a b i p t => some (packWord 0x46 d a b (low3 i 6 p 4 t 0))
  | .addh2 d a b i p t => some (packWord 0x47 d a b (low3 i 6 p 4 t 0))
  | .subh2 d a b i p t => some (packWord 0x48 d a b (low3 i 6 p 4 t 0))
  | .maxh2 d a b i p t => some (packWord 0x49 d a b (low3 i 6 p 4 t 0))
  | .minh2 d a b i p t => some (packWord 0x4A d a b (low3 i 6 p 4 t 0))
  | .addb4 d a b i p t => some (packWord 0x4B d a b (low3 i 6 p 4 t 0))
  | .subb4 d a b i p t => some (packWord 0x4C d a b (low3 i 6 p 4 t 0))
  | .maxb4 d a b i p t => some (packWord 0x4D d a b (low3 i 6 p 4 t 0))
  | .minb4 d a b i p t => some (packWord 0x4E d a b (low3 i 6 p 4 t 0))
  | .dot4 d a b i p t => some (packWord 0x4F d a b (low3 i 6 p 4 t 0))
  | .dot4n d a b i p t => some (packWord 0x50 d a b (low3 i 6 p 4 t 0))
  | .lea d a b i p s => some (packWord 0x51 d a b (low3 i 6 p 4 s 0))
  | .hash d a b i p t => some (packWord 0x52 d a b (low3 i 6 p 4 t 0))
  | .xsh d a i p t => some (packWord 0x53 d a 0 (low3 i 6 p 4 t 0))
  | .divn d a b i p t => some (packWord 0x54 d a b (low3 i 6 p 4 t 0))
  | .remn d a b i p t => some (packWord 0x55 d a b (low3 i 6 p 4 t 0))
  | .fadd d a b i p t => some (packWord 0x60 d a b (low3 i 6 p 4 t 0))
  | .fsub d a b i p t => some (packWord 0x61 d a b (low3 i 6 p 4 t 0))
  | .fmul d a b i p t => some (packWord 0x62 d a b (low3 i 6 p 4 t 0))
  | .ffma d a b i p t => some (packWord 0x63 d a b (low3 i 6 p 4 t 0))
  | .fmin d a b i p t => some (packWord 0x64 d a b (low3 i 6 p 4 t 0))
  | .fmax d a b i p t => some (packWord 0x65 d a b (low3 i 6 p 4 t 0))
  | .fabs d a i p t => some (packWord 0x66 d a 0 (low3 i 6 p 4 t 0))
  | .fneg d a i p t => some (packWord 0x67 d a 0 (low3 i 6 p 4 t 0))
  | .fcpys d a b i p t => some (packWord 0x68 d a b (low3 i 6 p 4 t 0))
  | .fcmpeq d a b i p t => some (packWord 0x69 d a b (low3 i 6 p 4 t 0))
  | .fcmplt d a b i p t => some (packWord 0x6A d a b (low3 i 6 p 4 t 0))
  | .fcmple d a b i p t => some (packWord 0x6B d a b (low3 i 6 p 4 t 0))
  | .fcmpun d a b i p t => some (packWord 0x6C d a b (low3 i 6 p 4 t 0))
  | .fclass d a i p t => some (packWord 0x6D d a 0 (low3 i 6 p 4 t 0))
  | .fdiv d a b i p t => some (packWord 0x6E d a b (low3 i 6 p 4 t 0))
  | .fsqrt d a i p t => some (packWord 0x6F d a 0 (low3 i 6 p 4 t 0))
  | .frcpe d a i p t => some (packWord 0x70 d a 0 (low3 i 6 p 4 t 0))
  | .frsqe d a i p t => some (packWord 0x71 d a 0 (low3 i 6 p 4 t 0))
  | .fex2 d a i p t => some (packWord 0x72 d a 0 (low3 i 6 p 4 t 0))
  | .flg2 d a i p t => some (packWord 0x73 d a 0 (low3 i 6 p 4 t 0))
  | .frint d a i p t => some (packWord 0x74 d a 0 (low3 i 6 p 4 t 0))
  | .ffloor d a i p t => some (packWord 0x75 d a 0 (low3 i 6 p 4 t 0))
  | .fceil d a i p t => some (packWord 0x76 d a 0 (low3 i 6 p 4 t 0))
  | .ftrnc d a i p t => some (packWord 0x77 d a 0 (low3 i 6 p 4 t 0))
  | .badd2 d a b i p t => some (packWord 0x78 d a b (low3 i 6 p 4 t 0))
  | .bsub2 d a b i p t => some (packWord 0x79 d a b (low3 i 6 p 4 t 0))
  | .bmul2 d a b i p t => some (packWord 0x7A d a b (low3 i 6 p 4 t 0))
  | .bfma2 d a b i p t => some (packWord 0x7B d a b (low3 i 6 p 4 t 0))
  | .bmax2 d a b i p t => some (packWord 0x7C d a b (low3 i 6 p 4 t 0))
  | .bmin2 d a b i p t => some (packWord 0x7D d a b (low3 i 6 p 4 t 0))
  | .hadd2 d a b i p t => some (packWord 0x7E d a b (low3 i 6 p 4 t 0))
  | .hsub2 d a b i p t => some (packWord 0x7F d a b (low3 i 6 p 4 t 0))
  | .hmul2 d a b i p t => some (packWord 0x80 d a b (low3 i 6 p 4 t 0))
  | .hfma2 d a b i p t => some (packWord 0x81 d a b (low3 i 6 p 4 t 0))
  | .hmax2 d a b i p t => some (packWord 0x82 d a b (low3 i 6 p 4 t 0))
  | .hmin2 d a b i p t => some (packWord 0x83 d a b (low3 i 6 p 4 t 0))
  | .cvtfi d a i p t => some (packWord 0x84 d a 0 (low3 i 6 p 4 t 0))
  | .cvtif d a i p t => some (packWord 0x85 d a 0 (low3 i 6 p 4 t 0))
  | .cvtifz d a i p t => some (packWord 0x86 d a 0 (low3 i 6 p 4 t 0))
  | .cvtbf d a b i p t => some (packWord 0x87 d a b (low3 i 6 p 4 t 0))
  | .cvtbfz d a b i p t => some (packWord 0x88 d a b (low3 i 6 p 4 t 0))
  | .cvthf d a b i p t => some (packWord 0x89 d a b (low3 i 6 p 4 t 0))
  | .cvthfz d a b i p t => some (packWord 0x8A d a b (low3 i 6 p 4 t 0))
  | .cvtfb d a b i p t => some (packWord 0x8B d a b (low3 i 6 p 4 t 0))
  | .cvtfh d a b i p t => some (packWord 0x8C d a b (low3 i 6 p 4 t 0))
  | .cvte4 d a b i p t => some (packWord 0x8D d a b (low3 i 6 p 4 t 0))
  | .cvte4z d a b i p t => some (packWord 0x8E d a b (low3 i 6 p 4 t 0))
  | .cvte5 d a b i p t => some (packWord 0x8F d a b (low3 i 6 p 4 t 0))
  | .cvte5z d a b i p t => some (packWord 0x90 d a b (low3 i 6 p 4 t 0))
  | .cvtfe4 d a b i p t => some (packWord 0x91 d a b (low3 i 6 p 4 t 0))
  | .cvtfe5 d a b i p t => some (packWord 0x92 d a b (low3 i 6 p 4 t 0))
  | .cvtq4 d a b i p t => some (packWord 0x93 d a b (low3 i 6 p 4 t 0))
  | .cvtq4z d a b i p t => some (packWord 0x94 d a b (low3 i 6 p 4 t 0))
  | .cvtfq4 d a b i p t => some (packWord 0x95 d a b (low3 i 6 p 4 t 0))
  | .qsc d a i p t => some (packWord 0x96 d a 0 (low3 i 6 p 4 t 0))
  | .ld8 d a w s => some (packWord 0xA0 d a 0 (low2 w 6 s 4))
  | .ld8s d a w s => some (packWord 0xA1 d a 0 (low2 w 6 s 4))
  | .ld16 d a w s => some (packWord 0xA2 d a 0 (low2 w 6 s 4))
  | .ld16s d a w s => some (packWord 0xA3 d a 0 (low2 w 6 s 4))
  | .ld32 d a w s => some (packWord 0xA4 d a 0 (low2 w 6 s 4))
  | .st8 d a b w s => some (packWord 0xA5 d a b (low2 w 6 s 4))
  | .st16 d a b w s => some (packWord 0xA6 d a b (low2 w 6 s 4))
  | .st32 d a b w s => some (packWord 0xA7 d a b (low2 w 6 s 4))
  | .ldg d a w s f => some (packWord 0xA8 d a 0 (low3 w 6 s 4 f 0))
  | .stg d a b w s f => some (packWord 0xA9 d a b (low3 w 6 s 4 f 0))
  | .fence d s => some (packWord 0xAA d 0 0 (low1 s 4))
  | .aadd d a b w s => some (packWord 0xAB d a b (low2 w 6 s 4))
  | .asub d a b w s => some (packWord 0xAC d a b (low2 w 6 s 4))
  | .amin d a b w s => some (packWord 0xAD d a b (low2 w 6 s 4))
  | .amax d a b w s => some (packWord 0xAE d a b (low2 w 6 s 4))
  | .aminn d a b w s => some (packWord 0xAF d a b (low2 w 6 s 4))
  | .amaxn d a b w s => some (packWord 0xB0 d a b (low2 w 6 s 4))
  | .aand d a b w s => some (packWord 0xB1 d a b (low2 w 6 s 4))
  | .aor d a b w s => some (packWord 0xB2 d a b (low2 w 6 s 4))
  | .axor d a b w s => some (packWord 0xB3 d a b (low2 w 6 s 4))
  | .axchg d a b w s => some (packWord 0xB4 d a b (low2 w 6 s 4))
  | .acas d a b w s k => some (packWord 0xB5 d a b (low3 w 6 s 4 k 0))
  | .afadd d a b w s => some (packWord 0xB6 d a b (low2 w 6 s 4))
  | .abadd2 d a b w s => some (packWord 0xB7 d a b (low2 w 6 s 4))
  | .atake d a b w s => some (packWord 0xB8 d a b (low2 w 6 s 4))
  | .agive d a b w s => some (packWord 0xB9 d a b (low2 w 6 s 4))
  | .radd d a b w s => some (packWord 0xBA d a b (low2 w 6 s 4))
  | .rmin d a b w s => some (packWord 0xBB d a b (low2 w 6 s 4))
  | .rmax d a b w s => some (packWord 0xBC d a b (low2 w 6 s 4))
  | .rminn d a b w s => some (packWord 0xBD d a b (low2 w 6 s 4))
  | .rmaxn d a b w s => some (packWord 0xBE d a b (low2 w 6 s 4))
  | .rand d a b w s => some (packWord 0xBF d a b (low2 w 6 s 4))
  | .ror d a b w s => some (packWord 0xC0 d a b (low2 w 6 s 4))
  | .rxor d a b w s => some (packWord 0xC1 d a b (low2 w 6 s 4))
  | .rfadd d a b w s => some (packWord 0xC2 d a b (low2 w 6 s 4))
  | .rbadd2 d a b w s => some (packWord 0xC3 d a b (low2 w 6 s 4))
  | .copy d a b k => some (packWord 0xC8 d a b (low1 k 3))
  | .carm k p => some (packWord 0xC9 24 0 0 (low2 k 3 p 0))
  | .cdis p => some (packWord 0xCA 24 0 0 (low1 p 0))
  | .cstat d k => some (packWord 0xCB d 0 0 (low1 k 3))
  | .tagany d a b => some (packWord 0xCC d a b (0))
  | .tagall d a b => some (packWord 0xCD d a b (0))
  | .tagff d a b => some (packWord 0xCE d a b (0))
  | .tagclr a b => some (packWord 0xCF 24 a b (0))
  | .barinit d a b w s => some (packWord 0xD0 d a b (low2 w 6 s 4))
  | .bararr d a w s => some (packWord 0xD1 d a 0 (low2 w 6 s 4))
  | .barkill d a w s => some (packWord 0xD2 d a 0 (low2 w 6 s 4))
  | .barq d a w s => some (packWord 0xD3 d a 0 (low2 w 6 s 4))
  | .walk d a b w => some (packWord 0xD4 d a b (low1 w 6))
  | .sigsend d a b h => some (packWord 0xD5 d a b (low1 h 5))
  | .event d a b => some (packWord 0xD6 d a b (0))
  | .segstep d a k t => some (packWord 0xD8 d a 0 (low2 k 6 t 0))
  | .segend d a k f t => some (packWord 0xD9 d a 0 (low3 k 6 f 4 t 0))
  | .sumnew a k => some (packWord 0xDA 24 a 0 (low1 k 6))
  | .sumapp a b => some (packWord 0xDB 24 a b (0))
  | .sumbsc a b n => some (packWord 0xDC 24 a b (low1 n 6))
  | .sumpatch a b => some (packWord 0xDD 24 a b (0))
  | .sumrd d b t => some (packWord 0xDE d 0 b (low1 t 0))
  | .sumseal => some (packWord 0xDF 24 0 0 (0))
  | .ptbl a => some (packWord 0xE0 24 a 0 (0))
  | .pmask a b => some (packWord 0xE1 24 a b (0))
  | .ppoint a r => some (packWord 0xE2 24 a 0 (low1 r 5))
  | .pclr r l => some (packWord 0xE3 24 0 0 (low2 r 5 l 4))
  | .pseg a r => some (packWord 0xE4 24 a 0 (low1 r 5))
  | .pdense a b r => some (packWord 0xE5 24 a b (low1 r 5))
  | .pvlda a b f => some (packWord 0xE6 24 a b (low1 f 2))
  | .pvldb a b f => some (packWord 0xE7 24 a b (low1 f 2))
  | .pouter a b g => some (packWord 0xE8 24 a b (low1 g 0))
  | .pread a b r f => some (packWord 0xE9 24 a b (low2 r 5 f 3))
  | .pstat d a => some (packWord 0xEA d a 0 (0))
  | .psync d a => some (packWord 0xEB d a 0 (0))
  | .wrd d w m => some (packWord 0xF0 d 0 0 (low2 w 7 m 0))
  | .wptr d m => some (packWord 0xF1 d 0 0 (low1 m 0))
  | .wcmp d w => some (packWord 0xF2 d 0 0 (low1 w 7))
  | .whash d a w => some (packWord 0xF3 d a 0 (low1 w 7))
  | .wret n => some (packWord 0xF4 24 0 0 (low1 n 0))
  | .wmiss => some (packWord 0xF5 24 0 0 (0))
  | .wfail => some (packWord 0xF6 24 0 0 (0))
  | .wnext d m => some (packWord 0xF7 d 0 0 (low1 m 0))
  | .trap a b => some (packWord 0xF8 24 a b (0))
  | .brk a b => some (packWord 0xF9 24 a b (0))
  | .whey => some (packWord 0xFA 0 0 0 (0))
  | .ident d s => some (packWord 0xFB d 0 0 (low1 s 6))
  | .clock d => some (packWord 0xFC d 0 0 (0))
  | .xctl d a s r => some (packWord 0xFD d a 0 (low2 s 4 r 0))
  | .xstat d s r => some (packWord 0xFE d 0 0 (low2 s 4 r 0))
  | .ruleUrgent _ _ => none
  | .longLatencyCommit _ _ => none
  | .tokenArrival _ => none
  | .haltedDiscard _ => none
  | .elementMark _ => none
  | .elementDrainForward _ => none
  | .memoryAccessAtHome _ => none
  | .memoryResponse _ => none
  | .postedTranslate _ => none
  | .pageWalk _ => none
  | .fenceComplete _ _ => none
  | .copyTrigger _ => none
  | .copyIssueDeferred _ _ => none
  | .copyTransfer _ _ => none
  | .copyComplete _ _ => none
  | .copyEngineDrain _ => none
  | .bararrSend _ _ => none
  | .barrierHomeOp _ => none
  | .barrierVerdict _ => none
  | .walkAccept _ _ => none
  | .walkReadReturn _ _ => none
  | .walkResultDelivery _ _ => none
  | .pressCommandPerform _ => none
  | .pressResultDelivery _ => none
  | .pressMark _ => none
  | .pressDrain _ => none
  | .scannerStep _ => none
  | .intersecterStep _ => none
  | .repeaterStep _ => none
  | .reducerStep _ => none
  | .reducerFlush _ => none
  | .nmDecoderStep _ => none
  | .apertureStep _ => none
  | .splitterStep _ => none
  | .splitterSlotRetry _ => none
  | .splitterSpillWrite _ => none
  | .splitterSpillRead _ => none
  | .collimatorStep _ => none
  | .unitMark _ => none
  | .unitDrain _ => none
  | .xctlApply _ => none
  | .unitRegisterRead _ _ => none
  | .clockRead _ _ => none
  | .wheyAdderStep _ => none
  | .wheyRootWrite _ => none
  | .brineWheyEmit _ => none
  | .imageLoad _ => none
  | .sourceInject _ _ => none
  | .sinkTake _ _ => none
  | .faultRecordPost _ => none
  | .eventRecordWrite _ => none
  | .signalHandle _ => none
  | .regionDrainComplete _ => none
  | .configSignatureCheck _ => none
  | .configStoreError _ => none
  | .configReloadDone _ => none
  | .regionResume _ _ => none
  | .regionFence _ _ => none
  | .sigcommit _ _ => none
  | .unhpop _ => none
  | .udataWrite _ _ => none
  | .dispatchAdmit => none
  | .queueAged _ => none
  | .taskBind => none
  | .bindReservation => none
  | .quantumExpiry _ => none
  | .markInject _ => none
  | .taskSaveComplete _ => none
  | .taskDrainDetect _ => none
  | .taskRetire _ => none
  | .abort _ _ => none
  | .preempt _ _ => none
  | .create _ => none
  | .restore _ => none
  | .contextRestoreDone _ => none
  | .quiesce _ => none
  | .quiesceComplete _ => none
  | .resume _ => none
  | .destroy _ => none
  | .destroyComplete _ => none
  | .resolveReplay _ _ => none
  | .resolveDiscard _ _ => none
  | .harvest _ => none
  | .harvestComplete _ => none
  | .quotaWrite _ _ => none
  | .enq _ => none
  | .enqSpillDone _ => none
  | .queueRefillDone _ => none
  | .queueEnable _ => none
  | .queueDisable _ => none
  | .pause _ => none
  | .unpause _ => none
  | .close _ => none
  | .clear _ => none
  | .tinvPage _ => none
  | .tinvContext _ => none
  | .tinvComplete => none
  | .deviceReset => none
  | .pllLockLoss => none
  | .boot => none
  | .linkTrainingDone _ _ => none
  | .flitReceive _ _ => none
  | .replayRequest _ _ => none
  | .replayExhausted _ => none
  | .linkEnable _ => none
  | .linkDisable _ => none
  | .linkRetrain _ => none
  | .linkFence _ => none
  | .read _ => none
  | .write _ => none
  | .signal _ => none
  | .atomic _ => none
  | .xchg64 _ => none
  | .cas64 _ => none
  | .reduce _ => none
  | .response _ => none
  | .nack _ => none
  | .mgmt _ => none
  | .transactionResend _ _ => none
  | .registerWrite _ _ _ => none
  | .aclWrite _ _ _ => none
  | .measmaskWrite _ _ => none
  | .report _ => none
  | .reportDone => none
  | .scrubPass _ _ => none
  | .powerGovernorSample => none
  | .dflRecordWrite => none
  | .round => none
  | .copyEngineMark _ => none

/-- The instruction the decoder reads from an instruction of `nbits` bits `w`, the bits above them zero: the word is laid
out in memory bytes and decoded from them. An action word is the longest instruction. -/
def decodeTableWord (nbits w : Nat) : Option Instr :=
  if nbits = 0 then none
  else
    match decodeBytes (bytesOfWord (BitVec.ofNat 32 (w % 2 ^ nbits))) with
    | .ok (i, _) => some i
    | .error _ => none

end Sys2Proof
end

