-- ==== Sys2Proof/WellFormed.lean ====
section
/-! DEFINITION. Which encoded instructions the loader accepts in an element and in a Loupe program (spec/05 R114, R122;
spec/06 R137, R140, R149; spec/07 R160; spec/08 R188, R204; spec/10 R232, R233; spec/11 R280; spec/13 R308, R309, R311;
spec/14 R324; spec/21 R414). -/

namespace Sys2Proof

/-- R62: the tags an action may name; 0x7, 0xC, 0xD, MARK and DRAIN are forbidden. -/
def tagOk (t : Tag) : Bool := !(t == 0x7 || t == 0xC || t == 0xD || t == 0xE || t == 0xF)

/-- D 0–24. -/
def dAny (d : BitVec 5) : Bool := decide (d.toNat ≤ 24)
/-- D 8–15, an output end. -/
def dChan (d : BitVec 5) : Bool := decide (8 ≤ d.toNat ∧ d.toNat ≤ 15)
/-- D 0–7, a data register. -/
def dReg (d : BitVec 5) : Bool := decide (d.toNat ≤ 7)
/-- D 25–26, a counter (R147). -/
def dCtr (d : BitVec 5) : Bool := decide (25 ≤ d.toNat ∧ d.toNat ≤ 26)
/-- D 0–15, a register or an output end. -/
def dRes (d : BitVec 5) : Bool := decide (d.toNat ≤ 15)
/-- D 8–15 or 24, a token or nothing. -/
def dTok (d : BitVec 5) : Bool := dChan d || d == 24
/-- D 0–15 or 24. -/
def dResN (d : BitVec 5) : Bool := dRes d || d == 24
/-- D 0, 2, 4, 6 or 8–15, a register pair or an output end (R324). -/
def dClk (d : BitVec 5) : Bool := dChan d || (dReg d && d.toNat % 2 == 0)
/-- D 16–23, a predicate. -/
def dPred (d : BitVec 5) : Bool := decide (16 ≤ d.toNat ∧ d.toNat ≤ 23)
/-- D 16–23 or 24 (R311). -/
def dPredN (d : BitVec 5) : Bool := dPred d || d == 24
/-- D of a Loupe program's general rule (R308): v0–v3, PTR, p0–p7, NONE. -/
def dLoupe (d : BitVec 5) : Bool := decide (d.toNat ≤ 3) || d == 5 || dPredN d

/-- A or B codes 0–7, a predicate (R111). -/
def predCode (a : BitVec 5) : Bool := decide (a.toNat ≤ 7)
/-- A codes 8–23, a channel operand taken or kept. -/
def chanCode (a : BitVec 5) : Bool := decide (8 ≤ a.toNat ∧ a.toNat ≤ 23)
/-- A codes 8–15, a channel operand taken. -/
def takeCode (a : BitVec 5) : Bool := decide (8 ≤ a.toNat ∧ a.toNat ≤ 15)
/-- A codes 0–1, a counter (R140). -/
def ctrCode (a : BitVec 5) : Bool := decide (a.toNat ≤ 1)
/-- A or B of a Loupe program's general rule (R308). -/
def srcLoupe (a : BitVec 5) : Bool := decide (a.toNat ≤ 6) || decide (24 ≤ a.toNat)

/-- R114: PO 00 requires PI 000; PO 11 requires a flag. -/
def poOk (i : BitVec 3) (p : BitVec 2) (flag : Bool) : Bool := (p != 0 || i == 0) && (flag || p != 3)
/-- R114: OT is a permitted tag with a channel destination and 0000 otherwise. -/
def otOk (d : BitVec 5) (t : Tag) : Bool := if dChan d then tagOk t else t == 0

/-- R122, R137: the operand codes, PI, PO and OT of an instruction in an element. -/
def wfElem : Instr → Bool
  | .nop i p => poOk i p false
  | .mov d _ i p t => dAny d && poOk i p true && otOk d t
  | .pass d a i p => dChan d && chanCode a && poOk i p true
  | .drop a i p => takeCode a && poOk i p true
  | .sel d _ _ i p t => dAny d && poOk i p true && p != 0 && otOk d t
  | .steer d a _ i p => dChan d && chanCode a && poOk i p true
  | .tagof d a i p t => dAny d && chanCode a && poOk i p true && otOk d t
  | .mktag d _ _ i p => dChan d && poOk i p true
  | .pand d a b i p t => dAny d && predCode a && predCode b && poOk i p true && otOk d t
  | .por d a b i p t => dAny d && predCode a && predCode b && poOk i p true && otOk d t
  | .pxor d a b i p t => dAny d && predCode a && predCode b && poOk i p true && otOk d t
  | .pnot d a i p t => dAny d && predCode a && poOk i p true && otOk d t
  | .pmov d a i p t => dAny d && predCode a && poOk i p true && otOk d t
  | .ptod d i p t => dAny d && poOk i p true && otOk d t
  | .dtop _ => true
  | .iter d a i p => dAny d && ctrCode a && poOk i p true
  | .cntrd d a i p t => dAny d && ctrCode a && poOk i p true && otOk d t
  | .cntset d _ i p => dCtr d && poOk i p false
  | .halt => true
  | .add d _ _ i p t => dAny d && poOk i p true && otOk d t
  | .sub d _ _ i p t => dAny d && poOk i p true && otOk d t
  | .adds d _ _ i p t => dAny d && poOk i p true && otOk d t
  | .subs d _ _ i p t => dAny d && poOk i p true && otOk d t
  | .addsn d _ _ i p t => dAny d && poOk i p true && otOk d t
  | .subsn d _ _ i p t => dAny d && poOk i p true && otOk d t
  | .neg d _ i p t => dAny d && poOk i p true && otOk d t
  | .abs d _ i p t => dAny d && poOk i p true && otOk d t
  | .mul d _ _ i p t => dAny d && poOk i p true && otOk d t
  | .mulh d _ _ i p t => dAny d && poOk i p true && otOk d t
  | .mulhn d _ _ i p t => dAny d && poOk i p true && otOk d t
  | .mac d _ _ i p t => dReg d && poOk i p true && otOk d t
  | .min d _ _ i p t => dAny d && poOk i p true && otOk d t
  | .max d _ _ i p t => dAny d && poOk i p true && otOk d t
  | .minn d _ _ i p t => dAny d && poOk i p true && otOk d t
  | .maxn d _ _ i p t => dAny d && poOk i p true && otOk d t
  | .and d _ _ i p t => dAny d && poOk i p true && otOk d t
  | .or d _ _ i p t => dAny d && poOk i p true && otOk d t
  | .xor d _ _ i p t => dAny d && poOk i p true && otOk d t
  | .andn d _ _ i p t => dAny d && poOk i p true && otOk d t
  | .orn d _ _ i p t => dAny d && poOk i p true && otOk d t
  | .not d _ i p t => dAny d && poOk i p true && otOk d t
  | .shl d _ _ i p t => dAny d && poOk i p true && otOk d t
  | .shr d _ _ i p t => dAny d && poOk i p true && otOk d t
  | .sar d _ _ i p t => dAny d && poOk i p true && otOk d t
  | .rol d _ _ i p t => dAny d && poOk i p true && otOk d t
  | .clz d _ i p t => dAny d && poOk i p true && otOk d t
  | .ctz d _ i p t => dAny d && poOk i p true && otOk d t
  | .popc d _ i p t => dAny d && poOk i p true && otOk d t
  | .brev d _ i p t => dAny d && poOk i p true && otOk d t
  | .bfx d _ _ i p t => dAny d && poOk i p true && otOk d t
  | .bfxs d _ _ i p t => dAny d && poOk i p true && otOk d t
  | .bfi d _ _ i p t => dReg d && poOk i p true && otOk d t
  | .cmpeq d _ _ i p t => dAny d && poOk i p true && otOk d t
  | .cmpne d _ _ i p t => dAny d && poOk i p true && otOk d t
  | .cmplt d _ _ i p t => dAny d && poOk i p true && otOk d t
  | .cmple d _ _ i p t => dAny d && poOk i p true && otOk d t
  | .cmpltn d _ _ i p t => dAny d && poOk i p true && otOk d t
  | .cmplen d _ _ i p t => dAny d && poOk i p true && otOk d t
  | .addh2 d _ _ i p t => dAny d && poOk i p true && otOk d t
  | .subh2 d _ _ i p t => dAny d && poOk i p true && otOk d t
  | .maxh2 d _ _ i p t => dAny d && poOk i p true && otOk d t
  | .minh2 d _ _ i p t => dAny d && poOk i p true && otOk d t
  | .addb4 d _ _ i p t => dAny d && poOk i p true && otOk d t
  | .subb4 d _ _ i p t => dAny d && poOk i p true && otOk d t
  | .maxb4 d _ _ i p t => dAny d && poOk i p true && otOk d t
  | .minb4 d _ _ i p t => dAny d && poOk i p true && otOk d t
  | .dot4 d _ _ i p t => dReg d && poOk i p true && otOk d t
  | .dot4n d _ _ i p t => dReg d && poOk i p true && otOk d t
  | .lea d _ _ i p _ => dReg d && poOk i p true
  | .hash d _ _ i p t => dAny d && poOk i p true && otOk d t
  | .xsh d _ i p t => dAny d && poOk i p true && otOk d t
  | .divn d _ _ i p t => dAny d && poOk i p true && otOk d t
  | .remn d _ _ i p t => dAny d && poOk i p true && otOk d t
  | .fadd d _ _ i p t => dAny d && poOk i p true && otOk d t
  | .fsub d _ _ i p t => dAny d && poOk i p true && otOk d t
  | .fmul d _ _ i p t => dAny d && poOk i p true && otOk d t
  | .ffma d _ _ i p t => dReg d && poOk i p true && otOk d t
  | .fmin d _ _ i p t => dAny d && poOk i p true && otOk d t
  | .fmax d _ _ i p t => dAny d && poOk i p true && otOk d t
  | .fabs d _ i p t => dAny d && poOk i p true && otOk d t
  | .fneg d _ i p t => dAny d && poOk i p true && otOk d t
  | .fcpys d _ _ i p t => dAny d && poOk i p true && otOk d t
  | .fcmpeq d _ _ i p t => dAny d && poOk i p true && otOk d t
  | .fcmplt d _ _ i p t => dAny d && poOk i p true && otOk d t
  | .fcmple d _ _ i p t => dAny d && poOk i p true && otOk d t
  | .fcmpun d _ _ i p t => dAny d && poOk i p true && otOk d t
  | .fclass d _ i p t => dAny d && poOk i p true && otOk d t
  | .fdiv d _ _ i p t => dAny d && poOk i p true && otOk d t
  | .fsqrt d _ i p t => dAny d && poOk i p true && otOk d t
  | .frcpe d _ i p t => dAny d && poOk i p true && otOk d t
  | .frsqe d _ i p t => dAny d && poOk i p true && otOk d t
  | .fex2 d _ i p t => dAny d && poOk i p true && otOk d t
  | .flg2 d _ i p t => dAny d && poOk i p true && otOk d t
  | .frint d _ i p t => dAny d && poOk i p true && otOk d t
  | .ffloor d _ i p t => dAny d && poOk i p true && otOk d t
  | .fceil d _ i p t => dAny d && poOk i p true && otOk d t
  | .ftrnc d _ i p t => dAny d && poOk i p true && otOk d t
  | .badd2 d _ _ i p t => dAny d && poOk i p true && otOk d t
  | .bsub2 d _ _ i p t => dAny d && poOk i p true && otOk d t
  | .bmul2 d _ _ i p t => dAny d && poOk i p true && otOk d t
  | .bfma2 d _ _ i p t => dReg d && poOk i p true && otOk d t
  | .bmax2 d _ _ i p t => dAny d && poOk i p true && otOk d t
  | .bmin2 d _ _ i p t => dAny d && poOk i p true && otOk d t
  | .hadd2 d _ _ i p t => dAny d && poOk i p true && otOk d t
  | .hsub2 d _ _ i p t => dAny d && poOk i p true && otOk d t
  | .hmul2 d _ _ i p t => dAny d && poOk i p true && otOk d t
  | .hfma2 d _ _ i p t => dReg d && poOk i p true && otOk d t
  | .hmax2 d _ _ i p t => dAny d && poOk i p true && otOk d t
  | .hmin2 d _ _ i p t => dAny d && poOk i p true && otOk d t
  | .cvtfi d _ i p t => dAny d && poOk i p true && otOk d t
  | .cvtif d _ i p t => dAny d && poOk i p true && otOk d t
  | .cvtifz d _ i p t => dAny d && poOk i p true && otOk d t
  | .cvtbf d _ _ i p t => dAny d && poOk i p true && otOk d t
  | .cvtbfz d _ _ i p t => dAny d && poOk i p true && otOk d t
  | .cvthf d _ _ i p t => dAny d && poOk i p true && otOk d t
  | .cvthfz d _ _ i p t => dAny d && poOk i p true && otOk d t
  | .cvtfb d _ _ i p t => dAny d && poOk i p true && otOk d t
  | .cvtfh d _ _ i p t => dAny d && poOk i p true && otOk d t
  | .cvte4 d _ _ i p t => dReg d && poOk i p true && otOk d t
  | .cvte4z d _ _ i p t => dReg d && poOk i p true && otOk d t
  | .cvte5 d _ _ i p t => dReg d && poOk i p true && otOk d t
  | .cvte5z d _ _ i p t => dReg d && poOk i p true && otOk d t
  | .cvtfe4 d _ _ i p t => dAny d && poOk i p true && otOk d t
  | .cvtfe5 d _ _ i p t => dAny d && poOk i p true && otOk d t
  | .cvtq4 d _ _ i p t => dReg d && poOk i p true && otOk d t
  | .cvtq4z d _ _ i p t => dReg d && poOk i p true && otOk d t
  | .cvtfq4 d _ _ i p t => dAny d && poOk i p true && otOk d t
  | .qsc d _ i p t => dAny d && poOk i p true && otOk d t
  | .ld8 d _ _ _ => dRes d
  | .ld8s d _ _ _ => dRes d
  | .ld16 d _ _ _ => dRes d
  | .ld16s d _ _ _ => dRes d
  | .ld32 d _ _ _ => dRes d
  | .st8 d _ _ _ _ => dTok d
  | .st16 d _ _ _ _ => dTok d
  | .st32 d _ _ _ _ => dTok d
  | .ldg d _ _ _ f => dRes d && f.toNat < 2
  | .stg d _ _ _ _ f => dTok d && f.toNat < 2
  | .fence d _ => dChan d
  | .aadd d _ _ _ _ => dResN d
  | .asub d _ _ _ _ => dResN d
  | .amin d _ _ _ _ => dResN d
  | .amax d _ _ _ _ => dResN d
  | .aminn d _ _ _ _ => dResN d
  | .amaxn d _ _ _ _ => dResN d
  | .aand d _ _ _ _ => dResN d
  | .aor d _ _ _ _ => dResN d
  | .axor d _ _ _ _ => dResN d
  | .axchg d _ _ _ _ => dResN d
  | .acas d _ _ _ _ _ => dResN d
  | .afadd d _ _ _ _ => dResN d
  | .abadd2 d _ _ _ _ => dResN d
  | .atake d _ _ _ _ => dResN d
  | .agive d _ _ _ _ => dResN d
  | .radd d _ _ _ _ => dTok d
  | .rmin d _ _ _ _ => dTok d
  | .rmax d _ _ _ _ => dTok d
  | .rminn d _ _ _ _ => dTok d
  | .rmaxn d _ _ _ _ => dTok d
  | .rand d _ _ _ _ => dTok d
  | .ror d _ _ _ _ => dTok d
  | .rxor d _ _ _ _ => dTok d
  | .rfadd d _ _ _ _ => dTok d
  | .rbadd2 d _ _ _ _ => dTok d
  | .copy d _ _ _ => dTok d
  | .carm _ _ => true
  | .cdis _ => true
  | .cstat d _ => dAny d
  | .tagany d _ _ => dAny d
  | .tagall d _ _ => dAny d
  | .tagff d _ _ => dAny d
  | .tagclr _ _ => true
  | .barinit d _ _ _ _ => dTok d
  | .bararr d _ _ _ => dTok d
  | .barkill d _ _ _ => dTok d
  | .barq d _ _ _ => dRes d
  | .walk d _ _ _ => dChan d
  | .sigsend d _ _ _ => dTok d
  | .event d _ _ => dTok d
  | .segstep d a _ _ => dChan d && takeCode a
  | .segend d a _ f _ => dChan d && chanCode a && f != 3
  | .sumnew _ k => k.toNat < 3
  | .sumapp _ _ => true
  | .sumbsc _ _ _ => true
  | .sumpatch _ _ => true
  | .sumrd d _ t => dRes d && otOk d t
  | .sumseal => true
  | .ptbl _ => true
  | .pmask _ _ => true
  | .ppoint _ _ => true
  | .pclr r l => (l == 0 || r == 0)
  | .pseg _ _ => true
  | .pdense _ _ _ => true
  | .pvlda _ _ f => f.toNat < 6
  | .pvldb _ _ f => f.toNat < 6
  | .pouter _ _ _ => true
  | .pread _ _ _ f => f != 3
  | .pstat d _ => dRes d
  | .psync d _ => dChan d
  | .wrd _ _ _ => false
  | .wptr _ _ => false
  | .wcmp _ _ => false
  | .whash _ _ _ => false
  | .wret _ => false
  | .wmiss => false
  | .wfail => false
  | .wnext _ _ => false
  | .trap _ _ => true
  | .brk _ _ => true
  | .whey => true
  | .ident d s => dRes d && s.toNat < 4
  | .clock d => dClk d
  | .xctl d _ _ _ => dTok d
  | .xstat d _ _ => dRes d
  | .ruleUrgent _ _ => false
  | .longLatencyCommit _ _ => false
  | .tokenArrival _ => false
  | .haltedDiscard _ => false
  | .elementMark _ => false
  | .elementDrainForward _ => false
  | .memoryAccessAtHome _ => false
  | .memoryResponse _ => false
  | .postedTranslate _ => false
  | .pageWalk _ => false
  | .fenceComplete _ _ => false
  | .copyTrigger _ => false
  | .copyIssueDeferred _ _ => false
  | .copyTransfer _ _ => false
  | .copyComplete _ _ => false
  | .copyEngineDrain _ => false
  | .bararrSend _ _ => false
  | .barrierHomeOp _ => false
  | .barrierVerdict _ => false
  | .walkAccept _ _ => false
  | .walkReadReturn _ _ => false
  | .walkResultDelivery _ _ => false
  | .pressCommandPerform _ => false
  | .pressResultDelivery _ => false
  | .pressMark _ => false
  | .pressDrain _ => false
  | .scannerStep _ => false
  | .intersecterStep _ => false
  | .repeaterStep _ => false
  | .reducerStep _ => false
  | .reducerFlush _ => false
  | .nmDecoderStep _ => false
  | .apertureStep _ => false
  | .splitterStep _ => false
  | .splitterSlotRetry _ => false
  | .splitterSpillWrite _ => false
  | .splitterSpillRead _ => false
  | .collimatorStep _ => false
  | .unitMark _ => false
  | .unitDrain _ => false
  | .xctlApply _ => false
  | .unitRegisterRead _ _ => false
  | .clockRead _ _ => false
  | .wheyAdderStep _ => false
  | .wheyRootWrite _ => false
  | .brineWheyEmit _ => false
  | .imageLoad _ => false
  | .sourceInject _ _ => false
  | .sinkTake _ _ => false
  | .faultRecordPost _ => false
  | .eventRecordWrite _ => false
  | .signalHandle _ => false
  | .regionDrainComplete _ => false
  | .configSignatureCheck _ => false
  | .configStoreError _ => false
  | .configReloadDone _ => false
  | .regionResume _ _ => false
  | .regionFence _ _ => false
  | .sigcommit _ _ => false
  | .unhpop _ => false
  | .udataWrite _ _ => false
  | .dispatchAdmit => false
  | .queueAged _ => false
  | .taskBind => false
  | .bindReservation => false
  | .quantumExpiry _ => false
  | .markInject _ => false
  | .taskSaveComplete _ => false
  | .taskDrainDetect _ => false
  | .taskRetire _ => false
  | .abort _ _ => false
  | .preempt _ _ => false
  | .create _ => false
  | .restore _ => false
  | .contextRestoreDone _ => false
  | .quiesce _ => false
  | .quiesceComplete _ => false
  | .resume _ => false
  | .destroy _ => false
  | .destroyComplete _ => false
  | .resolveReplay _ _ => false
  | .resolveDiscard _ _ => false
  | .harvest _ => false
  | .harvestComplete _ => false
  | .quotaWrite _ _ => false
  | .enq _ => false
  | .enqSpillDone _ => false
  | .queueRefillDone _ => false
  | .queueEnable _ => false
  | .queueDisable _ => false
  | .pause _ => false
  | .unpause _ => false
  | .close _ => false
  | .clear _ => false
  | .tinvPage _ => false
  | .tinvContext _ => false
  | .tinvComplete => false
  | .deviceReset => false
  | .pllLockLoss => false
  | .boot => false
  | .linkTrainingDone _ _ => false
  | .flitReceive _ _ => false
  | .replayRequest _ _ => false
  | .replayExhausted _ => false
  | .linkEnable _ => false
  | .linkDisable _ => false
  | .linkRetrain _ => false
  | .linkFence _ => false
  | .read _ => false
  | .write _ => false
  | .signal _ => false
  | .atomic _ => false
  | .xchg64 _ => false
  | .cas64 _ => false
  | .reduce _ => false
  | .response _ => false
  | .nack _ => false
  | .mgmt _ => false
  | .transactionResend _ _ => false
  | .registerWrite _ _ _ => false
  | .aclWrite _ _ _ => false
  | .measmaskWrite _ _ => false
  | .report _ => false
  | .reportDone => false
  | .scrubPass _ _ => false
  | .powerGovernorSample => false
  | .dflRecordWrite => false
  | .round => false
  | .copyEngineMark _ => false

/-- R308, R309, R311: the same in a Loupe program. -/
def wfLoupe : Instr → Bool
  | .nop i p => poOk i p false
  | .mov d a i p t => dLoupe d && srcLoupe a && poOk i p true && t == 0
  | .pass _ _ _ _ => false
  | .drop _ _ _ => false
  | .sel d a b i p t => dLoupe d && srcLoupe a && srcLoupe b && poOk i p true && p != 0 && t == 0
  | .steer _ _ _ _ _ => false
  | .tagof _ _ _ _ _ => false
  | .mktag _ _ _ _ _ => false
  | .pand d a b i p t => dLoupe d && predCode a && predCode b && poOk i p true && t == 0
  | .por d a b i p t => dLoupe d && predCode a && predCode b && poOk i p true && t == 0
  | .pxor d a b i p t => dLoupe d && predCode a && predCode b && poOk i p true && t == 0
  | .pnot d a i p t => dLoupe d && predCode a && poOk i p true && t == 0
  | .pmov d a i p t => dLoupe d && predCode a && poOk i p true && t == 0
  | .ptod d i p t => dLoupe d && poOk i p true && t == 0
  | .dtop a => srcLoupe a
  | .iter _ _ _ _ => false
  | .cntrd _ _ _ _ _ => false
  | .cntset _ _ _ _ => false
  | .halt => false
  | .add d a b i p t => dLoupe d && srcLoupe a && srcLoupe b && poOk i p true && t == 0
  | .sub d a b i p t => dLoupe d && srcLoupe a && srcLoupe b && poOk i p true && t == 0
  | .adds _ _ _ _ _ _ => false
  | .subs _ _ _ _ _ _ => false
  | .addsn _ _ _ _ _ _ => false
  | .subsn _ _ _ _ _ _ => false
  | .neg d a i p t => dLoupe d && srcLoupe a && poOk i p true && t == 0
  | .abs d a i p t => dLoupe d && srcLoupe a && poOk i p true && t == 0
  | .mul d a b i p t => dLoupe d && srcLoupe a && srcLoupe b && poOk i p true && t == 0
  | .mulh d a b i p t => dLoupe d && srcLoupe a && srcLoupe b && poOk i p true && t == 0
  | .mulhn d a b i p t => dLoupe d && srcLoupe a && srcLoupe b && poOk i p true && t == 0
  | .mac _ _ _ _ _ _ => false
  | .min d a b i p t => dLoupe d && srcLoupe a && srcLoupe b && poOk i p true && t == 0
  | .max d a b i p t => dLoupe d && srcLoupe a && srcLoupe b && poOk i p true && t == 0
  | .minn d a b i p t => dLoupe d && srcLoupe a && srcLoupe b && poOk i p true && t == 0
  | .maxn d a b i p t => dLoupe d && srcLoupe a && srcLoupe b && poOk i p true && t == 0
  | .and d a b i p t => dLoupe d && srcLoupe a && srcLoupe b && poOk i p true && t == 0
  | .or d a b i p t => dLoupe d && srcLoupe a && srcLoupe b && poOk i p true && t == 0
  | .xor d a b i p t => dLoupe d && srcLoupe a && srcLoupe b && poOk i p true && t == 0
  | .andn d a b i p t => dLoupe d && srcLoupe a && srcLoupe b && poOk i p true && t == 0
  | .orn d a b i p t => dLoupe d && srcLoupe a && srcLoupe b && poOk i p true && t == 0
  | .not d a i p t => dLoupe d && srcLoupe a && poOk i p true && t == 0
  | .shl d a b i p t => dLoupe d && srcLoupe a && srcLoupe b && poOk i p true && t == 0
  | .shr d a b i p t => dLoupe d && srcLoupe a && srcLoupe b && poOk i p true && t == 0
  | .sar d a b i p t => dLoupe d && srcLoupe a && srcLoupe b && poOk i p true && t == 0
  | .rol d a b i p t => dLoupe d && srcLoupe a && srcLoupe b && poOk i p true && t == 0
  | .clz d a i p t => dLoupe d && srcLoupe a && poOk i p true && t == 0
  | .ctz d a i p t => dLoupe d && srcLoupe a && poOk i p true && t == 0
  | .popc d a i p t => dLoupe d && srcLoupe a && poOk i p true && t == 0
  | .brev d a i p t => dLoupe d && srcLoupe a && poOk i p true && t == 0
  | .bfx d a b i p t => dLoupe d && srcLoupe a && srcLoupe b && poOk i p true && t == 0
  | .bfxs d a b i p t => dLoupe d && srcLoupe a && srcLoupe b && poOk i p true && t == 0
  | .bfi _ _ _ _ _ _ => false
  | .cmpeq d a b i p t => dLoupe d && srcLoupe a && srcLoupe b && poOk i p true && t == 0
  | .cmpne d a b i p t => dLoupe d && srcLoupe a && srcLoupe b && poOk i p true && t == 0
  | .cmplt d a b i p t => dLoupe d && srcLoupe a && srcLoupe b && poOk i p true && t == 0
  | .cmple d a b i p t => dLoupe d && srcLoupe a && srcLoupe b && poOk i p true && t == 0
  | .cmpltn d a b i p t => dLoupe d && srcLoupe a && srcLoupe b && poOk i p true && t == 0
  | .cmplen d a b i p t => dLoupe d && srcLoupe a && srcLoupe b && poOk i p true && t == 0
  | .addh2 d a b i p t => dLoupe d && srcLoupe a && srcLoupe b && poOk i p true && t == 0
  | .subh2 d a b i p t => dLoupe d && srcLoupe a && srcLoupe b && poOk i p true && t == 0
  | .maxh2 d a b i p t => dLoupe d && srcLoupe a && srcLoupe b && poOk i p true && t == 0
  | .minh2 d a b i p t => dLoupe d && srcLoupe a && srcLoupe b && poOk i p true && t == 0
  | .addb4 d a b i p t => dLoupe d && srcLoupe a && srcLoupe b && poOk i p true && t == 0
  | .subb4 d a b i p t => dLoupe d && srcLoupe a && srcLoupe b && poOk i p true && t == 0
  | .maxb4 d a b i p t => dLoupe d && srcLoupe a && srcLoupe b && poOk i p true && t == 0
  | .minb4 d a b i p t => dLoupe d && srcLoupe a && srcLoupe b && poOk i p true && t == 0
  | .dot4 _ _ _ _ _ _ => false
  | .dot4n _ _ _ _ _ _ => false
  | .lea d a b i p _ => dLoupe d && srcLoupe a && srcLoupe b && poOk i p true && dReg d
  | .hash d a b i p t => dLoupe d && srcLoupe a && srcLoupe b && poOk i p true && t == 0
  | .xsh d a i p t => dLoupe d && srcLoupe a && poOk i p true && t == 0
  | .divn d a b i p t => dLoupe d && srcLoupe a && srcLoupe b && poOk i p true && t == 0
  | .remn d a b i p t => dLoupe d && srcLoupe a && srcLoupe b && poOk i p true && t == 0
  | .fadd _ _ _ _ _ _ => false
  | .fsub _ _ _ _ _ _ => false
  | .fmul _ _ _ _ _ _ => false
  | .ffma _ _ _ _ _ _ => false
  | .fmin _ _ _ _ _ _ => false
  | .fmax _ _ _ _ _ _ => false
  | .fabs _ _ _ _ _ => false
  | .fneg _ _ _ _ _ => false
  | .fcpys _ _ _ _ _ _ => false
  | .fcmpeq _ _ _ _ _ _ => false
  | .fcmplt _ _ _ _ _ _ => false
  | .fcmple _ _ _ _ _ _ => false
  | .fcmpun _ _ _ _ _ _ => false
  | .fclass _ _ _ _ _ => false
  | .fdiv _ _ _ _ _ _ => false
  | .fsqrt _ _ _ _ _ => false
  | .frcpe _ _ _ _ _ => false
  | .frsqe _ _ _ _ _ => false
  | .fex2 _ _ _ _ _ => false
  | .flg2 _ _ _ _ _ => false
  | .frint _ _ _ _ _ => false
  | .ffloor _ _ _ _ _ => false
  | .fceil _ _ _ _ _ => false
  | .ftrnc _ _ _ _ _ => false
  | .badd2 _ _ _ _ _ _ => false
  | .bsub2 _ _ _ _ _ _ => false
  | .bmul2 _ _ _ _ _ _ => false
  | .bfma2 _ _ _ _ _ _ => false
  | .bmax2 _ _ _ _ _ _ => false
  | .bmin2 _ _ _ _ _ _ => false
  | .hadd2 _ _ _ _ _ _ => false
  | .hsub2 _ _ _ _ _ _ => false
  | .hmul2 _ _ _ _ _ _ => false
  | .hfma2 _ _ _ _ _ _ => false
  | .hmax2 _ _ _ _ _ _ => false
  | .hmin2 _ _ _ _ _ _ => false
  | .cvtfi _ _ _ _ _ => false
  | .cvtif _ _ _ _ _ => false
  | .cvtifz _ _ _ _ _ => false
  | .cvtbf _ _ _ _ _ _ => false
  | .cvtbfz _ _ _ _ _ _ => false
  | .cvthf _ _ _ _ _ _ => false
  | .cvthfz _ _ _ _ _ _ => false
  | .cvtfb _ _ _ _ _ _ => false
  | .cvtfh _ _ _ _ _ _ => false
  | .cvte4 _ _ _ _ _ _ => false
  | .cvte4z _ _ _ _ _ _ => false
  | .cvte5 _ _ _ _ _ _ => false
  | .cvte5z _ _ _ _ _ _ => false
  | .cvtfe4 _ _ _ _ _ _ => false
  | .cvtfe5 _ _ _ _ _ _ => false
  | .cvtq4 _ _ _ _ _ _ => false
  | .cvtq4z _ _ _ _ _ _ => false
  | .cvtfq4 _ _ _ _ _ _ => false
  | .qsc _ _ _ _ _ => false
  | .ld8 _ _ _ _ => false
  | .ld8s _ _ _ _ => false
  | .ld16 _ _ _ _ => false
  | .ld16s _ _ _ _ => false
  | .ld32 _ _ _ _ => false
  | .st8 _ _ _ _ _ => false
  | .st16 _ _ _ _ _ => false
  | .st32 _ _ _ _ _ => false
  | .ldg _ _ _ _ _ => false
  | .stg _ _ _ _ _ _ => false
  | .fence _ _ => false
  | .aadd _ _ _ _ _ => false
  | .asub _ _ _ _ _ => false
  | .amin _ _ _ _ _ => false
  | .amax _ _ _ _ _ => false
  | .aminn _ _ _ _ _ => false
  | .amaxn _ _ _ _ _ => false
  | .aand _ _ _ _ _ => false
  | .aor _ _ _ _ _ => false
  | .axor _ _ _ _ _ => false
  | .axchg _ _ _ _ _ => false
  | .acas _ _ _ _ _ _ => false
  | .afadd _ _ _ _ _ => false
  | .abadd2 _ _ _ _ _ => false
  | .atake _ _ _ _ _ => false
  | .agive _ _ _ _ _ => false
  | .radd _ _ _ _ _ => false
  | .rmin _ _ _ _ _ => false
  | .rmax _ _ _ _ _ => false
  | .rminn _ _ _ _ _ => false
  | .rmaxn _ _ _ _ _ => false
  | .rand _ _ _ _ _ => false
  | .ror _ _ _ _ _ => false
  | .rxor _ _ _ _ _ => false
  | .rfadd _ _ _ _ _ => false
  | .rbadd2 _ _ _ _ _ => false
  | .copy _ _ _ _ => false
  | .carm _ _ => false
  | .cdis _ => false
  | .cstat _ _ => false
  | .tagany _ _ _ => false
  | .tagall _ _ _ => false
  | .tagff _ _ _ => false
  | .tagclr _ _ => false
  | .barinit _ _ _ _ _ => false
  | .bararr _ _ _ _ => false
  | .barkill _ _ _ _ => false
  | .barq _ _ _ _ => false
  | .walk _ _ _ _ => false
  | .sigsend _ _ _ _ => false
  | .event _ _ _ => false
  | .segstep _ _ _ _ => false
  | .segend _ _ _ _ _ => false
  | .sumnew _ _ => false
  | .sumapp _ _ => false
  | .sumbsc _ _ _ => false
  | .sumpatch _ _ => false
  | .sumrd _ _ _ => false
  | .sumseal => false
  | .ptbl _ => false
  | .pmask _ _ => false
  | .ppoint _ _ => false
  | .pclr _ _ => false
  | .pseg _ _ => false
  | .pdense _ _ _ => false
  | .pvlda _ _ _ => false
  | .pvldb _ _ _ => false
  | .pouter _ _ _ => false
  | .pread _ _ _ _ => false
  | .pstat _ _ => false
  | .psync _ _ => false
  | .wrd d _ _ => dPredN d
  | .wptr d _ => dPredN d
  | .wcmp d _ => dPred d
  | .whash d a _ => dPredN d && srcLoupe a
  | .wret _ => true
  | .wmiss => true
  | .wfail => true
  | .wnext d _ => dPredN d
  | .trap _ _ => false
  | .brk _ _ => false
  | .whey => false
  | .ident _ _ => false
  | .clock _ => false
  | .xctl _ _ _ _ => false
  | .xstat _ _ _ => false
  | .ruleUrgent _ _ => false
  | .longLatencyCommit _ _ => false
  | .tokenArrival _ => false
  | .haltedDiscard _ => false
  | .elementMark _ => false
  | .elementDrainForward _ => false
  | .memoryAccessAtHome _ => false
  | .memoryResponse _ => false
  | .postedTranslate _ => false
  | .pageWalk _ => false
  | .fenceComplete _ _ => false
  | .copyTrigger _ => false
  | .copyIssueDeferred _ _ => false
  | .copyTransfer _ _ => false
  | .copyComplete _ _ => false
  | .copyEngineDrain _ => false
  | .bararrSend _ _ => false
  | .barrierHomeOp _ => false
  | .barrierVerdict _ => false
  | .walkAccept _ _ => false
  | .walkReadReturn _ _ => false
  | .walkResultDelivery _ _ => false
  | .pressCommandPerform _ => false
  | .pressResultDelivery _ => false
  | .pressMark _ => false
  | .pressDrain _ => false
  | .scannerStep _ => false
  | .intersecterStep _ => false
  | .repeaterStep _ => false
  | .reducerStep _ => false
  | .reducerFlush _ => false
  | .nmDecoderStep _ => false
  | .apertureStep _ => false
  | .splitterStep _ => false
  | .splitterSlotRetry _ => false
  | .splitterSpillWrite _ => false
  | .splitterSpillRead _ => false
  | .collimatorStep _ => false
  | .unitMark _ => false
  | .unitDrain _ => false
  | .xctlApply _ => false
  | .unitRegisterRead _ _ => false
  | .clockRead _ _ => false
  | .wheyAdderStep _ => false
  | .wheyRootWrite _ => false
  | .brineWheyEmit _ => false
  | .imageLoad _ => false
  | .sourceInject _ _ => false
  | .sinkTake _ _ => false
  | .faultRecordPost _ => false
  | .eventRecordWrite _ => false
  | .signalHandle _ => false
  | .regionDrainComplete _ => false
  | .configSignatureCheck _ => false
  | .configStoreError _ => false
  | .configReloadDone _ => false
  | .regionResume _ _ => false
  | .regionFence _ _ => false
  | .sigcommit _ _ => false
  | .unhpop _ => false
  | .udataWrite _ _ => false
  | .dispatchAdmit => false
  | .queueAged _ => false
  | .taskBind => false
  | .bindReservation => false
  | .quantumExpiry _ => false
  | .markInject _ => false
  | .taskSaveComplete _ => false
  | .taskDrainDetect _ => false
  | .taskRetire _ => false
  | .abort _ _ => false
  | .preempt _ _ => false
  | .create _ => false
  | .restore _ => false
  | .contextRestoreDone _ => false
  | .quiesce _ => false
  | .quiesceComplete _ => false
  | .resume _ => false
  | .destroy _ => false
  | .destroyComplete _ => false
  | .resolveReplay _ _ => false
  | .resolveDiscard _ _ => false
  | .harvest _ => false
  | .harvestComplete _ => false
  | .quotaWrite _ _ => false
  | .enq _ => false
  | .enqSpillDone _ => false
  | .queueRefillDone _ => false
  | .queueEnable _ => false
  | .queueDisable _ => false
  | .pause _ => false
  | .unpause _ => false
  | .close _ => false
  | .clear _ => false
  | .tinvPage _ => false
  | .tinvContext _ => false
  | .tinvComplete => false
  | .deviceReset => false
  | .pllLockLoss => false
  | .boot => false
  | .linkTrainingDone _ _ => false
  | .flitReceive _ _ => false
  | .replayRequest _ _ => false
  | .replayExhausted _ => false
  | .linkEnable _ => false
  | .linkDisable _ => false
  | .linkRetrain _ => false
  | .linkFence _ => false
  | .read _ => false
  | .write _ => false
  | .signal _ => false
  | .atomic _ => false
  | .xchg64 _ => false
  | .cas64 _ => false
  | .reduce _ => false
  | .response _ => false
  | .nack _ => false
  | .mgmt _ => false
  | .transactionResend _ _ => false
  | .registerWrite _ _ _ => false
  | .aclWrite _ _ _ => false
  | .measmaskWrite _ _ => false
  | .report _ => false
  | .reportDone => false
  | .scrubPass _ _ => false
  | .powerGovernorSample => false
  | .dflRecordWrite => false
  | .round => false
  | .copyEngineMark _ => false

/-- R109, R110, R67: the guard words an element accepts; bits 7:6 of TB.ARG name the end or control input. -/
def wfGuard (g a : Word) : Bool :=
  if fldN g 0 1 == 0 then g == 0 && a == 0
  else
    (fld g 16 8 &&& ~~~ fld g 24 8) == 0
      && (fldN g 10 3 != 0 || fldN g 13 3 == 0)
      && (match fldN g 8 2 with
          | 0 => fldN g 4 4 == 0
          | 3 => fldN g 5 1 == 0
          | _ => true)

/-- R308: the guard words of a Loupe program test predicates only. -/
def wfGuardLoupe (g a : Word) : Bool :=
  wfGuard g a && fldN g 10 3 == 0 && fldN g 8 2 == 0 && fldN g 1 1 == 0

end Sys2Proof
end

