-- ==== Sys2Proof/Machine/Ops.lean ====
section
/-! DEFINITION. Named operations over memory, ids, ends and records; freezing an element, which is how this machine takes
an exception (R79, R80, R82), and resuming it (R80), which is the return. -/

namespace Sys2Proof.Machine

/-! Memory (spec/12 R284 to R291; spec/00 R5). -/

/-- The byte at `a`; an unlisted byte reads 0. -/
def Memory.read : Memory → Nat → Byte
  | [], _ => 0
  | (j, v) :: t, a => if j = a then v else Memory.read t a

/-- Write one byte, keeping addresses rising and listing no 0. -/
def Memory.write : Memory → Nat → Byte → Memory
  | [], a, b => if b = 0 then [] else [(a, b)]
  | (j, v) :: t, a, b =>
    if a < j then (if b = 0 then (j, v) :: t else (a, b) :: (j, v) :: t)
    else if j = a then (if b = 0 then t else (a, b) :: t)
    else (j, v) :: Memory.write t a b

/-- The canonical form above a bound: addresses strictly rising from `lo` on, no listed 0. -/
def Memory.wfFrom : Nat → Memory → Bool
  | _, [] => true
  | lo, (j, v) :: t => decide (lo ≤ j) && decide (v ≠ 0) && Memory.wfFrom (j + 1) t

/-- The canonical form of memory. -/
def Memory.wf (m : Memory) : Bool := Memory.wfFrom 0 m

/-- R5: `n` bytes at `a`, little-endian. -/
def Memory.readN (m : Memory) (a : Nat) : Nat → Nat
  | 0 => 0
  | n + 1 => (m.read a).toNat + 256 * Memory.readN m (a + 1) n

/-- R5: store the low `n` bytes of `v` at `a`, little-endian. -/
def Memory.writeN (m : Memory) (a : Nat) : Nat → Nat → Memory
  | 0, _ => m
  | n + 1, v => Memory.writeN (m.write a (BitVec.ofNat 8 v)) (a + 1) n (v / 256)

/-- Bytes at rising addresses. -/
def Memory.readBytes (m : Memory) (a : Nat) : Nat → List Byte
  | 0 => []
  | n + 1 => m.read a :: Memory.readBytes m (a + 1) n

/-- Store bytes at rising addresses. -/
def Memory.writeBytes (m : Memory) (a : Nat) : List Byte → Memory
  | [] => m
  | b :: t => Memory.writeBytes (m.write a b) (a + 1) t

/-- A 32-bit word at `a`. -/
def Memory.word (m : Memory) (a : Nat) : Word := BitVec.ofNat 32 (m.readN a 4)

/-- `n` words at `a`. -/
def Memory.words (m : Memory) (a : Nat) : Nat → List Word
  | 0 => []
  | n + 1 => m.word a :: Memory.words m (a + 4) n

/-- Store words at rising addresses. -/
def Memory.writeWords (m : Memory) (a : Nat) : List Word → Memory
  | [] => m
  | w :: t => Memory.writeWords (m.writeN a 4 w.toNat) (a + 4) t

/-! Ids (spec/00 R8, R9; spec/01 R16, R17). -/

/-- The region of an element. -/
def regionOfElem (el : Nat) : Nat := el / 256 % 64
/-- Tile id of the tile at local position `pos` of region `reg` (R17). -/
def tileAt (reg pos : Nat) : Nat :=
  (reg / 16) * 256 + (4 * (reg % 16 / 4) + pos / 4) * 16 + 4 * (reg % 4) + pos % 4
/-- The C-tile of an element. -/
def tileOfElem (el : Nat) : Nat := tileAt (el / 256 % 64) (el / 16 % 16)
/-- The region of a tile (R17). -/
def regionOfTile (t : Nat) : Nat := (t / 256) * 16 + (t / 16 % 16 / 4) * 4 + t % 16 / 4
/-- The local position of a tile in its region (R16). -/
def posOfTile (t : Nat) : Nat := (t / 16 % 4) * 4 + t % 4
/-- Element `e` of a tile. -/
def elemOfTile (t e : Nat) : Nat := regionOfTile t * 256 + posOfTile t * 16 + e
/-- The E-tile, the M-tiles and the S-tile of a region (R16). -/
def etileOf (reg : Nat) : Nat := tileAt reg 0

/-- R16: the kinds of tiles. -/
inductive TileKind where
  | c | m | s | e
  deriving DecidableEq, Repr

/-- R16: the kind of tile at a local position. -/
def kindAt (pos : Nat) : TileKind :=
  if pos = 0 then .e else if pos = 6 ∨ pos = 9 then .m else if pos = 15 then .s else .c

/-- The kind of a tile. -/
def kindOfTile (t : Nat) : TileKind := kindAt (posOfTile t)

/-- R17: row and column of a region in the package's 8 × 8 grid. -/
def regionRow (reg : Nat) : Nat := 4 * (reg / 32) + reg % 16 / 4
def regionCol (reg : Nat) : Nat := 4 * (reg / 16 % 2) + reg % 4
/-- The region at a row and column of the 8 × 8 grid. -/
def regionAt (r c : Nat) : Nat := (2 * (r / 4) + c / 4) * 16 + (r % 4) * 4 + c % 4
/-- R17: row and column of a tile in the package's 32 × 32 grid. -/
def tileRow (t : Nat) : Nat := 16 * (t / 512) + t / 16 % 16
def tileCol (t : Nat) : Nat := 16 * (t / 256 % 2) + t % 16
/-- The tile at a row and column of the 32 × 32 grid. -/
def tileAtGrid (r c : Nat) : Nat := (2 * (r / 16) + c / 16) * 256 + (r % 16) * 16 + c % 16

/-- The regions of a span, row-major (R18). -/
def spanRegions (row col rows cols : Nat) : List Nat :=
  (List.range rows).flatMap (fun r => (List.range cols).map (fun c => regionAt (row + r) (col + c)))

/-- The tiles of a span, row-major over the whole span, across seams (R9, R18). -/
def spanTiles (row col rows cols : Nat) : List Nat :=
  (List.range (4 * rows)).flatMap (fun r => (List.range (4 * cols)).map (fun c => tileAtGrid (4 * row + r) (4 * col + c)))

/-- R21: rounds a token takes from one tile to another on the columns-first route: 1 + hops + 8 for each seam. -/
def routeDelay (a b : Nat) : Nat :=
  let dr := max (tileRow a) (tileRow b) - min (tileRow a) (tileRow b)
  let dc := max (tileCol a) (tileCol b) - min (tileCol a) (tileCol b)
  let seams := (if tileRow a / 16 = tileRow b / 16 then 0 else 1) + (if tileCol a / 16 = tileCol b / 16 then 0 else 1)
  1 + dr + dc + 8 * seams

/-- R21: rounds a memory flit takes from one tile to another: 1 for each hop and 8 for each seam. -/
def flitDelay (a b : Nat) : Nat := routeDelay a b - 1

/-! The physical map (R284). -/

/-- HBM5, 1 TiB. -/
def isHbm (pa : Nat) : Bool := decide (pa < 2 ^ 40)
/-- Fabric space. -/
def isFabric (pa : Nat) : Bool := decide (2 ^ 51 ≤ pa ∧ pa < 2 ^ 52)
/-- An M-tile slice. -/
def isMslice (pa : Nat) : Bool :=
  decide (2 ^ 40 ≤ pa ∧ pa < 2 ^ 40 + 1024 * 2 ^ 22) && kindOfTile ((pa - 2 ^ 40) / 2 ^ 22) == .m
/-- A C-tile slice, 512 KiB of its stride. -/
def isCslice (pa : Nat) : Bool :=
  decide (2 ^ 40 ≤ pa ∧ pa < 2 ^ 40 + 1024 * 2 ^ 22) && kindOfTile ((pa - 2 ^ 40) / 2 ^ 22) == .c
    && decide ((pa - 2 ^ 40) % 2 ^ 22 < 2 ^ 19)
/-- A device byte that exists. -/
def isDevice (pa : Nat) : Bool := isHbm pa || isMslice pa || isCslice pa

/-- A range of `n` bytes lies wholly in one place that exists: HBM, one slice, or fabric space (R284, R406). -/
def rangeOk (pa n : Nat) : Bool :=
  if n = 0 then true
  else if isHbm pa then isHbm (pa + n - 1)
  else if isFabric pa then isFabric (pa + n - 1)
  else (isMslice pa && isMslice (pa + n - 1) || isCslice pa && isCslice (pa + n - 1))
    && decide ((pa - 2 ^ 40) / 2 ^ 22 = (pa + n - 1 - 2 ^ 40) / 2 ^ 22)

/-- The same range, in HBM or an M-tile slice: where tables, queues and areas may lie (R362, R375, R392, R436). -/
def areaOk (pa n : Nat) : Bool :=
  rangeOk pa n && (isHbm pa || isMslice pa)

/-- R285: the region whose E-tile controls an HBM address. -/
def hbmRegion (h : Nat) : Nat :=
  let q := (h / 2 ^ 9 % 2 ^ 12) ^^^ (h / 2 ^ 21 % 2 ^ 12)
  let s := q / 512
  (s / 2) * 16 + 8 * (s % 2) + q % 512 / 64

/-- R187, R285: the tile of the home of an address: its slice's, or the E-tile of its pseudo-channel. -/
def homeTile (pa : Nat) : Nat := if isHbm pa then etileOf (hbmRegion pa) else (pa - 2 ^ 40) / 2 ^ 22

/-- R21: rounds a memory flit takes between a tile and the home of an address; the way to the hub has no hops of R17. -/
def flitHome (tile pa : Nat) : Nat := if isFabric pa then 0 else flitDelay tile (homeTile pa)

/-! Components by id. -/

def State.elem (s : State) (el : Nat) : Elem := Table.getD s.elems el {}
def State.setElem (s : State) (el : Nat) (e : Elem) : State := { s with elems := Table.put s.elems el e }
def State.copyEng (s : State) (t : Nat) : CopyEng := Table.getD s.copies t {}
def State.setCopy (s : State) (t : Nat) (c : CopyEng) : State := { s with copies := Table.put s.copies t c }
def State.press (s : State) (t : Nat) : Press := Table.getD s.presses t {}
def State.setPress (s : State) (t : Nat) (p : Press) : State := { s with presses := Table.put s.presses t p }
def State.loupe (s : State) (t : Nat) : Loupe := Table.getD s.loupes t {}
def State.setLoupe (s : State) (t : Nat) (l : Loupe) : State := { s with loupes := Table.put s.loupes t l }
def State.unit? (s : State) (u : Nat) : Option SUnit := Table.get? s.units u
def State.setUnit (s : State) (u : Nat) (x : SUnit) : State := { s with units := Table.put s.units u x }
def State.region (s : State) (r : Nat) : Region := Table.getD s.regions r {}
def State.setRegion (s : State) (r : Nat) (x : Region) : State := { s with regions := Table.put s.regions r x }
def State.task? (s : State) (t : Nat) : Option Task := Table.get? s.tasks t
def State.setTask (s : State) (t : Nat) (x : Task) : State := { s with tasks := Table.put s.tasks t x }
def State.ctx (s : State) (c : Nat) : Ctx := Table.getD s.ctxs c {}
def State.setCtx (s : State) (c : Nat) (x : Ctx) : State := { s with ctxs := Table.put s.ctxs c x }
def State.queue (s : State) (q : Nat) : Queue := Table.getD s.queues q {}
def State.setQueue (s : State) (q : Nat) (x : Queue) : State := { s with queues := Table.put s.queues q x }
def State.link (s : State) (l : Nat) : Link := Table.getD s.links l {}
def State.setLink (s : State) (l : Nat) (x : Link) : State := { s with links := Table.put s.links l x }
def State.ep (s : State) (e : Nat) : Endpoint := Table.getD s.eps e {}
def State.setEp (s : State) (e : Nat) (x : Endpoint) : State := { s with eps := Table.put s.eps e x }
def State.tlb (s : State) (t : Nat) : Tlb := Table.getD s.tlbs t []
def State.setTlb (s : State) (t : Nat) (x : Tlb) : State := { s with tlbs := Table.put s.tlbs t x }
def State.bank (s : State) (k : Nat) : Banks := Table.getD s.banks k {}

/-- R24: the value of a region's cycle counter throughout this round. -/
def State.cycleOf (s : State) (r : Nat) : Dword := (s.region r).cycle

/-- The task a region runs. -/
def State.taskOfRegion (s : State) (r : Nat) : Nat := (s.region r).task.toNat

/-- The task of an element. -/
def State.taskOfElem (s : State) (el : Nat) : Nat := s.taskOfRegion (regionOfElem el)

/-- R130, R286: a window of a task; a window with no record has length 0. -/
def State.window (s : State) (task : Nat) (w : BitVec 3) : Window :=
  match s.task? task with
  | some t => t.wins[w.toNat]
  | none => {}

/-- The context of a task. -/
def State.ctxOfTask (s : State) (task : Nat) : Nat :=
  match s.task? task with
  | some t => t.ctx
  | none => 0

/-- A fresh name. -/
def State.bump (s : State) : State := { s with fresh := s.fresh + 1 }

/-! Saturating counters. -/

/-- Add, holding at the largest value. -/
def satAdd {w : Nat} (x : BitVec w) (n : Nat) : BitVec w :=
  if 2 ^ w ≤ x.toNat + n then BitVec.allOnes w else BitVec.ofNat w (x.toNat + n)

/-- R43: increments land in a counter set. -/
def Stats.add {w : Nat} (c : Stats w) (i : Inc) : Stats w :=
  { sat := satAdd c.sat i.sat, nan := satAdd c.nan i.nan, inf := satAdd c.inf i.inf, flush := satAdd c.flush i.flush }

/-- R43: increments of one round all land. -/
def Inc.plus (a b : Inc) : Inc :=
  { sat := a.sat + b.sat, nan := a.nan + b.nan, inf := a.inf + b.inf, flush := a.flush + b.flush }

/-! Ports of nodes. -/

/-- The ends of the node `unit` of a tile (R126). -/
def State.ports (s : State) (tile unit : Nat) : Ports :=
  match kindOfTile tile with
  | .c =>
    if unit < 16 then (s.elem (elemOfTile tile unit)).ports
    else if unit = 16 then (s.press tile).ports
    else (s.copyEng tile).ports
  | _ =>
    match s.unit? (tile * 64 + unit) with
    | some u => u.ports
    | none => {}

/-- Replace the ends of a node. -/
def State.setPorts (s : State) (tile unit : Nat) (p : Ports) : State :=
  match kindOfTile tile with
  | .c =>
    if unit < 16 then s.setElem (elemOfTile tile unit) { s.elem (elemOfTile tile unit) with ports := p }
    else if unit = 16 then s.setPress tile { s.press tile with ports := p }
    else s.setCopy tile { s.copyEng tile with ports := p }
  | _ =>
    match s.unit? (tile * 64 + unit) with
    | some u => s.setUnit (tile * 64 + unit) { u with ports := p }
    | none => s

/-- Element `k` of a vector of ends, by a number below its length. -/
def Ports.inAt (p : Ports) (k : Nat) : InEnd := p.ins[k % 8]'(Nat.mod_lt _ (by decide))
def Ports.outAt (p : Ports) (k : Nat) : OutEnd := p.outs[k % 8]'(Nat.mod_lt _ (by decide))
def Ports.cinAt (p : Ports) (k : Nat) : CtlEnd := p.cins[k % 4]'(Nat.mod_lt _ (by decide))
def Ports.coutAt (p : Ports) (k : Nat) : CtlEnd := p.couts[k % 4]'(Nat.mod_lt _ (by decide))
def Ports.setIn (p : Ports) (k : Nat) (x : InEnd) : Ports := { p with ins := p.ins.set (k % 8) x (Nat.mod_lt _ (by decide)) }
def Ports.setOut (p : Ports) (k : Nat) (x : OutEnd) : Ports := { p with outs := p.outs.set (k % 8) x (Nat.mod_lt _ (by decide)) }
def Ports.setCin (p : Ports) (k : Nat) (x : CtlEnd) : Ports := { p with cins := p.cins.set (k % 4) x (Nat.mod_lt _ (by decide)) }
def Ports.setCout (p : Ports) (k : Nat) (x : CtlEnd) : Ports := { p with couts := p.couts.set (k % 4) x (Nat.mod_lt _ (by decide)) }

/-- R65: free entries of an output end; none while a walk holds it (R210). -/
def OutEnd.room (o : OutEnd) : Nat := if o.walk then 0 else 2 - o.slots.length
/-- R65: free entries of an input end. -/
def InEnd.room (i : InEnd) : Nat := 4 - i.buf.length
/-- Free entries of a control output (R60, R68). -/
def CtlEnd.room (c : CtlEnd) : Nat := 2 - c.held - c.reserved

/-- Enqueue a token on output `k`. -/
def Ports.push (p : Ports) (k : Nat) (t : Token) : Ports :=
  let o := p.outAt k
  p.setOut k { o with slots := o.slots ++ [.full t] }

/-- The head token of input `k`. -/
def Ports.head (p : Ports) (k : Nat) : Option Token := (p.inAt k).buf.head?

/-- Take the head token of input `k`. -/
def Ports.take (p : Ports) (k : Nat) : Ports :=
  let i := p.inAt k
  p.setIn k { i with buf := i.buf.tail }

/-- Fill the first entry held under `id` with a token. -/
def fillSlot (id : Nat) (t : Token) : List Slot → List Slot
  | [] => []
  | .held j :: r => if j = id then .full t :: r else .held j :: fillSlot id t r
  | .full u :: r => .full u :: fillSlot id t r

/-- Release every entry held under `id`. -/
def dropSlots (id : Nat) (l : List Slot) : List Slot := l.filter (fun x => x != .held id)

/-- Fill the entries held under `id` on output `k`, one for each token, in order. -/
def Ports.fill (p : Ports) (k id : Nat) (ts : List Token) : Ports :=
  let o := p.outAt k
  p.setOut k { o with slots := dropSlots id (ts.foldl (fun l t => fillSlot id t l) o.slots) }

/-- Release the entries held under `id` on output `k`. -/
def Ports.release (p : Ports) (k id : Nat) : Ports :=
  let o := p.outAt k
  p.setOut k { o with slots := dropSlots id o.slots }

/-- Reserve `n` entries under `id` on output `k` (R68 item 2). -/
def Ports.hold (p : Ports) (k id n : Nat) : Ports :=
  let o := p.outAt k
  p.setOut k { o with slots := o.slots ++ List.replicate n (.held id) }

/-! Taking an exception (R79, R80, R82) and the return (R80). -/

/-- R80, R416: enter FROZEN with a fault register. The first abort of a round is recorded, so the lowest rule index is;
an abort replaces what a trap of the same round recorded, but for USER. -/
def Elem.freeze (e : Elem) (f : FaultReg) (trap : Bool) : Elem :=
  match e.life with
  | .frozen =>
    if e.fault.code = 0x60 ∨ e.fault.code = 0x61 then
      if trap then e else { e with fault := { f with user := e.fault.user }, unposted := true }
    else if trap then { e with fault := { e.fault with user := f.user } } else e
  | _ => { e with life := .frozen, fault := f, unposted := true }

/-- R79, R80: a rule that cannot complete leaves no effect but the freeze of its element. -/
def State.abortRule (s : State) (el : Nat) (f : FaultReg) : State :=
  s.setElem el ((s.elem el).freeze { f with stamp := s.cycleOf (regionOfElem el) } false)

/-- R80, R82, R86: resume a FROZEN element: RUNNING again, HALTED when HALT had fired (R89), MARKED when it has passed MARK
(R87); the register is cleared. -/
def Elem.resume (e : Elem) : Elem :=
  match e.life with
  | .frozen =>
    { e with life := if e.markSent then .marked else if e.halted then .halted else .running, fault := {}, unposted := false }
  | _ => e

end Sys2Proof.Machine
end

