-- ==== Sys2Proof/Machine/Operands.lean ====
section
/-! DEFINITION. Operand forms, the delivery of results, and the commit of a fired rule (spec/03 R66 to R68, R74, R75, R79,
R84; spec/05 R111, R112; spec/06 R134, R135; spec/13 R308). -/

namespace Sys2Proof.Machine

/-! Operands. -/

/-- R68 item 1: the head token of i(k), unless there is none or it is MARK or DRAIN. -/
def Elem.headTok (e : Elem) (k : Nat) : Option Token :=
  match e.ports.head k with
  | some t => if t.tag == Tag.mark || t.tag == Tag.drain then none else some t
  | none => none

/-- R134: the value that an operand code reads, with the tag of the head token for a channel operand. -/
def Elem.src? (e : Elem) (code : BitVec 5) : Option Token :=
  let n := code.toNat
  if n < 8 then some ⟨e.d[n % 8]'(Nat.mod_lt _ (by decide)), Tag.data⟩
  else if n < 16 then e.headTok (n - 8)
  else if n < 24 then e.headTok (n - 16)
  else some ⟨e.c[n % 8]'(Nat.mod_lt _ (by decide)), Tag.data⟩

/-- R308: the value that an operand code reads in a Loupe program. -/
def wsrc (l : Loupe) (x : WSlot) (code : BitVec 5) : Word :=
  let n := code.toNat
  if n < 4 then x.v[n % 4]'(Nat.mod_lt _ (by decide))
  else if n = 4 then x.key
  else if n = 5 then x.ptr
  else if n = 6 then BitVec.ofNat 32 x.step.toNat
  else l.c[n % 8]'(Nat.mod_lt _ (by decide))

/-- What an instruction computes from. -/
structure In where
  a : Token
  b : Token
  /-- The old value of d(D), for instructions that read it (R138). -/
  d : Word
  p : BitVec 8
  l : Vector Counter 2
  sg : BitVec 64
  c : Vector Word 8

/-- What an instruction does: abort with a code, or write, with its flag and its statistics. -/
inductive Res where
  | abort (code : Byte)
  | done (puts : List Put) (flag : Bool) (inc : Inc)

/-- The fields of a rule that the shared operation uses: destination, operand codes (none for an unused field), PI, PO,
and the latency of R69. -/
structure Req where
  d : BitVec 5 := 24
  a : Option (BitVec 5) := none
  b : Option (BitVec 5) := none
  i : BitVec 3 := 0
  p : BitVec 2 := 0
  lat : Nat := 1

/-- An unused operand reads as 0. -/
def Elem.opnd (e : Elem) : Option (BitVec 5) → Option Token
  | none => some ⟨0, Tag.data⟩
  | some c => e.src? c

/-- R134: the operands of a rule; none while a channel operand has no token. -/
def Elem.input (e : Elem) (q : Req) : Option In :=
  match e.opnd q.a, e.opnd q.b with
  | some a, some b =>
    some { a := a, b := b, d := e.d[q.d.toNat % 8]'(Nat.mod_lt _ (by decide)), p := e.p, l := e.l, sg := e.sg, c := e.c }
  | _, _ => none

/-! Delivery (R135). -/

/-- R135: the write of result `r` to D, with `tag` on a channel. -/
def deliver (d : BitVec 5) (tag : Tag) (r : Word) : List Put :=
  let n := d.toNat
  if n < 8 then [.d (BitVec.ofNat 3 n) r]
  else if n < 16 then [.out (BitVec.ofNat 3 (n - 8)) [⟨r, tag⟩]]
  else if n < 24 then [.p (BitVec.ofNat 3 (n - 16)) (r != 0)]
  else []

/-- R135: the predicate update that follows the D write. -/
def update (i : BitVec 3) (p : BitVec 2) (flag : Bool) : List Put :=
  match p.toNat with
  | 1 => [.p i true]
  | 2 => [.p i false]
  | 3 => [.p i flag]
  | _ => []

/-- A plain result: delivered to D with tag OT. -/
def ret (d : BitVec 5) (t : Tag) (r : Word) (flag : Bool) (inc : Inc := {}) : Res := .done (deliver d t r) flag inc

/-! The commit of a fired rule. -/

/-- Write predicate `k`. -/
def setPred (p : BitVec 8) (k : Nat) (v : Bool) : BitVec 8 :=
  if v then p ||| ((1 : BitVec 8) <<< k) else p &&& ~~~ ((1 : BitVec 8) <<< k)

/-- One write. -/
def Elem.put (e : Elem) : Put → Elem
  | .d k v => { e with d := e.d.set k.toNat v k.isLt }
  | .p k v => { e with p := setPred e.p k.toNat v }
  | .pAll v => { e with p := v }
  | .l k c => { e with l := e.l.set k.toNat c k.isLt }
  | .sg v => { e with sg := v }
  | .out k ts => { e with ports := ts.foldl (fun p t => p.push k.toNat t) e.ports }
  | .co k =>
    let c := e.ports.coutAt k.toNat
    { e with ports := e.ports.setCout k.toNat { c with held := c.held + 1 } }

/-- All writes, in order. -/
def Elem.puts (e : Elem) (l : List Put) : Elem := l.foldl Elem.put e

/-- R134: the input end that an operand code takes. -/
def takeOf : Option (BitVec 5) → List Nat
  | none => []
  | some c => if 8 ≤ c.toNat ∧ c.toNat < 16 then [c.toNat - 8] else []

/-- R112: the input ends that A and B take, a shared end once. -/
def takes (a b : Option (BitVec 5)) : List Nat :=
  if takeOf a == takeOf b then takeOf a else takeOf a ++ takeOf b

/-- DATA or LAST. -/
def isData (t : Token) : Bool := t.tag == Tag.data || t.tag == Tag.last

/-- S1 to S4. -/
def isStop (t : Token) : Bool := decide (2 ≤ t.tag.toNat ∧ t.tag.toNat ≤ 5)

/-- R84: a rule that takes a DATA or LAST token from a cycle's entry raises its occupancy. -/
def Elem.admission (e : Elem) (k : Nat) : Elem :=
  match e.headTok k with
  | some t =>
    if isData t then
      { e with cycles := e.cycles.map (fun c => if c.entry.toNat = k then { c with occ := satAdd c.occ 1 } else c) }
    else e
  | none => e

/-- Take the head of input `k`, with the admission of R84. -/
def Elem.takeIn (e : Elem) (k : Nat) : Elem :=
  let e' := e.admission k
  { e' with ports := e'.ports.take k }

/-- R84: a rule that issues a DATA or LAST token for a cycle's exit lowers its occupancy, never below 0. -/
def Elem.leave (e : Elem) : Put → Elem
  | .out k ts =>
    if ts.any isData then
      { e with cycles := e.cycles.map (fun c => if c.exit = k ∧ c.occ ≠ 0 then { c with occ := c.occ - 1 } else c) }
    else e
  | _ => e

/-- R67: a TB control-present test takes one control token. -/
def Elem.takeCtl (e : Elem) (rule : Nat) : Elem :=
  let g := e.guards[rule % 16]'(Nat.mod_lt _ (by decide))
  if fldN g 8 2 = 3 ∧ fldN g 4 2 = 0 then
    let c := e.ports.cinAt (fldN g 6 2)
    { e with ports := e.ports.setCin (fldN g 6 2) { c with held := c.held - 1 } }
  else e

/-- R74: ONCE sets the rule's DIS bit. -/
def Elem.once (e : Elem) (rule : Nat) : Elem :=
  let g := e.guards[rule % 16]'(Nat.mod_lt _ (by decide))
  if fldN g 1 1 = 1 then { e with dis := e.dis ||| ((1 : BitVec 16) <<< (rule % 16)) } else e

/-- R64: the control tokens of a firing: on every bound end whose rule fires, for a FLAG binding when the flag is 1. -/
def Elem.boundCo (e : Elem) (rule : Nat) (flag : Bool) : List Put :=
  (List.range 4).filterMap (fun k =>
    let b := e.binds[k % 4]'(Nat.mod_lt _ (by decide))
    if b.en ∧ b.rule.toNat = rule ∧ (!b.flag ∨ flag) then some (.co (BitVec.ofNat 2 k)) else none)

/-- Tokens that writes enqueue on output `k`. -/
def outCount (l : List Put) (k : Nat) : Nat :=
  l.foldl (fun n x => match x with
    | .out j ts => if j.toNat = k then n + ts.length else n
    | _ => n) 0

/-- R68 item 2: room for every token and control token of the writes. -/
def Elem.roomFor (e : Elem) (l : List Put) : Bool :=
  (List.range 8).all (fun k => outCount l k == 0 || decide (outCount l k ≤ (e.ports.outAt k).room))
    && (List.range 4).all (fun k => !(l.contains (.co (BitVec.ofNat 2 k))) || decide (1 ≤ (e.ports.coutAt k).room))

/-- R75: the locations that writes leave pending. -/
def locsOf (l : List Put) : List Loc :=
  l.flatMap (fun x => match x with
    | .d k _ => [.d k.toNat]
    | .p k _ => [.p k.toNat]
    | .pAll _ => (List.range 8).map Loc.p
    | .l k _ => [.l k.toNat]
    | .sg _ => [.sg]
    | .out _ _ => []
    | .co _ => [])

/-- The output ends that writes enqueue on. -/
def endsOf (l : List Put) : List (BitVec 3) :=
  (List.range 8).filterMap (fun k => if outCount l k = 0 then none else some (BitVec.ofNat 3 k))

/-- R68 item 2, R75: reserve the entries of the writes under `id`. -/
def Elem.reserve (e : Elem) (id : Nat) (l : List Put) : Elem :=
  l.foldl (fun e x => match x with
    | .out k ts => { e with ports := e.ports.hold k.toNat id ts.length }
    | .co k =>
      let c := e.ports.coutAt k.toNat
      { e with ports := e.ports.setCout k.toNat { c with reserved := c.reserved + 1 } }
    | _ => e) e

/-- The completion of a reserved write: a token fills its entry, a control token its place. -/
def Elem.putHeld (e : Elem) (id : Nat) : Put → Elem
  | .out k ts => { e with ports := e.ports.fill k.toNat id ts }
  | .co k =>
    let c := e.ports.coutAt k.toNat
    { e with ports := e.ports.setCout k.toNat { c with held := c.held + 1, reserved := c.reserved - 1 } }
  | x => e.put x

/-- R64: a control token of an every-firing binding, which goes at the firing itself. -/
def Elem.coNow (e : Elem) : Put → Bool
  | .co k => !(e.binds[k.toNat % 4]'(Nat.mod_lt _ (by decide))).flag
  | _ => false

/-- An operation whose writes come later: their entries are reserved under a new name and it joins the pending list. -/
def Elem.suspend (e : Elem) (rule : Nat) (l : List Put) (x : Pend) : Elem :=
  let e' := e.reserve e.nextId l
  { e' with
    nextId := e.nextId + 1
    pend := e.pend ++ [{ x with id := e.nextId, rule := BitVec.ofNat 4 rule, locs := locsOf l, ends := endsOf l, puts := l }] }

/-- R75: the writes of latency 1 happen at once; longer ones wait, their entries reserved. -/
def Elem.issue (e : Elem) (rule : Nat) (l : List Put) (inc : Inc) (lat : Nat) : Elem :=
  if lat ≤ 1 then { e.puts l with now := e.now.plus inc }
  else (e.puts (l.filter e.coNow)).suspend rule (l.filter (fun x => !e.coNow x)) { id := 0, rule := 0, inc := inc, left := lat - 1 }

/-- R67, R74, R84, R112: what every fired rule does besides its writes: takes its tokens, its control token, sets DIS. -/
def Elem.fireTakes (e : Elem) (rule : Nat) (ends : List Nat) : Elem :=
  ((ends.foldl Elem.takeIn e).takeCtl rule).once rule

/-- R74, R75, R84, R135: the commit of a fired rule with its writes. -/
def Elem.commit (e : Elem) (rule : Nat) (q : Req) (l : List Put) (inc : Inc) : Elem :=
  ((l.foldl Elem.leave (e.fireTakes rule (takes q.a q.b))).issue rule l inc q.lat)

/-- The writes of a rule: the result, the predicate update, the bound control tokens. -/
def Elem.allPuts (e : Elem) (rule : Nat) (q : Req) (puts : List Put) (flag : Bool) : List Put :=
  puts ++ update q.i q.p flag ++ e.boundCo rule (q.p == 3 && flag)

/-- R79, R82: what the fault register records of an aborting rule. -/
def faultOf (code : Byte) (rule : Nat) (x : In) : FaultReg :=
  { code := code, rule := BitVec.ofNat 4 rule, opa := x.a.data, opb := x.b.data }

/-- R79: an aborting rule freezes its element and records its operands. -/
def State.abortWith (s : State) (el rule : Nat) (code : Byte) (x : In) : State := s.abortRule el (faultOf code rule x)

/-- The shared operation of an element's rule: without its operands or without room it does not fire (R68); it aborts
(R79) or commits (R74). -/
def State.genElem (s : State) (el rule : Nat) (q : Req) (f : In → Res) : State :=
  match (s.elem el).input q with
  | none => s
  | some x =>
    match f x with
    | .abort code => s.abortRule el (faultOf code rule x)
    | .done puts flag inc =>
      let l := (s.elem el).allPuts rule q puts flag
      if (s.elem el).roomFor l then s.setElem el ((s.elem el).commit rule q l inc) else s

/-! Loupe programs (R308, R309). -/

/-- R308: one write of a Loupe program's rule; D code 5 is PTR. -/
def WSlot.put (x : WSlot) : Put → WSlot
  | .d k v => if k.toNat = 5 then { x with ptr := v } else { x with v := x.v.set (k.toNat % 4) v (Nat.mod_lt _ (by decide)) }
  | .p k v => { x with p := setPred x.p k.toNat v }
  | .pAll v => { x with p := v }
  | _ => x

/-- A slot of a Loupe. -/
def Loupe.slot (l : Loupe) (k : Nat) : WSlot := l.slots[k % 32]'(Nat.mod_lt _ (by decide))

/-- Replace a slot of a Loupe. -/
def State.setSlot (s : State) (t k : Nat) (x : WSlot) : State :=
  s.setLoupe t { s.loupe t with slots := (s.loupe t).slots.set (k % 32) x (Nat.mod_lt _ (by decide)) }

/-- What a Loupe program's rule computes from. -/
def winput (l : Loupe) (x : WSlot) (q : Req) : In :=
  { a := ⟨match q.a with | some c => wsrc l x c | none => 0, Tag.data⟩
    b := ⟨match q.b with | some c => wsrc l x c | none => 0, Tag.data⟩
    d := 0, p := x.p, l := Vector.replicate 2 {}, sg := 0, c := l.c }

/-- The shared operation of a walk's general rule; it never aborts there (R309). -/
def State.genWalk (s : State) (t k : Nat) (q : Req) (f : In → Res) : State :=
  match f (winput (s.loupe t) ((s.loupe t).slot k) q) with
  | .abort _ => s
  | .done puts flag _ => s.setSlot t k ((puts ++ update q.i q.p flag).foldl WSlot.put ((s.loupe t).slot k))

/-- A general-form instruction, for the rule or the walk whose action word executes. -/
def State.gen (s : State) (q : Req) (f : In → Res) : Out :=
  match s.cur with
  | .none => .next s
  | .rule el rule => .next (s.genElem el rule q f)
  | .walk t k _ => .next (s.genWalk t k q f)

/-- An instruction of the element groups only (R309). -/
def State.genE (s : State) (q : Req) (f : In → Res) : Out :=
  match s.cur with
  | .rule el rule => .next (s.genElem el rule q f)
  | _ => .next s

end Sys2Proof.Machine
end

