-- ==== Sys2Proof/Machine/Flags.lean ====
section
/-! DEFINITION. The results and flags of the integer and bit group (spec/06 R136, R150 to R159), on words. -/

namespace Sys2Proof.Machine

/-- R136: the flag "nonzero". -/
def nz (r : Word) : Bool := r != 0

/-- A result with the flag "nonzero". -/
def withNz (r : Word) : Word × Bool := (r, nz r)

/-- R31: clamp to i32. -/
def clampI (x : Int) : Word × Bool :=
  if x < -2147483648 then (0x80000000, true)
  else if 2147483647 < x then (0x7FFFFFFF, true)
  else (Word.ofInt x, false)

/-- R31: clamp to n32. -/
def clampN (x : Int) : Word × Bool :=
  if x < 0 then (0, true) else if 4294967295 < x then (0xFFFFFFFF, true) else (Word.ofInt x, false)

def addR (a b : Word) : Word × Bool := (a + b, decide (2 ^ 32 ≤ a.toNat + b.toNat))
def subR (a b : Word) : Word × Bool := (a - b, decide (a.toNat < b.toNat))
def addsR (a b : Word) : Word × Bool := clampI (a.toInt + b.toInt)
def subsR (a b : Word) : Word × Bool := clampI (a.toInt - b.toInt)
def addsnR (a b : Word) : Word × Bool := clampN ((a.toNat : Int) + b.toNat)
def subsnR (a b : Word) : Word × Bool := clampN ((a.toNat : Int) - b.toNat)
def negR (a : Word) : Word × Bool := (-a, a == 0x80000000)
def absR (a : Word) : Word × Bool := (if a.toInt < 0 then -a else a, a == 0x80000000)
def mulR (a b : Word) : Word × Bool :=
  (Word.ofInt (a.toInt * b.toInt), decide (a.toInt * b.toInt < -2147483648 ∨ 2147483647 < a.toInt * b.toInt))
def mulhR (a b : Word) : Word × Bool := withNz (Word.ofInt (a.toInt * b.toInt / 2 ^ 32))
def mulhnR (a b : Word) : Word × Bool := withNz (Word.ofNat (a.toNat * b.toNat / 2 ^ 32))
def macR (d a b : Word) : Word × Bool := withNz (d + Word.ofInt (a.toInt * b.toInt))
def minR (a b : Word) : Word × Bool := if b.toInt < a.toInt then (b, true) else (a, false)
def maxR (a b : Word) : Word × Bool := if a.toInt < b.toInt then (b, true) else (a, false)
def minnR (a b : Word) : Word × Bool := if b.toNat < a.toNat then (b, true) else (a, false)
def maxnR (a b : Word) : Word × Bool := if a.toNat < b.toNat then (b, true) else (a, false)

def andR (a b : Word) : Word × Bool := withNz (a &&& b)
def orR (a b : Word) : Word × Bool := withNz (a ||| b)
def xorR (a b : Word) : Word × Bool := withNz (a ^^^ b)
def andnR (a b : Word) : Word × Bool := withNz (a &&& ~~~ b)
def ornR (a b : Word) : Word × Bool := withNz (a ||| ~~~ b)
def notR (a : Word) : Word × Bool := withNz (~~~ a)

/-- R151: the flag is set when a 1 bit of A has no place in the result. -/
def shlR (a b : Word) : Word × Bool :=
  (if b.toNat < 32 then Word.ofNat (a.toNat * 2 ^ b.toNat) else 0,
    if b.toNat < 32 then decide (2 ^ 32 ≤ a.toNat * 2 ^ b.toNat) else a != 0)
def shrR (a b : Word) : Word × Bool :=
  (if b.toNat < 32 then Word.ofNat (a.toNat / 2 ^ b.toNat) else 0,
    if b.toNat < 32 then decide (a.toNat % 2 ^ b.toNat ≠ 0) else a != 0)
def sarR (a b : Word) : Word × Bool :=
  (if b.toNat < 32 then Word.ofInt (a.toInt / 2 ^ b.toNat) else if a.toInt < 0 then 0xFFFFFFFF else 0,
    if b.toNat < 32 then decide (a.toNat % 2 ^ b.toNat ≠ 0) else a != 0)
def rolR (a b : Word) : Word × Bool := withNz (a.rotateLeft (b.toNat % 32))

/-- Leading zeros of the low `n` bits. -/
def clzN (a : Nat) : Nat → Nat
  | 0 => 0
  | n + 1 => if a / 2 ^ n % 2 = 1 then 0 else 1 + clzN a n
/-- Trailing zeros, at most `n`. -/
def ctzN : Nat → Nat → Nat
  | _, 0 => 0
  | a, n + 1 => if a % 2 = 1 then 0 else 1 + ctzN (a / 2) n
/-- 1 bits among the low `n`. -/
def popN : Nat → Nat → Nat
  | _, 0 => 0
  | a, n + 1 => a % 2 + popN (a / 2) n
/-- The low `n` bits reversed. -/
def revN : Nat → Nat → Nat
  | _, 0 => 0
  | a, n + 1 => (a % 2) * 2 ^ n + revN (a / 2) n

def clzR (a : Word) : Word × Bool := (Word.ofNat (clzN a.toNat 32), a == 0)
def ctzR (a : Word) : Word × Bool := (Word.ofNat (ctzN a.toNat 32), a == 0)
def popcR (a : Word) : Word × Bool := (Word.ofNat (popN a.toNat 32), popN a.toNat 32 % 2 == 1)
def brevR (a : Word) : Word × Bool := withNz (Word.ofNat (revN a.toNat 32))

/-- R152: position and width of the field that B describes. -/
def fieldPos (b : Word) : Nat := b.toNat % 32
def fieldWidth (b : Word) : Nat := min (b.toNat / 32 % 32 + 1) (32 - fieldPos b)

def bfxR (a b : Word) : Word × Bool := withNz (Word.ofNat (a.toNat / 2 ^ fieldPos b % 2 ^ fieldWidth b))
def bfxsR (a b : Word) : Word × Bool :=
  let x := a.toNat / 2 ^ fieldPos b % 2 ^ fieldWidth b
  withNz (if x / 2 ^ (fieldWidth b - 1) % 2 = 1 then Word.ofInt ((x : Int) - 2 ^ fieldWidth b) else Word.ofNat x)
def bfiR (d a b : Word) : Word × Bool :=
  let mask : Word := Word.ofNat ((2 ^ fieldWidth b - 1) * 2 ^ fieldPos b)
  withNz ((d &&& ~~~ mask) ||| (Word.ofNat (a.toNat * 2 ^ fieldPos b) &&& mask))

/-- R153: a relation as result and flag. -/
def rel (p : Bool) : Word × Bool := (Word.ofBool p, p)
def cmpeqR (a b : Word) : Word × Bool := rel (a == b)
def cmpneR (a b : Word) : Word × Bool := rel (a != b)
def cmpltR (a b : Word) : Word × Bool := rel (decide (a.toInt < b.toInt))
def cmpleR (a b : Word) : Word × Bool := rel (decide (a.toInt ≤ b.toInt))
def cmpltnR (a b : Word) : Word × Bool := rel (decide (a.toNat < b.toNat))
def cmplenR (a b : Word) : Word × Bool := rel (decide (a.toNat ≤ b.toNat))

/-- R5, R154: two 16-bit lanes. -/
def lanes2 (f : BitVec 16 → BitVec 16 → BitVec 16) (a b : Word) : Word × Bool :=
  withNz (Word.ofNat ((f (fld a 0 16) (fld b 0 16)).toNat + (f (fld a 16 16) (fld b 16 16)).toNat * 2 ^ 16))
/-- R5, R154: four 8-bit lanes. -/
def lanes4 (f : BitVec 8 → BitVec 8 → BitVec 8) (a b : Word) : Word × Bool :=
  withNz (Word.ofNat ((f (fld a 0 8) (fld b 0 8)).toNat + (f (fld a 8 8) (fld b 8 8)).toNat * 2 ^ 8
    + (f (fld a 16 8) (fld b 16 8)).toNat * 2 ^ 16 + (f (fld a 24 8) (fld b 24 8)).toNat * 2 ^ 24))
/-- The larger or the smaller of two lanes, signed. -/
def smax {n : Nat} (x y : BitVec n) : BitVec n := if x.toInt < y.toInt then y else x
def smin {n : Nat} (x y : BitVec n) : BitVec n := if y.toInt < x.toInt then y else x

/-- R155: the exact sum of four signed or unsigned byte products. -/
def dot4S (a b : Word) : Int :=
  (fld a 0 8).toInt * (fld b 0 8).toInt + (fld a 8 8).toInt * (fld b 8 8).toInt
    + (fld a 16 8).toInt * (fld b 16 8).toInt + (fld a 24 8).toInt * (fld b 24 8).toInt
def dot4U (a b : Word) : Nat :=
  fldN a 0 8 * fldN b 0 8 + fldN a 8 8 * fldN b 8 8 + fldN a 16 8 * fldN b 16 8 + fldN a 24 8 * fldN b 24 8
def dot4R (d a b : Word) : Word × Bool := withNz (d + Word.ofInt (dot4S a b))
def dot4nR (d a b : Word) : Word × Bool := withNz (d + Word.ofNat (dot4U a b))

/-- R156: a scaled address offset. -/
def leaR (a b : Word) (s : BitVec 2) : Word × Bool :=
  (Word.ofNat (a.toNat + b.toNat * 2 ^ s.toNat), decide (2 ^ 32 ≤ a.toNat + b.toNat * 2 ^ s.toNat))

/-- R157: the mixing function. -/
def hash (key seed : Word) : Word :=
  let h := key + seed * 0x9D2C5681
  let h := h ^^^ (h >>> 15)
  let h := h * 0x2C1B3C6D
  let h := h ^^^ (h >>> 12)
  let h := h * 0x297A2D39
  h ^^^ (h >>> 15)

/-- R158: one xorshift step. -/
def xsh (a : Word) : Word :=
  let x := a ^^^ (a <<< 13)
  let x := x ^^^ (x >>> 17)
  x ^^^ (x <<< 5)

/-- R159: unsigned division, with the results for a zero divisor. -/
def divnR (a b : Word) : Word × Bool := if b = 0 then (0xFFFFFFFF, true) else (Word.ofNat (a.toNat / b.toNat), false)
def remnR (a b : Word) : Word × Bool := if b = 0 then (a, true) else (Word.ofNat (a.toNat % b.toNat), false)

end Sys2Proof.Machine
end

