-- ==== Sys2Proof/Machine/Float.lean ====
section
/-! DEFINITION. Floating formats, exact values, the one rounding, and the float and convert operations on codes (spec/02
R32 to R46; spec/07 R163 to R180). Exact results are integers times powers of two; each is rounded once. -/

namespace Sys2Proof.Machine

/-- R32: a floating format with a sign bit above its exponent and mantissa. -/
structure Fmt where
  eb   : Nat
  mb   : Nat
  bias : Int
  /-- The all-ones exponent holds infinities and NaNs. -/
  ieee : Bool
  /-- The canonical NaN (R34), 0 where there is none. -/
  nan  : Nat
  /-- Largest finite code, and the exponent and significand of its value. -/
  maxCode : Nat
  emax : Int
  maxSig : Nat

def fp32 : Fmt := ⟨8, 23, 127, true, 0x7FC00000, 0x7F7FFFFF, 127, 2 ^ 24 - 1⟩
def fp16 : Fmt := ⟨5, 10, 15, true, 0x7E00, 0x7BFF, 15, 2 ^ 11 - 1⟩
def bf16 : Fmt := ⟨8, 7, 127, true, 0x7FC0, 0x7F7F, 127, 2 ^ 8 - 1⟩
def e5m2 : Fmt := ⟨5, 2, 15, true, 0x7E, 0x7B, 15, 7⟩
def e4m3 : Fmt := ⟨4, 3, 7, false, 0x7F, 0x7E, 8, 14⟩
def e2m1 : Fmt := ⟨2, 1, 1, false, 0, 7, 2, 3⟩

/-- The exact value of a code: NaN, an infinity, or sign and magnitude `m × 2 ^ e`. -/
inductive FV where
  | nan
  | inf (neg : Bool)
  | fin (neg : Bool) (m : Nat) (e : Int)
  deriving DecidableEq, Repr

/-- The sign bit's weight. -/
def Fmt.signBit (f : Fmt) : Nat := 2 ^ (f.eb + f.mb)

/-- R33: the value of a code. -/
def Fmt.value (f : Fmt) (c : Nat) : FV :=
  let neg := decide (c / f.signBit % 2 = 1)
  let e := c / 2 ^ f.mb % 2 ^ f.eb
  let m := c % 2 ^ f.mb
  if f.ieee ∧ e = 2 ^ f.eb - 1 then (if m = 0 then .inf neg else .nan)
  else if f.nan ≠ 0 ∧ !f.ieee ∧ c % f.signBit = f.nan then .nan
  else if e = 0 then .fin neg m (1 - f.bias - f.mb)
  else .fin neg (2 ^ f.mb + m) ((e : Int) - f.bias - f.mb)

/-- R44: the value of an E3M5 code. -/
def e3m5 (c : Nat) : Nat × Int :=
  let e := c / 32 % 8
  if e = 0 then (c % 32, -7) else (32 + c % 32, (e : Int) - 8)

/-- What a result lane delivers: its code, whether it differs from the exact result or is a NaN (R163 X), and what it
counts (R42). -/
structure FR where
  code : Nat
  x    : Bool := false
  inc  : Inc := {}
  deriving DecidableEq, Repr

/-- How many bits a magnitude has. -/
def bits (m : Nat) : Nat := if m = 0 then 0 else Nat.log2 m + 1

/-- A magnitude `m × 2 ^ e` on the grid `2 ^ g`: the number of grid units, and whether that is exact. -/
def onGrid (rne : Bool) (m : Nat) (e g : Int) : Nat × Bool :=
  if g ≤ e then (m * 2 ^ (e - g).toNat, true)
  else
    let sh := (g - e).toNat
    let k := m / 2 ^ sh
    let r := m % 2 ^ sh
    let up := rne && (decide (2 ^ sh < 2 * r) || (decide (2 * r = 2 ^ sh) && decide (k % 2 = 1)))
    (if up then k + 1 else k, decide (r = 0))

/-- R38, R39: the grid exponent of the format for a magnitude, the exponent range unbounded above. -/
def Fmt.grid (f : Fmt) (m : Nat) (e : Int) : Int :=
  max (e + bits m - 1 - f.mb) (1 - f.bias - f.mb)

/-- R38, R39, R41: round the exact value once. `z` truncates; `sat` saturates an overflow instead of giving infinity. -/
def Fmt.round (f : Fmt) (z sat : Bool) (neg : Bool) (m : Nat) (e : Int) : FR :=
  let s := if neg then f.signBit else 0
  if m = 0 then { code := s }
  else
    let g := f.grid m e
    match onGrid (!z) m e g with
    | (k, exact) =>
      if k = 0 then { code := s, x := true, inc := { flush := 1 } }
      else
        let top := g + bits k - 1
        let sig := if bits k ≤ f.mb + 1 then k * 2 ^ (f.mb + 1 - bits k) else k / 2 ^ (bits k - f.mb - 1)
        if f.emax < top ∨ (top = f.emax ∧ f.maxSig < sig) then
          if sat then { code := s + f.maxCode, x := true, inc := { sat := 1 } }
          else { code := s + (2 ^ f.eb - 1) * 2 ^ f.mb, x := true, inc := { inf := 1 } }
        else if top < 1 - f.bias then { code := s + k, x := !exact }
        else { code := s + (top + f.bias).toNat * 2 ^ f.mb + (sig - 2 ^ f.mb), x := !exact }

/-- R35: the canonical NaN, counting NAN. -/
def Fmt.nanR (f : Fmt) : FR := { code := f.nan, x := true, inc := { nan := 1 } }
/-- An infinity delivered as the exact result. -/
def Fmt.infR (f : Fmt) (neg : Bool) (inc : Inc := {}) : FR :=
  { code := (if neg then f.signBit else 0) + (2 ^ f.eb - 1) * 2 ^ f.mb, inc := inc }

/-- Deliver an exact value in a format (RNE, overflow to infinity). -/
def Fmt.deliver (f : Fmt) : FV → FR
  | .nan => f.nanR
  | .inf neg => f.infR neg
  | .fin neg m e => f.round false false neg m e

def FV.neg : FV → FV
  | .nan => .nan
  | .inf n => .inf !n
  | .fin n m e => .fin (!n) m e

/-- The exact sum (R38 for an exact zero). -/
def FV.add : FV → FV → FV
  | .nan, _ => .nan
  | _, .nan => .nan
  | .inf a, .inf b => if a = b then .inf a else .nan
  | .inf a, .fin _ _ _ => .inf a
  | .fin _ _ _, .inf b => .inf b
  | .fin na ma ea, .fin nb mb eb =>
    let g := min ea eb
    let x : Int := (ma * 2 ^ (ea - g).toNat : Nat)
    let y : Int := (mb * 2 ^ (eb - g).toNat : Nat)
    let sum := (if na then -x else x) + (if nb then -y else y)
    if sum = 0 then .fin (na && nb && decide (ma = 0) && decide (mb = 0)) 0 0
    else .fin (decide (sum < 0)) sum.natAbs g

/-- The exact product. -/
def FV.mul : FV → FV → FV
  | .nan, _ => .nan
  | _, .nan => .nan
  | .inf a, .inf b => .inf (a ^^ b)
  | .inf a, .fin n m _ => if m = 0 then .nan else .inf (a ^^ n)
  | .fin n m _, .inf b => if m = 0 then .nan else .inf (n ^^ b)
  | .fin na ma ea, .fin nb mb eb => .fin (na ^^ nb) (ma * mb) (ea + eb)

/-- A quotient to 64 bits, its last bit set when it is not exact: enough to round once to any format here. -/
def quot (ma : Nat) (ea : Int) (mb : Nat) (eb : Int) : Nat × Int :=
  let k := 64 + bits mb
  let n := ma * 2 ^ k
  (2 * (n / mb) + (if n % mb = 0 then 0 else 1), ea - eb - k - 1)

/-- R165: FDIV. -/
def Fmt.div (f : Fmt) : FV → FV → FR
  | .nan, _ => f.nanR
  | _, .nan => f.nanR
  | .inf _, .inf _ => f.nanR
  | .inf a, .fin n _ _ => f.infR (a ^^ n)
  | .fin n _ _, .inf b => { code := if n ^^ b then f.signBit else 0 }
  | .fin na ma ea, .fin nb mb eb =>
    if mb = 0 then (if ma = 0 then f.nanR else f.infR (na ^^ nb) { inf := 1 })
    else
      match quot ma ea mb eb with
      | (m, e) => f.round false false (na ^^ nb) m e

/-- Integer square root, bit by bit from bit `n - 1`. -/
def isqrt (x : Nat) : Nat → Nat → Nat
  | 0, r => r
  | n + 1, r => if (r + 2 ^ n) * (r + 2 ^ n) ≤ x then isqrt x n (r + 2 ^ n) else isqrt x n r

/-- R166: FSQRT. -/
def Fmt.sqrt (f : Fmt) : FV → FR
  | .nan => f.nanR
  | .inf neg => if neg then f.nanR else f.infR false
  | .fin neg m e =>
    if m = 0 then { code := if neg then f.signBit else 0 }
    else if neg then f.nanR
    else
      let x := m * 2 ^ (if e % 2 = 0 then 80 else 81)
      let r := isqrt x 64 0
      let e' : Int := ((if e % 2 = 0 then e else e - 1) - 80) / 2
      f.round false false false (2 * r + (if r * r = x then 0 else 1)) (e' - 1)

/-- Bounds of `m ^ 2 ^ k` by repeated squaring, cut to 320 bits: `lo × 2 ^ x` and `hi × 2 ^ x`. -/
def powBounds (m : Nat) : Nat → Nat × Nat × Nat
  | 0 => (m, m, 0)
  | k + 1 =>
    match powBounds m k with
    | (lo, hi, x) =>
      let s := bits (hi * hi) - 320
      (lo * lo / 2 ^ s, (hi * hi + (2 ^ s - 1)) / 2 ^ s, 2 * x + s)

/-- How many bits `m ^ 2 ^ k` has, exactly: read off the bounds where they agree, computed whole where they do not
(`Sys2Proof.Laws.powBits_eq`). No fixed width decides it (R38). -/
def powBits (m k : Nat) : Nat :=
  match powBounds m k with
  | (lo, hi, x) => if bits lo = bits hi then x + bits lo else bits (m ^ 2 ^ k)

/-- The greatest `r` from `r` up, `n` bits further, with `p r`: bit by bit, `p` falling. -/
def bitSearch (p : Nat → Bool) : Nat → Nat → Nat
  | 0, r => r
  | n + 1, r => bitSearch p n (if p (r + 2 ^ n) then r + 2 ^ n else r)

/-- R38, R40, R166: FEX2, the exact 2 ^ a rounded once. A fraction makes it irrational, so it lies strictly between two
neighbouring 26-bit numbers `F` and `F + 1`, with `F < 2 ^ (25 + frac)` decided by exact powers, and both round alike. -/
def Fmt.exp2 (f : Fmt) : FV → FR
  | .nan => f.nanR
  | .inf neg => if neg then { code := 0 } else f.infR false
  | .fin neg m e =>
    if m = 0 then f.round false false false 1 0
    else if 8 < e + bits m then
      if neg then { code := 0, x := true, inc := { flush := 1 } }
      else { code := (2 ^ f.eb - 1) * 2 ^ f.mb, x := true, inc := { inf := 1 } }
    else
      let a : Int := if neg then -(m : Int) else m
      let n : Int := if 0 ≤ e then a * 2 ^ e.toNat else a / 2 ^ (-e).toNat
      let frac : Nat := if 0 ≤ e then 0 else (a % 2 ^ (-e).toNat).toNat
      if frac = 0 then f.round false false false 1 n
      else
        let t := (-e).toNat
        let r := bitSearch (fun r => decide (powBits r t ≤ 25 * 2 ^ t + frac)) 25 (2 ^ 25)
        f.round false false false (2 * r + 1) (n - 26)

/-- R38, R40, R166: FLG2, the exact log2(a) rounded once. Unless `a` is a power of two it is irrational; `v` is its whole
number of 2 ^ -52, counted by the bits of an exact power, and no grid value nor midpoint lies between `v` and `v + 1`. -/
def Fmt.log2 (f : Fmt) : FV → FR
  | .nan => f.nanR
  | .inf neg => if neg then f.nanR else f.infR false
  | .fin neg m e =>
    if m = 0 then f.infR true { inf := 1 }
    else if neg then f.nanR
    else
      let b := bits m
      let k : Int := e + b - 1
      if m = 2 ^ (b - 1) then f.round false false (decide (k < 0)) k.natAbs 0
      else
        let v : Int := k * 2 ^ 52 + (powBits m 52 - 1 - (b - 1) * 2 ^ 52 : Nat)
        f.round false false (decide (v < 0)) (2 * v + 1).natAbs (-53)

/-- The order of R167: numeric, −0 below +0. -/
def FV.key : FV → Nat → Int
  | .nan, _ => 0
  | .inf neg, _ => if neg then -(2 ^ 400) else 2 ^ 400
  | .fin neg m e, _ =>
    let v : Int := (2 * (m * 2 ^ (e + 160).toNat) + 1 : Nat)
    if neg then -v else v

/-- R167: FMIN (or FMAX): the chosen code, and whether B was chosen. -/
def Fmt.pick (f : Fmt) (mx : Bool) (ca cb : Nat) : FR × Bool :=
  let a := f.value ca
  let b := f.value cb
  if a = .nan ∧ b = .nan then (f.nanR, false)
  else if a = .nan then ({ code := cb }, true)
  else if b = .nan then ({ code := ca }, false)
  else if (if mx then a.key 0 < b.key 0 else b.key 0 < a.key 0) then ({ code := cb }, true)
  else ({ code := ca }, false)

/-- Numeric comparison of two values that are no NaN; the two zeros are equal (R169). -/
def FV.lt (a b : FV) : Bool :=
  match a, b with
  | .fin _ 0 _, .fin _ 0 _ => false
  | a, b => decide (a.key 0 < b.key 0)
def FV.eq (a b : FV) : Bool :=
  match a, b with
  | .fin _ 0 _, .fin _ 0 _ => true
  | a, b => decide (a.key 0 = b.key 0)
def FV.isNan : FV → Bool
  | .nan => true
  | _ => false

/-- R173: the integral value of a magnitude: 0 nearest even, 1 toward −∞, 2 toward +∞, 3 toward zero; with exactness. -/
def integral (mode : Nat) (neg : Bool) (m : Nat) (e : Int) : Nat × Bool :=
  match onGrid (mode == 0) m e 0 with
  | (k, exact) => (if !exact && ((mode == 1 && neg) || (mode == 2 && !neg)) then k + 1 else k, exact)

/-- R173: FRINT, FFLOOR, FCEIL, FTRNC: the result and the flag Frac. -/
def Fmt.toIntegral (f : Fmt) (mode : Nat) (c : Nat) : FR × Bool :=
  match f.value c with
  | .nan => (f.nanR, true)
  | .inf _ => ({ code := c }, false)
  | .fin neg m e =>
    if m = 0 then ({ code := c }, false)
    else
      match integral mode neg m e with
      | (k, exact) => ({ code := (f.round false false neg k 0).code }, !exact)

/-- R170: the class mask of an FP32 code. -/
def fclass (c : Nat) : Nat :=
  let neg := decide (c / 2 ^ 31 % 2 = 1)
  let e := c / 2 ^ 23 % 256
  let m := c % 2 ^ 23
  if e = 255 then (if m = 0 then (if neg then 1 else 2 ^ 7) else if m / 2 ^ 22 = 0 then 2 ^ 8 else 2 ^ 9)
  else if e = 0 then (if m = 0 then (if neg then 2 ^ 3 else 2 ^ 4) else if neg then 2 ^ 2 else 2 ^ 5)
  else if neg then 2 ^ 1 else 2 ^ 6

/-- R171: FRCPE: the result and the flag Spec. -/
def frcpe (c : Nat) : FR × Bool :=
  let m := c % 2 ^ 31
  let s := c / 2 ^ 31 * 2 ^ 31
  if 0x7F800000 < m then (fp32.nanR, true)
  else if m = 0 then ({ code := s + 0x7F800000, inc := { inf := 1 } }, true)
  else if m = 0x7F800000 then ({ code := s }, true)
  else if 0x7EF311C7 ≤ m then ({ code := s, inc := { flush := 1 } }, true)
  else ({ code := s + (0x7EF311C7 - m) }, false)

/-- R172: FRSQE: the result and the flag Spec. -/
def frsqe (c : Nat) : FR × Bool :=
  if 0x7F800000 < c % 2 ^ 31 then (fp32.nanR, true)
  else if c = 2 ^ 31 then ({ code := 0xFF800000, inc := { inf := 1 } }, true)
  else if c = 0 then ({ code := 0x7F800000, inc := { inf := 1 } }, true)
  else if 2 ^ 31 ≤ c then (fp32.nanR, true)
  else if c = 0x7F800000 then ({ code := 0 }, true)
  else ({ code := 0x5F375A86 - c / 2 }, false)

/-- R175: FP32 to a narrower float; a source infinity stays one where the format has it and saturates elsewhere. -/
def Fmt.cvt (f : Fmt) (z sat : Bool) (c : Nat) : FR :=
  match fp32.value c with
  | .nan => f.nanR
  | .inf neg =>
    if f.ieee then f.infR neg
    else { code := (if neg then f.signBit else 0) + f.maxCode, x := true, inc := { sat := 1 } }
  | .fin neg m e => f.round z sat neg m e

/-- R178: a narrower float widened to FP32, exactly; the flag Nan. -/
def Fmt.widen (f : Fmt) (c : Nat) : FR × Bool :=
  match f.value c with
  | .nan => (fp32.nanR, true)
  | v => (fp32.deliver v, false)

/-- R177: one E2M1 nibble of FP32 `c` over the block scale `k`. -/
def cvtq4 (z : Bool) (c k : Nat) : FR :=
  match fp32.value c with
  | .nan => { code := 0, x := true, inc := { nan := 1 } }
  | .inf neg => { code := if neg then 0xF else 0x7, x := true, inc := { sat := 1 } }
  | .fin neg m e =>
    match e3m5 k with
    | (km, ke) =>
      if km = 0 then
        if m = 0 then { code := if neg then 0x8 else 0x0 }
        else { code := if neg then 0xF else 0x7, x := true, inc := { sat := 1 } }
      else if m = 0 then { code := if neg then 0x8 else 0x0 }
      else
        match quot m e km ke with
        | (q, qe) => e2m1.round z true neg q qe

/-- R178: an E2M1 lane times its block scale as FP32. -/
def cvtfq4 (lane k : Nat) : FR :=
  match e2m1.value lane, e3m5 k with
  | .fin neg m e, (km, ke) => fp32.round false false neg (m * km) (e + ke)
  | _, _ => fp32.nanR

/-- R179: CVTFI. -/
def cvtfi (c : Nat) : FR :=
  match fp32.value c with
  | .nan => { code := 0, x := true, inc := { nan := 1 } }
  | .inf neg => { code := if neg then 0x80000000 else 0x7FFFFFFF, x := true, inc := { sat := 1 } }
  | .fin neg m e =>
    match onGrid true m e 0 with
    | (k, exact) =>
      if (neg ∧ 2 ^ 31 < k) ∨ (!neg ∧ 2 ^ 31 ≤ k) then
        { code := if neg then 0x80000000 else 0x7FFFFFFF, x := true, inc := { sat := 1 } }
      else
        { code := (Word.ofInt (if neg then -(k : Int) else k)).toNat, x := !exact,
          inc := if k = 0 ∧ m ≠ 0 then { flush := 1 } else {} }

/-- R179: CVTIF, CVTIFZ. -/
def cvtif (z : Bool) (a : Word) : FR := fp32.round z false (decide (a.toInt < 0)) a.toInt.natAbs 0

/-- R46: the least code from `c` on whose bound reaches the magnitude `m × 2 ^ e` (times 2 ^ 160). -/
def qscFrom (m : Nat) : Nat → Nat → Nat
  | 0, _ => 0xFF
  | n + 1, c =>
    match e3m5 c with
    | (km, ke) => if m ≤ 6 * km * 2 ^ (ke + 160).toNat then c else qscFrom m n (c + 1)

/-- R46, R180: QSC: the code, what it counts, and the flag Clamp. -/
def qsc (c : Nat) : FR × Bool :=
  match fp32.value c with
  | .nan => ({ code := 0xFF, inc := { nan := 1 } }, true)
  | .inf _ => ({ code := 0xFF, inc := { sat := 1 } }, true)
  | .fin _ m e =>
    let v := m * 2 ^ (e + 160).toNat
    if m = 0 then ({ code := 0 }, false)
    else if 189 * 2 ^ 160 < v then ({ code := 0xFF, inc := { sat := 1 } }, true)
    else ({ code := qscFrom v 256 0 }, false)

/-- Scalar operations on codes of a format (R165). -/
def Fmt.addC (f : Fmt) (a b : Nat) : FR := f.deliver ((f.value a).add (f.value b))
def Fmt.subC (f : Fmt) (a b : Nat) : FR := f.deliver ((f.value a).add (f.value b).neg)
def Fmt.mulC (f : Fmt) (a b : Nat) : FR := f.deliver ((f.value a).mul (f.value b))
def Fmt.fmaC (f : Fmt) (c a b : Nat) : FR := f.deliver (((f.value a).mul (f.value b)).add (f.value c))

/-- R5, R174: two 16-bit lanes computed alone. -/
def two (g : Nat → Nat → Nat → FR × Bool) (d a b : Word) : Word × Bool × Inc :=
  match g (fldN d 0 16) (fldN a 0 16) (fldN b 0 16), g (fldN d 16 16) (fldN a 16 16) (fldN b 16 16) with
  | (r0, f0), (r1, f1) => (Word.ofNat (r0.code + r1.code * 2 ^ 16), f0 || f1, r0.inc.plus r1.inc)

/-- A lane whose flag is X. -/
def lx (r : FR) : FR × Bool := (r, r.x)

end Sys2Proof.Machine
end

