-- ==== Sys2Proof/Machine/Code.lean ====
section
/-! DEFINITION. Storage protection (spec/21 R418 to R422): the symbol code of slices, Hoops and image caches, the symbols that faults
have changed, marks of poison, and the records of the device fault log (R424, R425). -/

namespace Sys2Proof.Machine

/-! Fault codes (R413). -/
abbrev cCfgField : Byte := 0x02
abbrev cWinBound : Byte := 0x10
abbrev cAlign : Byte := 0x11
abbrev cTrans : Byte := 0x12
abbrev cPerm : Byte := 0x13
abbrev cObjStore : Byte := 0x14
abbrev cPoison : Byte := 0x15
abbrev cEcc : Byte := 0x70

/-! Ending a task and logging a device fault. -/

/-- The task is leaving with a final state and a code; the first cause stands (R341, R359). -/
def State.endTask (s : State) (task : Nat) (st : TaskSt) (code : Byte) : State :=
  match s.task? task with
  | some t => if t.ending.isSome ∨ t.final.isSome then s else s.setTask task { t with ending := some (st, code) }
  | none => s

/-- R425: a device fault log record. -/
def dflRec (cls : Nat) (code : Byte) (region tile object eseq : Nat) (addr : Nat) (ctx : Option Nat) (stamp : Dword) : DflRec :=
  [Word.ofNat (cls * 2 ^ 28 + code.toNat * 2 ^ 20 + region * 2 ^ 14 + tile),
    Word.ofNat (object * 2 ^ 16 + eseq), Word.ofNat addr, Word.ofNat (addr / 2 ^ 32),
    (match ctx with | some c => Word.ofNat (2 ^ 31 + c) | none => 0), 0,
    Word.ofNat stamp.toNat, Word.ofNat (stamp.toNat / 2 ^ 32)]

/-- R424: EN. -/
def Dfl.en (d : Dfl) : Bool := fldN d.len 31 1 == 1

/-- R365, R424: entries of the ring that a record may still take. -/
def Dfl.free (d : Dfl) : Nat :=
  if d.en then (((d.head.toNat : Int) - d.tail.toNat - 1) % (fldN d.len 0 16 + 1 : Nat)).toNat else 0

/-- R365, R424: a record is kept: it will enter the ring, which no index makes full while HEAD lies above the last entry, or the
hold of 64. -/
def Dfl.keeps (d : Dfl) : Bool :=
  decide (d.hold.length < 64 + d.free) || (d.en && decide (fldN d.len 0 16 < d.head.toNat))

/-- R424: the hub writes records into the ring while there is room, and holds up to 64 more while EN is 0 or the ring is full; one
that finds the hold full is counted lost. -/
def State.dflLog (s : State) (r : DflRec) : State :=
  if s.dfl.keeps then { s with dfl := { s.dfl with hold := s.dfl.hold ++ [r] } }
  else { s with dfl := { s.dfl with lost := satAdd s.dfl.lost 1 } }

/-- R425: the record of an uncorrectable granule that an access or a transaction read. -/
def State.eccRec (s : State) (g eseq : Nat) (ctx : Option Nat) : DflRec :=
  let tile := if isHbm g then 0 else (g - 2 ^ 40) / 2 ^ 22
  let reg := if isHbm g then hbmRegion g else regionOfTile tile
  dflRec 1 cEcc reg tile (Config.badBank g s.dfl.hold.length % 18) eseq g ctx (s.cycleOf reg)

/-! The symbol code (R419). -/

/-- R419: multiplication by the root of x^8 + x^4 + x^3 + x^2 + 1. -/
def gfAlpha (b : Byte) : Byte := (b <<< 1) ^^^ (if b.getLsbD 7 then 0x1D else 0)

/-- R419: multiplication by the root's `n`-th power. -/
def gfPow : Nat → Byte → Byte
  | 0, b => b
  | n + 1, b => gfAlpha (gfPow n b)

/-- R419: the two syndromes of a word whose banks differ from a codeword so: its values at the roots 1 and α of the generator, the
symbol of bank k standing at x^k (notes/assumptions/27). -/
def syndrome0 (l : List (Nat × Byte)) : Byte := l.foldl (fun a x => a ^^^ x.2) 0
def syndrome1 (l : List (Nat × Byte)) : Byte := l.foldl (fun a x => a ^^^ gfPow x.1 x.2) 0

/-- R419, R421: what the decoding of a group finds: a codeword, a codeword but for the symbol of one bank, or more than the code
corrects. -/
inductive Decoded where
  | clean
  | fixed (bank : Nat)
  | beyond
  deriving DecidableEq, Repr

/-- R419, R420: decode: one symbol at an unknown bank, or, with a bank marked failed, that bank's symbol as an erasure. -/
def decodeGroup (failed : Option Nat) (l : List (Nat × Byte)) : Decoded :=
  let a := syndrome0 l
  let b := syndrome1 l
  if a = 0 ∧ b = 0 then .clean
  else
    match failed with
    | some f => if b = gfPow f a then .fixed f else .beyond
    | none =>
      match (List.range 18).find? (fun k => gfPow k a == b) with
      | some k => .fixed k
      | none => .beyond

/-! Groups (R419, R421, R422). -/

/-- A 16-byte group that the scrubber reads, by what holds it: HBM or a slice by its physical address, a Hoop, an image
cache. -/
inductive Group where
  | hbm (pa : Nat)
  | slice (tile pa : Nat)
  | hoop (tile : Nat)
  | cache (region entry : Nat)
  deriving DecidableEq, Repr

/-- The group numbers of SCRUB_PASS: below 2^52 a physical address; then Hoops, 2^20 apart by tile; then image caches, 2^36
apart by region and 2^34 by entry, as long as an image can be (R123, notes/assumptions/27). -/
def groupOf (n : Nat) : Group :=
  if n < 2 ^ 40 then .hbm (n / 128 * 128)
  else if n < 2 ^ 52 then .slice ((n - 2 ^ 40) / 2 ^ 22 % 1024) (n / 16 * 16)
  else if n < 2 ^ 53 then .hoop ((n - 2 ^ 52) / 2 ^ 20 % 1024)
  else .cache ((n - 2 ^ 53) / 2 ^ 36 % 64) ((n - 2 ^ 53) / 2 ^ 34 % 4)

/-- The banks that hold a group, by slice, Hoop and cache. -/
def Group.key : Group → Nat
  | .hbm _ => 3000
  | .slice t _ => t
  | .hoop t => 1024 + t
  | .cache r _ => 2048 + r

/-- The region of a group. -/
def Group.region : Group → Nat
  | .hbm pa => hbmRegion pa
  | .slice t _ => regionOfTile t
  | .hoop t => regionOfTile t
  | .cache r _ => r

/-- R425: TILE and ADDR. -/
def Group.tile : Group → Nat
  | .hbm _ => 0
  | .slice t _ => t
  | .hoop t => t
  | .cache _ _ => 0
def Group.addr : Group → Nat
  | .hbm pa => pa
  | .slice _ pa => pa
  | _ => 0

/-- The first byte of a group, by its number. -/
def groupStart (n : Nat) : Nat := if n < 2 ^ 40 then n / 128 * 128 else n / 16 * 16

/-- R419: the number of the Hoop group that holds byte `k` of a tile's Hoop, and of the cache group of byte `k` of an entry. -/
def hoopGroup (tile k : Nat) : Nat := 2 ^ 52 + tile * 2 ^ 20 + k / 16 * 16
def cacheGroup (region entry k : Nat) : Nat := 2 ^ 53 + region * 2 ^ 36 + entry * 2 ^ 34 + k / 16 * 16

/-- R419, R422: the bytes that one mark of poison covers: a 128-byte line of HBM, a 16-byte group of a slice. -/
def granule (pa : Nat) : Nat := if isHbm pa then 128 else 16

/-- R421: the first bytes of the granules that `n` bytes at `pa` touch. -/
def granulesOf (pa n : Nat) : List Nat :=
  let g := granule pa
  (List.range (n / g + 2)).filterMap (fun k => if (pa / g + k) * g < pa + n then some ((pa / g + k) * g) else none)

/-- R418: a group that exists: of a slice, of a C-tile's Hoop, of a cache. -/
def groupExists (n : Nat) : Bool :=
  match groupOf n with
  | .hbm _ => false
  | .slice _ pa => isMslice pa || isCslice pa
  | .hoop t => kindOfTile t == .c && decide (n % 2 ^ 20 < 397312)
  | .cache _ _ => true

/-- R421: an access reads a poisoned granule: any read or read-modify-write, and a write that does not cover it whole. -/
def State.poisoned (s : State) (pa n : Nat) (write : Bool) : Bool :=
  (granulesOf pa n).any (fun g => s.poison.contains g && !(write && decide (pa ≤ g ∧ g + granule pa ≤ pa + n)))

/-- The poisoned granules of a range. -/
def State.poisonIn (s : State) (pa n : Nat) : List Nat := (granulesOf pa n).filter (fun g => s.poison.contains g)

/-- R418: a group cannot be corrected: memory and Hoops keep a mark of poison; a cached image is to turn into a miss. -/
def State.markBad (s : State) (n : Nat) : State :=
  match groupOf n with
  | .cache reg e =>
    let r := s.region reg
    let c := r.cache[e % 4]'(Nat.mod_lt _ (by decide))
    s.setRegion reg { r with cache := r.cache.set (e % 4) { c with bad := true } (Nat.mod_lt _ (by decide)) }
  | _ => if s.poison.contains (groupStart n) then s else { s with poison := s.poison ++ [groupStart n] }

/-- R421, R422: a group written whole loses its mark; a group written at all holds a fresh codeword. -/
def State.clearPoison (s : State) (pa n : Nat) : State :=
  { s with
    poison := s.poison.filter (fun g => !decide (pa ≤ g ∧ g + granule pa ≤ pa + n))
    flaws := s.flaws.filter (fun f => !(granulesOf pa n).contains f.group) }

/-- R419: the groups that a write touches hold fresh codewords. -/
def State.rewritten (s : State) (pa n : Nat) : State :=
  { s with flaws := s.flaws.filter (fun f => !(granulesOf pa n).contains f.group) }

/-! Corrections (R420). -/

/-- The corrections counted in a bank. -/
def Banks.count (b : Banks) (k : Nat) : Nat := (b.hits.filter (fun x => x.1 == k)).length

/-- R420: once bank `f` of a store is marked failed, a group of it that has another symbol wrong is beyond the code. -/
def State.bankFails (s : State) (key f : Nat) : State :=
  let worse := s.flaws.filter (fun x => (groupOf x.group).key == key && x.bank != f)
  worse.foldl (fun s x => s.markBad x.group) { s with flaws := s.flaws.filter (fun x => !worse.contains x) }

/-- R420: a correction in a bank; 16 distinct groups within one scrub period mark the bank failed. -/
def State.correct (s : State) (group bank : Nat) : State :=
  let g := groupOf group
  let b := s.bank g.key
  let b1 : Banks := { b with hits := if b.hits.contains (bank, group) then b.hits else b.hits ++ [(bank, group)] }
  if 16 ≤ b1.count bank then
    ({ s with banks := Table.put s.banks g.key { b1 with failed := some bank } }.bankFails g.key bank).dflLog
      (dflRec 0 0 g.region g.tile bank 0 g.addr none (s.cycleOf g.region))
  else { s with banks := Table.put s.banks g.key b1 }

/-- R420: a group that shows a further mismatch while a bank is marked failed. -/
def State.further (s : State) (group : Nat) : State :=
  let key := (groupOf group).key
  let b := s.bank key
  { s with banks := Table.put s.banks key { b with worse := if b.worse.contains group then b.worse else b.worse ++ [group] } }

/-- R419, R420: a group is read and decoded: a correction in it counts, and so does a further mismatch. -/
def State.noteGroup (s : State) (group : Nat) : State :=
  if s.poison.contains group then (if (s.bank (groupOf group).key).failed.isSome then s.further group else s)
  else
    match s.flaws.find? (fun f => f.group == group), (s.bank (groupOf group).key).failed with
    | some f, none => s.correct group f.bank
    | _, _ => s

/-- R419: the groups of a list are read. -/
def State.noteRead (s : State) (groups : List Nat) : State :=
  if s.flaws.isEmpty ∧ s.poison.isEmpty then s else groups.foldl State.noteGroup s

/-- R419: a write of `n` bytes at `pa` reads the groups that it covers in part. -/
def State.noteWrite (s : State) (pa n : Nat) : State :=
  if isHbm pa ∨ isFabric pa then s else s.noteRead ((granulesOf pa n).filter (fun g => !decide (pa ≤ g ∧ g + granule pa ≤ pa + n)))

/-- R419: a long range is read: of its groups, those that differ from a codeword count. -/
def State.noteSpan (s : State) (a n : Nat) : State :=
  (s.flaws.filter (fun f => decide (a ≤ f.group ∧ f.group < a + n))).foldl (fun s f => s.noteGroup f.group) s

/-- R419: the groups of `n` bytes at `pa` are read. -/
def State.noteBytes (s : State) (pa n : Nat) : State := if isHbm pa ∨ isFabric pa then s else s.noteRead (granulesOf pa n)

/-! Faults (R418, R419, R426). -/

/-- The word that holds byte `k` of a store of words, with the byte changed. -/
def flipWord (w : Word) (k : Nat) (e : Byte) : Word := w ^^^ (e.setWidth 32 <<< (8 * (k % 4)))

/-- R419: the byte of a group's data bank is another one. Byte `k` of a Hoop belongs to entry k / 3 in the order of slots, columns
and entries, and the band scales follow the entries (notes/assumptions/27). -/
def State.flipByte (s : State) (group bank : Nat) (e : Byte) : State :=
  if e = 0 ∨ 16 ≤ bank then s
  else
    match groupOf group with
    | .hoop t =>
      let p := s.press t
      let k := group % 2 ^ 20 + bank
      let h := p.hoop
      let entry := Table.getD h.entries (k / 3) 0 ^^^ (e.setWidth 24 <<< (8 * (k % 3)))
      let scale := Table.getD h.scales ((k - 393216) / 2) 0x3F80 ^^^ (e.setWidth 16 <<< (8 * (k % 2)))
      let h1 : Hoop := if k < 393216 then { h with entries := Table.put h.entries (k / 3) entry }
        else { h with scales := Table.put h.scales ((k - 393216) / 2) scale }
      s.setPress t { p with hoop := h1 }
    | .cache reg c =>
      let r := s.region reg
      let x := r.cache[c % 4]'(Nat.mod_lt _ (by decide))
      let k := (group - 2 ^ 53) % 2 ^ 34 + bank
      let y : CacheEntry := { x with words := x.words.modify (k / 4) (fun w => flipWord w k e) }
      s.setRegion reg { r with cache := r.cache.set (c % 4) y (Nat.mod_lt _ (by decide)) }
    | _ => { s with mem := s.mem.write (group + bank) (s.mem.read (group + bank) ^^^ e) }

/-- R419: the data of a group change by a list of symbols. -/
def State.flip (s : State) (group : Nat) (l : List (Nat × Byte)) : State :=
  (List.range 16).foldl (fun s k => s.flipByte group k (syndrome0 (l.filter (fun x => x.1 == k)))) s

/-- R418, R419: a symbol of a stored group goes wrong. What is stored differs from a codeword by the symbols that have gone wrong;
the model keeps the codeword that decoding finds, and the one symbol by which the stored word differs from it. -/
def State.symbolFault (s : State) (n bank : Nat) (e : Byte) : State :=
  let g := groupStart n
  if e = 0 ∨ 18 ≤ bank ∨ !groupExists n ∨ s.poison.contains g then s
  else
    let l := (s.flaws.filter (fun f => f.group == g)).map (fun f => (f.bank, f.err)) ++ [(bank, e)]
    let s1 := { s with flaws := s.flaws.filter (fun f => f.group != g) }
    match decodeGroup (s.bank (groupOf g).key).failed l with
    | .clean => s1.flip g l
    | .fixed k => { s1 with flaws := s1.flaws ++ [Flaw.mk g k (syndrome0 l)] }.flip g (l ++ [(k, syndrome0 l)])
    | .beyond => s1.markBad g

end Sys2Proof.Machine
end

