-- ==== Sys2Proof/Machine/MemSys.lean ====
section
/-! DEFINITION. The memory system: homes and their atomics (spec/08 R187, R192, R193), page walks and translation caches
(spec/19 R390 to R400), dirty logging (spec/16 R369). -/

namespace Sys2Proof.Machine

/-! Homes (R187, R192, R193). -/

/-- R192: the new word of an atomic, and whether it is written. -/
def atomicNew (opc : Byte) (old v cmp : Word) : Word × Bool :=
  match opc.toNat with
  | 0xAB => (old + v, true)
  | 0xAC => (old - v, true)
  | 0xAD => (if v.toInt < old.toInt then v else old, true)
  | 0xAE => (if old.toInt < v.toInt then v else old, true)
  | 0xAF => (if v.toNat < old.toNat then v else old, true)
  | 0xB0 => (if old.toNat < v.toNat then v else old, true)
  | 0xB1 => (old &&& v, true)
  | 0xB2 => (old ||| v, true)
  | 0xB3 => (old ^^^ v, true)
  | 0xB4 => (v, true)
  | 0xB5 => (v, old == cmp)
  | 0xB6 => (Word.ofNat (fp32.addC old.toNat v.toNat).code, true)
  | 0xB7 => ((two (fun _ a b => lx (bf16.addC a b)) 0 old v).1, true)
  | 0xB8 => (old - v, decide (v.toNat ≤ old.toNat))
  | 0xB9 => (if 2 ^ 32 ≤ old.toNat + v.toNat then 0xFFFFFFFF else old + v, true)
  | _ => (old, false)

/-- R193: the atomic whose new word a reduction computes. -/
def reduceAs (opc : Byte) : Byte :=
  match opc.toNat with
  | 0xBA => 0xAB
  | 0xBB => 0xAD
  | 0xBC => 0xAE
  | 0xBD => 0xAF
  | 0xBE => 0xB0
  | 0xBF => 0xB1
  | 0xC0 => 0xB2
  | 0xC1 => 0xB3
  | 0xC2 => 0xB6
  | _ => 0xB7

/-- R197: the new destination element of a reducing copy, of `n` bytes. -/
def combineNew (op : BitVec 4) (n old v : Nat) : Nat :=
  let less : Bool := decide ((BitVec.ofNat (8 * n) v).toInt < (BitVec.ofNat (8 * n) old).toInt)
  match op.toNat with
  | 1 => (old + v) % 2 ^ (8 * n)
  | 2 => if less then v else old
  | 3 => if less then old else v
  | 4 => min old v
  | 5 => max old v
  | 6 => old &&& v
  | 7 => old ||| v
  | 8 => old ^^^ v
  | 9 => (atomicNew 0xB6 (Word.ofNat old) (Word.ofNat v) 0).1.toNat
  | 10 => (atomicNew 0xB7 (Word.ofNat old) (Word.ofNat v) 0).1.toNat
  | _ => v

/-- R187, R189: what a home does to `size` bytes at `pa`: the value read or the old word, and memory after. -/
def homeAct (m : Memory) (pa size : Nat) : Act → Word × Memory
  | .read => (BitVec.ofNat 32 (m.readN pa size), m)
  | .write v => (0, m.writeN pa size v.toNat)
  | .atomic opc v cmp =>
    let old := m.word pa
    match atomicNew opc old v cmp with
    | (new, true) => (old, m.writeN pa 4 new.toNat)
    | (_, false) => (old, m)
  | .reduce opc v =>
    let old := m.word pa
    (0, m.writeN pa 4 (atomicNew (reduceAs opc) old v 0).1.toNat)
  | .combine op v => (0, m.writeN pa size (combineNew op size (m.readN pa size) v.toNat))
  | .swap op v _ => (0, m.writeN pa size (combineNew op size (m.readN pa size) v.toNat))

/-- R413, R421: an access of a task reads a granule that cannot be corrected: the task is ending, and the device fault log
names the granule and the context. -/
def State.eccFail (s : State) (task pa n : Nat) : State :=
  (s.poisonIn pa n).foldl (fun s g => s.dflLog (s.eccRec g 0 (some (s.ctxOfTask task)))) (s.endTask task .faulted cEcc)

/-! Page tables (R392 to R396). -/

/-- R392: the index of a level. -/
def ptIndex (level va : Nat) : Nat := va / 2 ^ (52 - 12 * level) % 4096

/-- R393: bit `k` of an entry. -/
def pteBit (e k : Nat) : Bool := e / 2 ^ k % 2 == 1

/-- R393: ADDR × 2^15. -/
def pteAddr (e : Nat) : Nat := e / 2 ^ 15 % 2 ^ 37 * 2 ^ 15

/-- R393: a reserved bit of the entry is set. -/
def pteReserved (e : Nat) : Bool := e / 2 ^ 52 % 2 ^ 9 != 0 || e / 2 ^ 5 % 2 ^ 10 != 0

/-- R393: the leaf fields. -/
def pteLeaf (e : Nat) : Leaf :=
  { frame := pteAddr e, w := pteBit e 1, mig := pteBit e 62, obj := pteBit e 61, poison := pteBit e 63, acc := pteBit e 3
    dirty := pteBit e 4 }

/-- R394: the levels still to walk from table `t`: the leaf's entry address, the entry and whether the page is 256 MiB;
none for outcome TRANS. -/
def walkFrom (m : Memory) (va : Nat) : List Nat → Nat → Option (Nat × Nat × Bool)
  | [], _ => none
  | level :: rest, t =>
    let at_ := t + 8 * ptIndex level va
    let e := m.readN at_ 8
    if !pteBit e 0 ∨ pteReserved e then none
    else if !pteBit e 2 then
      if level = 3 ∨ pteBit e 63 ∨ pteBit e 62 ∨ pteBit e 61 ∨ pteBit e 4 ∨ pteBit e 3 ∨ pteBit e 1 then none
      else if !areaOk (pteAddr e) (2 ^ 15) then none
      else walkFrom m va rest (pteAddr e)
    else if level = 1 then none
    else
      let size := if level = 2 then 2 ^ 28 else 2 ^ 16
      if pteAddr e % size ≠ 0 ∨ !rangeOk (pteAddr e) size then none
      else some (at_, e, level == 2)

/-- R394: the addresses of the entries that a walk reads. -/
def walkReads (m : Memory) (va : Nat) : List Nat → Nat → List Nat
  | [], _ => []
  | level :: rest, t =>
    let at_ := t + 8 * ptIndex level va
    let e := m.readN at_ 8
    if !pteBit e 0 ∨ pteReserved e ∨ pteBit e 2 then [at_]
    else if level = 3 ∨ pteBit e 63 ∨ pteBit e 62 ∨ pteBit e 61 ∨ pteBit e 4 ∨ pteBit e 3 ∨ pteBit e 1 then [at_]
    else if !areaOk (pteAddr e) (2 ^ 15) then [at_]
    else at_ :: walkReads m va rest (pteAddr e)

/-- R21: the way of a walk's reads from its E-tile to the homes of the entries and back, one after the other. -/
def walkWay (m : Memory) (etile va root : Nat) : Nat :=
  (walkReads m va [1, 2, 3] root).foldl (fun n a => n + 2 * flitHome etile a) 0

/-- R396: a leaf against a kind of access: 0 when it passes. -/
def leafCheck (l : Leaf) : Kind → Byte
  | .read => if l.poison then cPoison else 0
  | .write => if l.poison then cPoison else if l.obj then cObjStore else if !l.w || l.mig then cPerm else 0
  | .atomic => if l.poison then cPoison else if l.obj then cObjStore else if !l.w || l.mig then cPerm else 0
  | .barrier =>
    if l.poison then cPoison else if !l.obj || !isMslice l.frame then cPerm else if !l.w || l.mig then cPerm else 0

/-- The kinds of access. -/
def allKinds : List Kind := [.read, .write, .atomic, .barrier]

/-- A kind that R395 counts as a write. -/
def Kind.writes : Kind → Bool
  | .read => false
  | _ => true

/-! Translation caches (R183, R397). -/

/-- What a cache answers. -/
inductive Tr where
  | hit (pa : Nat)
  | miss
  | bad (code : Byte)
  deriving DecidableEq, Repr

/-- The size of a cached page. -/
def TlbEntry.size (e : TlbEntry) : Nat := if e.big then 2 ^ 28 else 2 ^ 16
/-- The entry maps `va` of `ctx`. -/
def TlbEntry.maps (e : TlbEntry) (ctx va : Nat) : Bool :=
  e.ctx == ctx && decide (e.base ≤ va ∧ va < e.base + e.size)

/-- R183, R397: the answer of an entry that maps `va`. -/
def TlbEntry.answer (e : TlbEntry) (va : Nat) (k : Kind) : Tr :=
  match e.bad.find? (fun x => x.1 == k) with
  | some x => .bad x.2
  | none =>
    match e.leaf with
    | none => .miss
    | some l => if leafCheck l k = 0 ∧ l.acc ∧ (!k.writes ∨ l.dirty) then .hit (l.frame + (va - e.base)) else .miss

/-- The answer of a cache: a fault outcome that it keeps for the page stands before every leaf (R183). -/
def tlbAnswer (t : Tlb) (ctx va : Nat) (k : Kind) : Tr :=
  let es := t.filter (fun e => e.maps ctx va)
  match es.findSome? (fun e => e.bad.find? (fun x => x.1 == k)) with
  | some x => .bad x.2
  | none =>
    match es with
    | e :: _ => e.answer va k
    | [] => .miss

/-- R397: least recently used order: the entry that maps `va` comes first. -/
def tlbTouch (t : Tlb) (ctx va : Nat) : Tlb :=
  t.filter (fun e => e.maps ctx va) ++ t.filter (fun e => !e.maps ctx va)

/-- R397: the capacity of a cache: 1,024 at an E-tile, 256 at a C-tile. -/
def tlbCap (place : Nat) : Nat := if kindOfTile place = .e then 1024 else 256

/-- The entries are of one page of one context. -/
def TlbEntry.same (x e : TlbEntry) : Bool := e.ctx == x.ctx && e.base == x.base && e.big == x.big

/-- Insert an entry as the most recently used; the leaf of an entry of the same page is replaced, and its fault outcomes stay until
the host invalidates them (R183). -/
def tlbInsert (place : Nat) (t : Tlb) (x : TlbEntry) : Tlb :=
  let old := (t.filter x.same).flatMap (fun e => e.bad)
  ({ x with bad := old ++ x.bad.filter (fun y => !old.any (fun z => z.1 == y.1)) } :: t.filter (fun e => !x.same e)).take (tlbCap place)

/-- R397: a miss starts a walk at the E-tile's walker, or joins the walk of that context and page; the request and the outcome
travel between the two (R21). -/
def State.startWalk (s : State) (place ctx va : Nat) (k : Kind) : State :=
  let et := etileOf (regionOfTile place)
  let way := 2 * flitDelay place et
  if s.pwalks.any (fun w => w.etile == et && w.ctx == ctx && w.va / 2 ^ 16 == va / 2 ^ 16) then
    { s with pwalks := s.pwalks.map (fun w =>
        if w.etile == et && w.ctx == ctx && w.va / 2 ^ 16 == va / 2 ^ 16 then
          { w with kinds := if w.kinds.contains k then w.kinds else w.kinds ++ [k]
                   places := if w.places.contains place then w.places else w.places ++ [place]
                   left := if w.places.contains place then w.left else max w.left way }
        else w) }
  else
    { s with fresh := s.fresh + 1
             pwalks := s.pwalks ++ [{ id := s.fresh, etile := et, ctx := ctx, va := va, kinds := [k], places := [place]
                                      left := way + walkWay s.mem et va (s.ctx ctx).ptroot.toNat }] }

/-- R342: CONT of a record. -/
def Task.cont (t : Task) : Bool := fldN (t.record.getD 12 0) 1 1 == 1

/-- R341, R358: what the retirement of entry `t` in state `fin` does to a task that may depend on it. -/
def Task.after (x : Task) (t : Nat) (fin : TaskSt) (round : Nat) : Task :=
  if !x.pre.contains t then x
  else if fin = .done ∨ x.cont then
    let pre := x.pre.filter (fun k => k != t)
    if pre.isEmpty ∧ x.st = .waiting then { x with pre := pre, st := .ready, rank := round, age := 0 } else { x with pre := pre }
  else { x with pre := x.pre.filter (fun k => k != t), ending := if x.ending.isSome then x.ending else some (.aborted, 0) }

/-- R340, R358: the task leaves the dependence table; its dependents learn how it retired. An access of it that has still to
perform at system scope belongs to no entry any more. -/
def State.freeEntry (s : State) : Option Nat → State
  | some t =>
    match s.task? t with
    | none => s
    | some x =>
      let fin := (x.final.map (fun f => f.1)).getD .aborted
      { s with
        tasks := Table.mapAll (Table.erase s.tasks t) (fun _ y => y.after t fin s.round)
        accs := s.accs.map (fun (a : Access) => if a.task = t then { a with task := 8192 } else a) }
  | none => s

/-- R361, R365: a queue, log or save-area write failed: the context is FAULTED and its waiting records are dropped. -/
def State.ctxFault (s : State) (ctx : Nat) : State :=
  let c := s.ctx ctx
  (c.events.map (fun x => x.1)).foldl State.freeEntry (s.setCtx ctx { c with st := .faulted, faults := [], events := [] })

/-- R361, R426: the device's own use of an area of a context meets an uncorrectable group in one of the places given: an ACTIVE,
QUIESCING or SUSPENDED context is FAULTED, and the device fault log names the groups. -/
def State.areaFault (s : State) (ctx : Nat) (spans : List (Nat × Nat)) : State :=
  let c := s.ctx ctx
  let s1 := if c.st = .active ∨ c.st = .quiescing ∨ c.st = .suspended then s.ctxFault ctx else s
  (s.poison.filter (fun g => spans.any (fun x => decide (g < x.1 + x.2 ∧ x.1 < g + granule g)))).foldl
    (fun s g => s.dflLog (s.eccRec g 0 none)) s1

/-- R369: the byte of the live bitmap that holds a page's bit, and the bit; none for a page that the log does not cover. -/
def Ctx.dirtyAt (c : Ctx) (p : Nat) : Option (Nat × Nat) :=
  let base := c.dlva.toNat / 2 ^ 16
  if base ≤ p ∧ p < base + c.dlpages.toNat then some (c.dlbase.toNat + (p - base) / 8, (p - base) % 8) else none

/-- R369: a translated write sets its page's bit of the live bitmap; a 256 MiB page sets its 4,096 bits. A log write that
meets an uncorrectable group faults the context (R361, R421). -/
def State.logDirty (s : State) (ctx va : Nat) (big : Bool) : State :=
  let c := s.ctx ctx
  if fldN c.dlctl 0 1 = 0 then s
  else
    let first := if big then va / 2 ^ 28 * 4096 else va / 2 ^ 16
    let bits := ((List.range (if big then 4096 else 1)).map (fun k => first + k)).filterMap c.dirtyAt
    if bits.any (fun x => s.poisoned x.1 1 false) then s.areaFault ctx (bits.map (fun x => (x.1, 1)))
    else { bits.foldl (fun s x => s.noteBytes x.1 1) s with
      mem := bits.foldl (fun m x => m.write x.1 (m.read x.1 ||| ((1 : Byte) <<< x.2))) s.mem
      flaws := s.flaws.filter (fun f => !bits.any (fun x => x.1 / 16 * 16 == f.group)) }

/-- Whether the page that a cache holds for `va` is a 256 MiB page. -/
def tlbBig (t : Tlb) (ctx va : Nat) : Bool :=
  match t.find? (fun e => e.maps ctx va) with
  | some e => e.big
  | none => false

/-- R183, R184, R397: translate at a cache or point: the answer, with the walk started on a miss and the dirty log
written for a translated write. An address past the 52 bits of R392 has no page (notes/assumptions/69). -/
def State.translate (s : State) (place ctx va : Nat) (k : Kind) : Tr × State :=
  let t := s.tlb place
  if 2 ^ 52 ≤ va then (.bad cTrans, s)
  else match tlbAnswer t ctx va k with
  | .miss => (.miss, s.startWalk place ctx va k)
  | .bad code => (.bad code, s.setTlb place (tlbTouch t ctx va))
  | .hit pa =>
    let s' := s.setTlb place (tlbTouch t ctx va)
    (.hit pa, if k.writes then s'.logDirty ctx va (tlbBig t ctx va) else s')

/-- R394 to R397: what a finished walk leaves in a cache, and the entry's A and D bits in memory. -/
def walkResult (m : Memory) (root ctx va : Nat) (kinds : List Kind) : TlbEntry × Memory :=
  match walkFrom m va [1, 2, 3] root with
  | none =>
    ({ ctx := ctx, base := va / 2 ^ 16 * 2 ^ 16, big := false, leaf := none, bad := allKinds.map (fun k => (k, cTrans)) }, m)
  | some (at_, e, big) =>
    let leaf := pteLeaf e
    let pass := kinds.filter (fun k => leafCheck leaf k == 0)
    let size := if big then 2 ^ 28 else 2 ^ 16
    let setD := pass.any Kind.writes
    let m' := if pass.isEmpty then m
      else m.write at_ (m.read at_ ||| 8 ||| (if setD then 16 else 0))
    let bad := if pass.length = kinds.length then []
      else allKinds.filterMap (fun k => if leafCheck leaf k = 0 then none else some (k, leafCheck leaf k))
    ({ ctx := ctx, base := va / size * size, big := big, leaf := some { leaf with acc := leaf.acc || !pass.isEmpty, dirty := leaf.dirty || setD }, bad := bad }, m')

/-- R397: the walks that one walk serves: its own, and with the leaf of a 256 MiB page every walk of that page. -/
def PWalk.serves (w : PWalk) (big : Bool) (x : PWalk) : Bool :=
  x.id == w.id || (big && x.etile == w.etile && x.ctx == w.ctx && x.va / 2 ^ 28 == w.va / 2 ^ 28)

/-- R395, R419: a walk has read its entries, and has written the last one where a waiting kind of access passed. -/
def State.entriesRead (s : State) (reads : List Nat) (entry : TlbEntry) (kinds : List Kind) : State :=
  let s1 := reads.foldl (fun s a => s.noteBytes a 8) s
  match entry.leaf with
  | some l => if kinds.any (fun k => leafCheck l k == 0) then s1.rewritten (reads.getLastD 0) 8 else s1
  | none => s1

/-- PAGE_WALK (R394): one of the 64 walks in flight of its walker completes. A walk that reads an uncorrectable group ends
the task it is made for (R421). -/
def execPageWalk (walk : Nat) (s : State) : Out :=
  match s.pwalks.find? (fun w => w.id == walk) with
  | none => .next s
  | some w =>
    if ((s.pwalks.filter (fun x => x.etile == w.etile)).take 64).any (fun x => x.id == walk) then
      let root := (s.ctx w.ctx).ptroot.toNat
      match (walkReads s.mem w.va [1, 2, 3] root).find? (fun a => s.poisoned a 8 false) with
      | some a =>
        .next ({ s with pwalks := s.pwalks.filter (fun x => x.id != walk) }.eccFail (s.taskOfRegion (regionOfTile w.etile)) a 8)
      | none =>
        let mine := s.pwalks.filter (w.serves (walkResult s.mem root w.ctx w.va w.kinds).1.big)
        let kinds := (mine.flatMap (fun x => x.kinds)).eraseDups
        match walkResult s.mem root w.ctx w.va kinds with
        | (entry, m) =>
          .next { s.entriesRead (walkReads s.mem w.va [1, 2, 3] root) entry kinds with
            mem := m
            pwalks := s.pwalks.filter (fun x => !mine.contains x)
            tlbs := (mine.flatMap (fun x => x.places)).foldl (fun t p => Table.put t p (tlbInsert p (Table.getD t p []) entry)) s.tlbs }
    else .next s

/-! Accesses (R187 to R190, R289, R290). -/

/-- Bytes of a word, little-endian, padded with zeros to a unit of 16. -/
def unitOf (v n : Nat) : List Byte := (List.range 16).map (fun k => if k < n then BitVec.ofNat 8 (v / 256 ^ k) else 0)

/-- R407: the device's own transaction to an endpoint takes the next ESEQ; at most 256 stay unanswered. -/
def State.sendOut (s : State) (ep : Nat) (t : Txn) : Option (State × Nat) :=
  let e := Table.getD s.eps ep {}
  if 256 ≤ e.sent.length then none
  else
    let t' := { t with dst := BitVec.ofNat 12 ep, src := Config.endpoint, eseq := e.next }
    some ({ s with outq := s.outq ++ [t'], eps := Table.put s.eps ep { e with next := e.next + 1, sent := e.sent ++ [(t', 0)] } }, e.next.toNat)

/-- R406: the transaction that performs an access at fabric address `pa` (notes/assumptions/11). -/
def fabricTxn (pa size : Nat) : Act → Txn
  | .read => { type := 0, dst := 0, src := 0, eseq := 0, len := 1, opx := 0, addr := BitVec.ofNat 64 (pa / 16 * 16), data := [] }
  | .write v =>
    { type := 1, dst := 0, src := 0, eseq := 0, len := 1, opx := BitVec.ofNat 8 size, addr := BitVec.ofNat 64 pa,
      data := unitOf v.toNat size }
  | .atomic opc v cmp =>
    { type := 4, dst := 0, src := 0, eseq := 0, len := 1, opx := opc - 0xAB, addr := BitVec.ofNat 64 pa,
      data := unitOf (v.toNat + cmp.toNat * 2 ^ 32) 8 }
  | .reduce opc v =>
    { type := 5, dst := 0, src := 0, eseq := 0, len := 1, opx := opc - 0xBA, addr := BitVec.ofNat 64 pa,
      data := unitOf v.toNat 4 }
  | .combine op v =>
    if size = 4 then
      { type := 5, dst := 0, src := 0, eseq := 0, len := 1, opx := op.setWidth 8 - 1, addr := BitVec.ofNat 64 pa, data := unitOf v.toNat 4 }
    else { type := 0, dst := 0, src := 0, eseq := 0, len := 1, opx := 0, addr := BitVec.ofNat 64 (pa / 16 * 16), data := [] }
  | .swap op v old =>
    let n := if size = 8 then 8 else 4
    let sh := 2 ^ (8 * (pa % n))
    let x := old.toNat / sh % 2 ^ (8 * size)
    let new := old.toNat - x * sh + combineNew op size x v.toNat * sh
    { type := 4, dst := 0, src := 0, eseq := 0, len := 1, opx := if size = 8 then 0x11 else 0x0A, addr := BitVec.ofNat 64 (pa / n * n)
      data := unitOf (new + old.toNat * 2 ^ (8 * n)) 16 }

/-- Replace an access. -/
def State.setAcc (s : State) (a : Access) : State := { s with accs := s.accs.map (fun x => if x.id = a.id then a else x) }

/-- An access by its name. -/
def State.acc? (s : State) (id : Nat) : Option Access := s.accs.find? (fun a => a.id == id)

/-- A plain write: only it can cover a granule whole. -/
def Act.isWrite : Act → Bool
  | .write _ => true
  | _ => false

/-- The tile an access is issued from (R287). -/
def Port.tile : Port → Nat
  | .elem el _ => tileOfElem el
  | .copy t _ => t
  | .walk t _ => t
  | .unit u => u / 64
  | .root u _ => u / 64
  | .gone el _ => tileOfElem el

/-- R187: the translation a source-side access of a walk, unit or root still needs, by its kind. -/
def Act.kind : Act → Kind
  | .read => .read
  | .write _ => .write
  | .atomic _ _ _ => .atomic
  | .reduce _ _ => .atomic
  | .combine _ _ => .atomic
  | .swap _ _ _ => .atomic

/-- R187, R290, R421: perform a translated access at its home; fabric space is reached by a transaction; a poisoned
granule ends the task. -/
def State.perform (s : State) (a : Access) (pa : Nat) : State :=
  if isFabric pa then
    match s.sendOut (pa / 2 ^ 39 % 2 ^ 12) (fabricTxn pa a.size a.act) with
    | some (s', eseq) => s'.setAcc { a with st := .fabric (pa / 2 ^ 39 % 2 ^ 12) eseq }
    | none => s.setAcc { a with st := .ready pa }
  else if s.poisoned pa a.size a.act.isWrite then
    ((s.noteBytes pa a.size).setAcc { a with st := .failed cEcc }).eccFail a.task pa a.size
  else
    match homeAct s.mem pa a.size a.act with
    | (v, m) =>
      let s1 := { s.noteBytes pa a.size with mem := m }.setAcc { a with st := .done v, left := flitHome a.src.tile pa }
      if a.act = .read then s1 else s1.rewritten pa a.size

/-- R289, R290, R191: the access has performed at a scope (3 is system), or was discarded. -/
def Access.performed (a : Access) (scope : BitVec 2) : Bool :=
  match a.st with
  | .done _ => true
  | .dropped => true
  | .fabric _ _ =>
    match a.act with
    | .write _ => scope != 3
    | .reduce _ _ => scope != 3
    | .combine _ _ => scope != 3 && a.size == 4
    | _ => false
  | _ => false

/-- Two accesses of one order-keeping port: an element, a copy, a unit or a whey root (R200, R295). -/
def samePort : Port → Port → Bool
  | .elem a _, .elem b _ => a == b
  | .copy t a, .copy u b => t == u && a == b
  | .unit a, .unit b => a == b
  | .unit a, .root b _ => a == b
  | .root a _, .unit b => a == b
  | .root a _, .root b _ => a == b
  | _, _ => false

/-- The access has still to perform at its home, an endpoint's included. -/
def Access.waiting (a : Access) : Bool :=
  match a.st with
  | .point => true
  | .parked _ _ => true
  | .ready _ => true
  | .fabric _ _ => true
  | _ => false

/-- R21: the access has been done at its home and its answer has come back. -/
def Access.back (a : Access) : Bool :=
  match a.st with
  | .done _ => a.left == 0
  | _ => false

/-- The bytes of two accesses of one context overlap at the same VA. -/
def Access.laps (a b : Access) : Bool := b.ctx == a.ctx && decide (b.va < a.va + a.size ∧ a.va < b.va + b.size)

/-- R200, R291: two accesses of a copy to one destination word; the high half of an 8-byte element follows its low half. -/
def Access.wordOf (a b : Access) : Bool :=
  match a.src, a.act.kind.writes && b.act.kind.writes with
  | .copy _ _, true => b.ctx == a.ctx && (b.va / 4 == a.va / 4 || (a.lane == 1 && b.id + 1 == a.id))
  | _, _ => false

/-- R186: an earlier operation of the element still waits in its port queue to be handed on. -/
def Elem.behind (e : Elem) (id : Nat) : Bool :=
  e.pend.any (fun (p : Pend) => decide (p.id < id) && match p.job with
    | .walkIssue _ _ _ => true
    | .copyIssue _ _ _ => true
    | .tag _ _ _ => true
    | .event _ _ => true
    | _ => false)

/-- R186: the operation of the element that an access belongs to. -/
def Access.opOf (a : Access) (el : Nat) : Option Nat :=
  match a.src with
  | .elem k id => if k = el then some id else none
  | _ => none

/-- R186: a load, LDG lane or atomic is held in its port queue: it overlaps an earlier posted operation of its element that
has still to perform at its home. -/
def State.heldLoad (s : State) (a : Access) : Bool :=
  !a.posted && a.waiting && (s.accs.takeWhile (fun b => b.id != a.id)).any (fun b =>
    samePort a.src b.src && b.posted && b.waiting && a.laps b)

/-- R186: the port queue hands operations on in issue order: one issued before `id` has still to be handed on. -/
def State.behind (s : State) (el id : Nat) : Bool :=
  (s.elem el).behind id || s.accs.any (fun a => (a.opOf el).any (fun k => decide (k < id)) && s.heldLoad a)

/-- R186: the access belongs to an operation that its port queue has not handed on. -/
def State.queued (s : State) (a : Access) : Bool :=
  match a.src with
  | .elem el id => s.behind el id
  | _ => false

/-- R186, R200, R291, R295: the access is still in its port queue, or an earlier access of the same port to overlapping bytes
at the same VA, or of the same copy to the same word, has still to perform. -/
def State.blocked (s : State) (a : Access) : Bool :=
  s.queued a || (s.accs.takeWhile (fun b => b.id != a.id)).any (fun b =>
    samePort a.src b.src && b.waiting && (a.laps b || a.wordOf b))

/-- R126: KIND of a tile. -/
def kindCode : TileKind → Nat
  | .c => 0
  | .m => 1
  | .s => 2
  | .e => 3

/-- R126: an end id. -/
def endWord (kind local_ unit fin port : Nat) : Nat :=
  kind * 2 ^ 30 + local_ * 2 ^ 20 + unit * 2 ^ 14 + fin * 2 ^ 12 + port * 2 ^ 8

/-- The end id of a Loupe: KIND 11, the local index of the E-tile, UNIT 0. -/
def loupeEnd (local_ : Nat) : Nat := endWord 3 local_ 0 0 0

/-- R9: the local number of a tile among those of its kind in a span. -/
def localOf (row col rows cols t : Nat) : Nat :=
  ((spanTiles row col rows cols).filter (fun x => kindOfTile x == kindOfTile t)).idxOf t

/-- R9: the span that a region's task runs on: row, column, rows, columns. -/
def State.spanOf (s : State) (task : Nat) : Nat × Nat × Nat × Nat :=
  match s.task? task with
  | some t => (t.row, t.col, fldN (t.record.getD 6 0) 24 8, fldN (t.record.getD 6 0) 16 8)
  | none => (0, 0, 0, 0)

/-- The local number of a tile in its task's span. -/
def State.localTile (s : State) (task tile : Nat) : Nat :=
  match s.spanOf task with
  | (r, c, rows, cols) => localOf r c rows cols tile

/-- R366, R367: a new unresolved record of a context, under a handle that no other unresolved record has. -/
def State.newHandle (s : State) (ctx : Nat) (it : Item) : State × Nat :=
  let c := s.ctx ctx
  let free := (List.range (c.items.length + 1)).map (fun k => (c.nextHandle + k) % 65535)
  let h := (free.find? (fun k => (Table.get? c.items k).isNone)).getD 0
  (s.setCtx ctx { c with items := Table.put c.items h it, nextHandle := (h + 1) % 65535 }, h)

/-- R367: the record of a handle is resolved, or void (R371). -/
def State.dropItem (s : State) (ctx handle : Nat) : State :=
  s.setCtx ctx { s.ctx ctx with items := Table.erase (s.ctx ctx).items handle }

/-- R366: a fault record, as its eight words. -/
def faultRecord (src : Nat) (code : Byte) (region id taskid handle fend va detail : Nat) (stamp : Dword) : List Word :=
  [Word.ofNat (src * 2 ^ 28 + code.toNat * 2 ^ 20 + region * 2 ^ 14 + id), Word.ofNat (taskid * 2 ^ 16 + handle),
    Word.ofNat fend, Word.ofNat va, Word.ofNat (va % 2 ^ 52 / 2 ^ 32), Word.ofNat detail,
    Word.ofNat stamp.toNat, Word.ofNat (stamp.toNat / 2 ^ 32)]

/-- R365: a fault record waits for room in its context's queue; in FREE and FAULTED it is dropped. -/
def State.postFault (s : State) (ctx : Nat) (r : List Word) : State :=
  let c := s.ctx ctx
  if c.st = .free ∨ c.st = .faulted then s else s.setCtx ctx { c with faults := c.faults ++ [r] }

/-- The TASKID of a task, 0 for none. -/
def State.taskId (s : State) (task : Nat) : Nat :=
  match s.task? task with
  | some t => t.taskid.toNat
  | none => 0

/-- R334: the context of a region's task, and the TASKID for its records. -/
def State.ctxOfRegion (s : State) (reg : Nat) : Nat := s.ctxOfTask (s.taskOfRegion reg)

/-- A task's state changes. -/
def State.modTask (s : State) (task : Nat) (f : Task → Task) : State :=
  match s.task? task with
  | some t => s.setTask task (f t)
  | none => s

/-- The element that an element's access came from. -/
def Port.elemId : Port → Nat
  | .elem el _ => el
  | .gone el _ => el
  | _ => 0

/-- R297, R339: the port of an access whose component has been freed. -/
def Port.freed (p : Port) (acc : Nat) : Port :=
  match p with
  | .elem el _ => .gone el acc
  | .gone el k => .gone el k
  | _ => .gone (elemOfTile p.tile 0) acc

/-- R184: every access of a port's operation, a scatter's lanes together, goes to a state. -/
def State.setOp (s : State) (src : Port) (st : AccSt) : State :=
  { s with accs := s.accs.map (fun (x : Access) => if x.src = src then { x with st := st } else x) }

/-- R184, R191: a posted operation is discarded: its accesses never perform, and a FENCE of its element learns of it. -/
def State.dropOp (s : State) (src : Port) : State :=
  let s1 := s.setOp src .dropped
  match src with
  | .elem el _ =>
    let ids := (s.accs.filter (fun a => a.src == src)).map (fun a => a.id)
    let e := s1.elem el
    s1.setElem el { e with
      dropped := true
      pend := e.pend.map (fun (p : Pend) => match p.job with
        | .fence sc waits d => { p with job := .fence sc waits (d || ids.any waits.contains) }
        | _ => p) }
  | _ => s1

/-- POSTED_OP_PARK (R184, R366): a posted operation that faults is parked whole under a handle, and its record is posted;
`a` is the access that faults, the first of its lanes that does. -/
def State.park (s : State) (a : Access) (code : Byte) : State :=
  match s.newHandle a.ctx (.posted a.id) with
  | (s1, h) =>
    { s1 with accs := s1.accs.map (fun (x : Access) => if x.src = a.src then
        { x with st := .parked code h, big := tlbBig (s1.tlb (etileOf a.region)) x.ctx x.va } else x) }.postFault a.ctx
      (faultRecord 2 code a.region a.src.elemId (s.taskId a.task) h 0 a.va a.opc.toNat (s.cycleOf a.region))

/-- R184: the operation that a parked access belongs to is parked on the page of `va`. -/
def Access.parkedOn (a : Access) (ctx va : Nat) : Bool :=
  match a.st with
  | .parked _ _ => a.ctx == ctx && (if a.big then a.va / 2 ^ 28 == va / 2 ^ 28 else a.va / 2 ^ 16 == va / 2 ^ 16)
  | _ => false

/-- R312: the words of a walk's read are translated page by page: those that wait on the page of `a` go with it. -/
def State.samePage (s : State) (a x : Access) : Bool :=
  x.id == a.id || (match a.src with
    | .walk _ _ =>
      let size := if tlbBig (s.tlb (etileOf a.region)) a.ctx a.va then 2 ^ 28 else 2 ^ 16
      x.src == a.src && x.st == .point && x.va / size == a.va / size
    | _ => false)

/-- R312, R397: where a source-side access is translated: the E-tile of its region, or the tile of its element. -/
def Access.via (a : Access) : Nat :=
  match a.src with
  | .elem el _ => tileOfElem el
  | _ => etileOf a.region

/-- MEMORY_ACCESS_AT_HOME (R187): a home performs an access on its bytes. An access of a walk, a unit or a whey root is
first translated at the E-tile of its region (R312, R397); so is, in its tile, one that its port queue held while its translation
was dropped, and a fault parks it (R399, log 89). -/
def execMemoryAccessAtHome (acc : Nat) (s : State) : Out :=
  match s.acc? acc with
  | none => .next s
  | some a =>
    if s.blocked a then .next s
    else
      match a.st with
      | .ready pa => .next (s.perform a pa)
      | .point =>
        if a.posted then .next s
        else
          match s.translate a.via a.ctx a.va a.act.kind with
          | (.hit pa, s') => .next { s' with accs := s'.accs.map (fun x => if s'.samePage a x then
              { x with st := .ready (pa + x.va - a.va), left := flitHome a.via (pa + x.va - a.va) } else x) }
          | (.miss, s') => .next s'
          | (.bad code, s') => .next (match a.src with
            | .elem _ _ => s'.park a code
            | _ => { s' with accs := s'.accs.map (fun x => if s'.samePage a x then { x with st := .failed code } else x) })
      | _ => .next s

end Sys2Proof.Machine
end

