-- ==== Sys2Proof/Machine/Port.lean ====
section
/-! DEFINITION. Port-lane operations: the checks of an access (spec/08 R182, R183), issue into the port queue (R185, R186),
and delivery when the answer comes. -/

namespace Sys2Proof.Machine

/-! Issue and delivery (R185, R186). -/

/-- R186: the port-queue entries in use. -/
def Elem.portUse (e : Elem) : Nat := (e.pend.filter (fun p => p.port)).length

/-- R64: the control tokens that every firing of a rule sends. -/
def Elem.everyCo (e : Elem) (rule : Nat) : List Put := e.boundCo rule false

/-- R68, R69, R186: a port-lane rule has room for its writes `l` and a free entry of the port queue. -/
def Elem.portRoom (e : Elem) (rule : Nat) (l : List Put) : Bool :=
  decide (e.portUse < 8) && e.roomFor (l ++ e.everyCo rule)

/-- R74, R84, R185: the commit of a port-lane rule: it takes its tokens, sends its control tokens, and its later writes
`l` are reserved. -/
def Elem.issuePort (e : Elem) (rule : Nat) (q : Req) (l : List Put) (job : Job) (port : Bool) : Elem :=
  ((l.foldl Elem.leave (e.fireTakes rule (takes q.a q.b))).puts (e.everyCo rule)).suspend rule l
    { id := 0, rule := 0, dst := q.d, port := port, job := job }

/-- R21: the request of an operation is under way for `n` rounds. -/
def Elem.delay (e : Elem) (id n : Nat) : Elem := { e with pend := e.pend.map (fun p => if p.id = id then { p with left := n } else p) }

/-- A later write with the value and tag that came. -/
def Put.carry (v : Option Word) (abort : Bool) : Put → Put
  | .d k w => .d k (v.getD w)
  | .p k b => .p k (match v with | some w => w != 0 | none => b)
  | .out k ts => .out k (ts.map (fun t => ⟨v.getD t.data, if abort then Tag.abort else t.tag⟩))
  | x => x

/-- An operation of an element. -/
def Elem.pend? (e : Elem) (id : Nat) : Option Pend := e.pend.find? (fun p => p.id == id)

/-- Replace what an operation still has to do. -/
def Elem.setJob (e : Elem) (id : Nat) (j : Job) : Elem :=
  { e with pend := e.pend.map (fun p => if p.id = id then { p with job := j } else p) }

/-- The operation delivers: its reserved writes take effect, its statistics count in the round that sees its
writes (R43; notes/assumptions/30), its entry is free. -/
def Elem.finish (e : Elem) (id : Nat) (v : Option Word) (abort : Bool) : Elem :=
  match e.pend? id with
  | none => e
  | some p =>
    let e' : Elem := { e with pend := e.pend.filter (fun x => x.id != id), due := e.due.plus p.inc }
    (p.puts.map (Put.carry v abort)).foldl (fun e x => e.putHeld id x) e'

/-- The operation leaves no effect: its reservations are released. -/
def Elem.cancel (e : Elem) (id : Nat) : Elem :=
  match e.pend? id with
  | none => e
  | some p =>
    let e' : Elem := { e with pend := e.pend.filter (fun x => x.id != id) }
    p.puts.foldl (fun e x => match x with
      | .out k _ => { e with ports := e.ports.release k.toNat id }
      | .co k => { e with ports := e.ports.setCout k.toNat { e.ports.coutAt k.toNat with reserved := (e.ports.coutAt k.toNat).reserved - 1 } }
      | _ => e) e'

/-- R21, R75: an answer with its writes is on its way back for `n` rounds. -/
def Elem.answer (e : Elem) (id : Nat) (l : List Put) (n : Nat) : Elem :=
  { e with pend := e.pend.map (fun p => if p.id = id then { p with job := .timed, puts := l, left := n } else p) }

/-- R21: the same with a value that the reserved writes carry. -/
def Elem.answerWith (e : Elem) (id : Nat) (v : Option Word) (n : Nat) : Elem :=
  { e with pend := e.pend.map (fun p =>
      if p.id = id then { p with job := .timed, puts := p.puts.map (Put.carry v false), left := n } else p) }

/-- LONG_LATENCY_COMMIT (R75): a result whose last round has come. -/
def execLongLatencyCommit (el id : Nat) (s : State) : Out :=
  match (s.elem el).pend? id with
  | some p => if p.job = .timed ∧ p.left = 0 then .next (s.setElem el ((s.elem el).finish id none false)) else .next s
  | none => .next s

/-! The checks of an access (R182, R183). -/

/-- One access of a memory-form rule: its byte offset, size and action. -/
structure Lane where
  off  : Nat
  size : Nat
  act  : Act
  deriving DecidableEq, Repr

/-- What the checks answer: the state of each lane's access, a withdrawal, or a failure with its code and offset. -/
inductive Chk where
  | ok (l : List AccSt)
  | withdraw
  | fail (code : Byte) (off : Nat)
  deriving DecidableEq, Repr

/-- R184: an operation of the element is parked on the page of `va`. -/
def State.heldPage (s : State) (el ctx va : Nat) : Bool :=
  s.accs.any (fun a => samePort a.src (.elem el 0) && a.parkedOn ctx va)

/-- R182, R183: the lanes in ascending order; the first that fails decides the code, the first that misses withdraws the
rule, before a higher lane is looked at (notes/assumptions/12). `src` is the kind of a source-side access. -/
def State.check (s : State) (el ctx : Nat) (win : Window) (perm : Bool) (src : Option Kind) : List Lane → Chk × State
  | [] => (.ok [], s)
  | l :: rest =>
    if win.len < l.off + l.size then (.fail cWinBound l.off, s)
    else if (win.base + l.off) % l.size ≠ 0 then (.fail cAlign l.off, s)
    else if !perm then (.fail cPerm l.off, s)
    else
      match src with
      | none =>
        match s.check el ctx win perm src rest with
        | (.ok t, s') => (.ok (.point :: t), s')
        | r => r
      | some k =>
        if s.heldPage el ctx (win.base + l.off) then (.withdraw, s)
        else
          match s.translate (tileOfElem el) ctx (win.base + l.off) k with
          | (.miss, s') => (.withdraw, s')
          | (.bad code, s') => (.fail code l.off, s')
          | (.hit pa, s') =>
            match s'.check el ctx win perm src rest with
            | (.ok t, s'') => (.ok (.ready pa :: t), s'')
            | r => r

/-- A memory-form instruction: its fields, the kind of its source-side translation, its lanes. -/
structure MemOp where
  opc  : Byte
  d    : BitVec 5
  a    : BitVec 5
  b    : Option (BitVec 5)
  w    : BitVec 3
  sc   : BitVec 2
  perm : Window → Bool
  src  : Option Kind
  /-- The lanes; none when a field is reserved. -/
  lanes : Elem → In → Option (List Lane)

/-- R182: what the fault register of a memory-form rule holds. -/
def memFault (code : Byte) (rule : Nat) (x : In) (w : BitVec 3) (win : Window) (off : Nat) : FaultReg :=
  { faultOf code rule x with
    w := w, vav := true, offset := Word.ofNat off, va := BitVec.ofNat 64 ((win.base + off) % 2 ^ 52) }

/-- R21: the way of a flit that leaves its tile: to the home of a translated access, or to the translation point. -/
def AccSt.way (src : Port) (region : Nat) : AccSt → Nat
  | .ready pa => flitHome src.tile pa
  | _ => flitDelay src.tile (etileOf region)

/-- The accesses of a committed rule, named from `first`. -/
def newAccs (first : Nat) (src : Port) (ctx task region : Nat) (opc : Byte) (base : Nat) (posted : Bool) :
    Nat → List Lane → List AccSt → List Access
  | k, l :: ls, t :: ts =>
    { id := first + k, src := src, ctx := ctx, task := task, region := region, opc := opc, va := base + l.off, off := l.off, size := l.size,
      lane := k, act := l.act, posted := posted, st := t, left := t.way src region } ::
      newAccs first src ctx task region opc base posted (k + 1) ls ts
  | _, _, _ => []

/-- R181 to R186: a memory-form rule of an element. -/
def State.memElem (s : State) (el rule : Nat) (o : MemOp) : State :=
  let e := s.elem el
  match e.input { d := o.d, a := some o.a, b := o.b } with
  | none => s
  | some x =>
    let l := deliver o.d x.a.tag (if o.src.isSome then 0 else x.a.data)
    if !e.portRoom rule l then s
    else
      match o.lanes e x with
      | none => s.abortWith el rule cCfgField x
      | some lanes =>
        let task := s.taskOfElem el
        let ctx := s.ctxOfTask task
        let win := s.window task o.w
        match s.check el ctx win (o.perm win) o.src lanes with
        | (.withdraw, s') => s'
        | (.fail code off, s') => s'.abortRule el (memFault code rule x o.w win off)
        | (.ok sts, s') =>
          let job : Job := .mem { opc := o.opc, win := o.w, scope := o.sc, a := x.a.data, tag := x.a.tag }
          let e' := (s'.elem el).issuePort rule { d := o.d, a := some o.a, b := o.b } l job true
          { s'.setElem el e' with
            accs := s'.accs ++ newAccs s'.fresh (.elem el e.nextId) ctx task (regionOfElem el) o.opc win.base o.src.isNone 0 lanes sts
            fresh := s'.fresh + lanes.length }

/-- A memory-form instruction. -/
def State.memForm (s : State) (o : MemOp) : Out :=
  match s.cur with
  | .rule el rule => .next (s.memElem el rule o)
  | _ => .next s

/-! Responses (R185). -/

/-- Sign-extend the low `n` bits of a word. -/
def sext (n : Nat) (v : Word) : Word := Word.ofInt ((BitVec.ofNat n v.toNat).toInt)

/-- R190: lanes of `n` bits side by side, lane 0 lowest. -/
def joinLanes (n : Nat) : List Word → Word
  | [] => 0
  | v :: t => v ||| (joinLanes n t <<< n)

/-- R189, R190: the value a load, LDG or atomic delivers, from the values of its lanes in lane order. -/
def loadValue (opc : Byte) (vs : List Word) : Word :=
  match opc.toNat with
  | 0xA1 => sext 8 (vs.headD 0)
  | 0xA3 => sext 16 (vs.headD 0)
  | 0xA8 => joinLanes (if vs.length = 4 then 8 else 16) vs
  | _ => vs.headD 0

/-- The word an access returned. -/
def Access.value (a : Access) : Word :=
  match a.st with
  | .done v => v
  | _ => 0

/-- The access is over and may leave the list. -/
def Access.over (a : Access) : Bool :=
  match a.st with
  | .done _ => true
  | .dropped => true
  | _ => false

/-- A fault met after issue: its code. -/
def Access.failedCode (a : Access) : Option Byte :=
  match a.st with
  | .failed c => some c
  | _ => none

/-- The action returns a value. -/
def Act.returns : Act → Bool
  | .read => true
  | .atomic _ _ _ => true
  | _ => false

/-- MEMORY_RESPONSE (R185): when every lane of an element's operation has performed at its scope and its answer has come back
(R21), its value or its completion token is delivered; accesses that are over leave the memory system, but the reads
of a copy, a walk or a unit, which those take. -/
def execMemoryResponse (acc : Nat) (s : State) : Out :=
  match s.acc? acc with
  | none => .next s
  | some a =>
    match a.src with
    | .elem el id =>
      let mine := s.accs.filter (fun b => b.src == a.src)
      match (s.elem el).pend? id with
      | some p =>
        match p.job with
        | .mem m =>
          if mine.all (fun b => b.performed m.scope && b.left == 0) then
            let v := if a.posted then none else some (loadValue m.opc (mine.map Access.value))
            let ab := mine.any (fun b => b.st == .dropped)
            .next { s.setElem el ((s.elem el).finish id v ab) with
              accs := s.accs.filter (fun b => !(b.src == a.src && b.over)) }
          else .next s
        | _ => .next s
      | none => .next { s with accs := s.accs.filter (fun b => !(b.src == a.src && b.over)) }
    | .gone _ _ => if a.over ∨ a.failedCode.isSome then .next { s with accs := s.accs.filter (fun b => b.id != acc) } else .next s
    | _ => if a.over ∧ !a.act.returns then .next { s with accs := s.accs.filter (fun b => b.id != acc) } else .next s

/-- R186: a posted operation with no destination has left its tile: its port-queue entry is free. -/
def State.leftTile (s : State) : Port → State
  | .elem el id =>
    match (s.elem el).pend? id with
    | some p => if p.dst = 24 then s.setElem el ((s.elem el).finish id none false) else s
    | none => s
  | _ => s

/-- What the translation of an operation's lanes answers: every address, a miss, or the lane that fails and its code. -/
inductive TrAll where
  | hit (l : List Nat)
  | miss
  | bad (a : Access) (code : Byte)

/-- R184, R190: the lanes of a posted operation are translated in ascending order. -/
def State.translateAll (s : State) : List Access → TrAll × State
  | [] => (.hit [], s)
  | a :: rest =>
    match s.translate (etileOf a.region) a.ctx a.va a.act.kind with
    | (.miss, s1) => (.miss, s1)
    | (.bad code, s1) => (.bad a code, s1)
    | (.hit pa, s1) =>
      match s1.translateAll rest with
      | (.hit l, s2) => (.hit (pa :: l), s2)
      | r => r

/-- R184: an access at the translation point waits for a RESOLVE: another lane of its operation is parked, or an earlier
operation of its element on its page. -/
def State.stuck (s : State) (b : Access) : Bool :=
  s.accs.any (fun c => samePort c.src b.src && (match c.st with
    | .parked _ _ => c.src == b.src || c.parkedOn b.ctx b.va
    | _ => false))

/-- R184: an earlier posted operation of the element holds this access at the translation point: one parked on its page, one
of its 64 KiB that waits behind a parked one, or one still to be translated that may lie on its page (R397). -/
def State.pointHeld (s : State) (a : Access) : Bool :=
  (s.accs.takeWhile (fun b => b.id != a.id)).any (fun b =>
    samePort b.src a.src && b.src != a.src && b.posted
      && (b.parkedOn a.ctx a.va || (b.st == .point && b.ctx == a.ctx
        && (if s.stuck b then b.va / 2 ^ 16 == a.va / 2 ^ 16 else b.va / 2 ^ 28 == a.va / 2 ^ 28))))

/-- R184: each lane goes on to its home with its address. -/
def State.sendLanes (s : State) : List Access → List Nat → State
  | a :: l, pa :: pas => (s.setAcc { a with st := .ready pa, left := flitHome (etileOf a.region) pa }).sendLanes l pas
  | _, _ => s

/-- POSTED_TRANSLATE (R184): a posted operation is translated whole at the point of its region, or parked whole. An operation
held behind a parked one of its element and page waits; one with no destination has left its tile and frees its entry. -/
def execPostedTranslate (acc : Nat) (s : State) : Out :=
  match s.acc? acc with
  | none => .next s
  | some a =>
    if a.st ≠ .point ∨ !a.posted ∨ s.queued a then .next s
    else
      let s1 := s.leftTile a.src
      let mine := s.accs.filter (fun b => b.src == a.src && b.st == .point)
      if mine.any s.pointHeld then .next s1
      else
        match s1.translateAll mine with
        | (.hit l, s2) => .next (s2.sendLanes mine l)
        | (.miss, s2) => .next s2
        | (.bad b code, s2) => .next (s2.park b code)

/-! FENCE (R191). -/

/-- R191, R208: the operations that an element issued earlier and that have not performed at a scope. -/
def State.owing (s : State) (el : Nat) (scope : BitVec 2) : List Nat :=
  (s.accs.filter (fun a => samePort a.src (.elem el 0) && !a.performed scope)).map (fun a => a.id)

/-- Every access of the list has performed at the scope, or is gone. -/
def State.settled (s : State) (waits : List Nat) (scope : BitVec 2) : Bool :=
  s.accs.all (fun a => !waits.contains a.id || a.performed scope)

/-- FENCE (R191): its token waits for what its element issued before; an operation discarded before is covered too. -/
def execFence (d : BitVec 5) (s : BitVec 2) (st : State) : Out :=
  match st.cur with
  | .rule el rule =>
    let e := st.elem el
    let l := deliver d Tag.data 0
    if e.portRoom rule l then .next (st.setElem el (e.issuePort rule { d := d } l (.fence s (st.owing el s) e.dropped) true))
    else .next st
  | _ => .next st

/-- FENCE_COMPLETE (R191): the token goes, with ABORT when an operation it covered was discarded. -/
def execFenceComplete (el id : Nat) (s : State) : Out :=
  match (s.elem el).pend? id with
  | some p =>
    match p.job with
    | .fence scope waits dropped =>
      if s.settled waits scope then .next (s.setElem el ((s.elem el).finish id none dropped)) else .next s
    | _ => .next s
  | none => .next s

end Sys2Proof.Machine
end

