-- ==== Sys2Proof/Machine/Press.lean ====
section
/-! DEFINITION. The Rennet step, sum tables and the Press (spec/09 R212 to R226; spec/10 R228 to R252). -/

namespace Sys2Proof.Machine

/-! The Rennet step (R234 to R236). -/

/-- R234: the fields of SG. -/
def sgPos (g : BitVec 64) : Nat := g.toNat / 2 ^ 48
def sgStart (g : BitVec 64) : Nat := g.toNat / 2 ^ 32 % 2 ^ 16
def sgMin (g : BitVec 64) : Int := (BitVec.ofNat 8 (g.toNat / 2 ^ 24)).toInt
def sgMax (g : BitVec 64) : Int := (BitVec.ofNat 8 (g.toNat / 2 ^ 16)).toInt
def sgRun (g : BitVec 64) : Bool := g.getLsbD 0

/-- R234: SG with a run pending. -/
def sgMk (pos start : Nat) (lo hi : Int) : BitVec 64 :=
  BitVec.ofNat 64 (pos % 2 ^ 16 * 2 ^ 48 + start % 2 ^ 16 * 2 ^ 32 + (BitVec.ofInt 8 lo).toNat * 2 ^ 24
    + (BitVec.ofInt 8 hi).toNat * 2 ^ 16 + 1)

/-- R213, R234: the segment token of the pending run. -/
def segOf (g : BitVec 64) : Word :=
  Word.ofNat ((BitVec.ofInt 8 ((sgMin g + sgMax g + 1) / 2)).toNat * 2 ^ 24 + sgStart g * 2 ^ 8
    + ((sgPos g + 2 ^ 16 - sgStart g) % 2 ^ 16 + 2 ^ 16 - 1) % 2 ^ 16 % 64)

/-- R235: one step: the new SG and the segment emitted. -/
def rennet (g : BitVec 64) (x : Int) (tau : Nat) : BitVec 64 × Option Word :=
  let lo := min (sgMin g) x
  let hi := max (sgMax g) x
  if sgRun g then
    if hi - lo ≤ 2 * tau ∧ sgPos g % 64 ≠ 0 then (sgMk (sgPos g + 1) (sgStart g) lo hi, none)
    else (sgMk (sgPos g + 1) (sgPos g) x x, some (segOf g))
  else (sgMk (sgPos g + 1) (sgPos g) x x, none)

/-- SEGSTEP (R235). -/
def execSegstep (d a : BitVec 5) (k : BitVec 3) (t : BitVec 1) (s : State) : Out :=
  match s.cur with
  | .rule el rule =>
    let e := s.elem el
    if (e.ports.outAt (d.toNat + 24)).room < 1 then .next s
    else
      .next (s.genElem el rule { d := d, a := some a } (fun x =>
        if !isData x.a then .abort cCfgField
        else
          match rennet x.sg (fld x.a.data 0 8 : BitVec 8).toInt (x.c[k.toNat]).toNat with
          | (g, none) => .done [.sg g] false {}
          | (g, some w) => .done [.sg g, .out (BitVec.ofNat 3 (d.toNat + 24)) [⟨w, t.setWidth 4⟩]] false {}))
  | _ => .next s

/-- SEGEND (R236): flushes the pending run; the take form forwards the stop behind it; FP updates p(K). -/
def execSegend (d a : BitVec 5) (k : BitVec 3) (f : BitVec 2) (t : BitVec 1) (s : State) : Out :=
  match s.cur with
  | .rule el rule =>
    let e := s.elem el
    let take := decide (a.toNat < 16)
    let o : BitVec 3 := BitVec.ofNat 3 (d.toNat + 24)
    if (e.ports.outAt o.toNat).room < (if take then 2 else 1) then .next s
    else
      .next (s.genElem el rule { d := d, a := some a } (fun x =>
        if !isStop x.a then .abort cCfgField
        else
          let toks := (if sgRun x.sg then [(⟨segOf x.sg, t.setWidth 4⟩ : Token)] else []) ++ (if take then [x.a] else [])
          .done ([.sg 2] ++ (if toks.isEmpty then [] else [.out o toks]) ++ update k (if f = 3 then 0 else f) false) false {}))
  | _ => .next s

/-! Hoop entries and headers (R215, R216, R237). -/

abbrev cSumRange : Byte := 0x50
abbrev cSumIndex : Byte := 0x51

/-- The header of a slot. -/
def Hoop.hdr (h : Hoop) (k : Nat) : HoopSlot := h.slots[k % 4]'(Nat.mod_lt _ (by decide))
/-- Replace a header. -/
def Hoop.setHdr (h : Hoop) (k : Nat) (x : HoopSlot) : Hoop := { h with slots := h.slots.set (k % 4) x (Nat.mod_lt _ (by decide)) }
/-- Entry `e` of a slot and column. -/
def Hoop.entry (h : Hoop) (slot col e : Nat) : Int := (Table.getD h.entries ((slot * 512 + col) * 64 + e) 0).toInt
/-- Write an entry; a zero is not listed. -/
def Hoop.setEntry (h : Hoop) (slot col e : Nat) (v : Int) : Hoop :=
  let b := BitVec.ofInt 24 v
  { h with entries := if b = 0 then Table.erase h.entries ((slot * 512 + col) * 64 + e)
                      else Table.put h.entries ((slot * 512 + col) * 64 + e) b }
/-- R212: S(j), with S(0) = 0. -/
def Hoop.sum (h : Hoop) (slot col j : Nat) : Int := if j = 0 then 0 else h.entry slot col (j - 1)
/-- The band scale of a slot and column. -/
def Hoop.scale (h : Hoop) (slot col : Nat) : Nat := (Table.getD h.scales (slot * 512 + col) 0x3F80).toNat
/-- Write a band scale; 1.0 is not listed. -/
def Hoop.setScale (h : Hoop) (slot col : Nat) (v : BitVec 16) : Hoop :=
  { h with scales := if v = 0x3F80 then Table.erase h.scales (slot * 512 + col) else Table.put h.scales (slot * 512 + col) v }
/-- All entries of a slot become 0. -/
def Hoop.zero (h : Hoop) (slot : Nat) : Hoop :=
  { h with entries := h.entries.filter (fun x => x.1 / 32768 != slot) }
/-- All band scales of a slot become 1.0. -/
def Hoop.unit (h : Hoop) (slot : Nat) : Hoop := { h with scales := h.scales.filter (fun x => x.1 / 512 != slot) }

/-- An i24. -/
def isI24 (v : Int) : Bool := decide (-2 ^ 23 ≤ v ∧ v < 2 ^ 23)

/-- R230: the header of the selected table, unless the slot holds no table that starts there. -/
def Press.selected (p : Press) : Option HoopSlot :=
  let h := p.hoop.hdr p.tsel.toNat
  if h.kind = 3 ∨ h.first ≠ p.tsel then none else some h

/-- R216, R237: the slot and entry of contraction row `k` in the selected table; none outside it. -/
def Press.slotAt (p : Press) (k : Nat) : Option (Nat × Nat) :=
  match p.selected with
  | none => none
  | some h =>
    if k < h.korg.toNat ∨ h.korg.toNat + 64 * (h.nbm1.toNat + 1) ≤ k then none
    else some (h.first.toNat + (k - h.korg.toNat) / 64, (k - h.korg.toNat) % 64)

/-- R237: the slot, entry and column that an address word names. -/
def Press.entryAt (p : Press) (b : Word) : Option (Nat × Nat × Nat) :=
  if fldN b 9 7 ≠ 0 then none else (p.slotAt (fldN b 16 16)).map (fun x => (x.1, x.2, fldN b 0 9))

/-- R230: a slot that no Hoop copy is reaching. -/
def Press.band (p : Press) (k : Nat) : Option (Nat × Nat) := (p.slotAt k).filter (fun x => (p.hoop.hdr x.1).cif == 0)

/-- R230, R237: an address word that a command may use. -/
def Press.addr (p : Press) (b : Word) : Option (Nat × Nat × Nat) := (p.entryAt b).filter (fun x => (p.hoop.hdr x.1).cif == 0)

/-- R245: a band that a segment reads is sealed. -/
def Press.sealedBand (p : Press) (k : Nat) : Option (Nat × Nat) :=
  match p.band k with
  | some (slot, e) => if (p.hoop.hdr slot).sealed then some (slot, e) else none
  | none => none

/-! Accumulators (R47 to R50). -/

/-- The nearest integer to `m × 2 ^ e`, ties to even. -/
def rneInt (m e : Int) : Int :=
  let q : Int := (onGrid true m.natAbs e 0).1
  if m < 0 then -q else q

/-- The exact value of a finite float code; a NaN or an infinity gives none. -/
def FV.dy : FV → Option Dy
  | .fin neg m e => some { m := if neg then -(m : Int) else m, e := e }
  | _ => none

/-- The product of two exact values. -/
def Dy.mul (a b : Dy) : Dy := { m := a.m * b.m, e := a.e + b.e }

/-- R222: an accumulator word. -/
def Press.word (p : Press) (row col : Nat) : BitVec 80 := Table.getD p.acc (row * 512 + col) 0

/-- R48: add a contribution to a word. -/
def Press.contrib (p : Press) (row col : Nat) (c : Dy) : Press :=
  let q := rneInt c.m (c.e + (p.point[row % 16]'(Nat.mod_lt _ (by decide))).toNat)
  let a := p.word row col + BitVec.ofInt 80 q
  { p with
    acc := if a = 0 then Table.erase p.acc (row * 512 + col) else Table.put p.acc (row * 512 + col) a
    hr := if 2 ^ 78 ≤ q.natAbs then p.hr ||| ((1 : BitVec 16) <<< (row % 16)) else p.hr }

/-- R212: the contribution of `v` times a difference of sums, in a band's scale. -/
def Press.segTerm (p : Press) (slot col : Nat) (v ds : Int) : Dy :=
  match (bf16.value (p.hoop.scale slot col)).dy with
  | some sc => { m := v * ds * sc.m, e := sc.e + (if (p.hoop.hdr slot).kind = 2 then -8 else 0) }
  | none => { m := 0, e := 0 }

/-- R245: one segment of `v` over entries e0 to e1 of a band, into every enabled column. -/
def Press.segment (p : Press) (row slot : Nat) (v : Int) (e0 e1 : Nat) : Press :=
  (List.range 512).foldl (fun p n =>
    let ds := p.hoop.sum slot n e1 - p.hoop.sum slot n e0
    if p.mask.getLsbD n ∧ ds ≠ 0 then p.contrib row n (p.segTerm slot n v ds) else p) p

/-- R226: add to word `k` of the segment set. -/
def Press.segCount (p : Press) (k n : Nat) : Press :=
  { p with seg := p.seg.set (k % 4) (satAdd (p.seg[k % 4]'(Nat.mod_lt _ (by decide))) n) (Nat.mod_lt _ (by decide)) }

/-- R50: convert an accumulator word; format 0 FP32, 1 BF16, 2 i32. -/
def readout (a : BitVec 80) (point : Nat) (scale : Nat) (fmt : BitVec 2) : Nat × Inc :=
  match fp32.value scale with
  | .fin neg m e =>
    let v : Int := a.toInt * m
    let v := if neg then -v else v
    if v = 0 then (0, {})
    else if fmt = 2 then
      let n := rneInt v (e - point)
      if 2 ^ 31 ≤ n then (0x7FFFFFFF, { sat := 1 })
      else if n < -2 ^ 31 then (0x80000000, { sat := 1 })
      else ((BitVec.ofInt 32 n).toNat, { flush := if n = 0 then 1 else 0 })
    else
      let r := (if fmt = 1 then bf16 else fp32).round false true (decide (v < 0)) v.natAbs (e - point)
      (r.code, r.inc)
  | _ => (if fmt = 2 then 0 else if fmt = 1 then bf16.nan else fp32.nan, { nan := 1 })

/-! Outer-product vectors (R247). -/

/-- R37, R117: lanes in a word of a format, and their width. -/
def lanesOf (fmt : BitVec 3) : Nat := if fmt.toNat < 2 then 2 else if fmt.toNat < 5 then 4 else 8

/-- R247: the exact value of lane `i` of a word; none for a NaN or an infinity. -/
def laneValue (fmt : BitVec 3) (scale : Byte) (w : Word) (i : Nat) : Option Dy :=
  let n := 32 / lanesOf fmt
  let c := fldN w (n * i) n
  match fmt.toNat with
  | 0 => (bf16.value c).dy
  | 1 => (fp16.value c).dy
  | 2 => (e4m3.value c).dy
  | 3 => (e5m2.value c).dy
  | 4 => some { m := (BitVec.ofNat 8 c).toInt, e := 0 }
  | _ =>
    let k := e3m5 scale.toNat
    (e2m1.value c).dy.map (fun x => x.mul { m := k.1, e := k.2 })

/-- R247: write lanes of a vector from a word; a non-finite lane stores 0 and is reported. -/
def PVec.load (v : PVec) (w : Word) (lane n : Nat) : PVec × Bool :=
  (List.range n).foldl (fun acc i =>
    match laneValue v.fmt v.scale w i with
    | some x => ({ acc.1 with lanes := if x.m = 0 then Table.erase acc.1.lanes (lane + i) else Table.put acc.1.lanes (lane + i) x }, acc.2)
    | none => ({ acc.1 with lanes := Table.erase acc.1.lanes (lane + i) }, true)) (v, false)

/-- Replace VA or VB. -/
def Press.setVec (p : Press) (second : Bool) (v : PVec) (nf : Bool) : Press :=
  if second then { p with vb := v, nf := p.nf || nf } else { p with va := v, nf := p.nf || nf }

/-! Verdicts and performance (R228, R238 to R251). -/

/-- R238: the slots of tables that share a slot with first .. first + nbm1. -/
def Hoop.sharing (h : Hoop) (first nbm1 : Nat) : List Nat :=
  (List.range 4).filter (fun k =>
    let x := h.hdr k
    x.kind != 3 && decide (x.first.toNat ≤ first + nbm1 ∧ first ≤ x.first.toNat + x.nbm1.toNat))

/-- The slots from `first` on. -/
def slotRange (first nbm1 : Nat) : List Nat := (List.range (nbm1 + 1)).map (fun k => first + k)

/-- R228: the code a command aborts with, against the state that the commands accepted earlier leave. -/
def Press.verdict (p : Press) : PCmd → Option Byte
  | .sumnew a _ =>
    let korg := fldN a 16 16
    let nbm1 := fldN a 2 2
    let first := fldN a 0 2
    if fldN a 4 12 ≠ 0 ∨ korg % 64 ≠ 0 ∨ 65536 < korg + 64 * (nbm1 + 1) ∨ 3 < first + nbm1 then some cSumIndex
    else if (slotRange first nbm1 ++ p.hoop.sharing first nbm1).any (fun k => (p.hoop.hdr k).cif != 0) then some cSumIndex
    else none
  | .sumapp a b =>
    match p.addr b with
    | none => some cSumIndex
    | some (slot, e, col) =>
      if (p.hoop.hdr slot).sealed then some cSumIndex
      else if isI24 (p.hoop.sum slot col e + a.toInt) then none else some cSumRange
  | .sumbsc a b band =>
    match p.selected with
    | none => some cSumIndex
    | some h =>
      if h.nbm1.toNat < band.toNat ∨ fldN b 9 22 ≠ 0 ∨ (p.hoop.hdr (h.first.toNat + band.toNat)).cif ≠ 0 then some cSumIndex
      else if (bf16.value (fldN a 0 16)).dy.isNone then some cSumRange else none
  | .sumpatch a b =>
    match p.addr b with
    | none => some cSumIndex
    | some (slot, e, col) =>
      if (List.range (64 - e)).all (fun j => isI24 (p.hoop.entry slot col (e + j) + a.toInt)) then none else some cSumRange
  | .sumrd b => if (p.addr b).isNone then some cSumIndex else none
  | .sumseal =>
    match p.selected with
    | none => some cSumIndex
    | some h => if (slotRange h.first.toNat h.nbm1.toNat).any (fun k => (p.hoop.hdr k).cif != 0) then some cSumIndex else none
  | .ptbl a =>
    if 3 < a.toNat ∨ (p.hoop.hdr a.toNat).kind = 3 ∨ (p.hoop.hdr a.toNat).first.toNat ≠ a.toNat then some cSumIndex else none
  | .pmask _ b => if fldN b 4 27 ≠ 0 then some cSumIndex else none
  | .ppoint a _ => if 95 < a.toNat then some cSumRange else none
  | .pclr _ _ => none
  | .pseg a _ =>
    if fldN a 6 2 ≠ 0 ∨ 64 < fldN a 8 6 + fldN a 0 6 + 1 then some cSumIndex
    else if (p.sealedBand (fldN a 8 16)).isNone then some cSumIndex else none
  | .pdense _ b _ =>
    if b.toNat % 4 ≠ 0 ∨ 65532 < b.toNat then some cSumIndex
    else if (p.sealedBand b.toNat).isNone then some cSumIndex else none
  | .pvld second _ b fmt =>
    if fldN b 20 4 ≠ 0 ∨ fldN b 5 11 ≠ 0 ∨ (fldN b 24 8 ≠ 0 ∧ fmt ≠ 5) ∨ 5 < fmt.toNat then some cSumIndex
    else if lanesOf fmt ≤ fldN b 16 4 ∨ (if second then 32 else 16) ≤ fldN b 0 5 + fldN b 16 4 then some cSumIndex else none
  | .pouter _ _ _ => none
  | .pread _ b _ _ =>
    if fldN b 31 1 ≠ 0 ∨ fldN b 25 3 ≠ 0 ∨ fldN b 9 7 ≠ 0 ∨ 4 < fldN b 28 3 ∨ 511 < fldN b 0 9 + fldN b 16 9 then some cSumIndex
    else none
  | .pstat _ => none
  | .psync _ => none

/-! Hoop groups (R418 to R421). -/

/-- R215, R419: the groups of `n` entries from entry number `i` on, of 3 bytes each, and the group of a band scale, by their first
bytes in the Hoop (notes/assumptions/27). -/
def entryGroups (i n : Nat) : List Nat := (List.range ((3 * (i + n) - 1) / 16 - 3 * i / 16 + 1)).map (fun k => (3 * i / 16 + k) * 16)
def scaleGroup (slot col : Nat) : Nat := (393216 + 2 * (slot * 512 + col)) / 16 * 16

/-- The number of an entry. -/
def entryNo (slot col e : Nat) : Nat := (slot * 512 + col) * 64 + e

/-- R421: a slot's groups, those of its entries and those of its scales. -/
def slotHas (slot k : Nat) : Bool := decide (k / 98304 = slot)
def slotScales (slot k : Nat) : Bool := decide (393216 ≤ k ∧ (k - 393216) / 1024 = slot)

/-- R245, R246: what a segment over entries e0 to e1 of a band reads in every enabled column: two sums and the scale. -/
def Press.segReads (p : Press) (slot e0 e1 : Nat) : List Nat :=
  ((List.range 512).filter (fun n => p.mask.getLsbD n)).flatMap (fun n =>
    scaleGroup slot n :: ((if e0 = 0 then [] else entryGroups (entryNo slot n (e0 - 1)) 1) ++ entryGroups (entryNo slot n (e1 - 1)) 1))

/-- R419, R421: the Hoop groups that a command reads, those that it writes in part among them. -/
def Press.reads (p : Press) : PCmd → List Nat
  | .sumapp _ b =>
    match p.entryAt b with
    | some (slot, e, col) => entryGroups (entryNo slot col (e - 1)) (if e = 0 then 1 else 2)
    | none => []
  | .sumbsc _ b band =>
    match p.selected with
    | some h => if fldN b 31 1 = 1 then [] else [scaleGroup (h.first.toNat + band.toNat) (fldN b 0 9)]
    | none => []
  | .sumpatch _ b =>
    match p.entryAt b with
    | some (slot, e, col) => entryGroups (entryNo slot col e) (64 - e)
    | none => []
  | .sumrd b =>
    match p.entryAt b with
    | some (slot, e, col) => entryGroups (entryNo slot col e) 1
    | none => []
  | .pseg a _ =>
    match p.slotAt (fldN a 8 16) with
    | some (slot, e0) => p.segReads slot e0 (e0 + fldN a 0 6 + 1)
    | none => []
  | .pdense _ b _ =>
    match p.slotAt b.toNat with
    | some (slot, e) => (List.range 4).flatMap (fun j => p.segReads slot (e + j) (e + j + 1))
    | none => []
  | _ => []

/-- R421: a command writes the whole of a group. -/
def Press.fills (p : Press) (k : Nat) : PCmd → Bool
  | .sumnew a _ =>
    (slotRange (fldN a 0 2) (fldN a 2 2)).any (fun j => slotHas j k || slotScales j k)
      || (p.hoop.sharing (fldN a 0 2) (fldN a 2 2)).any (fun j => slotHas j k)
  | .sumbsc _ b band =>
    match p.selected with
    | some h => fldN b 31 1 == 1 && slotScales (h.first.toNat + band.toNat) k
    | none => false
  | _ => false

/-- A command that writes the Hoop groups that it reads. -/
def PCmd.rewrites : PCmd → Bool
  | .sumapp _ _ => true
  | .sumbsc _ _ _ => true
  | .sumpatch _ _ => true
  | _ => false

/-- R419, R421: groups of a Hoop are read, and those that `fresh` names hold fresh codewords afterwards. -/
def State.hoopTouch (s : State) (tile : Nat) (reads : List Nat) (fresh : Nat → Bool) : State :=
  if s.flaws.isEmpty ∧ s.poison.isEmpty then s
  else
    let s1 := s.noteRead (reads.map (hoopGroup tile))
    let mine := fun (g : Nat) => decide (hoopGroup tile 0 ≤ g ∧ g < hoopGroup tile 397312) && fresh (g - hoopGroup tile 0)
    { s1 with poison := s1.poison.filter (fun g => !mine g), flaws := s1.flaws.filter (fun f => !mine f.group) }

/-- R421: one of the groups has a mark of poison. -/
def State.hoopBad (s : State) (tile : Nat) (reads : List Nat) : Bool :=
  !s.poison.isEmpty && reads.any (fun k => s.poison.contains (hoopGroup tile k))

/-- R421: the task that owns the Hoop has read a group that cannot be corrected: it ends, and the device fault log names the tile. -/
def State.hoopFail (s : State) (tile : Nat) : State :=
  let reg := regionOfTile tile
  let task := s.taskOfRegion reg
  (s.endTask task .faulted cEcc).dflLog
    (dflRec 1 cEcc reg tile (Config.badBank tile s.dfl.hold.length % 18) 0 0 (some (s.ctxOfTask task)) (s.cycleOf reg))

/-- R249: how many tokens a PREAD puts into the result buffer. -/
def preadToks (b : Word) : Nat := fldN b 16 9 + 1 + (if fldN b 28 3 = 0 then 0 else 1)

/-- R249: the columns a PREAD converts. -/
def Press.readRun (p : Press) (row : Nat) (scale : Word) (fmt : BitVec 2) : Nat → Nat → List PTok × Inc
  | _, 0 => ([], {})
  | col, n + 1 =>
    match readout (p.word row col) (p.point[row % 16]'(Nat.mod_lt _ (by decide))).toNat scale.toNat fmt,
        p.readRun row scale fmt (col + 1) n with
    | (v, inc), (rest, inc') => ({ tok := ⟨Word.ofNat v, if n = 0 then Tag.last else Tag.data⟩, left := 1 } :: rest, inc.plus inc')

/-- R223, R228, R231: what an accepted command does when it performs: the Press after it, and the word it delivers. Its verdict
stands, so a Hoop copy that has issued since changes nothing of it; the copies' counts (R230) go on. -/
def Press.apply (p : Press) : PCmd → Press × Option Word
  | .sumnew a kind =>
    let korg := fldN a 16 16
    let nbm1 := fldN a 2 2
    let first := fldN a 0 2
    let h1 := (p.hoop.sharing first nbm1).foldl (fun h k => (h.zero k).setHdr k { cif := (h.hdr k).cif }) p.hoop
    let h2 := (slotRange first nbm1).foldl (fun h k =>
      ((h.zero k).unit k).setHdr k
        { kind := BitVec.ofNat 2 kind.toNat, first := BitVec.ofNat 2 first, nbm1 := BitVec.ofNat 2 nbm1, korg := BitVec.ofNat 16 korg
          cif := (h.hdr k).cif }) h1
    ({ p with hoop := h2, tsel := BitVec.ofNat 2 first }, none)
  | .sumapp a b =>
    match p.entryAt b with
    | some (slot, e, col) => ({ p with hoop := p.hoop.setEntry slot col e (p.hoop.sum slot col e + a.toInt) }, none)
    | none => (p, none)
  | .sumbsc a b band =>
    match p.selected with
    | some h =>
      let slot := h.first.toNat + band.toNat
      let cols := if fldN b 31 1 = 1 then List.range 512 else [fldN b 0 9]
      ({ p with hoop := cols.foldl (fun x n => x.setScale slot n (fld a 0 16)) p.hoop }, none)
    | none => (p, none)
  | .sumpatch a b =>
    match p.entryAt b with
    | some (slot, e, col) =>
      ({ p with hoop := (List.range (64 - e)).foldl (fun h j => h.setEntry slot col (e + j) (h.entry slot col (e + j) + a.toInt)) p.hoop }, none)
    | none => (p, none)
  | .sumrd b =>
    match p.entryAt b with
    | some (slot, e, col) => (p, some (Word.ofInt (p.hoop.entry slot col e)))
    | none => (p, some 0)
  | .sumseal =>
    match p.selected with
    | some h =>
      ({ p with hoop := (slotRange h.first.toNat h.nbm1.toNat).foldl (fun x k => x.setHdr k { x.hdr k with sealed := (x.hdr k).cif == 0 }) p.hoop }, none)
    | none => (p, none)
  | .ptbl a => ({ p with tsel := fld a 0 2 }, none)
  | .pmask a b =>
    let m : BitVec 512 := BitVec.ofNat 512 a.toNat
    let words := if fldN b 31 1 = 1 then List.range 16 else [fldN b 0 4]
    ({ p with mask := words.foldl (fun x w =>
        (x &&& ~~~ (BitVec.ofNat 512 (2 ^ 32 - 1) <<< (32 * w))) ||| (m <<< (32 * w))) p.mask }, none)
  | .ppoint a row => ({ p with point := p.point.set row.toNat (fld a 0 7) row.isLt }, none)
  | .pclr row all =>
    if all then ({ p with acc := [], hr := 0, nf := false }, none)
    else
      ({ p with acc := p.acc.filter (fun x => x.1 / 512 != row.toNat)
                hr := p.hr &&& ~~~ ((1 : BitVec 16) <<< row.toNat) }, none)
  | .pseg a row =>
    match p.slotAt (fldN a 8 16) with
    | some (slot, e0) =>
      let n := fldN a 0 6 + 1
      let q := p.segment row.toNat slot (fld a 24 8 : BitVec 8).toInt e0 (e0 + n)
      (((q.segCount 0 1).segCount 1 n).segCount 2 (if n = 1 then 1 else 0), none)
    | none => (p, none)
  | .pdense a b row =>
    match p.slotAt b.toNat with
    | some (slot, e) =>
      let q := (List.range 4).foldl (fun q j => q.segment row.toNat slot (fld a (8 * j) 8 : BitVec 8).toInt (e + j) (e + j + 1)) p
      (q.segCount 1 4, none)
    | none => (p, none)
  | .pvld second a b fmt =>
    let old := if second then p.vb else p.va
    match PVec.load { old with fmt := fmt, scale := if fmt = 5 then fld b 24 8 else old.scale } a (fldN b 0 5) (fldN b 16 4 + 1) with
    | (v, nf) => (p.setVec second v nf, none)
  | .pouter a b g =>
    let q := (List.range 16).foldl (fun q row =>
      if a.getLsbD row then
        (List.range 32).foldl (fun q j =>
          if b.getLsbD j then
            match Table.get? q.va.lanes row, Table.get? q.vb.lanes j with
            | some x, some y => q.contrib row (32 * g.toNat + j) (x.mul y)
            | _, _ => q
          else q) q
      else q) p
    (q.segCount 3 1, none)
  | .pread a b row fmt =>
    match p.readRun row.toNat a fmt (fldN b 0 9) (fldN b 16 9 + 1) with
    | (toks, inc) =>
      let stop := if fldN b 28 3 = 0 then [] else [({ tok := ⟨0, BitVec.ofNat 4 (fldN b 28 3 + 1)⟩, left := 1 } : PTok)]
      ({ p with result := p.result ++ toks ++ stop, conv := p.conv.add inc }, none)
  | .pstat a =>
    let row := fldN a 0 4
    (p, some (Word.ofNat ((p.hr.getLsbD row).toNat * 2 ^ 31 + p.nf.toNat * 2 ^ 30 + p.tsel.toNat * 2 ^ 28
      + p.va.fmt.toNat * 2 ^ 25 + p.vb.fmt.toNat * 2 ^ 22 + (p.point[row % 16]'(Nat.mod_lt _ (by decide))).toNat)))
  | .psync _ => (p, none)

/-- R228: the state that every command accepted earlier will leave. -/
def Press.future (p : Press) : Press := p.queue.foldl (fun q x => (q.apply x.cmd).1) p

/-- R249: tokens of PREADs, in the result buffer or still to be performed. -/
def Press.owedToks (p : Press) : Nat :=
  p.queue.foldl (fun n x => match x.cmd with
    | .pread _ b _ _ => n + preadToks b
    | _ => n) p.result.length

/-- R249: the result buffer has room for the tokens of a PREAD. -/
def Press.readRoom (p : Press) : PCmd → Bool
  | .pread _ b _ _ => decide (p.owedToks + preadToks b ≤ 528)
  | _ => true

/-- R228, R246: rounds from issue to the commit of the effects. -/
def PCmd.lat : PCmd → Nat
  | .pdense _ _ _ => 11
  | _ => 8

/-- R228: what the element still waits for. -/
def pressJob (p : Press) : PCmd → Job
  | .psync _ => .psync false p.owedToks
  | _ => .press

/-- R223: the Press takes a command of element `k` of its tile; after a PDENSE no grant is given for 3 rounds (R246). -/
def Press.accept (p : Press) (x : PEntry) (k : Nat) : Press :=
  { p with
    queue := p.queue ++ [x]
    rr := k
    held := match x.cmd with | .pdense _ _ _ => 4 | _ => p.held }

/-- R223, R228: a Press command of an element's rule. It is accepted or aborts in the round it fires; a command that
delivers nothing leaves nothing pending in its element. One that aborts has no effect, on the round-robin start neither
(notes/assumptions/76). -/
def State.pressElem (s : State) (el rule : Nat) (d : BitVec 5) (tag : Tag) (a b : Option (BitVec 5)) (mk : In → Except Byte PCmd) : State :=
  let e := s.elem el
  let q : Req := { d := d, a := a, b := b }
  match e.input q with
  | none => s
  | some x =>
    match mk x with
    | .error code => s.abortWith el rule code x
    | .ok c =>
      let t := tileOfElem el
      let p := s.press t
      let l := deliver d tag (match c with | .psync v => v | _ => 0)
      if !(e.roomFor (l ++ e.everyCo rule)) ∨ !p.readRoom c then s
      else
        match p.future.verdict c with
        | some code => s.abortWith el rule code x
        | none =>
          let e' := if l.isEmpty then { (e.fireTakes rule (takes a b)).puts (e.everyCo rule) with nextId := e.nextId + 1 }
            else e.issuePort rule q l (pressJob p c) false
          (s.setElem el e').setPress t
            (p.accept { cmd := c, el := el, pend := e.nextId, left := c.lat - 1 } (el % 16))

/-- A Press command, whose operands give the command. -/
def State.pressForm (s : State) (d : BitVec 5) (tag : Tag) (a b : Option (BitVec 5)) (mk : In → Except Byte PCmd) : Out :=
  match s.cur with
  | .rule el rule => .next (s.pressElem el rule d tag a b mk)
  | _ => .next s

/-- SUMNEW (R238). -/
def execSumnew (a : BitVec 5) (k : BitVec 3) (s : State) : Out :=
  s.pressForm 24 0 (some a) none (fun x => .ok (.sumnew x.a.data k))
/-- SUMAPP (R239). -/
def execSumapp (a b : BitVec 5) (s : State) : Out :=
  s.pressForm 24 0 (some a) (some b) (fun x => .ok (.sumapp x.a.data x.b.data))
/-- SUMBSC (R240). -/
def execSumbsc (a b : BitVec 5) (n : BitVec 2) (s : State) : Out :=
  s.pressForm 24 0 (some a) (some b) (fun x => .ok (.sumbsc x.a.data x.b.data (n.setWidth 3)))
/-- SUMPATCH (R241). -/
def execSumpatch (a b : BitVec 5) (s : State) : Out :=
  s.pressForm 24 0 (some a) (some b) (fun x => .ok (.sumpatch x.a.data x.b.data))
/-- SUMRD (R242). -/
def execSumrd (d b : BitVec 5) (t : BitVec 4) (s : State) : Out :=
  s.pressForm d t none (some b) (fun x => .ok (.sumrd x.b.data))
/-- SUMSEAL (R243). -/
def execSumseal (s : State) : Out := s.pressForm 24 0 none none (fun _ => .ok .sumseal)
/-- PTBL (R244). -/
def execPtbl (a : BitVec 5) (s : State) : Out := s.pressForm 24 0 (some a) none (fun x => .ok (.ptbl x.a.data))
/-- PMASK (R244). -/
def execPmask (a b : BitVec 5) (s : State) : Out :=
  s.pressForm 24 0 (some a) (some b) (fun x => .ok (.pmask x.a.data x.b.data))
/-- PPOINT (R244). -/
def execPpoint (a : BitVec 5) (r : BitVec 4) (s : State) : Out :=
  s.pressForm 24 0 (some a) none (fun x => .ok (.ppoint x.a.data r))
/-- PCLR (R244). -/
def execPclr (r : BitVec 4) (l : BitVec 1) (s : State) : Out := s.pressForm 24 0 none none (fun _ => .ok (.pclr r (l == 1)))
/-- PSEG (R245): a channel operand must be DATA or LAST. -/
def execPseg (a : BitVec 5) (r : BitVec 4) (s : State) : Out :=
  s.pressForm 24 0 (some a) none (fun x => if isData x.a then .ok (.pseg x.a.data r) else .error cSumIndex)
/-- PDENSE (R246). -/
def execPdense (a b : BitVec 5) (r : BitVec 4) (s : State) : Out :=
  s.pressForm 24 0 (some a) (some b) (fun x => .ok (.pdense x.a.data x.b.data r))
/-- PVLDA (R247). -/
def execPvlda (a b : BitVec 5) (f : BitVec 3) (s : State) : Out :=
  s.pressForm 24 0 (some a) (some b) (fun x => .ok (.pvld false x.a.data x.b.data f))
/-- PVLDB (R247). -/
def execPvldb (a b : BitVec 5) (f : BitVec 3) (s : State) : Out :=
  s.pressForm 24 0 (some a) (some b) (fun x => .ok (.pvld true x.a.data x.b.data f))
/-- POUTER (R248). -/
def execPouter (a b : BitVec 5) (g : BitVec 4) (s : State) : Out :=
  s.pressForm 24 0 (some a) (some b) (fun x => .ok (.pouter x.a.data x.b.data g))
/-- PREAD (R249). -/
def execPread (a b : BitVec 5) (r : BitVec 4) (f : BitVec 2) (s : State) : Out :=
  s.pressForm 24 0 (some a) (some b) (fun x => .ok (.pread x.a.data x.b.data r f))
/-- PSTAT (R250). -/
def execPstat (d a : BitVec 5) (s : State) : Out :=
  s.pressForm d Tag.data (some a) none (fun x => .ok (.pstat x.a.data))
/-- PSYNC (R251). -/
def execPsync (d a : BitVec 5) (s : State) : Out :=
  s.pressForm d Tag.data (some a) none (fun x => .ok (.psync x.a.data))

/-! Events of the Press. -/

/-- R251: PSYNC sends its token once it has performed and no token before it is left. -/
def Elem.syncDone (e : Elem) (id : Nat) : Elem :=
  match e.pend? id with
  | some p => if p.job = .psync true 0 then e.finish id none false else e
  | none => e

/-- R231: a copy of the tile has one command less ahead of it. -/
def CopyEng.passed (c : CopyEng) : CopyEng := { c with flights := c.flights.map (fun f => { f with ahead := f.ahead - 1 }) }

/-- The oldest accepted command leaves the queue, and the Press stands as `q`. -/
def State.popCommand (s : State) (tile : Nat) (q : Press) (rest : List PEntry) : State :=
  (s.setPress tile { q with queue := rest }).setCopy tile (s.copyEng tile).passed

/-- PRESS_COMMAND_PERFORM (R223): the oldest accepted command performs; one that reads a Hoop group beyond correction does nothing,
and its task ends (R421). -/
def execPressCommandPerform (tile : Nat) (s : State) : Out :=
  let p := s.press tile
  match p.queue with
  | [] => .next s
  | x :: rest =>
    if x.left ≠ 0 then .next s
    else if s.hoopBad tile (p.reads x.cmd) then .next ((s.popCommand tile p rest).hoopFail tile)
    else
      match p.apply x.cmd with
      | (q, v) =>
        let s1 := (s.hoopTouch tile (p.reads x.cmd) (fun k => p.fills k x.cmd || (x.cmd.rewrites && (p.reads x.cmd).contains k))).popCommand tile q rest
        let e := s1.elem x.el
        match e.pend? x.pend with
        | some y =>
          match y.job with
          | .press => .next (s1.setElem x.el (e.finish x.pend v false))
          | .psync _ n => .next (s1.setElem x.el ((e.setJob x.pend (.psync true n)).syncDone x.pend))
          | _ => .next s1
        | none => .next s1

/-- R55: a count group, its fourth token with the level. -/
def wheyGroup (w0 w1 w2 w3 : Word) (level : BitVec 4) (kind : BitVec 2) : List WheyTok :=
  [⟨w0, Tag.data, 0, kind⟩, ⟨w1, Tag.data, 0, kind⟩, ⟨w2, Tag.data, 0, kind⟩, ⟨w3, Tag.last, level, kind⟩]

/-- R55, R57, R226: emit the conversion group and clear its counters. -/
def Press.emitConv (p : Press) (level : BitVec 4) : Press :=
  if p.wheyConvOn then
    { p with wheyConv := wheyGroup p.conv.sat p.conv.nan p.conv.inf p.conv.flush level 0, conv := {} }
  else p

/-- R226: emit the segment group and clear its counters. -/
def Press.emitSeg (p : Press) (level : BitVec 4) : Press :=
  if p.wheySegOn then
    { p with wheySeg := wheyGroup p.seg[0] p.seg[1] p.seg[2] p.seg[3] level 1, seg := Vector.replicate 4 0 }
  else p

/-- R226: a stop that closes a group whose whey output still holds the last one waits. -/
def Press.stopWaits (p : Press) (t : Token) : Bool :=
  isStop t && (decide (p.wconv.toNat + 1 ≤ t.tag.toNat) && p.wheyConvOn && !p.wheyConv.isEmpty
    || decide (p.wseg.toNat + 1 ≤ t.tag.toNat) && p.wheySegOn && !p.wheySeg.isEmpty)

/-- R226: what a token at the result port closes. -/
def Press.closeBy (p : Press) (t : Token) : Press :=
  if !isStop t then p
  else
    let level := t.tag - 1
    let p1 := if p.wconv.toNat ≤ level.toNat then p.emitConv level else p
    if p.wseg.toNat ≤ level.toNat then p1.emitSeg level else p1

/-- R251: one token before each waiting PSYNC of the tile has entered the result channel. -/
def State.syncToken (s : State) (tile : Nat) : State :=
  (List.range 16).foldl (fun s k =>
    let el := elemOfTile tile k
    let e := s.elem el
    let e1 : Elem := { e with pend := e.pend.map (fun (p : Pend) => match p.job with
      | .psync b (n + 1) => { p with job := .psync b n }
      | _ => p) }
    let e2 := e1.pend.foldl (fun e p => e.syncDone p.id) e1
    if e2 = e then s else s.setElem el e2) s

/-- PRESS_RESULT_DELIVERY (R249): one token of the result buffer enters the result channel. -/
def execPressResultDelivery (tile : Nat) (s : State) : Out :=
  let p := s.press tile
  match p.result with
  | [] => .next s
  | x :: rest =>
    if x.left ≠ 0 ∨ (p.ports.outAt 0).room < 1 ∨ p.stopWaits x.tok then .next s
    else
      let q := { p with result := rest, ports := p.ports.push 0 x.tok }
      .next ((s.setPress tile (q.closeBy x.tok)).syncToken tile)

/-- An element holds a rule with an opcode of a range. -/
def Elem.holds (e : Elem) (lo hi : Nat) : Bool :=
  (List.range 16).any (fun k =>
    let g := e.guards[k % 16]'(Nat.mod_lt _ (by decide))
    let w := e.actions[k % 16]'(Nat.mod_lt _ (by decide))
    fldN g 0 1 == 1 && decide (lo ≤ fldN w 24 8 ∧ fldN w 24 8 ≤ hi))

/-- R252: the input of an element that the result port of its tile feeds. -/
def State.fedByPress (s : State) (el k : Nat) : Bool :=
  s.chans.any (fun c => c.2.frm == ⟨tileOfElem el, 16, 0⟩ && c.2.dst == ⟨tileOfElem el, el % 16, k⟩)

/-- A head token is MARK, or DRAIN which counts as marked (R87). -/
def InEnd.markHead (i : InEnd) : Bool :=
  match i.buf with
  | t :: _ => t.tag == Tag.mark || t.tag == Tag.drain
  | [] => false
/-- A head token is DRAIN. -/
def InEnd.drainHead (i : InEnd) : Bool :=
  match i.buf with
  | t :: _ => t.tag == Tag.drain
  | [] => false

/-- R252: an element that may issue Press commands is past them: in state `st`, or headed so at every forward input end
but the one the result port feeds. -/
def State.pressPast (s : State) (tile : Nat) (st : Life) (head : InEnd → Bool) : Bool :=
  (List.range 16).all (fun k =>
    let el := elemOfTile tile k
    let e := s.elem el
    !(e.holds 0xDA 0xDF || e.holds 0xE0 0xEB) || e.life == st
      || (List.range 8).all (fun j =>
        let i := e.ports.inAt j
        !i.wired || i.back || s.fedByPress el j || head i))

/-- PRESS_MARK (R252): MARK goes behind the buffered tokens. -/
def execPressMark (tile : Nat) (s : State) : Out :=
  let p := s.press tile
  if p.life = .running ∧ p.queue.isEmpty ∧ s.pressPast tile .marked InEnd.markHead then
    .next (s.setPress tile { p with
      life := .marked
      result := if (p.ports.outAt 0).wired then p.result ++ [{ tok := ⟨0, Tag.mark⟩, left := 0 }] else p.result })
  else .next s

/-- PRESS_DRAIN (R252): DRAIN on the result end once nothing is queued, buffered or being copied into the Hoop; the final
whey groups go first (R56). -/
def execPressDrain (tile : Nat) (s : State) : Out :=
  let p := s.press tile
  if p.life = .running ∧ p.queue.isEmpty ∧ p.result.isEmpty ∧ (List.range 4).all (fun k => (p.hoop.hdr k).cif == 0)
      ∧ s.pressPast tile .drained InEnd.drainHead ∧ p.wheyConv.isEmpty ∧ p.wheySeg.isEmpty
      ∧ (!(p.ports.outAt 0).wired ∨ 1 ≤ (p.ports.outAt 0).room) then
    let q := (p.emitConv 0xF).emitSeg 0xF
    .next (s.setPress tile { q with
      life := .drained
      ports := if (p.ports.outAt 0).wired then q.ports.push 0 ⟨0, Tag.drain⟩ else q.ports })
  else .next s

end Sys2Proof.Machine
end

