-- ==== Sys2Proof/Machine/Copy.lean ====
section
/-! DEFINITION. The copy engine (spec/08 R195 to R206; spec/09 R218 to R220; spec/10 R231, R247). -/

namespace Sys2Proof.Machine

abbrev cCopyShape : Byte := 0x31
abbrev cCopyOvlp : Byte := 0x30

/-! Shapes and addresses (R195, R198). -/

/-- Bytes of a size code. -/
def sizeOf2 (c : BitVec 2) : Nat := 2 ^ c.toNat
/-- R196: how many elements a copy has. -/
def Shape.count (h : Shape) : Nat := h.dims.foldl (fun n d => n * d.ext.toNat) 1
/-- R198: the part of an address that element `i` adds, the dimension of PERM field 0 fastest. -/
def dimOff (dims : List Dim) (st : Dim → BitVec 40) : List Nat → Nat → Int
  | [], _ => 0
  | k :: ks, i =>
    let d := dims.getD k ⟨1, 0, 0⟩
    ((i % d.ext.toNat : Nat) : Int) * (st d).toInt + dimOff dims st ks (i / d.ext.toNat)
/-- R198: src of element `i`. -/
def Shape.src (h : Shape) (a : Word) (i : Nat) : Int :=
  h.soff.toNat + a.toNat * h.pss.toInt + dimOff h.dims Dim.sst h.perm i
/-- R198: dst of element `i`. -/
def Shape.dst (h : Shape) (b : Word) (i : Nat) : Int :=
  h.doff.toNat + b.toNat * h.pds.toInt + dimOff h.dims Dim.dst h.perm i
/-- The least offset over all tuples. -/
def spanLo (dims : List Dim) (st : Dim → BitVec 40) (base : Int) : Int :=
  dims.foldl (fun x d => x + min 0 (((d.ext.toNat : Int) - 1) * (st d).toInt)) base
/-- The greatest offset over all tuples. -/
def spanHi (dims : List Dim) (st : Dim → BitVec 40) (base : Int) : Int :=
  dims.foldl (fun x d => x + max 0 (((d.ext.toNat : Int) - 1) * (st d).toInt)) base
/-- R199: every stride is dense. -/
def denseFrom : Nat → List Dim → Bool
  | _, [] => true
  | n, d :: t => d.sst.toInt == (n : Int) && d.dst.toInt == (n : Int) && denseFrom (n * d.ext.toNat) t
/-- R199: the copy is linear. -/
def Shape.linear (h : Shape) : Bool :=
  h.perm == List.range h.dims.length && h.redop == 0 && h.conv == 0 && denseFrom (sizeOf2 h.ssize) h.dims

/-! The checks of an issue (R199, R219, R247). -/

/-- R219: a destination index of a Hoop copy: block of a declared slot within its kind's count, or band scales. An index below 0 is
no index either (DESIGN CHOICE, log 84). -/
def Hoop.indexOk (h : Hoop) (i : Int) : Bool :=
  if i < 0 ∨ 33279 < i then false
  else if 32768 ≤ i then true
  else
    let kind := (h.hdr (i.toNat / 8192)).kind
    kind != 3 && decide (i.toNat % 16 < (if kind = 0 then 16 else 8))
/-- R219: the slot of a destination index. -/
def hoopSlotOf (i : Nat) : Nat := if i < 32768 then i / 8192 else (i - 32768) / 128
/-- R247: an element index within the vector. -/
def PVec.indexOk (v : PVec) (second : Bool) (i : Int) : Bool :=
  decide (0 ≤ i ∧ (i.toNat + 1) * lanesOf v.fmt ≤ (if second then 32 else 16))
/-- R219, R247: the destination indexes of a copy into the Hoop, VA or VB. -/
def Shape.indexesOk (h : Shape) (p : Press) (b : Word) : Bool :=
  match h.dkind.toNat with
  | 2 => (List.range h.count).all (fun i => p.va.indexOk false (h.dst b i))
  | 3 => (List.range h.count).all (fun i => p.vb.indexOk true (h.dst b i))
  | 4 => (List.range h.count).all (fun i => p.hoop.indexOk (h.dst b i))
  | _ => true
/-- R219, R220: the slots that a Hoop copy's index range reaches: those in which some element's index falls
(notes/assumptions/75). -/
def Shape.slots (h : Shape) (b : Word) : List Nat :=
  if h.dkind = 4 then
    (List.range 4).filter (fun k => (List.range h.count).any (fun i => hoopSlotOf (h.dst b i).toNat == k))
  else []
/-- R199: a stride of a dimension that moves, not a multiple of the size. -/
def strideBad (dims : List Dim) (st : Dim → BitVec 40) (n : Nat) : Bool :=
  dims.any (fun d => decide (1 < d.ext.toNat) && (st d).toInt % n != 0)

/-- What an issue that passes knows: whether it runs downwards, and the Hoop slots it reaches. -/
inductive CopyChk where
  | fail (code : Byte)
  | ok (down : Bool) (slots : List Nat)
  deriving DecidableEq, Repr

/-- R199: a copy's source and destination byte ranges overlap. -/
def State.copyLaps (s : State) (tile : Nat) (h : Shape) (a b : Word) : Bool :=
  let task := s.taskOfRegion (regionOfTile tile)
  let sw := s.window task h.swin
  let dw := s.window task h.dwin
  h.dkind == 0
    && decide ((sw.base : Int) + spanLo h.dims Dim.sst (h.src a 0) < dw.base + (spanHi h.dims Dim.dst (h.dst b 0) + sizeOf2 h.dsize)
      ∧ (dw.base : Int) + spanLo h.dims Dim.dst (h.dst b 0) < sw.base + (spanHi h.dims Dim.sst (h.src a 0) + sizeOf2 h.ssize))

/-- R199: an overlapping copy whose destination lies at or above its source runs downwards. -/
def State.copyDown (s : State) (tile k : Nat) (a b : Word) : Bool :=
  match Table.get? (s.copyEng tile).tmpls k with
  | none => false
  | some h =>
    let task := s.taskOfRegion (regionOfTile tile)
    s.copyLaps tile h a b
      && decide (((s.window task h.swin).base : Int) + h.src a 0 ≤ (s.window task h.dwin).base + h.dst b 0)

/-- R219: the Hoop slots that a copy reaches. -/
def State.copySlots (s : State) (tile k : Nat) (b : Word) : List Nat :=
  match Table.get? (s.copyEng tile).tmpls k with
  | none => []
  | some h => h.slots b

/-- R199: the checks in their order. R219's index check reads the slot headers as the accepted Press commands will
leave them (notes/assumptions/75). -/
def State.copyCheck (s : State) (tile : Nat) (k : Nat) (a b : Word) : CopyChk :=
  match Table.get? (s.copyEng tile).tmpls k with
  | none => .fail cCopyShape
  | some h =>
    let task := s.taskOfRegion (regionOfTile tile)
    let sw := s.window task h.swin
    let dw := s.window task h.dwin
    let n := sizeOf2 h.ssize
    let m := sizeOf2 h.dsize
    let mem := h.dkind == 0
    let s0 := h.src a 0
    let d0 := h.dst b 0
    let slo := spanLo h.dims Dim.sst s0
    let shi := spanHi h.dims Dim.sst s0 + n
    let dlo := spanLo h.dims Dim.dst d0
    let dhi := spanHi h.dims Dim.dst d0 + m
    if slo < 0 ∨ (sw.len : Int) < shi ∨ (mem ∧ (dlo < 0 ∨ (dw.len : Int) < dhi)) then .fail cWinBound
    else if !h.indexesOk (s.press tile).future b then .fail cSumIndex
    else if ((sw.base : Int) + s0) % n ≠ 0 ∨ strideBad h.dims Dim.sst n ∨
        (mem ∧ (((dw.base : Int) + d0) % m ≠ 0 ∨ strideBad h.dims Dim.dst m)) then .fail cAlign
    else if !sw.r ∨ (mem ∧ !(if h.redop = 0 then dw.w else dw.a)) then .fail cPerm
    else if s.copyLaps tile h a b && !h.linear then .fail cCopyOvlp
    else .ok (s.copyDown tile k a b) (h.slots b)

/-! Issue (R202, R205, R220). -/

/-- Bit `t` set. -/
def setBit (x : BitVec 64) (t : Nat) : BitVec 64 := x ||| ((1 : BitVec 64) <<< t)

/-- R220, R230: a Hoop copy issues: CIF rises and SEALED becomes 0 for each slot. -/
def Hoop.begin_ (h : Hoop) (slots : List Nat) : Hoop :=
  slots.foldl (fun h k => h.setHdr k { h.hdr k with cif := (h.hdr k).cif + 1, sealed := false }) h

/-- R220, R230: a Hoop copy completes: CIF falls, and with the last copy SEALED returns to 1. -/
def Hoop.end_ (h : Hoop) (slots : List Nat) : Hoop :=
  slots.foldl (fun h k =>
    h.setHdr k { h.hdr k with cif := (h.hdr k).cif - 1, sealed := (h.hdr k).sealed || (h.hdr k).cif == 1 }) h

/-- A copy issues. -/
def State.copyIssue (s : State) (tile k : Nat) (a b : Word) (el : Option (Nat × Nat)) (down : Bool) (slots : List Nat) : State :=
  let c := s.copyEng tile
  let t := ((Table.get? c.tmpls k).map (fun h => h.tag.toNat)).getD 0
  let f : Flight := { id := c.nextId, tmpl := k, a := a, b := b, el := el, down := down, slots := slots,
                      ahead := (s.press tile).queue.length }
  let s1 := s.setCopy tile { c with
    flights := c.flights ++ [f]
    nextId := c.nextId + 1
    out := c.out.set (t % 64) (c.out[t % 64]'(Nat.mod_lt _ (by decide)) + 1) (Nat.mod_lt _ (by decide))
    issued := setBit c.issued t }
  if slots.isEmpty then s1 else s1.setPress tile { s.press tile with hoop := (s.press tile).hoop.begin_ slots }

/-- COPY (R205): checks, then issues, or waits in the port queue for fewer than 256 copies in flight. -/
def execCopy (d a b : BitVec 5) (k : BitVec 6) (s : State) : Out :=
  match s.cur with
  | .rule el rule =>
    let e := s.elem el
    let q : Req := { d := d, a := some a, b := some b }
    let tile := tileOfElem el
    match e.input q with
    | none => .next s
    | some x =>
      let l := deliver d Tag.data x.a.data
      if !e.portRoom rule l then .next s
      else
        match s.copyCheck tile k.toNat x.a.data x.b.data with
        | .fail code => .next (s.abortWith el rule code x)
        | .ok down slots =>
          let e1 := e.issuePort rule q l (.copyIssue k.toNat x.a.data x.b.data) true
          if (s.copyEng tile).flights.length < 256 ∧ !s.behind el e.nextId then
            let s1 := s.copyIssue tile k.toNat x.a.data x.b.data (some (el, e.nextId)) down slots
            let e2 := e1.setJob e.nextId (.copy (s.copyEng tile).nextId)
            .next (s1.setElem el (if d = 24 then e2.finish e.nextId none false else e2))
          else .next (s.setElem el e1)
  | _ => .next s

/-! TAG instructions and CSTAT (R204, R206). -/

/-- R206: the status word of a template. -/
def CopyEng.status (c : CopyEng) (k : Nat) : Word :=
  let mine := c.flights.filter (fun f => f.tmpl == k)
  let arms := (List.range 8).foldl (fun n p =>
    if (c.arms[p % 8]'(Nat.mod_lt _ (by decide))).map BitVec.toNat = some k then n + 2 ^ p else n) 0
  Word.ofNat ((if mine.any (fun f => f.paused.isSome) then 2 ^ 31 else 0) + arms * 2 ^ 16 + mine.length)

/-- The lowest set bit, or 64. -/
def lowBit (x : BitVec 64) : Nat := ((List.range 64).find? (fun k => x.getLsbD k)).getD 64

/-- R204: the result of CSTAT, TAGANY, TAGALL or TAGFF. -/
def CopyEng.tagValue (c : CopyEng) (opc : Byte) (m : BitVec 64) (k : Nat) : Word :=
  match opc.toNat with
  | 0xCB => c.status k
  | 0xCC => Word.ofBool (c.bitmap &&& m != 0)
  | 0xCD => Word.ofBool (c.bitmap &&& m == m)
  | 0xCE => Word.ofNat (lowBit (c.bitmap &&& m))
  | _ => 0

/-- R202, R204: what a TAG operation does to the engine: TAGCLR names bits, committed at the end of the round. -/
def CopyEng.tagDo (c : CopyEng) (opc : Byte) (m : BitVec 64) : CopyEng :=
  if opc = 0xCF then { c with cleared := c.cleared ||| m } else c

/-- R204: a TAG operation at the head of the port queue acts in this round; behind a waiting operation it waits. -/
def State.tagForm (s : State) (opc : Byte) (d : BitVec 5) (a b : Option (BitVec 5)) (k : BitVec 6) : Out :=
  match s.cur with
  | .rule el rule =>
    let e := s.elem el
    let q : Req := { d := d, a := a, b := b }
    let tile := tileOfElem el
    match e.input q with
    | none => .next s
    | some x =>
      let m := x.b.data ++ x.a.data
      let l := deliver d Tag.data ((s.copyEng tile).tagValue opc m k.toNat)
      if !e.portRoom rule l then .next s
      else
        let e1 := e.issuePort rule q l (.tag opc m k) true
        if s.behind el e.nextId then .next (s.setElem el e1)
        else .next ((s.setElem el (e1.finish e.nextId none false)).setCopy tile ((s.copyEng tile).tagDo opc m))
  | _ => .next s

/-- CSTAT (R206). -/
def execCstat (d : BitVec 5) (k : BitVec 6) (s : State) : Out := s.tagForm 0xCB d none none k
/-- TAGANY (R204). -/
def execTagany (d a b : BitVec 5) (s : State) : Out := s.tagForm 0xCC d (some a) (some b) 0
/-- TAGALL (R204). -/
def execTagall (d a b : BitVec 5) (s : State) : Out := s.tagForm 0xCD d (some a) (some b) 0
/-- TAGFF (R204). -/
def execTagff (d a b : BitVec 5) (s : State) : Out := s.tagForm 0xCE d (some a) (some b) 0
/-- TAGCLR (R204). -/
def execTagclr (a b : BitVec 5) (s : State) : Out := s.tagForm 0xCF 24 (some a) (some b) 0

/-! CARM and CDIS (R205). -/

/-- R205: an arming of this round, effective at its end; it takes a port-queue entry and frees it in the same round. -/
def State.armForm (s : State) (p : BitVec 3) (k : Option (BitVec 6)) : Out :=
  match s.cur with
  | .rule el rule =>
    let e := s.elem el
    let tile := tileOfElem el
    let c := s.copyEng tile
    if !e.portRoom rule [] then .next s
    else
      match e.input {} with
      | none => .next s
      | some x =>
        if (match k with | some t => (Table.get? c.tmpls t.toNat).isNone | none => false) then
          .next (s.abortWith el rule cCopyShape x)
        else
          .next ((s.setElem el ((e.fireTakes rule []).puts (e.everyCo rule))).setCopy tile { c with rearm := c.rearm ++ [(p, k)] })
  | _ => .next s

/-- CARM (R205). -/
def execCarm (k : BitVec 6) (p : BitVec 3) (s : State) : Out := s.armForm p (some k)
/-- CDIS (R205). -/
def execCdis (p : BitVec 3) (s : State) : Out := s.armForm p none

/-- COPY_ISSUE_DEFERRED (R204, R205): the first operation that waits at the head of a port queue is handed on: a COPY once
fewer than 256 copies are in flight, its checks passed for good, a TAG operation at once. -/
def execCopyIssueDeferred (el id : Nat) (s : State) : Out :=
  let e := s.elem el
  let tile := tileOfElem el
  let c := s.copyEng tile
  match e.pend? id with
  | none => .next s
  | some p =>
    if s.behind el id then .next s
    else
      match p.job with
      | .copyIssue k a b =>
        if c.flights.length < 256 then
          let e1 := e.setJob id (.copy c.nextId)
          .next ((s.copyIssue tile k a b (some (el, id)) (s.copyDown tile k a b) (s.copySlots tile k b)).setElem el
            (if p.dst = 24 then e1.finish id none false else e1))
        else .next s
      | .tag opc m k =>
        .next ((s.setElem el (e.finish id (some (c.tagValue opc m k.toNat)) false)).setCopy tile (c.tagDo opc m))
      | _ => .next s

/-! Elements in flight (R197, R198, R200, R201). -/

/-- R197: the conversion of one element, and what it counts. -/
def convert (conv : BitVec 4) (v : Nat) : Nat × Inc :=
  let of := fun (r : FR) => (r.code, r.inc)
  match conv.toNat with
  | 1 => of (bf16.cvt false false v)
  | 2 => of (fp16.cvt false false v)
  | 3 => of (e4m3.cvt false true v)
  | 4 => of (e5m2.cvt false true v)
  | 5 => of (bf16.widen v).1
  | 6 => of (fp16.widen v).1
  | 7 => of (e4m3.widen v).1
  | 8 => of (e5m2.widen v).1
  | _ => (v, {})

/-- R43, R197: a copy's conversions count in the Brine codec of its region. -/
def State.brineCount (s : State) (reg : Nat) (i : Inc) : State :=
  let u := etileOf reg * 64 + 1
  match s.unit? u with
  | some x =>
    match x.st with
    | .brine st em fin => s.setUnit u { x with st := .brine (st.add i) em fin }
    | _ => s
  | none =>
    if i = {} then s
    else s.setUnit u { kind := .brine, slot := 32, payload := [], st := .brine (({} : Stats 32).add i) none false }

/-- R279: the level that closes the codec's groups; 0 is S3. -/
def brineLevel (u : SUnit) : Nat := if fldN (u.payload.getD 0 0) 0 3 = 0 then 3 else fldN (u.payload.getD 0 0) 0 3

/-- R279: a stop of a converting copy that closes the codec's group: its level. -/
def State.brineCloses (s : State) (reg : Nat) (h : Shape) (t : Token) : Option (BitVec 4) :=
  match s.unit? (etileOf reg * 64 + 1) with
  | some u => if u.wheyOn ∧ isStop t ∧ h.conv ≠ 0 ∧ brineLevel u + 1 ≤ t.tag.toNat then some (t.tag - 1) else none
  | none => none

/-- R279: the codec still owes the group of an earlier stop. -/
def State.brineBusy (s : State) (reg : Nat) : Bool :=
  match s.unit? (etileOf reg * 64 + 1) with
  | some u =>
    match u.st with
    | .brine _ e _ => e.isSome || !u.whey.isEmpty
    | _ => false
  | none => false

/-- R279: the codec owes a group of a level. -/
def State.brineOwe (s : State) (reg : Nat) (level : BitVec 4) : State :=
  match s.unit? (etileOf reg * 64 + 1) with
  | some u =>
    match u.st with
    | .brine st _ fin => s.setUnit (etileOf reg * 64 + 1) { u with st := .brine st (some level) fin }
    | _ => s
  | none => s

/-- R52, R53: the grid value of an E2M1 row under an E3M5 scale, of an i4 row, or of an i8 row. -/
def blockRow (kind : BitVec 2) (w : BitVec 64) (i : Nat) : Int :=
  match kind.toNat with
  | 0 => (BitVec.ofNat 8 (w.toNat / 2 ^ (8 * i))).toInt
  | 1 => (BitVec.ofNat 4 (w.toNat / 2 ^ (4 * i))).toInt
  | _ =>
    let k := e3m5 (w.toNat / 2 ^ 32 % 256)
    match (e2m1.value (w.toNat / 2 ^ (4 * i) % 16)).dy with
    | some x =>
      let g := x.mul { m := k.1, e := k.2 + 8 }
      if 0 ≤ g.e then g.m * 2 ^ g.e.toNat else g.m / 2 ^ (-g.e).toNat
    | none => 0

/-- R218: the entries of a block: its running sums. -/
def blockSums (kind : BitVec 2) (w : BitVec 64) (acc : Int) : Nat → Nat → List Int
  | _, 0 => []
  | i, n + 1 => (acc + blockRow kind w i) :: blockSums kind w (acc + blockRow kind w i) (i + 1) n

/-- R218, R419: the first bytes of the Hoop groups that an 8-byte element writes. -/
def Hoop.copyBytes (h : Hoop) (idx : Nat) : List Nat :=
  if idx < 32768 then
    let rows := if (h.hdr (idx / 8192)).kind = 0 then 4 else 8
    entryGroups (entryNo (idx / 8192) (idx / 16 % 512) (idx % 16 * rows)) rows
  else [scaleGroup ((idx - 32768) / 128) ((idx - 32768) % 128 * 4)]

/-- R421: those that it does not cover whole, and so reads. -/
def Hoop.copyReads (h : Hoop) (idx : Nat) : List Nat :=
  let rows := if (h.hdr (idx / 8192)).kind = 0 then 4 else 8
  let lo := 3 * entryNo (idx / 8192) (idx / 16 % 512) (idx % 16 * rows)
  (h.copyBytes idx).filter (fun k => !(decide (idx < 32768 ∧ lo ≤ k ∧ k + 16 ≤ lo + 3 * rows)))

/-- R218 to R220: write one 8-byte element into the Hoop, under the header its slot has now; none when the block is faulty. Bits 39:32
of an i4 or INT8 block are not looked at (DESIGN CHOICE, log 84). -/
def Hoop.copyIn (h : Hoop) (idx : Nat) (w : BitVec 64) : Option Hoop :=
  if idx < 32768 then
    let slot := idx / 8192
    let col := idx / 16 % 512
    let kind := (h.hdr slot).kind
    let rows := if kind = 0 then 4 else 8
    let first := idx % 16 * rows
    let chk := (BitVec.ofNat 24 (w.toNat / 2 ^ 40)).toInt
    let sums := blockSums kind w chk 0 rows
    if (first = 0 ∧ chk ≠ 0) ∨ sums.any (fun v => !isI24 v) then none
    else some ((sums.zipIdx).foldl (fun h x => h.setEntry slot col (first + x.2) x.1) h)
  else
    let slot := (idx - 32768) / 128
    let q := (idx - 32768) % 128
    let lanes := (List.range 4).map (fun j => (j, BitVec.ofNat 16 (w.toNat / 2 ^ (16 * j))))
    if lanes.any (fun x => (bf16.value x.2.toNat).dy.isNone) then none
    else some (lanes.foldl (fun h x => h.setScale slot (4 * q + x.1) x.2) h)

/-- Replace a flight. -/
def CopyEng.setFlight (c : CopyEng) (f : Flight) : CopyEng :=
  { c with flights := c.flights.map (fun g => if g.id = f.id then f else g) }

/-- R201, R366: the copy pauses at the element and its record is posted. -/
def State.pauseCopy (s : State) (tile : Nat) (f : Flight) (code : Byte) (va : Nat) : State :=
  let reg := regionOfTile tile
  let task := s.taskOfRegion reg
  let s0 := { s with accs := s.accs.filter (fun a => !(a.src == Port.copy tile f.id && a.act == Act.read)) }
  match s0.newHandle (s.ctxOfRegion reg) (.copy tile f.id) with
  | (s1, h) =>
    (s1.setCopy tile ((s.copyEng tile).setFlight { f with paused := some { code := code, va := va, handle := h } })).postFault
      (s.ctxOfRegion reg)
      (faultRecord 3 code reg ((f.el.map (fun x => x.1)).getD 0) (s.taskId task) h (endWord 0 (s.localTile task tile) 18 0 0) va
        (f.tmpl * 2 ^ 16 + f.mark % 512) (s.cycleOf reg))

/-- R198: the tokens of one element of a channel copy; with the last come LAST and the stop. -/
def chanToks (h : Shape) (v : Nat) (last : Bool) : List Token :=
  let t : Tag := if last && h.ltag then Tag.last else Tag.data
  let body : List Token :=
    if h.dsize = 3 then [⟨Word.ofNat v, Tag.data⟩, ⟨Word.ofNat (v / 2 ^ 32), t⟩] else [⟨Word.ofNat v, t⟩]
  body ++ (if last && h.stop != 0 then [⟨0, BitVec.ofNat 4 (h.stop.toNat + 1)⟩] else [])

/-- The value read, from its accesses in lane order. -/
def readValue : List Word → Nat
  | [] => 0
  | w :: t => w.toNat + 2 ^ 32 * readValue t

/-- Accesses of `n` bytes at `va`, translated to `pa`, as one access or, at 8 bytes, as two words (R291). -/
def State.copyAccs (s : State) (tile fid va pa n : Nat) (act : Nat → Act) (whole : Bool) : State :=
  let reg := regionOfTile tile
  let task := s.taskOfRegion reg
  let parts : List (Nat × Nat) := if n = 8 ∧ !whole then [(0, 4), (4, 4)] else [(0, n)]
  { s with
    accs := s.accs ++ parts.zipIdx.map (fun x =>
      ({ id := s.fresh + x.2, src := .copy tile fid, ctx := s.ctxOfTask task, task := task, region := reg, opc := 0xC8,
         va := va + x.1.1, size := x.1.2, lane := x.2, act := act x.2, st := .ready (pa + x.1.1), left := flitHome tile pa } : Access))
    fresh := s.fresh + parts.length }

/-- The region's task is being pre-empted. -/
def State.preempting (s : State) (reg : Nat) : Bool :=
  match s.task? (s.taskOfRegion reg) with
  | some t => t.st == .preempting
  | none => false

/-- An element holds a COPY. -/
def Elem.copies (e : Elem) : Bool := e.holds 0xC8 0xC8

/-- R87: the element is past MARK or DRAIN, or has no part in either. -/
def Elem.past (e : Elem) : Bool :=
  e.life == .marked || e.life == .drained || e.life == .off || (e.life == .frozen && e.markSent)

/-- R203, R186: the engine stops for MARK once the task is being pre-empted, MARK heads every connected trigger port, and
every element of its tile that holds a COPY is past MARK, so that no copy that owes a token is left. -/
def State.copyMarked (s : State) (tile : Nat) : Bool :=
  s.preempting (regionOfTile tile) && (s.copyEng tile).ports.ins.toList.all (fun i => !i.wired || i.markHead)
    && (List.range 16).all (fun k =>
      let e := s.elem (elemOfTile tile k)
      !e.copies || e.past)

/-- R198: an earlier copy to the same output port has still tokens to enqueue. -/
def CopyEng.portBusy (c : CopyEng) (f : Flight) (h : Shape) : Bool :=
  (c.flights.takeWhile (fun g => g.id != f.id)).any (fun g =>
    match Table.get? c.tmpls g.tmpl with
    | some k => k.dkind == 1 && k.dport == h.dport && (decide (g.mark < k.count) || !g.rest.isEmpty)
    | none => false)

/-- R421: the elements of a copy write every byte of `n` bytes from destination offset `lo` on. -/
def Shape.covers (h : Shape) (b : Word) (lo : Int) (n : Nat) : Bool :=
  (List.range (n / sizeOf2 h.dsize)).all (fun j =>
    (List.range h.count).any (fun i => h.dst b i == lo + ((j * sizeOf2 h.dsize : Nat) : Int)))

/-- R421: a copy that writes a poisoned granule whole gives it a fresh codeword. -/
def State.copyFresh (s : State) (h : Shape) (b : Word) (i pa : Nat) : State :=
  let g := granule pa
  if s.poison.contains (pa / g * g) && h.redop == 0 && h.covers b (h.dst b i - ((pa % g : Nat) : Int)) g then
    s.clearPoison (pa / g * g) g
  else s

/-- R198, R219, R247: the second half of an element: its value goes to the copy's destination. -/
def State.copyWrite (s : State) (tile : Nat) (f : Flight) (h : Shape) (i v0 : Nat) (inc : Inc) (sva : Nat) : State :=
  let c := s.copyEng tile
  let p := s.press tile
  let reg := regionOfTile tile
  let task := s.taskOfRegion reg
  let clean := { s with accs := s.accs.filter (fun a => !(a.src == Port.copy tile f.id && a.act == Act.read)) }.brineCount reg inc
  let next := fun (g : Flight) => c.setFlight { g with mark := f.mark + 1 }
  let idx := (h.dst f.b i).toNat
  match h.dkind.toNat with
  | 0 =>
    let va := ((((s.window task h.dwin).base : Int) + h.dst f.b i)).toNat
    match s.translate tile (s.ctxOfTask task) va (if h.redop = 0 then .write else .atomic) with
    | (.miss, s') => s'
    | (.bad code, s') => s'.pauseCopy tile f code va
    | (.hit pa, s') =>
      let s2 := ({ s' with accs := s'.accs.filter (fun a => !(a.src == Port.copy tile f.id && a.act == Act.read)) }.brineCount reg inc).copyFresh h f.b i pa
      (s2.copyAccs tile f.id va pa (sizeOf2 h.dsize)
        (fun k => if h.redop = 0 then .write (Word.ofNat (v0 / 2 ^ (32 * k))) else .combine h.redop (BitVec.ofNat 64 v0))
        (h.redop != 0)).setCopy tile (next f)
  | 1 => clean.setCopy tile (next { f with rest := f.rest ++ chanToks h v0 (f.mark + 1 == h.count) })
  | 2 =>
    match p.va.load (Word.ofNat v0) (idx * lanesOf p.va.fmt) (lanesOf p.va.fmt) with
    | (x, nf) => (clean.setCopy tile (next f)).setPress tile (if p.va.indexOk false (h.dst f.b i) then p.setVec false x nf else p)
  | 3 =>
    match p.vb.load (Word.ofNat v0) (idx * lanesOf p.vb.fmt) (lanesOf p.vb.fmt) with
    | (x, nf) => (clean.setCopy tile (next f)).setPress tile (if p.vb.indexOk true (h.dst f.b i) then p.setVec true x nf else p)
  | _ =>
    match p.hoop.copyIn idx (BitVec.ofNat 64 v0) with
    | none => s.pauseCopy tile f cSumRange sva
    | some x =>
      if s.hoopBad tile (p.hoop.copyReads idx) then s.hoopFail tile
      else ((clean.hoopTouch tile (p.hoop.copyReads idx) (p.hoop.copyBytes idx).contains).setCopy tile (next f)).setPress tile { p with hoop := x }

/-- COPY_TRANSFER (R200): a copy in flight enqueues a token, reads its next element, or writes the element it has read. -/
def execCopyTransfer (tile flight : Nat) (s : State) : Out :=
  let c := s.copyEng tile
  match c.flights.find? (fun f => f.id == flight) with
  | none => .next s
  | some f =>
    match Table.get? c.tmpls f.tmpl with
    | none => .next s
    | some h =>
      match f.rest with
      | t :: rest =>
        let reg := regionOfTile tile
        let closes := s.brineCloses reg h t
        if 1 ≤ (c.ports.outAt h.dport.toNat).room ∧ (closes.isNone ∨ !s.brineBusy reg) then
          let s1 := s.setCopy tile { c.setFlight { f with rest := rest } with ports := c.ports.push h.dport.toNat t }
          .next (match closes with
            | some level => s1.brineOwe reg level
            | none => s1)
        else .next s
      | [] =>
        if f.paused.isSome ∨ h.count ≤ f.mark ∨ c.life = .marked ∨ s.copyMarked tile
            ∨ (h.dkind = 1 ∧ c.portBusy f h) ∨ (2 ≤ h.dkind.toNat ∧ f.ahead ≠ 0) then .next s
        else
          let task := s.taskOfRegion (regionOfTile tile)
          let i := if f.down then h.count - 1 - f.mark else f.mark
          let sva := (((s.window task h.swin).base : Int) + h.src f.a i).toNat
          let mine := s.accs.filter (fun a => a.src == Port.copy tile flight && a.act == Act.read)
          if mine.isEmpty then
            match s.translate tile (s.ctxOfTask task) sva .read with
            | (.miss, s') => .next s'
            | (.bad code, s') => .next (s'.pauseCopy tile f code sva)
            | (.hit pa, s') => .next (s'.copyAccs tile flight sva pa (sizeOf2 h.ssize) (fun _ => .read) false)
          else if mine.all Access.back then
            match convert h.conv (readValue (mine.map Access.value)) with
            | (v, inc) => .next (s.copyWrite tile f h i v inc sva)
          else .next s

/-- R200: every write of the flight has performed at SCOPE and every token has entered the channel. -/
def State.copyOver (s : State) (tile : Nat) (f : Flight) (h : Shape) : Bool :=
  decide (h.count ≤ f.mark) && f.rest.isEmpty && (s.accs.filter (fun a => a.src == Port.copy tile f.id)).all (fun a => a.performed h.scope)

/-- COPY_COMPLETE (R200, R202, R220): every write has performed at SCOPE and every token has entered the channel. -/
def execCopyComplete (tile flight : Nat) (s : State) : Out :=
  let c := s.copyEng tile
  match c.flights.find? (fun f => f.id == flight) with
  | none => .next s
  | some f =>
    match Table.get? c.tmpls f.tmpl with
    | none => .next s
    | some h =>
      if !s.copyOver tile f h then .next s
      else
        let t := h.tag.toNat
        let n := c.out[t]'(h.tag.isLt) - 1
        let c1 : CopyEng := { c with
          flights := c.flights.filter (fun g => g.id != flight)
          out := c.out.set t n h.tag.isLt
          zeroed := if n = 0 then setBit c.zeroed t else c.zeroed }
        let s1 := { s with accs := s.accs.filter (fun a => !(a.src == Port.copy tile flight && a.over)) }.setCopy tile c1
        let s2 := if f.slots.isEmpty then s1 else s1.setPress tile { s.press tile with hoop := (s.press tile).hoop.end_ f.slots }
        match f.el with
        | some (el, id) => .next (s2.setElem el ((s2.elem el).finish id none false))
        | none => .next s2

/-! The engine as a dataflow node (R203). -/

/-- R203, R20: the trigger port served: the next armed one after the port last served whose head may be taken. -/
def CopyEng.served (c : CopyEng) : Option (Nat × Token × BitVec 6) :=
  ((List.range 8).map (fun k => (c.rr + 1 + k) % 8)).findSome? (fun p =>
    match (c.arms[p % 8]'(Nat.mod_lt _ (by decide))), c.ports.head p with
    | some t, some tok => if tok.tag == Tag.mark || tok.tag == Tag.drain then none else some (p, tok, t)
    | _, _ => none)

/-- COPY_TRIGGER (R203): takes a trigger token and issues the template armed to its port. A trigger that freezes has had
its turn: the next search begins behind its port (notes/assumptions/76). -/
def execCopyTrigger (tile : Nat) (s : State) : Out :=
  let c := s.copyEng tile
  if c.life ≠ .running ∨ c.freeze.isSome ∨ 256 ≤ c.flights.length then .next s
  else
    match c.served with
    | none => .next s
    | some (p, tok, t) =>
      let taken : CopyEng := { c with ports := c.ports.take p, rr := p }
      if isData tok then
        match s.copyCheck tile t.toNat tok.data tok.data with
        | .ok down slots => .next ((s.setCopy tile taken).copyIssue tile t.toNat tok.data tok.data none down slots)
        | .fail code =>
          .next (s.setCopy tile { c with
            rr := p
            freeze := some { code := code, tmpl := t.toNat, port := p, data := tok.data, stamp := s.cycleOf (regionOfTile tile) }
            unposted := true })
      else .next (s.setCopy tile taken)

/-- Enqueue a token on each owed output end that has room; those without stay owed (R87 item 3). -/
def Ports.pay (p : Ports) (t : Token) : List Nat → Ports × List Nat
  | [] => (p, [])
  | k :: ks =>
    if 1 ≤ (p.outAt k).room then Ports.pay (p.push k t) t ks
    else
      match Ports.pay p t ks with
      | (q, l) => (q, k :: l)

/-- The connected output ends. -/
def Ports.wiredOuts (p : Ports) : List Nat := (List.range 8).filter (fun k => (p.outAt k).wired)

/-- R203: the engine has nothing left to do and nothing can reach it. -/
def State.copyIdle (s : State) (tile : Nat) : Bool :=
  let c := s.copyEng tile
  c.flights.isEmpty && c.freeze.isNone
    && c.ports.ins.toList.all (fun i => !i.wired || i.drainHead)
    && (List.range 16).all (fun k =>
      let e := s.elem (elemOfTile tile k)
      (!e.copies || e.life == .drained || e.life == .halted)
        && !e.pend.any (fun (p : Pend) => match p.job with | .copyIssue _ _ _ => true | _ => false))

/-- COPY_ENGINE_DRAIN (R203). -/
def execCopyEngineDrain (tile : Nat) (s : State) : Out :=
  let c := s.copyEng tile
  let go := fun (c : CopyEng) (l : List Nat) =>
    match c.ports.pay ⟨0, Tag.drain⟩ l with
    | (p, left) => s.setCopy tile { c with ports := p, owed := left, life := .drained }
  if c.life = .running ∧ s.copyIdle tile then .next (go c c.ports.wiredOuts)
  else if c.life = .drained ∧ !c.owed.isEmpty then .next (go c c.owed)
  else .next s

/-- COPY_ENGINE_MARK (R201, R203): no write is under way, so each copy stands at its watermark; MARK is enqueued. -/
def execCopyEngineMark (tile : Nat) (s : State) : Out :=
  let c := s.copyEng tile
  let mine := fun (a : Access) => match a.src with
    | .copy t _ => t == tile
    | _ => false
  let go := fun (s : State) (c : CopyEng) (l : List Nat) =>
    match c.ports.pay ⟨0, Tag.mark⟩ l with
    | (p, left) => s.setCopy tile { c with ports := p, owed := left, life := .marked }
  if c.life = .running ∧ s.copyMarked tile ∧ c.flights.all (fun f => f.rest.isEmpty)
      ∧ s.accs.all (fun a => !mine a || (match a.st with | .done _ => true | .dropped => true | _ => false)) then
    .next (go { s with accs := s.accs.filter (fun a => !(mine a && a.act == Act.read)) } c c.ports.wiredOuts)
  else if c.life = .marked ∧ !c.owed.isEmpty then .next (go s c c.owed)
  else .next s

/-- R201, R367: a paused copy continues from its watermark. -/
def State.resumeCopy (s : State) (tile flight : Nat) : State :=
  let c := s.copyEng tile
  s.setCopy tile { c with flights := c.flights.map (fun f => if f.id = flight then { f with paused := none } else f) }

end Sys2Proof.Machine
end

