-- ==== Sys2Proof/Machine/Barrier.lean ====
section
/-! DEFINITION. Barriers (spec/08 R207, R208; spec/18 R382 to R389), SIGSEND and EVENT (spec/08 R211). -/

namespace Sys2Proof.Machine

abbrev cBarBusy : Byte := 0x20
abbrev cBarDead : Byte := 0x21
abbrev cBarOver : Byte := 0x22

/-! The object (R383). -/

/-- R383: a barrier object. -/
structure BarObj where
  st       : BitVec 2
  expected : Nat
  arrived  : Nat
  phase    : Word
  saved    : Nat
  waiters  : Nat
  /-- R400: STATE 11 or a reserved bit that is not 0. -/
  bad      : Bool := false
  deriving DecidableEq, Repr

/-- R383: the object in memory; while UNINIT, words 1 to 3 count as 0. -/
def Memory.barrier (m : Memory) (pa : Nat) : BarObj :=
  let w0 := m.word pa
  let resv := fldN w0 16 14 != 0
  if fldN w0 30 2 = 0 then { st := 0, expected := fldN w0 0 16, arrived := 0, phase := 0, saved := 0, waiters := 0, bad := resv }
  else
    let w1 := m.word (pa + 4)
    let w3 := m.word (pa + 12)
    { st := fld w0 30 2, expected := fldN w0 0 16, arrived := fldN w1 0 16, phase := m.word (pa + 8), saved := fldN w3 9 9
      waiters := fldN w3 0 9, bad := resv || fldN w0 30 2 == 3 || fldN w1 16 16 != 0 || fldN w3 18 14 != 0 }

/-- R383: the object's four words. -/
def BarObj.words (o : BarObj) : List Word :=
  [Word.ofNat (o.st.toNat * 2 ^ 30 + o.expected % 2 ^ 16), Word.ofNat (o.arrived % 2 ^ 16), o.phase,
    Word.ofNat (o.saved % 512 * 512 + o.waiters % 512)]

/-- Store an object. -/
def Memory.setBarrier (m : Memory) (pa : Nat) (o : BarObj) : Memory := m.writeWords pa o.words

/-- R207: the state word of BARQ. -/
def BarObj.stateWord (o : BarObj) : Word :=
  Word.ofNat (o.st.toNat * 2 ^ 30 + (o.saved + o.waiters) * 2 ^ 21 + o.arrived)

/-- R385, R400: the verdict of an operation: 0 to accept. -/
def BarObj.verdict (o : BarObj) (opc : Byte) (count : Word) (chan : Bool) : Byte :=
  if o.bad then cBarDead
  else match opc.toNat with
  | 0xD0 => if o.waiters + o.saved ≠ 0 then cBarBusy else if count = 0 ∨ 65535 < count.toNat then cBarOver else 0
  | 0xD1 =>
    if o.st ≠ 1 then cBarDead
    else if chan ∧ o.arrived + 1 < o.expected ∧ o.waiters + o.saved = 256 then cBarOver else 0
  | _ => 0

/-- R386: the arrival completes the phase. -/
def BarObj.completes (o : BarObj) : Bool := o.arrived + 1 == o.expected

/-- R385, R386: the object after an accepted operation; `park` when an arrival that does not complete leaves a waiter. -/
def BarObj.after (o : BarObj) (opc : Byte) (count : Word) (park : Bool) : BarObj :=
  match opc.toNat with
  | 0xD0 => { st := 1, expected := count.toNat, arrived := 0, phase := 0, saved := 0, waiters := 0 }
  | 0xD1 =>
    if o.completes then { o with arrived := 0, phase := o.phase + 1, waiters := 0 }
    else { o with arrived := o.arrived + 1, waiters := if park then o.waiters + 1 else o.waiters }
  | 0xD2 => { o with st := 2, arrived := 0, waiters := 0 }
  | _ => o

/-! Issue (R207, R208). -/

/-- A control token. -/
def Put.isCo : Put → Bool
  | .co _ => true
  | _ => false

/-- R207: a barrier instruction: checks of R182 with size 16, permission a and the barrier kind; it takes nothing until its
verdict is accepted. -/
def State.barElem (s : State) (el rule : Nat) (opc : Byte) (d a : BitVec 5) (b : Option (BitVec 5)) (w : BitVec 3) (sc : BitVec 2) : State :=
  let e := s.elem el
  let q : Req := { d := d, a := some a, b := b }
  match e.input q with
  | none => s
  | some x =>
    let l := deliver d Tag.data x.a.data
    if !e.portRoom rule l then s
    else
      let task := s.taskOfElem el
      let ctx := s.ctxOfTask task
      let win := s.window task w
      let off := x.a.data.toNat
      match s.check el ctx win win.a (some .barrier) [{ off := off, size := 16, act := .read }] with
      | (.withdraw, s') => s'
      | (.fail code o, s') => s'.abortRule el (memFault code rule x w win o)
      | (.ok sts, s') =>
        match sts with
        | .ready pa :: _ =>
          let op : BarOp := { id := s'.fresh, el := el, pend := e.nextId, task := task, opc := opc, pa := pa, va := win.base + off
                              count := x.b.data, opa := x.a.data, ends := takes q.a q.b, win := w, off := off, scope := sc
                              left := flitHome (tileOfElem el) pa
                              dchan := if dChan d then some (d.toNat - 8) else none }
          let job : Job := if opc = 0xD1 then .barWait op.id (s'.owing el sc) else .bar op.id
          { s'.setElem el ((s'.elem el).suspend rule (l ++ e.everyCo rule) { id := 0, rule := 0, dst := d, port := true, job := job }) with
            bars := s'.bars ++ [op]
            fresh := s'.fresh + 1 }
        | _ => s'

/-- A barrier instruction. -/
def State.barForm (s : State) (opc : Byte) (d a : BitVec 5) (b : Option (BitVec 5)) (w : BitVec 3) (sc : BitVec 2) : Out :=
  match s.cur with
  | .rule el rule => .next (s.barElem el rule opc d a b w sc)
  | _ => .next s

/-- BARINIT (R207, R385). -/
def execBarinit (d a b : BitVec 5) (w : BitVec 3) (sc : BitVec 2) (s : State) : Out := s.barForm 0xD0 d a (some b) w sc
/-- BARARR (R208, R386). -/
def execBararr (d a : BitVec 5) (w : BitVec 3) (sc : BitVec 2) (s : State) : Out := s.barForm 0xD1 d a none w sc
/-- BARKILL (R207, R385). -/
def execBarkill (d a : BitVec 5) (w : BitVec 3) (sc : BitVec 2) (s : State) : Out := s.barForm 0xD2 d a none w sc
/-- BARQ (R207). -/
def execBarq (d a : BitVec 5) (w : BitVec 3) (sc : BitVec 2) (s : State) : Out := s.barForm 0xD3 d a none w sc

/-- R207: the element waits for a verdict and fires no rule. -/
def Elem.barred (e : Elem) : Bool :=
  e.pend.any (fun (p : Pend) => match p.job with
    | .bar _ => true
    | .barWait _ _ => true
    | _ => false)

/-- R340: the task of an element is leaving. -/
def State.leaving (s : State) (task : Nat) : Bool :=
  match s.task? task with
  | some t => t.ending.isSome || t.final.isSome
  | none => false

/-- BARARR_SEND (R208): the arrival is sent once the earlier operations of its element have performed at its scope; that of
a task that is leaving never is (R389). -/
def execBararrSend (el id : Nat) (s : State) : Out :=
  let e := s.elem el
  match e.pend? id with
  | none => .next s
  | some p =>
    match p.job with
    | .barWait op waits =>
      let scope := ((s.bars.find? (fun o => o.id == op)).map (fun o => o.scope)).getD 0
      if s.settled waits scope ∧ !s.behind el id ∧ !s.leaving (s.taskOfElem el) then
        .next { s.setElem el (e.setJob id (.bar op)) with
          bars := s.bars.map (fun o => if o.id = op then { o with left := flitHome (tileOfElem el) o.pa } else o) }
      else .next s
    | _ => .next s

/-! The home (R384 to R386, R389). -/

/-- The operation has been sent to the home: its element waits for the verdict and no operation of its port queue stands
before it (R186), or its task was aborted (R389). -/
def State.barSent (s : State) (o : BarOp) : Bool :=
  o.orphan || (match (s.elem o.el).pend? o.pend with
    | some p => p.job == .bar o.id && !s.behind o.el o.pend
    | none => false)

/-- R386: release tokens for every parked waiter of an object; they leave in the round after the verdict. -/
def State.release (s : State) (pa : Nat) (t : Token) : State :=
  { s with
    waiters := s.waiters.filter (fun w => w.pa != pa)
    releases := s.releases ++ ((s.waiters.filter (fun w => w.pa == pa)).map (fun w =>
      { el := w.el, pend := w.pend, tok := t, left := flitHome (tileOfElem w.el) pa + 1 })) }

/-- BARRIER_HOME_OP (R384 to R386): the home takes one operation, gives its verdict and acts on the object. -/
def execBarrierHomeOp (op : Nat) (s : State) : Out :=
  match s.bars.find? (fun o => o.id == op) with
  | none => .next s
  | some o =>
    if o.verdict.isSome ∨ !s.barSent o then .next s
    else if s.poisoned o.pa 16 false then .next ({ s with bars := s.bars.filter (fun b => b.id != op) }.eccFail o.task o.pa 16)
    else
      let obj := s.mem.barrier o.pa
      let chan := o.dchan.isSome
      let code := obj.verdict o.opc o.count chan
      let set := fun (s : State) => { s with
        bars := if o.orphan then s.bars.filter (fun b => b.id != op)
          else s.bars.map (fun b => if b.id = op then
            { b with verdict := some (code, obj.stateWord), left := flitHome (tileOfElem o.el) o.pa } else b) }
      if code ≠ 0 then .next (set s)
      else
        let park := chan && !o.orphan
        let s1 := if o.opc = 0xD3 then s.noteBytes o.pa 16
          else { s.noteBytes o.pa 16 with mem := s.mem.setBarrier o.pa (obj.after o.opc o.count park) }.rewritten o.pa 16
        if o.opc = 0xD2 then .next (set (s1.release o.pa ⟨obj.phase, Tag.abort⟩))
        else if o.opc = 0xD1 then
          if obj.completes then
            let s2 := s1.release o.pa ⟨obj.phase + 1, Tag.data⟩
            let own : Release := { el := o.el, pend := o.pend, tok := ⟨obj.phase + 1, Tag.data⟩, left := flitHome (tileOfElem o.el) o.pa + 1 }
            .next (set (if park then { s2 with releases := s2.releases ++ [own] } else s2))
          else if park then
            .next (set { s1 with
              waiters := s1.waiters ++ [{ pa := o.pa, va := o.va, el := o.el, pend := o.pend, task := o.task, phase := obj.phase }] })
          else .next (set s1)
        else .next (set s1)

/-- R207: the accepted rule commits: it takes its tokens and its control tokens go. -/
def Elem.barCommit (e : Elem) (id : Nat) (ends : List Nat) : Elem :=
  match e.pend? id with
  | none => e
  | some p =>
    let e1 := p.puts.foldl Elem.leave (e.fireTakes p.rule.toNat ends)
    let e2 := (p.puts.filter Put.isCo).foldl (fun e x => e.putHeld id x) e1
    { e2 with pend := e2.pend.map (fun y => if y.id = id then { y with puts := y.puts.filter (fun x => !x.isCo) } else y) }

/-- BARRIER_VERDICT (R207, R208): the verdict reaches the element: its rule commits, or aborts with the verdict's code. -/
def execBarrierVerdict (op : Nat) (s : State) : Out :=
  match s.bars.find? (fun o => o.id == op) with
  | none => .next s
  | some o =>
    match o.verdict with
    | none => .next s
    | some (code, word) =>
      let e := s.elem o.el
      let s1 := { s with bars := s.bars.filter (fun b => b.id != op) }
      match e.pend? o.pend with
      | none => .next s1
      | some p =>
        if code ≠ 0 then
          .next ((s1.setElem o.el (e.cancel o.pend)).abortRule o.el
            { code := code, rule := p.rule, w := o.win, vav := true, opa := o.opa, opb := o.count
              offset := Word.ofNat o.off, va := BitVec.ofNat 64 o.va })
        else
          let e1 := e.barCommit o.pend o.ends
          let e2 := if o.opc = 0xD1 ∧ o.dchan.isSome then e1.setJob o.pend .barPark
            else e1.finish o.pend (if o.opc = 0xD3 then some word else none) false
          .next (s1.setElem o.el e2)

/-- R386: a release token enters the end that its waiter holds reserved. -/
def State.deliverRelease (s : State) (r : Release) : State :=
  let e := s.elem r.el
  match e.pend? r.pend with
  | some p =>
    if p.job = .barPark then
      { s.setElem r.el (e.finish r.pend (some r.tok.data) (r.tok.tag == Tag.abort)) with releases := s.releases.filter (fun x => x != r) }
    else s
  | none => { s with releases := s.releases.filter (fun x => x != r) }

/-! Waiters under pre-emption, abort and restore (R387 to R389). -/

/-- R385, R421: the home changes an object for a task; an uncorrectable group ends the task instead. -/
def State.onBarrier (s : State) (task pa : Nat) (f : BarObj → BarObj) : State :=
  if s.poisoned pa 16 false then s.eccFail task pa 16
  else { s.noteBytes pa 16 with mem := s.mem.setBarrier pa (f (s.mem.barrier pa)) }.rewritten pa 16

/-- R387: the waiters of a marked element move from WAITERS to SAVED. -/
def State.saveWaiters (s : State) (el : Nat) : State × List Waiter :=
  let mine := s.waiters.filter (fun w => w.el == el)
  (mine.foldl (fun s w => s.onBarrier w.task w.pa (fun o => { o with waiters := o.waiters - 1, saved := o.saved + 1 }))
    { s with waiters := s.waiters.filter (fun w => w.el != el) }, mine)

/-- R389: the waiters of an aborted task leave their barriers; its unsent arrivals are discarded, its sent ones orphaned, a
verdict on its way and a release token for it are sent nowhere. A release to a parked waiter still enters its end (R331). -/
def State.dropWaiters (s : State) (task : Nat) : State :=
  let mine := s.waiters.filter (fun w => w.task == task)
  mine.foldl (fun s w => s.onBarrier w.task w.pa (fun o => { o with waiters := o.waiters - 1 }))
    { s with
      waiters := s.waiters.filter (fun w => w.task != task)
      releases := s.releases.filter (fun r => !s.bars.any (fun o => o.task == task && o.el == r.el && o.pend == r.pend))
      bars := (s.bars.filter (fun o => !(o.task == task && (!s.barSent o || (o.opc == 0xD1 && o.verdict.isSome))))).map
        (fun o => if o.task = task ∧ o.opc = 0xD1 then { o with orphan := true } else o) }

/-- The physical address that a context's page tables give a virtual address now. -/
def State.lookup (s : State) (ctx va : Nat) : Option Nat :=
  match walkFrom s.mem va [1, 2, 3] (s.ctx ctx).ptroot.toNat with
  | some (_, e, big) => some (pteAddr e + va % (if big then 2 ^ 28 else 2 ^ 16))
  | none => none

/-- R421, R422: the page-table entry on the way to a virtual address that cannot be corrected. -/
def State.tableEcc (s : State) (ctx va : Nat) : Option Nat :=
  (walkReads s.mem va [1, 2, 3] (s.ctx ctx).ptroot.toNat).find? (fun a => s.poisoned a 8 false)

/-- R388: a saved waiter of a restored element is presented to the home of its object. -/
def State.restoreWaiter (s : State) (w : Waiter) : State :=
  let pa := (s.lookup (s.ctxOfTask w.task) w.va).getD w.pa
  let o := s.mem.barrier pa
  let tell := fun (s : State) (t : Token) =>
    { s with releases := s.releases ++ [{ el := w.el, pend := w.pend, tok := t, left := flitHome (tileOfElem w.el) pa }] }
  if (s.tableEcc (s.ctxOfTask w.task) w.va).isSome then s.eccFail w.task ((s.tableEcc (s.ctxOfTask w.task) w.va).getD 0) 8
  else if s.poisoned pa 16 false then s.eccFail w.task pa 16
  else if o.phase ≠ w.phase then
    tell (s.onBarrier w.task pa (fun o => { o with saved := o.saved - 1 })) ⟨w.phase + 1, Tag.data⟩
  else if o.st = 1 then
    { s.onBarrier w.task pa (fun o => { o with saved := o.saved - 1, waiters := o.waiters + 1 }) with
      waiters := s.waiters ++ [{ w with pa := pa }] }
  else
    tell (if o.st = 2 then s.onBarrier w.task pa (fun o => { o with saved := o.saved - 1 }) else s) ⟨w.phase, Tag.abort⟩

/-- R389: the saved state of a task is released: SAVED falls by one for each saved waiter. -/
def State.forgetWaiter (s : State) (w : Waiter) : State :=
  let pa := (s.lookup (s.ctxOfTask w.task) w.va).getD w.pa
  match s.tableEcc (s.ctxOfTask w.task) w.va with
  | some a => s.eccFail w.task a 8
  | none => s.onBarrier w.task pa (fun o => if o.st = 0 then o else { o with saved := o.saved - 1 })

/-! SIGSEND and EVENT (R211). -/

/-- SIGSEND (R211): the signal leaves for the controller of a region of the span; its token waits for acceptance. -/
def execSigsend (d a b : BitVec 5) (h : BitVec 4) (s : State) : Out :=
  match s.cur with
  | .rule el rule =>
    let e := s.elem el
    let q : Req := { d := d, a := some a, b := some b }
    match e.input q with
    | none => .next s
    | some x =>
      let l := deliver d Tag.data x.b.data
      if !e.portRoom rule l then .next s
      else
        match s.spanOf (s.taskOfElem el) with
        | (r, c, rows, cols) =>
          match (spanRegions r c rows cols)[x.a.data.toNat]? with
          | none => .next (s.abortWith el rule cCfgField x)
          | some reg =>
            let g : Signal := { id := s.fresh, region := reg, h := h, payload := x.b.data, fab := false, sender := el, reply := e.nextId
                                left := flitDelay (tileOfElem el) (etileOf reg) }
            .next { s.setElem el (e.issuePort rule q l (.signal reg h x.b.data) true) with
              signals := s.signals ++ [g]
              fresh := s.fresh + 1 }
  | _ => .next s

/-- EVENT (R211): waits in the port queue until its record is written. -/
def execEvent (d a b : BitVec 5) (s : State) : Out :=
  match s.cur with
  | .rule el rule =>
    let e := s.elem el
    let q : Req := { d := d, a := some a, b := some b }
    match e.input q with
    | none => .next s
    | some x =>
      let l := deliver d Tag.data 0
      if !e.portRoom rule l then .next s
      else .next (s.setElem el (e.issuePort rule q l (.event x.a.data x.b.data) true))
  | _ => .next s

end Sys2Proof.Machine
end

