-- ==== Sys2Proof/Machine/Fetch.lean ====
section
/-! DEFINITION. Which action word a chosen rule or walk executes (spec/03 R70, R74; spec/13 R310), and the placing of a
word that the next step runs (notes/assumptions/6). -/

namespace Sys2Proof.Machine

/-- R111: the action word of a rule. -/
def State.ruleWord (s : State) (el rule : Nat) : Word := (s.elem el).actions[rule % 16]'(Nat.mod_lt _ (by decide))

/-- R310: rule `k` of a Loupe program is ready for a walk with predicates `p`. -/
def walkReady (l : Loupe) (p : BitVec 8) (k : Nat) : Bool :=
  let g := l.guards[k % 16]'(Nat.mod_lt _ (by decide))
  fldN g 0 1 == 1 && (p &&& fld g 24 8) == (fld g 16 8 &&& fld g 24 8)

/-- R310: the ready rule of least PRIO, and among those the lowest index. -/
def walkRule (l : Loupe) (p : BitVec 8) : Option Nat :=
  let ready := (List.range 16).filter (walkReady l p)
  ready.foldl (fun best k =>
    match best with
    | none => some k
    | some j =>
      if fldN (l.guards[k % 16]'(Nat.mod_lt _ (by decide))) 2 2 < fldN (l.guards[j % 16]'(Nat.mod_lt _ (by decide))) 2 2
      then some k else some j) none

/-- The action word of a Loupe program's rule. -/
def State.walkWord (s : State) (t rule : Nat) : Word := (s.loupe t).actions[rule % 16]'(Nat.mod_lt _ (by decide))

/-- The word `w` as rule 0 of element `el`, valid and unconditional, its ends connected and a DATA token of value 0 at
every input head; nothing else of the element changes. -/
def Elem.place (e : Elem) (w : Word) : Elem :=
  { e with
    guards := e.guards.set 0 1
    actions := e.actions.set 0 w
    life := .running
    ports :=
      { e.ports with
        ins := Vector.replicate 8 { wired := true, buf := [⟨0, Tag.data⟩] }
        outs := Vector.replicate 8 { wired := true } } }

/-- The word `w` as rule 0 of a Loupe whose slot 0 holds a running walk. -/
def Loupe.place (l : Loupe) (w : Word) : Loupe :=
  { l with
    on := true
    limit := 1
    guards := l.guards.set 0 1
    actions := l.actions.set 0 w
    slots := l.slots.set 0 { st := .running } }

/-- The state whose very next step runs the action word `w`: a walk-group word in the Loupe of region 0, any other in
element e0 of the first C-tile of region 0. -/
def State.placeWord (s : State) (w : Word) : State :=
  if 0xF0 ≤ fldN w 24 8 ∧ fldN w 24 8 ≤ 0xF7 then
    { s.setLoupe 0 ((s.loupe 0).place w) with agenda := .walk 0 0 :: s.agenda }
  else { s.setElem 16 ((s.elem 16).place w) with agenda := .fire 16 0 :: s.agenda }

end Sys2Proof.Machine
end

