-- ==== Sys2Proof/Machine/Move.lean ====
section
/-! DEFINITION. The move and predicate group, 0x00 to 0x12 (spec/06 R140 to R148). -/

namespace Sys2Proof.Machine

/-- NOP (R148): only the predicate update. -/
def execNop (i : BitVec 3) (p : BitVec 2) (s : State) : Out :=
  s.gen { i := i, p := p } (fun _ => .done [] false {})

/-- MOV (R141). Its flag is R140's, a nonzero value (DEDUCED, log 87). -/
def execMov (d a : BitVec 5) (i : BitVec 3) (p : BitVec 2) (t : BitVec 4) (s : State) : Out :=
  s.gen { d := d, a := some a, i := i, p := p } (fun x => ret d t x.a.data (nz x.a.data))

/-- PASS (R141): the head token of A with its own tag. -/
def execPass (d a : BitVec 5) (i : BitVec 3) (p : BitVec 2) (s : State) : Out :=
  s.genE { d := d, a := some a, i := i, p := p } (fun x => ret d x.a.tag x.a.data (isStop x.a))

/-- DROP (R141): takes the head token of A. -/
def execDrop (a : BitVec 5) (i : BitVec 3) (p : BitVec 2) (s : State) : Out :=
  s.genE { a := some a, i := i, p := p } (fun x => .done [] (isStop x.a) {})

/-- SEL (R142): A or B by p(PI) as read. -/
def execSel (d a b : BitVec 5) (i : BitVec 3) (p : BitVec 2) (t : BitVec 4) (s : State) : Out :=
  s.gen { d := d, a := some a, b := some b, i := i, p := p } (fun x =>
    let sel := x.p.getLsbD i.toNat
    ret d t (if sel then x.a.data else x.b.data) sel)

/-- STEER (R143): the token of A on o(k) or o(k xor 1); both need a free entry. -/
def execSteer (d a b : BitVec 5) (i : BitVec 3) (p : BitVec 2) (s : State) : Out :=
  match s.cur with
  | .rule el rule =>
    let k := d.toNat % 8
    let other : Nat := k ^^^ 1
    let e := s.elem el
    if 1 ≤ (e.ports.outAt k).room ∧ 1 ≤ (e.ports.outAt other).room then
      .next (s.genElem el rule { d := d, a := some a, b := some b, i := i, p := p } (fun x =>
        let on := x.b.data != 0
        .done [.out (BitVec.ofNat 3 (if on then k else other)) [x.a]] on {}))
    else .next s
  | _ => .next s

/-- TAGOF (R144). -/
def execTagof (d a : BitVec 5) (i : BitVec 3) (p : BitVec 2) (t : BitVec 4) (s : State) : Out :=
  s.genE { d := d, a := some a, i := i, p := p } (fun x => ret d t (BitVec.ofNat 32 x.a.tag.toNat) (isStop x.a))

/-- MKTAG (R144): aborts with CFG_FIELD on a tag that may not enter a channel. -/
def execMktag (d a b : BitVec 5) (i : BitVec 3) (p : BitVec 2) (s : State) : Out :=
  s.genE { d := d, a := some a, b := some b, i := i, p := p } (fun x =>
    let t : Tag := fld x.b.data 0 4
    if tagOk t then ret d t x.a.data (nz x.a.data) else .abort 0x02)

/-- A predicate operation on p(A) and p(B). -/
def predOp (d a b : BitVec 5) (i : BitVec 3) (p : BitVec 2) (t : BitVec 4) (f : Bool → Bool → Bool) (s : State) : Out :=
  s.gen { d := d, i := i, p := p } (fun x =>
    let r := f (x.p.getLsbD (a.toNat % 8)) (x.p.getLsbD (b.toNat % 8))
    ret d t (Word.ofBool r) r)

/-- PAND (R145). -/
def execPand (d a b : BitVec 5) (i : BitVec 3) (p : BitVec 2) (t : BitVec 4) (s : State) : Out :=
  predOp d a b i p t (fun x y => x && y) s
/-- POR (R145). -/
def execPor (d a b : BitVec 5) (i : BitVec 3) (p : BitVec 2) (t : BitVec 4) (s : State) : Out :=
  predOp d a b i p t (fun x y => x || y) s
/-- PXOR (R145). -/
def execPxor (d a b : BitVec 5) (i : BitVec 3) (p : BitVec 2) (t : BitVec 4) (s : State) : Out :=
  predOp d a b i p t (fun x y => x ^^ y) s
/-- PNOT (R145). -/
def execPnot (d a : BitVec 5) (i : BitVec 3) (p : BitVec 2) (t : BitVec 4) (s : State) : Out :=
  predOp d a 0 i p t (fun x _ => !x) s
/-- PMOV (R145). -/
def execPmov (d a : BitVec 5) (i : BitVec 3) (p : BitVec 2) (t : BitVec 4) (s : State) : Out :=
  predOp d a 0 i p t (fun x _ => x) s

/-- PTOD (R145). -/
def execPtod (d : BitVec 5) (i : BitVec 3) (p : BitVec 2) (t : BitVec 4) (s : State) : Out :=
  s.gen { d := d, i := i, p := p } (fun x =>
    let r : Word := BitVec.ofNat 32 x.p.toNat
    ret d t r (nz r))

/-- DTOP (R145). -/
def execDtop (a : BitVec 5) (s : State) : Out :=
  s.gen { a := some a } (fun x => .done [.pAll (fld x.a.data 0 8)] false {})

/-- R146: one step of counter l(k): the index, whether it is the last, the level and data of the stop (0 for none), and
the counters written. -/
def iterStep (l : Vector Counter 2) (k : Nat) : Word × Bool × Nat × Word × List Put :=
  let c := l[k % 2]'(Nat.mod_lt _ (by decide))
  let last := c.value == c.bound - 1
  let own : Put := .l (BitVec.ofNat 1 k) { c with value := if last then 0 else c.value + 1 }
  let lvl := if last then c.wlevel.toNat else 0
  let sdata := if lvl = 0 then 0 else c.bound
  if last ∧ k = 0 ∧ l[0].chain = 1 then
    if l[1].value == l[1].bound - 1 then
      (c.value, last, max lvl l[1].wlevel.toNat, if lvl < l[1].wlevel.toNat then l[1].bound else sdata,
        [own, .l 1 { l[1] with value := 0 }])
    else (c.value, last, lvl, sdata, [own, .l 1 { l[1] with value := l[1].value + 1 }])
  else (c.value, last, lvl, sdata, [own])

/-- R146: free entries that ITER needs on a channel destination, fixed by the image. -/
def iterRoom (l : Vector Counter 2) (k : Nat) : Nat :=
  if (l[k % 2]'(Nat.mod_lt _ (by decide))).wlevel ≠ 0 ∨ (k = 0 ∧ l[0].chain = 1 ∧ l[1].wlevel ≠ 0) then 2 else 1

/-- ITER (R146): the index with LAST or DATA, and on a channel the stop that follows it. -/
def execIter (d a : BitVec 5) (i : BitVec 3) (p : BitVec 2) (s : State) : Out :=
  match s.cur with
  | .rule el rule =>
    let k := a.toNat % 2
    let e := s.elem el
    if dChan d ∧ (e.ports.outAt (d.toNat - 8)).room < iterRoom e.l k then .next s
    else
      .next (s.genElem el rule { d := d, i := i, p := p } (fun x =>
        match iterStep x.l k with
        | (idx, last, lvl, sdata, ctrs) =>
          let tag : Tag := if last then Tag.last else Tag.data
          let toks := if dChan d ∧ lvl ≠ 0 then [⟨idx, tag⟩, ⟨sdata, BitVec.ofNat 4 (1 + lvl)⟩] else [(⟨idx, tag⟩ : Token)]
          let res := if dChan d then [Put.out (BitVec.ofNat 3 (d.toNat - 8)) toks] else deliver d tag idx
          .done (res ++ ctrs) last {}))
  | _ => .next s

/-- CNTRD (R147). -/
def execCntrd (d a : BitVec 5) (i : BitVec 3) (p : BitVec 2) (t : BitVec 4) (s : State) : Out :=
  s.genE { d := d, i := i, p := p } (fun x =>
    let c := x.l[a.toNat % 2]'(Nat.mod_lt _ (by decide))
    ret d t c.value (c.value == c.bound - 1))

/-- CNTSET (R147): aborts with CFG_FIELD on 0. -/
def execCntset (d a : BitVec 5) (i : BitVec 3) (p : BitVec 2) (s : State) : Out :=
  s.genE { d := 24, a := some a, i := i, p := p } (fun x =>
    if x.a.data = 0 then .abort 0x02
    else
      let k := (d.toNat + 1) % 2
      let c := x.l[k % 2]'(Nat.mod_lt _ (by decide))
      .done [.l (BitVec.ofNat 1 k) { c with bound := x.a.data, value := 0 }] false {})

/-- HALT (R148): the element is HALTED at the end of the round; a freeze of the same round stands first. -/
def execHalt (s : State) : Out :=
  match s.cur with
  | .rule el rule =>
    let t := s.genElem el rule {} (fun _ => .done [] false {})
    let e := t.elem el
    if (s.elem el).roomFor ((s.elem el).allPuts rule {} [] false) then
      .next (t.setElem el { e with halted := true, life := if e.life = .frozen then .frozen else .halted })
    else .next s
  | _ => .next s

end Sys2Proof.Machine
end

