-- ==== Sys2Proof/Machine/Foot.lean ====
section
/-! DEFINITION. What a rule tests, reads, writes and needs room for, from its words alone; compatibility; readiness and
the choice of the Prism (spec/03 R66 to R73; spec/06 R138; spec/07 R162; spec/09 R223). -/

namespace Sys2Proof.Machine

/-- R73: a location. -/
inductive Place where
  | d (k : Nat)
  | p (k : Nat)
  | l (k : Nat)
  | sg
  /-- The head of an input end; of a control input end. -/
  | inp (k : Nat)
  | cin (k : Nat)
  /-- The tail of an output end; of a control output end. -/
  | out (k : Nat)
  | cout (k : Nat)
  deriving DecidableEq, Repr

/-- R73: the static sets of a rule, and the entries it may need on each output end (R68 item 2). -/
structure Foot where
  reads  : List Place := []
  writes : List Place := []
  room   : List (Nat × Nat) := []
  deriving DecidableEq, Repr

/-- The union of two footprints. -/
def Foot.and (a b : Foot) : Foot := { reads := a.reads ++ b.reads, writes := a.writes ++ b.writes, room := a.room ++ b.room }

/-- Opcode of an action word. -/
def opcOf (w : Word) : Nat := fldN w 24 8

/-- R111: opcodes whose A field is no operand. -/
def noA (op : Nat) : Bool :=
  [0x00, 0x0D, 0x12, 0xAA, 0xC9, 0xCA, 0xCB, 0xDE, 0xDF, 0xE3, 0xFA, 0xFB, 0xFC, 0xFE].contains op

/-- R111: opcodes whose B field is no operand. -/
def noB (op : Nat) : Bool :=
  decide (op ≤ 0x03) || op == 0x06 || decide (0x0B ≤ op ∧ op ≤ 0x12) || [0x26, 0x27, 0x35].contains op
    || decide (0x3A ≤ op ∧ op ≤ 0x3D) || [0x53, 0x66, 0x67, 0x6D].contains op || decide (0x6F ≤ op ∧ op ≤ 0x77)
    || decide (0x84 ≤ op ∧ op ≤ 0x86) || op == 0x96 || decide (0xA0 ≤ op ∧ op ≤ 0xA4) || op == 0xA8 || op == 0xAA
    || decide (0xC9 ≤ op ∧ op ≤ 0xCB) || decide (0xD1 ≤ op ∧ op ≤ 0xD3) || decide (0xD8 ≤ op ∧ op ≤ 0xDA) || op == 0xDF
    || [0xE0, 0xE2, 0xE3, 0xE4, 0xEA, 0xEB].contains op || decide (0xFA ≤ op)

/-- Opcodes whose D field, being 0, names nothing. -/
def noD (op : Nat) : Bool := op == 0x00 || op == 0x12 || op == 0xFA

/-- R138, R162: instructions that also read d(D). -/
def readsD (op : Nat) : Bool :=
  [0x2B, 0x40, 0x4F, 0x50, 0x63, 0x7B, 0x81, 0x8D, 0x8E, 0x8F, 0x90, 0x93, 0x94].contains op

/-- What an operand code contributes (R73, R111). -/
def srcFoot (op : Nat) (code : Nat) : Foot :=
  if 0x08 ≤ op ∧ op ≤ 0x0C then { reads := [.p (code % 8)] }
  else if op = 0x0F ∨ op = 0x10 then { reads := [.l (code % 2)] }
  else if code < 8 then { reads := [.d code] }
  else if code < 16 then { reads := [.inp (code - 8)], writes := [.inp (code - 8)] }
  else if code < 24 then { reads := [.inp (code - 16)] }
  else {}

/-- What the D field contributes. -/
def dstFoot (code n : Nat) : Foot :=
  if code < 8 then { writes := [.d code] }
  else if code < 16 then { writes := [.out (code - 8)], room := [(code - 8, n)] }
  else if code < 24 then { writes := [.p (code - 16)] }
  else if code = 25 then { writes := [.l 0] }
  else if code = 26 then { writes := [.l 1] }
  else {}

/-- R138, R162, R192, R229, R326: locations beyond operands, destination and PO. -/
def extraFoot (l : Vector Counter 2) (w : Word) : Foot :=
  let op := opcOf w
  let d := fldN w 19 5
  let a := fldN w 14 5
  if readsD op then { reads := [.d (d % 8)] }
  else
    match op with
    | 0x04 => { reads := [.p (fldN w 6 3)] }
    | 0x05 => let k := (d - 8) ^^^ 1; { writes := [.out k], room := [(k, 1)] }
    | 0x0D => { reads := (List.range 8).map Place.p }
    | 0x0E => { writes := (List.range 8).map Place.p }
    | 0x0F => { writes := .l (a % 2) :: (if a = 0 ∧ l[0].chain = 1 then [.l 1] else []) }
    | 0xB5 => { reads := [.d (fldN w 0 3)] }
    | 0xD8 => { reads := [.sg], writes := [.sg] }
    | 0xD9 => { reads := [.sg], writes := .sg :: (if fldN w 4 2 = 0 then [] else [.p (fldN w 6 3)]) }
    | 0xFC => if d < 8 then { reads := [.d d, .d (d + 1)], writes := [.d (d + 1)] } else {}
    | _ => {}

/-- R68 item 2: entries that the destination end may take. -/
def dstRoom (l : Vector Counter 2) (w : Word) : Nat :=
  match opcOf w with
  | 0x0F => iterRoom l (fldN w 14 5)
  | 0xD9 => if fldN w 14 5 < 16 then 2 else 1
  | 0xFC => 2
  | _ => 1

/-- R73: the footprint of an action word. -/
def actFoot (l : Vector Counter 2) (w : Word) : Foot :=
  let op := opcOf w
  let a := if noA op then {} else srcFoot op (fldN w 14 5)
  let b := if noB op then {} else srcFoot op (fldN w 9 5)
  let d := if noD op then {} else dstFoot (fldN w 19 5) (dstRoom l w)
  let po : Foot := if op ≤ 0x96 ∧ fldN w 4 2 ≠ 0 then { writes := [.p (fldN w 6 3)] } else {}
  (((a.and b).and d).and po).and (extraFoot l w)

/-- R73: the footprint of a guard word. -/
def guardFoot (g : Word) : Foot :=
  let pm : Foot := { reads := (List.range 8).filterMap (fun k => if fldN g (24 + k) 1 = 1 then some (.p k) else none) }
  let ta : Foot := if fldN g 10 3 = 0 then {} else { reads := [.inp (fldN g 13 3)] }
  let tb : Foot := match fldN g 8 2 with
    | 1 => { reads := [.inp (fldN g 5 3)] }
    | 2 => { reads := [.out (fldN g 5 3)] }
    | 3 => if fldN g 4 2 = 0 then { reads := [.cin (fldN g 6 2)], writes := [.cin (fldN g 6 2)] } else { reads := [.cin (fldN g 6 2)] }
    | _ => {}
  (pm.and ta).and tb

/-- A guard word of an element. -/
def Elem.guardOf (e : Elem) (k : Nat) : Word := e.guards[k % 16]'(Nat.mod_lt _ (by decide))
/-- An action word of an element. -/
def Elem.actOf (e : Elem) (k : Nat) : Word := e.actions[k % 16]'(Nat.mod_lt _ (by decide))

/-- R73: the footprint of a rule, bound control ends included. -/
def Elem.foot (e : Elem) (k : Nat) : Foot :=
  let co : Foot := { writes := (List.range 4).filterMap (fun j =>
    let b := e.binds[j % 4]'(Nat.mod_lt _ (by decide))
    if b.en ∧ b.rule.toNat = k then some (.cout j) else none) }
  ((guardFoot (e.guardOf k)).and (actFoot e.l (e.actOf k))).and co

/-- No common location. -/
def apart (a b : List Place) : Bool := a.all (fun x => !b.contains x)

/-- R73: rules a < b are compatible. -/
def compatible (a b : Foot) : Bool := apart b.reads a.writes && apart a.writes b.writes

/-! Readiness (R66 to R69). -/

/-- R66: the test of a channel head. -/
def headTest (test : Nat) (t : Option Token) (empty : Bool) : Bool :=
  match test, t with
  | 0, _ => true
  | 7, _ => empty
  | 1, some _ => true
  | 2, some t => isData t
  | 3, some t => t.tag == Tag.last
  | 4, some t => t.tag == 2
  | 5, some t => t.tag == 3
  | 6, some t => t.tag == 4 || t.tag == 5
  | _, _ => false

/-- R66, R67: the explicit guard holds. -/
def Elem.guardHolds (e : Elem) (g : Word) : Bool :=
  let i := fldN g 13 3
  let j := fldN g 5 3
  (e.p &&& fld g 24 8) == (fld g 16 8 &&& fld g 24 8)
    && headTest (fldN g 10 3) (e.headTok i) ((e.ports.inAt i).buf.isEmpty)
    && (match fldN g 8 2 with
        | 1 => (match e.headTok j with
            | some t => if fldN g 4 1 = 0 then isData t else isStop t
            | none => false)
        | 2 => decide (fldN g 4 1 + 1 ≤ (e.ports.outAt j).room)
        | 3 => if fldN g 4 2 = 0 then decide (0 < (e.ports.cinAt (fldN g 6 2)).held) else (e.ports.cinAt (fldN g 6 2)).held == 0
        | _ => true)

/-- R68 item 3: a location with a pending write. -/
def Loc.place : Loc → Place
  | .d k => .d k
  | .p k => .p k
  | .l k => .l k
  | .sg => .sg

/-- R75: the locations with a pending write. -/
def Elem.pending (e : Elem) : List Place := e.pend.flatMap (fun p => p.locs.map Loc.place)

/-- R84: the admission rule of a full cycle waits. -/
def Elem.cycleOk (e : Elem) (f : Foot) : Bool :=
  e.cycles.all (fun c => !f.writes.contains (.inp c.entry.toNat) || decide (c.occ.toNat < c.limit.toNat)
    || (match e.headTok c.entry.toNat with
        | some t => !isData t
        | none => true))

/-- R69: the lanes. -/
inductive RLane where
  | move | alu | port
  deriving DecidableEq, Repr

/-- R69: the lane of an opcode. -/
def laneOf (op : Nat) : RLane :=
  if op ≤ 0x0E ∨ op = 0x12 then .move else if op ≤ 0x96 ∨ (0xD8 ≤ op ∧ op ≤ 0xDF) then .alu else .port

/-- R223: Press-group and Hoop-touching segment-group opcodes. -/
def pressOp (op : Nat) : Bool := decide (0xDA ≤ op ∧ op ≤ 0xEB)

/-- R249: the PREAD that an action word gives now. -/
def Elem.preadCmd (e : Elem) (w : Word) : Option PCmd :=
  match e.src? (fld w 9 5) with
  | some b => some (.pread 0 b.data 0 0)
  | none => none

/-- R69, R186, R281: the lane itself is free, the Press grant apart. -/
def Elem.laneFree (e : Elem) (pr : Press) (w : Word) : Bool :=
  let op := opcOf w
  if op = 0x6E ∨ op = 0x6F then
    !e.pend.any (fun p => p.job == .timed && (opcOf (e.actOf p.rule.toNat) == 0x6E || opcOf (e.actOf p.rule.toNat) == 0x6F))
  else if op = 0xE9 then
    match e.preadCmd w with
    | some c => pr.readRoom c
    | none => false
  else if pressOp op then true
  else if 0xA0 ≤ op ∧ !(0xD8 ≤ op ∧ op ≤ 0xDF) then decide (e.portUse < 8) && (op != 0xFA || e.whey.isEmpty)
  else true

/-- Opcodes whose A and B codes name predicates or counters (R111). -/
def plainCodes (op : Nat) : Bool := decide (0x08 ≤ op ∧ op ≤ 0x0C) || op == 0x0F || op == 0x10

/-- R66 to R68: rule `k` is ready, but for the grant of R223. -/
def Elem.readyBut (e : Elem) (pr : Press) (k : Nat) : Bool :=
  let g := e.guardOf k
  let w := e.actOf k
  let f := e.foot k
  fldN g 0 1 == 1 && !e.dis.getLsbD (k % 16) && e.guardHolds g
    && f.reads.all (fun x => match x with
        | .inp _ => true
        | y => !e.pending.contains y)
    && f.writes.all (fun x => !e.pending.contains x)
    && (noA (opcOf w) || (e.src? (fld w 14 5)).isSome || plainCodes (opcOf w))
    && (noB (opcOf w) || (e.src? (fld w 9 5)).isSome || plainCodes (opcOf w))
    && f.room.all (fun r => decide (r.2 ≤ (e.ports.outAt r.1).room))
    && f.writes.all (fun x => match x with
        | .cout j => decide (1 ≤ (e.ports.coutAt j).room)
        | _ => true)
    && e.cycleOk f && e.laneFree pr w

/-- R223: rule `k` is ready, its element holding the grant or not. -/
def Elem.ready (e : Elem) (pr : Press) (grant : Bool) (k : Nat) : Bool :=
  (!pressOp (opcOf (e.actOf k)) || grant) && e.readyBut pr k

/-! The Prism (R70). -/

/-- R70: the order in which ready rules are tried. -/
def Elem.order (e : Elem) : List Nat :=
  let turn := (List.range 16).map (fun j => (e.rot.toNat + j) % 16)
  let urgent := fun (k : Nat) => (e.wait[k % 16]'(Nat.mod_lt _ (by decide))) == 15
  turn.filter urgent
    ++ (List.range 4).flatMap (fun c => turn.filter (fun k => !urgent k && fldN (e.guardOf k) 2 2 == c))

/-- R69: the capacity of a lane. -/
def RLane.cap : RLane → Nat
  | .move => 2
  | _ => 1

/-- R70: one more rule fires when its lane has capacity left and it is compatible with those chosen; a tile's Press accepts
at most one command in a round (R223). -/
def Elem.choose (e : Elem) (fired : List Nat) (k : Nat) : List Nat :=
  let lane := laneOf (opcOf (e.actOf k))
  let used := (fired.filter (fun j => laneOf (opcOf (e.actOf j)) == lane)).length
  let taken := pressOp (opcOf (e.actOf k)) && fired.any (fun j => pressOp (opcOf (e.actOf j)))
  if used < lane.cap ∧ !taken ∧ fired.all (fun j => compatible (e.foot (min j k)) (e.foot (max j k))) then fired ++ [k] else fired

/-- R70: the rules fired in a round. -/
def Elem.prism (e : Elem) (ready : Nat → Bool) : List Nat :=
  let chosen := (e.order.filter ready).foldl e.choose []
  (List.range 16).filter (fun k => chosen.contains k)

/-- R70, R71: ROT and the WAIT counts after the choice. -/
def Elem.turned (e : Elem) (ready : Nat → Bool) (fired : List Nat) : Elem :=
  { e with
    rot := e.rot + 1
    wait := Vector.ofFn (fun (k : Fin 16) =>
      if ready k.val ∧ !fired.contains k.val then (if e.wait[k] = 15 then 15 else e.wait[k] + 1) else 0) }

/-- R223: elements of a tile that ask for the grant, by element number. -/
def State.askers (s : State) (tile : Nat) : List Nat :=
  let pr := s.press tile
  (List.range 16).filter (fun n =>
    let e := s.elem (elemOfTile tile n)
    e.life == .running && (List.range 16).any (fun k => pressOp (opcOf (e.actOf k)) && e.readyBut pr k))

/-- R20, R223: the element granted: the first asker after the one last accepted. -/
def Press.granted (p : Press) (askers : List Nat) : Option Nat :=
  if p.held ≠ 0 ∨ p.throttled then none
  else ((List.range 16).map (fun j => (p.rr + 1 + j) % 16)).find? (fun n => askers.contains n)

end Sys2Proof.Machine
end

