-- ==== Sys2Proof/Machine/Units.lean ====
section
/-! DEFINITION. Stream units (spec/11 R253 to R275). -/

namespace Sys2Proof.Machine

abbrev cNmDup : Byte := 0x40
abbrev cNmRsv : Byte := 0x41

/-! Heads and ends (R253, R254). -/

/-- R254: what a unit reads as data: DATA, LAST, A0 to A3. -/
def unitData (t : Token) : Bool := t.tag == Tag.data || t.tag == Tag.last || decide (8 ≤ t.tag.toNat ∧ t.tag.toNat ≤ 11)

/-- A stop's level. -/
def stopLevel (t : Token) : Nat := t.tag.toNat - 1

/-- A stop token that a unit makes itself (R253). -/
def mkStop (k : Nat) : Token := ⟨0, BitVec.ofNat 4 (k + 1)⟩

/-- A data token. -/
def mkData (w : Word) : Token := ⟨w, Tag.data⟩

/-- A payload word. -/
def SUnit.pw (u : SUnit) (k : Nat) : Word := u.payload.getD k 0

/-- The head of an input. -/
def SUnit.head (u : SUnit) (k : Nat) : Option Token := u.ports.head k

/-- An output is connected. -/
def SUnit.wired (u : SUnit) (k : Nat) : Bool := (u.ports.outAt k).wired

/-- Room on every connected output of a list. -/
def SUnit.room (u : SUnit) (ks : List Nat) : Bool := ks.all (fun k => !u.wired k || decide (1 ≤ (u.ports.outAt k).room))

/-- Take the head of an input; R283 counts it. -/
def SUnit.take (u : SUnit) (k : Nat) : SUnit := { u with ports := u.ports.take k, taken := u.taken + 1 }

/-- Take it with its companion, when that input is connected (R259). -/
def SUnit.take2 (u : SUnit) (k j : Nat) : SUnit := if (u.ports.inAt j).wired then (u.take k).take j else u.take k

/-- R259: the companion's token is there, or the companion is not connected. -/
def SUnit.has (u : SUnit) (j : Nat) : Bool :=
  !(u.ports.inAt j).wired || (match u.head j with
    | some t => !(t.tag == Tag.mark || t.tag == Tag.drain)
    | none => false)

/-- The companion's data. -/
def SUnit.val (u : SUnit) (j : Nat) : Word := ((u.head j).map (fun t => t.data)).getD 0

/-- Enqueue a token on an output, if it is connected; R283 counts it. -/
def SUnit.emit (u : SUnit) (k : Nat) (t : Token) : SUnit :=
  if u.wired k then { u with ports := u.ports.push k t, emitted := u.emitted + 1 } else u

/-- Enqueue one token on every output. -/
def SUnit.emitAll (u : SUnit) (t : Token) : SUnit := (List.range 8).foldl (fun u k => u.emit k t) u

/-- The connected inputs. -/
def SUnit.ins (u : SUnit) : List InEnd := u.ports.ins.toList.filter (fun i => i.wired)

/-- R258: MARK heads every connected input, DRAIN counting as marked. -/
def SUnit.marked (u : SUnit) : Bool := u.ins.all InEnd.markHead && u.ins.any (fun i => !i.drainHead)

/-- R258: DRAIN heads every connected input. -/
def SUnit.drainHeads (u : SUnit) : Bool := u.ins.all InEnd.drainHead

/-- R273: a Splitter's request for a slot is outstanding. -/
def SUnit.asking (u : SUnit) : Bool :=
  match u.st with
  | .split _ _ ask _ _ _ _ _ => ask.isSome
  | _ => false

/-- R253, R258: the unit may take a step; under MARK only to receive the slot it has asked for. -/
def SUnit.live (u : SUnit) : Bool := u.life == .running && (!u.marked || u.asking)

/-- One more element completed. -/
def SUnit.done (u : SUnit) : SUnit := { u with elems := u.elems + 1 }

/-- R257: the unit freezes. -/
def SUnit.freeze (u : SUnit) (f : UFault) : SUnit := { u with life := .frozen, fault := f, unposted := true }

/-- R257: a unit's step fails with a code, at a VA when a memory access fails. -/
def State.unitFreeze (s : State) (k : Nat) (code : Byte) (detail : Nat) (va : Option Nat) (off : Nat) : State :=
  match s.unit? k with
  | some u =>
    s.setUnit k (u.freeze { code := code, detail := BitVec.ofNat 16 detail, vav := va.isSome, va := va.getD 0 % 2 ^ 52
                            offset := Word.ofNat off, stamp := s.cycleOf (regionOfTile (k / 64)) })
  | none => s

/-- R254: the unit stands at an element boundary. -/
def SUnit.boundary (u : SUnit) : Bool :=
  match u.st with
  | .scan _ f => f.isNone
  | .isect => true
  | .rep buf close _ _ _ => buf.isEmpty && close.isNone
  | .red _ flush => flush.isNone
  | .nm g left held => g == 0 && left.isEmpty && !held
  | .aper _ taken _ _ close => taken == 0 && close.isNone
  | .split cur granted ask _ _ wr rd _ => cur.isNone && !granted && ask.isNone && wr.isNone && rd.isNone
  | .coll buf cur _ => cur.isEmpty && !buf.any (fun x => x.1 == fld u.hold 0 16)
  | .whey _ _ _ => true
  | .brine _ _ _ => true

/-- R282: a unit with deferred register writes begins no element before they take effect. -/
def SUnit.held (u : SUnit) : Bool := u.boundary && !u.xctl.isEmpty

/-- R254: an ABORT that heads input `k` passes to every connected output. -/
def SUnit.passAbort (u : SUnit) (k : Nat) (u' : SUnit) : SUnit :=
  match u.head k with
  | some t => if u.room (List.range 8) then u'.emitAll t else u
  | none => u

/-- The heads is an ABORT. -/
def isAbort (t : Token) : Bool := t.tag == Tag.abort

/-! Memory accesses of units (R257, R261). -/

/-- R182: bound, alignment and permission of a unit's access. -/
def unitCheck (w : Window) (perm : Bool) (off size : Nat) : Byte :=
  if w.len < off + size then cWinBound else if (w.base + off) % size ≠ 0 then cAlign else if !perm then cPerm else 0

/-- The window of a unit's task. -/
def State.unitWin (s : State) (k : Nat) (w : Nat) : Window :=
  s.window (s.taskOfRegion (regionOfTile (k / 64))) (BitVec.ofNat 3 w)

/-- Issue accesses of a unit: window, offset, size, action. -/
def State.unitIssue (s : State) (k : Nat) (src : Port) (posted : Bool) (l : List (Window × Nat × Nat × Act)) : State :=
  let reg := regionOfTile (k / 64)
  let task := s.taskOfRegion reg
  { s with
    accs := s.accs ++ l.zipIdx.map (fun x =>
      ({ id := s.fresh + x.2, src := src, ctx := s.ctxOfTask task, task := task, region := reg, opc := 0
         va := x.1.1.base + x.1.2.1, off := x.1.2.1, size := x.1.2.2.1, lane := x.2, act := x.1.2.2.2, posted := posted
         left := flitDelay (k / 64) (etileOf reg) } : Access))
    fresh := s.fresh + l.length }

/-- The unit that an access comes from. -/
def Port.unit? : Port → Option Nat
  | .unit k => some k
  | .root k _ => some k
  | _ => none

/-- A unit's own accesses. -/
def State.unitAccs (s : State) (k : Nat) : List Access := s.accs.filter (fun a => a.src.unit? == some k)

/-- Its reads and atomics. -/
def State.unitReads (s : State) (k : Nat) : List Access := (s.unitAccs k).filter (fun a => !a.act.isWrite)

/-- Drop its reads. -/
def State.dropReads (s : State) (k : Nat) : State :=
  { s with accs := s.accs.filter (fun a => !(a.src == Port.unit k && !a.act.isWrite)) }

/-- R257: a translation fault of an access of the unit freezes it: its reads are made again on resume, and so is the
write that failed. -/
def State.unitFail (s : State) (k : Nat) (a : Access) (code : Byte) : State :=
  let s1 := { s.dropReads k with accs := (s.dropReads k).accs.map (fun (b : Access) => if b.id = a.id then { b with st := .point } else b) }
  s1.unitFreeze k code 0 (some a.va) a.off

/-- The first failed access of a unit. -/
def State.unitFailed (s : State) (k : Nat) : Option (Access × Byte) :=
  ((s.unitAccs k).filter (fun a => !a.posted)).findSome? (fun a => a.failedCode.map (fun c => (a, c)))

/-- The words that a unit's reads returned, once all have. -/
def State.unitWords (s : State) (k : Nat) : Option (List Word) :=
  if (s.unitReads k).all Access.back then
    some ((s.unitReads k).map Access.value) else none

/-! Scanners (R260 to R262). -/

/-- Bytes of a value. -/
def scanVsize (u : SUnit) : Nat := match fldN (u.pw 0) 28 2 with | 1 => 2 | 2 => 4 | _ => 0
/-- Values are read for o2. -/
def scanVals (u : SUnit) : Bool := u.wired 2 && scanVsize u != 0
def scanKind (u : SUnit) : Nat := fldN (u.pw 0) 30 2

/-- R261, R262: the reads the next piece of a fibre needs: window, offset, size. -/
def scanNeeds (u : SUnit) (f : Fibre) : List (Nat × Nat × Nat) :=
  let posw := fldN (u.pw 0) 12 3
  let valw := fldN (u.pw 0) 4 3
  let vs := scanVsize u
  match scanKind u with
  | 0 => if scanVals u then [(valw, (u.pw 3).toNat + vs * f.at_, vs)] else []
  | 1 =>
    if f.known = 0 then [(posw, (u.pw 1).toNat + 4 * f.ref.toNat, 4), (posw, (u.pw 1).toNat + 4 * f.ref.toNat + 4, 4)]
    else (fldN (u.pw 0) 8 3, (u.pw 2).toNat + 4 * f.at_, 4) :: (if scanVals u then [(valw, (u.pw 3).toNat + vs * f.at_, vs)] else [])
  | _ =>
    let base := (u.pw 1).toNat + 128 * (f.ref.toNat + f.line)
    if f.known = 0 then [(posw, base, 4), (posw, base + 4, 4)]
    else if f.at_ < f.hi then
      (posw, base + 8 + 2 * f.at_, 2) :: (if scanVals u then [(posw, base + 48 + 4 * f.at_, 4)] else [])
    else []

/-- R262: a line's control word is legal. -/
def lineOk (c : Word) : Bool :=
  decide (fldN c 0 5 ≤ 20 ∧ fldN c 8 3 ≤ 4 ∧ fldN c 5 3 = 0 ∧ fldN c 11 4 = 0 ∧ fldN c 16 16 = 0 ∧ (fldN c 15 1 = 0 ∨ fldN c 8 3 = 0))

/-- The fibre is over. -/
def SUnit.endFibre (u : SUnit) : SUnit := { u with st := .scan true none }.done

/-- Go on with a fibre. -/
def SUnit.fibre (u : SUnit) (p : Bool) (f : Fibre) : SUnit := { u with st := .scan p (some f) }

/-- R261: a dense or compressed entry, and the fibre after it. -/
def SUnit.scanEntry (u : SUnit) (p : Bool) (f : Fibre) (crd child : Word) (v : Word) : SUnit :=
  let u1 := ((u.emit 0 (mkData crd)).emit 1 (mkData child)).emit 2 (mkData v)
  if f.at_ + 1 < f.hi then u1.fibre p { f with at_ := f.at_ + 1, busy := false } else u1.endFibre

/-- R262: after a line: the next one, or the end of the fibre. -/
def SUnit.nextLine (u : SUnit) (p : Bool) (f : Fibre) : SUnit :=
  if f.last then u.endFibre else u.fibre p { f with line := f.line + 1, known := 0, at_ := 0, hi := 0, busy := false }

/-- R261, R262: one step of a fibre with the words its reads returned; none when it must wait, a code when it freezes. -/
def SUnit.scanStep (u : SUnit) (p : Bool) (f : Fibre) (ws : List Word) : Except Byte (Option SUnit) :=
  let room := u.room [0, 1, 2]
  match scanKind u with
  | 0 =>
    if room then .ok (some (u.scanEntry p f (Word.ofNat (f.at_ - f.lo)) (Word.ofNat f.at_) (ws.headD 0))) else .ok none
  | 1 =>
    if f.known = 0 then
      let lo := (ws.headD 0).toNat
      let hi := ((ws.drop 1).headD 0).toNat
      if hi ≤ lo then .ok (some u.endFibre) else .ok (some (u.fibre p { f with known := 2, at_ := lo, lo := lo, hi := hi, busy := false }))
    else if room then .ok (some (u.scanEntry p f (ws.headD 0) (Word.ofNat f.at_) ((ws.drop 1).headD 0))) else .ok none
  | _ =>
    if f.known = 0 then
      let c := ws.headD 0
      if !lineOk c then .error cCfgField
      else .ok (some (u.fibre p { f with
        known := 1, at_ := 0, hi := fldN c 0 5, base := (ws.drop 1).headD 0, stop := fldN c 8 3, last := fldN c 15 1 == 1, busy := false }))
    else if f.at_ < f.hi then
      if room then
        let u1 := (u.emit 0 (mkData (f.base + ws.headD 0))).emit 2 (mkData ((ws.drop 1).headD 0))
        let f1 := { f with at_ := f.at_ + 1, busy := false }
        .ok (some (if f1.at_ = f1.hi ∧ f1.stop = 0 then u1.nextLine p f1 else u1.fibre p f1))
      else .ok none
    else if f.stop ≠ 0 then
      if room then .ok (some ((u.emitAll (mkStop f.stop)).nextLine p { f with stop := 0 })) else .ok none
    else .ok (some (u.nextLine p f))

/-- R261: the start of a fibre, or a stop, at i0: a step of its own, which waits for no room (DESIGN CHOICE, log 85). -/
def SUnit.scanHead (u : SUnit) (p : Bool) : SUnit :=
  match u.head 0 with
  | none => u
  | some t =>
    if isAbort t then u.passAbort 0 (u.take 0)
    else if unitData t then
      if p then (if u.room (List.range 8) then { u.emitAll (mkStop 1) with st := .scan false none } else u)
      else
        let n := (u.pw 1).toNat
        let f : Fibre := if scanKind u = 0 then { ref := t.data, at_ := t.data.toNat * n, lo := t.data.toNat * n, hi := t.data.toNat * n + n }
          else { ref := t.data }
        (u.take 0).fibre false f
    else if isStop t then
      if u.room (List.range 8) then { (u.take 0).emitAll (mkStop (min (stopLevel t + 1) 4)) with st := .scan false none } else u
    else if t.tag == Tag.drain ∧ p then
      if u.room (List.range 8) then { u.emitAll (mkStop 1) with st := .scan false none } else u
    else u

/-- SCANNER_STEP (R261, R262). -/
def execScannerStep (unit : Nat) (s : State) : Out :=
  match s.unit? unit with
  | none => .next s
  | some u =>
    match u.st with
    | .scan p fib =>
      if !u.live ∨ u.held then .next s
      else
        match fib with
        | none => .next (s.setUnit unit (u.scanHead p))
        | some f =>
          match s.unitFailed unit with
          | some (a, code) => .next ((s.setUnit unit (u.fibre p { f with busy := false })).unitFail unit a code)
          | none =>
            let needs := scanNeeds u f
            if !f.busy ∧ !needs.isEmpty then
              match needs.find? (fun x => unitCheck (s.unitWin unit x.1) (s.unitWin unit x.1).r x.2.1 x.2.2 ≠ 0) with
              | some x =>
                .next (s.unitFreeze unit (unitCheck (s.unitWin unit x.1) (s.unitWin unit x.1).r x.2.1 x.2.2) 0
                  (some ((s.unitWin unit x.1).base + x.2.1)) x.2.1)
              | none =>
                .next ((s.setUnit unit (u.fibre p { f with busy := true })).unitIssue unit (.unit unit) false
                  (needs.map (fun x => (s.unitWin unit x.1, x.2.1, x.2.2, Act.read))))
            else
              match s.unitWords unit with
              | none => .next s
              | some ws =>
                match u.scanStep p f ws with
                | .error code => .next (((s.dropReads unit).setUnit unit (u.fibre p { f with busy := false })).unitFreeze unit code 0 none 0)
                | .ok none => .next s
                | .ok (some u') => .next ((s.dropReads unit).setUnit unit u')
    | _ => .next s

/-! Intersecters (R263). -/

/-- What heads an input of an intersecter. -/
inductive IHead where
  | data (w : Word)
  | stop (k : Nat)
  | drain
  deriving DecidableEq, Repr

/-- R263: the head as the comparison sees it. -/
def SUnit.ihead (u : SUnit) (k : Nat) : Option IHead :=
  match u.head k with
  | none => none
  | some t =>
    if unitData t then some (.data t.data) else if isStop t then some (.stop (stopLevel t))
    else if t.tag == Tag.drain then some .drain else none

/-- A matched or unmatched entry. -/
def SUnit.emit3 (u : SUnit) (c a b : Word) : SUnit := ((u.emit 0 (mkData c)).emit 1 (mkData a)).emit 2 (mkData b)

/-- R263: one comparison. -/
def SUnit.isectStep (u : SUnit) : SUnit :=
  let union := fldN (u.pw 0) 31 1 = 1
  let fill := u.pw 1
  let onlyA := fun (a : Word) => (if union then u.emit3 a (u.val 1) fill else u).take2 0 1
  let onlyB := fun (b : Word) => (if union then u.emit3 b fill (u.val 3) else u).take2 2 3
  match u.ihead 0, u.ihead 2 with
  | some (.data a), some (.data b) =>
    if a = b then ((u.emit3 a (u.val 1) (u.val 3)).take2 0 1).take2 2 3
    else if a.toNat < b.toNat then onlyA a else onlyB b
  | some (.data a), some _ => onlyA a
  | some _, some (.data b) => onlyB b
  | some (.stop j), some (.stop k) => ((u.emitAll (mkStop (max j k))).take2 0 1).take2 2 3
  | some (.stop j), some .drain => (u.emitAll (mkStop j)).take2 0 1
  | some .drain, some (.stop k) => (u.emitAll (mkStop k)).take2 2 3
  | _, _ => u

/-- R263: whether the comparison takes the head of i0, and that of i2. -/
def SUnit.isectTakes (u : SUnit) : Bool × Bool :=
  match u.ihead 0, u.ihead 2 with
  | some (.data a), some (.data b) => (decide (a.toNat ≤ b.toNat), decide (b.toNat ≤ a.toNat))
  | some (.data _), some _ => (true, false)
  | some _, some (.data _) => (false, true)
  | some (.stop _), some (.stop _) => (true, true)
  | some (.stop _), some .drain => (true, false)
  | some .drain, some (.stop _) => (false, true)
  | _, _ => (false, false)

/-- An ABORT heads the input. -/
def SUnit.abortAt (u : SUnit) (k : Nat) : Bool := match u.head k with | some t => isAbort t | none => false

/-- INTERSECTER_STEP (R263). -/
def execIntersecterStep (unit : Nat) (s : State) : Out :=
  match s.unit? unit with
  | none => .next s
  | some u =>
    if !u.live ∨ u.held ∨ u.st ≠ .isect then .next s
    else if u.abortAt 0 ∧ u.has 1 then .next (s.setUnit unit (u.passAbort 0 (u.take2 0 1)))
    else if u.abortAt 2 ∧ u.has 3 then .next (s.setUnit unit (u.passAbort 2 (u.take2 2 3)))
    else
      match u.isectTakes with
      | (a, b) => .next (if u.room [0, 1, 2] ∧ (a ∨ b) ∧ (!a ∨ u.has 1) ∧ (!b ∨ u.has 3) then s.setUnit unit u.isectStep.done else s)

/-! Repeaters (R264). -/

/-- R264: SEP, 0 read as 1. -/
def repSep (u : SUnit) : Nat := if fldN (u.pw 0) 0 3 = 0 then 1 else fldN (u.pw 0) 0 3

/-- REPEATER_STEP (R264): fills, takes a count, or emits one entry of a copy. Outside the copies no element is in progress on
i2, so an ABORT that heads it passes at once (R254). -/
def execRepeaterStep (unit : Nat) (s : State) : Out :=
  match s.unit? unit with
  | none => .next s
  | some u =>
    if !u.live ∨ u.held then .next s
    else
      match u.st with
      | .rep buf none _ _ _ =>
        if u.abortAt 2 ∧ u.room (List.range 8) then .next (s.setUnit unit (u.passAbort 2 (u.take 2))) else
        match u.head 0 with
        | none => .next s
        | some t =>
          if !u.has 1 then .next s
          else if isAbort t then .next (if buf.isEmpty then s.setUnit unit (u.passAbort 0 (u.take2 0 1)) else s)
          else if unitData t then
            if 8191 ≤ buf.length then .next (s.unitFreeze unit cCfgField 0 none 0)
            else .next (s.setUnit unit { u.take2 0 1 with st := .rep (buf ++ [(t.data, u.val 1)]) none none 0 0 })
          else if isStop t then
            .next (s.setUnit unit { u.take2 0 1 with st := .rep buf (some (t.data, u.val 1, t.tag)) none 0 0 })
          else .next s
      | .rep buf (some c) none _ _ =>
        match u.head 2 with
        | none => .next s
        | some t =>
          if isAbort t then .next (s.setUnit unit (u.passAbort 2 (u.take 2)))
          else if unitData t then .next (s.setUnit unit { u.take 2 with st := .rep buf (some c) (some t.data) 0 0 })
          else if isStop t then .next (s.setUnit unit (u.take 2))
          else .next s
      | .rep buf (some c) (some n) copy entry =>
        if !u.room [0, 1] then .next s
        else
          match (if n = 0 then none else buf[entry]?) with
          | some (x, v) =>
            .next (s.setUnit unit { (u.emit 0 (mkData x)).emit 1 (mkData v) with st := .rep buf (some c) (some n) copy (entry + 1) })
          | none =>
            if copy + 1 < n.toNat then
              .next (s.setUnit unit { (u.emit 0 (mkStop (repSep u))).emit 1 (mkStop (repSep u)) with
                st := .rep buf (some c) (some n) (copy + 1) 0 })
            else
              .next (s.setUnit unit { ((u.emit 0 ⟨c.1, c.2.2⟩).emit 1 ⟨c.2.1, c.2.2⟩).done with st := .rep [] none none 0 0 })
      | _ => .next s

/-! Reducers (R265). -/

/-- R265: LEVEL, 0 read as 2. -/
def redLevel (u : SUnit) : Nat := if fldN (u.pw 0) 0 3 = 0 then 2 else fldN (u.pw 0) 0 3

/-- REDUCER_STEP (R265): accumulates a pair, or takes a stop, which waits for room though it emits nothing itself (R253;
notes/assumptions/77). -/
def execReducerStep (unit : Nat) (s : State) : Out :=
  match s.unit? unit with
  | none => .next s
  | some u =>
    if !u.live ∨ u.held then .next s
    else
      match u.st, u.head 0 with
      | .red acc none, some t =>
        if !u.has 1 then .next s
        else if isAbort t then .next (s.setUnit unit (u.passAbort 0 (u.take2 0 1)))
        else if unitData t then
          let j := (t.data - u.pw 1).toNat
          if 4096 ≤ j then .next (s.unitFreeze unit cCfgField 0 none 0)
          else
            let v := u.val 1
            let new := match Table.get? acc j with
              | none => v
              | some old => if fldN (u.pw 0) 31 1 = 1 then old + v else Word.ofNat (fp32.addC old.toNat v.toNat).code
            .next (s.setUnit unit { (u.take2 0 1).done with st := .red (Table.put acc j new) none })
        else if isStop t then
          if !u.room [0, 1] then .next s
          else if stopLevel t < redLevel u then .next (s.setUnit unit (u.take2 0 1).done)
          else .next (s.setUnit unit { u.take2 0 1 with st := .red acc (some (stopLevel t - 1)) })
        else .next s
      | _, _ => .next s

/-- REDUCER_FLUSH (R265): one touched entry in ascending order, or the stop that ends the flush; before DRAIN there is no
stop (R258). -/
def execReducerFlush (unit : Nat) (s : State) : Out :=
  match s.unit? unit with
  | none => .next s
  | some u =>
    match u.st with
    | .red ((j, v) :: rest) (some k) =>
      if u.live ∧ u.room [0, 1] then
        .next (s.setUnit unit { (u.emit 0 (mkData (u.pw 1 + Word.ofNat j))).emit 1 (mkData v) with st := .red rest (some k) })
      else .next s
    | .red [] (some k) =>
      if u.live ∧ u.room [0, 1] then
        let u1 := if k = 0 then u else (u.emit 0 (mkStop k)).emit 1 (mkStop k)
        .next (s.setUnit unit { u1.done with st := .red [] none })
      else .next s
    | .red (_ :: _) none =>
      if u.live ∧ u.drainHeads then
        match u.st with
        | .red acc _ => .next (s.setUnit unit { u with st := .red acc (some 0) })
        | _ => .next s
      else .next s
    | _ => .next s

/-! N:M decoders (R266, R267). -/

/-- R266: N, M, the field's bits, the bits of a position, and the reserved part of a field. -/
def nmShape (pat : Nat) : Nat × Nat × Nat × Nat :=
  match pat with
  | 0 => (1, 4, 4, 2)
  | 1 => (2, 4, 4, 2)
  | 2 => (2, 8, 8, 3)
  | _ => (4, 8, 16, 3)

/-- R266: the positions of a field. -/
def nmPos (n pb f : Nat) : List Nat := (List.range n).map (fun i => f / 2 ^ (pb * i) % 2 ^ pb)

/-- Positions strictly ascend. -/
def ascending : List Nat → Bool
  | a :: b :: t => decide (a < b) && ascending (b :: t)
  | _ => true

/-- NM_DECODER_STEP (R267): one token of a group, the checks of the next group, or a stop. The groups that a stop at i0
discards wait for room as those that are emitted do (R253). METAHOLD holds a token only from a fault in it on (DESIGN CHOICE, log 85). -/
def execNmDecoderStep (unit : Nat) (s : State) : Out :=
  match s.unit? unit with
  | none => .next s
  | some u =>
    if !u.live ∨ u.held then .next s
    else
      match u.st with
      | .nm g (b :: left) held =>
        if !u.room [0] then .next s
        else
          let fb := (nmShape (fldN (u.pw 0) 0 2)).2.2.1
          let u1 := if b then (u.emit 0 (mkData (u.val 0))).take 0 else u.emit 0 (mkData (u.pw 1))
          if left.isEmpty then
            if (g + 1) * fb < 32 then .next (s.setUnit unit { u1 with st := .nm (g + 1) [] held })
            else .next (s.setUnit unit { (u1.take 1).done with st := .nm 0 [] false, hold := 0 })
          else .next (s.setUnit unit { u1 with st := .nm g left held })
      | .nm g [] held =>
        if g = 0 ∧ !held ∧ u.abortAt 1 then .next (s.setUnit unit (u.passAbort 1 (u.take 1)))
        else if g = 0 ∧ !held ∧ u.abortAt 0 then .next (s.setUnit unit (u.passAbort 0 (u.take 0)))
        else match u.head 1, u.head 0 with
        | some t1, some t0 =>
          if isStop t1 ∧ isStop t0 then
            if u.room [0] then
              .next (s.setUnit unit ((u.emit 0 (mkStop (max (stopLevel t0) (stopLevel t1)))).take 0 |>.take 1))
            else .next s
          else if !unitData t1 then .next s
          else if isStop t0 then
            .next (if u.room [0] then s.setUnit unit { (u.take 1).done with st := .nm 0 [] false, hold := 0 } else s)
          else
            let (n, m, fb, pb) := nmShape (fldN (u.pw 0) 0 2)
            let tok := if held then u.hold.toNat else t1.data.toNat
            let f := tok / 2 ^ (fb * g) % 2 ^ fb
            let ps := nmPos n pb f
            let heads := ((u.ports.inAt 0).buf.take n)
            let bad := fun (code : Byte) =>
              (s.setUnit unit { u with st := .nm g [] true, hold := Word.ofNat tok }).unitFreeze unit code g none 0
            if f / 2 ^ (pb * n) ≠ 0 then .next (bad cNmRsv)
            else if !ascending ps then .next (bad cNmDup)
            else if heads.any isStop then .next (bad cCfgField)
            else if heads.length < n ∨ !(heads.all unitData) then .next s
            else .next (s.setUnit unit { u with st := .nm g ((List.range m).map (fun k => ps.contains k)) held })
        | _, _ => .next s
      | _ => .next s

/-! The Aperture unit (R268, R269). -/

/-- R268: the fields, each one more than it is written. -/
structure Aper where
  kh : Nat
  kw : Nat
  sh : Nat
  sw : Nat
  dh : Nat
  dw : Nat
  w  : Nat
  deriving DecidableEq, Repr

/-- R268: decode the payload. -/
def aperOf (p : Word) : Aper :=
  { kh := fldN p 28 4 + 1, kw := fldN p 24 4 + 1, sh := fldN p 21 3 + 1, sw := fldN p 18 3 + 1, dh := fldN p 15 3 + 1,
    dw := fldN p 12 3 + 1, w := fldN p 0 12 + 1 }

/-- R269: windows in an output row. -/
def Aper.cols (a : Aper) : Nat := (a.w - 1 - (a.kw - 1) * a.dw) / a.sw + 1
/-- The last image row that output row `oy` needs. -/
def Aper.rowOf (a : Aper) (oy : Nat) : Nat := oy * a.sh + (a.kh - 1) * a.dh
/-- The image index of word `j` of window `n`. -/
def Aper.index (a : Aper) (n j : Nat) : Nat :=
  (n / a.cols * a.sh + j / a.kw * a.dh) * a.w + n % a.cols * a.sw + j % a.kw * a.dw

/-- R269: pixels still needed, oldest first, from image index `keep` on. -/
def aperDrop (pix : List Word) (taken keep : Nat) : List Word := pix.drop (keep - (taken - pix.length))

/-- R269: emit the next token of a window, when that can be told yet. -/
def SUnit.aperEmit (u : SUnit) : Option SUnit :=
  match u.st with
  | .aper pix taken n j close =>
    let a := aperOf (u.pw 0)
    let rows := taken / a.w
    match close with
    | some k =>
      let last := if rows ≤ a.rowOf 0 then 0 else ((rows - 1 - a.rowOf 0) / a.sh + 1) * a.cols
      if last = 0 then some { (u.emit 0 (mkStop (max (k.toNat - 1) 3))).done with st := .aper [] 0 0 0 none }
      else if j < a.kh * a.kw then
        some { u.emit 0 (mkData (pix.getD (a.index n j - (taken - pix.length)) 0)) with st := .aper pix taken n (j + 1) close }
      else if n + 1 = last then some { (u.emit 0 (mkStop (max (k.toNat - 1) 3))).done with st := .aper [] 0 0 0 none }
      else some { u.emit 0 (mkStop (if (n + 1) % a.cols = 0 then 2 else 1)) with st := .aper pix taken (n + 1) 0 close }
    | none =>
      if j < a.kh * a.kw then
        if a.index n (a.kh * a.kw - 1) < taken then
          some { u.emit 0 (mkData (pix.getD (a.index n j - (taken - pix.length)) 0)) with st := .aper pix taken n (j + 1) close }
        else none
      else if (n + 1) % a.cols ≠ 0 then some { u.emit 0 (mkStop 1) with st := .aper pix taken (n + 1) 0 close }
      else if a.rowOf (n / a.cols + 1) * a.w < taken then
        some { u.emit 0 (mkStop 2) with st := .aper pix taken (n + 1) 0 close }
      else none
  | _ => none

/-- R269: the first pixel that the windows still to come need. -/
def aperKeep (a : Aper) (n j : Nat) : Nat :=
  if j = a.kh * a.kw then (n + 1) / a.cols * a.sh * a.w else n / a.cols * a.sh * a.w

/-- APERTURE_STEP (R269): emits a window token, or takes a pixel or the stop: one of them in a step (DESIGN CHOICE, log 85). -/
def execApertureStep (unit : Nat) (s : State) : Out :=
  match s.unit? unit with
  | none => .next s
  | some u =>
    if !u.live ∨ u.held then .next s
    else
      match u.st with
      | .aper pix taken n j close =>
        match (if u.room [0] then u.aperEmit else none) with
        | some u' => .next (s.setUnit unit u')
        | none =>
          let a := aperOf (u.pw 0)
          let kept := aperDrop pix taken (aperKeep a n j)
          match u.head 0, close with
          | some t, none =>
            if isAbort t then .next (if taken = 0 then s.setUnit unit (u.passAbort 0 (u.take 0)) else s)
            else if unitData t then
              if kept.length < 32768 then .next (s.setUnit unit { u.take 0 with st := .aper (kept ++ [t.data]) (taken + 1) n j none })
              else .next s
            else if isStop t then
              if taken % a.w ≠ 0 then .next (s.unitFreeze unit cCfgField 0 none 0)
              else .next (s.setUnit unit { u.take 0 with st := .aper pix taken n j (some t.tag) })
            else .next s
          | _, _ => .next s
      | _ => .next s

/-! The Splitter (R270 to R273). -/

/-- R271: fields of the payload. -/
def splitSlots (u : SUnit) : Bool := fldN (u.pw 0) 31 1 == 1
def splitSpill (u : SUnit) : Bool := fldN (u.pw 0) 30 1 == 1
def splitCap (u : SUnit) : Nat := fldN (u.pw 3) 0 16

/-- A target's ring: head, tail, vectors held. -/
def ringOf (rings : List (Nat × Nat × Nat)) (t : Nat) : Nat × Nat × Nat := rings.getD t (0, 0, 0)

/-- R273: the byte offset of a ring's slot. -/
def ringOff (u : SUnit) (t k : Nat) : Nat := (u.pw 2).toNat + 1028 * splitCap u * t + 1028 * k

/-- R272: ask for a slot of a target: an ATAKE of 1 on its free-slot word. -/
def State.askSlot (s : State) (unit : Nat) (u : SUnit) (t : Nat) (st : Nat → UState) : State :=
  let w := s.unitWin unit (fldN (u.pw 0) 8 3)
  let off := (u.pw 1).toNat + 4 * t
  let code := unitCheck w w.a off 4
  if code ≠ 0 then s.unitFreeze unit code 0 (some (w.base + off)) off
  else (s.setUnit unit { u with st := st s.fresh }).unitIssue unit (.unit unit) false [(w, off, 4, .atomic 0xB8 1 0)]

/-- R273: the accesses that write a vector into its target's tail slot. -/
def spillWrite (w : Window) (off : Nat) (l : List Word) : List (Window × Nat × Nat × Act) :=
  (w, off, 4, .write (Word.ofNat l.length)) :: l.zipIdx.map (fun x => (w, off + 4 + 4 * x.2, 4, .write x.1))

/-- SPLITTER_STEP (R272): streams a vector, passes a stop, or takes the slot that was granted or refused. -/
def execSplitterStep (unit : Nat) (s : State) : Out :=
  match s.unit? unit with
  | none => .next s
  | some u =>
    if !u.live ∨ u.held then .next s
    else
      match u.st with
      | .split cur granted ask retry rings wr rd rr =>
        match s.unitFailed unit with
        | some (a, code) =>
          .next ((s.setUnit unit { u with st := .split cur granted none retry rings wr (if ask.isSome then none else rd) rr }).unitFail unit a code)
        | none =>
        match cur, u.head 0 with
        | some (t, n), some tok =>
          if tok.tag == Tag.mark ∨ tok.tag == Tag.drain ∨ isAbort tok then .next s
          else if 256 ≤ n then .next (s.unitFreeze unit cCfgField 0 none 0)
          else if !u.room [t] then .next s
          else
            let u1 := (u.emit t tok).take 0
            if tok.tag = Tag.last then .next (s.setUnit unit { u1.done with st := .split none false none 0 rings wr rd rr })
            else .next (s.setUnit unit { u1 with st := .split (some (t, n + 1)) granted ask retry rings wr rd rr })
        | none, some tok =>
          if wr.isSome ∨ rd.isSome then .next s
          else
            match ask with
            | some _ =>
              match s.unitWords unit with
              | none => .next s
              | some ws =>
                let ok := decide (1 ≤ (ws.headD 0).toNat)
                let t := fldN tok.data 0 3
                let room := splitSpill u && decide ((ringOf rings t).2.2 < splitCap u)
                .next ((s.dropReads unit).setUnit unit { u with
                  st := .split none ok none (if ok ∨ room then 0 else 16) rings (if !ok ∧ room then some (t, []) else none) none rr })
            | none =>
              if isStop tok ∨ isAbort tok then
                .next (if u.room (List.range 8) then s.setUnit unit ((u.emitAll tok).take 0) else s)
              else if !unitData tok then .next s
              else
                let t := fldN tok.data 0 3
                if fldN (u.pw 0) 0 3 < t then .next (s.unitFreeze unit cCfgField 0 none 0)
                else if !splitSlots u ∨ granted then
                  .next (s.setUnit unit { u with st := .split (some (t, 0)) false none 0 rings none none rr })
                else if splitSpill u ∧ (ringOf rings t).2.2 ≠ 0 then
                  if (ringOf rings t).2.2 < splitCap u then
                    .next (s.setUnit unit { u with st := .split none false none 0 rings (some (t, [])) none rr })
                  else .next s
                else if retry ≠ 0 then .next s
                else .next (s.askSlot unit u t (fun id => .split none false (some id) 0 rings none none rr))
        | _, none => .next s
      | _ => .next s

/-- SPLITTER_SLOT_RETRY (R272): the held vector asks again, within 16 rounds of its failure. -/
def execSplitterSlotRetry (unit : Nat) (s : State) : Out :=
  match s.unit? unit with
  | none => .next s
  | some u =>
    match u.st, u.head 0 with
    | .split none false none (_ + 1) rings none none rr, some tok =>
      if u.live then
        .next (s.askSlot unit u (fldN tok.data 0 3) (fun id => .split none false (some id) 0 rings none none rr))
      else .next s
    | _, _ => .next s

/-- SPLITTER_SPILL_WRITE (R273): a vector on its way into its target's ring takes its next token; with LAST its bound and
permission are checked and it is written as one posted operation (R184, R257), and counts as a completed element (DESIGN CHOICE,
log 85). -/
def execSplitterSpillWrite (unit : Nat) (s : State) : Out :=
  match s.unit? unit with
  | none => .next s
  | some u =>
    match u.st, u.head 0 with
    | .split none _ _ _ rings (some (t, l)) _ rr, some tok =>
      if !u.live ∨ tok.tag == Tag.mark ∨ tok.tag == Tag.drain ∨ isAbort tok then .next s
      else if 256 ≤ l.length then .next (s.unitFreeze unit cCfgField 0 none 0)
      else
        let l' := l ++ [tok.data]
        if tok.tag ≠ Tag.last then
          .next (s.setUnit unit { u.take 0 with st := .split none false none 0 rings (some (t, l')) none rr })
        else
          match ringOf rings t with
          | (hd, tl, n) =>
            let w := s.unitWin unit (fldN (u.pw 0) 4 3)
            let off := ringOff u t tl
            let code := unitCheck w w.w off 4
            if code ≠ 0 then .next (s.unitFreeze unit code 0 (some (w.base + off)) off)
            else if w.len < off + 4 + 4 * l'.length then .next (s.unitFreeze unit cWinBound 0 (some (w.base + off)) off)
            else
              let rings' := (List.range 8).map (fun k => if k = t then (hd, (tl + 1) % splitCap u, n + 1) else ringOf rings k)
              .next ((s.setUnit unit { (u.take 0).done with st := .split none false none 0 rings' none none rr }).unitIssue unit
                (.root unit s.fresh) true (spillWrite w off l'))
    | _, _ => .next s

/-- The next target after the last tried whose ring holds a vector. -/
def nextRing (rings : List (Nat × Nat × Nat)) (rr : Nat) : Option Nat :=
  ((List.range 8).map (fun k => (rr + 1 + k) % 8)).find? (fun t => (ringOf rings t).2.2 != 0)

/-- SPLITTER_SPILL_READ (R273): asks for a slot for a spilled vector, reads its slot of the ring, and emits its words. A count of 0 or
above 256 freezes the unit (DESIGN CHOICE, log 85). -/
def execSplitterSpillRead (unit : Nat) (s : State) : Out :=
  match s.unit? unit with
  | none => .next s
  | some u =>
    if !u.live then .next s
    else
      match u.st with
      | .split none false ask retry rings none rd rr =>
        match s.unitFailed unit with
        | some (a, code) =>
          .next ((s.setUnit unit { u with st := .split none false none retry rings none (if ask.isSome then none else rd) rr }).unitFail unit a code)
        | none =>
        match rd, ask with
        | none, none =>
          if u.held then .next s
          else
            match nextRing rings rr with
            | none => .next s
            | some t => .next (s.askSlot unit u t (fun id => .split none false (some id) retry rings none (some (t, 0, [])) t))
        | some (t, 0, []), some _ =>
          match s.unitWords unit with
          | none => .next s
          | some ws =>
            .next ((s.dropReads unit).setUnit unit { u with
              st := .split none false none retry rings none (if 1 ≤ (ws.headD 0).toNat then some (t, 0, []) else none) rr })
        | some (t, 0, []), none =>
          let w := s.unitWin unit (fldN (u.pw 0) 4 3)
          let off := ringOff u t (ringOf rings t).1
          if (s.unitReads unit).isEmpty then
            let code := unitCheck w w.r off 4
            if code ≠ 0 then .next (s.unitFreeze unit code 0 (some (w.base + off)) off)
            else .next (s.unitIssue unit (.unit unit) false [(w, off, 4, .read)])
          else
            match s.unitWords unit with
            | none => .next s
            | some ws =>
              let n := (ws.headD 0).toNat
              if 256 < n ∨ n = 0 then .next ((s.dropReads unit).unitFreeze unit cCfgField 0 none 0)
              else if w.len < off + 4 + 4 * n then .next ((s.dropReads unit).unitFreeze unit cWinBound 0 (some (w.base + off)) off)
              else
                .next (((s.dropReads unit).setUnit unit { u with st := .split none false none retry rings none (some (t, n, [])) rr }).unitIssue
                  unit (.unit unit) false ((List.range n).map (fun k => (w, off + 4 + 4 * k, 4, .read))))
        | some (t, n + 1, []), none =>
          if (s.unitReads unit).isEmpty then .next (s.setUnit unit { u with st := .split none false none retry rings none (some (t, 0, [])) rr })
          else
            match s.unitWords unit with
            | none => .next s
            | some ws =>
              .next ((s.dropReads unit).setUnit unit { u with st := .split none false none retry rings none (some (t, n + 1, ws)) rr })
        | some (t, n, w :: ws), none =>
          if !u.room [t] then .next s
          else
            let u1 := u.emit t ⟨w, if ws.isEmpty then Tag.last else Tag.data⟩
            match ringOf rings t with
            | (hd, tl, c) =>
              let rings' := (List.range 8).map (fun k => if k = t then ((hd + 1) % splitCap u, tl, c - 1) else ringOf rings k)
              .next (s.setUnit unit (if ws.isEmpty then { u1 with st := .split none false none retry rings' none none rr }
                else { u1 with st := .split none false none retry rings none (some (t, n, ws)) rr }))
        | _, _ => .next s
      | _ => .next s

/-! The Collimator (R275). -/

/-- R275: tokens in the buffer. -/
def collTokens (buf : List (BitVec 16 × Bool × List Token)) : Nat := buf.foldl (fun n x => n + x.2.2.length) 0

/-- R275: one token of the buffered vector that NEXT names leaves: the unit, its buffer, and whether o0 was used. -/
def SUnit.collOut (u : SUnit) (buf : List (BitVec 16 × Bool × List Token)) :
    SUnit × List (BitVec 16 × Bool × List Token) × Bool :=
  let next : BitVec 16 := fld u.hold 0 16
  match buf.find? (fun x => x.1 == next) with
  | some (_, whole, t :: ts) =>
    if !u.room [0] then (u, buf, false)
    else if whole ∧ ts.isEmpty then
      ({ (u.emit 0 t).done with hold := Word.ofNat (next + 1).toNat }, buf.filter (fun x => x.1 != next), true)
    else (u.emit 0 t, buf.map (fun x => if x.1 = next then (x.1, x.2.1, ts) else x), true)
  | _ => (u, buf, false)

/-- R275: a token of vector `seq` from input `k` goes into the buffer. -/
def collKeep (buf : List (BitVec 16 × Bool × List Token)) (seq : BitVec 16) (tok : Token) : List (BitVec 16 × Bool × List Token) :=
  let last := tok.tag == Tag.last
  if buf.any (fun x => x.1 == seq) then buf.map (fun x => if x.1 = seq then (x.1, last, x.2.2 ++ [tok]) else x)
  else buf ++ [(seq, last, [tok])]

/-- R275: what the Collimator does with the head of input `k`: nothing, a fault, or a new unit. `next` is NEXT as the round
began, `free` says that o0 has room and has taken no token in this round. -/
def SUnit.collTake (u : SUnit) (next : BitVec 16) (buf : List (BitVec 16 × Bool × List Token))
    (cur : List (Nat × BitVec 16 × Bool × Nat)) (free : Bool) (k : Nat) (tok : Token) : Option (Option SUnit) :=
  let last := tok.tag == Tag.last
  let set := fun (u : SUnit) b c => ({ u.take k with st := .coll b c k } : SUnit)
  let others := cur.filter (fun x => x.1 != k)
  let keep := fun (seq : BitVec 16) (n : Nat) => set u (collKeep buf seq tok) (if last then others else others ++ [(k, seq, true, n + 1)])
  let through := fun (seq : BitVec 16) (buffered : Bool) (n : Nat) =>
    let u1 := u.emit 0 tok
    if last then
      { (set u1 (buf.filter (fun x => x.1 != seq)) others).done with hold := Word.ofNat (next + 1).toNat }
    else set u1 buf (others ++ [(k, seq, buffered, n + 1)])
  match cur.find? (fun x => x.1 == k) with
  | some (_, seq, buffered, n) =>
    if isAbort tok ∨ tok.tag == Tag.mark ∨ tok.tag == Tag.drain then none
    else if 256 ≤ n then some none
    else if seq = next ∧ free ∧ (buf.all fun x => x.1 != seq || x.2.2.isEmpty) then some (some (through seq buffered n))
    else if buffered ∧ collTokens buf < 4096 then some (some (keep seq n))
    else none
  | none =>
    if isAbort tok then (if free then some (some (set (u.emit 0 tok) buf cur)) else none)
    else if !unitData tok ∨ u.held then none
    else
      let seq : BitVec 16 := fld tok.data 16 16
      let d := (seq - next).toNat
      if d = 0 then
        if free ∧ !buf.any (fun x => x.1 == seq) ∧ !cur.any (fun x => x.2.1 == seq) then some (some (through seq false 0)) else none
      else if d < 256 then
        if buf.any (fun x => x.1 == seq) then some none
        else if buf.length < 256 ∧ collTokens buf < 4096 then some (some (keep seq 0)) else none
      else none

/-- COLLIMATOR_STEP (R275): in one round a token of the buffered vector that NEXT names leaves, and one is taken from an
input, straight to o0 when that is free and the vector is NEXT's, else into the buffer. -/
def execCollimatorStep (unit : Nat) (s : State) : Out :=
  match s.unit? unit with
  | none => .next s
  | some u =>
    if !u.live then .next s
    else
      match u.st with
      | .coll buf cur rr =>
        let ks := ((List.range 8).map (fun k => (rr + 1 + k) % 8)).filter (fun k => (u.ports.inAt k).wired)
        let stops := ks.filterMap (fun k => (u.head k).filter isStop)
        if stops.length = ks.length ∧ !ks.isEmpty ∧ buf.isEmpty ∧ cur.isEmpty then
          .next (if u.room [0] then
            s.setUnit unit (ks.foldl SUnit.take (u.emit 0 (mkStop (stops.foldl (fun n t => max n (stopLevel t)) 0)))) else s)
        else
          match u.collOut buf with
          | (u1, buf1, used) =>
            match ks.findSome? (fun k => (u.head k).bind
                (u1.collTake (fld u.hold 0 16) buf1 cur (!used && u.room [0]) k)) with
            | none => .next (s.setUnit unit { u1 with st := .coll buf1 cur rr })
            | some none => .next (s.unitFreeze unit cCfgField 0 none 0)
            | some (some u') => .next (s.setUnit unit u')
      | _ => .next s

/-! MARK and DRAIN (R258). -/

/-- UNIT_MARK (R86, R258): a FROZEN unit takes part and stays FROZEN. -/
def execUnitMark (unit : Nat) (s : State) : Out :=
  match s.unit? unit with
  | none => .next s
  | some u =>
    let go := fun (u : SUnit) (l : List Nat) =>
      match u.ports.pay ⟨0, Tag.mark⟩ l with
      | (p, left) => s.setUnit unit { u with
          ports := p, owed := left, markSent := true, life := if u.life = .frozen then .frozen else .marked }
    if (u.life = .running ∧ !u.asking ∨ u.life = .frozen ∧ !u.markSent) ∧ !u.ins.isEmpty ∧ u.marked then .next (go u u.ports.wiredOuts)
    else if u.markSent ∧ !u.owed.isEmpty then .next (go u u.owed)
    else .next s

/-- R258: nothing is left to do before DRAIN. -/
def SUnit.idle (u : SUnit) : Bool :=
  match u.st with
  | .scan p f => !p && f.isNone
  | .isect => true
  | .rep _ _ n _ _ => n.isNone
  | .red acc flush => acc.isEmpty && flush.isNone
  | .nm g left _ => g == 0 && left.isEmpty
  | .aper _ taken _ _ close => taken == 0 && close.isNone
  | .split cur granted ask _ rings wr rd _ =>
    cur.isNone && !granted && ask.isNone && wr.isNone && rd.isNone && rings.all (fun x => x.2.2 == 0)
  | .coll buf cur _ => buf.isEmpty && cur.isEmpty
  | .whey ins _ g => ins.all (fun l => l.isEmpty) && g.isNone
  | .brine _ e _ => e.isNone

/-- UNIT_DRAIN (R258). -/
def execUnitDrain (unit : Nat) (s : State) : Out :=
  match s.unit? unit with
  | none => .next s
  | some u =>
    let go := fun (u : SUnit) (l : List Nat) =>
      match u.ports.pay ⟨0, Tag.drain⟩ l with
      | (p, left) => s.setUnit unit { u with ports := p, owed := left, life := .drained }
    if u.life = .running ∧ !u.ins.isEmpty ∧ u.drainHeads ∧ u.idle ∧ (s.unitAccs unit).all (fun a => a.over) then .next (go u u.ports.wiredOuts)
    else if u.life = .drained ∧ !u.owed.isEmpty then .next (go u u.owed)
    else .next s

/-! Payload checks (R255, R260 to R275). -/

/-- R255: whether a unit's payload passes its load checks. -/
def unitPayloadOk (k : UKind) (l : List Word) : Bool :=
  let w := fun k => l.getD k 0
  match k with
  | .scan =>
    let kind := fldN (w 0) 30 2
    l.length == 4 && decide (kind ≠ 3 ∧ fldN (w 0) 28 2 ≠ 3 ∧ (kind ≠ 2 ∨ fldN (w 0) 28 2 = 0 ∨ fldN (w 0) 28 2 = 2)
      ∧ fldN (w 0) 15 13 = 0 ∧ fldN (w 0) 11 1 = 0 ∧ fldN (w 0) 7 1 = 0 ∧ fldN (w 0) 0 4 = 0
      ∧ (kind ≠ 0 ∨ w 1 ≠ 0) ∧ (kind = 1 ∨ w 2 = 0) ∧ (kind ≠ 2 ∨ w 3 = 0))
  | .isect => l.length == 2 && decide (fldN (w 0) 0 31 = 0)
  | .rep => l.length == 1 && decide (fldN (w 0) 0 3 ≤ 4 ∧ fldN (w 0) 3 29 = 0)
  | .red =>
    let v := fldN (w 0) 0 3
    l.length == 2 && decide (fldN (w 0) 3 28 = 0 ∧ v ≠ 1 ∧ v ≤ 4)
  | .nm => l.length == 2 && decide (fldN (w 0) 2 30 = 0)
  | .aper =>
    let a := aperOf (w 0)
    l.length == 1 && decide (((a.kh - 1) * a.dh + 1) * a.w ≤ 32768 ∧ (a.kw - 1) * a.dw + 1 ≤ a.w)
  | .split =>
    l.length == 4 && decide (fldN (w 0) 11 19 = 0 ∧ fldN (w 0) 7 1 = 0 ∧ fldN (w 0) 3 1 = 0
      ∧ (fldN (w 0) 30 1 = 0 ∨ fldN (w 0) 31 1 = 1) ∧ (w 1).toNat % 4 = 0 ∧ (w 2).toNat % 4 = 0 ∧ fldN (w 3) 16 16 = 0
      ∧ (fldN (w 0) 30 1 = 1 ∨ fldN (w 3) 0 16 = 0) ∧ (fldN (w 0) 30 1 = 0 ∨ fldN (w 3) 0 16 ≠ 0))
  | .coll => l.length == 1 && decide (fldN (w 0) 16 16 = 0)
  | .brine => l.length == 1 && decide (fldN (w 0) 0 3 ≤ 4 ∧ fldN (w 0) 3 29 = 0)
  | .whey =>
    let nin := fldN (w 0) 0 2 + 1
    let root := fldN (w 0) 29 1
    l.length == 1 + nin + 2 * root && decide (fldN (w 0) 30 2 ≤ 1 ∧ fldN (w 0) 11 18 = 0 ∧ fldN (w 0) 2 6 = 0
      ∧ (root = 0 ∨ ((w (nin + 1)).toNat % 32 = 0 ∧ fldN (w (nin + 2)) 16 16 = 0)))

/-- R255: the working state of a unit at load. -/
def unitStart (k : UKind) (l : List Word) : UState :=
  match k with
  | .scan => .scan false none
  | .isect => .isect
  | .rep => .rep [] none none 0 0
  | .red => .red [] none
  | .nm => .nm 0 [] false
  | .aper => .aper [] 0 0 0 none
  | .split => .split none false none 0 (List.replicate 8 (0, 0, 0)) none none 7
  | .coll => .coll [] [] 7
  | .whey => .whey (List.replicate (fldN (l.getD 0 0) 0 2 + 1) []) 0 none
  | .brine => .brine {} none false

end Sys2Proof.Machine
end

