-- ==== Sys2Proof/Machine/System.lean ====
section
/-! DEFINITION. The system group 0xF8 to 0xFE (spec/21 R414 to R416; spec/11 R280 to R283; spec/14 R325, R326), unit
registers, whey nodes and the Brine codec's groups (spec/02 R55 to R59; spec/11 R276 to R279). -/

namespace Sys2Proof.Machine

/-! TRAP and BRK (R414 to R416): taking the trap is the shared freeze of Ops. -/

/-- R415: takes its tokens, records the fault and freezes the element. -/
def trapForm (code : Byte) (a b : BitVec 5) (s : State) : Out :=
  match s.cur with
  | .rule el rule =>
    let e := s.elem el
    let q : Req := { a := some a, b := some b }
    match e.input q with
    | none => .next s
    | some x =>
      if !e.portRoom rule [] then .next s
      else
        let e1 := (e.fireTakes rule (takes q.a q.b)).puts (e.everyCo rule)
        .next (s.setElem el (e1.freeze
          { faultOf code rule x with user := fld x.a.data 0 16, stamp := s.cycleOf (regionOfElem el) } true))
  | _ => .next s

/-- TRAP (R415). -/
def execTrap (a b : BitVec 5) (s : State) : Out := trapForm 0x60 a b s
/-- BRK (R415). -/
def execBrk (a b : BitVec 5) (s : State) : Out := trapForm 0x61 a b s

/-! WHEY (R281). -/

/-- WHEY (R57, R281): emits the counters as they stood and clears them, with LEVEL 0. -/
def execWhey (s : State) : Out :=
  match s.cur with
  | .rule el rule =>
    let e := s.elem el
    if !e.portRoom rule [] ∨ !e.whey.isEmpty then .next s
    else
      let e1 := (e.fireTakes rule []).puts (e.everyCo rule)
      .next (s.setElem el { e1 with
        whey := if e.wheyOn then
          wheyGroup (e.stats.sat.setWidth 32) (e.stats.nan.setWidth 32) (e.stats.inf.setWidth 32) (e.stats.flush.setWidth 32) 0 0 else []
        stats := {} })
  | _ => .next s

/-! IDENT (R325) and CLOCK (R326). -/

/-- R325: the word of a selector. -/
def State.ident (s : State) (el : Nat) (sel : BitVec 3) : Word :=
  let reg := regionOfElem el
  let task := s.taskOfElem el
  match s.spanOf task with
  | (r, c, rows, cols) =>
    match sel.toNat with
    | 0 => Word.ofNat (localOf r c rows cols (tileOfElem el) * 2 ^ 22 + el)
    | 1 => Word.ofNat ((spanRegions r c rows cols).idxOf reg * 2 ^ 16 + reg)
    | 2 => Word.ofNat (rows * 2 ^ 8 + cols)
    | _ => Word.ofNat (s.taskId task * 2 ^ 16 + s.ctxOfTask task)

/-- IDENT (R325): delivered in its round; the port-queue entry is free at its end. -/
def execIdent (d : BitVec 5) (sel : BitVec 3) (s : State) : Out :=
  match s.cur with
  | .rule el rule =>
    let e := s.elem el
    let l := deliver d Tag.data (s.ident el sel)
    if !e.portRoom rule l then .next s
    else .next (s.setElem el ((e.issuePort rule { d := d } l .timed true).finish e.nextId none false))
  | _ => .next s

/-- R326: what CLOCK delivers of a reading: a register pair, or two tokens. -/
def clockPuts (d : BitVec 5) (v : Dword) : List Put :=
  let lo := Word.ofNat v.toNat
  let hi := Word.ofNat (v.toNat / 2 ^ 32)
  let n := d.toNat
  if n < 8 then [.d (BitVec.ofNat 3 n) lo, .d (BitVec.ofNat 3 (n + 1)) hi]
  else [.out (BitVec.ofNat 3 (n - 8)) [⟨lo, Tag.data⟩, ⟨hi, Tag.last⟩]]

/-- CLOCK (R326): its request leaves for the region controller, which stands at the region's E-tile (DESIGN CHOICE, log 83). -/
def execClock (d : BitVec 5) (s : State) : Out :=
  match s.cur with
  | .rule el rule =>
    let e := s.elem el
    let l := clockPuts d 0
    if !e.portRoom rule l then .next s
    else
      .next (s.setElem el ((e.issuePort rule { d := d } l .clock true).delay e.nextId
        (flitDelay (tileOfElem el) (etileOf (regionOfElem el)))))
  | _ => .next s

/-- Earlier operations of the element with a job of the same kind. -/
def Elem.firstJob (e : Elem) (id : Nat) (same : Job → Bool) : Bool :=
  !(e.pend.takeWhile (fun p => p.id != id)).any (fun (p : Pend) => same p.job)

/-- CLOCK_READ (R326): the counter as it stands when the request arrives; requests of one element arrive in issue order. The
value goes back to its element (R21). -/
def execClockRead (el id : Nat) (s : State) : Out :=
  let e := s.elem el
  match e.pend? id with
  | some p =>
    if p.job = .clock ∧ e.firstJob id (fun j => j == .clock) ∧ !s.behind el id then
      .next (s.setElem el (e.answer id (clockPuts p.dst (s.cycleOf (regionOfElem el)))
        (flitDelay (tileOfElem el) (etileOf (regionOfElem el)))))
    else .next s
  | none => .next s

/-! Unit registers (R282, R283). -/

/-- R283: STATE of a unit. -/
def lifeCode : Life → Nat
  | .frozen => 1
  | .marked => 2
  | .drained => 3
  | _ => 0

/-- R283: the occupancy register. -/
def SUnit.occupancy (u : SUnit) : Nat :=
  match u.st with
  | .rep buf close _ _ _ => buf.length + (if close.isSome then 1 else 0)
  | .red acc _ => acc.length
  | .split _ _ _ _ rings _ _ _ => rings.foldl (fun n x => n + x.2.2) 0
  | .coll buf _ _ => collTokens buf
  | _ => 0

/-- R283: DETAIL: the group of an N:M decoder. -/
def SUnit.detail (u : SUnit) : Nat :=
  match u.st with
  | .nm g _ _ => g
  | _ => 0

/-- R283: a unit register as read; none where it may not be read. -/
def SUnit.reg (u : SUnit) (r : BitVec 4) : Option Word :=
  let n := r.toNat
  if n = 0 then
    some (Word.ofNat (lifeCode u.life * 2 ^ 30 + (if u.life = .frozen then u.fault.code.toNat * 2 ^ 16 else 0) + u.detail))
  else if n ≤ 8 then some (u.pw (n - 1))
  else if n = 9 then some u.taken
  else if n = 10 then some u.emitted
  else if n = 11 then some u.elems
  else if n = 12 then some (Word.ofNat u.occupancy)
  else if n = 13 then some (if u.kind = .nm ∨ u.kind = .coll then u.hold else 0)
  else if n = 14 then some 0
  else none

/-- R282, R283: a write of a register is allowed. Of the load checks, those of the payload's own words are made; the connection rules
of R256 are not made again (DESIGN CHOICE, log 85). -/
def SUnit.writable (u : SUnit) (r : BitVec 4) (v : Word) : Bool :=
  let n := r.toNat
  if 1 ≤ n ∧ n ≤ u.payload.length ∧ n ≤ 8 then unitPayloadOk u.kind (u.payload.set (n - 1) v)
  else if n = 13 then u.kind == .nm && u.life == .frozen
  else n == 15

/-- R282, R283: a register write takes effect. -/
def SUnit.write (u : SUnit) (r : BitVec 4) (v : Word) : SUnit :=
  let n := r.toNat
  if 1 ≤ n ∧ n ≤ 8 then { u with payload := u.payload.set (n - 1) v, wrote := u.wrote ||| ((1 : BitVec 8) <<< (n - 1)) }
  else if n = 13 then { u with hold := v }
  else if n = 15 then { u with taken := 0, emitted := 0, elems := 0 }
  else u

/-! The signature of the configuration stores (R333). -/

/-- R333: one step of the CRC-64 of ECMA-182, the most significant bit first. -/
def crc64Bit (c : Dword) (b : Bool) : Dword := (c <<< 1) ^^^ (if c.getLsbD 63 != b then 0x42F0E1EBA9EA3693 else 0)

/-- R333: the CRC-64 of words (notes/assumptions/71). -/
def crc64 (ws : List Word) : Dword :=
  ws.foldl (fun c w => (List.range 32).foldl (fun c k => crc64Bit c (w.getLsbD (31 - k))) c) 0

/-- R333: the guard, action, constant, counter-control and binding words of an element. -/
def Elem.configWords (e : Elem) : List Word :=
  e.guards.toList ++ e.actions.toList ++ e.c.toList
    ++ e.l.toList.map (fun x => Word.ofNat (x.wlevel.toNat * 16 + x.chain.toNat))
    ++ e.binds.toList.map (fun b => Word.ofNat (b.en.toNat * 128 + b.flag.toNat * 64 + b.rule.toNat))

/-- The end of a route as a word. -/
def EndPt.word (e : EndPt) : Word := Word.ofNat (e.tile * 2 ^ 10 + e.unit * 2 ^ 4 + e.port)

/-- A number as two words. -/
def twoWords (n : Nat) : List Word := [Word.ofNat n, Word.ofNat (n / 2 ^ 32)]

/-- R195, R333: the words of a copy shape. -/
def Shape.words (h : Shape) : List Word :=
  h.dims.flatMap (fun d => Word.ofNat d.ext.toNat :: (twoWords d.sst.toNat ++ twoWords d.dst.toNat)) ++ h.perm.map Word.ofNat
    ++ [Word.ofNat (h.ssize.toNat + 4 * h.dsize.toNat + 16 * h.swin.toNat + 128 * h.dwin.toNat + 1024 * h.tag.toNat + 2 ^ 16 * h.scope.toNat
        + 2 ^ 18 * h.redop.toNat + 2 ^ 22 * h.conv.toNat),
      Word.ofNat (h.dkind.toNat + 8 * h.stop.toNat + 64 * h.ltag.toNat + 128 * h.dport.toNat), h.soff, h.doff]
    ++ twoWords h.pss.toNat ++ twoWords h.pds.toNat

/-- R333: the configuration words placed in a region: elements, routes, units, copy shapes, the Press levels, the Loupe. -/
def State.configWords (s : State) (reg : Nat) : List Word :=
  (s.elems.filter (fun x => regionOfElem x.1 == reg)).flatMap (fun x => x.2.configWords)
    ++ (s.chans.filter (fun x => regionOfTile x.2.frm.tile == reg)).flatMap (fun x => [x.2.frm.word, x.2.dst.word])
    ++ (s.wheys.filter (fun x => regionOfTile x.2.node.tile == reg)).flatMap (fun x => [x.2.frm.word, x.2.node.word])
    ++ (s.units.filter (fun x => regionOfTile (x.1 / 64) == reg)).flatMap (fun x => x.2.payload)
    ++ (s.copies.filter (fun x => regionOfTile x.1 == reg)).flatMap (fun x => x.2.tmpls.flatMap (fun t => t.2.words))
    ++ (s.presses.filter (fun x => regionOfTile x.1 == reg)).map (fun x => Word.ofNat (x.2.wseg.toNat * 16 + x.2.wconv.toNat))
    ++ (s.loupes.filter (fun x => regionOfTile x.1 == reg)).flatMap (fun x => x.2.guards.toList ++ x.2.actions.toList ++ x.2.c.toList)

/-- R333: the signature of what a region's stores hold now. -/
def State.signature (s : State) (reg : Nat) : Dword := crc64 (s.configWords reg)

/-- R282, R333: a write of a unit's register, as XCTL or UDATA makes it; the region's signature follows the word written. -/
def State.writeUnit (s : State) (k : Nat) (u : SUnit) (r : BitVec 4) (v : Word) : State :=
  let reg := regionOfTile (k / 64)
  let s1 := s.setUnit k (u.write r v)
  s1.setRegion reg { s1.region reg with sign := (s1.region reg).sign ^^^ s.signature reg ^^^ s1.signature reg }

/-- R255, R282: the unit of a task's image with a slot number. -/
def State.unitOfSlot (s : State) (task : Nat) (slot : Nat) : Option (Nat × SUnit) :=
  s.units.find? (fun x => x.2.slot == slot && (s.region (regionOfTile (x.1 / 64))).st != .free
    && s.taskOfRegion (regionOfTile (x.1 / 64)) == task)

/-- XCTL (R282): checks at issue; the write travels to its unit. -/
def execXctl (d a : BitVec 5) (sl : BitVec 5) (r : BitVec 4) (s : State) : Out :=
  match s.cur with
  | .rule el rule =>
    let e := s.elem el
    let q : Req := { d := d, a := some a }
    match e.input q with
    | none => .next s
    | some x =>
      let l := deliver d Tag.data x.a.data
      if !e.portRoom rule l then .next s
      else
        match s.unitOfSlot (s.taskOfElem el) sl.toNat with
        | none => .next (s.abortWith el rule cCfgField x)
        | some (k, u) =>
          if u.writable r x.a.data then .next (s.setElem el ((e.issuePort rule q l (.xctl k r x.a.data false) true).delay e.nextId (flitDelay (tileOfElem el) (k / 64))))
          else .next (s.abortWith el rule cCfgField x)
  | _ => .next s

/-- XSTAT (R282): checks at issue; the request travels to its unit. -/
def execXstat (d : BitVec 5) (sl : BitVec 5) (r : BitVec 4) (s : State) : Out :=
  match s.cur with
  | .rule el rule =>
    let e := s.elem el
    let l := deliver d Tag.data 0
    match e.input {} with
    | none => .next s
    | some x =>
      if !e.portRoom rule l then .next s
      else
        match s.unitOfSlot (s.taskOfElem el) sl.toNat with
        | none => .next (s.abortWith el rule cCfgField x)
        | some (k, u) =>
          if (u.reg r).isSome then .next (s.setElem el ((e.issuePort rule { d := d } l (.xstat k r) true).delay e.nextId (flitDelay (tileOfElem el) (k / 64))))
          else .next (s.abortWith el rule cCfgField x)
  | _ => .next s

/-- An XCTL or XSTAT request still on its way. -/
def Job.xmoving : Job → Bool
  | .xctl _ _ _ arrived => !arrived
  | .xstat _ _ => true
  | _ => false

/-- R282: an XCTL's completion token leaves its unit. -/
def State.xdone (s : State) (unit : Nat) : Option (Nat × Nat) → State
  | some (el, id) => s.setElem el ((s.elem el).answerWith id none (flitDelay (unit / 64) (tileOfElem el)))
  | none => s

/-- UNIT_REGISTER_READ (R282): an XSTAT reads its register on arrival; an XCTL that arrives takes effect at once in a FROZEN
or DRAINED unit and is deferred to the next element boundary in another. Requests of one element arrive in issue order. -/
def execUnitRegisterRead (el id : Nat) (s : State) : Out :=
  let e := s.elem el
  match e.pend? id with
  | none => .next s
  | some p =>
    if !e.firstJob id Job.xmoving ∨ s.behind el id then .next s
    else
      match p.job with
      | .xstat k r =>
        match s.unit? k with
        | some u => .next (s.setElem el (e.answerWith id (some ((u.reg r).getD 0)) (flitDelay (k / 64) (tileOfElem el))))
        | none => .next s
      | .xctl k r v false =>
        match s.unit? k with
        | some u =>
          let s1 := s.setElem el (e.setJob id (.xctl k r v true))
          if u.life = .frozen ∨ u.life = .drained then .next ((s1.writeUnit k u r v).xdone k (some (el, id)))
          else .next (s1.setUnit k { u with xctl := u.xctl ++ [(r, v, some (el, id))] })
        | none => .next s
      | _ => .next s

/-- XCTL_APPLY (R282): the deferred writes take effect at an element boundary, or at once when the unit is FROZEN. -/
def execXctlApply (unit : Nat) (s : State) : Out :=
  match s.unit? unit with
  | none => .next s
  | some u =>
    match u.xctl with
    | [] => .next s
    | (r, v, w) :: rest =>
      if u.boundary ∨ u.life = .frozen ∨ u.life = .drained then .next ((s.writeUnit unit { u with xctl := rest } r v).xdone unit w) else .next s

/-! Whey nodes (R58, R276 to R278). -/

/-- R58: saturating sum of words. -/
def satWord (a b : Word) : Word := if 2 ^ 32 ≤ a.toNat + b.toNat then 0xFFFFFFFF else a + b

/-- R58: lane-by-lane sums. -/
def addWords : List Word → List Word → List Word
  | a :: l, b :: m => satWord a b :: addWords l m
  | _, _ => []

/-- R277: the node writes records. -/
def wheyRoot (u : SUnit) : Bool := fldN (u.pw 0) 29 1 == 1

/-- R57, R276: the greatest LEVEL. -/
def maxLevel (a b : BitVec 4) : BitVec 4 := if a.toNat < b.toNat then b else a

/-- WHEY_ADDER_STEP (R58): one whole group from each input is summed and sent on, or kept for the root's record. -/
def execWheyAdderStep (unit : Nat) (s : State) : Out :=
  match s.unit? unit with
  | none => .next s
  | some u =>
    match u.st with
    | .whey ins seq none =>
      if u.life ≠ .running ∨ ins.any (fun l => l.length < 4) ∨ !u.whey.isEmpty then .next s
      else
        let groups := ins.map (fun l => l.take 4)
        let sums := groups.foldl (fun acc g => addWords acc (g.map (fun t => t.data))) [0, 0, 0, 0]
        let level := groups.foldl (fun m g => maxLevel m ((g.drop 3).headD ⟨0, 0, 0, 0⟩).level) 0
        let kind : BitVec 2 := fld (u.pw 0) 30 2
        let rest := ins.map (fun l => l.drop 4)
        if wheyRoot u then .next (s.setUnit unit { u with st := .whey rest seq (some (sums, level)) })
        else
          .next (s.setUnit unit { u with
            st := .whey rest seq none
            whey := if u.wheyOn then
              wheyGroup (sums.getD 0 0) (sums.getD 1 0) (sums.getD 2 0) (sums.getD 3 0) level kind else [] })
    | _ => .next s

/-- R59: a statistics record. -/
def statRecord (sums : List Word) (kind level region seq : Nat) (stamp : Dword) : List Word :=
  sums ++ [Word.ofNat (kind * 2 ^ 28 + level * 2 ^ 24 + region * 2 ^ 16 + seq), 0, Word.ofNat stamp.toNat, Word.ofNat (stamp.toNat / 2 ^ 32)]

/-- WHEY_ROOT_WRITE (R278): the root posts one record; a bound or permission failure freezes it. -/
def execWheyRootWrite (unit : Nat) (s : State) : Out :=
  match s.unit? unit with
  | none => .next s
  | some u =>
    match u.st with
    | .whey ins seq (some (sums, level)) =>
      if u.life ≠ .running then .next s
      else
        let nin := fldN (u.pw 0) 0 2 + 1
        let w := s.unitWin unit (fldN (u.pw 0) 8 3)
        let off := (u.pw (nin + 1)).toNat + 32 * (seq.toNat % (fldN (u.pw (nin + 2)) 0 16 + 1))
        let code := if w.len < off + 32 then cWinBound else if (w.base + off) % 4 ≠ 0 then cAlign else if !w.w then cPerm else 0
        if code ≠ 0 then .next (s.unitFreeze unit code 0 (some (w.base + off)) off)
        else
          let reg := regionOfTile (unit / 64)
          let rec_ := statRecord sums (fldN (u.pw 0) 30 2) level.toNat reg seq.toNat (s.cycleOf reg)
          .next ((s.setUnit unit { u with st := .whey ins (seq + 1) none }).unitIssue unit (.root unit s.fresh) true
            (rec_.zipIdx.map (fun x => (w, off + 4 * x.2, 4, .write x.1))))
    | _ => .next s

/-! The Brine codec (R279). -/

/-- BRINE_WHEY_EMIT (R279): the codec emits a conversion group once a closing stop has entered a channel, and its final
group once no copy it serves can count any more, with which it is DRAINED. One that feeds no whey node emits nothing (R277). -/
def execBrineWheyEmit (unit : Nat) (s : State) : Out :=
  match s.unit? unit with
  | none => .next s
  | some u =>
    let go := fun (st : Stats 32) (level : BitVec 4) (final : Bool) =>
      s.setUnit unit { u with
        st := .brine {} none final
        whey := if u.wheyOn then wheyGroup st.sat st.nan st.inf st.flush level 0 else []
        life := if final then .drained else u.life }
    match u.st with
    | .brine st (some level) final => if u.whey.isEmpty then .next (go st level final) else .next s
    | .brine st none false =>
      let reg := regionOfTile (unit / 64)
      let tiles := (List.range 16).map (tileAt reg)
      if u.whey.isEmpty ∧ u.life = .running ∧ tiles.all (fun t =>
          let c := s.copyEng t
          (!c.on || c.life == .drained) && c.flights.isEmpty) then .next (go st 0xF true)
      else .next s
    | _ => .next s

end Sys2Proof.Machine
end

