-- ==== Sys2Proof/Machine/Regions.lean ====
section
/-! DEFINITION. Region controllers (spec/14 R320 to R339) and the records they post (spec/16 R365, R366, R368). -/

namespace Sys2Proof.Machine

/-! Answers to fabric endpoints (R407, R409). -/

/-- R406, R407: answer a transaction of an endpoint; the last 256 answers are kept. -/
def State.reply (s : State) (ep eseq : Nat) (nack : Bool) (opx : Byte) (data : List Byte) : State :=
  let t : Txn := { type := if nack then 7 else 6, dst := BitVec.ofNat 12 ep, src := Config.endpoint, eseq := BitVec.ofNat 16 eseq
                   len := BitVec.ofNat 8 (data.length / 16), opx := opx, addr := 0, data := data }
  let e := s.ep ep
  let e' : Endpoint := { e with answers := (e.answers ++ [({ eseq := BitVec.ofNat 16 eseq, txn := t } : Answer)]).drop (e.answers.length + 1 - 256) }
  { s.setEp ep e' with outq := s.outq ++ [t] }

/-! Records (R365, R368). -/

/-- R340: the code of a task state. -/
def TaskSt.code : TaskSt → Nat
  | .queued => 0
  | .waiting => 1
  | .ready => 2
  | .binding => 3
  | .loading => 4
  | .running => 5
  | .draining => 6
  | .preempting => 7
  | .suspended => 8
  | .done => 9
  | .faulted => 10
  | .aborted => 11

/-- R368: an event record. -/
def eventRecord (type region taskid : Nat) (evdata : Word) (st : Nat) (code : Byte) (i3 i4 i5 : Word) (stamp : Dword) : List Word :=
  [Word.ofNat (type * 2 ^ 24 + region * 2 ^ 18 + taskid), evdata, Word.ofNat (st * 2 ^ 28 + code.toNat * 2 ^ 20), i3, i4, i5,
    Word.ofNat stamp.toNat, Word.ofNat (stamp.toNat / 2 ^ 32)]

/-- R365: an event waits for its ring; in FREE and FAULTED it is dropped, and its producer goes on. -/
def State.postEvent (s : State) (ctx : Nat) (owner : Option Nat) (r : List Word) : State :=
  let c := s.ctx ctx
  if c.st = .free ∨ c.st = .faulted then s.freeEntry owner else s.setCtx ctx { c with events := c.events ++ [(owner, r)] }

/-- The task's EVDATA. -/
def State.evdata (s : State) (task : Nat) : Word := ((s.task? task).map (fun t => t.record.getD 11 0)).getD 0

/-- An event of a task, with the counter of a region. -/
def State.taskEvent (s : State) (task type region : Nat) (owner : Option Nat) (code : Byte) (i3 i4 i5 : Word) : State :=
  match s.task? task with
  | none => s
  | some t =>
    s.postEvent t.ctx owner (eventRecord type region t.taskid.toNat (s.evdata task) ((t.final.map Prod.fst).getD t.st).code code i3 i4 i5 (s.cycleOf region))

/-- R365: a ring has no room. -/
def ringFull (head tail len : Word) : Bool :=
  (tail.toNat + 1) % (fldN len 0 16 + 1) == head.toNat

/-- R365: a record at an index of a ring, and the next index. -/
def State.ringWrite (s : State) (base : BitVec 64) (tail : Word) (r : List Word) : State :=
  let a := base.toNat + 32 * tail.toNat
  { s with mem := s.mem.writeWords a r }.clearPoison a 32

/-- The next index. -/
def ringNext (tail len : Word) : Word := Word.ofNat ((tail.toNat + 1) % (fldN len 0 16 + 1))

/-- EVENT jobs of a context's elements that have reached the head of their port queues. -/
def State.eventJobs (s : State) (ctx : Nat) : List (Nat × Nat × Word × Word) :=
  s.elems.flatMap (fun x => x.2.pend.filterMap (fun (p : Pend) => match p.job with
    | .event a b => if s.ctxOfTask (s.taskOfElem x.1) = ctx ∧ !s.behind x.1 p.id then some (x.1, p.id, a, b) else none
    | _ => none))

/-- R365: write one event, or drop it where the state of the context says so. -/
def State.putEvent (s : State) (ctx : Nat) (r : List Word) (go : State → State) : State :=
  let c := s.ctx ctx
  let full := ringFull c.eqhead c.eqtail c.eqlen
  let bad := s.poisoned (c.eqbase.toNat + 32 * c.eqtail.toNat) 32 true
  if c.st = .free ∨ c.st = .faulted ∨ c.st = .creating then go s
  else if full ∨ bad then
    if c.st = .destroying then go s else if full then s else go (s.areaFault ctx [(c.eqbase.toNat + 32 * c.eqtail.toNat, 32)])
  else go ((s.ringWrite c.eqbase c.eqtail r).setCtx ctx { c with eqtail := ringNext c.eqtail c.eqlen })

/-- R293, R304: the event that lets a task's entry go is written once every access of the task has performed at system scope. -/
def State.ripe (s : State) : Option Nat → Bool
  | some k => s.accs.all (fun a => a.task != k || a.performed 3 || a.failedCode.isSome)
  | none => true

/-- EVENT_RECORD_WRITE (R365): the oldest waiting event of the context that may be written, or an element's EVENT (R211), enters
the ring. -/
def execEventRecordWrite (ctx : Nat) (s : State) : Out :=
  match (s.ctx ctx).events.findIdx? (fun x => s.ripe x.1) with
  | some k =>
    let x := (s.ctx ctx).events.getD k (none, [])
    .next (s.putEvent ctx x.2 (fun s =>
      (s.setCtx ctx { s.ctx ctx with events := (s.ctx ctx).events.eraseIdx k }).freeEntry x.1))
  | none =>
    match s.eventJobs ctx with
    | [] => .next s
    | (el, id, a, b) :: _ =>
      let reg := regionOfElem el
      let task := s.taskOfElem el
      let r := eventRecord 0x10 reg (s.taskId task) (s.evdata task) (((s.task? task).map (fun t => t.st.code)).getD 0)
        0 a b (Word.ofNat el) (s.cycleOf reg)
      .next (s.putEvent ctx r (fun s => s.setElem el ((s.elem el).finish id none false)))

/-! Freezes (R332, R366). -/

/-- R332, R366: the record of a frozen element. -/
def State.elemRecord (s : State) (el : Nat) : List Word :=
  let f := (s.elem el).fault
  faultRecord 0 f.code (regionOfElem el) el (s.taskId (s.taskOfElem el)) 0xFFFF 0 (if f.vav then f.va.toNat else 0) 0 f.stamp

/-- R126: the end id of a unit by its key. -/
def State.unitEnd (s : State) (k : Nat) : Nat :=
  let tile := k / 64
  endWord (kindCode (kindOfTile tile)) (s.localTile (s.taskOfRegion (regionOfTile tile)) tile) (k % 64) 0 0

/-- R257, R366: the record of a frozen unit. -/
def State.unitRecord (s : State) (k : Nat) (u : SUnit) : List Word :=
  let reg := regionOfTile (k / 64)
  faultRecord 1 u.fault.code reg 0 (s.taskId (s.taskOfRegion reg)) 0xFFFF (s.unitEnd k) (if u.fault.vav then u.fault.va else 0)
    u.fault.detail.toNat u.fault.stamp

/-- R203, R366: the record of a frozen copy engine. -/
def State.copyRecord (s : State) (t : Nat) (f : TrigFreeze) : List Word :=
  let reg := regionOfTile t
  faultRecord 1 f.code reg f.tmpl (s.taskId (s.taskOfRegion reg)) 0xFFFF
    (endWord 0 (s.localTile (s.taskOfRegion reg) t) 18 0 f.port) 0 f.data.toNat f.stamp

/-- R332: collect the freezes of a context's regions that have not been posted. -/
def State.collectFreezes (s : State) (ctx : Nat) : State :=
  let mine := fun (reg : Nat) => s.ctxOfRegion reg == ctx
  let es := s.elems.filter (fun x => x.2.unposted && mine (regionOfElem x.1))
  let us := s.units.filter (fun x => x.2.unposted && mine (regionOfTile (x.1 / 64)))
  let cs := s.copies.filter (fun x => x.2.unposted && mine (regionOfTile x.1))
  let s1 := es.foldl (fun s x => (s.setElem x.1 { s.elem x.1 with unposted := false }).postFault ctx (s.elemRecord x.1)) s
  let s2 := us.foldl (fun s x => (s.setUnit x.1 { x.2 with unposted := false }).postFault ctx (s.unitRecord x.1 x.2)) s1
  cs.foldl (fun s x => match x.2.freeze with
    | some f => (s.setCopy x.1 { x.2 with unposted := false }).postFault ctx (s.copyRecord x.1 f)
    | none => s) s2

/-- R366, R454: a fault record as it is posted: STAMP is the counter of its region now (notes/assumptions/14). -/
def State.stamped (s : State) (r : List Word) : List Word :=
  let c := s.cycleOf (fldN (r.getD 0 0) 14 6)
  r.take 6 ++ [Word.ofNat c.toNat, Word.ofNat (c.toNat / 2 ^ 32)]

/-- FAULT_RECORD_POST (R332, R365): new freezes join the waiting records; the oldest enters the fault queue. -/
def execFaultRecordPost (ctx : Nat) (s0 : State) : Out :=
  let s := s0.collectFreezes ctx
  let c := s.ctx ctx
  match c.faults with
  | [] => .next s
  | r :: rest =>
    let full := ringFull c.fqhead c.fqtail c.fqlen
    let bad := s.poisoned (c.fqbase.toNat + 32 * c.fqtail.toNat) 32 true
    if full ∨ bad then
      if c.st = .destroying then .next (s.setCtx ctx { c with faults := rest })
      else if full then .next s else .next (s.areaFault ctx [(c.fqbase.toNat + 32 * c.fqtail.toNat, 32)])
    else .next ((s.ringWrite c.fqbase c.fqtail (s.stamped r)).setCtx ctx { c with faults := rest, fqtail := ringNext c.fqtail c.fqlen })

/-! Sources and sinks (R103, R329, R330). -/

/-- Replace source `k` of a region. -/
def State.setSource (s : State) (reg k : Nat) (x : Source) : State :=
  s.setRegion reg { s.region reg with sources := (s.region reg).sources.set k x }

/-- The region's image runs. -/
def RegSt.runs (r : RegSt) : Bool := r == .active || r == .frozen

/-- A token enters an input end of a node. -/
def State.enter (s : State) (d : EndPt) (t : Token) : State :=
  let p := s.ports d.tile d.unit
  let i := p.inAt d.port
  s.setPorts d.tile d.unit (p.setIn d.port { i with buf := i.buf ++ [t] })

/-- R329: the controller injects at the sources of its part; a region whose elements have all drained may hold a copy engine that
still waits for its DRAIN. -/
def RegSt.injects (r : RegSt) : Bool := r.runs || r == .draining

/-- SOURCE_INJECT (R329): the next argument word, the last of them tagged LAST, then DRAIN. -/
def execSourceInject (region src : Nat) (s : State) : Out :=
  let r := s.region region
  match r.sources[src]? with
  | none => .next s
  | some x =>
    if !r.st.injects ∨ x.drained ∨ x.marked ∨ ((s.ports x.dst.tile x.dst.unit).inAt x.dst.port).room = 0 then .next s
    else
      match x.words with
      | [] => .next (((s.enter x.dst ⟨0, Tag.drain⟩).setSource region src { x with drained := true }).modTask (s.taskOfRegion region)
          (fun t => { t with drainIn := true }))
      | [w] => .next ((s.enter x.dst ⟨w, Tag.last⟩).setSource region src { x with words := [] })
      | w :: rest => .next ((s.enter x.dst ⟨w, Tag.data⟩).setSource region src { x with words := rest })

/-- The token that heads an output end. -/
def OutEnd.head (o : OutEnd) : Option Token :=
  match o.slots with
  | .full t :: _ => some t
  | _ => none

/-- SINK_TAKE (R330): one token of a sink end is taken, discarded and counted; after DRAIN no more. -/
def execSinkTake (region sink : Nat) (s : State) : Out :=
  let r := s.region region
  match r.sinks[sink]? with
  | none => .next s
  | some x =>
    let p := s.ports x.frm.tile x.frm.unit
    let o := p.outAt x.frm.port
    match o.head with
    | none => .next s
    | some t =>
      if x.drained then .next s
      else
        let s1 := s.setPorts x.frm.tile x.frm.unit (p.setOut x.frm.port { o with slots := o.slots.tail })
        let r1 := s1.region region
        .next (s1.setRegion region { r1 with
          sinkcnt := satAdd r1.sinkcnt 1
          sinks := r1.sinks.set sink { x with drained := x.drained || t.tag == Tag.drain, marked := x.marked || t.tag == Tag.mark } })

/-! End ids (R9, R126). -/

/-- The tile of a kind with a local number in a span. -/
def tileOfLocal (row col rows cols : Nat) (k : TileKind) (n : Nat) : Option Nat :=
  ((spanTiles row col rows cols).filter (fun t => kindOfTile t == k))[n]?

/-- R126: the kind of a KIND code. -/
def kindOfCode (n : Nat) : TileKind := match n with | 0 => .c | 1 => .m | 2 => .s | _ => .e

/-- The hardware end that an end id names in a span. -/
def hwEnd (sp : Nat × Nat × Nat × Nat) (w : Word) : Option EndPt :=
  (tileOfLocal sp.1 sp.2.1 sp.2.2.1 sp.2.2.2 (kindOfCode (fldN w 30 2)) (fldN w 20 10)).map
    (fun t => { tile := t, unit := fldN w 14 6, port := fldN w 8 4 })

/-- R337: the input end that an end id names: its END field is 00. -/
def inEnd (sp : Nat × Nat × Nat × Nat) (w : Word) : Option EndPt := if fldN w 12 2 = 0 then hwEnd sp w else none

/-! Signals (R335 to R338). -/

/-- R337: what becomes of a signal at its region. -/
inductive SigOut where
  | unhandled (reason : BitVec 4)
  | fenced
  | busy
  | token (dst : EndPt) (t : Token)
  | event
  deriving DecidableEq, Repr

/-- R337: the entry decides, in the order of the table. -/
def State.sigDecide (s : State) (g : Signal) : SigOut :=
  let r := s.region g.region
  let e := r.sig[g.h.toNat]
  if !e.getLsbD 63 then .unhandled 0
  else if r.st = .fenced then .fenced
  else if e.getLsbD 62 then
    let c := s.ctx (s.ctxOfRegion g.region)
    if ringFull c.eqhead c.eqtail c.eqlen then .busy else .event
  else
    match inEnd (s.spanOf (s.taskOfRegion g.region)) (Word.ofNat e.toNat) with
    | none => .unhandled 1
    | some d =>
      match r.sources.find? (fun x => x.dst == d) with
      | none => .unhandled 1
      | some x =>
        if !r.st.runs ∨ x.drained ∨ x.marked then .unhandled 1
        else if ((s.ports d.tile d.unit).inAt d.port).room = 0 then .busy
        else .token d ⟨g.payload, BitVec.ofNat 4 (e.toNat / 2 ^ 58)⟩

/-- R338: SENDER with its FAB bit. -/
def Signal.senderWord (g : Signal) : Word := Word.ofNat ((if g.fab then 2 ^ 31 else 0) + g.sender)

/-- R211, R337: the signal has been accepted: its sender is told. -/
def State.sigDone (s : State) (g : Signal) : State :=
  let s1 := { s with signals := s.signals.filter (fun x => x.id != g.id) }
  if g.fab then s1.reply g.sender g.reply false 0 [] else s1.setElem g.sender ((s1.elem g.sender).finish g.reply none false)

/-- R337: a NACK: a fabric sender is told; an element's signal is retried, unless the region is fenced. -/
def State.sigNack (s : State) (g : Signal) (reason : Byte) : State :=
  if g.fab then { s with signals := s.signals.filter (fun x => x.id != g.id) }.reply g.sender g.reply true reason []
  else if reason = 0x08 then { s with signals := s.signals.filter (fun x => x.id != g.id) } else s

/-- R337, R338: the entry takes a signal, or its sender hears that it did not. A region without a task names context 0 (DESIGN
CHOICE, log 86). -/
def State.takeSignal (s : State) (g : Signal) : State :=
  let r := s.region g.region
  let ver : BitVec 16 := BitVec.ofNat 16 (r.sig[g.h.toNat].toNat / 2 ^ 32)
  let ctx := s.ctxOfRegion g.region
  let task := s.taskOfRegion g.region
  let info := Word.ofNat (g.h.toNat * 2 ^ 24 + ver.toNat)
  let st := ((s.task? task).map (fun t => t.st.code)).getD 0
  match s.sigDecide g with
  | .fenced => s.sigNack g 0x08
  | .busy => s.sigNack g 0x07
  | .token d t => (s.enter d t).sigDone g
  | .event =>
    (s.postEvent ctx none (eventRecord 0x11 g.region (s.taskId task) (s.evdata task) st 0 info g.payload g.senderWord
      (s.cycleOf g.region))).sigDone g
  | .unhandled reason =>
    if 32 ≤ r.unh.length then s.sigNack g 0x07
    else
      let u : Unhandled := { payload := g.payload, reason := reason, entry := g.h, version := ver, fab := g.fab
                             sender := BitVec.ofNat 14 g.sender, stamp := s.cycleOf g.region }
      ((s.setRegion g.region { r with unh := r.unh ++ [u] }).postEvent ctx none
        (eventRecord 0x12 g.region (s.taskId task) (s.evdata task) st 0
          (info + Word.ofNat (reason.toNat * 2 ^ 28)) g.payload g.senderWord (s.cycleOf g.region))).sigDone g

/-- SIGNAL_HANDLE (R337, R338): an element's signal, once its port queue has handed it on. -/
def execSignalHandle (sig : Nat) (s : State) : Out :=
  match s.signals.find? (fun g => g.id == sig) with
  | none => .next s
  | some g => if !g.fab && s.behind g.sender g.reply then .next s else .next (s.takeSignal g)

/-- R336: a staged entry may be committed; the reserved bits are 57:48 and those of the end id (R126). -/
def sigStageOk (v : Dword) : Bool :=
  let tag : Tag := BitVec.ofNat 4 (v.toNat / 2 ^ 58)
  v.toNat / 2 ^ 48 % 2 ^ 10 == 0 && v.toNat % 2 ^ 8 == 0 && !(tag == 7 || tag == 0xC || tag == 0xD || tag == 0xE || tag == 0xF)
    && (!v.getLsbD 62 || (tag == 0 && v.toNat % 2 ^ 32 == 0))

/-- R322, R339: a FENCED region ignores every write to its block. -/
def State.regWrite (s : State) (region : Nat) (f : Region → Region) : State :=
  if (s.region region).st = .fenced then s else s.setRegion region (f (s.region region))

/-- SIGCOMMIT (R336): replaces or empties an entry whole. -/
def execSigcommit (region : Nat) (v : Word) (s : State) : Out :=
  .next (s.regWrite region (fun r =>
    let k := fldN v 0 4
    let old := r.sig[k % 16]'(Nat.mod_lt _ (by decide))
    let ver := (old.toNat / 2 ^ 32 % 2 ^ 16 + 1) % 2 ^ 16
    if fldN v 31 1 = 1 then
      { r with sig := r.sig.set (k % 16) (BitVec.ofNat 64 (ver * 2 ^ 32)) (Nat.mod_lt _ (by decide)), sigbad := false }
    else if sigStageOk r.sigstage then
      { r with
        sig := r.sig.set (k % 16) (BitVec.ofNat 64 (r.sigstage.toNat / 2 ^ 48 * 2 ^ 48 + ver * 2 ^ 32 + r.sigstage.toNat % 2 ^ 32))
          (Nat.mod_lt _ (by decide))
        sigbad := false }
    else { r with sigbad := true }))

/-- UNHPOP (R322): removes the oldest unhandled record. -/
def execUnhpop (region : Nat) (s : State) : Out := .next (s.regWrite region (fun r => { r with unh := r.unh.drop 1 }))

/-- R320: an image is placed in a region of this state. -/
def RegSt.holds : RegSt → Bool
  | .free => false
  | .loading => false
  | .restoring => false
  | .fenced => false
  | _ => true

/-- R322: the configured unit that a region's USEL names, and its register. -/
def State.uselUnit (s : State) (region : Nat) : Option (Nat × SUnit × BitVec 4) :=
  let r := s.region region
  if !r.st.holds then none
  else match hwEnd (s.spanOf (s.taskOfRegion region)) (Word.ofNat r.usel.toNat) with
  | none => none
  | some d =>
    if regionOfTile d.tile ≠ region then none
    else (s.unit? (d.tile * 64 + d.unit)).map (fun u => (d.tile * 64 + d.unit, u, BitVec.ofNat 4 (r.usel.toNat / 2 ^ 32)))

/-- UDATA_WRITE (R282, R322): a write of the USEL register, as an XCTL makes it. -/
def execUdataWrite (region : Nat) (v : Word) (s : State) : Out :=
  if (s.region region).st = .fenced then .next s
  else
    match s.uselUnit region with
    | none => .next s
    | some (k, u, r) =>
      if !u.writable r v then .next s
      else if u.life = .frozen ∨ u.life = .drained then .next (s.writeUnit k u r v)
      else .next (s.setUnit k { u with xctl := u.xctl ++ [(r, v, none)] })

/-! Resume (R80, R203, R257, R332). -/

/-- The elements, units and copy engines of a region. -/
def State.elemsOf (s : State) (reg : Nat) : Table Elem := s.elems.filter (fun x => regionOfElem x.1 == reg)
def State.unitsOf (s : State) (reg : Nat) : Table SUnit := s.units.filter (fun x => regionOfTile (x.1 / 64) == reg)
def State.copiesOf (s : State) (reg : Nat) : Table CopyEng := s.copies.filter (fun x => regionOfTile x.1 == reg)

/-- R320: an element, unit or copy engine of the region is FROZEN. -/
def State.anyFrozen (s : State) (reg : Nat) : Bool :=
  (s.elemsOf reg).any (fun x => x.2.life == .frozen) || (s.unitsOf reg).any (fun x => x.2.life == .frozen)
    || (s.copiesOf reg).any (fun x => x.2.freeze.isSome)

/-- R321: ACTIVE and FROZEN follow the freezes. -/
def State.freezeState (s : State) (reg : Nat) : State :=
  let r := s.region reg
  if r.st = .active ∧ s.anyFrozen reg then s.setRegion reg { r with st := .frozen }
  else if r.st = .frozen ∧ !s.anyFrozen reg then s.setRegion reg { r with st := .active }
  else s

/-- R332: a freeze whose record has still to be posted is posted now. -/
def State.postElem (s : State) (el : Nat) : State :=
  if (s.elem el).unposted then s.postFault (s.ctxOfRegion (regionOfElem el)) (s.elemRecord el) else s

/-- R332: the same of a unit. -/
def State.postUnit (s : State) (k : Nat) (u : SUnit) : State :=
  if u.unposted then s.postFault (s.ctxOfRegion (regionOfTile (k / 64))) (s.unitRecord k u) else s

/-- R332: the same of a copy engine. -/
def State.postCopy (s : State) (tile : Nat) : State :=
  match (s.copyEng tile).unposted, (s.copyEng tile).freeze with
  | true, some f => s.postFault (s.ctxOfRegion (regionOfTile tile)) (s.copyRecord tile f)
  | _, _ => s

/-- REGION_RESUME (R332): every freeze has its record, one resumed in its own round too; it resumes the FROZEN element,
unit or copy engine that END names in the region. -/
def execRegionResume (region : Nat) (endid : Word) (s : State) : Out :=
  if (s.region region).st = .fenced then .next s
  else
    match hwEnd (s.spanOf (s.taskOfRegion region)) endid with
    | none => .next s
    | some d =>
      if regionOfTile d.tile ≠ region then .next s
      else if kindOfTile d.tile = .c then
        if d.unit < 16 then
          let el := elemOfTile d.tile d.unit
          .next (((s.postElem el).setElem el ((s.elem el).resume)).freezeState region)
        else if d.unit = 18 then
          .next (((s.postCopy d.tile).setCopy d.tile { s.copyEng d.tile with freeze := none, unposted := false }).freezeState region)
        else .next s
      else
        match s.unit? (d.tile * 64 + d.unit) with
        | some u =>
          if u.life = .frozen then
            .next (((s.postUnit (d.tile * 64 + d.unit) u).setUnit (d.tile * 64 + d.unit) { u with life := if u.markSent then .marked else .running, fault := {}, unposted := false }).freezeState region)
          else .next s
        | none => .next s

/-- R186, R317, R387: operations that are saved with their element instead of completing first: a parked barrier waiter, a
walk, a walk that waits for a slot. -/
def Job.saved : Job → Bool
  | .barPark => true
  | .walk => true
  | .walkIssue _ _ _ => true
  | _ => false

/-! Drain and release (R321, R297). -/

/-- The region is placed for the task. -/
def State.owns (s : State) (task reg : Nat) : Bool :=
  let r := s.region reg
  r.st != .free && r.st != .fenced && r.task.toNat == task

/-- R331: the route from tile `a` to tile `b` goes when a region is emptied: it begins there, or it ends there and its
beginning runs no more. -/
def State.routeGoes (s : State) (reg a b : Nat) : Bool :=
  regionOfTile a == reg || (regionOfTile b == reg && !s.owns (s.taskOfRegion reg) (regionOfTile a))

/-- R332: every freeze of the region that has still to be posted is. -/
def State.postAll (s : State) (reg : Nat) : State :=
  let s1 := (s.elemsOf reg).foldl (fun s x => s.postElem x.1) s
  let s2 := (s.unitsOf reg).foldl (fun s x => s.postUnit x.1 x.2) s1
  (s.copiesOf reg).foldl (fun s x => s.postCopy x.1) s2

/-- The nodes placed in a region leave it. -/
def State.dropNodes (s : State) (reg : Nat) : State :=
  { s with
    elems := s.elems.filter (fun x => regionOfElem x.1 != reg)
    copies := s.copies.filter (fun x => regionOfTile x.1 != reg)
    presses := s.presses.filter (fun x => regionOfTile x.1 != reg)
    units := s.units.filter (fun x => regionOfTile (x.1 / 64) != reg)
    loupes := s.loupes.filter (fun x => regionOfTile x.1 != reg) }

/-- Its routes go. An access that has still to perform at system scope goes on by itself (R297). -/
def State.dropRoutes (s : State) (reg : Nat) : State :=
  { s with
    chans := s.chans.filter (fun x => !s.routeGoes reg x.2.frm.tile x.2.dst.tile)
    wheys := s.wheys.filter (fun x => !s.routeGoes reg x.2.frm.tile x.2.node.tile)
    accs := (s.accs.filter (fun a => a.region != reg || !(a.performed 3 || a.failedCode.isSome))).map (fun (a : Access) =>
      if a.region = reg then { a with src := a.src.freed a.id } else a) }

/-- What is placed in a region leaves it, its freezes posted. -/
def State.dropRegion (s : State) (reg : Nat) : State := ((s.postAll reg).dropNodes reg).dropRoutes reg

/-- R321, R347: the region is FREE from this round on; its cache entries stay, unpinned. -/
def State.setFree (s : State) (reg : Nat) : State :=
  let r := s.region reg
  if r.st = .fenced then s
  else
    s.setRegion reg { r with
      st := .free, ctx := 0, task := 0, sources := [], sinks := [], placed := false, cfgbad := false
      cache := r.cache.map (fun c => { c with pin := false })
      freed := s.round }

/-- R321: the region is emptied and becomes FREE. -/
def State.freeRegion (s : State) (reg : Nat) : State := (s.dropRegion reg).setFree reg

/-- R321, R439, R454: the region has drained and becomes FREE; its nodes stand there DRAINED until the next placement
(notes/assumptions/80). -/
def State.drainRegion (s : State) (reg : Nat) : State := (s.dropRoutes reg).setFree reg

/-- R297: an access of the region is still outstanding at device scope. -/
def State.outstanding (s : State) (reg : Nat) : Bool := s.accs.any (fun a => a.region == reg && !a.performed 2)

/-- R86, R321: every element and unit of the region is DRAINED; a codec that feeds no whey node has nothing to forward and is
not waited for (notes/assumptions/61). -/
def State.allDrained (s : State) (reg : Nat) : Bool :=
  (s.elemsOf reg).all (fun x => x.2.life == .drained || x.2.life == .off)
    && (s.unitsOf reg).all (fun x => x.2.life == .drained || x.2.kind == .whey || (x.2.kind == .brine && !x.2.wheyOn))

/-- R56, R58: the producer of an end has emitted its final group; a node has, once its own producers have and it is empty. -/
def State.wheyOver (s : State) : Nat → EndPt → Bool
  | 0, _ => true
  | n + 1, f =>
    let done := fun (l : Life) => l == .drained || l == .off
    match kindOfTile f.tile with
    | .c =>
      if f.unit < 16 then
        let e := s.elem (elemOfTile f.tile f.unit)
        done e.life && e.whey.isEmpty
      else done (s.press f.tile).life && (s.press f.tile).wheyConv.isEmpty && (s.press f.tile).wheySeg.isEmpty
    | _ =>
      match s.unit? (f.tile * 64 + f.unit) with
      | none => true
      | some u =>
        u.whey.isEmpty && (if u.kind = .whey then
          u.idle && s.wheys.all (fun x => !(x.2.node.tile == f.tile && x.2.node.unit == f.unit) || (x.2.moving.isEmpty && s.wheyOver n x.2.frm))
          else done u.life)

/-- R297, R321: every engine of the region is idle; a whey node is, once nothing can reach it (R58). -/
def State.enginesIdle (s : State) (reg : Nat) : Bool :=
  (s.copiesOf reg).all (fun x => x.2.flights.isEmpty && (!x.2.on || x.2.life == .drained) && x.2.owed.isEmpty)
    && s.presses.all (fun x => regionOfTile x.1 != reg || (x.2.queue.isEmpty && x.2.result.isEmpty && (!x.2.on || x.2.life == .drained)
      && x.2.wheyConv.isEmpty && x.2.wheySeg.isEmpty))
    && s.loupes.all (fun x => regionOfTile x.1 != reg || x.2.slots.toList.all (fun w => w.st == .free))
    && (s.elemsOf reg).all (fun x => x.2.pend.isEmpty && x.2.owed.isEmpty && x.2.whey.isEmpty)
    && (s.unitsOf reg).all (fun x => x.2.owed.isEmpty && x.2.whey.isEmpty
      && (x.2.kind != .whey || s.wheyOver (s.wheys.length + 1) ⟨x.1 / 64, x.1 % 64, 8⟩))

/-- The life of the node that an end belongs to. -/
def State.lifeAt (s : State) (d : EndPt) : Life :=
  match kindOfTile d.tile with
  | .c =>
    if d.unit < 16 then (s.elem (elemOfTile d.tile d.unit)).life
    else if d.unit = 16 then (s.press d.tile).life
    else (s.copyEng d.tile).life
  | _ =>
    match s.unit? (d.tile * 64 + d.unit) with
    | some u => u.life
    | none => .off

/-- R88: nothing takes what a route carries: a control route or a back edge to a node that has drained. -/
def State.untaken (s : State) (c : Channel) : Bool := (c.ctl || c.back) && (s.lifeAt c.dst == .drained || s.lifeAt c.dst == .off)

/-- No token stands at the end where a route begins, or on it. -/
def State.routeEmpty (s : State) (c : Channel) : Bool :=
  let p := s.ports c.frm.tile c.frm.unit
  c.moving.isEmpty && (if c.ctl then (p.coutAt c.frm.port).held == 0 else (p.outAt c.frm.port).slots.isEmpty)

/-- R88, R330: what the nodes of the region have sent, DRAIN with it, has left the region, but for what nothing takes any more
(R321), and its sinks have taken theirs. -/
def State.sentOut (s : State) (reg : Nat) : Bool :=
  s.chans.all (fun x => regionOfTile x.2.frm.tile != reg || s.untaken x.2 || s.routeEmpty x.2)
    && s.wheys.all (fun x => regionOfTile x.2.frm.tile != reg || x.2.moving.isEmpty)
    && (s.region reg).sinks.all (fun x => x.drained)

/-- REGION_DRAIN_COMPLETE (R321): a DRAINING region whose engines are idle, whose accesses have performed and whose tokens have
gone becomes FREE; a configuration error of this round comes first. -/
def execRegionDrainComplete (region : Nat) (s : State) : Out :=
  if (s.region region).st = .draining ∧ !(s.region region).cfgbad ∧ s.enginesIdle region ∧ s.sentOut region ∧ !s.outstanding region then
    .next (s.drainRegion region)
  else .next s

/-- R321: ACTIVE becomes DRAINING with the last element or unit. -/
def State.drainState (s : State) (reg : Nat) : State :=
  let r := s.region reg
  if r.st = .active ∧ s.allDrained reg then s.setRegion reg { r with st := .draining } else s

/-! Flush (R331). -/

/-- Tokens held by the ends of a node. -/
def Ports.tokens (p : Ports) : Nat :=
  p.ins.toList.foldl (fun n i => n + i.buf.length + i.saved.length) 0
    + p.outs.toList.foldl (fun n o => n + ((o.slots ++ o.keep).filter (fun x => match x with
    | .full _ => true
    | .held _ => false)).length) 0
    + p.cins.toList.foldl (fun n c => n + c.held) 0 + p.couts.toList.foldl (fun n c => n + c.held) 0

/-- The group tokens at the inputs of an adder node. -/
def SUnit.wheyIns (u : SUnit) : Nat :=
  match u.st with
  | .whey ins _ _ => ins.foldl (fun n l => n + l.length) 0
  | _ => 0

/-- R331: the tokens that a flush of the region discards. -/
def State.tokensIn (s : State) (reg : Nat) : Nat :=
  (s.elemsOf reg).foldl (fun n x => n + x.2.ports.tokens + x.2.whey.length) 0
    + (s.unitsOf reg).foldl (fun n x => n + x.2.ports.tokens + x.2.whey.length + x.2.wheyIns) 0
    + (s.copiesOf reg).foldl (fun n x => n + x.2.ports.tokens) 0
    + s.presses.foldl (fun n x => if regionOfTile x.1 = reg then
        n + x.2.ports.tokens + x.2.result.length + x.2.wheyConv.length + x.2.wheySeg.length else n) 0
    + s.chans.foldl (fun n x => if s.routeGoes reg x.2.frm.tile x.2.dst.tile then n + x.2.moving.length else n) 0
    + s.wheys.foldl (fun n x => if s.routeGoes reg x.2.frm.tile x.2.node.tile then n + x.2.moving.length else n) 0

/-- R331: steps 3 and 4: the region is emptied, the tokens are counted, the FLUSH event is posted, and it becomes FREE. -/
def State.flushRegion (s : State) (task reg : Nat) : State :=
  let n := s.tokensIn reg
  let r := s.region reg
  let s1 := s.setRegion reg { r with flushcnt := satAdd r.flushcnt n }
  (s1.taskEvent task 0x13 reg none 0 (Word.ofNat n) 0 0).freeRegion reg

end Sys2Proof.Machine
end

