-- ==== Sys2Proof/Machine/Gate.lean ====
section
/-! DEFINITION. What a transaction must pass before it is performed: header checks (spec/20 R406), access entries
(spec/22 R433, R434), and receipt in order (spec/20 R407). -/

namespace Sys2Proof.Machine

/-! Receipt (R407). -/

/-- The link carries flits. -/
def Link.carries (l : Link) : Bool := l.st == .up || l.st == .degraded || l.st == .retrying

/-- R409: a transaction for another device is passed on; one that no port can bring there is NACKed with NOROUTE in its name, and an
answer waits (R407). -/
def State.relay (s : State) (t : Txn) : State :=
  let lost : Txn := { type := 7, dst := t.src, src := t.dst, eseq := t.eseq, len := 0, opx := 0x12, addr := 0, data := [] }
  let ok := t.type == 6 || t.type == 7 || (List.range 18).any (fun k => (s.link k).carries && Config.reaches k t.dst)
  { s with outq := s.outq ++ [if ok then t else lost] }

/-- R407: a transaction to this device: the next of its source is performed; a later one is held; a duplicate has its
stored answer sent again; one for another device is passed on. `f` answers none while it cannot be performed yet. -/
def State.receive (s : State) (t : Txn) (f : State → Option State) : State :=
  if t.dst ≠ Config.endpoint then s.relay t
  else
    let ep := t.src.toNat
    let e := s.ep ep
    let d := (t.eseq - e.expect).toNat
    if d = 0 then
      match f (s.setEp ep { e with expect := e.expect + 1, held := e.held.filter (fun h => h.eseq != t.eseq) }) with
      | some s' => s'
      | none => s.setEp ep { e with held := if e.held.contains t then e.held else e.held ++ [t] }
    else if d < 256 then s.setEp ep { e with held := if e.held.contains t then e.held else e.held ++ [t] }
    else if 65536 - 256 ≤ d then
      match e.answers.find? (fun a => a.eseq == t.eseq) with
      | some a => { s with outq := s.outq ++ [a.txn] }
      | none => s
    else s

/-- Answer a transaction with a RESPONSE. -/
def State.respond (s : State) (t : Txn) (data : List Byte) : State := s.reply t.src.toNat t.eseq.toNat false 0 data
/-- Answer a transaction with a NACK. -/
def State.refuse (s : State) (t : Txn) (reason : Byte) : State := s.reply t.src.toNat t.eseq.toNat true reason []

/-! Access entries (R433, R434). -/

/-- R434: the valid entry of an endpoint; the lower index counts. -/
def Sec.entry (c : Sec) (ep : BitVec 12) : Option Acl := c.acl.toList.find? (fun a => a.v && a.ep == ep)
/-- The endpoint is ADMIN. -/
def Sec.admin (c : Sec) (ep : BitVec 12) : Bool := match c.entry ep with | some a => a.admin | none => false
/-- The endpoint may reach memory. -/
def Sec.mem (c : Sec) (ep : BitVec 12) : Bool := match c.entry ep with | some a => a.admin || a.mem | none => false
/-- The endpoint may serve a context. -/
def Sec.serves (c : Sec) (ep : BitVec 12) (ctx : Nat) : Bool :=
  match c.entry ep with | some a => a.ctxmask.getLsbD ctx | none => false

/-- R406, R431, R434: BOOTFAIL denies all but what is always allowed; BADHDR comes before DENIED; then it is performed. -/
def State.gate (s : State) (t : Txn) (hdr always allowed : Bool) (f : State → Option State) : Option State :=
  if s.sec.boot = .fail ∧ !(hdr && always) then some (s.refuse t 0x11)
  else if !hdr then some (s.refuse t 0x10)
  else if !(always || allowed) then some (s.refuse t 0x11)
  else f s

/-! Headers (R406). -/

/-- R406: the fields that every type checks: TYPE, the reserved bits, LEN data units of 16 bytes when data comes with the
header, ADDR bits 63:52. -/
def txnHeadOk (t : Txn) (type : Nat) (withData : Bool) : Bool :=
  t.type.toNat == type && t.resv == 0 && decide (t.len.toNat ≤ 128 ∧ t.addr.toNat < 2 ^ 52)
    && t.data.length == (if withData then 16 * t.len.toNat else 0)

/-- R284, R406: a byte range of device memory, in one place that exists. -/
def deviceRange (pa n : Nat) : Bool := rangeOk pa n && (isDevice pa || n == 0)

end Sys2Proof.Machine
end

