-- ==== Sys2Proof/Machine/Queues.lean ====
section
/-! DEFINITION. Queues (spec/17 R373 to R381). -/

namespace Sys2Proof.Machine

abbrev cQspill : Byte := 0x80

/-! Queue helpers. -/

/-- R375: fields of the control block. -/
def Queue.ctx (q : Queue) : Nat := fldN q.cfg 16 6
def Queue.prio (q : Queue) : Nat := fldN q.cfg 0 2
def Queue.cap (q : Queue) : Nat := fldN q.splen 0 16 + 1

/-- R374: CLOSE set and no record left. -/
def Queue.settle (q : Queue) : Queue :=
  if (q.st = .active ∨ q.st = .spilling) ∧ q.closed ∧ q.slots.isEmpty ∧ q.spilled = 0 then { q with st := .drained } else q

/-- R379: the QUEUE event. -/
def State.queueEvent (s : State) (k : Nat) (q : Queue) (reason : Nat) (code : Byte) : State :=
  s.postEvent q.ctx none (eventRecord 0x20 0 0 0 0 0 (Word.ofNat k) (Word.ofNat (reason + code.toNat * 256)) (Word.ofNat q.tail) (s.cycleOf 0))

/-- R374, R378: a spill-ring access faulted; the device fault log has it too (R413). -/
def State.spillFault (s : State) (k : Nat) (q : Queue) (addr : Nat) : State :=
  ((s.setQueue k { q with st := .spillFault, refill := false }).queueEvent k q 3 cQspill).dflLog
    (dflRec 4 cQspill 0 0 k 0 addr none (s.cycleOf 0))

/-- R377, R378: NACK an ENQ. -/
def State.enqNack (s : State) (t : Txn) (k : Nat) (q : Queue) (reason : Nat) : State :=
  (s.setQueue k { q with nackcnt := satAdd q.nackcnt 1, lastnack := BitVec.ofNat 4 reason }).reply t.src.toNat t.eseq.toNat true
    (BitVec.ofNat 8 reason) []

/-- The words of a data unit list. -/
def bytesToWords : List Byte → List Word
  | a :: b :: c :: d :: t => Word.ofNat (a.toNat + 256 * b.toNat + 65536 * c.toNat + 16777216 * d.toNat) :: bytesToWords t
  | _ => []

/-- R406: ADDR, OPX and LEN of an ENQ. -/
def enqHeaderOk (t : Txn) : Bool := txnHeadOk t 2 true && t.opx == 0 && t.len == 4 && decide (t.addr.toNat < 2048)

/-- R377: the queue accepts a record into a slot. -/
def Queue.slotIn (q : Queue) (r : Record) : Queue :=
  { q with
    slots := q.slots ++ [r], enqcnt := satAdd q.enqcnt 1, age := if q.slots.isEmpty then 0 else q.age
    old := if q.slots.isEmpty then false else q.old }

/-- R377: the queue accepts a record into the spill ring; the ENQ is answered once the write has performed. -/
def Queue.ringIn (q : Queue) (src : BitVec 12) (eseq : BitVec 16) : Queue :=
  { q with
    tail := (q.tail + 1) % q.cap, spilled := q.spilled + 1, enqcnt := satAdd q.enqcnt 1
    st := if q.st = .active then .spilling else q.st, roomy := true, spill := q.spill ++ [(src, eseq)] }

/-- R377: the queue decides in the round of the ENQ. -/
def State.enqDecide (s : State) (t : Txn) : State :=
  let k := t.addr.toNat % 2048
  let q := s.queue k
  let c := s.ctx q.ctx
  let a := q.spbase.toNat + 64 * q.tail
  if q.st = .disabled then s.enqNack t k q 4
  else if c.st ≠ .active ∧ c.st ≠ .quiescing then s.enqNack t k q 6
  else if q.st = .paused then s.enqNack t k q 1
  else if q.st = .drained ∨ q.closed then s.enqNack t k q 5
  else if q.st = .spillFault then s.enqNack t k q 3
  else if q.spilled = 0 ∧ q.slots.length < 8 then
    (s.setQueue k (q.slotIn (bytesToWords t.data))).reply t.src.toNat t.eseq.toNat false 0 []
  else if q.spilled = q.cap then
    let s1 := s.enqNack t k q 2
    if q.roomy then (s1.setQueue k { s1.queue k with roomy := false }).queueEvent k q 2 0 else s1
  else if s.poisoned a 64 true then
    let s1 := s.spillFault k q a
    s1.enqNack t k (s1.queue k) 3
  else { s with mem := s.mem.writeWords a (bytesToWords t.data) }.clearPoison a 64 |>.setQueue k (q.ringIn t.src t.eseq)

/-- ENQ (R377, R434): accepts a record into a slot or the spill ring, or NACKs it. -/
def execEnq (t : Txn) (s : State) : Out :=
  .next (s.receive t (fun s =>
    s.gate t (enqHeaderOk t) false (s.sec.serves t.src (s.queue (t.addr.toNat % 2048)).ctx) (fun s => some (s.enqDecide t))))

/-- ENQ_SPILL_DONE (R377): a spill write has performed at system scope, and its ENQ is answered. -/
def execEnqSpillDone (queue : Nat) (s : State) : Out :=
  let q := s.queue queue
  match q.spill with
  | [] => .next s
  | (src, eseq) :: rest => .next ((s.setQueue queue { q with spill := rest }).reply src.toNat eseq.toNat false 0 [])

/-- R380: a refill is issued when the ring holds a record and a slot is free. -/
def Queue.refills (q : Queue) : Queue := { q with refill := decide (0 < q.spilled ∧ q.slots.length < 8) }

/-- R380: the oldest spilled record enters the youngest slot. -/
def Queue.refilled (q : Queue) (r : Record) : Queue :=
  Queue.refills { q with
    slots := q.slots ++ [r], head := (q.head + 1) % q.cap, spilled := q.spilled - 1, roomy := true
    age := if q.slots.isEmpty then 0 else q.age, old := if q.slots.isEmpty then false else q.old
    st := if q.spilled = 1 ∧ q.st = .spilling then .active else q.st }

/-- QUEUE_REFILL_DONE (R380): the refill read moves the oldest spilled record into the youngest slot, or faults; in a queue that
no longer is SPILLING a fault leaves the record in the ring and the state as it is (R374). -/
def execQueueRefillDone (queue : Nat) (s : State) : Out :=
  let q := s.queue queue
  if !q.refill ∨ q.spilled = 0 ∨ 8 ≤ q.slots.length then .next (s.setQueue queue { q with refill := false })
  else
    let a := q.spbase.toNat + 64 * q.head
    if s.poisoned a 64 false then
      .next (if q.st = .spilling then s.spillFault queue q a else s.setQueue queue { q with refill := false })
    else .next ((s.noteBytes a 64).setQueue queue (q.refilled (s.mem.words a 16)).settle)

/-! Commands (R374, R376). -/

/-- R376: a command that its state does not allow. -/
def State.queueReject (s : State) (k : Nat) : State := s.setQueue k { s.queue k with status := 1 }

/-- R374, R380: SPILLING or ACTIVE by the ring; a free slot is refilled. -/
def Queue.reopened (q : Queue) : Queue := Queue.refills { q with st := if q.spilled = 0 then .active else .spilling }

/-- QUEUE_ENABLE (R374, R375). -/
def execQueueEnable (queue : Nat) (s : State) : Out :=
  let q := s.queue queue
  if q.st ≠ .disabled ∧ q.st ≠ .drained then .next (s.queueReject queue)
  else
    let c := (s.ctx q.ctx).st
    if c = .free ∨ c = .destroying ∨ q.spbase.toNat % 64 ≠ 0 ∨ !areaOk q.spbase.toNat (64 * q.cap) then
      .next (s.setQueue queue { q with status := 2 })
    else
      .next (s.setQueue queue { q with
        st := .active, closed := false, head := 0, tail := 0, enqcnt := 0, nackcnt := 0, status := 0, age := 0, old := false, roomy := true })

/-- R376: DISABLE discards every record without an event; an ENQ that was accepted is still answered, and CLOSE stays until
ENABLE. -/
def Queue.disable (q : Queue) : Queue := { q with st := .disabled, slots := [], spilled := 0, refill := false }

/-- QUEUE_DISABLE (R374, R376). -/
def execQueueDisable (queue : Nat) (s : State) : Out := .next (s.setQueue queue { (s.queue queue).disable with status := 0 })

/-- PAUSE (R374). -/
def execPause (queue : Nat) (s : State) : Out :=
  let q := s.queue queue
  if q.st = .active ∨ q.st = .spilling then .next (s.setQueue queue { q with st := .paused, status := 0 }) else .next (s.queueReject queue)

/-- UNPAUSE (R374). -/
def execUnpause (queue : Nat) (s : State) : Out :=
  let q := s.queue queue
  if q.st = .paused then .next (s.setQueue queue { q.reopened with status := 0 }.settle) else .next (s.queueReject queue)

/-- CLOSE (R374). -/
def execClose (queue : Nat) (s : State) : Out :=
  let q := s.queue queue
  if q.st = .active ∨ q.st = .spilling then .next (s.setQueue queue { q with closed := true, status := 0 }.settle)
  else .next (s.queueReject queue)

/-- CLEAR (R374). -/
def execClear (queue : Nat) (s : State) : Out :=
  let q := s.queue queue
  if q.st = .spillFault then .next (s.setQueue queue { q.reopened with status := 0 }.settle) else .next (s.queueReject queue)

/-- QUEUE_AGED (R345): a queue whose head record has stood unserved for 2^20 rounds becomes aged. -/
def execQueueAged (queue : Nat) (s : State) : Out :=
  let q := s.queue queue
  if !q.slots.isEmpty ∧ 2 ^ 20 ≤ q.age then .next (s.setQueue queue { q with old := true }) else .next s

end Sys2Proof.Machine
end

