-- ==== Sys2Proof/Machine/Save.lean ====
section
/-! DEFINITION. Save areas (spec/15 R352; spec/16 R363, R370, R371): the bytes that the device writes into them, and what it
reads back. Their layout is not architected, so the bytes are free, and bytes that this device has not written stand for a free
state (notes/assumptions/25). -/

namespace Sys2Proof

/-- R352, R370: the bytes of save number `n`, after its number. -/
opaque Config.saveBytes : Nat → List (BitVec 8)

/-- R299, R353: the task's state that bytes stand for which another device has written, or software has changed. -/
opaque Config.foreignSave : List (BitVec 8) → Machine.Saved

/-- R371: the header that such bytes stand for. -/
opaque Config.foreignHead : List (BitVec 8) → Machine.Head

namespace Machine

/-- `n` bytes of a value, the least significant first. -/
def bytesLE (n v : Nat) : List Byte := (List.range n).map (fun k => BitVec.ofNat 8 (v / 256 ^ k))

/-- The bytes of save number `n`: no two saves have the same. -/
def saveImage (n : Nat) : List Byte := bytesLE 8 n ++ Config.saveBytes n

/-- R363: the unit of task space. -/
def saveUnit : Nat := 7 * 2 ^ 20

/-- R363: the first byte of a unit of a context's task space, after the header of 1 MiB. -/
def State.unitBase (s : State) (ctx unit : Nat) : Nat := (s.ctx ctx).savebase.toNat + 2 ^ 20 + saveUnit * unit

/-- The places of a task's state in the save area: address and length of each unit. -/
def State.saveSpans (s : State) (ctx : Nat) (units : List Nat) : List (Nat × Nat) := units.map (fun u => (s.unitBase ctx u, saveUnit))

/-- R421: a granule of the range cannot be corrected. -/
def State.badIn (s : State) (a n : Nat) : Bool := s.poison.any (fun g => decide (g < a + n ∧ a < g + granule g))

/-- Write bytes over a list of places, in order. -/
def State.putSpans (s : State) : List (Nat × Nat) → List Byte → State
  | [], _ => s
  | (a, n) :: l, bs =>
    State.putSpans ({ s with mem := s.mem.writeBytes a (bs.take n) }.clearPoison a (bs.take n).length) l (bs.drop n)

/-- The bytes of a list of places, `n` of them. -/
def State.getSpans (s : State) : List (Nat × Nat) → Nat → List Byte
  | [], _ => []
  | (a, k) :: l, n => s.mem.readBytes a (min k n) ++ State.getSpans s l (n - k)

/-- R361, R421: a write over the places would meet a granule that it neither covers nor can read. -/
def State.spansBad (s : State) : List (Nat × Nat) → Nat → Bool
  | [], _ => false
  | (a, k) :: l, n => s.poisoned a (min k n) true || State.spansBad s l (n - k)

/-- What `n` bytes of the places stand for: what the device wrote there, newest first. -/
def State.known {α : Type} (s : State) (l : List (List Byte × α)) (spans : List (Nat × Nat)) : Option α :=
  (l.find? (fun x => s.getSpans spans x.1.length == x.1)).map (fun x => x.2)

/-- R352, R361: a task's state is written into its units; none when the write fails. -/
def State.writeSave (s : State) (ctx : Nat) (units : List Nat) (v : Saved) : Option State :=
  let spans := s.saveSpans ctx units
  let bs := (saveImage s.fresh).take (saveUnit * units.length)
  if s.spansBad spans bs.length then none
  else some { s.putSpans spans bs with saves := (bs, v) :: s.saves, fresh := s.fresh + 1 }

/-- R419: the places are read. -/
def State.noteSpans (s : State) (spans : List (Nat × Nat)) : State := spans.foldl (fun s x => s.noteSpan x.1 x.2) s

/-- R349, R353: a task's state is read from its units; none where a granule cannot be corrected. -/
def State.readSave (s : State) (ctx : Nat) (units : List Nat) : Option Saved :=
  let spans := s.saveSpans ctx units
  if spans.any (fun x => s.badIn x.1 x.2) then none
  else some ((s.known s.saves spans).getD (Config.foreignSave (s.getSpans spans (saveUnit * units.length))))

/-- R370: the header of a context's save area is written; none when the write fails. -/
def State.writeHead (s : State) (ctx : Nat) (h : Head) : Option State :=
  let spans := [((s.ctx ctx).savebase.toNat, 2 ^ 20)]
  let bs := (saveImage s.fresh).take (2 ^ 20)
  if s.spansBad spans bs.length then none
  else some { s.putSpans spans bs with heads := (bs, h) :: s.heads, fresh := s.fresh + 1 }

/-- R371: the header that a save area holds; none where a granule cannot be corrected. -/
def State.readHead (s : State) (base : Nat) : Option Head :=
  let spans := [(base, 2 ^ 20)]
  if s.badIn base (2 ^ 20) then none
  else some ((s.known s.heads spans).getD (Config.foreignHead (s.getSpans spans (2 ^ 20))))

end Machine

end Sys2Proof
end

