-- ==== Sys2Proof/Machine/Tasks.lean ====
section
/-! DEFINITION. The dispatcher: admission, binding, quanta, saving, drain and retirement (spec/15 R340 to R359). -/

namespace Sys2Proof.Machine

abbrev cCfgRoute : Byte := 0x03

/-! Task records (R342). -/

def recRows (r : Record) : Nat := fldN (r.getD 6 0) 24 8
def recCols (r : Record) : Nat := fldN (r.getD 6 0) 16 8
def recId (r : Record) : BitVec 16 := fld (r.getD 6 0) 0 16
def recNpre (r : Record) : Nat := fldN (r.getD 7 0) 0 3
/-- PRE k. -/
def recPre (r : Record) (k : Nat) : BitVec 16 := fld (r.getD (8 + k / 2) 0) (16 * (k % 2)) 16
/-- The prerequisites named. -/
def recPres (r : Record) : List (BitVec 16) := (List.range (recNpre r)).map (recPre r)
def recQuantum (r : Record) : Nat := (r.getD 10 0).toNat
def recQuiet (r : Record) : Bool := fldN (r.getD 12 0) 0 1 == 1
/-- A 64-bit field. -/
def rec64 (r : Record) (k : Nat) : Nat := (r.getD k 0).toNat + 2 ^ 32 * (r.getD (k + 1) 0).toNat
def recImage (r : Record) : Nat := rec64 r 0
def recImgva (r : Record) : Nat := rec64 r 2
def recArgva (r : Record) : Nat := rec64 r 4
def recArglen (r : Record) : Nat := fldN (r.getD 7 0) 16 16

/-- No value twice. -/
def distinct16 : List (BitVec 16) → Bool
  | [] => true
  | a :: t => !t.contains a && distinct16 t

/-- R342, R343: the record's own checks at admission. -/
def recordOk (r : Record) : Bool :=
  r.length == 16 && decide (recImgva r < 2 ^ 52 ∧ recArgva r < 2 ^ 52 ∧ recArgva r % 4 = 0) && decide (1 ≤ recRows r ∧ recRows r ≤ 8)
    && decide (1 ≤ recCols r ∧ recCols r ≤ 8) && decide (fldN (r.getD 7 0) 3 13 = 0 ∧ recNpre r ≤ 4)
    && (List.range 4).all (fun k => decide (k < recNpre r) || recPre r k == 0)
    && decide (fldN (r.getD 12 0) 2 30 = 0) && r.getD 13 0 == 0 && r.getD 14 0 == 0 && r.getD 15 0 == 0
    && !(recPres r).contains (recId r) && distinct16 (recPres r)

/-! Task helpers. -/

def Task.rows (t : Task) : Nat := recRows t.record
def Task.cols (t : Task) : Nat := recCols t.record
/-- The regions of a bound task's span. -/
def Task.regions (t : Task) : List Nat := if t.bound then spanRegions t.row t.col t.rows t.cols else []
/-- R363: task space a task of this shape holds. -/
def Task.space (t : Task) : Nat := 7 * 2 ^ 20 * (t.rows * t.cols)
/-- R368: the first region of the span, or of the last span; region 0 before any. -/
def Task.home (t : Task) : Nat := regionAt t.row t.col
/-- R321: the regions of the span that are placed for the task. -/
def State.held (s : State) (k : Nat) (t : Task) : List Nat := t.regions.filter (s.owns k)
/-- Sources and sinks of a task. -/
def State.sourcesOf (s : State) (k : Nat) (t : Task) : List Source := (s.held k t).flatMap (fun r => (s.region r).sources)
def State.sinksOf (s : State) (k : Nat) (t : Task) : List Sink := (s.held k t).flatMap (fun r => (s.region r).sinks)

/-- R348: some span of the shape holds no fenced region. -/
def State.shapeFits (s : State) (rows cols : Nat) : Bool :=
  (List.range 8).any (fun r => (List.range 8).any (fun c =>
    decide (r + rows ≤ 8 ∧ c + cols ≤ 8) && (spanRegions r c rows cols).all (fun reg => (s.region reg).st != .fenced)))

/-- R348: an unbound task whose shape no span can hold any more ends FAULTED. -/
def State.shapeCheck (s : State) : State :=
  { s with tasks := Table.mapAll s.tasks (fun _ t =>
      if (t.st = .waiting ∨ t.st = .ready ∨ t.st = .suspended) ∧ t.ending.isNone ∧ t.final.isNone ∧ !s.shapeFits t.rows t.cols then
        { t with ending := some (.faulted, cCfgRoute) } else t) }

/-- R339, R359: a fence makes its task FAULTED, whatever command would have ended it; a failure found before it stands. -/
def State.fenceTask (s : State) (task : Nat) (code : Byte) : State :=
  s.modTask task (fun t =>
    if t.final.isSome ∨ t.ending.any (fun x => x.1 == .faulted) then t else { t with ending := some (.faulted, code) })

/-- R339: a region is fenced: its task ends FAULTED with the code, and a record of CLASS 6 is logged. -/
def State.fenceRegion (s : State) (reg : Nat) (code : Byte) : State :=
  let r := s.region reg
  if r.st = .fenced then s
  else
    let busy := r.st != .free
    let s1 := if busy then s.fenceTask r.task.toNat code else s
    let ctx := if busy then some r.ctx.toNat else none
    (((s1.dropRegion reg).setRegion reg { r with st := .fenced, ctx := 0, task := 0, cfgbad := false, fence := code }).dflLog
      (dflRec 6 code reg 0 0 0 0 ctx (s.cycleOf reg))).shapeCheck

/-- REGION_FENCE (R339). -/
def execRegionFence (region : Nat) (code : Byte) (s : State) : Out := .next (s.fenceRegion region code)

/-! Admission (R343 to R345). -/

/-- R345: the weights of the classes. -/
def dispatchPattern : List Nat := [0, 1, 0, 2, 0, 1, 0, 3, 0, 1, 0, 2, 0, 1, 0]

/-- R345: a queue is eligible. -/
def State.eligible (s : State) (q : Queue) : Bool :=
  !q.slots.isEmpty && (q.st == .active || q.st == .spilling) && (s.ctx q.ctx).st == .active

/-- Round-robin by number after `last`. -/
def nextAfter (l : List Nat) (last : Nat) : Option Nat := (l.find? (fun k => decide (last < k))).or l.head?

/-- R345: the queue chosen, with the dispatcher's pointers after the choice. -/
def State.chooseQueue (s : State) : Option (Nat × State) :=
  let el := s.queues.filter (fun x => s.eligible x.2)
  let aged := (el.filter (fun x => x.2.old)).map (fun x => x.1)
  match nextAfter aged s.daged with
  | some k => some (k, { s with daged := k })
  | none =>
    let of := fun c => (el.filter (fun x => x.2.prio == c)).map (fun x => x.1)
    let want := dispatchPattern.getD (s.dslot % 15) 0
    match (if (of want).isEmpty then (List.range 4).find? (fun c => !(of c).isEmpty) else some want) with
    | none => none
    | some c =>
      match nextAfter (of c) (s.dptrs[c % 4]'(Nat.mod_lt _ (by decide))) with
      | none => none
      | some k => some (k, { s with dslot := (s.dslot + 1) % 15, dptrs := s.dptrs.set (c % 4) k (Nat.mod_lt _ (by decide)) })

/-- R343: a free entry of the dependence table. -/
def State.freeIndex (s : State) : Option Nat := (List.range 8192).find? (fun k => (s.task? k).isNone)

/-- R344: the unretired tasks of a context with a TASKID. -/
def State.unretired (s : State) (ctx : Nat) (id : BitVec 16) : Option Nat :=
  (s.tasks.find? (fun x => x.2.ctx == ctx && x.2.taskid == id)).map (fun x => x.1)

/-- R343: the event of a rejected record. -/
def State.rejectRecord (s : State) (ctx : Nat) (r : Record) (code : Byte) : State :=
  s.postEvent ctx none (eventRecord 0x03 0 (recId r).toNat (r.getD 11 0) 10 code 0 0 0 (s.cycleOf 0))

/-- R343, R344, R348: take a record in, or reject it. -/
def State.admission (s : State) (ctx cls : Nat) (r : Record) : State :=
  if !recordOk r ∨ (s.unretired ctx (recId r)).isSome then s.rejectRecord ctx r cCfgField
  else
    match s.freeIndex with
    | none => s
    | some k =>
      let pre := (recPres r).filterMap (s.unretired ctx)
      let t : Task := { st := if pre.isEmpty then .ready else .waiting, ctx := ctx, taskid := recId r, record := r, cls := cls
                        admitted := s.fresh, rank := s.round, pre := pre }
      { s.setTask k t with fresh := s.fresh + 1 }.shapeCheck

/-- DISPATCH_ADMIT (R343, R345): one record leaves the head of the chosen queue; a refill is issued (R380). -/
def execDispatchAdmit (s : State) : Out :=
  if s.freeIndex.isNone then .next s
  else
    match s.chooseQueue with
    | none => .next s
    | some (k, s1) =>
      let q := s1.queue k
      match q.slots with
      | [] => .next s
      | r :: rest =>
        .next ((s1.setQueue k (Queue.refills { q with slots := rest, age := 0, old := false }).settle).admission q.ctx q.prio r)

/-! Binding (R346, R347, R349). -/

/-- Regions that tasks of a context hold: those of a DRAINING task that are FREE again count no more. -/
def State.bound (s : State) (ctx : Nat) : Nat :=
  s.tasks.foldl (fun n x => if x.2.ctx = ctx then n + (s.held x.1 x.2).length else n) 0

/-- R346: the quota admits the task. -/
def State.quotaOk (s : State) (t : Task) : Bool :=
  decide (s.bound t.ctx + t.rows * t.cols ≤ fldN (s.ctx t.ctx).quota 0 7)

/-- R346: the task may be bound now. -/
def State.bindable (s : State) (t : Task) : Bool :=
  (t.st == .ready || t.st == .suspended) && t.ending.isNone && !t.abort && t.final.isNone && (s.ctx t.ctx).st == .active

/-- R346: rank. -/
def Task.before (a b : Task) : Bool :=
  decide (a.cls < b.cls ∨ (a.cls = b.cls ∧ (a.rank < b.rank ∨ (a.rank = b.rank ∧ a.admitted < b.admitted))))

/-- Insert by rank. -/
def rankInsert (x : Nat × Task) : List (Nat × Task) → List (Nat × Task)
  | [] => [x]
  | y :: l => if x.2.before y.2 then x :: y :: l else y :: rankInsert x l

/-- R347: the measures of a candidate: cached regions, last freed. -/
def State.spanScore (s : State) (t : Task) (regs : List Nat) : Nat × Nat :=
  ((regs.filter (fun r => (s.region r).cache.toList.any (fun c =>
      c.v && c.ctx.toNat == t.ctx && c.image.toNat == recImage t.record))).length,
    regs.foldl (fun m r => max m (s.region r).freed) 0)

/-- R347: the better of two candidates; the first stands on a tie. -/
def betterSpan (a b : (Nat × Nat) × (Nat × Nat)) : (Nat × Nat) × (Nat × Nat) :=
  if b.2.1 > a.2.1 ∨ (b.2.1 = a.2.1 ∧ b.2.2 < a.2.2) then b else a

/-- R347: the span chosen. -/
def State.findSpan (s : State) (t : Task) : Option (Nat × Nat) :=
  let spots := (List.range 8).flatMap (fun r => (List.range 8).map (fun c => (r, c)))
  let cands := spots.filter (fun p => decide (p.1 + t.rows ≤ 8 ∧ p.2 + t.cols ≤ 8)
    && (spanRegions p.1 p.2 t.rows t.cols).all (fun reg => (s.region reg).st == .free && (s.region reg).awake))
  match cands.map (fun p => (p, s.spanScore t (spanRegions p.1 p.2 t.rows t.cols))) with
  | [] => none
  | c :: cs => some (cs.foldl betterSpan c).1

/-- R331: the least generation that no region of the span has. -/
def State.newGen (s : State) (regs : List Nat) : Byte :=
  BitVec.ofNat 8 (((List.range 256).find? (fun n => regs.all (fun r => (s.region r).chgen.toNat != n))).getD 0)

/-- R340, R349: the task claims its span: it is BINDING until the next round. -/
def State.bindTask (s : State) (k : Nat) (t : Task) (row col : Nat) : State :=
  let regs := spanRegions row col t.rows t.cols
  let s1 := regs.foldl (fun s reg =>
    let r := s.region reg
    s.setRegion reg { r with
      st := if t.save.isSome then .restoring else .loading, ctx := BitVec.ofNat 6 t.ctx, task := BitVec.ofNat 13 k
      placed := false, sinkcnt := 0 }) s
  { s1.setTask k { t with st := .binding, row := row, col := col, bound := true } with reserve := if s1.reserve = some k then none else s1.reserve }

/-- TASK_BIND (R346): the first task in rank that finds a span within its quota; under a reservation only its holder. -/
def execTaskBind (s : State) : Out :=
  let ready := s.tasks.filter (fun x => s.bindable x.2 && s.quotaOk x.2 && (s.reserve.isNone || s.reserve == some x.1))
  let ranked := ready.foldl (fun l x => rankInsert x l) []
  match ranked.findSome? (fun x => (s.findSpan x.2).map (fun p => (x, p))) with
  | some (x, p) => .next (s.bindTask x.1 x.2 p.1 p.2)
  | none => .next s

/-- R346: a task that has stood 2^22 rounds and is blocked by busy regions, not by its quota; the holder of the reservation stays
so until it binds. -/
def State.stood (s : State) (x : Nat × Task) : Bool :=
  s.bindable x.2 && decide (2 ^ 22 ≤ x.2.age) && s.quotaOk x.2 && ((s.findSpan x.2).isNone || s.reserve == some x.1)

/-- BIND_RESERVATION (R346): among tasks that have stood 2^22 rounds and are blocked only by busy regions, the longest
waiting holds the reservation; it is settled before the binding of the round. -/
def execBindReservation (s : State) : Out :=
  let old := s.tasks.filter s.stood
  match old with
  | [] => .next { s with reserve := none }
  | x :: xs => .next { s with reserve := some (xs.foldl (fun a b => if a.2.age < b.2.age then b else a) x).1 }

/-! Quanta and pre-emption (R350, R351, R356, R363). -/

/-- QUANTUM_EXPIRY (R350): the quantum has run out. -/
def execQuantumExpiry (task : Nat) (s : State) : Out :=
  match s.task? task with
  | some t => if t.st = .running ∧ t.quantum = some 0 then .next (s.setTask task { t with quantum := none, expire := true }) else .next s
  | none => .next s

/-- PREEMPT (R356). -/
def execPreempt (ctx : Nat) (taskid : BitVec 16) (s : State) : Out :=
  match s.unretired ctx taskid with
  | none => .next s
  | some k => .next (s.modTask k (fun t => if t.st = .running ∧ t.final.isNone then { t with expire := true } else t))

/-- R203, R354, R355: every element and unit of the span is DRAINED, no copy engine counts as a FROZEN unit, and every sink has
taken DRAIN. -/
def State.drained (s : State) (k : Nat) (t : Task) : Bool :=
  (s.held k t).all (fun r => s.allDrained r && (s.copiesOf r).all (fun x => x.2.freeze.isNone)) && (s.sinksOf k t).all (fun x => x.drained)

/-- R363: task space held by a context's tasks: each from its MARK until it runs again or has retired. -/
def State.spaceHeld (s : State) (ctx : Nat) : Nat :=
  s.tasks.foldl (fun n x => if x.2.ctx = ctx ∧ x.2.save.isSome then n + x.2.space else n) 0

/-- R363: the units of task space that a context's tasks hold. -/
def State.unitsHeld (s : State) (ctx : Nat) : List Nat :=
  s.tasks.flatMap (fun x => if x.2.ctx = ctx then ((x.2.save.map (fun v => v.units)).getD []) else [])

/-- R363: `n` units of task space that no task of the context holds, the lowest first. -/
def State.freeUnits (s : State) (ctx n : Nat) : List Nat :=
  let used := s.unitsHeld ctx
  ((List.range (used.length + n)).filter (fun u => !used.contains u)).take n

/-- R321, R333: a region of the task has found a configuration error in this round, or reloads. -/
def State.reloads (s : State) (k : Nat) (t : Task) : Bool :=
  (s.held k t).any (fun reg => (s.region reg).cfgbad || (s.region reg).st == .reloading)

/-- R351: MARK may be commanded: no source has injected DRAIN, the task has not completed, and its state has room; a region that
reloads injects it once its reload is verified (R321). -/
def State.markOk (s : State) (k : Nat) (t : Task) : Bool :=
  t.st == .running && t.expire && t.ending.isNone && !t.abort && t.final.isNone && !t.drainIn
    && (s.sourcesOf k t).all (fun x => !x.drained) && !s.drained k t && !s.reloads k t
    && decide (s.spaceHeld t.ctx + t.space + 2 ^ 20 ≤ (s.ctx t.ctx).savelen.toNat)

/-- R317: a walk at MARK: one that runs or is PARKED is saved. -/
def WSlot.marked (w : WSlot) : WSlot := if w.st = .running ∨ w.st = .parked then { w with st := .saved } else w

/-- R317, R319: MARK reaches a Loupe: its walks are saved, and the records of its PARKED ones are void (R371). -/
def State.markLoupe (s : State) (t : Nat) : State :=
  let l := s.loupe t
  let s1 := s.setLoupe t { l with marked := true, slots := l.slots.map WSlot.marked }
  l.slots.toList.foldl (fun s w => match w.st, w.park with
    | .parked, some (_, _, h) => s.dropItem w.ctx h
    | _, _ => s) s1

/-- R329: MARK enters every source end of a region in the round of the command, behind what the end holds
(notes/assumptions/70). -/
def State.markSources (s : State) (reg : Nat) : State :=
  let s1 := (s.region reg).sources.foldl (fun s x => s.enter x.dst ⟨0, Tag.mark⟩) s
  s1.setRegion reg { s1.region reg with
    st := if (s1.region reg).st.runs then .saving else (s1.region reg).st
    sources := (s1.region reg).sources.map (fun x => { x with marked := true }) }

/-- MARK_INJECT (R317, R329, R351): MARK at every source of the span in one round; running and parked walks are saved; the ACTIVE
and FROZEN regions enter SAVING (R321). -/
def execMarkInject (task : Nat) (s : State) : Out :=
  match s.task? task with
  | none => .next s
  | some t =>
    if !s.markOk task t then .next s
    else
      let regs := s.held task t
      let s1 := regs.foldl State.markSources s
      let s2 := ((s1.loupes.filter (fun x => regs.contains (regionOfTile x.1))).map (fun x => x.1)).foldl State.markLoupe s1
      .next (s2.setTask task { t with st := .preempting, quantum := none, save := some { units := s.freeUnits t.ctx (t.rows * t.cols) } })

/-! Saved state (R352, R353). -/

/-- Rename the node of an end. -/
def EndPt.rename (f : Nat → Nat) (e : EndPt) : EndPt := { e with tile := f e.tile }

/-- Rebuild a table under renamed keys. -/
def rekey {α : Type} (f : Nat → Nat) (g : α → α) (t : Table α) : Table α := t.foldl (fun u x => Table.put u (f x.1) (g x.2)) []

/-- Rename tiles by `ft` and elements by `fe`. -/
def Saved.rename (ft fe fr : Nat → Nat) (v : Saved) : Saved :=
  let opt := fun (x : Option (Nat × Nat)) => x.map (fun p => (fe p.1, p.2))
  { v with
    elems := rekey fe (fun e => { e with loupe := e.loupe.map ft }) v.elems
    copies := rekey ft (fun c => { c with flights := c.flights.map (fun f => { f with el := opt f.el }) }) v.copies
    presses := rekey ft id v.presses
    units := rekey (fun k => ft (k / 64) * 64 + k % 64) (fun u => { u with xctl := u.xctl.map (fun x => (x.1, x.2.1, opt x.2.2)) }) v.units
    loupes := rekey ft (fun l => { l with clients := l.clients.map fe, slots := l.slots.map (fun x => { x with el := fe x.el }) }) v.loupes
    chans := v.chans.map (fun c => { c with owner := 0, frm := c.frm.rename ft, dst := c.dst.rename ft })
    wheys := v.wheys.map (fun c => { c with owner := 0, frm := c.frm.rename ft, node := c.node.rename ft })
    sources := v.sources.map (fun x => (fr x.1, { x.2 with dst := x.2.dst.rename ft }))
    sinks := v.sinks.map (fun x => (fr x.1, { x.2 with frm := x.2.frm.rename ft }))
    waiters := v.waiters.map (fun w => { w with el := fe w.el }) }

/-- A MARK is no channel content. -/
def noMark (l : List Token) : List Token := l.filter (fun t => t.tag != Tag.mark)

/-- R87, R352: the ends without their MARKs, recorded back-edge tokens behind the buffered ones. -/
def Ports.unmark (p : Ports) : Ports :=
  { p with
    ins := p.ins.map (fun i => { i with buf := noMark (i.buf ++ i.saved), saved := [] })
    outs := p.outs.map (fun o => { o with keep := [], slots := o.slots.filter (fun x => match x with
      | .full t => t.tag != Tag.mark
      | .held _ => true) ++ o.keep }) }

/-- R352: what the regions of a task hold, under hardware names. -/
def State.capture (s : State) (k : Nat) (t : Task) : Saved :=
  let regs := s.held k t
  let mine := fun (tile : Nat) => regs.contains (regionOfTile tile)
  { version := 1
    elems := (s.elems.filter (fun x => regs.contains (regionOfElem x.1))).map (fun x => (x.1, { x.2 with ports := x.2.ports.unmark }))
    copies := (s.copies.filter (fun x => mine x.1)).map (fun x => (x.1, { x.2 with ports := x.2.ports.unmark }))
    presses := (s.presses.filter (fun x => mine x.1)).map (fun x => (x.1, { x.2 with
      ports := x.2.ports.unmark, result := x.2.result.filter (fun r => r.tok.tag != Tag.mark) }))
    units := (s.units.filter (fun x => mine (x.1 / 64))).map (fun x => (x.1, { x.2 with ports := x.2.ports.unmark }))
    loupes := s.loupes.filter (fun x => mine x.1)
    chans := (s.chans.filter (fun x => mine x.2.dst.tile)).map (fun x => { x.2 with moving := x.2.moving.filter (fun m => m.tok.tag != Tag.mark) })
    wheys := (s.wheys.filter (fun x => mine x.2.node.tile)).map (fun x => x.2)
    sources := regs.flatMap (fun r => (s.region r).sources.map (fun x => (r, { x with marked := false })))
    sinks := regs.flatMap (fun r => (s.region r).sinks.map (fun x => (r, { x with marked := false })))
    waiters := ((t.save.map (fun v => v.waiters)).getD []) }

/-- R321, R87, R252, R258, R317, R334: everything of the span is MARKED and nothing is under way; no region reloads. The accesses
issued have performed at every scope, system included, so that the save keeps every order (R299; notes/assumptions/82). -/
def State.saveReady (s : State) (k : Nat) (t : Task) : Bool :=
  let regs := s.held k t
  let mine := fun (tile : Nat) => regs.contains (regionOfTile tile)
  !s.reloads k t && s.elems.all (fun x => !regs.contains (regionOfElem x.1)
      || ((x.2.life == .marked || x.2.life == .drained || x.2.life == .off || (x.2.life == .frozen && x.2.markSent))
        && x.2.owed.isEmpty && x.2.pend.all (fun p => p.job.saved)))
    && s.units.all (fun x => !mine (x.1 / 64) || x.2.kind == .whey || x.2.kind == .brine
      || ((x.2.life == .marked || x.2.life == .drained || (x.2.life == .frozen && x.2.markSent)) && x.2.owed.isEmpty))
    && s.copies.all (fun x => !mine x.1 || !x.2.on || ((x.2.life == .marked || x.2.life == .drained) && x.2.owed.isEmpty))
    && s.presses.all (fun x => !mine x.1 || !x.2.on || x.2.life == .marked || x.2.life == .drained)
    && s.loupes.all (fun x => !mine x.1 || x.2.slots.toList.all (fun w => w.st == .free || w.st == .saved))
    && s.accs.all (fun a => a.task != k || a.performed 3)
    && s.bars.all (fun b => b.task != k) && s.releases.all (fun r => s.taskOfElem r.el != k)

/-- R368: the offset in the save area of a task's state: its first unit, after the header. -/
def SaveRef.offset (v : SaveRef) : Nat := 2 ^ 20 + saveUnit * v.units.headD 0

/-- R367, R371: the records of copies and walks in the regions are void. -/
def State.voidItems (s : State) (ctx : Nat) (regs : List Nat) : State :=
  let c := s.ctx ctx
  s.setCtx ctx { c with items := c.items.filter (fun i => match i.2 with
    | .posted _ => true
    | .copy tile _ => !regs.contains (regionOfTile tile)
    | .walk tile _ => !regs.contains (regionOfTile tile)) }

/-- R352: the captured state of a task in the local names of its span. -/
def State.localSave (s : State) (k : Nat) (t : Task) : Saved :=
  let tiles := spanTiles t.row t.col t.rows t.cols
  let ft := fun tile => tiles.idxOf tile
  (s.capture k t).rename ft (fun el => ft (tileOfElem el) * 16 + el % 16) (fun r => t.regions.idxOf r)

/-- R421: a tile of the regions whose Hoop holds a group that cannot be corrected. -/
def State.badHoop (s : State) (regs : List Nat) : Option Nat :=
  s.poison.findSome? (fun g => match groupOf g with
    | .hoop t => if regs.contains (regionOfTile t) then some t else none
    | _ => none)

/-- TASK_SAVE_COMPLETE (R352): the state is written into the save area, the regions become FREE, the task is SUSPENDED; a write
that fails makes the context FAULTED (R361), and a Hoop that cannot be read ends the task (R421). -/
def execTaskSaveComplete (task : Nat) (s : State) : Out :=
  match s.task? task with
  | none => .next s
  | some t =>
    if t.st ≠ .preempting ∨ t.ending.isSome ∨ t.abort ∨ t.final.isSome ∨ !s.saveReady task t then .next s
    else
      let ref := t.save.getD {}
      match s.badHoop (s.held task t) with
      | some tile => .next (s.hoopFail tile)
      | none =>
      match s.writeSave t.ctx ref.units (s.localSave task t) with
      | none => .next (s.areaFault t.ctx (s.saveSpans t.ctx ref.units))
      | some s1 =>
        let regs := s.held task t
        let s2 := (regs.foldl State.freeRegion (s1.voidItems t.ctx regs)).setTask task { t with
          st := .suspended, bound := false, expire := false, quantum := none, rank := s.round, age := 0 }
        .next (s2.taskEvent task 0x05 t.home none 0 (Word.ofNat ref.offset) (Word.ofNat (ref.offset / 2 ^ 32)) 0)

/-! Drain and retirement (R354, R357, R358). -/

/-- TASK_DRAIN_DETECT (R354): the task enters DRAINING. -/
def execTaskDrainDetect (task : Nat) (s : State) : Out :=
  match s.task? task with
  | some t =>
    if t.st = .running ∧ t.ending.isNone ∧ t.final.isNone ∧ s.drained task t then
      .next ((s.held task t).foldl State.drainState (s.setTask task { t with st := .draining, quantum := none, expire := false }))
    else .next s
  | none => .next s

/-- R340, R342, R354, R363, R365: the task retires: it stays in its state, with the task space it holds, until its event is
written, and then its entry goes; QUIET writes no TASK_DONE. -/
def State.retire (s : State) (k : Nat) (t : Task) (st : TaskSt) (code : Byte) : State :=
  let type := match st with
    | .done => if t.replayed then 0x02 else 0x01
    | .faulted => 0x03
    | _ => 0x04
  let s1 := s.setTask k { t with final := some (st, code), ending := none, save := t.save.map (fun v => { v with waiters := [] })
                                 bound := false, expire := false, quantum := none }
  if st = .done ∧ !t.replayed ∧ recQuiet t.record then s1.freeEntry (some k)
  else s1.taskEvent k type t.home (some k) (if st = .faulted then code else 0) 0 0 0

/-- R357, R372: discard the parked operations of a task, counting each once, and with them those held behind one (R184). -/
def State.discardParked (s : State) (task : Nat) : State :=
  let parked := s.accs.filter (fun a => a.task == task && (match a.st with | .parked _ _ => true | _ => false))
  let held := s.accs.filter (fun a => a.task == task && a.st == .point && a.posted && parked.any (fun b => samePort b.src a.src && b.parkedOn a.ctx a.va))
  let s1 := (parked.map (fun a => a.src)).eraseDups.foldl State.dropOp s
  let s2 := (parked.filter (fun a => (s.ctx a.ctx).items.any (fun i => i.2 == .posted a.id))).foldl (fun s a =>
    let c := s.ctx a.ctx
    s.setCtx a.ctx { c with discards := satAdd c.discards 1, items := c.items.filter (fun i => i.2 != .posted a.id) }) s1
  (held.map (fun a => a.src)).eraseDups.foldl State.dropOp s2

/-- R331: an operation that still waits in its port queue when its task is leaving is never handed on. -/
def Job.queued : Job → Bool
  | .walkIssue _ _ _ => true
  | .copyIssue _ _ _ => true
  | .tag _ _ _ => true
  | .event _ _ => true
  | .barWait _ _ => true
  | _ => false

/-- R331: those operations leave the elements of the task. -/
def State.dropQueued (s : State) (task : Nat) : State :=
  { s with elems := Table.mapAll s.elems (fun el e =>
      if s.taskOfElem el = task then { e with pend := e.pend.filter (fun p => !p.job.queued) } else e) }

/-- R331: the token of an operation has still to enter the entry reserved for it: the operation has performed. -/
def State.owesToken (s : State) (el : Nat) (p : Pend) : Bool :=
  match p.job with
  | .timed => true
  | .mem m => (s.accs.filter (fun a => a.src == .elem el p.id)).all (fun a => a.performed m.scope)
  | .fence scope waits _ => s.settled waits scope
  | .copy id =>
    let c := s.copyEng (tileOfElem el)
    match c.flights.find? (fun f => f.id == id) with
    | some f => (Table.get? c.tmpls f.tmpl).any (s.copyOver (tileOfElem el) f)
    | none => false
  | _ => false

/-- R297, R331: no issued access of the task is outstanding, and the tokens of those that have performed have entered. -/
def State.flushable (s : State) (task : Nat) : Bool :=
  s.accs.all (fun a => a.task != task || a.performed 2 || a.failedCode.isSome) && s.bars.all (fun b => b.task != task)
    && s.releases.all (fun r => s.taskOfElem r.el != task)
    && s.elems.all (fun x => s.taskOfElem x.1 != task || !x.2.pend.any (s.owesToken x.1))

/-- R389: the saved waiters of a task that is leaving. -/
def State.forgetWaiters (s : State) (t : Task) : State := ((t.save.map (fun v => v.waiters)).getD []).foldl State.forgetWaiter s

/-- R331, R357: steps 3 and 4 for every region that the task holds. -/
def State.flushTask (s : State) (k : Nat) (t : Task) : State :=
  let regs := s.held k t
  let s1 := (regs.foldl (fun s r => s.flushRegion k r) s).forgetWaiters t
  { s1.voidItems t.ctx regs with signals := s1.signals.filter (fun g => g.fab || !regs.contains (regionOfElem g.sender)) }

/-- TASK_RETIRE (R354, R357): a draining task whose regions are all FREE retires; an ending one is flushed first. -/
def execTaskRetire (task : Nat) (s : State) : Out :=
  match s.task? task with
  | none => .next s
  | some t =>
    if t.final.isSome then .next s
    else
      match t.ending with
      | some (st, code) =>
        if !t.bound ∨ t.st = .binding ∨ t.st = .loading then
          .next (((s.held task t).foldl State.freeRegion (s.forgetWaiters t)).retire task t st code)
        else if s.reloads task t then .next s
        else
          let s1 := ((s.dropWaiters task).dropQueued task).discardParked task
          if s1.flushable task then .next ((s1.flushTask task t).retire task t st code) else .next s1
      | none =>
        if t.st = .draining ∧ t.regions.all (fun r => !s.owns task r) then
          .next (match t.dropped with
            | some code => s.retire task t .faulted code
            | none => s.retire task t .done 0)
        else .next s

/-- R359: the task ends ABORTED from the end of this round on, unless it retires in it. -/
def State.abortTask (s : State) (k : Nat) : State := s.modTask k (fun t => { t with abort := true })

/-- ABORT (R356, R357): the unretired task ends ABORTED. -/
def execAbort (ctx : Nat) (taskid : BitVec 16) (s : State) : Out :=
  match s.unretired ctx taskid with
  | none => .next s
  | some k => .next (s.abortTask k)

end Sys2Proof.Machine
end

