-- ==== Sys2Proof/Machine/Image.lean ====
section
/-! DEFINITION. The configuration image and the loader's checks, in the order of R133 (spec/05 R122 to R133; spec/08 R196,
R203; spec/09 R217, R225; spec/11 R255, R256, R274, R277; spec/13 R307 to R309). -/

namespace Sys2Proof.Machine

abbrev cCfgBadop : Byte := 0x01

/-! Words and sections (R123 to R125). -/

/-- R123: one step of CRC-32C, reflected (PRESUMED, notes/assumptions/9). -/
def crcBit (c : BitVec 32) : BitVec 32 := if c.getLsbD 0 then (c >>> 1) ^^^ 0x82F63B78 else c >>> 1

/-- CRC-32C of bytes from a running value. -/
def crcBytes : BitVec 32 → List Byte → BitVec 32
  | c, [] => c
  | c, b :: t =>
    let x := c ^^^ b.setWidth 32
    crcBytes (crcBit (crcBit (crcBit (crcBit (crcBit (crcBit (crcBit (crcBit x)))))))) t

/-- The bytes of a word, lowest first. -/
def wordBytes (w : Word) : List Byte := (List.range 4).map (fun k => BitVec.ofNat 8 (w.toNat / 256 ^ k))

/-- R123: CHECK of an image. -/
def imageCheck (ws : List Word) : Word :=
  ~~~ (crcBytes 0xFFFFFFFF ((ws.take 6 ++ [0] ++ ws.drop 7).flatMap wordBytes))

/-- An image: its sections by TYPE, each a list of records. -/
abbrev Image := List (Nat × List (List Word))

/-- R125: the records of a section. -/
def Image.recs (im : Image) (ty : Nat) : List (List Word) :=
  match im.find? (fun x => x.1 == ty) with
  | some x => x.2
  | none => []

/-- R125: the length of the record that begins a list of words. -/
def recLen (ty : Nat) (ws : List Word) : Nat :=
  match ty with
  | 0x01 => 56
  | 0x02 => 3 + 2 * fldN (ws.getD 2 0) 28 3
  | 0x03 => 2
  | 0x04 => 4
  | 0x05 => 2
  | 0x06 => 1
  | _ => 2 + fldN (ws.getD 1 0) 0 16

/-- R125: cut a section into its records; none when they do not fill it exactly. -/
def splitRecs (ty : Nat) : Nat → Nat → List Word → Option (List (List Word))
  | _, 0, ws => if ws.isEmpty then some [] else none
  | 0, _ + 1, _ => none
  | fuel + 1, n + 1, ws =>
    let k := recLen ty ws
    if ws.length < k then none
    else (splitRecs ty fuel n (ws.drop k)).map (fun l => ws.take k :: l)

/-- R125: cut the words after the header into sections. -/
def splitSecs : Nat → Nat → List Word → Image → Option Image
  | _, 0, ws, im => if ws.isEmpty then some im else none
  | 0, _ + 1, _, _ => none
  | fuel + 1, n + 1, ws, im =>
    match ws with
    | h :: c :: t =>
      let ty := fldN h 24 8
      let len := fldN h 0 24
      if ty = 0 ∨ 0x0C < ty ∨ im.any (fun x => x.1 == ty) ∨ t.length < len then none
      else
        match splitRecs ty (len + 1) c.toNat (t.take len) with
        | none => none
        | some l => splitSecs fuel n (t.drop len) (im ++ [(ty, l)])
    | _ => none

/-- R123: the header's defects. -/
def headerBad (rows cols : Nat) (ws : List Word) : Bool :=
  decide (ws.length < 16 ∨ ws.getD 0 0 ≠ 0x524C5331 ∨ fldN (ws.getD 1 0) 16 16 ≠ 0x0100 ∨ fldN (ws.getD 1 0) 8 8 ≠ rows
      ∨ fldN (ws.getD 1 0) 0 8 ≠ cols ∨ rows = 0 ∨ 8 < rows ∨ cols = 0 ∨ 8 < cols ∨ imageCheck ws ≠ ws.getD 6 0
      ∨ (ws.getD 4 0).toNat ≠ ws.length) || ((ws.drop 7).take 9).any (fun w => w != 0)

/-- R123, R125: the header and the framing; none for CFG_FIELD. -/
def parseImage (rows cols : Nat) (ws : List Word) : Option Image :=
  if headerBad rows cols ws then none else splitSecs (ws.length + 1) (ws.getD 5 0).toNat (ws.drop 16) []

/-- R125: the whole records that stand at the front of a list of words. -/
def wholeRecs (ty : Nat) : Nat → List Word → Nat
  | 0, _ => 0
  | fuel + 1, ws => if ws.isEmpty ∨ ws.length < recLen ty ws then 0 else wholeRecs ty fuel (ws.drop (recLen ty ws)) + 1

/-- R125, R133: the section and the record at which the framing of an image fails; words missing or left over are the header's. -/
def frameAt : Nat → Nat → List Word → List Nat → FaultAt
  | fuel + 1, n + 1, h :: c :: t, seen =>
    let ty := fldN h 24 8
    let len := fldN h 0 24
    if ty = 0 ∨ 0x0C < ty ∨ seen.contains ty ∨ t.length < len then .record ty 0
    else if (splitRecs ty (len + 1) c.toNat (t.take len)).isNone then .record ty (min c.toNat (wholeRecs ty len (t.take len)))
    else frameAt fuel n (t.drop len) (ty :: seen)
  | _, _, _, _ => .header

/-- R133: where an image that does not parse fails. -/
def parseAt (rows cols : Nat) (ws : List Word) : FaultAt :=
  if headerBad rows cols ws then .header else frameAt (ws.length + 1) (ws.getD 5 0).toNat (ws.drop 16) []

/-! Failures in order. -/

/-- A fault where the condition holds. -/
def ck (bad : Bool) (code : Byte) : Option Byte := if bad then some code else none

/-- The first fault of a list. -/
def firstOf (l : List (Option Byte)) : Option Byte := l.findSome? id

/-- Check each item, knowing the items before it; the first fault counts. -/
def eachRec {α : Type} (f : List α → α → Option Byte) : List α → List α → Option Byte
  | _, [] => none
  | before, x :: t => (f before x).or (eachRec f (before ++ [x]) t)

/-- R133: check the records of a section in order, each knowing those before it; the first fault and its record. -/
def eachAt (ty : Nat) (f : List (List Word) → List Word → Option Byte) (l : List (List Word)) : Option (Byte × FaultAt) :=
  (l.zipIdx.findSome? (fun x => (f (l.take x.2) x.1).map (fun c => (c, .record ty x.2))))

/-! End ids (R126). -/

def endKind (w : Word) : Nat := fldN w 30 2
def endLocal (w : Word) : Nat := fldN w 20 10
def endUnit (w : Word) : Nat := fldN w 14 6
def endSide (w : Word) : Nat := fldN w 12 2
def endPort (w : Word) : Nat := fldN w 8 4

/-- The node of an end: END and PORT 0. -/
def endNode (w : Word) : Word := Word.ofNat (endWord (endKind w) (endLocal w) (endUnit w) 0 0)

/-- The end of a node. -/
def endOf (node : Word) (side port : Nat) : Word := Word.ofNat (endWord (endKind node) (endLocal node) (endUnit node) side port)

/-- R16: tiles of a kind in a region. -/
def kindCount (k : Nat) : Nat := match k with | 0 => 12 | 1 => 2 | _ => 1

/-- R126: the UNIT codes of a kind. -/
def unitCodes (k : Nat) : Nat := match k with | 0 => 19 | 1 => 2 | 2 => 27 | _ => 2

/-- R126: the unit that an S-tile's UNIT code names. -/
def sUnitKind (u : Nat) : UKind :=
  if u < 4 then .scan else if u < 8 then .isect else if u < 10 then .rep else if u < 14 then .red
  else if u = 14 then .aper else if u = 15 then .split else if u = 16 then .coll else if u < 19 then .nm else .whey

/-- R60, R203, R256: the numbers of inputs, outputs, control inputs and control outputs that channels may name. -/
def portCounts (k u : Nat) : List Nat :=
  if k = 0 then (if u < 16 then [8, 8, 4, 4] else if u = 18 then [8, 8, 0, 0] else [0, 0, 0, 0])
  else if k = 2 then
    match sUnitKind u with
    | .scan => [1, 3, 0, 0]
    | .isect => [4, 3, 0, 0]
    | .rep => [3, 2, 0, 0]
    | .red => [2, 2, 0, 0]
    | .aper => [1, 1, 0, 0]
    | .split => [1, 8, 0, 0]
    | .coll => [8, 1, 0, 0]
    | .nm => [2, 1, 0, 0]
    | _ => [0, 0, 0, 0]
  else [0, 0, 0, 0]

/-- R126: an end id's reserved field, TILE and UNIT. -/
def idBad (regions : Nat) (w : Word) : Option Byte :=
  firstOf [ck (fldN w 0 8 != 0) cCfgField, ck (decide (kindCount (endKind w) * regions ≤ endLocal w)) cCfgRoute,
    ck (decide (unitCodes (endKind w) ≤ endUnit w)) cCfgRoute]

/-- R126: an end id of a channel, source or sink. -/
def endBad (regions : Nat) (w : Word) : Option Byte :=
  (idBad regions w).or (ck (decide ((portCounts (endKind w) (endUnit w)).getD (endSide w) 0 ≤ endPort w)) cCfgRoute)

/-- R126: an end id that names a node; `fits` says its UNIT code fits the section. -/
def nodeBad (regions : Nat) (w : Word) (fits : Bool) : Option Byte :=
  firstOf [idBad regions w, ck (endNode w != w) cCfgRoute, ck (!fits) cCfgField]

/-- R103: the ends that the image names. -/
def Image.named (im : Image) : List Word :=
  (im.recs 0x02).flatMap (fun r => [r.getD 0 0, r.getD 1 0]) ++ (im.recs 0x05).map (fun r => r.getD 0 0)
    ++ (im.recs 0x06).map (fun r => r.getD 0 0) ++ (im.recs 0x09).map (fun r => r.getD 2 0)

/-- The payload of a unit record (R132). -/
def payload (r : List Word) : List Word := r.drop 2

/-! Element records (R127). -/

/-- R103: an end that a rule uses is connected. -/
def placeOk (named : List Word) (node : Word) : Place → Bool
  | .inp k => named.contains (endOf node 0 k)
  | .out k => named.contains (endOf node 1 k)
  | .cin k => named.contains (endOf node 2 k)
  | .cout k => named.contains (endOf node 3 k)
  | _ => true

/-- The footprint's ends are connected. -/
def footOk (named : List Word) (node : Word) (f : Foot) : Bool :=
  f.reads.all (placeOk named node) && f.writes.all (placeOk named node)

/-- R122, R127: a rule of an element. -/
def ruleBad (named : List Word) (node : Word) (consts : List Word) (g a : Word) : Option Byte :=
  if !wfGuard g a then some cCfgField
  else if fldN g 0 1 = 0 then none
  else
    let l : Vector Counter 2 := Vector.replicate 2 {}
    firstOf [
      ck (!footOk named node (guardFoot g)) cCfgRoute,
      (match decodeWord a with
        | .error .badOp => some cCfgBadop
        | .error _ => if 0xF0 ≤ opcOf a ∧ opcOf a ≤ 0xF7 then some cCfgBadop else some cCfgField
        | .ok i => if 0xF0 ≤ opcOf a ∧ opcOf a ≤ 0xF7 then some cCfgBadop else ck (!wfElem i) cCfgField),
      ck (!footOk named node (actFoot l a)) cCfgRoute,
      ck (opcOf a == 0xD8 && decide (2 ^ 7 ≤ (consts.getD (fldN a 6 3) 0).toNat)) cCfgField]

/-- R127, R133: a byte of BIND; a binding on an unconnected end is named with its rule. -/
def bindBad (named : List Word) (node : Word) (acts : List Word) (b : Word) (k : Nat) : Option (Byte × Option Nat) :=
  let v := fldN b (8 * k) 8
  let rule := acts.getD (v % 16) 0
  ((firstOf [ck (decide (v < 128 ∧ v ≠ 0)) cCfgField, ck (decide (v / 16 % 4 ≠ 0)) cCfgField,
      ck (decide (v / 64 % 2 = 1) && !(decide (opcOf rule ≤ 0x96) && fldN rule 4 2 == 3)) cCfgField]).map (fun c => (c, none))).or
    ((ck (decide (128 ≤ v) && !named.contains (endOf node 3 k)) cCfgRoute).map (fun c => (c, some (v % 16))))

/-- R61, R127: a counter's words. -/
def ctrBad (second : Bool) (bound ctl : Word) : Option Byte :=
  firstOf [ck (bound == 0) cCfgField,
    ck (decide (fldN ctl 8 24 ≠ 0 ∨ 4 < fldN ctl 4 4 ∨ 1 < fldN ctl 0 4 ∨ (second ∧ fldN ctl 0 4 ≠ 0))) cCfgField]

/-- R127: the end id of an ELEMENT record, given those of smaller end id. -/
def elementHead (regions : Nat) (before : List (List Word)) (r : List Word) : Option Byte :=
  let node := r.getD 0 0
  firstOf [
    nodeBad regions node (decide (endKind node = 0 ∧ endUnit node < 16)),
    ck (before.any (fun x => x.getD 0 0 == node)) cCfgField]

/-- R122, R133: the first rule at fault of an ELEMENT record. -/
def elementRules (named : List Word) (r : List Word) : Option (Byte × Nat) :=
  (((r.drop 1).take 16).zip ((r.drop 17).take 16)).zipIdx.findSome? (fun x =>
    (ruleBad named (r.getD 0 0) ((r.drop 33).take 8) x.1.1 x.1.2).map (fun c => (c, x.2)))

/-- R127: words 33 to 55 of an ELEMENT record, and the rule that a fault names. -/
def elementTail (named : List Word) (r : List Word) : Option (Byte × Option Nat) :=
  let plain := fun (x : Option Byte) => x.map (fun c => (c, (none : Option Nat)))
  List.findSome? id (plain (firstOf [ck (fldN (r.getD 49 0) 8 24 != 0) cCfgField,
      ctrBad false (r.getD 50 0) (r.getD 51 0), ctrBad true (r.getD 52 0) (r.getD 53 0)])
    :: (List.range 4).map (fun k => bindBad named (r.getD 0 0) ((r.drop 17).take 16) (r.getD 54 0) k)
    ++ [plain (ck (r.getD 55 0 != 0) cCfgField)])

/-- R133: ELEMENT records, with their places in the section, in ascending end id. -/
def insertRec (r : List Word × Nat) : List (List Word × Nat) → List (List Word × Nat)
  | [] => [r]
  | x :: t => if (r.1.getD 0 0).toNat < (x.1.getD 0 0).toNat then r :: x :: t else x :: insertRec r t

/-- R133: the ELEMENT records of an image in that order. -/
def Image.elements (im : Image) : List (List Word × Nat) := (im.recs 0x01).zipIdx.foldl (fun l r => insertRec r l) []

/-! Channels, cycles, windows, sources and sinks (R128 to R131). -/

/-- R128: tags that an initial token may carry. -/
def initTags (r : List Word) : List Word := (List.range (fldN (r.getD 2 0) 28 3)).map (fun j => r.getD (4 + 2 * j) 0)

/-- R255: a stream unit of an S-tile has its record. -/
def Image.unitSet (im : Image) (w : Word) : Bool :=
  endKind w != 2 || (im.recs 0x0A).any (fun r => r.getD 0 0 == endNode w)

/-- R128: a CHANNEL record. -/
def channelBad (regions : Nat) (im : Image) (before : List (List Word)) (r : List Word) : Option Byte :=
  let f := r.getD 0 0
  let t := r.getD 1 0
  let w := r.getD 2 0
  let ctl := endSide f == 3 || endSide t == 2
  firstOf [
    ck (fldN w 0 28 != 0 || decide (4 < fldN w 28 3)) cCfgField, endBad regions f, endBad regions t,
    ck (!(endSide f == 1 && endSide t == 0) && !(endSide f == 3 && endSide t == 2)) cCfgRoute,
    ck (before.any (fun x => x.getD 0 0 == f || x.getD 1 0 == t)) cCfgRoute,
    ck (!im.unitSet f || !im.unitSet t) cCfgRoute,
    ck (ctl && (fldN w 28 3 != 0 || fldN w 31 1 == 1)) cCfgField,
    ck ((initTags r).any (fun x => fldN x 4 28 != 0 || !tagOk (fld x 0 4))) cCfgField]

/-- R129: a CYCLE record. -/
def cycleBad (regions : Nat) (im : Image) (before : List (List Word)) (r : List Word) : Option Byte :=
  let h := r.getD 0 0
  let w := r.getD 1 0
  let backs := ((im.recs 0x02).filter (fun c => fldN (c.getD 2 0) 31 1 == 1)).map (fun c => c.getD 1 0)
  let named := im.named
  firstOf [
    nodeBad regions h (decide (endKind h = 0 ∧ endUnit h < 16)), ck (fldN w 24 8 == 0 || fldN w 0 15 != 0) cCfgField,
    ck (!backs.contains (endOf h 0 (fldN w 15 3)) || backs.contains (endOf h 0 (fldN w 21 3))
      || !named.contains (endOf h 0 (fldN w 21 3)) || !named.contains (endOf h 1 (fldN w 18 3))) cCfgRoute,
    ck (decide (4 ≤ (before.filter (fun x => x.getD 0 0 == h)).length)) cCfgField]

/-- R130: a WINDOW record. -/
def windowBad (arglen : Nat) (before : List (List Word)) (r : List Word) : Option Byte :=
  let w := r.getD 0 0
  firstOf [
    ck (fldN w 9 23 != 0 || fldN w 7 1 != 0 || fldN w 3 1 != 0) cCfgField,
    ck (before.any (fun x => fldN (x.getD 0 0) 0 3 == fldN w 0 3)) cCfgField,
    if fldN w 8 1 = 0 then ck (fldN (r.getD 2 0) 20 12 != 0) cCfgField
    else ck (r.getD 2 0 != 0 || decide (arglen < (r.getD 1 0).toNat + 2)) cCfgField]

/-- R131: a SOURCE record. An end that a channel names too is a defect of this record (notes/assumptions/45). -/
def sourceBad (regions arglen : Nat) (im : Image) (before : List (List Word)) (r : List Word) : Option Byte :=
  let w := r.getD 0 0
  let a := r.getD 1 0
  firstOf [
    endBad regions w, ck (endSide w != 0) cCfgRoute,
    ck ((im.recs 0x02).any (fun c => c.getD 1 0 == w) || before.any (fun x => x.getD 0 0 == w)) cCfgRoute,
    ck (!im.unitSet w) cCfgRoute,
    ck (decide (fldN a 0 16 ≠ 0 ∧ arglen < fldN a 16 16 + fldN a 0 16)) cCfgField]

/-- R131: a SINK record. -/
def sinkBad (regions : Nat) (im : Image) (before : List (List Word)) (r : List Word) : Option Byte :=
  let w := r.getD 0 0
  firstOf [
    endBad regions w, ck (endSide w != 1) cCfgRoute,
    ck ((im.recs 0x02).any (fun c => c.getD 0 0 == w) || before.any (fun x => x.getD 0 0 == w)) cCfgRoute,
    ck (!im.unitSet w) cCfgRoute]

/-! Unit records (R132). -/

/-- R132: end id, index and repetition of a unit record; `one` when a unit takes one record. -/
def unitRecBad (regions : Nat) (fits one : Bool) (top : Nat) (before : List (List Word)) (r : List Word) : Option Byte :=
  let w := r.getD 0 0
  let k := fldN (r.getD 1 0) 16 16
  firstOf [
    nodeBad regions w fits, ck (decide (top < k)) cCfgField,
    ck (before.any (fun x => x.getD 0 0 == w && (one || fldN (x.getD 1 0) 16 16 == k))) cCfgField]

/-- R195: the shape record. -/
def shapeOf (p : List Word) : Shape :=
  let g := fun k => p.getD k 0
  let n := fldN (g 0) 29 3
  let w40 := fun (lo hi : Nat) => BitVec.ofNat 40 (lo + 2 ^ 32 * hi)
  { dims := (List.range n).map (fun k =>
      ({ ext := fld (g (8 + 4 * k)) 0 24, sst := w40 (g (9 + 4 * k)).toNat (fldN (g (11 + 4 * k)) 0 8)
         dst := w40 (g (10 + 4 * k)).toNat (fldN (g (11 + 4 * k)) 8 8) } : Dim))
    perm := (List.range n).map (fun k => fldN (g 0) (8 + 3 * k) 3)
    ssize := fld (g 0) 6 2, dsize := fld (g 0) 4 2, swin := fld (g 1) 29 3, dwin := fld (g 1) 26 3, tag := fld (g 1) 20 6
    scope := fld (g 1) 18 2, redop := fld (g 1) 14 4, conv := fld (g 1) 10 4, dkind := fld (g 1) 7 3, stop := fld (g 1) 4 3
    ltag := fldN (g 1) 3 1 == 1, dport := fld (g 1) 0 3, soff := g 2, doff := g 3
    pss := w40 (g 4).toNat (fldN (g 6) 0 8), pds := w40 (g 5).toNat (fldN (g 6) 8 8) }

/-- R197: the sizes that a conversion joins. -/
def convSizes (c : Nat) (s d : Nat) : Bool :=
  match c with
  | 0 => s == d
  | 1 | 2 => s == 2 && d == 1
  | 3 | 4 => s == 2 && d == 0
  | 5 | 6 => s == 1 && d == 2
  | 7 | 8 => s == 0 && d == 2
  | _ => false

/-- R196, R219, R247: the shape record's own defects. -/
def shapeBad (p : List Word) : Bool :=
  let g := fun k => p.getD k 0
  let h := shapeOf p
  let n := h.dims.length
  p.length != 36 || n == 0 || !(List.range n).all (fun k => h.perm.contains k)
    || (List.range 7).any (fun k => decide (n ≤ k) && fldN (g 0) (8 + 3 * k) 3 != 0)
    || h.dims.any (fun d => d.ext == 0)
    || (List.range 7).any (fun k => decide (n ≤ k) && (List.range 4).any (fun j => g (8 + 4 * k + j) != 0))
    || decide (2 ^ 32 ≤ h.count) || !convSizes h.conv.toNat h.ssize.toNat h.dsize.toNat
    || decide (10 < h.redop.toNat) || decide (9 ≤ h.redop.toNat ∧ h.dsize ≠ 2) || decide (4 < h.dkind.toNat)
    || (h.redop != 0 && h.dkind != 0) || decide (4 < h.stop.toNat)
    || ((h.stop != 0 || h.ltag || h.dport != 0) && h.dkind != 1)
    || (h.dkind == 4 && !(h.ssize == 3 && h.dsize == 3 && h.conv == 0 && h.redop == 0))
    || ((h.dkind == 2 || h.dkind == 3) && h.dsize != 2)
    || fldN (g 0) 0 4 != 0 || fldN (g 6) 16 16 != 0 || g 7 != 0
    || (List.range 7).any (fun k => fldN (g (8 + 4 * k)) 24 8 != 0 || fldN (g (11 + 4 * k)) 16 16 != 0)

/-- R196: a TEMPLATE record. -/
def templateBad (regions : Nat) (im : Image) (before : List (List Word)) (r : List Word) : Option Byte :=
  let w := r.getD 0 0
  let h := shapeOf (payload r)
  firstOf [
    unitRecBad regions (decide (endKind w = 0 ∧ endUnit w = 18)) false 63 before r, ck (shapeBad (payload r)) cCfgField,
    ck (h.dkind == 1 && !im.named.contains (endOf w 1 h.dport.toNat)) cCfgRoute]

/-- R217: slots of a TABLE record. -/
def tableSlots (r : List Word) : List Nat :=
  (List.range (fldN (r.getD 2 0) 28 2 + 1)).map (fun b => fldN (r.getD 1 0) 16 16 + b)

/-- R217: a TABLE record. -/
def tableBad (regions : Nat) (before : List (List Word)) (r : List Word) : Option Byte :=
  let w := r.getD 0 0
  let v := r.getD 2 0
  let nb := fldN v 28 2 + 1
  firstOf [
    unitRecBad regions (decide (endKind w = 0 ∧ endUnit w = 17)) false 3 before r,
    ck ((payload r).length != 1 || fldN v 30 2 == 3 || fldN v 16 12 != 0 || fldN v 0 6 != 0
      || decide (65536 < fldN v 0 16 + 64 * nb ∨ 4 < fldN (r.getD 1 0) 16 16 + nb)) cCfgField,
    ck (before.any (fun x => x.getD 0 0 == w && (tableSlots x).any (fun k => (tableSlots r).contains k))) cCfgField]

/-- R225: a PRESS record. -/
def pressBad (regions : Nat) (im : Image) (before : List (List Word)) (r : List Word) : Option Byte :=
  let w := r.getD 0 0
  let res := r.getD 2 0
  let v := r.getD 3 0
  firstOf [
    unitRecBad regions (decide (endKind w = 0 ∧ endUnit w = 16)) true 0 before r,
    ck ((payload r).length != 18 || fldN v 8 24 != 0 || decide (4 < fldN v 4 4 ∨ 4 < fldN v 0 4)
      || (r.drop 4).any (fun x => decide (95 < x.toNat))) cCfgField,
    if res = 0xFFFFFFFF then none
    else firstOf [
      endBad regions res, ck (endSide res != 0) cCfgRoute,
      ck ((im.recs 0x02).any (fun c => c.getD 1 0 == res) || (im.recs 0x05).any (fun c => c.getD 0 0 == res)
        || before.any (fun x => x.getD 2 0 == res)) cCfgRoute,
      ck (!im.unitSet res) cCfgRoute]]

/-- An element of the image holds a valid rule that satisfies `f`. -/
def anyRule (r : List Word) (f : Word → Bool) : Bool :=
  (((r.drop 1).take 16).zip ((r.drop 17).take 16)).any (fun x => fldN x.1 0 1 == 1 && f x.2)

/-- R108: the element of a node of the image, in hardware. -/
def elemOfNode (sp : Nat × Nat × Nat × Nat) (node : Word) : Nat :=
  match hwEnd sp node with
  | some d => elemOfTile d.tile d.unit
  | none => 0

/-- R108, R133: the first valid rule with an opcode, of the element of lowest end id that satisfies `bad`: CFG_ROUTE, naming element
and rule. -/
def ruleWith (sp : Nat × Nat × Nat × Nat) (im : Image) (op : Nat) (bad : Word → Bool) : Option (Byte × FaultAt) :=
  (im.elements.map (fun x => x.1)).findSome? (fun e =>
    let hit := (((e.drop 1).take 16).zip ((e.drop 17).take 16)).zipIdx.find? (fun x => fldN x.1.1 0 1 == 1 && opcOf x.1.2 == op)
    if bad (e.getD 0 0) then hit.map (fun x => (cCfgRoute, FaultAt.rule (elemOfNode sp (e.getD 0 0)) x.2)) else none)

/-- R225: a PREAD rule in a tile whose RESULT is none. -/
def preadBad (sp : Nat × Nat × Nat × Nat) (im : Image) : Option (Byte × FaultAt) :=
  ruleWith sp im 0xE9 (fun node =>
    let press := Word.ofNat (endWord 0 (endLocal node) 16 0 0)
    !(im.recs 0x09).any (fun r => r.getD 0 0 == press && r.getD 2 0 != 0xFFFFFFFF))

/-- R256: the connection rule of a unit. -/
def unitPortsOk (named : List Word) (k : UKind) (node : Word) (p : List Word) : Bool :=
  let i := fun n => named.contains (endOf node 0 n)
  let o := fun n => named.contains (endOf node 1 n)
  let w := p.getD 0 0
  match k with
  | .scan => i 0 && o 0 && (!o 2 || fldN w 28 2 != 0) && (!o 1 || fldN w 30 2 != 2)
  | .isect => i 0 && i 2 && o 0 && i 1 == o 1 && i 3 == o 2
  | .rep => i 0 && i 2 && o 0 && i 1 == o 1
  | .red => i 0 && i 1 && o 0 && o 1
  | .aper => i 0 && o 0
  | .nm => i 0 && i 1 && o 0
  | .split => i 0 && (List.range 8).all (fun n => o n == decide (n ≤ fldN w 0 3))
  | .coll => o 0 && (List.range 8).any i
  | _ => true

/-- R255, R279: the kind that a UNIT record configures. -/
def unitKindOf (w : Word) : UKind := if endKind w = 3 then .brine else sUnitKind (endUnit w)

/-- R255, R256: a UNIT record. -/
def unitBad (regions : Nat) (im : Image) (before : List (List Word)) (r : List Word) : Option Byte :=
  let w := r.getD 0 0
  firstOf [
    unitRecBad regions (decide ((endKind w = 2 ∧ endUnit w < 19) ∨ (endKind w = 3 ∧ endUnit w = 1))) true 31 before r,
    ck (before.any (fun x => fldN (x.getD 1 0) 16 16 == fldN (r.getD 1 0) 16 16)) cCfgField,
    ck (!unitPayloadOk (unitKindOf w) (payload r)) cCfgField,
    ck (!unitPortsOk im.named (unitKindOf w) w (payload r)) cCfgRoute]

/-! Whey nodes (R276, R277). -/

/-- R277: the input producers of a node. -/
def wheySrcs (r : List Word) : List Word := ((payload r).drop 1).take (fldN (r.getD 2 0) 0 2 + 1)

/-- The node of the image that is a whey node's record. -/
def Image.wheyAt (im : Image) (node : Word) : Option (List Word) := (im.recs 0x0B).find? (fun r => r.getD 0 0 == node)

/-- R276, R277: a producer of a kind of group: 0 conversion, 1 segment. -/
def wheySrcOk (im : Image) (kind : Nat) (w : Word) : Bool :=
  endSide w == 1
    && (if endKind w = 0 then
          (if endUnit w < 16 then endPort w == 8 && kind == 0
           else endUnit w == 16 && (endPort w == 8 && kind == 0 || endPort w == 9 && kind == 1))
        else if endKind w = 3 then endUnit w == 1 && endPort w == 8 && kind == 0
        else if endKind w = 2 then
          endPort w == 8 && (match im.wheyAt (endNode w) with
            | some r => fldN (r.getD 2 0) 30 2 == kind && fldN (r.getD 2 0) 29 1 == 0
            | none => false)
        else false)

/-- R277: from a node, following what it feeds, a root is reached. -/
def wheyRooted (im : Image) : Nat → Word → Bool
  | 0, _ => false
  | n + 1, node =>
    match im.wheyAt node with
    | none => false
    | some r =>
      if fldN (r.getD 2 0) 29 1 = 1 then true
      else
        match (im.recs 0x0B).find? (fun x => (wheySrcs x).contains (endOf node 1 8)) with
        | some x => wheyRooted im n (x.getD 0 0)
        | none => false

/-- R277: a WHEY record. -/
def wheyBad (regions : Nat) (im : Image) (before : List (List Word)) (r : List Word) : Option Byte :=
  let w := r.getD 0 0
  let kind := fldN (r.getD 2 0) 30 2
  firstOf [
    unitRecBad regions (decide (endKind w = 2 ∧ 19 ≤ endUnit w)) true 0 before r,
    ck (!unitPayloadOk .whey (payload r)) cCfgField,
    firstOf ((wheySrcs r).map (idBad regions)),
    ck (!(wheySrcs r).all (wheySrcOk im kind)) cCfgRoute,
    eachRec (fun seen x => ck (seen.contains x) cCfgRoute) (before.flatMap wheySrcs) (wheySrcs r),
    ck (!wheyRooted im ((im.recs 0x0B).length + 1) w) cCfgRoute]

/-- R277: an element holding a WHEY rule while feeding no node. -/
def wheyRuleBad (sp : Nat × Nat × Nat × Nat) (im : Image) : Option (Byte × FaultAt) :=
  ruleWith sp im 0xFA (fun node => !((im.recs 0x0B).flatMap wheySrcs).contains (endOf node 1 8))

/-! Loupe records (R307 to R309). -/

/-- R309: opcodes of a Loupe program. -/
def loupeOp (op : Nat) : Bool :=
  decide (0xF0 ≤ op ∧ op ≤ 0xF7) || [0x00, 0x01, 0x04, 0x08, 0x09, 0x0A, 0x0B, 0x0C, 0x0D, 0x0E].contains op
    || (decide (0x20 ≤ op ∧ op ≤ 0x55) && !([0x22, 0x23, 0x24, 0x25, 0x2B, 0x4F, 0x50, 0x40].contains op))

/-- R122, R308, R309: a rule of a Loupe program. -/
def loupeRuleBad (g a : Word) : Option Byte :=
  if !wfGuardLoupe g a then some cCfgField
  else if fldN g 0 1 = 0 then none
  else if !loupeOp (opcOf a) then some cCfgBadop
  else
    match decodeWord a with
    | .error .badOp => some cCfgBadop
    | .error _ => some cCfgField
    | .ok i => ck (!wfLoupe i) cCfgField

/-- R307: the clients of a LOUPE record. -/
def loupeClients (r : List Word) : List Word := (payload r).drop 41

/-- R307: a LOUPE record. -/
def loupeBad (regions : Nat) (before : List (List Word)) (r : List Word) : Option Byte :=
  let w := r.getD 0 0
  let v := r.getD 2 0
  let p := payload r
  firstOf [
    unitRecBad regions (decide (endKind w = 3 ∧ endUnit w = 0)) true 0 before r,
    ck (fldN v 21 10 != 0 || fldN v 0 16 == 0 || fldN v 16 5 == 0 || decide (16 < fldN v 16 5) || p.length != 41 + fldN v 16 5) cCfgField,
    firstOf ((((p.drop 1).take 16).zip ((p.drop 17).take 16)).map (fun x => loupeRuleBad x.1 x.2)),
    firstOf ((loupeClients r).map (fun c => (idBad regions c).or (ck (!decide (endKind c = 0 ∧ endUnit c < 16) || endNode c != c) cCfgRoute))),
    ck ((loupeClients r).any (before.flatMap loupeClients).contains) cCfgRoute]

/-- R307: a WALK rule in an element that is a client of no Loupe. -/
def walkRuleBad (sp : Nat × Nat × Nat × Nat) (im : Image) : Option (Byte × FaultAt) :=
  ruleWith sp im 0xD4 (fun node => !((im.recs 0x0C).flatMap loupeClients).contains node)

/-! Routes and paths (R19, R128, R203, R274). -/

/-- Steps from one number to another. -/
def stepsTo (a b : Nat) : List (Nat × Nat) :=
  if a ≤ b then (List.range (b - a)).map (fun k => (a + k, a + k + 1)) else (List.range (a - b)).map (fun k => (a - k, a - k - 1))

/-- R102: the link directions of a route, columns first, then rows. -/
def routeLinks (a b : Nat) : List (Nat × Nat) :=
  (stepsTo (tileCol a) (tileCol b)).map (fun x => (tileAtGrid (tileRow a) x.1, tileAtGrid (tileRow a) x.2))
    ++ (stepsTo (tileRow a) (tileRow b)).map (fun x => (tileAtGrid x.1 (tileCol b), tileAtGrid x.2 (tileCol b)))

/-- A link direction given more than `cap` lanes. -/
def lanesOver (cap : Nat) (links : List (Nat × Nat)) : Bool :=
  links.any (fun l => decide (cap < (links.filter (fun x => x == l)).length))

/-- The tile of an end id in a span. -/
def tileOfEnd (sp : Nat × Nat × Nat × Nat) (w : Word) : Nat := ((hwEnd sp w).map (fun e => e.tile)).getD 0

/-- The place in a list of routes of the first that finds no lane left. -/
def firstOver (cap : Nat) (routes : List (List (Nat × Nat))) : Nat :=
  ((List.range routes.length).find? (fun k => lanesOver cap (routes.take (k + 1)).flatten)).getD routes.length

/-- R128: the lanes of data channels with the press-result routes, and of control channels: the record that finds none left. -/
def lanesBad (sp : Nat × Nat × Nat × Nat) (im : Image) : Option (Byte × FaultAt) :=
  let route := fun (f t : Word) => routeLinks (tileOfEnd sp f) (tileOfEnd sp t)
  let data := (im.recs 0x02).map (fun c => if endSide (c.getD 0 0) = 1 then route (c.getD 0 0) (c.getD 1 0) else [])
  let res := (im.recs 0x09).map (fun r => if r.getD 2 0 = 0xFFFFFFFF then [] else route (r.getD 0 0) (r.getD 2 0))
  let ctl := (im.recs 0x02).map (fun c => if endSide (c.getD 0 0) = 3 then route (c.getD 0 0) (c.getD 1 0) else [])
  if lanesOver 16 (data ++ res).flatten ∨ lanesOver 32 ctl.flatten then
    let k := min (firstOver 16 (data ++ res)) (firstOver 32 (ctl ++ res.map (fun _ => [])))
    some (cCfgRoute, if k < data.length then .record 0x02 k else .record 0x09 (k - data.length))
  else none

/-- R19, R277: the whey lanes. -/
def wheyLanesBad (sp : Nat × Nat × Nat × Nat) (im : Image) : Option (Byte × FaultAt) :=
  let routes := (im.recs 0x0B).map (fun r => (wheySrcs r).flatMap (fun w => routeLinks (tileOfEnd sp w) (tileOfEnd sp (r.getD 0 0))))
  if lanesOver 2 routes.flatten then some (cCfgRoute, .record 0x0B (firstOver 2 routes)) else none

/-- The nodes reached from `from_` over channels, not going on through a node that `stop` names. -/
def reach (edges : List (Word × Word)) (stop : Word → Bool) : Nat → List Word → List Word
  | 0, seen => seen
  | n + 1, seen =>
    let next := (edges.filter (fun e => seen.contains e.1 && !stop e.1 && !seen.contains e.2)).map (fun e => e.2)
    if next.isEmpty then seen else reach edges stop n (seen ++ next.eraseDups)

/-- The place of the first CHANNEL record that leaves a node. -/
def Image.leaving (im : Image) (node : Word) : FaultAt := .record 0x02 (((im.recs 0x02).findIdx? (fun c => endNode (c.getD 0 0) == node)).getD 0)

/-- R203: a path from a copy engine to a forward input of an element of its tile that holds a COPY; the channel by which it leaves. -/
def copyPathBad (im : Image) : Option (Byte × FaultAt) :=
  let fwd := (im.recs 0x02).filter (fun c => fldN (c.getD 2 0) 31 1 == 0)
  let edges := fwd.map (fun c => (endNode (c.getD 0 0), endNode (c.getD 1 0)))
  let engines := (edges.map (fun e => e.1)).filter (fun w => endKind w == 0 && endUnit w == 18)
  (engines.find? (fun g =>
    let seen := reach edges (fun _ => false) (edges.length + 1) [g]
    fwd.any (fun c =>
      let t := endNode (c.getD 1 0)
      seen.contains (endNode (c.getD 0 0)) && endSide (c.getD 1 0) == 0 && endKind t == 0 && endLocal t == endLocal g
        && (im.recs 0x01).any (fun e => e.getD 0 0 == t && anyRule e (fun a => opcOf a == 0xC8))))).map (fun g => (cCfgRoute, im.leaving g))

/-- R274: a path from a Splitter back to its input that passes through no Collimator; the channel by which it leaves. -/
def splitPathBad (im : Image) : Option (Byte × FaultAt) :=
  let edges := (im.recs 0x02).map (fun c => (endNode (c.getD 0 0), endNode (c.getD 1 0)))
  let coll := fun (w : Word) => endKind w == 2 && endUnit w == 16
  let splits := (edges.map (fun e => e.1)).filter (fun w => endKind w == 2 && endUnit w == 15)
  (splits.find? (fun g =>
    let first := (edges.filter (fun e => e.1 == g)).map (fun e => e.2)
    (reach edges (fun w => coll w || w == g) (edges.length + 1) first).contains g)).map (fun g => (cCfgRoute, im.leaving g))

/-! The whole check (R133). -/

/-- R127, R133: the ELEMENT records in ascending end id: a rule at fault is named with its element, anything else with the record. -/
def elementsBad (sp : Nat × Nat × Nat × Nat) (regions : Nat) (named : List Word) (l : List (List Word × Nat)) : Option (Byte × FaultAt) :=
  l.zipIdx.findSome? (fun x =>
    let r := x.1.1
    let here := fun (c : Byte) => (c, FaultAt.record 0x01 x.1.2)
    ((elementHead regions ((l.take x.2).map (fun y => y.1)) r).map here).or
      (((elementRules named r).map (fun y => (y.1, FaultAt.rule (elemOfNode sp (r.getD 0 0)) y.2))).or
        ((elementTail named r).map (fun y => (y.1, match y.2 with
          | some k => FaultAt.rule (elemOfNode sp (r.getD 0 0)) k
          | none => FaultAt.record 0x01 x.1.2)))))

/-- R108, R133: the first fault of a parsed image, for a span and an argument block, and what its record names. The
defects that join a rule to a unit record come after the unit section (notes/assumptions/45). -/
def imageFault (sp : Nat × Nat × Nat × Nat) (arglen : Nat) (im : Image) : Option (Byte × FaultAt) :=
  let n := sp.2.2.1 * sp.2.2.2
  let named := im.named
  List.findSome? id [
    elementsBad sp n named im.elements,
    eachAt 0x02 (channelBad n im) (im.recs 0x02), eachAt 0x03 (cycleBad n im) (im.recs 0x03),
    eachAt 0x04 (windowBad arglen) (im.recs 0x04), eachAt 0x05 (sourceBad n arglen im) (im.recs 0x05),
    eachAt 0x06 (sinkBad n im) (im.recs 0x06), eachAt 0x07 (templateBad n im) (im.recs 0x07),
    eachAt 0x08 (tableBad n) (im.recs 0x08), eachAt 0x09 (pressBad n im) (im.recs 0x09), preadBad sp im,
    eachAt 0x0A (unitBad n im) (im.recs 0x0A), eachAt 0x0B (wheyBad n im) (im.recs 0x0B), wheyRuleBad sp im,
    eachAt 0x0C (loupeBad n) (im.recs 0x0C), walkRuleBad sp im,
    copyPathBad im, splitPathBad im, lanesBad sp im, wheyLanesBad sp im]

/-- R133: the code of the first fault. -/
def imageBad (sp : Nat × Nat × Nat × Nat) (arglen : Nat) (im : Image) : Option Byte := (imageFault sp arglen im).map (fun x => x.1)

end Sys2Proof.Machine
end

