-- ==== Sys2Proof/Machine/Walk.lean ====
section
/-! DEFINITION. Walks: WALK (spec/08 R209, R210), the walk group 0xF0 to 0xF7 and the Loupe's events (spec/13 R305 to
R319). -/

namespace Sys2Proof.Machine

/-! Submission (R209, R210, R306). -/

/-- R307: the Loupe that names an element as a client. -/
def State.loupeOf (s : State) (el : Nat) : Option Nat := (s.elem el).loupe

/-- R210: a walk holds its output end for itself, or lets it go. -/
def Ports.holdWalk (p : Ports) (k : Nat) (on : Bool) : Ports := p.setOut k { p.outAt k with walk := on }

/-- WALK (R209, R210): checks the root and the window, then waits in the port queue for a slot. -/
def execWalk (d a b : BitVec 5) (w : BitVec 3) (s : State) : Out :=
  match s.cur with
  | .rule el rule =>
    let e := s.elem el
    let q : Req := { d := d, a := some a, b := some b }
    match e.input q with
    | none => .next s
    | some x =>
      let k := (d.toNat + 24) % 32 % 8
      if e.portUse < 8 ∧ 1 ≤ (e.ports.outAt k).room ∧ e.roomFor (e.everyCo rule) then
        let win := s.window (s.taskOfElem el) w
        let fault := fun code => { faultOf code rule x with offset := x.b.data }
        if win.len ≤ x.b.data.toNat then .next (s.abortRule el (fault cWinBound))
        else if !win.r then .next (s.abortRule el (fault cPerm))
        else
          let e1 := ((e.issuePort rule q [] (.walkIssue x.a.data x.b.data w) true).leave (.out (BitVec.ofNat 3 k) [⟨0, Tag.data⟩])).delay
            e.nextId (flitDelay (tileOfElem el) (etileOf (regionOfElem el)))
          .next (s.setElem el { e1 with
            ports := e1.ports.holdWalk k true
            pend := e1.pend.map (fun p => if p.id = e.nextId then { p with ends := [BitVec.ofNat 3 k] } else p) })
      else .next s
  | _ => .next s

/-- R306: the free slot that an accepted walk takes: the lowest (DESIGN CHOICE, log 86). -/
def Loupe.freeSlot (l : Loupe) : Option Nat := (List.range 32).find? (fun k => (l.slot k).st == .free)

/-- WALK_ACCEPT (R306, R317): the Loupe takes a submitted walk into a free slot; after MARK it is saved there at once. -/
def execWalkAccept (el id : Nat) (s : State) : Out :=
  match (s.elem el).pend? id, s.loupeOf el with
  | some p, some t =>
    match p.job, (s.loupe t).freeSlot with
    | .walkIssue key root w, some k =>
      if s.behind el id then .next s
      else
        let task := s.taskOfElem el
        let x : WSlot :=
          { ptr := root, v := #v[root, 0, 0, 0], key := key, win := w, el := el, pend := id, out := p.ends.headD 0
            st := if (s.loupe t).marked then .saved else .running, task := task, ctx := s.ctxOfTask task }
        .next ((s.setElem el ((s.elem el).setJob id .walk)).setSlot t k x)
    | _, _ => .next s
  | _, _ => .next s

/-! Ending a walk (R314). -/

/-- R314: the status word. -/
def walkStatus (status n : Nat) (code : Byte) (step : BitVec 16) : Word :=
  Word.ofNat (status * 2 ^ 29 + n * 2 ^ 24 + code.toNat * 2 ^ 16 + step.toNat)

/-- R314: the record tokens: DATA, the last LAST. -/
def recordToks : List Word → List Token
  | [] => []
  | [w] => [⟨w, Tag.last⟩]
  | w :: t => ⟨w, Tag.data⟩ :: recordToks t

/-- R314: the tokens of an ended walk. -/
def resultToks (status : Nat) (code : Byte) (step : BitVec 16) (record : List Word) : List Token :=
  ⟨walkStatus status record.length code step, if record.isEmpty then Tag.last else Tag.data⟩ :: recordToks record

/-- R314: end the walk of a slot. -/
def State.endWalk (s : State) (t k : Nat) (status : Nat) (code : Byte) (record : List Word) : State :=
  let x := (s.loupe t).slot k
  s.setSlot t k { x with
    st := .returning, read := none, park := none, ret := resultToks status code x.step record, left := flitDelay t (tileOfElem x.el) }

/-- R310: no rule is ready: the walk ends with ABORT and CODE 0xFF. -/
def State.walkNoRule (s : State) (t k : Nat) : State := s.endWalk t k 4 0xFF []

/-! Reads (R312). -/

/-- Issue `n` word reads of a walk at an offset of its window. -/
def State.issueRead (s : State) (t k off n : Nat) : State :=
  let x := (s.loupe t).slot k
  let win := s.window x.task x.win
  let lanes := (List.range n).map (fun j => ({ off := off + 4 * j, size := 4, act := .read } : Lane))
  { s with
    accs := s.accs ++ newAccs s.fresh (.walk t k) x.ctx x.task (regionOfTile t) 0xD4 win.base false 0 lanes
      (lanes.map (fun _ => .point))
    fresh := s.fresh + n }

/-- R312: the words a read returns. -/
def WRead.size : WRead → Nat
  | .wret n => n
  | _ => 1

/-- R312: the checks of a read in their order, then READING. -/
def State.walkRead (s : State) (t k : Nat) (r : WRead) (off : Nat) (d : BitVec 5) : State :=
  let x := (s.loupe t).slot k
  let win := s.window x.task x.win
  if x.step = (s.loupe t).limit then s.endWalk t k 2 0 []
  else if win.len < off + 4 * r.size then s.endWalk t k 3 cWinBound []
  else if (win.base + off) % 4 ≠ 0 then s.endWalk t k 3 cAlign []
  else (s.setSlot t k { x with st := .reading, read := some (r, off, d) }).issueRead t k off r.size

/-- A read of the walk whose action word executes. -/
def State.wread (s : State) (r : WRead) (imm : Nat) (d : BitVec 5) : Out :=
  match s.cur with
  | .walk t k _ => .next (s.walkRead t k r (((s.loupe t).slot k).ptr.toNat + 4 * imm) d)
  | _ => .next s

/-- WRD (R312). -/
def execWrd (d : BitVec 5) (w : BitVec 2) (m : BitVec 7) (s : State) : Out := s.wread (.wrd w) m.toNat d
/-- WPTR (R312). -/
def execWptr (d : BitVec 5) (m : BitVec 7) (s : State) : Out := s.wread .wptr m.toNat d
/-- WNEXT (R312). -/
def execWnext (d : BitVec 5) (m : BitVec 7) (s : State) : Out := s.wread .wnext m.toNat d
/-- WRET (R312): a record of n + 1 words at PTR. -/
def execWret (n : BitVec 4) (s : State) : Out := s.wread (.wret (n.toNat + 1)) 0 24

/-- A walk instruction that makes no read (R313). -/
def State.wdo (s : State) (f : State → Nat → Nat → WSlot → State) : Out :=
  match s.cur with
  | .walk t k _ => .next (f s t k ((s.loupe t).slot k))
  | _ => .next s

/-- R311: the predicate that D names, if any, becomes 1. -/
def WSlot.mark (x : WSlot) (d : BitVec 5) (v : Bool) : WSlot :=
  if 16 ≤ d.toNat ∧ d.toNat < 24 then { x with p := setPred x.p (d.toNat - 16) v } else x

/-- WCMP (R313). -/
def execWcmp (d : BitVec 5) (w : BitVec 2) (s : State) : Out :=
  s.wdo (fun s t k x => s.setSlot t k (x.mark d (x.v[w.toNat] == x.key)))

/-- WHASH (R313). -/
def execWhash (d a : BitVec 5) (w : BitVec 2) (s : State) : Out :=
  s.wdo (fun s t k x =>
    s.setSlot t k ({ x with v := x.v.set w.toNat (hash x.key (wsrc (s.loupe t) x a)) }.mark d true))

/-- WMISS (R313). -/
def execWmiss (s : State) : Out := s.wdo (fun s t k _ => s.endWalk t k 1 0 [])
/-- WFAIL (R313). -/
def execWfail (s : State) : Out := s.wdo (fun s t k _ => s.endWalk t k 4 0 [])

/-! Events. -/

/-- R317: a walk that may go on does, unless MARK has come: then it is saved. -/
def State.goOn (s : State) (t k : Nat) (x : WSlot) : State :=
  s.setSlot t k { x with read := none, st := if (s.loupe t).marked then .saved else .running }

/-- WALK_PARK (R315): the read's fault parks the walk, or ends it under FAIL. After MARK a parked walk is saved at once and its
record is void: it posts another when it is restored (R317, R319, R371). -/
def State.parkWalk (s : State) (t k : Nat) (code : Byte) (va : Nat) : State :=
  if (s.loupe t).fail ∨ (code ≠ cTrans ∧ code ≠ cPoison) then s.endWalk t k 3 code []
  else
    let x := (s.loupe t).slot k
    match s.newHandle x.ctx (.walk t k) with
    | (s1, h) =>
      let s2 := if (s.loupe t).marked then s1.dropItem x.ctx h else s1
      (s2.setSlot t k { x with st := if (s.loupe t).marked then .saved else .parked, park := some (code, va, h) }).postFault x.ctx
        (faultRecord 4 code (regionOfTile t) x.el (s.taskId x.task) h (loupeEnd (s.localTile x.task t)) va
          (k * 2 ^ 16 + x.step.toNat) (s.cycleOf (regionOfTile t)))

/-- WALK_READ_RETURN (R312): every word of the read has come back, or a translation fault has. -/
def execWalkReadReturn (etile slot : Nat) (s : State) : Out :=
  let x := (s.loupe etile).slot slot
  let mine := s.accs.filter (fun a => a.src == Port.walk etile slot)
  if x.st ≠ .reading ∨ mine.any (fun a => a.waiting || (a.failedCode.isNone && !a.back)) then .next s
  else
    let s1 := { s with accs := s.accs.filter (fun a => a.src != Port.walk etile slot) }
    match mine.find? (fun a => a.failedCode.isSome) with
    | some a =>
      match a.failedCode with
      | some code => if code = cEcc then .next s else .next (s1.parkWalk etile slot code a.va)
      | none => .next s
    | none =>
      let w := (mine.map Access.value).headD 0
      let x1 := { x with step := x.step + 1 }
      match x.read with
      | some (.wrd wr, _, d) => .next (s1.goOn etile slot ({ x1 with v := x1.v.set wr.toNat w }.mark d true))
      | some (.wptr, _, d) => .next (s1.goOn etile slot ({ x1 with ptr := w }.mark d true))
      | some (.wnext, _, d) =>
        if w = 0 then .next ((s1.setSlot etile slot x1).endWalk etile slot 1 0 [])
        else .next (s1.goOn etile slot ({ x1 with ptr := w }.mark d true))
      | some (.wret _, _, _) => .next ((s1.setSlot etile slot x1).endWalk etile slot 0 0 (mine.map Access.value))
      | none => .next s

/-- WALK_RESULT_DELIVERY (R314): one result token enters the end; after the last the slot is FREE and the end released. -/
def execWalkResultDelivery (etile slot : Nat) (s : State) : Out :=
  let x := (s.loupe etile).slot slot
  match x.st, x.ret with
  | .returning, t :: rest =>
    let e := s.elem x.el
    let k := x.out.toNat
    if 2 ≤ (e.ports.outAt k).slots.length then .next s
    else
      let p := e.ports.push k t
      match rest with
      | [] =>
        .next ((s.setElem x.el ({ e with ports := p.holdWalk k false }.finish x.pend none false)).setSlot etile slot {})
      | _ => .next ((s.setElem x.el { e with ports := p }).setSlot etile slot { x with ret := rest })
  | _, _ => .next s

/-- R315, R367: the same read of a parked walk is issued again. -/
def State.replayWalk (s : State) (t k : Nat) : State :=
  let x := (s.loupe t).slot k
  match x.read with
  | some (r, off, _) => (s.setSlot t k { x with st := .reading, park := none }).issueRead t k off r.size
  | none => s

end Sys2Proof.Machine
end

