-- ==== Sys2Proof/Machine/Loader.lean ====
section
/-! DEFINITION. Loading, restoring and reloading a span (spec/14 R327 to R334; spec/15 R349, R353; spec/18 R388). -/

namespace Sys2Proof.Machine

/-! Reading the image and the argument words (R124, R349). -/

/-- R349, R394, R395: a loader's read of a byte goes through the context's page table; its leaf's A bit is set once it is
translated. A table or a byte that cannot be corrected fails the read (R421). -/
def State.loaderTouch (s : State) (ctx va : Nat) : State × Except Byte Nat :=
  let root := (s.ctx ctx).ptroot.toNat
  if 2 ^ 52 ≤ va then (s, .error cTrans)
  else if (s.tableEcc ctx va).isSome then (s, .error cEcc)
  else
    let s1 := (walkReads s.mem va [1, 2, 3] root).foldl (fun s a => s.noteBytes a 8) s
    match walkFrom s.mem va [1, 2, 3] root with
    | none => (s1, .error cTrans)
    | some (at_, e, big) =>
      let code := leafCheck (pteLeaf e) .read
      let pa := pteAddr e + va % (if big then 2 ^ 28 else 2 ^ 16)
      if code ≠ 0 then (s1, .error code)
      else
        let s2 := { s1 with mem := s.mem.write at_ (s.mem.read at_ ||| 8) }.rewritten at_ 8
        if s.poisoned pa 1 false then (s2, .error cEcc) else (s2.noteBytes pa 1, .ok pa)

/-- A byte at a physical address; an endpoint answers each load with a value of its own (R290, notes/assumptions/8). -/
def State.loaderByte (s : State) (pa : Nat) : Byte := if isFabric pa then Config.fabricByte s.tick pa else s.mem.read pa

/-- `n` bytes at `va`; the first fault ends the read. -/
def State.readVa : State → Nat → Nat → Nat → State × Except Byte (List Byte)
  | s, _, _, 0 => (s, .ok [])
  | s, ctx, va, n + 1 =>
    match s.loaderTouch ctx va with
    | (s1, .error c) => (s1, .error c)
    | (s1, .ok pa) =>
      match State.readVa s1 ctx (va + 1) n with
      | (s2, .error c) => (s2, .error c)
      | (s2, .ok l) => (s2, .ok (s.loaderByte pa :: l))

/-- `n` words at `va`. -/
def State.readVaWords (s : State) (ctx va n : Nat) : State × Except Byte (List Word) :=
  match s.readVa ctx va (4 * n) with
  | (s1, .error c) => (s1, .error c)
  | (s1, .ok l) => (s1, .ok (bytesToWords l))

/-- R123, R124: read an image: the header, then the words that LENGTH names; a header that names none ends the read. -/
def State.fetchImage (s : State) (ctx va : Nat) : State × Except Byte (List Word) :=
  match s.readVaWords ctx va 16 with
  | (s1, .error c) => (s1, .error c)
  | (s1, .ok h) =>
    if h.getD 0 0 ≠ 0x524C5331 ∨ fldN (h.getD 1 0) 16 16 ≠ 0x0100 ∨ (h.getD 4 0).toNat < 16 then (s1, .ok h)
    else
      match s1.readVaWords ctx (va + 64) ((h.getD 4 0).toNat - 16) with
      | (s2, .error c) => (s2, .error c)
      | (s2, .ok t) => (s2, .ok (h ++ t))

/-- R123: the words that the header of an image names, 16 at the least; no more than 2^20 of them count for R21. -/
def State.imageLen (s : State) (ctx va : Nat) : Nat :=
  match s.lookup ctx (va + 16) with
  | some pa => min (2 ^ 20) (max 16 ((List.range 4).foldl (fun n j => n + (s.loaderByte (pa + j)).toNat * 256 ^ j) 0))
  | none => 16

/-- R21: the longest way that one of a load's reads at `n` bytes of `va` goes, from an E-tile through the page table to the homes of
the bytes and back. -/
def State.readWay (s : State) (etile ctx va n : Nat) : Nat :=
  let pages := if n = 0 then [] else (List.range ((va + n - 1) / 2 ^ 16 - va / 2 ^ 16 + 1)).map (fun k => (va / 2 ^ 16 + k) * 2 ^ 16)
  pages.foldl (fun m p =>
    let far := ((List.range 128).filter (fun k => decide (va < p + 512 * (k + 1) ∧ p + 512 * k < va + n))).foldl
      (fun m k => match s.lookup ctx p with
        | some pa => max m (flitHome etile (pa + 512 * k))
        | none => m) 0
    max m (walkWay s.mem etile p (s.ctx ctx).ptroot.toNat + 2 * far)) 0

/-! The image cache (R327, R328). -/

/-- The image id of a header (R123). -/
def imageId (ws : List Word) : Dword := BitVec.ofNat 64 ((ws.getD 2 0).toNat + 2 ^ 32 * (ws.getD 3 0).toNat)

/-- An entry of the cache. -/
def Region.entry (r : Region) (k : Nat) : CacheEntry := r.cache[k % 4]'(Nat.mod_lt _ (by decide))
/-- Replace an entry. -/
def Region.setEntry (r : Region) (k : Nat) (c : CacheEntry) : Region := { r with cache := r.cache.set (k % 4) c (Nat.mod_lt _ (by decide)) }
/-- R327: the entry becomes the most recently used. -/
def Region.touch (r : Region) (k : Nat) : Region := { r with lru := r.lru.filter (fun j => j != k) ++ [k] }

/-- R327: the entry that hits. -/
def Region.hit (r : Region) (ctx : Nat) (image : Nat) : Option Nat :=
  (List.range 4).find? (fun k => let c := r.entry k; c.v && c.ctx.toNat == ctx && c.image.toNat == image)

/-- R328: the cached copy passes its CHECK. -/
def CacheEntry.good (c : CacheEntry) : Bool := !c.bad && imageCheck c.words == c.words.getD 6 0

/-- R328: a hit whose CHECK fails is invalidated. -/
def Region.scrubHit (r : Region) (ctx image : Nat) : Region :=
  match r.hit ctx image with
  | some k => if (r.entry k).good then r else r.setEntry k {}
  | none => r

/-- R327: on a hit the entry is pinned; a miss fills the least recently used entry that is not. -/
def Region.pinImage (r : Region) (ctx image addr : Nat) (ws : List Word) : Region :=
  match r.hit ctx image with
  | some k => (r.setEntry k { r.entry k with pin := true }).touch k
  | none =>
    match r.lru.find? (fun k => !(r.entry k).pin) with
    | some k =>
      (r.setEntry k { v := true, pin := true, ctx := BitVec.ofNat 6 ctx, addr := BitVec.ofNat 52 addr, image := imageId ws, words := ws }).touch k
    | none => r

/-! Placing a part of an image (R60, R127 to R132). -/

/-- R127: an element as its record sets it. -/
def elemOf (r : List Word) : Elem :=
  let v := fun (k : Nat) => r.getD k 0
  { guards := Vector.ofFn (fun (i : Fin 16) => v (1 + i.val))
    actions := Vector.ofFn (fun (i : Fin 16) => v (17 + i.val))
    c := Vector.ofFn (fun (i : Fin 8) => v (33 + i.val))
    d := Vector.ofFn (fun (i : Fin 8) => v (41 + i.val))
    p := fld (v 49) 0 8
    l := #v[{ bound := v 50, wlevel := fld (v 51) 4 4, chain := fld (v 51) 0 4 }, { bound := v 52, wlevel := fld (v 53) 4 4, chain := fld (v 53) 0 4 }]
    binds := Vector.ofFn (fun (i : Fin 4) =>
      { en := fldN (v 54) (8 * i.val + 7) 1 == 1, flag := fldN (v 54) (8 * i.val + 6) 1 == 1, rule := fld (v 54) (8 * i.val) 4 })
    life := .running }

/-- R129: the cycles that an image declares at an element. -/
def cyclesOf (im : Image) (node : Word) : List Cycle :=
  ((im.recs 0x03).filter (fun r => r.getD 0 0 == node)).map (fun r =>
    let w := r.getD 1 0
    { limit := fld w 24 8, entry := fld w 21 3, exit := fld w 18 3, backIn := fld w 15 3 })

/-- The hardware tile of an end id. -/
abbrev Span := Nat × Nat × Nat × Nat

/-- R277: a producer feeds a node. -/
def Image.feeds (im : Image) (w : Word) : Bool := ((im.recs 0x0B).flatMap wheySrcs).contains w

/-- R127: place an ELEMENT record. -/
def State.placeElem (s : State) (sp : Span) (im : Image) (r : List Word) : State :=
  let w := r.getD 0 0
  let el := elemOfTile (tileOfEnd sp w) (endUnit w)
  let loupe := ((im.recs 0x0C).find? (fun x => (loupeClients x).contains w)).map (fun x => tileOfEnd sp (x.getD 0 0))
  s.setElem el { elemOf r with cycles := cyclesOf im w, loupe := loupe, wheyOn := im.feeds (endOf w 1 8) }

/-- R128: initial tokens of a CHANNEL record. -/
def initToks (r : List Word) : List Token :=
  (List.range (fldN (r.getD 2 0) 28 3)).map (fun j => ⟨r.getD (3 + 2 * j) 0, fld (r.getD (4 + 2 * j) 0) 0 4⟩)

/-- R103: connect an input end. -/
def State.wireIn (s : State) (d : EndPt) (back : Bool) (init : List Token) : State :=
  let p := s.ports d.tile d.unit
  s.setPorts d.tile d.unit (p.setIn d.port { p.inAt d.port with wired := true, back := back, buf := init })
/-- Connect an output end. -/
def State.wireOut (s : State) (d : EndPt) : State :=
  let p := s.ports d.tile d.unit
  s.setPorts d.tile d.unit (p.setOut d.port { p.outAt d.port with wired := true })
/-- Connect a control input end. -/
def State.wireCin (s : State) (d : EndPt) : State :=
  let p := s.ports d.tile d.unit
  s.setPorts d.tile d.unit (p.setCin d.port { p.cinAt d.port with wired := true })
/-- Connect a control output end. -/
def State.wireCout (s : State) (d : EndPt) : State :=
  let p := s.ports d.tile d.unit
  s.setPorts d.tile d.unit (p.setCout d.port { p.coutAt d.port with wired := true })

/-- The end of an end id, in a span that has it. -/
def endPt (sp : Span) (w : Word) : EndPt := (hwEnd sp w).getD ⟨0, 0, 0⟩

/-- R102, R128: the link directions of a channel's route. -/
def Channel.links (c : Channel) : List (Nat × Nat) := routeLinks c.frm.tile c.dst.tile

/-- R19, R128: the lowest lane of a link direction that no channel of the class, control or data, has. -/
def State.freeLane (s : State) (ctl : Bool) (l : Nat × Nat) : Nat :=
  let used := s.chans.flatMap (fun x =>
    if x.2.ctl = ctl then ((x.2.links.zip x.2.lanes).filter (fun y => y.1 == l)).map (fun y => y.2) else [])
  ((List.range 32).find? (fun n => !used.contains n)).getD 0

/-- R21, R128: a channel enters the span: its delay and its lanes are those of its route, and the tokens under way on it stand
no further back than the route is long. -/
def State.putChan (s : State) (c : Channel) : State :=
  let n := routeDelay c.frm.tile c.dst.tile
  { s with
    chans := Table.put s.chans s.fresh { c with
      delay := n, lanes := c.links.map (s.freeLane c.ctl), moving := c.moving.map (fun m => { m with left := min m.left (n - 1) }) }
    fresh := s.fresh + 1 }

/-- R21, R128: a new channel. -/
def State.addChan (s : State) (owner : Nat) (f t : EndPt) (ctl back : Bool) : State :=
  s.putChan { owner := owner, frm := f, dst := t, ctl := ctl, back := back }

/-- R128: place a CHANNEL record. -/
def State.placeChan (s : State) (sp : Span) (owner : Nat) (r : List Word) : State :=
  let f := endPt sp (r.getD 0 0)
  let t := endPt sp (r.getD 1 0)
  let back := fldN (r.getD 2 0) 31 1 == 1
  if endSide (r.getD 0 0) = 3 then ((s.wireCout f).wireCin t).addChan owner f t true false
  else ((s.wireOut f).wireIn t back (initToks r)).addChan owner f t false back

/-- R132, R195: place a TEMPLATE record. -/
def State.placeTemplate (s : State) (sp : Span) (r : List Word) : State :=
  let t := tileOfEnd sp (r.getD 0 0)
  let c := s.copyEng t
  s.setCopy t { c with on := true, life := .running, tmpls := Table.put c.tmpls (fldN (r.getD 1 0) 16 16) (shapeOf (payload r)) }

/-- R217: place a TABLE record: zero entries, scales of 1.0, sealed. -/
def State.placeTable (s : State) (sp : Span) (r : List Word) : State :=
  let t := tileOfEnd sp (r.getD 0 0)
  let p := s.press t
  let v := r.getD 2 0
  let first := fldN (r.getD 1 0) 16 16
  let hdr : HoopSlot := { kind := fld v 30 2, sealed := true, first := BitVec.ofNat 2 first, nbm1 := fld v 28 2, korg := fld v 0 16 }
  (s.hoopTouch t [] (fun g => (tableSlots r).any (fun k => slotHas k g || slotScales k g))).setPress t
    { p with on := true, life := .running, hoop := (tableSlots r).foldl (fun h k => h.setHdr k hdr) p.hoop }

/-- R225: a closing level of a PRESS record: 0 is the default S3. -/
def pressLevel (v : Word) (k : Nat) : BitVec 4 := if fldN v k 4 = 0 then 3 else fld v k 4

/-- R225: place a PRESS record; its result route is a channel. -/
def State.placePress (s : State) (sp : Span) (owner : Nat) (r : List Word) : State :=
  let t := tileOfEnd sp (r.getD 0 0)
  let p := s.press t
  let v := r.getD 3 0
  let s1 := s.setPress t { p with
    on := true, life := .running, wseg := pressLevel v 4, wconv := pressLevel v 0
    point := Vector.ofFn (fun (i : Fin 16) => fld (r.getD (4 + i.val) 0) 0 7) }
  if r.getD 2 0 = 0xFFFFFFFF then s1
  else
    let d := endPt sp (r.getD 2 0)
    ((s1.wireOut ⟨t, 16, 0⟩).wireIn d false []).addChan owner ⟨t, 16, 0⟩ d false false

/-- R255, R283: a configured unit. -/
def newUnit (k : UKind) (slot : Nat) (p : List Word) (wheyOn : Bool) : SUnit :=
  { kind := k, slot := slot, payload := p, st := unitStart k p, wheyOn := wheyOn
    hold := if k = .coll then Word.ofNat (fldN (p.getD 0 0) 0 16) else 0 }

/-- R255: place a UNIT record. -/
def State.placeUnit (s : State) (sp : Span) (im : Image) (r : List Word) : State :=
  let w := r.getD 0 0
  s.setUnit (tileOfEnd sp w * 64 + endUnit w) (newUnit (unitKindOf w) (fldN (r.getD 1 0) 16 16) (payload r) (im.feeds (endOf w 1 8)))

/-- R279: the Brine codec of an E-tile with no record closes at S3; it has no slot. -/
def State.placeBrine (s : State) (sp : Span) (im : Image) (k : Nat) : State :=
  let w := Word.ofNat (endWord 3 k 1 0 0)
  let u := tileOfEnd sp w * 64 + 1
  if (s.unit? u).isSome then s else s.setUnit u (newUnit .brine 32 [0] (im.feeds (endOf w 1 8)))

/-- R19, R21: a whey lane enters the span; the tokens under way on it stand no further back than it is long. -/
def State.putWhey (s : State) (c : WheyLink) : State :=
  let n := routeDelay c.frm.tile c.node.tile
  { s with
    wheys := Table.put s.wheys s.fresh { c with delay := n, moving := c.moving.map (fun m => (m.1, min m.2 (n - 1))) }
    fresh := s.fresh + 1 }

/-- R277: place a WHEY record: the node and the lanes to it. -/
def State.placeWhey (s : State) (sp : Span) (owner : Nat) (im : Image) (r : List Word) : State :=
  let w := r.getD 0 0
  let t := tileOfEnd sp w
  let s1 := s.setUnit (t * 64 + endUnit w) (newUnit .whey 32 (payload r) (im.feeds (endOf w 1 8)))
  (wheySrcs r).zipIdx.foldl (fun s x => s.putWhey { owner := owner, frm := endPt sp x.1, node := ⟨t, endUnit w, x.2⟩ }) s1

/-- R56, R226, R276: a producer of a C-tile that a node names: a Press's port feeds the node, and a Press or an element that nothing
else configures takes part, to emit its final group (R127, notes/assumptions/74). -/
def State.wheySource (s : State) (sp : Span) (w : Word) : State :=
  let t := tileOfEnd sp w
  if endKind w ≠ 0 then s
  else if endUnit w = 16 then
    let p := s.press t
    s.setPress t { p with
      on := true, life := .running
      wheyConvOn := p.wheyConvOn || endPort w == 8, wheySegOn := p.wheySegOn || endPort w == 9 }
  else
    let el := elemOfTile t (endUnit w)
    if (s.elem el).life = .off then s.setElem el { life := .running, wheyOn := true } else s

/-- R276: every producer that the nodes of the image name. -/
def State.placeSources (s : State) (sp : Span) (im : Image) : State :=
  ((im.recs 0x0B).flatMap wheySrcs).foldl (fun s w => s.wheySource sp w) s

/-- R307: place a LOUPE record. -/
def State.placeLoupe (s : State) (sp : Span) (r : List Word) : State :=
  let v := fun (k : Nat) => r.getD (2 + k) 0
  s.setLoupe (tileOfEnd sp (r.getD 0 0)) {
    on := true, fail := fldN (v 0) 31 1 == 1, limit := fld (v 0) 0 16
    guards := Vector.ofFn (fun (i : Fin 16) => v (1 + i.val)), actions := Vector.ofFn (fun (i : Fin 16) => v (17 + i.val))
    c := Vector.ofFn (fun (i : Fin 8) => v (33 + i.val))
    clients := (loupeClients r).map (fun c => elemOfTile (tileOfEnd sp c) (endUnit c)) }

/-- R103: the source and sink ends of a region. -/
def State.placeEnds (s : State) (sp : Span) (im : Image) (args : List Word) (reg : Nat) : State :=
  let mine := fun (w : Word) => regionOfTile (tileOfEnd sp w) == reg
  s.setRegion reg { s.region reg with
    sources := ((im.recs 0x05).filter (fun r => mine (r.getD 0 0))).map (fun r =>
      ({ dst := endPt sp (r.getD 0 0), words := (args.drop (fldN (r.getD 1 0) 16 16)).take (fldN (r.getD 1 0) 0 16) } : Source))
    sinks := ((im.recs 0x06).filter (fun r => mine (r.getD 0 0))).map (fun r => ({ frm := endPt sp (r.getD 0 0) } : Sink)) }

/-- R203: an engine with connected ends or a tile that holds COPY takes part as a node. -/
def State.engineOn (s : State) (t : Nat) : State :=
  let c := s.copyEng t
  if c.on then s
  else if c.ports.ins.toList.any (fun i => i.wired) || c.ports.outs.toList.any (fun o => o.wired)
      || (List.range 16).any (fun k => (s.elem (elemOfTile t k)).holds 0xC8 0xCF) then
    s.setCopy t { c with on := true, life := .running }
  else s

/-- R223: a Press whose tile holds Press or SUM rules takes part as a node. -/
def State.pressOn (s : State) (t : Nat) : State :=
  let p := s.press t
  if p.on then s
  else if (List.range 16).any (fun k => (s.elem (elemOfTile t k)).holds 0xDA 0xEB) then s.setPress t { p with on := true, life := .running }
  else s

/-- R130: the windows at task start. -/
def windowsOf (im : Image) (args : List Word) : Vector Window 8 :=
  (im.recs 0x04).foldl (fun (v : Vector Window 8) r =>
    let w := r.getD 0 0
    let k := fldN w 0 3
    let j := (r.getD 1 0).toNat
    let base := if fldN w 8 1 = 0 then (r.getD 1 0).toNat + 2 ^ 32 * (r.getD 2 0).toNat
      else (args.getD j 0).toNat + 2 ^ 32 * (args.getD (j + 1) 0).toNat
    v.set (k % 8) { base := base, len := if 2 ^ 52 ≤ base then 0 else (r.getD 3 0).toNat + 1
                    r := fldN w 4 1 == 1, w := fldN w 5 1 == 1, a := fldN w 6 1 == 1 } (Nat.mod_lt _ (by decide)))
    (Vector.replicate 8 {})

/-- R108, R328: place a whole image on a span. -/
def State.placeImage (s : State) (sp : Span) (im : Image) (args : List Word) : State :=
  let regs := spanRegions sp.1 sp.2.1 sp.2.2.1 sp.2.2.2
  let tiles := spanTiles sp.1 sp.2.1 sp.2.2.1 sp.2.2.2
  let owner := regionAt sp.1 sp.2.1
  let s1 := (im.recs 0x01).foldl (fun s r => s.placeElem sp im r) s
  let s2 := (im.recs 0x0A).foldl (fun s r => s.placeUnit sp im r) s1
  let s3 := (List.range regs.length).foldl (fun s k => s.placeBrine sp im k) s2
  let s4 := (im.recs 0x0B).foldl (fun s r => s.placeWhey sp owner im r) s3
  let s5 := (im.recs 0x07).foldl (fun s r => s.placeTemplate sp r) s4
  let s6 := (im.recs 0x08).foldl (fun s r => s.placeTable sp r) s5
  let s7 := (im.recs 0x0C).foldl (fun s r => s.placeLoupe sp r) s6
  let s8 := (im.recs 0x02).foldl (fun s r => s.placeChan sp owner r) s7
  let s9 := (im.recs 0x09).foldl (fun s r => s.placePress sp owner r) s8
  let s10 := (im.recs 0x05).foldl (fun s r => s.wireIn (endPt sp (r.getD 0 0)) false []) s9
  let s11 := (im.recs 0x06).foldl (fun s r => s.wireOut (endPt sp (r.getD 0 0))) s10
  let s12 := tiles.foldl (fun s t => if kindOfTile t = .c then (s.engineOn t).pressOn t else s) s11
  regs.foldl (fun s r => s.placeEnds sp im args r) (s12.placeSources sp im)

/-! Restoring (R353). -/

/-- R353: a saved element runs again; a FROZEN one is posted afresh (R371). -/
def Elem.revive (e : Elem) : Elem :=
  { e with
    life := if e.life = .marked then (if e.halted then .halted else .running) else e.life
    markSent := false, owed := if e.life = .drained then e.owed else [], unposted := e.life == .frozen }

/-- R353: a saved unit; its round-robin starts afresh (R20). -/
def SUnit.revive (u : SUnit) : SUnit :=
  { u with
    life := if u.life = .marked then .running else u.life
    markSent := false, owed := if u.life = .drained then u.owed else [], unposted := u.life == .frozen
    st := match u.st with
      | .scan p (some f) => .scan p (some { f with busy := false })
      | .split a b c d e f g _ => .split a b c d e f g 7
      | .coll a b _ => .coll a b 7
      | x => x }

/-- R201, R353: a saved copy engine. -/
def CopyEng.revive (c : CopyEng) : CopyEng :=
  { c with life := if c.life = .marked then .running else c.life, owed := if c.life = .drained then c.owed else [], rr := 7, unposted := c.freeze.isSome }

/-- R353: a saved Press. -/
def Press.revive (p : Press) : Press := { p with life := if p.life = .marked then .running else p.life, rr := 15, held := 0 }

/-- R317, R353: a saved walk runs on, or is PARKED again; the task and context are those of the restore. -/
def WSlot.revive (task ctx : Nat) (x : WSlot) : WSlot :=
  { x with task := task, ctx := ctx, st := if x.st = .saved then (if x.park.isSome then .parked else .running) else x.st }

/-- R317, R353: a saved Loupe. -/
def Loupe.revive (task ctx : Nat) (l : Loupe) : Loupe := { l with marked := false, rr := 31, slots := l.slots.map (WSlot.revive task ctx) }

/-- R371: a paused copy and a parked walk post fresh records. -/
def State.repostPaused (s : State) (tile : Nat) : State :=
  let s1 := (s.copyEng tile).flights.foldl (fun s f => match f.paused with
    | some p => s.pauseCopy tile f p.code p.va
    | none => s) s
  (List.range 32).foldl (fun s k =>
    let x := (s.loupe tile).slot k
    match x.st, x.park with
    | .parked, some (code, va, _) => s.parkWalk tile k code va
    | _, _ => s) s1

/-- R353: the ends of a placed node, with the saved contents. -/
def Ports.over (p v : Ports) : Ports :=
  { ins := Vector.ofFn (fun i => { v.ins[i] with wired := p.ins[i].wired, back := p.ins[i].back })
    outs := Vector.ofFn (fun i => { v.outs[i] with wired := p.outs[i].wired })
    cins := Vector.ofFn (fun i => { v.cins[i] with wired := p.cins[i].wired })
    couts := Vector.ofFn (fun i => { v.couts[i] with wired := p.couts[i].wired }) }

/-- R60, R353: an element that the image has placed takes its saved state (notes/assumptions/42). -/
def Elem.over (p v : Elem) : Elem :=
  { v with
    guards := p.guards, actions := p.actions, binds := p.binds, loupe := p.loupe, wheyOn := p.wheyOn, ports := p.ports.over v.ports
    cycles := p.cycles.zipIdx.map (fun x => { x.1 with occ := (v.cycles[x.2]?.map (fun c => c.occ)).getD 0 }) }

/-- R282, R333: a unit's configuration words, but those that XCTL has written. -/
def SUnit.reconf (u : SUnit) (p : List Word) : SUnit :=
  { u with payload := p.zipIdx.map (fun x => if u.wrote.getLsbD x.2 then u.payload.getD x.2 x.1 else x.1) }

/-- R258, R353: a unit that the image has placed takes its saved state. -/
def SUnit.over (p v : SUnit) : SUnit :=
  if v.kind ≠ p.kind then p
  else { v.reconf p.payload with slot := p.slot, wheyOn := p.wheyOn, ports := p.ports.over v.ports }

/-- R201, R202, R353: the same of a copy engine. -/
def CopyEng.over (p v : CopyEng) : CopyEng := { v with on := p.on, tmpls := p.tmpls, ports := p.ports.over v.ports }

/-- R222, R353: the same of a Press. -/
def Press.over (p v : Press) : Press :=
  { v with
    on := p.on, wseg := p.wseg, wconv := p.wconv, wheyConvOn := p.wheyConvOn, wheySegOn := p.wheySegOn, ports := p.ports.over v.ports }

/-- R317, R353: the same of a Loupe: its walks. -/
def Loupe.over (p v : Loupe) : Loupe := { p with slots := v.slots }

/-- Saved entries over those that the image has placed. -/
def overTable {α : Type} (f : α → α → α) (t v : Table α) : Table α :=
  v.foldl (fun u x => match Table.get? u x.1 with
    | some p => Table.put u x.1 (f p x.2)
    | none => u) t

/-- R353: a route of the span holds the tokens saved with it, under the new generation. -/
def Channel.refill (gen : Byte) (l : List Channel) (c : Channel) : Channel :=
  match l.find? (fun x => x.frm == c.frm && x.ctl == c.ctl) with
  | some x => { c with moving := x.moving.map (fun m => { m with gen := gen, left := min m.left (c.delay - 1) }) }
  | none => c

/-- R353: the same of a whey lane. -/
def WheyLink.refill (l : List WheyLink) (c : WheyLink) : WheyLink :=
  match l.find? (fun x => x.frm == c.frm) with
  | some x => { c with moving := x.moving.map (fun m => (m.1, min m.2 (c.delay - 1))) }
  | none => c

/-- R353: a source's words and DRAIN still to inject; whether a sink has taken DRAIN. -/
def Source.refill (l : List Source) (x : Source) : Source := (l.find? (fun y => y.dst == x.dst)).getD x
def Sink.refill (l : List Sink) (x : Sink) : Sink := (l.find? (fun y => y.frm == x.frm)).getD x

/-- R353, R388: the saved state of a task on its span, which the image has been placed on; a Hoop holds fresh codewords (R421). -/
def State.reinstate (s : State) (task : Nat) (t : Task) (v0 : Saved) : State :=
  let tiles := spanTiles t.row t.col t.rows t.cols
  let regs := t.regions
  let ft := fun k => tiles.getD k 0
  let v := v0.rename ft (fun el => elemOfTile (ft (el / 16)) (el % 16)) (fun k => regs.getD k 0)
  let gen := (s.region t.home).chgen
  let s1 := { s with
    elems := overTable (fun p x => (p.over x).revive) s.elems v.elems
    copies := overTable (fun p x => (p.over x).revive) s.copies v.copies
    presses := overTable (fun p x => (p.over x).revive) s.presses v.presses
    units := overTable (fun p x => (p.over x).revive) s.units v.units
    loupes := overTable (fun p x => (p.over x).revive task t.ctx) s.loupes v.loupes
    chans := Table.mapAll s.chans (fun _ c => if tiles.contains c.frm.tile then c.refill gen v.chans else c)
    wheys := Table.mapAll s.wheys (fun _ c => if tiles.contains c.frm.tile then c.refill v.wheys else c) }
  let s2 := regs.foldl (fun s reg => s.setRegion reg { s.region reg with
    sources := (s.region reg).sources.map (fun x => x.refill (v.sources.map (fun y => y.2)))
    sinks := (s.region reg).sinks.map (fun x => x.refill (v.sinks.map (fun y => y.2))) }) s1
  let s3 := tiles.foldl (fun s tile => if (Table.get? v.presses tile).isSome then s.hoopTouch tile [] (fun _ => true) else s) s2
  let s4 := tiles.foldl State.repostPaused s3
  v.waiters.foldl (fun s w => s.restoreWaiter { w with task := task }) s4

/-! Measurement (R435). -/

/-- `n` bytes of a value, the most significant first. -/
def bytesBE (n v : Nat) : List Byte := (List.range n).map (fun k => BitVec.ofNat 8 (v / 256 ^ (n - 1 - k)))

/-- R435: a placed image extends its context's measurement when its MEASMASK bit is set. -/
def State.measure (s : State) (ctx : Nat) (ws : List Word) : State :=
  if s.sec.measmask.getLsbD ctx then
    let c := s.ctx ctx
    s.setCtx ctx { c with
      meas := Config.sm3 (bytesBE 32 c.meas.toNat ++ bytesLE 8 (imageId ws).toNat ++ bytesBE 32 (Config.sm3 (ws.flatMap wordBytes)).toNat) }
  else s

/-! IMAGE_LOAD (R321, R328, R341, R349, R350). -/

/-- R333, R341: a region of the placed span is ACTIVE, under the signature of what has been placed. -/
def State.startRegion (s : State) (reg : Nat) : State :=
  s.setRegion reg { s.region reg with st := .active, placed := true, sigage := 0, cfgbad := false, sign := s.signature reg }

/-- R341, R350: the task enters RUNNING; its quantum starts; its task space is free again (R363); a QUIESCE pre-empts it
(R370). -/
def State.startTask (s : State) (task : Nat) (t : Task) : State :=
  let s1 := (t.regions.foldl State.startRegion s).setTask task { t with
    st := .running, save := none, drainIn := false, expire := (s.ctx t.ctx).st == .quiescing
    quantum := if recQuantum t.record = 0 then none else some (2250 * recQuantum t.record) }
  t.regions.foldl State.freezeState s1

/-- R421: the first granule among `n` bytes at `va` that a loader cannot read. -/
def State.eccIn (s : State) (ctx va n : Nat) : Option Nat :=
  (List.range n).findSome? (fun k =>
    match s.tableEcc ctx (va + k) with
    | some a => (s.poisonIn a 8).head?
    | none => (s.lookup ctx (va + k)).bind (fun pa => (s.poisonIn pa 1).head?))

/-- R124, R421: the granule that ended the load of a task: of its image where a region had to read it, else of its saved state, or
of its argument words. -/
def State.loadEcc (s : State) (t : Task) : Nat :=
  let va := recImgva t.record
  let image := if t.regions.all (fun reg => ((s.region reg).hit t.ctx (recImage t.record)).isSome) then none
    else (s.eccIn t.ctx va 64).or (match s.readVaWords t.ctx va 16 with
      | (_, .error _) => none
      | (_, .ok h) => s.eccIn t.ctx va (4 * (h.getD 4 0).toNat))
  (image.or (match t.save with
    | some ref => (s.saveSpans t.ctx ref.units).findSome? (fun x => s.poison.find? (fun g => decide (g < x.1 + x.2 ∧ x.1 < g + granule g)))
    | none => s.eccIn t.ctx (recArgva t.record) (4 * recArglen t.record))).getD 0

/-- R328, R349: a load fault: nothing is placed, the regions return to FREE, the task ends FAULTED with the code; an
uncorrectable granule is logged (R413). -/
def State.loadFails (s : State) (task : Nat) (t : Task) (code : Byte) (place : Option FaultAt) : State :=
  let s1 := if code = cEcc then s.dflLog (s.eccRec (s.loadEcc t) 0 (some t.ctx)) else s
  let s2 := (s1.endTask task .faulted code).modTask task (fun x => { x with loadAt := place })
  t.regions.foldl (fun s reg => if s.owns task reg then s.freeRegion reg else s) s2

/-- R327, R419: the entry of a region's cache that holds the words is pinned: a hit is read and decoded, a filled entry holds fresh
codewords. -/
def State.pinEntry (s : State) (t : Task) (ws : List Word) (reg : Nat) : State :=
  let id := recImage t.record
  let hit := (s.region reg).hit t.ctx id
  let s1 := s.setRegion reg ((s.region reg).pinImage t.ctx id (recImgva t.record) ws)
  match hit, (s1.region reg).hit t.ctx id with
  | some k, _ => s1.noteRead ((List.range ((ws.length + 3) / 4)).map (fun j => cacheGroup reg k (16 * j)))
  | none, some k =>
    { s1 with flaws := s1.flaws.filter (fun f => !decide (cacheGroup reg k 0 ≤ f.group ∧ f.group < cacheGroup reg k 0 + 2 ^ 34)) }
  | none, none => s1

/-- R327, R328: the words to check and place, every region's cache entry pinned; a hit whose CHECK fails has left the cache,
and words that a region has read fail the load by their CRC (R124). -/
def State.imageWords (s : State) (t : Task) : State × Except Byte (List Word) :=
  let id := recImage t.record
  let s0 := t.regions.foldl (fun s reg => s.setRegion reg ((s.region reg).scrubHit t.ctx id)) s
  let home := ((s0.region t.home).hit t.ctx id).map (fun k => ((s0.region t.home).entry k).words)
  let pin := fun (s : State) (ws : List Word) => t.regions.foldl (fun s reg => s.pinEntry t ws reg) s
  if t.regions.all (fun reg => ((s0.region reg).hit t.ctx id).isSome) then (pin s0 (home.getD []), .ok (home.getD []))
  else
    match s0.fetchImage t.ctx (recImgva t.record) with
    | (s1, .error c) => (s1, .error c)
    | (s1, .ok ws) => (pin s1 ws, if imageCheck ws = ws.getD 6 0 then .ok (home.getD ws) else .error cCfgField)

/-- R331: the span takes a new channel generation at its placement, and the nodes of the tasks before go. -/
def State.newPlacement (s : State) (regs : List Nat) : State :=
  let gen := s.newGen regs
  regs.foldl (fun s reg => (s.dropNodes reg).setRegion reg { s.region reg with chgen := gen }) s

/-- IMAGE_LOAD (R328, R349, R353, R435). -/
def execImageLoad (task : Nat) (s : State) : Out :=
  match s.task? task with
  | none => .next s
  | some t =>
    if t.st ≠ .loading ∨ t.ending.isSome ∨ t.final.isSome ∨ !t.regions.all (fun r => s.owns task r) then .next s
    else
      match s.imageWords t with
      | (s1, .error c) => .next (s1.loadFails task t c none)
      | (s1, .ok ws) =>
        let sp : Span := (t.row, t.col, t.rows, t.cols)
        match parseImage t.rows t.cols ws with
        | none => .next (s1.loadFails task t cCfgField (some (parseAt t.rows t.cols ws)))
        | some im =>
          match imageFault sp (recArglen t.record) im with
          | some (c, place) => .next (s1.loadFails task t c (some place))
          | none =>
            match t.save with
            | some ref =>
              match s1.readSave t.ctx ref.units with
              | none => .next (s1.loadFails task t cEcc none)
              | some v =>
                if v.version ≠ 1 then .next (s1.loadFails task t cCfgField none)
                else .next (((((s1.noteSpans (s1.saveSpans t.ctx ref.units)).newPlacement t.regions).placeImage sp im []).reinstate task t v).startTask task t)
            | none =>
              match s1.readVaWords t.ctx (recArgva t.record) (recArglen t.record) with
              | (s2, .error c) => .next (s2.loadFails task t c none)
              | (s2, .ok args) =>
                .next ((((s2.newPlacement t.regions).placeImage sp im args).startTask task { t with wins := windowsOf im args }).measure t.ctx ws)

/-! Configuration stores (R321, R333, R334). -/

/-- R321: the states that an uncorrectable configuration word interrupts. -/
def RegSt.reloads (r : RegSt) : Bool := r == .active || r == .frozen || r == .draining || r == .saving

/-- R333: an uncorrectable word or a wrong signature in a region's stores: the device fault log has it (R425), and the region
halts at the end of the round. -/
def State.storeError (s : State) (region : Nat) : State :=
  let r := s.region region
  if r.st.reloads ∧ !r.cfgbad then
    (s.setRegion region { r with cfgbad := true }).dflLog (dflRec 3 0 region 0 0 0 0 none (s.cycleOf region))
  else s

/-- R321, R333: the region enters RELOADING at the end of a round that found an error. -/
def State.enterReload (s : State) (region : Nat) : State :=
  let r := s.region region
  if r.cfgbad ∧ r.st.reloads then s.setRegion region { r with st := .reloading, left := r.st, cfgbad := false, sigage := 0 } else s

/-- CONFIG_STORE_ERROR (R333): an uncorrectable word of the region's configuration stores is read in this round; the element that
reads it has fired nothing (State.misreads). -/
def execConfigStoreError (region : Nat) (s : State) : Out := .next (s.storeError region)

/-- CONFIG_SIGNATURE_CHECK (R333): the signature is recomputed over the stores and compared. -/
def execConfigSignatureCheck (region : Nat) (s : State) : Out :=
  if (s.region region).sign = s.signature region then .next (s.setRegion region { s.region region with sigage := 0 })
  else .next (s.storeError region)

/-- R334: the words of the pinned copy, or of the image read again from its address. -/
def State.reloadSource (s : State) (region : Nat) : State × Except Byte (List Word) :=
  let r := s.region region
  match (List.range 4).find? (fun k => (r.entry k).v && (r.entry k).pin) with
  | none => (s, .error cEcc)
  | some k =>
    let c := r.entry k
    if c.good then (s, .ok c.words)
    else
      match s.fetchImage c.ctx.toNat c.addr.toNat with
      | (s1, .error _) => (s1, .error cEcc)
      | (s1, .ok ws) =>
        if imageCheck ws ≠ ws.getD 6 0 then (s1, .error cEcc)
        else (s1.setRegion region ((s1.region region).setEntry k { c with words := ws, bad := false }), .ok ws)

/-- R333: an element's configuration words are written anew; BOUND, which CNTSET writes, stays with the counter's value. -/
def Elem.reconf (e : Elem) (r : List Word) : Elem :=
  let n := elemOf r
  { e with
    guards := n.guards, actions := n.actions, c := n.c, binds := n.binds
    l := #v[{ e.l[0] with wlevel := n.l[0].wlevel, chain := n.l[0].chain }, { e.l[1] with wlevel := n.l[1].wlevel, chain := n.l[1].chain }] }

/-- R333: the configuration stores of a region are rewritten from an image; what the components hold stays. -/
def State.rewrite (s : State) (reg : Nat) (sp : Span) (im : Image) : State :=
  let mine := fun (w : Word) => regionOfTile (tileOfEnd sp w) == reg
  let recs := fun ty => (im.recs ty).filter (fun r => mine (r.getD 0 0))
  let s1 := (recs 0x01).foldl (fun s r =>
    let el := elemOfTile (tileOfEnd sp (r.getD 0 0)) (endUnit (r.getD 0 0))
    s.setElem el ((s.elem el).reconf r)) s
  let s2 := (recs 0x0A ++ recs 0x0B).foldl (fun s r =>
    let k := tileOfEnd sp (r.getD 0 0) * 64 + endUnit (r.getD 0 0)
    match s.unit? k with
    | some u => s.setUnit k (u.reconf (payload r))
    | none => s) s1
  let s3 := (recs 0x0C).foldl (fun s r =>
    let v := fun (k : Nat) => r.getD (2 + k) 0
    let t := tileOfEnd sp (r.getD 0 0)
    let l : Loupe := { s.loupe t with
      guards := Vector.ofFn (fun (i : Fin 16) => v (1 + i.val)), actions := Vector.ofFn (fun (i : Fin 16) => v (17 + i.val))
      c := Vector.ofFn (fun (i : Fin 8) => v (33 + i.val)) }
    s.setLoupe t l) s2
  let s4 := (recs 0x07).foldl (fun s r =>
    let t := tileOfEnd sp (r.getD 0 0)
    let c := s.copyEng t
    s.setCopy t { c with tmpls := Table.put c.tmpls (fldN (r.getD 1 0) 16 16) (shapeOf (payload r)) }) s3
  let s5 := (recs 0x09).foldl (fun s r =>
    let t := tileOfEnd sp (r.getD 0 0)
    s.setPress t { s.press t with wseg := pressLevel (r.getD 3 0) 4, wconv := pressLevel (r.getD 3 0) 0 }) s4
  { s5 with
    chans := Table.mapAll s5.chans (fun _ (c : Channel) =>
      match (recs 0x02).find? (fun r => endPt sp (r.getD 0 0) == c.frm && (endSide (r.getD 0 0) == 3) == c.ctl) with
      | some r => { c with dst := endPt sp (r.getD 1 0) }
      | none =>
        match (recs 0x09).find? (fun r => c.frm == ⟨tileOfEnd sp (r.getD 0 0), 16, 0⟩) with
        | some r => { c with dst := endPt sp (r.getD 2 0) }
        | none => c)
    wheys := Table.mapAll s5.wheys (fun _ (c : WheyLink) =>
      match (recs 0x0B).find? (fun r => tileOfEnd sp (r.getD 0 0) == c.node.tile && endUnit (r.getD 0 0) == c.node.unit) with
      | some r => { c with frm := endPt sp ((wheySrcs r).getD c.node.port 0) }
      | none => c) }

/-- CONFIG_RELOAD_DONE (R333, R334): the stores are rewritten from the pinned image, the new signature stands, and the region goes
on where it stood; or it is fenced. -/
def execConfigReloadDone (region : Nat) (s : State) : Out :=
  if (s.region region).st ≠ .reloading then .next s
  else
    match s.reloadSource region with
    | (s1, .error _) => .next (s1.fenceRegion region cEcc)
    | (s1, .ok ws) =>
      let sp := s1.spanOf (s1.taskOfRegion region)
      match parseImage sp.2.2.1 sp.2.2.2 ws with
      | none => .next (s1.fenceRegion region cEcc)
      | some im =>
        let s2 := s1.rewrite region sp im
        let r := s2.region region
        .next (s2.setRegion region { r with st := r.left, sign := s2.signature region, reloads := satAdd r.reloads 1, sigage := 0 })

end Sys2Proof.Machine
end

