-- ==== Sys2Proof/Machine/Boot.lean ====
section
/-! DEFINITION. Reset and boot (spec/20 R403; spec/22 R429 to R433, R437). -/

namespace Sys2Proof.Machine

/-- R429, R437: every state is lost; what the outside world does next, and the numbers of the free choices, are no state of
the device. -/
def State.powerOn (s : State) : State := { State.reset with inputs := s.inputs, tick := s.tick }

/-- DEVICE_RESET (R403, R437). -/
def execDeviceReset (s : State) : Out := .next s.powerOn

/-- PLL_LOCK_LOSS (R429): the whole device is reset. -/
def execPllLockLoss (s : State) : Out := .next s.powerOn

/-! The firmware copies (R430, R431). -/

/-- R430: `n` bytes of copy `c` from byte `k` of it. -/
def fwBytes (c k n : Nat) : List Byte := (List.range n).map (fun j => Config.flash (c * 2 ^ 24 + k + j))

/-- A little-endian field of a copy's header. -/
def fwField (c k n : Nat) : Nat := (fwBytes c k n).foldr (fun b m => b.toNat + 256 * m) 0

/-- Bytes as a value, the first the most significant. -/
def fromBE (l : List Byte) : Nat := l.foldl (fun m b => 256 * m + b.toNat) 0

/-- R431: the digest of step 4: header bytes 0 to 127 and the body. -/
def fwDigest (c : Nat) : BitVec 256 := Config.sm3 (fwBytes c 0 128 ++ fwBytes c 256 (fwField c 8 4))

/-- R430, R431: the checks of a copy in their order. -/
def fwOk (c : Nat) : Bool :=
  decide (fwField c 0 4 = 0x47314657 ∧ fwField c 8 4 ≤ 2 ^ 23 ∧ fwField c 16 2 < 2 ^ 12)
    && (fwBytes c 18 46).all (fun b => b == 0) && (fwBytes c 192 64).all (fun b => b == 0)
    && Config.sm3 (fwBytes c 64 64) == Config.vendorDigest
    && decide (Config.minRollback ≤ fwField c 12 4)
    && Config.sm2Valid (BitVec.ofNat 512 (fromBE (fwBytes c 64 64))) (BitVec.ofNat 512 (fromBE (fwBytes c 128 64))) (fwDigest c)

/-- R432, R433: the security block once copy `c` runs: every access entry cleared, entry 0 the ADMIN of the header. -/
def Sec.runs (x : Sec) (c : Nat) : Sec :=
  { x with
    boot := .running, copy := c == 1, fwver := Word.ofNat (fwField c 4 4), fwmeas := fwDigest c, idpub := Config.devicePub
    aclNew := []
    acl := (Vector.replicate 64 ({} : Acl)).set 0 { v := true, admin := true, ep := BitVec.ofNat 12 (fwField c 16 2) } }

/-- BOOT (R431): the first copy that passes runs; with neither the device enters BOOTFAIL. -/
def execBoot (s : State) : Out :=
  if s.sec.boot ≠ .reset ∧ s.sec.boot ≠ .verifying then .next s
  else if fwOk 0 then .next { s with sec := s.sec.runs 0 }
  else if fwOk 1 then .next { s with sec := s.sec.runs 1 }
  else .next { s with sec := { s.sec with boot := .fail, idpub := Config.devicePub } }

end Sys2Proof.Machine
end

