-- ==== Sys2Proof/Machine/Contexts.lean ====
section
/-! DEFINITION. Contexts (spec/16 R360 to R372) and invalidation of translations (spec/19 R398 to R400). -/

namespace Sys2Proof.Machine

/-! The control block's checks (R362). -/

/-- R362: the areas of a context: base, extent, alignment. -/
def Ctx.areas (c : Ctx) : List (Nat × Nat × Nat) :=
  let bits := c.dlpages.toNat / 8
  [(c.ptroot.toNat, 2 ^ 15, 2 ^ 15), (c.fqbase.toNat, 32 * (fldN c.fqlen 0 16 + 1), 32),
    (c.eqbase.toNat, 32 * (fldN c.eqlen 0 16 + 1), 32), (c.savebase.toNat, c.savelen.toNat, 2 ^ 16)]
    ++ (if c.dlpages = 0 then [] else [(c.dlbase.toNat, bits, 8), (c.dlbase.toNat + bits, bits, 8)])

/-- Two areas share a byte. -/
def overlaps (a b : Nat × Nat × Nat) : Bool := decide (a.1 < b.1 + b.2.1 ∧ b.1 < a.1 + a.2.1)

/-- No two areas overlap. -/
def disjointAreas : List (Nat × Nat × Nat) → Bool
  | [] => true
  | a :: l => l.all (fun b => !overlaps a b) && disjointAreas l

/-- R362: alignment, place and overlap. -/
def Ctx.areasOk (c : Ctx) : Bool :=
  c.areas.all (fun a => decide (a.1 % a.2.2 = 0) && areaOk a.1 a.2.1) && disjointAreas c.areas
    && (c.dlpages == 0 || decide (c.dlva.toNat % 2 ^ 16 = 0 ∧ c.dlpages.toNat % 64 = 0))

/-- R362, R363: SAVELEN ≥ 7 MiB × QUOTA + 1 MiB. -/
def Ctx.saveBound (c : Ctx) (quota : Nat) : Bool := decide (7 * 2 ^ 20 * quota + 2 ^ 20 ≤ c.savelen.toNat)

/-- R362: all the checks of CREATE. -/
def Ctx.createOk (c : Ctx) : Bool := c.areasOk && c.saveBound (fldN c.quota 0 7)

/-- R361: a command that its state does not allow. -/
def State.ctxReject (s : State) (k : Nat) : State := s.setCtx k { s.ctx k with status := 1 }

/-- R362, R435: the context that CREATE makes. -/
def Ctx.created (c : Ctx) : Ctx :=
  { c with
    st := .active, status := 0, fqhead := 0, fqtail := 0, eqhead := 0, eqtail := 0, discards := 0, items := []
    faults := [], events := [], harvest := none, resuming := false, away := false, making := false, meas := 0 }

/-- CREATE (R361, R362): the fields start to be checked; run again in CREATING, the checks are over. -/
def execCreate (ctx : Nat) (s : State) : Out :=
  let c := s.ctx ctx
  if c.st = .free then .next (s.setCtx ctx { c with st := .creating, status := 0xFF, making := true })
  else if c.st = .creating ∧ c.making then
    .next (s.setCtx ctx (if c.createOk then c.created else { c with st := .free, status := 2, making := false }))
  else .next (s.ctxReject ctx)

/-- QUOTA_WRITE (R362). -/
def execQuotaWrite (ctx : Nat) (v : Word) (s : State) : Out :=
  let c := s.ctx ctx
  let q : Word := Word.ofNat (fldN v 0 7)
  if c.st = .free ∨ c.saveBound (fldN v 0 7) then .next (s.setCtx ctx { c with quota := q }) else .next (s.ctxReject ctx)

/-! Save areas (R370, R371, R381). -/

/-- RESTORE (R361): the save area starts to be read. -/
def execRestore (ctx : Nat) (s : State) : Out :=
  let c := s.ctx ctx
  if c.st ≠ .free then .next (s.ctxReject ctx) else .next (s.setCtx ctx { c with st := .creating, status := 0xFF, making := false })

/-- R370, R371: the header in a context's save area now. -/
def State.headAt (s : State) (ctx : Nat) : Option Head := s.readHead (s.ctx ctx).savebase.toNat

/-- R370: a task that stands in the table without a span, not retiring. -/
def Task.atRest (t : Task) : Bool :=
  (t.st == .waiting || t.st == .ready || t.st == .suspended) && t.ending.isNone && t.final.isNone

/-- R370: the entries that a header holds, in their saved order. -/
def Head.entries (h : Head) : Table Task := h.tasks.filter (fun x => x.2.atRest)

/-- R381: the queue of the same number may take a saved queue: it is DISABLED and configured with the restoring context and the
same ring (notes/assumptions/72). -/
def State.queueFits (s : State) (ctx : Nat) (v : QSave) : Bool :=
  let q := s.queue v.queue
  q.st == .disabled && q.ctx == ctx && q.spbase.toNat == v.spbase.toNat && fldN q.splen 0 16 == v.splen.toNat

/-- R381: the saved queue stands PAUSED, in the restoring context. -/
def State.placeQueue (s : State) (ctx : Nat) (v : QSave) : State :=
  s.setQueue v.queue { s.queue v.queue with
    st := .paused, closed := v.closed, slots := v.slots, cfg := Word.ofNat (ctx % 64 * 2 ^ 16 + fldN v.cfg 0 2), head := v.head
    tail := v.tail, spilled := v.spilled, age := 0, old := false }

/-- CONTEXT_RESTORE_DONE (R361, R381): the save area has been read; a failed check, another format version or a granule that cannot
be read leaves FREE and CSTATUS 2. -/
def execContextRestoreDone (ctx : Nat) (s : State) : Out :=
  let c := s.ctx ctx
  if c.st ≠ .creating ∨ c.making then .next s
  else
    let bad := s.setCtx ctx { c with st := .free, status := 2 }
    match s.headAt ctx with
    | none => .next bad
    | some h =>
      if !c.createOk ∨ h.version ≠ 1 ∨ !h.queues.all (s.queueFits ctx) then .next bad
      else
        .next (h.queues.foldl (fun s v => s.placeQueue ctx v) (s.setCtx ctx { c with
          st := .suspended, status := 0, items := [], away := true }))

/-- The queues of a context. -/
def State.queuesOf (s : State) (ctx : Nat) : List Nat := (s.queues.filter (fun x => x.2.ctx == ctx)).map (fun x => x.1)

/-- QUIESCE (R370, R374): the queues pause and every RUNNING task is pre-empted. -/
def execQuiesce (ctx : Nat) (s : State) : Out :=
  let c := s.ctx ctx
  if c.st ≠ .active then .next (s.ctxReject ctx)
  else
    .next { s.setCtx ctx { c with st := .quiescing, status := 0xFF } with
      queues := Table.mapAll s.queues (fun _ q => if q.ctx = ctx ∧ (q.st = .active ∨ q.st = .spilling) then { q with st := .paused } else q)
      tasks := Table.mapAll s.tasks (fun _ t => if t.ctx = ctx ∧ t.st = .running ∧ t.final.isNone then { t with expire := true } else t) }

/-- R381: a paused queue as the save area holds it. -/
def Queue.saved (k : Nat) (q : Queue) : QSave :=
  { queue := k, slots := q.slots, cfg := q.cfg, spbase := q.spbase.setWidth 52, splen := q.splen.setWidth 16, head := q.head
    tail := q.tail, spilled := q.spilled, closed := q.closed }

/-- R370, R381: what QUIESCE writes into the header of the save area. -/
def State.headOf (s : State) (ctx : Nat) : Head :=
  { version := 1, tasks := s.tasks.filter (fun x => x.2.ctx == ctx)
    queues := (s.queues.filter (fun x => x.2.ctx == ctx && x.2.st == QSt.paused)).map (fun x => x.2.saved x.1) }

/-- R364: a command of the context still runs. -/
def Ctx.busy (c : Ctx) : Bool :=
  c.harvest.isSome || c.resuming || c.st == .quiescing || c.st == .creating || c.st == .destroying

/-- R364: CSTATUS reads 0xFF until every command that runs is complete. -/
def Ctx.settled (c : Ctx) : Ctx := { c with status := if c.busy then 0xFF else 0 }

/-- QUIESCE_COMPLETE (R370): the tasks' entries and the queues are written into the save area, the entries are released, CTX_QUIESCED
is posted; a write that fails makes the context FAULTED (R361). -/
def execQuiesceComplete (ctx : Nat) (s : State) : Out :=
  let c := s.ctx ctx
  let mine := s.tasks.filter (fun x => x.2.ctx == ctx)
  if c.st ≠ .quiescing ∨ !mine.all (fun x => x.2.atRest) ∨ s.queues.any (fun x => x.2.ctx == ctx && x.2.refill) then .next s
  else
    match s.writeHead ctx (s.headOf ctx) with
    | none => .next (s.areaFault ctx [(c.savebase.toNat, 2 ^ 20)])
    | some s1 =>
      let s2 : State := { s1 with
        tasks := s.tasks.filter (fun x => x.2.ctx != ctx)
        reserve := if mine.any (fun x => s.reserve == some x.1) then none else s.reserve }
      .next ((s2.setCtx ctx (Ctx.settled { c with st := .suspended, items := [], away := true })).postEvent ctx none
        (eventRecord 0x30 0 0 0 0 0 0 0 0 (s.cycleOf 0)))

/-- R371: the new entries of the saved tasks, in saved order: old entry and new. -/
def State.readmitAt (s : State) (l : Table Task) : List (Nat × Nat) :=
  (l.map (fun x => x.1)).zip ((List.range 8192).filter (fun k => (s.task? k).isNone))

/-- The new entry of an old one. -/
def newEntry (m : List (Nat × Nat)) (k : Nat) : Nat := ((m.find? (fun p => p.1 == k)).map (fun p => p.2)).getD k

/-- R346, R371: a saved task under the new entries: it stands from this round on, `n`-th of those re-admitted. -/
def Task.readmit (m : List (Nat × Nat)) (ctx k round n : Nat) (t : Task) : Task :=
  { t with
    ctx := ctx, pre := t.pre.map (newEntry m), rank := round, admitted := n, age := 0
    save := t.save.map (fun v => { v with waiters := v.waiters.map (fun w => { w with task := k }) }) }

/-- RESUME (R371): the entries in the save area are re-admitted in their states and order once the table has room; the queues
resume. A header that cannot be read leaves the context SUSPENDED with CSTATUS 2 (notes/assumptions/25). -/
def execResume (ctx : Nat) (s : State) : Out :=
  let c := s.ctx ctx
  if c.st ≠ .suspended then .next (s.ctxReject ctx)
  else
    match s.headAt ctx with
    | none => .next (s.setCtx ctx { c with status := 2, resuming := false })
    | some h =>
      let saved := h.entries
      let m := s.readmitAt saved
      if m.length < saved.length then .next (s.setCtx ctx { c with status := 0xFF, resuming := true })
      else
        let s1 := s.setCtx ctx (Ctx.settled { c with st := .active, resuming := false, away := false })
        .next ({ s1 with
          fresh := s.fresh + saved.length
          tasks := saved.zipIdx.foldl (fun t (x : (Nat × Task) × Nat) =>
            Table.put t (newEntry m x.1.1) (x.1.2.readmit m ctx (newEntry m x.1.1) s.round (s.fresh + x.2))) s.tasks
          queues := Table.mapAll s.queues (fun _ q => if q.ctx = ctx ∧ q.st = QSt.paused then q.reopened.settle else q) }.shapeCheck)

/-! Destruction (R372). -/

/-- R398: the caches without the entries that `p` names. -/
def State.dropTlb (s : State) (p : TlbEntry → Bool) : State :=
  { s with tlbs := Table.mapAll s.tlbs (fun _ t => t.filter (fun e => !p e)) }

/-- R389: the saved waiters of a saved task leave their barriers; an object that cannot be corrected is logged (R421). -/
def State.forgetSaved (s : State) (ctx : Nat) (w : Waiter) : State :=
  let pa := (s.lookup ctx w.va).getD w.pa
  let o := s.mem.barrier pa
  if (s.tableEcc ctx w.va).isSome then s.dflLog (s.eccRec (granule ((s.tableEcc ctx w.va).getD 0)) 0 none)
  else if s.poisoned pa 16 false then s.dflLog (s.eccRec (pa / granule pa * granule pa) 0 none)
  else if o.st = 0 then s.noteBytes pa 16
  else { s.noteBytes pa 16 with mem := s.mem.setBarrier pa { o with saved := o.saved - 1 } }.rewritten pa 16

/-- R357, R372: the TASK_ABORTED event of a task that stands in the save area. -/
def State.savedAbort (s : State) (t : Task) : List Word :=
  eventRecord 0x04 t.home t.taskid.toNat (t.record.getD 11 0) TaskSt.aborted.code 0 0 0 0 (s.cycleOf t.home)

/-- DESTROY (R361, R372, R374). -/
def execDestroy (ctx : Nat) (s : State) : Out :=
  let c := s.ctx ctx
  if c.st = .free then .next (s.ctxReject ctx)
  else
    let saved := if c.away then ((s.headAt ctx).map Head.entries).getD [] else []
    let s1 := (s.queuesOf ctx).foldl (fun s k => s.setQueue k (s.queue k).disable) s
    let s2 := (s.tasks.filter (fun x => x.2.ctx == ctx)).foldl (fun s x => s.abortTask x.1) s1
    let s3 := saved.foldl (fun s x => (((x.2.save.map (fun v => v.waiters)).getD [])).foldl (fun s w => s.forgetSaved ctx w) s) s2
    let s4 := s3.dropTlb (fun e => e.ctx == ctx)
    .next (s4.setCtx ctx { s4.ctx ctx with
      st := .destroying, status := 0xFF, harvest := none, resuming := false, away := false, making := false
      events := (s4.ctx ctx).events ++ saved.map (fun x => (none, s.savedAbort x.2)) })

/-- DESTROY_COMPLETE (R372): nothing of the context is left outstanding. -/
def execDestroyComplete (ctx : Nat) (s : State) : Out :=
  let c := s.ctx ctx
  if c.st ≠ .destroying ∨ s.tasks.any (fun x => x.2.ctx == ctx) ∨ !c.events.isEmpty
      ∨ s.accs.any (fun a => a.ctx == ctx && !a.performed 3) then .next s
  else
    .next ({ s with pwalks := s.pwalks.filter (fun w => w.ctx != ctx) }.dropTlb (fun e => e.ctx == ctx)
      |>.setCtx ctx { c with st := .free, status := 0, items := [], faults := [] })

/-! Resolving (R367). -/

/-- The command is done; another that still runs keeps CSTATUS. -/
def State.ctxDone (s : State) (ctx : Nat) : State := s.setCtx ctx (s.ctx ctx).settled

/-- R361, R367: the unresolved record that a handle names, in a context that may resolve it. -/
def State.item? (s : State) (ctx handle : Nat) : Option Item :=
  let c := s.ctx ctx
  if c.st = .active ∨ c.st = .quiescing ∨ c.st = .suspended then Table.get? c.items handle else none

/-- RESOLVE_REPLAY (R184, R201, R315, R367). -/
def execResolveReplay (ctx handle : Nat) (s : State) : Out :=
  match s.item? ctx handle with
  | none => .next (s.ctxReject ctx)
  | some it =>
    let s1 := (s.dropItem ctx handle).ctxDone ctx
    match it with
    | .posted acc =>
      match s1.acc? acc with
      | some a => .next ((s1.setOp a.src .point).modTask a.task (fun t => { t with replayed := true }))
      | none => .next s1
    | .copy tile flight => .next (s1.resumeCopy tile flight)
    | .walk etile slot =>
      -- R454: a walk that was parked and replayed counts for R354.
      .next ((s1.replayWalk etile slot).modTask (((s1.loupe etile).slot slot).task) (fun t => { t with replayed := true }))

/-- RESOLVE_DISCARD (R184, R315, R367): a posted operation never performs; a walk ends with FAULT; a copy is rejected. -/
def execResolveDiscard (ctx handle : Nat) (s : State) : Out :=
  match s.item? ctx handle with
  | none => .next (s.ctxReject ctx)
  | some (.copy _ _) => .next (s.ctxReject ctx)
  | some (.posted acc) =>
    let s1 := (s.dropItem ctx handle).ctxDone ctx
    let c := s1.ctx ctx
    match s1.acc? acc with
    | none => .next s1
    | some a =>
      let code := match a.st with
        | .parked code _ => code
        | _ => 0
      .next (((s1.dropOp a.src).setCtx ctx { c with discards := satAdd c.discards 1 }).modTask a.task
        (fun t => { t with dropped := t.dropped.or (some code) }))
  | some (.walk etile slot) =>
    let s1 := (s.dropItem ctx handle).ctxDone ctx
    let code := match ((s.loupe etile).slot slot).park with
      | some (code, _, _) => code
      | none => 0
    .next (s1.endWalk etile slot 3 code [])

/-! Dirty logging (R369). -/

/-- R369: the writes of a context, translated and not yet performed at system scope, whose bits may lie in word `k`: a write to a
256 MiB page has set those of the whole page. -/
def State.wordWrites (s : State) (ctx k : Nat) : List Nat :=
  let base := (s.ctx ctx).dlva.toNat / 2 ^ 16 + 64 * k
  let inWord := fun (va : Nat) => decide (base < va / 2 ^ 28 * 4096 + 4096 ∧ va / 2 ^ 28 * 4096 < base + 64)
  (s.accs.filter (fun a => a.ctx == ctx && a.act.kind.writes && inWord a.va && !a.performed 3 && (match a.st with
    | .ready _ => true
    | .fabric _ _ => true
    | _ => false))).map (fun a => a.id)
    ++ (s.bars.filter (fun o => s.ctxOfTask o.task == ctx && inWord o.va && o.verdict.isNone)).map (fun o => o.id)

/-- HARVEST (R369): one word of the live bitmap goes into the shadow and is cleared, in one step; an uncorrectable group of
the log faults the context (R361, R421). -/
def execHarvest (ctx : Nat) (s : State) : Out :=
  let c := s.ctx ctx
  if c.st ≠ .active ∧ c.st ≠ .quiescing ∧ c.st ≠ .suspended then .next (s.ctxReject ctx)
  else
    let words := c.dlpages.toNat / 64
    match c.harvest.getD (words, []) with
    | (0, l) => .next (s.setCtx ctx { c with status := 0xFF, harvest := some (0, l) })
    | (n + 1, l) =>
      let k := words - (n + 1)
      let live := c.dlbase.toNat + 8 * k
      let shadow := live + 8 * words
      let m := (s.mem.writeN shadow 8 (s.mem.readN shadow 8 ||| s.mem.readN live 8)).writeN live 8 0
      if s.poisoned live 8 false ∨ s.poisoned shadow 8 false then .next (s.areaFault ctx [(live, 8), (shadow, 8)])
      else .next ((({ (s.noteBytes live 8).noteBytes shadow 8 with mem := m }.rewritten live 8).rewritten shadow 8).setCtx ctx { c with status := 0xFF, harvest := some (n, l ++ s.wordWrites ctx k) })

/-- HARVEST_COMPLETE (R369): every harvested write has performed at system scope. -/
def execHarvestComplete (ctx : Nat) (s : State) : Out :=
  let c := s.ctx ctx
  match c.harvest with
  | some (0, l) =>
    if s.settled l 3 ∧ s.bars.all (fun o => !l.contains o.id || o.verdict.isSome) then
      .next (s.setCtx ctx (Ctx.settled { c with harvest := none }))
    else .next s
  | _ => .next s

/-! Invalidation (R398, R399). -/

/-- R398: fields of a TINV command. -/
def tinvCtx (cmd : Dword) : Nat := cmd.toNat / 2 ^ 52 % 2 ^ 6
/-- The first VA and the size of the range. -/
def tinvRange (cmd : Dword) : Nat × Nat :=
  let va := cmd.toNat / 2 ^ 16 % 2 ^ 36 * 2 ^ 16
  if cmd.getLsbD 59 then (va, 2 ^ 28) else (va, 2 ^ 16)

/-- R398: a reserved bit is set, or VA does not fit SIZE. -/
def tinvBad (cmd : Dword) : Bool :=
  cmd.getLsbD 58 || cmd.toNat % 2 ^ 16 != 0 || (cmd.getLsbD 59 && cmd.toNat / 2 ^ 16 % 2 ^ 12 != 0)

/-- R186, R399: a source-side access that its port queue still holds, so that nothing has left its tile. -/
def State.heldIn (s : State) (a : Access) : Bool :=
  match a.src, a.st with
  | .elem _ _, .ready _ => !a.posted && s.blocked a
  | _, _ => false

/-- R398, R399: drop what `p` covers, and wait for the accesses translated through it. One that its port queue still holds, behind
a parked operation it may be, is not waited for: it is translated again when it leaves (DESIGN CHOICE, log 89). -/
def State.invalidate (s : State) (cmd : Dword) (ctx lo n : Nat) : State :=
  if s.tinv.status = 0xFF then s
  else if tinvBad cmd then { s with tinv := { s.tinv with status := 1 } }
  else
    let hits := fun (va size : Nat) => decide (va < lo + n ∧ lo < va + size)
    let gone := (s.tlbs.flatMap (fun t => t.2)).filter (fun e => e.ctx == ctx && hits e.base e.size)
    let meets := fun (va size : Nat) => hits va size || gone.any (fun e => decide (va < e.base + e.size ∧ e.base < va + size))
    let held := fun (a : Access) => a.ctx == ctx && meets a.va a.size && s.heldIn a
    let waits := (s.accs.filter (fun a => a.ctx == ctx && meets a.va a.size && !a.performed 3 && !held a && (match a.st with
        | .ready _ => true
        | .fabric _ _ => true
        | _ => false))).map (fun a => a.id)
      ++ (s.bars.filter (fun o => s.ctxOfTask o.task == ctx && meets o.va 16 && o.verdict.isNone)).map (fun o => o.id)
    { s.dropTlb (fun e => e.ctx == ctx && hits e.base e.size) with
      accs := s.accs.map (fun a => if held a then { a with st := .point, left := 0 } else a)
      tinv := { status := 0xFF, cmd := some cmd, waits := waits } }

/-- TINV_PAGE (R398). -/
def execTinvPage (cmd : Dword) (s : State) : Out := .next (s.invalidate cmd (tinvCtx cmd) (tinvRange cmd).1 (tinvRange cmd).2)

/-- TINV_CONTEXT (R398). -/
def execTinvContext (cmd : Dword) (s : State) : Out := .next (s.invalidate cmd (tinvCtx cmd) 0 (2 ^ 52))

/-- TINV_COMPLETE (R399): every access translated with a dropped entry has performed at system scope or is parked. -/
def execTinvComplete (s : State) : Out :=
  if s.tinv.status = 0xFF ∧ s.accs.all (fun a => !s.tinv.waits.contains a.id || a.performed 3 || (match a.st with
      | .parked _ _ => true
      | _ => false)) ∧ s.bars.all (fun o => !s.tinv.waits.contains o.id || o.verdict.isSome) then
    .next { s with tinv := { status := 0, cmd := none, waits := [] } }
  else .next s

end Sys2Proof.Machine
end

