-- ==== Sys2Proof/Machine/Protect.lean ====
section
/-! DEFINITION. Protection of storage and arithmetic, the device fault log and the power governor (spec/21 R418 to R425;
spec/22 R428). -/

namespace Sys2Proof

/-- The faults that arise in a round (R426): storage and arithmetic fail when, and where, a free choice says. -/
opaque Config.strikes : Nat → List Machine.Strike

/-- R419: the difference that a fault makes to a symbol. -/
opaque Config.symbol : Nat → BitVec 8

namespace Machine

/-! The device fault log (R424). -/

/-- DFL_RECORD_WRITE (R424): the oldest held record enters the ring once EN is 1 and there is room; a ring in a hole stops
the machine. -/
def execDflRecordWrite (s : State) : Out :=
  match s.dfl.hold with
  | [] => .next s
  | r :: rest =>
    if !s.dfl.en ∨ ringFull s.dfl.head s.dfl.tail s.dfl.len then .next s
    else
      let a := s.dfl.base.toNat + 32 * s.dfl.tail.toNat
      if !(rangeOk a 32 && isDevice a) then .fault .hole
      else
        let s1 := s.ringWrite s.dfl.base s.dfl.tail r
        .next { s1 with dfl := { s1.dfl with hold := rest, tail := ringNext s.dfl.tail s.dfl.len } }

/-! Banks and groups (R419 to R422). -/

/-- A group is marked: it holds poison, or its cache entry is to turn into a miss. -/
def State.isBad (s : State) (group : Nat) : Bool :=
  match groupOf group with
  | .cache reg e => ((s.region reg).cache[e % 4]'(Nat.mod_lt _ (by decide))).bad
  | _ => s.poison.contains (groupStart group)

/-- R425: a record of CLASS 1 for a group that cannot be corrected. -/
def State.logBad (s : State) (group bank : Nat) : State :=
  let g := groupOf group
  s.dflLog (dflRec 1 cEcc g.region g.tile bank 0 g.addr none (s.cycleOf g.region))

/-- R420: a store's region is fenced once 16 of its groups have shown a further mismatch within a scrub period. -/
def State.bankFence (s : State) (key : Nat) : State :=
  let reg := regionOfTile (key % 1024)
  if key < 2048 ∧ 16 ≤ (s.bank key).worse.length ∧ (s.region reg).st ≠ .fenced then s.fenceRegion reg cEcc else s

/-- R420: the stores whose groups the reads of the round before have found beyond the code. -/
def State.bankFences (s : State) : State := s.banks.keys.foldl State.bankFence s

/-- R419: what the outside world has done to a group that the scrubber reads: a symbol of banks 0 to 17 has gone wrong, or, from
18 on, more than the code corrects. -/
def State.scrubFault (s : State) (group : Nat) : Option Nat → State
  | none => s
  | some k =>
    if 18 ≤ k then s.markBad group
    else
      let e := Config.symbol s.tick
      { s.symbolFault group k (if e = 0 then 1 else e) with tick := s.tick + 1 }

/-- SCRUB_PASS (R420): the scrubber reads a group, corrects it and writes it back; one that it cannot correct keeps its mark and is
logged. -/
def execScrubPass (group : Nat) (bank : Option Nat) (s : State) : Out :=
  let g := groupStart group
  let s1 := s.scrubFault group bank
  let s2 := if s1.isBad group ∧ !s.isBad group then s1.logBad group (Config.badBank g s.dfl.hold.length % 18) else s1
  let s3 := s2.noteGroup g
  .next ({ s3 with flaws := s3.flaws.filter (fun f => f.group != g) }.bankFence (groupOf group).key)

/-- R420: the scrubber has read every group of slices, Hoops and caches: those that differ from a codeword are corrected and written
back, and what it finds beyond the code counts. -/
def State.scrubAll (s : State) : State :=
  let groups := s.flaws.map (fun f => f.group) ++ s.poison.filter groupExists
  { groups.foldl State.noteGroup s with flaws := [] }.bankFences

/-- R420, R423: a scrub period of 2^30 rounds is over: every group has been read once, and the counts start again. -/
def State.scrubPeriod (s : State) : State :=
  let s1 := s.scrubAll
  { s1 with residue := [], banks := Table.mapAll s1.banks (fun _ b => { b with hits := [], worse := [] }) }

/-! Lost state and hub tables (R422, R424). -/

/-- R422, R424: failed storage is read: only what owns it is affected. -/
def State.lose (s : State) : Lost → State
  | .tile t =>
    let reg := regionOfTile t
    let r := s.region reg
    if r.st = .free ∨ r.st = .fenced then s
    else
      (s.endTask r.task.toNat .faulted cEcc).dflLog
        (dflRec 1 cEcc reg t (Config.badBank t s.dfl.hold.length % 18) 0 0 (some r.ctx.toNat) (s.cycleOf reg))
  | .entry k =>
    match s.task? k with
    | none => s
    | some t => (s.endTask k .faulted cEcc).dflLog (dflRec 4 cEcc 0 0 k 0 0 (some t.ctx) (s.cycleOf 0))
  | .block c =>
    if (s.ctx c).st = .free then s else (s.ctxFault c).dflLog (dflRec 4 cEcc 0 0 0 0 0 none (s.cycleOf 0))
  | .slot k j =>
    let q := s.queue k
    if q.slots.length ≤ j then s
    else
      ((s.setQueue k { q with
          st := .spillFault, slots := q.slots.eraseIdx j, age := if j = 0 then 0 else q.age, old := j != 0 && q.old }).queueEvent k q 3 cQspill).dflLog
        (dflRec 4 cEcc 0 0 k 0 0 none (s.cycleOf 0))

/-- R426: failed storage is read in the round that a free choice names. -/
def State.losses (s : State) : State :=
  let l := s.lost.zipIdx
  let due := fun (x : Lost × Nat) => Config.choice (s.tick + x.2)
  (l.filter due).foldl (fun s x => s.lose x.1)
    { s with lost := (l.filter (fun x => !due x)).map (fun x => x.1), tick := s.tick + l.length }

/-- R333, R426: a configuration word of a placed element has become another one, which stands until a signature check or a reload; an
action word that is no instruction is uncorrectable to its reader, and no fault of this kind (notes/assumptions/81). -/
def State.wordFault (s : State) (el k : Nat) (v : Word) : State :=
  let e := s.elem el
  if e.life = .off ∨ !(s.region (regionOfElem el)).st.holds then s
  else if k < 16 then s.setElem el { e with guards := e.guards.set (k % 16) v (Nat.mod_lt _ (by decide)) }
  else if k < 32 then
    if (decodeWord v).toOption.isNone then s else s.setElem el { e with actions := e.actions.set (k % 16) v (Nat.mod_lt _ (by decide)) }
  else s.setElem el { e with c := e.c.set (k % 8) v (Nat.mod_lt _ (by decide)) }

/-- R418, R423, R426: a fault arises. -/
def State.strike (s : State) : Strike → State
  | .symbol group bank err => s.symbolFault group bank err
  | .line pa => if isHbm pa then s.markBad pa else s
  | .store l => { s with lost := s.lost ++ [l] }
  | .result k => { s with upsets := s.upsets ++ [k] }
  | .word el k v => s.wordFault el k v

/-- R426: the faults that arise in a round. -/
def State.strikes (s : State) : State := (Config.strikes s.tick).foldl State.strike { s with tick := s.tick + 1 }

/-! Residue checks (R423). -/

/-- R423: a result of the tile is not delivered: its task ends, a record of CLASS 2 names the tile, and a second mismatch of
the tile within one scrub period fences its region. -/
def State.residueFail (s : State) (tile : Nat) : State :=
  let reg := regionOfTile tile
  let task := s.taskOfRegion reg
  let n := Table.getD s.residue tile 0 + 1
  let s1 := ({ s with residue := Table.put s.residue tile n }.endTask task .faulted cEcc).dflLog
    (dflRec 2 cEcc reg tile 0 0 0 (some (s.ctxOfTask task)) (s.cycleOf reg))
  if 2 ≤ n then s1.fenceRegion reg cEcc else s1

/-! The power governor (R428). -/

/-- R428: the current of all regions in sample `n`, in amperes. -/
def deviceCurrent (n : Nat) : Nat := ((List.range 64).map (fun r => Config.current r n)).foldl (fun a b => a + b) 0

/-- R428: the mean over the 10 µs that end with sample `n`, 88 samples of 256 rounds, exceeds 3,300 A. -/
def overLimit (n : Nat) : Bool :=
  let k := min (n + 1) 88
  decide (3300 * k < ((List.range k).map (fun j => deviceCurrent (n - j))).foldl (fun a b => a + b) 0)

/-- POWER_GOVERNOR_SAMPLE (R428): the regions estimate their current; above the limit issue is withheld until the mean falls
back. -/
def execPowerGovernorSample (s : State) : Out :=
  .next { s with govAge := 0, throttle := overLimit ((s.cycleOf 0).toNat / 256) }

end Machine

end Sys2Proof
end

