-- ==== Sys2Proof/Machine/Link.lean ====
section
/-! DEFINITION. Links (spec/20 R402 to R407, R412). -/

namespace Sys2Proof.Machine

abbrev cLinkDown : Byte := 0x71

/-! Link states (R402, R403). -/

/-- R403: a LINK_DOWN record of CLASS 5. -/
def State.linkDown (s : State) (link : Nat) : State := s.dflLog (dflRec 5 cLinkDown 0 0 link 0 0 none (s.cycleOf 0))

/-- R405, R407: a link that goes DOWN or FENCED empties its buffers; its transactions are resent end to end. -/
def Link.quiet (l : Link) (st : LinkSt) : Link :=
  { l with st := st, lanes := 0, txseq := 0, rxseq := 0, got := false, replay := [], asked := false, tries := 0, rx := [] }

/-- R403: an event ends in DOWN, which wins over an entry into TRAINING of the same round. The failed replays are still counted: the
eighth, met in this round, may be an entry that fences the link. -/
def Link.fell (l : Link) : Link :=
  let l1 := { l.quiet .down with felled := true, entered := none, tries := l.tries }
  match l.entered with
  | some (es, n) => { l1 with entries := es, retrains := n }
  | none => l1

/-- R403: a round begins. -/
def Link.tick (l : Link) : Link :=
  { l with tx := [], start := l.st, felled := false, entered := none, tries := if l.st = .retrying then l.tries else 0 }

/-- R403: withdrawn until device reset. -/
def State.fenceLink (s : State) (link : Nat) : State := (s.setLink link ((s.link link).quiet .fenced)).linkDown link

/-- R403: an entry into TRAINING, one in a round; a fourth within 2,250,000 rounds fences the link, and DOWN wins over another. -/
def State.trainLink (s : State) (link : Nat) : State :=
  let l := s.link link
  let now := s.round
  let recent := l.entries.filter (fun t => decide (now < t + 2250000)) ++ [now]
  let l1 : Link := { l with
    st := .training, lanes := 0, attempts := 0, asked := false, tries := 0, entries := recent, retrains := satAdd l.retrains 1
    entered := some (l.entries, l.retrains) }
  if l.st = .fenced ∨ l.entered.isSome then s
  else if 4 ≤ recent.length then (s.setLink link l1).fenceLink link
  else if l.felled then s
  else s.setLink link l1

/-- LINK_TRAINING_DONE (R403): an attempt ends with these lanes trained: all four, or after three attempts two, one or
none. -/
def execLinkTrainingDone (link : Nat) (lanes : BitVec 4) (s : State) : Out :=
  let l := s.link link
  if l.st ≠ .training ∨ l.entered.isSome then .next s
  else
    let up := fun (st : LinkSt) (m : BitVec 4) => s.setLink link { l with st := st, lanes := m, attempts := 0, peer := Config.peer link }
    if lanes = 0xF then .next (up .up 0xF)
    else if l.attempts + 1 < 3 then .next (s.setLink link { l with attempts := l.attempts + 1 })
    else if lanes.getLsbD 0 ∧ lanes.getLsbD 1 then .next (up .degraded 3)
    else if lanes.getLsbD 0 then .next (up .degraded 1)
    else .next ((s.setLink link l.fell).linkDown link)

/-- LINK_ENABLE (R403, R412): it meets the link as the round found it. -/
def execLinkEnable (link : Nat) (s : State) : Out :=
  if (s.link link).start = .down then .next (s.trainLink link) else .next s

/-- LINK_DISABLE (R403, R412). -/
def execLinkDisable (link : Nat) (s : State) : Out :=
  if (s.link link).st = .fenced then .next s else .next (s.setLink link (s.link link).fell)

/-- LINK_RETRAIN (R403, R412): it meets the link as the round found it. -/
def execLinkRetrain (link : Nat) (s : State) : Out :=
  if (s.link link).start = .up ∨ (s.link link).start = .degraded then .next (s.trainLink link) else .next s

/-- LINK_FENCE (R403, R412). -/
def execLinkFence (link : Nat) (s : State) : Out := .next (s.fenceLink link)

/-! Flits (R404, R405). -/

/-- The little-endian word at byte `k` of a list. -/
def wordAt (l : List Byte) (k : Nat) : Word := (bytesToWords ((l.drop k).take 4)).headD 0

/-- R404: a flit: its header word 0, its payload padded to 240 bytes, its CRC-32C. -/
def mkFlit (w0 : Word) (pay : List Byte) : List Byte :=
  let body := wordBytes w0 ++ List.replicate 8 0 ++ pay ++ List.replicate (240 - pay.length) 0
  body ++ wordBytes (crcBytes 0xFFFFFFFF body ^^^ 0xFFFFFFFF)

/-- R404: header word 0 of a flit that a link sends. -/
def Link.flitHead (l : Link) (seq : BitVec 12) (kind fill : Nat) : Word :=
  Word.ofNat (seq.toNat * 2 ^ 20 + (l.rxseq - 1).toNat * 2 ^ 8 + (if l.got then 2 ^ 7 else 0) + kind * 2 ^ 5 + fill)

/-- R404: the CRC of a flit of 256 bytes is right. -/
def flitOk (f : List Byte) : Bool :=
  f.length == 256 && wordAt f 252 == crcBytes 0xFFFFFFFF (f.take 252) ^^^ 0xFFFFFFFF

/-- R405: ask for a replay from the flit wanted. -/
def Link.ask (l : Link) : Link :=
  { l with asked := true, replays := satAdd l.replays 1, tx := l.tx ++ [mkFlit (l.flitHead l.rxseq 2 0) []] }

/-- R403: a CRC failure or a sequence gap: RETRYING, and one replay request. -/
def Link.gap (l : Link) : Link :=
  let l1 := if l.asked then l else l.ask
  if l.st = .up ∨ l.st = .degraded then { l1 with st := .retrying, left := l.st } else l1

/-- R405: an acknowledgement covers the flits sent up to it. -/
def Link.acked (l : Link) (ack : BitVec 12) : Link :=
  if l.replay.any (fun x => x.1 == ack) then { l with replay := (l.replay.dropWhile (fun x => x.1 != ack)).drop 1 } else l

/-- R405: go-back-N: resend from the flit wanted, in order. -/
def Link.resend (l : Link) (seq : BitVec 12) : Link :=
  { l with tx := l.tx ++ (l.replay.dropWhile (fun x => x.1 != seq)).map (fun x => x.2) }

/-- R406: a transaction from its 16-byte header and what follows. -/
def txnOf (b : List Byte) : Txn :=
  let w0 := wordAt b 0
  let w1 := wordAt b 4
  let n := fldN w1 8 8
  let hasData := !(fldN w0 28 4 == 0) && !(fldN w0 28 4 == 7)
  { type := fld w0 28 4, dst := fld w0 16 12, src := fld w0 4 12, resv := fld w0 0 4, eseq := fld w1 16 16, len := fld w1 8 8
    opx := fld w1 0 8, addr := BitVec.ofNat 64 ((wordAt b 8).toNat + 2 ^ 32 * (wordAt b 12).toNat)
    data := if hasData then (b.drop 16).take (16 * n) else [] }

/-- R406: the bytes of a transaction. -/
def txnBytes (t : Txn) : List Byte :=
  wordBytes (Word.ofNat (t.type.toNat * 2 ^ 28 + t.dst.toNat * 2 ^ 16 + t.src.toNat * 2 ^ 4 + t.resv.toNat))
    ++ wordBytes (Word.ofNat (t.eseq.toNat * 2 ^ 16 + t.len.toNat * 2 ^ 8 + t.opx.toNat))
    ++ wordBytes (Word.ofNat t.addr.toNat) ++ wordBytes (Word.ofNat (t.addr.toNat / 2 ^ 32)) ++ t.data

/-- The step that performs a transaction. -/
def txnStep (t : Txn) : Ev :=
  match t.type.toNat with
  | 0 => .read t
  | 1 => .write t
  | 2 => .enq t
  | 3 => .signal t
  | 4 => if t.opx = 0x10 then .xchg64 t else if t.opx = 0x11 then .cas64 t else .atomic t
  | 5 => .reduce t
  | 6 => .response t
  | 7 => .nack t
  | _ => .mgmt t

/-- R406: the whole transactions at the front of what a link has received, and the bytes left. -/
def unpack : Nat → List Byte → List Txn × List Byte
  | 0, b => ([], b)
  | n + 1, b =>
    if b.length < 16 then ([], b)
    else
      let t := txnOf b
      let need := 16 + (if t.type = 0 ∨ t.type = 7 then 0 else 16 * t.len.toNat)
      if b.length < need then ([], b)
      else
        match unpack n (b.drop need) with
        | (ts, r) => (t :: ts, r)

/-- R405, R406: a data flit in order: its payload is taken and the transactions it completes are performed next, before the commands
of the round (R380). -/
def State.flitData (s : State) (link : Nat) (l : Link) (f : List Byte) : State :=
  let fill := fldN (wordAt f 0) 0 4
  match unpack 300 (l.rx ++ (f.drop 12).take (16 * fill)) with
  | (ts, rest) =>
    let l1 : Link := { l with rxseq := l.rxseq + 1, got := true, asked := false, tries := 0, rx := rest, st := if l.st = .retrying then l.left else l.st }
    { s.setLink link l1 with agenda := ts.map (fun t => .ev (txnStep t)) ++ s.agenda }

/-- R401, R412: the codewords corrected in a flit that comes in are counted. -/
def State.fecCount (s : State) (link : Nat) : State :=
  { s.setLink link { s.link link with feccorr := satAdd (s.link link).feccorr (Config.fecCorrected s.tick) } with tick := s.tick + 1 }

/-- R403: the link was RETRYING when the round began, and no event before took it out of that but DISABLE. -/
def Link.replaying (l : Link) : Bool := l.st == .retrying || (l.felled && l.start == .retrying)

/-- R403: a replay has failed; the eighth takes the link out of RETRYING at once. -/
def State.replayFailed (s : State) (link : Nat) (l : Link) : State :=
  let l1 : Link := { l with tries := l.tries + 1 }
  let s1 := s.setLink link l1
  if 8 ≤ l1.tries then { s1 with agenda := .ev (.replayExhausted link) :: s.agenda } else s1

/-- FLIT_RECEIVE (R404, R405): a flit that fails its CRC or has a reserved KIND is dropped whole; a data flit is taken only
in sequence. On a link that this round's DISABLE took from RETRYING a bad flit is a failed replay still (R403). -/
def execFlitReceive (link : Nat) (flit : List Byte) (s0 : State) : Out :=
  let s := if (s0.link link).carries then s0.fecCount link else s0
  let l := s.link link
  if !l.carries then .next (if l.replaying && !flitOk flit then s.replayFailed link l else s)
  else if !flitOk flit then
    let l1 := ({ l with crcerr := satAdd l.crcerr 1, asked := false } : Link).gap
    .next (if l.st = .retrying then s.replayFailed link l1 else s.setLink link l1)
  else
    let w := wordAt flit 0
    let kind := fldN w 5 2
    if kind = 3 then .next s
    else
      let l1 := if fldN w 7 1 = 1 then l.acked (fld w 8 12) else l
      if kind = 1 then .next (s.setLink link l1)
      else if kind = 2 then .next (s.setLink link (l1.resend (fld w 20 12)))
      else if fld w 20 12 = l1.rxseq then .next (s.flitData link l1 flit)
      else .next (s.setLink link l1.gap)

/-- REPLAY_REQUEST (R405). -/
def execReplayRequest (link : Nat) (seq : BitVec 12) (s : State) : Out :=
  if (s.link link).carries then .next (s.setLink link ((s.link link).resend seq)) else .next s

/-- REPLAY_EXHAUSTED (R403): 8 replays of one flit have failed. -/
def execReplayExhausted (link : Nat) (s : State) : Out :=
  if (s.link link).replaying ∧ 8 ≤ (s.link link).tries then .next (s.trainLink link) else .next s

/-! Sending (R405 to R407). -/

/-- Cut bytes into payloads of at most 240. -/
def payloads : Nat → List Byte → List (List Byte)
  | 0, _ => []
  | n + 1, b => if b.isEmpty then [] else b.take 240 :: payloads n (b.drop 240)

/-- R405: one data flit is sent and kept until it is acknowledged. -/
def Link.send (l : Link) (pay : List Byte) : Link :=
  let f := mkFlit (l.flitHead l.txseq 0 (pay.length / 16)) pay
  { l with tx := l.tx ++ [f], replay := l.replay ++ [(l.txseq, f)], txseq := l.txseq + 1 }

/-- R405, R407: the link may take a transaction of `n` flits. -/
def Link.takes (l : Link) (n : Nat) : Bool := (l.st == .up || l.st == .degraded) && decide (l.replay.length + n ≤ 4095)

/-- R434: the writes that still wait once those that `hit` names are in effect: a write of the same entry before such a one is
superseded. -/
def aclWaiting (hit : Nat × Acl × Option (Nat × Nat) → Bool) :
    List (Nat × Acl × Option (Nat × Nat)) → List (Nat × Acl × Option (Nat × Nat))
  | [] => []
  | x :: l => if hit x || l.any (fun y => hit y && y.1 == x.1) then aclWaiting hit l else x :: aclWaiting hit l

/-- R434: the device's own RESPONSE of an access-entry write has been sent: the entry is in effect. -/
def Sec.sent (c : Sec) (t : Txn) : Sec :=
  let hit := fun (x : Nat × Acl × Option (Nat × Nat)) => x.2.2 == some (t.dst.toNat, t.eseq.toNat)
  if t.type ≠ 6 ∨ t.src ≠ Config.endpoint then c
  else
    { c with
      acl := (c.aclNew.filter hit).foldl (fun (v : Vector Acl 64) x => v.set (x.1 % 64) x.2.1 (Nat.mod_lt _ (by decide))) c.acl
      aclNew := aclWaiting hit c.aclNew }

/-- R405: the flits of a transaction. -/
def txnFlits (t : Txn) : Nat := ((txnBytes t).length + 239) / 240

/-- R407: a port that is UP or DEGRADED, reaches the destination and has room, the one that a free choice names first. -/
def State.portFor (s : State) (t : Txn) : Option Nat :=
  ((List.range 18).map (fun k => (Config.pick s.tick + k) % 18)).find? (fun k => (s.link k).takes (txnFlits t) && Config.reaches k t.dst)

/-- A transaction goes out on a port. -/
def State.sendOn (s : State) (k : Nat) (t : Txn) : State :=
  { s.setLink k ((payloads (txnFlits t) (txnBytes t)).foldl Link.send (s.link k)) with
    outq := s.outq.erase t, sec := s.sec.sent t, tick := s.tick + 1 }

/-- R407: the oldest transaction that a port takes goes out; the others wait. -/
def State.transmit (s : State) : State :=
  match s.outq.find? (fun t => (s.portFor t).isSome) with
  | none => s
  | some t =>
    match s.portFor t with
    | some k => s.sendOn k t
    | none => s

/-- TRANSACTION_RESEND (R407): a transaction unanswered for 100 µs goes out again. -/
def execTransactionResend (ep : Nat) (eseq : BitVec 16) (s : State) : Out :=
  let e := s.ep ep
  match e.sent.find? (fun x => x.1.eseq == eseq) with
  | some (t, age) =>
    if 225000 ≤ age then
      .next { s.setEp ep { e with sent := e.sent.map (fun x => if x.1.eseq = eseq then (x.1, 0) else x) } with outq := s.outq ++ [t] }
    else .next s
  | none => .next s

end Sys2Proof.Machine
end

