-- ==== Sys2Proof/Machine/Fabric.lean ====
section
/-! DEFINITION. Transactions of fabric endpoints on memory, their signals, and the answers to the device's own (spec/20
R406 to R409; spec/21 R421). -/

namespace Sys2Proof.Machine

/-! Poison met by a transaction (R421). -/

/-- R419, R421, R425: a transaction reads `n` bytes; the poisoned granules among them are logged, with the ESEQ of a READ. -/
def State.logPoison (s : State) (t : Txn) (pa n : Nat) : State :=
  (s.poisonIn pa n).foldl (fun s g => s.dflLog (s.eccRec g (if t.type = 0 then t.eseq.toNat else 0) none)) (s.noteBytes pa n)

/-- R421: a byte as a fabric READ returns it: 0 in a poisoned granule. -/
def State.fabricRead (s : State) (a : Nat) : Byte := if s.poisoned a 1 false then 0 else s.mem.read a

/-! READ and WRITE (R406). -/

/-- R406: bytes of a WRITE. -/
def writeBytesOf (t : Txn) : Nat :=
  if t.len = 0 then 0 else 16 * (t.len.toNat - 1) + (if fldN (t.opx.setWidth 32) 0 4 = 0 then 16 else fldN (t.opx.setWidth 32) 0 4)

/-- READ (R406, R421). -/
def execRead (t : Txn) (s : State) : Out :=
  let a := t.addr.toNat
  let n := 16 * t.len.toNat
  .next (s.receive t (fun s =>
    s.gate t (txnHeadOk t 0 false && t.opx == 0 && deviceRange a n) false (s.sec.mem t.src) (fun s =>
      some ((s.logPoison t a n).respond t ((List.range n).map (fun k => s.fabricRead (a + k)))))))

/-- R421: a write that covers a poisoned granule in part reads it and fails: it writes nothing, and the device fault log
names the address. -/
def State.fabricWrite (s : State) (t : Txn) (a : Nat) (l : List Byte) : State :=
  if s.poisoned a l.length true then s.logPoison t a l.length
  else { s.noteWrite a l.length with mem := s.mem.writeBytes a l }.clearPoison a l.length

/-- WRITE (R406). -/
def execWrite (t : Txn) (s : State) : Out :=
  let a := t.addr.toNat
  let n := writeBytesOf t
  .next (s.receive t (fun s =>
    s.gate t (txnHeadOk t 1 true && decide (t.opx.toNat < 16) && deviceRange a n) false (s.sec.mem t.src) (fun s =>
      some ((s.fabricWrite t a (t.data.take n)).respond t []))))

/-! SIGNAL (R337, R406). -/

/-- R406: ADDR of a SIGNAL: region id in bits 5:0, entry in bits 11:8. -/
def signalAddrOk (a : Dword) : Bool := decide (a.toNat < 2 ^ 12 ∧ a.toNat / 2 ^ 6 % 4 = 0)

/-- SIGNAL (R337, R406, R434): its region takes the signal in ESEQ order (R407), and answers it. -/
def execSignal (t : Txn) (s : State) : Out :=
  let reg := t.addr.toNat % 64
  .next (s.receive t (fun s =>
    s.gate t (txnHeadOk t 3 true && t.opx == 0 && t.len == 1 && signalAddrOk t.addr) false
      (s.sec.serves t.src (s.region reg).ctx.toNat) (fun s =>
      some ({ s with fresh := s.fresh + 1 }.takeSignal
        { id := s.fresh, region := reg, h := BitVec.ofNat 4 (t.addr.toNat / 2 ^ 8), payload := wordAt t.data 0, fab := true
          sender := t.src.toNat, reply := t.eseq.toNat }))))

/-! ATOMIC and REDUCE (R406). -/

/-- R406, R421: an indivisible read-modify-write of `n` bytes at their home: `f` answers the value returned and the new one,
if it is written. A poisoned granule is not touched, and zeros are returned. -/
def State.fabricRmw (s : State) (t : Txn) (n : Nat) (f : Nat → Nat × Option Nat) : State × Nat :=
  let a := t.addr.toNat
  if s.poisoned a n false then (s.logPoison t a n, 0)
  else
    match f (s.mem.readN a n) with
    | (v, some w) => ({ s.noteBytes a n with mem := s.mem.writeN a n w }.rewritten a n, v)
    | (v, none) => (s.noteBytes a n, v)

/-- The receipt of an ATOMIC or REDUCE of `n` bytes. -/
def State.rmw (s : State) (t : Txn) (type n : Nat) (opxOk answer : Bool) (f : Nat → Nat × Option Nat) : State :=
  let a := t.addr.toNat
  s.receive t (fun s =>
    s.gate t (txnHeadOk t type true && t.len == 1 && opxOk && decide (a % n = 0) && deviceRange a n) false (s.sec.mem t.src) (fun s =>
      match s.fabricRmw t n f with
      | (s1, v) => some (s1.respond t (if answer then unitOf v n else []))))

/-- ATOMIC (R192, R406): the atomic of opcode 0xAB + OPX. -/
def execAtomic (t : Txn) (s : State) : Out :=
  .next (s.rmw t 4 4 (decide (t.opx.toNat < 15)) true (fun old =>
    match atomicNew (0xAB + t.opx) (Word.ofNat old) (wordAt t.data 0) (wordAt t.data 4) with
    | (new, wr) => (old, if wr then some new.toNat else none)))

/-- The 8-byte value at byte `k`. -/
def dwordAt (l : List Byte) (k : Nat) : Nat := (wordAt l k).toNat + 2 ^ 32 * (wordAt l (k + 4)).toNat

/-- XCHG64 (R406). -/
def execXchg64 (t : Txn) (s : State) : Out :=
  .next (s.rmw t 4 8 (t.opx == 0x10) true (fun old => (old, some (dwordAt t.data 0))))

/-- CAS64 (R406). -/
def execCas64 (t : Txn) (s : State) : Out :=
  .next (s.rmw t 4 8 (t.opx == 0x11) true (fun old => (old, if old = dwordAt t.data 8 then some (dwordAt t.data 0) else none)))

/-- REDUCE (R193, R406): the reduction of opcode 0xBA + OPX. -/
def execReduce (t : Txn) (s : State) : Out :=
  .next (s.rmw t 5 4 (decide (t.opx.toNat < 10)) false (fun old =>
    (0, some (atomicNew (reduceAs (0xBA + t.opx)) (Word.ofNat old) (wordAt t.data 0) 0).1.toNat)))

/-! Answers to the device's own transactions (R290, R407, R409). -/

/-- The little-endian value of `n` bytes from byte `k` on. -/
def bytesAt (data : List Byte) (k n : Nat) : Nat := ((data.drop k).take n).foldr (fun b x => b.toNat + 256 * x) 0

/-- What a RESPONSE brings to an access: the bytes read, or the old word. -/
def answerValue (a : Access) (data : List Byte) : Word :=
  match a.act with
  | .read => BitVec.ofNat 32 (bytesAt data (a.va % 16) a.size)
  | .atomic _ _ _ => wordAt data 0
  | _ => 0

/-- R406: a compare-and-swap of fabric space acts on 4 bytes, or on 8. -/
def swapSize (a : Access) : Nat := if a.size = 8 then 8 else 4

/-- R197, R290: what a RESPONSE makes of an access: it has performed; or, for a destination element that no REDUCE fits, its bytes are
known and a compare-and-swap goes to `pa`, again and again until it finds them unchanged (notes/assumptions/11). -/
def Access.answered (a : Access) (pa : Nat) (data : List Byte) : Access :=
  match a.act with
  | .combine op v =>
    if a.size = 4 then { a with st := .done 0 }
    else { a with st := .ready pa, act := .swap op v (BitVec.ofNat 64 (bytesAt data (pa % 16 / swapSize a * swapSize a) (swapSize a))) }
  | .swap op v old =>
    let now : Dword := BitVec.ofNat 64 (bytesAt data 0 (swapSize a))
    if now = old then { a with st := .done 0 } else { a with st := .ready pa, act := .swap op v now }
  | _ => { a with st := .done (answerValue a data) }

/-- R407: the transaction is answered. -/
def State.answered (s : State) (ep : Nat) (eseq : BitVec 16) : State :=
  let e := s.ep ep
  s.setEp ep { e with sent := e.sent.filter (fun x => x.1.eseq != eseq) }

/-- R406: the header of a RESPONSE to transaction `q`: READ data, or a unit with the old word of an ATOMIC. -/
def responseOk (q t : Txn) : Bool :=
  txnHeadOk t 6 true && t.opx == 0 && t.addr == 0 && t.len == (if q.type = 0 then q.len else if q.type = 4 then 1 else 0)

/-- RESPONSE (R290, R406, R407): the access that the transaction performs has performed at system scope. An answer with a bad header
performs nothing, and gets no answer itself (notes/assumptions/73). -/
def execResponse (t : Txn) (s : State) : Out :=
  if t.dst ≠ Config.endpoint then .next (s.relay t)
  else
    match (s.ep t.src.toNat).sent.find? (fun x => x.1.eseq == t.eseq) with
    | none => .next s
    | some (q, _) =>
      if !responseOk q t then .next s
      else
        let s1 := s.answered t.src.toNat t.eseq
        .next { s1 with accs := s1.accs.map (fun a =>
          if a.st = .fabric t.src.toNat t.eseq.toNat then a.answered (q.addr.toNat / 16 * 16 + a.va % 16) t.data else a) }

/-- R409: a reason that is retried. -/
def nackRetries (reason : Byte) : Bool := reason == 0x07 || reason == 0x12

/-- R406, R409: the header of a NACK. -/
def nackOk (t : Txn) : Bool :=
  txnHeadOk t 7 false && t.len == 0 && t.addr == 0 && decide ((1 ≤ t.opx.toNat ∧ t.opx.toNat ≤ 8) ∨ (0x10 ≤ t.opx.toNat ∧ t.opx.toNat ≤ 0x12))

/-- NACK (R409): the transaction performs nothing; with a reason to retry it is kept and resent. -/
def execNack (t : Txn) (s : State) : Out :=
  if t.dst ≠ Config.endpoint then .next (s.relay t)
  else if !nackOk t ∨ nackRetries t.opx then .next s
  else .next (s.answered t.src.toNat t.eseq)

end Sys2Proof.Machine
end

