-- ==== Sys2Proof/Machine/FloatOps.lean ====
section
/-! DEFINITION. The float and convert group, 0x60 to 0x96 (spec/07 R160 to R180): each instruction is the shared rule
operation over its result, flag and statistics, with the latency of R161. -/

namespace Sys2Proof.Machine

/-- A lane result as the rule's result, with its flag. -/
def retF (d : BitVec 5) (t : Tag) (r : FR × Bool) : Res := ret d t (Word.ofNat r.1.code) r.2 r.1.inc

/-- A packed result. -/
def retP (d : BitVec 5) (t : Tag) (r : Word × Bool × Inc) : Res := ret d t r.1 r.2.1 r.2.2

/-- R175: two FP32 operands narrowed into the 16-bit lanes of the result. -/
def cvt2 (f : Fmt) (z : Bool) (a b : Word) : Word × Bool × Inc :=
  let r0 := f.cvt z z a.toNat
  let r1 := f.cvt z z b.toNat
  (Word.ofNat (r0.code + r1.code * 2 ^ 16), r0.x || r1.x, r0.inc.plus r1.inc)

/-- R176: two FP8 lanes shifted into the top of d(D). -/
def cvt8 (f : Fmt) (z : Bool) (d a b : Word) : Word × Bool × Inc :=
  let r0 := f.cvt z true a.toNat
  let r1 := f.cvt z true b.toNat
  (Word.ofNat (d.toNat / 2 ^ 16 + r0.code * 2 ^ 16 + r1.code * 2 ^ 24), r0.x || r1.x, r0.inc.plus r1.inc)

/-- R177: one nibble shifted into the top of d(D). -/
def cvt4 (z : Bool) (d a b : Word) : Word × Bool × Inc :=
  let n := cvtq4 z a.toNat (fldN b 0 8)
  (Word.ofNat (d.toNat / 16 + n.code * 2 ^ 28), n.x, n.inc)

/-- R169: a comparison's result and flag; it counts nothing. -/
def retC (d : BitVec 5) (t : Tag) (p : Bool) : Res := ret d t (Word.ofBool p) p

/-- R169: neither operand is a NaN and `g` holds. -/
def fcmp (g : FV → FV → Bool) (a b : Word) : Bool :=
  let x := fp32.value a.toNat
  let y := fp32.value b.toNat
  !x.isNan && !y.isNan && g x y

/-- R168: sign operations on FP32 `a`; a NaN becomes the canonical one and counts NAN. -/
def signOp (a r : Word) : FR := if (fp32.value a.toNat).isNan then { fp32.nanR with x := true } else { code := r.toNat }

/-- FADD (R165), latency 4. -/
def execFadd (d : BitVec 5) (a : BitVec 5) (b : BitVec 5) (i : BitVec 3) (p : BitVec 2) (t : BitVec 4) (s : State) : Out :=
  s.genE { d := d, a := some a, b := some b, i := i, p := p, lat := 4 } (fun x => retF d t (lx (fp32.addC x.a.data.toNat x.b.data.toNat)))

/-- FSUB (R165), latency 4. -/
def execFsub (d : BitVec 5) (a : BitVec 5) (b : BitVec 5) (i : BitVec 3) (p : BitVec 2) (t : BitVec 4) (s : State) : Out :=
  s.genE { d := d, a := some a, b := some b, i := i, p := p, lat := 4 } (fun x => retF d t (lx (fp32.subC x.a.data.toNat x.b.data.toNat)))

/-- FMUL (R165), latency 4. -/
def execFmul (d : BitVec 5) (a : BitVec 5) (b : BitVec 5) (i : BitVec 3) (p : BitVec 2) (t : BitVec 4) (s : State) : Out :=
  s.genE { d := d, a := some a, b := some b, i := i, p := p, lat := 4 } (fun x => retF d t (lx (fp32.mulC x.a.data.toNat x.b.data.toNat)))

/-- FFMA (R165), latency 4. -/
def execFfma (d : BitVec 5) (a : BitVec 5) (b : BitVec 5) (i : BitVec 3) (p : BitVec 2) (t : BitVec 4) (s : State) : Out :=
  s.genE { d := d, a := some a, b := some b, i := i, p := p, lat := 4 } (fun x => retF d t (lx (fp32.fmaC x.d.toNat x.a.data.toNat x.b.data.toNat)))

/-- FMIN (R167), latency 4. -/
def execFmin (d : BitVec 5) (a : BitVec 5) (b : BitVec 5) (i : BitVec 3) (p : BitVec 2) (t : BitVec 4) (s : State) : Out :=
  s.genE { d := d, a := some a, b := some b, i := i, p := p, lat := 4 } (fun x => retF d t (fp32.pick false x.a.data.toNat x.b.data.toNat))

/-- FMAX (R167), latency 4. -/
def execFmax (d : BitVec 5) (a : BitVec 5) (b : BitVec 5) (i : BitVec 3) (p : BitVec 2) (t : BitVec 4) (s : State) : Out :=
  s.genE { d := d, a := some a, b := some b, i := i, p := p, lat := 4 } (fun x => retF d t (fp32.pick true x.a.data.toNat x.b.data.toNat))

/-- FABS (R168), latency 4. -/
def execFabs (d : BitVec 5) (a : BitVec 5) (i : BitVec 3) (p : BitVec 2) (t : BitVec 4) (s : State) : Out :=
  s.genE { d := d, a := some a, i := i, p := p, lat := 4 } (fun x => retF d t (signOp x.a.data (x.a.data &&& 0x7FFFFFFF), x.a.data.getLsbD 31))

/-- FNEG (R168), latency 4. -/
def execFneg (d : BitVec 5) (a : BitVec 5) (i : BitVec 3) (p : BitVec 2) (t : BitVec 4) (s : State) : Out :=
  s.genE { d := d, a := some a, i := i, p := p, lat := 4 } (fun x => retF d t (signOp x.a.data (x.a.data ^^^ 0x80000000), x.a.data.getLsbD 31))

/-- FCPYS (R168), latency 4. -/
def execFcpys (d : BitVec 5) (a : BitVec 5) (b : BitVec 5) (i : BitVec 3) (p : BitVec 2) (t : BitVec 4) (s : State) : Out :=
  s.genE { d := d, a := some a, b := some b, i := i, p := p, lat := 4 } (fun x => retF d t (signOp x.a.data ((x.a.data &&& 0x7FFFFFFF) ||| (x.b.data &&& 0x80000000)), x.b.data.getLsbD 31))

/-- FCMPEQ (R169), latency 4. -/
def execFcmpeq (d : BitVec 5) (a : BitVec 5) (b : BitVec 5) (i : BitVec 3) (p : BitVec 2) (t : BitVec 4) (s : State) : Out :=
  s.genE { d := d, a := some a, b := some b, i := i, p := p, lat := 4 } (fun x => retC d t (fcmp FV.eq x.a.data x.b.data))

/-- FCMPLT (R169), latency 4. -/
def execFcmplt (d : BitVec 5) (a : BitVec 5) (b : BitVec 5) (i : BitVec 3) (p : BitVec 2) (t : BitVec 4) (s : State) : Out :=
  s.genE { d := d, a := some a, b := some b, i := i, p := p, lat := 4 } (fun x => retC d t (fcmp FV.lt x.a.data x.b.data))

/-- FCMPLE (R169), latency 4. -/
def execFcmple (d : BitVec 5) (a : BitVec 5) (b : BitVec 5) (i : BitVec 3) (p : BitVec 2) (t : BitVec 4) (s : State) : Out :=
  s.genE { d := d, a := some a, b := some b, i := i, p := p, lat := 4 } (fun x => retC d t (fcmp (fun u v => FV.lt u v || FV.eq u v) x.a.data x.b.data))

/-- FCMPUN (R169), latency 4. -/
def execFcmpun (d : BitVec 5) (a : BitVec 5) (b : BitVec 5) (i : BitVec 3) (p : BitVec 2) (t : BitVec 4) (s : State) : Out :=
  s.genE { d := d, a := some a, b := some b, i := i, p := p, lat := 4 } (fun x => retC d t ((fp32.value x.a.data.toNat).isNan || (fp32.value x.b.data.toNat).isNan))

/-- FCLASS (R170), latency 4. -/
def execFclass (d : BitVec 5) (a : BitVec 5) (i : BitVec 3) (p : BitVec 2) (t : BitVec 4) (s : State) : Out :=
  s.genE { d := d, a := some a, i := i, p := p, lat := 4 } (fun x => ret d t (Word.ofNat (fclass x.a.data.toNat)) (fp32.value x.a.data.toNat).isNan)

/-- FDIV (R165), latency 12. -/
def execFdiv (d : BitVec 5) (a : BitVec 5) (b : BitVec 5) (i : BitVec 3) (p : BitVec 2) (t : BitVec 4) (s : State) : Out :=
  s.genE { d := d, a := some a, b := some b, i := i, p := p, lat := 12 } (fun x => retF d t (lx (fp32.div (fp32.value x.a.data.toNat) (fp32.value x.b.data.toNat))))

/-- FSQRT (R166), latency 12. -/
def execFsqrt (d : BitVec 5) (a : BitVec 5) (i : BitVec 3) (p : BitVec 2) (t : BitVec 4) (s : State) : Out :=
  s.genE { d := d, a := some a, i := i, p := p, lat := 12 } (fun x => retF d t (lx (fp32.sqrt (fp32.value x.a.data.toNat))))

/-- FRCPE (R171), latency 4. -/
def execFrcpe (d : BitVec 5) (a : BitVec 5) (i : BitVec 3) (p : BitVec 2) (t : BitVec 4) (s : State) : Out :=
  s.genE { d := d, a := some a, i := i, p := p, lat := 4 } (fun x => retF d t (frcpe x.a.data.toNat))

/-- FRSQE (R172), latency 4. -/
def execFrsqe (d : BitVec 5) (a : BitVec 5) (i : BitVec 3) (p : BitVec 2) (t : BitVec 4) (s : State) : Out :=
  s.genE { d := d, a := some a, i := i, p := p, lat := 4 } (fun x => retF d t (frsqe x.a.data.toNat))

/-- FEX2 (R166), latency 8. -/
def execFex2 (d : BitVec 5) (a : BitVec 5) (i : BitVec 3) (p : BitVec 2) (t : BitVec 4) (s : State) : Out :=
  s.genE { d := d, a := some a, i := i, p := p, lat := 8 } (fun x => retF d t (lx (fp32.exp2 (fp32.value x.a.data.toNat))))

/-- FLG2 (R166), latency 8. -/
def execFlg2 (d : BitVec 5) (a : BitVec 5) (i : BitVec 3) (p : BitVec 2) (t : BitVec 4) (s : State) : Out :=
  s.genE { d := d, a := some a, i := i, p := p, lat := 8 } (fun x => retF d t (lx (fp32.log2 (fp32.value x.a.data.toNat))))

/-- FRINT (R173), latency 4. -/
def execFrint (d : BitVec 5) (a : BitVec 5) (i : BitVec 3) (p : BitVec 2) (t : BitVec 4) (s : State) : Out :=
  s.genE { d := d, a := some a, i := i, p := p, lat := 4 } (fun x => retF d t (fp32.toIntegral 0 x.a.data.toNat))

/-- FFLOOR (R173), latency 4. -/
def execFfloor (d : BitVec 5) (a : BitVec 5) (i : BitVec 3) (p : BitVec 2) (t : BitVec 4) (s : State) : Out :=
  s.genE { d := d, a := some a, i := i, p := p, lat := 4 } (fun x => retF d t (fp32.toIntegral 1 x.a.data.toNat))

/-- FCEIL (R173), latency 4. -/
def execFceil (d : BitVec 5) (a : BitVec 5) (i : BitVec 3) (p : BitVec 2) (t : BitVec 4) (s : State) : Out :=
  s.genE { d := d, a := some a, i := i, p := p, lat := 4 } (fun x => retF d t (fp32.toIntegral 2 x.a.data.toNat))

/-- FTRNC (R173), latency 4. -/
def execFtrnc (d : BitVec 5) (a : BitVec 5) (i : BitVec 3) (p : BitVec 2) (t : BitVec 4) (s : State) : Out :=
  s.genE { d := d, a := some a, i := i, p := p, lat := 4 } (fun x => retF d t (fp32.toIntegral 3 x.a.data.toNat))

/-- BADD2 (R174), latency 4. -/
def execBadd2 (d : BitVec 5) (a : BitVec 5) (b : BitVec 5) (i : BitVec 3) (p : BitVec 2) (t : BitVec 4) (s : State) : Out :=
  s.genE { d := d, a := some a, b := some b, i := i, p := p, lat := 4 } (fun x => retP d t (two (fun _ a b => lx (bf16.addC a b)) x.d x.a.data x.b.data))

/-- BSUB2 (R174), latency 4. -/
def execBsub2 (d : BitVec 5) (a : BitVec 5) (b : BitVec 5) (i : BitVec 3) (p : BitVec 2) (t : BitVec 4) (s : State) : Out :=
  s.genE { d := d, a := some a, b := some b, i := i, p := p, lat := 4 } (fun x => retP d t (two (fun _ a b => lx (bf16.subC a b)) x.d x.a.data x.b.data))

/-- BMUL2 (R174), latency 4. -/
def execBmul2 (d : BitVec 5) (a : BitVec 5) (b : BitVec 5) (i : BitVec 3) (p : BitVec 2) (t : BitVec 4) (s : State) : Out :=
  s.genE { d := d, a := some a, b := some b, i := i, p := p, lat := 4 } (fun x => retP d t (two (fun _ a b => lx (bf16.mulC a b)) x.d x.a.data x.b.data))

/-- BFMA2 (R174), latency 4. -/
def execBfma2 (d : BitVec 5) (a : BitVec 5) (b : BitVec 5) (i : BitVec 3) (p : BitVec 2) (t : BitVec 4) (s : State) : Out :=
  s.genE { d := d, a := some a, b := some b, i := i, p := p, lat := 4 } (fun x => retP d t (two (fun c a b => lx (bf16.fmaC c a b)) x.d x.a.data x.b.data))

/-- BMAX2 (R174), latency 4. -/
def execBmax2 (d : BitVec 5) (a : BitVec 5) (b : BitVec 5) (i : BitVec 3) (p : BitVec 2) (t : BitVec 4) (s : State) : Out :=
  s.genE { d := d, a := some a, b := some b, i := i, p := p, lat := 4 } (fun x => retP d t (two (fun _ a b => bf16.pick true a b) x.d x.a.data x.b.data))

/-- BMIN2 (R174), latency 4. -/
def execBmin2 (d : BitVec 5) (a : BitVec 5) (b : BitVec 5) (i : BitVec 3) (p : BitVec 2) (t : BitVec 4) (s : State) : Out :=
  s.genE { d := d, a := some a, b := some b, i := i, p := p, lat := 4 } (fun x => retP d t (two (fun _ a b => bf16.pick false a b) x.d x.a.data x.b.data))

/-- HADD2 (R174), latency 4. -/
def execHadd2 (d : BitVec 5) (a : BitVec 5) (b : BitVec 5) (i : BitVec 3) (p : BitVec 2) (t : BitVec 4) (s : State) : Out :=
  s.genE { d := d, a := some a, b := some b, i := i, p := p, lat := 4 } (fun x => retP d t (two (fun _ a b => lx (fp16.addC a b)) x.d x.a.data x.b.data))

/-- HSUB2 (R174), latency 4. -/
def execHsub2 (d : BitVec 5) (a : BitVec 5) (b : BitVec 5) (i : BitVec 3) (p : BitVec 2) (t : BitVec 4) (s : State) : Out :=
  s.genE { d := d, a := some a, b := some b, i := i, p := p, lat := 4 } (fun x => retP d t (two (fun _ a b => lx (fp16.subC a b)) x.d x.a.data x.b.data))

/-- HMUL2 (R174), latency 4. -/
def execHmul2 (d : BitVec 5) (a : BitVec 5) (b : BitVec 5) (i : BitVec 3) (p : BitVec 2) (t : BitVec 4) (s : State) : Out :=
  s.genE { d := d, a := some a, b := some b, i := i, p := p, lat := 4 } (fun x => retP d t (two (fun _ a b => lx (fp16.mulC a b)) x.d x.a.data x.b.data))

/-- HFMA2 (R174), latency 4. -/
def execHfma2 (d : BitVec 5) (a : BitVec 5) (b : BitVec 5) (i : BitVec 3) (p : BitVec 2) (t : BitVec 4) (s : State) : Out :=
  s.genE { d := d, a := some a, b := some b, i := i, p := p, lat := 4 } (fun x => retP d t (two (fun c a b => lx (fp16.fmaC c a b)) x.d x.a.data x.b.data))

/-- HMAX2 (R174), latency 4. -/
def execHmax2 (d : BitVec 5) (a : BitVec 5) (b : BitVec 5) (i : BitVec 3) (p : BitVec 2) (t : BitVec 4) (s : State) : Out :=
  s.genE { d := d, a := some a, b := some b, i := i, p := p, lat := 4 } (fun x => retP d t (two (fun _ a b => fp16.pick true a b) x.d x.a.data x.b.data))

/-- HMIN2 (R174), latency 4. -/
def execHmin2 (d : BitVec 5) (a : BitVec 5) (b : BitVec 5) (i : BitVec 3) (p : BitVec 2) (t : BitVec 4) (s : State) : Out :=
  s.genE { d := d, a := some a, b := some b, i := i, p := p, lat := 4 } (fun x => retP d t (two (fun _ a b => fp16.pick false a b) x.d x.a.data x.b.data))

/-- CVTFI (R179), latency 4. -/
def execCvtfi (d : BitVec 5) (a : BitVec 5) (i : BitVec 3) (p : BitVec 2) (t : BitVec 4) (s : State) : Out :=
  s.genE { d := d, a := some a, i := i, p := p, lat := 4 } (fun x => retF d t (lx (cvtfi x.a.data.toNat)))

/-- CVTIF (R179), latency 4. -/
def execCvtif (d : BitVec 5) (a : BitVec 5) (i : BitVec 3) (p : BitVec 2) (t : BitVec 4) (s : State) : Out :=
  s.genE { d := d, a := some a, i := i, p := p, lat := 4 } (fun x => retF d t (lx (cvtif false x.a.data)))

/-- CVTIFZ (R179), latency 4. -/
def execCvtifz (d : BitVec 5) (a : BitVec 5) (i : BitVec 3) (p : BitVec 2) (t : BitVec 4) (s : State) : Out :=
  s.genE { d := d, a := some a, i := i, p := p, lat := 4 } (fun x => retF d t (lx (cvtif true x.a.data)))

/-- CVTBF (R175), latency 4. -/
def execCvtbf (d : BitVec 5) (a : BitVec 5) (b : BitVec 5) (i : BitVec 3) (p : BitVec 2) (t : BitVec 4) (s : State) : Out :=
  s.genE { d := d, a := some a, b := some b, i := i, p := p, lat := 4 } (fun x => retP d t (cvt2 bf16 false x.a.data x.b.data))

/-- CVTBFZ (R175), latency 4. -/
def execCvtbfz (d : BitVec 5) (a : BitVec 5) (b : BitVec 5) (i : BitVec 3) (p : BitVec 2) (t : BitVec 4) (s : State) : Out :=
  s.genE { d := d, a := some a, b := some b, i := i, p := p, lat := 4 } (fun x => retP d t (cvt2 bf16 true x.a.data x.b.data))

/-- CVTHF (R175), latency 4. -/
def execCvthf (d : BitVec 5) (a : BitVec 5) (b : BitVec 5) (i : BitVec 3) (p : BitVec 2) (t : BitVec 4) (s : State) : Out :=
  s.genE { d := d, a := some a, b := some b, i := i, p := p, lat := 4 } (fun x => retP d t (cvt2 fp16 false x.a.data x.b.data))

/-- CVTHFZ (R175), latency 4. -/
def execCvthfz (d : BitVec 5) (a : BitVec 5) (b : BitVec 5) (i : BitVec 3) (p : BitVec 2) (t : BitVec 4) (s : State) : Out :=
  s.genE { d := d, a := some a, b := some b, i := i, p := p, lat := 4 } (fun x => retP d t (cvt2 fp16 true x.a.data x.b.data))

/-- CVTFB (R178), latency 4. -/
def execCvtfb (d : BitVec 5) (a : BitVec 5) (b : BitVec 5) (i : BitVec 3) (p : BitVec 2) (t : BitVec 4) (s : State) : Out :=
  s.genE { d := d, a := some a, b := some b, i := i, p := p, lat := 4 } (fun x => retF d t (bf16.widen (fldN x.a.data (16 * fldN x.b.data 0 1) 16)))

/-- CVTFH (R178), latency 4. -/
def execCvtfh (d : BitVec 5) (a : BitVec 5) (b : BitVec 5) (i : BitVec 3) (p : BitVec 2) (t : BitVec 4) (s : State) : Out :=
  s.genE { d := d, a := some a, b := some b, i := i, p := p, lat := 4 } (fun x => retF d t (fp16.widen (fldN x.a.data (16 * fldN x.b.data 0 1) 16)))

/-- CVTE4 (R176), latency 4. -/
def execCvte4 (d : BitVec 5) (a : BitVec 5) (b : BitVec 5) (i : BitVec 3) (p : BitVec 2) (t : BitVec 4) (s : State) : Out :=
  s.genE { d := d, a := some a, b := some b, i := i, p := p, lat := 4 } (fun x => retP d t (cvt8 e4m3 false x.d x.a.data x.b.data))

/-- CVTE4Z (R176), latency 4. -/
def execCvte4z (d : BitVec 5) (a : BitVec 5) (b : BitVec 5) (i : BitVec 3) (p : BitVec 2) (t : BitVec 4) (s : State) : Out :=
  s.genE { d := d, a := some a, b := some b, i := i, p := p, lat := 4 } (fun x => retP d t (cvt8 e4m3 true x.d x.a.data x.b.data))

/-- CVTE5 (R176), latency 4. -/
def execCvte5 (d : BitVec 5) (a : BitVec 5) (b : BitVec 5) (i : BitVec 3) (p : BitVec 2) (t : BitVec 4) (s : State) : Out :=
  s.genE { d := d, a := some a, b := some b, i := i, p := p, lat := 4 } (fun x => retP d t (cvt8 e5m2 false x.d x.a.data x.b.data))

/-- CVTE5Z (R176), latency 4. -/
def execCvte5z (d : BitVec 5) (a : BitVec 5) (b : BitVec 5) (i : BitVec 3) (p : BitVec 2) (t : BitVec 4) (s : State) : Out :=
  s.genE { d := d, a := some a, b := some b, i := i, p := p, lat := 4 } (fun x => retP d t (cvt8 e5m2 true x.d x.a.data x.b.data))

/-- CVTFE4 (R178), latency 4. -/
def execCvtfe4 (d : BitVec 5) (a : BitVec 5) (b : BitVec 5) (i : BitVec 3) (p : BitVec 2) (t : BitVec 4) (s : State) : Out :=
  s.genE { d := d, a := some a, b := some b, i := i, p := p, lat := 4 } (fun x => retF d t (e4m3.widen (fldN x.a.data (8 * fldN x.b.data 0 2) 8)))

/-- CVTFE5 (R178), latency 4. -/
def execCvtfe5 (d : BitVec 5) (a : BitVec 5) (b : BitVec 5) (i : BitVec 3) (p : BitVec 2) (t : BitVec 4) (s : State) : Out :=
  s.genE { d := d, a := some a, b := some b, i := i, p := p, lat := 4 } (fun x => retF d t (e5m2.widen (fldN x.a.data (8 * fldN x.b.data 0 2) 8)))

/-- CVTQ4 (R177), latency 4. -/
def execCvtq4 (d : BitVec 5) (a : BitVec 5) (b : BitVec 5) (i : BitVec 3) (p : BitVec 2) (t : BitVec 4) (s : State) : Out :=
  s.genE { d := d, a := some a, b := some b, i := i, p := p, lat := 4 } (fun x => retP d t (cvt4 false x.d x.a.data x.b.data))

/-- CVTQ4Z (R177), latency 4. -/
def execCvtq4z (d : BitVec 5) (a : BitVec 5) (b : BitVec 5) (i : BitVec 3) (p : BitVec 2) (t : BitVec 4) (s : State) : Out :=
  s.genE { d := d, a := some a, b := some b, i := i, p := p, lat := 4 } (fun x => retP d t (cvt4 true x.d x.a.data x.b.data))

/-- CVTFQ4 (R178), latency 4. -/
def execCvtfq4 (d : BitVec 5) (a : BitVec 5) (b : BitVec 5) (i : BitVec 3) (p : BitVec 2) (t : BitVec 4) (s : State) : Out :=
  s.genE { d := d, a := some a, b := some b, i := i, p := p, lat := 4 } (fun x => retF d t (let r := cvtfq4 (fldN x.a.data (4 * fldN x.b.data 8 3) 4) (fldN x.b.data 0 8)
    (r, r.code != 0)))

/-- QSC (R180), latency 4. -/
def execQsc (d : BitVec 5) (a : BitVec 5) (i : BitVec 3) (p : BitVec 2) (t : BitVec 4) (s : State) : Out :=
  s.genE { d := d, a := some a, i := i, p := p, lat := 4 } (fun x => retF d t (qsc x.a.data.toNat))

end Sys2Proof.Machine
end

