-- ==== Sys2Proof/Machine/Integer.lean ====
section
/-! DEFINITION. The integer and bit group, 0x20 to 0x55 (spec/06 R149 to R159): each instruction is the shared rule
operation over its result and flag. -/

namespace Sys2Proof.Machine

/-- A result and flag, delivered to D (R135). -/
def ret2 (d : BitVec 5) (t : Tag) (r : Word × Bool) : Res := ret d t r.1 r.2

/-- R42: a clamp counts SAT once. -/
def retSat (d : BitVec 5) (t : Tag) (r : Word × Bool) : Res :=
  ret d t r.1 r.2 { sat := if r.2 then 1 else 0 }

/-- ADD (R150). -/
def execAdd (d : BitVec 5) (a : BitVec 5) (b : BitVec 5) (i : BitVec 3) (p : BitVec 2) (t : BitVec 4) (s : State) : Out :=
  s.gen { d := d, a := some a, b := some b, i := i, p := p } (fun x => ret2 d t (addR x.a.data x.b.data))

/-- SUB (R150). -/
def execSub (d : BitVec 5) (a : BitVec 5) (b : BitVec 5) (i : BitVec 3) (p : BitVec 2) (t : BitVec 4) (s : State) : Out :=
  s.gen { d := d, a := some a, b := some b, i := i, p := p } (fun x => ret2 d t (subR x.a.data x.b.data))

/-- ADDS (R150). -/
def execAdds (d : BitVec 5) (a : BitVec 5) (b : BitVec 5) (i : BitVec 3) (p : BitVec 2) (t : BitVec 4) (s : State) : Out :=
  s.genE { d := d, a := some a, b := some b, i := i, p := p } (fun x => retSat d t (addsR x.a.data x.b.data))

/-- SUBS (R150). -/
def execSubs (d : BitVec 5) (a : BitVec 5) (b : BitVec 5) (i : BitVec 3) (p : BitVec 2) (t : BitVec 4) (s : State) : Out :=
  s.genE { d := d, a := some a, b := some b, i := i, p := p } (fun x => retSat d t (subsR x.a.data x.b.data))

/-- ADDSN (R150). -/
def execAddsn (d : BitVec 5) (a : BitVec 5) (b : BitVec 5) (i : BitVec 3) (p : BitVec 2) (t : BitVec 4) (s : State) : Out :=
  s.genE { d := d, a := some a, b := some b, i := i, p := p } (fun x => retSat d t (addsnR x.a.data x.b.data))

/-- SUBSN (R150). -/
def execSubsn (d : BitVec 5) (a : BitVec 5) (b : BitVec 5) (i : BitVec 3) (p : BitVec 2) (t : BitVec 4) (s : State) : Out :=
  s.genE { d := d, a := some a, b := some b, i := i, p := p } (fun x => retSat d t (subsnR x.a.data x.b.data))

/-- NEG (R150). -/
def execNeg (d : BitVec 5) (a : BitVec 5) (i : BitVec 3) (p : BitVec 2) (t : BitVec 4) (s : State) : Out :=
  s.gen { d := d, a := some a, i := i, p := p } (fun x => ret2 d t (negR x.a.data))

/-- ABS (R150). -/
def execAbs (d : BitVec 5) (a : BitVec 5) (i : BitVec 3) (p : BitVec 2) (t : BitVec 4) (s : State) : Out :=
  s.gen { d := d, a := some a, i := i, p := p } (fun x => ret2 d t (absR x.a.data))

/-- MUL (R150). -/
def execMul (d : BitVec 5) (a : BitVec 5) (b : BitVec 5) (i : BitVec 3) (p : BitVec 2) (t : BitVec 4) (s : State) : Out :=
  s.gen { d := d, a := some a, b := some b, i := i, p := p } (fun x => ret2 d t (mulR x.a.data x.b.data))

/-- MULH (R150). -/
def execMulh (d : BitVec 5) (a : BitVec 5) (b : BitVec 5) (i : BitVec 3) (p : BitVec 2) (t : BitVec 4) (s : State) : Out :=
  s.gen { d := d, a := some a, b := some b, i := i, p := p } (fun x => ret2 d t (mulhR x.a.data x.b.data))

/-- MULHN (R150). -/
def execMulhn (d : BitVec 5) (a : BitVec 5) (b : BitVec 5) (i : BitVec 3) (p : BitVec 2) (t : BitVec 4) (s : State) : Out :=
  s.gen { d := d, a := some a, b := some b, i := i, p := p } (fun x => ret2 d t (mulhnR x.a.data x.b.data))

/-- MAC (R150). -/
def execMac (d : BitVec 5) (a : BitVec 5) (b : BitVec 5) (i : BitVec 3) (p : BitVec 2) (t : BitVec 4) (s : State) : Out :=
  s.genE { d := d, a := some a, b := some b, i := i, p := p } (fun x => ret2 d t (macR x.d x.a.data x.b.data))

/-- MIN (R150). -/
def execMin (d : BitVec 5) (a : BitVec 5) (b : BitVec 5) (i : BitVec 3) (p : BitVec 2) (t : BitVec 4) (s : State) : Out :=
  s.gen { d := d, a := some a, b := some b, i := i, p := p } (fun x => ret2 d t (minR x.a.data x.b.data))

/-- MAX (R150). -/
def execMax (d : BitVec 5) (a : BitVec 5) (b : BitVec 5) (i : BitVec 3) (p : BitVec 2) (t : BitVec 4) (s : State) : Out :=
  s.gen { d := d, a := some a, b := some b, i := i, p := p } (fun x => ret2 d t (maxR x.a.data x.b.data))

/-- MINN (R150). -/
def execMinn (d : BitVec 5) (a : BitVec 5) (b : BitVec 5) (i : BitVec 3) (p : BitVec 2) (t : BitVec 4) (s : State) : Out :=
  s.gen { d := d, a := some a, b := some b, i := i, p := p } (fun x => ret2 d t (minnR x.a.data x.b.data))

/-- MAXN (R150). -/
def execMaxn (d : BitVec 5) (a : BitVec 5) (b : BitVec 5) (i : BitVec 3) (p : BitVec 2) (t : BitVec 4) (s : State) : Out :=
  s.gen { d := d, a := some a, b := some b, i := i, p := p } (fun x => ret2 d t (maxnR x.a.data x.b.data))

/-- AND (R151). -/
def execAnd (d : BitVec 5) (a : BitVec 5) (b : BitVec 5) (i : BitVec 3) (p : BitVec 2) (t : BitVec 4) (s : State) : Out :=
  s.gen { d := d, a := some a, b := some b, i := i, p := p } (fun x => ret2 d t (andR x.a.data x.b.data))

/-- OR (R151). -/
def execOr (d : BitVec 5) (a : BitVec 5) (b : BitVec 5) (i : BitVec 3) (p : BitVec 2) (t : BitVec 4) (s : State) : Out :=
  s.gen { d := d, a := some a, b := some b, i := i, p := p } (fun x => ret2 d t (orR x.a.data x.b.data))

/-- XOR (R151). -/
def execXor (d : BitVec 5) (a : BitVec 5) (b : BitVec 5) (i : BitVec 3) (p : BitVec 2) (t : BitVec 4) (s : State) : Out :=
  s.gen { d := d, a := some a, b := some b, i := i, p := p } (fun x => ret2 d t (xorR x.a.data x.b.data))

/-- ANDN (R151). -/
def execAndn (d : BitVec 5) (a : BitVec 5) (b : BitVec 5) (i : BitVec 3) (p : BitVec 2) (t : BitVec 4) (s : State) : Out :=
  s.gen { d := d, a := some a, b := some b, i := i, p := p } (fun x => ret2 d t (andnR x.a.data x.b.data))

/-- ORN (R151). -/
def execOrn (d : BitVec 5) (a : BitVec 5) (b : BitVec 5) (i : BitVec 3) (p : BitVec 2) (t : BitVec 4) (s : State) : Out :=
  s.gen { d := d, a := some a, b := some b, i := i, p := p } (fun x => ret2 d t (ornR x.a.data x.b.data))

/-- NOT (R151). -/
def execNot (d : BitVec 5) (a : BitVec 5) (i : BitVec 3) (p : BitVec 2) (t : BitVec 4) (s : State) : Out :=
  s.gen { d := d, a := some a, i := i, p := p } (fun x => ret2 d t (notR x.a.data))

/-- SHL (R151). -/
def execShl (d : BitVec 5) (a : BitVec 5) (b : BitVec 5) (i : BitVec 3) (p : BitVec 2) (t : BitVec 4) (s : State) : Out :=
  s.gen { d := d, a := some a, b := some b, i := i, p := p } (fun x => ret2 d t (shlR x.a.data x.b.data))

/-- SHR (R151). -/
def execShr (d : BitVec 5) (a : BitVec 5) (b : BitVec 5) (i : BitVec 3) (p : BitVec 2) (t : BitVec 4) (s : State) : Out :=
  s.gen { d := d, a := some a, b := some b, i := i, p := p } (fun x => ret2 d t (shrR x.a.data x.b.data))

/-- SAR (R151). -/
def execSar (d : BitVec 5) (a : BitVec 5) (b : BitVec 5) (i : BitVec 3) (p : BitVec 2) (t : BitVec 4) (s : State) : Out :=
  s.gen { d := d, a := some a, b := some b, i := i, p := p } (fun x => ret2 d t (sarR x.a.data x.b.data))

/-- ROL (R151). -/
def execRol (d : BitVec 5) (a : BitVec 5) (b : BitVec 5) (i : BitVec 3) (p : BitVec 2) (t : BitVec 4) (s : State) : Out :=
  s.gen { d := d, a := some a, b := some b, i := i, p := p } (fun x => ret2 d t (rolR x.a.data x.b.data))

/-- CLZ (R152). -/
def execClz (d : BitVec 5) (a : BitVec 5) (i : BitVec 3) (p : BitVec 2) (t : BitVec 4) (s : State) : Out :=
  s.gen { d := d, a := some a, i := i, p := p } (fun x => ret2 d t (clzR x.a.data))

/-- CTZ (R152). -/
def execCtz (d : BitVec 5) (a : BitVec 5) (i : BitVec 3) (p : BitVec 2) (t : BitVec 4) (s : State) : Out :=
  s.gen { d := d, a := some a, i := i, p := p } (fun x => ret2 d t (ctzR x.a.data))

/-- POPC (R152). -/
def execPopc (d : BitVec 5) (a : BitVec 5) (i : BitVec 3) (p : BitVec 2) (t : BitVec 4) (s : State) : Out :=
  s.gen { d := d, a := some a, i := i, p := p } (fun x => ret2 d t (popcR x.a.data))

/-- BREV (R152). -/
def execBrev (d : BitVec 5) (a : BitVec 5) (i : BitVec 3) (p : BitVec 2) (t : BitVec 4) (s : State) : Out :=
  s.gen { d := d, a := some a, i := i, p := p } (fun x => ret2 d t (brevR x.a.data))

/-- BFX (R152). -/
def execBfx (d : BitVec 5) (a : BitVec 5) (b : BitVec 5) (i : BitVec 3) (p : BitVec 2) (t : BitVec 4) (s : State) : Out :=
  s.gen { d := d, a := some a, b := some b, i := i, p := p } (fun x => ret2 d t (bfxR x.a.data x.b.data))

/-- BFXS (R152). -/
def execBfxs (d : BitVec 5) (a : BitVec 5) (b : BitVec 5) (i : BitVec 3) (p : BitVec 2) (t : BitVec 4) (s : State) : Out :=
  s.gen { d := d, a := some a, b := some b, i := i, p := p } (fun x => ret2 d t (bfxsR x.a.data x.b.data))

/-- BFI (R152). -/
def execBfi (d : BitVec 5) (a : BitVec 5) (b : BitVec 5) (i : BitVec 3) (p : BitVec 2) (t : BitVec 4) (s : State) : Out :=
  s.genE { d := d, a := some a, b := some b, i := i, p := p } (fun x => ret2 d t (bfiR x.d x.a.data x.b.data))

/-- CMPEQ (R153). -/
def execCmpeq (d : BitVec 5) (a : BitVec 5) (b : BitVec 5) (i : BitVec 3) (p : BitVec 2) (t : BitVec 4) (s : State) : Out :=
  s.gen { d := d, a := some a, b := some b, i := i, p := p } (fun x => ret2 d t (cmpeqR x.a.data x.b.data))

/-- CMPNE (R153). -/
def execCmpne (d : BitVec 5) (a : BitVec 5) (b : BitVec 5) (i : BitVec 3) (p : BitVec 2) (t : BitVec 4) (s : State) : Out :=
  s.gen { d := d, a := some a, b := some b, i := i, p := p } (fun x => ret2 d t (cmpneR x.a.data x.b.data))

/-- CMPLT (R153). -/
def execCmplt (d : BitVec 5) (a : BitVec 5) (b : BitVec 5) (i : BitVec 3) (p : BitVec 2) (t : BitVec 4) (s : State) : Out :=
  s.gen { d := d, a := some a, b := some b, i := i, p := p } (fun x => ret2 d t (cmpltR x.a.data x.b.data))

/-- CMPLE (R153). -/
def execCmple (d : BitVec 5) (a : BitVec 5) (b : BitVec 5) (i : BitVec 3) (p : BitVec 2) (t : BitVec 4) (s : State) : Out :=
  s.gen { d := d, a := some a, b := some b, i := i, p := p } (fun x => ret2 d t (cmpleR x.a.data x.b.data))

/-- CMPLTN (R153). -/
def execCmpltn (d : BitVec 5) (a : BitVec 5) (b : BitVec 5) (i : BitVec 3) (p : BitVec 2) (t : BitVec 4) (s : State) : Out :=
  s.gen { d := d, a := some a, b := some b, i := i, p := p } (fun x => ret2 d t (cmpltnR x.a.data x.b.data))

/-- CMPLEN (R153). -/
def execCmplen (d : BitVec 5) (a : BitVec 5) (b : BitVec 5) (i : BitVec 3) (p : BitVec 2) (t : BitVec 4) (s : State) : Out :=
  s.gen { d := d, a := some a, b := some b, i := i, p := p } (fun x => ret2 d t (cmplenR x.a.data x.b.data))

/-- ADDH2 (R154). -/
def execAddh2 (d : BitVec 5) (a : BitVec 5) (b : BitVec 5) (i : BitVec 3) (p : BitVec 2) (t : BitVec 4) (s : State) : Out :=
  s.gen { d := d, a := some a, b := some b, i := i, p := p } (fun x => ret2 d t (lanes2 (· + ·) x.a.data x.b.data))

/-- SUBH2 (R154). -/
def execSubh2 (d : BitVec 5) (a : BitVec 5) (b : BitVec 5) (i : BitVec 3) (p : BitVec 2) (t : BitVec 4) (s : State) : Out :=
  s.gen { d := d, a := some a, b := some b, i := i, p := p } (fun x => ret2 d t (lanes2 (· - ·) x.a.data x.b.data))

/-- MAXH2 (R154). -/
def execMaxh2 (d : BitVec 5) (a : BitVec 5) (b : BitVec 5) (i : BitVec 3) (p : BitVec 2) (t : BitVec 4) (s : State) : Out :=
  s.gen { d := d, a := some a, b := some b, i := i, p := p } (fun x => ret2 d t (lanes2 smax x.a.data x.b.data))

/-- MINH2 (R154). -/
def execMinh2 (d : BitVec 5) (a : BitVec 5) (b : BitVec 5) (i : BitVec 3) (p : BitVec 2) (t : BitVec 4) (s : State) : Out :=
  s.gen { d := d, a := some a, b := some b, i := i, p := p } (fun x => ret2 d t (lanes2 smin x.a.data x.b.data))

/-- ADDB4 (R154). -/
def execAddb4 (d : BitVec 5) (a : BitVec 5) (b : BitVec 5) (i : BitVec 3) (p : BitVec 2) (t : BitVec 4) (s : State) : Out :=
  s.gen { d := d, a := some a, b := some b, i := i, p := p } (fun x => ret2 d t (lanes4 (· + ·) x.a.data x.b.data))

/-- SUBB4 (R154). -/
def execSubb4 (d : BitVec 5) (a : BitVec 5) (b : BitVec 5) (i : BitVec 3) (p : BitVec 2) (t : BitVec 4) (s : State) : Out :=
  s.gen { d := d, a := some a, b := some b, i := i, p := p } (fun x => ret2 d t (lanes4 (· - ·) x.a.data x.b.data))

/-- MAXB4 (R154). -/
def execMaxb4 (d : BitVec 5) (a : BitVec 5) (b : BitVec 5) (i : BitVec 3) (p : BitVec 2) (t : BitVec 4) (s : State) : Out :=
  s.gen { d := d, a := some a, b := some b, i := i, p := p } (fun x => ret2 d t (lanes4 smax x.a.data x.b.data))

/-- MINB4 (R154). -/
def execMinb4 (d : BitVec 5) (a : BitVec 5) (b : BitVec 5) (i : BitVec 3) (p : BitVec 2) (t : BitVec 4) (s : State) : Out :=
  s.gen { d := d, a := some a, b := some b, i := i, p := p } (fun x => ret2 d t (lanes4 smin x.a.data x.b.data))

/-- DOT4 (R155). -/
def execDot4 (d : BitVec 5) (a : BitVec 5) (b : BitVec 5) (i : BitVec 3) (p : BitVec 2) (t : BitVec 4) (s : State) : Out :=
  s.genE { d := d, a := some a, b := some b, i := i, p := p } (fun x => ret2 d t (dot4R x.d x.a.data x.b.data))

/-- DOT4N (R155). -/
def execDot4n (d : BitVec 5) (a : BitVec 5) (b : BitVec 5) (i : BitVec 3) (p : BitVec 2) (t : BitVec 4) (s : State) : Out :=
  s.genE { d := d, a := some a, b := some b, i := i, p := p } (fun x => ret2 d t (dot4nR x.d x.a.data x.b.data))

/-- LEA (R156); D is a register or, in a Loupe program, v0–v3 or PTR. -/
def execLea (d : BitVec 5) (a : BitVec 5) (b : BitVec 5) (i : BitVec 3) (p : BitVec 2) (s_ : BitVec 2) (s : State) : Out :=
  s.gen { d := d, a := some a, b := some b, i := i, p := p } (fun x => ret2 d Tag.data (leaR x.a.data x.b.data s_))

/-- HASH (R157). -/
def execHash (d : BitVec 5) (a : BitVec 5) (b : BitVec 5) (i : BitVec 3) (p : BitVec 2) (t : BitVec 4) (s : State) : Out :=
  s.gen { d := d, a := some a, b := some b, i := i, p := p } (fun x => ret2 d t (withNz (hash x.a.data x.b.data)))

/-- XSH (R158). -/
def execXsh (d : BitVec 5) (a : BitVec 5) (i : BitVec 3) (p : BitVec 2) (t : BitVec 4) (s : State) : Out :=
  s.gen { d := d, a := some a, i := i, p := p } (fun x => ret2 d t (withNz (xsh x.a.data)))

/-- DIVN (R159). -/
def execDivn (d : BitVec 5) (a : BitVec 5) (b : BitVec 5) (i : BitVec 3) (p : BitVec 2) (t : BitVec 4) (s : State) : Out :=
  s.gen { d := d, a := some a, b := some b, i := i, p := p } (fun x => ret2 d t (divnR x.a.data x.b.data))

/-- REMN (R159). -/
def execRemn (d : BitVec 5) (a : BitVec 5) (b : BitVec 5) (i : BitVec 3) (p : BitVec 2) (t : BitVec 4) (s : State) : Out :=
  s.gen { d := d, a := some a, b := some b, i := i, p := p } (fun x => ret2 d t (remnR x.a.data x.b.data))

end Sys2Proof.Machine
end

