-- ==== Sys2Proof/Machine/Memory.lean ====
section
/-! DEFINITION. Loads, stores, gathers, atomics and reductions, 0xA0 to 0xC3 (spec/08 R188 to R194): each is the shared
memory-form operation over its lanes and its permission. -/

namespace Sys2Proof.Machine

/-- A load of `n` bytes (R189). -/
def loadForm (opc : Byte) (n : Nat) (d a : BitVec 5) (w : BitVec 3) (sc : BitVec 2) (s : State) : Out :=
  s.memForm
    { opc := opc, d := d, a := a, b := none, w := w, sc := sc, perm := Window.r, src := some .read
      lanes := fun _ x => some [{ off := x.a.data.toNat, size := n, act := .read }] }

/-- A store of `n` bytes (R189). -/
def storeForm (opc : Byte) (n : Nat) (d a b : BitVec 5) (w : BitVec 3) (sc : BitVec 2) (s : State) : Out :=
  s.memForm
    { opc := opc, d := d, a := a, b := some b, w := w, sc := sc, perm := Window.w, src := none
      lanes := fun _ x => some [{ off := x.a.data.toNat, size := n, act := .write x.b.data }] }

/-- A returning atomic (R192); `k` is the register ACAS compares with. -/
def atomicForm (opc : Byte) (d a b : BitVec 5) (w : BitVec 3) (sc : BitVec 2) (k : BitVec 3) (s : State) : Out :=
  s.memForm
    { opc := opc, d := d, a := a, b := some b, w := w, sc := sc, perm := Window.a, src := some .atomic
      lanes := fun e x => some [{ off := x.a.data.toNat, size := 4, act := .atomic opc x.b.data (e.d[k.toNat]) }] }

/-- A reduction (R193). -/
def reduceForm (opc : Byte) (d a b : BitVec 5) (w : BitVec 3) (sc : BitVec 2) (s : State) : Out :=
  s.memForm
    { opc := opc, d := d, a := a, b := some b, w := w, sc := sc, perm := Window.a, src := none
      lanes := fun _ x => some [{ off := x.a.data.toNat, size := 4, act := .reduce opc x.b.data }] }

/-- R190: the offset and size of each lane of a gather or scatter; none for a reserved format. -/
def gatherLanes (f : BitVec 4) (a : Word) : Option (List (Nat × Nat)) :=
  match f.toNat with
  | 0 => some [(fldN a 0 8, 1), (fldN a 8 8, 1), (fldN a 16 8, 1), (fldN a 24 8, 1)]
  | 1 => some [(2 * fldN a 0 16, 2), (2 * fldN a 16 16, 2)]
  | _ => none

/-- The part of a word that a lane of `n` bytes stores. -/
def lanePart (v : Word) (k n : Nat) : Word := v >>> (8 * n * k)

/-- LDG (R190). -/
def execLdg (d a : BitVec 5) (w : BitVec 3) (sc : BitVec 2) (f : BitVec 4) (s : State) : Out :=
  s.memForm
    { opc := 0xA8, d := d, a := a, b := none, w := w, sc := sc, perm := Window.r, src := some .read
      lanes := fun _ x => (gatherLanes f x.a.data).map (fun l => l.map (fun o => { off := o.1, size := o.2, act := .read })) }

/-- STG (R190): lanes in ascending order. -/
def execStg (d a b : BitVec 5) (w : BitVec 3) (sc : BitVec 2) (f : BitVec 4) (s : State) : Out :=
  s.memForm
    { opc := 0xA9, d := d, a := a, b := some b, w := w, sc := sc, perm := Window.w, src := none
      lanes := fun _ x => (gatherLanes f x.a.data).map (fun l =>
        l.zipIdx.map (fun o => { off := o.1.1, size := o.1.2, act := .write (lanePart x.b.data o.2 o.1.2) })) }

/-- LD8 (R189). -/
def execLd8 (d a : BitVec 5) (w : BitVec 3) (sc : BitVec 2) (s : State) : Out := loadForm 0xA0 1 d a w sc s

/-- LD8S (R189). -/
def execLd8s (d a : BitVec 5) (w : BitVec 3) (sc : BitVec 2) (s : State) : Out := loadForm 0xA1 1 d a w sc s

/-- LD16 (R189). -/
def execLd16 (d a : BitVec 5) (w : BitVec 3) (sc : BitVec 2) (s : State) : Out := loadForm 0xA2 2 d a w sc s

/-- LD16S (R189). -/
def execLd16s (d a : BitVec 5) (w : BitVec 3) (sc : BitVec 2) (s : State) : Out := loadForm 0xA3 2 d a w sc s

/-- LD32 (R189). -/
def execLd32 (d a : BitVec 5) (w : BitVec 3) (sc : BitVec 2) (s : State) : Out := loadForm 0xA4 4 d a w sc s

/-- ST8 (R189). -/
def execSt8 (d a b : BitVec 5) (w : BitVec 3) (sc : BitVec 2) (s : State) : Out := storeForm 0xA5 1 d a b w sc s

/-- ST16 (R189). -/
def execSt16 (d a b : BitVec 5) (w : BitVec 3) (sc : BitVec 2) (s : State) : Out := storeForm 0xA6 2 d a b w sc s

/-- ST32 (R189). -/
def execSt32 (d a b : BitVec 5) (w : BitVec 3) (sc : BitVec 2) (s : State) : Out := storeForm 0xA7 4 d a b w sc s

/-- AADD (R192). -/
def execAadd (d a b : BitVec 5) (w : BitVec 3) (sc : BitVec 2) (s : State) : Out :=
  atomicForm 0xAB d a b w sc 0 s

/-- ASUB (R192). -/
def execAsub (d a b : BitVec 5) (w : BitVec 3) (sc : BitVec 2) (s : State) : Out :=
  atomicForm 0xAC d a b w sc 0 s

/-- AMIN (R192). -/
def execAmin (d a b : BitVec 5) (w : BitVec 3) (sc : BitVec 2) (s : State) : Out :=
  atomicForm 0xAD d a b w sc 0 s

/-- AMAX (R192). -/
def execAmax (d a b : BitVec 5) (w : BitVec 3) (sc : BitVec 2) (s : State) : Out :=
  atomicForm 0xAE d a b w sc 0 s

/-- AMINN (R192). -/
def execAminn (d a b : BitVec 5) (w : BitVec 3) (sc : BitVec 2) (s : State) : Out :=
  atomicForm 0xAF d a b w sc 0 s

/-- AMAXN (R192). -/
def execAmaxn (d a b : BitVec 5) (w : BitVec 3) (sc : BitVec 2) (s : State) : Out :=
  atomicForm 0xB0 d a b w sc 0 s

/-- AAND (R192). -/
def execAand (d a b : BitVec 5) (w : BitVec 3) (sc : BitVec 2) (s : State) : Out :=
  atomicForm 0xB1 d a b w sc 0 s

/-- AOR (R192). -/
def execAor (d a b : BitVec 5) (w : BitVec 3) (sc : BitVec 2) (s : State) : Out :=
  atomicForm 0xB2 d a b w sc 0 s

/-- AXOR (R192). -/
def execAxor (d a b : BitVec 5) (w : BitVec 3) (sc : BitVec 2) (s : State) : Out :=
  atomicForm 0xB3 d a b w sc 0 s

/-- AXCHG (R192). -/
def execAxchg (d a b : BitVec 5) (w : BitVec 3) (sc : BitVec 2) (s : State) : Out :=
  atomicForm 0xB4 d a b w sc 0 s

/-- ACAS (R192). -/
def execAcas (d a b : BitVec 5) (w : BitVec 3) (sc : BitVec 2) (k : BitVec 3) (s : State) : Out :=
  atomicForm 0xB5 d a b w sc k s

/-- AFADD (R192). -/
def execAfadd (d a b : BitVec 5) (w : BitVec 3) (sc : BitVec 2) (s : State) : Out :=
  atomicForm 0xB6 d a b w sc 0 s

/-- ABADD2 (R192). -/
def execAbadd2 (d a b : BitVec 5) (w : BitVec 3) (sc : BitVec 2) (s : State) : Out :=
  atomicForm 0xB7 d a b w sc 0 s

/-- ATAKE (R192). -/
def execAtake (d a b : BitVec 5) (w : BitVec 3) (sc : BitVec 2) (s : State) : Out :=
  atomicForm 0xB8 d a b w sc 0 s

/-- AGIVE (R192). -/
def execAgive (d a b : BitVec 5) (w : BitVec 3) (sc : BitVec 2) (s : State) : Out :=
  atomicForm 0xB9 d a b w sc 0 s

/-- RADD (R193). -/
def execRadd (d a b : BitVec 5) (w : BitVec 3) (sc : BitVec 2) (s : State) : Out := reduceForm 0xBA d a b w sc s

/-- RMIN (R193). -/
def execRmin (d a b : BitVec 5) (w : BitVec 3) (sc : BitVec 2) (s : State) : Out := reduceForm 0xBB d a b w sc s

/-- RMAX (R193). -/
def execRmax (d a b : BitVec 5) (w : BitVec 3) (sc : BitVec 2) (s : State) : Out := reduceForm 0xBC d a b w sc s

/-- RMINN (R193). -/
def execRminn (d a b : BitVec 5) (w : BitVec 3) (sc : BitVec 2) (s : State) : Out := reduceForm 0xBD d a b w sc s

/-- RMAXN (R193). -/
def execRmaxn (d a b : BitVec 5) (w : BitVec 3) (sc : BitVec 2) (s : State) : Out := reduceForm 0xBE d a b w sc s

/-- RAND (R193). -/
def execRand (d a b : BitVec 5) (w : BitVec 3) (sc : BitVec 2) (s : State) : Out := reduceForm 0xBF d a b w sc s

/-- ROR (R193). -/
def execRor (d a b : BitVec 5) (w : BitVec 3) (sc : BitVec 2) (s : State) : Out := reduceForm 0xC0 d a b w sc s

/-- RXOR (R193). -/
def execRxor (d a b : BitVec 5) (w : BitVec 3) (sc : BitVec 2) (s : State) : Out := reduceForm 0xC1 d a b w sc s

/-- RFADD (R193). -/
def execRfadd (d a b : BitVec 5) (w : BitVec 3) (sc : BitVec 2) (s : State) : Out := reduceForm 0xC2 d a b w sc s

/-- RBADD2 (R193). -/
def execRbadd2 (d a b : BitVec 5) (w : BitVec 3) (sc : BitVec 2) (s : State) : Out := reduceForm 0xC3 d a b w sc s

end Sys2Proof.Machine
end

