-- ==== Sys2Proof/Machine/Mgmt.lean ====
section
/-! DEFINITION. The management space (spec/20 R410 to R412; spec/14 R322; spec/15 R356; spec/16 R362, R364; spec/17 R375,
R376; spec/19 R398; spec/22 R432): reading and writing its registers, and the commands that writes give. -/

namespace Sys2Proof.Machine

/-! Helpers. -/

/-- The low and the high word of a 64-bit register. -/
def lo (v : Nat) : Word := Word.ofNat v
def hi (v : Nat) : Word := Word.ofNat (v / 2 ^ 32)

/-- R410: a write of the low or the high half of an 8-byte register. -/
def setHalf (old : BitVec 64) (high : Bool) (v : Word) : BitVec 64 :=
  if high then BitVec.ofNat 64 (v.toNat * 2 ^ 32 + old.toNat % 2 ^ 32) else BitVec.ofNat 64 (old.toNat / 2 ^ 32 * 2 ^ 32 + v.toNat)

/-- The state after a step that goes on; the state before where it does not. -/
def stepped (o : Out) (s : State) : State :=
  match o with
  | .next t => t
  | _ => s

/-- Word `k` of a value whose bytes stand in order, the most significant first (`n` bytes in all). -/
def beWord (n v k : Nat) : Word := wordAt (bytesBE n v) (4 * k)

/-! The device header (R411). -/

/-- R411: the header at 0x00 to 0x0F, the seven capabilities from 0x10 on (notes/assumptions/28). -/
def headerWord (off : Nat) : Word :=
  if off = 0x00 then 0x47314D47
  else if off = 0x04 then Config.endpoint.setWidth 32
  else if off = 0x08 then 0x10
  else if 0x10 ≤ off ∧ off < 0x80 then
    let k := (off - 0x10) / 16
    match off % 16 / 4 with
    | 0 => Word.ofNat ((k + 1) * 2 ^ 16 + 2 ^ 8)
    | 1 => if k = 6 then 0 else Word.ofNat (0x10 + 16 * (k + 1))
    | _ => 0
  else 0

/-! Reading blocks. -/

/-- R356, R424, R428: the dispatcher block. -/
def State.dispWord (s : State) (off : Nat) : Word :=
  match off with
  | 0x100 => lo s.dfl.base.toNat
  | 0x104 => hi s.dfl.base.toNat
  | 0x108 => s.dfl.len
  | 0x10C => s.dfl.head
  | 0x110 => s.dfl.tail
  | 0x114 => s.dfl.lost
  | 0x200 => s.throtcnt
  | _ => 0

/-- R398: the translation block. -/
def State.tinvWord (s : State) (off : Nat) : Word := if off = 8 then s.tinv.status.setWidth 32 else 0

/-- R432: BOOT. -/
def BootSt.code : BootSt → Nat
  | .reset => 0
  | .verifying => 1
  | .running => 2
  | .fail => 3

/-- R433: an access entry as its 128 bits. -/
def Acl.bits (a : Acl) : Nat :=
  a.ctxmask.toNat * 2 ^ 64 + a.v.toNat * 2 ^ 63 + a.admin.toNat * 2 ^ 62 + a.mem.toNat * 2 ^ 61 + a.ep.toNat

/-- R433: an entry from its bits. -/
def aclOf (v : Nat) : Acl :=
  { ctxmask := BitVec.ofNat 64 (v / 2 ^ 64), v := v / 2 ^ 63 % 2 == 1, admin := v / 2 ^ 62 % 2 == 1, mem := v / 2 ^ 61 % 2 == 1
    ep := BitVec.ofNat 12 v }

/-- An access entry. -/
def Sec.at_ (c : Sec) (k : Nat) : Acl := c.acl[k % 64]'(Nat.mod_lt _ (by decide))

/-- R432: the security block. -/
def State.secWord (s : State) (off : Nat) : Word :=
  let c := s.sec
  if off = 0x00 then Word.ofNat (c.boot.code * 2 ^ 28 + c.copy.toNat)
  else if off = 0x04 then c.fwver
  else if 0x20 ≤ off ∧ off < 0x40 then beWord 32 c.fwmeas.toNat ((off - 0x20) / 4)
  else if 0x40 ≤ off ∧ off < 0x80 then beWord 64 c.idpub.toNat ((off - 0x40) / 4)
  else if off = 0x80 then c.measmask
  else if off = 0x208 then c.attstatus.setWidth 32
  else if 0x240 ≤ off ∧ off < 0x260 then beWord 32 c.nonce.toNat ((off - 0x240) / 4)
  else if 0x400 ≤ off ∧ off < 0x800 then Word.ofNat ((c.at_ ((off - 0x400) / 16)).bits / 2 ^ (32 * (off % 16 / 4)))
  else 0

/-- R360: the code of a context state. -/
def CtxSt.code : CtxSt → Nat
  | .free => 0
  | .creating => 1
  | .active => 2
  | .quiescing => 3
  | .suspended => 4
  | .faulted => 5
  | .destroying => 6

/-- R362: a context block. -/
def Ctx.word (c : Ctx) (off : Nat) : Word :=
  match off with
  | 0x00 => Word.ofNat (c.st.code * 2 ^ 28 + c.items.length)
  | 0x10 => c.status.setWidth 32
  | 0x18 => lo c.ptroot.toNat
  | 0x1C => hi c.ptroot.toNat
  | 0x20 => lo c.fqbase.toNat
  | 0x24 => hi c.fqbase.toNat
  | 0x28 => c.fqlen
  | 0x2C => c.fqhead
  | 0x30 => c.fqtail
  | 0x38 => lo c.eqbase.toNat
  | 0x3C => hi c.eqbase.toNat
  | 0x40 => c.eqlen
  | 0x44 => c.eqhead
  | 0x48 => c.eqtail
  | 0x50 => lo c.dlbase.toNat
  | 0x54 => hi c.dlbase.toNat
  | 0x58 => lo c.dlva.toNat
  | 0x5C => hi c.dlva.toNat
  | 0x60 => c.dlpages
  | 0x64 => c.dlctl
  | 0x68 => c.quota
  | 0x70 => lo c.savebase.toNat
  | 0x74 => hi c.savebase.toNat
  | 0x78 => lo c.savelen.toNat
  | 0x7C => hi c.savelen.toNat
  | 0x80 => c.discards
  | _ => 0

/-- R373: the code of a queue state. -/
def QSt.code : QSt → Nat
  | .disabled => 0
  | .active => 1
  | .spilling => 2
  | .spillFault => 3
  | .paused => 4
  | .drained => 5

/-- R375: a queue block. -/
def Queue.word (q : Queue) (off : Nat) : Word :=
  match off with
  | 0x00 => Word.ofNat (q.st.code * 2 ^ 28 + q.closed.toNat * 2 ^ 27 + q.slots.length * 2 ^ 23 + q.spilled)
  | 0x10 => q.cfg
  | 0x18 => lo q.spbase.toNat
  | 0x1C => hi q.spbase.toNat
  | 0x20 => q.splen
  | 0x24 => Word.ofNat q.head
  | 0x28 => Word.ofNat q.tail
  | 0x2C => q.enqcnt
  | 0x30 => q.nackcnt
  | 0x34 => q.lastnack.setWidth 32
  | 0x38 => q.status.setWidth 32
  | _ => 0

/-- R402: the code of a link state. -/
def LinkSt.code : LinkSt → Nat
  | .down => 0
  | .training => 1
  | .up => 2
  | .retrying => 3
  | .degraded => 4
  | .fenced => 5

/-- R412: a link block. -/
def Link.word (l : Link) (off : Nat) : Word :=
  match off with
  | 0x00 => Word.ofNat (l.st.code * 2 ^ 28 + l.lanes.toNat)
  | 0x10 => l.peer.setWidth 32
  | 0x18 => l.feccorr
  | 0x1C => l.crcerr
  | 0x20 => l.replays
  | 0x24 => l.retrains.setWidth 32
  | _ => 0

/-! Region blocks (R322, R323, R327, R338, R339). -/

/-- R320: the code of a region state. -/
def RegSt.code : RegSt → Nat
  | .free => 0
  | .loading => 1
  | .active => 2
  | .draining => 3
  | .frozen => 4
  | .saving => 5
  | .restoring => 6
  | .reloading => 7
  | .fenced => 8

/-- R327: a cache entry as its 128 bits. -/
def CacheEntry.bits (c : CacheEntry) : Nat :=
  c.v.toNat * 2 ^ 127 + c.pin.toNat * 2 ^ 126 + c.ctx.toNat * 2 ^ 120 + c.addr.toNat * 2 ^ 64 + c.image.toNat

/-- R338: an unhandled record. -/
def Unhandled.words (u : Unhandled) : List Word :=
  [u.payload, Word.ofNat (u.reason.toNat * 2 ^ 28 + u.entry.toNat * 2 ^ 24 + u.version.toNat),
    Word.ofNat (u.fab.toNat * 2 ^ 31 + u.sender.toNat), 0, 0, 0, lo u.stamp.toNat, hi u.stamp.toNat]

/-- R82: a fault register as its words. -/
def FaultReg.words (f : FaultReg) : List Word :=
  [Word.ofNat (f.code.toNat * 2 ^ 24 + f.rule.toNat * 2 ^ 20 + f.w.toNat * 2 ^ 17 + f.vav.toNat * 2 ^ 16 + f.user.toNat),
    f.opa, f.opb, f.offset, lo f.va.toNat, hi f.va.toNat, lo f.stamp.toNat, hi f.stamp.toNat]

/-- R322: the fault of a unit in the layout of R82. -/
def UFault.reg (f : UFault) : FaultReg :=
  { code := f.code, user := f.detail, vav := f.vav, offset := if f.vav then f.offset else 0
    va := if f.vav then BitVec.ofNat 64 f.va else 0, stamp := f.stamp }

/-- R322: the freeze of a copy engine in the layout of R82. -/
def TrigFreeze.reg (f : TrigFreeze) : FaultReg :=
  { code := f.code, opa := f.data, opb := Word.ofNat (f.port * 2 ^ 8 + f.tmpl), stamp := f.stamp }

/-- R322: FREG: the fault register of the FSEL target; zeros while it is not FROZEN or not in the region. -/
def State.freg (s : State) (reg : Nat) : FaultReg :=
  if !(s.region reg).st.holds then {}
  else match hwEnd (s.spanOf (s.taskOfRegion reg)) (s.region reg).fsel with
  | none => {}
  | some d =>
    if regionOfTile d.tile ≠ reg then {}
    else if kindOfTile d.tile = .c then
      if d.unit < 16 then
        let e := s.elem (elemOfTile d.tile d.unit)
        if e.life = .frozen then e.fault else {}
      else if d.unit = 18 then ((s.copyEng d.tile).freeze.map TrigFreeze.reg).getD {}
      else {}
    else
      match s.unit? (d.tile * 64 + d.unit) with
      | some u => if u.life = .frozen then u.fault.reg else {}
      | none => {}

/-- R282, R283, R322: UDATA as read. -/
def State.udata (s : State) (reg : Nat) : Word :=
  match s.uselUnit reg with
  | some (_, u, r) => (u.reg r).getD 0
  | none => 0

/-- R339: what a FENCED region still answers. -/
def fencedReads (off : Nat) : Bool := off < 4 || (8 ≤ off && off < 16) || (0x20 ≤ off && off < 0x60) || off == 0x64 || off == 0x6C

/-- R6, R126, R335: the fields of an end id, and those of the high half of a handler entry; the reserved bits read 0, whatever was
written (SIGCOMMIT still sees them, R336). -/
abbrev endFields : Word := 0xFFFFFF00
abbrev stageFields : Word := 0xFC00FFFF

/-- R322: a region block. -/
def State.regionWord (s : State) (reg off : Nat) : Word :=
  let r := s.region reg
  if r.st = .fenced ∧ !fencedReads off then 0
  else if off = 0x00 then Word.ofNat (r.st.code * 2 ^ 28 + r.ctx.toNat * 2 ^ 22 + r.task.toNat)
  else if off = 0x08 then lo r.cycle.toNat
  else if off = 0x0C then hi r.cycle.toNat
  else if 0x20 ≤ off ∧ off < 0x60 then Word.ofNat ((r.entry ((off - 0x20) / 16)).bits / 2 ^ (32 * (off % 16 / 4)))
  else if off = 0x60 then r.sinkcnt
  else if off = 0x64 then r.flushcnt
  else if off = 0x68 then r.chgen.setWidth 32
  else if off = 0x6C then r.reloads.setWidth 32
  else if off = 0x80 then r.fsel &&& endFields
  else if 0xA0 ≤ off ∧ off < 0xC0 then (s.freg reg).words.getD ((off - 0xA0) / 4) 0
  else if off = 0xC0 then lo r.usel.toNat &&& endFields
  else if off = 0xC4 then hi r.usel.toNat
  else if off = 0xC8 then s.udata reg
  else if 0x100 ≤ off ∧ off < 0x180 then
    Word.ofNat ((r.sig[(off - 0x100) / 8 % 16]'(Nat.mod_lt _ (by decide))).toNat / 2 ^ (32 * (off % 8 / 4)))
  else if off = 0x180 then lo r.sigstage.toNat &&& endFields
  else if off = 0x184 then hi r.sigstage.toNat &&& stageFields
  else if off = 0x188 then Word.ofNat r.sigbad.toNat
  else if off = 0x190 then Word.ofNat r.unh.length
  else if 0x1A0 ≤ off ∧ off < 0x1C0 then ((r.unh.head?.map Unhandled.words).getD []).getD ((off - 0x1A0) / 4) 0
  else 0

/-! Reading the space (R410). -/

/-- R410: the word at an offset that is a multiple of 4; reserved offsets read 0. -/
def State.mgmtWord (s : State) (off : Nat) : Word :=
  if off < 0x1000 then headerWord off
  else if off < 0x2000 then s.dispWord (off - 0x1000)
  else if off < 0x3000 then s.tinvWord (off - 0x2000)
  else if off < 0x4000 then s.secWord (off - 0x3000)
  else if 0x10000 ≤ off ∧ off < 0x14000 then (s.ctx ((off - 0x10000) / 256)).word (off % 256)
  else if 0x20000 ≤ off ∧ off < 0x40000 then (s.queue ((off - 0x20000) / 64)).word (off % 64)
  else if 0x40000 ≤ off ∧ off < 0x52000 then (s.link ((off - 0x40000) / 4096)).word (off % 4096)
  else if 0x100000 ≤ off ∧ off < 0x200000 then s.regionWord ((off - 0x100000) / 16384) (off % 16384)
  else 0

/-- R410: a read of 4 or 8 bytes. -/
def State.mgmtRead (s : State) (off : Nat) (wide : Bool) : Nat :=
  (s.mgmtWord off).toNat + (if wide then 2 ^ 32 * (s.mgmtWord (off + 4)).toNat else 0)

/-! Writing plain registers (R410). -/

/-- R424: the dispatcher block. -/
def State.dispWrite (s : State) (off : Nat) (v : Word) : State :=
  let d := s.dfl
  match off with
  | 0x100 => if d.en then s else { s with dfl := { d with base := setHalf d.base false v } }
  | 0x104 => if d.en then s else { s with dfl := { d with base := setHalf d.base true v } }
  | 0x108 =>
    { s with dfl := { d with len := Word.ofNat (fldN v 31 1 * 2 ^ 31 + (if d.en then fldN d.len 0 16 else fldN v 0 16)) } }
  | 0x10C => { s with dfl := { d with head := Word.ofNat (fldN v 0 16) } }
  | _ => s

/-- A byte of the nonce and what follows it, replaced word by word. -/
def setBeWord (n v k : Nat) (w : Word) : Nat :=
  let sh := 8 * (n - 4 * (k + 1))
  let be := (wordBytes w).foldl (fun a b => 256 * a + b.toNat) 0
  v / 2 ^ (sh + 32) * 2 ^ (sh + 32) + be * 2 ^ sh + v % 2 ^ sh

/-- R432: the security block's NONCE. -/
def State.secWrite (s : State) (off : Nat) (v : Word) : State :=
  if 0x240 ≤ off ∧ off < 0x260 then
    { s with sec := { s.sec with nonce := BitVec.ofNat 256 (setBeWord 32 s.sec.nonce.toNat ((off - 0x240) / 4) v) } }
  else s

/-- R362: a register of a dirty log, written while SUSPENDED: checked against the other areas. -/
def State.ctxChecked (s : State) (k : Nat) (c : Ctx) : State :=
  if c.areasOk then s.setCtx k c else s.setCtx k { s.ctx k with status := 2 }

/-- R362: a context block; a write out of state sets CSTATUS to 1. -/
def State.ctxWrite (s : State) (k off : Nat) (v : Word) : State :=
  let c := s.ctx k
  let free := fun (d : Ctx) => if c.st = .free then s.setCtx k d else s.ctxReject k
  let log := fun (d : Ctx) => if c.st = .free then s.setCtx k d else if c.st = .suspended then s.ctxChecked k d else s.ctxReject k
  let idx := Word.ofNat (fldN v 0 16)
  match off with
  | 0x18 => free { c with ptroot := setHalf c.ptroot false v }
  | 0x1C => free { c with ptroot := setHalf c.ptroot true v }
  | 0x20 => free { c with fqbase := setHalf c.fqbase false v }
  | 0x24 => free { c with fqbase := setHalf c.fqbase true v }
  | 0x28 => free { c with fqlen := idx }
  | 0x2C => s.setCtx k { c with fqhead := idx }
  | 0x38 => free { c with eqbase := setHalf c.eqbase false v }
  | 0x3C => free { c with eqbase := setHalf c.eqbase true v }
  | 0x40 => free { c with eqlen := idx }
  | 0x44 => s.setCtx k { c with eqhead := idx }
  | 0x50 => log { c with dlbase := setHalf c.dlbase false v }
  | 0x54 => log { c with dlbase := setHalf c.dlbase true v }
  | 0x58 => log { c with dlva := setHalf c.dlva false v }
  | 0x5C => log { c with dlva := setHalf c.dlva true v }
  | 0x60 => log { c with dlpages := v }
  | 0x64 => s.setCtx k { c with dlctl := Word.ofNat (fldN v 0 1) }
  | 0x70 => free { c with savebase := setHalf c.savebase false v }
  | 0x74 => free { c with savebase := setHalf c.savebase true v }
  | 0x78 => free { c with savelen := setHalf c.savelen false v }
  | 0x7C => free { c with savelen := setHalf c.savelen true v }
  | 0x00 => s.ctxReject k
  | 0x10 => s.ctxReject k
  | 0x30 => s.ctxReject k
  | 0x48 => s.ctxReject k
  | 0x80 => s.ctxReject k
  | _ => s

/-- R362, R410: an 8-byte register of a context, written whole. -/
def State.ctxWrite8 (s : State) (k off : Nat) (v : Dword) : State :=
  let c := s.ctx k
  let free := fun (d : Ctx) => if c.st = .free then s.setCtx k d else s.ctxReject k
  let log := fun (d : Ctx) => if c.st = .free then s.setCtx k d else if c.st = .suspended then s.ctxChecked k d else s.ctxReject k
  match off with
  | 0x18 => free { c with ptroot := v }
  | 0x20 => free { c with fqbase := v }
  | 0x38 => free { c with eqbase := v }
  | 0x50 => log { c with dlbase := v }
  | 0x58 => log { c with dlva := v }
  | 0x70 => free { c with savebase := v }
  | 0x78 => free { c with savelen := v }
  | _ => s

/-- R375: a queue block; a write out of state sets QSTATUS to 1. -/
def State.queueWrite (s : State) (k off : Nat) (v : Word) : State :=
  let q := s.queue k
  let off_ := fun (x : Queue) => if q.st = .disabled then s.setQueue k x else s.queueReject k
  match off with
  | 0x10 =>
    if q.st = .disabled then s.setQueue k { q with cfg := Word.ofNat (fldN v 16 6 * 2 ^ 16 + fldN v 0 2) }
    else if q.st = QSt.paused then s.setQueue k { q with cfg := Word.ofNat (fldN q.cfg 16 6 * 2 ^ 16 + fldN v 0 2) }
    else s.queueReject k
  | 0x18 => off_ { q with spbase := setHalf q.spbase false v }
  | 0x1C => off_ { q with spbase := setHalf q.spbase true v }
  | 0x20 => off_ { q with splen := Word.ofNat (fldN v 0 16) }
  | 0x00 => s.queueReject k
  | 0x24 => s.queueReject k
  | 0x28 => s.queueReject k
  | 0x2C => s.queueReject k
  | 0x30 => s.queueReject k
  | 0x34 => s.queueReject k
  | 0x38 => s.queueReject k
  | _ => s

/-- R322: a region block: FSEL, USEL, SIGSTAGE. -/
def State.regionWrite (s : State) (reg off : Nat) (v : Word) : State :=
  match off with
  | 0x80 => s.regWrite reg (fun r => { r with fsel := v })
  | 0xC0 => s.regWrite reg (fun r => { r with usel := BitVec.ofNat 36 (r.usel.toNat / 2 ^ 32 * 2 ^ 32 + v.toNat) })
  | 0xC4 => s.regWrite reg (fun r => { r with usel := BitVec.ofNat 36 (fldN v 0 4 * 2 ^ 32 + r.usel.toNat % 2 ^ 32) })
  | 0x180 => s.regWrite reg (fun r => { r with sigstage := setHalf r.sigstage false v })
  | 0x184 => s.regWrite reg (fun r => { r with sigstage := setHalf r.sigstage true v })
  | _ => s

/-- R410: a write of a 4-byte register, or of half an 8-byte one, that is no command and has no row of its own. -/
def State.plainWrite (s : State) (off : Nat) (v : Word) : State :=
  if off < 0x1000 then s
  else if off < 0x2000 then s.dispWrite (off - 0x1000) v
  else if off < 0x3000 then s
  else if off < 0x4000 then s.secWrite (off - 0x3000) v
  else if 0x10000 ≤ off ∧ off < 0x14000 then s.ctxWrite ((off - 0x10000) / 256) (off % 256) v
  else if 0x20000 ≤ off ∧ off < 0x40000 then s.queueWrite ((off - 0x20000) / 64) (off % 64) v
  else if 0x100000 ≤ off ∧ off < 0x200000 then s.regionWrite ((off - 0x100000) / 16384) (off % 16384) v
  else s

/-- R410: the 8-byte registers of a context that one write changes whole. -/
def ctxWide (off : Nat) : Bool :=
  decide (0x10000 ≤ off ∧ off < 0x14000) && [0x18, 0x20, 0x38, 0x50, 0x58, 0x70, 0x78].contains (off % 256)

/-- REGISTER_WRITE (R410): 4 bytes, or 8 bytes: an 8-byte register whole, or the two 4-byte registers of the 8 bytes. -/
def execRegisterWrite (off : Nat) (v : Dword) (wide : Bool) (s : State) : Out :=
  if !wide then .next (s.plainWrite off (lo v.toNat))
  else if ctxWide off then .next (s.ctxWrite8 ((off - 0x10000) / 256) (off % 256) v)
  else .next ((s.plainWrite off (lo v.toNat)).plainWrite (off + 4) (hi v.toNat))

/-! Access entries and MEASMASK (R432 to R434). -/

/-- R434: the entries as they will stand. -/
def Sec.coming (c : Sec) : Vector Acl 64 :=
  c.aclNew.foldl (fun (v : Vector Acl 64) x => v.set (x.1 % 64) x.2.1 (Nat.mod_lt _ (by decide))) c.acl

/-- R433: `n` bits of an entry are written as one; a write that leaves no valid ADMIN entry is ignored. -/
def Sec.writeBits (c : Sec) (off n v : Nat) : Sec :=
  if off < 0x400 ∨ 0x800 ≤ off then c
  else
    let k := (off - 0x400) / 16
    let sh := 32 * (off % 16 / 4)
    let old := (c.coming[k % 64]'(Nat.mod_lt _ (by decide))).bits
    let a := aclOf (old / 2 ^ (sh + n) * 2 ^ (sh + n) + v * 2 ^ sh + old % 2 ^ sh)
    let all := c.coming.set (k % 64) a (Nat.mod_lt _ (by decide))
    if all.toList.any (fun x => x.v && x.admin) then { c with aclNew := c.aclNew ++ [(k, a, none)] } else c

/-- ACL_WRITE (R410, R433, R434): `off` is an offset of the security block; 4 or 8 bytes of an entry, written as one. The entry is
in effect once the write's RESPONSE has been sent. -/
def execAclWrite (off : Nat) (v : Dword) (wide : Bool) (s : State) : Out :=
  .next { s with sec := if wide then s.sec.writeBits off 64 v.toNat else s.sec.writeBits off 32 (lo v.toNat).toNat }

/-- MEASMASK_WRITE (R432, R435): a bit that is set clears its context's measurement. -/
def execMeasmaskWrite (v : Dword) (_wide : Bool) (s : State) : Out :=
  let new := lo v.toNat
  let set := new &&& ~~~ s.sec.measmask
  .next { s with
    sec := { s.sec with measmask := new }
    ctxs := Table.mapAll s.ctxs (fun k c => if k < 32 ∧ set.getLsbD k then { c with meas := 0 } else c) }

/-! Attestation (R436). -/

/-- R436: the first 192 bytes of a report. -/
def State.reportBody (s : State) (cmd : Dword) : List Byte :=
  let ctxv := cmd.getLsbD 58
  let k := cmd.toNat / 2 ^ 52 % 64
  wordBytes 0x47314154 ++ wordBytes (Word.ofNat (ctxv.toNat * 2 ^ 31 + k * 2 ^ 16 + Config.endpoint.toNat))
    ++ bytesLE 8 (s.cycleOf 0).toNat ++ bytesBE 32 s.sec.nonce.toNat ++ bytesBE 32 s.sec.fwmeas.toNat
    ++ bytesBE 32 (if ctxv then (s.ctx k).meas.toNat else 0) ++ bytesBE 64 s.sec.idpub.toNat ++ List.replicate 16 0

/-- R436: the round in which ATTCMD was accepted has ended: the report takes NONCE and CTXMEAS as they stand. -/
def State.takeReport (s : State) : State :=
  match s.sec.report with
  | some (a, cmd, none) => { s with sec := { s.sec with report := some (a, cmd, some (s.reportBody cmd)) } }
  | _ => s

/-- REPORT (R436): ATTCMD REPORT; its contents are taken at the end of the round. -/
def execReport (cmd : Dword) (s : State) : Out :=
  let a := cmd.toNat % 2 ^ 52
  if s.sec.attstatus = 0xFF then .next s
  else if a % 256 ≠ 0 ∨ !areaOk a 256 then .next { s with sec := { s.sec with attstatus := 1 } }
  else .next { s with sec := { s.sec with attstatus := 0xFF, report := some (BitVec.ofNat 52 a, cmd, none) } }

/-- REPORT_DONE (R436): the signed report has performed at system scope. -/
def execReportDone (s : State) : Out :=
  match s.sec.report with
  | some (a, _, some body) =>
    let s1 := { s with mem := s.mem.writeBytes a.toNat (body ++ bytesBE 64 (Config.sm2Sign body).toNat) }.clearPoison a.toNat 256
    .next { s1 with sec := { s1.sec with attstatus := 0, report := none } }
  | _ => .next s

/-! Commands (R332, R356, R364, R376, R398, R412, R436). -/

/-- R375, R376: a queue command acts at the end of its round; QSTATUS reads 0xFF until then. -/
def State.queueCommand (s : State) (k : Nat) (e : Ev) : State :=
  { s.setQueue k { s.queue k with status := 0xFF } with agenda := s.agenda ++ [.ev e] }

/-- A command register's write: the step it gives, by the register and CMD. A write with a reserved bit set is ignored
(R376 for QCMD; DESIGN CHOICE elsewhere, log 29), and a RESOLVE with a reserved ACT is rejected (R361). -/
def State.command (s : State) (off : Nat) (v : Dword) : State :=
  let cmd := v.toNat / 2 ^ 60
  if off = 0x1000 then
    let c := v.toNat / 2 ^ 16 % 64
    let t := BitVec.ofNat 16 v.toNat
    if v.toNat / 2 ^ 22 % 2 ^ 38 ≠ 0 then s
    else
      match cmd with
      | 1 => stepped (execAbort c t s) s
      | 2 => stepped (execPreempt c t s) s
      | _ => s
  else if off = 0x2000 then
    match cmd with
    | 1 => stepped (execTinvPage v s) s
    | 2 => stepped (execTinvContext v s) s
    | _ => s
  else if off = 0x3200 then (if cmd = 1 then stepped (execReport v s) s else s)
  else if off < 0x14000 then
    let k := (off - 0x10000) / 256
    let h := v.toNat % 2 ^ 16
    if v.toNat / 2 ^ 18 % 2 ^ 42 ≠ 0 then s
    else
      match cmd with
      | 1 => if (s.ctx k).st = .free then stepped (execCreate k s) s else s.ctxReject k
      | 2 => stepped (execRestore k s) s
      | 3 => stepped (execQuiesce k s) s
      | 4 => stepped (execResume k s) s
      | 5 => stepped (execDestroy k s) s
      | 6 =>
        match v.toNat / 2 ^ 16 % 4 with
        | 0 => stepped (execResolveReplay k h s) s
        | 1 => stepped (execResolveDiscard k h s) s
        | _ => s.ctxReject k
      | 7 => stepped (execHarvest k s) s
      | _ => s
  else if off < 0x40000 then
    let k := (off - 0x20000) / 64
    if v.toNat % 2 ^ 60 ≠ 0 then s
    else
      match cmd with
      | 1 => s.queueCommand k (.queueEnable k)
      | 2 => s.queueCommand k (.queueDisable k)
      | 3 => s.queueCommand k (.pause k)
      | 4 => s.queueCommand k (.unpause k)
      | 5 => s.queueCommand k (.close k)
      | 6 => s.queueCommand k (.clear k)
      | _ => s
  else if off < 0x52000 then
    let k := (off - 0x40000) / 4096
    match cmd with
    | 1 => stepped (execLinkEnable k s) s
    | 2 => stepped (execLinkDisable k s) s
    | 3 => stepped (execLinkRetrain k s) s
    | 4 => stepped (execLinkFence k s) s
    | _ => s
  else
    let k := (off - 0x100000) / 16384
    if v.toNat / 2 ^ 32 % 2 ^ 28 ≠ 0 then s
    else
      match cmd with
      | 1 => stepped (execRegionResume k (lo v.toNat) s) s
      | 2 => stepped (execRegionFence k 0 s) s
      | _ => s

/-- R410: the command registers. -/
def isCommand (off : Nat) : Bool :=
  off == 0x1000 || off == 0x2000 || off == 0x3200
    || (decide (0x10000 ≤ off ∧ off < 0x14000) && off % 256 == 0x08)
    || (decide (0x20000 ≤ off ∧ off < 0x40000) && off % 64 == 0x08)
    || (decide (0x40000 ≤ off ∧ off < 0x52000) && off % 4096 == 0x08)
    || (decide (0x100000 ≤ off ∧ off < 0x200000) && off % 16384 == 0x10)

/-- Registers whose write is a row of the table: the step it gives. -/
def State.rowWrite (s : State) (off : Nat) (v : Word) : Option State :=
  if off = 0x3080 then some (stepped (execMeasmaskWrite (v.setWidth 64) false s) s)
  else if 0x3400 ≤ off ∧ off < 0x3800 then some (stepped (execAclWrite (off - 0x3000) (v.setWidth 64) false s) s)
  else if 0x10000 ≤ off ∧ off < 0x14000 ∧ off % 256 = 0x68 then some (stepped (execQuotaWrite ((off - 0x10000) / 256) v s) s)
  else if 0x100000 ≤ off ∧ off < 0x200000 then
    let k := (off - 0x100000) / 16384
    match off % 16384 with
    | 0xC8 => some (stepped (execUdataWrite k v s) s)
    | 0x188 => some (stepped (execSigcommit k v s) s)
    | 0x1C0 => some (stepped (execUnhpop k s) s)
    | _ => none
  else none

/-- R410: one 4-byte write. -/
def State.write4 (s : State) (off : Nat) (v : Word) : State :=
  match s.rowWrite off v with
  | some t => t
  | none => s.plainWrite off v

/-- R410: a MGMT write. -/
def State.mgmtWrite (s : State) (off : Nat) (v : Dword) (wide : Bool) : State :=
  if wide ∧ isCommand off then s.command off v
  else if wide ∧ ctxWide off then s.ctxWrite8 ((off - 0x10000) / 256) (off % 256) v
  else if wide ∧ 0x3400 ≤ off ∧ off < 0x3800 then stepped (execAclWrite (off - 0x3000) v true s) s
  else if wide then (s.write4 off (lo v.toNat)).write4 (off + 4) (hi v.toNat)
  else s.write4 off (lo v.toNat)

/-! MGMT (R406, R410, R434). -/

/-- R406: OPX bit 0 write, bit 1 size 8 bytes. -/
def mgmtHdr (t : Txn) : Bool :=
  let wr := t.opx.getLsbD 0
  let n := if t.opx.getLsbD 1 then 8 else 4
  txnHeadOk t 8 wr && decide (t.opx.toNat < 4 ∧ t.addr.toNat < 2 ^ 24 ∧ t.addr.toNat % n = 0) && t.len == (if wr then 1 else 0)

/-- R434: always allowed: a read of the device header, the capability list or the security block. -/
def mgmtFree (t : Txn) : Bool :=
  !t.opx.getLsbD 0 && (decide (t.addr.toNat < 0x1000) || decide (0x3000 ≤ t.addr.toNat ∧ t.addr.toNat < 0x4000))

/-- R434: ADMIN, or the endpoint serves the context of the block. -/
def State.mgmtAllowed (s : State) (t : Txn) : Bool :=
  let off := t.addr.toNat
  s.sec.admin t.src
    || (decide (0x10000 ≤ off ∧ off < 0x14000) && s.sec.serves t.src ((off - 0x10000) / 256))
    || (decide (0x20000 ≤ off ∧ off < 0x40000) && s.sec.serves t.src (s.queue ((off - 0x20000) / 64)).ctx)

/-- R434: an access-entry write waits for its RESPONSE. -/
def Sec.tagged (c : Sec) (t : Txn) : Sec :=
  { c with aclNew := c.aclNew.map (fun x => if x.2.2.isNone then (x.1, x.2.1, some (t.src.toNat, t.eseq.toNat)) else x) }

/-- MGMT (R406, R410). -/
def execMgmt (t : Txn) (s : State) : Out :=
  let off := t.addr.toNat
  let wide := t.opx.getLsbD 1
  .next (s.receive t (fun s =>
    s.gate t (mgmtHdr t) (mgmtFree t) (s.mgmtAllowed t) (fun s =>
      if t.opx.getLsbD 0 then
        let s1 := s.mgmtWrite off (BitVec.ofNat 64 (dwordAt t.data 0)) wide
        some ({ s1 with sec := s1.sec.tagged t }.respond t [])
      else some (s.respond t (unitOf (s.mgmtRead off wide) (if wide then 8 else 4))))))

end Sys2Proof.Machine
end

