-- ==== Sys2Proof/Machine/Node.lean ====
section
/-! DEFINITION. Tokens on their way and the life of an element (spec/01 R19 to R21; spec/03 R62, R72, R86 to R89; spec/14
R331). -/

namespace Sys2Proof.Machine

/-! Urgency (R72). -/

/-- RULE_URGENT (R72): a WAIT count one short of 15 reaches it, and the rule is urgent. -/
def execRuleUrgent (el rule : Nat) (s : State) : Out :=
  let e := s.elem el
  if e.life = .running ∧ (e.wait[rule % 16]'(Nat.mod_lt _ (by decide))) = 14 then
    .next (s.setElem el { e with wait := e.wait.set (rule % 16) 15 (Nat.mod_lt _ (by decide)) })
  else .next s

/-! Arrival (R21, R87, R88, R331). -/

/-- The node of an end is past MARK: a back edge of it records what arrives. -/
def State.pastMark (s : State) (d : EndPt) : Bool :=
  s.lifeAt d == .marked
    || (kindOfTile d.tile == .c && decide (d.unit < 16) && (s.elem (elemOfTile d.tile d.unit)).life == .frozen
        && (s.elem (elemOfTile d.tile d.unit)).markSent)

/-- A token enters the input end of a data channel; none while the end is full. -/
def State.arriveData (s : State) (c : Channel) (t : Token) : Option State :=
  let p := s.ports c.dst.tile c.dst.unit
  let i := p.inAt c.dst.port
  if c.back ∧ s.lifeAt c.dst = .drained ∧ t.tag = Tag.drain then some s
  else if c.back ∧ s.pastMark c.dst then
    some (s.setPorts c.dst.tile c.dst.unit (p.setIn c.dst.port { i with saved := i.saved ++ [t] }))
  else if i.room = 0 then none
  else some (s.enter c.dst t)

/-- A control token enters a control input; none while it is full. -/
def State.arriveCtl (s : State) (d : EndPt) : Option State :=
  let p := s.ports d.tile d.unit
  let i := p.cinAt d.port
  if i.room = 0 then none else some (s.setPorts d.tile d.unit (p.setCin d.port { i with held := i.held + 1 }))

/-- R21, R331: the token that heads a route reaches its end: a token of another generation is discarded and counted. A region
that has drained and is FREE again has no end: what reaches it is the DRAIN of a back edge (R88). -/
def State.arrive (s : State) (ch : Nat) : State :=
  match Table.get? s.chans ch with
  | none => s
  | some c =>
    match c.moving with
    | [] => s
    | m :: rest =>
      if m.left ≠ 0 then s
      else
        let gone := fun (s : State) => { s with chans := Table.put s.chans ch { c with moving := rest } }
        let reg := regionOfTile c.dst.tile
        let r := s.region reg
        if m.gen ≠ r.chgen then gone (s.setRegion reg { r with flushcnt := satAdd r.flushcnt 1 })
        else if r.st = .free ∨ r.st = .fenced then gone s
        else
          match (if c.ctl then s.arriveCtl c.dst else s.arriveData c m.tok) with
          | some s1 => gone s1
          | none => s

/-- TOKEN_ARRIVAL (R21, R331). -/
def execTokenArrival (ch : Nat) (s : State) : Out := .next (s.arrive ch)

/-! The route (R19, R21, R65). -/

/-- R65: the token that heads the output end of a channel enters its route, which holds one token for each stage. -/
def State.depart (s : State) (ch : Nat) : State :=
  match Table.get? s.chans ch with
  | none => s
  | some c =>
    if c.delay ≤ c.moving.length then s
    else
      let p := s.ports c.frm.tile c.frm.unit
      let gen := (s.region (regionOfTile c.frm.tile)).chgen
      if c.ctl then
        let o := p.coutAt c.frm.port
        if o.held = 0 then s
        else
          { s.setPorts c.frm.tile c.frm.unit (p.setCout c.frm.port { o with held := o.held - 1 }) with
            chans := Table.put s.chans ch { c with moving := c.moving ++ [⟨⟨0, 0⟩, c.delay - 1, gen⟩] } }
      else
        let o := p.outAt c.frm.port
        match o.head with
        | none => s
        | some t =>
          { s.setPorts c.frm.tile c.frm.unit (p.setOut c.frm.port { o with slots := o.slots.tail }) with
            chans := Table.put s.chans ch { c with moving := c.moving ++ [⟨t, c.delay - 1, gen⟩] } }

/-- One round of a route: its tokens move on, the head of its output end enters it, its own head may arrive. -/
def State.route (s : State) (ch : Nat) : State :=
  match Table.get? s.chans ch with
  | none => s
  | some c =>
    let on : List Moving := c.moving.map (fun m => { m with left := m.left - 1 })
    ({ s with chans := Table.put s.chans ch { c with moving := on } }.depart ch).arrive ch

/-! Whey lanes (R19, R276). -/

/-- The token that heads a producer's whey output. -/
def State.wheyHead (s : State) (f : EndPt) : Option WheyTok :=
  match kindOfTile f.tile with
  | .c =>
    if f.unit < 16 then (s.elem (elemOfTile f.tile f.unit)).whey.head?
    else if f.port = 8 then (s.press f.tile).wheyConv.head?
    else (s.press f.tile).wheySeg.head?
  | _ => (s.unit? (f.tile * 64 + f.unit)).bind (fun u => u.whey.head?)

/-- That token leaves. -/
def State.wheyDrop (s : State) (f : EndPt) : State :=
  match kindOfTile f.tile with
  | .c =>
    if f.unit < 16 then
      let el := elemOfTile f.tile f.unit
      s.setElem el { s.elem el with whey := (s.elem el).whey.tail }
    else if f.port = 8 then s.setPress f.tile { s.press f.tile with wheyConv := (s.press f.tile).wheyConv.tail }
    else s.setPress f.tile { s.press f.tile with wheySeg := (s.press f.tile).wheySeg.tail }
  | _ =>
    match s.unit? (f.tile * 64 + f.unit) with
    | some u => s.setUnit (f.tile * 64 + f.unit) { u with whey := u.whey.tail }
    | none => s

/-- A token enters an input of an adder node, which holds one group of each. -/
def State.wheyEnter (s : State) (d : EndPt) (t : WheyTok) : Option State :=
  match s.unit? (d.tile * 64 + d.unit) with
  | none => none
  | some u =>
    match u.st with
    | .whey ins seq g =>
      let l := ins.getD d.port []
      if 4 ≤ l.length then none
      else some (s.setUnit (d.tile * 64 + d.unit) { u with st := .whey (ins.set d.port (l ++ [t])) seq g })
    | _ => none

/-- One round of a whey lane. -/
def State.wheyLane (s : State) (k : Nat) : State :=
  match Table.get? s.wheys k with
  | none => s
  | some c =>
    let on := c.moving.map (fun m => (m.1, m.2 - 1))
    let s1 : State × List (WheyTok × Nat) :=
      if c.delay ≤ on.length then (s, on)
      else
        match s.wheyHead c.frm with
        | some t => (s.wheyDrop c.frm, on ++ [(t, c.delay - 1)])
        | none => (s, on)
    let s2 : State × List (WheyTok × Nat) :=
      match s1.2 with
      | (t, 0) :: rest =>
        match s1.1.wheyEnter c.node t with
        | some u => (u, rest)
        | none => s1
      | _ => s1
    { s2.1 with wheys := Table.put s2.1.wheys k { c with moving := s2.2 } }

/-! HALTED (R89). -/

/-- R89: a HALTED element discards one token at an input end's head. -/
def Elem.discardIn (e : Elem) (k : Nat) : Elem :=
  match e.headTok k with
  | some _ => { e with ports := e.ports.take k, disc := satAdd e.disc 1 }
  | none => e

/-- R89: and one control token of a control input. -/
def Elem.discardCin (e : Elem) (k : Nat) : Elem :=
  let c := e.ports.cinAt k
  if c.held = 0 then e else { e with ports := e.ports.setCin k { c with held := c.held - 1 }, disc := satAdd e.disc 1 }

/-- HALTED_DISCARD (R89): one token of each end. -/
def execHaltedDiscard (el : Nat) (s : State) : Out :=
  let e := s.elem el
  if e.life ≠ .halted then .next s
  else .next (s.setElem el ((List.range 4).foldl Elem.discardCin ((List.range 8).foldl Elem.discardIn e)))

/-! MARK (R87). -/

/-- The forward input ends. -/
def Elem.forward (e : Elem) : List InEnd := e.ports.ins.toList.filter (fun i => i.wired && !i.back)

/-- R87: MARK heads every forward input end, DRAIN counting as marked; the task is being pre-empted. -/
def State.markHeads (s : State) (el : Nat) : Bool := s.preempting (regionOfElem el) && (s.elem el).forward.all InEnd.markHead

/-- R87, R186: no operation is pending that must complete first. -/
def Elem.settledPend (e : Elem) : Bool := e.pend.all (fun (p : Pend) => p.job.saved)

/-- R186, R317, R387: every BARARR of the element that waits for a release is parked at its barrier, with no release on its way,
and every walk that a Loupe has taken is SAVED there: one that reads or returns completes first. -/
def State.parkedAll (s : State) (el : Nat) : Bool :=
  (s.elem el).pend.all (fun (p : Pend) =>
    (p.job != .barPark || s.waiters.any (fun w => w.el == el && w.pend == p.id))
      && (p.job != .walk || s.loupes.any (fun l => l.2.slots.toList.any (fun x => x.st == .saved && x.el == el && x.pend == p.id))))

/-- R87 item 3: the ends that MARK goes to: output ends, and 8 + k for a bound control end. -/
def Elem.markEnds (e : Elem) : List Nat :=
  e.ports.wiredOuts ++ (List.range 4).filterMap (fun k => if (e.binds[k % 4]'(Nat.mod_lt _ (by decide))).en then some (8 + k) else none)

/-- R87 item 3: MARK, or one control token, on each end that has room; the others stay owed. -/
def Elem.payMark (e : Elem) : List Nat → Elem × List Nat
  | [] => (e, [])
  | k :: ks =>
    if k < 8 then
      if (e.ports.outAt k).slots.length < 2 then Elem.payMark { e with ports := e.ports.push k ⟨0, Tag.mark⟩ } ks
      else ((Elem.payMark e ks).1, k :: (Elem.payMark e ks).2)
    else
      let c := e.ports.coutAt (k - 8)
      if c.room = 0 then ((Elem.payMark e ks).1, k :: (Elem.payMark e ks).2)
      else Elem.payMark { e with ports := e.ports.setCout (k - 8) { c with held := c.held + 1 } } ks

/-- R387: the entry reserved for a waiter is one of `ids`. -/
def Slot.waits (ids : List Nat) : Slot → Bool
  | .held id => ids.contains id
  | .full _ => false

/-- R87, R387: an end whose entry waits for a saved barrier waiter keeps that entry and those behind it, to be saved with
it, so that MARK is enqueued behind what can still leave. -/
def OutEnd.setAside (o : OutEnd) (ids : List Nat) : OutEnd :=
  { o with slots := o.slots.takeWhile (fun x => !x.waits ids), keep := o.slots.dropWhile (fun x => !x.waits ids) }

/-- The same at every output end of an element. -/
def Elem.setAside (e : Elem) (ids : List Nat) : Elem :=
  { e with ports := { e.ports with outs := e.ports.outs.map (fun o => o.setAside ids) } }

/-- R86, R387: the element is past MARK; its parked barrier waiters are saved with the task. -/
def State.mark (s : State) (el : Nat) : State :=
  match s.saveWaiters el with
  | (s1, ws) =>
    let e := (s1.elem el).setAside (ws.map (fun w => w.pend))
    match e.payMark e.markEnds with
    | (e1, left) =>
      (s1.setElem el { e1 with owed := left, markSent := true, life := if e.life = .frozen then .frozen else .marked }).modTask
        (s1.taskOfElem el) (fun t => { t with save := t.save.map (fun v => { v with waiters := v.waiters ++ ws }) })

/-- ELEMENT_MARK (R86, R87, R387): the element stops and enqueues MARK, or goes on enqueuing it as room allows. -/
def execElementMark (el : Nat) (s : State) : Out :=
  let e := s.elem el
  if (e.life = .running ∨ e.life = .halted ∨ e.life = .frozen) ∧ !e.markSent then
    if s.markHeads el ∧ e.settledPend ∧ s.parkedAll el then .next (s.mark el) else .next s
  else if e.markSent ∧ !e.owed.isEmpty then
    match e.payMark e.owed with
    | (e1, left) => .next (s.setElem el { e1 with owed := left })
  else .next s

/-! DRAIN (R88). -/

/-- R75, R88, R186: the operation owes a register write, or, on the port lane, a token or a verdict (notes/assumptions/68). The
token of an ALU rule holds its place on the end, and DRAIN follows it there. -/
def Pend.owes (p : Pend) : Bool :=
  match p.job with
  | .timed => !p.locs.isEmpty || (p.port && !p.ends.isEmpty)
  | .barWait _ _ => true
  | .bar _ => true
  | _ => !p.locs.isEmpty || !p.ends.isEmpty || !p.puts.isEmpty

/-- R66: the rule may fire at all: V, DIS and its guard. -/
def Elem.enabled (e : Elem) (k : Nat) : Bool :=
  fldN (e.guardOf k) 0 1 == 1 && !e.dis.getLsbD (k % 16) && e.guardHolds (e.guardOf k)

/-- R88: DRAIN heads every forward input end. -/
def Elem.draining (e : Elem) : Bool := e.forward.all InEnd.drainHead

/-- R88: after a round's choice: a rule that fired is no longer latent, one whose guard fails becomes so until DRAIN heads the
forward ends, so that each holds DRAIN at most once after that (notes/assumptions/78). -/
def Elem.watch (e : Elem) (fired : List Nat) : Elem :=
  { e with latent := BitVec.ofNat 16 ((List.range 16).foldl (fun n k =>
      if !fired.contains k && (e.latent.getLsbD k || (!e.draining && !e.enabled k)) then n + 2 ^ k else n) 0) }

/-- R88: a rule that an earlier firing of the element has newly enabled, with its operands there, has still to fire. -/
def Elem.owesRule (e : Elem) : Bool :=
  (List.range 16).any (fun k =>
    let w := e.actOf k
    e.latent.getLsbD k && e.enabled k
      && (noA (opcOf w) || (e.src? (fld w 14 5)).isSome || plainCodes (opcOf w))
      && (noB (opcOf w) || (e.src? (fld w 9 5)).isSome || plainCodes (opcOf w)))

/-- R88: the five conditions, and no newly enabled rule (notes/assumptions/78); the final whey group needs the element's whey
output free (R56). Which operations still owe: notes/assumptions/68. -/
def Elem.drainOk (e : Elem) : Bool :=
  e.draining && !e.owesRule
    && e.ports.ins.toList.all (fun i => !i.wired || !i.back || i.buf.isEmpty || i.drainHead)
    && e.cycles.all (fun c => c.occ == 0) && !e.pend.any Pend.owes
    && e.ports.wiredOuts.all (fun k => decide (1 ≤ (e.ports.outAt k).room))
    && (!e.wheyOn || e.whey.isEmpty)

/-- R56, R88: the final whey group, of every increment, then DRAIN on every output end. -/
def Elem.drain (e : Elem) : Elem :=
  let all := ((e.stats.add e.now).add e.due)
  { e with
    life := .drained
    ports := e.ports.wiredOuts.foldl (fun p k => p.push k ⟨0, Tag.drain⟩) e.ports
    whey := if e.wheyOn then
      wheyGroup (all.sat.setWidth 32) (all.nan.setWidth 32) (all.inf.setWidth 32) (all.flush.setWidth 32) 0xF 0
      else e.whey
    stats := if e.wheyOn then {} else e.stats
    now := if e.wheyOn then {} else e.now
    due := if e.wheyOn then {} else e.due }

/-- ELEMENT_DRAIN_FORWARD (R88, R89). -/
def execElementDrainForward (el : Nat) (s : State) : Out :=
  let e := s.elem el
  if (e.life = .running ∨ e.life = .halted) ∧ e.drainOk then .next (s.setElem el e.drain) else .next s

end Sys2Proof.Machine
end

