-- ==== Sys2Proof/Machine/Round.lean ====
section
/-! DEFINITION. ROUND (spec/03 R70 to R72; spec/01 R20 to R25): the counters and timers of a round, the movement of tokens,
the choice of every Prism and Loupe, and the steps that the round may take. What the spec fixes in time happens when it says; what
it leaves open happens when a free choice says (notes/assumptions/5). -/

namespace Sys2Proof.Machine

/-! Timers. -/

/-- R75: rounds left of the results under way; R43, R57: the increments of the last round are in the counters, and those of
results that become visible now are this round's. -/
def Elem.tick (e : Elem) : Elem :=
  { e with
    pend := e.pend.map (fun p => { p with left := p.left - 1 })
    stats := e.stats.add e.now, now := e.due, due := {} }

/-- R21, R78, R186: the way left of an access's flit, which begins when its port queue hands it on, and its age. -/
def Access.tick (held : Bool) (a : Access) : Access := { a with left := if held then a.left else a.left - 1, age := a.age + 1 }

/-- R21: the way left of a walk's submission or result. -/
def Loupe.tick (l : Loupe) : Loupe := { l with slots := l.slots.map (fun x => { x with left := x.left - 1 }) }

/-- R228, R246, R249: rounds left of commands, of result tokens, of withheld grants. -/
def Press.tick (p : Press) : Press :=
  { p with
    queue := p.queue.map (fun x => { x with left := x.left - 1 })
    result := p.result.map (fun x => { x with left := x.left - 1 })
    held := p.held - 1 }

/-- R272: rounds left before a Splitter asks again. -/
def SUnit.tick (u : SUnit) : SUnit :=
  match u.st with
  | .split a b c retry d e f g => { u with st := .split a b c (retry - 1) d e f g }
  | _ => u

/-- R24, R333: a region's counter, and the rounds since its signature was checked or its reload began. -/
def Region.tick (r : Region) : Region :=
  if r.awake then { r with cycle := r.cycle + 1, sigage := if r.st.reloads ∨ r.st = .reloading then r.sigage + 1 else 0 } else r

/-- R25: the 64 regions, each leaving reset when a free choice says; one that does counts as freed in that round (R347). -/
def State.tickRegions (s : State) : State :=
  { s with
    regions := (List.range 64).foldl (fun t k =>
      let r := s.region k
      Table.put t k (if r.awake then r.tick else { r with awake := Config.choice (s.tick + k), freed := s.round + 1 })) s.regions
    tick := s.tick + 64 }

/-- R340, R346, R350, R359, R363: a task whose regions are claimed is LOADING; an ABORT of the round before acts; the rounds that a
task has stood, and those of its quantum; charging stops once a source has injected DRAIN, and while an expiry or PREEMPT is
pending. -/
def Task.tick (t : Task) : Task :=
  { t with
    st := if t.st = .binding then .loading else t.st
    ending := if t.abort ∧ t.ending.isNone ∧ t.final.isNone then some (.aborted, 0) else t.ending
    abort := false
    age := if t.st = .ready ∨ t.st = .suspended ∨ t.st = .loading then t.age + 1 else 0
    quantum := if t.st = .running ∧ !t.expire then (if t.drainIn then none else t.quantum.map (fun n => n - 1)) else t.quantum }

/-- R345: the rounds since the head record became the head. -/
def Queue.tick (q : Queue) : Queue := if q.slots.isEmpty ∨ 2 ^ 20 ≤ q.age then q else { q with age := q.age + 1 }

/-- R407: the age of an unanswered transaction. -/
def Endpoint.tick (e : Endpoint) : Endpoint := { e with sent := e.sent.map (fun x => (x.1, x.2 + 1)) }

/-- R202, R205: what a copy engine commits at the end of a round. -/
def CopyEng.commit (c : CopyEng) : CopyEng :=
  let done := c.zeroed &&& ~~~ c.issued
  { c with
    bitmap := ((c.bitmap ||| done) &&& ~~~ c.issued) &&& ~~~ (c.cleared &&& ~~~ c.zeroed)
    issued := 0, zeroed := 0, cleared := 0
    arms := c.rearm.foldl (fun v x => v.set x.1.toNat x.2 x.1.isLt) c.arms
    rearm := [] }

/-- All timers of a round. -/
def State.timers (s : State) : State :=
  let s1 := s.tickRegions
  let s2 := { s1 with
    elems := Table.mapAll s1.elems (fun _ e => e.tick)
    presses := Table.mapAll s1.presses (fun _ p => p.tick)
    units := Table.mapAll s1.units (fun _ u => u.tick)
    copies := Table.mapAll s1.copies (fun _ c => c.commit)
    tasks := Table.mapAll s1.tasks (fun _ t => t.tick)
    queues := Table.mapAll s1.queues (fun _ q => q.tick)
    eps := Table.mapAll s1.eps (fun _ e => e.tick)
    links := Table.mapAll s1.links (fun _ l => l.tick)
    loupes := Table.mapAll s1.loupes (fun _ l => l.tick)
    accs := s1.accs.map (fun a => a.tick (s1.queued a || s1.heldLoad a))
    pwalks := s1.pwalks.map (fun w => { w with left := w.left - 1 })
    bars := s1.bars.map (fun o => { o with left := o.left - 1 })
    releases := s1.releases.map (fun r => { r with left := r.left - 1 })
    signals := s1.signals.map (fun g => { g with left := g.left - 1 })
    govAge := s1.govAge + 1
    round := s1.round + 1 }
  if (s2.cycleOf 0).toNat % 2 ^ 30 = 0 then s2.scrubPeriod else s2

/-! Movement (R19 to R21, R386). -/

/-- R386: releases that have come to their tile (R21) and that a free choice delivers now; the rules of the next round see them. -/
def State.releaseSome (s : State) : State :=
  let s1 := s.releases.zipIdx.foldl (fun s x => if x.1.left = 0 ∧ Config.choice (s.tick + x.2) then s.deliverRelease x.1 else s) s
  { s1 with tick := s.tick + s.releases.length }

/-- Every route and whey lane. -/
def State.move (s : State) : State :=
  let s1 := s.chans.keys.foldl State.route s
  s1.wheys.keys.foldl State.wheyLane s1

/-! What runs (R86, R321, R331, R333, R339). -/

/-- The region lets its components act. -/
def RegSt.lets (r : RegSt) : Bool := r == .active || r == .frozen || r == .draining || r == .saving

/-- The region's components act: not while it reloads, nor once its task is ending, nor in a FAULTED context (R417). -/
def State.lets (s : State) (reg : Nat) : Bool :=
  (s.region reg).st.lets && (match s.task? (s.taskOfRegion reg) with
    | some t => t.ending.isNone && t.final.isNone && (s.ctx t.ctx).st != .faulted
    | none => false)

/-- R321: the states that follow from a configuration error of the round before, and from the elements and units. -/
def State.regionStates (s : State) : State := (List.range 64).foldl (fun s r => ((s.enterReload r).freezeState r).drainState r) s

/-! The Press grants and the governor (R223, R428). -/

/-- R428: a share of the rounds, which a free choice names, withholds issue while the governor throttles. -/
def State.withheld (s : State) : Bool := s.throttle && Config.choice s.tick

/-- R223: the grant of every Press, in a round that withholds issue or not. -/
def State.grants (s : State) (w : Bool) : State :=
  let s1 := { s with presses := Table.mapAll s.presses (fun t p =>
    let q := { p with throttled := w }
    { q with grant := if s.lets (regionOfTile t) then q.granted (s.askers t) else none }) }
  { s1 with tick := s.tick + 1, throtcnt := if w then satAdd s.throtcnt 1 else s.throtcnt }

/-! The Prism of every element (R70, R71, R87, R88). -/

/-- R69, R70, R223: the ready set of an element. -/
def State.readySet (s : State) (el : Nat) (k : Nat) : Bool :=
  let pr := s.press (tileOfElem el)
  (s.elem el).ready pr (pr.grant == some (el % 16)) k

/-- R87, R88: the element has stopped, for MARK or to forward DRAIN. -/
def State.stopped (s : State) (el : Nat) : Bool := s.markHeads el || (s.elem el).drainOk

/-- R333: the element reads an uncorrectable word of its configuration in this round: the outside world brings the error to its
region (CONFIG_STORE_ERROR), and a free choice names the element. -/
def State.misreads (s : State) (el : Nat) : Bool :=
  (s.inputs.headD []).any (fun x => x == .configStoreError (regionOfElem el)) && Config.pick s.tick == el

/-- R70, R71, R207, R428: the rules that an element fires, and the element after the choice. One that misreads its configuration
fires nothing (R333). In a withheld round an element that would issue an ALU rule issues nothing and its WAIT counts stand, so that
its rules fire together as they would have (notes/assumptions/79). -/
def State.select (s : State) (el : Nat) (withheld : Bool) : List Nat × Elem :=
  let e := s.elem el
  if e.life ≠ .running ∨ !s.lets (regionOfElem el) then ([], e)
  else if e.barred then ([], { e with rot := e.rot + 1 })
  else
    let ready := s.readySet el
    if s.misreads el || s.stopped el then ([], e.turned ready [])
    else
      let fired := e.prism ready
      if withheld && fired.any (fun k => laneOf (opcOf (e.actOf k)) == .alu) then ([], { e with rot := e.rot + 1 })
      else (fired, (e.turned ready fired).watch fired)

/-- R161, R423: an opcode whose ALU result is complete rounds after its issue, and one whose result is complete at once. -/
def aluLate (op : Nat) : Bool := decide (0x60 ≤ op ∧ op ≤ 0x96)
def aluNow (op : Nat) : Bool := laneOf op == .alu && !pressOp op && !aluLate op

/-- R423: a mismatch stands to be found in a unit (tile × 64 + UNIT). -/
def State.upsetIn (s : State) (unit : Nat) : Bool := s.upsets.contains unit

/-- R423: the mismatch is found: the result is not delivered. -/
def State.mismatch (s : State) (unit : Nat) : State := { s with upsets := s.upsets.erase unit }.residueFail (unit / 64)

/-- R423: a mismatch falls on the ALU rule of an element that fires one of latency 1 now. -/
def State.upset (s : State) (el : Nat) (fired : List Nat) : Bool :=
  s.upsetIn (tileOfElem el * 64 + el % 16) && fired.any (fun k => aluNow (opcOf ((s.elem el).actOf k)))

/-- The rules of one element for this round, after those of the elements before it. -/
def State.selectOne (withheld : Bool) (acc : State × List Todo) (el : Nat) : State × List Todo :=
  match acc.1.select el withheld with
  | (fired, e) =>
    let s1 := acc.1.setElem el e
    if acc.1.upset el fired then
      let left := fired.filter (fun k => !aluNow (opcOf (e.actOf k)))
      (s1.mismatch (tileOfElem el * 64 + el % 16), acc.2 ++ left.map (fun k => Todo.fire el k))
    else (s1, acc.2 ++ fired.map (fun k => Todo.fire el k))

/-- R70: every element chooses. -/
def State.prisms (s : State) (withheld : Bool) : State × List Todo := s.elems.keys.foldl (State.selectOne withheld) (s, [])

/-! The Loupes (R310). -/

/-- R310, R20: up to 4 running walks, round-robin after the slot last served. -/
def Loupe.serve (l : Loupe) : List Nat :=
  ((((List.range 32).map (fun k => (l.rr + 1 + k) % 32)).filter (fun k => (l.slot k).st == .running))).take 4

/-- R310: the walks that fire, of every Loupe. -/
def State.walks (s : State) : State × List Todo :=
  s.loupes.foldl (fun acc x =>
    let ks := if s.lets (regionOfTile x.1) then x.2.serve else []
    match ks.getLast? with
    | none => acc
    | some k => (acc.1.setLoupe x.1 { x.2 with rr := k }, acc.2 ++ ks.map (fun k => Todo.walk x.1 k))) (s, [])

/-! The steps a round may take. Each is marked `true` when it must be tried in this round. -/

/-- A step that is tried in its round. -/
def must (b : Bool) (e : Ev) : List (Bool × Ev) := if b then [(true, e)] else []
/-- A step whose round a free choice names. -/
def may (b : Bool) (e : Ev) : List (Bool × Ev) := if b then [(false, e)] else []

/-- R78, R300: the elements with a posted operation that must perform soon: 3,800 of its 4,096 rounds are over. -/
def State.dueElems (s : State) : List Nat :=
  (s.accs.filter (fun a => a.posted && decide (3800 ≤ a.age) && (match a.st with
    | .point => true
    | .ready _ => true
    | _ => false))).flatMap (fun a => match a.src with
      | .elem el _ => [el]
      | _ => [])

/-- R300: a posted operation of the tile, or of the region, may wait for what its copy engine, or its Loupe, does next. -/
def dueTile (due : List Nat) (t : Nat) : Bool := due.any (fun el => tileOfElem el == t)
def dueRegion (due : List Nat) (reg : Nat) : Bool := due.any (fun el => regionOfElem el == reg)

/-- The steps of an issued operation; a request acts where it goes once its flit is there (R21). A walk that a posted operation
about to be overdue waits behind is tried (R300). -/
def pendSteps (due : Bool) (el : Nat) (p : Pend) : List (Bool × Ev) :=
  match p.job with
  | .timed => must (p.left == 0) (.longLatencyCommit el p.id)
  | .fence _ _ _ => [(true, .fenceComplete el p.id)]
  | .copyIssue _ _ _ => [(true, .copyIssueDeferred el p.id)]
  | .tag _ _ _ => [(true, .copyIssueDeferred el p.id)]
  | .barWait _ _ => [(true, .bararrSend el p.id)]
  | .walkIssue _ _ _ => if p.left = 0 then [(due, .walkAccept el p.id)] else []
  | .clock => may (p.left == 0) (.clockRead el p.id)
  | .xctl _ _ _ arrived => may (p.left == 0 && !arrived) (.unitRegisterRead el p.id)
  | .xstat _ _ => may (p.left == 0) (.unitRegisterRead el p.id)
  | _ => []

/-- The steps of an element. -/
def State.elemSteps (s : State) (due : List Nat) (el : Nat) (e : Elem) : List (Bool × Ev) :=
  e.pend.flatMap (pendSteps (due.contains el) el)
    ++ (if s.lets (regionOfElem el) then
      must (e.life == .halted) (.haltedDiscard el)
        ++ must (s.preempting (regionOfElem el)) (.elementMark el)
        ++ must ((e.life == .running || e.life == .halted) && e.drainOk) (.elementDrainForward el) else [])

/-- The step of an access whose flit is where it goes (R21); every access of an element with a posted operation that must
perform soon is tried, and those of the copies and walks that the operation may wait behind. -/
def accSteps (due : List Nat) (a : Access) : List (Bool × Ev) :=
  let now := match a.src with
    | .elem el _ => due.contains el
    | .copy t _ => dueTile due t
    | .walk t _ => dueRegion due (regionOfTile t)
    | _ => false
  if a.left ≠ 0 then []
  else
    match a.st with
    | .point => if a.posted then [(now, .postedTranslate a.id)] else [(now, .memoryAccessAtHome a.id)]
    | .ready _ => [(now, .memoryAccessAtHome a.id)]
    | .done _ => [(false, .memoryResponse a.id)]
    | .dropped => [(false, .memoryResponse a.id)]
    | .fabric _ _ => [(false, .memoryResponse a.id)]
    | .failed _ => match a.src with
      | .gone _ _ => [(false, .memoryResponse a.id)]
      | _ => []
    | _ => []

/-- The step of a page walk: one that an overdue operation may wait for is tried. -/
def walkSteps (due : List Nat) (w : PWalk) : List (Bool × Ev) :=
  if w.left ≠ 0 then [] else [(due.any (fun el => etileOf (regionOfElem el) == w.etile), .pageWalk w.id)]

/-- The step of a barrier operation: at its home, or its verdict at its element. -/
def barSteps (o : BarOp) : List (Bool × Ev) :=
  may (o.left == 0) (if o.verdict.isSome then .barrierVerdict o.id else .barrierHomeOp o.id)

/-- The steps of a copy engine. A copy whose accesses have performed completes also once its task is ending (R331). -/
def State.copySteps (s : State) (due : List Nat) (t : Nat) (c : CopyEng) : List (Bool × Ev) :=
  if c.on ∧ s.lets (regionOfTile t) then
    [(true, .copyTrigger t)]
      ++ c.flights.flatMap (fun f => [(dueTile due t, .copyTransfer t f.id), (dueTile due t, .copyComplete t f.id)])
      ++ must (s.preempting (regionOfTile t)) (.copyEngineMark t) ++ [(true, .copyEngineDrain t)]
  else c.flights.map (fun f => (true, .copyComplete t f.id))

/-- R423: the commands whose result the multiplier lanes form: products, and the readout's scale. -/
def PCmd.multiplies : PCmd → Bool
  | .pseg _ _ => true
  | .pdense _ _ _ => true
  | .pouter _ _ _ => true
  | .pread _ _ _ _ => true
  | _ => false

/-- The steps of a Press. A result token is delivered, and DRAIN goes, before the command of the round performs, so that a group
that closes holds what was committed before (R57, R226). An upset stops the command that would perform (R423). -/
def State.pressSteps (s : State) (t : Nat) (p : Press) : List (Bool × Ev) :=
  (if s.lets (regionOfTile t) then
      must (!p.result.isEmpty) (.pressResultDelivery t) ++ must (p.on && s.preempting (regionOfTile t)) (.pressMark t)
        ++ must p.on (.pressDrain t) else [])
    ++ must (match p.queue with
      | x :: _ => x.left == 0 && !(s.upsetIn (t * 64 + 16) && x.cmd.multiplies)
      | [] => false) (.pressCommandPerform t)

/-- The working steps of a unit, by its kind. -/
def unitWork (k : Nat) : UKind → List (Bool × Ev)
  | .scan => [(true, .scannerStep k)]
  | .isect => [(true, .intersecterStep k)]
  | .rep => [(true, .repeaterStep k)]
  | .red => [(true, .reducerStep k), (true, .reducerFlush k)]
  | .nm => [(true, .nmDecoderStep k)]
  | .aper => [(true, .apertureStep k)]
  | .split => [(true, .splitterStep k), (false, .splitterSlotRetry k), (true, .splitterSpillWrite k), (true, .splitterSpillRead k)]
  | .coll => [(true, .collimatorStep k)]
  | .whey => [(true, .wheyAdderStep k), (true, .wheyRootWrite k)]
  | .brine => [(true, .brineWheyEmit k)]

/-- The steps of a unit: at most one working step in a round (R253). -/
def State.unitSteps (s : State) (k : Nat) (u : SUnit) : List (Bool × Ev) :=
  if s.lets (regionOfTile (k / 64)) then
    must (!u.xctl.isEmpty) (.xctlApply k) ++ unitWork k u.kind
      ++ must (s.preempting (regionOfTile (k / 64))) (.unitMark k) ++ [(true, .unitDrain k)]
  else []

/-- R333: issued operations of a region complete, also while it reloads. -/
def State.completes (s : State) (reg : Nat) : Bool :=
  s.lets reg || ((s.region reg).st == .reloading && (match s.task? (s.taskOfRegion reg) with
    | some t => t.ending.isNone && t.final.isNone
    | none => false))

/-- The steps of a Loupe besides its walks' rules. -/
def State.loupeSteps (s : State) (due : List Nat) (t : Nat) (l : Loupe) : List (Bool × Ev) :=
  (List.range 32).flatMap (fun k =>
    match (l.slot k).st with
    | .reading => [(dueRegion due (regionOfTile t), .walkReadReturn t k)]
    | .returning => must (s.completes (regionOfTile t) && (l.slot k).left == 0) (.walkResultDelivery t k)
    | _ => [])

/-- R103, R330: the ends of a region's sources and sinks, served before the rules of the round: they act on the tokens that the
rounds before have left. -/
def State.endSteps (s : State) (reg : Nat) (r : Region) : List Ev :=
  if s.lets reg then
    (List.range r.sources.length).map (fun k => Ev.sourceInject reg k) ++ (List.range r.sinks.length).map (fun k => Ev.sinkTake reg k)
  else []

/-- The steps of a region controller; a reload completes within 8,192 rounds (R333). -/
def regionSteps (reg : Nat) (r : Region) : List (Bool × Ev) :=
  must (r.st == .draining) (.regionDrainComplete reg)
    ++ (if r.st = .reloading then [(decide (8000 ≤ r.sigage), .configReloadDone reg)] else [])
    ++ must (r.st.reloads && decide (2250000 ≤ r.sigage)) (.configSignatureCheck reg)

/-- R21: a load has stood as long as the longest of its reads takes, from any region of the span. -/
def State.loadReady (s : State) (t : Task) : Bool :=
  decide (1024 ≤ t.age) || t.regions.all (fun reg =>
    decide (s.readWay (etileOf reg) t.ctx (recImgva t.record) (4 * s.imageLen t.ctx (recImgva t.record)) ≤ t.age)
      && decide (s.readWay (etileOf reg) t.ctx (recArgva t.record) (4 * recArglen t.record) ≤ t.age))

/-- The steps of a task. One that enters DRAINING in this round does not retire before the next, so that an ABORT of the round is
obeyed (R359). -/
def State.taskSteps (s : State) (k : Nat) (t : Task) : List (Bool × Ev) :=
  let on := (s.ctx t.ctx).st != .faulted
  may (on && t.st == .loading && s.loadReady t) (.imageLoad k) ++ must (t.quantum == some 0) (.quantumExpiry k) ++ must (on && t.st == .running) (.markInject k)
    ++ may (on && t.st == .preempting) (.taskSaveComplete k) ++ must (on && t.st == .running) (.taskDrainDetect k)
    ++ must (on && t.st == .draining && t.ending.isNone) (.taskRetire k) ++ may t.ending.isSome (.taskRetire k)

/-- R332: the freezes of a context that have still to be posted, as region and stamp, and the records that wait to be written. -/
def State.freezes (s : State) (ctx : Nat) : List (Nat × Dword) :=
  ((s.elems.filter (fun x => x.2.unposted)).map (fun x => (regionOfElem x.1, x.2.fault.stamp))
    ++ (s.units.filter (fun x => x.2.unposted)).map (fun x => (regionOfTile (x.1 / 64), x.2.fault.stamp))
    ++ s.copies.filterMap (fun x => if x.2.unposted then x.2.freeze.map (fun f => (regionOfTile x.1, f.stamp)) else none)).filter
      (fun x => s.ctxOfRegion x.1 == ctx)
    ++ (s.ctx ctx).faults.map (fun r => (fldN (r.getD 0 0) 14 6, BitVec.ofNat 64 ((r.getD 6 0).toNat + 2 ^ 32 * (r.getD 7 0).toNat)))

/-- R332: the records that a context has to write now: all of them, once one is 900 of its 1,024 rounds old. -/
def State.postDue (s : State) (ctx : Nat) : Nat :=
  let l := s.freezes ctx
  if l.any (fun x => decide (900 ≤ (s.cycleOf x.1 - x.2).toNat)) then l.length else 0

/-- The steps of a context: an event that a posted operation about to be overdue waits behind, and a freeze that has to be posted,
are tried (R300, R332). -/
def ctxSteps (event : Bool) (freezes k : Nat) (c : Ctx) : List (Bool × Ev) :=
  if c.st = .free then []
  else
    (event, .eventRecordWrite k) :: (false, .faultRecordPost k) :: List.replicate freezes (true, .faultRecordPost k) ++ may (c.st == .creating && !c.making) (.contextRestoreDone k)
      ++ may (c.st == .creating && c.making) (.create k)
      ++ may (c.st == .quiescing) (.quiesceComplete k) ++ may c.resuming (.resume k) ++ may (c.st == .destroying) (.destroyComplete k)
      ++ (match c.harvest with
        | some (0, _) => [(false, .harvestComplete k)]
        | some (_ + 1, _) => [(false, .harvest k)]
        | none => [])

/-- The steps of a queue. -/
def queueSteps (k : Nat) (q : Queue) : List (Bool × Ev) :=
  may (!q.spill.isEmpty) (.enqSpillDone k)

/-- R380: what comes first in a round: the queues whose head record is aged now (R345), then the admission, then the refills, also
that of a slot just freed. -/
def State.firstSteps (s : State) : List Ev :=
  (s.queues.filter (fun x => !x.2.slots.isEmpty && !x.2.old && decide (2 ^ 20 ≤ x.2.age))).map (fun x => Ev.queueAged x.1)
    ++ (if s.queues.any (fun x => s.eligible x.2) then [Ev.dispatchAdmit] else [])
    ++ (s.queues.filter (fun x => decide (0 < x.2.spilled))).map (fun x => Ev.queueRefillDone x.1)

/-- R376: a queue command takes effect at the end of its round. -/
def isQueueCommand : Ev → Bool
  | .queueEnable _ => true
  | .queueDisable _ => true
  | .pause _ => true
  | .unpause _ => true
  | .close _ => true
  | .clear _ => true
  | _ => false

/-- The steps of an endpoint: the held transaction that is next, and those to resend (R407). -/
def epSteps (k : Nat) (e : Endpoint) : List (Bool × Ev) :=
  (e.held.filter (fun t => t.eseq == e.expect)).map (fun t => (true, txnStep t))
    ++ (e.sent.filter (fun x => decide (225000 ≤ x.2))).map (fun x => (true, .transactionResend k x.1.eseq))

/-- The steps of the hub. -/
def State.hubSteps (s : State) : List (Bool × Ev) :=
  must (s.reserve.isSome || s.tasks.any (fun x => decide (2 ^ 22 ≤ x.2.age))) .bindReservation
    ++ must (s.tasks.any (fun x => s.bindable x.2)) .taskBind
    ++ may (s.tinv.status == 0xFF) .tinvComplete ++ may (s.sec.boot == .reset || s.sec.boot == .verifying) .boot
    ++ may s.sec.report.isSome .reportDone ++ may (!s.dfl.hold.isEmpty && s.dfl.en) .dflRecordWrite
    ++ must (decide (256 ≤ s.govAge)) .powerGovernorSample

/-- R435: insert by the first region id of the span. -/
def homeInsert (x : Nat × Task) : List (Nat × Task) → List (Nat × Task)
  | [] => [x]
  | y :: l => if x.2.home < y.2.home then x :: y :: l else y :: homeInsert x l

/-- R435: the tasks, by the first region id of their spans. -/
def State.byHome (s : State) : List (Nat × Task) := s.tasks.foldl (fun l x => homeInsert x l) []

/-- All the steps that this round may take. -/
def State.steps (s : State) : List (Bool × Ev) :=
  let due := s.dueElems
  s.elems.flatMap (fun x => s.elemSteps due x.1 x.2) ++ s.units.flatMap (fun x => s.unitSteps x.1 x.2)
    ++ s.presses.flatMap (fun x => s.pressSteps x.1 x.2) ++ s.copies.flatMap (fun x => s.copySteps due x.1 x.2)
    ++ s.loupes.flatMap (fun x => s.loupeSteps due x.1 x.2) ++ s.accs.flatMap (accSteps due)
    ++ s.bars.flatMap barSteps ++ s.pwalks.flatMap (walkSteps due) ++ s.regions.flatMap (fun x => regionSteps x.1 x.2)
    ++ s.signals.flatMap (fun g => may (g.left == 0) (.signalHandle g.id)) ++ s.byHome.flatMap (fun x => s.taskSteps x.1 x.2)
    ++ s.ctxs.flatMap (fun x => ctxSteps (due.any (fun el => s.ctxOfRegion (regionOfElem el) == x.1)) (s.postDue x.1) x.1 x.2) ++ s.queues.flatMap (fun x => queueSteps x.1 x.2)
    ++ s.eps.flatMap (fun x => epSteps x.1 x.2) ++ s.hubSteps ++ s.flaws.map (fun f => (false, .scrubPass f.group none))

/-- The steps taken: those that must be tried, and those that free choice number `n` on names. -/
def chosen : Nat → List (Bool × Ev) → List Ev
  | _, [] => []
  | n, (b, e) :: t => if b || Config.choice n then e :: chosen (n + 1) t else chosen (n + 1) t

/-- R423: a Press whose command would perform now with a wrong residue: the command is gone. -/
def State.pressUpsets (s : State) : State :=
  s.presses.foldl (fun s x =>
    match x.2.queue with
    | y :: rest => if s.upsetIn (x.1 * 64 + 16) ∧ y.left = 0 ∧ y.cmd.multiplies then (s.popCommand x.1 (s.press x.1) rest).mismatch (x.1 * 64 + 16) else s
    | [] => s) s

/-- R423: the ALU result of an element that would commit now. -/
def Elem.aluDone (e : Elem) : Option Pend :=
  e.pend.find? (fun p => p.job == .timed && p.left == 0 && aluLate (opcOf (e.actOf p.rule.toNat)))

/-- R423: an element whose result of several rounds would commit now with a wrong residue: the result is gone. -/
def State.aluUpsets (s : State) : State :=
  s.elems.foldl (fun s x =>
    match x.2.aluDone with
    | some p =>
      if s.upsetIn (tileOfElem x.1 * 64 + x.1 % 16) then
        (s.setElem x.1 { s.elem x.1 with pend := (s.elem x.1).pend.filter (fun q => q.id != p.id) }).mismatch (tileOfElem x.1 * 64 + x.1 % 16)
      else s
    | none => s) s

/-- R432: the security processor has begun its check. -/
def State.bootBegins (s : State) : State :=
  if s.sec.boot = .reset ∧ Config.choice s.tick then { s with sec := { s.sec with boot := .verifying }, tick := s.tick + 1 } else s

/-- Everything before the choices of a round. -/
def State.advance (s : State) : State := (s.takeReport.timers.move.regionStates.transmit.bootBegins).strikes.losses.bankFences

/-- ROUND (R24, R70, R71, R310): a round begins: counters and timers advance, tokens move, each Prism and each Loupe chooses,
and the steps of the round stand in the agenda, after what the outside world does. -/
def execRound (s : State) : Out :=
  let s0 := s.advance
  let s1 := s0.grants s0.withheld
  match s1.prisms s0.withheld with
  | (s2, fires) =>
    match s2.walks with
    | (s3, ws) =>
      let l := s1.steps
      let input := s.inputs.headD []
      let s4 := s3.pressUpsets.aluUpsets.releaseSome
      .next { s4 with
        agenda := s1.firstSteps.map Todo.ev ++ (input.filter (fun x => !isQueueCommand x)).map Todo.ev
          ++ (s1.regions.flatMap (fun x => s1.endSteps x.1 x.2)).map Todo.ev ++ fires ++ ws ++ (chosen s4.tick l).map Todo.ev
          ++ (input.filter isQueueCommand).map Todo.ev
        inputs := s4.inputs.tail
        tick := s4.tick + l.length }

end Sys2Proof.Machine
end

