-- ==== Sys2Proof/Machine/Dispatch.lean ====
section
/-! DEFINITION. The meaning of every instruction, one arm for each constructor. -/

namespace Sys2Proof.Machine

/-- What an instruction does to the state. -/
def exec (i : Instr) (s : State) : Host.Outcome State Fault Refusal :=
  match i with
  | .nop idx p => Sys2Proof.Machine.execNop idx p s
  | .mov d a idx p t => Sys2Proof.Machine.execMov d a idx p t s
  | .pass d a idx p => Sys2Proof.Machine.execPass d a idx p s
  | .drop a idx p => Sys2Proof.Machine.execDrop a idx p s
  | .sel d a b idx p t => Sys2Proof.Machine.execSel d a b idx p t s
  | .steer d a b idx p => Sys2Proof.Machine.execSteer d a b idx p s
  | .tagof d a idx p t => Sys2Proof.Machine.execTagof d a idx p t s
  | .mktag d a b idx p => Sys2Proof.Machine.execMktag d a b idx p s
  | .pand d a b idx p t => Sys2Proof.Machine.execPand d a b idx p t s
  | .por d a b idx p t => Sys2Proof.Machine.execPor d a b idx p t s
  | .pxor d a b idx p t => Sys2Proof.Machine.execPxor d a b idx p t s
  | .pnot d a idx p t => Sys2Proof.Machine.execPnot d a idx p t s
  | .pmov d a idx p t => Sys2Proof.Machine.execPmov d a idx p t s
  | .ptod d idx p t => Sys2Proof.Machine.execPtod d idx p t s
  | .dtop a => Sys2Proof.Machine.execDtop a s
  | .iter d a idx p => Sys2Proof.Machine.execIter d a idx p s
  | .cntrd d a idx p t => Sys2Proof.Machine.execCntrd d a idx p t s
  | .cntset d a idx p => Sys2Proof.Machine.execCntset d a idx p s
  | .halt => Sys2Proof.Machine.execHalt s
  | .add d a b idx p t => Sys2Proof.Machine.execAdd d a b idx p t s
  | .sub d a b idx p t => Sys2Proof.Machine.execSub d a b idx p t s
  | .adds d a b idx p t => Sys2Proof.Machine.execAdds d a b idx p t s
  | .subs d a b idx p t => Sys2Proof.Machine.execSubs d a b idx p t s
  | .addsn d a b idx p t => Sys2Proof.Machine.execAddsn d a b idx p t s
  | .subsn d a b idx p t => Sys2Proof.Machine.execSubsn d a b idx p t s
  | .neg d a idx p t => Sys2Proof.Machine.execNeg d a idx p t s
  | .abs d a idx p t => Sys2Proof.Machine.execAbs d a idx p t s
  | .mul d a b idx p t => Sys2Proof.Machine.execMul d a b idx p t s
  | .mulh d a b idx p t => Sys2Proof.Machine.execMulh d a b idx p t s
  | .mulhn d a b idx p t => Sys2Proof.Machine.execMulhn d a b idx p t s
  | .mac d a b idx p t => Sys2Proof.Machine.execMac d a b idx p t s
  | .min d a b idx p t => Sys2Proof.Machine.execMin d a b idx p t s
  | .max d a b idx p t => Sys2Proof.Machine.execMax d a b idx p t s
  | .minn d a b idx p t => Sys2Proof.Machine.execMinn d a b idx p t s
  | .maxn d a b idx p t => Sys2Proof.Machine.execMaxn d a b idx p t s
  | .and d a b idx p t => Sys2Proof.Machine.execAnd d a b idx p t s
  | .or d a b idx p t => Sys2Proof.Machine.execOr d a b idx p t s
  | .xor d a b idx p t => Sys2Proof.Machine.execXor d a b idx p t s
  | .andn d a b idx p t => Sys2Proof.Machine.execAndn d a b idx p t s
  | .orn d a b idx p t => Sys2Proof.Machine.execOrn d a b idx p t s
  | .not d a idx p t => Sys2Proof.Machine.execNot d a idx p t s
  | .shl d a b idx p t => Sys2Proof.Machine.execShl d a b idx p t s
  | .shr d a b idx p t => Sys2Proof.Machine.execShr d a b idx p t s
  | .sar d a b idx p t => Sys2Proof.Machine.execSar d a b idx p t s
  | .rol d a b idx p t => Sys2Proof.Machine.execRol d a b idx p t s
  | .clz d a idx p t => Sys2Proof.Machine.execClz d a idx p t s
  | .ctz d a idx p t => Sys2Proof.Machine.execCtz d a idx p t s
  | .popc d a idx p t => Sys2Proof.Machine.execPopc d a idx p t s
  | .brev d a idx p t => Sys2Proof.Machine.execBrev d a idx p t s
  | .bfx d a b idx p t => Sys2Proof.Machine.execBfx d a b idx p t s
  | .bfxs d a b idx p t => Sys2Proof.Machine.execBfxs d a b idx p t s
  | .bfi d a b idx p t => Sys2Proof.Machine.execBfi d a b idx p t s
  | .cmpeq d a b idx p t => Sys2Proof.Machine.execCmpeq d a b idx p t s
  | .cmpne d a b idx p t => Sys2Proof.Machine.execCmpne d a b idx p t s
  | .cmplt d a b idx p t => Sys2Proof.Machine.execCmplt d a b idx p t s
  | .cmple d a b idx p t => Sys2Proof.Machine.execCmple d a b idx p t s
  | .cmpltn d a b idx p t => Sys2Proof.Machine.execCmpltn d a b idx p t s
  | .cmplen d a b idx p t => Sys2Proof.Machine.execCmplen d a b idx p t s
  | .addh2 d a b idx p t => Sys2Proof.Machine.execAddh2 d a b idx p t s
  | .subh2 d a b idx p t => Sys2Proof.Machine.execSubh2 d a b idx p t s
  | .maxh2 d a b idx p t => Sys2Proof.Machine.execMaxh2 d a b idx p t s
  | .minh2 d a b idx p t => Sys2Proof.Machine.execMinh2 d a b idx p t s
  | .addb4 d a b idx p t => Sys2Proof.Machine.execAddb4 d a b idx p t s
  | .subb4 d a b idx p t => Sys2Proof.Machine.execSubb4 d a b idx p t s
  | .maxb4 d a b idx p t => Sys2Proof.Machine.execMaxb4 d a b idx p t s
  | .minb4 d a b idx p t => Sys2Proof.Machine.execMinb4 d a b idx p t s
  | .dot4 d a b idx p t => Sys2Proof.Machine.execDot4 d a b idx p t s
  | .dot4n d a b idx p t => Sys2Proof.Machine.execDot4n d a b idx p t s
  | .lea d a b idx p s_ => Sys2Proof.Machine.execLea d a b idx p s_ s
  | .hash d a b idx p t => Sys2Proof.Machine.execHash d a b idx p t s
  | .xsh d a idx p t => Sys2Proof.Machine.execXsh d a idx p t s
  | .divn d a b idx p t => Sys2Proof.Machine.execDivn d a b idx p t s
  | .remn d a b idx p t => Sys2Proof.Machine.execRemn d a b idx p t s
  | .fadd d a b idx p t => Sys2Proof.Machine.execFadd d a b idx p t s
  | .fsub d a b idx p t => Sys2Proof.Machine.execFsub d a b idx p t s
  | .fmul d a b idx p t => Sys2Proof.Machine.execFmul d a b idx p t s
  | .ffma d a b idx p t => Sys2Proof.Machine.execFfma d a b idx p t s
  | .fmin d a b idx p t => Sys2Proof.Machine.execFmin d a b idx p t s
  | .fmax d a b idx p t => Sys2Proof.Machine.execFmax d a b idx p t s
  | .fabs d a idx p t => Sys2Proof.Machine.execFabs d a idx p t s
  | .fneg d a idx p t => Sys2Proof.Machine.execFneg d a idx p t s
  | .fcpys d a b idx p t => Sys2Proof.Machine.execFcpys d a b idx p t s
  | .fcmpeq d a b idx p t => Sys2Proof.Machine.execFcmpeq d a b idx p t s
  | .fcmplt d a b idx p t => Sys2Proof.Machine.execFcmplt d a b idx p t s
  | .fcmple d a b idx p t => Sys2Proof.Machine.execFcmple d a b idx p t s
  | .fcmpun d a b idx p t => Sys2Proof.Machine.execFcmpun d a b idx p t s
  | .fclass d a idx p t => Sys2Proof.Machine.execFclass d a idx p t s
  | .fdiv d a b idx p t => Sys2Proof.Machine.execFdiv d a b idx p t s
  | .fsqrt d a idx p t => Sys2Proof.Machine.execFsqrt d a idx p t s
  | .frcpe d a idx p t => Sys2Proof.Machine.execFrcpe d a idx p t s
  | .frsqe d a idx p t => Sys2Proof.Machine.execFrsqe d a idx p t s
  | .fex2 d a idx p t => Sys2Proof.Machine.execFex2 d a idx p t s
  | .flg2 d a idx p t => Sys2Proof.Machine.execFlg2 d a idx p t s
  | .frint d a idx p t => Sys2Proof.Machine.execFrint d a idx p t s
  | .ffloor d a idx p t => Sys2Proof.Machine.execFfloor d a idx p t s
  | .fceil d a idx p t => Sys2Proof.Machine.execFceil d a idx p t s
  | .ftrnc d a idx p t => Sys2Proof.Machine.execFtrnc d a idx p t s
  | .badd2 d a b idx p t => Sys2Proof.Machine.execBadd2 d a b idx p t s
  | .bsub2 d a b idx p t => Sys2Proof.Machine.execBsub2 d a b idx p t s
  | .bmul2 d a b idx p t => Sys2Proof.Machine.execBmul2 d a b idx p t s
  | .bfma2 d a b idx p t => Sys2Proof.Machine.execBfma2 d a b idx p t s
  | .bmax2 d a b idx p t => Sys2Proof.Machine.execBmax2 d a b idx p t s
  | .bmin2 d a b idx p t => Sys2Proof.Machine.execBmin2 d a b idx p t s
  | .hadd2 d a b idx p t => Sys2Proof.Machine.execHadd2 d a b idx p t s
  | .hsub2 d a b idx p t => Sys2Proof.Machine.execHsub2 d a b idx p t s
  | .hmul2 d a b idx p t => Sys2Proof.Machine.execHmul2 d a b idx p t s
  | .hfma2 d a b idx p t => Sys2Proof.Machine.execHfma2 d a b idx p t s
  | .hmax2 d a b idx p t => Sys2Proof.Machine.execHmax2 d a b idx p t s
  | .hmin2 d a b idx p t => Sys2Proof.Machine.execHmin2 d a b idx p t s
  | .cvtfi d a idx p t => Sys2Proof.Machine.execCvtfi d a idx p t s
  | .cvtif d a idx p t => Sys2Proof.Machine.execCvtif d a idx p t s
  | .cvtifz d a idx p t => Sys2Proof.Machine.execCvtifz d a idx p t s
  | .cvtbf d a b idx p t => Sys2Proof.Machine.execCvtbf d a b idx p t s
  | .cvtbfz d a b idx p t => Sys2Proof.Machine.execCvtbfz d a b idx p t s
  | .cvthf d a b idx p t => Sys2Proof.Machine.execCvthf d a b idx p t s
  | .cvthfz d a b idx p t => Sys2Proof.Machine.execCvthfz d a b idx p t s
  | .cvtfb d a b idx p t => Sys2Proof.Machine.execCvtfb d a b idx p t s
  | .cvtfh d a b idx p t => Sys2Proof.Machine.execCvtfh d a b idx p t s
  | .cvte4 d a b idx p t => Sys2Proof.Machine.execCvte4 d a b idx p t s
  | .cvte4z d a b idx p t => Sys2Proof.Machine.execCvte4z d a b idx p t s
  | .cvte5 d a b idx p t => Sys2Proof.Machine.execCvte5 d a b idx p t s
  | .cvte5z d a b idx p t => Sys2Proof.Machine.execCvte5z d a b idx p t s
  | .cvtfe4 d a b idx p t => Sys2Proof.Machine.execCvtfe4 d a b idx p t s
  | .cvtfe5 d a b idx p t => Sys2Proof.Machine.execCvtfe5 d a b idx p t s
  | .cvtq4 d a b idx p t => Sys2Proof.Machine.execCvtq4 d a b idx p t s
  | .cvtq4z d a b idx p t => Sys2Proof.Machine.execCvtq4z d a b idx p t s
  | .cvtfq4 d a b idx p t => Sys2Proof.Machine.execCvtfq4 d a b idx p t s
  | .qsc d a idx p t => Sys2Proof.Machine.execQsc d a idx p t s
  | .ld8 d a w s_ => Sys2Proof.Machine.execLd8 d a w s_ s
  | .ld8s d a w s_ => Sys2Proof.Machine.execLd8s d a w s_ s
  | .ld16 d a w s_ => Sys2Proof.Machine.execLd16 d a w s_ s
  | .ld16s d a w s_ => Sys2Proof.Machine.execLd16s d a w s_ s
  | .ld32 d a w s_ => Sys2Proof.Machine.execLd32 d a w s_ s
  | .st8 d a b w s_ => Sys2Proof.Machine.execSt8 d a b w s_ s
  | .st16 d a b w s_ => Sys2Proof.Machine.execSt16 d a b w s_ s
  | .st32 d a b w s_ => Sys2Proof.Machine.execSt32 d a b w s_ s
  | .ldg d a w s_ f => Sys2Proof.Machine.execLdg d a w s_ f s
  | .stg d a b w s_ f => Sys2Proof.Machine.execStg d a b w s_ f s
  | .fence d s_ => Sys2Proof.Machine.execFence d s_ s
  | .aadd d a b w s_ => Sys2Proof.Machine.execAadd d a b w s_ s
  | .asub d a b w s_ => Sys2Proof.Machine.execAsub d a b w s_ s
  | .amin d a b w s_ => Sys2Proof.Machine.execAmin d a b w s_ s
  | .amax d a b w s_ => Sys2Proof.Machine.execAmax d a b w s_ s
  | .aminn d a b w s_ => Sys2Proof.Machine.execAminn d a b w s_ s
  | .amaxn d a b w s_ => Sys2Proof.Machine.execAmaxn d a b w s_ s
  | .aand d a b w s_ => Sys2Proof.Machine.execAand d a b w s_ s
  | .aor d a b w s_ => Sys2Proof.Machine.execAor d a b w s_ s
  | .axor d a b w s_ => Sys2Proof.Machine.execAxor d a b w s_ s
  | .axchg d a b w s_ => Sys2Proof.Machine.execAxchg d a b w s_ s
  | .acas d a b w s_ k => Sys2Proof.Machine.execAcas d a b w s_ k s
  | .afadd d a b w s_ => Sys2Proof.Machine.execAfadd d a b w s_ s
  | .abadd2 d a b w s_ => Sys2Proof.Machine.execAbadd2 d a b w s_ s
  | .atake d a b w s_ => Sys2Proof.Machine.execAtake d a b w s_ s
  | .agive d a b w s_ => Sys2Proof.Machine.execAgive d a b w s_ s
  | .radd d a b w s_ => Sys2Proof.Machine.execRadd d a b w s_ s
  | .rmin d a b w s_ => Sys2Proof.Machine.execRmin d a b w s_ s
  | .rmax d a b w s_ => Sys2Proof.Machine.execRmax d a b w s_ s
  | .rminn d a b w s_ => Sys2Proof.Machine.execRminn d a b w s_ s
  | .rmaxn d a b w s_ => Sys2Proof.Machine.execRmaxn d a b w s_ s
  | .rand d a b w s_ => Sys2Proof.Machine.execRand d a b w s_ s
  | .ror d a b w s_ => Sys2Proof.Machine.execRor d a b w s_ s
  | .rxor d a b w s_ => Sys2Proof.Machine.execRxor d a b w s_ s
  | .rfadd d a b w s_ => Sys2Proof.Machine.execRfadd d a b w s_ s
  | .rbadd2 d a b w s_ => Sys2Proof.Machine.execRbadd2 d a b w s_ s
  | .copy d a b k => Sys2Proof.Machine.execCopy d a b k s
  | .carm k p => Sys2Proof.Machine.execCarm k p s
  | .cdis p => Sys2Proof.Machine.execCdis p s
  | .cstat d k => Sys2Proof.Machine.execCstat d k s
  | .tagany d a b => Sys2Proof.Machine.execTagany d a b s
  | .tagall d a b => Sys2Proof.Machine.execTagall d a b s
  | .tagff d a b => Sys2Proof.Machine.execTagff d a b s
  | .tagclr a b => Sys2Proof.Machine.execTagclr a b s
  | .barinit d a b w s_ => Sys2Proof.Machine.execBarinit d a b w s_ s
  | .bararr d a w s_ => Sys2Proof.Machine.execBararr d a w s_ s
  | .barkill d a w s_ => Sys2Proof.Machine.execBarkill d a w s_ s
  | .barq d a w s_ => Sys2Proof.Machine.execBarq d a w s_ s
  | .walk d a b w => Sys2Proof.Machine.execWalk d a b w s
  | .sigsend d a b h => Sys2Proof.Machine.execSigsend d a b h s
  | .event d a b => Sys2Proof.Machine.execEvent d a b s
  | .segstep d a k t => Sys2Proof.Machine.execSegstep d a k t s
  | .segend d a k f t => Sys2Proof.Machine.execSegend d a k f t s
  | .sumnew a k => Sys2Proof.Machine.execSumnew a k s
  | .sumapp a b => Sys2Proof.Machine.execSumapp a b s
  | .sumbsc a b n => Sys2Proof.Machine.execSumbsc a b n s
  | .sumpatch a b => Sys2Proof.Machine.execSumpatch a b s
  | .sumrd d b t => Sys2Proof.Machine.execSumrd d b t s
  | .sumseal => Sys2Proof.Machine.execSumseal s
  | .ptbl a => Sys2Proof.Machine.execPtbl a s
  | .pmask a b => Sys2Proof.Machine.execPmask a b s
  | .ppoint a r => Sys2Proof.Machine.execPpoint a r s
  | .pclr r l => Sys2Proof.Machine.execPclr r l s
  | .pseg a r => Sys2Proof.Machine.execPseg a r s
  | .pdense a b r => Sys2Proof.Machine.execPdense a b r s
  | .pvlda a b f => Sys2Proof.Machine.execPvlda a b f s
  | .pvldb a b f => Sys2Proof.Machine.execPvldb a b f s
  | .pouter a b g => Sys2Proof.Machine.execPouter a b g s
  | .pread a b r f => Sys2Proof.Machine.execPread a b r f s
  | .pstat d a => Sys2Proof.Machine.execPstat d a s
  | .psync d a => Sys2Proof.Machine.execPsync d a s
  | .wrd d w m => Sys2Proof.Machine.execWrd d w m s
  | .wptr d m => Sys2Proof.Machine.execWptr d m s
  | .wcmp d w => Sys2Proof.Machine.execWcmp d w s
  | .whash d a w => Sys2Proof.Machine.execWhash d a w s
  | .wret n => Sys2Proof.Machine.execWret n s
  | .wmiss => Sys2Proof.Machine.execWmiss s
  | .wfail => Sys2Proof.Machine.execWfail s
  | .wnext d m => Sys2Proof.Machine.execWnext d m s
  | .trap a b => Sys2Proof.Machine.execTrap a b s
  | .brk a b => Sys2Proof.Machine.execBrk a b s
  | .whey => Sys2Proof.Machine.execWhey s
  | .ident d s_ => Sys2Proof.Machine.execIdent d s_ s
  | .clock d => Sys2Proof.Machine.execClock d s
  | .xctl d a s_ r => Sys2Proof.Machine.execXctl d a s_ r s
  | .xstat d s_ r => Sys2Proof.Machine.execXstat d s_ r s
  | .ruleUrgent el rule => Sys2Proof.Machine.execRuleUrgent el rule s
  | .longLatencyCommit el id => Sys2Proof.Machine.execLongLatencyCommit el id s
  | .tokenArrival ch => Sys2Proof.Machine.execTokenArrival ch s
  | .haltedDiscard el => Sys2Proof.Machine.execHaltedDiscard el s
  | .elementMark el => Sys2Proof.Machine.execElementMark el s
  | .elementDrainForward el => Sys2Proof.Machine.execElementDrainForward el s
  | .memoryAccessAtHome acc => Sys2Proof.Machine.execMemoryAccessAtHome acc s
  | .memoryResponse acc => Sys2Proof.Machine.execMemoryResponse acc s
  | .postedTranslate acc => Sys2Proof.Machine.execPostedTranslate acc s
  | .pageWalk walk => Sys2Proof.Machine.execPageWalk walk s
  | .fenceComplete el id => Sys2Proof.Machine.execFenceComplete el id s
  | .copyTrigger tile => Sys2Proof.Machine.execCopyTrigger tile s
  | .copyIssueDeferred el id => Sys2Proof.Machine.execCopyIssueDeferred el id s
  | .copyTransfer tile flight => Sys2Proof.Machine.execCopyTransfer tile flight s
  | .copyComplete tile flight => Sys2Proof.Machine.execCopyComplete tile flight s
  | .copyEngineDrain tile => Sys2Proof.Machine.execCopyEngineDrain tile s
  | .bararrSend el id => Sys2Proof.Machine.execBararrSend el id s
  | .barrierHomeOp op => Sys2Proof.Machine.execBarrierHomeOp op s
  | .barrierVerdict op => Sys2Proof.Machine.execBarrierVerdict op s
  | .walkAccept el id => Sys2Proof.Machine.execWalkAccept el id s
  | .walkReadReturn etile slot => Sys2Proof.Machine.execWalkReadReturn etile slot s
  | .walkResultDelivery etile slot => Sys2Proof.Machine.execWalkResultDelivery etile slot s
  | .pressCommandPerform tile => Sys2Proof.Machine.execPressCommandPerform tile s
  | .pressResultDelivery tile => Sys2Proof.Machine.execPressResultDelivery tile s
  | .pressMark tile => Sys2Proof.Machine.execPressMark tile s
  | .pressDrain tile => Sys2Proof.Machine.execPressDrain tile s
  | .scannerStep unit => Sys2Proof.Machine.execScannerStep unit s
  | .intersecterStep unit => Sys2Proof.Machine.execIntersecterStep unit s
  | .repeaterStep unit => Sys2Proof.Machine.execRepeaterStep unit s
  | .reducerStep unit => Sys2Proof.Machine.execReducerStep unit s
  | .reducerFlush unit => Sys2Proof.Machine.execReducerFlush unit s
  | .nmDecoderStep unit => Sys2Proof.Machine.execNmDecoderStep unit s
  | .apertureStep unit => Sys2Proof.Machine.execApertureStep unit s
  | .splitterStep unit => Sys2Proof.Machine.execSplitterStep unit s
  | .splitterSlotRetry unit => Sys2Proof.Machine.execSplitterSlotRetry unit s
  | .splitterSpillWrite unit => Sys2Proof.Machine.execSplitterSpillWrite unit s
  | .splitterSpillRead unit => Sys2Proof.Machine.execSplitterSpillRead unit s
  | .collimatorStep unit => Sys2Proof.Machine.execCollimatorStep unit s
  | .unitMark unit => Sys2Proof.Machine.execUnitMark unit s
  | .unitDrain unit => Sys2Proof.Machine.execUnitDrain unit s
  | .xctlApply unit => Sys2Proof.Machine.execXctlApply unit s
  | .unitRegisterRead el id => Sys2Proof.Machine.execUnitRegisterRead el id s
  | .clockRead el id => Sys2Proof.Machine.execClockRead el id s
  | .wheyAdderStep unit => Sys2Proof.Machine.execWheyAdderStep unit s
  | .wheyRootWrite unit => Sys2Proof.Machine.execWheyRootWrite unit s
  | .brineWheyEmit unit => Sys2Proof.Machine.execBrineWheyEmit unit s
  | .imageLoad task => Sys2Proof.Machine.execImageLoad task s
  | .sourceInject region src => Sys2Proof.Machine.execSourceInject region src s
  | .sinkTake region sink => Sys2Proof.Machine.execSinkTake region sink s
  | .faultRecordPost ctx => Sys2Proof.Machine.execFaultRecordPost ctx s
  | .eventRecordWrite ctx => Sys2Proof.Machine.execEventRecordWrite ctx s
  | .signalHandle sig => Sys2Proof.Machine.execSignalHandle sig s
  | .regionDrainComplete region => Sys2Proof.Machine.execRegionDrainComplete region s
  | .configSignatureCheck region => Sys2Proof.Machine.execConfigSignatureCheck region s
  | .configStoreError region => Sys2Proof.Machine.execConfigStoreError region s
  | .configReloadDone region => Sys2Proof.Machine.execConfigReloadDone region s
  | .regionResume region endid => Sys2Proof.Machine.execRegionResume region endid s
  | .regionFence region code => Sys2Proof.Machine.execRegionFence region code s
  | .sigcommit region v => Sys2Proof.Machine.execSigcommit region v s
  | .unhpop region => Sys2Proof.Machine.execUnhpop region s
  | .udataWrite region v => Sys2Proof.Machine.execUdataWrite region v s
  | .dispatchAdmit => Sys2Proof.Machine.execDispatchAdmit s
  | .queueAged queue => Sys2Proof.Machine.execQueueAged queue s
  | .taskBind => Sys2Proof.Machine.execTaskBind s
  | .bindReservation => Sys2Proof.Machine.execBindReservation s
  | .quantumExpiry task => Sys2Proof.Machine.execQuantumExpiry task s
  | .markInject task => Sys2Proof.Machine.execMarkInject task s
  | .taskSaveComplete task => Sys2Proof.Machine.execTaskSaveComplete task s
  | .taskDrainDetect task => Sys2Proof.Machine.execTaskDrainDetect task s
  | .taskRetire task => Sys2Proof.Machine.execTaskRetire task s
  | .abort ctx taskid => Sys2Proof.Machine.execAbort ctx taskid s
  | .preempt ctx taskid => Sys2Proof.Machine.execPreempt ctx taskid s
  | .create ctx => Sys2Proof.Machine.execCreate ctx s
  | .restore ctx => Sys2Proof.Machine.execRestore ctx s
  | .contextRestoreDone ctx => Sys2Proof.Machine.execContextRestoreDone ctx s
  | .quiesce ctx => Sys2Proof.Machine.execQuiesce ctx s
  | .quiesceComplete ctx => Sys2Proof.Machine.execQuiesceComplete ctx s
  | .resume ctx => Sys2Proof.Machine.execResume ctx s
  | .destroy ctx => Sys2Proof.Machine.execDestroy ctx s
  | .destroyComplete ctx => Sys2Proof.Machine.execDestroyComplete ctx s
  | .resolveReplay ctx handle => Sys2Proof.Machine.execResolveReplay ctx handle s
  | .resolveDiscard ctx handle => Sys2Proof.Machine.execResolveDiscard ctx handle s
  | .harvest ctx => Sys2Proof.Machine.execHarvest ctx s
  | .harvestComplete ctx => Sys2Proof.Machine.execHarvestComplete ctx s
  | .quotaWrite ctx v => Sys2Proof.Machine.execQuotaWrite ctx v s
  | .enq t => Sys2Proof.Machine.execEnq t s
  | .enqSpillDone queue => Sys2Proof.Machine.execEnqSpillDone queue s
  | .queueRefillDone queue => Sys2Proof.Machine.execQueueRefillDone queue s
  | .queueEnable queue => Sys2Proof.Machine.execQueueEnable queue s
  | .queueDisable queue => Sys2Proof.Machine.execQueueDisable queue s
  | .pause queue => Sys2Proof.Machine.execPause queue s
  | .unpause queue => Sys2Proof.Machine.execUnpause queue s
  | .close queue => Sys2Proof.Machine.execClose queue s
  | .clear queue => Sys2Proof.Machine.execClear queue s
  | .tinvPage cmd => Sys2Proof.Machine.execTinvPage cmd s
  | .tinvContext cmd => Sys2Proof.Machine.execTinvContext cmd s
  | .tinvComplete => Sys2Proof.Machine.execTinvComplete s
  | .deviceReset => Sys2Proof.Machine.execDeviceReset s
  | .pllLockLoss => Sys2Proof.Machine.execPllLockLoss s
  | .boot => Sys2Proof.Machine.execBoot s
  | .linkTrainingDone link lanes => Sys2Proof.Machine.execLinkTrainingDone link lanes s
  | .flitReceive link flit => Sys2Proof.Machine.execFlitReceive link flit s
  | .replayRequest link seq => Sys2Proof.Machine.execReplayRequest link seq s
  | .replayExhausted link => Sys2Proof.Machine.execReplayExhausted link s
  | .linkEnable link => Sys2Proof.Machine.execLinkEnable link s
  | .linkDisable link => Sys2Proof.Machine.execLinkDisable link s
  | .linkRetrain link => Sys2Proof.Machine.execLinkRetrain link s
  | .linkFence link => Sys2Proof.Machine.execLinkFence link s
  | .read t => Sys2Proof.Machine.execRead t s
  | .write t => Sys2Proof.Machine.execWrite t s
  | .signal t => Sys2Proof.Machine.execSignal t s
  | .atomic t => Sys2Proof.Machine.execAtomic t s
  | .xchg64 t => Sys2Proof.Machine.execXchg64 t s
  | .cas64 t => Sys2Proof.Machine.execCas64 t s
  | .reduce t => Sys2Proof.Machine.execReduce t s
  | .response t => Sys2Proof.Machine.execResponse t s
  | .nack t => Sys2Proof.Machine.execNack t s
  | .mgmt t => Sys2Proof.Machine.execMgmt t s
  | .transactionResend ep eseq => Sys2Proof.Machine.execTransactionResend ep eseq s
  | .registerWrite off v wide => Sys2Proof.Machine.execRegisterWrite off v wide s
  | .aclWrite off v wide => Sys2Proof.Machine.execAclWrite off v wide s
  | .measmaskWrite v wide => Sys2Proof.Machine.execMeasmaskWrite v wide s
  | .report cmd => Sys2Proof.Machine.execReport cmd s
  | .reportDone => Sys2Proof.Machine.execReportDone s
  | .scrubPass group bank => Sys2Proof.Machine.execScrubPass group bank s
  | .powerGovernorSample => Sys2Proof.Machine.execPowerGovernorSample s
  | .dflRecordWrite => Sys2Proof.Machine.execDflRecordWrite s
  | .round => Sys2Proof.Machine.execRound s
  | .copyEngineMark tile => Sys2Proof.Machine.execCopyEngineMark tile s

end Sys2Proof.Machine
end

