-- ==== Sys2Proof/Machine/Events.lean ====
section
/-! DEFINITION. Running a step without an encoding: the meaning that exec gives the constructor of the same name. -/

namespace Sys2Proof.Machine

/-- Run a step without an encoding. -/
def runEv (e : Ev) (s : State) : Out :=
  match e with
  | .ruleUrgent el rule => execRuleUrgent el rule s
  | .longLatencyCommit el id => execLongLatencyCommit el id s
  | .tokenArrival ch => execTokenArrival ch s
  | .haltedDiscard el => execHaltedDiscard el s
  | .elementMark el => execElementMark el s
  | .elementDrainForward el => execElementDrainForward el s
  | .memoryAccessAtHome acc => execMemoryAccessAtHome acc s
  | .memoryResponse acc => execMemoryResponse acc s
  | .postedTranslate acc => execPostedTranslate acc s
  | .pageWalk walk => execPageWalk walk s
  | .fenceComplete el id => execFenceComplete el id s
  | .copyTrigger tile => execCopyTrigger tile s
  | .copyIssueDeferred el id => execCopyIssueDeferred el id s
  | .copyTransfer tile flight => execCopyTransfer tile flight s
  | .copyComplete tile flight => execCopyComplete tile flight s
  | .copyEngineDrain tile => execCopyEngineDrain tile s
  | .bararrSend el id => execBararrSend el id s
  | .barrierHomeOp op => execBarrierHomeOp op s
  | .barrierVerdict op => execBarrierVerdict op s
  | .walkAccept el id => execWalkAccept el id s
  | .walkReadReturn etile slot => execWalkReadReturn etile slot s
  | .walkResultDelivery etile slot => execWalkResultDelivery etile slot s
  | .pressCommandPerform tile => execPressCommandPerform tile s
  | .pressResultDelivery tile => execPressResultDelivery tile s
  | .pressMark tile => execPressMark tile s
  | .pressDrain tile => execPressDrain tile s
  | .scannerStep unit => execScannerStep unit s
  | .intersecterStep unit => execIntersecterStep unit s
  | .repeaterStep unit => execRepeaterStep unit s
  | .reducerStep unit => execReducerStep unit s
  | .reducerFlush unit => execReducerFlush unit s
  | .nmDecoderStep unit => execNmDecoderStep unit s
  | .apertureStep unit => execApertureStep unit s
  | .splitterStep unit => execSplitterStep unit s
  | .splitterSlotRetry unit => execSplitterSlotRetry unit s
  | .splitterSpillWrite unit => execSplitterSpillWrite unit s
  | .splitterSpillRead unit => execSplitterSpillRead unit s
  | .collimatorStep unit => execCollimatorStep unit s
  | .unitMark unit => execUnitMark unit s
  | .unitDrain unit => execUnitDrain unit s
  | .xctlApply unit => execXctlApply unit s
  | .unitRegisterRead el id => execUnitRegisterRead el id s
  | .clockRead el id => execClockRead el id s
  | .wheyAdderStep unit => execWheyAdderStep unit s
  | .wheyRootWrite unit => execWheyRootWrite unit s
  | .brineWheyEmit unit => execBrineWheyEmit unit s
  | .imageLoad task => execImageLoad task s
  | .sourceInject region src => execSourceInject region src s
  | .sinkTake region sink => execSinkTake region sink s
  | .faultRecordPost ctx => execFaultRecordPost ctx s
  | .eventRecordWrite ctx => execEventRecordWrite ctx s
  | .signalHandle sig => execSignalHandle sig s
  | .regionDrainComplete region => execRegionDrainComplete region s
  | .configSignatureCheck region => execConfigSignatureCheck region s
  | .configStoreError region => execConfigStoreError region s
  | .configReloadDone region => execConfigReloadDone region s
  | .regionResume region endid => execRegionResume region endid s
  | .regionFence region code => execRegionFence region code s
  | .sigcommit region v => execSigcommit region v s
  | .unhpop region => execUnhpop region s
  | .udataWrite region v => execUdataWrite region v s
  | .dispatchAdmit => execDispatchAdmit s
  | .queueAged queue => execQueueAged queue s
  | .taskBind => execTaskBind s
  | .bindReservation => execBindReservation s
  | .quantumExpiry task => execQuantumExpiry task s
  | .markInject task => execMarkInject task s
  | .taskSaveComplete task => execTaskSaveComplete task s
  | .taskDrainDetect task => execTaskDrainDetect task s
  | .taskRetire task => execTaskRetire task s
  | .abort ctx taskid => execAbort ctx taskid s
  | .preempt ctx taskid => execPreempt ctx taskid s
  | .create ctx => execCreate ctx s
  | .restore ctx => execRestore ctx s
  | .contextRestoreDone ctx => execContextRestoreDone ctx s
  | .quiesce ctx => execQuiesce ctx s
  | .quiesceComplete ctx => execQuiesceComplete ctx s
  | .resume ctx => execResume ctx s
  | .destroy ctx => execDestroy ctx s
  | .destroyComplete ctx => execDestroyComplete ctx s
  | .resolveReplay ctx handle => execResolveReplay ctx handle s
  | .resolveDiscard ctx handle => execResolveDiscard ctx handle s
  | .harvest ctx => execHarvest ctx s
  | .harvestComplete ctx => execHarvestComplete ctx s
  | .quotaWrite ctx v => execQuotaWrite ctx v s
  | .enq t => execEnq t s
  | .enqSpillDone queue => execEnqSpillDone queue s
  | .queueRefillDone queue => execQueueRefillDone queue s
  | .queueEnable queue => execQueueEnable queue s
  | .queueDisable queue => execQueueDisable queue s
  | .pause queue => execPause queue s
  | .unpause queue => execUnpause queue s
  | .close queue => execClose queue s
  | .clear queue => execClear queue s
  | .tinvPage cmd => execTinvPage cmd s
  | .tinvContext cmd => execTinvContext cmd s
  | .tinvComplete => execTinvComplete s
  | .deviceReset => execDeviceReset s
  | .pllLockLoss => execPllLockLoss s
  | .boot => execBoot s
  | .linkTrainingDone link lanes => execLinkTrainingDone link lanes s
  | .flitReceive link flit => execFlitReceive link flit s
  | .replayRequest link seq => execReplayRequest link seq s
  | .replayExhausted link => execReplayExhausted link s
  | .linkEnable link => execLinkEnable link s
  | .linkDisable link => execLinkDisable link s
  | .linkRetrain link => execLinkRetrain link s
  | .linkFence link => execLinkFence link s
  | .read t => execRead t s
  | .write t => execWrite t s
  | .signal t => execSignal t s
  | .atomic t => execAtomic t s
  | .xchg64 t => execXchg64 t s
  | .cas64 t => execCas64 t s
  | .reduce t => execReduce t s
  | .response t => execResponse t s
  | .nack t => execNack t s
  | .mgmt t => execMgmt t s
  | .transactionResend ep eseq => execTransactionResend ep eseq s
  | .registerWrite off v wide => execRegisterWrite off v wide s
  | .aclWrite off v wide => execAclWrite off v wide s
  | .measmaskWrite v wide => execMeasmaskWrite v wide s
  | .report cmd => execReport cmd s
  | .reportDone => execReportDone s
  | .scrubPass group bank => execScrubPass group bank s
  | .powerGovernorSample => execPowerGovernorSample s
  | .dflRecordWrite => execDflRecordWrite s
  | .copyEngineMark tile => execCopyEngineMark tile s

end Sys2Proof.Machine
end

