-- ==== Sys2Proof/Machine/Step.lean ====
section
/-! DEFINITION. One step: the next item of the round's agenda, or ROUND when none is left (notes/assumptions/5). -/

namespace Sys2Proof.Machine

/-- Run the instruction that the action word `w` holds, for `c`. -/
def runWord (w : Word) (c : Cursor) (s : State) : Out :=
  match decodeWord w with
  | .ok i => exec i { s with cur := c }
  | .error _ => .refused .badWord

/-- R70, R74, R310: a chosen rule runs the instruction its action word holds; a walk runs its ready rule's, or ends when
none is ready; a step without an encoding runs itself; an empty agenda starts the next round. -/
def step (s : State) : Host.Outcome State Fault Refusal :=
  match s.agenda with
  | [] => exec .round { s with cur := .none }
  | .fire el rule :: rest => runWord (s.ruleWord el rule) (.rule el rule) { s with agenda := rest }
  | .walk t k :: rest =>
    match walkRule (s.loupe t) ((s.loupe t).slot k).p with
    | some rule => runWord (s.walkWord t rule) (.walk t k rule) { s with agenda := rest }
    | none => .next ({ s with agenda := rest }.walkNoRule t k)
  | .ev e :: rest => runEv e { s with agenda := rest, cur := .none }

/-- `s` with the instruction word `w` placed so that the next step runs it. -/
def State.withFetchWord (s : State) (nbits w : Nat) : State := s.placeWord (BitVec.ofNat 32 (w % 2 ^ nbits))

end Sys2Proof.Machine
end

