-- ==== Sys2Proof/Safety.lean ====
section
/-! DEFINITION. The terms that statements about this machine are made in: a rule with its operands and its room, what its
firing leaves, and the invariant that every step keeps. -/

namespace Sys2Proof.Machine

/-! A rule that fires (R68, R74). -/

/-- R68 item 1: a rule of an element executes and its operands are there. -/
def State.armed (s : State) (el rule : Nat) (q : Req) (x : In) : Prop :=
  s.cur = .rule el rule ∧ (s.elem el).input q = some x

/-- R68 item 2: room for a rule's writes, its predicate update and its bound control ends. -/
def State.hasRoom (s : State) (el rule : Nat) (q : Req) (puts : List Put) (flag : Bool) : Prop :=
  (s.elem el).roomFor ((s.elem el).allPuts rule q puts flag) = true

/-- R74: the state after a rule has fired with these writes. -/
def State.fired (s : State) (el rule : Nat) (q : Req) (puts : List Put) (flag : Bool) (inc : Inc) : State :=
  s.setElem el ((s.elem el).commit rule q ((s.elem el).allPuts rule q puts flag) inc)

/-- R308: the state after a walk's rule has fired with these writes. -/
def State.walked (s : State) (t k : Nat) (q : Req) (puts : List Put) (flag : Bool) : State :=
  s.setSlot t k ((puts ++ update q.i q.p flag).foldl WSlot.put ((s.loupe t).slot k))

/-- An instruction that delivers one result: whenever its operands and its room are there, it fires, and the result, the
flag and the statistics stand in the relation `R` to what it computes from. -/
def Completes (i : Instr) (q : Req) (t : Tag) (R : In → Word → Bool → Inc → Prop) : Prop :=
  ∀ (s : State) (el rule : Nat) (x : In), s.armed el rule q x →
    ∃ (v : Word) (f : Bool) (n : Inc), R x v f n ∧
      (s.hasRoom el rule q (deliver q.d t v) f → exec i s = .next (s.fired el rule q (deliver q.d t v) f n))

/-- R309: the same instruction in a Loupe program, where it needs no room. -/
def CompletesInWalk (i : Instr) (q : Req) (t : Tag) (R : In → Word → Bool → Inc → Prop) : Prop :=
  ∀ (s : State) (tile k rule : Nat), s.cur = .walk tile k rule →
    ∃ (v : Word) (f : Bool) (n : Inc), R (winput (s.loupe tile) ((s.loupe tile).slot k) q) v f n ∧
      exec i s = .next (s.walked tile k q (deliver q.d t v) f)

/-- The fields of a rule of the general form (R111, R113). -/
def rq (d : BitVec 5) (a b : Option (BitVec 5)) (i : BitVec 3) (p : BitVec 2) (lat : Nat) : Req :=
  { d := d, a := a, b := b, i := i, p := p, lat := lat }

/-- A two-operand instruction of elements and walks, latency 1, that counts nothing. -/
def Binary (c : BitVec 5 → BitVec 5 → BitVec 5 → BitVec 3 → BitVec 2 → BitVec 4 → Instr)
    (R : Word → Word → Word → Bool → Prop) : Prop :=
  ∀ d a b i p t, Completes (c d a b i p t) (rq d (some a) (some b) i p 1) t
      (fun x v f n => R x.a.data x.b.data v f ∧ n = {})
    ∧ CompletesInWalk (c d a b i p t) (rq d (some a) (some b) i p 1) t
      (fun x v f _ => R x.a.data x.b.data v f)

/-- A one-operand instruction of elements and walks, latency 1, that counts nothing. -/
def Unary (c : BitVec 5 → BitVec 5 → BitVec 3 → BitVec 2 → BitVec 4 → Instr) (R : Word → Word → Bool → Prop) : Prop :=
  ∀ d a i p t, Completes (c d a i p t) (rq d (some a) none i p 1) t (fun x v f n => R x.a.data v f ∧ n = {})
    ∧ CompletesInWalk (c d a i p t) (rq d (some a) none i p 1) t (fun x v f _ => R x.a.data v f)

/-- A two-operand instruction of elements only; `R` also sees the old value of d(D) and the statistics. -/
def BinaryE (lat : Nat) (c : BitVec 5 → BitVec 5 → BitVec 5 → BitVec 3 → BitVec 2 → BitVec 4 → Instr)
    (R : Word → Word → Word → Word → Bool → Inc → Prop) : Prop :=
  ∀ d a b i p t, Completes (c d a b i p t) (rq d (some a) (some b) i p lat) t
    (fun x v f n => R x.d x.a.data x.b.data v f n)

/-- A one-operand instruction of elements only. -/
def UnaryE (lat : Nat) (c : BitVec 5 → BitVec 5 → BitVec 3 → BitVec 2 → BitVec 4 → Instr)
    (R : Word → Word → Bool → Inc → Prop) : Prop :=
  ∀ d a i p t, Completes (c d a i p t) (rq d (some a) none i p lat) t (fun x v f n => R x.a.data v f n)

/-! Exact values of float operands (R33, R38, R42, R165). -/

/-- The exact value of a finite operand. -/
def FV.rat : FV → Rat
  | .fin neg m e => (if neg then -(m : Rat) else (m : Rat)) * (2 : Rat) ^ e
  | _ => 0

/-- A finite operand. -/
def FV.finite : FV → Bool
  | .fin _ _ _ => true
  | _ => false

/-- The sign of an operand. -/
def FV.sign : FV → Bool
  | .fin neg _ _ => neg
  | .inf neg => neg
  | .nan => false

/-- A zero of either sign. -/
def FV.zero : FV → Bool
  | .fin _ m _ => m == 0
  | _ => false

/-- What FP32 delivers of an exact finite value: rounded once, nearest even, overflow to infinity (R38, R41). -/
def Rounded (x : FV) (v : Word) (f : Bool) (n : Inc) : Prop :=
  ∃ neg m e, x = .fin neg m e ∧ v = Word.ofNat (fp32.round false false neg m e).code
    ∧ f = (fp32.round false false neg m e).x ∧ n = (fp32.round false false neg m e).inc

/-- R41, R175: what one lane delivers of FP32 `c` in a narrower format: rounded once, or cut toward zero (`z`); an overflow saturates
(`sat`) or is infinite; an infinity stays one where the format has them. -/
def Narrowed (F : Fmt) (z sat : Bool) (c : Word) (code : Nat) (x : Bool) (n : Inc) : Prop :=
  (fp32.value c.toNat = .nan → code = F.nan ∧ x = true ∧ n = { nan := 1 })
  ∧ (∀ s, fp32.value c.toNat = .inf s → F.ieee = true →
      code = (if s then F.signBit else 0) + (2 ^ F.eb - 1) * 2 ^ F.mb ∧ x = false ∧ n = {})
  ∧ (∀ s, fp32.value c.toNat = .inf s → F.ieee = false → code = (if s then F.signBit else 0) + F.maxCode ∧ x = true ∧ n = { sat := 1 })
  ∧ (∀ neg m e, fp32.value c.toNat = .fin neg m e →
      code = (F.round z sat neg m e).code ∧ x = (F.round z sat neg m e).x ∧ n = (F.round z sat neg m e).inc)

/-- R177: one E2M1 nibble of FP32 `c` over the E3M5 scale `k`: the exact quotient rounded once, saturated above 6. -/
def NarrowedQ (z : Bool) (c : Word) (k : Nat) (code : Nat) (x : Bool) (n : Inc) : Prop :=
  let val := fp32.value c.toNat
  (val = .nan → code = 0 ∧ x = true ∧ n = { nan := 1 })
  ∧ (∀ s, val = .inf s → code = (if s then 0xF else 0x7) ∧ x = true ∧ n = { sat := 1 })
  ∧ (val.zero = true → code = (if val.sign then 0x8 else 0x0) ∧ x = false ∧ n = {})
  ∧ (val.finite = true → val.zero = false → (e3m5 k).1 = 0 → code = (if val.sign then 0xF else 0x7) ∧ x = true ∧ n = { sat := 1 })
  ∧ (∀ neg m e, val = .fin neg m e → m ≠ 0 → (e3m5 k).1 ≠ 0 →
      let q := quot m e (e3m5 k).1 (e3m5 k).2
      code = (e2m1.round z true neg q.1 q.2).code ∧ x = (e2m1.round z true neg q.1 q.2).x ∧ n = (e2m1.round z true neg q.1 q.2).inc)

/-- R35: a NaN result is the canonical one, flagged and counted NAN. -/
def IsNanResult (v : Word) (f : Bool) (n : Inc) : Prop := v = 0x7FC00000 ∧ f = true ∧ n = { nan := 1 }

/-- R42: an infinity made from an infinite operand counts nothing. -/
def IsInfResult (neg : Bool) (v : Word) (f : Bool) (n : Inc) : Prop :=
  v = (if neg then 0xFF800000 else 0x7F800000) ∧ f = false ∧ n = {}

/-- R165: the sum of two operands as FP32 delivers it. -/
def SumOf (x y : FV) (v : Word) (f : Bool) (n : Inc) : Prop :=
  ((x = .nan ∨ y = .nan ∨ ∃ s, x = .inf s ∧ y = .inf (!s)) → IsNanResult v f n)
  ∧ (∀ s, (x = .inf s ∧ y ≠ .nan ∧ y ≠ .inf (!s)) ∨ (y = .inf s ∧ x ≠ .nan ∧ x ≠ .inf (!s)) → IsInfResult s v f n)
  ∧ (x.finite = true → y.finite = true →
      ∃ z, z.finite = true ∧ z.rat = x.rat + y.rat ∧ Rounded z v f n
        ∧ (z.zero = true → (z.sign = true ↔ x.zero = true ∧ x.sign = true ∧ y.zero = true ∧ y.sign = true)))

/-- R165: the exact product of two operands. -/
def ProductOf (x y p : FV) : Prop :=
  ((x = .nan ∨ y = .nan ∨ (x.finite = false ∧ y.zero = true) ∨ (x.zero = true ∧ y.finite = false)) → p = .nan)
  ∧ (x ≠ .nan → y ≠ .nan → (x.finite = false ∧ y.zero = false ∨ x.zero = false ∧ y.finite = false) → p = .inf (x.sign != y.sign))
  ∧ (x.finite = true → y.finite = true → p.finite = true ∧ p.rat = x.rat * y.rat ∧ p.sign = (x.sign != y.sign))

/-- The place of an operand in the order of R167, as a key: −∞ and +∞ as the extremes. -/
def Below (x y : FV) : Prop :=
  (x.finite = true ∧ y.finite = true ∧ x.rat < y.rat) ∨ (x = .inf true ∧ y ≠ .inf true ∧ y ≠ .nan)
    ∨ (y = .inf false ∧ x ≠ .inf false ∧ x ≠ .nan)

/-! Memory accesses (R181 to R186). -/

/-- The access that one lane of a committed memory-form rule makes. -/
def oneAccess (s : State) (el : Nat) (opc : Byte) (w : BitVec 3) (off size : Nat) (act : Act) (posted : Bool) (st : AccSt) (id : Nat) :
    Access :=
  let task := s.taskOfElem el
  { id := id, src := .elem el (s.elem el).nextId, ctx := s.ctxOfTask task, task := task, region := regionOfElem el, opc := opc
    va := (s.window task w).base + off, off := off, size := size, lane := 0, act := act, posted := posted, st := st
    left := st.way (.elem el (s.elem el).nextId) (regionOfElem el) }

/-- R182 to R186: a load or a returning atomic of one lane. When its operands, a port-queue entry and room for its result are
there, the window holds the aligned access with the permission, no operation of the element is parked on the page and the
translation cache has the page, the rule commits: its result is pending and its access is listed with its physical address. -/
def SourceIssues (i : Instr) (opc : Byte) (d a : BitVec 5) (b : Option (BitVec 5)) (w : BitVec 3) (sc : BitVec 2) (size : Nat)
    (perm : Window → Bool) (kind : Kind) (act : Elem → In → Act) : Prop :=
  ∀ (s s1 : State) (el rule : Nat) (x : In) (pa : Nat),
    let win := s.window (s.taskOfElem el) w
    let off := x.a.data.toNat
    let ctx := s.ctxOfTask (s.taskOfElem el)
    let q := rq d (some a) b 0 0 1
    let l := deliver d x.a.tag 0
    s.armed el rule q x → (s.elem el).portRoom rule l = true →
    off + size ≤ win.len → (win.base + off) % size = 0 → perm win = true → s.heldPage el ctx (win.base + off) = false →
    s.translate (tileOfElem el) ctx (win.base + off) kind = (.hit pa, s1) →
    exec i s = .next
      { s1.setElem el ((s1.elem el).issuePort rule q l
          (.mem { opc := opc, win := w, scope := sc, a := x.a.data, tag := x.a.tag }) true) with
        accs := s1.accs ++ [oneAccess s el opc w off size (act (s.elem el) x) false (.ready pa) s1.fresh]
        fresh := s1.fresh + 1 }

/-- R182, R184 to R186: a store or a reduction. The same checks, but no translation in the element: the access is posted. -/
def PostedIssues (i : Instr) (opc : Byte) (d a b : BitVec 5) (w : BitVec 3) (sc : BitVec 2) (size : Nat)
    (perm : Window → Bool) (act : In → Act) : Prop :=
  ∀ (s : State) (el rule : Nat) (x : In),
    let win := s.window (s.taskOfElem el) w
    let off := x.a.data.toNat
    let q := rq d (some a) (some b) 0 0 1
    let l := deliver d x.a.tag x.a.data
    s.armed el rule q x → (s.elem el).portRoom rule l = true →
    off + size ≤ win.len → (win.base + off) % size = 0 → perm win = true →
    exec i s = .next
      { s.setElem el ((s.elem el).issuePort rule q l
          (.mem { opc := opc, win := w, scope := sc, a := x.a.data, tag := x.a.tag }) true) with
        accs := s.accs ++ [oneAccess s el opc w off size (act x) true .point s.fresh]
        fresh := s.fresh + 1 }

/-- R182: the first check of a memory-form access that fails, in the order bound, alignment, permission. -/
def firstFault (win : Window) (off size : Nat) (perm : Bool) : Option Byte :=
  if win.len < off + size then some 0x10
  else if (win.base + off) % size ≠ 0 then some 0x11
  else if perm = false then some 0x13
  else none

/-! Segments and the Press (R213, R228, R234). -/

/-- R213, R234: the pending run of SG has 1 to 64 rows and does not cross a multiple of 64. -/
def SegOk (g : BitVec 64) : Prop :=
  g.getLsbD 0 = true → 1 ≤ (sgPos g + 2 ^ 16 - sgStart g) % 2 ^ 16 ∧ sgStart g % 64 + (sgPos g + 2 ^ 16 - sgStart g) % 2 ^ 16 ≤ 64

/-- R223, R228: what a Press command does in the round it fires. `takes` says which operands it takes at all, `left` the
rounds to its performance after this one, `job` what its element then waits for, if it has a result. -/
def PressAccepts (i : Instr) (d : BitVec 5) (a b : Option (BitVec 5)) (tag : Tag) (tok : In → Word) (takes : In → Bool)
    (cmd : In → PCmd) (left : Nat) (job : Option (Press → Job)) : Prop :=
  ∀ (s : State) (el rule : Nat) (x : In),
    let e := s.elem el
    let p := s.press (tileOfElem el)
    let l := deliver d tag (tok x)
    s.armed el rule (rq d a b 0 0 1) x →
    (takes x = false → exec i s = .next (s.abortWith el rule 0x51 x))
    ∧ (takes x = true → e.roomFor (l ++ e.everyCo rule) = true → p.readRoom (cmd x) = true →
        (∀ code, p.future.verdict (cmd x) = some code → exec i s = .next (s.abortWith el rule code x))
        ∧ (p.future.verdict (cmd x) = none → ∃ e',
            exec i s = .next ((s.setElem el e').setPress (tileOfElem el) { p with
              queue := p.queue ++ [⟨cmd x, el, e.nextId, left⟩], rr := el % 16, held := if left = 10 then 4 else p.held })
            ∧ e'.d = e.d ∧ e'.p = e.p ∧ e'.l = e.l ∧ e'.sg = e.sg ∧ e'.stats = e.stats ∧ e'.life = e.life
            ∧ e'.nextId = e.nextId + 1
            ∧ (∀ k, k < 8 → (e'.ports.inAt k).buf =
                if (a = some (BitVec.ofNat 5 (8 + k)) ∨ b = some (BitVec.ofNat 5 (8 + k))) then (e.ports.inAt k).buf.tail
                else (e.ports.inAt k).buf)
            ∧ (job = none → e'.pend = e.pend)
            ∧ (∀ j, job = some j → ∃ y, e'.pend = e.pend ++ [y] ∧ y.id = e.nextId ∧ y.job = j p ∧ y.puts = l ∧ y.port = false)))

/-- The integer nearest to an exact value, the even one of two (R48). -/
def NearestEven (x : Rat) (n : Int) : Prop :=
  2 * (x - n) ≤ 1 ∧ -1 ≤ 2 * (x - n) ∧ ((2 * (x - n) = 1 ∨ 2 * (x - n) = -1) → n % 2 = 0)

/-- R212: the exact contribution of value `v` over rows e0 to e1 of a band, to a column. -/
def Press.segValue (p : Press) (slot col : Nat) (v : Int) (e0 e1 : Nat) : Rat :=
  (v : Rat) * ((p.hoop.sum slot col e1 - p.hoop.sum slot col e0 : Int) : Rat) * (bf16.value (p.hoop.scale slot col)).rat
    * (if (p.hoop.hdr slot).kind = 2 then 1 / 256 else 1)

/-- The exact value of a vector's lane; an unlisted lane is 0. -/
def PVec.lane (v : PVec) (k : Nat) : Rat :=
  match Table.get? v.lanes k with
  | some x => (x.m : Rat) * (2 : Rat) ^ x.e
  | none => 0

/-- R37, R117, R247: lane `i` of a word in a vector format, before a block scale. -/
def laneFV (fmt : BitVec 3) (w : Word) (i : Nat) : FV :=
  match fmt.toNat with
  | 0 => bf16.value (fldN w (16 * i) 16)
  | 1 => fp16.value (fldN w (16 * i) 16)
  | 2 => e4m3.value (fldN w (8 * i) 8)
  | 3 => e5m2.value (fldN w (8 * i) 8)
  | 4 => .fin (decide (128 ≤ fldN w (8 * i) 8)) (if fldN w (8 * i) 8 < 128 then fldN w (8 * i) 8 else 256 - fldN w (8 * i) 8) 0
  | _ => e2m1.value (fldN w (4 * i) 4)

/-- R247: `u` is `v` with `n` lanes from `lane` on loaded from a word, and `nf` says whether a lane was not finite. -/
def PVec.Loads (v u : PVec) (w : Word) (lane n : Nat) (nf : Bool) : Prop :=
  let unit : Rat := if v.fmt = 5 then ((e3m5 v.scale.toNat).1 : Rat) * (2 : Rat) ^ (e3m5 v.scale.toNat).2 else 1
  u.fmt = v.fmt ∧ u.scale = v.scale
  ∧ (∀ k, k < 32 → u.lane k = if lane ≤ k ∧ k < lane + n then (laneFV v.fmt w (k - lane)).rat * unit else v.lane k)
  ∧ (nf = true ↔ ∃ i, i < n ∧ (laneFV v.fmt w i).finite = false)

/-- R218: the grid value of row `i` of a block, by R52 for FP4. -/
def blockGrid (kind : BitVec 2) (v i : Nat) : Int :=
  let nib := v / 2 ^ (4 * i) % 16
  let byte := v / 2 ^ (8 * i) % 256
  let e := v / 2 ^ 37 % 8
  let m := v / 2 ^ 32 % 32
  if kind = 0 then (if byte < 128 then (byte : Int) else byte - 256)
  else if kind = 1 then (if nib < 8 then (nib : Int) else nib - 16)
  else (if nib < 8 then 1 else -1) * (([0, 1, 2, 3, 4, 6, 8, 12].getD (nib % 8) 0 : Nat) : Int)
    * ((if e = 0 then m else (32 + m) * 2 ^ (e - 1) : Nat) : Int)

/-- R218: entry `i` of a block: CHK and the grid values up to its row. -/
def blockEntry (kind : BitVec 2) (v i : Nat) : Int :=
  (BitVec.ofNat 24 (v / 2 ^ 40)).toInt + ((List.range (i + 1)).map (blockGrid kind v)).sum

/-! Stream units (R253 to R275). -/

/-- The tokens that a unit's step puts on each of its connected outputs. -/
def SUnit.Sends (u u' : SUnit) (f : Nat → List Token) : Prop :=
  ∀ k, k < 8 → (u'.ports.outAt k).slots = (u.ports.outAt k).slots ++ (if u.wired k then (f k).map Slot.full else [])

/-- The inputs that a unit's step takes a token from, a companion only where it is connected. -/
def SUnit.Takes (u u' : SUnit) (ks : List Nat) : Prop :=
  ∀ k, k < 8 → (u'.ports.inAt k).buf = if ks.contains k && (u.ports.inAt k).wired then (u.ports.inAt k).buf.tail else (u.ports.inAt k).buf

/-- A unit's step ends in a next state in which the unit is as `P` says; memory and the elements are as before. -/
def UnitActs (i : Instr) (s : State) (k : Nat) (P : SUnit → Prop) : Prop :=
  ∃ s' u', exec i s = .next s' ∧ s'.unit? k = some u' ∧ P u' ∧ s'.mem = s.mem ∧ s'.elems = s.elems

/-! Transactions (R406, R407, R434). -/

/-- R407: the state once a transaction has been counted as the next of its source. -/
def State.counted (s : State) (t : Txn) : State :=
  s.setEp t.src.toNat { s.ep t.src.toNat with
    expect := (s.ep t.src.toNat).expect + 1, held := (s.ep t.src.toNat).held.filter (fun h => h.eseq != t.eseq) }

/-- R407: a transaction is for this device and the next of its source. -/
def State.due (s : State) (t : Txn) : Prop := t.dst = Config.endpoint ∧ t.eseq = (s.ep t.src.toNat).expect

/-- R406: the answer of TYPE 6 (RESPONSE) or 7 (NACK) to a transaction. -/
def answerTo (t : Txn) (type : BitVec 4) (opx : Byte) (data : List Byte) : Txn :=
  { type := type, dst := t.src, src := Config.endpoint, eseq := t.eseq, len := BitVec.ofNat 8 (data.length / 16)
    opx := opx, addr := 0, data := data }

/-- R407: a step ends in a next state in which an answer to a transaction waits for a port, stored as the last answer to its
source, and the rest is as `P` says. -/
def Answers (i : Instr) (s : State) (t a : Txn) (P : State → Prop) : Prop :=
  ∃ s', exec i s = .next s' ∧ s'.outq = s.outq ++ [a] ∧ (s'.ep t.src.toNat).answers.getLast? = some ⟨t.eseq, a⟩ ∧ P s'

/-! The invariant. -/

/-- Memory is in its canonical form: addresses rise strictly and no listed byte is 0. -/
def State.Inv (s : State) : Prop := s.mem.wf = true

end Sys2Proof.Machine
end

