-- ==== Sys2Proof/Certificates/Slice0/Obligations.lean ====
section
/-! DEFINITION. What is claimed of this model, one statement for each obligation of OBLIGATIONS.json. -/

open Sys2Proof Sys2Proof.Machine

/-- R111, R113: the decoder inverts the encoder, for every instruction with an encoding and every operand. -/
def Obligations.EncodeDecode : Prop := ∀ (i : Instr) (w : Word), encode i = some w → decodeWord w = .ok i

/-- R113, R122: every accepted word is the one word of its instruction, so a set bit outside the layout is refused. -/
def Obligations.DecodeEncode : Prop := ∀ (w : Word) (i : Instr), decodeWord w = .ok i → encode i = some w

/-- R120: the opcodes that the map leaves unassigned, and no others, are no instruction whatever the other bits; and the spec's own
assembled words: ITER and SEL after R148, DOT4 and DIVN after R159, the all-zero NOP of R122. -/
def Obligations.SpecWordsRefusals : Prop :=
  (∀ w : Word, decodeWord w = .error .badOp ↔
      (0x13 ≤ fldN w 24 8 ∧ fldN w 24 8 ≤ 0x1F ∨ 0x56 ≤ fldN w 24 8 ∧ fldN w 24 8 ≤ 0x5F
        ∨ 0x97 ≤ fldN w 24 8 ∧ fldN w 24 8 ≤ 0x9F ∨ 0xC4 ≤ fldN w 24 8 ∧ fldN w 24 8 ≤ 0xC7 ∨ fldN w 24 8 = 0xD7
        ∨ 0xEC ≤ fldN w 24 8 ∧ fldN w 24 8 ≤ 0xEF ∨ fldN w 24 8 = 0xFF))
  ∧ (decodeWord 0x0F400070 = .ok (.iter 8 0 1 3)
      ∧ decodeWord 0x044254F0 = .ok (.sel 8 9 10 3 3 0)
      ∧ decodeWord 0x4F121200 = .ok (.dot4 2 8 9 0 0 0)
      ∧ decodeWord 0x542002B0 = .ok (.divn 4 0 1 2 3 0)
      ∧ decodeWord 0x00000000 = .ok (.nop 0 0)
      ∧ decodeWord 0x13000000 = .error .badOp
      ∧ decodeWord 0xFF000000 = .error .badOp)

/-- R70, R74, R310: what a step adds around exec: it takes the first item of the agenda and names who executes (the agenda
is the model's own, notes/assumptions/5). A step without an encoding is `runEv` of it, and that is exec of the one instruction
without an encoding that stands for it, in every state. -/
def Obligations.StepRunsDecoded : Prop :=
  ∀ (s : State) (rest : List Todo),
    (∀ (el rule : Nat) (i : Instr), s.agenda = .fire el rule :: rest → decodeWord (s.ruleWord el rule) = .ok i →
        step s = exec i { s with agenda := rest, cur := .rule el rule })
    ∧ (∀ (t k rule : Nat) (i : Instr), s.agenda = .walk t k :: rest →
        walkRule (s.loupe t) ((s.loupe t).slot k).p = some rule → decodeWord (s.walkWord t rule) = .ok i →
        step s = exec i { s with agenda := rest, cur := .walk t k rule })
    ∧ (∀ (t k : Nat), s.agenda = .walk t k :: rest → walkRule (s.loupe t) ((s.loupe t).slot k).p = none →
        step s = .next ({ s with agenda := rest }.endWalk t k 4 0xFF []))
    ∧ (∀ (e : Ev), s.agenda = .ev e :: rest →
        step s = runEv e { s with agenda := rest, cur := .none }
        ∧ ∃ i : Instr, encode i = none ∧ ∀ w : State, runEv e w = exec i w)
    ∧ (s.agenda = [] → step s = exec .round { s with cur := .none })

/-- A word placed for fetching (notes/assumptions/6) is decoded and run by the very next step. -/
def Obligations.PlacedWordRuns : Prop :=
  ∀ (s : State) (w : Word) (i : Instr), decodeWord w = .ok i →
    (fldN w 24 8 < 0xF0 ∨ 0xF7 < fldN w 24 8 →
      step (s.placeWord w) = exec i { s.placeWord w with agenda := s.agenda, cur := .rule 16 0 })
    ∧ (0xF0 ≤ fldN w 24 8 → fldN w 24 8 ≤ 0xF7 → ((s.loupe 0).guards.toList.drop 1).all (fun g => fldN g 0 1 == 0) →
      step (s.placeWord w) = exec i { s.placeWord w with agenda := s.agenda, cur := .walk 0 0 0 })

/-- What reset leaves (R24, R335, R403, R432, R437). Memory and the registers reading 0 are the model's choice
(notes/assumptions 2 and 3). -/
def Obligations.ResetState : Prop :=
  (∀ r, (State.reset.region r).st = .free ∧ (State.reset.region r).cycle = 0 ∧ (State.reset.region r).chgen = 0
      ∧ ∀ k, (h : k < 16) → (State.reset.region r).sig[k] = 0)
    ∧ (∀ c, (State.reset.ctx c).st = .free) ∧ (∀ q, (State.reset.queue q).st = .disabled)
    ∧ (∀ l, (State.reset.link l).st = .training) ∧ State.reset.sec.boot = .reset
    ∧ (∀ el, (State.reset.elem el).life = .off ∧ (State.reset.elem el).p = 0 ∧ (State.reset.elem el).sg = 0
        ∧ (∀ k, (h : k < 8) → (State.reset.elem el).d[k] = 0 ∧ (State.reset.elem el).c[k] = 0))
    ∧ (∀ a, State.reset.mem.read a = 0) ∧ State.reset.accs = [] ∧ State.reset.agenda = []

/-- The canonical form of memory (the model's own invariant) holds at reset. -/
def Obligations.ResetInv : Prop := State.reset.Inv

/-- Every step keeps the canonical form of memory, from every state that has it. -/
def Obligations.InvKept : Prop := ∀ s s' : State, s.Inv → step s = .next s' → s'.Inv

/-- R5: multi-byte values lie in memory little-endian; a store changes its own bytes and no other. -/
def Obligations.MemoryLaws : Prop :=
  ∀ (m : Memory) (a n v : Nat), m.wf = true →
    (m.writeN a n v).readN a n = v % 256 ^ n
      ∧ (∀ k < n, (m.writeN a n v).read (a + k) = BitVec.ofNat 8 (v / 256 ^ k))
      ∧ (∀ a' : Nat, a' < a ∨ a + n ≤ a' → (m.writeN a n v).read a' = m.read a')
      ∧ (m.writeN a n v).wf = true

/-- R68, R74, R79: the three things that a rule of the general form can do. -/
def Obligations.RuleWaits : Prop :=
  ∀ (s : State) (el rule : Nat) (q : Req) (f : In → Res),
    ((s.elem el).input q = none → s.genElem el rule q f = s)
    ∧ (∀ (k : Nat) (c : BitVec 5), q.a = some c ∨ q.b = some c → (c.toNat = 8 + k ∨ c.toNat = 16 + k) → k < 8 →
        ((s.elem el).ports.head k = none ∨ (∃ t, (s.elem el).ports.head k = some t ∧ (t.tag = Tag.mark ∨ t.tag = Tag.drain))) →
        s.genElem el rule q f = s)
    ∧ (∀ (x : In) (puts : List Put) (flag : Bool) (inc : Inc), (s.elem el).input q = some x → f x = .done puts flag inc →
        (¬ s.hasRoom el rule q puts flag → s.genElem el rule q f = s)
        ∧ (s.hasRoom el rule q puts flag → s.genElem el rule q f = s.fired el rule q puts flag inc))
    ∧ (∀ (x : In) (code : Byte), (s.elem el).input q = some x → f x = .abort code →
        s.genElem el rule q f = s.setElem el ((s.elem el).freeze
          { code := code, rule := BitVec.ofNat 4 rule, opa := x.a.data, opb := x.b.data,
            stamp := s.cycleOf (regionOfElem el) } false))

/-- R57, R74, R112, R134, R135: what the commit of a one-round rule with one result leaves in its element; its increments are
in the counters from the next round on. -/
def Obligations.CommitWrites : Prop :=
  ∀ (e : Elem) (rule : Nat) (q : Req) (t : Tag) (v : Word) (f : Bool) (n : Inc), q.lat = 1 →
    let e' := e.commit rule q (e.allPuts rule q (deliver q.d t v) f) n
    (∀ k, (h : k < 8) → e'.d[k] = if q.d.toNat = k then v else e.d[k])
    ∧ (∀ k, k < 8 → e'.p.getLsbD k =
        if q.p ≠ 0 ∧ q.i.toNat = k then (if q.p = 1 then true else if q.p = 2 then false else f)
        else if q.d.toNat = 16 + k then decide (v ≠ 0) else e.p.getLsbD k)
    ∧ (∀ k, k < 8 → (e'.ports.outAt k).slots =
        (e.ports.outAt k).slots ++ (if q.d.toNat = 8 + k then [.full ⟨v, t⟩] else []))
    ∧ (∀ k, k < 8 → (e'.ports.inAt k).buf =
        if (q.a = some (BitVec.ofNat 5 (8 + k)) ∨ q.b = some (BitVec.ofNat 5 (8 + k))) then (e.ports.inAt k).buf.tail
        else (e.ports.inAt k).buf)
    ∧ e'.stats = e.stats ∧ e'.now = e.now.plus n ∧ e'.due = e.due ∧ e'.pend = e.pend ∧ e'.l = e.l ∧ e'.sg = e.sg ∧ e'.c = e.c ∧ e'.guards = e.guards
    ∧ e'.actions = e.actions ∧ e'.binds = e.binds ∧ e'.wait = e.wait ∧ e'.rot = e.rot ∧ e'.life = e.life
    ∧ e'.fault = e.fault ∧ e'.disc = e.disc ∧ e'.whey = e.whey ∧ e'.tick.stats = e.stats.add (e.now.plus n)

/-- R64, R67, R74, R84: the side effects that a fired rule's guard, bindings and cycles give it, and a full cycle. -/
def Obligations.CommitOnceAndControl : Prop :=
  (∀ (e : Elem) (rule : Nat) (q : Req) (t : Tag) (v : Word) (f : Bool) (n : Inc), q.lat = 1 → (hr : rule < 16) →
    let g := e.guards[rule]
    let e' := e.commit rule q (e.allPuts rule q (deliver q.d t v) f) n
    (∀ k, k < 16 → e'.dis.getLsbD k = (e.dis.getLsbD k || decide (k = rule ∧ fldN g 1 1 = 1)))
    ∧ (∀ k, k < 4 → (e'.ports.cinAt k).held =
        (e.ports.cinAt k).held - (if fldN g 8 2 = 3 ∧ fldN g 4 2 = 0 ∧ fldN g 6 2 = k then 1 else 0))
    ∧ (∀ k, (h : k < 4) → (e'.ports.coutAt k).held =
        (e.ports.coutAt k).held
          + (if e.binds[k].en ∧ e.binds[k].rule.toNat = rule ∧ (e.binds[k].flag = false ∨ (q.p = 3 ∧ f = true)) then 1 else 0)))
  ∧ (∀ (e : Elem) (rule : Nat) (q : Req) (t : Tag) (v : Word) (f : Bool) (n : Inc),
      let takes := fun k : BitVec 3 => (q.a = some (BitVec.ofNat 5 (8 + k.toNat)) ∨ q.b = some (BitVec.ofNat 5 (8 + k.toNat)))
        ∧ (e.headTok k.toNat).any isData = true
      let emits := fun k : BitVec 3 => q.d.toNat = 8 + k.toNat ∧ (t = Tag.data ∨ t = Tag.last)
      (e.commit rule q (e.allPuts rule q (deliver q.d t v) f) n).cycles = e.cycles.map (fun c =>
        { c with occ := BitVec.ofNat 8 ((if takes c.entry then min 255 (c.occ.toNat + 1) else c.occ.toNat) - (if emits c.exit then 1 else 0)) }))
  ∧ (∀ (e : Elem) (p : Press) (grant : Bool) (k : Nat), e.ready p grant k = true → ∀ c ∈ e.cycles,
      Place.inp c.entry.toNat ∈ (e.foot k).writes → (e.headTok c.entry.toNat).any isData = true → c.occ.toNat < c.limit.toNat)

/-- R43, R68 item 2, R75: the issue of a long-latency rule and its commit. -/
def Obligations.LongLatency : Prop :=
  (∀ (e : Elem) (rule : Nat) (q : Req) (t : Tag) (v : Word) (f : Bool) (n : Inc), 1 < q.lat →
      let e' := e.commit rule q (e.allPuts rule q (deliver q.d t v) f) n
      e'.d = e.d ∧ e'.p = e.p ∧ e'.l = e.l ∧ e'.sg = e.sg ∧ e'.stats = e.stats ∧ e'.now = e.now ∧ e'.due = e.due
      ∧ (∃ x : Pend, e'.pend = e.pend ++ [x] ∧ x.id = e.nextId ∧ x.job = .timed ∧ x.left = q.lat - 1 ∧ x.inc = n ∧ x.port = false
          ∧ (q.d.toNat < 8 → Loc.d q.d.toNat ∈ x.locs) ∧ (16 ≤ q.d.toNat → q.d.toNat < 24 → Loc.p (q.d.toNat - 16) ∈ x.locs)
          ∧ (q.p ≠ 0 → Loc.p q.i.toNat ∈ x.locs)
          ∧ (∀ w ∈ deliver q.d t v ++ update q.i q.p f, w ∈ x.puts))
      ∧ e'.nextId = e.nextId + 1
      ∧ (∀ k, k < 8 → (e'.ports.outAt k).slots =
          (e.ports.outAt k).slots ++ (if q.d.toNat = 8 + k then [.held e.nextId] else []))
      ∧ (∀ k, k < 8 → (e'.ports.inAt k).buf =
          if (q.a = some (BitVec.ofNat 5 (8 + k)) ∨ q.b = some (BitVec.ofNat 5 (8 + k))) then (e.ports.inAt k).buf.tail
          else (e.ports.inAt k).buf))
  ∧ (∀ (s : State) (el id : Nat) (p : Pend), (s.elem el).pend? id = some p → p.job = .timed → p.left = 0 →
      ∃ e', exec (.longLatencyCommit el id) s = .next (s.setElem el e')
        ∧ e' = (p.puts.map (Put.carry none false)).foldl (fun e x => e.putHeld id x)
            { s.elem el with
              pend := (s.elem el).pend.filter (fun x => x.id != id)
              due := (s.elem el).due.plus p.inc }
        ∧ e'.tick.now = (s.elem el).due.plus p.inc)

/-- R79, R80, R82, R144, R147: what an abort leaves. -/
def Obligations.AbortFreezes : Prop :=
  ∀ (s : State) (el rule : Nat) (x : In) (d a b : BitVec 5) (i : BitVec 3) (p : BitVec 2),
    (s.elem el).life = .running →
    ∀ j : Instr, ((s.armed el rule (rq d (some a) (some b) i p 1) x
            ∧ (fldN x.b.data 0 4 = 7 ∨ 12 ≤ fldN x.b.data 0 4) ∧ j = .mktag d a b i p)
          ∨ (s.armed el rule (rq 24 (some a) none i p 1) x ∧ x.a.data = 0 ∧ j = .cntset d a i p)) →
      ∃ e', exec j s = .next (s.setElem el e') ∧ e'.life = .frozen ∧ e'.unposted = true
        ∧ e'.fault =
            { code := 0x02, rule := BitVec.ofNat 4 rule, opa := x.a.data, opb := x.b.data,
              stamp := s.cycleOf (regionOfElem el) }
        ∧ e'.d = (s.elem el).d ∧ e'.p = (s.elem el).p ∧ e'.l = (s.elem el).l ∧ e'.sg = (s.elem el).sg
        ∧ e'.dis = (s.elem el).dis ∧ e'.stats = (s.elem el).stats ∧ e'.now = (s.elem el).now ∧ e'.ports = (s.elem el).ports
        ∧ e'.pend = (s.elem el).pend ∧ e'.wait = (s.elem el).wait ∧ e'.rot = (s.elem el).rot

/-- R140 to R144, R148: the moves, each from every state in which it has its operands and its room. -/
def Obligations.MoveResults : Prop :=
  (∀ i p, (∀ s el rule x, s.armed el rule (rq 24 none none i p 1) x → s.hasRoom el rule (rq 24 none none i p 1) [] false →
        exec (.nop i p) s = .next (s.fired el rule (rq 24 none none i p 1) [] false {}))
      ∧ ∀ s t k rule, s.cur = .walk t k rule → exec (.nop i p) s = .next (s.walked t k (rq 24 none none i p 1) [] false))
    ∧ Unary .mov (fun a v f => v = a ∧ (f = true ↔ a ≠ 0))
    ∧ (∀ d a i p s el rule x, s.armed el rule (rq d (some a) none i p 1) x →
        s.hasRoom el rule (rq d (some a) none i p 1) (deliver d x.a.tag x.a.data) (decide (2 ≤ x.a.tag.toNat ∧ x.a.tag.toNat ≤ 5)) →
        exec (.pass d a i p) s = .next (s.fired el rule (rq d (some a) none i p 1) (deliver d x.a.tag x.a.data)
          (decide (2 ≤ x.a.tag.toNat ∧ x.a.tag.toNat ≤ 5)) {}))
    ∧ (∀ a i p s el rule x, s.armed el rule (rq 24 (some a) none i p 1) x →
        s.hasRoom el rule (rq 24 (some a) none i p 1) [] (decide (2 ≤ x.a.tag.toNat ∧ x.a.tag.toNat ≤ 5)) →
        exec (.drop a i p) s = .next (s.fired el rule (rq 24 (some a) none i p 1) []
          (decide (2 ≤ x.a.tag.toNat ∧ x.a.tag.toNat ≤ 5)) {}))
    ∧ (∀ d a b i p t, Completes (.sel d a b i p t) (rq d (some a) (some b) i p 1) t (fun x v f n =>
          f = x.p.getLsbD i.toNat ∧ v = (if x.p.getLsbD i.toNat then x.a.data else x.b.data) ∧ n = {})
        ∧ CompletesInWalk (.sel d a b i p t) (rq d (some a) (some b) i p 1) t (fun x v f _ =>
          f = x.p.getLsbD i.toNat ∧ v = (if x.p.getLsbD i.toNat then x.a.data else x.b.data)))
    ∧ (∀ d a i p t, Completes (.tagof d a i p t) (rq d (some a) none i p 1) t (fun x v f n =>
          v.toNat = x.a.tag.toNat ∧ (f = true ↔ 2 ≤ x.a.tag.toNat ∧ x.a.tag.toNat ≤ 5) ∧ n = {}))
    ∧ (∀ d a b i p s el rule x, s.armed el rule (rq d (some a) (some b) i p 1) x →
        (fldN x.b.data 0 4 < 7 ∨ 8 ≤ fldN x.b.data 0 4 ∧ fldN x.b.data 0 4 < 12) →
        s.hasRoom el rule (rq d (some a) (some b) i p 1) (deliver d (BitVec.ofNat 4 x.b.data.toNat) x.a.data) (decide (x.a.data ≠ 0)) →
        exec (.mktag d a b i p) s = .next (s.fired el rule (rq d (some a) (some b) i p 1)
          (deliver d (BitVec.ofNat 4 x.b.data.toNat) x.a.data) (decide (x.a.data ≠ 0)) {}))

/-- R143: STEER, for each of the eight ends k. -/
def Obligations.SteerSends : Prop :=
  ∀ (s : State) (el rule : Nat) (k : Fin 8) (a b : BitVec 5) (i : BitVec 3) (p : BitVec 2) (x : In),
    let d : BitVec 5 := BitVec.ofNat 5 (8 + k.val)
    let q := rq d (some a) (some b) i p 1
    let on : Bool := decide (x.b.data ≠ 0)
    let target : BitVec 3 := if on then BitVec.ofNat 3 k.val else BitVec.ofNat 3 k.val ^^^ 1
    s.armed el rule q x →
      ((((s.elem el).ports.outAt k.val).room = 0 ∨ ((s.elem el).ports.outAt (k.val ^^^ 1)).room = 0) →
        exec (.steer d a b i p) s = .next s)
      ∧ (1 ≤ ((s.elem el).ports.outAt k.val).room → 1 ≤ ((s.elem el).ports.outAt (k.val ^^^ 1)).room →
          s.hasRoom el rule q [.out target [x.a]] on →
          exec (.steer d a b i p) s = .next (s.fired el rule q [.out target [x.a]] on {}))

/-- R145: the predicate instructions, on predicates A and B (codes 0 to 7). -/
def Obligations.PredicateResults : Prop :=
  let two := fun (c : BitVec 5 → BitVec 5 → BitVec 5 → BitVec 3 → BitVec 2 → BitVec 4 → Instr) (g : Bool → Bool → Bool) =>
    ∀ d a b i p t, a.toNat < 8 → b.toNat < 8 →
      Completes (c d a b i p t) (rq d none none i p 1) t (fun x v f n =>
        f = g (x.p.getLsbD a.toNat) (x.p.getLsbD b.toNat) ∧ v = (if f then 1 else 0) ∧ n = {})
      ∧ CompletesInWalk (c d a b i p t) (rq d none none i p 1) t (fun x v f _ =>
        f = g (x.p.getLsbD a.toNat) (x.p.getLsbD b.toNat) ∧ v = (if f then 1 else 0))
  two .pand (fun u w => u && w) ∧ two .por (fun u w => u || w) ∧ two .pxor (fun u w => u != w)
    ∧ two (fun d a _ i p t => .pnot d a i p t) (fun u _ => !u) ∧ two (fun d a _ i p t => .pmov d a i p t) (fun u _ => u)
    ∧ (∀ d i p t, Completes (.ptod d i p t) (rq d none none i p 1) t (fun x v f n =>
          v.toNat = x.p.toNat ∧ (f = true ↔ x.p ≠ 0) ∧ n = {})
        ∧ CompletesInWalk (.ptod d i p t) (rq d none none i p 1) t (fun x v f _ => v.toNat = x.p.toNat ∧ (f = true ↔ x.p ≠ 0)))
    ∧ (∀ a s el rule x, s.armed el rule (rq 24 (some a) none 0 0 1) x → s.hasRoom el rule (rq 24 (some a) none 0 0 1) [] false →
        ∃ e', exec (.dtop a) s = .next (s.setElem el e') ∧ ∀ k, k < 8 → e'.p.getLsbD k = x.a.data.getLsbD k)
    ∧ (∀ a s t k rule, s.cur = .walk t k rule →
        ∃ w, exec (.dtop a) s = .next (s.setSlot t k w)
          ∧ ∀ j, j < 8 → w.p.getLsbD j = (winput (s.loupe t) ((s.loupe t).slot k) (rq 24 (some a) none 0 0 1)).a.data.getLsbD j)

/-- R146 to R148: ITER, CNTRD, CNTSET on l0 and l1 with every destination, and HALT. That HALT leaves a FROZEN element FROZEN is the
model's choice (log 64). -/
def Obligations.CounterResults : Prop :=
  ((∀ d a i p t, (ha : a.toNat < 2) → Completes (.cntrd d a i p t) (rq d none none i p 1) t (fun x v f n =>
        v = x.l[a.toNat].value ∧ (f = true ↔ x.l[a.toNat].value = x.l[a.toNat].bound - 1) ∧ n = {}))
      ∧ (∀ (k : Fin 2) a i p s el rule x, s.armed el rule (rq 24 (some a) none i p 1) x → x.a.data ≠ 0 →
          (s.elem el).roomFor ((s.elem el).allPuts rule (rq 24 (some a) none i p 1) [] false) = true →
          ∃ e', exec (.cntset (BitVec.ofNat 5 (25 + k.val)) a i p) s = .next (s.setElem el e')
            ∧ e'.l[k] = { (s.elem el).l[k] with bound := x.a.data, value := 0 }
            ∧ (∀ j : Fin 2, j ≠ k → e'.l[j] = (s.elem el).l[j]))
      ∧ (∀ s el rule x, s.armed el rule (rq 24 none none 0 0 1) x → s.hasRoom el rule (rq 24 none none 0 0 1) [] false →
          exec .halt s = .next (s.setElem el
            { (s.elem el).commit rule (rq 24 none none 0 0 1) ((s.elem el).allPuts rule (rq 24 none none 0 0 1) [] false) {} with
              halted := true, life := if (s.elem el).life = .frozen then .frozen else .halted })))
  ∧ (∀ (s : State) (el rule : Nat) (d : BitVec 5) (k : Fin 2) (i : BitVec 3) (p : BitVec 2) (x : In),
      let a : BitVec 5 := BitVec.ofNat 5 k.val
      let q := rq d none none i p 1
      let l := (s.elem el).l
      let last : Bool := decide (l[k].value = l[k].bound - 1)
      let carry : Bool := last && decide (k.val = 0) && decide (l[0].chain = 1)
      let wrap1 : Bool := carry && decide (l[1].value = l[1].bound - 1)
      let own : Nat := if last then l[k].wlevel.toNat else 0
      let outer : Nat := if wrap1 then l[1].wlevel.toNat else 0
      let level := max own outer
      let stop : Word := if own < outer then l[1].bound else l[k].bound
      let chan : Bool := decide (8 ≤ d.toNat ∧ d.toNat ≤ 15)
      let need : Nat := if l[k].wlevel ≠ 0 ∨ (k.val = 0 ∧ l[0].chain = 1 ∧ l[1].wlevel ≠ 0) then 2 else 1
      let tag : Tag := if last then Tag.last else Tag.data
      let res : List Put := if chan = true then [.out (BitVec.ofNat 3 (d.toNat - 8))
          (⟨l[k].value, tag⟩ :: (if level ≠ 0 then [⟨stop, BitVec.ofNat 4 (1 + level)⟩] else []))]
        else deliver d tag l[k].value
      let puts : List Put := res ++ .l (BitVec.ofNat 1 k.val) { l[k] with value := if last then 0 else l[k].value + 1 }
        :: (if carry then [.l 1 { l[1] with value := if wrap1 then 0 else l[1].value + 1 }] else [])
      s.armed el rule q x →
        (chan = true → ((s.elem el).ports.outAt (d.toNat - 8)).room < need → exec (.iter d a i p) s = .next s)
        ∧ ((chan = true → need ≤ ((s.elem el).ports.outAt (d.toNat - 8)).room) → s.hasRoom el rule q puts last →
            exec (.iter d a i p) s = .next (s.fired el rule q puts last {})
              ∧ ((s.fired el rule q puts last {}).elem el).l[k] = { l[k] with value := if last then 0 else l[k].value + 1 }
              ∧ (k.val = 0 → ((s.fired el rule q puts last {}).elem el).l[1]
                  = { l[1] with value := if wrap1 then 0 else if carry then l[1].value + 1 else l[1].value })
              ∧ (k.val = 1 → ((s.fired el rule q puts last {}).elem el).l[0] = l[0])))

/-- R150: the table, in exact arithmetic on the operands' unsigned (toNat) and signed (toInt) readings. -/
def Obligations.IntegerArithmetic : Prop :=
  let sat := fun (f : Bool) (n : Inc) => n = { sat := if f then 1 else 0 }
  Binary .add (fun a b v f => v.toNat = (a.toNat + b.toNat) % 2 ^ 32 ∧ (f = true ↔ 2 ^ 32 ≤ a.toNat + b.toNat))
  ∧ Binary .sub (fun a b v f => (v.toNat : Int) = ((a.toNat : Int) - b.toNat) % 2 ^ 32 ∧ (f = true ↔ a.toNat < b.toNat))
  ∧ BinaryE 1 .adds (fun _ a b v f n => v.toInt = max (-2 ^ 31) (min (2 ^ 31 - 1) (a.toInt + b.toInt))
      ∧ (f = true ↔ v.toInt ≠ a.toInt + b.toInt) ∧ sat f n)
  ∧ BinaryE 1 .subs (fun _ a b v f n => v.toInt = max (-2 ^ 31) (min (2 ^ 31 - 1) (a.toInt - b.toInt))
      ∧ (f = true ↔ v.toInt ≠ a.toInt - b.toInt) ∧ sat f n)
  ∧ BinaryE 1 .addsn (fun _ a b v f n => v.toNat = min (2 ^ 32 - 1) (a.toNat + b.toNat)
      ∧ (f = true ↔ v.toNat ≠ a.toNat + b.toNat) ∧ sat f n)
  ∧ BinaryE 1 .subsn (fun _ a b v f n => (v.toNat : Int) = max 0 ((a.toNat : Int) - b.toNat)
      ∧ (f = true ↔ (v.toNat : Int) ≠ (a.toNat : Int) - b.toNat) ∧ sat f n)
  ∧ Unary .neg (fun a v f => (v.toNat : Int) = (-a.toInt) % 2 ^ 32 ∧ (f = true ↔ a = 0x80000000))
  ∧ Unary .abs (fun a v f => v.toNat = a.toInt.natAbs % 2 ^ 32 ∧ (f = true ↔ a = 0x80000000))
  ∧ Binary .mul (fun a b v f => (v.toNat : Int) = (a.toInt * b.toInt) % 2 ^ 32
      ∧ (f = true ↔ ¬ (-2 ^ 31 ≤ a.toInt * b.toInt ∧ a.toInt * b.toInt < 2 ^ 31)))
  ∧ Binary .mulh (fun a b v f => (v.toNat : Int) = (a.toInt * b.toInt / 2 ^ 32) % 2 ^ 32 ∧ (f = true ↔ v ≠ 0))
  ∧ Binary .mulhn (fun a b v f => v.toNat = a.toNat * b.toNat / 2 ^ 32 ∧ (f = true ↔ v ≠ 0))
  ∧ BinaryE 1 .mac (fun d a b v f n => (v.toNat : Int) = ((d.toNat : Int) + a.toInt * b.toInt) % 2 ^ 32
      ∧ (f = true ↔ v ≠ 0) ∧ n = {})
  ∧ Binary .min (fun a b v f => v.toInt = min a.toInt b.toInt ∧ (f = true ↔ b.toInt < a.toInt))
  ∧ Binary .max (fun a b v f => v.toInt = max a.toInt b.toInt ∧ (f = true ↔ a.toInt < b.toInt))
  ∧ Binary .minn (fun a b v f => v.toNat = min a.toNat b.toNat ∧ (f = true ↔ b.toNat < a.toNat))
  ∧ Binary .maxn (fun a b v f => v.toNat = max a.toNat b.toNat ∧ (f = true ↔ a.toNat < b.toNat))

/-- R151: each bit of the result, for every pair of operands. -/
def Obligations.LogicAndShift : Prop :=
  let bits := fun (g : Bool → Bool → Bool) (a b v : Word) (f : Bool) =>
    (∀ k, k < 32 → v.getLsbD k = g (a.getLsbD k) (b.getLsbD k)) ∧ (f = true ↔ v ≠ 0)
  Binary .and (bits (fun x y => x && y)) ∧ Binary .or (bits (fun x y => x || y)) ∧ Binary .xor (bits (fun x y => x != y))
  ∧ Binary .andn (bits (fun x y => x && !y)) ∧ Binary .orn (bits (fun x y => x || !y))
  ∧ Unary .not (fun a v f => (∀ k, k < 32 → v.getLsbD k = !a.getLsbD k) ∧ (f = true ↔ v ≠ 0))
  ∧ Binary .shl (fun a b v f =>
      (∀ k, k < 32 → v.getLsbD k = (decide (b.toNat ≤ k) && a.getLsbD (k - b.toNat)))
      ∧ (f = true ↔ ∃ k, k < 32 ∧ a.getLsbD k = true ∧ 32 ≤ k + b.toNat))
  ∧ Binary .shr (fun a b v f =>
      (∀ k, k < 32 → v.getLsbD k = a.getLsbD (k + b.toNat)) ∧ (f = true ↔ ∃ k, k < 32 ∧ a.getLsbD k = true ∧ k < b.toNat))
  ∧ Binary .sar (fun a b v f =>
      (∀ k, k < 32 → v.getLsbD k = if k + b.toNat < 32 then a.getLsbD (k + b.toNat) else a.getLsbD 31)
      ∧ (f = true ↔ ∃ k, k < 32 ∧ a.getLsbD k = true ∧ k < b.toNat))
  ∧ Binary .rol (fun a b v f =>
      (∀ k, k < 32 → v.getLsbD ((k + b.toNat) % 32) = a.getLsbD k) ∧ (f = true ↔ v ≠ 0))

/-- R152: the counts by what they count, the fields bit by bit. -/
def Obligations.BitFields : Prop :=
  let pos := fun b : Word => fldN b 0 5
  let w := fun b : Word => min (fldN b 5 5 + 1) (32 - fldN b 0 5)
  Unary .clz (fun a v f => v.toNat ≤ 32 ∧ (∀ k, k < v.toNat → a.getLsbD (31 - k) = false)
      ∧ (v.toNat < 32 → a.getLsbD (31 - v.toNat) = true) ∧ (f = true ↔ a = 0))
  ∧ Unary .ctz (fun a v f => v.toNat ≤ 32 ∧ (∀ k, k < v.toNat → a.getLsbD k = false)
      ∧ (v.toNat < 32 → a.getLsbD v.toNat = true) ∧ (f = true ↔ a = 0))
  ∧ Unary .popc (fun a v f => v.toNat = ((List.range 32).filter a.getLsbD).length ∧ (f = true ↔ v.toNat % 2 = 1))
  ∧ Unary .brev (fun a v f => (∀ k, k < 32 → v.getLsbD (31 - k) = a.getLsbD k) ∧ (f = true ↔ v ≠ 0))
  ∧ Binary .bfx (fun a b v f =>
      (∀ k, k < 32 → v.getLsbD k = (decide (k < w b) && a.getLsbD (pos b + k))) ∧ (f = true ↔ v ≠ 0))
  ∧ Binary .bfxs (fun a b v f =>
      (∀ k, k < 32 → v.getLsbD k = if k < w b then a.getLsbD (pos b + k) else a.getLsbD (pos b + w b - 1)) ∧ (f = true ↔ v ≠ 0))
  ∧ BinaryE 1 .bfi (fun d a b v f n =>
      (∀ k, k < 32 → v.getLsbD k = if pos b ≤ k ∧ k < pos b + w b then a.getLsbD (k - pos b) else d.getLsbD k)
        ∧ (f = true ↔ v ≠ 0) ∧ n = {})

/-- R153: each relation. -/
def Obligations.CompareResults : Prop :=
  let holds := fun (R : Word → Word → Prop) (a b v : Word) (f : Bool) => (R a b → v = 1 ∧ f = true) ∧ (¬ R a b → v = 0 ∧ f = false)
  Binary .cmpeq (holds fun a b => a = b) ∧ Binary .cmpne (holds fun a b => a ≠ b)
  ∧ Binary .cmplt (holds fun a b => a.toInt < b.toInt) ∧ Binary .cmple (holds fun a b => a.toInt ≤ b.toInt)
  ∧ Binary .cmpltn (holds fun a b => a.toNat < b.toNat) ∧ Binary .cmplen (holds fun a b => a.toNat ≤ b.toNat)

/-- R154: every lane of the result from the same lane of the operands. -/
def Obligations.PackedLanes : Prop :=
  let h := fun (g : BitVec 16 → BitVec 16 → BitVec 16 → Prop) (a b v : Word) (f : Bool) =>
    (∀ j, j < 2 → g (fld a (16 * j) 16) (fld b (16 * j) 16) (fld v (16 * j) 16)) ∧ (f = true ↔ v ≠ 0)
  let q := fun (g : BitVec 8 → BitVec 8 → BitVec 8 → Prop) (a b v : Word) (f : Bool) =>
    (∀ j, j < 4 → g (fld a (8 * j) 8) (fld b (8 * j) 8) (fld v (8 * j) 8)) ∧ (f = true ↔ v ≠ 0)
  Binary .addh2 (h fun x y z => z.toNat = (x.toNat + y.toNat) % 2 ^ 16)
  ∧ Binary .subh2 (h fun x y z => (z.toNat : Int) = ((x.toNat : Int) - y.toNat) % 2 ^ 16)
  ∧ Binary .maxh2 (h fun x y z => z.toInt = max x.toInt y.toInt)
  ∧ Binary .minh2 (h fun x y z => z.toInt = min x.toInt y.toInt)
  ∧ Binary .addb4 (q fun x y z => z.toNat = (x.toNat + y.toNat) % 2 ^ 8)
  ∧ Binary .subb4 (q fun x y z => (z.toNat : Int) = ((x.toNat : Int) - y.toNat) % 2 ^ 8)
  ∧ Binary .maxb4 (q fun x y z => z.toInt = max x.toInt y.toInt)
  ∧ Binary .minb4 (q fun x y z => z.toInt = min x.toInt y.toInt)

/-- R155 to R159, in exact arithmetic. -/
def Obligations.DotLeaHashDivide : Prop :=
  let m : Nat := 2 ^ 32
  BinaryE 1 .dot4 (fun d a b v f n => (v.toNat : Int) = ((d.toNat : Int)
      + ((List.range 4).map (fun j => (fld a (8 * j) 8).toInt * (fld b (8 * j) 8).toInt)).sum) % 2 ^ 32 ∧ (f = true ↔ v ≠ 0) ∧ n = {})
  ∧ BinaryE 1 .dot4n (fun d a b v f n => v.toNat = (d.toNat
      + ((List.range 4).map (fun j => fldN a (8 * j) 8 * fldN b (8 * j) 8)).sum) % m ∧ (f = true ↔ v ≠ 0) ∧ n = {})
  ∧ (∀ d a b i p z, Completes (.lea d a b i p z) (rq d (some a) (some b) i p 1) Tag.data (fun x v f n =>
        v.toNat = (x.a.data.toNat + x.b.data.toNat * 2 ^ z.toNat) % m
        ∧ (f = true ↔ m ≤ x.a.data.toNat + x.b.data.toNat * 2 ^ z.toNat) ∧ n = {})
      ∧ CompletesInWalk (.lea d a b i p z) (rq d (some a) (some b) i p 1) Tag.data (fun x v f _ =>
        v.toNat = (x.a.data.toNat + x.b.data.toNat * 2 ^ z.toNat) % m
        ∧ (f = true ↔ m ≤ x.a.data.toNat + x.b.data.toNat * 2 ^ z.toNat)))
  ∧ Binary .hash (fun a b v f =>
      let h1 := (a.toNat + b.toNat * 0x9D2C5681) % m
      let h2 := h1 ^^^ (h1 / 2 ^ 15)
      let h3 := h2 * 0x2C1B3C6D % m
      let h4 := h3 ^^^ (h3 / 2 ^ 12)
      let h5 := h4 * 0x297A2D39 % m
      v.toNat = h5 ^^^ (h5 / 2 ^ 15) ∧ (f = true ↔ v ≠ 0))
  ∧ Unary .xsh (fun a v f =>
      let x1 := a.toNat ^^^ (a.toNat * 2 ^ 13 % m)
      let x2 := x1 ^^^ (x1 / 2 ^ 17)
      v.toNat = x2 ^^^ (x2 * 2 ^ 5 % m) ∧ (f = true ↔ v ≠ 0))
  ∧ Binary .divn (fun a b v f => (b ≠ 0 → v.toNat = a.toNat / b.toNat ∧ f = false) ∧ (b = 0 → v = 0xFFFFFFFF ∧ f = true))
  ∧ Binary .remn (fun a b v f =>
      (b ≠ 0 → v.toNat + b.toNat * (a.toNat / b.toNat) = a.toNat ∧ f = false) ∧ (b = 0 → v = a ∧ f = true))

/-- R30 to R33, R35, R38, R39, R41, R42: one rounding of an exact magnitude, on the format's grid with the exponent range unbounded
above, and the formats themselves. -/
def Obligations.RoundOnce : Prop :=
  ∀ f ∈ [fp32, fp16, bf16, e5m2, e4m3, e2m1], ∀ (z sat neg : Bool) (m : Nat) (e : Int), m ≠ 0 →
    let g := f.grid m e
    let k := (onGrid (!z) m e g).1
    let r := f.round z sat neg m e
    (g ≤ e → k = m * 2 ^ (e - g).toNat ∧ (onGrid (!z) m e g).2 = true)
    ∧ (e < g → z = false →
        2 * m ≤ (2 * k + 1) * 2 ^ (g - e).toNat ∧ (2 * k - 1) * 2 ^ (g - e).toNat ≤ 2 * m
        ∧ (2 * m = (2 * k + 1) * 2 ^ (g - e).toNat ∨ (k ≠ 0 ∧ 2 * m = (2 * k - 1) * 2 ^ (g - e).toNat) → k % 2 = 0))
    ∧ (e < g → z = true → k * 2 ^ (g - e).toNat ≤ m ∧ m < (k + 1) * 2 ^ (g - e).toNat)
    ∧ (e < g → ((onGrid (!z) m e g).2 = true ↔ k * 2 ^ (g - e).toNat = m))
    ∧ (r.inc.flush = 1 ↔ k = 0)
    ∧ (r.inc.sat = 0 → r.inc.inf = 0 → k ≠ 0 →
        r.x = !(onGrid (!z) m e g).2
        ∧ ∃ m' e', f.value r.code = .fin neg m' e' ∧ g ≤ e' ∧ m' * 2 ^ (e' - g).toNat = k)
    ∧ (k = 0 → r = { code := if neg then f.signBit else 0, x := true, inc := { flush := 1 } })
    ∧ (let tooBig := (f.value f.maxCode).rat < (k : Rat) * (2 : Rat) ^ g
      (k ≠ 0 → ¬ tooBig → r.inc = {})
      ∧ (tooBig → sat = true → r = { code := (if neg then f.signBit else 0) + f.maxCode, x := true, inc := { sat := 1 } })
      ∧ (tooBig → sat = false → f.ieee = true →
          r = { code := (if neg then f.signBit else 0) + (2 ^ f.eb - 1) * 2 ^ f.mb, x := true, inc := { inf := 1 } }))
    ∧ (∀ y ∈ [(fp32, 23, (-149 : Int)), (fp16, 10, -24), (bf16, 7, -133), (e5m2, 2, -16), (e4m3, 3, -9), (e2m1, 1, -1)], y.1 = f →
        y.2.2 ≤ g ∧ (m : Rat) * (2 : Rat) ^ e < (2 : Rat) ^ (g + y.2.1 + 1)
        ∧ (y.2.2 < g → (2 : Rat) ^ (g + y.2.1) ≤ (m : Rat) * (2 : Rat) ^ e))
    ∧ (∀ y ∈ [(fp32, 8, 23, (127 : Int), 0x7F7FFFFF, 0x7FC00000), (fp16, 5, 10, 15, 0x7BFF, 0x7E00), (bf16, 8, 7, 127, 0x7F7F, 0x7FC0),
          (e5m2, 5, 2, 15, 0x7B, 0x7E), (e4m3, 4, 3, 7, 0x7E, 0x7F), (e2m1, 2, 1, 1, 7, 0)], y.1 = f →
        let E : Nat := y.2.1
        let M : Nat := y.2.2.1
        let B : Int := y.2.2.2.1
        f.maxCode = y.2.2.2.2.1 ∧ f.nan = y.2.2.2.2.2 ∧ (f.ieee = true ↔ f ≠ e4m3 ∧ f ≠ e2m1)
        ∧ ∀ c, c < 2 ^ (1 + E + M) →
          let s : Bool := decide (2 ^ (E + M) ≤ c)
          let x : Nat := c / 2 ^ M % 2 ^ E
          let y : Nat := c % 2 ^ M
          let part : Rat := (if s then -1 else 1) * ((y : Rat) / 2 ^ M + (if x = 0 then 0 else 1))
          (f.ieee = true → x = 2 ^ E - 1 → (y = 0 → f.value c = .inf s) ∧ (y ≠ 0 → f.value c = .nan))
          ∧ (f = e4m3 → c % 2 ^ 7 = 0x7F → f.value c = .nan)
          ∧ ((f.ieee = false ∨ x ≠ 2 ^ E - 1) → (f = e4m3 → c % 2 ^ 7 ≠ 0x7F) →
              (f.value c).finite = true ∧ (f.value c).sign = s ∧ (f.value c).rat = part * (2 : Rat) ^ (max (x : Int) 1 - B)))

/-- R38, R40: the quotient is rounded from its infinitely precise value: no intermediate width can move the choice. -/
def Obligations.QuotientRoundsOnce : Prop :=
  ∀ (ma mb : Nat) (ea eb g : Int), ma ≠ 0 → mb ≠ 0 →
    let q := quot ma ea mb eb
    q.2 + 2 ≤ g →
      let k := (onGrid true q.1 q.2 g).1
      let x : Rat := (ma : Rat) * (2 : Rat) ^ ea / ((mb : Rat) * (2 : Rat) ^ eb)
      x ≤ ((k : Rat) + 1 / 2) * (2 : Rat) ^ g ∧ ((k : Rat) - 1 / 2) * (2 : Rat) ^ g ≤ x
      ∧ ((x = ((k : Rat) + 1 / 2) * (2 : Rat) ^ g ∨ x = ((k : Rat) - 1 / 2) * (2 : Rat) ^ g) → k % 2 = 0)
      ∧ ((onGrid true q.1 q.2 g).2 = true ↔ x = (k : Rat) * (2 : Rat) ^ g)

/-- R165 on exact rational values. -/
def Obligations.FloatSums : Prop :=
  let val := fun w : Word => fp32.value w.toNat
  BinaryE 4 .fadd (fun _ a b v f n => SumOf (val a) (val b) v f n)
  ∧ BinaryE 4 .fsub (fun _ a b v f n => SumOf (val a) (val (b ^^^ 0x80000000)) v f n)
  ∧ BinaryE 4 .fmul (fun _ a b v f n => ∃ p, ProductOf (val a) (val b) p
      ∧ (p = .nan → IsNanResult v f n) ∧ (∀ s, p = .inf s → IsInfResult s v f n) ∧ (p.finite = true → Rounded p v f n))
  ∧ BinaryE 4 .ffma (fun d a b v f n => ∃ p, ProductOf (val a) (val b) p ∧ SumOf p (val d) v f n)

/-- R165, R166: quotient, root, power and logarithm. Off the table and off the exact cases the value of FEX2 is 2 ^ a, held
between two neighbouring 26-bit numbers by exact powers, and that of FLG2 is log2(a), held between two multiples of 2 ^ -52;
either is rounded once. -/
def Obligations.FloatQuotientRoot : Prop :=
  let val := fun w : Word => fp32.value w.toNat
  let out := fun (r : FR) (v : Word) (f : Bool) (n : Inc) => v = Word.ofNat r.code ∧ f = r.x ∧ n = r.inc
  BinaryE 12 .fdiv (fun _ a b v f n =>
      ((val a = .nan ∨ val b = .nan ∨ ((val a).zero = true ∧ (val b).zero = true)
          ∨ (∃ s t, val a = .inf s ∧ val b = .inf t)) → IsNanResult v f n)
      ∧ ((val a).finite = true → (val a).zero = false → (val b).zero = true →
          v = (if (val a).sign != (val b).sign then 0xFF800000 else 0x7F800000) ∧ f = false ∧ n = { inf := 1 })
      ∧ (∀ s, val a = .inf s → (val b).finite = true → IsInfResult (s != (val b).sign) v f n)
      ∧ (∀ s, val b = .inf s → (val a).finite = true →
          v = (if (val a).sign != s then 0x80000000 else 0) ∧ f = false ∧ n = {})
      ∧ (∀ na ma ea nb mb eb, val a = .fin na ma ea → val b = .fin nb mb eb → mb ≠ 0 →
          out (fp32.round false false (na != nb) (quot ma ea mb eb).1 (quot ma ea mb eb).2) v f n))
  ∧ UnaryE 12 .fsqrt (fun a v f n =>
      ((val a = .nan ∨ val a = .inf true ∨ ((val a).finite = true ∧ (val a).zero = false ∧ (val a).sign = true)) → IsNanResult v f n)
      ∧ ((val a).zero = true → v = a ∧ f = false ∧ n = {}) ∧ (val a = .inf false → v = a ∧ f = false ∧ n = {})
      ∧ (∀ m e, val a = .fin false m e → m ≠ 0 →
          let x := (val a).rat
          ∃ (k : Nat) (g : Int), val v = .fin false k g ∧ 2 ^ 23 ≤ k ∧ k < 2 ^ 24
            ∧ (2 * (k : Rat) - 1) ^ 2 * (4 : Rat) ^ g < 4 * x ∧ 4 * x < (2 * (k : Rat) + 1) ^ 2 * (4 : Rat) ^ g
            ∧ (k = 2 ^ 23 → (4 * (k : Rat) - 1) ^ 2 * (4 : Rat) ^ g < 16 * x)
            ∧ (f = true ↔ (k : Rat) ^ 2 * (4 : Rat) ^ g ≠ x) ∧ n = {}))
  ∧ UnaryE 8 .fex2 (fun a v f n =>
      (val a = .nan → IsNanResult v f n) ∧ (val a = .inf true → v = 0 ∧ f = false ∧ n = {})
      ∧ (val a = .inf false → v = a ∧ f = false ∧ n = {}) ∧ ((val a).zero = true → v = 0x3F800000 ∧ f = false ∧ n = {})
      ∧ (∀ k : Int, (val a).finite = true → (val a).rat = (k : Rat) → -149 ≤ k → k ≤ 127 →
          (val v).finite = true ∧ (val v).rat = (2 : Rat) ^ k ∧ f = false ∧ n = {})
      ∧ (∀ k : Int, (val a).finite = true → (val a).rat = (k : Rat) →
          (k ≤ -150 → v = 0 ∧ f = true ∧ n = { flush := 1 }) ∧ (128 ≤ k → v = 0x7F800000 ∧ f = true ∧ n = { inf := 1 }))
      ∧ (∀ neg m (t : Nat), val a = .fin neg m (-(t : Int)) → bits m ≤ 8 + t →
          let x : Int := if neg then -(m : Int) else m
          let frac : Nat := (x % 2 ^ t).toNat
          frac ≠ 0 → ∃ r : Nat, 2 ^ 25 ≤ r ∧ r ^ 2 ^ t < 2 ^ (25 * 2 ^ t + frac) ∧ 2 ^ (25 * 2 ^ t + frac) < (r + 1) ^ 2 ^ t
            ∧ out (fp32.round false false false (2 * r + 1) (x / 2 ^ t - 26)) v f n)
      ∧ (∀ neg m e, val a = .fin neg m e → 8 < e + bits m →
          (neg = true → v = 0 ∧ f = true ∧ n = { flush := 1 }) ∧ (neg = false → v = 0x7F800000 ∧ f = true ∧ n = { inf := 1 })))
  ∧ UnaryE 8 .flg2 (fun a v f n =>
      ((val a = .nan ∨ val a = .inf true ∨ ((val a).finite = true ∧ (val a).zero = false ∧ (val a).sign = true)) → IsNanResult v f n)
      ∧ ((val a).zero = true → v = 0xFF800000 ∧ f = false ∧ n = { inf := 1 })
      ∧ (val a = .inf false → v = a ∧ f = false ∧ n = {})
      ∧ (∀ m e, val a = .fin false m e → m ≠ 0 → ∃ i : Nat, 2 ^ i ≤ m ^ 2 ^ 52 ∧ m ^ 2 ^ 52 < 2 ^ (i + 1)
          ∧ (m ≠ 2 ^ (bits m - 1) → 2 ^ i < m ^ 2 ^ 52
              ∧ out (fp32.round false false (decide (e * 2 ^ 52 + i < 0)) (2 * (e * 2 ^ 52 + i) + 1).natAbs (-53)) v f n)
          ∧ (m = 2 ^ (bits m - 1) → out (fp32.round false false (decide (e + bits m - 1 < 0)) (e + bits m - 1).natAbs 0) v f n)))

/-- R167 to R170, on exact values. -/
def Obligations.FloatCompareSelect : Prop :=
  let val := fun w : Word => fp32.value w.toNat
  let isNan := fun w : Word => val w = .nan
  let before := fun a b : Word => Below (val a) (val b) ∨ ((val a).zero = true ∧ (val b).zero = true ∧ a = 0x80000000 ∧ b = 0)
  let pick := fun (first : Word → Word → Prop) (a b v : Word) (f : Bool) (n : Inc) =>
    (isNan a → isNan b → v = 0x7FC00000 ∧ f = false ∧ n = { nan := 1 })
    ∧ (isNan a → ¬ isNan b → v = b ∧ f = true ∧ n = {}) ∧ (¬ isNan a → isNan b → v = a ∧ f = false ∧ n = {})
    ∧ (¬ isNan a → ¬ isNan b → (first b a → v = b ∧ f = true ∧ n = {}) ∧ (¬ first b a → v = a ∧ f = false ∧ n = {}))
  let signed := fun (a r v : Word) (n : Inc) => (isNan a → v = 0x7FC00000 ∧ n = { nan := 1 }) ∧ (¬ isNan a → v = r ∧ n = {})
  let holds := fun (R : Prop) (v : Word) (f : Bool) (n : Inc) => (R → v = 1 ∧ f = true) ∧ (¬ R → v = 0 ∧ f = false) ∧ n = {}
  let equal := fun a b : Word => ¬ isNan a ∧ ¬ isNan b ∧
    ((val a).finite = true ∧ (val b).finite = true ∧ (val a).rat = (val b).rat ∨ ∃ s, val a = .inf s ∧ val b = .inf s)
  BinaryE 4 .fmin (fun _ a b v f n => pick before a b v f n)
  ∧ BinaryE 4 .fmax (fun _ a b v f n => pick (fun x y => before y x) a b v f n)
  ∧ UnaryE 4 .fabs (fun a v f n => signed a (a &&& 0x7FFFFFFF) v n ∧ f = a.getLsbD 31)
  ∧ UnaryE 4 .fneg (fun a v f n => signed a (a ^^^ 0x80000000) v n ∧ f = a.getLsbD 31)
  ∧ BinaryE 4 .fcpys (fun _ a b v f n => signed a ((a &&& 0x7FFFFFFF) ||| (b &&& 0x80000000)) v n ∧ f = b.getLsbD 31)
  ∧ BinaryE 4 .fcmpeq (fun _ a b v f n => holds (equal a b) v f n)
  ∧ BinaryE 4 .fcmplt (fun _ a b v f n => holds (Below (val a) (val b)) v f n)
  ∧ BinaryE 4 .fcmple (fun _ a b v f n => holds (Below (val a) (val b) ∨ equal a b) v f n)
  ∧ BinaryE 4 .fcmpun (fun _ a b v f n => holds (isNan a ∨ isNan b) v f n)
  ∧ UnaryE 4 .fclass (fun a v f n =>
      (val a = .inf true → v = 0x001) ∧ (val a = .inf false → v = 0x080)
      ∧ (isNan a → v = if a.getLsbD 22 then 0x200 else 0x100)
      ∧ ((val a).zero = true → v = if a.getLsbD 31 then 0x008 else 0x010)
      ∧ ((val a).finite = true → (val a).zero = false →
          v = if fldN a 23 8 = 0 then (if a.getLsbD 31 then 0x004 else 0x020) else if a.getLsbD 31 then 0x002 else 0x040)
      ∧ (f = true ↔ isNan a) ∧ n = {})

/-- R171 to R173. -/
def Obligations.FloatEstimateIntegral : Prop :=
  let val := fun w : Word => fp32.value w.toNat
  let m := fun a : Word => a &&& 0x7FFFFFFF
  let sgn := fun a : Word => a &&& 0x80000000
  let integral := fun (dir : Rat → Int → Prop) (a v : Word) (f : Bool) (n : Inc) =>
    (val a = .nan → v = 0x7FC00000 ∧ f = true ∧ n = { nan := 1 })
    ∧ ((val a = .inf true ∨ val a = .inf false ∨ (val a).zero = true) → v = a ∧ f = false ∧ n = {})
    ∧ ((val a).finite = true → ∃ k : Int, dir (val a).rat k ∧ (val v).finite = true ∧ (val v).rat = (k : Rat) ∧ sgn v = sgn a
        ∧ (f = true ↔ (val a).rat ≠ (k : Rat)) ∧ n = {})
  UnaryE 4 .frcpe (fun a v f n =>
      (val a = .nan → v = 0x7FC00000 ∧ n = { nan := 1 } ∧ f = true)
      ∧ (m a = 0 → v = (sgn a ||| 0x7F800000) ∧ n = { inf := 1 } ∧ f = true)
      ∧ (m a = 0x7F800000 → v = sgn a ∧ n = {} ∧ f = true)
      ∧ (0x7EF311C7 ≤ (m a).toNat → (m a).toNat < 0x7F800000 → v = sgn a ∧ n = { flush := 1 } ∧ f = true)
      ∧ (0 < (m a).toNat → (m a).toNat < 0x7EF311C7 → v = (sgn a ||| (0x7EF311C7 - m a)) ∧ n = {} ∧ f = false))
  ∧ UnaryE 4 .frsqe (fun a v f n =>
      (val a = .nan → v = 0x7FC00000 ∧ n = { nan := 1 } ∧ f = true)
      ∧ (a = 0x80000000 → v = 0xFF800000 ∧ n = { inf := 1 } ∧ f = true)
      ∧ (a = 0 → v = 0x7F800000 ∧ n = { inf := 1 } ∧ f = true)
      ∧ (0x80000000 < a.toNat → a.toNat ≤ 0xFF800000 → v = 0x7FC00000 ∧ n = { nan := 1 } ∧ f = true)
      ∧ (a = 0x7F800000 → v = 0 ∧ n = {} ∧ f = true)
      ∧ (0 < a.toNat → a.toNat < 0x7F800000 → v.toNat = 0x5F375A86 - a.toNat / 2 ∧ n = {} ∧ f = false))
  ∧ UnaryE 4 .frint (integral fun x k => (k : Rat) - 1 / 2 ≤ x ∧ x ≤ (k : Rat) + 1 / 2
      ∧ ((x = (k : Rat) + 1 / 2 ∨ x = (k : Rat) - 1 / 2) → k % 2 = 0))
  ∧ UnaryE 4 .ffloor (integral fun x k => (k : Rat) ≤ x ∧ x < (k : Rat) + 1)
  ∧ UnaryE 4 .fceil (integral fun x k => x ≤ (k : Rat) ∧ (k : Rat) - 1 < x)
  ∧ UnaryE 4 .ftrnc (integral fun x k => (0 ≤ x → (k : Rat) ≤ x ∧ x < (k : Rat) + 1) ∧ (x ≤ 0 → x ≤ (k : Rat) ∧ (k : Rat) - 1 < x))

/-- R174: lane by lane, with no intermediate of another width. -/
def Obligations.PackedFloat : Prop :=
  let lanes := fun (F : Nat → Nat → Nat → FR × Bool) (d a b v : Word) (f : Bool) (n : Inc) =>
    let r0 := F (fldN d 0 16) (fldN a 0 16) (fldN b 0 16)
    let r1 := F (fldN d 16 16) (fldN a 16 16) (fldN b 16 16)
    fldN v 0 16 = r0.1.code ∧ fldN v 16 16 = r1.1.code ∧ f = (r0.2 || r1.2) ∧ n.sat = r0.1.inc.sat + r1.1.inc.sat
      ∧ n.nan = r0.1.inc.nan + r1.1.inc.nan ∧ n.inf = r0.1.inc.inf + r1.1.inc.inf
      ∧ n.flush = r0.1.inc.flush + r1.1.inc.flush
  let x := fun r : FR => (r, r.x)
  let add := fun (F : Fmt) (_ a b : Nat) => x (F.deliver ((F.value a).add (F.value b)))
  let sub := fun (F : Fmt) (_ a b : Nat) => x (F.deliver ((F.value a).add (F.value b).neg))
  let mul := fun (F : Fmt) (_ a b : Nat) => x (F.deliver ((F.value a).mul (F.value b)))
  let fma := fun (F : Fmt) (c a b : Nat) => x (F.deliver (((F.value a).mul (F.value b)).add (F.value c)))
  let delivers := fun (F : Fmt) (nan inf : Nat) =>
    F.deliver .nan = { code := nan, x := true, inc := { nan := 1 } }
    ∧ (∀ s, F.deliver (.inf s) = { code := (if s then 0x8000 else 0) + inf }) ∧ (∀ s m e, F.deliver (.fin s m e) = F.round false false s m e)
  let before := fun x y : FV => Below x y ∨ (x.zero = true ∧ y.zero = true ∧ x.sign = true ∧ y.sign = false)
  let picks := fun (F : Fmt) (nan : Nat) (mx : Bool) => ∀ a b, a < 2 ^ 16 → b < 2 ^ 16 →
    let p := F.pick mx a b
    let first := if mx then before (F.value a) (F.value b) else before (F.value b) (F.value a)
    (F.value a = .nan → F.value b = .nan → p = ({ code := nan, x := true, inc := { nan := 1 } }, false))
    ∧ (F.value a = .nan → F.value b ≠ .nan → p = ({ code := b }, true)) ∧ (F.value a ≠ .nan → F.value b = .nan → p = ({ code := a }, false))
    ∧ (F.value a ≠ .nan → F.value b ≠ .nan → (first → p = ({ code := b }, true)) ∧ (¬ first → p = ({ code := a }, false)))
  delivers bf16 0x7FC0 0x7F80 ∧ delivers fp16 0x7E00 0x7C00
  ∧ (∀ mx, picks bf16 0x7FC0 mx ∧ picks fp16 0x7E00 mx)
  ∧ (∀ x y : FV, ProductOf x y (x.mul y) ∧ y.neg.rat = -y.rat ∧ (y ≠ .nan → y.neg.sign = !y.sign)
      ∧ ((x = .nan ∨ y = .nan ∨ ∃ s, x = .inf s ∧ y = .inf (!s)) → x.add y = .nan)
      ∧ (∀ s, (x = .inf s ∧ y ≠ .nan ∧ y ≠ .inf (!s)) ∨ (y = .inf s ∧ x ≠ .nan ∧ x ≠ .inf (!s)) → x.add y = .inf s)
      ∧ (x.finite = true → y.finite = true → (x.add y).finite = true ∧ (x.add y).rat = x.rat + y.rat
          ∧ ((x.add y).zero = true → ((x.add y).sign = true ↔ x.zero = true ∧ x.sign = true ∧ y.zero = true ∧ y.sign = true))))
  ∧ BinaryE 4 .badd2 (lanes (add bf16)) ∧ BinaryE 4 .bsub2 (lanes (sub bf16)) ∧ BinaryE 4 .bmul2 (lanes (mul bf16))
  ∧ BinaryE 4 .bfma2 (lanes (fma bf16)) ∧ BinaryE 4 .bmax2 (lanes fun _ a b => bf16.pick true a b)
  ∧ BinaryE 4 .bmin2 (lanes fun _ a b => bf16.pick false a b)
  ∧ BinaryE 4 .hadd2 (lanes (add fp16)) ∧ BinaryE 4 .hsub2 (lanes (sub fp16)) ∧ BinaryE 4 .hmul2 (lanes (mul fp16))
  ∧ BinaryE 4 .hfma2 (lanes (fma fp16)) ∧ BinaryE 4 .hmax2 (lanes fun _ a b => fp16.pick true a b)
  ∧ BinaryE 4 .hmin2 (lanes fun _ a b => fp16.pick false a b)

/-- R46, R175 to R180. -/
def Obligations.Conversions : Prop :=
  let val := fun w : Word => fp32.value w.toNat
  let pair := fun (F : Fmt) (z : Bool) (a b v : Word) (f : Bool) (n : Inc) =>
    ∃ x0 x1 n0 n1, Narrowed F z z a (fldN v 0 16) x0 n0 ∧ Narrowed F z z b (fldN v 16 16) x1 n1
      ∧ f = (x0 || x1) ∧ n = n0.plus n1
  let fp8 := fun (F : Fmt) (z : Bool) (d a b v : Word) (f : Bool) (n : Inc) =>
    fldN v 0 16 = fldN d 16 16 ∧ ∃ x0 x1 n0 n1, Narrowed F z true a (fldN v 16 8) x0 n0 ∧ Narrowed F z true b (fldN v 24 8) x1 n1
      ∧ f = (x0 || x1) ∧ n = n0.plus n1
  let fp4 := fun (z : Bool) (d a b v : Word) (f : Bool) (n : Inc) =>
    fldN v 0 28 = fldN d 4 28 ∧ NarrowedQ z a (fldN b 0 8) (fldN v 28 4) f n
  let wide := fun (F : Fmt) (c : Nat) (v : Word) (f : Bool) (n : Inc) =>
    (F.value c = .nan → v = 0x7FC00000 ∧ f = true ∧ n = { nan := 1 })
    ∧ (F.value c ≠ .nan → f = false ∧ n = {} ∧ (val v).sign = (F.value c).sign
        ∧ (∀ s, F.value c = .inf s → val v = .inf s)
        ∧ ((F.value c).finite = true → (val v).finite = true ∧ (val v).rat = (F.value c).rat))
  let reach := fun c : Nat => (6 : Rat) * ((e3m5 c).1 : Rat) * (2 : Rat) ^ (e3m5 c).2
  BinaryE 4 .cvtbf (fun _ => pair bf16 false) ∧ BinaryE 4 .cvtbfz (fun _ => pair bf16 true)
  ∧ BinaryE 4 .cvthf (fun _ => pair fp16 false) ∧ BinaryE 4 .cvthfz (fun _ => pair fp16 true)
  ∧ BinaryE 4 .cvte4 (fp8 e4m3 false) ∧ BinaryE 4 .cvte4z (fp8 e4m3 true)
  ∧ BinaryE 4 .cvte5 (fp8 e5m2 false) ∧ BinaryE 4 .cvte5z (fp8 e5m2 true)
  ∧ BinaryE 4 .cvtq4 (fp4 false) ∧ BinaryE 4 .cvtq4z (fp4 true)
  ∧ BinaryE 4 .cvtfb (fun _ a b v f n => wide bf16 (fldN a (16 * fldN b 0 1) 16) v f n)
  ∧ BinaryE 4 .cvtfh (fun _ a b v f n => wide fp16 (fldN a (16 * fldN b 0 1) 16) v f n)
  ∧ BinaryE 4 .cvtfe4 (fun _ a b v f n => wide e4m3 (fldN a (8 * fldN b 0 2) 8) v f n)
  ∧ BinaryE 4 .cvtfe5 (fun _ a b v f n => wide e5m2 (fldN a (8 * fldN b 0 2) 8) v f n)
  ∧ BinaryE 4 .cvtfq4 (fun _ a b v f n =>
      let lane := e2m1.value (fldN a (4 * fldN b 8 3) 4)
      let k := e3m5 (fldN b 0 8)
      (val v).finite = true ∧ (val v).rat = lane.rat * (k.1 : Rat) * (2 : Rat) ^ k.2 ∧ (val v).sign = lane.sign
        ∧ (f = true ↔ v ≠ 0) ∧ n = {})
  ∧ UnaryE 4 .cvtfi (fun a v f n =>
      (val a = .nan → v = 0 ∧ f = true ∧ n = { nan := 1 })
      ∧ (∀ s, val a = .inf s → v = (if s then 0x80000000 else 0x7FFFFFFF) ∧ f = true ∧ n = { sat := 1 })
      ∧ ((val a).finite = true → ∃ k : Int, (k : Rat) - 1 / 2 ≤ (val a).rat ∧ (val a).rat ≤ (k : Rat) + 1 / 2
          ∧ (((val a).rat = (k : Rat) + 1 / 2 ∨ (val a).rat = (k : Rat) - 1 / 2) → k % 2 = 0)
          ∧ (2 ^ 31 ≤ k → v = 0x7FFFFFFF ∧ f = true ∧ n = { sat := 1 })
          ∧ (k < -2 ^ 31 → v = 0x80000000 ∧ f = true ∧ n = { sat := 1 })
          ∧ (-2 ^ 31 ≤ k → k < 2 ^ 31 → v.toInt = k ∧ (f = true ↔ (val a).rat ≠ (k : Rat))
              ∧ n = (if k = 0 ∧ (val a).rat ≠ 0 then { flush := 1 } else {}))))
  ∧ UnaryE 4 .cvtif (fun a v f n => Rounded (.fin (decide (a.toInt < 0)) a.toInt.natAbs 0) v f n ∧ n = {})
  ∧ UnaryE 4 .cvtifz (fun a v f n =>
      (val v).finite = true ∧ (f = true ↔ (val v).rat ≠ (a.toInt : Rat)) ∧ n = {}
        ∧ v = Word.ofNat (fp32.round true false (decide (a.toInt < 0)) a.toInt.natAbs 0).code)
  ∧ UnaryE 4 .qsc (fun a v f n =>
      let r := (val a).rat
      (val a = .nan → v = 0xFF ∧ f = true ∧ n = { nan := 1 })
      ∧ (∀ s, val a = .inf s → v = 0xFF ∧ f = true ∧ n = { sat := 1 })
      ∧ ((val a).finite = true → (189 < r ∨ r < -189) → v = 0xFF ∧ f = true ∧ n = { sat := 1 })
      ∧ ((val a).finite = true → -189 ≤ r → r ≤ 189 →
          f = false ∧ n = {} ∧ v.toNat ≤ 0xFF ∧ r ≤ reach v.toNat ∧ -r ≤ reach v.toNat
          ∧ ∀ c, c < v.toNat → reach c < r ∨ reach c < -r))

/-- R181 to R188, R192, R193: the issue of the memory-form instructions of one lane. -/
def Obligations.MemoryIssue : Prop :=
  let load := fun (c : BitVec 5 → BitVec 5 → BitVec 3 → BitVec 2 → Instr) (opc : Byte) (n : Nat) =>
    ∀ d a w sc, SourceIssues (c d a w sc) opc d a none w sc n Window.r .read (fun _ _ => .read)
  let store := fun (c : BitVec 5 → BitVec 5 → BitVec 5 → BitVec 3 → BitVec 2 → Instr) (opc : Byte) (n : Nat) =>
    ∀ d a b w sc, PostedIssues (c d a b w sc) opc d a b w sc n Window.w (fun x => .write x.b.data)
  let atomic := fun (c : BitVec 5 → BitVec 5 → BitVec 5 → BitVec 3 → BitVec 2 → Instr) (opc : Byte) =>
    ∀ d a b w sc, ∃ k : BitVec 3, SourceIssues (c d a b w sc) opc d a (some b) w sc 4 Window.a .atomic
      (fun e x => .atomic opc x.b.data e.d[k.toNat])
  let reduce := fun (c : BitVec 5 → BitVec 5 → BitVec 5 → BitVec 3 → BitVec 2 → Instr) (opc : Byte) =>
    ∀ d a b w sc, PostedIssues (c d a b w sc) opc d a b w sc 4 Window.a (fun x => .reduce opc x.b.data)
  load .ld8 0xA0 1 ∧ load .ld8s 0xA1 1 ∧ load .ld16 0xA2 2 ∧ load .ld16s 0xA3 2 ∧ load .ld32 0xA4 4
  ∧ store .st8 0xA5 1 ∧ store .st16 0xA6 2 ∧ store .st32 0xA7 4
  ∧ atomic .aadd 0xAB ∧ atomic .asub 0xAC ∧ atomic .amin 0xAD ∧ atomic .amax 0xAE ∧ atomic .aminn 0xAF ∧ atomic .amaxn 0xB0
  ∧ atomic .aand 0xB1 ∧ atomic .aor 0xB2 ∧ atomic .axor 0xB3 ∧ atomic .axchg 0xB4
  ∧ (∀ d a b w sc k, SourceIssues (.acas d a b w sc k) 0xB5 d a (some b) w sc 4 Window.a .atomic
      (fun e x => .atomic 0xB5 x.b.data e.d[k.toNat]))
  ∧ atomic .afadd 0xB6 ∧ atomic .abadd2 0xB7 ∧ atomic .atake 0xB8 ∧ atomic .agive 0xB9
  ∧ reduce .radd 0xBA ∧ reduce .rmin 0xBB ∧ reduce .rmax 0xBC ∧ reduce .rminn 0xBD ∧ reduce .rmaxn 0xBE
  ∧ reduce .rand 0xBF ∧ reduce .ror 0xC0 ∧ reduce .rxor 0xC1 ∧ reduce .rfadd 0xC2 ∧ reduce .rbadd2 0xC3

/-- R190: gathers and scatters; the checks of all lanes are State.check (see AccessChecks). -/
def Obligations.GatherIssue : Prop :=
  let idx := fun (f : BitVec 4) (a : Word) (j : Nat) => if f = 0 then fldN a (8 * j) 8 else 2 * fldN a (16 * j) 16
  let size := fun f : BitVec 4 => if f = 0 then 1 else 2
  let n := fun f : BitVec 4 => if f = 0 then 4 else 2
  (∀ (s s1 : State) (el rule : Nat) (x : In) (d a : BitVec 5) (w : BitVec 3) (sc : BitVec 2) (f : BitVec 4) (sts : List AccSt),
      let lanes := (List.range (n f)).map (fun j => ({ off := idx f x.a.data j, size := size f, act := .read } : Lane))
      let task := s.taskOfElem el
      let win := s.window task w
      f = 0 ∨ f = 1 → s.armed el rule (rq d (some a) none 0 0 1) x → (s.elem el).portRoom rule (deliver d x.a.tag 0) = true →
      s.check el (s.ctxOfTask task) win win.r (some .read) lanes = (.ok sts, s1) →
      exec (.ldg d a w sc f) s = .next
        { s1.setElem el ((s1.elem el).issuePort rule (rq d (some a) none 0 0 1) (deliver d x.a.tag 0)
            (.mem { opc := 0xA8, win := w, scope := sc, a := x.a.data, tag := x.a.tag }) true) with
          accs := s1.accs ++ newAccs s1.fresh (.elem el (s1.elem el).nextId) (s.ctxOfTask task) task (regionOfElem el) 0xA8
            win.base false 0 lanes sts
          fresh := s1.fresh + n f })
  ∧ (∀ (s s1 : State) (el rule : Nat) (x : In) (d a b : BitVec 5) (w : BitVec 3) (sc : BitVec 2) (f : BitVec 4) (sts : List AccSt),
      let lanes := (List.range (n f)).map (fun j =>
        ({ off := idx f x.a.data j, size := size f, act := .write (x.b.data >>> (8 * size f * j)) } : Lane))
      let task := s.taskOfElem el
      let win := s.window task w
      f = 0 ∨ f = 1 → s.armed el rule (rq d (some a) (some b) 0 0 1) x →
      (s.elem el).portRoom rule (deliver d x.a.tag x.a.data) = true →
      s.check el (s.ctxOfTask task) win win.w none lanes = (.ok sts, s1) →
      exec (.stg d a b w sc f) s = .next
        { s1.setElem el ((s1.elem el).issuePort rule (rq d (some a) (some b) 0 0 1) (deliver d x.a.tag x.a.data)
            (.mem { opc := 0xA9, win := w, scope := sc, a := x.a.data, tag := x.a.tag }) true) with
          accs := s1.accs ++ newAccs s1.fresh (.elem el (s1.elem el).nextId) (s.ctxOfTask task) task (regionOfElem el) 0xA9
            win.base true 0 lanes sts
          fresh := s1.fresh + n f })
  ∧ (∀ (s : State) (el rule : Nat) (x : In) (d a b : BitVec 5) (w : BitVec 3) (sc : BitVec 2) (f : BitVec 4),
      f ≠ 0 → f ≠ 1 →
      (s.armed el rule (rq d (some a) none 0 0 1) x → (s.elem el).portRoom rule (deliver d x.a.tag 0) = true →
        exec (.ldg d a w sc f) s = .next (s.abortWith el rule 0x02 x))
      ∧ (s.armed el rule (rq d (some a) (some b) 0 0 1) x → (s.elem el).portRoom rule (deliver d x.a.tag x.a.data) = true →
        exec (.stg d a b w sc f) s = .next (s.abortWith el rule 0x02 x)))

/-- R182, R183, R190: the checks of an access and what they may change. -/
def Obligations.AccessChecks : Prop :=
  ∀ (s : State) (el ctx : Nat) (win : Window) (perm : Bool) (src : Option Kind) (pre : List Lane) (l : Lane) (post : List Lane),
    (∀ sts s1, s.check el ctx win perm src pre = (.ok sts, s1) → sts.length = pre.length
      ∧ (∀ code, firstFault win l.off l.size perm = some code →
          s.check el ctx win perm src (pre ++ l :: post) = (.fail code l.off, s1))
      ∧ (firstFault win l.off l.size perm = none → ∀ k, src = some k → s1.heldPage el ctx (win.base + l.off) = false →
          ∀ code s2, s1.translate (tileOfElem el) ctx (win.base + l.off) k = (.bad code, s2) →
          s.check el ctx win perm src (pre ++ l :: post) = (.fail code l.off, s2))
      ∧ (firstFault win l.off l.size perm = none → ∀ k, src = some k →
          (s1.heldPage el ctx (win.base + l.off) = true → s.check el ctx win perm src (pre ++ l :: post) = (.withdraw, s1))
          ∧ ∀ s2, s1.heldPage el ctx (win.base + l.off) = false → s1.translate (tileOfElem el) ctx (win.base + l.off) k = (.miss, s2) →
            s.check el ctx win perm src (pre ++ l :: post) = (.withdraw, s2))
      ∧ (src = none → s1 = s ∧ ∀ t ∈ sts, t = .point))
    ∧ (∀ r s1, s.check el ctx win perm src pre = (r, s1) →
        s1.elems = s.elems ∧ s1.regions = s.regions
        ∧ ((src = none ∨ src = some .read
              ∨ ∀ b : Nat, (s.ctx ctx).dlbase.toNat ≤ b → b < (s.ctx ctx).dlbase.toNat + ((s.ctx ctx).dlpages.toNat + 7) / 8 →
                s.poisoned b 1 false = false) →
            s1.accs = s.accs ∧ s1.tasks = s.tasks ∧ s1.ctxs = s.ctxs)
        ∧ s1.presses = s.presses ∧ s1.copies = s.copies ∧ s1.units = s.units ∧ s1.loupes = s.loupes ∧ s1.chans = s.chans
        ∧ s1.queues = s.queues ∧ s1.bars = s.bars ∧ s1.poison = s.poison ∧ s1.cur = s.cur ∧ s1.agenda = s.agenda
        ∧ ((src = none ∨ src = some .read) → s1.mem = s.mem)
        ∧ ∀ a : Nat, (a < (s.ctx ctx).dlbase.toNat ∨ (s.ctx ctx).dlbase.toNat + ((s.ctx ctx).dlpages.toNat + 7) / 8 ≤ a) →
            s1.mem.read a = s.mem.read a)

/-- R182 to R184, R190, R207 with R79, R80, R82: a failed check of an access or a barrier operation, and its translation where it
fires. -/
def Obligations.AccessFaults : Prop :=
  let froze := fun (s : State) (el rule : Nat) (x : In) (w : BitVec 3) (code : Byte) (off : Nat) (e' : Elem) =>
    let e := s.elem el
    e'.life = .frozen ∧ e'.fault.code = code ∧ e'.fault.rule = BitVec.ofNat 4 rule ∧ e'.fault.w = w ∧ e'.fault.vav = true
    ∧ e'.fault.user = 0 ∧ e'.fault.opa = x.a.data ∧ e'.fault.opb = x.b.data ∧ e'.fault.offset = Word.ofNat off
    ∧ e'.fault.va = BitVec.ofNat 64 (((s.window (s.taskOfElem el) w).base + off) % 2 ^ 52) ∧ e'.fault.stamp = s.cycleOf (regionOfElem el)
    ∧ e'.d = e.d ∧ e'.p = e.p ∧ e'.ports = e.ports ∧ e'.pend = e.pend ∧ e'.dis = e.dis
  let fails := fun (i : Instr) (d a : BitVec 5) (b : Option (BitVec 5)) (w : BitVec 3) (size : Nat) (perm : Window → Bool)
      (token : In → Token) =>
    ∀ (s : State) (el rule : Nat) (x : In) (code : Byte),
      let win := s.window (s.taskOfElem el) w
      s.armed el rule (rq d (some a) b 0 0 1) x → (s.elem el).portRoom rule (deliver d (token x).tag (token x).data) = true →
      (s.elem el).life = .running → firstFault win x.a.data.toNat size (perm win) = some code →
      ∃ e', exec i s = .next (s.setElem el e') ∧ froze s el rule x w code x.a.data.toNat e'
  let source := fun (i : Instr) (d a : BitVec 5) (b : Option (BitVec 5)) (w : BitVec 3) (size : Nat) (perm : Window → Bool) (k : Kind)
      (token : In → Token) =>
    ∀ (s : State) (el rule : Nat) (x : In),
      let win := s.window (s.taskOfElem el) w
      let ctx := s.ctxOfTask (s.taskOfElem el)
      let va := win.base + x.a.data.toNat
      s.armed el rule (rq d (some a) b 0 0 1) x → (s.elem el).portRoom rule (deliver d (token x).tag (token x).data) = true →
      (s.elem el).life = .running → firstFault win x.a.data.toNat size (perm win) = none →
      (s.heldPage el ctx va = true → exec i s = .next s)
      ∧ (s.heldPage el ctx va = false →
          (∀ s1, s.translate (tileOfElem el) ctx va k = (.miss, s1) → exec i s = .next s1)
          ∧ ∀ code s1, s.translate (tileOfElem el) ctx va k = (.bad code, s1) →
              ∃ e', exec i s = .next (s1.setElem el e') ∧ froze s el rule x w code x.a.data.toNat e')
  let lanes := fun (i : Instr) (d a : BitVec 5) (b : Option (BitVec 5)) (w : BitVec 3) (perm : Window → Bool) (k : Option Kind)
      (token : In → Token) (ls : In → List Lane) =>
    ∀ (s s1 : State) (el rule : Nat) (x : In),
      let win := s.window (s.taskOfElem el) w
      let answer := s.check el (s.ctxOfTask (s.taskOfElem el)) win (perm win) k (ls x)
      s.armed el rule (rq d (some a) b 0 0 1) x → (s.elem el).portRoom rule (deliver d (token x).tag (token x).data) = true →
      (s.elem el).life = .running →
      (answer = (.withdraw, s1) → exec i s = .next s1)
      ∧ ∀ code off, answer = (.fail code off, s1) → ∃ e', exec i s = .next (s1.setElem el e') ∧ froze s el rule x w code off e'
  let empty := fun x : In => (⟨0, x.a.tag⟩ : Token)
  let load := fun (c : BitVec 5 → BitVec 5 → BitVec 3 → BitVec 2 → Instr) (n : Nat) =>
    ∀ d a w sc, fails (c d a w sc) d a none w n Window.r empty ∧ source (c d a w sc) d a none w n Window.r .read empty
  let three := fun (c : BitVec 5 → BitVec 5 → BitVec 5 → BitVec 3 → BitVec 2 → Instr) (n : Nat) (perm : Window → Bool)
      (token : In → Token) => ∀ d a b w sc, fails (c d a b w sc) d a (some b) w n perm token
  load .ld8 1 ∧ load .ld8s 1 ∧ load .ld16 2 ∧ load .ld16s 2 ∧ load .ld32 4
  ∧ three .st8 1 Window.w (fun x => x.a) ∧ three .st16 2 Window.w (fun x => x.a)
  ∧ three .st32 4 Window.w (fun x => x.a)
  ∧ (∀ c ∈ [Instr.aadd, .asub, .amin, .amax, .aminn, .amaxn, .aand, .aor, .axor, .axchg, .afadd, .abadd2, .atake, .agive],
      three c 4 Window.a empty ∧ ∀ d a b w sc, source (c d a b w sc) d a (some b) w 4 Window.a .atomic empty)
  ∧ (∀ d a b w sc k, fails (.acas d a b w sc k) d a (some b) w 4 Window.a empty
      ∧ source (.acas d a b w sc k) d a (some b) w 4 Window.a .atomic empty)
  ∧ (∀ c ∈ [Instr.radd, .rmin, .rmax, .rminn, .rmaxn, .rand, .ror, .rxor, .rfadd, .rbadd2], three c 4 Window.a (fun x => x.a))
  ∧ (∀ d a b w sc (f : BitVec 4), f = 0 ∨ f = 1 →
      let size := if f = 0 then 1 else 2
      let off := fun (v : Word) (j : Nat) => if f = 0 then fldN v (8 * j) 8 else 2 * fldN v (16 * j) 16
      let ls := fun (act : In → Nat → Act) (x : In) => (List.range (4 / size)).map (fun j => ({ off := off x.a.data j, size := size, act := act x j } : Lane))
      lanes (.ldg d a w sc f) d a none w Window.r (some .read) empty (ls fun _ _ => .read)
      ∧ lanes (.stg d a b w sc f) d a (some b) w Window.w none (fun x => x.a) (ls fun x j => .write (x.b.data >>> (8 * size * j))))
  ∧ (∀ d a b w sc, ∀ y ∈ [(Instr.barinit d a b w sc, some b), (.bararr d a w sc, none), (.barkill d a w sc, none), (.barq d a w sc, none)],
      fails y.1 d a y.2 w 16 Window.a (fun x => ⟨x.a.data, Tag.data⟩)
      ∧ source y.1 d a y.2 w 16 Window.a .barrier (fun x => ⟨x.a.data, Tag.data⟩))

/-- R192, R193: the table, in exact arithmetic. -/
def Obligations.AtomicValues : Prop :=
  ∀ old v cmp : Word,
    let new := fun opc : Byte => atomicNew opc old v cmp
    ((new 0xAB).1.toNat = (old.toNat + v.toNat) % 2 ^ 32 ∧ (new 0xAB).2 = true)
    ∧ (((new 0xAC).1.toNat : Int) = ((old.toNat : Int) - v.toNat) % 2 ^ 32 ∧ (new 0xAC).2 = true)
    ∧ ((new 0xAD).1.toInt = min old.toInt v.toInt ∧ (new 0xAD).2 = true)
    ∧ ((new 0xAE).1.toInt = max old.toInt v.toInt ∧ (new 0xAE).2 = true)
    ∧ ((new 0xAF).1.toNat = min old.toNat v.toNat ∧ (new 0xAF).2 = true)
    ∧ ((new 0xB0).1.toNat = max old.toNat v.toNat ∧ (new 0xB0).2 = true)
    ∧ (∀ k, k < 32 → (new 0xB1).1.getLsbD k = (old.getLsbD k && v.getLsbD k)
        ∧ (new 0xB2).1.getLsbD k = (old.getLsbD k || v.getLsbD k) ∧ (new 0xB3).1.getLsbD k = (old.getLsbD k != v.getLsbD k))
    ∧ ((new 0xB1).2 = true ∧ (new 0xB2).2 = true ∧ (new 0xB3).2 = true)
    ∧ ((new 0xB4).1 = v ∧ (new 0xB4).2 = true)
    ∧ ((new 0xB5).1 = v ∧ ((new 0xB5).2 = true ↔ old = cmp))
    ∧ ((new 0xB6).1 = Word.ofNat (fp32.deliver ((fp32.value old.toNat).add (fp32.value v.toNat))).code ∧ (new 0xB6).2 = true)
    ∧ (fldN (new 0xB7).1 0 16 = (bf16.deliver ((bf16.value (fldN old 0 16)).add (bf16.value (fldN v 0 16)))).code
        ∧ fldN (new 0xB7).1 16 16 = (bf16.deliver ((bf16.value (fldN old 16 16)).add (bf16.value (fldN v 16 16)))).code
        ∧ (new 0xB7).2 = true)
    ∧ ((v.toNat ≤ old.toNat → (new 0xB8).1.toNat = old.toNat - v.toNat ∧ (new 0xB8).2 = true)
        ∧ (old.toNat < v.toNat → (new 0xB8).2 = false))
    ∧ ((new 0xB9).1.toNat = min (2 ^ 32 - 1) (old.toNat + v.toNat) ∧ (new 0xB9).2 = true)
    ∧ (∀ p ∈ [((0xBA : Byte), (0xAB : Byte)), (0xBB, 0xAD), (0xBC, 0xAE), (0xBD, 0xAF), (0xBE, 0xB0), (0xBF, 0xB1), (0xC0, 0xB2),
          (0xC1, 0xB3), (0xC2, 0xB6), (0xC3, 0xB7)], reduceAs p.1 = p.2)

/-- R186, R187, R189, R197, R421: an access at its home. -/
def Obligations.AccessAtHome : Prop :=
  (∀ (n old v : Nat), n ∈ [1, 2, 4, 8] → old < 2 ^ (8 * n) → v < 2 ^ (8 * n) →
    let new := fun op : BitVec 4 => combineNew op n old v
    let signed := fun x : Nat => if 2 * x < 2 ^ (8 * n) then (x : Int) else (x : Int) - (2 ^ (8 * n) : Nat)
    new 0 = v ∧ new 1 = (old + v) % 2 ^ (8 * n)
    ∧ (new 2 < 2 ^ (8 * n) ∧ signed (new 2) = min (signed old) (signed v)) ∧ (new 3 < 2 ^ (8 * n) ∧ signed (new 3) = max (signed old) (signed v))
    ∧ new 4 = min old v ∧ new 5 = max old v
    ∧ (∀ k, (new 6).testBit k = (old.testBit k && v.testBit k) ∧ (new 7).testBit k = (old.testBit k || v.testBit k)
        ∧ (new 8).testBit k = (old.testBit k != v.testBit k))
    ∧ (n = 4 → new 9 = (fp32.deliver ((fp32.value old).add (fp32.value v))).code
        ∧ new 10 = (bf16.deliver ((bf16.value (old % 2 ^ 16)).add (bf16.value (v % 2 ^ 16)))).code
          + 2 ^ 16 * (bf16.deliver ((bf16.value (old / 2 ^ 16)).add (bf16.value (v / 2 ^ 16)))).code))
  ∧ ∀ (s : State) (acc pa : Nat) (a : Access), s.acc? acc = some a →
    (s.blocked a = true → exec (.memoryAccessAtHome acc) s = .next s)
    ∧ (s.blocked a = false → a.st = .ready pa → isFabric pa = false → s.poisoned pa a.size a.act.isWrite = false →
        ∃ v m, let s1 := { s.noteBytes pa a.size with
              mem := m, accs := s.accs.map (fun x => if x.id = a.id then { a with st := .done v, left := flitHome a.src.tile pa } else x) }
          exec (.memoryAccessAtHome acc) s = .next (if a.act = .read then s1 else s1.rewritten pa a.size)
          ∧ (a.act = .read → m = s.mem ∧ v.toNat = s.mem.readN pa a.size % 2 ^ 32)
          ∧ (∀ w, a.act = .write w → m = s.mem.writeN pa a.size w.toNat)
          ∧ (∀ opc w c, a.act = .atomic opc w c → v = s.mem.word pa ∧
              m = if (atomicNew opc v w c).2 then s.mem.writeN pa 4 (atomicNew opc v w c).1.toNat else s.mem)
          ∧ (∀ opc w, a.act = .reduce opc w → m = s.mem.writeN pa 4 (atomicNew (reduceAs opc) (s.mem.word pa) w 0).1.toNat)
          ∧ (∀ op w, a.act = .combine op w → m = s.mem.writeN pa a.size (combineNew op a.size (s.mem.readN pa a.size) w.toNat))
          ∧ (∀ b : Nat, b < pa ∨ pa + max a.size 4 ≤ b → m.read b = s.mem.read b))
    ∧ (s.blocked a = false → a.st = .ready pa → isFabric pa = false → s.poisoned pa a.size a.act.isWrite = true →
        exec (.memoryAccessAtHome acc) s = .next (((s.noteBytes pa a.size).setAcc { a with st := .failed 0x70 }).eccFail a.task pa a.size))
    ∧ (s.flaws = [] → s.poison = [] → s.noteBytes pa a.size = s)
    ∧ (∀ n, let s1 := s.noteBytes pa n
        s1.mem = s.mem ∧ s1.accs = s.accs ∧ s1.elems = s.elems ∧ s1.tasks = s.tasks ∧ s1.ctxs = s.ctxs ∧ s1.presses = s.presses
        ∧ s1.units = s.units ∧ s1.copies = s.copies ∧ s1.loupes = s.loupes ∧ s1.chans = s.chans ∧ s1.queues = s.queues)

/-- R183 to R185, R190, R394, R395, R397, R421. -/
def Obligations.AccessEvents : Prop :=
  (∀ (s : State) (acc : Nat) (a : Access), s.acc? acc = some a → a.st = .point → a.posted = true → s.queued a = false →
      let s1 := s.leftTile a.src
      let mine := s.accs.filter (fun b => b.src == a.src && b.st == .point)
      ((∃ b ∈ mine, s.pointHeld b = true) → exec (.postedTranslate acc) s = .next s1)
      ∧ ((∀ b ∈ mine, s.pointHeld b = false) → ∀ s2,
          (∀ l, s1.translateAll mine = (.hit l, s2) → exec (.postedTranslate acc) s = .next (s2.sendLanes mine l))
          ∧ (s1.translateAll mine = (.miss, s2) → exec (.postedTranslate acc) s = .next s2)
          ∧ (∀ b code, s1.translateAll mine = (.bad b code, s2) → exec (.postedTranslate acc) s = .next (s2.park b code))
          ∧ (∀ pa, mine = [a] → s1.translate (etileOf a.region) a.ctx a.va a.act.kind = (.hit pa, s2) →
              exec (.postedTranslate acc) s = .next (s2.setAcc { a with st := .ready pa, left := flitHome (etileOf a.region) pa })))
      ∧ (∀ b code s2, s1.translateAll mine = (.bad b code, s2) → ∃ pre post, mine = pre ++ b :: post))
  ∧ (∀ (s : State) (acc el id : Nat) (a : Access) (p : Pend) (m : MemTag), s.acc? acc = some a → a.src = .elem el id →
      (s.elem el).pend? id = some p → p.job = .mem m →
      let mine := s.accs.filter (fun b => b.src == a.src)
      (mine.all (fun b => b.performed m.scope) = false → exec (.memoryResponse acc) s = .next s)
      ∧ (mine.all (fun b => b.performed m.scope) = true →
        exec (.memoryResponse acc) s = .next { s.setElem el ((s.elem el).finish id
            (if a.posted then none else some (loadValue m.opc (mine.map Access.value))) (mine.any (fun b => b.st == .dropped))) with
          accs := s.accs.filter (fun b => !(b.src == a.src && b.over)) }))
  ∧ (∀ v : Word, (loadValue 0xA0 [v] = v) ∧ (loadValue 0xA2 [v] = v) ∧ (loadValue 0xA4 [v] = v)
      ∧ (v.toNat < 2 ^ 8 → (loadValue 0xA1 [v]).toInt = if v.toNat < 2 ^ 7 then (v.toNat : Int) else v.toNat - 2 ^ 8)
      ∧ (v.toNat < 2 ^ 16 → (loadValue 0xA3 [v]).toInt = if v.toNat < 2 ^ 15 then (v.toNat : Int) else v.toNat - 2 ^ 16))
  ∧ (∀ (s : State) (k : Nat) (w : PWalk), s.pwalks.find? (fun x => x.id == k) = some w →
      ((s.pwalks.filter (fun x => x.etile == w.etile)).take 64).any (fun x => x.id == k) = true →
      let root := (s.ctx w.ctx).ptroot.toNat
      let reads := walkReads s.mem w.va [1, 2, 3] root
      (∀ a, reads.find? (fun a => s.poisoned a 8 false) = some a → exec (.pageWalk k) s = .next
          ({ s with pwalks := s.pwalks.filter (fun x => x.id != k) }.eccFail (s.taskOfRegion (regionOfTile w.etile)) a 8))
      ∧ ((∀ a ∈ reads, s.poisoned a 8 false = false) → ∃ (s' : State) (entry : TlbEntry) (mine : List PWalk), exec (.pageWalk k) s = .next s'
        ∧ w ∈ mine ∧ (∀ x ∈ mine, x ∈ s.pwalks ∧ (x.id = k
            ∨ (entry.big = true ∧ x.etile = w.etile ∧ x.ctx = w.ctx ∧ x.va / 2 ^ 28 = w.va / 2 ^ 28)))
        ∧ s'.pwalks = s.pwalks.filter (fun x => !mine.contains x)
        ∧ s'.tlbs = (mine.flatMap (fun x => x.places)).foldl (fun t p => Table.put t p (tlbInsert p (Table.getD t p []) entry)) s.tlbs
        ∧ s'.elems = s.elems ∧ s'.accs = s.accs ∧ s'.tasks = s.tasks ∧ s'.ctxs = s.ctxs
        ∧ (walkFrom s.mem w.va [1, 2, 3] root = none →
            s'.mem = s.mem ∧ entry.leaf = none ∧ ∀ q ∈ allKinds, (q, (0x12 : Byte)) ∈ entry.bad)
        ∧ (∀ at_ e big, walkFrom s.mem w.va [1, 2, 3] root = some (at_, e, big) →
            entry.big = big ∧ (∀ b, b ≠ at_ → s'.mem.read b = s.mem.read b)
            ∧ (∀ x ∈ mine, ∀ q ∈ x.kinds, leafCheck (pteLeaf e) q ≠ 0 → (q, leafCheck (pteLeaf e) q) ∈ entry.bad)
            ∧ (∀ x ∈ mine, ∀ q ∈ x.kinds, leafCheck (pteLeaf e) q = 0 →
                (s'.mem.read at_).getLsbD 3 = true ∧ (q ≠ .read → (s'.mem.read at_).getLsbD 4 = true)))))

/-- R191: FENCE and its completion. -/
def Obligations.FenceWaits : Prop :=
  (∀ (s : State) (el rule : Nat) (d : BitVec 5) (sc : BitVec 2), s.cur = .rule el rule →
      ((s.elem el).portRoom rule (deliver d Tag.data 0) = false → exec (.fence d sc) s = .next s)
      ∧ ((s.elem el).portRoom rule (deliver d Tag.data 0) = true →
        ∃ e' x waits, exec (.fence d sc) s = .next (s.setElem el e') ∧ e'.pend = (s.elem el).pend ++ [x]
          ∧ x.job = .fence sc waits (s.elem el).dropped ∧ x.port = true ∧ x.puts = deliver d Tag.data 0
          ∧ (∀ a ∈ s.accs, samePort a.src (.elem el 0) = true → a.performed sc = false → a.id ∈ waits)
          ∧ (∀ k ∈ waits, ∃ a ∈ s.accs, a.id = k ∧ samePort a.src (.elem el 0) = true ∧ a.performed sc = false)))
  ∧ (∀ (s : State) (el id : Nat) (p : Pend) (sc : BitVec 2) (waits : List Nat) (dropped : Bool),
      (s.elem el).pend? id = some p → p.job = .fence sc waits dropped →
      ((∃ a ∈ s.accs, a.id ∈ waits ∧ a.performed sc = false) → exec (.fenceComplete el id) s = .next s)
      ∧ ((∀ a ∈ s.accs, a.id ∈ waits → a.performed sc = true) →
        exec (.fenceComplete el id) s = .next (s.setElem el ((s.elem el).finish id none dropped))))

/-- R213, R214, R234 to R236: the Rennet step. -/
def Obligations.SegmentSteps : Prop :=
  let field := fun (g : BitVec 64) (lo n : Nat) => g.toNat / 2 ^ lo % 2 ^ n
  let i8 := fun (g : BitVec 64) (lo : Nat) => (BitVec.ofNat 8 (field g lo 8)).toInt
  let seg := fun (g : BitVec 64) (w : Word) =>
    fldN w 8 16 = field g 32 16 ∧ (fld w 24 8 : BitVec 8).toInt = (i8 g 24 + i8 g 16 + 1) / 2 ∧ fldN w 6 2 = 0
    ∧ (SegOk g → fldN w 0 6 + 1 = (field g 48 16 + 2 ^ 16 - field g 32 16) % 2 ^ 16 ∧ fldN w 8 16 % 64 + fldN w 0 6 + 1 ≤ 64)
  let send := fun (d : BitVec 5) (toks : List Token) => if toks = [] then [] else [Put.out (BitVec.ofNat 3 (d.toNat - 8)) toks]
  (∀ (s : State) (el rule : Nat) (x : In) (d a : BitVec 5) (k : BitVec 3) (t : BitVec 1),
    let q := rq d (some a) none 0 0 1
    let g := (s.elem el).sg
    let v := (fld x.a.data 0 8 : BitVec 8).toInt
    let grow := g.getLsbD 0 = true ∧ max (i8 g 16) v - min (i8 g 24) v ≤ 2 * ((s.elem el).c[k.toNat]).toNat ∧ field g 48 16 % 64 ≠ 0
    s.armed el rule q x → 8 ≤ d.toNat → d.toNat < 16 → 1 ≤ ((s.elem el).ports.outAt (d.toNat - 8)).room →
    (x.a.tag ≠ Tag.data → x.a.tag ≠ Tag.last → exec (.segstep d a k t) s = .next (s.abortWith el rule 0x02 x))
    ∧ (x.a.tag = Tag.data ∨ x.a.tag = Tag.last → ∃ g' toks,
        (s.hasRoom el rule q (.sg g' :: send d toks) false →
          exec (.segstep d a k t) s = .next (s.fired el rule q (.sg g' :: send d toks) false {}))
        ∧ field g' 48 16 = (field g 48 16 + 1) % 2 ^ 16 ∧ g'.getLsbD 0 = true ∧ field g' 1 15 = 0
        ∧ (grow → toks = [] ∧ field g' 32 16 = field g 32 16 ∧ i8 g' 24 = min (i8 g 24) v ∧ i8 g' 16 = max (i8 g 16) v)
        ∧ (¬ grow → field g' 32 16 = field g 48 16 ∧ i8 g' 24 = v ∧ i8 g' 16 = v
            ∧ (g.getLsbD 0 = true → ∃ w, seg g w ∧ toks = [⟨w, t.setWidth 4⟩]) ∧ (g.getLsbD 0 = false → toks = []))
        ∧ (SegOk g → SegOk g')))
  ∧ (∀ (s : State) (el rule : Nat) (x : In) (d a : BitVec 5) (k : BitVec 3) (f : BitVec 2) (t : BitVec 1),
    let q := rq d (some a) none 0 0 1
    let g := (s.elem el).sg
    s.armed el rule q x → 8 ≤ d.toNat → d.toNat < 16 → f ≠ 3 →
    (if a.toNat < 16 then 2 else 1) ≤ ((s.elem el).ports.outAt (d.toNat - 8)).room →
    (x.a.tag.toNat < 2 ∨ 5 < x.a.tag.toNat → exec (.segend d a k f t) s = .next (s.abortWith el rule 0x02 x))
    ∧ (2 ≤ x.a.tag.toNat → x.a.tag.toNat ≤ 5 → ∃ pre,
        let toks := pre ++ (if a.toNat < 16 then [x.a] else [])
        let puts := .sg 2 :: send d toks ++ (if f = 1 then [.p k true] else if f = 2 then [.p k false] else [])
        (g.getLsbD 0 = true → ∃ w, seg g w ∧ pre = [⟨w, t.setWidth 4⟩]) ∧ (g.getLsbD 0 = false → pre = [])
        ∧ (s.hasRoom el rule q puts false → exec (.segend d a k f t) s = .next (s.fired el rule q puts false {})))
    ∧ SegOk 2)

/-- R223, R228, R232, R233: what every Press command does in the round it fires. -/
def Obligations.PressCommands : Prop :=
  let sum := fun (i : Instr) (a b : Option (BitVec 5)) (cmd : In → PCmd) =>
    PressAccepts i 24 a b 0 (fun _ => 0) (fun _ => true) cmd 7 none
  (∀ a k, sum (.sumnew a k) (some a) none (fun x => .sumnew x.a.data k))
  ∧ (∀ a b, sum (.sumapp a b) (some a) (some b) (fun x => .sumapp x.a.data x.b.data))
  ∧ (∀ a b n, sum (.sumbsc a b n) (some a) (some b) (fun x => .sumbsc x.a.data x.b.data (n.setWidth 3)))
  ∧ (∀ a b, sum (.sumpatch a b) (some a) (some b) (fun x => .sumpatch x.a.data x.b.data))
  ∧ (∀ d b t, d.toNat < 16 → PressAccepts (.sumrd d b t) d none (some b) t (fun _ => 0) (fun _ => true) (fun x => .sumrd x.b.data) 7 (some fun _ => .press))
  ∧ sum .sumseal none none (fun _ => .sumseal)
  ∧ (∀ a, sum (.ptbl a) (some a) none (fun x => .ptbl x.a.data))
  ∧ (∀ a b, sum (.pmask a b) (some a) (some b) (fun x => .pmask x.a.data x.b.data))
  ∧ (∀ a r, sum (.ppoint a r) (some a) none (fun x => .ppoint x.a.data r))
  ∧ (∀ r l, sum (.pclr r l) none none (fun _ => .pclr r (l == 1)))
  ∧ (∀ a r, PressAccepts (.pseg a r) 24 (some a) none 0 (fun _ => 0) (fun x => isData x.a) (fun x => .pseg x.a.data r) 7 none)
  ∧ (∀ a b r, PressAccepts (.pdense a b r) 24 (some a) (some b) 0 (fun _ => 0) (fun _ => true) (fun x => .pdense x.a.data x.b.data r) 10 none)
  ∧ (∀ a b f, sum (.pvlda a b f) (some a) (some b) (fun x => .pvld false x.a.data x.b.data f))
  ∧ (∀ a b f, sum (.pvldb a b f) (some a) (some b) (fun x => .pvld true x.a.data x.b.data f))
  ∧ (∀ a b g, sum (.pouter a b g) (some a) (some b) (fun x => .pouter x.a.data x.b.data g))
  ∧ (∀ a b r f, sum (.pread a b r f) (some a) (some b) (fun x => .pread x.a.data x.b.data r f))
  ∧ (∀ d a, d.toNat < 16 → PressAccepts (.pstat d a) d (some a) none 0 (fun _ => 0) (fun _ => true) (fun x => .pstat x.a.data) 7 (some fun _ => .press))
  ∧ (∀ d a, 8 ≤ d.toNat → d.toNat < 16 → PressAccepts (.psync d a) d (some a) none 0 (fun x => x.a.data) (fun _ => true)
      (fun x => .psync x.a.data) 7 (some fun p => .psync false p.owedToks))

/-- R230, R237 to R249: when a command passes, and with which code it fails. -/
def Obligations.PressChecks : Prop :=
  ∀ p : Press,
    let hdr := fun k : Nat => p.hoop.hdr k
    let first := p.tsel.toNat
    let table := (hdr first).kind ≠ 3 ∧ (hdr first).first = p.tsel
    let korg := (hdr first).korg.toNat
    let names := fun (k slot e : Nat) => table ∧ korg ≤ k ∧ k < korg + 64 * ((hdr first).nbm1.toNat + 1)
      ∧ slot = first + (k - korg) / 64 ∧ e = (k - korg) % 64 ∧ (hdr slot).cif = 0
    let addr := fun (b : Word) (slot e : Nat) => fldN b 9 7 = 0 ∧ names (fldN b 16 16) slot e
    let i24 := fun v : Int => -8388608 ≤ v ∧ v ≤ 8388607
    let rule := fun (c : PCmd) (index range : Prop) =>
      (p.verdict c = none ↔ ¬ index ∧ ¬ range) ∧ (p.verdict c = some 0x51 ↔ index) ∧ (p.verdict c = some 0x50 ↔ ¬ index ∧ range)
    (∀ a k, rule (.sumnew a k)
      (fldN a 4 12 ≠ 0 ∨ fldN a 16 16 % 64 ≠ 0 ∨ 65536 < fldN a 16 16 + 64 * (fldN a 2 2 + 1) ∨ 3 < fldN a 0 2 + fldN a 2 2
        ∨ ∃ j, j < 4 ∧ (hdr j).cif ≠ 0 ∧ ((fldN a 0 2 ≤ j ∧ j ≤ fldN a 0 2 + fldN a 2 2)
          ∨ ((hdr j).kind ≠ 3 ∧ (hdr j).first.toNat ≤ fldN a 0 2 + fldN a 2 2
            ∧ fldN a 0 2 ≤ (hdr j).first.toNat + (hdr j).nbm1.toNat))) False)
    ∧ (∀ a b, rule (.sumapp a b) (¬ ∃ slot e, addr b slot e ∧ (hdr slot).sealed = false)
        (∃ slot e, addr b slot e
          ∧ ¬ i24 ((if e = 0 then 0 else p.hoop.entry slot (fldN b 0 9) (e - 1)) + a.toInt)))
    ∧ (∀ a b band, rule (.sumbsc a b band)
        (¬ table ∨ (hdr first).nbm1.toNat < band.toNat ∨ fldN b 9 22 ≠ 0 ∨ (hdr (first + band.toNat)).cif ≠ 0)
        ((bf16.value (fldN a 0 16)).finite = false))
    ∧ (∀ a b, rule (.sumpatch a b) (¬ ∃ slot e, addr b slot e)
        (∃ slot e, addr b slot e ∧ ∃ j, e ≤ j ∧ j < 64 ∧ ¬ i24 (p.hoop.entry slot (fldN b 0 9) j + a.toInt)))
    ∧ (∀ b, rule (.sumrd b) (¬ ∃ slot e, addr b slot e) False)
    ∧ rule .sumseal (¬ table ∨ ∃ j, first ≤ j ∧ j ≤ first + (hdr first).nbm1.toNat ∧ (hdr j).cif ≠ 0) False
    ∧ (∀ a, rule (.ptbl a) (3 < a.toNat ∨ (hdr a.toNat).kind = 3 ∨ (hdr a.toNat).first.toNat ≠ a.toNat) False)
    ∧ (∀ a b, rule (.pmask a b) (fldN b 4 27 ≠ 0) False)
    ∧ (∀ a r, rule (.ppoint a r) False (95 < a.toNat))
    ∧ (∀ r l, rule (.pclr r l) False False)
    ∧ (∀ a r, rule (.pseg a r)
        (fldN a 6 2 ≠ 0 ∨ 64 < fldN a 8 16 % 64 + fldN a 0 6 + 1
          ∨ ¬ ∃ slot e, names (fldN a 8 16) slot e ∧ (hdr slot).sealed = true) False)
    ∧ (∀ a b r, rule (.pdense a b r)
        (b.toNat % 4 ≠ 0 ∨ 65532 < b.toNat ∨ ¬ ∃ slot e, names b.toNat slot e ∧ (hdr slot).sealed = true) False)
    ∧ (∀ v a b f, (f : BitVec 3).toNat ≤ 5 → rule (.pvld v a b f)
        (fldN b 20 4 ≠ 0 ∨ fldN b 5 11 ≠ 0 ∨ (fldN b 24 8 ≠ 0 ∧ f ≠ 5)
          ∨ (if f.toNat < 2 then 2 else if f.toNat < 5 then 4 else 8) ≤ fldN b 16 4
          ∨ (if v then 31 else 15) < fldN b 0 5 + fldN b 16 4) False)
    ∧ (∀ a b g, rule (.pouter a b g) False False)
    ∧ (∀ a b r f, rule (.pread a b r f)
        (fldN b 31 1 ≠ 0 ∨ fldN b 25 3 ≠ 0 ∨ fldN b 9 7 ≠ 0 ∨ 4 < fldN b 28 3 ∨ 511 < fldN b 0 9 + fldN b 16 9) False)
    ∧ (∀ a, rule (.pstat a) False False) ∧ (∀ a, rule (.psync a) False False)

/-- R48, R50, R212, R230, R237 to R250: the effects of the Press commands, whatever copies into the Hoop have issued since they
were accepted. -/
def Obligations.PressEffects : Prop :=
  ∀ p : Press,
    let after := fun c : PCmd => (p.apply c).1
    let add := fun (q : Press) (row col : Nat) (n : Int) => q.word row col = p.word row col + BitVec.ofInt 80 n
    let two := fun n : Int => (2 : Rat) ^ n
    let point := fun r : BitVec 4 => ((p.point[r.toNat]).toNat : Int)
    let rowBit := fun (x : BitVec 16) (r : Nat) => x.getLsbD r
    let counts := fun (c : PCmd) (n0 n1 n2 n3 : Nat) => ∀ k, (h : k < 4) → ((after c).seg[k]).toNat =
      min (2 ^ 32 - 1) ((p.seg[k]).toNat + (if k = 0 then n0 else if k = 1 then n1 else if k = 2 then n2 else n3))
    let rises := fun (c : PCmd) (big : Nat → Prop) => ∀ k, k < 16 → (rowBit (after c).hr k = true ↔ rowBit p.hr k = true ∨ big k)
    (∀ a r, a.toNat ≤ 95 → (∀ j, (h : j < 16) → ((after (.ppoint a r)).point[j]).toNat = if j = r.toNat then a.toNat else (p.point[j]).toNat)
      ∧ (after (.ppoint a r)).acc = p.acc)
    ∧ (∀ a, (after (.ptbl a)).tsel.toNat = a.toNat % 4)
    ∧ (∀ a b n, n < 512 → (after (.pmask a b)).mask.getLsbD n =
        if b.getLsbD 31 = true ∨ n / 32 = fldN b 0 4 then a.getLsbD (n % 32) else p.mask.getLsbD n)
    ∧ (∀ r l row col, row < 16 → col < 512 →
        (after (.pclr r l)).word row col = (if l = true ∨ row = r.toNat then 0 else p.word row col)
        ∧ rowBit (after (.pclr r l)).hr row = (if l = true ∨ row = r.toNat then false else rowBit p.hr row)
        ∧ (after (.pclr r l)).nf = (if l = true then false else p.nf))
    ∧ (∀ a b slot e col, p.entryAt b = some (slot, e, col) →
        (∀ k n j, n < 512 → j < 64 → (after (.sumapp a b)).hoop.entry k n j =
          if k = slot ∧ n = col ∧ j = e then (BitVec.ofInt 24 (p.hoop.sum slot col e + a.toInt)).toInt else p.hoop.entry k n j)
        ∧ (∀ k n j, n < 512 → j < 64 → (after (.sumpatch a b)).hoop.entry k n j =
          if k = slot ∧ n = col ∧ e ≤ j then (BitVec.ofInt 24 (p.hoop.entry slot col j + a.toInt)).toInt else p.hoop.entry k n j)
        ∧ (p.apply (.sumrd b)).2 = some (BitVec.ofInt 32 (p.hoop.entry slot col e)) ∧ after (.sumrd b) = p)
    ∧ (∀ a b band h, p.selected = some h → ∀ k n, n < 512 → (after (.sumbsc a b band)).hoop.scale k n =
        if k = h.first.toNat + band.toNat ∧ (b.getLsbD 31 = true ∨ n = fldN b 0 9) then fldN a 0 16 else p.hoop.scale k n)
    ∧ (∀ h, p.selected = some h → h.first.toNat + h.nbm1.toNat < 4 → ∀ j, j < 4 →
        (after .sumseal).hoop.hdr j = { p.hoop.hdr j with
          sealed := if h.first.toNat ≤ j ∧ j ≤ h.first.toNat + h.nbm1.toNat then (p.hoop.hdr j).cif == 0 else (p.hoop.hdr j).sealed })
    ∧ (∀ a (k : BitVec 3), k.toNat < 3 → fldN a 0 2 + fldN a 2 2 < 4 → (after (.sumnew a k)).tsel.toNat = fldN a 0 2 ∧ ∀ j, j < 4 →
        let mine := fldN a 0 2 ≤ j ∧ j ≤ fldN a 0 2 + fldN a 2 2
        let shares := (p.hoop.hdr j).kind ≠ 3 ∧ (p.hoop.hdr j).first.toNat ≤ fldN a 0 2 + fldN a 2 2
          ∧ fldN a 0 2 ≤ (p.hoop.hdr j).first.toNat + (p.hoop.hdr j).nbm1.toNat
        (mine → (after (.sumnew a k)).hoop.hdr j = ⟨k.setWidth 2, false, fld a 0 2, fld a 2 2, fld a 16 16, (p.hoop.hdr j).cif⟩)
        ∧ (¬ mine → shares → (after (.sumnew a k)).hoop.hdr j = { cif := (p.hoop.hdr j).cif })
        ∧ (¬ mine → ¬ shares → (after (.sumnew a k)).hoop.hdr j = p.hoop.hdr j)
        ∧ (∀ n e, n < 512 → e < 64 → (after (.sumnew a k)).hoop.entry j n e = if mine ∨ shares then 0 else p.hoop.entry j n e)
        ∧ (∀ n, n < 512 → (after (.sumnew a k)).hoop.scale j n = if mine then 0x3F80 else p.hoop.scale j n))
    ∧ (∀ a r slot e0 row col, p.slotAt (fldN a 8 16) = some (slot, e0) → row < 16 → col < 512 →
        (row = r.toNat ∧ p.mask.getLsbD col = true → (bf16.value (p.hoop.scale slot col)).finite = true → ∃ n : Int,
          NearestEven (p.segValue slot col (fld a 24 8 : BitVec 8).toInt e0 (e0 + fldN a 0 6 + 1) * two (point r)) n
          ∧ add (after (.pseg a r)) row col n)
        ∧ (¬ (row = r.toNat ∧ p.mask.getLsbD col = true) → add (after (.pseg a r)) row col 0)
        ∧ counts (.pseg a r) 1 (fldN a 0 6 + 1) (if fldN a 0 6 = 0 then 1 else 0) 0
        ∧ rises (.pseg a r) (fun k => k = r.toNat ∧ ∃ j n, j < 512 ∧ p.mask.getLsbD j = true
            ∧ (bf16.value (p.hoop.scale slot j)).finite = true ∧ 2 ^ 78 ≤ (n : Int).natAbs
            ∧ NearestEven (p.segValue slot j (fld a 24 8 : BitVec 8).toInt e0 (e0 + fldN a 0 6 + 1) * two (point r)) n))
    ∧ (∀ a b r slot e row col, p.slotAt b.toNat = some (slot, e) → row < 16 → col < 512 →
        (row = r.toNat ∧ p.mask.getLsbD col = true → (bf16.value (p.hoop.scale slot col)).finite = true → ∃ n : Nat → Int,
          (∀ j, j < 4 → NearestEven (p.segValue slot col (fld a (8 * j) 8 : BitVec 8).toInt (e + j) (e + j + 1) * two (point r)) (n j))
          ∧ add (after (.pdense a b r)) row col (n 0 + n 1 + n 2 + n 3))
        ∧ (¬ (row = r.toNat ∧ p.mask.getLsbD col = true) → add (after (.pdense a b r)) row col 0)
        ∧ counts (.pdense a b r) 0 4 0 0
        ∧ rises (.pdense a b r) (fun k => k = r.toNat ∧ ∃ j i n, j < 512 ∧ i < 4 ∧ p.mask.getLsbD j = true
            ∧ (bf16.value (p.hoop.scale slot j)).finite = true ∧ 2 ^ 78 ≤ (n : Int).natAbs
            ∧ NearestEven (p.segValue slot j (fld a (8 * i) 8 : BitVec 8).toInt (e + i) (e + i + 1) * two (point r)) n))
    ∧ (∀ a b (g row : BitVec 4) col, col < 512 →
        (a.getLsbD row.toNat = true ∧ col / 32 = g.toNat ∧ b.getLsbD (col % 32) = true → ∃ n : Int,
          NearestEven (p.va.lane row.toNat * p.vb.lane (col % 32) * two (point row)) n
          ∧ add (after (.pouter a b g)) row.toNat col n)
        ∧ counts (.pouter a b g) 0 0 0 1
        ∧ rises (.pouter a b g) (fun k => a.getLsbD k = true ∧ ∃ j n, j < 32 ∧ b.getLsbD j = true ∧ 2 ^ 78 ≤ (n : Int).natAbs
            ∧ NearestEven (p.va.lane k * p.vb.lane j * two (point (BitVec.ofNat 4 k))) n)
        ∧ (¬ (a.getLsbD row.toNat = true ∧ col / 32 = g.toNat ∧ b.getLsbD (col % 32) = true) →
          add (after (.pouter a b g)) row.toNat col 0))
    ∧ (∀ (second : Bool) a b (f : BitVec 3), f.toNat ≤ 5 → fldN b 0 5 + fldN b 16 4 < (if second then 32 else 16) →
        let q := after (.pvld second a b f)
        let u := if second then q.vb else q.va
        let v := if second then p.vb else p.va
        (∃ nf, PVec.Loads { v with fmt := f, scale := if f = 5 then fld b 24 8 else v.scale } u a (fldN b 0 5) (fldN b 16 4 + 1) nf
            ∧ q.nf = (p.nf || nf))
        ∧ (if second then q.va = p.va else q.vb = p.vb)
        ∧ q.acc = p.acc ∧ q.hr = p.hr ∧ q.hoop = p.hoop ∧ q.mask = p.mask ∧ q.result = p.result ∧ q.seg = p.seg)
    ∧ (∀ a b (r : BitVec 4) (f : BitVec 2), f.toNat ≤ 2 → fldN b 0 9 + fldN b 16 9 < 512 →
        let q := after (.pread a b r f)
        let last := fldN b 16 9
        let s := fp32.value a.toNat
        let F := if f = 1 then bf16 else fp32
        ∃ (code : Nat → Nat) (inc : Nat → Inc),
          q.result = p.result
            ++ (List.range (last + 1)).map (fun j => { tok := ⟨Word.ofNat (code j), if j = last then Tag.last else Tag.data⟩, left := 1 })
            ++ (if fldN b 28 3 = 0 then [] else [{ tok := ⟨0, BitVec.ofNat 4 (fldN b 28 3 + 1)⟩, left := 1 }])
          ∧ q.conv = p.conv.add ((List.range (last + 1)).foldr (fun j n => (inc j).plus n) {}) ∧ q.acc = p.acc ∧ q.hoop = p.hoop
          ∧ ∀ j, j ≤ last →
              let x := (p.word r.toNat (fldN b 0 9 + j)).toInt
              (s.finite = false → code j = (if f = 2 then 0 else F.nan) ∧ inc j = { nan := 1 })
              ∧ (s.finite = true → (x : Rat) * s.rat = 0 → code j = 0 ∧ inc j = {})
              ∧ (∀ neg m e, s = .fin neg m e → x * (m : Int) ≠ 0 →
                  (f ≠ 2 → let y := F.round false true (decide (x < 0) != neg) (x.natAbs * m) (e - point r)
                    code j = y.code ∧ inc j = y.inc)
                  ∧ (f = 2 → ∃ n : Int, NearestEven ((x : Rat) * s.rat * two (-point r)) n
                      ∧ code j = (BitVec.ofInt 32 (max (-2 ^ 31) (min n (2 ^ 31 - 1)))).toNat
                      ∧ inc j = (if n < -2 ^ 31 ∨ 2 ^ 31 ≤ n then { sat := 1 } else if n = 0 then { flush := 1 } else {}))))
    ∧ (∀ a w, (p.apply (.pstat a)).2 = some w → fldN w 31 1 = (rowBit p.hr (fldN a 0 4)).toNat ∧ fldN w 30 1 = p.nf.toNat
        ∧ fld w 28 2 = p.tsel ∧ fld w 25 3 = p.va.fmt ∧ fld w 22 3 = p.vb.fmt ∧ fldN w 7 15 = 0
        ∧ (∀ r : BitVec 4, r.toNat = fldN a 0 4 → fld w 0 7 = p.point[r.toNat]))
    ∧ (∀ a, p.apply (.psync a) = (p, none))

/-- R223, R226, R231, R249, R251, R252: the events of a Press. -/
def Obligations.PressEvents : Prop :=
  (∀ (s : State) (tile : Nat),
    let p := s.press tile
    let c := s.copyEng tile
    (p.queue = [] → exec (.pressCommandPerform tile) s = .next s)
    ∧ (∀ x rest, p.queue = x :: rest → x.left ≠ 0 → exec (.pressCommandPerform tile) s = .next s)
    ∧ (∀ x rest, p.queue = x :: rest → x.left = 0 → s.hoopBad tile (p.reads x.cmd) = true →
        exec (.pressCommandPerform tile) s = .next ((s.popCommand tile p rest).hoopFail tile))
    ∧ (∀ x rest, p.queue = x :: rest → x.left = 0 → s.hoopBad tile (p.reads x.cmd) = false → ∃ s', exec (.pressCommandPerform tile) s = .next s'
        ∧ s'.press tile = { (p.apply x.cmd).1 with queue := rest }
        ∧ s'.copyEng tile = { c with flights := c.flights.map (fun f => { f with ahead := f.ahead - 1 }) }
        ∧ s'.mem = s.mem ∧ s'.accs = s.accs ∧ s'.chans = s.chans ∧ s'.tasks = s.tasks ∧ s'.ctxs = s.ctxs
        ∧ (∀ y, (s.elem x.el).pend? x.pend = some y → y.job = .press → s'.elem x.el = (s.elem x.el).finish x.pend (p.apply x.cmd).2 false)
        ∧ ((s.elem x.el).pend? x.pend = none → s'.elems = s.elems)))
  ∧ (∀ (s : State) (tile : Nat) (x : PTok) (rest : List PTok),
      let p := s.press tile
      p.result = x :: rest →
      (x.left ≠ 0 ∨ (p.ports.outAt 0).room = 0 → exec (.pressResultDelivery tile) s = .next s)
      ∧ (x.left = 0 → 1 ≤ (p.ports.outAt 0).room → isStop x.tok = false → ∃ s', exec (.pressResultDelivery tile) s = .next s'
          ∧ s'.press tile = { p with result := rest, ports := p.ports.push 0 x.tok } ∧ s'.mem = s.mem ∧ s'.accs = s.accs)
      ∧ (x.left = 0 → 1 ≤ (p.ports.outAt 0).room → isStop x.tok = true → p.stopWaits x.tok = false → ∃ s',
          exec (.pressResultDelivery tile) s = .next s' ∧ (s'.press tile).result = rest ∧ (s'.press tile).ports = p.ports.push 0 x.tok
          ∧ (p.wconv.toNat ≤ (x.tok.tag - 1).toNat → p.wheyConvOn = true → (s'.press tile).conv = {}
              ∧ (s'.press tile).wheyConv.map WheyTok.data = [p.conv.sat, p.conv.nan, p.conv.inf, p.conv.flush])
          ∧ ((x.tok.tag - 1).toNat < p.wconv.toNat → (s'.press tile).conv = p.conv ∧ (s'.press tile).wheyConv = p.wheyConv)
          ∧ (p.wseg.toNat ≤ (x.tok.tag - 1).toNat → p.wheySegOn = true → (s'.press tile).seg = Vector.replicate 4 0
              ∧ (s'.press tile).wheySeg.map WheyTok.data = p.seg.toList)
          ∧ ((x.tok.tag - 1).toNat < p.wseg.toNat → (s'.press tile).seg = p.seg ∧ (s'.press tile).wheySeg = p.wheySeg)))
  ∧ (∀ (s : State) (tile : Nat),
      let p := s.press tile
      let past := fun (st : Life) (head : InEnd → Bool) => ∀ k, k < 16 → ((s.elem (elemOfTile tile k)).holds 0xDA 0xDF || (s.elem (elemOfTile tile k)).holds 0xE0 0xEB) = false
        ∨ (s.elem (elemOfTile tile k)).life = st
        ∨ ∀ j, j < 8 → let i := (s.elem (elemOfTile tile k)).ports.inAt j
            i.wired = false ∨ i.back = true ∨ s.fedByPress (elemOfTile tile k) j = true ∨ head i = true
      (p.life = .running → p.queue = [] → past .marked InEnd.markHead → exec (.pressMark tile) s = .next (s.setPress tile { p with
          life := .marked
          result := p.result ++ (if (p.ports.outAt 0).wired then [{ tok := ⟨0, Tag.mark⟩, left := 0 }] else []) }))
      ∧ (p.life ≠ .running ∨ p.queue ≠ [] ∨ ¬ past .marked InEnd.markHead → exec (.pressMark tile) s = .next s)
      ∧ (p.life = .running → p.queue = [] → p.result = [] → (∀ k, k < 4 → (p.hoop.hdr k).cif = 0) → past .drained InEnd.drainHead →
          p.wheyConv = [] → p.wheySeg = [] → (p.ports.outAt 0).wired = true → 1 ≤ (p.ports.outAt 0).room →
          ∃ q, exec (.pressDrain tile) s = .next (s.setPress tile q) ∧ q.life = .drained ∧ q.ports = p.ports.push 0 ⟨0, Tag.drain⟩
            ∧ (p.wheyConvOn = true → q.wheyConv.map WheyTok.level = [0, 0, 0, 0xF])
            ∧ (p.wheySegOn = true → q.wheySeg.map WheyTok.level = [0, 0, 0, 0xF]))
      ∧ (p.life ≠ .running ∨ p.queue ≠ [] ∨ p.result ≠ [] ∨ ¬ past .drained InEnd.drainHead → exec (.pressDrain tile) s = .next s))

/-- R199, R202 to R206: the instructions that act on a copy engine, and its trigger. That a trigger whose check fails moves the
round-robin pointer is the model's choice (log 76). -/
def Obligations.CopyInstructions : Prop :=
  let issued := fun (s s' : State) (tile : Nat) (k : Nat) (a b : Word) (el : Option (Nat × Nat)) (down : Bool) (slots : List Nat) =>
    ∃ f : Flight, (s'.copyEng tile).flights = (s.copyEng tile).flights ++ [f] ∧ f.id = (s.copyEng tile).nextId ∧ f.tmpl = k ∧ f.a = a
      ∧ f.b = b ∧ f.el = el ∧ f.mark = 0 ∧ f.down = down ∧ f.paused = none ∧ f.rest = [] ∧ f.slots = slots
      ∧ f.ahead = (s.press tile).queue.length
      ∧ (∀ h, Table.get? (s.copyEng tile).tmpls k = some h →
          (∀ t, (ht : t < 64) → (s'.copyEng tile).out[t] = (s.copyEng tile).out[t] + (if t = h.tag.toNat then 1 else 0))
          ∧ (∀ t, t < 64 → (s'.copyEng tile).issued.getLsbD t = ((s.copyEng tile).issued.getLsbD t || decide (t = h.tag.toNat))))
      ∧ (s'.copyEng tile).bitmap = (s.copyEng tile).bitmap ∧ s'.mem = s.mem ∧ s'.accs = s.accs
  (∀ (s : State) (el rule : Nat) (x : In) (d a b : BitVec 5) (k : BitVec 6),
    let e := s.elem el
    let tile := tileOfElem el
    let q := rq d (some a) (some b) 0 0 1
    let l := deliver d Tag.data x.a.data
    let e1 := e.issuePort rule q l (.copyIssue k.toNat x.a.data x.b.data) true
    s.armed el rule q x → e.portRoom rule l = true →
    (∀ code, s.copyCheck tile k.toNat x.a.data x.b.data = .fail code → exec (.copy d a b k) s = .next (s.abortWith el rule code x))
    ∧ (∀ down slots, s.copyCheck tile k.toNat x.a.data x.b.data = .ok down slots →
        ((256 ≤ (s.copyEng tile).flights.length ∨ s.behind el e.nextId = true) → exec (.copy d a b k) s = .next (s.setElem el e1))
        ∧ ((s.copyEng tile).flights.length < 256 → s.behind el e.nextId = false → ∃ s', exec (.copy d a b k) s = .next s'
            ∧ issued s s' tile k.toNat x.a.data x.b.data (some (el, e.nextId)) down slots
            ∧ (d ≠ 24 → s'.elem el = e1.setJob e.nextId (.copy (s.copyEng tile).nextId))
            ∧ (d = 24 → s'.elem el = (e1.setJob e.nextId (.copy (s.copyEng tile).nextId)).finish e.nextId none false))))
  ∧ (∀ (s : State) (tile k : Nat) (a b : Word) (down : Bool) (slots : List Nat), s.copyCheck tile k a b = .ok down slots →
      down = s.copyDown tile k a b ∧ slots = s.copySlots tile k b)
  ∧ (∀ (s : State) (el id k : Nat) (p : Pend) (a b : Word),
      (s.elem el).pend? id = some p → p.job = .copyIssue k a b → s.behind el id = false →
      (256 ≤ (s.copyEng (tileOfElem el)).flights.length → exec (.copyIssueDeferred el id) s = .next s)
      ∧ ((s.copyEng (tileOfElem el)).flights.length < 256 → ∃ s',
          exec (.copyIssueDeferred el id) s = .next s' ∧ issued s s' (tileOfElem el) k a b (some (el, id))
            (s.copyDown (tileOfElem el) k a b) (s.copySlots (tileOfElem el) k b)))
  ∧ (∀ (s : State) (el rule : Nat) (x : In) (d a b : BitVec 5) (k : BitVec 6),
      let e := s.elem el
      let c := s.copyEng (tileOfElem el)
      let m := c.bitmap &&& (x.b.data ++ x.a.data)
      let does := fun (i : Instr) (q : Req) (opc : Byte) (mask : BitVec 64) (tk : BitVec 6) (v : Word) (cleared : BitVec 64) =>
        let e1 := e.issuePort rule q (deliver q.d Tag.data v) (.tag opc mask tk) true
        s.armed el rule q x → e.portRoom rule (deliver q.d Tag.data v) = true →
          (s.behind el e.nextId = true → exec i s = .next (s.setElem el e1))
          ∧ (s.behind el e.nextId = false → exec i s = .next
              ((s.setElem el (e1.finish e.nextId none false)).setCopy (tileOfElem el) { c with cleared := cleared }))
      let q := rq d (some a) (some b) 0 0 1
      does (.tagany d a b) q 0xCC (x.b.data ++ x.a.data) 0 (if m = 0 then 0 else 1) c.cleared
      ∧ does (.tagall d a b) q 0xCD (x.b.data ++ x.a.data) 0 (if m = x.b.data ++ x.a.data then 1 else 0) c.cleared
      ∧ (∃ v : Word, does (.tagff d a b) q 0xCE (x.b.data ++ x.a.data) 0 v c.cleared
          ∧ (m = 0 → v = 64) ∧ (m ≠ 0 → v.toNat < 64 ∧ m.getLsbD v.toNat = true) ∧ (∀ j, j < v.toNat → m.getLsbD j = false))
      ∧ does (.tagclr a b) (rq 24 (some a) (some b) 0 0 1) 0xCF (x.b.data ++ x.a.data) 0 0 (c.cleared ||| (x.b.data ++ x.a.data))
      ∧ (∃ v : Word, does (.cstat d k) (rq d none none 0 0 1) 0xCB (x.b.data ++ x.a.data) k v c.cleared
          ∧ (c.flights.length < 512 → fldN v 0 9 = (c.flights.filter (fun f => f.tmpl == k.toNat)).length ∧ fldN v 9 7 = 0 ∧ fldN v 24 7 = 0
            ∧ (v.getLsbD 31 = true ↔ ∃ f ∈ c.flights, f.tmpl = k.toNat ∧ f.paused.isSome = true)
            ∧ (∀ j, (h : j < 8) → (v.getLsbD (16 + j) = true ↔ ∃ t, c.arms[j] = some t ∧ t.toNat = k.toNat)))))
  ∧ (∀ (s : State) (el rule : Nat) (x : In) (k : BitVec 6) (port : BitVec 3),
      let e := s.elem el
      let c := s.copyEng (tileOfElem el)
      s.armed el rule (rq 24 none none 0 0 1) x → e.portRoom rule [] = true →
      (Table.get? c.tmpls k.toNat = none → exec (.carm k port) s = .next (s.abortWith el rule 0x31 x))
      ∧ (Table.get? c.tmpls k.toNat ≠ none → ∃ e', exec (.carm k port) s = .next ((s.setElem el e').setCopy (tileOfElem el)
          { c with rearm := c.rearm ++ [(port, some k)] }) ∧ e'.d = e.d ∧ e'.p = e.p ∧ e'.pend = e.pend)
      ∧ (∃ e', exec (.cdis port) s = .next ((s.setElem el e').setCopy (tileOfElem el) { c with rearm := c.rearm ++ [(port, none)] })
          ∧ e'.d = e.d ∧ e'.p = e.p ∧ e'.pend = e.pend)
      ∧ (∀ (c : CopyEng) (t : Option (BitVec 6)) j, (h : j < 8) → ({ c with rearm := [(port, t)] }.commit).arms[j] = if j = port.toNat then t else c.arms[j])
      ∧ (∀ (c : CopyEng) t, t < 64 → c.commit.bitmap.getLsbD t =
          if c.issued.getLsbD t then false else if c.zeroed.getLsbD t then true else if c.cleared.getLsbD t then false else c.bitmap.getLsbD t))
  ∧ (∀ (s : State) (tile p : Nat) (tok : Token) (t : BitVec 6),
      let c := s.copyEng tile
      c.life = .running → c.freeze = none → c.flights.length < 256 →
      (c.served = none → exec (.copyTrigger tile) s = .next s)
      ∧ (c.served = some (p, tok, t) →
          (isData tok = false → exec (.copyTrigger tile) s = .next (s.setCopy tile { c with ports := c.ports.take p, rr := p }))
          ∧ (∀ down slots, isData tok = true → s.copyCheck tile t.toNat tok.data tok.data = .ok down slots → ∃ s',
              exec (.copyTrigger tile) s = .next s' ∧ issued s s' tile t.toNat tok.data tok.data none down slots
              ∧ (s'.copyEng tile).ports = c.ports.take p)
          ∧ (∀ code, isData tok = true → s.copyCheck tile t.toNat tok.data tok.data = .fail code → ∃ f,
              exec (.copyTrigger tile) s = .next (s.setCopy tile { c with rr := p, freeze := some f, unposted := true })
              ∧ f.code = code ∧ f.tmpl = t.toNat ∧ f.port = p ∧ f.data = tok.data)))

/-- R195, R196, R198, R199: what the checks made at issue promise of every element of the copy. -/
def Obligations.CopyBounds : Prop :=
  ∀ (s : State) (tile k : Nat) (a b : Word) (h : Shape) (down : Bool) (slots : List Nat),
    Table.get? (s.copyEng tile).tmpls k = some h → h.perm.Perm (List.range h.dims.length) → (∀ x ∈ h.dims, x.ext ≠ 0) →
    s.copyCheck tile k a b = .ok down slots →
    let task := s.taskOfRegion (regionOfTile tile)
    let sw := s.window task h.swin
    let dw := s.window task h.dwin
    sw.r = true ∧ (h.dkind = 0 → (if h.redop = 0 then dw.w else dw.a) = true)
    ∧ ∀ i, i < h.count →
        0 ≤ h.src a i ∧ h.src a i + 2 ^ h.ssize.toNat ≤ (sw.len : Int) ∧ ((sw.base : Int) + h.src a i) % (2 ^ h.ssize.toNat : Nat) = 0
        ∧ (h.dkind = 0 → 0 ≤ h.dst b i ∧ h.dst b i + 2 ^ h.dsize.toNat ≤ (dw.len : Int)
            ∧ ((dw.base : Int) + h.dst b i) % (2 ^ h.dsize.toNat : Nat) = 0)

/-- R41, R175, R178, R197, R198, R200 to R203, R218 to R220, R247: a copy in flight, its conversions, and the engine as a node. -/
def Obligations.CopyEvents : Prop :=
  (∀ (s : State) (tile id : Nat) (f : Flight) (h : Shape),
    let c := s.copyEng tile
    let task := s.taskOfRegion (regionOfTile tile)
    let i := if f.down then h.count - 1 - f.mark else f.mark
    let va := (((s.window task h.swin).base : Int) + h.src f.a i).toNat
    let mine := s.accs.filter (fun a => a.src == Port.copy tile id && a.act == Act.read)
    let held := (h.dkind = 1 ∧ c.portBusy f h = true) ∨ (2 ≤ h.dkind.toNat ∧ f.ahead ≠ 0)
    let v := (convert h.conv (readValue (mine.map Access.value))).1
    let counted := fun s' : State => ∀ u st x fin, s.unit? (etileOf (regionOfTile tile) * 64 + 1) = some u → u.st = .brine st x fin →
      s'.unit? (etileOf (regionOfTile tile) * 64 + 1) =
        some { u with st := .brine (st.add (convert h.conv (readValue (mine.map Access.value))).2) x fin }
    let moved := fun (s' : State) (rest : List Token) => counted s' ∧ s'.mem = s.mem
      ∧ s'.accs = s.accs.filter (fun a => !(a.src == Port.copy tile id && a.act == Act.read))
      ∧ (s'.copyEng tile).flights = c.flights.map (fun g => if g.id = id then { f with mark := f.mark + 1, rest := rest } else g)
    c.flights.find? (fun g => g.id == id) = some f → Table.get? c.tmpls f.tmpl = some h → f.rest = [] →
    ((f.paused.isSome = true ∨ h.count ≤ f.mark ∨ held) → exec (.copyTransfer tile id) s = .next s)
    ∧ (f.paused = none → f.mark < h.count → c.life ≠ .marked → s.copyMarked tile = false → ¬ held →
        (mine = [] →
          (∀ s1, s.translate tile (s.ctxOfTask task) va .read = (.miss, s1) → exec (.copyTransfer tile id) s = .next s1)
          ∧ (∀ code s1, s.translate tile (s.ctxOfTask task) va .read = (.bad code, s1) →
              exec (.copyTransfer tile id) s = .next (s1.pauseCopy tile f code va))
          ∧ (∀ pa s1, s.translate tile (s.ctxOfTask task) va .read = (.hit pa, s1) → ∃ l,
              exec (.copyTransfer tile id) s = .next { s1 with accs := s1.accs ++ l, fresh := s1.fresh + l.length }
              ∧ (∀ x ∈ l, x.src = .copy tile id ∧ x.act = .read ∧ x.ctx = s1.ctxOfTask (s1.taskOfRegion (regionOfTile tile)))
              ∧ l.map (fun x => (x.va, x.size, x.st)) =
                  if h.ssize = 3 then [(va, 4, .ready pa), (va + 4, 4, .ready (pa + 4))] else [(va, 2 ^ h.ssize.toNat, .ready pa)]))
        ∧ ((∃ a ∈ mine, a.back = false) → exec (.copyTransfer tile id) s = .next s)
        ∧ (mine ≠ [] → (∀ a ∈ mine, a.back = true) → h.dkind = 0 →
            let dva := (((s.window task h.dwin).base : Int) + h.dst f.b i).toNat
            ∀ pa s1, s.translate tile (s.ctxOfTask task) dva (if h.redop = 0 then .write else .atomic) = (.hit pa, s1) → ∃ s' l,
              exec (.copyTransfer tile id) s = .next s' ∧ (s1.units = s.units → counted s')
              ∧ s'.accs = s1.accs.filter (fun a => !(a.src == Port.copy tile id && a.act == Act.read)) ++ l
              ∧ (h.redop = 0 → l.map (fun x => (x.va, x.size, x.act)) =
                  if h.dsize = 3 then [(dva, 4, .write (Word.ofNat v)), (dva + 4, 4, .write (Word.ofNat (v / 2 ^ 32)))]
                  else [(dva, 2 ^ h.dsize.toNat, .write (Word.ofNat v))])
              ∧ (h.redop ≠ 0 → l.map (fun x => (x.va, x.size, x.act)) = [(dva, 2 ^ h.dsize.toNat, .combine h.redop (BitVec.ofNat 64 v))])
              ∧ (s'.copyEng tile).flights = c.flights.map (fun g => if g.id = id then { f with mark := f.mark + 1 } else g))
        ∧ (mine ≠ [] → (∀ a ∈ mine, a.back = true) → h.dkind = 1 → ∃ s', exec (.copyTransfer tile id) s = .next s'
            ∧ (let last := f.mark + 1 = h.count
              let t := if last ∧ h.ltag = true then Tag.last else Tag.data
              moved s' ((if h.dsize = 3 then [⟨Word.ofNat v, Tag.data⟩, ⟨Word.ofNat (v / 2 ^ 32), t⟩] else [⟨Word.ofNat v, t⟩])
                ++ (if last ∧ h.stop ≠ 0 then [⟨0, BitVec.ofNat 4 (h.stop.toNat + 1)⟩] else []))))
        ∧ (mine ≠ [] → (∀ a ∈ mine, a.back = true) → (h.dkind = 2 ∨ h.dkind = 3) →
            let p := s.press tile
            let x := if h.dkind = 2 then p.va else p.vb
            let n := if x.fmt.toNat < 2 then 2 else if x.fmt.toNat < 5 then 4 else 8
            0 ≤ h.dst f.b i → ((h.dst f.b i).toNat + 1) * n ≤ (if h.dkind = 2 then 16 else 32) →
            ∃ s' y nf, exec (.copyTransfer tile id) s = .next s' ∧ moved s' [] ∧ x.Loads y (Word.ofNat v) ((h.dst f.b i).toNat * n) n nf
              ∧ s'.press tile = if h.dkind = 2 then { p with va := y, nf := p.nf || nf } else { p with vb := y, nf := p.nf || nf })
        ∧ (mine ≠ [] → (∀ a ∈ mine, a.back = true) → h.dkind = 4 →
            let p := s.press tile
            let x := (h.dst f.b i).toNat
            let slot := x / 8192
            let kind := (p.hoop.hdr slot).kind
            let rows := if kind = 0 then 4 else 8
            let first := x % 16 * rows
            let scale := fun j => v / 2 ^ (16 * j) % 2 ^ 16
            let bad := if x < 32768 then (first = 0 ∧ v / 2 ^ 40 % 2 ^ 24 ≠ 0)
                ∨ ∃ j, j < rows ∧ (blockEntry kind v j < -2 ^ 23 ∨ 2 ^ 23 ≤ blockEntry kind v j)
              else ∃ j, j < 4 ∧ (bf16.value (scale j)).finite = false
            x < 33280 → (x < 32768 → kind ≠ 3 ∧ (kind ≠ 0 → x % 16 < 8)) →
            (bad → exec (.copyTransfer tile id) s = .next (s.pauseCopy tile f 0x50 va))
            ∧ (¬ bad → s.poison = [] → s.flaws = [] → ∃ s', exec (.copyTransfer tile id) s = .next s' ∧ moved s' []
                ∧ (∀ k n e, n < 512 → e < 64 → (s'.press tile).hoop.entry k n e =
                    if x < 32768 ∧ k = slot ∧ n = x / 16 % 512 ∧ first ≤ e ∧ e < first + rows then blockEntry kind v (e - first)
                    else p.hoop.entry k n e)
                ∧ (∀ k n, n < 512 → (s'.press tile).hoop.scale k n =
                    if 32768 ≤ x ∧ k = (x - 32768) / 128 ∧ n / 4 = (x - 32768) % 128 then scale (n % 4) else p.hoop.scale k n)
                ∧ (s'.press tile).hoop.slots = p.hoop.slots))))
  ∧ (∀ (s : State) (tile id : Nat) (f : Flight) (h : Shape) (t : Token) (rest : List Token),
      let c := s.copyEng tile
      c.flights.find? (fun g => g.id == id) = some f → Table.get? c.tmpls f.tmpl = some h → f.rest = t :: rest →
      ((c.ports.outAt h.dport.toNat).room = 0 → exec (.copyTransfer tile id) s = .next s)
      ∧ (1 ≤ (c.ports.outAt h.dport.toNat).room → (isStop t = false ∨ h.conv = 0) → ∃ s', exec (.copyTransfer tile id) s = .next s'
          ∧ (s'.copyEng tile).ports = c.ports.push h.dport.toNat t ∧ s'.mem = s.mem ∧ s'.accs = s.accs ∧ s'.units = s.units
          ∧ (s'.copyEng tile).flights = c.flights.map (fun g => if g.id = id then { f with rest := rest } else g)))
  ∧ (∀ c : Word,
      let wide := fun (F : Fmt) (k : BitVec 4) (x : Nat) =>
        (F.value x = .nan → convert k x = (0x7FC00000, { nan := 1 }))
        ∧ (F.value x ≠ .nan → (convert k x).2 = {} ∧ (convert k x).1 < 2 ^ 32 ∧ (fp32.value (convert k x).1).sign = (F.value x).sign
            ∧ (∀ z, F.value x = .inf z → fp32.value (convert k x).1 = .inf z)
            ∧ ((F.value x).finite = true → (fp32.value (convert k x).1).finite = true ∧ (fp32.value (convert k x).1).rat = (F.value x).rat))
      (∃ x, Narrowed bf16 false false c (convert 1 c.toNat).1 x (convert 1 c.toNat).2)
      ∧ (∃ x, Narrowed fp16 false false c (convert 2 c.toNat).1 x (convert 2 c.toNat).2)
      ∧ (∃ x, Narrowed e4m3 false true c (convert 3 c.toNat).1 x (convert 3 c.toNat).2)
      ∧ (∃ x, Narrowed e5m2 false true c (convert 4 c.toNat).1 x (convert 4 c.toNat).2)
      ∧ wide bf16 5 (fldN c 0 16) ∧ wide fp16 6 (fldN c 0 16) ∧ wide e4m3 7 (fldN c 0 8) ∧ wide e5m2 8 (fldN c 0 8)
      ∧ ∀ v, convert 0 v = (v, {}))
  ∧ (∀ (s : State) (tile id : Nat) (f : Flight) (h : Shape),
      let c := s.copyEng tile
      let mine := s.accs.filter (fun a => a.src == Port.copy tile id)
      c.flights.find? (fun g => g.id == id) = some f → Table.get? c.tmpls f.tmpl = some h →
      ((f.mark < h.count ∨ f.rest ≠ [] ∨ mine.any (fun a => !a.performed h.scope) = true) → exec (.copyComplete tile id) s = .next s)
      ∧ (h.count ≤ f.mark → f.rest = [] → mine.all (fun a => a.performed h.scope) = true → ∃ s', exec (.copyComplete tile id) s = .next s'
          ∧ (s'.copyEng tile).flights = c.flights.filter (fun g => g.id != id)
          ∧ (∀ t, (ht : t < 64) → (s'.copyEng tile).out[t] = c.out[t] - (if t = h.tag.toNat then 1 else 0))
          ∧ (∀ t, t < 64 → (s'.copyEng tile).zeroed.getLsbD t =
              (c.zeroed.getLsbD t || decide (t = h.tag.toNat ∧ c.out[h.tag.toNat] ≤ 1)))
          ∧ s'.mem = s.mem
          ∧ (∀ el pid, f.el = some (el, pid) → s'.elem el = (s.elem el).finish pid none false)))
  ∧ (∀ (s : State) (tile : Nat),
      let c := s.copyEng tile
      let sends := fun (k : Nat) => k < 8 ∧ (c.ports.outAt k).wired = true ∧ 1 ≤ (c.ports.outAt k).room
      let sent := fun (s' : State) (t : Tag) =>
        (∀ k, k < 8 → ((s'.copyEng tile).ports.outAt k).slots = (c.ports.outAt k).slots
          ++ (if (c.ports.outAt k).wired = true ∧ 1 ≤ (c.ports.outAt k).room then [.full ⟨0, t⟩] else []))
        ∧ (∀ k, k ∈ (s'.copyEng tile).owed ↔ k < 8 ∧ (c.ports.outAt k).wired = true ∧ ¬ sends k)
      c.life = .running →
      (s.copyIdle tile = false → exec (.copyEngineDrain tile) s = .next s)
      ∧ (s.copyIdle tile = true → ∃ s', exec (.copyEngineDrain tile) s = .next s' ∧ (s'.copyEng tile).life = .drained ∧ sent s' Tag.drain)
      ∧ (s.copyMarked tile = false → exec (.copyEngineMark tile) s = .next s)
      ∧ (s.copyMarked tile = true → (∀ f ∈ c.flights, f.rest = []) → (∀ a ∈ s.accs, ∀ k, a.src ≠ .copy tile k) → ∃ s',
          exec (.copyEngineMark tile) s = .next s' ∧ (s'.copyEng tile).life = .marked ∧ sent s' Tag.mark
          ∧ (s'.copyEng tile).flights = c.flights))

/-- R21, R182, R207, R208, R383 to R386, R389: barrier operations from issue to verdict. -/
def Obligations.BarrierProtocol : Prop :=
  (∀ (s s1 : State) (el rule : Nat) (x : In) (d a b : BitVec 5) (w : BitVec 3) (sc : BitVec 2) (pa : Nat),
    let issues := fun (i : Instr) (opc : Byte) (b : Option (BitVec 5)) =>
      let win := s.window (s.taskOfElem el) w
      let off := x.a.data.toNat
      s.armed el rule (rq d (some a) b 0 0 1) x → (s.elem el).portRoom rule (deliver d Tag.data x.a.data) = true →
      off + 16 ≤ win.len → (win.base + off) % 16 = 0 → win.a = true →
      s.heldPage el (s.ctxOfTask (s.taskOfElem el)) (win.base + off) = false →
      s.translate (tileOfElem el) (s.ctxOfTask (s.taskOfElem el)) (win.base + off) .barrier = (.hit pa, s1) →
      ∃ e' op y, exec i s = .next { s1.setElem el e' with bars := s1.bars ++ [op], fresh := s1.fresh + 1 }
        ∧ op.id = s1.fresh ∧ op.el = el ∧ op.opc = opc ∧ op.pa = pa ∧ op.verdict = none ∧ op.orphan = false ∧ op.count = x.b.data
        ∧ op.scope = sc ∧ op.dchan.isSome = (decide (8 ≤ d.toNat) && decide (d.toNat < 16))
        ∧ e'.pend = (s1.elem el).pend ++ [y] ∧ y.id = op.pend
        ∧ (opc ≠ 0xD1 → y.job = .bar op.id) ∧ (opc = 0xD1 → y.job = .barWait op.id (s1.owing el sc)) ∧ e'.barred = true
        ∧ e'.ports.ins = (s1.elem el).ports.ins ∧ e'.d = (s1.elem el).d ∧ e'.p = (s1.elem el).p ∧ e'.dis = (s1.elem el).dis
    issues (.barinit d a b w sc) 0xD0 (some b) ∧ issues (.bararr d a w sc) 0xD1 none ∧ issues (.barkill d a w sc) 0xD2 none
      ∧ issues (.barq d a w sc) 0xD3 none)
  ∧ (∀ (s : State) (el id op : Nat) (p : Pend) (waits : List Nat) (o : BarOp),
      (s.elem el).pend? id = some p → p.job = .barWait op waits → s.bars.find? (fun o => o.id == op) = some o →
      (s.settled waits o.scope = true → s.behind el id = false → s.leaving (s.taskOfElem el) = false →
        exec (.bararrSend el id) s = .next { s.setElem el ((s.elem el).setJob id (.bar op)) with
          bars := s.bars.map (fun b => if b.id = op then { b with left := flitHome (tileOfElem el) b.pa } else b) })
      ∧ (s.leaving (s.taskOfElem el) = true → exec (.bararrSend el id) s = .next s)
      ∧ (s.settled waits o.scope = false → exec (.bararrSend el id) s = .next s))
  ∧ (∀ (s : State) (op : Nat) (o : BarOp),
      let obj := s.mem.barrier o.pa
      let legal := fun (x : BarObj) => x.bad = false ∧ (x.st = 1 → x.arrived < x.expected) ∧ x.waiters + x.saved ≤ 256
      let code : Byte :=
        if o.opc = 0xD0 then (if obj.waiters + obj.saved ≠ 0 then 0x20 else if o.count = 0 ∨ 65535 < o.count.toNat then 0x22 else 0)
        else if o.opc = 0xD1 then
          (if obj.st ≠ 1 then 0x21
            else if o.dchan.isSome = true ∧ obj.arrived + 1 < obj.expected ∧ obj.waiters + obj.saved = 256 then 0x22 else 0)
        else 0
      let mine := s.waiters.filter (fun w => w.pa == o.pa)
      let others := s.waiters.filter (fun w => w.pa != o.pa)
      let freed := fun (t : Token) => mine.map (fun w =>
        ({ el := w.el, pend := w.pend, tok := t, left := flitHome (tileOfElem w.el) o.pa } : Release))
      s.bars.find? (fun o => o.id == op) = some o → s.mem.wf = true → 0xD0 ≤ o.opc → o.opc ≤ 0xD3 →
      (o.verdict.isSome = true ∨ s.barSent o = false → exec (.barrierHomeOp op) s = .next s)
      ∧ (o.verdict = none → o.orphan = false → s.barSent o = true → s.poisoned o.pa 16 false = false → legal obj →
          ∃ s', exec (.barrierHomeOp op) s = .next s'
          ∧ s'.bars = s.bars.map (fun b => if b.id = op then
              { b with verdict := some (code, obj.stateWord), left := flitHome (tileOfElem o.el) o.pa } else b)
          ∧ s'.elems = s.elems ∧ s'.mem.wf = true ∧ (∀ k : Nat, k < o.pa ∨ o.pa + 16 ≤ k → s'.mem.read k = s.mem.read k)
          ∧ legal (s'.mem.barrier o.pa)
          ∧ (code ≠ 0 ∨ o.opc = 0xD3 → s'.mem = s.mem ∧ s'.waiters = s.waiters ∧ s'.releases = s.releases)
          ∧ (code = 0 → o.opc = 0xD0 → s'.mem.barrier o.pa = ⟨1, o.count.toNat, 0, 0, 0, 0, false⟩ ∧ s'.waiters = s.waiters
              ∧ s'.releases = s.releases)
          ∧ (o.opc = 0xD2 → s'.mem.barrier o.pa = { obj with st := 2, arrived := 0, waiters := 0 })
          ∧ (o.opc = 0xD2 → (s'.mem.barrier o.pa).st = 2 ∧ (s'.mem.barrier o.pa).waiters = 0 ∧ s'.waiters = others
              ∧ s'.releases = s.releases ++ freed ⟨obj.phase, Tag.abort⟩)
          ∧ (code = 0 → o.opc = 0xD1 → obj.arrived + 1 = obj.expected →
              s'.mem.barrier o.pa = { obj with arrived := 0, phase := obj.phase + 1, waiters := 0 } ∧ s'.waiters = others
              ∧ s'.releases = s.releases ++ freed ⟨obj.phase + 1, Tag.data⟩
                ++ (if o.dchan.isSome then [⟨o.el, o.pend, ⟨obj.phase + 1, Tag.data⟩, flitHome (tileOfElem o.el) o.pa⟩] else []))
          ∧ (code = 0 → o.opc = 0xD1 → obj.arrived + 1 < obj.expected →
              s'.mem.barrier o.pa = { obj with arrived := obj.arrived + 1, waiters := obj.waiters + (if o.dchan.isSome then 1 else 0) }
              ∧ s'.releases = s.releases
              ∧ s'.waiters = s.waiters ++ (if o.dchan.isSome then [⟨o.pa, o.va, o.el, o.pend, o.task, obj.phase⟩] else []))))
  ∧ (∀ (s : State) (op : Nat) (o : BarOp) (p : Pend) (code : Byte) (word : Word),
      s.bars.find? (fun o => o.id == op) = some o → o.verdict = some (code, word) → (s.elem o.el).pend? o.pend = some p →
      (code ≠ 0 → (s.elem o.el).life = .running → ∃ e', exec (.barrierVerdict op) s =
          .next { s.setElem o.el e' with bars := s.bars.filter (fun b => b.id != op) }
        ∧ e'.life = .frozen ∧ e'.fault.code = code ∧ e'.fault.rule = p.rule ∧ e'.fault.opa = o.opa ∧ e'.fault.opb = o.count
        ∧ e'.ports.ins = (s.elem o.el).ports.ins ∧ e'.d = (s.elem o.el).d ∧ e'.pend = (s.elem o.el).pend.filter (fun x => x.id != o.pend))
      ∧ (code = 0 → ∃ e', exec (.barrierVerdict op) s = .next { s.setElem o.el e' with bars := s.bars.filter (fun b => b.id != op) }
        ∧ (o.opc = 0xD1 → o.dchan.isSome = true → e' = ((s.elem o.el).barCommit o.pend o.ends).setJob o.pend .barPark)
        ∧ (o.opc ≠ 0xD3 → ¬ (o.opc = 0xD1 ∧ o.dchan.isSome = true) →
            e' = ((s.elem o.el).barCommit o.pend o.ends).finish o.pend none false)
        ∧ (o.opc = 0xD3 → e' = ((s.elem o.el).barCommit o.pend o.ends).finish o.pend (some word) false)
        ∧ e'.ports.ins = (o.ends.foldl Ports.take (s.elem o.el).ports).ins))
  ∧ (∀ (o : BarObj), o.arrived < 65536 → o.saved + o.waiters ≤ 256 → fld o.stateWord 30 2 = o.st
      ∧ fldN o.stateWord 21 9 = o.saved + o.waiters ∧ fldN o.stateWord 16 5 = 0 ∧ fldN o.stateWord 0 16 = o.arrived)

/-- R211, R332, R336 to R338, R365, R366, R368: signals, events and fault records.
The model's choices among this: the round whose counter a posted record's STAMP is (log 14) and the layout of the INFO words (log 21). -/
def Obligations.SignalsAndRecords : Prop :=
  (∀ (s : State) (el rule : Nat) (x : In) (d a b : BitVec 5) (h : BitVec 4) (row col rows cols : Nat),
    let e := s.elem el
    let q := rq d (some a) (some b) 0 0 1
    let n := x.a.data.toNat
    s.armed el rule q x → e.portRoom rule (deliver d Tag.data x.b.data) = true → s.spanOf (s.taskOfElem el) = (row, col, rows, cols) →
    (rows * cols ≤ n → exec (.sigsend d a b h) s = .next (s.abortWith el rule 0x02 x))
    ∧ (n < rows * cols → exec (.sigsend d a b h) s = .next
        { s.setElem el (e.issuePort rule q (deliver d Tag.data x.b.data)
            (.signal (regionAt (row + n / cols) (col + n % cols)) h x.b.data) true) with
          signals := s.signals ++ [⟨s.fresh, regionAt (row + n / cols) (col + n % cols), h, x.b.data, false, el, e.nextId,
            flitDelay (tileOfElem el) (etileOf (regionAt (row + n / cols) (col + n % cols)))⟩]
          fresh := s.fresh + 1 }))
  ∧ (∀ (s : State) (el rule : Nat) (x : In) (d a b : BitVec 5),
      let q := rq d (some a) (some b) 0 0 1
      s.armed el rule q x → (s.elem el).portRoom rule (deliver d Tag.data 0) = true →
      exec (.event d a b) s = .next (s.setElem el ((s.elem el).issuePort rule q (deliver d Tag.data 0) (.event x.a.data x.b.data) true)))
  ∧ (∀ (s : State) (g : Signal),
      let r := s.region g.region
      let entry := r.sig[g.h.toNat]
      let told := fun (t : State) => { t with signals := t.signals.filter (fun y => y.id != g.id) }.setElem g.sender
        ((s.elem g.sender).finish g.reply none false)
      s.signals.find? (fun y => y.id == g.id) = some g → g.fab = false → s.behind g.sender g.reply = false →
      (entry.getLsbD 63 = false → r.unh.length < 32 → ∃ u c, exec (.signalHandle g.id) s = .next
          (told { s.setRegion g.region { r with unh := r.unh ++ [u] } with ctxs := c })
        ∧ u.payload = g.payload ∧ u.reason = 0 ∧ u.entry = g.h ∧ u.version.toNat = entry.toNat / 2 ^ 32 % 2 ^ 16 ∧ u.fab = false
        ∧ u.stamp = r.cycle)
      ∧ (entry.getLsbD 63 = false → 32 ≤ r.unh.length → exec (.signalHandle g.id) s = .next s)
      ∧ (entry.getLsbD 63 = true → r.st = .fenced → exec (.signalHandle g.id) s = .next
          { s with signals := s.signals.filter (fun y => y.id != g.id) })
      ∧ (entry.getLsbD 63 = true → entry.getLsbD 62 = true → r.st ≠ .fenced → g.region < 64 →
          let c := s.ctx (s.ctxOfRegion g.region)
          (ringFull c.eqhead c.eqtail c.eqlen = true → exec (.signalHandle g.id) s = .next s)
          ∧ (ringFull c.eqhead c.eqtail c.eqlen = false → c.st = .active → ∃ rec_,
              exec (.signalHandle g.id) s = .next
                (told (s.setCtx (s.ctxOfRegion g.region) { c with events := c.events ++ [(none, rec_)] }))
              ∧ fldN (rec_.getD 0 0) 24 8 = 0x11 ∧ fldN (rec_.getD 0 0) 18 6 = g.region ∧ rec_.getD 4 0 = g.payload))
      ∧ (∀ d src, entry.getLsbD 63 = true → entry.getLsbD 62 = false →
          inEnd (s.spanOf (s.taskOfRegion g.region)) (Word.ofNat entry.toNat) = some d → src ∈ r.sources → src.dst = d →
          (∀ y ∈ r.sources, y.dst = d → y = src) → (r.st = .active ∨ r.st = .frozen) → src.drained = false → src.marked = false →
          1 ≤ ((s.ports d.tile d.unit).inAt d.port).room → ∃ t : State,
            exec (.signalHandle g.id) s = .next t ∧ t.signals = s.signals.filter (fun y => y.id != g.id) ∧ t.mem = s.mem
            ∧ t = { s.enter d ⟨g.payload, BitVec.ofNat 4 (entry.toNat / 2 ^ 58)⟩ with signals := t.signals }.setElem g.sender
                (((s.enter d ⟨g.payload, BitVec.ofNat 4 (entry.toNat / 2 ^ 58)⟩).elem g.sender).finish g.reply none false)))
  ∧ (∀ (s : State) (k el id : Nat) (a b : Word) (rest : List (Nat × Nat × Word × Word)),
      let c := s.ctx k
      let size := fldN c.eqlen 0 16 + 1
      let at_ := c.eqbase.toNat + 32 * c.eqtail.toNat
      s.mem.wf = true → c.events = [] → s.eventJobs k = (el, id, a, b) :: rest →
      c.st ≠ .free → c.st ≠ .faulted → c.st ≠ .creating → s.poisoned at_ 32 true = false →
      ((c.eqtail.toNat + 1) % size = c.eqhead.toNat → c.st ≠ .destroying → exec (.eventRecordWrite k) s = .next s)
      ∧ ((c.eqtail.toNat + 1) % size ≠ c.eqhead.toNat → ∃ s',
          exec (.eventRecordWrite k) s = .next s' ∧ s'.elem el = (s.elem el).finish id none false
          ∧ s'.ctx k = { c with eqtail := BitVec.ofNat 32 ((c.eqtail.toNat + 1) % size) }
          ∧ s'.accs = s.accs ∧ s'.tasks = s.tasks ∧ s'.regions = s.regions
          ∧ let m := s'.mem
          (∀ j : Nat, j < at_ ∨ at_ + 32 ≤ j → m.read j = s.mem.read j)
          ∧ fldN (m.word at_) 24 8 = 0x10 ∧ fldN (m.word at_) 18 6 = regionOfElem el
          ∧ m.word (at_ + 12) = a ∧ m.word (at_ + 16) = b ∧ m.word (at_ + 20) = Word.ofNat el
          ∧ m.word (at_ + 24) = Word.ofNat (s.cycleOf (regionOfElem el)).toNat
          ∧ m.word (at_ + 28) = Word.ofNat ((s.cycleOf (regionOfElem el)).toNat / 2 ^ 32)))
  ∧ (∀ (s : State) (k : Nat) (owner : Option Nat) (r : List Word) (rest : List (Option Nat × List Word)),
      let c := s.ctx k
      let size := fldN c.eqlen 0 16 + 1
      let at_ := c.eqbase.toNat + 32 * c.eqtail.toNat
      s.mem.wf = true → c.events = (owner, r) :: rest → r.length = 8 → s.ripe owner = true →
      c.st ≠ .free → c.st ≠ .faulted → c.st ≠ .creating → (c.eqtail.toNat + 1) % size ≠ c.eqhead.toNat →
      (s.poisoned at_ 32 true = false → ∃ s', exec (.eventRecordWrite k) s = .next s'
        ∧ s'.ctx k = { c with events := rest, eqtail := BitVec.ofNat 32 ((c.eqtail.toNat + 1) % size) }
        ∧ (∀ j : Nat, j < at_ ∨ at_ + 32 ≤ j → s'.mem.read j = s.mem.read j) ∧ (∀ j, j < 8 → s'.mem.word (at_ + 4 * j) = r.getD j 0)
        ∧ s'.elems = s.elems ∧ s'.regions = s.regions
        ∧ (∀ t, owner = some t → s'.task? t = none) ∧ (owner = none → s'.tasks = s.tasks ∧ s'.accs = s.accs))
      ∧ (s.poisoned at_ 32 true = true → c.st ≠ .destroying → ∃ s', exec (.eventRecordWrite k) s = .next s'
        ∧ (s'.ctx k).st = .faulted ∧ s'.mem = s.mem ∧ s'.elems = s.elems))
  ∧ (∀ (s : State) (k : Nat) (r : List Word) (rest : List (List Word)),
      let t := s.collectFreezes k
      let c := t.ctx k
      let size := fldN c.fqlen 0 16 + 1
      let at_ := c.fqbase.toNat + 32 * c.fqtail.toNat
      s.mem.wf = true → c.faults = r :: rest → r.length = 8 → t.poisoned at_ 32 true = false →
      ((c.fqtail.toNat + 1) % size = c.fqhead.toNat → c.st ≠ .destroying → exec (.faultRecordPost k) s = .next t)
      ∧ ((c.fqtail.toNat + 1) % size ≠ c.fqhead.toNat → ∃ s',
          exec (.faultRecordPost k) s = .next s' ∧ s'.elems = t.elems ∧ s'.accs = t.accs ∧ s'.tasks = t.tasks
          ∧ s'.ctx k = { c with faults := rest, fqtail := BitVec.ofNat 32 ((c.fqtail.toNat + 1) % size) }
          ∧ (∀ j : Nat, j < at_ ∨ at_ + 32 ≤ j → s'.mem.read j = s.mem.read j)
          ∧ (∀ j, j < 6 → s'.mem.word (at_ + 4 * j) = r.getD j 0)
          ∧ s'.mem.word (at_ + 24) = Word.ofNat (s.cycleOf (fldN (r.getD 0 0) 14 6)).toNat
          ∧ s'.mem.word (at_ + 28) = Word.ofNat ((s.cycleOf (fldN (r.getD 0 0) 14 6)).toNat / 2 ^ 32)))
  ∧ (∀ (s : State) (el : Nat),
      let f := (s.elem el).fault
      let va := if f.vav then f.va.toNat else 0
      s.elemRecord el = [Word.ofNat (f.code.toNat * 2 ^ 20 + regionOfElem el * 2 ^ 14 + el),
        Word.ofNat (s.taskId (s.taskOfElem el) * 2 ^ 16 + 0xFFFF), 0, Word.ofNat va, Word.ofNat (va % 2 ^ 52 / 2 ^ 32), 0,
        Word.ofNat f.stamp.toNat, Word.ofNat (f.stamp.toNat / 2 ^ 32)])

/-- R21, R281 to R283, R325, R326, R414 to R416: the system group and unit registers.
That an XCTL to a DRAINED unit takes effect at once is the model's choice (log 36). -/
def Obligations.SystemInstructions : Prop :=
  (∀ (s : State) (el rule : Nat) (x : In) (a b : BitVec 5),
    let traps := fun (i : Instr) (code : Byte) =>
      s.armed el rule (rq 24 (some a) (some b) 0 0 1) x → (s.elem el).portRoom rule [] = true → (s.elem el).life = .running →
      ∃ e', exec i s = .next (s.setElem el e') ∧ e'.life = .frozen ∧ e'.unposted = true
        ∧ e'.fault = { code := code, rule := BitVec.ofNat 4 rule, user := fld x.a.data 0 16, opa := x.a.data, opb := x.b.data,
                       stamp := s.cycleOf (regionOfElem el) }
        ∧ e'.d = (s.elem el).d ∧ e'.p = (s.elem el).p ∧ e'.pend = (s.elem el).pend
        ∧ (∀ k, k < 8 → (e'.ports.inAt k).buf =
            if (some a = some (BitVec.ofNat 5 (8 + k)) ∨ some b = some (BitVec.ofNat 5 (8 + k))) then ((s.elem el).ports.inAt k).buf.tail
            else ((s.elem el).ports.inAt k).buf)
    traps (.trap a b) 0x60 ∧ traps (.brk a b) 0x61)
  ∧ (∀ (s : State) (el rule : Nat), s.cur = .rule el rule → (s.elem el).portRoom rule [] = true → (s.elem el).whey = [] →
      ∃ e', exec .whey s = .next (s.setElem el e') ∧ e'.stats = {} ∧ e'.d = (s.elem el).d ∧ e'.p = (s.elem el).p
        ∧ e'.pend = (s.elem el).pend ∧ e'.life = (s.elem el).life
        ∧ ((s.elem el).wheyOn = false → e'.whey = [])
        ∧ ((s.elem el).wheyOn = true → e'.whey.map (fun t => (t.data.toNat, t.tag, t.level)) =
            [((s.elem el).stats.sat.toNat, Tag.data, 0), ((s.elem el).stats.nan.toNat, Tag.data, 0),
              ((s.elem el).stats.inf.toNat, Tag.data, 0), ((s.elem el).stats.flush.toNat, Tag.last, 0)]))
  ∧ (∀ (s : State) (el rule row col rows cols : Nat) (d : BitVec 5) (sel : BitVec 3), s.cur = .rule el rule →
      s.spanOf (s.taskOfElem el) = (row, col, rows, cols) → ∃ v,
        ((s.elem el).portRoom rule (deliver d Tag.data v) = true → exec (.ident d sel) s = .next (s.setElem el
          (((s.elem el).issuePort rule (rq d none none 0 0 1) (deliver d Tag.data v) .timed true).finish (s.elem el).nextId none false)))
        ∧ (sel = 0 → v = Word.ofNat (localOf row col rows cols (tileOfElem el) * 2 ^ 22 + el))
        ∧ (sel = 1 → v = Word.ofNat ((spanRegions row col rows cols).idxOf (regionOfElem el) * 2 ^ 16 + regionOfElem el))
        ∧ (sel = 2 → v = Word.ofNat (rows * 2 ^ 8 + cols))
        ∧ (sel = 3 → v = Word.ofNat (s.taskId (s.taskOfElem el) * 2 ^ 16 + s.ctxOfTask (s.taskOfElem el))))
  ∧ (∀ (s : State) (el rule : Nat) (d : BitVec 5), s.cur = .rule el rule → (s.elem el).portRoom rule (clockPuts d 0) = true →
      exec (.clock d) s = .next (s.setElem el (((s.elem el).issuePort rule (rq d none none 0 0 1) (clockPuts d 0) .clock true).delay
        (s.elem el).nextId (flitDelay (tileOfElem el) (etileOf (regionOfElem el))))))
  ∧ (∀ (d : BitVec 5) (v : Dword), ∃ lo hi : Word, lo.toNat = v.toNat % 2 ^ 32 ∧ hi.toNat = v.toNat / 2 ^ 32
      ∧ (d.toNat < 8 → clockPuts d v = [.d (BitVec.ofNat 3 d.toNat) lo, .d (BitVec.ofNat 3 (d.toNat + 1)) hi])
      ∧ (8 ≤ d.toNat → clockPuts d v = [.out (BitVec.ofNat 3 (d.toNat - 8)) [⟨lo, Tag.data⟩, ⟨hi, Tag.last⟩]]))
  ∧ (∀ (s : State) (el id : Nat) (p : Pend), (s.elem el).pend? id = some p → p.job = .clock → s.behind el id = false →
      ((s.elem el).firstJob id (fun j => j == .clock) = true → exec (.clockRead el id) s = .next (s.setElem el
        ((s.elem el).answer id (clockPuts p.dst (s.cycleOf (regionOfElem el))) (flitDelay (tileOfElem el) (etileOf (regionOfElem el))))))
      ∧ ((s.elem el).firstJob id (fun j => j == .clock) = false → exec (.clockRead el id) s = .next s))
  ∧ (∀ (s : State) (el rule : Nat) (x : In) (d a sl : BitVec 5) (r : BitVec 4),
      let q := rq d (some a) none 0 0 1
      let unit := s.unitOfSlot (s.taskOfElem el) sl.toNat
      s.armed el rule q x → (s.elem el).portRoom rule (deliver d Tag.data x.a.data) = true →
      (unit = none → exec (.xctl d a sl r) s = .next (s.abortWith el rule 0x02 x))
      ∧ (∀ k u, unit = some (k, u) → u.writable r x.a.data = false → exec (.xctl d a sl r) s = .next (s.abortWith el rule 0x02 x))
      ∧ (∀ k u, unit = some (k, u) → u.writable r x.a.data = true → exec (.xctl d a sl r) s = .next
          (s.setElem el (((s.elem el).issuePort rule q (deliver d Tag.data x.a.data) (.xctl k r x.a.data false) true).delay
            (s.elem el).nextId (flitDelay (tileOfElem el) (k / 64))))))
  ∧ (∀ (s : State) (el rule : Nat) (x : In) (d sl : BitVec 5) (r : BitVec 4),
      let unit := s.unitOfSlot (s.taskOfElem el) sl.toNat
      s.armed el rule (rq 24 none none 0 0 1) x → (s.elem el).portRoom rule (deliver d Tag.data 0) = true →
      (unit = none → exec (.xstat d sl r) s = .next (s.abortWith el rule 0x02 x))
      ∧ (∀ k u, unit = some (k, u) → u.reg r = none → exec (.xstat d sl r) s = .next (s.abortWith el rule 0x02 x))
      ∧ (∀ k u v, unit = some (k, u) → u.reg r = some v → exec (.xstat d sl r) s = .next
          (s.setElem el (((s.elem el).issuePort rule (rq d none none 0 0 1) (deliver d Tag.data 0) (.xstat k r) true).delay
            (s.elem el).nextId (flitDelay (tileOfElem el) (k / 64))))))
  ∧ (∀ (s : State) (el id k : Nat) (r : BitVec 4) (p : Pend) (u : SUnit), (s.elem el).pend? id = some p → s.unit? k = some u →
      (s.elem el).firstJob id Job.xmoving = true → s.behind el id = false →
      (∀ v, p.job = .xstat k r → u.reg r = some v →
        exec (.unitRegisterRead el id) s = .next (s.setElem el ((s.elem el).answerWith id (some v) (flitDelay (k / 64) (tileOfElem el)))))
      ∧ (∀ v, p.job = .xctl k r v false → ∃ s', exec (.unitRegisterRead el id) s = .next s'
          ∧ (u.life = .frozen ∨ u.life = .drained → s'.unit? k = some (u.write r v)
              ∧ s'.elem el = ((s.elem el).setJob id (.xctl k r v true)).answerWith id none (flitDelay (k / 64) (tileOfElem el)))
          ∧ (u.life ≠ .frozen → u.life ≠ .drained → s'.unit? k = some { u with xctl := u.xctl ++ [(r, v, some (el, id))] }
              ∧ s'.elem el = (s.elem el).setJob id (.xctl k r v true))))
  ∧ (∀ (s : State) (k : Nat) (u : SUnit) (r : BitVec 4) (v : Word) (w : Option (Nat × Nat))
        (rest : List (BitVec 4 × Word × Option (Nat × Nat))), s.unit? k = some u → u.xctl = (r, v, w) :: rest →
      (u.boundary = false → u.life ≠ .frozen → u.life ≠ .drained → exec (.xctlApply k) s = .next s)
      ∧ (u.boundary = true ∨ u.life = .frozen ∨ u.life = .drained → ∃ s', exec (.xctlApply k) s = .next s'
          ∧ s'.unit? k = some { u.write r v with xctl := rest }
          ∧ (∀ el id, w = some (el, id) → s'.elem el = (s.elem el).answerWith id none (flitDelay (k / 64) (tileOfElem el))) ∧ (w = none → s'.elems = s.elems)))
  ∧ (∀ (u : SUnit) (r : BitVec 4) (v : Word), r.toNat = 15 → (u.write r v).taken = 0 ∧ (u.write r v).emitted = 0
      ∧ (u.write r v).elems = 0 ∧ (u.write r v).payload = u.payload)
  ∧ (∀ (u : SUnit) (r : BitVec 4) (v : Word), 1 ≤ r.toNat → r.toNat ≤ u.payload.length → r.toNat ≤ 8 →
      (u.write r v).payload = u.payload.set (r.toNat - 1) v ∧ (u.write r v).reg r = some v)

/-- R209, R210, R306, R310 to R314: walks. -/
def Obligations.LoupeWalks : Prop :=
  let ended := fun (s : State) (t k status : Nat) (code : Byte) (step : BitVec 16) (rec_ : List Word) (s' : State) =>
    ((s'.loupe t).slot k).st = .returning ∧ ((s'.loupe t).slot k).ret = resultToks status code step rec_
    ∧ ((s'.loupe t).slot k).left = flitDelay t (tileOfElem ((s.loupe t).slot k).el)
    ∧ (∀ j, j < 32 → j ≠ k → (s'.loupe t).slot j = (s.loupe t).slot j) ∧ s'.mem = s.mem ∧ s'.elems = s.elems
  let set := fun (x : WSlot) (d : BitVec 5) (v : Bool) => if 16 ≤ d.toNat ∧ d.toNat < 24 then setPred x.p (d.toNat - 16) v else x.p
  (∀ (s : State) (el rule : Nat) (x : In) (d a b : BitVec 5) (w : BitVec 3),
    let e := s.elem el
    let win := s.window (s.taskOfElem el) w
    s.armed el rule (rq d (some a) (some b) 0 0 1) x → 8 ≤ d.toNat → d.toNat < 16 → e.portUse < 8 →
    1 ≤ (e.ports.outAt (d.toNat - 8)).room → e.roomFor (e.everyCo rule) = true →
    (win.len ≤ x.b.data.toNat → e.life = .running → ∃ e', exec (.walk d a b w) s = .next (s.setElem el e')
      ∧ e'.life = .frozen ∧ e'.fault.code = 0x10 ∧ e'.ports = e.ports)
    ∧ (x.b.data.toNat < win.len → win.r = false → e.life = .running → ∃ e', exec (.walk d a b w) s = .next (s.setElem el e')
      ∧ e'.life = .frozen ∧ e'.fault.code = 0x13 ∧ e'.ports = e.ports)
    ∧ (x.b.data.toNat < win.len → win.r = true → ∃ (e' : Elem) (y : Pend), exec (.walk d a b w) s = .next (s.setElem el e')
      ∧ y.id = e.nextId ∧ y.job = .walkIssue x.a.data x.b.data w ∧ y.port = true
      ∧ e'.pend = (e.pend ++ [y]).map (fun (p : Pend) => if p.id = e.nextId then
        { p with left := flitDelay (tileOfElem el) (etileOf (regionOfElem el)), ends := [BitVec.ofNat 3 (d.toNat - 8)] } else p)
      ∧ (e'.ports.outAt (d.toNat - 8)).walk = true ∧ (e'.ports.outAt (d.toNat - 8)).room = 0
      ∧ e'.d = e.d ∧ e'.p = e.p ∧ (∀ k, k < 8 → (e'.ports.inAt k).buf =
          if (some a = some (BitVec.ofNat 5 (8 + k)) ∨ some b = some (BitVec.ofNat 5 (8 + k))) then (e.ports.inAt k).buf.tail
          else (e.ports.inAt k).buf)))
  ∧ (∀ (s : State) (el id t k : Nat) (p : Pend) (key root : Word) (w : BitVec 3),
      (s.elem el).pend? id = some p → p.job = .walkIssue key root w → s.loupeOf el = some t → s.behind el id = false →
      ((s.loupe t).freeSlot = none → exec (.walkAccept el id) s = .next s)
      ∧ ((s.loupe t).freeSlot = some k → ∃ x, exec (.walkAccept el id) s = .next
            ((s.setElem el ((s.elem el).setJob id .walk)).setSlot t k x)
          ∧ x.ptr = root ∧ x.v.toList = [root, 0, 0, 0] ∧ x.key = key ∧ x.step = 0 ∧ x.p = 0 ∧ x.win = w ∧ x.el = el ∧ x.pend = id
          ∧ x.out = p.ends.headD 0 ∧ x.st = (if (s.loupe t).marked then .saved else .running)))
  ∧ (∀ (s : State) (t k rule : Nat), s.cur = .walk t k rule → k < 32 →
      let x := (s.loupe t).slot k
      let win := s.window x.task x.win
      let reads := fun (i : Instr) (r : WRead) (off n : Nat) (d : BitVec 5) =>
        (x.step = (s.loupe t).limit → ∃ s', exec i s = .next s' ∧ ended s t k 2 0 x.step [] s')
        ∧ (x.step ≠ (s.loupe t).limit → win.len < off + 4 * n → ∃ s', exec i s = .next s' ∧ ended s t k 3 0x10 x.step [] s')
        ∧ (x.step ≠ (s.loupe t).limit → off + 4 * n ≤ win.len → (win.base + off) % 4 ≠ 0 → ∃ s',
            exec i s = .next s' ∧ ended s t k 3 0x11 x.step [] s')
        ∧ (x.step ≠ (s.loupe t).limit → off + 4 * n ≤ win.len → (win.base + off) % 4 = 0 → ∃ l,
            exec i s = .next { s.setSlot t k { x with st := .reading, read := some (r, off, d) } with
              accs := s.accs ++ l, fresh := s.fresh + n }
            ∧ l.map (fun a => (a.va, a.size, a.act, a.src)) =
                (List.range n).map (fun j => (win.base + off + 4 * j, 4, Act.read, Port.walk t k)))
      (∀ d w m, reads (.wrd d w m) (.wrd w) (x.ptr.toNat + 4 * m.toNat) 1 d)
      ∧ (∀ d m, reads (.wptr d m) .wptr (x.ptr.toNat + 4 * m.toNat) 1 d)
      ∧ (∀ d m, reads (.wnext d m) .wnext (x.ptr.toNat + 4 * m.toNat) 1 d)
      ∧ (∀ n : BitVec 4, reads (.wret n) (.wret (n.toNat + 1)) x.ptr.toNat (n.toNat + 1) 24)
      ∧ (∀ d w, exec (.wcmp d w) s = .next (s.setSlot t k { x with p := set x d (decide (x.v[w.toNat] = x.key)) }))
      ∧ (∀ d a w, exec (.whash d a w) s = .next (s.setSlot t k { x with
          v := x.v.set w.toNat (hash x.key (wsrc (s.loupe t) x a)), p := set x d true }))
      ∧ (∃ s', exec .wmiss s = .next s' ∧ ended s t k 1 0 x.step [] s')
      ∧ (∃ s', exec .wfail s = .next s' ∧ ended s t k 4 0 x.step [] s'))
  ∧ (∀ (s : State) (t k : Nat) (vs : List Word), k < 32 →
      let x := (s.loupe t).slot k
      let mine := s.accs.filter (fun a => a.src == Port.walk t k)
      let st := if (s.loupe t).marked then WalkSt.saved else .running
      let s1 := { s with accs := s.accs.filter (fun a => a.src != Port.walk t k) }
      x.st = .reading → mine.map (fun a => a.st) = vs.map AccSt.done → (∀ a ∈ mine, a.left = 0) →
      (∀ wr off d w, x.read = some (.wrd wr, off, d) → vs = [w] → exec (.walkReadReturn t k) s = .next (s1.setSlot t k
          { x with v := x.v.set wr.toNat w, step := x.step + 1, p := set x d true, read := none, st := st }))
      ∧ (∀ r off d w, r = WRead.wptr ∨ (r = WRead.wnext ∧ w ≠ 0) → x.read = some (r, off, d) → vs = [w] →
          exec (.walkReadReturn t k) s = .next (s1.setSlot t k
            { x with ptr := w, step := x.step + 1, p := set x d true, read := none, st := st }))
      ∧ (∀ off d, x.read = some (.wnext, off, d) → vs = [0] → ∃ s',
          exec (.walkReadReturn t k) s = .next s' ∧ ended s t k 1 0 (x.step + 1) [] s')
      ∧ (∀ n off d, x.read = some (.wret n, off, d) → ∃ s',
          exec (.walkReadReturn t k) s = .next s' ∧ ended s t k 0 0 (x.step + 1) vs s'))
  ∧ (∀ (s : State) (t k : Nat) (tok : Token) (rest : List Token), k < 32 →
      let x := (s.loupe t).slot k
      let e := s.elem x.el
      x.st = .returning → x.ret = tok :: rest →
      (2 ≤ (e.ports.outAt x.out.toNat).slots.length → exec (.walkResultDelivery t k) s = .next s)
      ∧ ((e.ports.outAt x.out.toNat).slots.length < 2 → (∀ p, e.pend? x.pend = some p → p.puts = []) →
          ∃ s', exec (.walkResultDelivery t k) s = .next s'
          ∧ ((s'.elem x.el).ports.outAt x.out.toNat).slots = (e.ports.outAt x.out.toNat).slots ++ [.full tok]
          ∧ (rest ≠ [] → (s'.loupe t).slot k = { x with ret := rest } ∧ (s'.elem x.el).pend = e.pend)
          ∧ (rest = [] → (s'.loupe t).slot k = {}
              ∧ ((s'.elem x.el).ports.outAt x.out.toNat).walk = false
              ∧ (s'.elem x.el).pend = e.pend.filter (fun p => p.id != x.pend))))
  ∧ (∀ status code step rec_, (resultToks status code step rec_).length = 1 + rec_.length
      ∧ (∀ j, j < rec_.length → ((resultToks status code step rec_)[j + 1]?).map (fun t => t.data) = some (rec_.getD j 0))
      ∧ (∀ j, j ≤ rec_.length → ((resultToks status code step rec_)[j]?).map (fun t => t.tag) =
          some (if j = rec_.length then Tag.last else Tag.data))
      ∧ (status ≤ 7 → rec_.length ≤ 16 → ∀ h, ((resultToks status code step rec_).head?).map (fun t => t.data) = some h →
          fldN h 29 3 = status ∧ fldN h 24 5 = rec_.length ∧ fldN h 16 8 = code.toNat ∧ fldN h 0 16 = step.toNat))

/-- R253, R260 to R275: one step of each stream unit.
The model's choices among this: the payload of the stop that a Repeater passes on (log 22), steps that need no output room (log 77),
and the separate steps of a Scanner and an Aperture (log 85). -/
def Obligations.StreamUnits : Prop :=
  ∀ (s : State) (k : Nat) (u : SUnit), s.unit? k = some u → u.life = .running → u.marked = false → u.held = false →
    let one := fun (p : Nat) (t : Token) (j : Nat) => if j = p then [t] else []
    let two := fun (x v : Token) (j : Nat) => if j = 0 then [x] else if j = 1 then [v] else []
    let three := fun (c a b : Word) (j : Nat) => if j = 0 then [mkData c] else if j = 1 then [mkData a] else if j = 2 then [mkData b] else []
    let data := fun (p : Nat) (t : Token) => u.head p = some t ∧ (t.tag = Tag.data ∨ t.tag = Tag.last)
    let quiet := s.unitAccs k = []
    (∀ t, u.st = .scan false none → data 0 t → scanKind u = 0 → (u.ports.inAt 0).wired = true →
      UnitActs (.scannerStep k) s k (fun u' => u.Takes u' [0] ∧ u.Sends u' (fun _ => []) ∧ ∃ f, u'.st = .scan false (some f)
        ∧ f.lo = t.data.toNat * (u.pw 1).toNat ∧ f.at_ = f.lo ∧ f.hi = f.lo + (u.pw 1).toNat))
    ∧ (∀ p f, u.st = .scan p (some f) → scanKind u = 0 → u.wired 2 = false → quiet → u.room [0, 1, 2] = true →
      UnitActs (.scannerStep k) s k (fun u' => u.Takes u' []
        ∧ u.Sends u' (two (mkData (Word.ofNat (f.at_ - f.lo))) (mkData (Word.ofNat f.at_)))
        ∧ (f.hi ≤ f.at_ + 1 → u'.st = .scan true none ∧ u'.elems = u.elems + 1)
        ∧ (f.at_ + 1 < f.hi → u'.st = .scan p (some { f with at_ := f.at_ + 1, busy := false }))))
    ∧ (∀ p t, u.st = .scan p none → u.head 0 = some t → 2 ≤ t.tag.toNat → t.tag.toNat ≤ 5 → u.room (List.range 8) = true →
      (u.ports.inAt 0).wired = true →
      UnitActs (.scannerStep k) s k (fun u' => u.Takes u' [0] ∧ u.Sends u' (fun _ => [⟨0, BitVec.ofNat 4 (min (t.tag.toNat + 1) 5)⟩])
        ∧ u'.st = .scan false none))
    ∧ (u.st = .isect → u.room [0, 1, 2] = true → (u.ports.inAt 0).wired = true → (u.ports.inAt 2).wired = true →
        let union := fldN (u.pw 0) 31 1 = 1
        (∀ a b, data 0 a → data 2 b →
          (a.data = b.data → u.has 1 = true → u.has 3 = true → UnitActs (.intersecterStep k) s k (fun u' => u.Takes u' [0, 1, 2, 3]
            ∧ u.Sends u' (three a.data (u.val 1) (u.val 3)) ∧ u'.elems = u.elems + 1))
          ∧ (a.data.toNat < b.data.toNat → u.has 1 = true → UnitActs (.intersecterStep k) s k (fun u' => u.Takes u' [0, 1]
            ∧ u.Sends u' (fun j => if union then three a.data (u.val 1) (u.pw 1) j else [])))
          ∧ (b.data.toNat < a.data.toNat → u.has 3 = true → UnitActs (.intersecterStep k) s k (fun u' => u.Takes u' [2, 3]
            ∧ u.Sends u' (fun j => if union then three b.data (u.pw 1) (u.val 3) j else []))))
        ∧ (∀ a b, u.head 0 = some a → u.head 2 = some b → 2 ≤ a.tag.toNat → a.tag.toNat ≤ 5 → 2 ≤ b.tag.toNat → b.tag.toNat ≤ 5 →
          u.room (List.range 8) = true → u.has 1 = true → u.has 3 = true → UnitActs (.intersecterStep k) s k (fun u' => u.Takes u' [0, 1, 2, 3]
            ∧ u.Sends u' (fun _ => [⟨0, BitVec.ofNat 4 (max a.tag.toNat b.tag.toNat)⟩]))))
    ∧ (∀ buf t c1 c2, u.st = .rep buf none none c1 c2 → u.head 0 = some t → u.has 1 = true → (u.ports.inAt 0).wired = true →
        u.abortAt 2 = false →
        ((t.tag = Tag.data ∨ t.tag = Tag.last) → buf.length < 8191 → UnitActs (.repeaterStep k) s k (fun u' => u.Takes u' [0, 1]
          ∧ u.Sends u' (fun _ => []) ∧ u'.st = .rep (buf ++ [(t.data, u.val 1)]) none none 0 0))
        ∧ (2 ≤ t.tag.toNat → t.tag.toNat ≤ 5 → UnitActs (.repeaterStep k) s k (fun u' => u.Takes u' [0, 1]
          ∧ u.Sends u' (fun _ => []) ∧ u'.st = .rep buf (some (t.data, u.val 1, t.tag)) none 0 0)))
    ∧ (∀ buf c1 c2 t, u.st = .rep buf none none c1 c2 → u.head 2 = some t → t.tag = Tag.abort → u.room (List.range 8) = true →
        (u.ports.inAt 2).wired = true →
        UnitActs (.repeaterStep k) s k (fun u' => u.Takes u' [2] ∧ u.Sends u' (fun _ => [t]) ∧ u'.st = u.st))
    ∧ (∀ buf c t c1 c2, u.st = .rep buf (some c) none c1 c2 → data 2 t → (u.ports.inAt 2).wired = true →
        UnitActs (.repeaterStep k) s k (fun u' => u.Takes u' [2] ∧ u.Sends u' (fun _ => []) ∧ u'.st = .rep buf (some c) (some t.data) 0 0))
    ∧ (∀ buf c n copy entry, u.st = .rep buf (some c) (some n) copy entry → u.room [0, 1] = true →
        (∀ x v, n ≠ 0 → buf[entry]? = some (x, v) → UnitActs (.repeaterStep k) s k (fun u' => u.Takes u' []
          ∧ u.Sends u' (two (mkData x) (mkData v)) ∧ u'.st = .rep buf (some c) (some n) copy (entry + 1)))
        ∧ (buf.length ≤ entry → copy + 1 < n.toNat → UnitActs (.repeaterStep k) s k (fun u' => u.Takes u' []
          ∧ u.Sends u' (two (mkStop (repSep u)) (mkStop (repSep u))) ∧ u'.st = .rep buf (some c) (some n) (copy + 1) 0))
        ∧ ((n = 0 ∨ buf.length ≤ entry) → n.toNat ≤ copy + 1 → UnitActs (.repeaterStep k) s k (fun u' => u.Takes u' []
          ∧ u.Sends u' (two ⟨c.1, c.2.2⟩ ⟨c.2.1, c.2.2⟩) ∧ u'.st = .rep [] none none 0 0)))
    ∧ (∀ acc t, u.st = .red acc none → u.head 0 = some t → u.has 1 = true → (u.ports.inAt 0).wired = true →
        ((t.tag = Tag.data ∨ t.tag = Tag.last) → (t.data - u.pw 1).toNat < 4096 →
          UnitActs (.reducerStep k) s k (fun u' => u.Takes u' [0, 1] ∧ u.Sends u' (fun _ => []) ∧ ∃ acc', u'.st = .red acc' none
            ∧ (∀ j, j ≠ (t.data - u.pw 1).toNat → Table.get? acc' j = Table.get? acc j)
            ∧ (Table.get? acc (t.data - u.pw 1).toNat = none → Table.get? acc' (t.data - u.pw 1).toNat = some (u.val 1))
            ∧ (∀ old, Table.get? acc (t.data - u.pw 1).toNat = some old → fldN (u.pw 0) 31 1 = 1 →
                Table.get? acc' (t.data - u.pw 1).toNat = some (old + u.val 1))
            ∧ (∀ old, Table.get? acc (t.data - u.pw 1).toNat = some old → fldN (u.pw 0) 31 1 = 0 → ∃ v f n,
                Table.get? acc' (t.data - u.pw 1).toNat = some v ∧ SumOf (fp32.value old.toNat) (fp32.value (u.val 1).toNat) v f n)))
        ∧ (2 ≤ t.tag.toNat → t.tag.toNat ≤ 5 → u.room [0, 1] = false → exec (.reducerStep k) s = .next s)
        ∧ (2 ≤ t.tag.toNat → t.tag.toNat ≤ 5 → u.room [0, 1] = true → UnitActs (.reducerStep k) s k (fun u' => u.Takes u' [0, 1]
            ∧ u.Sends u' (fun _ => [])
            ∧ u'.st = .red acc (if t.tag.toNat - 1 < redLevel u then none else some (t.tag.toNat - 2)))))
    ∧ (u.room [0, 1] = true →
        (∀ j v rest lv, u.st = .red ((j, v) :: rest) (some lv) → UnitActs (.reducerFlush k) s k (fun u' => u.Takes u' []
          ∧ u.Sends u' (two (mkData (u.pw 1 + Word.ofNat j)) (mkData v)) ∧ u'.st = .red rest (some lv)))
        ∧ (∀ lv, 0 < lv → u.st = .red [] (some lv) → UnitActs (.reducerFlush k) s k (fun u' => u.Takes u' []
          ∧ u.Sends u' (two (mkStop lv) (mkStop lv)) ∧ u'.st = .red [] none)))
    ∧ (∀ g b left held, u.st = .nm g (b :: left) held → left ≠ [] → u.room [0] = true → (u.ports.inAt 0).wired = true →
        UnitActs (.nmDecoderStep k) s k (fun u' => u.Takes u' (if b then [0] else [])
          ∧ u.Sends u' (one 0 (mkData (if b then u.val 0 else u.pw 1))) ∧ u'.st = .nm g left held))
    ∧ (∀ g m ps, u.st = .nm g [] false → data 1 m → fldN (u.pw 0) 0 2 = 0 → ps = [m.data.toNat / 2 ^ (4 * g) % 2 ^ 4 % 4] →
        m.data.toNat / 2 ^ (4 * g) % 2 ^ 4 < 4 → (∃ v, data 0 v) →
        UnitActs (.nmDecoderStep k) s k (fun u' => u.Takes u' [] ∧ u.Sends u' (fun _ => [])
          ∧ u'.st = .nm g [ps.contains 0, ps.contains 1, ps.contains 2, ps.contains 3] false))
    ∧ (∀ g m t, u.st = .nm g [] false → data 1 m → u.head 0 = some t → 2 ≤ t.tag.toNat → t.tag.toNat ≤ 5 → (u.ports.inAt 1).wired = true →
        (u.room [0] = false → exec (.nmDecoderStep k) s = .next s)
        ∧ (u.room [0] = true → UnitActs (.nmDecoderStep k) s k (fun u' => u.Takes u' [1] ∧ u.Sends u' (fun _ => [])
            ∧ u'.st = .nm 0 [] false ∧ u'.elems = u.elems + 1)))
    ∧ (∀ pix taken n j t, u.st = .aper pix taken n j none → data 0 t → (u.ports.inAt 0).wired = true →
        (u.room [0] = false ∨ u.aperEmit = none) → pix.length < 32768 → pix.length ≤ taken → ∃ kept,
        UnitActs (.apertureStep k) s k (fun u' => u.Takes u' [0] ∧ u.Sends u' (fun _ => [])
          ∧ u'.st = .aper (kept ++ [t.data]) (taken + 1) n j none) ∧ kept <:+ pix)
    ∧ (∀ pix taken n j, u.st = .aper pix taken n j none → u.room [0] = true →
        let a := aperOf (u.pw 0)
        j < a.kh * a.kw → a.index n (a.kh * a.kw - 1) < taken →
        UnitActs (.apertureStep k) s k (fun u' => u.Takes u' []
          ∧ u.Sends u' (one 0 (mkData (pix.getD (a.index n j - (taken - pix.length)) 0))) ∧ u'.st = .aper pix taken n (j + 1) none))
    ∧ (∀ rings rr t, u.st = .split none false none 0 rings none none rr → quiet → data 0 t → fldN t.data 0 3 ≤ fldN (u.pw 0) 0 3 →
        fldN (u.pw 0) 31 1 = 0 →
        UnitActs (.splitterStep k) s k (fun u' => u.Takes u' [] ∧ u.Sends u' (fun _ => [])
          ∧ u'.st = .split (some (fldN t.data 0 3, 0)) false none 0 rings none none rr))
    ∧ (∀ tg n granted rings rr t, u.st = .split (some (tg, n)) granted none 0 rings none none rr → quiet → data 0 t → n < 256 →
        tg < 8 → u.room [tg] = true → (u.ports.inAt 0).wired = true →
        UnitActs (.splitterStep k) s k (fun u' => u.Takes u' [0] ∧ u.Sends u' (one tg t)
          ∧ u'.st = (if t.tag = Tag.last then .split none false none 0 rings none none rr
              else .split (some (tg, n + 1)) granted none 0 rings none none rr)))
    ∧ (∀ rings rr w t, u.st = .split none false none (w + 1) rings none none rr → u.head 0 = some t →
        let win := s.unitWin k (fldN (u.pw 0) 8 3)
        let off := (u.pw 1).toNat + 4 * fldN t.data 0 3
        unitCheck win win.a off 4 = 0 → ∃ s' a, exec (.splitterSlotRetry k) s = .next s' ∧ s'.accs = s.accs ++ [a]
          ∧ a.va = win.base + off ∧ a.size = 4 ∧ a.act = .atomic 0xB8 1 0 ∧ a.src = .unit k
          ∧ s'.unit? k = some { u with st := .split none false (some s.fresh) 0 rings none none rr })
    ∧ (∀ granted ask w rings tg l rd rr t, u.st = .split none granted ask w rings (some (tg, l)) rd rr → u.head 0 = some t →
        (u.ports.inAt 0).wired = true → l.length < 256 →
        (t.tag = Tag.data → UnitActs (.splitterSpillWrite k) s k (fun u' => u.Takes u' [0] ∧ u.Sends u' (fun _ => [])
          ∧ u'.st = .split none false none 0 rings (some (tg, l ++ [t.data])) none rr))
        ∧ (t.tag = Tag.last →
          let win := s.unitWin k (fldN (u.pw 0) 4 3)
          let off := ringOff u tg (ringOf rings tg).2.1
          (unitCheck win win.w off 4 ≠ 0 → exec (.splitterSpillWrite k) s = .next
            (s.unitFreeze k (unitCheck win win.w off 4) 0 (some (win.base + off)) off))
          ∧ (unitCheck win win.w off 4 = 0 → off + 4 + 4 * (l.length + 1) ≤ win.len → tg < 8 → ∃ s' l', exec (.splitterSpillWrite k) s = .next s'
            ∧ (∀ a ∈ l', a.posted = true ∧ a.src = .root k s.fresh ∧ a.size = 4)
            ∧ s'.accs = s.accs ++ l' ∧ l'.map (fun a => a.va) = (List.range (l.length + 2)).map (fun j => win.base + (off + 4 * j))
            ∧ l'.map (fun a => a.act) = Act.write (Word.ofNat (l.length + 1)) :: (l ++ [t.data]).map Act.write
            ∧ ∃ u' rings', s'.unit? k = some u' ∧ u'.st = .split none false none 0 rings' none none rr
              ∧ ringOf rings' tg = ((ringOf rings tg).1, ((ringOf rings tg).2.1 + 1) % splitCap u, (ringOf rings tg).2.2 + 1))))
    ∧ (∀ rings rr tg, u.st = .split none false none 0 rings none none rr → quiet → nextRing rings rr = some tg →
        let win := s.unitWin k (fldN (u.pw 0) 8 3)
        let off := (u.pw 1).toNat + 4 * tg
        unitCheck win win.a off 4 = 0 → ∃ s' a, exec (.splitterSpillRead k) s = .next s' ∧ s'.accs = s.accs ++ [a]
          ∧ a.va = win.base + off ∧ a.act = .atomic 0xB8 1 0
          ∧ s'.unit? k = some { u with st := .split none false (some s.fresh) 0 rings none (some (tg, 0, [])) tg })
    ∧ (∀ rings rr tg n w ws, u.st = .split none false none 0 rings none (some (tg, n, w :: ws)) rr → quiet → tg < 8 → u.room [tg] = true →
        UnitActs (.splitterSpillRead k) s k (fun u' => u.Takes u' []
          ∧ u.Sends u' (one tg ⟨w, if ws = [] then Tag.last else Tag.data⟩)))
    ∧ (∀ rr p t, u.st = .coll [] [] rr → p = (rr + 1) % 8 → (u.ports.inAt p).wired = true → data p t → u.room [0] = true →
        fld t.data 16 16 = (fld u.hold 0 16 : BitVec 16) →
        UnitActs (.collimatorStep k) s k (fun u' => u.Takes u' [p] ∧ u.Sends u' (one 0 t)
          ∧ (t.tag = Tag.last → fld u'.hold 0 16 = (fld u.hold 0 16 + 1 : BitVec 16) ∧ u'.st = .coll [] [] p)
          ∧ (t.tag ≠ Tag.last → u'.hold = u.hold ∧ u'.st = .coll [] [(p, fld u.hold 0 16, false, 1)] p)))
    ∧ (∀ rr p t t0 t1 ts,
        let nx : BitVec 16 := fld u.hold 0 16
        let seq : BitVec 16 := fld t.data 16 16
        u.st = .coll [(nx, true, t0 :: t1 :: ts)] [] rr → p = (rr + 1) % 8 → (u.ports.inAt p).wired = true → data p t → u.room [0] = true →
        ts.length < 4095 → seq ≠ nx → (seq - nx).toNat < 256 →
        UnitActs (.collimatorStep k) s k (fun u' => u.Takes u' [p] ∧ u.Sends u' (one 0 t0) ∧ u'.hold = u.hold
          ∧ u'.st = .coll [(nx, true, t1 :: ts), (seq, t.tag == Tag.last, [t])]
              (if t.tag = Tag.last then [] else [(p, seq, true, 1)]) p))

/-- R21, R56 to R59, R72, R86 to R89, R258, R277 to R279, R331: what nodes do besides their rules.
The model's choices among this: which operations and nodes MARK and DRAIN wait for, and a codec without a whey node (log 61), a
whey group that waits for room (logs 18, 62), and the rules that hold DRAIN (log 78). -/
def Obligations.NodeEvents : Prop :=
  (∀ (s : State) (ch : Nat) (c : Channel) (m : Moving) (rest : List Moving),
    let reg := regionOfTile c.dst.tile
    let i := (s.ports c.dst.tile c.dst.unit).inAt c.dst.port
    Table.get? s.chans ch = some c → c.moving = m :: rest →
    (m.left ≠ 0 → exec (.tokenArrival ch) s = .next s)
    ∧ (m.left = 0 → m.gen ≠ (s.region reg).chgen → exec (.tokenArrival ch) s = .next
        { s.setRegion reg { s.region reg with flushcnt := satAdd (s.region reg).flushcnt 1 } with
          chans := Table.put s.chans ch { c with moving := rest } })
    ∧ (m.left = 0 → m.gen = (s.region reg).chgen → (s.region reg).st = .free ∨ (s.region reg).st = .fenced →
        exec (.tokenArrival ch) s = .next { s with chans := Table.put s.chans ch { c with moving := rest } })
    ∧ (m.left = 0 → m.gen = (s.region reg).chgen → (s.region reg).st ≠ .free → (s.region reg).st ≠ .fenced → c.ctl = true →
        let j := (s.ports c.dst.tile c.dst.unit).cinAt c.dst.port
        (j.room = 0 → exec (.tokenArrival ch) s = .next s)
        ∧ (1 ≤ j.room → kindOfTile c.dst.tile = .c → ∃ s', exec (.tokenArrival ch) s = .next s'
          ∧ Table.get? s'.chans ch = some { c with moving := rest }
          ∧ (c.dst.port < 4 → ((s'.ports c.dst.tile c.dst.unit).cinAt c.dst.port).held = j.held + 1)))
    ∧ (m.left = 0 → m.gen = (s.region reg).chgen → (s.region reg).st ≠ .free → (s.region reg).st ≠ .fenced → c.ctl = false → c.back = false →
        i.room = 0 → exec (.tokenArrival ch) s = .next s)
    ∧ (m.left = 0 → m.gen = (s.region reg).chgen → (s.region reg).st ≠ .free → (s.region reg).st ≠ .fenced → c.ctl = false → c.back = true →
        s.lifeAt c.dst = .marked → kindOfTile c.dst.tile = .c → ∃ s', exec (.tokenArrival ch) s = .next s'
          ∧ Table.get? s'.chans ch = some { c with moving := rest }
          ∧ (c.dst.port < 8 → ((s'.ports c.dst.tile c.dst.unit).inAt c.dst.port).saved = i.saved ++ [m.tok]
              ∧ ((s'.ports c.dst.tile c.dst.unit).inAt c.dst.port).buf = i.buf))
    ∧ (m.left = 0 → m.gen = (s.region reg).chgen → (s.region reg).st ≠ .free → (s.region reg).st ≠ .fenced → c.ctl = false → c.back = false →
        1 ≤ i.room → kindOfTile c.dst.tile = .c → ∃ s',
        exec (.tokenArrival ch) s = .next s' ∧ Table.get? s'.chans ch = some { c with moving := rest }
        ∧ (∀ k, k < 8 → ((s'.ports c.dst.tile c.dst.unit).inAt k).buf = ((s.ports c.dst.tile c.dst.unit).inAt k).buf
            ++ (if k = c.dst.port % 8 then [m.tok] else []))))
  ∧ (∀ (s : State) (el rule : Nat), (h : rule < 16) → (s.elem el).life = .running →
      ((s.elem el).wait[rule] = 14 → exec (.ruleUrgent el rule) s = .next (s.setElem el { s.elem el with
        wait := (s.elem el).wait.set rule 15 }))
      ∧ ((s.elem el).wait[rule] ≠ 14 → exec (.ruleUrgent el rule) s = .next s))
  ∧ (∀ (s : State) (el : Nat), (s.elem el).life = .halted → ∃ e', exec (.haltedDiscard el) s = .next (s.setElem el e')
      ∧ (∀ k, k < 8 → (e'.ports.inAt k).buf = if (s.elem el).headTok k = none then ((s.elem el).ports.inAt k).buf
          else ((s.elem el).ports.inAt k).buf.tail)
      ∧ (∀ k, k < 4 → (e'.ports.cinAt k).held = ((s.elem el).ports.cinAt k).held - 1)
      ∧ e'.d = (s.elem el).d ∧ e'.life = .halted ∧ e'.ports.outs = (s.elem el).ports.outs
      ∧ e'.disc.toNat = min 65535 ((s.elem el).disc.toNat
          + ((List.range 8).filter (fun k => ((s.elem el).headTok k).isSome)).length
          + ((List.range 4).filter (fun k => decide (0 < ((s.elem el).ports.cinAt k).held))).length))
  ∧ (∀ (s : State) (el : Nat),
      let e := s.elem el
      let sent := fun (e' : Elem) (t : Tag) => ∀ k, k < 8 → (e'.ports.outAt k).slots = (e.ports.outAt k).slots
        ++ (if (e.ports.outAt k).wired = true ∧ (e.ports.outAt k).slots.length < 2 then [.full ⟨0, t⟩] else [])
      (e.life = .running → e.markSent = false → ¬ (s.markHeads el = true ∧ e.settledPend = true) →
        exec (.elementMark el) s = .next s)
      ∧ (e.life = .running → e.markSent = false → s.markHeads el = true → e.settledPend = true → ∃ s',
          exec (.elementMark el) s = .next s' ∧ (s'.elem el).life = .marked ∧ (s'.elem el).markSent = true
          ∧ (s'.elem el).d = e.d ∧ (s'.elem el).p = e.p ∧ (s'.elem el).ports.ins = e.ports.ins ∧ (s'.elem el).pend = e.pend
          ∧ (∀ w ∈ s'.waiters, w.el ≠ el)
          ∧ ((∀ w ∈ s.waiters, w.el ≠ el) → sent (s'.elem el) Tag.mark))
      ∧ ((e.life = .running ∨ e.life = .halted) → e.drainOk = false → exec (.elementDrainForward el) s = .next s)
      ∧ ((e.life = .running ∨ e.life = .halted) → e.drainOk = true → ∃ e', exec (.elementDrainForward el) s = .next (s.setElem el e')
          ∧ e'.life = .drained ∧ e'.d = e.d ∧ e'.ports.ins = e.ports.ins
          ∧ (∀ k, k < 8 → (e.ports.outAt k).wired = true → (e'.ports.outAt k).slots = (e.ports.outAt k).slots ++ [.full ⟨0, Tag.drain⟩])
          ∧ (e.wheyOn = true → let all := (e.stats.add e.now).add e.due
              e'.stats = {} ∧ e'.now = {} ∧ e'.due = {} ∧ e'.whey.map (fun (t : WheyTok) => t.data.toNat) =
              [all.sat.toNat, all.nan.toNat, all.inf.toNat, all.flush.toNat]
              ∧ e'.whey.map (fun (t : WheyTok) => t.level) = [0, 0, 0, 0xF])))
  ∧ (∀ (s : State) (k : Nat) (u : SUnit), s.unit? k = some u → u.life = .running → u.ins ≠ [] →
      let sends := fun (u' : SUnit) (t : Tag) => u.Takes u' [] ∧ ∀ j, j < 8 → (u'.ports.outAt j).slots = (u.ports.outAt j).slots
        ++ (if u.wired j = true ∧ 1 ≤ (u.ports.outAt j).room then [.full ⟨0, t⟩] else [])
      (u.marked = false → u.markSent = false → exec (.unitMark k) s = .next s)
      ∧ (u.marked = true → u.asking = false → UnitActs (.unitMark k) s k (fun u' => u'.life = .marked ∧ u'.markSent = true
          ∧ u'.st = u.st ∧ sends u' Tag.mark))
      ∧ (u.idle = false → exec (.unitDrain k) s = .next s)
      ∧ (u.drainHeads = true → u.idle = true → s.unitAccs k = [] → UnitActs (.unitDrain k) s k (fun u' => u'.life = .drained
          ∧ u'.st = u.st ∧ sends u' Tag.drain)))
  ∧ (∀ (s : State) (k : Nat) (u : SUnit) (ins : List (List WheyTok)) (seq : BitVec 16), s.unit? k = some u → u.life = .running →
      (u.st = .whey ins seq none → (∃ l ∈ ins, l.length < 4) → exec (.wheyAdderStep k) s = .next s)
      ∧ (u.st = .whey ins seq none → (∀ l ∈ ins, 4 ≤ l.length) → u.whey = [] → ∃ sums : List Word, sums.length = 4
          ∧ (∀ j, j < 4 → (sums.getD j 0).toNat = min (2 ^ 32 - 1) ((ins.map (fun l => ((l.map (fun (t : WheyTok) => t.data)).getD j 0).toNat)).sum))
          ∧ (wheyRoot u = false → u.wheyOn = true → UnitActs (.wheyAdderStep k) s k (fun u' =>
              u'.st = .whey (ins.map (fun l => l.drop 4)) seq none ∧ u'.whey.map (fun t => t.data) = sums))
          ∧ (wheyRoot u = true → UnitActs (.wheyAdderStep k) s k (fun u' =>
              ∃ level, u'.st = .whey (ins.map (fun l => l.drop 4)) seq (some (sums, level)))))
      ∧ (∀ sums level, u.st = .whey ins seq (some (sums, level)) → sums.length = 4 →
          let nin := fldN (u.pw 0) 0 2 + 1
          let win := s.unitWin k (fldN (u.pw 0) 8 3)
          let off := (u.pw (nin + 1)).toNat + 32 * (seq.toNat % (fldN (u.pw (nin + 2)) 0 16 + 1))
          off + 32 ≤ win.len → (win.base + off) % 4 = 0 → win.w = true → ∃ s' l, exec (.wheyRootWrite k) s = .next s'
            ∧ s'.accs = s.accs ++ l ∧ l.map (fun a => (a.va, a.size)) = (List.range 8).map (fun j => (win.base + (off + 4 * j), 4))
            ∧ (l.map (fun a => a.act)).take 4 = sums.map Act.write
            ∧ s'.unit? k = some { u with st := .whey ins (seq + 1) none }))
  ∧ (∀ (s : State) (k : Nat) (u : SUnit) (st : Stats 32) (level : BitVec 4) (fin : Bool), s.unit? k = some u →
      let told := fun (u' : SUnit) (l : BitVec 4) =>
        (u.wheyOn = true → u'.whey.map (fun t => t.data) = [st.sat, st.nan, st.inf, st.flush] ∧ u'.whey.map (fun t => t.level) = [0, 0, 0, l])
        ∧ (u.wheyOn = false → u'.whey = [])
      (u.st = .brine st (some level) fin → u.whey ≠ [] → exec (.brineWheyEmit k) s = .next s)
      ∧ (u.st = .brine st (some level) fin → u.whey = [] → UnitActs (.brineWheyEmit k) s k (fun u' =>
          u'.st = .brine {} none fin ∧ told u' level))
      ∧ (u.st = .brine st none false → u.whey = [] → u.life = .running →
          (∀ t, t < 16 → ((s.copyEng (tileAt (regionOfTile (k / 64)) t)).on = false
            ∨ (s.copyEng (tileAt (regionOfTile (k / 64)) t)).life = .drained) ∧ (s.copyEng (tileAt (regionOfTile (k / 64)) t)).flights = []) →
          UnitActs (.brineWheyEmit k) s k (fun u' => u'.st = .brine {} none true ∧ u'.life = .drained ∧ told u' 0xF)))

/-- R24, R69 to R73, R88, R207, R333, R428: the choice of the Prism and the round. The model's choices among this: the rules that hold
DRAIN (log 78) and that an element waits whole in a withheld round (log 79). -/
def Obligations.RoundPrism : Prop :=
  (∀ (e : Elem) (ready : Nat → Bool),
    let fired := e.prism ready
    let lane := fun k => laneOf (opcOf (e.actOf k))
    let press := fun k => pressOp (opcOf (e.actOf k))
    let room := fun k => (fired.filter (fun j => lane j == lane k)).length < (lane k).cap
    let urgent := fun k : Nat => (e.wait[k % 16]'(Nat.mod_lt _ (by decide))) = 15
    let cls := fun k => fldN (e.guardOf k) 2 2
    let far := fun k : Nat => (k + 16 - e.rot.toNat) % 16
    fired.Pairwise (fun j k => j < k ∧ compatible (e.foot j) (e.foot k) = true ∧ ¬ (press j = true ∧ press k = true))
    ∧ (∀ k ∈ fired, k < 16 ∧ ready k = true)
    ∧ (∀ k ∈ fired, (fired.filter (fun j => lane j == lane k)).length ≤ (lane k).cap)
    ∧ (∀ k, k < 16 → ready k = true → k ∉ fired → room k →
        (∃ j ∈ fired, compatible (e.foot (min j k)) (e.foot (max j k)) = false) ∨ (press k = true ∧ ∃ j ∈ fired, press j = true))
    ∧ (∀ k, k < 16 → ready k = true →
        (∀ j, j < 16 → j ≠ k → ready j = true →
          (urgent k ∧ ¬ urgent j) ∨ ((urgent k ↔ urgent j) ∧ ((¬ urgent k ∧ cls k < cls j) ∨ ((urgent k ∨ cls k = cls j) ∧ far k < far j)))) →
        k ∈ fired)
    ∧ (e.turned ready fired).rot = e.rot + 1
    ∧ (∀ k, (h : k < 16) → (e.turned ready fired).wait[k] =
        if ready k = true ∧ k ∉ fired then (if e.wait[k] = 15 then 15 else e.wait[k] + 1) else 0)
    ∧ (e.turned ready fired).d = e.d ∧ (e.turned ready fired).ports = e.ports ∧ (e.turned ready fired).life = e.life)
  ∧ (∀ (s : State) (el : Nat) (w : Bool),
      let alu := ∃ k ∈ (s.elem el).prism (s.readySet el), laneOf (opcOf ((s.elem el).actOf k)) = .alu
      ((s.elem el).life ≠ .running → s.select el w = ([], s.elem el))
      ∧ ((s.elem el).life = .running → s.lets (regionOfElem el) = true → (s.select el w).2.rot = (s.elem el).rot + 1)
      ∧ ((s.elem el).barred = true → (s.select el w).1 = [] ∧ (s.select el w).2.wait = (s.elem el).wait)
      ∧ ((s.misreads el = true ∨ s.stopped el = true) → (s.select el w).1 = []
          ∧ ((s.elem el).life = .running → s.lets (regionOfElem el) = true → (s.elem el).barred = false →
              (s.select el w).2 = (s.elem el).turned (s.readySet el) []))
      ∧ ((s.elem el).life = .running → s.lets (regionOfElem el) = true → s.misreads el = false → (s.elem el).barred = false →
          s.stopped el = false →
          ((w = false ∨ ¬ alu) → (s.select el w).1 = (s.elem el).prism (s.readySet el))
          ∧ (w = true → alu → (s.select el w).1 = [] ∧ (s.select el w).2.wait = (s.elem el).wait)))
  ∧ (∀ s : State, ∃ s', exec .round s = .next s'
      ∧ ∀ r, r < 64 → (s.region r).awake = true → (s'.region r).cycle = (s.region r).cycle + 1 ∧ (s'.region r).awake = true)

/-- R321, R322, R328 to R330, R332 to R334, R336, R339, R349, R353, R435: what region controllers do.
The model's choices among this: MARK counted by a sink (log 20), the RESUME of a node that has passed MARK (log 24), arguments read
in the placing step (log 41), and the place that a load fault names (log 45). -/
def Obligations.RegionEvents : Prop :=
  (∀ (s : State) (task : Nat) (t : Task), s.task? task = some t →
    let i := Instr.imageLoad task
    let sp : Span := (t.row, t.col, t.rows, t.cols)
    let fails := fun (c : Byte) (place : Option FaultAt) => ∃ s', exec i s = .next s'
      ∧ s'.task? task = some { t with ending := some (.faulted, c), loadAt := place }
      ∧ ∀ r ∈ t.regions, (s'.region r).st = .free
    let runs := fun (s' : State) => (∃ g, ∀ r ∈ t.regions, (s'.region r).chgen = g) ∧ ∀ r ∈ t.regions, (s'.region r).placed = true
      ∧ (s'.region r).st = (if s'.anyFrozen r = true then .frozen else .active) ∧ (s'.region r).sign = s'.signature r
    ((t.st ≠ .loading ∨ t.ending ≠ none ∨ t.final ≠ none ∨ ∃ r ∈ t.regions, s.owns task r = false) → exec i s = .next s)
    ∧ (t.st = .loading → t.ending = none → t.final = none → (∀ r ∈ t.regions, s.owns task r = true) →
        (∀ s1 c, s.imageWords t = (s1, .error c) → fails c none)
        ∧ (∀ s1 ws, s.imageWords t = (s1, .ok ws) →
            (parseImage t.rows t.cols ws = none → fails 0x02 (some (parseAt t.rows t.cols ws)))
            ∧ (∀ im, parseImage t.rows t.cols ws = some im →
                (∀ c place, imageFault sp (recArglen t.record) im = some (c, place) → fails c (some place))
                ∧ (imageFault sp (recArglen t.record) im = none →
                    (∀ ref, t.save = some ref → s1.readSave t.ctx ref.units = none → fails 0x70 none)
                    ∧ (∀ ref v, t.save = some ref → s1.readSave t.ctx ref.units = some v → v.version ≠ 1 → fails 0x02 none)
                    ∧ (∀ ref v, t.save = some ref → s1.readSave t.ctx ref.units = some v → v.version = 1 → ∃ s' t', exec i s = .next s'
                        ∧ s'.task? task = some t' ∧ t'.st = .running
                        ∧ t'.save = none ∧ t'.wins = t.wins ∧ t'.record = t.record ∧ runs s')
                    ∧ (∀ s2 c, t.save = none → s1.readVaWords t.ctx (recArgva t.record) (recArglen t.record) = (s2, .error c) → fails c none)
                    ∧ (∀ s2 args, t.save = none → s1.readVaWords t.ctx (recArgva t.record) (recArglen t.record) = (s2, .ok args) →
                        ∃ s', exec i s = .next s'
                          ∧ s'.task? task = some { t with
                              wins := windowsOf im args, st := .running, save := none, drainIn := false, expire := (s.ctx t.ctx).st == .quiescing
                              quantum := if recQuantum t.record = 0 then none else some (2250 * recQuantum t.record) }
                          ∧ runs s'
                          ∧ (s'.ctx t.ctx).meas = if s.sec.measmask.getLsbD t.ctx = true then
                              Config.sm3 (bytesBE 32 (s.ctx t.ctx).meas.toNat ++ bytesLE 8 (imageId ws).toNat
                                ++ bytesBE 32 (Config.sm3 (ws.flatMap wordBytes)).toNat)
                              else (s.ctx t.ctx).meas))))))
  ∧ (∀ (s : State) (region src : Nat) (x : Source), (s.region region).sources[src]? = some x →
      (kindOfTile x.dst.tile = .c ∨ (s.unit? (x.dst.tile * 64 + x.dst.unit)).isSome = true) →
      let i := Instr.sourceInject region src
      let room := ((s.ports x.dst.tile x.dst.unit).inAt x.dst.port).room
      let enters := fun (t : Token) (x' : Source) => ∃ s', exec i s = .next s'
        ∧ (∀ k, k < 8 → ((s'.ports x.dst.tile x.dst.unit).inAt k).buf = ((s.ports x.dst.tile x.dst.unit).inAt k).buf
            ++ (if k = x.dst.port % 8 then [t] else []))
        ∧ (s'.region region).sources[src]? = some x'
      (room = 0 → exec i s = .next s)
      ∧ ((((s.region region).st ≠ .active ∧ (s.region region).st ≠ .frozen ∧ (s.region region).st ≠ .draining) ∨ x.drained = true
          ∨ x.marked = true) → exec i s = .next s)
      ∧ (1 ≤ room → ((s.region region).st = .active ∨ (s.region region).st = .frozen ∨ (s.region region).st = .draining) → x.drained = false → x.marked = false →
          (x.words = [] → enters ⟨0, Tag.drain⟩ { x with drained := true }
            ∧ ∀ t s', s.task? (s.taskOfRegion region) = some t → exec i s = .next s' →
                s'.task? (s.taskOfRegion region) = some { t with drainIn := true })
          ∧ (∀ w, x.words = [w] → enters ⟨w, Tag.last⟩ { x with words := [] })
          ∧ (∀ w w' rest, x.words = w :: w' :: rest → enters ⟨w, Tag.data⟩ { x with words := w' :: rest })))
  ∧ (∀ (s : State) (region sink : Nat) (x : Sink), (s.region region).sinks[sink]? = some x →
      (kindOfTile x.frm.tile = .c ∨ (s.unit? (x.frm.tile * 64 + x.frm.unit)).isSome = true) →
      let o := (s.ports x.frm.tile x.frm.unit).outAt x.frm.port
      ((o.head = none ∨ x.drained = true) → exec (.sinkTake region sink) s = .next s)
      ∧ (∀ t, o.head = some t → x.drained = false → ∃ s', exec (.sinkTake region sink) s = .next s'
          ∧ (∀ k, k < 8 → ((s'.ports x.frm.tile x.frm.unit).outAt k).slots =
              if k = x.frm.port % 8 then o.slots.tail else ((s.ports x.frm.tile x.frm.unit).outAt k).slots)
          ∧ (s'.region region).sinkcnt.toNat = min (2 ^ 32 - 1) ((s.region region).sinkcnt.toNat + 1)
          ∧ (s'.region region).sinks[sink]? = some { x with drained := t.tag == Tag.drain, marked := x.marked || t.tag == Tag.mark }))
  ∧ (∀ (s : State) (region : Nat),
      let r := s.region region
      let i := Instr.regionDrainComplete region
      ((r.st ≠ .draining ∨ r.cfgbad = true ∨ s.enginesIdle region = false ∨ s.sentOut region = false ∨ s.outstanding region = true) →
        exec i s = .next s)
      ∧ (r.st = .draining → r.cfgbad = false → s.enginesIdle region = true → s.sentOut region = true → s.outstanding region = false →
          ∃ s', exec i s = .next s' ∧ (s'.region region).freed = s.round
          ∧ (s'.region region).st = .free ∧ (s'.region region).ctx = 0 ∧ (s'.region region).task = 0
          ∧ (s'.region region).sources = [] ∧ (s'.region region).sinks = [] ∧ (s'.region region).cycle = r.cycle
          ∧ (s'.region region).cache = r.cache.map (fun c => { c with pin := false }) ∧ (s'.region region).flushcnt = r.flushcnt
          ∧ s'.elems = s.elems ∧ s'.presses = s.presses ∧ s'.copies = s.copies ∧ s'.units = s.units ∧ s'.loupes = s.loupes ∧ s'.mem = s.mem))
  ∧ (∀ (s : State) (region : Nat),
      let r := s.region region
      let reloads := r.st = .active ∨ r.st = .frozen ∨ r.st = .draining ∨ r.st = .saving
      let found := ((s.setRegion region { r with cfgbad := true }).dflLog
        [Word.ofNat (3 * 2 ^ 28 + region * 2 ^ 14), 0, 0, 0, 0, 0, Word.ofNat r.cycle.toNat, Word.ofNat (r.cycle.toNat / 2 ^ 32)])
      (reloads → r.cfgbad = false → exec (.configStoreError region) s = .next found)
      ∧ (¬ reloads ∨ r.cfgbad = true → exec (.configStoreError region) s = .next s)
      ∧ (r.sign ≠ s.signature region → reloads → r.cfgbad = false → exec (.configSignatureCheck region) s = .next found)
      ∧ (r.sign ≠ s.signature region → ¬ reloads ∨ r.cfgbad = true → exec (.configSignatureCheck region) s = .next s)
      ∧ (r.sign = s.signature region → exec (.configSignatureCheck region) s = .next (s.setRegion region { r with sigage := 0 }))
      ∧ (r.cfgbad = true → reloads → (s.enterReload region).region region =
          { r with st := .reloading, left := r.st, cfgbad := false, sigage := 0 }))
  ∧ (∀ (s : State) (region k : Nat),
      let r := s.region region
      let i := Instr.configReloadDone region
      let sp := s.spanOf r.task.toNat
      let rewritten := fun (im : Image) (s' : State) => (s'.region region).st = r.left ∧ (s'.region region).reloads = satAdd r.reloads 1
        ∧ (s'.region region).sign = s'.signature region
        ∧ (∀ el, (s'.elem el).d = (s.elem el).d ∧ (s'.elem el).p = (s.elem el).p ∧ (s'.elem el).ports = (s.elem el).ports
            ∧ (s'.elem el).life = (s.elem el).life ∧ (s'.elem el).pend = (s.elem el).pend)
        ∧ (∀ el x, (im.recs 0x01).filter (fun y => regionOfTile (tileOfEnd sp (y.getD 0 0)) == region
              && elemOfTile (tileOfEnd sp (y.getD 0 0)) (endUnit (y.getD 0 0)) == el) = [x] →
            (s'.elem el).guards = (elemOf x).guards ∧ (s'.elem el).actions = (elemOf x).actions ∧ (s'.elem el).c = (elemOf x).c)
      let first := k < 4 ∧ (r.entry k).v = true ∧ (r.entry k).pin = true ∧ ∀ j, j < k → (r.entry j).v = false ∨ (r.entry j).pin = false
      (r.st ≠ .reloading → exec i s = .next s)
      ∧ (r.st = .reloading → (∀ j, j < 4 → (r.entry j).v = false ∨ (r.entry j).pin = false) → exec i s = .next (s.fenceRegion region 0x70))
      ∧ (r.st = .reloading → first → (r.entry k).good = true → parseImage sp.2.2.1 sp.2.2.2 (r.entry k).words = none →
          exec i s = .next (s.fenceRegion region 0x70))
      ∧ (∀ im, r.st = .reloading → first → (r.entry k).good = true → parseImage sp.2.2.1 sp.2.2.2 (r.entry k).words = some im →
          ∃ s', exec i s = .next s' ∧ rewritten im s')
      ∧ (∀ s1 c, r.st = .reloading → first → (r.entry k).good = false →
          s.fetchImage (r.entry k).ctx.toNat (r.entry k).addr.toNat = (s1, .error c) → exec i s = .next (s1.fenceRegion region 0x70))
      ∧ (∀ s1 ws, r.st = .reloading → first → (r.entry k).good = false →
          s.fetchImage (r.entry k).ctx.toNat (r.entry k).addr.toNat = (s1, .ok ws) →
          (imageCheck ws ≠ ws.getD 6 0 → exec i s = .next (s1.fenceRegion region 0x70))
          ∧ (∀ im, imageCheck ws = ws.getD 6 0 → parseImage sp.2.2.1 sp.2.2.2 ws = some im → ∃ s', exec i s = .next s' ∧ rewritten im s'
              ∧ ((s'.region region).entry k).words = ws ∧ ((s'.region region).entry k).bad = false)))
  ∧ (∀ (s : State) (region : Nat) (w : Word) (d : EndPt),
      let r := s.region region
      let i := Instr.regionResume region w
      let c := s.ctx (s.ctxOfRegion region)
      let after := fun (s' : State) => (s'.region region).st =
        if s'.anyFrozen region = true then (if r.st = .active then .frozen else r.st) else (if r.st = .frozen then .active else r.st)
      (r.st = .fenced → exec i s = .next s)
      ∧ (hwEnd (s.spanOf r.task.toNat) w = none → exec i s = .next s)
      ∧ (r.st ≠ .fenced → hwEnd (s.spanOf r.task.toNat) w = some d → regionOfTile d.tile ≠ region → exec i s = .next s)
      ∧ (r.st ≠ .fenced → hwEnd (s.spanOf r.task.toNat) w = some d → regionOfTile d.tile = region →
          (∀ e, kindOfTile d.tile = .c → d.unit < 16 → e = s.elem (elemOfTile d.tile d.unit) → e.life = .frozen → ∃ s',
            exec i s = .next s' ∧ after s' ∧ s'.elem (elemOfTile d.tile d.unit) = { e with
              life := if e.markSent = true then .marked else if e.halted = true then .halted else .running, fault := {}, unposted := false }
            ∧ (e.unposted = true → c.st ≠ .free → c.st ≠ .faulted →
                (s'.ctx (s.ctxOfRegion region)).faults = c.faults ++ [s.elemRecord (elemOfTile d.tile d.unit)]))
          ∧ (kindOfTile d.tile = .c → d.unit = 18 → ∃ s', exec i s = .next s' ∧ after s'
              ∧ s'.copyEng d.tile = { s.copyEng d.tile with freeze := none, unposted := false })
          ∧ (∀ u, kindOfTile d.tile ≠ .c → s.unit? (d.tile * 64 + d.unit) = some u → u.life = .frozen → ∃ s', exec i s = .next s' ∧ after s'
              ∧ s'.unit? (d.tile * 64 + d.unit) = some { u with
                life := if u.markSent = true then .marked else .running, fault := {}, unposted := false }
              ∧ (u.unposted = true → c.st ≠ .free → c.st ≠ .faulted →
                  (s'.ctx (s.ctxOfRegion region)).faults = c.faults ++ [s.unitRecord (d.tile * 64 + d.unit) u]))))
  ∧ (∀ (s : State) (region : Nat) (code : Byte),
      let r := s.region region
      (r.st = .fenced → exec (.regionFence region code) s = .next s)
      ∧ (r.st ≠ .fenced → ∃ s', exec (.regionFence region code) s = .next s'
          ∧ s'.region region = { r with st := .fenced, ctx := 0, task := 0, cfgbad := false, fence := code }
          ∧ s'.elemsOf region = [] ∧ s'.unitsOf region = [] ∧ s'.copiesOf region = [] ∧ s'.mem = s.mem
          ∧ (∀ t, r.st ≠ .free → s.task? r.task.toNat = some t → t.final = none → (∀ x, t.ending = some x → x.1 ≠ .faulted) →
              s'.task? r.task.toNat = some { t with ending := some (.faulted, code) })
          ∧ (s.dfl.hold.length < 64 → ∃ rec_, s'.dfl.hold = s.dfl.hold ++ [rec_]
              ∧ (region < 64 → rec_.head? = some (Word.ofNat (6 * 2 ^ 28 + code.toNat * 2 ^ 20 + region * 2 ^ 14))))))
  ∧ (∀ (s : State) (region : Nat) (v : Word),
      let r := s.region region
      let k := fldN v 0 4
      (r.st = .fenced → exec (.sigcommit region v) s = .next s ∧ exec (.unhpop region) s = .next s ∧ exec (.udataWrite region v) s = .next s)
      ∧ (r.st ≠ .fenced →
          (∃ r', exec (.sigcommit region v) s = .next (s.setRegion region r') ∧ r'.st = r.st ∧ r'.sigstage = r.sigstage
            ∧ ∀ j, (h : j < 16) →
              (j ≠ k → r'.sig[j] = r.sig[j])
              ∧ (j = k → let ver := (r.sig[j].toNat / 2 ^ 32 % 2 ^ 16 + 1) % 2 ^ 16
                  (fldN v 31 1 = 1 → r'.sig[j].toNat = ver * 2 ^ 32 ∧ r'.sigbad = false)
                  ∧ (fldN v 31 1 ≠ 1 → sigStageOk r.sigstage = true → r'.sig[j].toNat =
                      r.sigstage.toNat / 2 ^ 48 * 2 ^ 48 + ver * 2 ^ 32 + r.sigstage.toNat % 2 ^ 32 ∧ r'.sigbad = false)
                  ∧ (fldN v 31 1 ≠ 1 → sigStageOk r.sigstage = false → r'.sig[j] = r.sig[j] ∧ r'.sigbad = true)))
          ∧ exec (.unhpop region) s = .next (s.setRegion region { r with unh := r.unh.tail })
          ∧ (s.uselUnit region = none → exec (.udataWrite region v) s = .next s)
          ∧ (∀ n u g, s.uselUnit region = some (n, u, g) → let r0 := s.region (regionOfTile (n / 64))
              (u.writable g v = false → exec (.udataWrite region v) s = .next s)
              ∧ (u.writable g v = true → (u.life = .frozen ∨ u.life = .drained) →
                  ∃ s', exec (.udataWrite region v) s = .next s' ∧ s'.unit? n = some (u.write g v)
                    ∧ s'.elems = s.elems ∧ s'.mem = s.mem
                    ∧ (s'.region (regionOfTile (n / 64))).sign =
                        r0.sign ^^^ s.signature (regionOfTile (n / 64)) ^^^ s'.signature (regionOfTile (n / 64)))
              ∧ (u.writable g v = true → u.life ≠ .frozen → u.life ≠ .drained →
                  exec (.udataWrite region v) s = .next (s.setUnit n { u with xctl := u.xctl ++ [(g, v, none)] })))))

/-- R340 to R358: what the dispatcher does.
The model's choices among this: MARK enters a full source end (log 70), the state BINDING and the least free entry (log 34), and the
entry of an ended task that is kept until its event is written (log 35). -/
def Obligations.TaskEvents : Prop :=
  (∀ (s : State),
      let i := Instr.dispatchAdmit
      ((s.freeIndex = none ∨ s.chooseQueue = none) → exec i s = .next s)
      ∧ (∀ k s1, s.chooseQueue = some (k, s1) →
          (∃ q, (k, q) ∈ s.queues ∧ s.eligible q = true
            ∧ ((∃ x ∈ s.queues, s.eligible x.2 = true ∧ x.2.old = true) → q.old = true)
            ∧ ((∀ x ∈ s.queues, s.eligible x.2 = true → x.2.old = false) →
                (∃ x ∈ s.queues, s.eligible x.2 = true ∧ x.2.prio = dispatchPattern.getD (s.dslot % 15) 0) →
                q.prio = dispatchPattern.getD (s.dslot % 15) 0 ∧ s1.dslot = (s.dslot + 1) % 15))
          ∧ (∀ n r rest, s.freeIndex = some n → (s.queue k).slots = r :: rest → (s.ctx (s.queue k).ctx).st = .active →
              let q := s.queue k
              let bad := recordOk r = false ∨ s.unretired q.ctx (recId r) ≠ none
              ∃ s', exec i s = .next s'
                ∧ s'.queue k = { q with
                    slots := rest, age := 0, old := false, refill := decide (0 < q.spilled ∧ rest.length < 8) }.settle
                ∧ (bad → s'.tasks = s.tasks ∧ (s'.ctx q.ctx).events = (s.ctx q.ctx).events
                    ++ [(none, eventRecord 0x03 0 (recId r).toNat (r.getD 11 0) 10 0x02 0 0 0 (s.cycleOf 0))])
                ∧ (¬ bad → ∃ t, s'.task? n = some t ∧ t.ctx = q.ctx ∧ t.taskid = recId r ∧ t.record = r ∧ t.cls = q.prio
                    ∧ t.pre = (recPres r).filterMap (s.unretired q.ctx) ∧ t.bound = false ∧ t.final = none ∧ t.rank = s.round
                    ∧ t.st = (if t.pre.isEmpty = true then .ready else .waiting)
                    ∧ t.ending = (if s.shapeFits (recRows r) (recCols r) = true then none else some (.faulted, 0x03))))))
  ∧ (∀ (s : State) (k : Nat),
      ((s.queue k).slots ≠ [] → 2 ^ 20 ≤ (s.queue k).age → exec (.queueAged k) s = .next (s.setQueue k { s.queue k with old := true }))
      ∧ (((s.queue k).slots = [] ∨ (s.queue k).age < 2 ^ 20) → exec (.queueAged k) s = .next s))
  ∧ (∀ (s : State),
      let may := fun (x : Nat × Task) => x ∈ s.tasks ∧ s.bindable x.2 = true ∧ s.quotaOk x.2 = true
        ∧ (s.reserve = none ∨ s.reserve = some x.1) ∧ (s.findSpan x.2).isSome = true
      ((∀ x, ¬ may x) → exec .taskBind s = .next s)
      ∧ ((∃ x, may x) → ∃ x row col s', may x ∧ (∀ y, may y → y.2.before x.2 = false) ∧ exec .taskBind s = .next s'
          ∧ row + x.2.rows ≤ 8 ∧ col + x.2.cols ≤ 8
          ∧ s'.task? x.1 = some { x.2 with st := .binding, row := row, col := col, bound := true }
          ∧ s'.reserve = (if s.reserve = some x.1 then none else s.reserve)
          ∧ ∀ r ∈ spanRegions row col x.2.rows x.2.cols, (s.region r).st = .free ∧ (s.region r).awake = true
            ∧ (s'.region r).st = (if x.2.save.isSome = true then .restoring else .loading)
            ∧ (s'.region r).ctx = BitVec.ofNat 6 x.2.ctx ∧ (s'.region r).task = BitVec.ofNat 13 x.1
            ∧ (s'.region r).placed = false ∧ (s'.region r).sinkcnt = 0 ∧ (s'.region r).cycle = (s.region r).cycle))
  ∧ (∀ (s : State),
      let old := fun (x : Nat × Task) => x ∈ s.tasks ∧ s.bindable x.2 = true ∧ 2 ^ 22 ≤ x.2.age ∧ s.quotaOk x.2 = true
        ∧ (s.findSpan x.2 = none ∨ s.reserve = some x.1)
      ((∀ x, ¬ old x) → exec .bindReservation s = .next { s with reserve := none })
      ∧ ((∃ x, old x) → ∃ x, old x ∧ (∀ y, old y → y.2.age ≤ x.2.age)
          ∧ exec .bindReservation s = .next { s with reserve := some x.1 }))
  ∧ (∀ (s : State) (k : Nat) (t : Task), s.task? k = some t →
      (t.st = .running → t.quantum = some 0 → exec (.quantumExpiry k) s = .next (s.setTask k { t with quantum := none, expire := true }))
      ∧ ((t.st ≠ .running ∨ t.quantum ≠ some 0) → exec (.quantumExpiry k) s = .next s)
      ∧ ((t.st ≠ .running ∨ t.ending ≠ none ∨ t.final ≠ none ∨ s.drained k t = false) → exec (.taskDrainDetect k) s = .next s)
      ∧ (t.st = .running → t.ending = none → t.final = none → s.drained k t = true → ∃ s', exec (.taskDrainDetect k) s = .next s'
          ∧ s'.task? k = some { t with st := .draining, quantum := none, expire := false } ∧ s'.mem = s.mem
          ∧ ∀ r ∈ s.held k t, (s'.region r).st = if (s.region r).st = .active then .draining else (s.region r).st))
  ∧ (∀ (s : State) (ctx : Nat) (id : BitVec 16),
      (s.unretired ctx id = none → exec (.preempt ctx id) s = .next s ∧ exec (.abort ctx id) s = .next s)
      ∧ (∀ k t, s.unretired ctx id = some k → s.task? k = some t →
          (t.st = .running → t.final = none → exec (.preempt ctx id) s = .next (s.setTask k { t with expire := true }))
          ∧ ((t.st ≠ .running ∨ t.final ≠ none) → ∃ s', exec (.preempt ctx id) s = .next s' ∧ s'.task? k = some t ∧ s'.regions = s.regions)
          ∧ exec (.abort ctx id) s = .next (s.setTask k { t with abort := true })
          ∧ (t.ending = none → t.final = none → ({ t with abort := true } : Task).tick.ending = some (.aborted, 0))
          ∧ ((t.ending ≠ none ∨ t.final ≠ none) → ({ t with abort := true } : Task).tick.ending = t.ending)))
  ∧ (∀ (s : State) (k : Nat) (t : Task), s.task? k = some t →
      (s.markOk k t = false → exec (.markInject k) s = .next s)
      ∧ (s.markOk k t = true → ∃ s', exec (.markInject k) s = .next s'
          ∧ s'.task? k = some { t with
              st := .preempting, quantum := none, save := some { units := s.freeUnits t.ctx (t.rows * t.cols) } }
          ∧ (∀ r ∈ s.held k t, (s'.region r).st =
                (if (s.region r).st = .active ∨ (s.region r).st = .frozen then .saving else (s.region r).st)
            ∧ (s'.region r).sources = (s.region r).sources.map (fun (x : Source) => { x with marked := true })
            ∧ ∀ x ∈ (s.region r).sources, (kindOfTile x.dst.tile = .c ∨ (s.unit? (x.dst.tile * 64 + x.dst.unit)).isSome = true) →
                x.dst.port < 8 →
                ((s'.ports x.dst.tile x.dst.unit).inAt x.dst.port).buf.getLast? = some ⟨0, Tag.mark⟩)
          ∧ (Table.sorted s.loupes = true → ∀ tile, regionOfTile tile ∈ s.held k t → ∀ j, j < 32 →
              ((s'.loupe tile).slot j).st =
                if ((s.loupe tile).slot j).st = .running ∨ ((s.loupe tile).slot j).st = .parked then .saved
                else ((s.loupe tile).slot j).st)
          ∧ (∀ el, (s'.elem el).d = (s.elem el).d ∧ (s'.elem el).p = (s.elem el).p ∧ (s'.elem el).life = (s.elem el).life
              ∧ (s'.elem el).pend = (s.elem el).pend ∧ (s'.elem el).ports.outs = (s.elem el).ports.outs)
          ∧ s'.mem = s.mem))
  ∧ (∀ (s : State) (k : Nat) (t : Task), s.task? k = some t →
      let ready := t.st = .preempting ∧ t.ending = none ∧ t.abort = false ∧ t.final = none ∧ s.saveReady k t = true
      let ref := t.save.getD {}
      (¬ ready → exec (.taskSaveComplete k) s = .next s)
      ∧ (∀ tile, ready → s.badHoop (s.held k t) = some tile → exec (.taskSaveComplete k) s = .next (s.hoopFail tile))
      ∧ (ready → s.badHoop (s.held k t) = none → s.writeSave t.ctx ref.units (s.localSave k t) = none →
          exec (.taskSaveComplete k) s = .next (s.areaFault t.ctx (s.saveSpans t.ctx ref.units)))
      ∧ (∀ s1, ready → s.badHoop (s.held k t) = none → s.writeSave t.ctx ref.units (s.localSave k t) = some s1 → ∃ s', exec (.taskSaveComplete k) s = .next s'
          ∧ (s.localSave k t).version = 1 ∧ s'.mem = s1.mem ∧ s'.saves = s1.saves
          ∧ s'.task? k = some { t with st := .suspended, bound := false, expire := false, quantum := none, rank := s.round, age := 0 }
          ∧ (∀ r ∈ s.held k t, (s'.region r).st = .free ∧ s'.elemsOf r = [])
          ∧ ((s.ctx t.ctx).st ≠ .free → (s.ctx t.ctx).st ≠ .faulted → (s'.ctx t.ctx).events = (s.ctx t.ctx).events
              ++ [(none, eventRecord 0x05 t.home t.taskid.toNat (t.record.getD 11 0) 8 0 (Word.ofNat (2 ^ 20 + 7 * 2 ^ 20 * ref.units.headD 0))
                (Word.ofNat ((2 ^ 20 + 7 * 2 ^ 20 * ref.units.headD 0) / 2 ^ 32)) 0
                (s.cycleOf t.home))])))
  ∧ (∀ (s : State) (k : Nat) (t : Task), s.task? k = some t →
      let i := Instr.taskRetire k
      let keeps := fun (fin : TaskSt) => (s.ctx t.ctx).st ≠ .free ∧ (s.ctx t.ctx).st ≠ .faulted
        ∧ ¬ (fin = .done ∧ t.replayed = false ∧ recQuiet t.record = true)
      let retired := fun (s' : State) (fin : TaskSt) (code : Byte) =>
        (keeps fin → s'.task? k = some { t with
            final := some (fin, code), ending := none, save := t.save.map (fun v => { v with waiters := [] })
            bound := false, expire := false, quantum := none }
          ∧ ∃ l, (s'.ctx t.ctx).events = (s.ctx t.ctx).events ++ l ++ [(some k, eventRecord
              (match fin with
                | .done => if t.replayed then 0x02 else 0x01
                | .faulted => 0x03
                | _ => 0x04)
              t.home t.taskid.toNat (t.record.getD 11 0) fin.code (if fin = .faulted then code else 0) 0 0 0 (s.cycleOf t.home))])
        ∧ (¬ keeps fin → s'.task? k = none)
      (t.final ≠ none → exec i s = .next s)
      ∧ (t.final = none → t.ending = none → (t.st ≠ .draining ∨ ∃ r ∈ t.regions, s.owns k r = true) → exec i s = .next s)
      ∧ (t.final = none → t.ending = none → t.st = .draining → (∀ r ∈ t.regions, s.owns k r = false) → ∃ s', exec i s = .next s'
          ∧ (t.dropped = none → retired s' .done 0) ∧ (∀ c, t.dropped = some c → retired s' .faulted c))
      ∧ (∀ fin code, t.final = none → t.ending = some (fin, code) →
          (t.bound = false → ∃ s', exec i s = .next s' ∧ retired s' fin code)
          ∧ (t.bound = true → (t.st = .binding ∨ t.st = .loading) → ∃ s', exec i s = .next s' ∧ retired s' fin code
              ∧ ∀ r ∈ t.regions, s.owns k r = true → (s'.region r).st = .free)
          ∧ (t.bound = true → t.st ≠ .binding → t.st ≠ .loading → s.reloads k t = true → exec i s = .next s)
          ∧ (t.bound = true → t.st ≠ .binding → t.st ≠ .loading → s.reloads k t = false →
              ((((s.dropWaiters k).dropQueued k).discardParked k).flushable k = false → ∃ s', exec i s = .next s' ∧ s'.task? k = some t ∧ s'.regions = s.regions)
              ∧ ((((s.dropWaiters k).dropQueued k).discardParked k).flushable k = true → ∃ s', exec i s = .next s' ∧ retired s' fin code
                  ∧ ∀ r ∈ t.regions, s.owns k r = true → (s'.region r).st = .free ∧ s'.elemsOf r = []))))

/-- R360 to R381, R398, R399: what contexts, queues and the translation block do.
The model's choices among this: the states that accept RESOLVE and HARVEST (log 39), which queue a saved queue fits (log 72),
DESTROY's events for saved tasks (log 33), the save area's format version and bytes (log 25), and held accesses at a TINV (log 89). -/
def Obligations.ContextQueueCommands : Prop :=
  (∀ (s : State) (k : Nat) (v : Word),
      let c := s.ctx k
      let rejected := fun (i : Instr) => exec i s = .next (s.setCtx k { c with status := 1 })
      (c.st ≠ .free → ¬ (c.st = .creating ∧ c.making = true) → rejected (.create k))
      ∧ (c.st ≠ .free → rejected (.restore k))
      ∧ (c.st = .free → exec (.create k) s = .next (s.setCtx k { c with st := .creating, status := 0xFF, making := true }))
      ∧ (c.st = .creating → c.making = true → c.createOk = false →
          exec (.create k) s = .next (s.setCtx k { c with st := .free, status := 2, making := false }))
      ∧ (c.st = .creating → c.making = true → c.createOk = true → ∃ c', exec (.create k) s = .next (s.setCtx k c') ∧ c'.st = .active ∧ c'.status = 0
          ∧ c'.fqhead = 0 ∧ c'.fqtail = 0 ∧ c'.eqhead = 0 ∧ c'.eqtail = 0 ∧ c'.discards = 0 ∧ c'.items = [] ∧ c'.meas = 0
          ∧ c'.ptroot = c.ptroot ∧ c'.fqbase = c.fqbase ∧ c'.eqbase = c.eqbase ∧ c'.quota = c.quota ∧ c'.savebase = c.savebase
          ∧ c'.dlbase = c.dlbase ∧ c'.dlctl = c.dlctl)
      ∧ (c.st = .free → exec (.restore k) s = .next (s.setCtx k { c with st := .creating, status := 0xFF, making := false }))
      ∧ (let fits := c.st = .free ∨ 7 * 2 ^ 20 * fldN v 0 7 + 2 ^ 20 ≤ c.savelen.toNat
         (fits → exec (.quotaWrite k v) s = .next (s.setCtx k { c with quota := Word.ofNat (fldN v 0 7) }))
         ∧ (¬ fits → rejected (.quotaWrite k v)))
      ∧ (c.st ≠ .creating ∨ c.making = true → exec (.contextRestoreDone k) s = .next s)
      ∧ (c.st = .creating → c.making = false → s.headAt k = none →
          exec (.contextRestoreDone k) s = .next (s.setCtx k { c with st := .free, status := 2 }))
      ∧ (∀ h, c.st = .creating → c.making = false → s.headAt k = some h →
          let ok := c.createOk = true ∧ h.version = 1 ∧ h.queues.all (s.queueFits k) = true
          (¬ ok → exec (.contextRestoreDone k) s = .next (s.setCtx k { c with st := .free, status := 2 }))
          ∧ (ok → ∃ s', exec (.contextRestoreDone k) s = .next s' ∧ (s'.ctx k).st = .suspended ∧ (s'.ctx k).status = 0
              ∧ s'.mem = s.mem ∧ s'.tasks = s.tasks
              ∧ ∀ q ∈ h.queues, (s'.queue q.queue).st = .paused ∧ (k < 64 → (s'.queue q.queue).ctx = k))))
  ∧ (∀ (s s1 : State) (k : Nat), s.Inv →
      (∀ h, s.writeHead k h = some s1 → s1.badIn (s.ctx k).savebase.toNat (2 ^ 20) = false → s1.headAt k = some h)
      ∧ (∀ units v, units.Nodup → s.writeSave k units v = some s1 →
          (∀ x ∈ s.saveSpans k units, s1.badIn x.1 x.2 = false) → s1.readSave k units = some v))
  ∧ (∀ (s : State) (k : Nat),
      let c := s.ctx k
      let rejected := fun (i : Instr) => exec i s = .next (s.setCtx k { c with status := 1 })
      (c.st ≠ .active → rejected (.quiesce k))
      ∧ (c.st = .active → ∃ s', exec (.quiesce k) s = .next s' ∧ s'.ctx k = { c with st := .quiescing, status := 0xFF }
          ∧ (∀ j, s'.queue j = if (s.queue j).ctx = k ∧ ((s.queue j).st = .active ∨ (s.queue j).st = .spilling)
              then { s.queue j with st := .paused } else s.queue j)
          ∧ (∀ j t, s.task? j = some t → s'.task? j = some (if t.ctx = k ∧ t.st = .running ∧ t.final = none
              then { t with expire := true } else t)))
      ∧ (let ready := c.st = .quiescing ∧ (∀ x ∈ s.tasks, x.2.ctx = k → x.2.atRest = true)
            ∧ ∀ x ∈ s.queues, x.2.ctx = k → x.2.refill = false
         (¬ ready → exec (.quiesceComplete k) s = .next s)
         ∧ (s.headOf k).version = 1 ∧ (s.headOf k).tasks = s.tasks.filter (fun x => x.2.ctx == k)
         ∧ (∀ x ∈ s.queues, x.2.ctx = k → x.2.st = .paused → x.2.saved x.1 ∈ (s.headOf k).queues)
         ∧ (ready → s.writeHead k (s.headOf k) = none → exec (.quiesceComplete k) s =
            .next (s.areaFault k [((s.ctx k).savebase.toNat, 2 ^ 20)]))
         ∧ (∀ s1, ready → s.writeHead k (s.headOf k) = some s1 → ∃ s', exec (.quiesceComplete k) s = .next s' ∧ (s'.ctx k).st = .suspended
            ∧ (s'.ctx k).status = (if c.harvest = none ∧ c.resuming = false then 0 else 0xFF)
            ∧ s'.mem = s1.mem ∧ s'.heads = s1.heads
            ∧ s'.tasks = s.tasks.filter (fun x => x.2.ctx != k)
            ∧ (s'.ctx k).events = c.events ++ [(none, eventRecord 0x30 0 0 0 0 0 0 0 0 (s.cycleOf 0))]))
      ∧ (c.st ≠ .suspended → rejected (.resume k))
      ∧ (c.st = .suspended → s.headAt k = none → exec (.resume k) s = .next (s.setCtx k { c with status := 2, resuming := false }))
      ∧ (∀ h, c.st = .suspended → s.headAt k = some h → (s.readmitAt h.entries).length < h.entries.length →
          exec (.resume k) s = .next (s.setCtx k { c with status := 0xFF, resuming := true }))
      ∧ (∀ h, c.st = .suspended → s.headAt k = some h → (s.readmitAt h.entries).length = h.entries.length → ∃ s', exec (.resume k) s = .next s'
          ∧ (s'.ctx k).st = .active ∧ (s'.ctx k).status = (if c.harvest = none then 0 else 0xFF) ∧ (s'.ctx k).resuming = false
          ∧ (∀ j, s'.queue j = if (s.queue j).ctx = k ∧ (s.queue j).st = .paused then (s.queue j).reopened.settle else s.queue j)
          ∧ (Table.sorted h.entries = true → ∀ x ∈ h.entries, ∃ n t, s.task? n = none ∧ s'.task? n = some t ∧ t.st = x.2.st
              ∧ t.taskid = x.2.taskid ∧ t.record = x.2.record ∧ t.ctx = k ∧ t.rank = s.round ∧ t.age = 0))
      ∧ (c.st = .free → rejected (.destroy k))
      ∧ (c.st ≠ .free → ∃ s', exec (.destroy k) s = .next s' ∧ (s'.ctx k).st = .destroying ∧ (s'.ctx k).status = 0xFF
          ∧ (∀ j, (s.queue j).ctx = k → s'.queue j = (s.queue j).disable)
          ∧ (∀ j t, s.task? j = some t → t.ctx = k → s'.task? j = some { t with abort := true })
          ∧ (c.away = false → (s'.ctx k).events = c.events)
          ∧ (∀ h, c.away = true → s.headAt k = some h →
              (s'.ctx k).events = c.events ++ h.entries.map (fun x => (none, s.savedAbort x.2)))
          ∧ (∀ tile, ∀ e ∈ s'.tlb tile, e.ctx ≠ k))
      ∧ (let ready := c.st = .destroying ∧ (∀ x ∈ s.tasks, x.2.ctx ≠ k) ∧ c.events = []
            ∧ ∀ a ∈ s.accs, a.ctx = k → a.performed 3 = true
         (¬ ready → exec (.destroyComplete k) s = .next s)
         ∧ (ready → ∃ s', exec (.destroyComplete k) s = .next s' ∧ s'.ctx k = { c with st := .free, status := 0, items := [], faults := [] }
            ∧ (∀ w ∈ s'.pwalks, w.ctx ≠ k) ∧ (∀ tile, ∀ e ∈ s'.tlb tile, e.ctx ≠ k) ∧ s'.mem = s.mem)))
  ∧ (∀ (s : State) (k h : Nat),
      let c := s.ctx k
      let rejected := fun (i : Instr) => exec i s = .next (s.setCtx k { c with status := 1 })
      let gone := fun (s' : State) => Table.get? (s'.ctx k).items h = none
      (s.item? k h = none → rejected (.resolveReplay k h) ∧ rejected (.resolveDiscard k h))
      ∧ (∀ n a, s.item? k h = some (.posted n) → s.acc? n = some a →
          (∃ s', exec (.resolveReplay k h) s = .next s' ∧ gone s'
            ∧ s'.accs = s.accs.map (fun x => if x.src = a.src then { x with st := .point } else x)
            ∧ ∀ t, s.task? a.task = some t → s'.task? a.task = some { t with replayed := true })
          ∧ (∃ s', exec (.resolveDiscard k h) s = .next s' ∧ gone s' ∧ (s'.ctx k).discards = satAdd c.discards 1
            ∧ s'.accs = s.accs.map (fun x => if x.src = a.src then { x with st := .dropped } else x)
            ∧ (∀ el id, a.src = .elem el id → (s'.elem el).dropped = true)
            ∧ ∀ t code g, s.task? a.task = some t → a.st = .parked code g →
                s'.task? a.task = some { t with dropped := some (t.dropped.getD code) }))
      ∧ (∀ tile n, s.item? k h = some (.copy tile n) → rejected (.resolveDiscard k h)
          ∧ ∃ s', exec (.resolveReplay k h) s = .next s' ∧ gone s'
            ∧ (s'.copyEng tile).flights = (s.copyEng tile).flights.map (fun f => if f.id = n then { f with paused := none } else f))
      ∧ (∀ tile j, s.item? k h = some (.walk tile j) → j < 32 →
          (∃ s', exec (.resolveReplay k h) s = .next s' ∧ gone s'
            ∧ ∀ t, s.task? ((s.loupe tile).slot j).task = some t →
                s'.task? ((s.loupe tile).slot j).task = some { t with replayed := true })
          ∧ (∀ code x y, ((s.loupe tile).slot j).park = some (code, x, y) → ∃ s', exec (.resolveDiscard k h) s = .next s' ∧ gone s'
            ∧ ((s'.loupe tile).slot j).st = .returning
            ∧ ((s'.loupe tile).slot j).ret = resultToks 3 code ((s.loupe tile).slot j).step [])))
  ∧ (∀ (s : State) (k : Nat), s.Inv →
      let c := s.ctx k
      let words := c.dlpages.toNat / 64
      let may := c.st = .active ∨ c.st = .quiescing ∨ c.st = .suspended
      (¬ may → exec (.harvest k) s = .next (s.setCtx k { c with status := 1 }))
      ∧ (may → (c.harvest.getD (words, [])).1 = 0 → ∃ l, exec (.harvest k) s = .next (s.setCtx k { c with status := 0xFF, harvest := some (0, l) }))
      ∧ (∀ n l, may → c.harvest.getD (words, []) = (n + 1, l) → n < words →
          let live := c.dlbase.toNat + 8 * (words - (n + 1))
          let shadow := live + 8 * words
          ((s.poisoned live 8 false = true ∨ s.poisoned shadow 8 false = true) → exec (.harvest k) s = .next (s.areaFault k [(live, 8), (shadow, 8)]))
          ∧ (s.poisoned live 8 false = false → s.poisoned shadow 8 false = false → ∃ s', exec (.harvest k) s = .next s'
            ∧ s'.ctx k = { c with status := 0xFF, harvest := some (n, l ++ s.wordWrites k (words - (n + 1))) }
            ∧ s'.mem.readN live 8 = 0 ∧ s'.mem.readN shadow 8 = s.mem.readN shadow 8 ||| s.mem.readN live 8
            ∧ ∀ a, (a < live ∨ live + 8 ≤ a) → (a < shadow ∨ shadow + 8 ≤ a) → s'.mem.read a = s.mem.read a))
      ∧ (∀ l, c.harvest = some (0, l) →
          let done := s.settled l 3 = true ∧ ∀ o ∈ s.bars, o.id ∈ l → o.verdict ≠ none
          (done → exec (.harvestComplete k) s = .next (s.setCtx k { c with
              harvest := none
              status := if c.st = .quiescing ∨ c.st = .creating ∨ c.st = .destroying ∨ c.resuming = true then 0xFF else 0 }))
          ∧ (¬ done → exec (.harvestComplete k) s = .next s)))
  ∧ (∀ (s : State) (t : Txn), s.due t → s.sec.boot ≠ .fail → enqHeaderOk t = true →
      let k := t.addr.toNat
      let q := s.queue k
      let c := s.ctx q.ctx
      let open_ := q.st = .active ∨ q.st = .spilling
      s.sec.serves t.src q.ctx = true →
      let nacks := fun (r : Nat) => Answers (.enq t) s t (answerTo t 7 (BitVec.ofNat 8 r) []) (fun s' =>
        s'.queue k = { q with nackcnt := satAdd q.nackcnt 1, lastnack := BitVec.ofNat 4 r })
      (q.st = .disabled → nacks 4)
      ∧ (q.st ≠ .disabled → c.st ≠ .active → c.st ≠ .quiescing → nacks 6)
      ∧ ((c.st = .active ∨ c.st = .quiescing) →
          (q.st = .paused → nacks 1)
          ∧ ((q.st = .drained ∨ (q.closed = true ∧ (open_ ∨ q.st = .spillFault))) → nacks 5)
          ∧ (q.closed = false → q.st = .spillFault → nacks 3)
          ∧ (q.closed = false → open_ →
              (q.spilled = 0 → q.slots.length < 8 → Answers (.enq t) s t (answerTo t 6 0 []) (fun s' => s'.queue k = { q with
                slots := q.slots ++ [bytesToWords t.data], enqcnt := satAdd q.enqcnt 1, age := if q.slots.isEmpty then 0 else q.age
                old := if q.slots.isEmpty then false else q.old }))
              ∧ ((q.spilled ≠ 0 ∨ 8 ≤ q.slots.length) → q.spilled = q.cap → Answers (.enq t) s t (answerTo t 7 2 []) (fun s' =>
                s'.queue k = { q with nackcnt := satAdd q.nackcnt 1, lastnack := 2, roomy := false }
                ∧ (s'.ctx q.ctx).events = c.events ++ (if q.roomy = true then
                    [(none, eventRecord 0x20 0 0 0 0 0 (Word.ofNat k) 2 (Word.ofNat q.tail) (s.cycleOf 0))] else [])))
              ∧ ((q.spilled ≠ 0 ∨ 8 ≤ q.slots.length) → q.spilled ≠ q.cap → s.poisoned (q.spbase.toNat + 64 * q.tail) 64 true = true →
                Answers (.enq t) s t (answerTo t 7 3 []) (fun s' => s'.mem = s.mem
                  ∧ s'.queue k = { q with st := .spillFault, refill := false, nackcnt := satAdd q.nackcnt 1, lastnack := 3 }
                  ∧ (s'.ctx q.ctx).events = c.events
                    ++ [(none, eventRecord 0x20 0 0 0 0 0 (Word.ofNat k) 0x8003 (Word.ofNat q.tail) (s.cycleOf 0))]))
              ∧ ((q.spilled ≠ 0 ∨ 8 ≤ q.slots.length) → q.spilled ≠ q.cap → s.poisoned (q.spbase.toNat + 64 * q.tail) 64 true = false →
                ∃ s', exec (.enq t) s = .next s' ∧ s'.outq = s.outq
                  ∧ s'.mem = s.mem.writeWords (q.spbase.toNat + 64 * q.tail) (bytesToWords t.data)
                  ∧ s'.queue k = { q with
                      tail := (q.tail + 1) % q.cap, spilled := q.spilled + 1, enqcnt := satAdd q.enqcnt 1
                      st := .spilling, roomy := true, spill := q.spill ++ [(t.src, t.eseq)] }))))
  ∧ (∀ (s : State) (k : Nat),
      let q := s.queue k
      let rd := q.spbase.toNat + 64 * q.head
      (q.spill = [] → exec (.enqSpillDone k) s = .next s)
      ∧ (∀ src eseq rest, q.spill = (src, eseq) :: rest → ∃ s' a, exec (.enqSpillDone k) s = .next s'
          ∧ s'.queue k = { q with spill := rest } ∧ s'.mem = s.mem ∧ s'.outq = s.outq ++ [a]
          ∧ a.type = 6 ∧ a.dst = src ∧ a.eseq = eseq)
      ∧ (let moves := q.refill = true ∧ q.spilled ≠ 0 ∧ q.slots.length < 8
         (¬ moves → exec (.queueRefillDone k) s = .next (s.setQueue k { q with refill := false }))
         ∧ (moves → s.poisoned rd 64 false = true → q.st = .spilling → ∃ s', exec (.queueRefillDone k) s = .next s'
            ∧ (s'.queue k).st = .spillFault ∧ (s'.queue k).slots = q.slots ∧ (s'.queue k).spilled = q.spilled)
         ∧ (moves → s.poisoned rd 64 false = true → q.st ≠ .spilling →
            exec (.queueRefillDone k) s = .next (s.setQueue k { q with refill := false }))
         ∧ (moves → s.poisoned rd 64 false = false → q.closed = false → ∃ s', exec (.queueRefillDone k) s = .next s'
            ∧ (s'.queue k).slots = q.slots ++ [s.mem.words rd 16] ∧ (s'.queue k).head = (q.head + 1) % q.cap
            ∧ (s'.queue k).spilled = q.spilled - 1
            ∧ (s'.queue k).refill = decide (1 < q.spilled ∧ q.slots.length < 7)
            ∧ (s'.queue k).st = (if q.spilled = 1 ∧ q.st = .spilling then .active else q.st))))
  ∧ (∀ (s : State) (k : Nat),
      let q := s.queue k
      let open_ := q.st = .active ∨ q.st = .spilling
      let goes := fun (i : Instr) (q' : Queue) => exec i s = .next (s.setQueue k q')
      let refills := decide (0 < q.spilled ∧ q.slots.length < 8)
      let ring := if q.closed = true ∧ q.slots = [] ∧ q.spilled = 0 then QSt.drained
        else if q.spilled = 0 then QSt.active else QSt.spilling
      (q.st ≠ .disabled → q.st ≠ .drained → goes (.queueEnable k) { q with status := 1 })
      ∧ ((q.st = .disabled ∨ q.st = .drained) →
          let ok := (s.ctx q.ctx).st ≠ .free ∧ (s.ctx q.ctx).st ≠ .destroying ∧ q.spbase.toNat % 64 = 0 ∧ areaOk q.spbase.toNat (64 * q.cap) = true
          (¬ ok → goes (.queueEnable k) { q with status := 2 })
          ∧ (ok → goes (.queueEnable k) { q with
              st := .active, closed := false, head := 0, tail := 0, enqcnt := 0, nackcnt := 0, status := 0, age := 0, old := false
              roomy := true }))
      ∧ goes (.queueDisable k) { q with
          st := .disabled, slots := [], spilled := 0, refill := false, status := 0 }
      ∧ (open_ → goes (.pause k) { q with st := .paused, status := 0 })
      ∧ (¬ open_ → goes (.pause k) { q with status := 1 } ∧ goes (.close k) { q with status := 1 })
      ∧ (q.st = .paused → goes (.unpause k) { q with st := ring, status := 0, refill := refills })
      ∧ (q.st ≠ .paused → goes (.unpause k) { q with status := 1 })
      ∧ (open_ → goes (.close k) { q with closed := true, status := 0, st :=
          if q.slots = [] ∧ q.spilled = 0 then .drained else q.st })
      ∧ (q.st = .spillFault → goes (.clear k) { q with st := ring, status := 0, refill := refills })
      ∧ (q.st ≠ .spillFault → goes (.clear k) { q with status := 1 }))
  ∧ (∀ (s : State) (cmd : Dword),
      let ctx := cmd.toNat / 2 ^ 52 % 2 ^ 6
      let va := cmd.toNat / 2 ^ 16 % 2 ^ 36 * 2 ^ 16
      let size := if cmd.getLsbD 59 = true then 2 ^ 28 else 2 ^ 16
      let drops := fun (i : Instr) (lo n : Nat) => ∃ s', exec i s = .next s' ∧ s'.tinv.status = 0xFF ∧ s'.tinv.cmd = some cmd ∧ s'.mem = s.mem
        ∧ (∀ a ∈ s.accs, ∀ pa, a.ctx = ctx → a.va < lo + n → lo < a.va + a.size → a.st = .ready pa → s.blocked a = false →
            a.id ∈ s'.tinv.waits)
        ∧ ∀ tile, s'.tlb tile = (s.tlb tile).filter (fun e => !(decide (e.ctx = ctx ∧ e.base < lo + n ∧ lo < e.base + e.size)))
      (s.tinv.status = 0xFF → exec (.tinvPage cmd) s = .next s ∧ exec (.tinvContext cmd) s = .next s)
      ∧ (s.tinv.status ≠ 0xFF → tinvBad cmd = true →
          exec (.tinvPage cmd) s = .next { s with tinv := { s.tinv with status := 1 } }
          ∧ exec (.tinvContext cmd) s = .next { s with tinv := { s.tinv with status := 1 } })
      ∧ (s.tinv.status ≠ 0xFF → tinvBad cmd = false → drops (.tinvPage cmd) va size ∧ drops (.tinvContext cmd) 0 (2 ^ 52))
      ∧ (let done := s.tinv.status = 0xFF ∧ (∀ a ∈ s.accs, a.id ∈ s.tinv.waits → a.performed 3 = true ∨ ∃ c h, a.st = .parked c h)
            ∧ ∀ o ∈ s.bars, o.id ∈ s.tinv.waits → o.verdict ≠ none
         (done → exec .tinvComplete s = .next { s with tinv := { status := 0, cmd := none, waits := [] } })
         ∧ (¬ done → exec .tinvComplete s = .next s)))

/-- R402 to R409, R412, R421, R434: links and transactions.
The model's choices among this: details of replay and training (log 56), RESPONSE and NACK with a bad header (log 73), a NACK that ends
the device's own transaction (log 37), fabric space named by a transaction (log 50), and poison that a transaction meets (log 51). -/
def Obligations.LinksFabric : Prop :=
  (∀ (s : State) (k : Nat) (lanes : BitVec 4),
      let l := s.link k
      let now := s.round
      let recent := l.entries.filter (fun t => decide (now < t + 2250000)) ++ [now]
      let down := fun (s' : State) => s.dfl.hold.length < 64 → s'.dfl.hold = s.dfl.hold ++
        [dflRec 5 0x71 0 0 k 0 0 none (s.cycleOf 0)]
      let trains := fun (i : Instr) =>
        ((l.st = .fenced ∨ l.entered ≠ none) → exec i s = .next s)
        ∧ (l.st ≠ .fenced → l.entered = none →
          (recent.length < 4 → l.felled = true → exec i s = .next s)
          ∧ (recent.length < 4 → l.felled = false → exec i s = .next (s.setLink k { l with
              st := .training, lanes := 0, attempts := 0, asked := false, tries := 0, entries := recent, retrains := satAdd l.retrains 1
              entered := some (l.entries, l.retrains) }))
          ∧ (4 ≤ recent.length → ∃ s', exec i s = .next s' ∧ (s'.link k).st = .fenced ∧ (s'.link k).replay = []
              ∧ (s'.link k).retrains = satAdd l.retrains 1 ∧ down s'))
      let done := Instr.linkTrainingDone k lanes
      ((l.st ≠ .training ∨ l.entered ≠ none) → exec done s = .next s)
      ∧ (l.st = .training → l.entered = none →
          (lanes = 0xF → exec done s = .next (s.setLink k { l with st := .up, lanes := 0xF, attempts := 0, peer := Config.peer k }))
          ∧ (lanes ≠ 0xF → l.attempts < 2 → exec done s = .next (s.setLink k { l with attempts := l.attempts + 1 }))
          ∧ (lanes ≠ 0xF → 2 ≤ l.attempts →
              (lanes.getLsbD 0 = true → lanes.getLsbD 1 = true → exec done s = .next (s.setLink k { l with
                st := .degraded, lanes := 3, attempts := 0, peer := Config.peer k }))
              ∧ (lanes.getLsbD 0 = true → lanes.getLsbD 1 = false → exec done s = .next (s.setLink k { l with
                st := .degraded, lanes := 1, attempts := 0, peer := Config.peer k }))
              ∧ (lanes.getLsbD 0 = false → ∃ s', exec done s = .next s' ∧ (s'.link k).st = .down ∧ (s'.link k).lanes = 0 ∧ down s')))
      ∧ (l.start = .down → trains (.linkEnable k)) ∧ (l.start ≠ .down → exec (.linkEnable k) s = .next s)
      ∧ ((l.start = .up ∨ l.start = .degraded) → trains (.linkRetrain k))
      ∧ (l.start ≠ .up → l.start ≠ .degraded → exec (.linkRetrain k) s = .next s)
      ∧ (l.st = .fenced → exec (.linkDisable k) s = .next s)
      ∧ (l.st ≠ .fenced → ∃ l', exec (.linkDisable k) s = .next (s.setLink k l') ∧ l'.st = .down ∧ l'.lanes = 0 ∧ l'.replay = []
          ∧ l'.felled = true ∧ (l.entered = none → l'.entries = l.entries ∧ l'.retrains = l.retrains)
          ∧ (∀ es n, l.entered = some (es, n) → l'.entries = es ∧ l'.retrains = n))
      ∧ (∃ s', exec (.linkFence k) s = .next s' ∧ s'.link k = l.quiet .fenced ∧ down s')
      ∧ ((l.st = .retrying ∨ (l.felled = true ∧ l.start = .retrying)) → 8 ≤ l.tries → trains (.replayExhausted k))
      ∧ ((l.st ≠ .retrying ∧ (l.felled = false ∨ l.start ≠ .retrying) ∨ l.tries < 8) → exec (.replayExhausted k) s = .next s)
      ∧ (∀ seq, l.carries = false → exec (.replayRequest k seq) s = .next s)
      ∧ (∀ seq, l.carries = true → exec (.replayRequest k seq) s = .next (s.setLink k { l with
          tx := l.tx ++ (l.replay.dropWhile (fun x => x.1 != seq)).map (fun x => x.2) })))
  ∧ (∀ (s : State) (k : Nat) (f : List Byte),
      let c := s.fecCount k
      let l := c.link k
      let i := Instr.flitReceive k f
      let w := wordAt f 0
      let asks := fun (l' : Link) => l'.st = .retrying ∧ l'.rxseq = l.rxseq ∧ l'.rx = l.rx
        ∧ l'.asked = true
      let l1 := if fldN w 7 1 = 1 then l.acked (fld w 8 12) else l
      let fails := fun (u : State) (l' : Link) => exec i s = .next (if 8 ≤ l'.tries then
        { u.setLink k l' with agenda := .ev (.replayExhausted k) :: s.agenda } else u.setLink k l')
      l = { s.link k with feccorr := satAdd (s.link k).feccorr (Config.fecCorrected s.tick) }
      ∧ (l.carries = false → ((l.felled = false ∨ l.start ≠ .retrying) ∨ flitOk f = true) → exec i s = .next s)
      ∧ (l.carries = false → l.felled = true → l.start = .retrying → flitOk f = false →
          fails s { s.link k with tries := (s.link k).tries + 1 })
      ∧ (l.carries = true → flitOk f = false → ∃ l', (if l.st = .retrying then fails c l' else exec i s = .next (c.setLink k l')) ∧ asks l' ∧ l'.crcerr = satAdd l.crcerr 1
          ∧ l'.replays = satAdd l.replays 1 ∧ l'.tx = l.tx ++ [mkFlit (l.flitHead l.rxseq 2 0) []]
          ∧ l'.tries = (if l.st = .retrying then l.tries + 1 else l.tries))
      ∧ (l.carries = true → flitOk f = true →
          (fldN w 5 2 = 3 → exec i s = .next c)
          ∧ (fldN w 5 2 = 1 → exec i s = .next (c.setLink k l1))
          ∧ (fldN w 5 2 = 2 → exec i s = .next (c.setLink k (l1.resend (fld w 20 12))))
          ∧ (fldN w 5 2 = 0 → fld w 20 12 ≠ l.rxseq → ∃ l', exec i s = .next (c.setLink k l') ∧ asks l'
              ∧ (l.asked = true → l'.tx = l.tx) ∧ (l.asked = false → l'.tx = l.tx ++ [mkFlit (l.flitHead l.rxseq 2 0) []]))
          ∧ (fldN w 5 2 = 0 → fld w 20 12 = l.rxseq → ∃ s', exec i s = .next s'
              ∧ (s'.link k).rxseq = l.rxseq + 1 ∧ (s'.link k).got = true ∧ (s'.link k).asked = false ∧ (s'.link k).tries = 0
              ∧ (s'.link k).st = (if l.st = .retrying then l.left else l.st)
              ∧ s'.agenda = (unpack 300 (l.rx ++ (f.drop 12).take (16 * fldN w 0 4))).1.map (fun t => .ev (txnStep t)) ++ s.agenda
              ∧ (s'.link k).rx = (unpack 300 (l.rx ++ (f.drop 12).take (16 * fldN w 0 4))).2 ∧ s'.mem = s.mem)))
  ∧ (∀ (s : State) (t : Txn),
      let a := t.addr.toNat
      let mem := s.sec.mem t.src
      let rmw := fun (type n : Nat) (ox : Bool) => txnHeadOk t type true && t.len == 1 && ox && decide (a % n = 0) && deviceRange a n
      let d := (t.eseq - (s.ep t.src.toNat).expect).toNat
      ∀ x ∈ ([(.read t, txnHeadOk t 0 false && t.opx == 0 && deviceRange a (16 * t.len.toNat), mem),
          (.write t, txnHeadOk t 1 true && decide (t.opx.toNat < 16) && deviceRange a (writeBytesOf t), mem),
          (.enq t, enqHeaderOk t, s.sec.serves t.src (s.queue (a % 2048)).ctx),
          (.signal t, txnHeadOk t 3 true && t.opx == 0 && t.len == 1 && signalAddrOk t.addr, s.sec.serves t.src (s.region (a % 64)).ctx.toNat),
          (.atomic t, rmw 4 4 (decide (t.opx.toNat < 15)), mem), (.xchg64 t, rmw 4 8 (t.opx == 0x10), mem),
          (.cas64 t, rmw 4 8 (t.opx == 0x11), mem), (.reduce t, rmw 5 4 (decide (t.opx.toNat < 10)), mem)] : List (Instr × Bool × Bool)),
        (t.dst ≠ Config.endpoint → exec x.1 s = .next (s.relay t))
        ∧ (t.dst = Config.endpoint → 1 ≤ d → d < 256 → ∃ s', exec x.1 s = .next s' ∧ t ∈ (s'.ep t.src.toNat).held
            ∧ (s'.ep t.src.toNat).expect = (s.ep t.src.toNat).expect ∧ s'.outq = s.outq ∧ s'.mem = s.mem)
        ∧ (t.dst = Config.endpoint → 256 ≤ d → d < 65280 → exec x.1 s = .next s)
        ∧ (t.dst = Config.endpoint → 65280 ≤ d →
            (∀ y, (s.ep t.src.toNat).answers.find? (fun y => y.eseq == t.eseq) = some y → exec x.1 s = .next { s with outq := s.outq ++ [y.txn] })
            ∧ ((s.ep t.src.toNat).answers.find? (fun y => y.eseq == t.eseq) = none → exec x.1 s = .next s))
        ∧ (s.due t → s.sec.boot = .fail → Answers x.1 s t (answerTo t 7 0x11 []) (fun s' => s'.mem = s.mem))
        ∧ (s.due t → s.sec.boot ≠ .fail → x.2.1 = false → Answers x.1 s t (answerTo t 7 0x10 []) (fun s' => s'.mem = s.mem))
        ∧ (s.due t → s.sec.boot ≠ .fail → x.2.1 = true → x.2.2 = false → Answers x.1 s t (answerTo t 7 0x11 []) (fun s' => s'.mem = s.mem)))
  ∧ (∀ (s : State) (t : Txn), s.Inv → s.due t → s.sec.boot ≠ .fail → s.sec.mem t.src = true →
      let a := t.addr.toNat
      let n := 16 * t.len.toNat
      let nw := writeBytesOf t
      (txnHeadOk t 0 false = true → t.opx = 0 → deviceRange a n = true →
        ∃ l, l.length = n ∧ (∀ j, j < n → l[j]? = some (if s.poisoned (a + j) 1 false = true then 0 else s.mem.read (a + j)))
          ∧ Answers (.read t) s t (answerTo t 6 0 l) (fun s' => s'.mem = s.mem ∧ (s.flaws = [] → s'.poison = s.poison)))
      ∧ (txnHeadOk t 1 true = true → t.opx.toNat < 16 → deviceRange a nw = true →
          Answers (.write t) s t (answerTo t 6 0 []) (fun s' =>
            (s.poisoned a (t.data.take nw).length true = true → s'.mem = s.mem)
            ∧ (s.poisoned a (t.data.take nw).length true = false →
                (∀ j, j < nw → t.data[j]? ≠ none → some (s'.mem.read (a + j)) = t.data[j]?)
                ∧ ∀ b, (b < a ∨ a + nw ≤ b) → s'.mem.read b = s.mem.read b)))
      ∧ (∀ op, (op < 15 → txnHeadOk t 4 true = true → t.len = 1 → t.opx.toNat = op → a % 4 = 0 → deviceRange a 4 = true →
          let old := Word.ofNat (s.mem.readN a 4)
          let new := atomicNew (BitVec.ofNat 8 (0xAB + op)) old (wordAt t.data 0) (wordAt t.data 4)
          (s.poisoned a 4 false = true → Answers (.atomic t) s t (answerTo t 6 0 (unitOf 0 4)) (fun s' => s'.mem = s.mem))
          ∧ (s.poisoned a 4 false = false → Answers (.atomic t) s t (answerTo t 6 0 (unitOf (s.mem.readN a 4) 4)) (fun s' =>
              s'.mem = if new.2 = true then s.mem.writeN a 4 new.1.toNat else s.mem)))
        ∧ (op < 10 → txnHeadOk t 5 true = true → t.len = 1 → t.opx.toNat = op → a % 4 = 0 → deviceRange a 4 = true →
          Answers (.reduce t) s t (answerTo t 6 0 []) (fun s' => s'.mem = if s.poisoned a 4 false = true then s.mem else
            s.mem.writeN a 4 (atomicNew (reduceAs (BitVec.ofNat 8 (0xBA + op))) (Word.ofNat (s.mem.readN a 4)) (wordAt t.data 0) 0).1.toNat)))
      ∧ (txnHeadOk t 4 true = true → t.len = 1 → a % 8 = 0 → deviceRange a 8 = true → s.poisoned a 8 false = false →
          let old := s.mem.readN a 8
          (t.opx = 0x10 → Answers (.xchg64 t) s t (answerTo t 6 0 (unitOf old 8)) (fun s' => s'.mem = s.mem.writeN a 8 (dwordAt t.data 0)))
          ∧ (t.opx = 0x11 → Answers (.cas64 t) s t (answerTo t 6 0 (unitOf old 8)) (fun s' =>
              s'.mem = if old = dwordAt t.data 8 then s.mem.writeN a 8 (dwordAt t.data 0) else s.mem))))
  ∧ (∀ (s : State) (t : Txn), s.due t → s.sec.boot ≠ .fail → txnHeadOk t 3 true = true → t.opx = 0 → t.len = 1 → signalAddrOk t.addr = true →
      s.sec.serves t.src (s.region (t.addr.toNat % 64)).ctx.toNat = true →
      let reg := t.addr.toNat % 64
      let g : Signal := { id := s.fresh, region := reg, h := BitVec.ofNat 4 (t.addr.toNat / 2 ^ 8), payload := wordAt t.data 0, fab := true
                          sender := t.src.toNat, reply := t.eseq.toNat }
      let c := s.ctx (s.ctxOfRegion reg)
      (s.sigDecide g = .fenced → Answers (.signal t) s t (answerTo t 7 8 []) (fun s' => s'.mem = s.mem ∧ s'.regions = s.regions))
      ∧ (s.sigDecide g = .busy → Answers (.signal t) s t (answerTo t 7 7 []) (fun s' => s'.mem = s.mem ∧ s'.regions = s.regions))
      ∧ (∀ d tok, s.sigDecide g = .token d tok → kindOfTile d.tile = .c → d.port < 8 →
          Answers (.signal t) s t (answerTo t 6 0 []) (fun s' => ((s'.ports d.tile d.unit).inAt d.port).buf =
            ((s.ports d.tile d.unit).inAt d.port).buf ++ [tok]))
      ∧ (s.sigDecide g = .event → c.st ≠ .free → c.st ≠ .faulted → Answers (.signal t) s t (answerTo t 6 0 []) (fun s' =>
          ∃ r, (s'.ctx (s.ctxOfRegion reg)).events = c.events ++ [(none, r)]))
      ∧ (∀ reason, s.sigDecide g = .unhandled reason →
          (32 ≤ (s.region reg).unh.length → Answers (.signal t) s t (answerTo t 7 7 []) (fun s' => s'.regions = s.regions))
          ∧ ((s.region reg).unh.length < 32 → Answers (.signal t) s t (answerTo t 6 0 []) (fun s' => ∃ u : Unhandled,
              (s'.region reg).unh = (s.region reg).unh ++ [u] ∧ u.payload = g.payload ∧ u.reason = reason ∧ u.entry = g.h
              ∧ u.fab = true ∧ u.stamp = s.cycleOf reg))))
  ∧ (∀ (s : State) (t : Txn),
      let ep := t.src.toNat
      let ends := { s.ep ep with sent := (s.ep ep).sent.filter (fun x => x.1.eseq != t.eseq) }
      let ok := t.type = 6 ∨ t.type = 7 ∨ ∃ k, k < 18 ∧ (s.link k).carries = true ∧ Config.reaches k t.dst = true
      (ok → s.relay t = { s with outq := s.outq ++ [t] })
      ∧ (¬ ok → s.relay t = { s with outq := s.outq ++
          [{ type := 7, dst := t.src, src := t.dst, eseq := t.eseq, len := 0, opx := 0x12, addr := 0, data := [] }] })
      ∧ (t.dst ≠ Config.endpoint → exec (.response t) s = .next (s.relay t) ∧ exec (.nack t) s = .next (s.relay t))
      ∧ (t.dst = Config.endpoint → (s.ep ep).sent.find? (fun x => x.1.eseq == t.eseq) = none → exec (.response t) s = .next s)
      ∧ (∀ q age, t.dst = Config.endpoint → (s.ep ep).sent.find? (fun x => x.1.eseq == t.eseq) = some (q, age) →
          (responseOk q t = false → exec (.response t) s = .next s)
          ∧ (responseOk q t = true → ∃ s', exec (.response t) s = .next s' ∧ s'.ep ep = ends ∧ s'.mem = s.mem
            ∧ s'.accs = s.accs.map (fun a => if a.st = .fabric ep t.eseq.toNat then
                a.answered (q.addr.toNat / 16 * 16 + a.va % 16) t.data else a)))
      ∧ (∀ (a : Access) (pa : Nat), (∀ op v, a.act ≠ .combine op v) → (∀ op v old, a.act ≠ .swap op v old) →
          a.answered pa t.data = { a with st := .done (answerValue a t.data) })
      ∧ (∀ (a : Access) (pa : Nat) (op : BitVec 4) (v : Dword), a.act = .combine op v → a.size = 4 → a.answered pa t.data = { a with st := .done 0 })
      ∧ (t.dst = Config.endpoint → (nackOk t = false ∨ t.opx = 0x07 ∨ t.opx = 0x12) → exec (.nack t) s = .next s)
      ∧ (t.dst = Config.endpoint → nackOk t = true → t.opx ≠ 0x07 → t.opx ≠ 0x12 → exec (.nack t) s = .next (s.setEp ep ends)))
  ∧ (∀ (s : State) (ep : Nat) (eseq : BitVec 16),
      let hit := (s.ep ep).sent.find? (fun x => x.1.eseq == eseq)
      (hit = none → exec (.transactionResend ep eseq) s = .next s)
      ∧ (∀ t age, hit = some (t, age) →
          (age < 225000 → exec (.transactionResend ep eseq) s = .next s)
          ∧ (225000 ≤ age → ∃ s', exec (.transactionResend ep eseq) s = .next s' ∧ s'.outq = s.outq ++ [t]
              ∧ (s'.ep ep).sent = (s.ep ep).sent.map (fun x => if x.1.eseq = eseq then (x.1, 0) else x) ∧ s'.mem = s.mem)))

/-- R410, R418 to R424, R428 to R437: management, protection and security.
The model's choices among this: memory after a device reset (log 59), a ring in a hole (log 67), the class and the numbers of scrubbed
groups (logs 53, 27), and the 32 bits of MEASMASK (log 52). -/
def Obligations.Management : Prop :=
  (∀ (s : State),
      let c := s.sec
      let starts := c.boot = .reset ∨ c.boot = .verifying
      exec .deviceReset s = .next { State.reset with inputs := s.inputs, tick := s.tick }
      ∧ exec .pllLockLoss s = .next { State.reset with inputs := s.inputs, tick := s.tick }
      ∧ (¬ starts → exec .boot s = .next s)
      ∧ (starts → fwOk 0 = false → fwOk 1 = false → exec .boot s = .next { s with sec := { c with boot := .fail, idpub := Config.devicePub } })
      ∧ (∀ copy, starts → (copy = 0 ∧ fwOk 0 = true ∨ copy = 1 ∧ fwOk 0 = false ∧ fwOk 1 = true) → ∃ c', exec .boot s = .next { s with sec := c' }
          ∧ c'.boot = .running ∧ c'.copy = (copy == 1) ∧ c'.fwver = Word.ofNat (fwField copy 4 4) ∧ c'.fwmeas = fwDigest copy
          ∧ c'.acl[0] = { v := true, admin := true, ep := BitVec.ofNat 12 (fwField copy 16 2) }
          ∧ (∀ k, (h : k < 64) → k ≠ 0 → c'.acl[k] = ({} : Acl))))
  ∧ (∀ (s : State) (k : Nat) (v : Word), k < 64 →
      let c := s.ctx k
      let r := s.region k
      let at_ := fun (o : Nat) => Instr.registerWrite (0x10000 + 256 * k + o) (v.setWidth 64) false
      let reg := fun (o : Nat) => Instr.registerWrite (0x100000 + 16384 * k + o) (v.setWidth 64) false
      exec (at_ 0x2C) s = .next (s.setCtx k { c with fqhead := Word.ofNat (fldN v 0 16) })
      ∧ exec (at_ 0x44) s = .next (s.setCtx k { c with eqhead := Word.ofNat (fldN v 0 16) })
      ∧ exec (at_ 0x64) s = .next (s.setCtx k { c with dlctl := Word.ofNat (fldN v 0 1) })
      ∧ (c.st ≠ .free → exec (at_ 0x18) s = .next (s.setCtx k { c with status := 1 })
          ∧ exec (at_ 0x20) s = .next (s.setCtx k { c with status := 1 }) ∧ exec (at_ 0x70) s = .next (s.setCtx k { c with status := 1 }))
      ∧ (c.st = .free →
          exec (at_ 0x28) s = .next (s.setCtx k { c with fqlen := Word.ofNat (fldN v 0 16) })
          ∧ exec (at_ 0x40) s = .next (s.setCtx k { c with eqlen := Word.ofNat (fldN v 0 16) })
          ∧ exec (at_ 0x18) s = .next (s.setCtx k { c with ptroot := setHalf c.ptroot false v })
          ∧ exec (at_ 0x1C) s = .next (s.setCtx k { c with ptroot := setHalf c.ptroot true v })
          ∧ (∀ w : Dword, exec (.registerWrite (0x10000 + 256 * k + 0x18) w true) s = .next (s.setCtx k { c with ptroot := w })))
      ∧ (r.st = .fenced → exec (reg 0x80) s = .next s)
      ∧ (r.st ≠ .fenced → exec (reg 0x80) s = .next (s.setRegion k { r with fsel := v })
          ∧ exec (reg 0x180) s = .next (s.setRegion k { r with sigstage := setHalf r.sigstage false v }))
      ∧ (r.st ≠ .fenced → s.mgmtWord (0x100000 + 16384 * k + 0x80) = r.fsel &&& 0xFFFFFF00
          ∧ s.mgmtWord (0x100000 + 16384 * k + 0xC0) = r.usel.setWidth 32 &&& 0xFFFFFF00
          ∧ s.mgmtWord (0x100000 + 16384 * k + 0x180) = r.sigstage.setWidth 32 &&& 0xFFFFFF00
          ∧ s.mgmtWord (0x100000 + 16384 * k + 0x184) = (r.sigstage >>> 32).setWidth 32 &&& 0xFC00FFFF))
  ∧ (∀ (s : State) (k : Nat) (v : Word), k < 2048 →
      let q := s.queue k
      let at_ := fun (o : Nat) => Instr.registerWrite (0x20000 + 64 * k + o) (v.setWidth 64) false
      (q.st ≠ .disabled → exec (at_ 0x18) s = .next (s.setQueue k { q with status := 1 })
        ∧ exec (at_ 0x20) s = .next (s.setQueue k { q with status := 1 }))
      ∧ (q.st = .disabled → exec (at_ 0x18) s = .next (s.setQueue k { q with spbase := setHalf q.spbase false v })
          ∧ exec (at_ 0x20) s = .next (s.setQueue k { q with splen := Word.ofNat (fldN v 0 16) })
          ∧ exec (at_ 0x10) s = .next (s.setQueue k { q with cfg := Word.ofNat (fldN v 16 6 * 2 ^ 16 + fldN v 0 2) }))
      ∧ (q.st = .paused → exec (at_ 0x10) s = .next (s.setQueue k { q with cfg := Word.ofNat (fldN q.cfg 16 6 * 2 ^ 16 + fldN v 0 2) }))
      ∧ (∀ x ∈ ([(1, .queueEnable k), (2, .queueDisable k), (3, .pause k), (4, .unpause k), (5, .close k), (6, .clear k)] : List (Nat × Ev)),
          s.mgmtWrite (0x20000 + 64 * k + 8) (BitVec.ofNat 64 (x.1 * 2 ^ 60)) true =
            { s.setQueue k { q with status := 0xFF } with agenda := s.agenda ++ [.ev x.2] }))
  ∧ (∀ (s : State) (v : Word) (off : Nat),
      let c := s.sec
      let d := s.dfl
      let k := (off - 0x400) / 16
      let sh := 32 * (off % 16 / 4)
      let all := c.aclNew.foldl (fun (u : Vector Acl 64) x => u.set (x.1 % 64) x.2.1 (Nat.mod_lt _ (by decide))) c.acl
      let old := (all[k % 64]'(Nat.mod_lt _ (by decide))).bits
      let a := aclOf (old / 2 ^ (sh + 32) * 2 ^ (sh + 32) + v.toNat * 2 ^ sh + old % 2 ^ sh)
      let after := all.set (k % 64) a (Nat.mod_lt _ (by decide))
      exec (.registerWrite 0x110C (v.setWidth 64) false) s = .next { s with dfl := { d with head := Word.ofNat (fldN v 0 16) } }
      ∧ (d.en = true → exec (.registerWrite 0x1100 (v.setWidth 64) false) s = .next s)
      ∧ (d.en = false → exec (.registerWrite 0x1100 (v.setWidth 64) false) s = .next { s with dfl := { d with base := setHalf d.base false v } })
      ∧ (0x400 ≤ off → off < 0x800 →
          ((∃ x ∈ after.toList, x.v = true ∧ x.admin = true) → exec (.aclWrite off (v.setWidth 64) false) s = .next { s with
            sec := { c with aclNew := c.aclNew ++ [(k, a, none)] } })
          ∧ ((∀ x ∈ after.toList, x.v = true → x.admin = false) → exec (.aclWrite off (v.setWidth 64) false) s = .next s))
      ∧ (∀ w : Dword, 0x400 ≤ off → off < 0x800 → off % 8 = 0 →
          let a8 := aclOf (if off % 16 = 0 then old / 2 ^ 64 * 2 ^ 64 + w.toNat else w.toNat * 2 ^ 64 + old % 2 ^ 64)
          let after8 := all.set (k % 64) a8 (Nat.mod_lt _ (by decide))
          ((∃ x ∈ after8.toList, x.v = true ∧ x.admin = true) → exec (.aclWrite off w true) s = .next { s with
            sec := { c with aclNew := c.aclNew ++ [(k, a8, none)] } })
          ∧ ((∀ x ∈ after8.toList, x.v = true → x.admin = false) → exec (.aclWrite off w true) s = .next s))
      ∧ (∀ wide, ∃ s', exec (.measmaskWrite (v.setWidth 64) wide) s = .next s' ∧ s'.sec = { c with measmask := v }
          ∧ (∀ j x, Table.get? s.ctxs j = some x → Table.get? s'.ctxs j = some (if j < 32 ∧ v.getLsbD j = true ∧ c.measmask.getLsbD j = false
              then { x with meas := 0 } else x))))
  ∧ (∀ (s : State) (cmd : Dword),
      let c := s.sec
      let a := cmd.toNat % 2 ^ 52
      let ok := a % 256 = 0 ∧ areaOk a 256 = true
      (c.attstatus = 0xFF → exec (.report cmd) s = .next s)
      ∧ (c.attstatus ≠ 0xFF → ¬ ok → exec (.report cmd) s = .next { s with sec := { c with attstatus := 1 } })
      ∧ (c.attstatus ≠ 0xFF → ok → exec (.report cmd) s = .next { s with sec := { c with
          attstatus := 0xFF, report := some (BitVec.ofNat 52 a, cmd, none) } })
      ∧ (s.reportBody cmd).length = 192
      ∧ (∀ b, c.report = some (b, cmd, none) → s.takeReport = { s with sec := { c with report := some (b, cmd, some (s.reportBody cmd)) } })
      ∧ ((∀ b d l, c.report ≠ some (b, d, some l)) → exec .reportDone s = .next s)
      ∧ (∀ b d l, s.Inv → c.report = some (b, d, some l) → ∃ s', exec .reportDone s = .next s' ∧ s'.sec = { c with attstatus := 0, report := none }
          ∧ (∀ j, j < l.length → some (s'.mem.read (b.toNat + j)) = l[j]?)
          ∧ (∀ j, j < 64 → s'.mem.read (b.toNat + l.length + j) = BitVec.ofNat 8 ((Config.sm2Sign l).toNat / 256 ^ (63 - j)))
          ∧ ∀ x, (x < b.toNat ∨ b.toNat + l.length + 64 ≤ x) → s'.mem.read x = s.mem.read x))
  ∧ (∀ (s : State) (t : Txn), s.due t →
      let off := t.addr.toNat
      let wide := t.opx.getLsbD 1
      let free := t.opx.getLsbD 0 = false ∧ (off < 0x1000 ∨ 0x3000 ≤ off ∧ off < 0x4000)
      let nack := fun (r : Byte) => Answers (.mgmt t) s t (answerTo t 7 r []) (fun s' => s'.mem = s.mem ∧ s'.ctxs = s.ctxs ∧ s'.queues = s.queues)
      (s.sec.boot = .fail → (mgmtHdr t = false ∨ ¬ free) → nack 0x11)
      ∧ (s.sec.boot ≠ .fail → mgmtHdr t = false → nack 0x10)
      ∧ (s.sec.boot ≠ .fail → mgmtHdr t = true → ¬ free → s.mgmtAllowed t = false → nack 0x11)
      ∧ (mgmtHdr t = true → t.opx.getLsbD 0 = false → (free ∨ (s.sec.boot ≠ .fail ∧ s.mgmtAllowed t = true)) →
          Answers (.mgmt t) s t (answerTo t 6 0 (unitOf ((s.mgmtWord off).toNat + if wide = true then 2 ^ 32 * (s.mgmtWord (off + 4)).toNat else 0)
            (if wide = true then 8 else 4))) (fun s' => s'.mem = s.mem ∧ s'.ctxs = s.ctxs ∧ s'.queues = s.queues))
      ∧ (mgmtHdr t = true → t.opx.getLsbD 0 = true → s.sec.boot ≠ .fail → s.mgmtAllowed t = true → ∃ s',
          exec (.mgmt t) s = .next s' ∧ s'.outq.getLast? = some (answerTo t 6 0 [])
          ∧ (let w := (s.counted t).mgmtWrite off (BitVec.ofNat 64 (dwordAt t.data 0)) wide
             s'.mem = w.mem ∧ s'.ctxs = w.ctxs ∧ s'.queues = w.queues ∧ s'.regions = w.regions ∧ s'.links = w.links ∧ s'.tasks = w.tasks
              ∧ s'.dfl = w.dfl ∧ s'.tinv = w.tinv ∧ s'.sec.acl = w.sec.acl ∧ s'.agenda = w.agenda)))
  ∧ (∀ (s : State) (g : Nat),
      let gs := groupStart g
      let x := groupOf g
      let b := s.bank x.key
      let sound := gs ∉ s.poison ∧ (∀ f ∈ s.flaws, f.group ≠ gs)
      let hit := fun (bank : Nat) => ({ b with hits := if b.hits.contains (bank, gs) then b.hits else b.hits ++ [(bank, gs)] } : Banks)
      (sound → b.worse.length < 16 → exec (.scrubPass g none) s = .next s)
      ∧ (∀ f, gs ∉ s.poison → s.flaws.find? (fun f => f.group == gs) = some f → b.failed = none → b.worse.length < 16 →
          ((hit f.bank).count f.bank < 16 → exec (.scrubPass g none) s = .next { s with
            banks := Table.put s.banks x.key (hit f.bank), flaws := s.flaws.filter (fun f => f.group != gs) })
          ∧ (16 ≤ (hit f.bank).count f.bank → ∃ s', exec (.scrubPass g none) s = .next s' ∧ (s'.bank x.key).failed = some f.bank
              ∧ s'.mem = s.mem ∧ (s.dfl.hold.length < 64 → ∃ r, s'.dfl.hold = s.dfl.hold ++ [r])))
      ∧ (∀ bank, bank < 18 → sound → b.failed = none → b.worse.length < 16 → (hit bank).count bank < 16 →
          exec (.scrubPass g (some bank)) s = .next (if groupExists g = true then { s with
            banks := Table.put s.banks x.key (hit bank), tick := s.tick + 1 } else { s with tick := s.tick + 1 }))
      ∧ (∀ bank f, bank < 18 → f < 18 → bank ≠ f → sound → b.failed = some f → b.worse.length < 15 → groupExists g = true →
          (∀ r e, x ≠ .cache r e) → ∃ s', exec (.scrubPass g (some bank)) s = .next s' ∧ gs ∈ s'.poison ∧ s'.mem = s.mem
          ∧ (s'.bank x.key).worse = (if b.worse.contains gs then b.worse else b.worse ++ [gs]))
      ∧ (∀ bank, 18 ≤ bank → (∀ r e, x ≠ .cache r e) → b.worse.length < 15 → ∃ s', exec (.scrubPass g (some bank)) s = .next s'
          ∧ gs ∈ s'.poison ∧ (∀ p ∈ s.poison, p ∈ s'.poison) ∧ s'.mem = s.mem
          ∧ (gs ∉ s.poison → s.dfl.hold.length < 64 → ∃ r, s'.dfl.hold = s.dfl.hold ++ [r]))
      ∧ (∀ bank f, 18 ≤ bank → b.failed = some f → x.key < 2048 → b.worse.length = 15 → gs ∉ b.worse →
          (s.region (regionOfTile (x.key % 1024))).st ≠ .fenced → ∃ s', exec (.scrubPass g (some bank)) s = .next s'
          ∧ (s'.region (regionOfTile (x.key % 1024))).st = .fenced)
      ∧ (∀ bank r e, 18 ≤ bank → x = .cache r e → e < 4 → ∃ s', exec (.scrubPass g (some bank)) s = .next s'
          ∧ ((s'.region r).entry e).bad = true ∧ (s'.region r).st = (s.region r).st ∧ s'.mem = s.mem))
  ∧ (∀ (s : State),
      exec .powerGovernorSample s = .next { s with govAge := 0, throttle := overLimit ((s.cycleOf 0).toNat / 256) })
  ∧ (∀ (s : State),
      let d := s.dfl
      let a := d.base.toNat + 32 * d.tail.toNat
      let n := fldN d.len 0 16 + 1
      let full := (d.tail.toNat + 1) % n = d.head.toNat
      (d.hold = [] → exec .dflRecordWrite s = .next s)
      ∧ ((fldN d.len 31 1 = 0 ∨ full) → exec .dflRecordWrite s = .next s)
      ∧ (∀ r rest, d.hold = r :: rest → fldN d.len 31 1 = 1 → ¬ full →
          ((rangeOk a 32 && isDevice a) = false → exec .dflRecordWrite s = .fault .hole)
          ∧ ((rangeOk a 32 && isDevice a) = true → exec .dflRecordWrite s = .next { ({ s with mem := s.mem.writeWords a r }.clearPoison a 32)
              with dfl := { d with hold := rest, tail := Word.ofNat ((d.tail.toNat + 1) % n) } }))
      ∧ (∀ r, (d.hold.length < 64 → s.dflLog r = { s with dfl := { d with hold := d.hold ++ [r] } })
          ∧ (64 ≤ d.hold.length → fldN d.len 31 1 = 0 → s.dflLog r = { s with dfl := { d with lost := satAdd d.lost 1 } })))
end

