-- ==== Sys2Proof/Laws/State.lean ====
section
/-! SUPPORT. What each update of the state leaves alone and what it can be read back as. -/

-- One theorem after another: each then needs one thread only.
set_option Elab.async false


namespace Sys2Proof

theorem Table.get?_put_same {α : Type} (t : Table α) (k : Nat) (v : α) : (t.put k v).get? k = some v := by
  induction t with
  | nil => simp [Table.put, Table.get?]
  | cons h t ih =>
    obtain ⟨j, w⟩ := h
    simp only [Table.put]
    split
    · simp [Table.get?]
    · split
      · simp [Table.get?]
      · rename_i h1 h2; simp [Table.get?, h2, ih]

theorem Table.get?_put_other {α : Type} (t : Table α) (k j : Nat) (v : α) (h : j ≠ k) :
    (t.put k v).get? j = t.get? j := by
  induction t with
  | nil => simp [Table.put, Table.get?, Ne.symm h]
  | cons p t ih =>
    obtain ⟨i, w⟩ := p
    simp only [Table.put]
    split
    · simp [Table.get?, Ne.symm h]
    · split
      · rename_i h2; subst h2; simp [Table.get?, Ne.symm h]
      · simp [Table.get?, ih]

@[simp] theorem Table.getD_put_same {α : Type} (t : Table α) (k : Nat) (v d : α) : (t.put k v).getD k d = v := by
  simp [Table.getD, Table.get?_put_same]

@[simp] theorem Table.getD_put_other {α : Type} (t : Table α) (k j : Nat) (v d : α) (h : j ≠ k) :
    (t.put k v).getD j d = t.getD j d := by
  simp [Table.getD, Table.get?_put_other _ _ _ _ h]

end Sys2Proof

namespace Sys2Proof.Machine

/-! State.setElem. -/

@[simp] theorem State.setElem_chans (s : State) (k : Nat) (x : Elem) : (s.setElem k x).chans = s.chans := rfl
@[simp] theorem State.setElem_wheys (s : State) (k : Nat) (x : Elem) : (s.setElem k x).wheys = s.wheys := rfl
@[simp] theorem State.setElem_copies (s : State) (k : Nat) (x : Elem) : (s.setElem k x).copies = s.copies := rfl
@[simp] theorem State.setElem_presses (s : State) (k : Nat) (x : Elem) : (s.setElem k x).presses = s.presses := rfl
@[simp] theorem State.setElem_units (s : State) (k : Nat) (x : Elem) : (s.setElem k x).units = s.units := rfl
@[simp] theorem State.setElem_loupes (s : State) (k : Nat) (x : Elem) : (s.setElem k x).loupes = s.loupes := rfl
@[simp] theorem State.setElem_mem (s : State) (k : Nat) (x : Elem) : (s.setElem k x).mem = s.mem := rfl
@[simp] theorem State.setElem_accs (s : State) (k : Nat) (x : Elem) : (s.setElem k x).accs = s.accs := rfl
@[simp] theorem State.setElem_pwalks (s : State) (k : Nat) (x : Elem) : (s.setElem k x).pwalks = s.pwalks := rfl
@[simp] theorem State.setElem_tlbs (s : State) (k : Nat) (x : Elem) : (s.setElem k x).tlbs = s.tlbs := rfl
@[simp] theorem State.setElem_bars (s : State) (k : Nat) (x : Elem) : (s.setElem k x).bars = s.bars := rfl
@[simp] theorem State.setElem_waiters (s : State) (k : Nat) (x : Elem) : (s.setElem k x).waiters = s.waiters := rfl
@[simp] theorem State.setElem_releases (s : State) (k : Nat) (x : Elem) : (s.setElem k x).releases = s.releases := rfl
@[simp] theorem State.setElem_poison (s : State) (k : Nat) (x : Elem) : (s.setElem k x).poison = s.poison := rfl
@[simp] theorem State.setElem_flaws (s : State) (k : Nat) (x : Elem) : (s.setElem k x).flaws = s.flaws := rfl
@[simp] theorem State.setElem_banks (s : State) (k : Nat) (x : Elem) : (s.setElem k x).banks = s.banks := rfl
@[simp] theorem State.setElem_residue (s : State) (k : Nat) (x : Elem) : (s.setElem k x).residue = s.residue := rfl
@[simp] theorem State.setElem_upsets (s : State) (k : Nat) (x : Elem) : (s.setElem k x).upsets = s.upsets := rfl
@[simp] theorem State.setElem_lost (s : State) (k : Nat) (x : Elem) : (s.setElem k x).lost = s.lost := rfl
@[simp] theorem State.setElem_regions (s : State) (k : Nat) (x : Elem) : (s.setElem k x).regions = s.regions := rfl
@[simp] theorem State.setElem_signals (s : State) (k : Nat) (x : Elem) : (s.setElem k x).signals = s.signals := rfl
@[simp] theorem State.setElem_tasks (s : State) (k : Nat) (x : Elem) : (s.setElem k x).tasks = s.tasks := rfl
@[simp] theorem State.setElem_dslot (s : State) (k : Nat) (x : Elem) : (s.setElem k x).dslot = s.dslot := rfl
@[simp] theorem State.setElem_dptrs (s : State) (k : Nat) (x : Elem) : (s.setElem k x).dptrs = s.dptrs := rfl
@[simp] theorem State.setElem_daged (s : State) (k : Nat) (x : Elem) : (s.setElem k x).daged = s.daged := rfl
@[simp] theorem State.setElem_reserve (s : State) (k : Nat) (x : Elem) : (s.setElem k x).reserve = s.reserve := rfl
@[simp] theorem State.setElem_saves (s : State) (k : Nat) (x : Elem) : (s.setElem k x).saves = s.saves := rfl
@[simp] theorem State.setElem_heads (s : State) (k : Nat) (x : Elem) : (s.setElem k x).heads = s.heads := rfl
@[simp] theorem State.setElem_ctxs (s : State) (k : Nat) (x : Elem) : (s.setElem k x).ctxs = s.ctxs := rfl
@[simp] theorem State.setElem_queues (s : State) (k : Nat) (x : Elem) : (s.setElem k x).queues = s.queues := rfl
@[simp] theorem State.setElem_tinv (s : State) (k : Nat) (x : Elem) : (s.setElem k x).tinv = s.tinv := rfl
@[simp] theorem State.setElem_links (s : State) (k : Nat) (x : Elem) : (s.setElem k x).links = s.links := rfl
@[simp] theorem State.setElem_eps (s : State) (k : Nat) (x : Elem) : (s.setElem k x).eps = s.eps := rfl
@[simp] theorem State.setElem_outq (s : State) (k : Nat) (x : Elem) : (s.setElem k x).outq = s.outq := rfl
@[simp] theorem State.setElem_dfl (s : State) (k : Nat) (x : Elem) : (s.setElem k x).dfl = s.dfl := rfl
@[simp] theorem State.setElem_throtcnt (s : State) (k : Nat) (x : Elem) : (s.setElem k x).throtcnt = s.throtcnt := rfl
@[simp] theorem State.setElem_govAge (s : State) (k : Nat) (x : Elem) : (s.setElem k x).govAge = s.govAge := rfl
@[simp] theorem State.setElem_throttle (s : State) (k : Nat) (x : Elem) : (s.setElem k x).throttle = s.throttle := rfl
@[simp] theorem State.setElem_sec (s : State) (k : Nat) (x : Elem) : (s.setElem k x).sec = s.sec := rfl
@[simp] theorem State.setElem_agenda (s : State) (k : Nat) (x : Elem) : (s.setElem k x).agenda = s.agenda := rfl
@[simp] theorem State.setElem_cur (s : State) (k : Nat) (x : Elem) : (s.setElem k x).cur = s.cur := rfl
@[simp] theorem State.setElem_inputs (s : State) (k : Nat) (x : Elem) : (s.setElem k x).inputs = s.inputs := rfl
@[simp] theorem State.setElem_round (s : State) (k : Nat) (x : Elem) : (s.setElem k x).round = s.round := rfl
@[simp] theorem State.setElem_tick (s : State) (k : Nat) (x : Elem) : (s.setElem k x).tick = s.tick := rfl
@[simp] theorem State.setElem_fresh (s : State) (k : Nat) (x : Elem) : (s.setElem k x).fresh = s.fresh := rfl

@[simp] theorem State.setElem_copyEngAt (s : State) (k : Nat) (x : Elem) (j : Nat) : (s.setElem k x).copyEng j = s.copyEng j := rfl
@[simp] theorem State.setElem_pressAt (s : State) (k : Nat) (x : Elem) (j : Nat) : (s.setElem k x).press j = s.press j := rfl
@[simp] theorem State.setElem_loupeAt (s : State) (k : Nat) (x : Elem) (j : Nat) : (s.setElem k x).loupe j = s.loupe j := rfl
@[simp] theorem State.setElem_regionAt (s : State) (k : Nat) (x : Elem) (j : Nat) : (s.setElem k x).region j = s.region j := rfl
@[simp] theorem State.setElem_ctxAt (s : State) (k : Nat) (x : Elem) (j : Nat) : (s.setElem k x).ctx j = s.ctx j := rfl
@[simp] theorem State.setElem_queueAt (s : State) (k : Nat) (x : Elem) (j : Nat) : (s.setElem k x).queue j = s.queue j := rfl
@[simp] theorem State.setElem_linkAt (s : State) (k : Nat) (x : Elem) (j : Nat) : (s.setElem k x).link j = s.link j := rfl
@[simp] theorem State.setElem_epAt (s : State) (k : Nat) (x : Elem) (j : Nat) : (s.setElem k x).ep j = s.ep j := rfl
@[simp] theorem State.setElem_tlbAt (s : State) (k : Nat) (x : Elem) (j : Nat) : (s.setElem k x).tlb j = s.tlb j := rfl
@[simp] theorem State.setElem_unitAt (s : State) (k : Nat) (x : Elem) (j : Nat) : (s.setElem k x).unit? j = s.unit? j := rfl
@[simp] theorem State.setElem_taskAt (s : State) (k : Nat) (x : Elem) (j : Nat) : (s.setElem k x).task? j = s.task? j := rfl

/-! State.setCopy. -/

@[simp] theorem State.setCopy_elems (s : State) (k : Nat) (x : CopyEng) : (s.setCopy k x).elems = s.elems := rfl
@[simp] theorem State.setCopy_chans (s : State) (k : Nat) (x : CopyEng) : (s.setCopy k x).chans = s.chans := rfl
@[simp] theorem State.setCopy_wheys (s : State) (k : Nat) (x : CopyEng) : (s.setCopy k x).wheys = s.wheys := rfl
@[simp] theorem State.setCopy_presses (s : State) (k : Nat) (x : CopyEng) : (s.setCopy k x).presses = s.presses := rfl
@[simp] theorem State.setCopy_units (s : State) (k : Nat) (x : CopyEng) : (s.setCopy k x).units = s.units := rfl
@[simp] theorem State.setCopy_loupes (s : State) (k : Nat) (x : CopyEng) : (s.setCopy k x).loupes = s.loupes := rfl
@[simp] theorem State.setCopy_mem (s : State) (k : Nat) (x : CopyEng) : (s.setCopy k x).mem = s.mem := rfl
@[simp] theorem State.setCopy_accs (s : State) (k : Nat) (x : CopyEng) : (s.setCopy k x).accs = s.accs := rfl
@[simp] theorem State.setCopy_pwalks (s : State) (k : Nat) (x : CopyEng) : (s.setCopy k x).pwalks = s.pwalks := rfl
@[simp] theorem State.setCopy_tlbs (s : State) (k : Nat) (x : CopyEng) : (s.setCopy k x).tlbs = s.tlbs := rfl
@[simp] theorem State.setCopy_bars (s : State) (k : Nat) (x : CopyEng) : (s.setCopy k x).bars = s.bars := rfl
@[simp] theorem State.setCopy_waiters (s : State) (k : Nat) (x : CopyEng) : (s.setCopy k x).waiters = s.waiters := rfl
@[simp] theorem State.setCopy_releases (s : State) (k : Nat) (x : CopyEng) : (s.setCopy k x).releases = s.releases := rfl
@[simp] theorem State.setCopy_poison (s : State) (k : Nat) (x : CopyEng) : (s.setCopy k x).poison = s.poison := rfl
@[simp] theorem State.setCopy_flaws (s : State) (k : Nat) (x : CopyEng) : (s.setCopy k x).flaws = s.flaws := rfl
@[simp] theorem State.setCopy_banks (s : State) (k : Nat) (x : CopyEng) : (s.setCopy k x).banks = s.banks := rfl
@[simp] theorem State.setCopy_residue (s : State) (k : Nat) (x : CopyEng) : (s.setCopy k x).residue = s.residue := rfl
@[simp] theorem State.setCopy_upsets (s : State) (k : Nat) (x : CopyEng) : (s.setCopy k x).upsets = s.upsets := rfl
@[simp] theorem State.setCopy_lost (s : State) (k : Nat) (x : CopyEng) : (s.setCopy k x).lost = s.lost := rfl
@[simp] theorem State.setCopy_regions (s : State) (k : Nat) (x : CopyEng) : (s.setCopy k x).regions = s.regions := rfl
@[simp] theorem State.setCopy_signals (s : State) (k : Nat) (x : CopyEng) : (s.setCopy k x).signals = s.signals := rfl
@[simp] theorem State.setCopy_tasks (s : State) (k : Nat) (x : CopyEng) : (s.setCopy k x).tasks = s.tasks := rfl
@[simp] theorem State.setCopy_dslot (s : State) (k : Nat) (x : CopyEng) : (s.setCopy k x).dslot = s.dslot := rfl
@[simp] theorem State.setCopy_dptrs (s : State) (k : Nat) (x : CopyEng) : (s.setCopy k x).dptrs = s.dptrs := rfl
@[simp] theorem State.setCopy_daged (s : State) (k : Nat) (x : CopyEng) : (s.setCopy k x).daged = s.daged := rfl
@[simp] theorem State.setCopy_reserve (s : State) (k : Nat) (x : CopyEng) : (s.setCopy k x).reserve = s.reserve := rfl
@[simp] theorem State.setCopy_saves (s : State) (k : Nat) (x : CopyEng) : (s.setCopy k x).saves = s.saves := rfl
@[simp] theorem State.setCopy_heads (s : State) (k : Nat) (x : CopyEng) : (s.setCopy k x).heads = s.heads := rfl
@[simp] theorem State.setCopy_ctxs (s : State) (k : Nat) (x : CopyEng) : (s.setCopy k x).ctxs = s.ctxs := rfl
@[simp] theorem State.setCopy_queues (s : State) (k : Nat) (x : CopyEng) : (s.setCopy k x).queues = s.queues := rfl
@[simp] theorem State.setCopy_tinv (s : State) (k : Nat) (x : CopyEng) : (s.setCopy k x).tinv = s.tinv := rfl
@[simp] theorem State.setCopy_links (s : State) (k : Nat) (x : CopyEng) : (s.setCopy k x).links = s.links := rfl
@[simp] theorem State.setCopy_eps (s : State) (k : Nat) (x : CopyEng) : (s.setCopy k x).eps = s.eps := rfl
@[simp] theorem State.setCopy_outq (s : State) (k : Nat) (x : CopyEng) : (s.setCopy k x).outq = s.outq := rfl
@[simp] theorem State.setCopy_dfl (s : State) (k : Nat) (x : CopyEng) : (s.setCopy k x).dfl = s.dfl := rfl
@[simp] theorem State.setCopy_throtcnt (s : State) (k : Nat) (x : CopyEng) : (s.setCopy k x).throtcnt = s.throtcnt := rfl
@[simp] theorem State.setCopy_govAge (s : State) (k : Nat) (x : CopyEng) : (s.setCopy k x).govAge = s.govAge := rfl
@[simp] theorem State.setCopy_throttle (s : State) (k : Nat) (x : CopyEng) : (s.setCopy k x).throttle = s.throttle := rfl
@[simp] theorem State.setCopy_sec (s : State) (k : Nat) (x : CopyEng) : (s.setCopy k x).sec = s.sec := rfl
@[simp] theorem State.setCopy_agenda (s : State) (k : Nat) (x : CopyEng) : (s.setCopy k x).agenda = s.agenda := rfl
@[simp] theorem State.setCopy_cur (s : State) (k : Nat) (x : CopyEng) : (s.setCopy k x).cur = s.cur := rfl
@[simp] theorem State.setCopy_inputs (s : State) (k : Nat) (x : CopyEng) : (s.setCopy k x).inputs = s.inputs := rfl
@[simp] theorem State.setCopy_round (s : State) (k : Nat) (x : CopyEng) : (s.setCopy k x).round = s.round := rfl
@[simp] theorem State.setCopy_tick (s : State) (k : Nat) (x : CopyEng) : (s.setCopy k x).tick = s.tick := rfl
@[simp] theorem State.setCopy_fresh (s : State) (k : Nat) (x : CopyEng) : (s.setCopy k x).fresh = s.fresh := rfl

@[simp] theorem State.setCopy_elemAt (s : State) (k : Nat) (x : CopyEng) (j : Nat) : (s.setCopy k x).elem j = s.elem j := rfl
@[simp] theorem State.setCopy_pressAt (s : State) (k : Nat) (x : CopyEng) (j : Nat) : (s.setCopy k x).press j = s.press j := rfl
@[simp] theorem State.setCopy_loupeAt (s : State) (k : Nat) (x : CopyEng) (j : Nat) : (s.setCopy k x).loupe j = s.loupe j := rfl
@[simp] theorem State.setCopy_regionAt (s : State) (k : Nat) (x : CopyEng) (j : Nat) : (s.setCopy k x).region j = s.region j := rfl
@[simp] theorem State.setCopy_ctxAt (s : State) (k : Nat) (x : CopyEng) (j : Nat) : (s.setCopy k x).ctx j = s.ctx j := rfl
@[simp] theorem State.setCopy_queueAt (s : State) (k : Nat) (x : CopyEng) (j : Nat) : (s.setCopy k x).queue j = s.queue j := rfl
@[simp] theorem State.setCopy_linkAt (s : State) (k : Nat) (x : CopyEng) (j : Nat) : (s.setCopy k x).link j = s.link j := rfl
@[simp] theorem State.setCopy_epAt (s : State) (k : Nat) (x : CopyEng) (j : Nat) : (s.setCopy k x).ep j = s.ep j := rfl
@[simp] theorem State.setCopy_tlbAt (s : State) (k : Nat) (x : CopyEng) (j : Nat) : (s.setCopy k x).tlb j = s.tlb j := rfl
@[simp] theorem State.setCopy_unitAt (s : State) (k : Nat) (x : CopyEng) (j : Nat) : (s.setCopy k x).unit? j = s.unit? j := rfl
@[simp] theorem State.setCopy_taskAt (s : State) (k : Nat) (x : CopyEng) (j : Nat) : (s.setCopy k x).task? j = s.task? j := rfl

/-! State.setPress. -/

@[simp] theorem State.setPress_elems (s : State) (k : Nat) (x : Press) : (s.setPress k x).elems = s.elems := rfl
@[simp] theorem State.setPress_chans (s : State) (k : Nat) (x : Press) : (s.setPress k x).chans = s.chans := rfl
@[simp] theorem State.setPress_wheys (s : State) (k : Nat) (x : Press) : (s.setPress k x).wheys = s.wheys := rfl
@[simp] theorem State.setPress_copies (s : State) (k : Nat) (x : Press) : (s.setPress k x).copies = s.copies := rfl
@[simp] theorem State.setPress_units (s : State) (k : Nat) (x : Press) : (s.setPress k x).units = s.units := rfl
@[simp] theorem State.setPress_loupes (s : State) (k : Nat) (x : Press) : (s.setPress k x).loupes = s.loupes := rfl
@[simp] theorem State.setPress_mem (s : State) (k : Nat) (x : Press) : (s.setPress k x).mem = s.mem := rfl
@[simp] theorem State.setPress_accs (s : State) (k : Nat) (x : Press) : (s.setPress k x).accs = s.accs := rfl
@[simp] theorem State.setPress_pwalks (s : State) (k : Nat) (x : Press) : (s.setPress k x).pwalks = s.pwalks := rfl
@[simp] theorem State.setPress_tlbs (s : State) (k : Nat) (x : Press) : (s.setPress k x).tlbs = s.tlbs := rfl
@[simp] theorem State.setPress_bars (s : State) (k : Nat) (x : Press) : (s.setPress k x).bars = s.bars := rfl
@[simp] theorem State.setPress_waiters (s : State) (k : Nat) (x : Press) : (s.setPress k x).waiters = s.waiters := rfl
@[simp] theorem State.setPress_releases (s : State) (k : Nat) (x : Press) : (s.setPress k x).releases = s.releases := rfl
@[simp] theorem State.setPress_poison (s : State) (k : Nat) (x : Press) : (s.setPress k x).poison = s.poison := rfl
@[simp] theorem State.setPress_flaws (s : State) (k : Nat) (x : Press) : (s.setPress k x).flaws = s.flaws := rfl
@[simp] theorem State.setPress_banks (s : State) (k : Nat) (x : Press) : (s.setPress k x).banks = s.banks := rfl
@[simp] theorem State.setPress_residue (s : State) (k : Nat) (x : Press) : (s.setPress k x).residue = s.residue := rfl
@[simp] theorem State.setPress_upsets (s : State) (k : Nat) (x : Press) : (s.setPress k x).upsets = s.upsets := rfl
@[simp] theorem State.setPress_lost (s : State) (k : Nat) (x : Press) : (s.setPress k x).lost = s.lost := rfl
@[simp] theorem State.setPress_regions (s : State) (k : Nat) (x : Press) : (s.setPress k x).regions = s.regions := rfl
@[simp] theorem State.setPress_signals (s : State) (k : Nat) (x : Press) : (s.setPress k x).signals = s.signals := rfl
@[simp] theorem State.setPress_tasks (s : State) (k : Nat) (x : Press) : (s.setPress k x).tasks = s.tasks := rfl
@[simp] theorem State.setPress_dslot (s : State) (k : Nat) (x : Press) : (s.setPress k x).dslot = s.dslot := rfl
@[simp] theorem State.setPress_dptrs (s : State) (k : Nat) (x : Press) : (s.setPress k x).dptrs = s.dptrs := rfl
@[simp] theorem State.setPress_daged (s : State) (k : Nat) (x : Press) : (s.setPress k x).daged = s.daged := rfl
@[simp] theorem State.setPress_reserve (s : State) (k : Nat) (x : Press) : (s.setPress k x).reserve = s.reserve := rfl
@[simp] theorem State.setPress_saves (s : State) (k : Nat) (x : Press) : (s.setPress k x).saves = s.saves := rfl
@[simp] theorem State.setPress_heads (s : State) (k : Nat) (x : Press) : (s.setPress k x).heads = s.heads := rfl
@[simp] theorem State.setPress_ctxs (s : State) (k : Nat) (x : Press) : (s.setPress k x).ctxs = s.ctxs := rfl
@[simp] theorem State.setPress_queues (s : State) (k : Nat) (x : Press) : (s.setPress k x).queues = s.queues := rfl
@[simp] theorem State.setPress_tinv (s : State) (k : Nat) (x : Press) : (s.setPress k x).tinv = s.tinv := rfl
@[simp] theorem State.setPress_links (s : State) (k : Nat) (x : Press) : (s.setPress k x).links = s.links := rfl
@[simp] theorem State.setPress_eps (s : State) (k : Nat) (x : Press) : (s.setPress k x).eps = s.eps := rfl
@[simp] theorem State.setPress_outq (s : State) (k : Nat) (x : Press) : (s.setPress k x).outq = s.outq := rfl
@[simp] theorem State.setPress_dfl (s : State) (k : Nat) (x : Press) : (s.setPress k x).dfl = s.dfl := rfl
@[simp] theorem State.setPress_throtcnt (s : State) (k : Nat) (x : Press) : (s.setPress k x).throtcnt = s.throtcnt := rfl
@[simp] theorem State.setPress_govAge (s : State) (k : Nat) (x : Press) : (s.setPress k x).govAge = s.govAge := rfl
@[simp] theorem State.setPress_throttle (s : State) (k : Nat) (x : Press) : (s.setPress k x).throttle = s.throttle := rfl
@[simp] theorem State.setPress_sec (s : State) (k : Nat) (x : Press) : (s.setPress k x).sec = s.sec := rfl
@[simp] theorem State.setPress_agenda (s : State) (k : Nat) (x : Press) : (s.setPress k x).agenda = s.agenda := rfl
@[simp] theorem State.setPress_cur (s : State) (k : Nat) (x : Press) : (s.setPress k x).cur = s.cur := rfl
@[simp] theorem State.setPress_inputs (s : State) (k : Nat) (x : Press) : (s.setPress k x).inputs = s.inputs := rfl
@[simp] theorem State.setPress_round (s : State) (k : Nat) (x : Press) : (s.setPress k x).round = s.round := rfl
@[simp] theorem State.setPress_tick (s : State) (k : Nat) (x : Press) : (s.setPress k x).tick = s.tick := rfl
@[simp] theorem State.setPress_fresh (s : State) (k : Nat) (x : Press) : (s.setPress k x).fresh = s.fresh := rfl

@[simp] theorem State.setPress_elemAt (s : State) (k : Nat) (x : Press) (j : Nat) : (s.setPress k x).elem j = s.elem j := rfl
@[simp] theorem State.setPress_copyEngAt (s : State) (k : Nat) (x : Press) (j : Nat) : (s.setPress k x).copyEng j = s.copyEng j := rfl
@[simp] theorem State.setPress_loupeAt (s : State) (k : Nat) (x : Press) (j : Nat) : (s.setPress k x).loupe j = s.loupe j := rfl
@[simp] theorem State.setPress_regionAt (s : State) (k : Nat) (x : Press) (j : Nat) : (s.setPress k x).region j = s.region j := rfl
@[simp] theorem State.setPress_ctxAt (s : State) (k : Nat) (x : Press) (j : Nat) : (s.setPress k x).ctx j = s.ctx j := rfl
@[simp] theorem State.setPress_queueAt (s : State) (k : Nat) (x : Press) (j : Nat) : (s.setPress k x).queue j = s.queue j := rfl
@[simp] theorem State.setPress_linkAt (s : State) (k : Nat) (x : Press) (j : Nat) : (s.setPress k x).link j = s.link j := rfl
@[simp] theorem State.setPress_epAt (s : State) (k : Nat) (x : Press) (j : Nat) : (s.setPress k x).ep j = s.ep j := rfl
@[simp] theorem State.setPress_tlbAt (s : State) (k : Nat) (x : Press) (j : Nat) : (s.setPress k x).tlb j = s.tlb j := rfl
@[simp] theorem State.setPress_unitAt (s : State) (k : Nat) (x : Press) (j : Nat) : (s.setPress k x).unit? j = s.unit? j := rfl
@[simp] theorem State.setPress_taskAt (s : State) (k : Nat) (x : Press) (j : Nat) : (s.setPress k x).task? j = s.task? j := rfl

/-! State.setLoupe. -/

@[simp] theorem State.setLoupe_elems (s : State) (k : Nat) (x : Loupe) : (s.setLoupe k x).elems = s.elems := rfl
@[simp] theorem State.setLoupe_chans (s : State) (k : Nat) (x : Loupe) : (s.setLoupe k x).chans = s.chans := rfl
@[simp] theorem State.setLoupe_wheys (s : State) (k : Nat) (x : Loupe) : (s.setLoupe k x).wheys = s.wheys := rfl
@[simp] theorem State.setLoupe_copies (s : State) (k : Nat) (x : Loupe) : (s.setLoupe k x).copies = s.copies := rfl
@[simp] theorem State.setLoupe_presses (s : State) (k : Nat) (x : Loupe) : (s.setLoupe k x).presses = s.presses := rfl
@[simp] theorem State.setLoupe_units (s : State) (k : Nat) (x : Loupe) : (s.setLoupe k x).units = s.units := rfl
@[simp] theorem State.setLoupe_mem (s : State) (k : Nat) (x : Loupe) : (s.setLoupe k x).mem = s.mem := rfl
@[simp] theorem State.setLoupe_accs (s : State) (k : Nat) (x : Loupe) : (s.setLoupe k x).accs = s.accs := rfl
@[simp] theorem State.setLoupe_pwalks (s : State) (k : Nat) (x : Loupe) : (s.setLoupe k x).pwalks = s.pwalks := rfl
@[simp] theorem State.setLoupe_tlbs (s : State) (k : Nat) (x : Loupe) : (s.setLoupe k x).tlbs = s.tlbs := rfl
@[simp] theorem State.setLoupe_bars (s : State) (k : Nat) (x : Loupe) : (s.setLoupe k x).bars = s.bars := rfl
@[simp] theorem State.setLoupe_waiters (s : State) (k : Nat) (x : Loupe) : (s.setLoupe k x).waiters = s.waiters := rfl
@[simp] theorem State.setLoupe_releases (s : State) (k : Nat) (x : Loupe) : (s.setLoupe k x).releases = s.releases := rfl
@[simp] theorem State.setLoupe_poison (s : State) (k : Nat) (x : Loupe) : (s.setLoupe k x).poison = s.poison := rfl
@[simp] theorem State.setLoupe_flaws (s : State) (k : Nat) (x : Loupe) : (s.setLoupe k x).flaws = s.flaws := rfl
@[simp] theorem State.setLoupe_banks (s : State) (k : Nat) (x : Loupe) : (s.setLoupe k x).banks = s.banks := rfl
@[simp] theorem State.setLoupe_residue (s : State) (k : Nat) (x : Loupe) : (s.setLoupe k x).residue = s.residue := rfl
@[simp] theorem State.setLoupe_upsets (s : State) (k : Nat) (x : Loupe) : (s.setLoupe k x).upsets = s.upsets := rfl
@[simp] theorem State.setLoupe_lost (s : State) (k : Nat) (x : Loupe) : (s.setLoupe k x).lost = s.lost := rfl
@[simp] theorem State.setLoupe_regions (s : State) (k : Nat) (x : Loupe) : (s.setLoupe k x).regions = s.regions := rfl
@[simp] theorem State.setLoupe_signals (s : State) (k : Nat) (x : Loupe) : (s.setLoupe k x).signals = s.signals := rfl
@[simp] theorem State.setLoupe_tasks (s : State) (k : Nat) (x : Loupe) : (s.setLoupe k x).tasks = s.tasks := rfl
@[simp] theorem State.setLoupe_dslot (s : State) (k : Nat) (x : Loupe) : (s.setLoupe k x).dslot = s.dslot := rfl
@[simp] theorem State.setLoupe_dptrs (s : State) (k : Nat) (x : Loupe) : (s.setLoupe k x).dptrs = s.dptrs := rfl
@[simp] theorem State.setLoupe_daged (s : State) (k : Nat) (x : Loupe) : (s.setLoupe k x).daged = s.daged := rfl
@[simp] theorem State.setLoupe_reserve (s : State) (k : Nat) (x : Loupe) : (s.setLoupe k x).reserve = s.reserve := rfl
@[simp] theorem State.setLoupe_saves (s : State) (k : Nat) (x : Loupe) : (s.setLoupe k x).saves = s.saves := rfl
@[simp] theorem State.setLoupe_heads (s : State) (k : Nat) (x : Loupe) : (s.setLoupe k x).heads = s.heads := rfl
@[simp] theorem State.setLoupe_ctxs (s : State) (k : Nat) (x : Loupe) : (s.setLoupe k x).ctxs = s.ctxs := rfl
@[simp] theorem State.setLoupe_queues (s : State) (k : Nat) (x : Loupe) : (s.setLoupe k x).queues = s.queues := rfl
@[simp] theorem State.setLoupe_tinv (s : State) (k : Nat) (x : Loupe) : (s.setLoupe k x).tinv = s.tinv := rfl
@[simp] theorem State.setLoupe_links (s : State) (k : Nat) (x : Loupe) : (s.setLoupe k x).links = s.links := rfl
@[simp] theorem State.setLoupe_eps (s : State) (k : Nat) (x : Loupe) : (s.setLoupe k x).eps = s.eps := rfl
@[simp] theorem State.setLoupe_outq (s : State) (k : Nat) (x : Loupe) : (s.setLoupe k x).outq = s.outq := rfl
@[simp] theorem State.setLoupe_dfl (s : State) (k : Nat) (x : Loupe) : (s.setLoupe k x).dfl = s.dfl := rfl
@[simp] theorem State.setLoupe_throtcnt (s : State) (k : Nat) (x : Loupe) : (s.setLoupe k x).throtcnt = s.throtcnt := rfl
@[simp] theorem State.setLoupe_govAge (s : State) (k : Nat) (x : Loupe) : (s.setLoupe k x).govAge = s.govAge := rfl
@[simp] theorem State.setLoupe_throttle (s : State) (k : Nat) (x : Loupe) : (s.setLoupe k x).throttle = s.throttle := rfl
@[simp] theorem State.setLoupe_sec (s : State) (k : Nat) (x : Loupe) : (s.setLoupe k x).sec = s.sec := rfl
@[simp] theorem State.setLoupe_agenda (s : State) (k : Nat) (x : Loupe) : (s.setLoupe k x).agenda = s.agenda := rfl
@[simp] theorem State.setLoupe_cur (s : State) (k : Nat) (x : Loupe) : (s.setLoupe k x).cur = s.cur := rfl
@[simp] theorem State.setLoupe_inputs (s : State) (k : Nat) (x : Loupe) : (s.setLoupe k x).inputs = s.inputs := rfl
@[simp] theorem State.setLoupe_round (s : State) (k : Nat) (x : Loupe) : (s.setLoupe k x).round = s.round := rfl
@[simp] theorem State.setLoupe_tick (s : State) (k : Nat) (x : Loupe) : (s.setLoupe k x).tick = s.tick := rfl
@[simp] theorem State.setLoupe_fresh (s : State) (k : Nat) (x : Loupe) : (s.setLoupe k x).fresh = s.fresh := rfl

@[simp] theorem State.setLoupe_elemAt (s : State) (k : Nat) (x : Loupe) (j : Nat) : (s.setLoupe k x).elem j = s.elem j := rfl
@[simp] theorem State.setLoupe_copyEngAt (s : State) (k : Nat) (x : Loupe) (j : Nat) : (s.setLoupe k x).copyEng j = s.copyEng j := rfl
@[simp] theorem State.setLoupe_pressAt (s : State) (k : Nat) (x : Loupe) (j : Nat) : (s.setLoupe k x).press j = s.press j := rfl
@[simp] theorem State.setLoupe_regionAt (s : State) (k : Nat) (x : Loupe) (j : Nat) : (s.setLoupe k x).region j = s.region j := rfl
@[simp] theorem State.setLoupe_ctxAt (s : State) (k : Nat) (x : Loupe) (j : Nat) : (s.setLoupe k x).ctx j = s.ctx j := rfl
@[simp] theorem State.setLoupe_queueAt (s : State) (k : Nat) (x : Loupe) (j : Nat) : (s.setLoupe k x).queue j = s.queue j := rfl
@[simp] theorem State.setLoupe_linkAt (s : State) (k : Nat) (x : Loupe) (j : Nat) : (s.setLoupe k x).link j = s.link j := rfl
@[simp] theorem State.setLoupe_epAt (s : State) (k : Nat) (x : Loupe) (j : Nat) : (s.setLoupe k x).ep j = s.ep j := rfl
@[simp] theorem State.setLoupe_tlbAt (s : State) (k : Nat) (x : Loupe) (j : Nat) : (s.setLoupe k x).tlb j = s.tlb j := rfl
@[simp] theorem State.setLoupe_unitAt (s : State) (k : Nat) (x : Loupe) (j : Nat) : (s.setLoupe k x).unit? j = s.unit? j := rfl
@[simp] theorem State.setLoupe_taskAt (s : State) (k : Nat) (x : Loupe) (j : Nat) : (s.setLoupe k x).task? j = s.task? j := rfl

/-! State.setUnit. -/

@[simp] theorem State.setUnit_elems (s : State) (k : Nat) (x : SUnit) : (s.setUnit k x).elems = s.elems := rfl
@[simp] theorem State.setUnit_chans (s : State) (k : Nat) (x : SUnit) : (s.setUnit k x).chans = s.chans := rfl
@[simp] theorem State.setUnit_wheys (s : State) (k : Nat) (x : SUnit) : (s.setUnit k x).wheys = s.wheys := rfl
@[simp] theorem State.setUnit_copies (s : State) (k : Nat) (x : SUnit) : (s.setUnit k x).copies = s.copies := rfl
@[simp] theorem State.setUnit_presses (s : State) (k : Nat) (x : SUnit) : (s.setUnit k x).presses = s.presses := rfl
@[simp] theorem State.setUnit_loupes (s : State) (k : Nat) (x : SUnit) : (s.setUnit k x).loupes = s.loupes := rfl
@[simp] theorem State.setUnit_mem (s : State) (k : Nat) (x : SUnit) : (s.setUnit k x).mem = s.mem := rfl
@[simp] theorem State.setUnit_accs (s : State) (k : Nat) (x : SUnit) : (s.setUnit k x).accs = s.accs := rfl
@[simp] theorem State.setUnit_pwalks (s : State) (k : Nat) (x : SUnit) : (s.setUnit k x).pwalks = s.pwalks := rfl
@[simp] theorem State.setUnit_tlbs (s : State) (k : Nat) (x : SUnit) : (s.setUnit k x).tlbs = s.tlbs := rfl
@[simp] theorem State.setUnit_bars (s : State) (k : Nat) (x : SUnit) : (s.setUnit k x).bars = s.bars := rfl
@[simp] theorem State.setUnit_waiters (s : State) (k : Nat) (x : SUnit) : (s.setUnit k x).waiters = s.waiters := rfl
@[simp] theorem State.setUnit_releases (s : State) (k : Nat) (x : SUnit) : (s.setUnit k x).releases = s.releases := rfl
@[simp] theorem State.setUnit_poison (s : State) (k : Nat) (x : SUnit) : (s.setUnit k x).poison = s.poison := rfl
@[simp] theorem State.setUnit_flaws (s : State) (k : Nat) (x : SUnit) : (s.setUnit k x).flaws = s.flaws := rfl
@[simp] theorem State.setUnit_banks (s : State) (k : Nat) (x : SUnit) : (s.setUnit k x).banks = s.banks := rfl
@[simp] theorem State.setUnit_residue (s : State) (k : Nat) (x : SUnit) : (s.setUnit k x).residue = s.residue := rfl
@[simp] theorem State.setUnit_upsets (s : State) (k : Nat) (x : SUnit) : (s.setUnit k x).upsets = s.upsets := rfl
@[simp] theorem State.setUnit_lost (s : State) (k : Nat) (x : SUnit) : (s.setUnit k x).lost = s.lost := rfl
@[simp] theorem State.setUnit_regions (s : State) (k : Nat) (x : SUnit) : (s.setUnit k x).regions = s.regions := rfl
@[simp] theorem State.setUnit_signals (s : State) (k : Nat) (x : SUnit) : (s.setUnit k x).signals = s.signals := rfl
@[simp] theorem State.setUnit_tasks (s : State) (k : Nat) (x : SUnit) : (s.setUnit k x).tasks = s.tasks := rfl
@[simp] theorem State.setUnit_dslot (s : State) (k : Nat) (x : SUnit) : (s.setUnit k x).dslot = s.dslot := rfl
@[simp] theorem State.setUnit_dptrs (s : State) (k : Nat) (x : SUnit) : (s.setUnit k x).dptrs = s.dptrs := rfl
@[simp] theorem State.setUnit_daged (s : State) (k : Nat) (x : SUnit) : (s.setUnit k x).daged = s.daged := rfl
@[simp] theorem State.setUnit_reserve (s : State) (k : Nat) (x : SUnit) : (s.setUnit k x).reserve = s.reserve := rfl
@[simp] theorem State.setUnit_saves (s : State) (k : Nat) (x : SUnit) : (s.setUnit k x).saves = s.saves := rfl
@[simp] theorem State.setUnit_heads (s : State) (k : Nat) (x : SUnit) : (s.setUnit k x).heads = s.heads := rfl
@[simp] theorem State.setUnit_ctxs (s : State) (k : Nat) (x : SUnit) : (s.setUnit k x).ctxs = s.ctxs := rfl
@[simp] theorem State.setUnit_queues (s : State) (k : Nat) (x : SUnit) : (s.setUnit k x).queues = s.queues := rfl
@[simp] theorem State.setUnit_tinv (s : State) (k : Nat) (x : SUnit) : (s.setUnit k x).tinv = s.tinv := rfl
@[simp] theorem State.setUnit_links (s : State) (k : Nat) (x : SUnit) : (s.setUnit k x).links = s.links := rfl
@[simp] theorem State.setUnit_eps (s : State) (k : Nat) (x : SUnit) : (s.setUnit k x).eps = s.eps := rfl
@[simp] theorem State.setUnit_outq (s : State) (k : Nat) (x : SUnit) : (s.setUnit k x).outq = s.outq := rfl
@[simp] theorem State.setUnit_dfl (s : State) (k : Nat) (x : SUnit) : (s.setUnit k x).dfl = s.dfl := rfl
@[simp] theorem State.setUnit_throtcnt (s : State) (k : Nat) (x : SUnit) : (s.setUnit k x).throtcnt = s.throtcnt := rfl
@[simp] theorem State.setUnit_govAge (s : State) (k : Nat) (x : SUnit) : (s.setUnit k x).govAge = s.govAge := rfl
@[simp] theorem State.setUnit_throttle (s : State) (k : Nat) (x : SUnit) : (s.setUnit k x).throttle = s.throttle := rfl
@[simp] theorem State.setUnit_sec (s : State) (k : Nat) (x : SUnit) : (s.setUnit k x).sec = s.sec := rfl
@[simp] theorem State.setUnit_agenda (s : State) (k : Nat) (x : SUnit) : (s.setUnit k x).agenda = s.agenda := rfl
@[simp] theorem State.setUnit_cur (s : State) (k : Nat) (x : SUnit) : (s.setUnit k x).cur = s.cur := rfl
@[simp] theorem State.setUnit_inputs (s : State) (k : Nat) (x : SUnit) : (s.setUnit k x).inputs = s.inputs := rfl
@[simp] theorem State.setUnit_round (s : State) (k : Nat) (x : SUnit) : (s.setUnit k x).round = s.round := rfl
@[simp] theorem State.setUnit_tick (s : State) (k : Nat) (x : SUnit) : (s.setUnit k x).tick = s.tick := rfl
@[simp] theorem State.setUnit_fresh (s : State) (k : Nat) (x : SUnit) : (s.setUnit k x).fresh = s.fresh := rfl

@[simp] theorem State.setUnit_elemAt (s : State) (k : Nat) (x : SUnit) (j : Nat) : (s.setUnit k x).elem j = s.elem j := rfl
@[simp] theorem State.setUnit_copyEngAt (s : State) (k : Nat) (x : SUnit) (j : Nat) : (s.setUnit k x).copyEng j = s.copyEng j := rfl
@[simp] theorem State.setUnit_pressAt (s : State) (k : Nat) (x : SUnit) (j : Nat) : (s.setUnit k x).press j = s.press j := rfl
@[simp] theorem State.setUnit_loupeAt (s : State) (k : Nat) (x : SUnit) (j : Nat) : (s.setUnit k x).loupe j = s.loupe j := rfl
@[simp] theorem State.setUnit_regionAt (s : State) (k : Nat) (x : SUnit) (j : Nat) : (s.setUnit k x).region j = s.region j := rfl
@[simp] theorem State.setUnit_ctxAt (s : State) (k : Nat) (x : SUnit) (j : Nat) : (s.setUnit k x).ctx j = s.ctx j := rfl
@[simp] theorem State.setUnit_queueAt (s : State) (k : Nat) (x : SUnit) (j : Nat) : (s.setUnit k x).queue j = s.queue j := rfl
@[simp] theorem State.setUnit_linkAt (s : State) (k : Nat) (x : SUnit) (j : Nat) : (s.setUnit k x).link j = s.link j := rfl
@[simp] theorem State.setUnit_epAt (s : State) (k : Nat) (x : SUnit) (j : Nat) : (s.setUnit k x).ep j = s.ep j := rfl
@[simp] theorem State.setUnit_tlbAt (s : State) (k : Nat) (x : SUnit) (j : Nat) : (s.setUnit k x).tlb j = s.tlb j := rfl
@[simp] theorem State.setUnit_taskAt (s : State) (k : Nat) (x : SUnit) (j : Nat) : (s.setUnit k x).task? j = s.task? j := rfl

/-! State.setRegion. -/

@[simp] theorem State.setRegion_elems (s : State) (k : Nat) (x : Region) : (s.setRegion k x).elems = s.elems := rfl
@[simp] theorem State.setRegion_chans (s : State) (k : Nat) (x : Region) : (s.setRegion k x).chans = s.chans := rfl
@[simp] theorem State.setRegion_wheys (s : State) (k : Nat) (x : Region) : (s.setRegion k x).wheys = s.wheys := rfl
@[simp] theorem State.setRegion_copies (s : State) (k : Nat) (x : Region) : (s.setRegion k x).copies = s.copies := rfl
@[simp] theorem State.setRegion_presses (s : State) (k : Nat) (x : Region) : (s.setRegion k x).presses = s.presses := rfl
@[simp] theorem State.setRegion_units (s : State) (k : Nat) (x : Region) : (s.setRegion k x).units = s.units := rfl
@[simp] theorem State.setRegion_loupes (s : State) (k : Nat) (x : Region) : (s.setRegion k x).loupes = s.loupes := rfl
@[simp] theorem State.setRegion_mem (s : State) (k : Nat) (x : Region) : (s.setRegion k x).mem = s.mem := rfl
@[simp] theorem State.setRegion_accs (s : State) (k : Nat) (x : Region) : (s.setRegion k x).accs = s.accs := rfl
@[simp] theorem State.setRegion_pwalks (s : State) (k : Nat) (x : Region) : (s.setRegion k x).pwalks = s.pwalks := rfl
@[simp] theorem State.setRegion_tlbs (s : State) (k : Nat) (x : Region) : (s.setRegion k x).tlbs = s.tlbs := rfl
@[simp] theorem State.setRegion_bars (s : State) (k : Nat) (x : Region) : (s.setRegion k x).bars = s.bars := rfl
@[simp] theorem State.setRegion_waiters (s : State) (k : Nat) (x : Region) : (s.setRegion k x).waiters = s.waiters := rfl
@[simp] theorem State.setRegion_releases (s : State) (k : Nat) (x : Region) : (s.setRegion k x).releases = s.releases := rfl
@[simp] theorem State.setRegion_poison (s : State) (k : Nat) (x : Region) : (s.setRegion k x).poison = s.poison := rfl
@[simp] theorem State.setRegion_flaws (s : State) (k : Nat) (x : Region) : (s.setRegion k x).flaws = s.flaws := rfl
@[simp] theorem State.setRegion_banks (s : State) (k : Nat) (x : Region) : (s.setRegion k x).banks = s.banks := rfl
@[simp] theorem State.setRegion_residue (s : State) (k : Nat) (x : Region) : (s.setRegion k x).residue = s.residue := rfl
@[simp] theorem State.setRegion_upsets (s : State) (k : Nat) (x : Region) : (s.setRegion k x).upsets = s.upsets := rfl
@[simp] theorem State.setRegion_lost (s : State) (k : Nat) (x : Region) : (s.setRegion k x).lost = s.lost := rfl
@[simp] theorem State.setRegion_signals (s : State) (k : Nat) (x : Region) : (s.setRegion k x).signals = s.signals := rfl
@[simp] theorem State.setRegion_tasks (s : State) (k : Nat) (x : Region) : (s.setRegion k x).tasks = s.tasks := rfl
@[simp] theorem State.setRegion_dslot (s : State) (k : Nat) (x : Region) : (s.setRegion k x).dslot = s.dslot := rfl
@[simp] theorem State.setRegion_dptrs (s : State) (k : Nat) (x : Region) : (s.setRegion k x).dptrs = s.dptrs := rfl
@[simp] theorem State.setRegion_daged (s : State) (k : Nat) (x : Region) : (s.setRegion k x).daged = s.daged := rfl
@[simp] theorem State.setRegion_reserve (s : State) (k : Nat) (x : Region) : (s.setRegion k x).reserve = s.reserve := rfl
@[simp] theorem State.setRegion_saves (s : State) (k : Nat) (x : Region) : (s.setRegion k x).saves = s.saves := rfl
@[simp] theorem State.setRegion_heads (s : State) (k : Nat) (x : Region) : (s.setRegion k x).heads = s.heads := rfl
@[simp] theorem State.setRegion_ctxs (s : State) (k : Nat) (x : Region) : (s.setRegion k x).ctxs = s.ctxs := rfl
@[simp] theorem State.setRegion_queues (s : State) (k : Nat) (x : Region) : (s.setRegion k x).queues = s.queues := rfl
@[simp] theorem State.setRegion_tinv (s : State) (k : Nat) (x : Region) : (s.setRegion k x).tinv = s.tinv := rfl
@[simp] theorem State.setRegion_links (s : State) (k : Nat) (x : Region) : (s.setRegion k x).links = s.links := rfl
@[simp] theorem State.setRegion_eps (s : State) (k : Nat) (x : Region) : (s.setRegion k x).eps = s.eps := rfl
@[simp] theorem State.setRegion_outq (s : State) (k : Nat) (x : Region) : (s.setRegion k x).outq = s.outq := rfl
@[simp] theorem State.setRegion_dfl (s : State) (k : Nat) (x : Region) : (s.setRegion k x).dfl = s.dfl := rfl
@[simp] theorem State.setRegion_throtcnt (s : State) (k : Nat) (x : Region) : (s.setRegion k x).throtcnt = s.throtcnt := rfl
@[simp] theorem State.setRegion_govAge (s : State) (k : Nat) (x : Region) : (s.setRegion k x).govAge = s.govAge := rfl
@[simp] theorem State.setRegion_throttle (s : State) (k : Nat) (x : Region) : (s.setRegion k x).throttle = s.throttle := rfl
@[simp] theorem State.setRegion_sec (s : State) (k : Nat) (x : Region) : (s.setRegion k x).sec = s.sec := rfl
@[simp] theorem State.setRegion_agenda (s : State) (k : Nat) (x : Region) : (s.setRegion k x).agenda = s.agenda := rfl
@[simp] theorem State.setRegion_cur (s : State) (k : Nat) (x : Region) : (s.setRegion k x).cur = s.cur := rfl
@[simp] theorem State.setRegion_inputs (s : State) (k : Nat) (x : Region) : (s.setRegion k x).inputs = s.inputs := rfl
@[simp] theorem State.setRegion_round (s : State) (k : Nat) (x : Region) : (s.setRegion k x).round = s.round := rfl
@[simp] theorem State.setRegion_tick (s : State) (k : Nat) (x : Region) : (s.setRegion k x).tick = s.tick := rfl
@[simp] theorem State.setRegion_fresh (s : State) (k : Nat) (x : Region) : (s.setRegion k x).fresh = s.fresh := rfl

@[simp] theorem State.setRegion_elemAt (s : State) (k : Nat) (x : Region) (j : Nat) : (s.setRegion k x).elem j = s.elem j := rfl
@[simp] theorem State.setRegion_copyEngAt (s : State) (k : Nat) (x : Region) (j : Nat) : (s.setRegion k x).copyEng j = s.copyEng j := rfl
@[simp] theorem State.setRegion_pressAt (s : State) (k : Nat) (x : Region) (j : Nat) : (s.setRegion k x).press j = s.press j := rfl
@[simp] theorem State.setRegion_loupeAt (s : State) (k : Nat) (x : Region) (j : Nat) : (s.setRegion k x).loupe j = s.loupe j := rfl
@[simp] theorem State.setRegion_ctxAt (s : State) (k : Nat) (x : Region) (j : Nat) : (s.setRegion k x).ctx j = s.ctx j := rfl
@[simp] theorem State.setRegion_queueAt (s : State) (k : Nat) (x : Region) (j : Nat) : (s.setRegion k x).queue j = s.queue j := rfl
@[simp] theorem State.setRegion_linkAt (s : State) (k : Nat) (x : Region) (j : Nat) : (s.setRegion k x).link j = s.link j := rfl
@[simp] theorem State.setRegion_epAt (s : State) (k : Nat) (x : Region) (j : Nat) : (s.setRegion k x).ep j = s.ep j := rfl
@[simp] theorem State.setRegion_tlbAt (s : State) (k : Nat) (x : Region) (j : Nat) : (s.setRegion k x).tlb j = s.tlb j := rfl
@[simp] theorem State.setRegion_unitAt (s : State) (k : Nat) (x : Region) (j : Nat) : (s.setRegion k x).unit? j = s.unit? j := rfl
@[simp] theorem State.setRegion_taskAt (s : State) (k : Nat) (x : Region) (j : Nat) : (s.setRegion k x).task? j = s.task? j := rfl

/-! State.setTask. -/

@[simp] theorem State.setTask_elems (s : State) (k : Nat) (x : Task) : (s.setTask k x).elems = s.elems := rfl
@[simp] theorem State.setTask_chans (s : State) (k : Nat) (x : Task) : (s.setTask k x).chans = s.chans := rfl
@[simp] theorem State.setTask_wheys (s : State) (k : Nat) (x : Task) : (s.setTask k x).wheys = s.wheys := rfl
@[simp] theorem State.setTask_copies (s : State) (k : Nat) (x : Task) : (s.setTask k x).copies = s.copies := rfl
@[simp] theorem State.setTask_presses (s : State) (k : Nat) (x : Task) : (s.setTask k x).presses = s.presses := rfl
@[simp] theorem State.setTask_units (s : State) (k : Nat) (x : Task) : (s.setTask k x).units = s.units := rfl
@[simp] theorem State.setTask_loupes (s : State) (k : Nat) (x : Task) : (s.setTask k x).loupes = s.loupes := rfl
@[simp] theorem State.setTask_mem (s : State) (k : Nat) (x : Task) : (s.setTask k x).mem = s.mem := rfl
@[simp] theorem State.setTask_accs (s : State) (k : Nat) (x : Task) : (s.setTask k x).accs = s.accs := rfl
@[simp] theorem State.setTask_pwalks (s : State) (k : Nat) (x : Task) : (s.setTask k x).pwalks = s.pwalks := rfl
@[simp] theorem State.setTask_tlbs (s : State) (k : Nat) (x : Task) : (s.setTask k x).tlbs = s.tlbs := rfl
@[simp] theorem State.setTask_bars (s : State) (k : Nat) (x : Task) : (s.setTask k x).bars = s.bars := rfl
@[simp] theorem State.setTask_waiters (s : State) (k : Nat) (x : Task) : (s.setTask k x).waiters = s.waiters := rfl
@[simp] theorem State.setTask_releases (s : State) (k : Nat) (x : Task) : (s.setTask k x).releases = s.releases := rfl
@[simp] theorem State.setTask_poison (s : State) (k : Nat) (x : Task) : (s.setTask k x).poison = s.poison := rfl
@[simp] theorem State.setTask_flaws (s : State) (k : Nat) (x : Task) : (s.setTask k x).flaws = s.flaws := rfl
@[simp] theorem State.setTask_banks (s : State) (k : Nat) (x : Task) : (s.setTask k x).banks = s.banks := rfl
@[simp] theorem State.setTask_residue (s : State) (k : Nat) (x : Task) : (s.setTask k x).residue = s.residue := rfl
@[simp] theorem State.setTask_upsets (s : State) (k : Nat) (x : Task) : (s.setTask k x).upsets = s.upsets := rfl
@[simp] theorem State.setTask_lost (s : State) (k : Nat) (x : Task) : (s.setTask k x).lost = s.lost := rfl
@[simp] theorem State.setTask_regions (s : State) (k : Nat) (x : Task) : (s.setTask k x).regions = s.regions := rfl
@[simp] theorem State.setTask_signals (s : State) (k : Nat) (x : Task) : (s.setTask k x).signals = s.signals := rfl
@[simp] theorem State.setTask_dslot (s : State) (k : Nat) (x : Task) : (s.setTask k x).dslot = s.dslot := rfl
@[simp] theorem State.setTask_dptrs (s : State) (k : Nat) (x : Task) : (s.setTask k x).dptrs = s.dptrs := rfl
@[simp] theorem State.setTask_daged (s : State) (k : Nat) (x : Task) : (s.setTask k x).daged = s.daged := rfl
@[simp] theorem State.setTask_reserve (s : State) (k : Nat) (x : Task) : (s.setTask k x).reserve = s.reserve := rfl
@[simp] theorem State.setTask_saves (s : State) (k : Nat) (x : Task) : (s.setTask k x).saves = s.saves := rfl
@[simp] theorem State.setTask_heads (s : State) (k : Nat) (x : Task) : (s.setTask k x).heads = s.heads := rfl
@[simp] theorem State.setTask_ctxs (s : State) (k : Nat) (x : Task) : (s.setTask k x).ctxs = s.ctxs := rfl
@[simp] theorem State.setTask_queues (s : State) (k : Nat) (x : Task) : (s.setTask k x).queues = s.queues := rfl
@[simp] theorem State.setTask_tinv (s : State) (k : Nat) (x : Task) : (s.setTask k x).tinv = s.tinv := rfl
@[simp] theorem State.setTask_links (s : State) (k : Nat) (x : Task) : (s.setTask k x).links = s.links := rfl
@[simp] theorem State.setTask_eps (s : State) (k : Nat) (x : Task) : (s.setTask k x).eps = s.eps := rfl
@[simp] theorem State.setTask_outq (s : State) (k : Nat) (x : Task) : (s.setTask k x).outq = s.outq := rfl
@[simp] theorem State.setTask_dfl (s : State) (k : Nat) (x : Task) : (s.setTask k x).dfl = s.dfl := rfl
@[simp] theorem State.setTask_throtcnt (s : State) (k : Nat) (x : Task) : (s.setTask k x).throtcnt = s.throtcnt := rfl
@[simp] theorem State.setTask_govAge (s : State) (k : Nat) (x : Task) : (s.setTask k x).govAge = s.govAge := rfl
@[simp] theorem State.setTask_throttle (s : State) (k : Nat) (x : Task) : (s.setTask k x).throttle = s.throttle := rfl
@[simp] theorem State.setTask_sec (s : State) (k : Nat) (x : Task) : (s.setTask k x).sec = s.sec := rfl
@[simp] theorem State.setTask_agenda (s : State) (k : Nat) (x : Task) : (s.setTask k x).agenda = s.agenda := rfl
@[simp] theorem State.setTask_cur (s : State) (k : Nat) (x : Task) : (s.setTask k x).cur = s.cur := rfl
@[simp] theorem State.setTask_inputs (s : State) (k : Nat) (x : Task) : (s.setTask k x).inputs = s.inputs := rfl
@[simp] theorem State.setTask_round (s : State) (k : Nat) (x : Task) : (s.setTask k x).round = s.round := rfl
@[simp] theorem State.setTask_tick (s : State) (k : Nat) (x : Task) : (s.setTask k x).tick = s.tick := rfl
@[simp] theorem State.setTask_fresh (s : State) (k : Nat) (x : Task) : (s.setTask k x).fresh = s.fresh := rfl

@[simp] theorem State.setTask_elemAt (s : State) (k : Nat) (x : Task) (j : Nat) : (s.setTask k x).elem j = s.elem j := rfl
@[simp] theorem State.setTask_copyEngAt (s : State) (k : Nat) (x : Task) (j : Nat) : (s.setTask k x).copyEng j = s.copyEng j := rfl
@[simp] theorem State.setTask_pressAt (s : State) (k : Nat) (x : Task) (j : Nat) : (s.setTask k x).press j = s.press j := rfl
@[simp] theorem State.setTask_loupeAt (s : State) (k : Nat) (x : Task) (j : Nat) : (s.setTask k x).loupe j = s.loupe j := rfl
@[simp] theorem State.setTask_regionAt (s : State) (k : Nat) (x : Task) (j : Nat) : (s.setTask k x).region j = s.region j := rfl
@[simp] theorem State.setTask_ctxAt (s : State) (k : Nat) (x : Task) (j : Nat) : (s.setTask k x).ctx j = s.ctx j := rfl
@[simp] theorem State.setTask_queueAt (s : State) (k : Nat) (x : Task) (j : Nat) : (s.setTask k x).queue j = s.queue j := rfl
@[simp] theorem State.setTask_linkAt (s : State) (k : Nat) (x : Task) (j : Nat) : (s.setTask k x).link j = s.link j := rfl
@[simp] theorem State.setTask_epAt (s : State) (k : Nat) (x : Task) (j : Nat) : (s.setTask k x).ep j = s.ep j := rfl
@[simp] theorem State.setTask_tlbAt (s : State) (k : Nat) (x : Task) (j : Nat) : (s.setTask k x).tlb j = s.tlb j := rfl
@[simp] theorem State.setTask_unitAt (s : State) (k : Nat) (x : Task) (j : Nat) : (s.setTask k x).unit? j = s.unit? j := rfl

/-! State.setCtx. -/

@[simp] theorem State.setCtx_elems (s : State) (k : Nat) (x : Ctx) : (s.setCtx k x).elems = s.elems := rfl
@[simp] theorem State.setCtx_chans (s : State) (k : Nat) (x : Ctx) : (s.setCtx k x).chans = s.chans := rfl
@[simp] theorem State.setCtx_wheys (s : State) (k : Nat) (x : Ctx) : (s.setCtx k x).wheys = s.wheys := rfl
@[simp] theorem State.setCtx_copies (s : State) (k : Nat) (x : Ctx) : (s.setCtx k x).copies = s.copies := rfl
@[simp] theorem State.setCtx_presses (s : State) (k : Nat) (x : Ctx) : (s.setCtx k x).presses = s.presses := rfl
@[simp] theorem State.setCtx_units (s : State) (k : Nat) (x : Ctx) : (s.setCtx k x).units = s.units := rfl
@[simp] theorem State.setCtx_loupes (s : State) (k : Nat) (x : Ctx) : (s.setCtx k x).loupes = s.loupes := rfl
@[simp] theorem State.setCtx_mem (s : State) (k : Nat) (x : Ctx) : (s.setCtx k x).mem = s.mem := rfl
@[simp] theorem State.setCtx_accs (s : State) (k : Nat) (x : Ctx) : (s.setCtx k x).accs = s.accs := rfl
@[simp] theorem State.setCtx_pwalks (s : State) (k : Nat) (x : Ctx) : (s.setCtx k x).pwalks = s.pwalks := rfl
@[simp] theorem State.setCtx_tlbs (s : State) (k : Nat) (x : Ctx) : (s.setCtx k x).tlbs = s.tlbs := rfl
@[simp] theorem State.setCtx_bars (s : State) (k : Nat) (x : Ctx) : (s.setCtx k x).bars = s.bars := rfl
@[simp] theorem State.setCtx_waiters (s : State) (k : Nat) (x : Ctx) : (s.setCtx k x).waiters = s.waiters := rfl
@[simp] theorem State.setCtx_releases (s : State) (k : Nat) (x : Ctx) : (s.setCtx k x).releases = s.releases := rfl
@[simp] theorem State.setCtx_poison (s : State) (k : Nat) (x : Ctx) : (s.setCtx k x).poison = s.poison := rfl
@[simp] theorem State.setCtx_flaws (s : State) (k : Nat) (x : Ctx) : (s.setCtx k x).flaws = s.flaws := rfl
@[simp] theorem State.setCtx_banks (s : State) (k : Nat) (x : Ctx) : (s.setCtx k x).banks = s.banks := rfl
@[simp] theorem State.setCtx_residue (s : State) (k : Nat) (x : Ctx) : (s.setCtx k x).residue = s.residue := rfl
@[simp] theorem State.setCtx_upsets (s : State) (k : Nat) (x : Ctx) : (s.setCtx k x).upsets = s.upsets := rfl
@[simp] theorem State.setCtx_lost (s : State) (k : Nat) (x : Ctx) : (s.setCtx k x).lost = s.lost := rfl
@[simp] theorem State.setCtx_regions (s : State) (k : Nat) (x : Ctx) : (s.setCtx k x).regions = s.regions := rfl
@[simp] theorem State.setCtx_signals (s : State) (k : Nat) (x : Ctx) : (s.setCtx k x).signals = s.signals := rfl
@[simp] theorem State.setCtx_tasks (s : State) (k : Nat) (x : Ctx) : (s.setCtx k x).tasks = s.tasks := rfl
@[simp] theorem State.setCtx_dslot (s : State) (k : Nat) (x : Ctx) : (s.setCtx k x).dslot = s.dslot := rfl
@[simp] theorem State.setCtx_dptrs (s : State) (k : Nat) (x : Ctx) : (s.setCtx k x).dptrs = s.dptrs := rfl
@[simp] theorem State.setCtx_daged (s : State) (k : Nat) (x : Ctx) : (s.setCtx k x).daged = s.daged := rfl
@[simp] theorem State.setCtx_reserve (s : State) (k : Nat) (x : Ctx) : (s.setCtx k x).reserve = s.reserve := rfl
@[simp] theorem State.setCtx_saves (s : State) (k : Nat) (x : Ctx) : (s.setCtx k x).saves = s.saves := rfl
@[simp] theorem State.setCtx_heads (s : State) (k : Nat) (x : Ctx) : (s.setCtx k x).heads = s.heads := rfl
@[simp] theorem State.setCtx_queues (s : State) (k : Nat) (x : Ctx) : (s.setCtx k x).queues = s.queues := rfl
@[simp] theorem State.setCtx_tinv (s : State) (k : Nat) (x : Ctx) : (s.setCtx k x).tinv = s.tinv := rfl
@[simp] theorem State.setCtx_links (s : State) (k : Nat) (x : Ctx) : (s.setCtx k x).links = s.links := rfl
@[simp] theorem State.setCtx_eps (s : State) (k : Nat) (x : Ctx) : (s.setCtx k x).eps = s.eps := rfl
@[simp] theorem State.setCtx_outq (s : State) (k : Nat) (x : Ctx) : (s.setCtx k x).outq = s.outq := rfl
@[simp] theorem State.setCtx_dfl (s : State) (k : Nat) (x : Ctx) : (s.setCtx k x).dfl = s.dfl := rfl
@[simp] theorem State.setCtx_throtcnt (s : State) (k : Nat) (x : Ctx) : (s.setCtx k x).throtcnt = s.throtcnt := rfl
@[simp] theorem State.setCtx_govAge (s : State) (k : Nat) (x : Ctx) : (s.setCtx k x).govAge = s.govAge := rfl
@[simp] theorem State.setCtx_throttle (s : State) (k : Nat) (x : Ctx) : (s.setCtx k x).throttle = s.throttle := rfl
@[simp] theorem State.setCtx_sec (s : State) (k : Nat) (x : Ctx) : (s.setCtx k x).sec = s.sec := rfl
@[simp] theorem State.setCtx_agenda (s : State) (k : Nat) (x : Ctx) : (s.setCtx k x).agenda = s.agenda := rfl
@[simp] theorem State.setCtx_cur (s : State) (k : Nat) (x : Ctx) : (s.setCtx k x).cur = s.cur := rfl
@[simp] theorem State.setCtx_inputs (s : State) (k : Nat) (x : Ctx) : (s.setCtx k x).inputs = s.inputs := rfl
@[simp] theorem State.setCtx_round (s : State) (k : Nat) (x : Ctx) : (s.setCtx k x).round = s.round := rfl
@[simp] theorem State.setCtx_tick (s : State) (k : Nat) (x : Ctx) : (s.setCtx k x).tick = s.tick := rfl
@[simp] theorem State.setCtx_fresh (s : State) (k : Nat) (x : Ctx) : (s.setCtx k x).fresh = s.fresh := rfl

@[simp] theorem State.setCtx_elemAt (s : State) (k : Nat) (x : Ctx) (j : Nat) : (s.setCtx k x).elem j = s.elem j := rfl
@[simp] theorem State.setCtx_copyEngAt (s : State) (k : Nat) (x : Ctx) (j : Nat) : (s.setCtx k x).copyEng j = s.copyEng j := rfl
@[simp] theorem State.setCtx_pressAt (s : State) (k : Nat) (x : Ctx) (j : Nat) : (s.setCtx k x).press j = s.press j := rfl
@[simp] theorem State.setCtx_loupeAt (s : State) (k : Nat) (x : Ctx) (j : Nat) : (s.setCtx k x).loupe j = s.loupe j := rfl
@[simp] theorem State.setCtx_regionAt (s : State) (k : Nat) (x : Ctx) (j : Nat) : (s.setCtx k x).region j = s.region j := rfl
@[simp] theorem State.setCtx_queueAt (s : State) (k : Nat) (x : Ctx) (j : Nat) : (s.setCtx k x).queue j = s.queue j := rfl
@[simp] theorem State.setCtx_linkAt (s : State) (k : Nat) (x : Ctx) (j : Nat) : (s.setCtx k x).link j = s.link j := rfl
@[simp] theorem State.setCtx_epAt (s : State) (k : Nat) (x : Ctx) (j : Nat) : (s.setCtx k x).ep j = s.ep j := rfl
@[simp] theorem State.setCtx_tlbAt (s : State) (k : Nat) (x : Ctx) (j : Nat) : (s.setCtx k x).tlb j = s.tlb j := rfl
@[simp] theorem State.setCtx_unitAt (s : State) (k : Nat) (x : Ctx) (j : Nat) : (s.setCtx k x).unit? j = s.unit? j := rfl
@[simp] theorem State.setCtx_taskAt (s : State) (k : Nat) (x : Ctx) (j : Nat) : (s.setCtx k x).task? j = s.task? j := rfl

/-! State.setQueue. -/

@[simp] theorem State.setQueue_elems (s : State) (k : Nat) (x : Queue) : (s.setQueue k x).elems = s.elems := rfl
@[simp] theorem State.setQueue_chans (s : State) (k : Nat) (x : Queue) : (s.setQueue k x).chans = s.chans := rfl
@[simp] theorem State.setQueue_wheys (s : State) (k : Nat) (x : Queue) : (s.setQueue k x).wheys = s.wheys := rfl
@[simp] theorem State.setQueue_copies (s : State) (k : Nat) (x : Queue) : (s.setQueue k x).copies = s.copies := rfl
@[simp] theorem State.setQueue_presses (s : State) (k : Nat) (x : Queue) : (s.setQueue k x).presses = s.presses := rfl
@[simp] theorem State.setQueue_units (s : State) (k : Nat) (x : Queue) : (s.setQueue k x).units = s.units := rfl
@[simp] theorem State.setQueue_loupes (s : State) (k : Nat) (x : Queue) : (s.setQueue k x).loupes = s.loupes := rfl
@[simp] theorem State.setQueue_mem (s : State) (k : Nat) (x : Queue) : (s.setQueue k x).mem = s.mem := rfl
@[simp] theorem State.setQueue_accs (s : State) (k : Nat) (x : Queue) : (s.setQueue k x).accs = s.accs := rfl
@[simp] theorem State.setQueue_pwalks (s : State) (k : Nat) (x : Queue) : (s.setQueue k x).pwalks = s.pwalks := rfl
@[simp] theorem State.setQueue_tlbs (s : State) (k : Nat) (x : Queue) : (s.setQueue k x).tlbs = s.tlbs := rfl
@[simp] theorem State.setQueue_bars (s : State) (k : Nat) (x : Queue) : (s.setQueue k x).bars = s.bars := rfl
@[simp] theorem State.setQueue_waiters (s : State) (k : Nat) (x : Queue) : (s.setQueue k x).waiters = s.waiters := rfl
@[simp] theorem State.setQueue_releases (s : State) (k : Nat) (x : Queue) : (s.setQueue k x).releases = s.releases := rfl
@[simp] theorem State.setQueue_poison (s : State) (k : Nat) (x : Queue) : (s.setQueue k x).poison = s.poison := rfl
@[simp] theorem State.setQueue_flaws (s : State) (k : Nat) (x : Queue) : (s.setQueue k x).flaws = s.flaws := rfl
@[simp] theorem State.setQueue_banks (s : State) (k : Nat) (x : Queue) : (s.setQueue k x).banks = s.banks := rfl
@[simp] theorem State.setQueue_residue (s : State) (k : Nat) (x : Queue) : (s.setQueue k x).residue = s.residue := rfl
@[simp] theorem State.setQueue_upsets (s : State) (k : Nat) (x : Queue) : (s.setQueue k x).upsets = s.upsets := rfl
@[simp] theorem State.setQueue_lost (s : State) (k : Nat) (x : Queue) : (s.setQueue k x).lost = s.lost := rfl
@[simp] theorem State.setQueue_regions (s : State) (k : Nat) (x : Queue) : (s.setQueue k x).regions = s.regions := rfl
@[simp] theorem State.setQueue_signals (s : State) (k : Nat) (x : Queue) : (s.setQueue k x).signals = s.signals := rfl
@[simp] theorem State.setQueue_tasks (s : State) (k : Nat) (x : Queue) : (s.setQueue k x).tasks = s.tasks := rfl
@[simp] theorem State.setQueue_dslot (s : State) (k : Nat) (x : Queue) : (s.setQueue k x).dslot = s.dslot := rfl
@[simp] theorem State.setQueue_dptrs (s : State) (k : Nat) (x : Queue) : (s.setQueue k x).dptrs = s.dptrs := rfl
@[simp] theorem State.setQueue_daged (s : State) (k : Nat) (x : Queue) : (s.setQueue k x).daged = s.daged := rfl
@[simp] theorem State.setQueue_reserve (s : State) (k : Nat) (x : Queue) : (s.setQueue k x).reserve = s.reserve := rfl
@[simp] theorem State.setQueue_saves (s : State) (k : Nat) (x : Queue) : (s.setQueue k x).saves = s.saves := rfl
@[simp] theorem State.setQueue_heads (s : State) (k : Nat) (x : Queue) : (s.setQueue k x).heads = s.heads := rfl
@[simp] theorem State.setQueue_ctxs (s : State) (k : Nat) (x : Queue) : (s.setQueue k x).ctxs = s.ctxs := rfl
@[simp] theorem State.setQueue_tinv (s : State) (k : Nat) (x : Queue) : (s.setQueue k x).tinv = s.tinv := rfl
@[simp] theorem State.setQueue_links (s : State) (k : Nat) (x : Queue) : (s.setQueue k x).links = s.links := rfl
@[simp] theorem State.setQueue_eps (s : State) (k : Nat) (x : Queue) : (s.setQueue k x).eps = s.eps := rfl
@[simp] theorem State.setQueue_outq (s : State) (k : Nat) (x : Queue) : (s.setQueue k x).outq = s.outq := rfl
@[simp] theorem State.setQueue_dfl (s : State) (k : Nat) (x : Queue) : (s.setQueue k x).dfl = s.dfl := rfl
@[simp] theorem State.setQueue_throtcnt (s : State) (k : Nat) (x : Queue) : (s.setQueue k x).throtcnt = s.throtcnt := rfl
@[simp] theorem State.setQueue_govAge (s : State) (k : Nat) (x : Queue) : (s.setQueue k x).govAge = s.govAge := rfl
@[simp] theorem State.setQueue_throttle (s : State) (k : Nat) (x : Queue) : (s.setQueue k x).throttle = s.throttle := rfl
@[simp] theorem State.setQueue_sec (s : State) (k : Nat) (x : Queue) : (s.setQueue k x).sec = s.sec := rfl
@[simp] theorem State.setQueue_agenda (s : State) (k : Nat) (x : Queue) : (s.setQueue k x).agenda = s.agenda := rfl
@[simp] theorem State.setQueue_cur (s : State) (k : Nat) (x : Queue) : (s.setQueue k x).cur = s.cur := rfl
@[simp] theorem State.setQueue_inputs (s : State) (k : Nat) (x : Queue) : (s.setQueue k x).inputs = s.inputs := rfl
@[simp] theorem State.setQueue_round (s : State) (k : Nat) (x : Queue) : (s.setQueue k x).round = s.round := rfl
@[simp] theorem State.setQueue_tick (s : State) (k : Nat) (x : Queue) : (s.setQueue k x).tick = s.tick := rfl
@[simp] theorem State.setQueue_fresh (s : State) (k : Nat) (x : Queue) : (s.setQueue k x).fresh = s.fresh := rfl

@[simp] theorem State.setQueue_elemAt (s : State) (k : Nat) (x : Queue) (j : Nat) : (s.setQueue k x).elem j = s.elem j := rfl
@[simp] theorem State.setQueue_copyEngAt (s : State) (k : Nat) (x : Queue) (j : Nat) : (s.setQueue k x).copyEng j = s.copyEng j := rfl
@[simp] theorem State.setQueue_pressAt (s : State) (k : Nat) (x : Queue) (j : Nat) : (s.setQueue k x).press j = s.press j := rfl
@[simp] theorem State.setQueue_loupeAt (s : State) (k : Nat) (x : Queue) (j : Nat) : (s.setQueue k x).loupe j = s.loupe j := rfl
@[simp] theorem State.setQueue_regionAt (s : State) (k : Nat) (x : Queue) (j : Nat) : (s.setQueue k x).region j = s.region j := rfl
@[simp] theorem State.setQueue_ctxAt (s : State) (k : Nat) (x : Queue) (j : Nat) : (s.setQueue k x).ctx j = s.ctx j := rfl
@[simp] theorem State.setQueue_linkAt (s : State) (k : Nat) (x : Queue) (j : Nat) : (s.setQueue k x).link j = s.link j := rfl
@[simp] theorem State.setQueue_epAt (s : State) (k : Nat) (x : Queue) (j : Nat) : (s.setQueue k x).ep j = s.ep j := rfl
@[simp] theorem State.setQueue_tlbAt (s : State) (k : Nat) (x : Queue) (j : Nat) : (s.setQueue k x).tlb j = s.tlb j := rfl
@[simp] theorem State.setQueue_unitAt (s : State) (k : Nat) (x : Queue) (j : Nat) : (s.setQueue k x).unit? j = s.unit? j := rfl
@[simp] theorem State.setQueue_taskAt (s : State) (k : Nat) (x : Queue) (j : Nat) : (s.setQueue k x).task? j = s.task? j := rfl

/-! State.setLink. -/

@[simp] theorem State.setLink_elems (s : State) (k : Nat) (x : Link) : (s.setLink k x).elems = s.elems := rfl
@[simp] theorem State.setLink_chans (s : State) (k : Nat) (x : Link) : (s.setLink k x).chans = s.chans := rfl
@[simp] theorem State.setLink_wheys (s : State) (k : Nat) (x : Link) : (s.setLink k x).wheys = s.wheys := rfl
@[simp] theorem State.setLink_copies (s : State) (k : Nat) (x : Link) : (s.setLink k x).copies = s.copies := rfl
@[simp] theorem State.setLink_presses (s : State) (k : Nat) (x : Link) : (s.setLink k x).presses = s.presses := rfl
@[simp] theorem State.setLink_units (s : State) (k : Nat) (x : Link) : (s.setLink k x).units = s.units := rfl
@[simp] theorem State.setLink_loupes (s : State) (k : Nat) (x : Link) : (s.setLink k x).loupes = s.loupes := rfl
@[simp] theorem State.setLink_mem (s : State) (k : Nat) (x : Link) : (s.setLink k x).mem = s.mem := rfl
@[simp] theorem State.setLink_accs (s : State) (k : Nat) (x : Link) : (s.setLink k x).accs = s.accs := rfl
@[simp] theorem State.setLink_pwalks (s : State) (k : Nat) (x : Link) : (s.setLink k x).pwalks = s.pwalks := rfl
@[simp] theorem State.setLink_tlbs (s : State) (k : Nat) (x : Link) : (s.setLink k x).tlbs = s.tlbs := rfl
@[simp] theorem State.setLink_bars (s : State) (k : Nat) (x : Link) : (s.setLink k x).bars = s.bars := rfl
@[simp] theorem State.setLink_waiters (s : State) (k : Nat) (x : Link) : (s.setLink k x).waiters = s.waiters := rfl
@[simp] theorem State.setLink_releases (s : State) (k : Nat) (x : Link) : (s.setLink k x).releases = s.releases := rfl
@[simp] theorem State.setLink_poison (s : State) (k : Nat) (x : Link) : (s.setLink k x).poison = s.poison := rfl
@[simp] theorem State.setLink_flaws (s : State) (k : Nat) (x : Link) : (s.setLink k x).flaws = s.flaws := rfl
@[simp] theorem State.setLink_banks (s : State) (k : Nat) (x : Link) : (s.setLink k x).banks = s.banks := rfl
@[simp] theorem State.setLink_residue (s : State) (k : Nat) (x : Link) : (s.setLink k x).residue = s.residue := rfl
@[simp] theorem State.setLink_upsets (s : State) (k : Nat) (x : Link) : (s.setLink k x).upsets = s.upsets := rfl
@[simp] theorem State.setLink_lost (s : State) (k : Nat) (x : Link) : (s.setLink k x).lost = s.lost := rfl
@[simp] theorem State.setLink_regions (s : State) (k : Nat) (x : Link) : (s.setLink k x).regions = s.regions := rfl
@[simp] theorem State.setLink_signals (s : State) (k : Nat) (x : Link) : (s.setLink k x).signals = s.signals := rfl
@[simp] theorem State.setLink_tasks (s : State) (k : Nat) (x : Link) : (s.setLink k x).tasks = s.tasks := rfl
@[simp] theorem State.setLink_dslot (s : State) (k : Nat) (x : Link) : (s.setLink k x).dslot = s.dslot := rfl
@[simp] theorem State.setLink_dptrs (s : State) (k : Nat) (x : Link) : (s.setLink k x).dptrs = s.dptrs := rfl
@[simp] theorem State.setLink_daged (s : State) (k : Nat) (x : Link) : (s.setLink k x).daged = s.daged := rfl
@[simp] theorem State.setLink_reserve (s : State) (k : Nat) (x : Link) : (s.setLink k x).reserve = s.reserve := rfl
@[simp] theorem State.setLink_saves (s : State) (k : Nat) (x : Link) : (s.setLink k x).saves = s.saves := rfl
@[simp] theorem State.setLink_heads (s : State) (k : Nat) (x : Link) : (s.setLink k x).heads = s.heads := rfl
@[simp] theorem State.setLink_ctxs (s : State) (k : Nat) (x : Link) : (s.setLink k x).ctxs = s.ctxs := rfl
@[simp] theorem State.setLink_queues (s : State) (k : Nat) (x : Link) : (s.setLink k x).queues = s.queues := rfl
@[simp] theorem State.setLink_tinv (s : State) (k : Nat) (x : Link) : (s.setLink k x).tinv = s.tinv := rfl
@[simp] theorem State.setLink_eps (s : State) (k : Nat) (x : Link) : (s.setLink k x).eps = s.eps := rfl
@[simp] theorem State.setLink_outq (s : State) (k : Nat) (x : Link) : (s.setLink k x).outq = s.outq := rfl
@[simp] theorem State.setLink_dfl (s : State) (k : Nat) (x : Link) : (s.setLink k x).dfl = s.dfl := rfl
@[simp] theorem State.setLink_throtcnt (s : State) (k : Nat) (x : Link) : (s.setLink k x).throtcnt = s.throtcnt := rfl
@[simp] theorem State.setLink_govAge (s : State) (k : Nat) (x : Link) : (s.setLink k x).govAge = s.govAge := rfl
@[simp] theorem State.setLink_throttle (s : State) (k : Nat) (x : Link) : (s.setLink k x).throttle = s.throttle := rfl
@[simp] theorem State.setLink_sec (s : State) (k : Nat) (x : Link) : (s.setLink k x).sec = s.sec := rfl
@[simp] theorem State.setLink_agenda (s : State) (k : Nat) (x : Link) : (s.setLink k x).agenda = s.agenda := rfl
@[simp] theorem State.setLink_cur (s : State) (k : Nat) (x : Link) : (s.setLink k x).cur = s.cur := rfl
@[simp] theorem State.setLink_inputs (s : State) (k : Nat) (x : Link) : (s.setLink k x).inputs = s.inputs := rfl
@[simp] theorem State.setLink_round (s : State) (k : Nat) (x : Link) : (s.setLink k x).round = s.round := rfl
@[simp] theorem State.setLink_tick (s : State) (k : Nat) (x : Link) : (s.setLink k x).tick = s.tick := rfl
@[simp] theorem State.setLink_fresh (s : State) (k : Nat) (x : Link) : (s.setLink k x).fresh = s.fresh := rfl

@[simp] theorem State.setLink_elemAt (s : State) (k : Nat) (x : Link) (j : Nat) : (s.setLink k x).elem j = s.elem j := rfl
@[simp] theorem State.setLink_copyEngAt (s : State) (k : Nat) (x : Link) (j : Nat) : (s.setLink k x).copyEng j = s.copyEng j := rfl
@[simp] theorem State.setLink_pressAt (s : State) (k : Nat) (x : Link) (j : Nat) : (s.setLink k x).press j = s.press j := rfl
@[simp] theorem State.setLink_loupeAt (s : State) (k : Nat) (x : Link) (j : Nat) : (s.setLink k x).loupe j = s.loupe j := rfl
@[simp] theorem State.setLink_regionAt (s : State) (k : Nat) (x : Link) (j : Nat) : (s.setLink k x).region j = s.region j := rfl
@[simp] theorem State.setLink_ctxAt (s : State) (k : Nat) (x : Link) (j : Nat) : (s.setLink k x).ctx j = s.ctx j := rfl
@[simp] theorem State.setLink_queueAt (s : State) (k : Nat) (x : Link) (j : Nat) : (s.setLink k x).queue j = s.queue j := rfl
@[simp] theorem State.setLink_epAt (s : State) (k : Nat) (x : Link) (j : Nat) : (s.setLink k x).ep j = s.ep j := rfl
@[simp] theorem State.setLink_tlbAt (s : State) (k : Nat) (x : Link) (j : Nat) : (s.setLink k x).tlb j = s.tlb j := rfl
@[simp] theorem State.setLink_unitAt (s : State) (k : Nat) (x : Link) (j : Nat) : (s.setLink k x).unit? j = s.unit? j := rfl
@[simp] theorem State.setLink_taskAt (s : State) (k : Nat) (x : Link) (j : Nat) : (s.setLink k x).task? j = s.task? j := rfl

/-! State.setEp. -/

@[simp] theorem State.setEp_elems (s : State) (k : Nat) (x : Endpoint) : (s.setEp k x).elems = s.elems := rfl
@[simp] theorem State.setEp_chans (s : State) (k : Nat) (x : Endpoint) : (s.setEp k x).chans = s.chans := rfl
@[simp] theorem State.setEp_wheys (s : State) (k : Nat) (x : Endpoint) : (s.setEp k x).wheys = s.wheys := rfl
@[simp] theorem State.setEp_copies (s : State) (k : Nat) (x : Endpoint) : (s.setEp k x).copies = s.copies := rfl
@[simp] theorem State.setEp_presses (s : State) (k : Nat) (x : Endpoint) : (s.setEp k x).presses = s.presses := rfl
@[simp] theorem State.setEp_units (s : State) (k : Nat) (x : Endpoint) : (s.setEp k x).units = s.units := rfl
@[simp] theorem State.setEp_loupes (s : State) (k : Nat) (x : Endpoint) : (s.setEp k x).loupes = s.loupes := rfl
@[simp] theorem State.setEp_mem (s : State) (k : Nat) (x : Endpoint) : (s.setEp k x).mem = s.mem := rfl
@[simp] theorem State.setEp_accs (s : State) (k : Nat) (x : Endpoint) : (s.setEp k x).accs = s.accs := rfl
@[simp] theorem State.setEp_pwalks (s : State) (k : Nat) (x : Endpoint) : (s.setEp k x).pwalks = s.pwalks := rfl
@[simp] theorem State.setEp_tlbs (s : State) (k : Nat) (x : Endpoint) : (s.setEp k x).tlbs = s.tlbs := rfl
@[simp] theorem State.setEp_bars (s : State) (k : Nat) (x : Endpoint) : (s.setEp k x).bars = s.bars := rfl
@[simp] theorem State.setEp_waiters (s : State) (k : Nat) (x : Endpoint) : (s.setEp k x).waiters = s.waiters := rfl
@[simp] theorem State.setEp_releases (s : State) (k : Nat) (x : Endpoint) : (s.setEp k x).releases = s.releases := rfl
@[simp] theorem State.setEp_poison (s : State) (k : Nat) (x : Endpoint) : (s.setEp k x).poison = s.poison := rfl
@[simp] theorem State.setEp_flaws (s : State) (k : Nat) (x : Endpoint) : (s.setEp k x).flaws = s.flaws := rfl
@[simp] theorem State.setEp_banks (s : State) (k : Nat) (x : Endpoint) : (s.setEp k x).banks = s.banks := rfl
@[simp] theorem State.setEp_residue (s : State) (k : Nat) (x : Endpoint) : (s.setEp k x).residue = s.residue := rfl
@[simp] theorem State.setEp_upsets (s : State) (k : Nat) (x : Endpoint) : (s.setEp k x).upsets = s.upsets := rfl
@[simp] theorem State.setEp_lost (s : State) (k : Nat) (x : Endpoint) : (s.setEp k x).lost = s.lost := rfl
@[simp] theorem State.setEp_regions (s : State) (k : Nat) (x : Endpoint) : (s.setEp k x).regions = s.regions := rfl
@[simp] theorem State.setEp_signals (s : State) (k : Nat) (x : Endpoint) : (s.setEp k x).signals = s.signals := rfl
@[simp] theorem State.setEp_tasks (s : State) (k : Nat) (x : Endpoint) : (s.setEp k x).tasks = s.tasks := rfl
@[simp] theorem State.setEp_dslot (s : State) (k : Nat) (x : Endpoint) : (s.setEp k x).dslot = s.dslot := rfl
@[simp] theorem State.setEp_dptrs (s : State) (k : Nat) (x : Endpoint) : (s.setEp k x).dptrs = s.dptrs := rfl
@[simp] theorem State.setEp_daged (s : State) (k : Nat) (x : Endpoint) : (s.setEp k x).daged = s.daged := rfl
@[simp] theorem State.setEp_reserve (s : State) (k : Nat) (x : Endpoint) : (s.setEp k x).reserve = s.reserve := rfl
@[simp] theorem State.setEp_saves (s : State) (k : Nat) (x : Endpoint) : (s.setEp k x).saves = s.saves := rfl
@[simp] theorem State.setEp_heads (s : State) (k : Nat) (x : Endpoint) : (s.setEp k x).heads = s.heads := rfl
@[simp] theorem State.setEp_ctxs (s : State) (k : Nat) (x : Endpoint) : (s.setEp k x).ctxs = s.ctxs := rfl
@[simp] theorem State.setEp_queues (s : State) (k : Nat) (x : Endpoint) : (s.setEp k x).queues = s.queues := rfl
@[simp] theorem State.setEp_tinv (s : State) (k : Nat) (x : Endpoint) : (s.setEp k x).tinv = s.tinv := rfl
@[simp] theorem State.setEp_links (s : State) (k : Nat) (x : Endpoint) : (s.setEp k x).links = s.links := rfl
@[simp] theorem State.setEp_outq (s : State) (k : Nat) (x : Endpoint) : (s.setEp k x).outq = s.outq := rfl
@[simp] theorem State.setEp_dfl (s : State) (k : Nat) (x : Endpoint) : (s.setEp k x).dfl = s.dfl := rfl
@[simp] theorem State.setEp_throtcnt (s : State) (k : Nat) (x : Endpoint) : (s.setEp k x).throtcnt = s.throtcnt := rfl
@[simp] theorem State.setEp_govAge (s : State) (k : Nat) (x : Endpoint) : (s.setEp k x).govAge = s.govAge := rfl
@[simp] theorem State.setEp_throttle (s : State) (k : Nat) (x : Endpoint) : (s.setEp k x).throttle = s.throttle := rfl
@[simp] theorem State.setEp_sec (s : State) (k : Nat) (x : Endpoint) : (s.setEp k x).sec = s.sec := rfl
@[simp] theorem State.setEp_agenda (s : State) (k : Nat) (x : Endpoint) : (s.setEp k x).agenda = s.agenda := rfl
@[simp] theorem State.setEp_cur (s : State) (k : Nat) (x : Endpoint) : (s.setEp k x).cur = s.cur := rfl
@[simp] theorem State.setEp_inputs (s : State) (k : Nat) (x : Endpoint) : (s.setEp k x).inputs = s.inputs := rfl
@[simp] theorem State.setEp_round (s : State) (k : Nat) (x : Endpoint) : (s.setEp k x).round = s.round := rfl
@[simp] theorem State.setEp_tick (s : State) (k : Nat) (x : Endpoint) : (s.setEp k x).tick = s.tick := rfl
@[simp] theorem State.setEp_fresh (s : State) (k : Nat) (x : Endpoint) : (s.setEp k x).fresh = s.fresh := rfl

@[simp] theorem State.setEp_elemAt (s : State) (k : Nat) (x : Endpoint) (j : Nat) : (s.setEp k x).elem j = s.elem j := rfl
@[simp] theorem State.setEp_copyEngAt (s : State) (k : Nat) (x : Endpoint) (j : Nat) : (s.setEp k x).copyEng j = s.copyEng j := rfl
@[simp] theorem State.setEp_pressAt (s : State) (k : Nat) (x : Endpoint) (j : Nat) : (s.setEp k x).press j = s.press j := rfl
@[simp] theorem State.setEp_loupeAt (s : State) (k : Nat) (x : Endpoint) (j : Nat) : (s.setEp k x).loupe j = s.loupe j := rfl
@[simp] theorem State.setEp_regionAt (s : State) (k : Nat) (x : Endpoint) (j : Nat) : (s.setEp k x).region j = s.region j := rfl
@[simp] theorem State.setEp_ctxAt (s : State) (k : Nat) (x : Endpoint) (j : Nat) : (s.setEp k x).ctx j = s.ctx j := rfl
@[simp] theorem State.setEp_queueAt (s : State) (k : Nat) (x : Endpoint) (j : Nat) : (s.setEp k x).queue j = s.queue j := rfl
@[simp] theorem State.setEp_linkAt (s : State) (k : Nat) (x : Endpoint) (j : Nat) : (s.setEp k x).link j = s.link j := rfl
@[simp] theorem State.setEp_tlbAt (s : State) (k : Nat) (x : Endpoint) (j : Nat) : (s.setEp k x).tlb j = s.tlb j := rfl
@[simp] theorem State.setEp_unitAt (s : State) (k : Nat) (x : Endpoint) (j : Nat) : (s.setEp k x).unit? j = s.unit? j := rfl
@[simp] theorem State.setEp_taskAt (s : State) (k : Nat) (x : Endpoint) (j : Nat) : (s.setEp k x).task? j = s.task? j := rfl

/-! State.setTlb. -/

@[simp] theorem State.setTlb_elems (s : State) (k : Nat) (x : Tlb) : (s.setTlb k x).elems = s.elems := rfl
@[simp] theorem State.setTlb_chans (s : State) (k : Nat) (x : Tlb) : (s.setTlb k x).chans = s.chans := rfl
@[simp] theorem State.setTlb_wheys (s : State) (k : Nat) (x : Tlb) : (s.setTlb k x).wheys = s.wheys := rfl
@[simp] theorem State.setTlb_copies (s : State) (k : Nat) (x : Tlb) : (s.setTlb k x).copies = s.copies := rfl
@[simp] theorem State.setTlb_presses (s : State) (k : Nat) (x : Tlb) : (s.setTlb k x).presses = s.presses := rfl
@[simp] theorem State.setTlb_units (s : State) (k : Nat) (x : Tlb) : (s.setTlb k x).units = s.units := rfl
@[simp] theorem State.setTlb_loupes (s : State) (k : Nat) (x : Tlb) : (s.setTlb k x).loupes = s.loupes := rfl
@[simp] theorem State.setTlb_mem (s : State) (k : Nat) (x : Tlb) : (s.setTlb k x).mem = s.mem := rfl
@[simp] theorem State.setTlb_accs (s : State) (k : Nat) (x : Tlb) : (s.setTlb k x).accs = s.accs := rfl
@[simp] theorem State.setTlb_pwalks (s : State) (k : Nat) (x : Tlb) : (s.setTlb k x).pwalks = s.pwalks := rfl
@[simp] theorem State.setTlb_bars (s : State) (k : Nat) (x : Tlb) : (s.setTlb k x).bars = s.bars := rfl
@[simp] theorem State.setTlb_waiters (s : State) (k : Nat) (x : Tlb) : (s.setTlb k x).waiters = s.waiters := rfl
@[simp] theorem State.setTlb_releases (s : State) (k : Nat) (x : Tlb) : (s.setTlb k x).releases = s.releases := rfl
@[simp] theorem State.setTlb_poison (s : State) (k : Nat) (x : Tlb) : (s.setTlb k x).poison = s.poison := rfl
@[simp] theorem State.setTlb_flaws (s : State) (k : Nat) (x : Tlb) : (s.setTlb k x).flaws = s.flaws := rfl
@[simp] theorem State.setTlb_banks (s : State) (k : Nat) (x : Tlb) : (s.setTlb k x).banks = s.banks := rfl
@[simp] theorem State.setTlb_residue (s : State) (k : Nat) (x : Tlb) : (s.setTlb k x).residue = s.residue := rfl
@[simp] theorem State.setTlb_upsets (s : State) (k : Nat) (x : Tlb) : (s.setTlb k x).upsets = s.upsets := rfl
@[simp] theorem State.setTlb_lost (s : State) (k : Nat) (x : Tlb) : (s.setTlb k x).lost = s.lost := rfl
@[simp] theorem State.setTlb_regions (s : State) (k : Nat) (x : Tlb) : (s.setTlb k x).regions = s.regions := rfl
@[simp] theorem State.setTlb_signals (s : State) (k : Nat) (x : Tlb) : (s.setTlb k x).signals = s.signals := rfl
@[simp] theorem State.setTlb_tasks (s : State) (k : Nat) (x : Tlb) : (s.setTlb k x).tasks = s.tasks := rfl
@[simp] theorem State.setTlb_dslot (s : State) (k : Nat) (x : Tlb) : (s.setTlb k x).dslot = s.dslot := rfl
@[simp] theorem State.setTlb_dptrs (s : State) (k : Nat) (x : Tlb) : (s.setTlb k x).dptrs = s.dptrs := rfl
@[simp] theorem State.setTlb_daged (s : State) (k : Nat) (x : Tlb) : (s.setTlb k x).daged = s.daged := rfl
@[simp] theorem State.setTlb_reserve (s : State) (k : Nat) (x : Tlb) : (s.setTlb k x).reserve = s.reserve := rfl
@[simp] theorem State.setTlb_saves (s : State) (k : Nat) (x : Tlb) : (s.setTlb k x).saves = s.saves := rfl
@[simp] theorem State.setTlb_heads (s : State) (k : Nat) (x : Tlb) : (s.setTlb k x).heads = s.heads := rfl
@[simp] theorem State.setTlb_ctxs (s : State) (k : Nat) (x : Tlb) : (s.setTlb k x).ctxs = s.ctxs := rfl
@[simp] theorem State.setTlb_queues (s : State) (k : Nat) (x : Tlb) : (s.setTlb k x).queues = s.queues := rfl
@[simp] theorem State.setTlb_tinv (s : State) (k : Nat) (x : Tlb) : (s.setTlb k x).tinv = s.tinv := rfl
@[simp] theorem State.setTlb_links (s : State) (k : Nat) (x : Tlb) : (s.setTlb k x).links = s.links := rfl
@[simp] theorem State.setTlb_eps (s : State) (k : Nat) (x : Tlb) : (s.setTlb k x).eps = s.eps := rfl
@[simp] theorem State.setTlb_outq (s : State) (k : Nat) (x : Tlb) : (s.setTlb k x).outq = s.outq := rfl
@[simp] theorem State.setTlb_dfl (s : State) (k : Nat) (x : Tlb) : (s.setTlb k x).dfl = s.dfl := rfl
@[simp] theorem State.setTlb_throtcnt (s : State) (k : Nat) (x : Tlb) : (s.setTlb k x).throtcnt = s.throtcnt := rfl
@[simp] theorem State.setTlb_govAge (s : State) (k : Nat) (x : Tlb) : (s.setTlb k x).govAge = s.govAge := rfl
@[simp] theorem State.setTlb_throttle (s : State) (k : Nat) (x : Tlb) : (s.setTlb k x).throttle = s.throttle := rfl
@[simp] theorem State.setTlb_sec (s : State) (k : Nat) (x : Tlb) : (s.setTlb k x).sec = s.sec := rfl
@[simp] theorem State.setTlb_agenda (s : State) (k : Nat) (x : Tlb) : (s.setTlb k x).agenda = s.agenda := rfl
@[simp] theorem State.setTlb_cur (s : State) (k : Nat) (x : Tlb) : (s.setTlb k x).cur = s.cur := rfl
@[simp] theorem State.setTlb_inputs (s : State) (k : Nat) (x : Tlb) : (s.setTlb k x).inputs = s.inputs := rfl
@[simp] theorem State.setTlb_round (s : State) (k : Nat) (x : Tlb) : (s.setTlb k x).round = s.round := rfl
@[simp] theorem State.setTlb_tick (s : State) (k : Nat) (x : Tlb) : (s.setTlb k x).tick = s.tick := rfl
@[simp] theorem State.setTlb_fresh (s : State) (k : Nat) (x : Tlb) : (s.setTlb k x).fresh = s.fresh := rfl

@[simp] theorem State.setTlb_elemAt (s : State) (k : Nat) (x : Tlb) (j : Nat) : (s.setTlb k x).elem j = s.elem j := rfl
@[simp] theorem State.setTlb_copyEngAt (s : State) (k : Nat) (x : Tlb) (j : Nat) : (s.setTlb k x).copyEng j = s.copyEng j := rfl
@[simp] theorem State.setTlb_pressAt (s : State) (k : Nat) (x : Tlb) (j : Nat) : (s.setTlb k x).press j = s.press j := rfl
@[simp] theorem State.setTlb_loupeAt (s : State) (k : Nat) (x : Tlb) (j : Nat) : (s.setTlb k x).loupe j = s.loupe j := rfl
@[simp] theorem State.setTlb_regionAt (s : State) (k : Nat) (x : Tlb) (j : Nat) : (s.setTlb k x).region j = s.region j := rfl
@[simp] theorem State.setTlb_ctxAt (s : State) (k : Nat) (x : Tlb) (j : Nat) : (s.setTlb k x).ctx j = s.ctx j := rfl
@[simp] theorem State.setTlb_queueAt (s : State) (k : Nat) (x : Tlb) (j : Nat) : (s.setTlb k x).queue j = s.queue j := rfl
@[simp] theorem State.setTlb_linkAt (s : State) (k : Nat) (x : Tlb) (j : Nat) : (s.setTlb k x).link j = s.link j := rfl
@[simp] theorem State.setTlb_epAt (s : State) (k : Nat) (x : Tlb) (j : Nat) : (s.setTlb k x).ep j = s.ep j := rfl
@[simp] theorem State.setTlb_unitAt (s : State) (k : Nat) (x : Tlb) (j : Nat) : (s.setTlb k x).unit? j = s.unit? j := rfl
@[simp] theorem State.setTlb_taskAt (s : State) (k : Nat) (x : Tlb) (j : Nat) : (s.setTlb k x).task? j = s.task? j := rfl

/-! State.setSlot. -/

@[simp] theorem State.setSlot_elems (s : State) (t k : Nat) (x : WSlot) : (s.setSlot t k x).elems = s.elems := rfl
@[simp] theorem State.setSlot_chans (s : State) (t k : Nat) (x : WSlot) : (s.setSlot t k x).chans = s.chans := rfl
@[simp] theorem State.setSlot_wheys (s : State) (t k : Nat) (x : WSlot) : (s.setSlot t k x).wheys = s.wheys := rfl
@[simp] theorem State.setSlot_copies (s : State) (t k : Nat) (x : WSlot) : (s.setSlot t k x).copies = s.copies := rfl
@[simp] theorem State.setSlot_presses (s : State) (t k : Nat) (x : WSlot) : (s.setSlot t k x).presses = s.presses := rfl
@[simp] theorem State.setSlot_units (s : State) (t k : Nat) (x : WSlot) : (s.setSlot t k x).units = s.units := rfl
@[simp] theorem State.setSlot_mem (s : State) (t k : Nat) (x : WSlot) : (s.setSlot t k x).mem = s.mem := rfl
@[simp] theorem State.setSlot_accs (s : State) (t k : Nat) (x : WSlot) : (s.setSlot t k x).accs = s.accs := rfl
@[simp] theorem State.setSlot_pwalks (s : State) (t k : Nat) (x : WSlot) : (s.setSlot t k x).pwalks = s.pwalks := rfl
@[simp] theorem State.setSlot_tlbs (s : State) (t k : Nat) (x : WSlot) : (s.setSlot t k x).tlbs = s.tlbs := rfl
@[simp] theorem State.setSlot_bars (s : State) (t k : Nat) (x : WSlot) : (s.setSlot t k x).bars = s.bars := rfl
@[simp] theorem State.setSlot_waiters (s : State) (t k : Nat) (x : WSlot) : (s.setSlot t k x).waiters = s.waiters := rfl
@[simp] theorem State.setSlot_releases (s : State) (t k : Nat) (x : WSlot) : (s.setSlot t k x).releases = s.releases := rfl
@[simp] theorem State.setSlot_poison (s : State) (t k : Nat) (x : WSlot) : (s.setSlot t k x).poison = s.poison := rfl
@[simp] theorem State.setSlot_flaws (s : State) (t k : Nat) (x : WSlot) : (s.setSlot t k x).flaws = s.flaws := rfl
@[simp] theorem State.setSlot_banks (s : State) (t k : Nat) (x : WSlot) : (s.setSlot t k x).banks = s.banks := rfl
@[simp] theorem State.setSlot_residue (s : State) (t k : Nat) (x : WSlot) : (s.setSlot t k x).residue = s.residue := rfl
@[simp] theorem State.setSlot_upsets (s : State) (t k : Nat) (x : WSlot) : (s.setSlot t k x).upsets = s.upsets := rfl
@[simp] theorem State.setSlot_lost (s : State) (t k : Nat) (x : WSlot) : (s.setSlot t k x).lost = s.lost := rfl
@[simp] theorem State.setSlot_regions (s : State) (t k : Nat) (x : WSlot) : (s.setSlot t k x).regions = s.regions := rfl
@[simp] theorem State.setSlot_signals (s : State) (t k : Nat) (x : WSlot) : (s.setSlot t k x).signals = s.signals := rfl
@[simp] theorem State.setSlot_tasks (s : State) (t k : Nat) (x : WSlot) : (s.setSlot t k x).tasks = s.tasks := rfl
@[simp] theorem State.setSlot_dslot (s : State) (t k : Nat) (x : WSlot) : (s.setSlot t k x).dslot = s.dslot := rfl
@[simp] theorem State.setSlot_dptrs (s : State) (t k : Nat) (x : WSlot) : (s.setSlot t k x).dptrs = s.dptrs := rfl
@[simp] theorem State.setSlot_daged (s : State) (t k : Nat) (x : WSlot) : (s.setSlot t k x).daged = s.daged := rfl
@[simp] theorem State.setSlot_reserve (s : State) (t k : Nat) (x : WSlot) : (s.setSlot t k x).reserve = s.reserve := rfl
@[simp] theorem State.setSlot_saves (s : State) (t k : Nat) (x : WSlot) : (s.setSlot t k x).saves = s.saves := rfl
@[simp] theorem State.setSlot_heads (s : State) (t k : Nat) (x : WSlot) : (s.setSlot t k x).heads = s.heads := rfl
@[simp] theorem State.setSlot_ctxs (s : State) (t k : Nat) (x : WSlot) : (s.setSlot t k x).ctxs = s.ctxs := rfl
@[simp] theorem State.setSlot_queues (s : State) (t k : Nat) (x : WSlot) : (s.setSlot t k x).queues = s.queues := rfl
@[simp] theorem State.setSlot_tinv (s : State) (t k : Nat) (x : WSlot) : (s.setSlot t k x).tinv = s.tinv := rfl
@[simp] theorem State.setSlot_links (s : State) (t k : Nat) (x : WSlot) : (s.setSlot t k x).links = s.links := rfl
@[simp] theorem State.setSlot_eps (s : State) (t k : Nat) (x : WSlot) : (s.setSlot t k x).eps = s.eps := rfl
@[simp] theorem State.setSlot_outq (s : State) (t k : Nat) (x : WSlot) : (s.setSlot t k x).outq = s.outq := rfl
@[simp] theorem State.setSlot_dfl (s : State) (t k : Nat) (x : WSlot) : (s.setSlot t k x).dfl = s.dfl := rfl
@[simp] theorem State.setSlot_throtcnt (s : State) (t k : Nat) (x : WSlot) : (s.setSlot t k x).throtcnt = s.throtcnt := rfl
@[simp] theorem State.setSlot_govAge (s : State) (t k : Nat) (x : WSlot) : (s.setSlot t k x).govAge = s.govAge := rfl
@[simp] theorem State.setSlot_throttle (s : State) (t k : Nat) (x : WSlot) : (s.setSlot t k x).throttle = s.throttle := rfl
@[simp] theorem State.setSlot_sec (s : State) (t k : Nat) (x : WSlot) : (s.setSlot t k x).sec = s.sec := rfl
@[simp] theorem State.setSlot_agenda (s : State) (t k : Nat) (x : WSlot) : (s.setSlot t k x).agenda = s.agenda := rfl
@[simp] theorem State.setSlot_cur (s : State) (t k : Nat) (x : WSlot) : (s.setSlot t k x).cur = s.cur := rfl
@[simp] theorem State.setSlot_inputs (s : State) (t k : Nat) (x : WSlot) : (s.setSlot t k x).inputs = s.inputs := rfl
@[simp] theorem State.setSlot_round (s : State) (t k : Nat) (x : WSlot) : (s.setSlot t k x).round = s.round := rfl
@[simp] theorem State.setSlot_tick (s : State) (t k : Nat) (x : WSlot) : (s.setSlot t k x).tick = s.tick := rfl
@[simp] theorem State.setSlot_fresh (s : State) (t k : Nat) (x : WSlot) : (s.setSlot t k x).fresh = s.fresh := rfl

@[simp] theorem State.setSlot_elemAt (s : State) (t k : Nat) (x : WSlot) (j : Nat) : (s.setSlot t k x).elem j = s.elem j := rfl
@[simp] theorem State.setSlot_copyEngAt (s : State) (t k : Nat) (x : WSlot) (j : Nat) : (s.setSlot t k x).copyEng j = s.copyEng j := rfl
@[simp] theorem State.setSlot_pressAt (s : State) (t k : Nat) (x : WSlot) (j : Nat) : (s.setSlot t k x).press j = s.press j := rfl
@[simp] theorem State.setSlot_regionAt (s : State) (t k : Nat) (x : WSlot) (j : Nat) : (s.setSlot t k x).region j = s.region j := rfl
@[simp] theorem State.setSlot_ctxAt (s : State) (t k : Nat) (x : WSlot) (j : Nat) : (s.setSlot t k x).ctx j = s.ctx j := rfl
@[simp] theorem State.setSlot_queueAt (s : State) (t k : Nat) (x : WSlot) (j : Nat) : (s.setSlot t k x).queue j = s.queue j := rfl
@[simp] theorem State.setSlot_linkAt (s : State) (t k : Nat) (x : WSlot) (j : Nat) : (s.setSlot t k x).link j = s.link j := rfl
@[simp] theorem State.setSlot_epAt (s : State) (t k : Nat) (x : WSlot) (j : Nat) : (s.setSlot t k x).ep j = s.ep j := rfl
@[simp] theorem State.setSlot_tlbAt (s : State) (t k : Nat) (x : WSlot) (j : Nat) : (s.setSlot t k x).tlb j = s.tlb j := rfl
@[simp] theorem State.setSlot_unitAt (s : State) (t k : Nat) (x : WSlot) (j : Nat) : (s.setSlot t k x).unit? j = s.unit? j := rfl
@[simp] theorem State.setSlot_taskAt (s : State) (t k : Nat) (x : WSlot) (j : Nat) : (s.setSlot t k x).task? j = s.task? j := rfl

/-! State.bump. -/

@[simp] theorem State.bump_elems (s : State) : (s.bump).elems = s.elems := rfl
@[simp] theorem State.bump_chans (s : State) : (s.bump).chans = s.chans := rfl
@[simp] theorem State.bump_wheys (s : State) : (s.bump).wheys = s.wheys := rfl
@[simp] theorem State.bump_copies (s : State) : (s.bump).copies = s.copies := rfl
@[simp] theorem State.bump_presses (s : State) : (s.bump).presses = s.presses := rfl
@[simp] theorem State.bump_units (s : State) : (s.bump).units = s.units := rfl
@[simp] theorem State.bump_loupes (s : State) : (s.bump).loupes = s.loupes := rfl
@[simp] theorem State.bump_mem (s : State) : (s.bump).mem = s.mem := rfl
@[simp] theorem State.bump_accs (s : State) : (s.bump).accs = s.accs := rfl
@[simp] theorem State.bump_pwalks (s : State) : (s.bump).pwalks = s.pwalks := rfl
@[simp] theorem State.bump_tlbs (s : State) : (s.bump).tlbs = s.tlbs := rfl
@[simp] theorem State.bump_bars (s : State) : (s.bump).bars = s.bars := rfl
@[simp] theorem State.bump_waiters (s : State) : (s.bump).waiters = s.waiters := rfl
@[simp] theorem State.bump_releases (s : State) : (s.bump).releases = s.releases := rfl
@[simp] theorem State.bump_poison (s : State) : (s.bump).poison = s.poison := rfl
@[simp] theorem State.bump_flaws (s : State) : (s.bump).flaws = s.flaws := rfl
@[simp] theorem State.bump_banks (s : State) : (s.bump).banks = s.banks := rfl
@[simp] theorem State.bump_residue (s : State) : (s.bump).residue = s.residue := rfl
@[simp] theorem State.bump_upsets (s : State) : (s.bump).upsets = s.upsets := rfl
@[simp] theorem State.bump_lost (s : State) : (s.bump).lost = s.lost := rfl
@[simp] theorem State.bump_regions (s : State) : (s.bump).regions = s.regions := rfl
@[simp] theorem State.bump_signals (s : State) : (s.bump).signals = s.signals := rfl
@[simp] theorem State.bump_tasks (s : State) : (s.bump).tasks = s.tasks := rfl
@[simp] theorem State.bump_dslot (s : State) : (s.bump).dslot = s.dslot := rfl
@[simp] theorem State.bump_dptrs (s : State) : (s.bump).dptrs = s.dptrs := rfl
@[simp] theorem State.bump_daged (s : State) : (s.bump).daged = s.daged := rfl
@[simp] theorem State.bump_reserve (s : State) : (s.bump).reserve = s.reserve := rfl
@[simp] theorem State.bump_saves (s : State) : (s.bump).saves = s.saves := rfl
@[simp] theorem State.bump_heads (s : State) : (s.bump).heads = s.heads := rfl
@[simp] theorem State.bump_ctxs (s : State) : (s.bump).ctxs = s.ctxs := rfl
@[simp] theorem State.bump_queues (s : State) : (s.bump).queues = s.queues := rfl
@[simp] theorem State.bump_tinv (s : State) : (s.bump).tinv = s.tinv := rfl
@[simp] theorem State.bump_links (s : State) : (s.bump).links = s.links := rfl
@[simp] theorem State.bump_eps (s : State) : (s.bump).eps = s.eps := rfl
@[simp] theorem State.bump_outq (s : State) : (s.bump).outq = s.outq := rfl
@[simp] theorem State.bump_dfl (s : State) : (s.bump).dfl = s.dfl := rfl
@[simp] theorem State.bump_throtcnt (s : State) : (s.bump).throtcnt = s.throtcnt := rfl
@[simp] theorem State.bump_govAge (s : State) : (s.bump).govAge = s.govAge := rfl
@[simp] theorem State.bump_throttle (s : State) : (s.bump).throttle = s.throttle := rfl
@[simp] theorem State.bump_sec (s : State) : (s.bump).sec = s.sec := rfl
@[simp] theorem State.bump_agenda (s : State) : (s.bump).agenda = s.agenda := rfl
@[simp] theorem State.bump_cur (s : State) : (s.bump).cur = s.cur := rfl
@[simp] theorem State.bump_inputs (s : State) : (s.bump).inputs = s.inputs := rfl
@[simp] theorem State.bump_round (s : State) : (s.bump).round = s.round := rfl
@[simp] theorem State.bump_tick (s : State) : (s.bump).tick = s.tick := rfl

@[simp] theorem State.bump_elemAt (s : State) (j : Nat) : (s.bump).elem j = s.elem j := rfl
@[simp] theorem State.bump_copyEngAt (s : State) (j : Nat) : (s.bump).copyEng j = s.copyEng j := rfl
@[simp] theorem State.bump_pressAt (s : State) (j : Nat) : (s.bump).press j = s.press j := rfl
@[simp] theorem State.bump_loupeAt (s : State) (j : Nat) : (s.bump).loupe j = s.loupe j := rfl
@[simp] theorem State.bump_regionAt (s : State) (j : Nat) : (s.bump).region j = s.region j := rfl
@[simp] theorem State.bump_ctxAt (s : State) (j : Nat) : (s.bump).ctx j = s.ctx j := rfl
@[simp] theorem State.bump_queueAt (s : State) (j : Nat) : (s.bump).queue j = s.queue j := rfl
@[simp] theorem State.bump_linkAt (s : State) (j : Nat) : (s.bump).link j = s.link j := rfl
@[simp] theorem State.bump_epAt (s : State) (j : Nat) : (s.bump).ep j = s.ep j := rfl
@[simp] theorem State.bump_tlbAt (s : State) (j : Nat) : (s.bump).tlb j = s.tlb j := rfl
@[simp] theorem State.bump_unitAt (s : State) (j : Nat) : (s.bump).unit? j = s.unit? j := rfl
@[simp] theorem State.bump_taskAt (s : State) (j : Nat) : (s.bump).task? j = s.task? j := rfl

/-! Reading back. -/

@[simp] theorem State.elem_setElem (s : State) (k : Nat) (x : Elem) : (s.setElem k x).elem k = x := by simp [State.elem, State.setElem]
theorem State.elem_setElem_ne (s : State) (k : Nat) (x : Elem) (j : Nat) (h : j ≠ k) : (s.setElem k x).elem j = s.elem j := by
  simp [State.elem, State.setElem, h]
@[simp] theorem State.copyEng_setCopy (s : State) (k : Nat) (x : CopyEng) : (s.setCopy k x).copyEng k = x := by simp [State.copyEng, State.setCopy]
theorem State.copyEng_setCopy_ne (s : State) (k : Nat) (x : CopyEng) (j : Nat) (h : j ≠ k) : (s.setCopy k x).copyEng j = s.copyEng j := by
  simp [State.copyEng, State.setCopy, h]
@[simp] theorem State.press_setPress (s : State) (k : Nat) (x : Press) : (s.setPress k x).press k = x := by simp [State.press, State.setPress]
theorem State.press_setPress_ne (s : State) (k : Nat) (x : Press) (j : Nat) (h : j ≠ k) : (s.setPress k x).press j = s.press j := by
  simp [State.press, State.setPress, h]
@[simp] theorem State.loupe_setLoupe (s : State) (k : Nat) (x : Loupe) : (s.setLoupe k x).loupe k = x := by simp [State.loupe, State.setLoupe]
theorem State.loupe_setLoupe_ne (s : State) (k : Nat) (x : Loupe) (j : Nat) (h : j ≠ k) : (s.setLoupe k x).loupe j = s.loupe j := by
  simp [State.loupe, State.setLoupe, h]
@[simp] theorem State.region_setRegion (s : State) (k : Nat) (x : Region) : (s.setRegion k x).region k = x := by simp [State.region, State.setRegion]
theorem State.region_setRegion_ne (s : State) (k : Nat) (x : Region) (j : Nat) (h : j ≠ k) : (s.setRegion k x).region j = s.region j := by
  simp [State.region, State.setRegion, h]
@[simp] theorem State.ctx_setCtx (s : State) (k : Nat) (x : Ctx) : (s.setCtx k x).ctx k = x := by simp [State.ctx, State.setCtx]
theorem State.ctx_setCtx_ne (s : State) (k : Nat) (x : Ctx) (j : Nat) (h : j ≠ k) : (s.setCtx k x).ctx j = s.ctx j := by
  simp [State.ctx, State.setCtx, h]
@[simp] theorem State.queue_setQueue (s : State) (k : Nat) (x : Queue) : (s.setQueue k x).queue k = x := by simp [State.queue, State.setQueue]
theorem State.queue_setQueue_ne (s : State) (k : Nat) (x : Queue) (j : Nat) (h : j ≠ k) : (s.setQueue k x).queue j = s.queue j := by
  simp [State.queue, State.setQueue, h]
@[simp] theorem State.link_setLink (s : State) (k : Nat) (x : Link) : (s.setLink k x).link k = x := by simp [State.link, State.setLink]
theorem State.link_setLink_ne (s : State) (k : Nat) (x : Link) (j : Nat) (h : j ≠ k) : (s.setLink k x).link j = s.link j := by
  simp [State.link, State.setLink, h]
@[simp] theorem State.ep_setEp (s : State) (k : Nat) (x : Endpoint) : (s.setEp k x).ep k = x := by simp [State.ep, State.setEp]
theorem State.ep_setEp_ne (s : State) (k : Nat) (x : Endpoint) (j : Nat) (h : j ≠ k) : (s.setEp k x).ep j = s.ep j := by
  simp [State.ep, State.setEp, h]
@[simp] theorem State.tlb_setTlb (s : State) (k : Nat) (x : Tlb) : (s.setTlb k x).tlb k = x := by simp [State.tlb, State.setTlb]
theorem State.tlb_setTlb_ne (s : State) (k : Nat) (x : Tlb) (j : Nat) (h : j ≠ k) : (s.setTlb k x).tlb j = s.tlb j := by
  simp [State.tlb, State.setTlb, h]
@[simp] theorem State.unit_setUnit (s : State) (k : Nat) (x : SUnit) : (s.setUnit k x).unit? k = some x := by
  simp [State.unit?, State.setUnit, Table.get?_put_same]
theorem State.unit_setUnit_ne (s : State) (k : Nat) (x : SUnit) (j : Nat) (h : j ≠ k) : (s.setUnit k x).unit? j = s.unit? j := by
  simp [State.unit?, State.setUnit, Table.get?_put_other _ _ _ _ h]
@[simp] theorem State.task_setTask (s : State) (k : Nat) (x : Task) : (s.setTask k x).task? k = some x := by
  simp [State.task?, State.setTask, Table.get?_put_same]
theorem State.task_setTask_ne (s : State) (k : Nat) (x : Task) (j : Nat) (h : j ≠ k) : (s.setTask k x).task? j = s.task? j := by
  simp [State.task?, State.setTask, Table.get?_put_other _ _ _ _ h]

end Sys2Proof.Machine
end

