-- ==== Sys2Proof/Laws/Elem.lean ====
section
/-! SUPPORT. What each part of a rule's commit changes in its element: one lemma for each field it leaves alone. -/

-- One theorem after another: each then needs one thread only.
set_option Elab.async false


namespace Sys2Proof.Machine

/-! Elem.admission. -/

@[simp] theorem Elem.admit_guards (e : Elem) (k : Nat) : (e.admission k).guards = e.guards := by unfold Elem.admission; split <;> (try split) <;> rfl
@[simp] theorem Elem.admit_actions (e : Elem) (k : Nat) : (e.admission k).actions = e.actions := by unfold Elem.admission; split <;> (try split) <;> rfl
@[simp] theorem Elem.admit_c (e : Elem) (k : Nat) : (e.admission k).c = e.c := by unfold Elem.admission; split <;> (try split) <;> rfl
@[simp] theorem Elem.admit_d (e : Elem) (k : Nat) : (e.admission k).d = e.d := by unfold Elem.admission; split <;> (try split) <;> rfl
@[simp] theorem Elem.admit_p (e : Elem) (k : Nat) : (e.admission k).p = e.p := by unfold Elem.admission; split <;> (try split) <;> rfl
@[simp] theorem Elem.admit_l (e : Elem) (k : Nat) : (e.admission k).l = e.l := by unfold Elem.admission; split <;> (try split) <;> rfl
@[simp] theorem Elem.admit_sg (e : Elem) (k : Nat) : (e.admission k).sg = e.sg := by unfold Elem.admission; split <;> (try split) <;> rfl
@[simp] theorem Elem.admit_ports (e : Elem) (k : Nat) : (e.admission k).ports = e.ports := by unfold Elem.admission; split <;> (try split) <;> rfl
@[simp] theorem Elem.admit_binds (e : Elem) (k : Nat) : (e.admission k).binds = e.binds := by unfold Elem.admission; split <;> (try split) <;> rfl
@[simp] theorem Elem.admit_dis (e : Elem) (k : Nat) : (e.admission k).dis = e.dis := by unfold Elem.admission; split <;> (try split) <;> rfl
@[simp] theorem Elem.admit_wait (e : Elem) (k : Nat) : (e.admission k).wait = e.wait := by unfold Elem.admission; split <;> (try split) <;> rfl
@[simp] theorem Elem.admit_rot (e : Elem) (k : Nat) : (e.admission k).rot = e.rot := by unfold Elem.admission; split <;> (try split) <;> rfl
@[simp] theorem Elem.admit_disc (e : Elem) (k : Nat) : (e.admission k).disc = e.disc := by unfold Elem.admission; split <;> (try split) <;> rfl
@[simp] theorem Elem.admit_stats (e : Elem) (k : Nat) : (e.admission k).stats = e.stats := by unfold Elem.admission; split <;> (try split) <;> rfl
@[simp] theorem Elem.admit_fault (e : Elem) (k : Nat) : (e.admission k).fault = e.fault := by unfold Elem.admission; split <;> (try split) <;> rfl
@[simp] theorem Elem.admit_life (e : Elem) (k : Nat) : (e.admission k).life = e.life := by unfold Elem.admission; split <;> (try split) <;> rfl
@[simp] theorem Elem.admit_halted (e : Elem) (k : Nat) : (e.admission k).halted = e.halted := by unfold Elem.admission; split <;> (try split) <;> rfl
@[simp] theorem Elem.admit_pend (e : Elem) (k : Nat) : (e.admission k).pend = e.pend := by unfold Elem.admission; split <;> (try split) <;> rfl
@[simp] theorem Elem.admit_whey (e : Elem) (k : Nat) : (e.admission k).whey = e.whey := by unfold Elem.admission; split <;> (try split) <;> rfl
@[simp] theorem Elem.admit_wheyOn (e : Elem) (k : Nat) : (e.admission k).wheyOn = e.wheyOn := by unfold Elem.admission; split <;> (try split) <;> rfl
@[simp] theorem Elem.admit_loupe (e : Elem) (k : Nat) : (e.admission k).loupe = e.loupe := by unfold Elem.admission; split <;> (try split) <;> rfl
@[simp] theorem Elem.admit_owed (e : Elem) (k : Nat) : (e.admission k).owed = e.owed := by unfold Elem.admission; split <;> (try split) <;> rfl
@[simp] theorem Elem.admit_markSent (e : Elem) (k : Nat) : (e.admission k).markSent = e.markSent := by unfold Elem.admission; split <;> (try split) <;> rfl
@[simp] theorem Elem.admit_nextId (e : Elem) (k : Nat) : (e.admission k).nextId = e.nextId := by unfold Elem.admission; split <;> (try split) <;> rfl
@[simp] theorem Elem.admit_unposted (e : Elem) (k : Nat) : (e.admission k).unposted = e.unposted := by unfold Elem.admission; split <;> (try split) <;> rfl

/-! Elem.takeIn. -/

@[simp] theorem Elem.takeIn_guards (e : Elem) (k : Nat) : (e.takeIn k).guards = e.guards := by simp [Elem.takeIn]
@[simp] theorem Elem.takeIn_actions (e : Elem) (k : Nat) : (e.takeIn k).actions = e.actions := by simp [Elem.takeIn]
@[simp] theorem Elem.takeIn_c (e : Elem) (k : Nat) : (e.takeIn k).c = e.c := by simp [Elem.takeIn]
@[simp] theorem Elem.takeIn_d (e : Elem) (k : Nat) : (e.takeIn k).d = e.d := by simp [Elem.takeIn]
@[simp] theorem Elem.takeIn_p (e : Elem) (k : Nat) : (e.takeIn k).p = e.p := by simp [Elem.takeIn]
@[simp] theorem Elem.takeIn_l (e : Elem) (k : Nat) : (e.takeIn k).l = e.l := by simp [Elem.takeIn]
@[simp] theorem Elem.takeIn_sg (e : Elem) (k : Nat) : (e.takeIn k).sg = e.sg := by simp [Elem.takeIn]
@[simp] theorem Elem.takeIn_binds (e : Elem) (k : Nat) : (e.takeIn k).binds = e.binds := by simp [Elem.takeIn]
@[simp] theorem Elem.takeIn_dis (e : Elem) (k : Nat) : (e.takeIn k).dis = e.dis := by simp [Elem.takeIn]
@[simp] theorem Elem.takeIn_wait (e : Elem) (k : Nat) : (e.takeIn k).wait = e.wait := by simp [Elem.takeIn]
@[simp] theorem Elem.takeIn_rot (e : Elem) (k : Nat) : (e.takeIn k).rot = e.rot := by simp [Elem.takeIn]
@[simp] theorem Elem.takeIn_disc (e : Elem) (k : Nat) : (e.takeIn k).disc = e.disc := by simp [Elem.takeIn]
@[simp] theorem Elem.takeIn_stats (e : Elem) (k : Nat) : (e.takeIn k).stats = e.stats := by simp [Elem.takeIn]
@[simp] theorem Elem.takeIn_fault (e : Elem) (k : Nat) : (e.takeIn k).fault = e.fault := by simp [Elem.takeIn]
@[simp] theorem Elem.takeIn_life (e : Elem) (k : Nat) : (e.takeIn k).life = e.life := by simp [Elem.takeIn]
@[simp] theorem Elem.takeIn_halted (e : Elem) (k : Nat) : (e.takeIn k).halted = e.halted := by simp [Elem.takeIn]
@[simp] theorem Elem.takeIn_pend (e : Elem) (k : Nat) : (e.takeIn k).pend = e.pend := by simp [Elem.takeIn]
@[simp] theorem Elem.takeIn_whey (e : Elem) (k : Nat) : (e.takeIn k).whey = e.whey := by simp [Elem.takeIn]
@[simp] theorem Elem.takeIn_wheyOn (e : Elem) (k : Nat) : (e.takeIn k).wheyOn = e.wheyOn := by simp [Elem.takeIn]
@[simp] theorem Elem.takeIn_loupe (e : Elem) (k : Nat) : (e.takeIn k).loupe = e.loupe := by simp [Elem.takeIn]
@[simp] theorem Elem.takeIn_owed (e : Elem) (k : Nat) : (e.takeIn k).owed = e.owed := by simp [Elem.takeIn]
@[simp] theorem Elem.takeIn_markSent (e : Elem) (k : Nat) : (e.takeIn k).markSent = e.markSent := by simp [Elem.takeIn]
@[simp] theorem Elem.takeIn_nextId (e : Elem) (k : Nat) : (e.takeIn k).nextId = e.nextId := by simp [Elem.takeIn]
@[simp] theorem Elem.takeIn_unposted (e : Elem) (k : Nat) : (e.takeIn k).unposted = e.unposted := by simp [Elem.takeIn]

/-! takeIns. -/

@[simp] theorem Elem.takeIns_guards (e : Elem) (l : List Nat) : (l.foldl Elem.takeIn e).guards = e.guards := by
  induction l generalizing e with
  | nil => rfl
  | cons x t ih => simp [List.foldl, ih]
@[simp] theorem Elem.takeIns_actions (e : Elem) (l : List Nat) : (l.foldl Elem.takeIn e).actions = e.actions := by
  induction l generalizing e with
  | nil => rfl
  | cons x t ih => simp [List.foldl, ih]
@[simp] theorem Elem.takeIns_c (e : Elem) (l : List Nat) : (l.foldl Elem.takeIn e).c = e.c := by
  induction l generalizing e with
  | nil => rfl
  | cons x t ih => simp [List.foldl, ih]
@[simp] theorem Elem.takeIns_d (e : Elem) (l : List Nat) : (l.foldl Elem.takeIn e).d = e.d := by
  induction l generalizing e with
  | nil => rfl
  | cons x t ih => simp [List.foldl, ih]
@[simp] theorem Elem.takeIns_p (e : Elem) (l : List Nat) : (l.foldl Elem.takeIn e).p = e.p := by
  induction l generalizing e with
  | nil => rfl
  | cons x t ih => simp [List.foldl, ih]
@[simp] theorem Elem.takeIns_l (e : Elem) (l : List Nat) : (l.foldl Elem.takeIn e).l = e.l := by
  induction l generalizing e with
  | nil => rfl
  | cons x t ih => simp [List.foldl, ih]
@[simp] theorem Elem.takeIns_sg (e : Elem) (l : List Nat) : (l.foldl Elem.takeIn e).sg = e.sg := by
  induction l generalizing e with
  | nil => rfl
  | cons x t ih => simp [List.foldl, ih]
@[simp] theorem Elem.takeIns_binds (e : Elem) (l : List Nat) : (l.foldl Elem.takeIn e).binds = e.binds := by
  induction l generalizing e with
  | nil => rfl
  | cons x t ih => simp [List.foldl, ih]
@[simp] theorem Elem.takeIns_dis (e : Elem) (l : List Nat) : (l.foldl Elem.takeIn e).dis = e.dis := by
  induction l generalizing e with
  | nil => rfl
  | cons x t ih => simp [List.foldl, ih]
@[simp] theorem Elem.takeIns_wait (e : Elem) (l : List Nat) : (l.foldl Elem.takeIn e).wait = e.wait := by
  induction l generalizing e with
  | nil => rfl
  | cons x t ih => simp [List.foldl, ih]
@[simp] theorem Elem.takeIns_rot (e : Elem) (l : List Nat) : (l.foldl Elem.takeIn e).rot = e.rot := by
  induction l generalizing e with
  | nil => rfl
  | cons x t ih => simp [List.foldl, ih]
@[simp] theorem Elem.takeIns_disc (e : Elem) (l : List Nat) : (l.foldl Elem.takeIn e).disc = e.disc := by
  induction l generalizing e with
  | nil => rfl
  | cons x t ih => simp [List.foldl, ih]
@[simp] theorem Elem.takeIns_stats (e : Elem) (l : List Nat) : (l.foldl Elem.takeIn e).stats = e.stats := by
  induction l generalizing e with
  | nil => rfl
  | cons x t ih => simp [List.foldl, ih]
@[simp] theorem Elem.takeIns_fault (e : Elem) (l : List Nat) : (l.foldl Elem.takeIn e).fault = e.fault := by
  induction l generalizing e with
  | nil => rfl
  | cons x t ih => simp [List.foldl, ih]
@[simp] theorem Elem.takeIns_life (e : Elem) (l : List Nat) : (l.foldl Elem.takeIn e).life = e.life := by
  induction l generalizing e with
  | nil => rfl
  | cons x t ih => simp [List.foldl, ih]
@[simp] theorem Elem.takeIns_halted (e : Elem) (l : List Nat) : (l.foldl Elem.takeIn e).halted = e.halted := by
  induction l generalizing e with
  | nil => rfl
  | cons x t ih => simp [List.foldl, ih]
@[simp] theorem Elem.takeIns_pend (e : Elem) (l : List Nat) : (l.foldl Elem.takeIn e).pend = e.pend := by
  induction l generalizing e with
  | nil => rfl
  | cons x t ih => simp [List.foldl, ih]
@[simp] theorem Elem.takeIns_whey (e : Elem) (l : List Nat) : (l.foldl Elem.takeIn e).whey = e.whey := by
  induction l generalizing e with
  | nil => rfl
  | cons x t ih => simp [List.foldl, ih]
@[simp] theorem Elem.takeIns_wheyOn (e : Elem) (l : List Nat) : (l.foldl Elem.takeIn e).wheyOn = e.wheyOn := by
  induction l generalizing e with
  | nil => rfl
  | cons x t ih => simp [List.foldl, ih]
@[simp] theorem Elem.takeIns_loupe (e : Elem) (l : List Nat) : (l.foldl Elem.takeIn e).loupe = e.loupe := by
  induction l generalizing e with
  | nil => rfl
  | cons x t ih => simp [List.foldl, ih]
@[simp] theorem Elem.takeIns_owed (e : Elem) (l : List Nat) : (l.foldl Elem.takeIn e).owed = e.owed := by
  induction l generalizing e with
  | nil => rfl
  | cons x t ih => simp [List.foldl, ih]
@[simp] theorem Elem.takeIns_markSent (e : Elem) (l : List Nat) : (l.foldl Elem.takeIn e).markSent = e.markSent := by
  induction l generalizing e with
  | nil => rfl
  | cons x t ih => simp [List.foldl, ih]
@[simp] theorem Elem.takeIns_nextId (e : Elem) (l : List Nat) : (l.foldl Elem.takeIn e).nextId = e.nextId := by
  induction l generalizing e with
  | nil => rfl
  | cons x t ih => simp [List.foldl, ih]
@[simp] theorem Elem.takeIns_unposted (e : Elem) (l : List Nat) : (l.foldl Elem.takeIn e).unposted = e.unposted := by
  induction l generalizing e with
  | nil => rfl
  | cons x t ih => simp [List.foldl, ih]

/-! Elem.takeCtl. -/

@[simp] theorem Elem.takeCtl_guards (e : Elem) (k : Nat) : (e.takeCtl k).guards = e.guards := by unfold Elem.takeCtl; simp only []; split <;> rfl
@[simp] theorem Elem.takeCtl_actions (e : Elem) (k : Nat) : (e.takeCtl k).actions = e.actions := by unfold Elem.takeCtl; simp only []; split <;> rfl
@[simp] theorem Elem.takeCtl_c (e : Elem) (k : Nat) : (e.takeCtl k).c = e.c := by unfold Elem.takeCtl; simp only []; split <;> rfl
@[simp] theorem Elem.takeCtl_d (e : Elem) (k : Nat) : (e.takeCtl k).d = e.d := by unfold Elem.takeCtl; simp only []; split <;> rfl
@[simp] theorem Elem.takeCtl_p (e : Elem) (k : Nat) : (e.takeCtl k).p = e.p := by unfold Elem.takeCtl; simp only []; split <;> rfl
@[simp] theorem Elem.takeCtl_l (e : Elem) (k : Nat) : (e.takeCtl k).l = e.l := by unfold Elem.takeCtl; simp only []; split <;> rfl
@[simp] theorem Elem.takeCtl_sg (e : Elem) (k : Nat) : (e.takeCtl k).sg = e.sg := by unfold Elem.takeCtl; simp only []; split <;> rfl
@[simp] theorem Elem.takeCtl_binds (e : Elem) (k : Nat) : (e.takeCtl k).binds = e.binds := by unfold Elem.takeCtl; simp only []; split <;> rfl
@[simp] theorem Elem.takeCtl_dis (e : Elem) (k : Nat) : (e.takeCtl k).dis = e.dis := by unfold Elem.takeCtl; simp only []; split <;> rfl
@[simp] theorem Elem.takeCtl_wait (e : Elem) (k : Nat) : (e.takeCtl k).wait = e.wait := by unfold Elem.takeCtl; simp only []; split <;> rfl
@[simp] theorem Elem.takeCtl_rot (e : Elem) (k : Nat) : (e.takeCtl k).rot = e.rot := by unfold Elem.takeCtl; simp only []; split <;> rfl
@[simp] theorem Elem.takeCtl_disc (e : Elem) (k : Nat) : (e.takeCtl k).disc = e.disc := by unfold Elem.takeCtl; simp only []; split <;> rfl
@[simp] theorem Elem.takeCtl_stats (e : Elem) (k : Nat) : (e.takeCtl k).stats = e.stats := by unfold Elem.takeCtl; simp only []; split <;> rfl
@[simp] theorem Elem.takeCtl_fault (e : Elem) (k : Nat) : (e.takeCtl k).fault = e.fault := by unfold Elem.takeCtl; simp only []; split <;> rfl
@[simp] theorem Elem.takeCtl_cycles (e : Elem) (k : Nat) : (e.takeCtl k).cycles = e.cycles := by unfold Elem.takeCtl; simp only []; split <;> rfl
@[simp] theorem Elem.takeCtl_life (e : Elem) (k : Nat) : (e.takeCtl k).life = e.life := by unfold Elem.takeCtl; simp only []; split <;> rfl
@[simp] theorem Elem.takeCtl_halted (e : Elem) (k : Nat) : (e.takeCtl k).halted = e.halted := by unfold Elem.takeCtl; simp only []; split <;> rfl
@[simp] theorem Elem.takeCtl_pend (e : Elem) (k : Nat) : (e.takeCtl k).pend = e.pend := by unfold Elem.takeCtl; simp only []; split <;> rfl
@[simp] theorem Elem.takeCtl_whey (e : Elem) (k : Nat) : (e.takeCtl k).whey = e.whey := by unfold Elem.takeCtl; simp only []; split <;> rfl
@[simp] theorem Elem.takeCtl_wheyOn (e : Elem) (k : Nat) : (e.takeCtl k).wheyOn = e.wheyOn := by unfold Elem.takeCtl; simp only []; split <;> rfl
@[simp] theorem Elem.takeCtl_loupe (e : Elem) (k : Nat) : (e.takeCtl k).loupe = e.loupe := by unfold Elem.takeCtl; simp only []; split <;> rfl
@[simp] theorem Elem.takeCtl_owed (e : Elem) (k : Nat) : (e.takeCtl k).owed = e.owed := by unfold Elem.takeCtl; simp only []; split <;> rfl
@[simp] theorem Elem.takeCtl_markSent (e : Elem) (k : Nat) : (e.takeCtl k).markSent = e.markSent := by unfold Elem.takeCtl; simp only []; split <;> rfl
@[simp] theorem Elem.takeCtl_nextId (e : Elem) (k : Nat) : (e.takeCtl k).nextId = e.nextId := by unfold Elem.takeCtl; simp only []; split <;> rfl
@[simp] theorem Elem.takeCtl_unposted (e : Elem) (k : Nat) : (e.takeCtl k).unposted = e.unposted := by unfold Elem.takeCtl; simp only []; split <;> rfl

/-! Elem.once. -/

@[simp] theorem Elem.once_guards (e : Elem) (k : Nat) : (e.once k).guards = e.guards := by unfold Elem.once; simp only []; split <;> rfl
@[simp] theorem Elem.once_actions (e : Elem) (k : Nat) : (e.once k).actions = e.actions := by unfold Elem.once; simp only []; split <;> rfl
@[simp] theorem Elem.once_c (e : Elem) (k : Nat) : (e.once k).c = e.c := by unfold Elem.once; simp only []; split <;> rfl
@[simp] theorem Elem.once_d (e : Elem) (k : Nat) : (e.once k).d = e.d := by unfold Elem.once; simp only []; split <;> rfl
@[simp] theorem Elem.once_p (e : Elem) (k : Nat) : (e.once k).p = e.p := by unfold Elem.once; simp only []; split <;> rfl
@[simp] theorem Elem.once_l (e : Elem) (k : Nat) : (e.once k).l = e.l := by unfold Elem.once; simp only []; split <;> rfl
@[simp] theorem Elem.once_sg (e : Elem) (k : Nat) : (e.once k).sg = e.sg := by unfold Elem.once; simp only []; split <;> rfl
@[simp] theorem Elem.once_ports (e : Elem) (k : Nat) : (e.once k).ports = e.ports := by unfold Elem.once; simp only []; split <;> rfl
@[simp] theorem Elem.once_binds (e : Elem) (k : Nat) : (e.once k).binds = e.binds := by unfold Elem.once; simp only []; split <;> rfl
@[simp] theorem Elem.once_wait (e : Elem) (k : Nat) : (e.once k).wait = e.wait := by unfold Elem.once; simp only []; split <;> rfl
@[simp] theorem Elem.once_rot (e : Elem) (k : Nat) : (e.once k).rot = e.rot := by unfold Elem.once; simp only []; split <;> rfl
@[simp] theorem Elem.once_disc (e : Elem) (k : Nat) : (e.once k).disc = e.disc := by unfold Elem.once; simp only []; split <;> rfl
@[simp] theorem Elem.once_stats (e : Elem) (k : Nat) : (e.once k).stats = e.stats := by unfold Elem.once; simp only []; split <;> rfl
@[simp] theorem Elem.once_fault (e : Elem) (k : Nat) : (e.once k).fault = e.fault := by unfold Elem.once; simp only []; split <;> rfl
@[simp] theorem Elem.once_cycles (e : Elem) (k : Nat) : (e.once k).cycles = e.cycles := by unfold Elem.once; simp only []; split <;> rfl
@[simp] theorem Elem.once_life (e : Elem) (k : Nat) : (e.once k).life = e.life := by unfold Elem.once; simp only []; split <;> rfl
@[simp] theorem Elem.once_halted (e : Elem) (k : Nat) : (e.once k).halted = e.halted := by unfold Elem.once; simp only []; split <;> rfl
@[simp] theorem Elem.once_pend (e : Elem) (k : Nat) : (e.once k).pend = e.pend := by unfold Elem.once; simp only []; split <;> rfl
@[simp] theorem Elem.once_whey (e : Elem) (k : Nat) : (e.once k).whey = e.whey := by unfold Elem.once; simp only []; split <;> rfl
@[simp] theorem Elem.once_wheyOn (e : Elem) (k : Nat) : (e.once k).wheyOn = e.wheyOn := by unfold Elem.once; simp only []; split <;> rfl
@[simp] theorem Elem.once_loupe (e : Elem) (k : Nat) : (e.once k).loupe = e.loupe := by unfold Elem.once; simp only []; split <;> rfl
@[simp] theorem Elem.once_owed (e : Elem) (k : Nat) : (e.once k).owed = e.owed := by unfold Elem.once; simp only []; split <;> rfl
@[simp] theorem Elem.once_markSent (e : Elem) (k : Nat) : (e.once k).markSent = e.markSent := by unfold Elem.once; simp only []; split <;> rfl
@[simp] theorem Elem.once_nextId (e : Elem) (k : Nat) : (e.once k).nextId = e.nextId := by unfold Elem.once; simp only []; split <;> rfl
@[simp] theorem Elem.once_unposted (e : Elem) (k : Nat) : (e.once k).unposted = e.unposted := by unfold Elem.once; simp only []; split <;> rfl

/-! Elem.fireTakes. -/

@[simp] theorem Elem.fireTakes_guards (e : Elem) (k : Nat) (l : List Nat) : (e.fireTakes k l).guards = e.guards := by simp [Elem.fireTakes]
@[simp] theorem Elem.fireTakes_actions (e : Elem) (k : Nat) (l : List Nat) : (e.fireTakes k l).actions = e.actions := by simp [Elem.fireTakes]
@[simp] theorem Elem.fireTakes_c (e : Elem) (k : Nat) (l : List Nat) : (e.fireTakes k l).c = e.c := by simp [Elem.fireTakes]
@[simp] theorem Elem.fireTakes_d (e : Elem) (k : Nat) (l : List Nat) : (e.fireTakes k l).d = e.d := by simp [Elem.fireTakes]
@[simp] theorem Elem.fireTakes_p (e : Elem) (k : Nat) (l : List Nat) : (e.fireTakes k l).p = e.p := by simp [Elem.fireTakes]
@[simp] theorem Elem.fireTakes_l (e : Elem) (k : Nat) (l : List Nat) : (e.fireTakes k l).l = e.l := by simp [Elem.fireTakes]
@[simp] theorem Elem.fireTakes_sg (e : Elem) (k : Nat) (l : List Nat) : (e.fireTakes k l).sg = e.sg := by simp [Elem.fireTakes]
@[simp] theorem Elem.fireTakes_binds (e : Elem) (k : Nat) (l : List Nat) : (e.fireTakes k l).binds = e.binds := by simp [Elem.fireTakes]
@[simp] theorem Elem.fireTakes_wait (e : Elem) (k : Nat) (l : List Nat) : (e.fireTakes k l).wait = e.wait := by simp [Elem.fireTakes]
@[simp] theorem Elem.fireTakes_rot (e : Elem) (k : Nat) (l : List Nat) : (e.fireTakes k l).rot = e.rot := by simp [Elem.fireTakes]
@[simp] theorem Elem.fireTakes_disc (e : Elem) (k : Nat) (l : List Nat) : (e.fireTakes k l).disc = e.disc := by simp [Elem.fireTakes]
@[simp] theorem Elem.fireTakes_stats (e : Elem) (k : Nat) (l : List Nat) : (e.fireTakes k l).stats = e.stats := by simp [Elem.fireTakes]
@[simp] theorem Elem.fireTakes_fault (e : Elem) (k : Nat) (l : List Nat) : (e.fireTakes k l).fault = e.fault := by simp [Elem.fireTakes]
@[simp] theorem Elem.fireTakes_life (e : Elem) (k : Nat) (l : List Nat) : (e.fireTakes k l).life = e.life := by simp [Elem.fireTakes]
@[simp] theorem Elem.fireTakes_halted (e : Elem) (k : Nat) (l : List Nat) : (e.fireTakes k l).halted = e.halted := by simp [Elem.fireTakes]
@[simp] theorem Elem.fireTakes_pend (e : Elem) (k : Nat) (l : List Nat) : (e.fireTakes k l).pend = e.pend := by simp [Elem.fireTakes]
@[simp] theorem Elem.fireTakes_whey (e : Elem) (k : Nat) (l : List Nat) : (e.fireTakes k l).whey = e.whey := by simp [Elem.fireTakes]
@[simp] theorem Elem.fireTakes_wheyOn (e : Elem) (k : Nat) (l : List Nat) : (e.fireTakes k l).wheyOn = e.wheyOn := by simp [Elem.fireTakes]
@[simp] theorem Elem.fireTakes_loupe (e : Elem) (k : Nat) (l : List Nat) : (e.fireTakes k l).loupe = e.loupe := by simp [Elem.fireTakes]
@[simp] theorem Elem.fireTakes_owed (e : Elem) (k : Nat) (l : List Nat) : (e.fireTakes k l).owed = e.owed := by simp [Elem.fireTakes]
@[simp] theorem Elem.fireTakes_markSent (e : Elem) (k : Nat) (l : List Nat) : (e.fireTakes k l).markSent = e.markSent := by simp [Elem.fireTakes]
@[simp] theorem Elem.fireTakes_nextId (e : Elem) (k : Nat) (l : List Nat) : (e.fireTakes k l).nextId = e.nextId := by simp [Elem.fireTakes]
@[simp] theorem Elem.fireTakes_unposted (e : Elem) (k : Nat) (l : List Nat) : (e.fireTakes k l).unposted = e.unposted := by simp [Elem.fireTakes]

/-! Elem.leave. -/

@[simp] theorem Elem.leave_guards (e : Elem) (x : Put) : (e.leave x).guards = e.guards := by unfold Elem.leave; split <;> (try split) <;> rfl
@[simp] theorem Elem.leave_actions (e : Elem) (x : Put) : (e.leave x).actions = e.actions := by unfold Elem.leave; split <;> (try split) <;> rfl
@[simp] theorem Elem.leave_c (e : Elem) (x : Put) : (e.leave x).c = e.c := by unfold Elem.leave; split <;> (try split) <;> rfl
@[simp] theorem Elem.leave_d (e : Elem) (x : Put) : (e.leave x).d = e.d := by unfold Elem.leave; split <;> (try split) <;> rfl
@[simp] theorem Elem.leave_p (e : Elem) (x : Put) : (e.leave x).p = e.p := by unfold Elem.leave; split <;> (try split) <;> rfl
@[simp] theorem Elem.leave_l (e : Elem) (x : Put) : (e.leave x).l = e.l := by unfold Elem.leave; split <;> (try split) <;> rfl
@[simp] theorem Elem.leave_sg (e : Elem) (x : Put) : (e.leave x).sg = e.sg := by unfold Elem.leave; split <;> (try split) <;> rfl
@[simp] theorem Elem.leave_ports (e : Elem) (x : Put) : (e.leave x).ports = e.ports := by unfold Elem.leave; split <;> (try split) <;> rfl
@[simp] theorem Elem.leave_binds (e : Elem) (x : Put) : (e.leave x).binds = e.binds := by unfold Elem.leave; split <;> (try split) <;> rfl
@[simp] theorem Elem.leave_dis (e : Elem) (x : Put) : (e.leave x).dis = e.dis := by unfold Elem.leave; split <;> (try split) <;> rfl
@[simp] theorem Elem.leave_wait (e : Elem) (x : Put) : (e.leave x).wait = e.wait := by unfold Elem.leave; split <;> (try split) <;> rfl
@[simp] theorem Elem.leave_rot (e : Elem) (x : Put) : (e.leave x).rot = e.rot := by unfold Elem.leave; split <;> (try split) <;> rfl
@[simp] theorem Elem.leave_disc (e : Elem) (x : Put) : (e.leave x).disc = e.disc := by unfold Elem.leave; split <;> (try split) <;> rfl
@[simp] theorem Elem.leave_stats (e : Elem) (x : Put) : (e.leave x).stats = e.stats := by unfold Elem.leave; split <;> (try split) <;> rfl
@[simp] theorem Elem.leave_fault (e : Elem) (x : Put) : (e.leave x).fault = e.fault := by unfold Elem.leave; split <;> (try split) <;> rfl
@[simp] theorem Elem.leave_life (e : Elem) (x : Put) : (e.leave x).life = e.life := by unfold Elem.leave; split <;> (try split) <;> rfl
@[simp] theorem Elem.leave_halted (e : Elem) (x : Put) : (e.leave x).halted = e.halted := by unfold Elem.leave; split <;> (try split) <;> rfl
@[simp] theorem Elem.leave_pend (e : Elem) (x : Put) : (e.leave x).pend = e.pend := by unfold Elem.leave; split <;> (try split) <;> rfl
@[simp] theorem Elem.leave_whey (e : Elem) (x : Put) : (e.leave x).whey = e.whey := by unfold Elem.leave; split <;> (try split) <;> rfl
@[simp] theorem Elem.leave_wheyOn (e : Elem) (x : Put) : (e.leave x).wheyOn = e.wheyOn := by unfold Elem.leave; split <;> (try split) <;> rfl
@[simp] theorem Elem.leave_loupe (e : Elem) (x : Put) : (e.leave x).loupe = e.loupe := by unfold Elem.leave; split <;> (try split) <;> rfl
@[simp] theorem Elem.leave_owed (e : Elem) (x : Put) : (e.leave x).owed = e.owed := by unfold Elem.leave; split <;> (try split) <;> rfl
@[simp] theorem Elem.leave_markSent (e : Elem) (x : Put) : (e.leave x).markSent = e.markSent := by unfold Elem.leave; split <;> (try split) <;> rfl
@[simp] theorem Elem.leave_nextId (e : Elem) (x : Put) : (e.leave x).nextId = e.nextId := by unfold Elem.leave; split <;> (try split) <;> rfl
@[simp] theorem Elem.leave_unposted (e : Elem) (x : Put) : (e.leave x).unposted = e.unposted := by unfold Elem.leave; split <;> (try split) <;> rfl

/-! leaves. -/

@[simp] theorem Elem.leaves_guards (e : Elem) (l : List Put) : (l.foldl Elem.leave e).guards = e.guards := by
  induction l generalizing e with
  | nil => rfl
  | cons x t ih => simp [List.foldl, ih]
@[simp] theorem Elem.leaves_actions (e : Elem) (l : List Put) : (l.foldl Elem.leave e).actions = e.actions := by
  induction l generalizing e with
  | nil => rfl
  | cons x t ih => simp [List.foldl, ih]
@[simp] theorem Elem.leaves_c (e : Elem) (l : List Put) : (l.foldl Elem.leave e).c = e.c := by
  induction l generalizing e with
  | nil => rfl
  | cons x t ih => simp [List.foldl, ih]
@[simp] theorem Elem.leaves_d (e : Elem) (l : List Put) : (l.foldl Elem.leave e).d = e.d := by
  induction l generalizing e with
  | nil => rfl
  | cons x t ih => simp [List.foldl, ih]
@[simp] theorem Elem.leaves_p (e : Elem) (l : List Put) : (l.foldl Elem.leave e).p = e.p := by
  induction l generalizing e with
  | nil => rfl
  | cons x t ih => simp [List.foldl, ih]
@[simp] theorem Elem.leaves_l (e : Elem) (l : List Put) : (l.foldl Elem.leave e).l = e.l := by
  induction l generalizing e with
  | nil => rfl
  | cons x t ih => simp [List.foldl, ih]
@[simp] theorem Elem.leaves_sg (e : Elem) (l : List Put) : (l.foldl Elem.leave e).sg = e.sg := by
  induction l generalizing e with
  | nil => rfl
  | cons x t ih => simp [List.foldl, ih]
@[simp] theorem Elem.leaves_ports (e : Elem) (l : List Put) : (l.foldl Elem.leave e).ports = e.ports := by
  induction l generalizing e with
  | nil => rfl
  | cons x t ih => simp [List.foldl, ih]
@[simp] theorem Elem.leaves_binds (e : Elem) (l : List Put) : (l.foldl Elem.leave e).binds = e.binds := by
  induction l generalizing e with
  | nil => rfl
  | cons x t ih => simp [List.foldl, ih]
@[simp] theorem Elem.leaves_dis (e : Elem) (l : List Put) : (l.foldl Elem.leave e).dis = e.dis := by
  induction l generalizing e with
  | nil => rfl
  | cons x t ih => simp [List.foldl, ih]
@[simp] theorem Elem.leaves_wait (e : Elem) (l : List Put) : (l.foldl Elem.leave e).wait = e.wait := by
  induction l generalizing e with
  | nil => rfl
  | cons x t ih => simp [List.foldl, ih]
@[simp] theorem Elem.leaves_rot (e : Elem) (l : List Put) : (l.foldl Elem.leave e).rot = e.rot := by
  induction l generalizing e with
  | nil => rfl
  | cons x t ih => simp [List.foldl, ih]
@[simp] theorem Elem.leaves_disc (e : Elem) (l : List Put) : (l.foldl Elem.leave e).disc = e.disc := by
  induction l generalizing e with
  | nil => rfl
  | cons x t ih => simp [List.foldl, ih]
@[simp] theorem Elem.leaves_stats (e : Elem) (l : List Put) : (l.foldl Elem.leave e).stats = e.stats := by
  induction l generalizing e with
  | nil => rfl
  | cons x t ih => simp [List.foldl, ih]
@[simp] theorem Elem.leaves_fault (e : Elem) (l : List Put) : (l.foldl Elem.leave e).fault = e.fault := by
  induction l generalizing e with
  | nil => rfl
  | cons x t ih => simp [List.foldl, ih]
@[simp] theorem Elem.leaves_life (e : Elem) (l : List Put) : (l.foldl Elem.leave e).life = e.life := by
  induction l generalizing e with
  | nil => rfl
  | cons x t ih => simp [List.foldl, ih]
@[simp] theorem Elem.leaves_halted (e : Elem) (l : List Put) : (l.foldl Elem.leave e).halted = e.halted := by
  induction l generalizing e with
  | nil => rfl
  | cons x t ih => simp [List.foldl, ih]
@[simp] theorem Elem.leaves_pend (e : Elem) (l : List Put) : (l.foldl Elem.leave e).pend = e.pend := by
  induction l generalizing e with
  | nil => rfl
  | cons x t ih => simp [List.foldl, ih]
@[simp] theorem Elem.leaves_whey (e : Elem) (l : List Put) : (l.foldl Elem.leave e).whey = e.whey := by
  induction l generalizing e with
  | nil => rfl
  | cons x t ih => simp [List.foldl, ih]
@[simp] theorem Elem.leaves_wheyOn (e : Elem) (l : List Put) : (l.foldl Elem.leave e).wheyOn = e.wheyOn := by
  induction l generalizing e with
  | nil => rfl
  | cons x t ih => simp [List.foldl, ih]
@[simp] theorem Elem.leaves_loupe (e : Elem) (l : List Put) : (l.foldl Elem.leave e).loupe = e.loupe := by
  induction l generalizing e with
  | nil => rfl
  | cons x t ih => simp [List.foldl, ih]
@[simp] theorem Elem.leaves_owed (e : Elem) (l : List Put) : (l.foldl Elem.leave e).owed = e.owed := by
  induction l generalizing e with
  | nil => rfl
  | cons x t ih => simp [List.foldl, ih]
@[simp] theorem Elem.leaves_markSent (e : Elem) (l : List Put) : (l.foldl Elem.leave e).markSent = e.markSent := by
  induction l generalizing e with
  | nil => rfl
  | cons x t ih => simp [List.foldl, ih]
@[simp] theorem Elem.leaves_nextId (e : Elem) (l : List Put) : (l.foldl Elem.leave e).nextId = e.nextId := by
  induction l generalizing e with
  | nil => rfl
  | cons x t ih => simp [List.foldl, ih]
@[simp] theorem Elem.leaves_unposted (e : Elem) (l : List Put) : (l.foldl Elem.leave e).unposted = e.unposted := by
  induction l generalizing e with
  | nil => rfl
  | cons x t ih => simp [List.foldl, ih]

/-! Elem.put. -/

@[simp] theorem Elem.put_guards (e : Elem) (x : Put) : (e.put x).guards = e.guards := by cases x <;> rfl
@[simp] theorem Elem.put_actions (e : Elem) (x : Put) : (e.put x).actions = e.actions := by cases x <;> rfl
@[simp] theorem Elem.put_c (e : Elem) (x : Put) : (e.put x).c = e.c := by cases x <;> rfl
@[simp] theorem Elem.put_binds (e : Elem) (x : Put) : (e.put x).binds = e.binds := by cases x <;> rfl
@[simp] theorem Elem.put_dis (e : Elem) (x : Put) : (e.put x).dis = e.dis := by cases x <;> rfl
@[simp] theorem Elem.put_wait (e : Elem) (x : Put) : (e.put x).wait = e.wait := by cases x <;> rfl
@[simp] theorem Elem.put_rot (e : Elem) (x : Put) : (e.put x).rot = e.rot := by cases x <;> rfl
@[simp] theorem Elem.put_disc (e : Elem) (x : Put) : (e.put x).disc = e.disc := by cases x <;> rfl
@[simp] theorem Elem.put_stats (e : Elem) (x : Put) : (e.put x).stats = e.stats := by cases x <;> rfl
@[simp] theorem Elem.put_fault (e : Elem) (x : Put) : (e.put x).fault = e.fault := by cases x <;> rfl
@[simp] theorem Elem.put_cycles (e : Elem) (x : Put) : (e.put x).cycles = e.cycles := by cases x <;> rfl
@[simp] theorem Elem.put_life (e : Elem) (x : Put) : (e.put x).life = e.life := by cases x <;> rfl
@[simp] theorem Elem.put_halted (e : Elem) (x : Put) : (e.put x).halted = e.halted := by cases x <;> rfl
@[simp] theorem Elem.put_pend (e : Elem) (x : Put) : (e.put x).pend = e.pend := by cases x <;> rfl
@[simp] theorem Elem.put_whey (e : Elem) (x : Put) : (e.put x).whey = e.whey := by cases x <;> rfl
@[simp] theorem Elem.put_wheyOn (e : Elem) (x : Put) : (e.put x).wheyOn = e.wheyOn := by cases x <;> rfl
@[simp] theorem Elem.put_loupe (e : Elem) (x : Put) : (e.put x).loupe = e.loupe := by cases x <;> rfl
@[simp] theorem Elem.put_owed (e : Elem) (x : Put) : (e.put x).owed = e.owed := by cases x <;> rfl
@[simp] theorem Elem.put_markSent (e : Elem) (x : Put) : (e.put x).markSent = e.markSent := by cases x <;> rfl
@[simp] theorem Elem.put_nextId (e : Elem) (x : Put) : (e.put x).nextId = e.nextId := by cases x <;> rfl
@[simp] theorem Elem.put_unposted (e : Elem) (x : Put) : (e.put x).unposted = e.unposted := by cases x <;> rfl

/-! Elem.puts. -/

@[simp] theorem Elem.puts_guards (e : Elem) (l : List Put) : (e.puts l).guards = e.guards := by
  unfold Elem.puts
  induction l generalizing e with
  | nil => rfl
  | cons x t ih => simp [List.foldl, ih]
@[simp] theorem Elem.puts_actions (e : Elem) (l : List Put) : (e.puts l).actions = e.actions := by
  unfold Elem.puts
  induction l generalizing e with
  | nil => rfl
  | cons x t ih => simp [List.foldl, ih]
@[simp] theorem Elem.puts_c (e : Elem) (l : List Put) : (e.puts l).c = e.c := by
  unfold Elem.puts
  induction l generalizing e with
  | nil => rfl
  | cons x t ih => simp [List.foldl, ih]
@[simp] theorem Elem.puts_binds (e : Elem) (l : List Put) : (e.puts l).binds = e.binds := by
  unfold Elem.puts
  induction l generalizing e with
  | nil => rfl
  | cons x t ih => simp [List.foldl, ih]
@[simp] theorem Elem.puts_dis (e : Elem) (l : List Put) : (e.puts l).dis = e.dis := by
  unfold Elem.puts
  induction l generalizing e with
  | nil => rfl
  | cons x t ih => simp [List.foldl, ih]
@[simp] theorem Elem.puts_wait (e : Elem) (l : List Put) : (e.puts l).wait = e.wait := by
  unfold Elem.puts
  induction l generalizing e with
  | nil => rfl
  | cons x t ih => simp [List.foldl, ih]
@[simp] theorem Elem.puts_rot (e : Elem) (l : List Put) : (e.puts l).rot = e.rot := by
  unfold Elem.puts
  induction l generalizing e with
  | nil => rfl
  | cons x t ih => simp [List.foldl, ih]
@[simp] theorem Elem.puts_disc (e : Elem) (l : List Put) : (e.puts l).disc = e.disc := by
  unfold Elem.puts
  induction l generalizing e with
  | nil => rfl
  | cons x t ih => simp [List.foldl, ih]
@[simp] theorem Elem.puts_stats (e : Elem) (l : List Put) : (e.puts l).stats = e.stats := by
  unfold Elem.puts
  induction l generalizing e with
  | nil => rfl
  | cons x t ih => simp [List.foldl, ih]
@[simp] theorem Elem.puts_fault (e : Elem) (l : List Put) : (e.puts l).fault = e.fault := by
  unfold Elem.puts
  induction l generalizing e with
  | nil => rfl
  | cons x t ih => simp [List.foldl, ih]
@[simp] theorem Elem.puts_cycles (e : Elem) (l : List Put) : (e.puts l).cycles = e.cycles := by
  unfold Elem.puts
  induction l generalizing e with
  | nil => rfl
  | cons x t ih => simp [List.foldl, ih]
@[simp] theorem Elem.puts_life (e : Elem) (l : List Put) : (e.puts l).life = e.life := by
  unfold Elem.puts
  induction l generalizing e with
  | nil => rfl
  | cons x t ih => simp [List.foldl, ih]
@[simp] theorem Elem.puts_halted (e : Elem) (l : List Put) : (e.puts l).halted = e.halted := by
  unfold Elem.puts
  induction l generalizing e with
  | nil => rfl
  | cons x t ih => simp [List.foldl, ih]
@[simp] theorem Elem.puts_pend (e : Elem) (l : List Put) : (e.puts l).pend = e.pend := by
  unfold Elem.puts
  induction l generalizing e with
  | nil => rfl
  | cons x t ih => simp [List.foldl, ih]
@[simp] theorem Elem.puts_whey (e : Elem) (l : List Put) : (e.puts l).whey = e.whey := by
  unfold Elem.puts
  induction l generalizing e with
  | nil => rfl
  | cons x t ih => simp [List.foldl, ih]
@[simp] theorem Elem.puts_wheyOn (e : Elem) (l : List Put) : (e.puts l).wheyOn = e.wheyOn := by
  unfold Elem.puts
  induction l generalizing e with
  | nil => rfl
  | cons x t ih => simp [List.foldl, ih]
@[simp] theorem Elem.puts_loupe (e : Elem) (l : List Put) : (e.puts l).loupe = e.loupe := by
  unfold Elem.puts
  induction l generalizing e with
  | nil => rfl
  | cons x t ih => simp [List.foldl, ih]
@[simp] theorem Elem.puts_owed (e : Elem) (l : List Put) : (e.puts l).owed = e.owed := by
  unfold Elem.puts
  induction l generalizing e with
  | nil => rfl
  | cons x t ih => simp [List.foldl, ih]
@[simp] theorem Elem.puts_markSent (e : Elem) (l : List Put) : (e.puts l).markSent = e.markSent := by
  unfold Elem.puts
  induction l generalizing e with
  | nil => rfl
  | cons x t ih => simp [List.foldl, ih]
@[simp] theorem Elem.puts_nextId (e : Elem) (l : List Put) : (e.puts l).nextId = e.nextId := by
  unfold Elem.puts
  induction l generalizing e with
  | nil => rfl
  | cons x t ih => simp [List.foldl, ih]
@[simp] theorem Elem.puts_unposted (e : Elem) (l : List Put) : (e.puts l).unposted = e.unposted := by
  unfold Elem.puts
  induction l generalizing e with
  | nil => rfl
  | cons x t ih => simp [List.foldl, ih]

/-! Elem.reserve. -/

@[simp] theorem Elem.reserve_guards (e : Elem) (id : Nat) (l : List Put) : (e.reserve id l).guards = e.guards := by
  unfold Elem.reserve
  induction l generalizing e with
  | nil => rfl
  | cons x t ih => rw [List.foldl, ih]; cases x <;> rfl
@[simp] theorem Elem.reserve_actions (e : Elem) (id : Nat) (l : List Put) : (e.reserve id l).actions = e.actions := by
  unfold Elem.reserve
  induction l generalizing e with
  | nil => rfl
  | cons x t ih => rw [List.foldl, ih]; cases x <;> rfl
@[simp] theorem Elem.reserve_c (e : Elem) (id : Nat) (l : List Put) : (e.reserve id l).c = e.c := by
  unfold Elem.reserve
  induction l generalizing e with
  | nil => rfl
  | cons x t ih => rw [List.foldl, ih]; cases x <;> rfl
@[simp] theorem Elem.reserve_d (e : Elem) (id : Nat) (l : List Put) : (e.reserve id l).d = e.d := by
  unfold Elem.reserve
  induction l generalizing e with
  | nil => rfl
  | cons x t ih => rw [List.foldl, ih]; cases x <;> rfl
@[simp] theorem Elem.reserve_p (e : Elem) (id : Nat) (l : List Put) : (e.reserve id l).p = e.p := by
  unfold Elem.reserve
  induction l generalizing e with
  | nil => rfl
  | cons x t ih => rw [List.foldl, ih]; cases x <;> rfl
@[simp] theorem Elem.reserve_l (e : Elem) (id : Nat) (l : List Put) : (e.reserve id l).l = e.l := by
  unfold Elem.reserve
  induction l generalizing e with
  | nil => rfl
  | cons x t ih => rw [List.foldl, ih]; cases x <;> rfl
@[simp] theorem Elem.reserve_sg (e : Elem) (id : Nat) (l : List Put) : (e.reserve id l).sg = e.sg := by
  unfold Elem.reserve
  induction l generalizing e with
  | nil => rfl
  | cons x t ih => rw [List.foldl, ih]; cases x <;> rfl
@[simp] theorem Elem.reserve_binds (e : Elem) (id : Nat) (l : List Put) : (e.reserve id l).binds = e.binds := by
  unfold Elem.reserve
  induction l generalizing e with
  | nil => rfl
  | cons x t ih => rw [List.foldl, ih]; cases x <;> rfl
@[simp] theorem Elem.reserve_dis (e : Elem) (id : Nat) (l : List Put) : (e.reserve id l).dis = e.dis := by
  unfold Elem.reserve
  induction l generalizing e with
  | nil => rfl
  | cons x t ih => rw [List.foldl, ih]; cases x <;> rfl
@[simp] theorem Elem.reserve_wait (e : Elem) (id : Nat) (l : List Put) : (e.reserve id l).wait = e.wait := by
  unfold Elem.reserve
  induction l generalizing e with
  | nil => rfl
  | cons x t ih => rw [List.foldl, ih]; cases x <;> rfl
@[simp] theorem Elem.reserve_rot (e : Elem) (id : Nat) (l : List Put) : (e.reserve id l).rot = e.rot := by
  unfold Elem.reserve
  induction l generalizing e with
  | nil => rfl
  | cons x t ih => rw [List.foldl, ih]; cases x <;> rfl
@[simp] theorem Elem.reserve_disc (e : Elem) (id : Nat) (l : List Put) : (e.reserve id l).disc = e.disc := by
  unfold Elem.reserve
  induction l generalizing e with
  | nil => rfl
  | cons x t ih => rw [List.foldl, ih]; cases x <;> rfl
@[simp] theorem Elem.reserve_stats (e : Elem) (id : Nat) (l : List Put) : (e.reserve id l).stats = e.stats := by
  unfold Elem.reserve
  induction l generalizing e with
  | nil => rfl
  | cons x t ih => rw [List.foldl, ih]; cases x <;> rfl
@[simp] theorem Elem.reserve_fault (e : Elem) (id : Nat) (l : List Put) : (e.reserve id l).fault = e.fault := by
  unfold Elem.reserve
  induction l generalizing e with
  | nil => rfl
  | cons x t ih => rw [List.foldl, ih]; cases x <;> rfl
@[simp] theorem Elem.reserve_cycles (e : Elem) (id : Nat) (l : List Put) : (e.reserve id l).cycles = e.cycles := by
  unfold Elem.reserve
  induction l generalizing e with
  | nil => rfl
  | cons x t ih => rw [List.foldl, ih]; cases x <;> rfl
@[simp] theorem Elem.reserve_life (e : Elem) (id : Nat) (l : List Put) : (e.reserve id l).life = e.life := by
  unfold Elem.reserve
  induction l generalizing e with
  | nil => rfl
  | cons x t ih => rw [List.foldl, ih]; cases x <;> rfl
@[simp] theorem Elem.reserve_halted (e : Elem) (id : Nat) (l : List Put) : (e.reserve id l).halted = e.halted := by
  unfold Elem.reserve
  induction l generalizing e with
  | nil => rfl
  | cons x t ih => rw [List.foldl, ih]; cases x <;> rfl
@[simp] theorem Elem.reserve_pend (e : Elem) (id : Nat) (l : List Put) : (e.reserve id l).pend = e.pend := by
  unfold Elem.reserve
  induction l generalizing e with
  | nil => rfl
  | cons x t ih => rw [List.foldl, ih]; cases x <;> rfl
@[simp] theorem Elem.reserve_whey (e : Elem) (id : Nat) (l : List Put) : (e.reserve id l).whey = e.whey := by
  unfold Elem.reserve
  induction l generalizing e with
  | nil => rfl
  | cons x t ih => rw [List.foldl, ih]; cases x <;> rfl
@[simp] theorem Elem.reserve_wheyOn (e : Elem) (id : Nat) (l : List Put) : (e.reserve id l).wheyOn = e.wheyOn := by
  unfold Elem.reserve
  induction l generalizing e with
  | nil => rfl
  | cons x t ih => rw [List.foldl, ih]; cases x <;> rfl
@[simp] theorem Elem.reserve_loupe (e : Elem) (id : Nat) (l : List Put) : (e.reserve id l).loupe = e.loupe := by
  unfold Elem.reserve
  induction l generalizing e with
  | nil => rfl
  | cons x t ih => rw [List.foldl, ih]; cases x <;> rfl
@[simp] theorem Elem.reserve_owed (e : Elem) (id : Nat) (l : List Put) : (e.reserve id l).owed = e.owed := by
  unfold Elem.reserve
  induction l generalizing e with
  | nil => rfl
  | cons x t ih => rw [List.foldl, ih]; cases x <;> rfl
@[simp] theorem Elem.reserve_markSent (e : Elem) (id : Nat) (l : List Put) : (e.reserve id l).markSent = e.markSent := by
  unfold Elem.reserve
  induction l generalizing e with
  | nil => rfl
  | cons x t ih => rw [List.foldl, ih]; cases x <;> rfl
@[simp] theorem Elem.reserve_nextId (e : Elem) (id : Nat) (l : List Put) : (e.reserve id l).nextId = e.nextId := by
  unfold Elem.reserve
  induction l generalizing e with
  | nil => rfl
  | cons x t ih => rw [List.foldl, ih]; cases x <;> rfl
@[simp] theorem Elem.reserve_unposted (e : Elem) (id : Nat) (l : List Put) : (e.reserve id l).unposted = e.unposted := by
  unfold Elem.reserve
  induction l generalizing e with
  | nil => rfl
  | cons x t ih => rw [List.foldl, ih]; cases x <;> rfl

/-! Elem.suspend. -/

@[simp] theorem Elem.suspend_guards (e : Elem) (r : Nat) (l : List Put) (x : Pend) : (e.suspend r l x).guards = e.guards := by simp [Elem.suspend]
@[simp] theorem Elem.suspend_actions (e : Elem) (r : Nat) (l : List Put) (x : Pend) : (e.suspend r l x).actions = e.actions := by simp [Elem.suspend]
@[simp] theorem Elem.suspend_c (e : Elem) (r : Nat) (l : List Put) (x : Pend) : (e.suspend r l x).c = e.c := by simp [Elem.suspend]
@[simp] theorem Elem.suspend_d (e : Elem) (r : Nat) (l : List Put) (x : Pend) : (e.suspend r l x).d = e.d := by simp [Elem.suspend]
@[simp] theorem Elem.suspend_p (e : Elem) (r : Nat) (l : List Put) (x : Pend) : (e.suspend r l x).p = e.p := by simp [Elem.suspend]
@[simp] theorem Elem.suspend_l (e : Elem) (r : Nat) (l : List Put) (x : Pend) : (e.suspend r l x).l = e.l := by simp [Elem.suspend]
@[simp] theorem Elem.suspend_sg (e : Elem) (r : Nat) (l : List Put) (x : Pend) : (e.suspend r l x).sg = e.sg := by simp [Elem.suspend]
@[simp] theorem Elem.suspend_binds (e : Elem) (r : Nat) (l : List Put) (x : Pend) : (e.suspend r l x).binds = e.binds := by simp [Elem.suspend]
@[simp] theorem Elem.suspend_dis (e : Elem) (r : Nat) (l : List Put) (x : Pend) : (e.suspend r l x).dis = e.dis := by simp [Elem.suspend]
@[simp] theorem Elem.suspend_wait (e : Elem) (r : Nat) (l : List Put) (x : Pend) : (e.suspend r l x).wait = e.wait := by simp [Elem.suspend]
@[simp] theorem Elem.suspend_rot (e : Elem) (r : Nat) (l : List Put) (x : Pend) : (e.suspend r l x).rot = e.rot := by simp [Elem.suspend]
@[simp] theorem Elem.suspend_disc (e : Elem) (r : Nat) (l : List Put) (x : Pend) : (e.suspend r l x).disc = e.disc := by simp [Elem.suspend]
@[simp] theorem Elem.suspend_stats (e : Elem) (r : Nat) (l : List Put) (x : Pend) : (e.suspend r l x).stats = e.stats := by simp [Elem.suspend]
@[simp] theorem Elem.suspend_fault (e : Elem) (r : Nat) (l : List Put) (x : Pend) : (e.suspend r l x).fault = e.fault := by simp [Elem.suspend]
@[simp] theorem Elem.suspend_cycles (e : Elem) (r : Nat) (l : List Put) (x : Pend) : (e.suspend r l x).cycles = e.cycles := by simp [Elem.suspend]
@[simp] theorem Elem.suspend_life (e : Elem) (r : Nat) (l : List Put) (x : Pend) : (e.suspend r l x).life = e.life := by simp [Elem.suspend]
@[simp] theorem Elem.suspend_halted (e : Elem) (r : Nat) (l : List Put) (x : Pend) : (e.suspend r l x).halted = e.halted := by simp [Elem.suspend]
@[simp] theorem Elem.suspend_whey (e : Elem) (r : Nat) (l : List Put) (x : Pend) : (e.suspend r l x).whey = e.whey := by simp [Elem.suspend]
@[simp] theorem Elem.suspend_wheyOn (e : Elem) (r : Nat) (l : List Put) (x : Pend) : (e.suspend r l x).wheyOn = e.wheyOn := by simp [Elem.suspend]
@[simp] theorem Elem.suspend_loupe (e : Elem) (r : Nat) (l : List Put) (x : Pend) : (e.suspend r l x).loupe = e.loupe := by simp [Elem.suspend]
@[simp] theorem Elem.suspend_owed (e : Elem) (r : Nat) (l : List Put) (x : Pend) : (e.suspend r l x).owed = e.owed := by simp [Elem.suspend]
@[simp] theorem Elem.suspend_markSent (e : Elem) (r : Nat) (l : List Put) (x : Pend) : (e.suspend r l x).markSent = e.markSent := by simp [Elem.suspend]
@[simp] theorem Elem.suspend_unposted (e : Elem) (r : Nat) (l : List Put) (x : Pend) : (e.suspend r l x).unposted = e.unposted := by simp [Elem.suspend]

/-! Elem.issue. -/

@[simp] theorem Elem.issue_guards (e : Elem) (r : Nat) (l : List Put) (n : Inc) (lat : Nat) : (e.issue r l n lat).guards = e.guards := by unfold Elem.issue; split <;> simp
@[simp] theorem Elem.issue_actions (e : Elem) (r : Nat) (l : List Put) (n : Inc) (lat : Nat) : (e.issue r l n lat).actions = e.actions := by unfold Elem.issue; split <;> simp
@[simp] theorem Elem.issue_c (e : Elem) (r : Nat) (l : List Put) (n : Inc) (lat : Nat) : (e.issue r l n lat).c = e.c := by unfold Elem.issue; split <;> simp
@[simp] theorem Elem.issue_binds (e : Elem) (r : Nat) (l : List Put) (n : Inc) (lat : Nat) : (e.issue r l n lat).binds = e.binds := by unfold Elem.issue; split <;> simp
@[simp] theorem Elem.issue_dis (e : Elem) (r : Nat) (l : List Put) (n : Inc) (lat : Nat) : (e.issue r l n lat).dis = e.dis := by unfold Elem.issue; split <;> simp
@[simp] theorem Elem.issue_wait (e : Elem) (r : Nat) (l : List Put) (n : Inc) (lat : Nat) : (e.issue r l n lat).wait = e.wait := by unfold Elem.issue; split <;> simp
@[simp] theorem Elem.issue_rot (e : Elem) (r : Nat) (l : List Put) (n : Inc) (lat : Nat) : (e.issue r l n lat).rot = e.rot := by unfold Elem.issue; split <;> simp
@[simp] theorem Elem.issue_disc (e : Elem) (r : Nat) (l : List Put) (n : Inc) (lat : Nat) : (e.issue r l n lat).disc = e.disc := by unfold Elem.issue; split <;> simp
@[simp] theorem Elem.issue_fault (e : Elem) (r : Nat) (l : List Put) (n : Inc) (lat : Nat) : (e.issue r l n lat).fault = e.fault := by unfold Elem.issue; split <;> simp
@[simp] theorem Elem.issue_cycles (e : Elem) (r : Nat) (l : List Put) (n : Inc) (lat : Nat) : (e.issue r l n lat).cycles = e.cycles := by unfold Elem.issue; split <;> simp
@[simp] theorem Elem.issue_life (e : Elem) (r : Nat) (l : List Put) (n : Inc) (lat : Nat) : (e.issue r l n lat).life = e.life := by unfold Elem.issue; split <;> simp
@[simp] theorem Elem.issue_halted (e : Elem) (r : Nat) (l : List Put) (n : Inc) (lat : Nat) : (e.issue r l n lat).halted = e.halted := by unfold Elem.issue; split <;> simp
@[simp] theorem Elem.issue_whey (e : Elem) (r : Nat) (l : List Put) (n : Inc) (lat : Nat) : (e.issue r l n lat).whey = e.whey := by unfold Elem.issue; split <;> simp
@[simp] theorem Elem.issue_wheyOn (e : Elem) (r : Nat) (l : List Put) (n : Inc) (lat : Nat) : (e.issue r l n lat).wheyOn = e.wheyOn := by unfold Elem.issue; split <;> simp
@[simp] theorem Elem.issue_loupe (e : Elem) (r : Nat) (l : List Put) (n : Inc) (lat : Nat) : (e.issue r l n lat).loupe = e.loupe := by unfold Elem.issue; split <;> simp
@[simp] theorem Elem.issue_owed (e : Elem) (r : Nat) (l : List Put) (n : Inc) (lat : Nat) : (e.issue r l n lat).owed = e.owed := by unfold Elem.issue; split <;> simp
@[simp] theorem Elem.issue_markSent (e : Elem) (r : Nat) (l : List Put) (n : Inc) (lat : Nat) : (e.issue r l n lat).markSent = e.markSent := by unfold Elem.issue; split <;> simp
@[simp] theorem Elem.issue_unposted (e : Elem) (r : Nat) (l : List Put) (n : Inc) (lat : Nat) : (e.issue r l n lat).unposted = e.unposted := by unfold Elem.issue; split <;> simp

/-! Elem.commit. -/

@[simp] theorem Elem.commit_guards (e : Elem) (r : Nat) (q : Req) (l : List Put) (n : Inc) : (e.commit r q l n).guards = e.guards := by simp [Elem.commit]
@[simp] theorem Elem.commit_actions (e : Elem) (r : Nat) (q : Req) (l : List Put) (n : Inc) : (e.commit r q l n).actions = e.actions := by simp [Elem.commit]
@[simp] theorem Elem.commit_c (e : Elem) (r : Nat) (q : Req) (l : List Put) (n : Inc) : (e.commit r q l n).c = e.c := by simp [Elem.commit]
@[simp] theorem Elem.commit_binds (e : Elem) (r : Nat) (q : Req) (l : List Put) (n : Inc) : (e.commit r q l n).binds = e.binds := by simp [Elem.commit]
@[simp] theorem Elem.commit_wait (e : Elem) (r : Nat) (q : Req) (l : List Put) (n : Inc) : (e.commit r q l n).wait = e.wait := by simp [Elem.commit]
@[simp] theorem Elem.commit_rot (e : Elem) (r : Nat) (q : Req) (l : List Put) (n : Inc) : (e.commit r q l n).rot = e.rot := by simp [Elem.commit]
@[simp] theorem Elem.commit_disc (e : Elem) (r : Nat) (q : Req) (l : List Put) (n : Inc) : (e.commit r q l n).disc = e.disc := by simp [Elem.commit]
@[simp] theorem Elem.commit_fault (e : Elem) (r : Nat) (q : Req) (l : List Put) (n : Inc) : (e.commit r q l n).fault = e.fault := by simp [Elem.commit]
@[simp] theorem Elem.commit_life (e : Elem) (r : Nat) (q : Req) (l : List Put) (n : Inc) : (e.commit r q l n).life = e.life := by simp [Elem.commit]
@[simp] theorem Elem.commit_halted (e : Elem) (r : Nat) (q : Req) (l : List Put) (n : Inc) : (e.commit r q l n).halted = e.halted := by simp [Elem.commit]
@[simp] theorem Elem.commit_whey (e : Elem) (r : Nat) (q : Req) (l : List Put) (n : Inc) : (e.commit r q l n).whey = e.whey := by simp [Elem.commit]
@[simp] theorem Elem.commit_wheyOn (e : Elem) (r : Nat) (q : Req) (l : List Put) (n : Inc) : (e.commit r q l n).wheyOn = e.wheyOn := by simp [Elem.commit]
@[simp] theorem Elem.commit_loupe (e : Elem) (r : Nat) (q : Req) (l : List Put) (n : Inc) : (e.commit r q l n).loupe = e.loupe := by simp [Elem.commit]
@[simp] theorem Elem.commit_owed (e : Elem) (r : Nat) (q : Req) (l : List Put) (n : Inc) : (e.commit r q l n).owed = e.owed := by simp [Elem.commit]
@[simp] theorem Elem.commit_markSent (e : Elem) (r : Nat) (q : Req) (l : List Put) (n : Inc) : (e.commit r q l n).markSent = e.markSent := by simp [Elem.commit]
@[simp] theorem Elem.commit_unposted (e : Elem) (r : Nat) (q : Req) (l : List Put) (n : Inc) : (e.commit r q l n).unposted = e.unposted := by simp [Elem.commit]

/-! Elem.issuePort. -/

@[simp] theorem Elem.issuePort_guards (e : Elem) (r : Nat) (q : Req) (l : List Put) (j : Job) (b : Bool) : (e.issuePort r q l j b).guards = e.guards := by simp [Elem.issuePort]
@[simp] theorem Elem.issuePort_actions (e : Elem) (r : Nat) (q : Req) (l : List Put) (j : Job) (b : Bool) : (e.issuePort r q l j b).actions = e.actions := by simp [Elem.issuePort]
@[simp] theorem Elem.issuePort_c (e : Elem) (r : Nat) (q : Req) (l : List Put) (j : Job) (b : Bool) : (e.issuePort r q l j b).c = e.c := by simp [Elem.issuePort]
@[simp] theorem Elem.issuePort_binds (e : Elem) (r : Nat) (q : Req) (l : List Put) (j : Job) (b : Bool) : (e.issuePort r q l j b).binds = e.binds := by simp [Elem.issuePort]
@[simp] theorem Elem.issuePort_wait (e : Elem) (r : Nat) (q : Req) (l : List Put) (j : Job) (b : Bool) : (e.issuePort r q l j b).wait = e.wait := by simp [Elem.issuePort]
@[simp] theorem Elem.issuePort_rot (e : Elem) (r : Nat) (q : Req) (l : List Put) (j : Job) (b : Bool) : (e.issuePort r q l j b).rot = e.rot := by simp [Elem.issuePort]
@[simp] theorem Elem.issuePort_disc (e : Elem) (r : Nat) (q : Req) (l : List Put) (j : Job) (b : Bool) : (e.issuePort r q l j b).disc = e.disc := by simp [Elem.issuePort]
@[simp] theorem Elem.issuePort_stats (e : Elem) (r : Nat) (q : Req) (l : List Put) (j : Job) (b : Bool) : (e.issuePort r q l j b).stats = e.stats := by simp [Elem.issuePort]
@[simp] theorem Elem.issuePort_fault (e : Elem) (r : Nat) (q : Req) (l : List Put) (j : Job) (b : Bool) : (e.issuePort r q l j b).fault = e.fault := by simp [Elem.issuePort]
@[simp] theorem Elem.issuePort_life (e : Elem) (r : Nat) (q : Req) (l : List Put) (j : Job) (b : Bool) : (e.issuePort r q l j b).life = e.life := by simp [Elem.issuePort]
@[simp] theorem Elem.issuePort_halted (e : Elem) (r : Nat) (q : Req) (l : List Put) (j : Job) (b : Bool) : (e.issuePort r q l j b).halted = e.halted := by simp [Elem.issuePort]
@[simp] theorem Elem.issuePort_whey (e : Elem) (r : Nat) (q : Req) (l : List Put) (j : Job) (b : Bool) : (e.issuePort r q l j b).whey = e.whey := by simp [Elem.issuePort]
@[simp] theorem Elem.issuePort_wheyOn (e : Elem) (r : Nat) (q : Req) (l : List Put) (j : Job) (b : Bool) : (e.issuePort r q l j b).wheyOn = e.wheyOn := by simp [Elem.issuePort]
@[simp] theorem Elem.issuePort_loupe (e : Elem) (r : Nat) (q : Req) (l : List Put) (j : Job) (b : Bool) : (e.issuePort r q l j b).loupe = e.loupe := by simp [Elem.issuePort]
@[simp] theorem Elem.issuePort_owed (e : Elem) (r : Nat) (q : Req) (l : List Put) (j : Job) (b : Bool) : (e.issuePort r q l j b).owed = e.owed := by simp [Elem.issuePort]
@[simp] theorem Elem.issuePort_markSent (e : Elem) (r : Nat) (q : Req) (l : List Put) (j : Job) (b : Bool) : (e.issuePort r q l j b).markSent = e.markSent := by simp [Elem.issuePort]
@[simp] theorem Elem.issuePort_unposted (e : Elem) (r : Nat) (q : Req) (l : List Put) (j : Job) (b : Bool) : (e.issuePort r q l j b).unposted = e.unposted := by simp [Elem.issuePort]

/-! Elem.freeze. -/

@[simp] theorem Elem.freeze_guards (e : Elem) (x : FaultReg) (b : Bool) : (e.freeze x b).guards = e.guards := by unfold Elem.freeze; (repeat' split) <;> rfl
@[simp] theorem Elem.freeze_actions (e : Elem) (x : FaultReg) (b : Bool) : (e.freeze x b).actions = e.actions := by unfold Elem.freeze; (repeat' split) <;> rfl
@[simp] theorem Elem.freeze_c (e : Elem) (x : FaultReg) (b : Bool) : (e.freeze x b).c = e.c := by unfold Elem.freeze; (repeat' split) <;> rfl
@[simp] theorem Elem.freeze_d (e : Elem) (x : FaultReg) (b : Bool) : (e.freeze x b).d = e.d := by unfold Elem.freeze; (repeat' split) <;> rfl
@[simp] theorem Elem.freeze_p (e : Elem) (x : FaultReg) (b : Bool) : (e.freeze x b).p = e.p := by unfold Elem.freeze; (repeat' split) <;> rfl
@[simp] theorem Elem.freeze_l (e : Elem) (x : FaultReg) (b : Bool) : (e.freeze x b).l = e.l := by unfold Elem.freeze; (repeat' split) <;> rfl
@[simp] theorem Elem.freeze_sg (e : Elem) (x : FaultReg) (b : Bool) : (e.freeze x b).sg = e.sg := by unfold Elem.freeze; (repeat' split) <;> rfl
@[simp] theorem Elem.freeze_ports (e : Elem) (x : FaultReg) (b : Bool) : (e.freeze x b).ports = e.ports := by unfold Elem.freeze; (repeat' split) <;> rfl
@[simp] theorem Elem.freeze_binds (e : Elem) (x : FaultReg) (b : Bool) : (e.freeze x b).binds = e.binds := by unfold Elem.freeze; (repeat' split) <;> rfl
@[simp] theorem Elem.freeze_dis (e : Elem) (x : FaultReg) (b : Bool) : (e.freeze x b).dis = e.dis := by unfold Elem.freeze; (repeat' split) <;> rfl
@[simp] theorem Elem.freeze_wait (e : Elem) (x : FaultReg) (b : Bool) : (e.freeze x b).wait = e.wait := by unfold Elem.freeze; (repeat' split) <;> rfl
@[simp] theorem Elem.freeze_rot (e : Elem) (x : FaultReg) (b : Bool) : (e.freeze x b).rot = e.rot := by unfold Elem.freeze; (repeat' split) <;> rfl
@[simp] theorem Elem.freeze_disc (e : Elem) (x : FaultReg) (b : Bool) : (e.freeze x b).disc = e.disc := by unfold Elem.freeze; (repeat' split) <;> rfl
@[simp] theorem Elem.freeze_stats (e : Elem) (x : FaultReg) (b : Bool) : (e.freeze x b).stats = e.stats := by unfold Elem.freeze; (repeat' split) <;> rfl
@[simp] theorem Elem.freeze_cycles (e : Elem) (x : FaultReg) (b : Bool) : (e.freeze x b).cycles = e.cycles := by unfold Elem.freeze; (repeat' split) <;> rfl
@[simp] theorem Elem.freeze_halted (e : Elem) (x : FaultReg) (b : Bool) : (e.freeze x b).halted = e.halted := by unfold Elem.freeze; (repeat' split) <;> rfl
@[simp] theorem Elem.freeze_pend (e : Elem) (x : FaultReg) (b : Bool) : (e.freeze x b).pend = e.pend := by unfold Elem.freeze; (repeat' split) <;> rfl
@[simp] theorem Elem.freeze_whey (e : Elem) (x : FaultReg) (b : Bool) : (e.freeze x b).whey = e.whey := by unfold Elem.freeze; (repeat' split) <;> rfl
@[simp] theorem Elem.freeze_wheyOn (e : Elem) (x : FaultReg) (b : Bool) : (e.freeze x b).wheyOn = e.wheyOn := by unfold Elem.freeze; (repeat' split) <;> rfl
@[simp] theorem Elem.freeze_loupe (e : Elem) (x : FaultReg) (b : Bool) : (e.freeze x b).loupe = e.loupe := by unfold Elem.freeze; (repeat' split) <;> rfl
@[simp] theorem Elem.freeze_owed (e : Elem) (x : FaultReg) (b : Bool) : (e.freeze x b).owed = e.owed := by unfold Elem.freeze; (repeat' split) <;> rfl
@[simp] theorem Elem.freeze_markSent (e : Elem) (x : FaultReg) (b : Bool) : (e.freeze x b).markSent = e.markSent := by unfold Elem.freeze; (repeat' split) <;> rfl
@[simp] theorem Elem.freeze_nextId (e : Elem) (x : FaultReg) (b : Bool) : (e.freeze x b).nextId = e.nextId := by unfold Elem.freeze; (repeat' split) <;> rfl

end Sys2Proof.Machine
end

