-- ==== Sys2Proof/Laws/Rule.lean ====
section
/-! SUPPORT. The shared rule operation: what it can do, and what the commit of a rule with one result leaves (R68, R74, R75,
R134, R135). -/

-- One theorem after another: each then needs one thread only.
set_option Elab.async false


namespace Sys2Proof.Machine

/-! Ends of a node. -/

@[simp] theorem Ports.setOut_ins (p : Ports) (k : Nat) (x : OutEnd) : (p.setOut k x).ins = p.ins := rfl
@[simp] theorem Ports.setOut_cins (p : Ports) (k : Nat) (x : OutEnd) : (p.setOut k x).cins = p.cins := rfl
@[simp] theorem Ports.setOut_couts (p : Ports) (k : Nat) (x : OutEnd) : (p.setOut k x).couts = p.couts := rfl
@[simp] theorem Ports.setIn_outs (p : Ports) (k : Nat) (x : InEnd) : (p.setIn k x).outs = p.outs := rfl
@[simp] theorem Ports.setIn_cins (p : Ports) (k : Nat) (x : InEnd) : (p.setIn k x).cins = p.cins := rfl
@[simp] theorem Ports.setIn_couts (p : Ports) (k : Nat) (x : InEnd) : (p.setIn k x).couts = p.couts := rfl
@[simp] theorem Ports.setCin_ins (p : Ports) (k : Nat) (x : CtlEnd) : (p.setCin k x).ins = p.ins := rfl
@[simp] theorem Ports.setCin_outs (p : Ports) (k : Nat) (x : CtlEnd) : (p.setCin k x).outs = p.outs := rfl
@[simp] theorem Ports.setCin_couts (p : Ports) (k : Nat) (x : CtlEnd) : (p.setCin k x).couts = p.couts := rfl
@[simp] theorem Ports.setCout_ins (p : Ports) (k : Nat) (x : CtlEnd) : (p.setCout k x).ins = p.ins := rfl
@[simp] theorem Ports.setCout_outs (p : Ports) (k : Nat) (x : CtlEnd) : (p.setCout k x).outs = p.outs := rfl
@[simp] theorem Ports.setCout_cins (p : Ports) (k : Nat) (x : CtlEnd) : (p.setCout k x).cins = p.cins := rfl

theorem Ports.outAt_setOut (p : Ports) (k j : Nat) (x : OutEnd) :
    (p.setOut k x).outAt j = if k % 8 = j % 8 then x else p.outAt j := by
  simp [Ports.outAt, Ports.setOut, Vector.getElem_set]

theorem Ports.inAt_setIn (p : Ports) (k j : Nat) (x : InEnd) :
    (p.setIn k x).inAt j = if k % 8 = j % 8 then x else p.inAt j := by
  simp [Ports.inAt, Ports.setIn, Vector.getElem_set]

theorem Ports.cinAt_setCin (p : Ports) (k j : Nat) (x : CtlEnd) :
    (p.setCin k x).cinAt j = if k % 4 = j % 4 then x else p.cinAt j := by
  simp [Ports.cinAt, Ports.setCin, Vector.getElem_set]

theorem Ports.coutAt_setCout (p : Ports) (k j : Nat) (x : CtlEnd) :
    (p.setCout k x).coutAt j = if k % 4 = j % 4 then x else p.coutAt j := by
  simp [Ports.coutAt, Ports.setCout, Vector.getElem_set]

@[simp] theorem Ports.push_ins (p : Ports) (k : Nat) (t : Token) : (p.push k t).ins = p.ins := rfl
@[simp] theorem Ports.push_cins (p : Ports) (k : Nat) (t : Token) : (p.push k t).cins = p.cins := rfl
@[simp] theorem Ports.push_couts (p : Ports) (k : Nat) (t : Token) : (p.push k t).couts = p.couts := rfl
@[simp] theorem Ports.take_outs (p : Ports) (k : Nat) : (p.take k).outs = p.outs := rfl
@[simp] theorem Ports.take_cins (p : Ports) (k : Nat) : (p.take k).cins = p.cins := rfl
@[simp] theorem Ports.take_couts (p : Ports) (k : Nat) : (p.take k).couts = p.couts := rfl

/-! Takes. -/

theorem Elem.takeIn_ports (e : Elem) (k : Nat) : (e.takeIn k).ports = e.ports.take k := by simp [Elem.takeIn]

theorem Elem.takeIns_ports (e : Elem) (l : List Nat) : (l.foldl Elem.takeIn e).ports = l.foldl Ports.take e.ports := by
  induction l generalizing e with
  | nil => rfl
  | cons k t ih => simp [List.foldl, ih, Elem.takeIn_ports]

theorem takes_outs (p : Ports) (l : List Nat) : (l.foldl Ports.take p).outs = p.outs := by
  induction l generalizing p with
  | nil => rfl
  | cons k t ih => simp [List.foldl, ih]
theorem takes_cins (p : Ports) (l : List Nat) : (l.foldl Ports.take p).cins = p.cins := by
  induction l generalizing p with
  | nil => rfl
  | cons k t ih => simp [List.foldl, ih]
theorem takes_couts (p : Ports) (l : List Nat) : (l.foldl Ports.take p).couts = p.couts := by
  induction l generalizing p with
  | nil => rfl
  | cons k t ih => simp [List.foldl, ih]

@[simp] theorem Elem.takeCtl_outs (e : Elem) (r : Nat) : (e.takeCtl r).ports.outs = e.ports.outs := by
  unfold Elem.takeCtl; simp only []; split <;> rfl
@[simp] theorem Elem.takeCtl_ins (e : Elem) (r : Nat) : (e.takeCtl r).ports.ins = e.ports.ins := by
  unfold Elem.takeCtl; simp only []; split <;> rfl
@[simp] theorem Elem.takeCtl_couts (e : Elem) (r : Nat) : (e.takeCtl r).ports.couts = e.ports.couts := by
  unfold Elem.takeCtl; simp only []; split <;> rfl

@[simp] theorem Elem.fireTakes_outs (e : Elem) (r : Nat) (l : List Nat) : (e.fireTakes r l).ports.outs = e.ports.outs := by
  simp [Elem.fireTakes, Elem.takeIns_ports, takes_outs]
@[simp] theorem Elem.fireTakes_couts (e : Elem) (r : Nat) (l : List Nat) : (e.fireTakes r l).ports.couts = e.ports.couts := by
  simp [Elem.fireTakes, Elem.takeIns_ports, takes_couts]
theorem Elem.fireTakes_ins (e : Elem) (r : Nat) (l : List Nat) :
    (e.fireTakes r l).ports.ins = (l.foldl Ports.take e.ports).ins := by
  simp [Elem.fireTakes, Elem.takeIns_ports]

/-- The buffer of an input end after the tokens of a rule's operands are taken. -/
theorem takes_buf (p : Ports) (a b : Option (BitVec 5)) (k : Nat) (hk : k < 8) :
    (((takes a b).foldl Ports.take p).inAt k).buf =
      if a = some (BitVec.ofNat 5 (8 + k)) ∨ b = some (BitVec.ofNat 5 (8 + k)) then (p.inAt k).buf.tail else (p.inAt k).buf := by
  have one : ∀ (c : Option (BitVec 5)), takeOf c = [k] ↔ c = some (BitVec.ofNat 5 (8 + k)) := by
    intro c
    cases c with
    | none => simp [takeOf]
    | some c =>
      have hc := c.isLt
      simp only [takeOf, Option.some.injEq]
      constructor
      · intro h
        split at h
        · apply BitVec.eq_of_toNat_eq
          simp only [List.cons.injEq, and_true] at h
          rw [BitVec.toNat_ofNat]; omega
        · simp at h
      · intro h
        subst h
        rw [BitVec.toNat_ofNat, Nat.mod_eq_of_lt (by omega)]
        simp only [show 8 ≤ 8 + k ∧ 8 + k < 16 by omega, and_self, if_true, Nat.add_sub_cancel_left]
  have form : ∀ (c : Option (BitVec 5)), takeOf c = [] ∨ ∃ j, j < 8 ∧ takeOf c = [j] := by
    intro c
    cases c with
    | none => exact .inl rfl
    | some c =>
      simp only [takeOf]
      split
      · exact .inr ⟨c.toNat - 8, by omega, rfl⟩
      · exact .inl rfl
  have tk : ∀ (p : Ports) (j : Nat), j < 8 → ((p.take j).inAt k).buf = if j = k then (p.inAt k).buf.tail else (p.inAt k).buf := by
    intro p j hj
    simp only [Ports.take, Ports.inAt_setIn, Nat.mod_eq_of_lt hj, Nat.mod_eq_of_lt hk]
    by_cases h : j = k
    · subst h; simp
    · simp [h]
  simp only [← one a, ← one b]
  rcases form a with ha | ⟨i, hi, ha⟩ <;> rcases form b with hb | ⟨j, hj, hb⟩
  · simp [takes, ha, hb]
  · simp [takes, ha, hb, tk _ _ hj]
  · simp [takes, ha, hb, tk _ _ hi]
  · by_cases hij : i = j
    · subst hij; simp [takes, ha, hb, tk _ _ hi]
    · have : ([i] == [j]) = false := by simpa using hij
      simp only [takes, ha, hb, this, Bool.false_eq_true, if_false, List.cons_append, List.nil_append, List.foldl, tk _ _ hi,
        tk _ _ hj, List.cons.injEq, and_true]
      by_cases h1 : i = k <;> by_cases h2 : j = k <;> simp_all

/-! Writes. -/

theorem Elem.puts_append (e : Elem) (l m : List Put) : e.puts (l ++ m) = (e.puts l).puts m := by
  simp [Elem.puts, List.foldl_append]

/-- Control tokens alone. -/
def allCo (l : List Put) : Prop := ∀ x ∈ l, ∃ k, x = .co k

theorem boundCo_allCo (e : Elem) (r : Nat) (f : Bool) : allCo (e.boundCo r f) := by
  intro x hx
  simp only [Elem.boundCo, List.mem_filterMap] at hx
  obtain ⟨k, _, h⟩ := hx
  split at h
  · exact ⟨_, (Option.some.inj h).symm⟩
  · simp at h

theorem puts_co {l : List Put} (h : allCo l) (e : Elem) :
    (e.puts l).d = e.d ∧ (e.puts l).p = e.p ∧ (e.puts l).l = e.l ∧ (e.puts l).sg = e.sg ∧ (e.puts l).ports.outs = e.ports.outs
      ∧ (e.puts l).ports.ins = e.ports.ins ∧ (e.puts l).ports.cins = e.ports.cins := by
  induction l generalizing e with
  | nil => simp [Elem.puts]
  | cons x t ih =>
    obtain ⟨k, rfl⟩ := h x (by simp)
    have := ih (fun y hy => h y (List.mem_cons_of_mem _ hy)) (e.put (.co k))
    simpa [Elem.puts, Elem.put] using this

theorem puts_update (e : Elem) (i : BitVec 3) (p : BitVec 2) (f : Bool) :
    (e.puts (update i p f)).d = e.d ∧ (e.puts (update i p f)).l = e.l ∧ (e.puts (update i p f)).sg = e.sg
      ∧ (e.puts (update i p f)).ports = e.ports := by
  unfold update
  split <;> simp [Elem.puts, Elem.put]

theorem setPred_getLsbD (p : BitVec 8) (k j : Nat) (v : Bool) (hj : j < 8) :
    (setPred p k v).getLsbD j = if j = k then v else p.getLsbD j := by
  unfold setPred
  by_cases h : j = k
  · subst h; cases v <;> simp [hj]
  · have hne : ¬ j - k = 0 ∨ j < k := by omega
    cases v <;> simp [hj, h] <;> omega

end Sys2Proof.Machine
end

