-- ==== Sys2Proof/Laws/Completes.lean ====
section
/-! SUPPORT. From the shared rule operation to the statements that an instruction completes. -/

-- One theorem after another: each then needs one thread only.
set_option Elab.async false


namespace Sys2Proof.Machine

/-- A rule with its operands and room commits what its instruction computes. -/
theorem State.genElem_fires {s : State} {el rule : Nat} {q : Req} {f : In → Res} {x : In} {puts : List Put} {flag : Bool}
    {inc : Inc} (hx : (s.elem el).input q = some x) (hf : f x = .done puts flag inc) (hr : s.hasRoom el rule q puts flag) :
    s.genElem el rule q f = s.fired el rule q puts flag inc := by
  unfold State.hasRoom at hr
  simp [State.genElem, hx, hf, hr, State.fired]

/-- Without room it waits. -/
theorem State.genElem_waits {s : State} {el rule : Nat} {q : Req} {f : In → Res} {x : In} {puts : List Put} {flag : Bool}
    {inc : Inc} (hx : (s.elem el).input q = some x) (hf : f x = .done puts flag inc) (hr : ¬ s.hasRoom el rule q puts flag) :
    s.genElem el rule q f = s := by
  unfold State.hasRoom at hr
  simp [State.genElem, hx, hf, hr]

/-- An instruction of the elements that delivers `r` completes with it. -/
theorem completes_of_genE {i : Instr} {q : Req} {t : Tag} {R : In → Word → Bool → Inc → Prop} {r : In → Word × Bool × Inc}
    (he : ∀ s, exec i s = s.genE q (fun x => .done (deliver q.d t (r x).1) (r x).2.1 (r x).2.2))
    (hR : ∀ x, R x (r x).1 (r x).2.1 (r x).2.2) : Completes i q t R := by
  rintro s el rule x ⟨hc, hx⟩
  refine ⟨_, _, _, hR x, fun hroom => ?_⟩
  rw [he s, State.genE, hc]
  exact congrArg Host.Outcome.next (State.genElem_fires hx rfl hroom)

/-- An instruction of elements and walks, in an element. -/
theorem completes_of_gen {i : Instr} {q : Req} {t : Tag} {R : In → Word → Bool → Inc → Prop} {r : In → Word × Bool × Inc}
    (he : ∀ s, exec i s = s.gen q (fun x => .done (deliver q.d t (r x).1) (r x).2.1 (r x).2.2))
    (hR : ∀ x, R x (r x).1 (r x).2.1 (r x).2.2) : Completes i q t R := by
  rintro s el rule x ⟨hc, hx⟩
  refine ⟨_, _, _, hR x, fun hroom => ?_⟩
  rw [he s, State.gen, hc]
  exact congrArg Host.Outcome.next (State.genElem_fires hx rfl hroom)

/-- The same instruction in a walk. -/
theorem completesInWalk_of_gen {i : Instr} {q : Req} {t : Tag} {R : In → Word → Bool → Inc → Prop}
    {r : In → Word × Bool × Inc}
    (he : ∀ s, exec i s = s.gen q (fun x => .done (deliver q.d t (r x).1) (r x).2.1 (r x).2.2))
    (hR : ∀ x, R x (r x).1 (r x).2.1 (r x).2.2) : CompletesInWalk i q t R := by
  rintro s tile k rule hc
  refine ⟨_, _, _, hR _, ?_⟩
  rw [he s, State.gen, hc]
  rfl

theorem binary_of_gen {c : BitVec 5 → BitVec 5 → BitVec 5 → BitVec 3 → BitVec 2 → BitVec 4 → Instr}
    {R : Word → Word → Word → Bool → Prop} {r : Word → Word → Word × Bool}
    (he : ∀ d a b i p t s, exec (c d a b i p t) s = s.gen (rq d (some a) (some b) i p 1)
      (fun x => .done (deliver d t (r x.a.data x.b.data).1) (r x.a.data x.b.data).2 {}))
    (hR : ∀ a b, R a b (r a b).1 (r a b).2) : Binary c R := fun d a b i p t =>
  ⟨completes_of_gen (r := fun x => ((r x.a.data x.b.data).1, (r x.a.data x.b.data).2, {})) (he d a b i p t) (fun _ => ⟨hR _ _, rfl⟩),
    completesInWalk_of_gen (r := fun x => ((r x.a.data x.b.data).1, (r x.a.data x.b.data).2, {})) (he d a b i p t) (fun _ => hR _ _)⟩

theorem unary_of_gen {c : BitVec 5 → BitVec 5 → BitVec 3 → BitVec 2 → BitVec 4 → Instr}
    {R : Word → Word → Bool → Prop} {r : Word → Word × Bool}
    (he : ∀ d a i p t s, exec (c d a i p t) s = s.gen (rq d (some a) none i p 1)
      (fun x => .done (deliver d t (r x.a.data).1) (r x.a.data).2 {}))
    (hR : ∀ a, R a (r a).1 (r a).2) : Unary c R := fun d a i p t =>
  ⟨completes_of_gen (r := fun x => ((r x.a.data).1, (r x.a.data).2, {})) (he d a i p t) (fun _ => ⟨hR _, rfl⟩),
    completesInWalk_of_gen (r := fun x => ((r x.a.data).1, (r x.a.data).2, {})) (he d a i p t) (fun _ => hR _)⟩

theorem binaryE_of_genE {lat : Nat} {c : BitVec 5 → BitVec 5 → BitVec 5 → BitVec 3 → BitVec 2 → BitVec 4 → Instr}
    {R : Word → Word → Word → Word → Bool → Inc → Prop} {r : Word → Word → Word → Word × Bool × Inc}
    (he : ∀ d a b i p t s, exec (c d a b i p t) s = s.genE (rq d (some a) (some b) i p lat)
      (fun x => .done (deliver d t (r x.d x.a.data x.b.data).1) (r x.d x.a.data x.b.data).2.1 (r x.d x.a.data x.b.data).2.2))
    (hR : ∀ d a b, R d a b (r d a b).1 (r d a b).2.1 (r d a b).2.2) : BinaryE lat c R := fun d a b i p t =>
  completes_of_genE (r := fun x => r x.d x.a.data x.b.data) (he d a b i p t) (fun _ => hR _ _ _)

theorem unaryE_of_genE {lat : Nat} {c : BitVec 5 → BitVec 5 → BitVec 3 → BitVec 2 → BitVec 4 → Instr}
    {R : Word → Word → Bool → Inc → Prop} {r : Word → Word × Bool × Inc}
    (he : ∀ d a i p t s, exec (c d a i p t) s = s.genE (rq d (some a) none i p lat)
      (fun x => .done (deliver d t (r x.a.data).1) (r x.a.data).2.1 (r x.a.data).2.2))
    (hR : ∀ a, R a (r a).1 (r a).2.1 (r a).2.2) : UnaryE lat c R := fun d a i p t =>
  completes_of_genE (r := fun x => r x.a.data) (he d a i p t) (fun _ => hR _)

end Sys2Proof.Machine
end

