-- ==== Sys2Proof/Laws/Events.lean ====
section
/-! SUPPORT. The steps of the agenda that have no encoding are instructions of the table: each runs as exec runs it. -/

-- One theorem after another: each then needs one thread only.
set_option Elab.async false


namespace Sys2Proof.Machine

/-- The instruction that a step is. The compiler numbers no constructor with fields beyond 244, so this one is for proofs
only. -/
noncomputable def evInstr : Ev → Instr
  | .ruleUrgent el rule => .ruleUrgent el rule
  | .longLatencyCommit el id => .longLatencyCommit el id
  | .tokenArrival ch => .tokenArrival ch
  | .haltedDiscard el => .haltedDiscard el
  | .elementMark el => .elementMark el
  | .elementDrainForward el => .elementDrainForward el
  | .memoryAccessAtHome acc => .memoryAccessAtHome acc
  | .memoryResponse acc => .memoryResponse acc
  | .postedTranslate acc => .postedTranslate acc
  | .pageWalk walk => .pageWalk walk
  | .fenceComplete el id => .fenceComplete el id
  | .copyTrigger tile => .copyTrigger tile
  | .copyIssueDeferred el id => .copyIssueDeferred el id
  | .copyTransfer tile flight => .copyTransfer tile flight
  | .copyComplete tile flight => .copyComplete tile flight
  | .copyEngineDrain tile => .copyEngineDrain tile
  | .bararrSend el id => .bararrSend el id
  | .barrierHomeOp op => .barrierHomeOp op
  | .barrierVerdict op => .barrierVerdict op
  | .walkAccept el id => .walkAccept el id
  | .walkReadReturn etile slot => .walkReadReturn etile slot
  | .walkResultDelivery etile slot => .walkResultDelivery etile slot
  | .pressCommandPerform tile => .pressCommandPerform tile
  | .pressResultDelivery tile => .pressResultDelivery tile
  | .pressMark tile => .pressMark tile
  | .pressDrain tile => .pressDrain tile
  | .scannerStep unit => .scannerStep unit
  | .intersecterStep unit => .intersecterStep unit
  | .repeaterStep unit => .repeaterStep unit
  | .reducerStep unit => .reducerStep unit
  | .reducerFlush unit => .reducerFlush unit
  | .nmDecoderStep unit => .nmDecoderStep unit
  | .apertureStep unit => .apertureStep unit
  | .splitterStep unit => .splitterStep unit
  | .splitterSlotRetry unit => .splitterSlotRetry unit
  | .splitterSpillWrite unit => .splitterSpillWrite unit
  | .splitterSpillRead unit => .splitterSpillRead unit
  | .collimatorStep unit => .collimatorStep unit
  | .unitMark unit => .unitMark unit
  | .unitDrain unit => .unitDrain unit
  | .xctlApply unit => .xctlApply unit
  | .unitRegisterRead el id => .unitRegisterRead el id
  | .clockRead el id => .clockRead el id
  | .wheyAdderStep unit => .wheyAdderStep unit
  | .wheyRootWrite unit => .wheyRootWrite unit
  | .brineWheyEmit unit => .brineWheyEmit unit
  | .imageLoad task => .imageLoad task
  | .sourceInject region src => .sourceInject region src
  | .sinkTake region sink => .sinkTake region sink
  | .faultRecordPost ctx => .faultRecordPost ctx
  | .eventRecordWrite ctx => .eventRecordWrite ctx
  | .signalHandle sig => .signalHandle sig
  | .regionDrainComplete region => .regionDrainComplete region
  | .configSignatureCheck region => .configSignatureCheck region
  | .configStoreError region => .configStoreError region
  | .configReloadDone region => .configReloadDone region
  | .regionResume region endid => .regionResume region endid
  | .regionFence region code => .regionFence region code
  | .sigcommit region v => .sigcommit region v
  | .unhpop region => .unhpop region
  | .udataWrite region v => .udataWrite region v
  | .dispatchAdmit => .dispatchAdmit
  | .queueAged queue => .queueAged queue
  | .taskBind => .taskBind
  | .bindReservation => .bindReservation
  | .quantumExpiry task => .quantumExpiry task
  | .markInject task => .markInject task
  | .taskSaveComplete task => .taskSaveComplete task
  | .taskDrainDetect task => .taskDrainDetect task
  | .taskRetire task => .taskRetire task
  | .abort ctx taskid => .abort ctx taskid
  | .preempt ctx taskid => .preempt ctx taskid
  | .create ctx => .create ctx
  | .restore ctx => .restore ctx
  | .contextRestoreDone ctx => .contextRestoreDone ctx
  | .quiesce ctx => .quiesce ctx
  | .quiesceComplete ctx => .quiesceComplete ctx
  | .resume ctx => .resume ctx
  | .destroy ctx => .destroy ctx
  | .destroyComplete ctx => .destroyComplete ctx
  | .resolveReplay ctx handle => .resolveReplay ctx handle
  | .resolveDiscard ctx handle => .resolveDiscard ctx handle
  | .harvest ctx => .harvest ctx
  | .harvestComplete ctx => .harvestComplete ctx
  | .quotaWrite ctx v => .quotaWrite ctx v
  | .enq t => .enq t
  | .enqSpillDone queue => .enqSpillDone queue
  | .queueRefillDone queue => .queueRefillDone queue
  | .queueEnable queue => .queueEnable queue
  | .queueDisable queue => .queueDisable queue
  | .pause queue => .pause queue
  | .unpause queue => .unpause queue
  | .close queue => .close queue
  | .clear queue => .clear queue
  | .tinvPage cmd => .tinvPage cmd
  | .tinvContext cmd => .tinvContext cmd
  | .tinvComplete => .tinvComplete
  | .deviceReset => .deviceReset
  | .pllLockLoss => .pllLockLoss
  | .boot => .boot
  | .linkTrainingDone link lanes => .linkTrainingDone link lanes
  | .flitReceive link flit => .flitReceive link flit
  | .replayRequest link seq => .replayRequest link seq
  | .replayExhausted link => .replayExhausted link
  | .linkEnable link => .linkEnable link
  | .linkDisable link => .linkDisable link
  | .linkRetrain link => .linkRetrain link
  | .linkFence link => .linkFence link
  | .read t => .read t
  | .write t => .write t
  | .signal t => .signal t
  | .atomic t => .atomic t
  | .xchg64 t => .xchg64 t
  | .cas64 t => .cas64 t
  | .reduce t => .reduce t
  | .response t => .response t
  | .nack t => .nack t
  | .mgmt t => .mgmt t
  | .transactionResend ep eseq => .transactionResend ep eseq
  | .registerWrite off v wide => .registerWrite off v wide
  | .aclWrite off v wide => .aclWrite off v wide
  | .measmaskWrite v wide => .measmaskWrite v wide
  | .report cmd => .report cmd
  | .reportDone => .reportDone
  | .scrubPass group bank => .scrubPass group bank
  | .powerGovernorSample => .powerGovernorSample
  | .dflRecordWrite => .dflRecordWrite
  | .copyEngineMark tile => .copyEngineMark tile

/-- A step of the agenda is its instruction. -/
theorem runEv_eq_exec (e : Ev) (s : State) : runEv e s = exec (evInstr e) s := by cases e <;> rfl

end Sys2Proof.Machine
end

