-- ==== Sys2Proof/Laws/Float.lean ====
section
/-! SUPPORT. The exactness of FEX2 and FLG2: the count of bits both decide by is the count of the exact power. -/

namespace Sys2Proof.Laws
open Sys2Proof.Machine

theorem bits_mono {a b : Nat} (h : a ≤ b) : bits a ≤ bits b := by
  unfold bits
  split
  · omega
  · rw [if_neg (by omega)]
    have := Nat.log_mono_right (b := 2) h
    simp only [Nat.log2_eq_log_two] at *
    omega

theorem bits_shift {a : Nat} (h : 0 < a) (x : Nat) : bits (a * 2 ^ x) = x + bits a := by
  have ha : a ≠ 0 := by omega
  have : a * 2 ^ x ≠ 0 := by positivity
  simp only [bits, ha, this, if_false, Nat.log2_eq_log_two]
  have : Nat.log 2 (a * 2 ^ x) = Nat.log 2 a + x := by
    induction x with
    | zero => simp
    | succ x ih => rw [pow_succ, ← mul_assoc, Nat.log_mul_base (by omega) (by positivity), ih (by positivity)]; omega
  omega

/-- The bounds of repeated squaring hold the power between them. -/
theorem powBounds_spec (m k : Nat) :
    (powBounds m k).1 * 2 ^ (powBounds m k).2.2 ≤ m ^ 2 ^ k
      ∧ m ^ 2 ^ k ≤ (powBounds m k).2.1 * 2 ^ (powBounds m k).2.2 := by
  induction k with
  | zero => simp [powBounds]
  | succ k ih =>
    simp only [powBounds]
    generalize powBounds m k = t at ih ⊢
    obtain ⟨lo, hi, x⟩ := t
    simp only at ih ⊢
    generalize bits (hi * hi) - 320 = s
    have e : m ^ 2 ^ (k + 1) = m ^ 2 ^ k * m ^ 2 ^ k := by rw [pow_succ 2, mul_comm, two_mul, pow_add]
    have w : ∀ c : Nat, c * 2 ^ (2 * x + s) = c * 2 ^ s * (2 ^ x * 2 ^ x) := by intro c; rw [pow_add, two_mul, pow_add]; ring
    rw [e, w, w]
    refine ⟨?_, ?_⟩
    · calc _ ≤ lo * lo * (2 ^ x * 2 ^ x) := Nat.mul_le_mul_right _ (Nat.div_mul_le_self _ _)
        _ = lo * 2 ^ x * (lo * 2 ^ x) := by ring
        _ ≤ _ := Nat.mul_le_mul ih.1 ih.1
    · have := Nat.div_add_mod (hi * hi + (2 ^ s - 1)) (2 ^ s)
      have := Nat.mod_lt (hi * hi + (2 ^ s - 1)) (Nat.two_pow_pos s)
      have up : hi * hi ≤ (hi * hi + (2 ^ s - 1)) / 2 ^ s * 2 ^ s := by rw [mul_comm _ (2 ^ s)]; omega
      calc _ ≤ hi * 2 ^ x * (hi * 2 ^ x) := Nat.mul_le_mul ih.2 ih.2
        _ = hi * hi * (2 ^ x * 2 ^ x) := by ring
        _ ≤ _ := Nat.mul_le_mul_right _ up

/-- `powBits` counts the bits of the exact power, whichever way it finds them. -/
theorem powBits_eq {m : Nat} (hm : 0 < m) (k : Nat) : powBits m k = bits (m ^ 2 ^ k) := by
  have h := powBounds_spec m k
  unfold powBits
  have hp : 0 < m ^ 2 ^ k := by positivity
  generalize m ^ 2 ^ k = p at h hp ⊢
  generalize powBounds m k = t at h ⊢
  obtain ⟨lo, hi, x⟩ := t
  simp only at h ⊢
  split
  · next e =>
    have hh : 0 < hi := by
      rcases Nat.eq_zero_or_pos hi with z | z
      · subst z; omega
      · exact z
    have hl : 0 < lo := by
      rcases Nat.eq_zero_or_pos lo with z | z
      · subst z; simp [bits, hh.ne'] at e
      · exact z
    have a := bits_mono h.1
    have b := bits_mono h.2
    rw [bits_shift hl] at a
    rw [bits_shift hh] at b
    omega
  · rfl

end Sys2Proof.Laws
end

