-- ==== Sys2Proof/Laws/Memory.lean ====
section
/-! SUPPORT. Memory: a read after a write, and the canonical form, which every write keeps. -/

-- One theorem after another: each then needs one thread only.
set_option Elab.async false


namespace Sys2Proof.Machine

theorem Memory.wfFrom_mono {lo lo' : Nat} {m : Memory} (h : m.wfFrom lo = true) (hl : lo' ≤ lo) : m.wfFrom lo' = true := by
  cases m with
  | nil => rfl
  | cons p t =>
    simp only [Memory.wfFrom, Bool.and_eq_true, decide_eq_true_eq] at h ⊢
    exact ⟨⟨Nat.le_trans hl h.1.1, h.1.2⟩, h.2⟩

/-- Below its first address a memory reads 0. -/
theorem Memory.read_of_lt {lo a : Nat} {m : Memory} (h : m.wfFrom lo = true) (ha : a < lo) : m.read a = 0 := by
  induction m generalizing lo with
  | nil => rfl
  | cons p t ih =>
    simp only [Memory.wfFrom, Bool.and_eq_true, decide_eq_true_eq] at h
    have hj : p.1 ≠ a := by omega
    simpa [Memory.read, hj] using ih h.2 (by omega)

/-- A write leaves every other byte alone. -/
theorem Memory.read_write_other (m : Memory) {a a' : Nat} (b : Byte) (h : a' ≠ a) : (m.write a b).read a' = m.read a' := by
  induction m with
  | nil => simp only [Memory.write]; split <;> simp [Memory.read, h.symm]
  | cons p t ih =>
    simp only [Memory.write]
    split
    · split <;> simp [Memory.read, h.symm]
    · split
      · rename_i hj
        have hj' : p.1 ≠ a' := by omega
        split <;> simp [Memory.read, h.symm, hj']
      · simp [Memory.read, ih]

/-- A byte reads as it was written. -/
theorem Memory.read_write_same {lo : Nat} {m : Memory} (h : m.wfFrom lo = true) (a : Nat) (b : Byte) :
    (m.write a b).read a = b := by
  induction m generalizing lo with
  | nil => simp only [Memory.write]; split <;> simp_all [Memory.read]
  | cons p t ih =>
    have h0 := h
    simp only [Memory.wfFrom, Bool.and_eq_true, decide_eq_true_eq] at h
    simp only [Memory.write]
    split
    · rename_i hlt
      split
      · rename_i hb
        have hj : p.1 ≠ a := by omega
        simp [hb, Memory.read, hj, Memory.read_of_lt h.2 (Nat.lt_succ_of_lt hlt)]
      · simp [Memory.read]
    · split
      · rename_i hj
        split
        · rename_i hb
          rw [hb]; exact Memory.read_of_lt h.2 (by omega)
        · simp [Memory.read]
      · rename_i hj
        simp [Memory.read, hj, ih h.2]

/-- A write keeps the canonical form. -/
theorem Memory.wfFrom_write {lo : Nat} {m : Memory} (h : m.wfFrom lo = true) {a : Nat} (b : Byte) (ha : lo ≤ a) :
    (m.write a b).wfFrom lo = true := by
  induction m generalizing lo with
  | nil => simp only [Memory.write]; split <;> simp_all [Memory.wfFrom]
  | cons p t ih =>
    have h0 := h
    simp only [Memory.wfFrom, Bool.and_eq_true, decide_eq_true_eq] at h
    simp only [Memory.write]
    split
    · rename_i hlt
      split
      · exact h0
      · rename_i hb
        simp only [Memory.wfFrom, Bool.and_eq_true, decide_eq_true_eq]
        exact ⟨⟨ha, hb⟩, ⟨by omega, h.1.2⟩, h.2⟩
    · rename_i hlt
      split
      · rename_i hj
        split
        · exact Memory.wfFrom_mono h.2 (by omega)
        · rename_i hb
          simp only [Memory.wfFrom, Bool.and_eq_true, decide_eq_true_eq]
          exact ⟨⟨ha, hb⟩, by rw [← hj]; exact h.2⟩
      · rename_i hj
        simp only [Memory.wfFrom, Bool.and_eq_true, decide_eq_true_eq]
        exact ⟨h.1, ih h.2 (by omega)⟩

theorem Memory.wf_write {m : Memory} (h : m.wf = true) (a : Nat) (b : Byte) : (m.write a b).wf = true :=
  Memory.wfFrom_write h b (Nat.zero_le a)

theorem Memory.wf_writeN {m : Memory} (h : m.wf = true) (a n v : Nat) : (m.writeN a n v).wf = true := by
  induction n generalizing m a v with
  | zero => exact h
  | succ n ih => exact ih (Memory.wf_write h a _) (a + 1) (v / 256)

theorem Memory.wf_writeBytes {m : Memory} (h : m.wf = true) (a : Nat) (l : List Byte) : (m.writeBytes a l).wf = true := by
  induction l generalizing m a with
  | nil => exact h
  | cons b t ih => exact ih (Memory.wf_write h a b) (a + 1)

theorem Memory.wf_writeWords {m : Memory} (h : m.wf = true) (a : Nat) (l : List Word) : (m.writeWords a l).wf = true := by
  induction l generalizing m a with
  | nil => exact h
  | cons b t ih => exact ih (Memory.wf_writeN h a 4 b.toNat) (a + 4)

/-- A store of `n` bytes leaves the bytes outside it alone. -/
theorem Memory.read_writeN_outside (m : Memory) {a a' : Nat} (n v : Nat) (h : a' < a ∨ a + n ≤ a') :
    (m.writeN a n v).read a' = m.read a' := by
  induction n generalizing m a v with
  | zero => rfl
  | succ n ih =>
    rw [Memory.writeN, ih _ _ (by omega), Memory.read_write_other _ _ (by omega)]

/-- R5: byte `k` of a store is byte `k` of its value. -/
theorem Memory.read_writeN_inside {m : Memory} (hm : m.wf = true) (a n v k : Nat) (h : k < n) :
    (m.writeN a n v).read (a + k) = BitVec.ofNat 8 (v / 256 ^ k) := by
  induction n generalizing m a v k with
  | zero => omega
  | succ n ih =>
    rw [Memory.writeN]
    cases k with
    | zero =>
      rw [Memory.read_writeN_outside _ _ _ (by omega), Nat.add_zero, Memory.read_write_same hm]
      simp
    | succ k =>
      have := ih (m := m.write a (BitVec.ofNat 8 v)) (Memory.wf_write hm a _) (a + 1) (v / 256) k (by omega)
      rw [show a + (k + 1) = a + 1 + k by omega, this, Nat.div_div_eq_div_mul, Nat.pow_succ, Nat.mul_comm]

/-- R5: a little-endian value of `n` bytes reads back modulo its width. -/
theorem Memory.readN_writeN {m : Memory} (hm : m.wf = true) (a n v : Nat) :
    (m.writeN a n v).readN a n = v % 256 ^ n := by
  induction n generalizing m a v with
  | zero => simp [Memory.readN, Nat.mod_one]
  | succ n ih =>
    have h0 : ((m.write a (BitVec.ofNat 8 v)).writeN (a + 1) n (v / 256)).read a = BitVec.ofNat 8 v := by
      rw [Memory.read_writeN_outside _ _ _ (by omega), Memory.read_write_same hm]
    have hp : v % 256 ^ (n + 1) = v % 256 + 256 * (v / 256 % 256 ^ n) := by
      rw [show 256 ^ (n + 1) = 256 * 256 ^ n from Nat.pow_succ', Nat.mod_mul]
    rw [Memory.writeN, Memory.readN, h0, ih (Memory.wf_write hm a _), BitVec.toNat_ofNat, hp]

/-- Reset lists nothing. -/
theorem State.reset_mem_wf : State.reset.mem.wf = true := rfl

end Sys2Proof.Machine
end

