-- ==== Sys2Proof/Laws/PerInstr.lean ====
section
/-! SUPPORT. Decoding what was encoded, constructor by constructor (the family RoundTrip of LAWS.json): every field of every
encoding comes back, at every value. -/

-- One theorem after another: each then needs one thread only.
set_option Elab.async false


namespace Sys2Proof

set_option linter.unusedSimpArgs false

/-- The fields of a packed word, read back. -/
structure Packed (w : Word) (op : Nat) (d a b : BitVec 5) (low : Nat) : Prop where
  num : w.toNat = op * 2 ^ 24 + d.toNat * 2 ^ 19 + a.toNat * 2 ^ 14 + b.toNat * 2 ^ 9 + low
  hi : fldN w 28 4 = op / 16
  lo : fldN w 24 4 = op % 16
  fd : fld w 19 5 = d
  fa : fld w 14 5 = a
  fb : fld w 9 5 = b
  nd : fldN w 19 5 = d.toNat
  nb : fldN w 9 5 = b.toNat

theorem packed {w : Word} {op : Nat} {d a b : BitVec 5} {low : Nat} (h : some (packWord op d a b low) = some w)
    (hop : op < 256) (hl : low < 512) : Packed w op d a b low := by
  obtain rfl := Option.some.inj h
  have hd := d.isLt
  have ha := a.isLt
  have hb := b.isLt
  have num : (packWord op d a b low).toNat = op * 2 ^ 24 + d.toNat * 2 ^ 19 + a.toNat * 2 ^ 14 + b.toNat * 2 ^ 9 + low := by
    simp only [packWord, BitVec.toNat_ofNat]; omega
  refine ⟨num, ?_, ?_, ?_, ?_, ?_, ?_, ?_⟩
  · rw [fldN, num]; omega
  · rw [fldN, num]; omega
  · apply BitVec.eq_of_toNat_eq; rw [fld, num, BitVec.toNat_ofNat]; omega
  · apply BitVec.eq_of_toNat_eq; rw [fld, num, BitVec.toNat_ofNat]; omega
  · apply BitVec.eq_of_toNat_eq; rw [fld, num, BitVec.toNat_ofNat]; omega
  · rw [fldN, num]; omega
  · rw [fldN, num]; omega

/-- Bits 8:0 of a packed word. -/
theorem Packed.lowN {w : Word} {op : Nat} {d a b : BitVec 5} {low : Nat} (q : Packed w op d a b low) (k n : Nat)
    (hk : k + n ≤ 9) : fldN w k n = low / 2 ^ k % 2 ^ n := by
  have hw : w.toNat = 2 ^ k * (2 ^ n * (2 ^ (9 - (k + n)) * (op * 2 ^ 15 + d.toNat * 2 ^ 10 + a.toNat * 2 ^ 5 + b.toNat))) + low := by
    rw [q.num, ← Nat.mul_assoc, ← Nat.mul_assoc, ← Nat.pow_add, ← Nat.pow_add, show k + n + (9 - (k + n)) = 9 by omega]
    omega
  rw [fldN, hw, Nat.mul_add_div (Nat.two_pow_pos k), Nat.mul_add_mod]

theorem Packed.lowB {w : Word} {op : Nat} {d a b : BitVec 5} {low : Nat} (q : Packed w op d a b low) (k n : Nat)
    (hk : k + n ≤ 9) : fld w k n = BitVec.ofNat n (low / 2 ^ k) := by
  apply BitVec.eq_of_toNat_eq
  simpa only [fldN, fld, BitVec.toNat_ofNat] using q.lowN k n hk

theorem five_zero : (0 : BitVec 5).toNat = 0 := rfl
theorem five_none : (24 : BitVec 5).toNat = 24 := rfl

namespace Laws.RoundTrip

/-- The decoder reads an instruction's word as that instruction. -/
def Statement (i : Instr) : Prop := ∀ W, encode i = some W → decodeWord W = .ok i


theorem low_63_42 (x : BitVec 3) (y : BitVec 2) : low2 x 6 y 4 < 512 := by
  have := x.isLt
  have := y.isLt
  simp only [low2]; omega

theorem low_63_42_x (x : BitVec 3) (y : BitVec 2) : BitVec.ofNat 3 (low2 x 6 y 4 / 2 ^ 6) = x := by
  apply BitVec.eq_of_toNat_eq
  have := x.isLt
  have := y.isLt
  simp only [low2, BitVec.toNat_ofNat]; omega

theorem low_63_42_y (x : BitVec 3) (y : BitVec 2) : BitVec.ofNat 2 (low2 x 6 y 4 / 2 ^ 4) = y := by
  apply BitVec.eq_of_toNat_eq
  have := x.isLt
  have := y.isLt
  simp only [low2, BitVec.toNat_ofNat]; omega

theorem low_63_42_04 (x : BitVec 3) (y : BitVec 2) (z : BitVec 4) : low3 x 6 y 4 z 0 < 512 := by
  have := x.isLt
  have := y.isLt
  have := z.isLt
  simp only [low3]; omega

theorem low_63_42_04_x (x : BitVec 3) (y : BitVec 2) (z : BitVec 4) : BitVec.ofNat 3 (low3 x 6 y 4 z 0 / 2 ^ 6) = x := by
  apply BitVec.eq_of_toNat_eq
  have := x.isLt
  have := y.isLt
  have := z.isLt
  simp only [low3, BitVec.toNat_ofNat]; omega

theorem low_63_42_04_y (x : BitVec 3) (y : BitVec 2) (z : BitVec 4) : BitVec.ofNat 2 (low3 x 6 y 4 z 0 / 2 ^ 4) = y := by
  apply BitVec.eq_of_toNat_eq
  have := x.isLt
  have := y.isLt
  have := z.isLt
  simp only [low3, BitVec.toNat_ofNat]; omega

theorem low_63_42_04_z (x : BitVec 3) (y : BitVec 2) (z : BitVec 4) : BitVec.ofNat 4 (low3 x 6 y 4 z 0 / 2 ^ 0) = z := by
  apply BitVec.eq_of_toNat_eq
  have := x.isLt
  have := y.isLt
  have := z.isLt
  simp only [low3, BitVec.toNat_ofNat]; omega

theorem low_63_42_02 (x : BitVec 3) (y : BitVec 2) (z : BitVec 2) : low3 x 6 y 4 z 0 < 512 := by
  have := x.isLt
  have := y.isLt
  have := z.isLt
  simp only [low3]; omega

theorem low_63_42_02_x (x : BitVec 3) (y : BitVec 2) (z : BitVec 2) : BitVec.ofNat 3 (low3 x 6 y 4 z 0 / 2 ^ 6) = x := by
  apply BitVec.eq_of_toNat_eq
  have := x.isLt
  have := y.isLt
  have := z.isLt
  simp only [low3, BitVec.toNat_ofNat]; omega

theorem low_63_42_02_y (x : BitVec 3) (y : BitVec 2) (z : BitVec 2) : BitVec.ofNat 2 (low3 x 6 y 4 z 0 / 2 ^ 4) = y := by
  apply BitVec.eq_of_toNat_eq
  have := x.isLt
  have := y.isLt
  have := z.isLt
  simp only [low3, BitVec.toNat_ofNat]; omega

theorem low_63_42_02_z (x : BitVec 3) (y : BitVec 2) (z : BitVec 2) : BitVec.ofNat 2 (low3 x 6 y 4 z 0 / 2 ^ 0) = z := by
  apply BitVec.eq_of_toNat_eq
  have := x.isLt
  have := y.isLt
  have := z.isLt
  simp only [low3, BitVec.toNat_ofNat]; omega

theorem low_42 (x : BitVec 2) : low1 x 4 < 512 := by
  have := x.isLt
  simp only [low1]; omega

theorem low_42_x (x : BitVec 2) : BitVec.ofNat 2 (low1 x 4 / 2 ^ 4) = x := by
  apply BitVec.eq_of_toNat_eq
  have := x.isLt
  simp only [low1, BitVec.toNat_ofNat]; omega

theorem low_63_42_03 (x : BitVec 3) (y : BitVec 2) (z : BitVec 3) : low3 x 6 y 4 z 0 < 512 := by
  have := x.isLt
  have := y.isLt
  have := z.isLt
  simp only [low3]; omega

theorem low_63_42_03_x (x : BitVec 3) (y : BitVec 2) (z : BitVec 3) : BitVec.ofNat 3 (low3 x 6 y 4 z 0 / 2 ^ 6) = x := by
  apply BitVec.eq_of_toNat_eq
  have := x.isLt
  have := y.isLt
  have := z.isLt
  simp only [low3, BitVec.toNat_ofNat]; omega

theorem low_63_42_03_y (x : BitVec 3) (y : BitVec 2) (z : BitVec 3) : BitVec.ofNat 2 (low3 x 6 y 4 z 0 / 2 ^ 4) = y := by
  apply BitVec.eq_of_toNat_eq
  have := x.isLt
  have := y.isLt
  have := z.isLt
  simp only [low3, BitVec.toNat_ofNat]; omega

theorem low_63_42_03_z (x : BitVec 3) (y : BitVec 2) (z : BitVec 3) : BitVec.ofNat 3 (low3 x 6 y 4 z 0 / 2 ^ 0) = z := by
  apply BitVec.eq_of_toNat_eq
  have := x.isLt
  have := y.isLt
  have := z.isLt
  simp only [low3, BitVec.toNat_ofNat]; omega

theorem low_36 (x : BitVec 6) : low1 x 3 < 512 := by
  have := x.isLt
  simp only [low1]; omega

theorem low_36_x (x : BitVec 6) : BitVec.ofNat 6 (low1 x 3 / 2 ^ 3) = x := by
  apply BitVec.eq_of_toNat_eq
  have := x.isLt
  simp only [low1, BitVec.toNat_ofNat]; omega

theorem low_36_03 (x : BitVec 6) (y : BitVec 3) : low2 x 3 y 0 < 512 := by
  have := x.isLt
  have := y.isLt
  simp only [low2]; omega

theorem low_36_03_x (x : BitVec 6) (y : BitVec 3) : BitVec.ofNat 6 (low2 x 3 y 0 / 2 ^ 3) = x := by
  apply BitVec.eq_of_toNat_eq
  have := x.isLt
  have := y.isLt
  simp only [low2, BitVec.toNat_ofNat]; omega

theorem low_36_03_y (x : BitVec 6) (y : BitVec 3) : BitVec.ofNat 3 (low2 x 3 y 0 / 2 ^ 0) = y := by
  apply BitVec.eq_of_toNat_eq
  have := x.isLt
  have := y.isLt
  simp only [low2, BitVec.toNat_ofNat]; omega

theorem low_03 (x : BitVec 3) : low1 x 0 < 512 := by
  have := x.isLt
  simp only [low1]; omega

theorem low_03_x (x : BitVec 3) : BitVec.ofNat 3 (low1 x 0 / 2 ^ 0) = x := by
  apply BitVec.eq_of_toNat_eq
  have := x.isLt
  simp only [low1, BitVec.toNat_ofNat]; omega

theorem low_63 (x : BitVec 3) : low1 x 6 < 512 := by
  have := x.isLt
  simp only [low1]; omega

theorem low_63_x (x : BitVec 3) : BitVec.ofNat 3 (low1 x 6 / 2 ^ 6) = x := by
  apply BitVec.eq_of_toNat_eq
  have := x.isLt
  simp only [low1, BitVec.toNat_ofNat]; omega

theorem low_54 (x : BitVec 4) : low1 x 5 < 512 := by
  have := x.isLt
  simp only [low1]; omega

theorem low_54_x (x : BitVec 4) : BitVec.ofNat 4 (low1 x 5 / 2 ^ 5) = x := by
  apply BitVec.eq_of_toNat_eq
  have := x.isLt
  simp only [low1, BitVec.toNat_ofNat]; omega

theorem low_63_01 (x : BitVec 3) (y : BitVec 1) : low2 x 6 y 0 < 512 := by
  have := x.isLt
  have := y.isLt
  simp only [low2]; omega

theorem low_63_01_x (x : BitVec 3) (y : BitVec 1) : BitVec.ofNat 3 (low2 x 6 y 0 / 2 ^ 6) = x := by
  apply BitVec.eq_of_toNat_eq
  have := x.isLt
  have := y.isLt
  simp only [low2, BitVec.toNat_ofNat]; omega

theorem low_63_01_y (x : BitVec 3) (y : BitVec 1) : BitVec.ofNat 1 (low2 x 6 y 0 / 2 ^ 0) = y := by
  apply BitVec.eq_of_toNat_eq
  have := x.isLt
  have := y.isLt
  simp only [low2, BitVec.toNat_ofNat]; omega

theorem low_63_42_01 (x : BitVec 3) (y : BitVec 2) (z : BitVec 1) : low3 x 6 y 4 z 0 < 512 := by
  have := x.isLt
  have := y.isLt
  have := z.isLt
  simp only [low3]; omega

theorem low_63_42_01_x (x : BitVec 3) (y : BitVec 2) (z : BitVec 1) : BitVec.ofNat 3 (low3 x 6 y 4 z 0 / 2 ^ 6) = x := by
  apply BitVec.eq_of_toNat_eq
  have := x.isLt
  have := y.isLt
  have := z.isLt
  simp only [low3, BitVec.toNat_ofNat]; omega

theorem low_63_42_01_y (x : BitVec 3) (y : BitVec 2) (z : BitVec 1) : BitVec.ofNat 2 (low3 x 6 y 4 z 0 / 2 ^ 4) = y := by
  apply BitVec.eq_of_toNat_eq
  have := x.isLt
  have := y.isLt
  have := z.isLt
  simp only [low3, BitVec.toNat_ofNat]; omega

theorem low_63_42_01_z (x : BitVec 3) (y : BitVec 2) (z : BitVec 1) : BitVec.ofNat 1 (low3 x 6 y 4 z 0 / 2 ^ 0) = z := by
  apply BitVec.eq_of_toNat_eq
  have := x.isLt
  have := y.isLt
  have := z.isLt
  simp only [low3, BitVec.toNat_ofNat]; omega

theorem low_62 (x : BitVec 2) : low1 x 6 < 512 := by
  have := x.isLt
  simp only [low1]; omega

theorem low_62_x (x : BitVec 2) : BitVec.ofNat 2 (low1 x 6 / 2 ^ 6) = x := by
  apply BitVec.eq_of_toNat_eq
  have := x.isLt
  simp only [low1, BitVec.toNat_ofNat]; omega

theorem low_04 (x : BitVec 4) : low1 x 0 < 512 := by
  have := x.isLt
  simp only [low1]; omega

theorem low_04_x (x : BitVec 4) : BitVec.ofNat 4 (low1 x 0 / 2 ^ 0) = x := by
  apply BitVec.eq_of_toNat_eq
  have := x.isLt
  simp only [low1, BitVec.toNat_ofNat]; omega

theorem low_54_41 (x : BitVec 4) (y : BitVec 1) : low2 x 5 y 4 < 512 := by
  have := x.isLt
  have := y.isLt
  simp only [low2]; omega

theorem low_54_41_x (x : BitVec 4) (y : BitVec 1) : BitVec.ofNat 4 (low2 x 5 y 4 / 2 ^ 5) = x := by
  apply BitVec.eq_of_toNat_eq
  have := x.isLt
  have := y.isLt
  simp only [low2, BitVec.toNat_ofNat]; omega

theorem low_54_41_y (x : BitVec 4) (y : BitVec 1) : BitVec.ofNat 1 (low2 x 5 y 4 / 2 ^ 4) = y := by
  apply BitVec.eq_of_toNat_eq
  have := x.isLt
  have := y.isLt
  simp only [low2, BitVec.toNat_ofNat]; omega

theorem low_23 (x : BitVec 3) : low1 x 2 < 512 := by
  have := x.isLt
  simp only [low1]; omega

theorem low_23_x (x : BitVec 3) : BitVec.ofNat 3 (low1 x 2 / 2 ^ 2) = x := by
  apply BitVec.eq_of_toNat_eq
  have := x.isLt
  simp only [low1, BitVec.toNat_ofNat]; omega

theorem low_54_32 (x : BitVec 4) (y : BitVec 2) : low2 x 5 y 3 < 512 := by
  have := x.isLt
  have := y.isLt
  simp only [low2]; omega

theorem low_54_32_x (x : BitVec 4) (y : BitVec 2) : BitVec.ofNat 4 (low2 x 5 y 3 / 2 ^ 5) = x := by
  apply BitVec.eq_of_toNat_eq
  have := x.isLt
  have := y.isLt
  simp only [low2, BitVec.toNat_ofNat]; omega

theorem low_54_32_y (x : BitVec 4) (y : BitVec 2) : BitVec.ofNat 2 (low2 x 5 y 3 / 2 ^ 3) = y := by
  apply BitVec.eq_of_toNat_eq
  have := x.isLt
  have := y.isLt
  simp only [low2, BitVec.toNat_ofNat]; omega

theorem low_72_07 (x : BitVec 2) (y : BitVec 7) : low2 x 7 y 0 < 512 := by
  have := x.isLt
  have := y.isLt
  simp only [low2]; omega

theorem low_72_07_x (x : BitVec 2) (y : BitVec 7) : BitVec.ofNat 2 (low2 x 7 y 0 / 2 ^ 7) = x := by
  apply BitVec.eq_of_toNat_eq
  have := x.isLt
  have := y.isLt
  simp only [low2, BitVec.toNat_ofNat]; omega

theorem low_72_07_y (x : BitVec 2) (y : BitVec 7) : BitVec.ofNat 7 (low2 x 7 y 0 / 2 ^ 0) = y := by
  apply BitVec.eq_of_toNat_eq
  have := x.isLt
  have := y.isLt
  simp only [low2, BitVec.toNat_ofNat]; omega

theorem low_07 (x : BitVec 7) : low1 x 0 < 512 := by
  have := x.isLt
  simp only [low1]; omega

theorem low_07_x (x : BitVec 7) : BitVec.ofNat 7 (low1 x 0 / 2 ^ 0) = x := by
  apply BitVec.eq_of_toNat_eq
  have := x.isLt
  simp only [low1, BitVec.toNat_ofNat]; omega

theorem low_72 (x : BitVec 2) : low1 x 7 < 512 := by
  have := x.isLt
  simp only [low1]; omega

theorem low_72_x (x : BitVec 2) : BitVec.ofNat 2 (low1 x 7 / 2 ^ 7) = x := by
  apply BitVec.eq_of_toNat_eq
  have := x.isLt
  simp only [low1, BitVec.toNat_ofNat]; omega

theorem low_45_04 (x : BitVec 5) (y : BitVec 4) : low2 x 4 y 0 < 512 := by
  have := x.isLt
  have := y.isLt
  simp only [low2]; omega

theorem low_45_04_x (x : BitVec 5) (y : BitVec 4) : BitVec.ofNat 5 (low2 x 4 y 0 / 2 ^ 4) = x := by
  apply BitVec.eq_of_toNat_eq
  have := x.isLt
  have := y.isLt
  simp only [low2, BitVec.toNat_ofNat]; omega

theorem low_45_04_y (x : BitVec 5) (y : BitVec 4) : BitVec.ofNat 4 (low2 x 4 y 0 / 2 ^ 0) = y := by
  apply BitVec.eq_of_toNat_eq
  have := x.isLt
  have := y.isLt
  simp only [low2, BitVec.toNat_ofNat]; omega

theorem nop (i : BitVec 3) (p : BitVec 2) : Statement (.nop i p) := by
  intro W H
  have Q := packed H (by decide) (low_63_42 i p)
  have C0 : fldN W 0 4 = 0 := by
    rw [Q.lowN 0 4 (by decide)]
    have := i.isLt
    have := p.isLt
    simp only [low2]; omega
  have C1 : fldN W 9 15 = 0 := by
    rw [fldN, Q.num]
    have := i.isLt
    have := p.isLt
    simp only [five_zero, five_none, low2]; omega
  simp only [decodeWord, Q.hi, Nat.zero_div, Nat.reduceDiv, decodeRow0, Q.lo, Nat.zero_mod, Nat.reduceMod, fixed, five_zero,
    five_none, C0, C1, Q.lowB 6 3 (by decide), low_63_42_x, Q.lowB 4 2 (by decide), low_63_42_y, beq_self_eq_true, Bool.and_self, if_true, reduceIte]

theorem mov (d : BitVec 5) (a : BitVec 5) (i : BitVec 3) (p : BitVec 2) (t : BitVec 4) : Statement (.mov d a i p t) := by
  intro W H
  have Q := packed H (by decide) (low_63_42_04 i p t)
  simp only [decodeWord, Q.hi, Nat.zero_div, Nat.reduceDiv, decodeRow0, Q.lo, Nat.zero_mod, Nat.reduceMod, fixed, five_zero,
    five_none, Q.nb, Q.fd, Q.fa, Q.lowB 6 3 (by decide), low_63_42_04_x, Q.lowB 4 2 (by decide), low_63_42_04_y, Q.lowB 0 4 (by decide), low_63_42_04_z, beq_self_eq_true, Bool.and_self, if_true, reduceIte]

theorem pass (d : BitVec 5) (a : BitVec 5) (i : BitVec 3) (p : BitVec 2) : Statement (.pass d a i p) := by
  intro W H
  have Q := packed H (by decide) (low_63_42 i p)
  have C0 : fldN W 0 4 = 0 := by
    rw [Q.lowN 0 4 (by decide)]
    have := i.isLt
    have := p.isLt
    simp only [low2]; omega
  simp only [decodeWord, Q.hi, Nat.zero_div, Nat.reduceDiv, decodeRow0, Q.lo, Nat.zero_mod, Nat.reduceMod, fixed, five_zero,
    five_none, C0, Q.nb, Q.fd, Q.fa, Q.lowB 6 3 (by decide), low_63_42_x, Q.lowB 4 2 (by decide), low_63_42_y, beq_self_eq_true, Bool.and_self, if_true, reduceIte]

theorem drop (a : BitVec 5) (i : BitVec 3) (p : BitVec 2) : Statement (.drop a i p) := by
  intro W H
  have Q := packed H (by decide) (low_63_42 i p)
  have C0 : fldN W 0 4 = 0 := by
    rw [Q.lowN 0 4 (by decide)]
    have := i.isLt
    have := p.isLt
    simp only [low2]; omega
  simp only [decodeWord, Q.hi, Nat.zero_div, Nat.reduceDiv, decodeRow0, Q.lo, Nat.zero_mod, Nat.reduceMod, fixed, five_zero,
    five_none, C0, Q.nb, Q.nd, Q.fa, Q.lowB 6 3 (by decide), low_63_42_x, Q.lowB 4 2 (by decide), low_63_42_y, beq_self_eq_true, Bool.and_self, if_true, reduceIte]

theorem sel (d : BitVec 5) (a : BitVec 5) (b : BitVec 5) (i : BitVec 3) (p : BitVec 2) (t : BitVec 4) : Statement (.sel d a b i p t) := by
  intro W H
  have Q := packed H (by decide) (low_63_42_04 i p t)
  simp only [decodeWord, Q.hi, Nat.zero_div, Nat.reduceDiv, decodeRow0, Q.lo, Nat.zero_mod, Nat.reduceMod, fixed, five_zero,
    five_none, Q.fd, Q.fa, Q.fb, Q.lowB 6 3 (by decide), low_63_42_04_x, Q.lowB 4 2 (by decide), low_63_42_04_y, Q.lowB 0 4 (by decide), low_63_42_04_z, beq_self_eq_true, Bool.and_self, if_true, reduceIte]

theorem steer (d : BitVec 5) (a : BitVec 5) (b : BitVec 5) (i : BitVec 3) (p : BitVec 2) : Statement (.steer d a b i p) := by
  intro W H
  have Q := packed H (by decide) (low_63_42 i p)
  have C0 : fldN W 0 4 = 0 := by
    rw [Q.lowN 0 4 (by decide)]
    have := i.isLt
    have := p.isLt
    simp only [low2]; omega
  simp only [decodeWord, Q.hi, Nat.zero_div, Nat.reduceDiv, decodeRow0, Q.lo, Nat.zero_mod, Nat.reduceMod, fixed, five_zero,
    five_none, C0, Q.fd, Q.fa, Q.fb, Q.lowB 6 3 (by decide), low_63_42_x, Q.lowB 4 2 (by decide), low_63_42_y, beq_self_eq_true, Bool.and_self, if_true, reduceIte]

theorem tagof (d : BitVec 5) (a : BitVec 5) (i : BitVec 3) (p : BitVec 2) (t : BitVec 4) : Statement (.tagof d a i p t) := by
  intro W H
  have Q := packed H (by decide) (low_63_42_04 i p t)
  simp only [decodeWord, Q.hi, Nat.zero_div, Nat.reduceDiv, decodeRow0, Q.lo, Nat.zero_mod, Nat.reduceMod, fixed, five_zero,
    five_none, Q.nb, Q.fd, Q.fa, Q.lowB 6 3 (by decide), low_63_42_04_x, Q.lowB 4 2 (by decide), low_63_42_04_y, Q.lowB 0 4 (by decide), low_63_42_04_z, beq_self_eq_true, Bool.and_self, if_true, reduceIte]

theorem mktag (d : BitVec 5) (a : BitVec 5) (b : BitVec 5) (i : BitVec 3) (p : BitVec 2) : Statement (.mktag d a b i p) := by
  intro W H
  have Q := packed H (by decide) (low_63_42 i p)
  have C0 : fldN W 0 4 = 0 := by
    rw [Q.lowN 0 4 (by decide)]
    have := i.isLt
    have := p.isLt
    simp only [low2]; omega
  simp only [decodeWord, Q.hi, Nat.zero_div, Nat.reduceDiv, decodeRow0, Q.lo, Nat.zero_mod, Nat.reduceMod, fixed, five_zero,
    five_none, C0, Q.fd, Q.fa, Q.fb, Q.lowB 6 3 (by decide), low_63_42_x, Q.lowB 4 2 (by decide), low_63_42_y, beq_self_eq_true, Bool.and_self, if_true, reduceIte]

theorem pand (d : BitVec 5) (a : BitVec 5) (b : BitVec 5) (i : BitVec 3) (p : BitVec 2) (t : BitVec 4) : Statement (.pand d a b i p t) := by
  intro W H
  have Q := packed H (by decide) (low_63_42_04 i p t)
  simp only [decodeWord, Q.hi, Nat.zero_div, Nat.reduceDiv, decodeRow0, Q.lo, Nat.zero_mod, Nat.reduceMod, fixed, five_zero,
    five_none, Q.fd, Q.fa, Q.fb, Q.lowB 6 3 (by decide), low_63_42_04_x, Q.lowB 4 2 (by decide), low_63_42_04_y, Q.lowB 0 4 (by decide), low_63_42_04_z, beq_self_eq_true, Bool.and_self, if_true, reduceIte]

theorem por (d : BitVec 5) (a : BitVec 5) (b : BitVec 5) (i : BitVec 3) (p : BitVec 2) (t : BitVec 4) : Statement (.por d a b i p t) := by
  intro W H
  have Q := packed H (by decide) (low_63_42_04 i p t)
  simp only [decodeWord, Q.hi, Nat.zero_div, Nat.reduceDiv, decodeRow0, Q.lo, Nat.zero_mod, Nat.reduceMod, fixed, five_zero,
    five_none, Q.fd, Q.fa, Q.fb, Q.lowB 6 3 (by decide), low_63_42_04_x, Q.lowB 4 2 (by decide), low_63_42_04_y, Q.lowB 0 4 (by decide), low_63_42_04_z, beq_self_eq_true, Bool.and_self, if_true, reduceIte]

theorem pxor (d : BitVec 5) (a : BitVec 5) (b : BitVec 5) (i : BitVec 3) (p : BitVec 2) (t : BitVec 4) : Statement (.pxor d a b i p t) := by
  intro W H
  have Q := packed H (by decide) (low_63_42_04 i p t)
  simp only [decodeWord, Q.hi, Nat.zero_div, Nat.reduceDiv, decodeRow0, Q.lo, Nat.zero_mod, Nat.reduceMod, fixed, five_zero,
    five_none, Q.fd, Q.fa, Q.fb, Q.lowB 6 3 (by decide), low_63_42_04_x, Q.lowB 4 2 (by decide), low_63_42_04_y, Q.lowB 0 4 (by decide), low_63_42_04_z, beq_self_eq_true, Bool.and_self, if_true, reduceIte]

theorem pnot (d : BitVec 5) (a : BitVec 5) (i : BitVec 3) (p : BitVec 2) (t : BitVec 4) : Statement (.pnot d a i p t) := by
  intro W H
  have Q := packed H (by decide) (low_63_42_04 i p t)
  simp only [decodeWord, Q.hi, Nat.zero_div, Nat.reduceDiv, decodeRow0, Q.lo, Nat.zero_mod, Nat.reduceMod, fixed, five_zero,
    five_none, Q.nb, Q.fd, Q.fa, Q.lowB 6 3 (by decide), low_63_42_04_x, Q.lowB 4 2 (by decide), low_63_42_04_y, Q.lowB 0 4 (by decide), low_63_42_04_z, beq_self_eq_true, Bool.and_self, if_true, reduceIte]

theorem pmov (d : BitVec 5) (a : BitVec 5) (i : BitVec 3) (p : BitVec 2) (t : BitVec 4) : Statement (.pmov d a i p t) := by
  intro W H
  have Q := packed H (by decide) (low_63_42_04 i p t)
  simp only [decodeWord, Q.hi, Nat.zero_div, Nat.reduceDiv, decodeRow0, Q.lo, Nat.zero_mod, Nat.reduceMod, fixed, five_zero,
    five_none, Q.nb, Q.fd, Q.fa, Q.lowB 6 3 (by decide), low_63_42_04_x, Q.lowB 4 2 (by decide), low_63_42_04_y, Q.lowB 0 4 (by decide), low_63_42_04_z, beq_self_eq_true, Bool.and_self, if_true, reduceIte]

theorem ptod (d : BitVec 5) (i : BitVec 3) (p : BitVec 2) (t : BitVec 4) : Statement (.ptod d i p t) := by
  intro W H
  have Q := packed H (by decide) (low_63_42_04 i p t)
  have C0 : fldN W 9 10 = 0 := by
    rw [fldN, Q.num]
    have := d.isLt
    have := i.isLt
    have := p.isLt
    have := t.isLt
    simp only [five_zero, five_none, low3]; omega
  simp only [decodeWord, Q.hi, Nat.zero_div, Nat.reduceDiv, decodeRow0, Q.lo, Nat.zero_mod, Nat.reduceMod, fixed, five_zero,
    five_none, C0, Q.fd, Q.lowB 6 3 (by decide), low_63_42_04_x, Q.lowB 4 2 (by decide), low_63_42_04_y, Q.lowB 0 4 (by decide), low_63_42_04_z, beq_self_eq_true, Bool.and_self, if_true, reduceIte]

theorem dtop (a : BitVec 5) : Statement (.dtop a) := by
  intro W H
  have Q := packed H (by decide) (by decide)
  have C0 : fldN W 0 14 = 0 := by
    rw [fldN, Q.num]
    have := a.isLt
    simp only [five_zero, five_none]; omega
  simp only [decodeWord, Q.hi, Nat.zero_div, Nat.reduceDiv, decodeRow0, Q.lo, Nat.zero_mod, Nat.reduceMod, fixed, five_zero,
    five_none, C0, Q.nd, Q.fa, beq_self_eq_true, Bool.and_self, if_true, reduceIte]

theorem iter (d : BitVec 5) (a : BitVec 5) (i : BitVec 3) (p : BitVec 2) : Statement (.iter d a i p) := by
  intro W H
  have Q := packed H (by decide) (low_63_42 i p)
  have C0 : fldN W 0 4 = 0 := by
    rw [Q.lowN 0 4 (by decide)]
    have := i.isLt
    have := p.isLt
    simp only [low2]; omega
  simp only [decodeWord, Q.hi, Nat.zero_div, Nat.reduceDiv, decodeRow0, Q.lo, Nat.zero_mod, Nat.reduceMod, fixed, five_zero,
    five_none, C0, Q.nb, Q.fd, Q.fa, Q.lowB 6 3 (by decide), low_63_42_x, Q.lowB 4 2 (by decide), low_63_42_y, beq_self_eq_true, Bool.and_self, if_true, reduceIte]

theorem cntrd (d : BitVec 5) (a : BitVec 5) (i : BitVec 3) (p : BitVec 2) (t : BitVec 4) : Statement (.cntrd d a i p t) := by
  intro W H
  have Q := packed H (by decide) (low_63_42_04 i p t)
  simp only [decodeWord, Q.hi, Nat.zero_div, Nat.reduceDiv, decodeRow1, Q.lo, Nat.zero_mod, Nat.reduceMod, fixed, five_zero,
    five_none, Q.nb, Q.fd, Q.fa, Q.lowB 6 3 (by decide), low_63_42_04_x, Q.lowB 4 2 (by decide), low_63_42_04_y, Q.lowB 0 4 (by decide), low_63_42_04_z, beq_self_eq_true, Bool.and_self, if_true, reduceIte]

theorem cntset (d : BitVec 5) (a : BitVec 5) (i : BitVec 3) (p : BitVec 2) : Statement (.cntset d a i p) := by
  intro W H
  have Q := packed H (by decide) (low_63_42 i p)
  have C0 : fldN W 0 4 = 0 := by
    rw [Q.lowN 0 4 (by decide)]
    have := i.isLt
    have := p.isLt
    simp only [low2]; omega
  simp only [decodeWord, Q.hi, Nat.zero_div, Nat.reduceDiv, decodeRow1, Q.lo, Nat.zero_mod, Nat.reduceMod, fixed, five_zero,
    five_none, C0, Q.nb, Q.fd, Q.fa, Q.lowB 6 3 (by decide), low_63_42_x, Q.lowB 4 2 (by decide), low_63_42_y, beq_self_eq_true, Bool.and_self, if_true, reduceIte]

theorem halt : Statement (.halt) := by
  intro W H
  have Q := packed H (by decide) (by decide)
  have C0 : fldN W 0 24 = 0 := by
    rw [fldN, Q.num]; rfl
  simp only [decodeWord, Q.hi, Nat.zero_div, Nat.reduceDiv, decodeRow1, Q.lo, Nat.zero_mod, Nat.reduceMod, fixed, five_zero,
    five_none, C0, beq_self_eq_true, Bool.and_self, if_true, reduceIte]

theorem add (d : BitVec 5) (a : BitVec 5) (b : BitVec 5) (i : BitVec 3) (p : BitVec 2) (t : BitVec 4) : Statement (.add d a b i p t) := by
  intro W H
  have Q := packed H (by decide) (low_63_42_04 i p t)
  simp only [decodeWord, Q.hi, Nat.zero_div, Nat.reduceDiv, decodeRow2, Q.lo, Nat.zero_mod, Nat.reduceMod, fixed, five_zero,
    five_none, Q.fd, Q.fa, Q.fb, Q.lowB 6 3 (by decide), low_63_42_04_x, Q.lowB 4 2 (by decide), low_63_42_04_y, Q.lowB 0 4 (by decide), low_63_42_04_z, beq_self_eq_true, Bool.and_self, if_true, reduceIte]

theorem sub (d : BitVec 5) (a : BitVec 5) (b : BitVec 5) (i : BitVec 3) (p : BitVec 2) (t : BitVec 4) : Statement (.sub d a b i p t) := by
  intro W H
  have Q := packed H (by decide) (low_63_42_04 i p t)
  simp only [decodeWord, Q.hi, Nat.zero_div, Nat.reduceDiv, decodeRow2, Q.lo, Nat.zero_mod, Nat.reduceMod, fixed, five_zero,
    five_none, Q.fd, Q.fa, Q.fb, Q.lowB 6 3 (by decide), low_63_42_04_x, Q.lowB 4 2 (by decide), low_63_42_04_y, Q.lowB 0 4 (by decide), low_63_42_04_z, beq_self_eq_true, Bool.and_self, if_true, reduceIte]

theorem adds (d : BitVec 5) (a : BitVec 5) (b : BitVec 5) (i : BitVec 3) (p : BitVec 2) (t : BitVec 4) : Statement (.adds d a b i p t) := by
  intro W H
  have Q := packed H (by decide) (low_63_42_04 i p t)
  simp only [decodeWord, Q.hi, Nat.zero_div, Nat.reduceDiv, decodeRow2, Q.lo, Nat.zero_mod, Nat.reduceMod, fixed, five_zero,
    five_none, Q.fd, Q.fa, Q.fb, Q.lowB 6 3 (by decide), low_63_42_04_x, Q.lowB 4 2 (by decide), low_63_42_04_y, Q.lowB 0 4 (by decide), low_63_42_04_z, beq_self_eq_true, Bool.and_self, if_true, reduceIte]

theorem subs (d : BitVec 5) (a : BitVec 5) (b : BitVec 5) (i : BitVec 3) (p : BitVec 2) (t : BitVec 4) : Statement (.subs d a b i p t) := by
  intro W H
  have Q := packed H (by decide) (low_63_42_04 i p t)
  simp only [decodeWord, Q.hi, Nat.zero_div, Nat.reduceDiv, decodeRow2, Q.lo, Nat.zero_mod, Nat.reduceMod, fixed, five_zero,
    five_none, Q.fd, Q.fa, Q.fb, Q.lowB 6 3 (by decide), low_63_42_04_x, Q.lowB 4 2 (by decide), low_63_42_04_y, Q.lowB 0 4 (by decide), low_63_42_04_z, beq_self_eq_true, Bool.and_self, if_true, reduceIte]

theorem addsn (d : BitVec 5) (a : BitVec 5) (b : BitVec 5) (i : BitVec 3) (p : BitVec 2) (t : BitVec 4) : Statement (.addsn d a b i p t) := by
  intro W H
  have Q := packed H (by decide) (low_63_42_04 i p t)
  simp only [decodeWord, Q.hi, Nat.zero_div, Nat.reduceDiv, decodeRow2, Q.lo, Nat.zero_mod, Nat.reduceMod, fixed, five_zero,
    five_none, Q.fd, Q.fa, Q.fb, Q.lowB 6 3 (by decide), low_63_42_04_x, Q.lowB 4 2 (by decide), low_63_42_04_y, Q.lowB 0 4 (by decide), low_63_42_04_z, beq_self_eq_true, Bool.and_self, if_true, reduceIte]

theorem subsn (d : BitVec 5) (a : BitVec 5) (b : BitVec 5) (i : BitVec 3) (p : BitVec 2) (t : BitVec 4) : Statement (.subsn d a b i p t) := by
  intro W H
  have Q := packed H (by decide) (low_63_42_04 i p t)
  simp only [decodeWord, Q.hi, Nat.zero_div, Nat.reduceDiv, decodeRow2, Q.lo, Nat.zero_mod, Nat.reduceMod, fixed, five_zero,
    five_none, Q.fd, Q.fa, Q.fb, Q.lowB 6 3 (by decide), low_63_42_04_x, Q.lowB 4 2 (by decide), low_63_42_04_y, Q.lowB 0 4 (by decide), low_63_42_04_z, beq_self_eq_true, Bool.and_self, if_true, reduceIte]

theorem neg (d : BitVec 5) (a : BitVec 5) (i : BitVec 3) (p : BitVec 2) (t : BitVec 4) : Statement (.neg d a i p t) := by
  intro W H
  have Q := packed H (by decide) (low_63_42_04 i p t)
  simp only [decodeWord, Q.hi, Nat.zero_div, Nat.reduceDiv, decodeRow2, Q.lo, Nat.zero_mod, Nat.reduceMod, fixed, five_zero,
    five_none, Q.nb, Q.fd, Q.fa, Q.lowB 6 3 (by decide), low_63_42_04_x, Q.lowB 4 2 (by decide), low_63_42_04_y, Q.lowB 0 4 (by decide), low_63_42_04_z, beq_self_eq_true, Bool.and_self, if_true, reduceIte]

theorem abs (d : BitVec 5) (a : BitVec 5) (i : BitVec 3) (p : BitVec 2) (t : BitVec 4) : Statement (.abs d a i p t) := by
  intro W H
  have Q := packed H (by decide) (low_63_42_04 i p t)
  simp only [decodeWord, Q.hi, Nat.zero_div, Nat.reduceDiv, decodeRow2, Q.lo, Nat.zero_mod, Nat.reduceMod, fixed, five_zero,
    five_none, Q.nb, Q.fd, Q.fa, Q.lowB 6 3 (by decide), low_63_42_04_x, Q.lowB 4 2 (by decide), low_63_42_04_y, Q.lowB 0 4 (by decide), low_63_42_04_z, beq_self_eq_true, Bool.and_self, if_true, reduceIte]

theorem mul (d : BitVec 5) (a : BitVec 5) (b : BitVec 5) (i : BitVec 3) (p : BitVec 2) (t : BitVec 4) : Statement (.mul d a b i p t) := by
  intro W H
  have Q := packed H (by decide) (low_63_42_04 i p t)
  simp only [decodeWord, Q.hi, Nat.zero_div, Nat.reduceDiv, decodeRow2, Q.lo, Nat.zero_mod, Nat.reduceMod, fixed, five_zero,
    five_none, Q.fd, Q.fa, Q.fb, Q.lowB 6 3 (by decide), low_63_42_04_x, Q.lowB 4 2 (by decide), low_63_42_04_y, Q.lowB 0 4 (by decide), low_63_42_04_z, beq_self_eq_true, Bool.and_self, if_true, reduceIte]

theorem mulh (d : BitVec 5) (a : BitVec 5) (b : BitVec 5) (i : BitVec 3) (p : BitVec 2) (t : BitVec 4) : Statement (.mulh d a b i p t) := by
  intro W H
  have Q := packed H (by decide) (low_63_42_04 i p t)
  simp only [decodeWord, Q.hi, Nat.zero_div, Nat.reduceDiv, decodeRow2, Q.lo, Nat.zero_mod, Nat.reduceMod, fixed, five_zero,
    five_none, Q.fd, Q.fa, Q.fb, Q.lowB 6 3 (by decide), low_63_42_04_x, Q.lowB 4 2 (by decide), low_63_42_04_y, Q.lowB 0 4 (by decide), low_63_42_04_z, beq_self_eq_true, Bool.and_self, if_true, reduceIte]

theorem mulhn (d : BitVec 5) (a : BitVec 5) (b : BitVec 5) (i : BitVec 3) (p : BitVec 2) (t : BitVec 4) : Statement (.mulhn d a b i p t) := by
  intro W H
  have Q := packed H (by decide) (low_63_42_04 i p t)
  simp only [decodeWord, Q.hi, Nat.zero_div, Nat.reduceDiv, decodeRow2, Q.lo, Nat.zero_mod, Nat.reduceMod, fixed, five_zero,
    five_none, Q.fd, Q.fa, Q.fb, Q.lowB 6 3 (by decide), low_63_42_04_x, Q.lowB 4 2 (by decide), low_63_42_04_y, Q.lowB 0 4 (by decide), low_63_42_04_z, beq_self_eq_true, Bool.and_self, if_true, reduceIte]

theorem mac (d : BitVec 5) (a : BitVec 5) (b : BitVec 5) (i : BitVec 3) (p : BitVec 2) (t : BitVec 4) : Statement (.mac d a b i p t) := by
  intro W H
  have Q := packed H (by decide) (low_63_42_04 i p t)
  simp only [decodeWord, Q.hi, Nat.zero_div, Nat.reduceDiv, decodeRow2, Q.lo, Nat.zero_mod, Nat.reduceMod, fixed, five_zero,
    five_none, Q.fd, Q.fa, Q.fb, Q.lowB 6 3 (by decide), low_63_42_04_x, Q.lowB 4 2 (by decide), low_63_42_04_y, Q.lowB 0 4 (by decide), low_63_42_04_z, beq_self_eq_true, Bool.and_self, if_true, reduceIte]

theorem min (d : BitVec 5) (a : BitVec 5) (b : BitVec 5) (i : BitVec 3) (p : BitVec 2) (t : BitVec 4) : Statement (.min d a b i p t) := by
  intro W H
  have Q := packed H (by decide) (low_63_42_04 i p t)
  simp only [decodeWord, Q.hi, Nat.zero_div, Nat.reduceDiv, decodeRow2, Q.lo, Nat.zero_mod, Nat.reduceMod, fixed, five_zero,
    five_none, Q.fd, Q.fa, Q.fb, Q.lowB 6 3 (by decide), low_63_42_04_x, Q.lowB 4 2 (by decide), low_63_42_04_y, Q.lowB 0 4 (by decide), low_63_42_04_z, beq_self_eq_true, Bool.and_self, if_true, reduceIte]

theorem max (d : BitVec 5) (a : BitVec 5) (b : BitVec 5) (i : BitVec 3) (p : BitVec 2) (t : BitVec 4) : Statement (.max d a b i p t) := by
  intro W H
  have Q := packed H (by decide) (low_63_42_04 i p t)
  simp only [decodeWord, Q.hi, Nat.zero_div, Nat.reduceDiv, decodeRow2, Q.lo, Nat.zero_mod, Nat.reduceMod, fixed, five_zero,
    five_none, Q.fd, Q.fa, Q.fb, Q.lowB 6 3 (by decide), low_63_42_04_x, Q.lowB 4 2 (by decide), low_63_42_04_y, Q.lowB 0 4 (by decide), low_63_42_04_z, beq_self_eq_true, Bool.and_self, if_true, reduceIte]

theorem minn (d : BitVec 5) (a : BitVec 5) (b : BitVec 5) (i : BitVec 3) (p : BitVec 2) (t : BitVec 4) : Statement (.minn d a b i p t) := by
  intro W H
  have Q := packed H (by decide) (low_63_42_04 i p t)
  simp only [decodeWord, Q.hi, Nat.zero_div, Nat.reduceDiv, decodeRow2, Q.lo, Nat.zero_mod, Nat.reduceMod, fixed, five_zero,
    five_none, Q.fd, Q.fa, Q.fb, Q.lowB 6 3 (by decide), low_63_42_04_x, Q.lowB 4 2 (by decide), low_63_42_04_y, Q.lowB 0 4 (by decide), low_63_42_04_z, beq_self_eq_true, Bool.and_self, if_true, reduceIte]

theorem maxn (d : BitVec 5) (a : BitVec 5) (b : BitVec 5) (i : BitVec 3) (p : BitVec 2) (t : BitVec 4) : Statement (.maxn d a b i p t) := by
  intro W H
  have Q := packed H (by decide) (low_63_42_04 i p t)
  simp only [decodeWord, Q.hi, Nat.zero_div, Nat.reduceDiv, decodeRow2, Q.lo, Nat.zero_mod, Nat.reduceMod, fixed, five_zero,
    five_none, Q.fd, Q.fa, Q.fb, Q.lowB 6 3 (by decide), low_63_42_04_x, Q.lowB 4 2 (by decide), low_63_42_04_y, Q.lowB 0 4 (by decide), low_63_42_04_z, beq_self_eq_true, Bool.and_self, if_true, reduceIte]

theorem and (d : BitVec 5) (a : BitVec 5) (b : BitVec 5) (i : BitVec 3) (p : BitVec 2) (t : BitVec 4) : Statement (.and d a b i p t) := by
  intro W H
  have Q := packed H (by decide) (low_63_42_04 i p t)
  simp only [decodeWord, Q.hi, Nat.zero_div, Nat.reduceDiv, decodeRow3, Q.lo, Nat.zero_mod, Nat.reduceMod, fixed, five_zero,
    five_none, Q.fd, Q.fa, Q.fb, Q.lowB 6 3 (by decide), low_63_42_04_x, Q.lowB 4 2 (by decide), low_63_42_04_y, Q.lowB 0 4 (by decide), low_63_42_04_z, beq_self_eq_true, Bool.and_self, if_true, reduceIte]

theorem or (d : BitVec 5) (a : BitVec 5) (b : BitVec 5) (i : BitVec 3) (p : BitVec 2) (t : BitVec 4) : Statement (.or d a b i p t) := by
  intro W H
  have Q := packed H (by decide) (low_63_42_04 i p t)
  simp only [decodeWord, Q.hi, Nat.zero_div, Nat.reduceDiv, decodeRow3, Q.lo, Nat.zero_mod, Nat.reduceMod, fixed, five_zero,
    five_none, Q.fd, Q.fa, Q.fb, Q.lowB 6 3 (by decide), low_63_42_04_x, Q.lowB 4 2 (by decide), low_63_42_04_y, Q.lowB 0 4 (by decide), low_63_42_04_z, beq_self_eq_true, Bool.and_self, if_true, reduceIte]

theorem xor (d : BitVec 5) (a : BitVec 5) (b : BitVec 5) (i : BitVec 3) (p : BitVec 2) (t : BitVec 4) : Statement (.xor d a b i p t) := by
  intro W H
  have Q := packed H (by decide) (low_63_42_04 i p t)
  simp only [decodeWord, Q.hi, Nat.zero_div, Nat.reduceDiv, decodeRow3, Q.lo, Nat.zero_mod, Nat.reduceMod, fixed, five_zero,
    five_none, Q.fd, Q.fa, Q.fb, Q.lowB 6 3 (by decide), low_63_42_04_x, Q.lowB 4 2 (by decide), low_63_42_04_y, Q.lowB 0 4 (by decide), low_63_42_04_z, beq_self_eq_true, Bool.and_self, if_true, reduceIte]

theorem andn (d : BitVec 5) (a : BitVec 5) (b : BitVec 5) (i : BitVec 3) (p : BitVec 2) (t : BitVec 4) : Statement (.andn d a b i p t) := by
  intro W H
  have Q := packed H (by decide) (low_63_42_04 i p t)
  simp only [decodeWord, Q.hi, Nat.zero_div, Nat.reduceDiv, decodeRow3, Q.lo, Nat.zero_mod, Nat.reduceMod, fixed, five_zero,
    five_none, Q.fd, Q.fa, Q.fb, Q.lowB 6 3 (by decide), low_63_42_04_x, Q.lowB 4 2 (by decide), low_63_42_04_y, Q.lowB 0 4 (by decide), low_63_42_04_z, beq_self_eq_true, Bool.and_self, if_true, reduceIte]

theorem orn (d : BitVec 5) (a : BitVec 5) (b : BitVec 5) (i : BitVec 3) (p : BitVec 2) (t : BitVec 4) : Statement (.orn d a b i p t) := by
  intro W H
  have Q := packed H (by decide) (low_63_42_04 i p t)
  simp only [decodeWord, Q.hi, Nat.zero_div, Nat.reduceDiv, decodeRow3, Q.lo, Nat.zero_mod, Nat.reduceMod, fixed, five_zero,
    five_none, Q.fd, Q.fa, Q.fb, Q.lowB 6 3 (by decide), low_63_42_04_x, Q.lowB 4 2 (by decide), low_63_42_04_y, Q.lowB 0 4 (by decide), low_63_42_04_z, beq_self_eq_true, Bool.and_self, if_true, reduceIte]

theorem not (d : BitVec 5) (a : BitVec 5) (i : BitVec 3) (p : BitVec 2) (t : BitVec 4) : Statement (.not d a i p t) := by
  intro W H
  have Q := packed H (by decide) (low_63_42_04 i p t)
  simp only [decodeWord, Q.hi, Nat.zero_div, Nat.reduceDiv, decodeRow3, Q.lo, Nat.zero_mod, Nat.reduceMod, fixed, five_zero,
    five_none, Q.nb, Q.fd, Q.fa, Q.lowB 6 3 (by decide), low_63_42_04_x, Q.lowB 4 2 (by decide), low_63_42_04_y, Q.lowB 0 4 (by decide), low_63_42_04_z, beq_self_eq_true, Bool.and_self, if_true, reduceIte]

theorem shl (d : BitVec 5) (a : BitVec 5) (b : BitVec 5) (i : BitVec 3) (p : BitVec 2) (t : BitVec 4) : Statement (.shl d a b i p t) := by
  intro W H
  have Q := packed H (by decide) (low_63_42_04 i p t)
  simp only [decodeWord, Q.hi, Nat.zero_div, Nat.reduceDiv, decodeRow3, Q.lo, Nat.zero_mod, Nat.reduceMod, fixed, five_zero,
    five_none, Q.fd, Q.fa, Q.fb, Q.lowB 6 3 (by decide), low_63_42_04_x, Q.lowB 4 2 (by decide), low_63_42_04_y, Q.lowB 0 4 (by decide), low_63_42_04_z, beq_self_eq_true, Bool.and_self, if_true, reduceIte]

theorem shr (d : BitVec 5) (a : BitVec 5) (b : BitVec 5) (i : BitVec 3) (p : BitVec 2) (t : BitVec 4) : Statement (.shr d a b i p t) := by
  intro W H
  have Q := packed H (by decide) (low_63_42_04 i p t)
  simp only [decodeWord, Q.hi, Nat.zero_div, Nat.reduceDiv, decodeRow3, Q.lo, Nat.zero_mod, Nat.reduceMod, fixed, five_zero,
    five_none, Q.fd, Q.fa, Q.fb, Q.lowB 6 3 (by decide), low_63_42_04_x, Q.lowB 4 2 (by decide), low_63_42_04_y, Q.lowB 0 4 (by decide), low_63_42_04_z, beq_self_eq_true, Bool.and_self, if_true, reduceIte]

theorem sar (d : BitVec 5) (a : BitVec 5) (b : BitVec 5) (i : BitVec 3) (p : BitVec 2) (t : BitVec 4) : Statement (.sar d a b i p t) := by
  intro W H
  have Q := packed H (by decide) (low_63_42_04 i p t)
  simp only [decodeWord, Q.hi, Nat.zero_div, Nat.reduceDiv, decodeRow3, Q.lo, Nat.zero_mod, Nat.reduceMod, fixed, five_zero,
    five_none, Q.fd, Q.fa, Q.fb, Q.lowB 6 3 (by decide), low_63_42_04_x, Q.lowB 4 2 (by decide), low_63_42_04_y, Q.lowB 0 4 (by decide), low_63_42_04_z, beq_self_eq_true, Bool.and_self, if_true, reduceIte]

theorem rol (d : BitVec 5) (a : BitVec 5) (b : BitVec 5) (i : BitVec 3) (p : BitVec 2) (t : BitVec 4) : Statement (.rol d a b i p t) := by
  intro W H
  have Q := packed H (by decide) (low_63_42_04 i p t)
  simp only [decodeWord, Q.hi, Nat.zero_div, Nat.reduceDiv, decodeRow3, Q.lo, Nat.zero_mod, Nat.reduceMod, fixed, five_zero,
    five_none, Q.fd, Q.fa, Q.fb, Q.lowB 6 3 (by decide), low_63_42_04_x, Q.lowB 4 2 (by decide), low_63_42_04_y, Q.lowB 0 4 (by decide), low_63_42_04_z, beq_self_eq_true, Bool.and_self, if_true, reduceIte]

theorem clz (d : BitVec 5) (a : BitVec 5) (i : BitVec 3) (p : BitVec 2) (t : BitVec 4) : Statement (.clz d a i p t) := by
  intro W H
  have Q := packed H (by decide) (low_63_42_04 i p t)
  simp only [decodeWord, Q.hi, Nat.zero_div, Nat.reduceDiv, decodeRow3, Q.lo, Nat.zero_mod, Nat.reduceMod, fixed, five_zero,
    five_none, Q.nb, Q.fd, Q.fa, Q.lowB 6 3 (by decide), low_63_42_04_x, Q.lowB 4 2 (by decide), low_63_42_04_y, Q.lowB 0 4 (by decide), low_63_42_04_z, beq_self_eq_true, Bool.and_self, if_true, reduceIte]

theorem ctz (d : BitVec 5) (a : BitVec 5) (i : BitVec 3) (p : BitVec 2) (t : BitVec 4) : Statement (.ctz d a i p t) := by
  intro W H
  have Q := packed H (by decide) (low_63_42_04 i p t)
  simp only [decodeWord, Q.hi, Nat.zero_div, Nat.reduceDiv, decodeRow3, Q.lo, Nat.zero_mod, Nat.reduceMod, fixed, five_zero,
    five_none, Q.nb, Q.fd, Q.fa, Q.lowB 6 3 (by decide), low_63_42_04_x, Q.lowB 4 2 (by decide), low_63_42_04_y, Q.lowB 0 4 (by decide), low_63_42_04_z, beq_self_eq_true, Bool.and_self, if_true, reduceIte]

theorem popc (d : BitVec 5) (a : BitVec 5) (i : BitVec 3) (p : BitVec 2) (t : BitVec 4) : Statement (.popc d a i p t) := by
  intro W H
  have Q := packed H (by decide) (low_63_42_04 i p t)
  simp only [decodeWord, Q.hi, Nat.zero_div, Nat.reduceDiv, decodeRow3, Q.lo, Nat.zero_mod, Nat.reduceMod, fixed, five_zero,
    five_none, Q.nb, Q.fd, Q.fa, Q.lowB 6 3 (by decide), low_63_42_04_x, Q.lowB 4 2 (by decide), low_63_42_04_y, Q.lowB 0 4 (by decide), low_63_42_04_z, beq_self_eq_true, Bool.and_self, if_true, reduceIte]

theorem brev (d : BitVec 5) (a : BitVec 5) (i : BitVec 3) (p : BitVec 2) (t : BitVec 4) : Statement (.brev d a i p t) := by
  intro W H
  have Q := packed H (by decide) (low_63_42_04 i p t)
  simp only [decodeWord, Q.hi, Nat.zero_div, Nat.reduceDiv, decodeRow3, Q.lo, Nat.zero_mod, Nat.reduceMod, fixed, five_zero,
    five_none, Q.nb, Q.fd, Q.fa, Q.lowB 6 3 (by decide), low_63_42_04_x, Q.lowB 4 2 (by decide), low_63_42_04_y, Q.lowB 0 4 (by decide), low_63_42_04_z, beq_self_eq_true, Bool.and_self, if_true, reduceIte]

theorem bfx (d : BitVec 5) (a : BitVec 5) (b : BitVec 5) (i : BitVec 3) (p : BitVec 2) (t : BitVec 4) : Statement (.bfx d a b i p t) := by
  intro W H
  have Q := packed H (by decide) (low_63_42_04 i p t)
  simp only [decodeWord, Q.hi, Nat.zero_div, Nat.reduceDiv, decodeRow3, Q.lo, Nat.zero_mod, Nat.reduceMod, fixed, five_zero,
    five_none, Q.fd, Q.fa, Q.fb, Q.lowB 6 3 (by decide), low_63_42_04_x, Q.lowB 4 2 (by decide), low_63_42_04_y, Q.lowB 0 4 (by decide), low_63_42_04_z, beq_self_eq_true, Bool.and_self, if_true, reduceIte]

theorem bfxs (d : BitVec 5) (a : BitVec 5) (b : BitVec 5) (i : BitVec 3) (p : BitVec 2) (t : BitVec 4) : Statement (.bfxs d a b i p t) := by
  intro W H
  have Q := packed H (by decide) (low_63_42_04 i p t)
  simp only [decodeWord, Q.hi, Nat.zero_div, Nat.reduceDiv, decodeRow3, Q.lo, Nat.zero_mod, Nat.reduceMod, fixed, five_zero,
    five_none, Q.fd, Q.fa, Q.fb, Q.lowB 6 3 (by decide), low_63_42_04_x, Q.lowB 4 2 (by decide), low_63_42_04_y, Q.lowB 0 4 (by decide), low_63_42_04_z, beq_self_eq_true, Bool.and_self, if_true, reduceIte]

theorem bfi (d : BitVec 5) (a : BitVec 5) (b : BitVec 5) (i : BitVec 3) (p : BitVec 2) (t : BitVec 4) : Statement (.bfi d a b i p t) := by
  intro W H
  have Q := packed H (by decide) (low_63_42_04 i p t)
  simp only [decodeWord, Q.hi, Nat.zero_div, Nat.reduceDiv, decodeRow4, Q.lo, Nat.zero_mod, Nat.reduceMod, fixed, five_zero,
    five_none, Q.fd, Q.fa, Q.fb, Q.lowB 6 3 (by decide), low_63_42_04_x, Q.lowB 4 2 (by decide), low_63_42_04_y, Q.lowB 0 4 (by decide), low_63_42_04_z, beq_self_eq_true, Bool.and_self, if_true, reduceIte]

theorem cmpeq (d : BitVec 5) (a : BitVec 5) (b : BitVec 5) (i : BitVec 3) (p : BitVec 2) (t : BitVec 4) : Statement (.cmpeq d a b i p t) := by
  intro W H
  have Q := packed H (by decide) (low_63_42_04 i p t)
  simp only [decodeWord, Q.hi, Nat.zero_div, Nat.reduceDiv, decodeRow4, Q.lo, Nat.zero_mod, Nat.reduceMod, fixed, five_zero,
    five_none, Q.fd, Q.fa, Q.fb, Q.lowB 6 3 (by decide), low_63_42_04_x, Q.lowB 4 2 (by decide), low_63_42_04_y, Q.lowB 0 4 (by decide), low_63_42_04_z, beq_self_eq_true, Bool.and_self, if_true, reduceIte]

theorem cmpne (d : BitVec 5) (a : BitVec 5) (b : BitVec 5) (i : BitVec 3) (p : BitVec 2) (t : BitVec 4) : Statement (.cmpne d a b i p t) := by
  intro W H
  have Q := packed H (by decide) (low_63_42_04 i p t)
  simp only [decodeWord, Q.hi, Nat.zero_div, Nat.reduceDiv, decodeRow4, Q.lo, Nat.zero_mod, Nat.reduceMod, fixed, five_zero,
    five_none, Q.fd, Q.fa, Q.fb, Q.lowB 6 3 (by decide), low_63_42_04_x, Q.lowB 4 2 (by decide), low_63_42_04_y, Q.lowB 0 4 (by decide), low_63_42_04_z, beq_self_eq_true, Bool.and_self, if_true, reduceIte]

theorem cmplt (d : BitVec 5) (a : BitVec 5) (b : BitVec 5) (i : BitVec 3) (p : BitVec 2) (t : BitVec 4) : Statement (.cmplt d a b i p t) := by
  intro W H
  have Q := packed H (by decide) (low_63_42_04 i p t)
  simp only [decodeWord, Q.hi, Nat.zero_div, Nat.reduceDiv, decodeRow4, Q.lo, Nat.zero_mod, Nat.reduceMod, fixed, five_zero,
    five_none, Q.fd, Q.fa, Q.fb, Q.lowB 6 3 (by decide), low_63_42_04_x, Q.lowB 4 2 (by decide), low_63_42_04_y, Q.lowB 0 4 (by decide), low_63_42_04_z, beq_self_eq_true, Bool.and_self, if_true, reduceIte]

theorem cmple (d : BitVec 5) (a : BitVec 5) (b : BitVec 5) (i : BitVec 3) (p : BitVec 2) (t : BitVec 4) : Statement (.cmple d a b i p t) := by
  intro W H
  have Q := packed H (by decide) (low_63_42_04 i p t)
  simp only [decodeWord, Q.hi, Nat.zero_div, Nat.reduceDiv, decodeRow4, Q.lo, Nat.zero_mod, Nat.reduceMod, fixed, five_zero,
    five_none, Q.fd, Q.fa, Q.fb, Q.lowB 6 3 (by decide), low_63_42_04_x, Q.lowB 4 2 (by decide), low_63_42_04_y, Q.lowB 0 4 (by decide), low_63_42_04_z, beq_self_eq_true, Bool.and_self, if_true, reduceIte]

theorem cmpltn (d : BitVec 5) (a : BitVec 5) (b : BitVec 5) (i : BitVec 3) (p : BitVec 2) (t : BitVec 4) : Statement (.cmpltn d a b i p t) := by
  intro W H
  have Q := packed H (by decide) (low_63_42_04 i p t)
  simp only [decodeWord, Q.hi, Nat.zero_div, Nat.reduceDiv, decodeRow4, Q.lo, Nat.zero_mod, Nat.reduceMod, fixed, five_zero,
    five_none, Q.fd, Q.fa, Q.fb, Q.lowB 6 3 (by decide), low_63_42_04_x, Q.lowB 4 2 (by decide), low_63_42_04_y, Q.lowB 0 4 (by decide), low_63_42_04_z, beq_self_eq_true, Bool.and_self, if_true, reduceIte]

theorem cmplen (d : BitVec 5) (a : BitVec 5) (b : BitVec 5) (i : BitVec 3) (p : BitVec 2) (t : BitVec 4) : Statement (.cmplen d a b i p t) := by
  intro W H
  have Q := packed H (by decide) (low_63_42_04 i p t)
  simp only [decodeWord, Q.hi, Nat.zero_div, Nat.reduceDiv, decodeRow4, Q.lo, Nat.zero_mod, Nat.reduceMod, fixed, five_zero,
    five_none, Q.fd, Q.fa, Q.fb, Q.lowB 6 3 (by decide), low_63_42_04_x, Q.lowB 4 2 (by decide), low_63_42_04_y, Q.lowB 0 4 (by decide), low_63_42_04_z, beq_self_eq_true, Bool.and_self, if_true, reduceIte]

theorem addh2 (d : BitVec 5) (a : BitVec 5) (b : BitVec 5) (i : BitVec 3) (p : BitVec 2) (t : BitVec 4) : Statement (.addh2 d a b i p t) := by
  intro W H
  have Q := packed H (by decide) (low_63_42_04 i p t)
  simp only [decodeWord, Q.hi, Nat.zero_div, Nat.reduceDiv, decodeRow4, Q.lo, Nat.zero_mod, Nat.reduceMod, fixed, five_zero,
    five_none, Q.fd, Q.fa, Q.fb, Q.lowB 6 3 (by decide), low_63_42_04_x, Q.lowB 4 2 (by decide), low_63_42_04_y, Q.lowB 0 4 (by decide), low_63_42_04_z, beq_self_eq_true, Bool.and_self, if_true, reduceIte]

theorem subh2 (d : BitVec 5) (a : BitVec 5) (b : BitVec 5) (i : BitVec 3) (p : BitVec 2) (t : BitVec 4) : Statement (.subh2 d a b i p t) := by
  intro W H
  have Q := packed H (by decide) (low_63_42_04 i p t)
  simp only [decodeWord, Q.hi, Nat.zero_div, Nat.reduceDiv, decodeRow4, Q.lo, Nat.zero_mod, Nat.reduceMod, fixed, five_zero,
    five_none, Q.fd, Q.fa, Q.fb, Q.lowB 6 3 (by decide), low_63_42_04_x, Q.lowB 4 2 (by decide), low_63_42_04_y, Q.lowB 0 4 (by decide), low_63_42_04_z, beq_self_eq_true, Bool.and_self, if_true, reduceIte]

theorem maxh2 (d : BitVec 5) (a : BitVec 5) (b : BitVec 5) (i : BitVec 3) (p : BitVec 2) (t : BitVec 4) : Statement (.maxh2 d a b i p t) := by
  intro W H
  have Q := packed H (by decide) (low_63_42_04 i p t)
  simp only [decodeWord, Q.hi, Nat.zero_div, Nat.reduceDiv, decodeRow4, Q.lo, Nat.zero_mod, Nat.reduceMod, fixed, five_zero,
    five_none, Q.fd, Q.fa, Q.fb, Q.lowB 6 3 (by decide), low_63_42_04_x, Q.lowB 4 2 (by decide), low_63_42_04_y, Q.lowB 0 4 (by decide), low_63_42_04_z, beq_self_eq_true, Bool.and_self, if_true, reduceIte]

theorem minh2 (d : BitVec 5) (a : BitVec 5) (b : BitVec 5) (i : BitVec 3) (p : BitVec 2) (t : BitVec 4) : Statement (.minh2 d a b i p t) := by
  intro W H
  have Q := packed H (by decide) (low_63_42_04 i p t)
  simp only [decodeWord, Q.hi, Nat.zero_div, Nat.reduceDiv, decodeRow4, Q.lo, Nat.zero_mod, Nat.reduceMod, fixed, five_zero,
    five_none, Q.fd, Q.fa, Q.fb, Q.lowB 6 3 (by decide), low_63_42_04_x, Q.lowB 4 2 (by decide), low_63_42_04_y, Q.lowB 0 4 (by decide), low_63_42_04_z, beq_self_eq_true, Bool.and_self, if_true, reduceIte]

theorem addb4 (d : BitVec 5) (a : BitVec 5) (b : BitVec 5) (i : BitVec 3) (p : BitVec 2) (t : BitVec 4) : Statement (.addb4 d a b i p t) := by
  intro W H
  have Q := packed H (by decide) (low_63_42_04 i p t)
  simp only [decodeWord, Q.hi, Nat.zero_div, Nat.reduceDiv, decodeRow4, Q.lo, Nat.zero_mod, Nat.reduceMod, fixed, five_zero,
    five_none, Q.fd, Q.fa, Q.fb, Q.lowB 6 3 (by decide), low_63_42_04_x, Q.lowB 4 2 (by decide), low_63_42_04_y, Q.lowB 0 4 (by decide), low_63_42_04_z, beq_self_eq_true, Bool.and_self, if_true, reduceIte]

theorem subb4 (d : BitVec 5) (a : BitVec 5) (b : BitVec 5) (i : BitVec 3) (p : BitVec 2) (t : BitVec 4) : Statement (.subb4 d a b i p t) := by
  intro W H
  have Q := packed H (by decide) (low_63_42_04 i p t)
  simp only [decodeWord, Q.hi, Nat.zero_div, Nat.reduceDiv, decodeRow4, Q.lo, Nat.zero_mod, Nat.reduceMod, fixed, five_zero,
    five_none, Q.fd, Q.fa, Q.fb, Q.lowB 6 3 (by decide), low_63_42_04_x, Q.lowB 4 2 (by decide), low_63_42_04_y, Q.lowB 0 4 (by decide), low_63_42_04_z, beq_self_eq_true, Bool.and_self, if_true, reduceIte]

theorem maxb4 (d : BitVec 5) (a : BitVec 5) (b : BitVec 5) (i : BitVec 3) (p : BitVec 2) (t : BitVec 4) : Statement (.maxb4 d a b i p t) := by
  intro W H
  have Q := packed H (by decide) (low_63_42_04 i p t)
  simp only [decodeWord, Q.hi, Nat.zero_div, Nat.reduceDiv, decodeRow4, Q.lo, Nat.zero_mod, Nat.reduceMod, fixed, five_zero,
    five_none, Q.fd, Q.fa, Q.fb, Q.lowB 6 3 (by decide), low_63_42_04_x, Q.lowB 4 2 (by decide), low_63_42_04_y, Q.lowB 0 4 (by decide), low_63_42_04_z, beq_self_eq_true, Bool.and_self, if_true, reduceIte]

theorem minb4 (d : BitVec 5) (a : BitVec 5) (b : BitVec 5) (i : BitVec 3) (p : BitVec 2) (t : BitVec 4) : Statement (.minb4 d a b i p t) := by
  intro W H
  have Q := packed H (by decide) (low_63_42_04 i p t)
  simp only [decodeWord, Q.hi, Nat.zero_div, Nat.reduceDiv, decodeRow4, Q.lo, Nat.zero_mod, Nat.reduceMod, fixed, five_zero,
    five_none, Q.fd, Q.fa, Q.fb, Q.lowB 6 3 (by decide), low_63_42_04_x, Q.lowB 4 2 (by decide), low_63_42_04_y, Q.lowB 0 4 (by decide), low_63_42_04_z, beq_self_eq_true, Bool.and_self, if_true, reduceIte]

theorem dot4 (d : BitVec 5) (a : BitVec 5) (b : BitVec 5) (i : BitVec 3) (p : BitVec 2) (t : BitVec 4) : Statement (.dot4 d a b i p t) := by
  intro W H
  have Q := packed H (by decide) (low_63_42_04 i p t)
  simp only [decodeWord, Q.hi, Nat.zero_div, Nat.reduceDiv, decodeRow4, Q.lo, Nat.zero_mod, Nat.reduceMod, fixed, five_zero,
    five_none, Q.fd, Q.fa, Q.fb, Q.lowB 6 3 (by decide), low_63_42_04_x, Q.lowB 4 2 (by decide), low_63_42_04_y, Q.lowB 0 4 (by decide), low_63_42_04_z, beq_self_eq_true, Bool.and_self, if_true, reduceIte]

theorem dot4n (d : BitVec 5) (a : BitVec 5) (b : BitVec 5) (i : BitVec 3) (p : BitVec 2) (t : BitVec 4) : Statement (.dot4n d a b i p t) := by
  intro W H
  have Q := packed H (by decide) (low_63_42_04 i p t)
  simp only [decodeWord, Q.hi, Nat.zero_div, Nat.reduceDiv, decodeRow5, Q.lo, Nat.zero_mod, Nat.reduceMod, fixed, five_zero,
    five_none, Q.fd, Q.fa, Q.fb, Q.lowB 6 3 (by decide), low_63_42_04_x, Q.lowB 4 2 (by decide), low_63_42_04_y, Q.lowB 0 4 (by decide), low_63_42_04_z, beq_self_eq_true, Bool.and_self, if_true, reduceIte]

theorem lea (d : BitVec 5) (a : BitVec 5) (b : BitVec 5) (i : BitVec 3) (p : BitVec 2) (s : BitVec 2) : Statement (.lea d a b i p s) := by
  intro W H
  have Q := packed H (by decide) (low_63_42_02 i p s)
  have C0 : fldN W 2 2 = 0 := by
    rw [Q.lowN 2 2 (by decide)]
    have := i.isLt
    have := p.isLt
    have := s.isLt
    simp only [low3]; omega
  simp only [decodeWord, Q.hi, Nat.zero_div, Nat.reduceDiv, decodeRow5, Q.lo, Nat.zero_mod, Nat.reduceMod, fixed, five_zero,
    five_none, C0, Q.fd, Q.fa, Q.fb, Q.lowB 6 3 (by decide), low_63_42_02_x, Q.lowB 4 2 (by decide), low_63_42_02_y, Q.lowB 0 2 (by decide), low_63_42_02_z, beq_self_eq_true, Bool.and_self, if_true, reduceIte]

theorem hash (d : BitVec 5) (a : BitVec 5) (b : BitVec 5) (i : BitVec 3) (p : BitVec 2) (t : BitVec 4) : Statement (.hash d a b i p t) := by
  intro W H
  have Q := packed H (by decide) (low_63_42_04 i p t)
  simp only [decodeWord, Q.hi, Nat.zero_div, Nat.reduceDiv, decodeRow5, Q.lo, Nat.zero_mod, Nat.reduceMod, fixed, five_zero,
    five_none, Q.fd, Q.fa, Q.fb, Q.lowB 6 3 (by decide), low_63_42_04_x, Q.lowB 4 2 (by decide), low_63_42_04_y, Q.lowB 0 4 (by decide), low_63_42_04_z, beq_self_eq_true, Bool.and_self, if_true, reduceIte]

theorem xsh (d : BitVec 5) (a : BitVec 5) (i : BitVec 3) (p : BitVec 2) (t : BitVec 4) : Statement (.xsh d a i p t) := by
  intro W H
  have Q := packed H (by decide) (low_63_42_04 i p t)
  simp only [decodeWord, Q.hi, Nat.zero_div, Nat.reduceDiv, decodeRow5, Q.lo, Nat.zero_mod, Nat.reduceMod, fixed, five_zero,
    five_none, Q.nb, Q.fd, Q.fa, Q.lowB 6 3 (by decide), low_63_42_04_x, Q.lowB 4 2 (by decide), low_63_42_04_y, Q.lowB 0 4 (by decide), low_63_42_04_z, beq_self_eq_true, Bool.and_self, if_true, reduceIte]

theorem divn (d : BitVec 5) (a : BitVec 5) (b : BitVec 5) (i : BitVec 3) (p : BitVec 2) (t : BitVec 4) : Statement (.divn d a b i p t) := by
  intro W H
  have Q := packed H (by decide) (low_63_42_04 i p t)
  simp only [decodeWord, Q.hi, Nat.zero_div, Nat.reduceDiv, decodeRow5, Q.lo, Nat.zero_mod, Nat.reduceMod, fixed, five_zero,
    five_none, Q.fd, Q.fa, Q.fb, Q.lowB 6 3 (by decide), low_63_42_04_x, Q.lowB 4 2 (by decide), low_63_42_04_y, Q.lowB 0 4 (by decide), low_63_42_04_z, beq_self_eq_true, Bool.and_self, if_true, reduceIte]

theorem remn (d : BitVec 5) (a : BitVec 5) (b : BitVec 5) (i : BitVec 3) (p : BitVec 2) (t : BitVec 4) : Statement (.remn d a b i p t) := by
  intro W H
  have Q := packed H (by decide) (low_63_42_04 i p t)
  simp only [decodeWord, Q.hi, Nat.zero_div, Nat.reduceDiv, decodeRow5, Q.lo, Nat.zero_mod, Nat.reduceMod, fixed, five_zero,
    five_none, Q.fd, Q.fa, Q.fb, Q.lowB 6 3 (by decide), low_63_42_04_x, Q.lowB 4 2 (by decide), low_63_42_04_y, Q.lowB 0 4 (by decide), low_63_42_04_z, beq_self_eq_true, Bool.and_self, if_true, reduceIte]

theorem fadd (d : BitVec 5) (a : BitVec 5) (b : BitVec 5) (i : BitVec 3) (p : BitVec 2) (t : BitVec 4) : Statement (.fadd d a b i p t) := by
  intro W H
  have Q := packed H (by decide) (low_63_42_04 i p t)
  simp only [decodeWord, Q.hi, Nat.zero_div, Nat.reduceDiv, decodeRow6, Q.lo, Nat.zero_mod, Nat.reduceMod, fixed, five_zero,
    five_none, Q.fd, Q.fa, Q.fb, Q.lowB 6 3 (by decide), low_63_42_04_x, Q.lowB 4 2 (by decide), low_63_42_04_y, Q.lowB 0 4 (by decide), low_63_42_04_z, beq_self_eq_true, Bool.and_self, if_true, reduceIte]

theorem fsub (d : BitVec 5) (a : BitVec 5) (b : BitVec 5) (i : BitVec 3) (p : BitVec 2) (t : BitVec 4) : Statement (.fsub d a b i p t) := by
  intro W H
  have Q := packed H (by decide) (low_63_42_04 i p t)
  simp only [decodeWord, Q.hi, Nat.zero_div, Nat.reduceDiv, decodeRow6, Q.lo, Nat.zero_mod, Nat.reduceMod, fixed, five_zero,
    five_none, Q.fd, Q.fa, Q.fb, Q.lowB 6 3 (by decide), low_63_42_04_x, Q.lowB 4 2 (by decide), low_63_42_04_y, Q.lowB 0 4 (by decide), low_63_42_04_z, beq_self_eq_true, Bool.and_self, if_true, reduceIte]

theorem fmul (d : BitVec 5) (a : BitVec 5) (b : BitVec 5) (i : BitVec 3) (p : BitVec 2) (t : BitVec 4) : Statement (.fmul d a b i p t) := by
  intro W H
  have Q := packed H (by decide) (low_63_42_04 i p t)
  simp only [decodeWord, Q.hi, Nat.zero_div, Nat.reduceDiv, decodeRow6, Q.lo, Nat.zero_mod, Nat.reduceMod, fixed, five_zero,
    five_none, Q.fd, Q.fa, Q.fb, Q.lowB 6 3 (by decide), low_63_42_04_x, Q.lowB 4 2 (by decide), low_63_42_04_y, Q.lowB 0 4 (by decide), low_63_42_04_z, beq_self_eq_true, Bool.and_self, if_true, reduceIte]

theorem ffma (d : BitVec 5) (a : BitVec 5) (b : BitVec 5) (i : BitVec 3) (p : BitVec 2) (t : BitVec 4) : Statement (.ffma d a b i p t) := by
  intro W H
  have Q := packed H (by decide) (low_63_42_04 i p t)
  simp only [decodeWord, Q.hi, Nat.zero_div, Nat.reduceDiv, decodeRow6, Q.lo, Nat.zero_mod, Nat.reduceMod, fixed, five_zero,
    five_none, Q.fd, Q.fa, Q.fb, Q.lowB 6 3 (by decide), low_63_42_04_x, Q.lowB 4 2 (by decide), low_63_42_04_y, Q.lowB 0 4 (by decide), low_63_42_04_z, beq_self_eq_true, Bool.and_self, if_true, reduceIte]

theorem fmin (d : BitVec 5) (a : BitVec 5) (b : BitVec 5) (i : BitVec 3) (p : BitVec 2) (t : BitVec 4) : Statement (.fmin d a b i p t) := by
  intro W H
  have Q := packed H (by decide) (low_63_42_04 i p t)
  simp only [decodeWord, Q.hi, Nat.zero_div, Nat.reduceDiv, decodeRow6, Q.lo, Nat.zero_mod, Nat.reduceMod, fixed, five_zero,
    five_none, Q.fd, Q.fa, Q.fb, Q.lowB 6 3 (by decide), low_63_42_04_x, Q.lowB 4 2 (by decide), low_63_42_04_y, Q.lowB 0 4 (by decide), low_63_42_04_z, beq_self_eq_true, Bool.and_self, if_true, reduceIte]

theorem fmax (d : BitVec 5) (a : BitVec 5) (b : BitVec 5) (i : BitVec 3) (p : BitVec 2) (t : BitVec 4) : Statement (.fmax d a b i p t) := by
  intro W H
  have Q := packed H (by decide) (low_63_42_04 i p t)
  simp only [decodeWord, Q.hi, Nat.zero_div, Nat.reduceDiv, decodeRow6, Q.lo, Nat.zero_mod, Nat.reduceMod, fixed, five_zero,
    five_none, Q.fd, Q.fa, Q.fb, Q.lowB 6 3 (by decide), low_63_42_04_x, Q.lowB 4 2 (by decide), low_63_42_04_y, Q.lowB 0 4 (by decide), low_63_42_04_z, beq_self_eq_true, Bool.and_self, if_true, reduceIte]

theorem fabs (d : BitVec 5) (a : BitVec 5) (i : BitVec 3) (p : BitVec 2) (t : BitVec 4) : Statement (.fabs d a i p t) := by
  intro W H
  have Q := packed H (by decide) (low_63_42_04 i p t)
  simp only [decodeWord, Q.hi, Nat.zero_div, Nat.reduceDiv, decodeRow6, Q.lo, Nat.zero_mod, Nat.reduceMod, fixed, five_zero,
    five_none, Q.nb, Q.fd, Q.fa, Q.lowB 6 3 (by decide), low_63_42_04_x, Q.lowB 4 2 (by decide), low_63_42_04_y, Q.lowB 0 4 (by decide), low_63_42_04_z, beq_self_eq_true, Bool.and_self, if_true, reduceIte]

theorem fneg (d : BitVec 5) (a : BitVec 5) (i : BitVec 3) (p : BitVec 2) (t : BitVec 4) : Statement (.fneg d a i p t) := by
  intro W H
  have Q := packed H (by decide) (low_63_42_04 i p t)
  simp only [decodeWord, Q.hi, Nat.zero_div, Nat.reduceDiv, decodeRow6, Q.lo, Nat.zero_mod, Nat.reduceMod, fixed, five_zero,
    five_none, Q.nb, Q.fd, Q.fa, Q.lowB 6 3 (by decide), low_63_42_04_x, Q.lowB 4 2 (by decide), low_63_42_04_y, Q.lowB 0 4 (by decide), low_63_42_04_z, beq_self_eq_true, Bool.and_self, if_true, reduceIte]

theorem fcpys (d : BitVec 5) (a : BitVec 5) (b : BitVec 5) (i : BitVec 3) (p : BitVec 2) (t : BitVec 4) : Statement (.fcpys d a b i p t) := by
  intro W H
  have Q := packed H (by decide) (low_63_42_04 i p t)
  simp only [decodeWord, Q.hi, Nat.zero_div, Nat.reduceDiv, decodeRow6, Q.lo, Nat.zero_mod, Nat.reduceMod, fixed, five_zero,
    five_none, Q.fd, Q.fa, Q.fb, Q.lowB 6 3 (by decide), low_63_42_04_x, Q.lowB 4 2 (by decide), low_63_42_04_y, Q.lowB 0 4 (by decide), low_63_42_04_z, beq_self_eq_true, Bool.and_self, if_true, reduceIte]

theorem fcmpeq (d : BitVec 5) (a : BitVec 5) (b : BitVec 5) (i : BitVec 3) (p : BitVec 2) (t : BitVec 4) : Statement (.fcmpeq d a b i p t) := by
  intro W H
  have Q := packed H (by decide) (low_63_42_04 i p t)
  simp only [decodeWord, Q.hi, Nat.zero_div, Nat.reduceDiv, decodeRow6, Q.lo, Nat.zero_mod, Nat.reduceMod, fixed, five_zero,
    five_none, Q.fd, Q.fa, Q.fb, Q.lowB 6 3 (by decide), low_63_42_04_x, Q.lowB 4 2 (by decide), low_63_42_04_y, Q.lowB 0 4 (by decide), low_63_42_04_z, beq_self_eq_true, Bool.and_self, if_true, reduceIte]

theorem fcmplt (d : BitVec 5) (a : BitVec 5) (b : BitVec 5) (i : BitVec 3) (p : BitVec 2) (t : BitVec 4) : Statement (.fcmplt d a b i p t) := by
  intro W H
  have Q := packed H (by decide) (low_63_42_04 i p t)
  simp only [decodeWord, Q.hi, Nat.zero_div, Nat.reduceDiv, decodeRow6, Q.lo, Nat.zero_mod, Nat.reduceMod, fixed, five_zero,
    five_none, Q.fd, Q.fa, Q.fb, Q.lowB 6 3 (by decide), low_63_42_04_x, Q.lowB 4 2 (by decide), low_63_42_04_y, Q.lowB 0 4 (by decide), low_63_42_04_z, beq_self_eq_true, Bool.and_self, if_true, reduceIte]

theorem fcmple (d : BitVec 5) (a : BitVec 5) (b : BitVec 5) (i : BitVec 3) (p : BitVec 2) (t : BitVec 4) : Statement (.fcmple d a b i p t) := by
  intro W H
  have Q := packed H (by decide) (low_63_42_04 i p t)
  simp only [decodeWord, Q.hi, Nat.zero_div, Nat.reduceDiv, decodeRow6, Q.lo, Nat.zero_mod, Nat.reduceMod, fixed, five_zero,
    five_none, Q.fd, Q.fa, Q.fb, Q.lowB 6 3 (by decide), low_63_42_04_x, Q.lowB 4 2 (by decide), low_63_42_04_y, Q.lowB 0 4 (by decide), low_63_42_04_z, beq_self_eq_true, Bool.and_self, if_true, reduceIte]

theorem fcmpun (d : BitVec 5) (a : BitVec 5) (b : BitVec 5) (i : BitVec 3) (p : BitVec 2) (t : BitVec 4) : Statement (.fcmpun d a b i p t) := by
  intro W H
  have Q := packed H (by decide) (low_63_42_04 i p t)
  simp only [decodeWord, Q.hi, Nat.zero_div, Nat.reduceDiv, decodeRow6, Q.lo, Nat.zero_mod, Nat.reduceMod, fixed, five_zero,
    five_none, Q.fd, Q.fa, Q.fb, Q.lowB 6 3 (by decide), low_63_42_04_x, Q.lowB 4 2 (by decide), low_63_42_04_y, Q.lowB 0 4 (by decide), low_63_42_04_z, beq_self_eq_true, Bool.and_self, if_true, reduceIte]

theorem fclass (d : BitVec 5) (a : BitVec 5) (i : BitVec 3) (p : BitVec 2) (t : BitVec 4) : Statement (.fclass d a i p t) := by
  intro W H
  have Q := packed H (by decide) (low_63_42_04 i p t)
  simp only [decodeWord, Q.hi, Nat.zero_div, Nat.reduceDiv, decodeRow6, Q.lo, Nat.zero_mod, Nat.reduceMod, fixed, five_zero,
    five_none, Q.nb, Q.fd, Q.fa, Q.lowB 6 3 (by decide), low_63_42_04_x, Q.lowB 4 2 (by decide), low_63_42_04_y, Q.lowB 0 4 (by decide), low_63_42_04_z, beq_self_eq_true, Bool.and_self, if_true, reduceIte]

theorem fdiv (d : BitVec 5) (a : BitVec 5) (b : BitVec 5) (i : BitVec 3) (p : BitVec 2) (t : BitVec 4) : Statement (.fdiv d a b i p t) := by
  intro W H
  have Q := packed H (by decide) (low_63_42_04 i p t)
  simp only [decodeWord, Q.hi, Nat.zero_div, Nat.reduceDiv, decodeRow6, Q.lo, Nat.zero_mod, Nat.reduceMod, fixed, five_zero,
    five_none, Q.fd, Q.fa, Q.fb, Q.lowB 6 3 (by decide), low_63_42_04_x, Q.lowB 4 2 (by decide), low_63_42_04_y, Q.lowB 0 4 (by decide), low_63_42_04_z, beq_self_eq_true, Bool.and_self, if_true, reduceIte]

theorem fsqrt (d : BitVec 5) (a : BitVec 5) (i : BitVec 3) (p : BitVec 2) (t : BitVec 4) : Statement (.fsqrt d a i p t) := by
  intro W H
  have Q := packed H (by decide) (low_63_42_04 i p t)
  simp only [decodeWord, Q.hi, Nat.zero_div, Nat.reduceDiv, decodeRow6, Q.lo, Nat.zero_mod, Nat.reduceMod, fixed, five_zero,
    five_none, Q.nb, Q.fd, Q.fa, Q.lowB 6 3 (by decide), low_63_42_04_x, Q.lowB 4 2 (by decide), low_63_42_04_y, Q.lowB 0 4 (by decide), low_63_42_04_z, beq_self_eq_true, Bool.and_self, if_true, reduceIte]

theorem frcpe (d : BitVec 5) (a : BitVec 5) (i : BitVec 3) (p : BitVec 2) (t : BitVec 4) : Statement (.frcpe d a i p t) := by
  intro W H
  have Q := packed H (by decide) (low_63_42_04 i p t)
  simp only [decodeWord, Q.hi, Nat.zero_div, Nat.reduceDiv, decodeRow7, Q.lo, Nat.zero_mod, Nat.reduceMod, fixed, five_zero,
    five_none, Q.nb, Q.fd, Q.fa, Q.lowB 6 3 (by decide), low_63_42_04_x, Q.lowB 4 2 (by decide), low_63_42_04_y, Q.lowB 0 4 (by decide), low_63_42_04_z, beq_self_eq_true, Bool.and_self, if_true, reduceIte]

theorem frsqe (d : BitVec 5) (a : BitVec 5) (i : BitVec 3) (p : BitVec 2) (t : BitVec 4) : Statement (.frsqe d a i p t) := by
  intro W H
  have Q := packed H (by decide) (low_63_42_04 i p t)
  simp only [decodeWord, Q.hi, Nat.zero_div, Nat.reduceDiv, decodeRow7, Q.lo, Nat.zero_mod, Nat.reduceMod, fixed, five_zero,
    five_none, Q.nb, Q.fd, Q.fa, Q.lowB 6 3 (by decide), low_63_42_04_x, Q.lowB 4 2 (by decide), low_63_42_04_y, Q.lowB 0 4 (by decide), low_63_42_04_z, beq_self_eq_true, Bool.and_self, if_true, reduceIte]

theorem fex2 (d : BitVec 5) (a : BitVec 5) (i : BitVec 3) (p : BitVec 2) (t : BitVec 4) : Statement (.fex2 d a i p t) := by
  intro W H
  have Q := packed H (by decide) (low_63_42_04 i p t)
  simp only [decodeWord, Q.hi, Nat.zero_div, Nat.reduceDiv, decodeRow7, Q.lo, Nat.zero_mod, Nat.reduceMod, fixed, five_zero,
    five_none, Q.nb, Q.fd, Q.fa, Q.lowB 6 3 (by decide), low_63_42_04_x, Q.lowB 4 2 (by decide), low_63_42_04_y, Q.lowB 0 4 (by decide), low_63_42_04_z, beq_self_eq_true, Bool.and_self, if_true, reduceIte]

theorem flg2 (d : BitVec 5) (a : BitVec 5) (i : BitVec 3) (p : BitVec 2) (t : BitVec 4) : Statement (.flg2 d a i p t) := by
  intro W H
  have Q := packed H (by decide) (low_63_42_04 i p t)
  simp only [decodeWord, Q.hi, Nat.zero_div, Nat.reduceDiv, decodeRow7, Q.lo, Nat.zero_mod, Nat.reduceMod, fixed, five_zero,
    five_none, Q.nb, Q.fd, Q.fa, Q.lowB 6 3 (by decide), low_63_42_04_x, Q.lowB 4 2 (by decide), low_63_42_04_y, Q.lowB 0 4 (by decide), low_63_42_04_z, beq_self_eq_true, Bool.and_self, if_true, reduceIte]

theorem frint (d : BitVec 5) (a : BitVec 5) (i : BitVec 3) (p : BitVec 2) (t : BitVec 4) : Statement (.frint d a i p t) := by
  intro W H
  have Q := packed H (by decide) (low_63_42_04 i p t)
  simp only [decodeWord, Q.hi, Nat.zero_div, Nat.reduceDiv, decodeRow7, Q.lo, Nat.zero_mod, Nat.reduceMod, fixed, five_zero,
    five_none, Q.nb, Q.fd, Q.fa, Q.lowB 6 3 (by decide), low_63_42_04_x, Q.lowB 4 2 (by decide), low_63_42_04_y, Q.lowB 0 4 (by decide), low_63_42_04_z, beq_self_eq_true, Bool.and_self, if_true, reduceIte]

theorem ffloor (d : BitVec 5) (a : BitVec 5) (i : BitVec 3) (p : BitVec 2) (t : BitVec 4) : Statement (.ffloor d a i p t) := by
  intro W H
  have Q := packed H (by decide) (low_63_42_04 i p t)
  simp only [decodeWord, Q.hi, Nat.zero_div, Nat.reduceDiv, decodeRow7, Q.lo, Nat.zero_mod, Nat.reduceMod, fixed, five_zero,
    five_none, Q.nb, Q.fd, Q.fa, Q.lowB 6 3 (by decide), low_63_42_04_x, Q.lowB 4 2 (by decide), low_63_42_04_y, Q.lowB 0 4 (by decide), low_63_42_04_z, beq_self_eq_true, Bool.and_self, if_true, reduceIte]

theorem fceil (d : BitVec 5) (a : BitVec 5) (i : BitVec 3) (p : BitVec 2) (t : BitVec 4) : Statement (.fceil d a i p t) := by
  intro W H
  have Q := packed H (by decide) (low_63_42_04 i p t)
  simp only [decodeWord, Q.hi, Nat.zero_div, Nat.reduceDiv, decodeRow7, Q.lo, Nat.zero_mod, Nat.reduceMod, fixed, five_zero,
    five_none, Q.nb, Q.fd, Q.fa, Q.lowB 6 3 (by decide), low_63_42_04_x, Q.lowB 4 2 (by decide), low_63_42_04_y, Q.lowB 0 4 (by decide), low_63_42_04_z, beq_self_eq_true, Bool.and_self, if_true, reduceIte]

theorem ftrnc (d : BitVec 5) (a : BitVec 5) (i : BitVec 3) (p : BitVec 2) (t : BitVec 4) : Statement (.ftrnc d a i p t) := by
  intro W H
  have Q := packed H (by decide) (low_63_42_04 i p t)
  simp only [decodeWord, Q.hi, Nat.zero_div, Nat.reduceDiv, decodeRow7, Q.lo, Nat.zero_mod, Nat.reduceMod, fixed, five_zero,
    five_none, Q.nb, Q.fd, Q.fa, Q.lowB 6 3 (by decide), low_63_42_04_x, Q.lowB 4 2 (by decide), low_63_42_04_y, Q.lowB 0 4 (by decide), low_63_42_04_z, beq_self_eq_true, Bool.and_self, if_true, reduceIte]

theorem badd2 (d : BitVec 5) (a : BitVec 5) (b : BitVec 5) (i : BitVec 3) (p : BitVec 2) (t : BitVec 4) : Statement (.badd2 d a b i p t) := by
  intro W H
  have Q := packed H (by decide) (low_63_42_04 i p t)
  simp only [decodeWord, Q.hi, Nat.zero_div, Nat.reduceDiv, decodeRow7, Q.lo, Nat.zero_mod, Nat.reduceMod, fixed, five_zero,
    five_none, Q.fd, Q.fa, Q.fb, Q.lowB 6 3 (by decide), low_63_42_04_x, Q.lowB 4 2 (by decide), low_63_42_04_y, Q.lowB 0 4 (by decide), low_63_42_04_z, beq_self_eq_true, Bool.and_self, if_true, reduceIte]

theorem bsub2 (d : BitVec 5) (a : BitVec 5) (b : BitVec 5) (i : BitVec 3) (p : BitVec 2) (t : BitVec 4) : Statement (.bsub2 d a b i p t) := by
  intro W H
  have Q := packed H (by decide) (low_63_42_04 i p t)
  simp only [decodeWord, Q.hi, Nat.zero_div, Nat.reduceDiv, decodeRow7, Q.lo, Nat.zero_mod, Nat.reduceMod, fixed, five_zero,
    five_none, Q.fd, Q.fa, Q.fb, Q.lowB 6 3 (by decide), low_63_42_04_x, Q.lowB 4 2 (by decide), low_63_42_04_y, Q.lowB 0 4 (by decide), low_63_42_04_z, beq_self_eq_true, Bool.and_self, if_true, reduceIte]

theorem bmul2 (d : BitVec 5) (a : BitVec 5) (b : BitVec 5) (i : BitVec 3) (p : BitVec 2) (t : BitVec 4) : Statement (.bmul2 d a b i p t) := by
  intro W H
  have Q := packed H (by decide) (low_63_42_04 i p t)
  simp only [decodeWord, Q.hi, Nat.zero_div, Nat.reduceDiv, decodeRow7, Q.lo, Nat.zero_mod, Nat.reduceMod, fixed, five_zero,
    five_none, Q.fd, Q.fa, Q.fb, Q.lowB 6 3 (by decide), low_63_42_04_x, Q.lowB 4 2 (by decide), low_63_42_04_y, Q.lowB 0 4 (by decide), low_63_42_04_z, beq_self_eq_true, Bool.and_self, if_true, reduceIte]

theorem bfma2 (d : BitVec 5) (a : BitVec 5) (b : BitVec 5) (i : BitVec 3) (p : BitVec 2) (t : BitVec 4) : Statement (.bfma2 d a b i p t) := by
  intro W H
  have Q := packed H (by decide) (low_63_42_04 i p t)
  simp only [decodeWord, Q.hi, Nat.zero_div, Nat.reduceDiv, decodeRow7, Q.lo, Nat.zero_mod, Nat.reduceMod, fixed, five_zero,
    five_none, Q.fd, Q.fa, Q.fb, Q.lowB 6 3 (by decide), low_63_42_04_x, Q.lowB 4 2 (by decide), low_63_42_04_y, Q.lowB 0 4 (by decide), low_63_42_04_z, beq_self_eq_true, Bool.and_self, if_true, reduceIte]

theorem bmax2 (d : BitVec 5) (a : BitVec 5) (b : BitVec 5) (i : BitVec 3) (p : BitVec 2) (t : BitVec 4) : Statement (.bmax2 d a b i p t) := by
  intro W H
  have Q := packed H (by decide) (low_63_42_04 i p t)
  simp only [decodeWord, Q.hi, Nat.zero_div, Nat.reduceDiv, decodeRow7, Q.lo, Nat.zero_mod, Nat.reduceMod, fixed, five_zero,
    five_none, Q.fd, Q.fa, Q.fb, Q.lowB 6 3 (by decide), low_63_42_04_x, Q.lowB 4 2 (by decide), low_63_42_04_y, Q.lowB 0 4 (by decide), low_63_42_04_z, beq_self_eq_true, Bool.and_self, if_true, reduceIte]

theorem bmin2 (d : BitVec 5) (a : BitVec 5) (b : BitVec 5) (i : BitVec 3) (p : BitVec 2) (t : BitVec 4) : Statement (.bmin2 d a b i p t) := by
  intro W H
  have Q := packed H (by decide) (low_63_42_04 i p t)
  simp only [decodeWord, Q.hi, Nat.zero_div, Nat.reduceDiv, decodeRow7, Q.lo, Nat.zero_mod, Nat.reduceMod, fixed, five_zero,
    five_none, Q.fd, Q.fa, Q.fb, Q.lowB 6 3 (by decide), low_63_42_04_x, Q.lowB 4 2 (by decide), low_63_42_04_y, Q.lowB 0 4 (by decide), low_63_42_04_z, beq_self_eq_true, Bool.and_self, if_true, reduceIte]

theorem hadd2 (d : BitVec 5) (a : BitVec 5) (b : BitVec 5) (i : BitVec 3) (p : BitVec 2) (t : BitVec 4) : Statement (.hadd2 d a b i p t) := by
  intro W H
  have Q := packed H (by decide) (low_63_42_04 i p t)
  simp only [decodeWord, Q.hi, Nat.zero_div, Nat.reduceDiv, decodeRow7, Q.lo, Nat.zero_mod, Nat.reduceMod, fixed, five_zero,
    five_none, Q.fd, Q.fa, Q.fb, Q.lowB 6 3 (by decide), low_63_42_04_x, Q.lowB 4 2 (by decide), low_63_42_04_y, Q.lowB 0 4 (by decide), low_63_42_04_z, beq_self_eq_true, Bool.and_self, if_true, reduceIte]

theorem hsub2 (d : BitVec 5) (a : BitVec 5) (b : BitVec 5) (i : BitVec 3) (p : BitVec 2) (t : BitVec 4) : Statement (.hsub2 d a b i p t) := by
  intro W H
  have Q := packed H (by decide) (low_63_42_04 i p t)
  simp only [decodeWord, Q.hi, Nat.zero_div, Nat.reduceDiv, decodeRow7, Q.lo, Nat.zero_mod, Nat.reduceMod, fixed, five_zero,
    five_none, Q.fd, Q.fa, Q.fb, Q.lowB 6 3 (by decide), low_63_42_04_x, Q.lowB 4 2 (by decide), low_63_42_04_y, Q.lowB 0 4 (by decide), low_63_42_04_z, beq_self_eq_true, Bool.and_self, if_true, reduceIte]

theorem hmul2 (d : BitVec 5) (a : BitVec 5) (b : BitVec 5) (i : BitVec 3) (p : BitVec 2) (t : BitVec 4) : Statement (.hmul2 d a b i p t) := by
  intro W H
  have Q := packed H (by decide) (low_63_42_04 i p t)
  simp only [decodeWord, Q.hi, Nat.zero_div, Nat.reduceDiv, decodeRow8, Q.lo, Nat.zero_mod, Nat.reduceMod, fixed, five_zero,
    five_none, Q.fd, Q.fa, Q.fb, Q.lowB 6 3 (by decide), low_63_42_04_x, Q.lowB 4 2 (by decide), low_63_42_04_y, Q.lowB 0 4 (by decide), low_63_42_04_z, beq_self_eq_true, Bool.and_self, if_true, reduceIte]

theorem hfma2 (d : BitVec 5) (a : BitVec 5) (b : BitVec 5) (i : BitVec 3) (p : BitVec 2) (t : BitVec 4) : Statement (.hfma2 d a b i p t) := by
  intro W H
  have Q := packed H (by decide) (low_63_42_04 i p t)
  simp only [decodeWord, Q.hi, Nat.zero_div, Nat.reduceDiv, decodeRow8, Q.lo, Nat.zero_mod, Nat.reduceMod, fixed, five_zero,
    five_none, Q.fd, Q.fa, Q.fb, Q.lowB 6 3 (by decide), low_63_42_04_x, Q.lowB 4 2 (by decide), low_63_42_04_y, Q.lowB 0 4 (by decide), low_63_42_04_z, beq_self_eq_true, Bool.and_self, if_true, reduceIte]

theorem hmax2 (d : BitVec 5) (a : BitVec 5) (b : BitVec 5) (i : BitVec 3) (p : BitVec 2) (t : BitVec 4) : Statement (.hmax2 d a b i p t) := by
  intro W H
  have Q := packed H (by decide) (low_63_42_04 i p t)
  simp only [decodeWord, Q.hi, Nat.zero_div, Nat.reduceDiv, decodeRow8, Q.lo, Nat.zero_mod, Nat.reduceMod, fixed, five_zero,
    five_none, Q.fd, Q.fa, Q.fb, Q.lowB 6 3 (by decide), low_63_42_04_x, Q.lowB 4 2 (by decide), low_63_42_04_y, Q.lowB 0 4 (by decide), low_63_42_04_z, beq_self_eq_true, Bool.and_self, if_true, reduceIte]

theorem hmin2 (d : BitVec 5) (a : BitVec 5) (b : BitVec 5) (i : BitVec 3) (p : BitVec 2) (t : BitVec 4) : Statement (.hmin2 d a b i p t) := by
  intro W H
  have Q := packed H (by decide) (low_63_42_04 i p t)
  simp only [decodeWord, Q.hi, Nat.zero_div, Nat.reduceDiv, decodeRow8, Q.lo, Nat.zero_mod, Nat.reduceMod, fixed, five_zero,
    five_none, Q.fd, Q.fa, Q.fb, Q.lowB 6 3 (by decide), low_63_42_04_x, Q.lowB 4 2 (by decide), low_63_42_04_y, Q.lowB 0 4 (by decide), low_63_42_04_z, beq_self_eq_true, Bool.and_self, if_true, reduceIte]

theorem cvtfi (d : BitVec 5) (a : BitVec 5) (i : BitVec 3) (p : BitVec 2) (t : BitVec 4) : Statement (.cvtfi d a i p t) := by
  intro W H
  have Q := packed H (by decide) (low_63_42_04 i p t)
  simp only [decodeWord, Q.hi, Nat.zero_div, Nat.reduceDiv, decodeRow8, Q.lo, Nat.zero_mod, Nat.reduceMod, fixed, five_zero,
    five_none, Q.nb, Q.fd, Q.fa, Q.lowB 6 3 (by decide), low_63_42_04_x, Q.lowB 4 2 (by decide), low_63_42_04_y, Q.lowB 0 4 (by decide), low_63_42_04_z, beq_self_eq_true, Bool.and_self, if_true, reduceIte]

theorem cvtif (d : BitVec 5) (a : BitVec 5) (i : BitVec 3) (p : BitVec 2) (t : BitVec 4) : Statement (.cvtif d a i p t) := by
  intro W H
  have Q := packed H (by decide) (low_63_42_04 i p t)
  simp only [decodeWord, Q.hi, Nat.zero_div, Nat.reduceDiv, decodeRow8, Q.lo, Nat.zero_mod, Nat.reduceMod, fixed, five_zero,
    five_none, Q.nb, Q.fd, Q.fa, Q.lowB 6 3 (by decide), low_63_42_04_x, Q.lowB 4 2 (by decide), low_63_42_04_y, Q.lowB 0 4 (by decide), low_63_42_04_z, beq_self_eq_true, Bool.and_self, if_true, reduceIte]

theorem cvtifz (d : BitVec 5) (a : BitVec 5) (i : BitVec 3) (p : BitVec 2) (t : BitVec 4) : Statement (.cvtifz d a i p t) := by
  intro W H
  have Q := packed H (by decide) (low_63_42_04 i p t)
  simp only [decodeWord, Q.hi, Nat.zero_div, Nat.reduceDiv, decodeRow8, Q.lo, Nat.zero_mod, Nat.reduceMod, fixed, five_zero,
    five_none, Q.nb, Q.fd, Q.fa, Q.lowB 6 3 (by decide), low_63_42_04_x, Q.lowB 4 2 (by decide), low_63_42_04_y, Q.lowB 0 4 (by decide), low_63_42_04_z, beq_self_eq_true, Bool.and_self, if_true, reduceIte]

theorem cvtbf (d : BitVec 5) (a : BitVec 5) (b : BitVec 5) (i : BitVec 3) (p : BitVec 2) (t : BitVec 4) : Statement (.cvtbf d a b i p t) := by
  intro W H
  have Q := packed H (by decide) (low_63_42_04 i p t)
  simp only [decodeWord, Q.hi, Nat.zero_div, Nat.reduceDiv, decodeRow8, Q.lo, Nat.zero_mod, Nat.reduceMod, fixed, five_zero,
    five_none, Q.fd, Q.fa, Q.fb, Q.lowB 6 3 (by decide), low_63_42_04_x, Q.lowB 4 2 (by decide), low_63_42_04_y, Q.lowB 0 4 (by decide), low_63_42_04_z, beq_self_eq_true, Bool.and_self, if_true, reduceIte]

theorem cvtbfz (d : BitVec 5) (a : BitVec 5) (b : BitVec 5) (i : BitVec 3) (p : BitVec 2) (t : BitVec 4) : Statement (.cvtbfz d a b i p t) := by
  intro W H
  have Q := packed H (by decide) (low_63_42_04 i p t)
  simp only [decodeWord, Q.hi, Nat.zero_div, Nat.reduceDiv, decodeRow8, Q.lo, Nat.zero_mod, Nat.reduceMod, fixed, five_zero,
    five_none, Q.fd, Q.fa, Q.fb, Q.lowB 6 3 (by decide), low_63_42_04_x, Q.lowB 4 2 (by decide), low_63_42_04_y, Q.lowB 0 4 (by decide), low_63_42_04_z, beq_self_eq_true, Bool.and_self, if_true, reduceIte]

theorem cvthf (d : BitVec 5) (a : BitVec 5) (b : BitVec 5) (i : BitVec 3) (p : BitVec 2) (t : BitVec 4) : Statement (.cvthf d a b i p t) := by
  intro W H
  have Q := packed H (by decide) (low_63_42_04 i p t)
  simp only [decodeWord, Q.hi, Nat.zero_div, Nat.reduceDiv, decodeRow8, Q.lo, Nat.zero_mod, Nat.reduceMod, fixed, five_zero,
    five_none, Q.fd, Q.fa, Q.fb, Q.lowB 6 3 (by decide), low_63_42_04_x, Q.lowB 4 2 (by decide), low_63_42_04_y, Q.lowB 0 4 (by decide), low_63_42_04_z, beq_self_eq_true, Bool.and_self, if_true, reduceIte]

theorem cvthfz (d : BitVec 5) (a : BitVec 5) (b : BitVec 5) (i : BitVec 3) (p : BitVec 2) (t : BitVec 4) : Statement (.cvthfz d a b i p t) := by
  intro W H
  have Q := packed H (by decide) (low_63_42_04 i p t)
  simp only [decodeWord, Q.hi, Nat.zero_div, Nat.reduceDiv, decodeRow8, Q.lo, Nat.zero_mod, Nat.reduceMod, fixed, five_zero,
    five_none, Q.fd, Q.fa, Q.fb, Q.lowB 6 3 (by decide), low_63_42_04_x, Q.lowB 4 2 (by decide), low_63_42_04_y, Q.lowB 0 4 (by decide), low_63_42_04_z, beq_self_eq_true, Bool.and_self, if_true, reduceIte]

theorem cvtfb (d : BitVec 5) (a : BitVec 5) (b : BitVec 5) (i : BitVec 3) (p : BitVec 2) (t : BitVec 4) : Statement (.cvtfb d a b i p t) := by
  intro W H
  have Q := packed H (by decide) (low_63_42_04 i p t)
  simp only [decodeWord, Q.hi, Nat.zero_div, Nat.reduceDiv, decodeRow8, Q.lo, Nat.zero_mod, Nat.reduceMod, fixed, five_zero,
    five_none, Q.fd, Q.fa, Q.fb, Q.lowB 6 3 (by decide), low_63_42_04_x, Q.lowB 4 2 (by decide), low_63_42_04_y, Q.lowB 0 4 (by decide), low_63_42_04_z, beq_self_eq_true, Bool.and_self, if_true, reduceIte]

theorem cvtfh (d : BitVec 5) (a : BitVec 5) (b : BitVec 5) (i : BitVec 3) (p : BitVec 2) (t : BitVec 4) : Statement (.cvtfh d a b i p t) := by
  intro W H
  have Q := packed H (by decide) (low_63_42_04 i p t)
  simp only [decodeWord, Q.hi, Nat.zero_div, Nat.reduceDiv, decodeRow8, Q.lo, Nat.zero_mod, Nat.reduceMod, fixed, five_zero,
    five_none, Q.fd, Q.fa, Q.fb, Q.lowB 6 3 (by decide), low_63_42_04_x, Q.lowB 4 2 (by decide), low_63_42_04_y, Q.lowB 0 4 (by decide), low_63_42_04_z, beq_self_eq_true, Bool.and_self, if_true, reduceIte]

theorem cvte4 (d : BitVec 5) (a : BitVec 5) (b : BitVec 5) (i : BitVec 3) (p : BitVec 2) (t : BitVec 4) : Statement (.cvte4 d a b i p t) := by
  intro W H
  have Q := packed H (by decide) (low_63_42_04 i p t)
  simp only [decodeWord, Q.hi, Nat.zero_div, Nat.reduceDiv, decodeRow8, Q.lo, Nat.zero_mod, Nat.reduceMod, fixed, five_zero,
    five_none, Q.fd, Q.fa, Q.fb, Q.lowB 6 3 (by decide), low_63_42_04_x, Q.lowB 4 2 (by decide), low_63_42_04_y, Q.lowB 0 4 (by decide), low_63_42_04_z, beq_self_eq_true, Bool.and_self, if_true, reduceIte]

theorem cvte4z (d : BitVec 5) (a : BitVec 5) (b : BitVec 5) (i : BitVec 3) (p : BitVec 2) (t : BitVec 4) : Statement (.cvte4z d a b i p t) := by
  intro W H
  have Q := packed H (by decide) (low_63_42_04 i p t)
  simp only [decodeWord, Q.hi, Nat.zero_div, Nat.reduceDiv, decodeRow8, Q.lo, Nat.zero_mod, Nat.reduceMod, fixed, five_zero,
    five_none, Q.fd, Q.fa, Q.fb, Q.lowB 6 3 (by decide), low_63_42_04_x, Q.lowB 4 2 (by decide), low_63_42_04_y, Q.lowB 0 4 (by decide), low_63_42_04_z, beq_self_eq_true, Bool.and_self, if_true, reduceIte]

theorem cvte5 (d : BitVec 5) (a : BitVec 5) (b : BitVec 5) (i : BitVec 3) (p : BitVec 2) (t : BitVec 4) : Statement (.cvte5 d a b i p t) := by
  intro W H
  have Q := packed H (by decide) (low_63_42_04 i p t)
  simp only [decodeWord, Q.hi, Nat.zero_div, Nat.reduceDiv, decodeRow8, Q.lo, Nat.zero_mod, Nat.reduceMod, fixed, five_zero,
    five_none, Q.fd, Q.fa, Q.fb, Q.lowB 6 3 (by decide), low_63_42_04_x, Q.lowB 4 2 (by decide), low_63_42_04_y, Q.lowB 0 4 (by decide), low_63_42_04_z, beq_self_eq_true, Bool.and_self, if_true, reduceIte]

theorem cvte5z (d : BitVec 5) (a : BitVec 5) (b : BitVec 5) (i : BitVec 3) (p : BitVec 2) (t : BitVec 4) : Statement (.cvte5z d a b i p t) := by
  intro W H
  have Q := packed H (by decide) (low_63_42_04 i p t)
  simp only [decodeWord, Q.hi, Nat.zero_div, Nat.reduceDiv, decodeRow9, Q.lo, Nat.zero_mod, Nat.reduceMod, fixed, five_zero,
    five_none, Q.fd, Q.fa, Q.fb, Q.lowB 6 3 (by decide), low_63_42_04_x, Q.lowB 4 2 (by decide), low_63_42_04_y, Q.lowB 0 4 (by decide), low_63_42_04_z, beq_self_eq_true, Bool.and_self, if_true, reduceIte]

theorem cvtfe4 (d : BitVec 5) (a : BitVec 5) (b : BitVec 5) (i : BitVec 3) (p : BitVec 2) (t : BitVec 4) : Statement (.cvtfe4 d a b i p t) := by
  intro W H
  have Q := packed H (by decide) (low_63_42_04 i p t)
  simp only [decodeWord, Q.hi, Nat.zero_div, Nat.reduceDiv, decodeRow9, Q.lo, Nat.zero_mod, Nat.reduceMod, fixed, five_zero,
    five_none, Q.fd, Q.fa, Q.fb, Q.lowB 6 3 (by decide), low_63_42_04_x, Q.lowB 4 2 (by decide), low_63_42_04_y, Q.lowB 0 4 (by decide), low_63_42_04_z, beq_self_eq_true, Bool.and_self, if_true, reduceIte]

theorem cvtfe5 (d : BitVec 5) (a : BitVec 5) (b : BitVec 5) (i : BitVec 3) (p : BitVec 2) (t : BitVec 4) : Statement (.cvtfe5 d a b i p t) := by
  intro W H
  have Q := packed H (by decide) (low_63_42_04 i p t)
  simp only [decodeWord, Q.hi, Nat.zero_div, Nat.reduceDiv, decodeRow9, Q.lo, Nat.zero_mod, Nat.reduceMod, fixed, five_zero,
    five_none, Q.fd, Q.fa, Q.fb, Q.lowB 6 3 (by decide), low_63_42_04_x, Q.lowB 4 2 (by decide), low_63_42_04_y, Q.lowB 0 4 (by decide), low_63_42_04_z, beq_self_eq_true, Bool.and_self, if_true, reduceIte]

theorem cvtq4 (d : BitVec 5) (a : BitVec 5) (b : BitVec 5) (i : BitVec 3) (p : BitVec 2) (t : BitVec 4) : Statement (.cvtq4 d a b i p t) := by
  intro W H
  have Q := packed H (by decide) (low_63_42_04 i p t)
  simp only [decodeWord, Q.hi, Nat.zero_div, Nat.reduceDiv, decodeRow9, Q.lo, Nat.zero_mod, Nat.reduceMod, fixed, five_zero,
    five_none, Q.fd, Q.fa, Q.fb, Q.lowB 6 3 (by decide), low_63_42_04_x, Q.lowB 4 2 (by decide), low_63_42_04_y, Q.lowB 0 4 (by decide), low_63_42_04_z, beq_self_eq_true, Bool.and_self, if_true, reduceIte]

theorem cvtq4z (d : BitVec 5) (a : BitVec 5) (b : BitVec 5) (i : BitVec 3) (p : BitVec 2) (t : BitVec 4) : Statement (.cvtq4z d a b i p t) := by
  intro W H
  have Q := packed H (by decide) (low_63_42_04 i p t)
  simp only [decodeWord, Q.hi, Nat.zero_div, Nat.reduceDiv, decodeRow9, Q.lo, Nat.zero_mod, Nat.reduceMod, fixed, five_zero,
    five_none, Q.fd, Q.fa, Q.fb, Q.lowB 6 3 (by decide), low_63_42_04_x, Q.lowB 4 2 (by decide), low_63_42_04_y, Q.lowB 0 4 (by decide), low_63_42_04_z, beq_self_eq_true, Bool.and_self, if_true, reduceIte]

theorem cvtfq4 (d : BitVec 5) (a : BitVec 5) (b : BitVec 5) (i : BitVec 3) (p : BitVec 2) (t : BitVec 4) : Statement (.cvtfq4 d a b i p t) := by
  intro W H
  have Q := packed H (by decide) (low_63_42_04 i p t)
  simp only [decodeWord, Q.hi, Nat.zero_div, Nat.reduceDiv, decodeRow9, Q.lo, Nat.zero_mod, Nat.reduceMod, fixed, five_zero,
    five_none, Q.fd, Q.fa, Q.fb, Q.lowB 6 3 (by decide), low_63_42_04_x, Q.lowB 4 2 (by decide), low_63_42_04_y, Q.lowB 0 4 (by decide), low_63_42_04_z, beq_self_eq_true, Bool.and_self, if_true, reduceIte]

theorem qsc (d : BitVec 5) (a : BitVec 5) (i : BitVec 3) (p : BitVec 2) (t : BitVec 4) : Statement (.qsc d a i p t) := by
  intro W H
  have Q := packed H (by decide) (low_63_42_04 i p t)
  simp only [decodeWord, Q.hi, Nat.zero_div, Nat.reduceDiv, decodeRow9, Q.lo, Nat.zero_mod, Nat.reduceMod, fixed, five_zero,
    five_none, Q.nb, Q.fd, Q.fa, Q.lowB 6 3 (by decide), low_63_42_04_x, Q.lowB 4 2 (by decide), low_63_42_04_y, Q.lowB 0 4 (by decide), low_63_42_04_z, beq_self_eq_true, Bool.and_self, if_true, reduceIte]

theorem ld8 (d : BitVec 5) (a : BitVec 5) (w : BitVec 3) (s : BitVec 2) : Statement (.ld8 d a w s) := by
  intro W H
  have Q := packed H (by decide) (low_63_42 w s)
  have C0 : fldN W 0 4 = 0 := by
    rw [Q.lowN 0 4 (by decide)]
    have := s.isLt
    have := w.isLt
    simp only [low2]; omega
  simp only [decodeWord, Q.hi, Nat.zero_div, Nat.reduceDiv, decodeRowA, Q.lo, Nat.zero_mod, Nat.reduceMod, fixed, five_zero,
    five_none, C0, Q.nb, Q.fd, Q.fa, Q.lowB 6 3 (by decide), low_63_42_x, Q.lowB 4 2 (by decide), low_63_42_y, beq_self_eq_true, Bool.and_self, if_true, reduceIte]

theorem ld8s (d : BitVec 5) (a : BitVec 5) (w : BitVec 3) (s : BitVec 2) : Statement (.ld8s d a w s) := by
  intro W H
  have Q := packed H (by decide) (low_63_42 w s)
  have C0 : fldN W 0 4 = 0 := by
    rw [Q.lowN 0 4 (by decide)]
    have := s.isLt
    have := w.isLt
    simp only [low2]; omega
  simp only [decodeWord, Q.hi, Nat.zero_div, Nat.reduceDiv, decodeRowA, Q.lo, Nat.zero_mod, Nat.reduceMod, fixed, five_zero,
    five_none, C0, Q.nb, Q.fd, Q.fa, Q.lowB 6 3 (by decide), low_63_42_x, Q.lowB 4 2 (by decide), low_63_42_y, beq_self_eq_true, Bool.and_self, if_true, reduceIte]

theorem ld16 (d : BitVec 5) (a : BitVec 5) (w : BitVec 3) (s : BitVec 2) : Statement (.ld16 d a w s) := by
  intro W H
  have Q := packed H (by decide) (low_63_42 w s)
  have C0 : fldN W 0 4 = 0 := by
    rw [Q.lowN 0 4 (by decide)]
    have := s.isLt
    have := w.isLt
    simp only [low2]; omega
  simp only [decodeWord, Q.hi, Nat.zero_div, Nat.reduceDiv, decodeRowA, Q.lo, Nat.zero_mod, Nat.reduceMod, fixed, five_zero,
    five_none, C0, Q.nb, Q.fd, Q.fa, Q.lowB 6 3 (by decide), low_63_42_x, Q.lowB 4 2 (by decide), low_63_42_y, beq_self_eq_true, Bool.and_self, if_true, reduceIte]

theorem ld16s (d : BitVec 5) (a : BitVec 5) (w : BitVec 3) (s : BitVec 2) : Statement (.ld16s d a w s) := by
  intro W H
  have Q := packed H (by decide) (low_63_42 w s)
  have C0 : fldN W 0 4 = 0 := by
    rw [Q.lowN 0 4 (by decide)]
    have := s.isLt
    have := w.isLt
    simp only [low2]; omega
  simp only [decodeWord, Q.hi, Nat.zero_div, Nat.reduceDiv, decodeRowA, Q.lo, Nat.zero_mod, Nat.reduceMod, fixed, five_zero,
    five_none, C0, Q.nb, Q.fd, Q.fa, Q.lowB 6 3 (by decide), low_63_42_x, Q.lowB 4 2 (by decide), low_63_42_y, beq_self_eq_true, Bool.and_self, if_true, reduceIte]

theorem ld32 (d : BitVec 5) (a : BitVec 5) (w : BitVec 3) (s : BitVec 2) : Statement (.ld32 d a w s) := by
  intro W H
  have Q := packed H (by decide) (low_63_42 w s)
  have C0 : fldN W 0 4 = 0 := by
    rw [Q.lowN 0 4 (by decide)]
    have := s.isLt
    have := w.isLt
    simp only [low2]; omega
  simp only [decodeWord, Q.hi, Nat.zero_div, Nat.reduceDiv, decodeRowA, Q.lo, Nat.zero_mod, Nat.reduceMod, fixed, five_zero,
    five_none, C0, Q.nb, Q.fd, Q.fa, Q.lowB 6 3 (by decide), low_63_42_x, Q.lowB 4 2 (by decide), low_63_42_y, beq_self_eq_true, Bool.and_self, if_true, reduceIte]

theorem st8 (d : BitVec 5) (a : BitVec 5) (b : BitVec 5) (w : BitVec 3) (s : BitVec 2) : Statement (.st8 d a b w s) := by
  intro W H
  have Q := packed H (by decide) (low_63_42 w s)
  have C0 : fldN W 0 4 = 0 := by
    rw [Q.lowN 0 4 (by decide)]
    have := s.isLt
    have := w.isLt
    simp only [low2]; omega
  simp only [decodeWord, Q.hi, Nat.zero_div, Nat.reduceDiv, decodeRowA, Q.lo, Nat.zero_mod, Nat.reduceMod, fixed, five_zero,
    five_none, C0, Q.fd, Q.fa, Q.fb, Q.lowB 6 3 (by decide), low_63_42_x, Q.lowB 4 2 (by decide), low_63_42_y, beq_self_eq_true, Bool.and_self, if_true, reduceIte]

theorem st16 (d : BitVec 5) (a : BitVec 5) (b : BitVec 5) (w : BitVec 3) (s : BitVec 2) : Statement (.st16 d a b w s) := by
  intro W H
  have Q := packed H (by decide) (low_63_42 w s)
  have C0 : fldN W 0 4 = 0 := by
    rw [Q.lowN 0 4 (by decide)]
    have := s.isLt
    have := w.isLt
    simp only [low2]; omega
  simp only [decodeWord, Q.hi, Nat.zero_div, Nat.reduceDiv, decodeRowA, Q.lo, Nat.zero_mod, Nat.reduceMod, fixed, five_zero,
    five_none, C0, Q.fd, Q.fa, Q.fb, Q.lowB 6 3 (by decide), low_63_42_x, Q.lowB 4 2 (by decide), low_63_42_y, beq_self_eq_true, Bool.and_self, if_true, reduceIte]

theorem st32 (d : BitVec 5) (a : BitVec 5) (b : BitVec 5) (w : BitVec 3) (s : BitVec 2) : Statement (.st32 d a b w s) := by
  intro W H
  have Q := packed H (by decide) (low_63_42 w s)
  have C0 : fldN W 0 4 = 0 := by
    rw [Q.lowN 0 4 (by decide)]
    have := s.isLt
    have := w.isLt
    simp only [low2]; omega
  simp only [decodeWord, Q.hi, Nat.zero_div, Nat.reduceDiv, decodeRowA, Q.lo, Nat.zero_mod, Nat.reduceMod, fixed, five_zero,
    five_none, C0, Q.fd, Q.fa, Q.fb, Q.lowB 6 3 (by decide), low_63_42_x, Q.lowB 4 2 (by decide), low_63_42_y, beq_self_eq_true, Bool.and_self, if_true, reduceIte]

theorem ldg (d : BitVec 5) (a : BitVec 5) (w : BitVec 3) (s : BitVec 2) (f : BitVec 4) : Statement (.ldg d a w s f) := by
  intro W H
  have Q := packed H (by decide) (low_63_42_04 w s f)
  simp only [decodeWord, Q.hi, Nat.zero_div, Nat.reduceDiv, decodeRowA, Q.lo, Nat.zero_mod, Nat.reduceMod, fixed, five_zero,
    five_none, Q.nb, Q.fd, Q.fa, Q.lowB 6 3 (by decide), low_63_42_04_x, Q.lowB 4 2 (by decide), low_63_42_04_y, Q.lowB 0 4 (by decide), low_63_42_04_z, beq_self_eq_true, Bool.and_self, if_true, reduceIte]

theorem stg (d : BitVec 5) (a : BitVec 5) (b : BitVec 5) (w : BitVec 3) (s : BitVec 2) (f : BitVec 4) : Statement (.stg d a b w s f) := by
  intro W H
  have Q := packed H (by decide) (low_63_42_04 w s f)
  simp only [decodeWord, Q.hi, Nat.zero_div, Nat.reduceDiv, decodeRowA, Q.lo, Nat.zero_mod, Nat.reduceMod, fixed, five_zero,
    five_none, Q.fd, Q.fa, Q.fb, Q.lowB 6 3 (by decide), low_63_42_04_x, Q.lowB 4 2 (by decide), low_63_42_04_y, Q.lowB 0 4 (by decide), low_63_42_04_z, beq_self_eq_true, Bool.and_self, if_true, reduceIte]

theorem fence (d : BitVec 5) (s : BitVec 2) : Statement (.fence d s) := by
  intro W H
  have Q := packed H (by decide) (low_42 s)
  have C0 : fldN W 0 4 = 0 := by
    rw [Q.lowN 0 4 (by decide)]
    have := s.isLt
    simp only [low1]; omega
  have C1 : fldN W 6 13 = 0 := by
    rw [fldN, Q.num]
    have := d.isLt
    have := s.isLt
    simp only [five_zero, five_none, low1]; omega
  simp only [decodeWord, Q.hi, Nat.zero_div, Nat.reduceDiv, decodeRowA, Q.lo, Nat.zero_mod, Nat.reduceMod, fixed, five_zero,
    five_none, C0, C1, Q.fd, Q.lowB 4 2 (by decide), low_42_x, beq_self_eq_true, Bool.and_self, if_true, reduceIte]

theorem aadd (d : BitVec 5) (a : BitVec 5) (b : BitVec 5) (w : BitVec 3) (s : BitVec 2) : Statement (.aadd d a b w s) := by
  intro W H
  have Q := packed H (by decide) (low_63_42 w s)
  have C0 : fldN W 0 4 = 0 := by
    rw [Q.lowN 0 4 (by decide)]
    have := s.isLt
    have := w.isLt
    simp only [low2]; omega
  simp only [decodeWord, Q.hi, Nat.zero_div, Nat.reduceDiv, decodeRowA, Q.lo, Nat.zero_mod, Nat.reduceMod, fixed, five_zero,
    five_none, C0, Q.fd, Q.fa, Q.fb, Q.lowB 6 3 (by decide), low_63_42_x, Q.lowB 4 2 (by decide), low_63_42_y, beq_self_eq_true, Bool.and_self, if_true, reduceIte]

theorem asub (d : BitVec 5) (a : BitVec 5) (b : BitVec 5) (w : BitVec 3) (s : BitVec 2) : Statement (.asub d a b w s) := by
  intro W H
  have Q := packed H (by decide) (low_63_42 w s)
  have C0 : fldN W 0 4 = 0 := by
    rw [Q.lowN 0 4 (by decide)]
    have := s.isLt
    have := w.isLt
    simp only [low2]; omega
  simp only [decodeWord, Q.hi, Nat.zero_div, Nat.reduceDiv, decodeRowA, Q.lo, Nat.zero_mod, Nat.reduceMod, fixed, five_zero,
    five_none, C0, Q.fd, Q.fa, Q.fb, Q.lowB 6 3 (by decide), low_63_42_x, Q.lowB 4 2 (by decide), low_63_42_y, beq_self_eq_true, Bool.and_self, if_true, reduceIte]

theorem amin (d : BitVec 5) (a : BitVec 5) (b : BitVec 5) (w : BitVec 3) (s : BitVec 2) : Statement (.amin d a b w s) := by
  intro W H
  have Q := packed H (by decide) (low_63_42 w s)
  have C0 : fldN W 0 4 = 0 := by
    rw [Q.lowN 0 4 (by decide)]
    have := s.isLt
    have := w.isLt
    simp only [low2]; omega
  simp only [decodeWord, Q.hi, Nat.zero_div, Nat.reduceDiv, decodeRowA, Q.lo, Nat.zero_mod, Nat.reduceMod, fixed, five_zero,
    five_none, C0, Q.fd, Q.fa, Q.fb, Q.lowB 6 3 (by decide), low_63_42_x, Q.lowB 4 2 (by decide), low_63_42_y, beq_self_eq_true, Bool.and_self, if_true, reduceIte]

theorem amax (d : BitVec 5) (a : BitVec 5) (b : BitVec 5) (w : BitVec 3) (s : BitVec 2) : Statement (.amax d a b w s) := by
  intro W H
  have Q := packed H (by decide) (low_63_42 w s)
  have C0 : fldN W 0 4 = 0 := by
    rw [Q.lowN 0 4 (by decide)]
    have := s.isLt
    have := w.isLt
    simp only [low2]; omega
  simp only [decodeWord, Q.hi, Nat.zero_div, Nat.reduceDiv, decodeRowA, Q.lo, Nat.zero_mod, Nat.reduceMod, fixed, five_zero,
    five_none, C0, Q.fd, Q.fa, Q.fb, Q.lowB 6 3 (by decide), low_63_42_x, Q.lowB 4 2 (by decide), low_63_42_y, beq_self_eq_true, Bool.and_self, if_true, reduceIte]

theorem aminn (d : BitVec 5) (a : BitVec 5) (b : BitVec 5) (w : BitVec 3) (s : BitVec 2) : Statement (.aminn d a b w s) := by
  intro W H
  have Q := packed H (by decide) (low_63_42 w s)
  have C0 : fldN W 0 4 = 0 := by
    rw [Q.lowN 0 4 (by decide)]
    have := s.isLt
    have := w.isLt
    simp only [low2]; omega
  simp only [decodeWord, Q.hi, Nat.zero_div, Nat.reduceDiv, decodeRowA, Q.lo, Nat.zero_mod, Nat.reduceMod, fixed, five_zero,
    five_none, C0, Q.fd, Q.fa, Q.fb, Q.lowB 6 3 (by decide), low_63_42_x, Q.lowB 4 2 (by decide), low_63_42_y, beq_self_eq_true, Bool.and_self, if_true, reduceIte]

theorem amaxn (d : BitVec 5) (a : BitVec 5) (b : BitVec 5) (w : BitVec 3) (s : BitVec 2) : Statement (.amaxn d a b w s) := by
  intro W H
  have Q := packed H (by decide) (low_63_42 w s)
  have C0 : fldN W 0 4 = 0 := by
    rw [Q.lowN 0 4 (by decide)]
    have := s.isLt
    have := w.isLt
    simp only [low2]; omega
  simp only [decodeWord, Q.hi, Nat.zero_div, Nat.reduceDiv, decodeRowB, Q.lo, Nat.zero_mod, Nat.reduceMod, fixed, five_zero,
    five_none, C0, Q.fd, Q.fa, Q.fb, Q.lowB 6 3 (by decide), low_63_42_x, Q.lowB 4 2 (by decide), low_63_42_y, beq_self_eq_true, Bool.and_self, if_true, reduceIte]

theorem aand (d : BitVec 5) (a : BitVec 5) (b : BitVec 5) (w : BitVec 3) (s : BitVec 2) : Statement (.aand d a b w s) := by
  intro W H
  have Q := packed H (by decide) (low_63_42 w s)
  have C0 : fldN W 0 4 = 0 := by
    rw [Q.lowN 0 4 (by decide)]
    have := s.isLt
    have := w.isLt
    simp only [low2]; omega
  simp only [decodeWord, Q.hi, Nat.zero_div, Nat.reduceDiv, decodeRowB, Q.lo, Nat.zero_mod, Nat.reduceMod, fixed, five_zero,
    five_none, C0, Q.fd, Q.fa, Q.fb, Q.lowB 6 3 (by decide), low_63_42_x, Q.lowB 4 2 (by decide), low_63_42_y, beq_self_eq_true, Bool.and_self, if_true, reduceIte]

theorem aor (d : BitVec 5) (a : BitVec 5) (b : BitVec 5) (w : BitVec 3) (s : BitVec 2) : Statement (.aor d a b w s) := by
  intro W H
  have Q := packed H (by decide) (low_63_42 w s)
  have C0 : fldN W 0 4 = 0 := by
    rw [Q.lowN 0 4 (by decide)]
    have := s.isLt
    have := w.isLt
    simp only [low2]; omega
  simp only [decodeWord, Q.hi, Nat.zero_div, Nat.reduceDiv, decodeRowB, Q.lo, Nat.zero_mod, Nat.reduceMod, fixed, five_zero,
    five_none, C0, Q.fd, Q.fa, Q.fb, Q.lowB 6 3 (by decide), low_63_42_x, Q.lowB 4 2 (by decide), low_63_42_y, beq_self_eq_true, Bool.and_self, if_true, reduceIte]

theorem axor (d : BitVec 5) (a : BitVec 5) (b : BitVec 5) (w : BitVec 3) (s : BitVec 2) : Statement (.axor d a b w s) := by
  intro W H
  have Q := packed H (by decide) (low_63_42 w s)
  have C0 : fldN W 0 4 = 0 := by
    rw [Q.lowN 0 4 (by decide)]
    have := s.isLt
    have := w.isLt
    simp only [low2]; omega
  simp only [decodeWord, Q.hi, Nat.zero_div, Nat.reduceDiv, decodeRowB, Q.lo, Nat.zero_mod, Nat.reduceMod, fixed, five_zero,
    five_none, C0, Q.fd, Q.fa, Q.fb, Q.lowB 6 3 (by decide), low_63_42_x, Q.lowB 4 2 (by decide), low_63_42_y, beq_self_eq_true, Bool.and_self, if_true, reduceIte]

theorem axchg (d : BitVec 5) (a : BitVec 5) (b : BitVec 5) (w : BitVec 3) (s : BitVec 2) : Statement (.axchg d a b w s) := by
  intro W H
  have Q := packed H (by decide) (low_63_42 w s)
  have C0 : fldN W 0 4 = 0 := by
    rw [Q.lowN 0 4 (by decide)]
    have := s.isLt
    have := w.isLt
    simp only [low2]; omega
  simp only [decodeWord, Q.hi, Nat.zero_div, Nat.reduceDiv, decodeRowB, Q.lo, Nat.zero_mod, Nat.reduceMod, fixed, five_zero,
    five_none, C0, Q.fd, Q.fa, Q.fb, Q.lowB 6 3 (by decide), low_63_42_x, Q.lowB 4 2 (by decide), low_63_42_y, beq_self_eq_true, Bool.and_self, if_true, reduceIte]

theorem acas (d : BitVec 5) (a : BitVec 5) (b : BitVec 5) (w : BitVec 3) (s : BitVec 2) (k : BitVec 3) : Statement (.acas d a b w s k) := by
  intro W H
  have Q := packed H (by decide) (low_63_42_03 w s k)
  have C0 : fldN W 3 1 = 0 := by
    rw [Q.lowN 3 1 (by decide)]
    have := k.isLt
    have := s.isLt
    have := w.isLt
    simp only [low3]; omega
  simp only [decodeWord, Q.hi, Nat.zero_div, Nat.reduceDiv, decodeRowB, Q.lo, Nat.zero_mod, Nat.reduceMod, fixed, five_zero,
    five_none, C0, Q.fd, Q.fa, Q.fb, Q.lowB 6 3 (by decide), low_63_42_03_x, Q.lowB 4 2 (by decide), low_63_42_03_y, Q.lowB 0 3 (by decide), low_63_42_03_z, beq_self_eq_true, Bool.and_self, if_true, reduceIte]

theorem afadd (d : BitVec 5) (a : BitVec 5) (b : BitVec 5) (w : BitVec 3) (s : BitVec 2) : Statement (.afadd d a b w s) := by
  intro W H
  have Q := packed H (by decide) (low_63_42 w s)
  have C0 : fldN W 0 4 = 0 := by
    rw [Q.lowN 0 4 (by decide)]
    have := s.isLt
    have := w.isLt
    simp only [low2]; omega
  simp only [decodeWord, Q.hi, Nat.zero_div, Nat.reduceDiv, decodeRowB, Q.lo, Nat.zero_mod, Nat.reduceMod, fixed, five_zero,
    five_none, C0, Q.fd, Q.fa, Q.fb, Q.lowB 6 3 (by decide), low_63_42_x, Q.lowB 4 2 (by decide), low_63_42_y, beq_self_eq_true, Bool.and_self, if_true, reduceIte]

theorem abadd2 (d : BitVec 5) (a : BitVec 5) (b : BitVec 5) (w : BitVec 3) (s : BitVec 2) : Statement (.abadd2 d a b w s) := by
  intro W H
  have Q := packed H (by decide) (low_63_42 w s)
  have C0 : fldN W 0 4 = 0 := by
    rw [Q.lowN 0 4 (by decide)]
    have := s.isLt
    have := w.isLt
    simp only [low2]; omega
  simp only [decodeWord, Q.hi, Nat.zero_div, Nat.reduceDiv, decodeRowB, Q.lo, Nat.zero_mod, Nat.reduceMod, fixed, five_zero,
    five_none, C0, Q.fd, Q.fa, Q.fb, Q.lowB 6 3 (by decide), low_63_42_x, Q.lowB 4 2 (by decide), low_63_42_y, beq_self_eq_true, Bool.and_self, if_true, reduceIte]

theorem atake (d : BitVec 5) (a : BitVec 5) (b : BitVec 5) (w : BitVec 3) (s : BitVec 2) : Statement (.atake d a b w s) := by
  intro W H
  have Q := packed H (by decide) (low_63_42 w s)
  have C0 : fldN W 0 4 = 0 := by
    rw [Q.lowN 0 4 (by decide)]
    have := s.isLt
    have := w.isLt
    simp only [low2]; omega
  simp only [decodeWord, Q.hi, Nat.zero_div, Nat.reduceDiv, decodeRowB, Q.lo, Nat.zero_mod, Nat.reduceMod, fixed, five_zero,
    five_none, C0, Q.fd, Q.fa, Q.fb, Q.lowB 6 3 (by decide), low_63_42_x, Q.lowB 4 2 (by decide), low_63_42_y, beq_self_eq_true, Bool.and_self, if_true, reduceIte]

theorem agive (d : BitVec 5) (a : BitVec 5) (b : BitVec 5) (w : BitVec 3) (s : BitVec 2) : Statement (.agive d a b w s) := by
  intro W H
  have Q := packed H (by decide) (low_63_42 w s)
  have C0 : fldN W 0 4 = 0 := by
    rw [Q.lowN 0 4 (by decide)]
    have := s.isLt
    have := w.isLt
    simp only [low2]; omega
  simp only [decodeWord, Q.hi, Nat.zero_div, Nat.reduceDiv, decodeRowB, Q.lo, Nat.zero_mod, Nat.reduceMod, fixed, five_zero,
    five_none, C0, Q.fd, Q.fa, Q.fb, Q.lowB 6 3 (by decide), low_63_42_x, Q.lowB 4 2 (by decide), low_63_42_y, beq_self_eq_true, Bool.and_self, if_true, reduceIte]

theorem radd (d : BitVec 5) (a : BitVec 5) (b : BitVec 5) (w : BitVec 3) (s : BitVec 2) : Statement (.radd d a b w s) := by
  intro W H
  have Q := packed H (by decide) (low_63_42 w s)
  have C0 : fldN W 0 4 = 0 := by
    rw [Q.lowN 0 4 (by decide)]
    have := s.isLt
    have := w.isLt
    simp only [low2]; omega
  simp only [decodeWord, Q.hi, Nat.zero_div, Nat.reduceDiv, decodeRowB, Q.lo, Nat.zero_mod, Nat.reduceMod, fixed, five_zero,
    five_none, C0, Q.fd, Q.fa, Q.fb, Q.lowB 6 3 (by decide), low_63_42_x, Q.lowB 4 2 (by decide), low_63_42_y, beq_self_eq_true, Bool.and_self, if_true, reduceIte]

theorem rmin (d : BitVec 5) (a : BitVec 5) (b : BitVec 5) (w : BitVec 3) (s : BitVec 2) : Statement (.rmin d a b w s) := by
  intro W H
  have Q := packed H (by decide) (low_63_42 w s)
  have C0 : fldN W 0 4 = 0 := by
    rw [Q.lowN 0 4 (by decide)]
    have := s.isLt
    have := w.isLt
    simp only [low2]; omega
  simp only [decodeWord, Q.hi, Nat.zero_div, Nat.reduceDiv, decodeRowB, Q.lo, Nat.zero_mod, Nat.reduceMod, fixed, five_zero,
    five_none, C0, Q.fd, Q.fa, Q.fb, Q.lowB 6 3 (by decide), low_63_42_x, Q.lowB 4 2 (by decide), low_63_42_y, beq_self_eq_true, Bool.and_self, if_true, reduceIte]

theorem rmax (d : BitVec 5) (a : BitVec 5) (b : BitVec 5) (w : BitVec 3) (s : BitVec 2) : Statement (.rmax d a b w s) := by
  intro W H
  have Q := packed H (by decide) (low_63_42 w s)
  have C0 : fldN W 0 4 = 0 := by
    rw [Q.lowN 0 4 (by decide)]
    have := s.isLt
    have := w.isLt
    simp only [low2]; omega
  simp only [decodeWord, Q.hi, Nat.zero_div, Nat.reduceDiv, decodeRowB, Q.lo, Nat.zero_mod, Nat.reduceMod, fixed, five_zero,
    five_none, C0, Q.fd, Q.fa, Q.fb, Q.lowB 6 3 (by decide), low_63_42_x, Q.lowB 4 2 (by decide), low_63_42_y, beq_self_eq_true, Bool.and_self, if_true, reduceIte]

theorem rminn (d : BitVec 5) (a : BitVec 5) (b : BitVec 5) (w : BitVec 3) (s : BitVec 2) : Statement (.rminn d a b w s) := by
  intro W H
  have Q := packed H (by decide) (low_63_42 w s)
  have C0 : fldN W 0 4 = 0 := by
    rw [Q.lowN 0 4 (by decide)]
    have := s.isLt
    have := w.isLt
    simp only [low2]; omega
  simp only [decodeWord, Q.hi, Nat.zero_div, Nat.reduceDiv, decodeRowB, Q.lo, Nat.zero_mod, Nat.reduceMod, fixed, five_zero,
    five_none, C0, Q.fd, Q.fa, Q.fb, Q.lowB 6 3 (by decide), low_63_42_x, Q.lowB 4 2 (by decide), low_63_42_y, beq_self_eq_true, Bool.and_self, if_true, reduceIte]

theorem rmaxn (d : BitVec 5) (a : BitVec 5) (b : BitVec 5) (w : BitVec 3) (s : BitVec 2) : Statement (.rmaxn d a b w s) := by
  intro W H
  have Q := packed H (by decide) (low_63_42 w s)
  have C0 : fldN W 0 4 = 0 := by
    rw [Q.lowN 0 4 (by decide)]
    have := s.isLt
    have := w.isLt
    simp only [low2]; omega
  simp only [decodeWord, Q.hi, Nat.zero_div, Nat.reduceDiv, decodeRowB, Q.lo, Nat.zero_mod, Nat.reduceMod, fixed, five_zero,
    five_none, C0, Q.fd, Q.fa, Q.fb, Q.lowB 6 3 (by decide), low_63_42_x, Q.lowB 4 2 (by decide), low_63_42_y, beq_self_eq_true, Bool.and_self, if_true, reduceIte]

theorem rand (d : BitVec 5) (a : BitVec 5) (b : BitVec 5) (w : BitVec 3) (s : BitVec 2) : Statement (.rand d a b w s) := by
  intro W H
  have Q := packed H (by decide) (low_63_42 w s)
  have C0 : fldN W 0 4 = 0 := by
    rw [Q.lowN 0 4 (by decide)]
    have := s.isLt
    have := w.isLt
    simp only [low2]; omega
  simp only [decodeWord, Q.hi, Nat.zero_div, Nat.reduceDiv, decodeRowB, Q.lo, Nat.zero_mod, Nat.reduceMod, fixed, five_zero,
    five_none, C0, Q.fd, Q.fa, Q.fb, Q.lowB 6 3 (by decide), low_63_42_x, Q.lowB 4 2 (by decide), low_63_42_y, beq_self_eq_true, Bool.and_self, if_true, reduceIte]

theorem ror (d : BitVec 5) (a : BitVec 5) (b : BitVec 5) (w : BitVec 3) (s : BitVec 2) : Statement (.ror d a b w s) := by
  intro W H
  have Q := packed H (by decide) (low_63_42 w s)
  have C0 : fldN W 0 4 = 0 := by
    rw [Q.lowN 0 4 (by decide)]
    have := s.isLt
    have := w.isLt
    simp only [low2]; omega
  simp only [decodeWord, Q.hi, Nat.zero_div, Nat.reduceDiv, decodeRowC, Q.lo, Nat.zero_mod, Nat.reduceMod, fixed, five_zero,
    five_none, C0, Q.fd, Q.fa, Q.fb, Q.lowB 6 3 (by decide), low_63_42_x, Q.lowB 4 2 (by decide), low_63_42_y, beq_self_eq_true, Bool.and_self, if_true, reduceIte]

theorem rxor (d : BitVec 5) (a : BitVec 5) (b : BitVec 5) (w : BitVec 3) (s : BitVec 2) : Statement (.rxor d a b w s) := by
  intro W H
  have Q := packed H (by decide) (low_63_42 w s)
  have C0 : fldN W 0 4 = 0 := by
    rw [Q.lowN 0 4 (by decide)]
    have := s.isLt
    have := w.isLt
    simp only [low2]; omega
  simp only [decodeWord, Q.hi, Nat.zero_div, Nat.reduceDiv, decodeRowC, Q.lo, Nat.zero_mod, Nat.reduceMod, fixed, five_zero,
    five_none, C0, Q.fd, Q.fa, Q.fb, Q.lowB 6 3 (by decide), low_63_42_x, Q.lowB 4 2 (by decide), low_63_42_y, beq_self_eq_true, Bool.and_self, if_true, reduceIte]

theorem rfadd (d : BitVec 5) (a : BitVec 5) (b : BitVec 5) (w : BitVec 3) (s : BitVec 2) : Statement (.rfadd d a b w s) := by
  intro W H
  have Q := packed H (by decide) (low_63_42 w s)
  have C0 : fldN W 0 4 = 0 := by
    rw [Q.lowN 0 4 (by decide)]
    have := s.isLt
    have := w.isLt
    simp only [low2]; omega
  simp only [decodeWord, Q.hi, Nat.zero_div, Nat.reduceDiv, decodeRowC, Q.lo, Nat.zero_mod, Nat.reduceMod, fixed, five_zero,
    five_none, C0, Q.fd, Q.fa, Q.fb, Q.lowB 6 3 (by decide), low_63_42_x, Q.lowB 4 2 (by decide), low_63_42_y, beq_self_eq_true, Bool.and_self, if_true, reduceIte]

theorem rbadd2 (d : BitVec 5) (a : BitVec 5) (b : BitVec 5) (w : BitVec 3) (s : BitVec 2) : Statement (.rbadd2 d a b w s) := by
  intro W H
  have Q := packed H (by decide) (low_63_42 w s)
  have C0 : fldN W 0 4 = 0 := by
    rw [Q.lowN 0 4 (by decide)]
    have := s.isLt
    have := w.isLt
    simp only [low2]; omega
  simp only [decodeWord, Q.hi, Nat.zero_div, Nat.reduceDiv, decodeRowC, Q.lo, Nat.zero_mod, Nat.reduceMod, fixed, five_zero,
    five_none, C0, Q.fd, Q.fa, Q.fb, Q.lowB 6 3 (by decide), low_63_42_x, Q.lowB 4 2 (by decide), low_63_42_y, beq_self_eq_true, Bool.and_self, if_true, reduceIte]

theorem copy (d : BitVec 5) (a : BitVec 5) (b : BitVec 5) (k : BitVec 6) : Statement (.copy d a b k) := by
  intro W H
  have Q := packed H (by decide) (low_36 k)
  have C0 : fldN W 0 3 = 0 := by
    rw [Q.lowN 0 3 (by decide)]
    have := k.isLt
    simp only [low1]; omega
  simp only [decodeWord, Q.hi, Nat.zero_div, Nat.reduceDiv, decodeRowC, Q.lo, Nat.zero_mod, Nat.reduceMod, fixed, five_zero,
    five_none, C0, Q.fd, Q.fa, Q.fb, Q.lowB 3 6 (by decide), low_36_x, beq_self_eq_true, Bool.and_self, if_true, reduceIte]

theorem carm (k : BitVec 6) (p : BitVec 3) : Statement (.carm k p) := by
  intro W H
  have Q := packed H (by decide) (low_36_03 k p)
  have C0 : fldN W 9 15 = 24576 := by
    rw [fldN, Q.num]
    have := k.isLt
    have := p.isLt
    simp only [five_zero, five_none, low2]; omega
  simp only [decodeWord, Q.hi, Nat.zero_div, Nat.reduceDiv, decodeRowC, Q.lo, Nat.zero_mod, Nat.reduceMod, fixed, five_zero,
    five_none, C0, Q.lowB 3 6 (by decide), low_36_03_x, Q.lowB 0 3 (by decide), low_36_03_y, beq_self_eq_true, Bool.and_self, if_true, reduceIte]

theorem cdis (p : BitVec 3) : Statement (.cdis p) := by
  intro W H
  have Q := packed H (by decide) (low_03 p)
  have C0 : fldN W 3 21 = 1572864 := by
    rw [fldN, Q.num]
    have := p.isLt
    simp only [five_zero, five_none, low1]; omega
  simp only [decodeWord, Q.hi, Nat.zero_div, Nat.reduceDiv, decodeRowC, Q.lo, Nat.zero_mod, Nat.reduceMod, fixed, five_zero,
    five_none, C0, Q.lowB 0 3 (by decide), low_03_x, beq_self_eq_true, Bool.and_self, if_true, reduceIte]

theorem cstat (d : BitVec 5) (k : BitVec 6) : Statement (.cstat d k) := by
  intro W H
  have Q := packed H (by decide) (low_36 k)
  have C0 : fldN W 0 3 = 0 := by
    rw [Q.lowN 0 3 (by decide)]
    have := k.isLt
    simp only [low1]; omega
  have C1 : fldN W 9 10 = 0 := by
    rw [fldN, Q.num]
    have := d.isLt
    have := k.isLt
    simp only [five_zero, five_none, low1]; omega
  simp only [decodeWord, Q.hi, Nat.zero_div, Nat.reduceDiv, decodeRowC, Q.lo, Nat.zero_mod, Nat.reduceMod, fixed, five_zero,
    five_none, C0, C1, Q.fd, Q.lowB 3 6 (by decide), low_36_x, beq_self_eq_true, Bool.and_self, if_true, reduceIte]

theorem tagany (d : BitVec 5) (a : BitVec 5) (b : BitVec 5) : Statement (.tagany d a b) := by
  intro W H
  have Q := packed H (by decide) (by decide)
  have C0 : fldN W 0 9 = 0 := (Q.lowN 0 9 (by decide)).trans (by decide)
  simp only [decodeWord, Q.hi, Nat.zero_div, Nat.reduceDiv, decodeRowC, Q.lo, Nat.zero_mod, Nat.reduceMod, fixed, five_zero,
    five_none, C0, Q.fd, Q.fa, Q.fb, beq_self_eq_true, Bool.and_self, if_true, reduceIte]

theorem tagall (d : BitVec 5) (a : BitVec 5) (b : BitVec 5) : Statement (.tagall d a b) := by
  intro W H
  have Q := packed H (by decide) (by decide)
  have C0 : fldN W 0 9 = 0 := (Q.lowN 0 9 (by decide)).trans (by decide)
  simp only [decodeWord, Q.hi, Nat.zero_div, Nat.reduceDiv, decodeRowC, Q.lo, Nat.zero_mod, Nat.reduceMod, fixed, five_zero,
    five_none, C0, Q.fd, Q.fa, Q.fb, beq_self_eq_true, Bool.and_self, if_true, reduceIte]

theorem tagff (d : BitVec 5) (a : BitVec 5) (b : BitVec 5) : Statement (.tagff d a b) := by
  intro W H
  have Q := packed H (by decide) (by decide)
  have C0 : fldN W 0 9 = 0 := (Q.lowN 0 9 (by decide)).trans (by decide)
  simp only [decodeWord, Q.hi, Nat.zero_div, Nat.reduceDiv, decodeRowC, Q.lo, Nat.zero_mod, Nat.reduceMod, fixed, five_zero,
    five_none, C0, Q.fd, Q.fa, Q.fb, beq_self_eq_true, Bool.and_self, if_true, reduceIte]

theorem tagclr (a : BitVec 5) (b : BitVec 5) : Statement (.tagclr a b) := by
  intro W H
  have Q := packed H (by decide) (by decide)
  have C0 : fldN W 0 9 = 0 := (Q.lowN 0 9 (by decide)).trans (by decide)
  simp only [decodeWord, Q.hi, Nat.zero_div, Nat.reduceDiv, decodeRowC, Q.lo, Nat.zero_mod, Nat.reduceMod, fixed, five_zero,
    five_none, C0, Q.nd, Q.fa, Q.fb, beq_self_eq_true, Bool.and_self, if_true, reduceIte]

theorem barinit (d : BitVec 5) (a : BitVec 5) (b : BitVec 5) (w : BitVec 3) (s : BitVec 2) : Statement (.barinit d a b w s) := by
  intro W H
  have Q := packed H (by decide) (low_63_42 w s)
  have C0 : fldN W 0 4 = 0 := by
    rw [Q.lowN 0 4 (by decide)]
    have := s.isLt
    have := w.isLt
    simp only [low2]; omega
  simp only [decodeWord, Q.hi, Nat.zero_div, Nat.reduceDiv, decodeRowD, Q.lo, Nat.zero_mod, Nat.reduceMod, fixed, five_zero,
    five_none, C0, Q.fd, Q.fa, Q.fb, Q.lowB 6 3 (by decide), low_63_42_x, Q.lowB 4 2 (by decide), low_63_42_y, beq_self_eq_true, Bool.and_self, if_true, reduceIte]

theorem bararr (d : BitVec 5) (a : BitVec 5) (w : BitVec 3) (s : BitVec 2) : Statement (.bararr d a w s) := by
  intro W H
  have Q := packed H (by decide) (low_63_42 w s)
  have C0 : fldN W 0 4 = 0 := by
    rw [Q.lowN 0 4 (by decide)]
    have := s.isLt
    have := w.isLt
    simp only [low2]; omega
  simp only [decodeWord, Q.hi, Nat.zero_div, Nat.reduceDiv, decodeRowD, Q.lo, Nat.zero_mod, Nat.reduceMod, fixed, five_zero,
    five_none, C0, Q.nb, Q.fd, Q.fa, Q.lowB 6 3 (by decide), low_63_42_x, Q.lowB 4 2 (by decide), low_63_42_y, beq_self_eq_true, Bool.and_self, if_true, reduceIte]

theorem barkill (d : BitVec 5) (a : BitVec 5) (w : BitVec 3) (s : BitVec 2) : Statement (.barkill d a w s) := by
  intro W H
  have Q := packed H (by decide) (low_63_42 w s)
  have C0 : fldN W 0 4 = 0 := by
    rw [Q.lowN 0 4 (by decide)]
    have := s.isLt
    have := w.isLt
    simp only [low2]; omega
  simp only [decodeWord, Q.hi, Nat.zero_div, Nat.reduceDiv, decodeRowD, Q.lo, Nat.zero_mod, Nat.reduceMod, fixed, five_zero,
    five_none, C0, Q.nb, Q.fd, Q.fa, Q.lowB 6 3 (by decide), low_63_42_x, Q.lowB 4 2 (by decide), low_63_42_y, beq_self_eq_true, Bool.and_self, if_true, reduceIte]

theorem barq (d : BitVec 5) (a : BitVec 5) (w : BitVec 3) (s : BitVec 2) : Statement (.barq d a w s) := by
  intro W H
  have Q := packed H (by decide) (low_63_42 w s)
  have C0 : fldN W 0 4 = 0 := by
    rw [Q.lowN 0 4 (by decide)]
    have := s.isLt
    have := w.isLt
    simp only [low2]; omega
  simp only [decodeWord, Q.hi, Nat.zero_div, Nat.reduceDiv, decodeRowD, Q.lo, Nat.zero_mod, Nat.reduceMod, fixed, five_zero,
    five_none, C0, Q.nb, Q.fd, Q.fa, Q.lowB 6 3 (by decide), low_63_42_x, Q.lowB 4 2 (by decide), low_63_42_y, beq_self_eq_true, Bool.and_self, if_true, reduceIte]

theorem walk (d : BitVec 5) (a : BitVec 5) (b : BitVec 5) (w : BitVec 3) : Statement (.walk d a b w) := by
  intro W H
  have Q := packed H (by decide) (low_63 w)
  have C0 : fldN W 0 6 = 0 := by
    rw [Q.lowN 0 6 (by decide)]
    have := w.isLt
    simp only [low1]; omega
  simp only [decodeWord, Q.hi, Nat.zero_div, Nat.reduceDiv, decodeRowD, Q.lo, Nat.zero_mod, Nat.reduceMod, fixed, five_zero,
    five_none, C0, Q.fd, Q.fa, Q.fb, Q.lowB 6 3 (by decide), low_63_x, beq_self_eq_true, Bool.and_self, if_true, reduceIte]

theorem sigsend (d : BitVec 5) (a : BitVec 5) (b : BitVec 5) (h : BitVec 4) : Statement (.sigsend d a b h) := by
  intro W H
  have Q := packed H (by decide) (low_54 h)
  have C0 : fldN W 0 5 = 0 := by
    rw [Q.lowN 0 5 (by decide)]
    have := h.isLt
    simp only [low1]; omega
  simp only [decodeWord, Q.hi, Nat.zero_div, Nat.reduceDiv, decodeRowD, Q.lo, Nat.zero_mod, Nat.reduceMod, fixed, five_zero,
    five_none, C0, Q.fd, Q.fa, Q.fb, Q.lowB 5 4 (by decide), low_54_x, beq_self_eq_true, Bool.and_self, if_true, reduceIte]

theorem event (d : BitVec 5) (a : BitVec 5) (b : BitVec 5) : Statement (.event d a b) := by
  intro W H
  have Q := packed H (by decide) (by decide)
  have C0 : fldN W 0 9 = 0 := (Q.lowN 0 9 (by decide)).trans (by decide)
  simp only [decodeWord, Q.hi, Nat.zero_div, Nat.reduceDiv, decodeRowD, Q.lo, Nat.zero_mod, Nat.reduceMod, fixed, five_zero,
    five_none, C0, Q.fd, Q.fa, Q.fb, beq_self_eq_true, Bool.and_self, if_true, reduceIte]

theorem segstep (d : BitVec 5) (a : BitVec 5) (k : BitVec 3) (t : BitVec 1) : Statement (.segstep d a k t) := by
  intro W H
  have Q := packed H (by decide) (low_63_01 k t)
  have C0 : fldN W 1 5 = 0 := by
    rw [Q.lowN 1 5 (by decide)]
    have := k.isLt
    have := t.isLt
    simp only [low2]; omega
  simp only [decodeWord, Q.hi, Nat.zero_div, Nat.reduceDiv, decodeRowD, Q.lo, Nat.zero_mod, Nat.reduceMod, fixed, five_zero,
    five_none, C0, Q.nb, Q.fd, Q.fa, Q.lowB 6 3 (by decide), low_63_01_x, Q.lowB 0 1 (by decide), low_63_01_y, beq_self_eq_true, Bool.and_self, if_true, reduceIte]

theorem segend (d : BitVec 5) (a : BitVec 5) (k : BitVec 3) (f : BitVec 2) (t : BitVec 1) : Statement (.segend d a k f t) := by
  intro W H
  have Q := packed H (by decide) (low_63_42_01 k f t)
  have C0 : fldN W 1 3 = 0 := by
    rw [Q.lowN 1 3 (by decide)]
    have := f.isLt
    have := k.isLt
    have := t.isLt
    simp only [low3]; omega
  simp only [decodeWord, Q.hi, Nat.zero_div, Nat.reduceDiv, decodeRowD, Q.lo, Nat.zero_mod, Nat.reduceMod, fixed, five_zero,
    five_none, C0, Q.nb, Q.fd, Q.fa, Q.lowB 6 3 (by decide), low_63_42_01_x, Q.lowB 4 2 (by decide), low_63_42_01_y, Q.lowB 0 1 (by decide), low_63_42_01_z, beq_self_eq_true, Bool.and_self, if_true, reduceIte]

theorem sumnew (a : BitVec 5) (k : BitVec 3) : Statement (.sumnew a k) := by
  intro W H
  have Q := packed H (by decide) (low_63 k)
  have C0 : fldN W 0 6 = 0 := by
    rw [Q.lowN 0 6 (by decide)]
    have := k.isLt
    simp only [low1]; omega
  simp only [decodeWord, Q.hi, Nat.zero_div, Nat.reduceDiv, decodeRowD, Q.lo, Nat.zero_mod, Nat.reduceMod, fixed, five_zero,
    five_none, C0, Q.nb, Q.nd, Q.fa, Q.lowB 6 3 (by decide), low_63_x, beq_self_eq_true, Bool.and_self, if_true, reduceIte]

theorem sumapp (a : BitVec 5) (b : BitVec 5) : Statement (.sumapp a b) := by
  intro W H
  have Q := packed H (by decide) (by decide)
  have C0 : fldN W 0 9 = 0 := (Q.lowN 0 9 (by decide)).trans (by decide)
  simp only [decodeWord, Q.hi, Nat.zero_div, Nat.reduceDiv, decodeRowD, Q.lo, Nat.zero_mod, Nat.reduceMod, fixed, five_zero,
    five_none, C0, Q.nd, Q.fa, Q.fb, beq_self_eq_true, Bool.and_self, if_true, reduceIte]

theorem sumbsc (a : BitVec 5) (b : BitVec 5) (n : BitVec 2) : Statement (.sumbsc a b n) := by
  intro W H
  have Q := packed H (by decide) (low_62 n)
  have C0 : fldN W 0 6 = 0 := by
    rw [Q.lowN 0 6 (by decide)]
    have := n.isLt
    simp only [low1]; omega
  have C1 : fldN W 8 1 = 0 := by
    rw [Q.lowN 8 1 (by decide)]
    have := n.isLt
    simp only [low1]; omega
  simp only [decodeWord, Q.hi, Nat.zero_div, Nat.reduceDiv, decodeRowD, Q.lo, Nat.zero_mod, Nat.reduceMod, fixed, five_zero,
    five_none, C0, C1, Q.nd, Q.fa, Q.fb, Q.lowB 6 2 (by decide), low_62_x, beq_self_eq_true, Bool.and_self, if_true, reduceIte]

theorem sumpatch (a : BitVec 5) (b : BitVec 5) : Statement (.sumpatch a b) := by
  intro W H
  have Q := packed H (by decide) (by decide)
  have C0 : fldN W 0 9 = 0 := (Q.lowN 0 9 (by decide)).trans (by decide)
  simp only [decodeWord, Q.hi, Nat.zero_div, Nat.reduceDiv, decodeRowD, Q.lo, Nat.zero_mod, Nat.reduceMod, fixed, five_zero,
    five_none, C0, Q.nd, Q.fa, Q.fb, beq_self_eq_true, Bool.and_self, if_true, reduceIte]

theorem sumrd (d : BitVec 5) (b : BitVec 5) (t : BitVec 4) : Statement (.sumrd d b t) := by
  intro W H
  have Q := packed H (by decide) (low_04 t)
  have C0 : fldN W 4 5 = 0 := by
    rw [Q.lowN 4 5 (by decide)]
    have := t.isLt
    simp only [low1]; omega
  have C1 : fldN W 14 5 = 0 := by
    rw [fldN, Q.num]
    have := b.isLt
    have := d.isLt
    have := t.isLt
    simp only [five_zero, five_none, low1]; omega
  simp only [decodeWord, Q.hi, Nat.zero_div, Nat.reduceDiv, decodeRowD, Q.lo, Nat.zero_mod, Nat.reduceMod, fixed, five_zero,
    five_none, C0, C1, Q.fd, Q.fb, Q.lowB 0 4 (by decide), low_04_x, beq_self_eq_true, Bool.and_self, if_true, reduceIte]

theorem sumseal : Statement (.sumseal) := by
  intro W H
  have Q := packed H (by decide) (by decide)
  have C0 : fldN W 0 24 = 12582912 := by
    rw [fldN, Q.num]; rfl
  simp only [decodeWord, Q.hi, Nat.zero_div, Nat.reduceDiv, decodeRowD, Q.lo, Nat.zero_mod, Nat.reduceMod, fixed, five_zero,
    five_none, C0, beq_self_eq_true, Bool.and_self, if_true, reduceIte]

theorem ptbl (a : BitVec 5) : Statement (.ptbl a) := by
  intro W H
  have Q := packed H (by decide) (by decide)
  have C0 : fldN W 0 14 = 0 := by
    rw [fldN, Q.num]
    have := a.isLt
    simp only [five_zero, five_none]; omega
  simp only [decodeWord, Q.hi, Nat.zero_div, Nat.reduceDiv, decodeRowE, Q.lo, Nat.zero_mod, Nat.reduceMod, fixed, five_zero,
    five_none, C0, Q.nd, Q.fa, beq_self_eq_true, Bool.and_self, if_true, reduceIte]

theorem pmask (a : BitVec 5) (b : BitVec 5) : Statement (.pmask a b) := by
  intro W H
  have Q := packed H (by decide) (by decide)
  have C0 : fldN W 0 9 = 0 := (Q.lowN 0 9 (by decide)).trans (by decide)
  simp only [decodeWord, Q.hi, Nat.zero_div, Nat.reduceDiv, decodeRowE, Q.lo, Nat.zero_mod, Nat.reduceMod, fixed, five_zero,
    five_none, C0, Q.nd, Q.fa, Q.fb, beq_self_eq_true, Bool.and_self, if_true, reduceIte]

theorem ppoint (a : BitVec 5) (r : BitVec 4) : Statement (.ppoint a r) := by
  intro W H
  have Q := packed H (by decide) (low_54 r)
  have C0 : fldN W 0 5 = 0 := by
    rw [Q.lowN 0 5 (by decide)]
    have := r.isLt
    simp only [low1]; omega
  simp only [decodeWord, Q.hi, Nat.zero_div, Nat.reduceDiv, decodeRowE, Q.lo, Nat.zero_mod, Nat.reduceMod, fixed, five_zero,
    five_none, C0, Q.nb, Q.nd, Q.fa, Q.lowB 5 4 (by decide), low_54_x, beq_self_eq_true, Bool.and_self, if_true, reduceIte]

theorem pclr (r : BitVec 4) (l : BitVec 1) : Statement (.pclr r l) := by
  intro W H
  have Q := packed H (by decide) (low_54_41 r l)
  have C0 : fldN W 0 4 = 0 := by
    rw [Q.lowN 0 4 (by decide)]
    have := l.isLt
    have := r.isLt
    simp only [low2]; omega
  have C1 : fldN W 9 15 = 24576 := by
    rw [fldN, Q.num]
    have := l.isLt
    have := r.isLt
    simp only [five_zero, five_none, low2]; omega
  simp only [decodeWord, Q.hi, Nat.zero_div, Nat.reduceDiv, decodeRowE, Q.lo, Nat.zero_mod, Nat.reduceMod, fixed, five_zero,
    five_none, C0, C1, Q.lowB 5 4 (by decide), low_54_41_x, Q.lowB 4 1 (by decide), low_54_41_y, beq_self_eq_true, Bool.and_self, if_true, reduceIte]

theorem pseg (a : BitVec 5) (r : BitVec 4) : Statement (.pseg a r) := by
  intro W H
  have Q := packed H (by decide) (low_54 r)
  have C0 : fldN W 0 5 = 0 := by
    rw [Q.lowN 0 5 (by decide)]
    have := r.isLt
    simp only [low1]; omega
  simp only [decodeWord, Q.hi, Nat.zero_div, Nat.reduceDiv, decodeRowE, Q.lo, Nat.zero_mod, Nat.reduceMod, fixed, five_zero,
    five_none, C0, Q.nb, Q.nd, Q.fa, Q.lowB 5 4 (by decide), low_54_x, beq_self_eq_true, Bool.and_self, if_true, reduceIte]

theorem pdense (a : BitVec 5) (b : BitVec 5) (r : BitVec 4) : Statement (.pdense a b r) := by
  intro W H
  have Q := packed H (by decide) (low_54 r)
  have C0 : fldN W 0 5 = 0 := by
    rw [Q.lowN 0 5 (by decide)]
    have := r.isLt
    simp only [low1]; omega
  simp only [decodeWord, Q.hi, Nat.zero_div, Nat.reduceDiv, decodeRowE, Q.lo, Nat.zero_mod, Nat.reduceMod, fixed, five_zero,
    five_none, C0, Q.nd, Q.fa, Q.fb, Q.lowB 5 4 (by decide), low_54_x, beq_self_eq_true, Bool.and_self, if_true, reduceIte]

theorem pvlda (a : BitVec 5) (b : BitVec 5) (f : BitVec 3) : Statement (.pvlda a b f) := by
  intro W H
  have Q := packed H (by decide) (low_23 f)
  have C0 : fldN W 0 2 = 0 := by
    rw [Q.lowN 0 2 (by decide)]
    have := f.isLt
    simp only [low1]; omega
  have C1 : fldN W 5 4 = 0 := by
    rw [Q.lowN 5 4 (by decide)]
    have := f.isLt
    simp only [low1]; omega
  simp only [decodeWord, Q.hi, Nat.zero_div, Nat.reduceDiv, decodeRowE, Q.lo, Nat.zero_mod, Nat.reduceMod, fixed, five_zero,
    five_none, C0, C1, Q.nd, Q.fa, Q.fb, Q.lowB 2 3 (by decide), low_23_x, beq_self_eq_true, Bool.and_self, if_true, reduceIte]

theorem pvldb (a : BitVec 5) (b : BitVec 5) (f : BitVec 3) : Statement (.pvldb a b f) := by
  intro W H
  have Q := packed H (by decide) (low_23 f)
  have C0 : fldN W 0 2 = 0 := by
    rw [Q.lowN 0 2 (by decide)]
    have := f.isLt
    simp only [low1]; omega
  have C1 : fldN W 5 4 = 0 := by
    rw [Q.lowN 5 4 (by decide)]
    have := f.isLt
    simp only [low1]; omega
  simp only [decodeWord, Q.hi, Nat.zero_div, Nat.reduceDiv, decodeRowE, Q.lo, Nat.zero_mod, Nat.reduceMod, fixed, five_zero,
    five_none, C0, C1, Q.nd, Q.fa, Q.fb, Q.lowB 2 3 (by decide), low_23_x, beq_self_eq_true, Bool.and_self, if_true, reduceIte]

theorem pouter (a : BitVec 5) (b : BitVec 5) (g : BitVec 4) : Statement (.pouter a b g) := by
  intro W H
  have Q := packed H (by decide) (low_04 g)
  have C0 : fldN W 4 5 = 0 := by
    rw [Q.lowN 4 5 (by decide)]
    have := g.isLt
    simp only [low1]; omega
  simp only [decodeWord, Q.hi, Nat.zero_div, Nat.reduceDiv, decodeRowE, Q.lo, Nat.zero_mod, Nat.reduceMod, fixed, five_zero,
    five_none, C0, Q.nd, Q.fa, Q.fb, Q.lowB 0 4 (by decide), low_04_x, beq_self_eq_true, Bool.and_self, if_true, reduceIte]

theorem pread (a : BitVec 5) (b : BitVec 5) (r : BitVec 4) (f : BitVec 2) : Statement (.pread a b r f) := by
  intro W H
  have Q := packed H (by decide) (low_54_32 r f)
  have C0 : fldN W 0 3 = 0 := by
    rw [Q.lowN 0 3 (by decide)]
    have := f.isLt
    have := r.isLt
    simp only [low2]; omega
  simp only [decodeWord, Q.hi, Nat.zero_div, Nat.reduceDiv, decodeRowE, Q.lo, Nat.zero_mod, Nat.reduceMod, fixed, five_zero,
    five_none, C0, Q.nd, Q.fa, Q.fb, Q.lowB 5 4 (by decide), low_54_32_x, Q.lowB 3 2 (by decide), low_54_32_y, beq_self_eq_true, Bool.and_self, if_true, reduceIte]

theorem pstat (d : BitVec 5) (a : BitVec 5) : Statement (.pstat d a) := by
  intro W H
  have Q := packed H (by decide) (by decide)
  have C0 : fldN W 0 14 = 0 := by
    rw [fldN, Q.num]
    have := a.isLt
    have := d.isLt
    simp only [five_zero, five_none]; omega
  simp only [decodeWord, Q.hi, Nat.zero_div, Nat.reduceDiv, decodeRowE, Q.lo, Nat.zero_mod, Nat.reduceMod, fixed, five_zero,
    five_none, C0, Q.fd, Q.fa, beq_self_eq_true, Bool.and_self, if_true, reduceIte]

theorem psync (d : BitVec 5) (a : BitVec 5) : Statement (.psync d a) := by
  intro W H
  have Q := packed H (by decide) (by decide)
  have C0 : fldN W 0 14 = 0 := by
    rw [fldN, Q.num]
    have := a.isLt
    have := d.isLt
    simp only [five_zero, five_none]; omega
  simp only [decodeWord, Q.hi, Nat.zero_div, Nat.reduceDiv, decodeRowE, Q.lo, Nat.zero_mod, Nat.reduceMod, fixed, five_zero,
    five_none, C0, Q.fd, Q.fa, beq_self_eq_true, Bool.and_self, if_true, reduceIte]

theorem wrd (d : BitVec 5) (w : BitVec 2) (m : BitVec 7) : Statement (.wrd d w m) := by
  intro W H
  have Q := packed H (by decide) (low_72_07 w m)
  have C0 : fldN W 9 10 = 0 := by
    rw [fldN, Q.num]
    have := d.isLt
    have := m.isLt
    have := w.isLt
    simp only [five_zero, five_none, low2]; omega
  simp only [decodeWord, Q.hi, Nat.zero_div, Nat.reduceDiv, decodeRowF, Q.lo, Nat.zero_mod, Nat.reduceMod, fixed, five_zero,
    five_none, C0, Q.fd, Q.lowB 7 2 (by decide), low_72_07_x, Q.lowB 0 7 (by decide), low_72_07_y, beq_self_eq_true, Bool.and_self, if_true, reduceIte]

theorem wptr (d : BitVec 5) (m : BitVec 7) : Statement (.wptr d m) := by
  intro W H
  have Q := packed H (by decide) (low_07 m)
  have C0 : fldN W 7 12 = 0 := by
    rw [fldN, Q.num]
    have := d.isLt
    have := m.isLt
    simp only [five_zero, five_none, low1]; omega
  simp only [decodeWord, Q.hi, Nat.zero_div, Nat.reduceDiv, decodeRowF, Q.lo, Nat.zero_mod, Nat.reduceMod, fixed, five_zero,
    five_none, C0, Q.fd, Q.lowB 0 7 (by decide), low_07_x, beq_self_eq_true, Bool.and_self, if_true, reduceIte]

theorem wcmp (d : BitVec 5) (w : BitVec 2) : Statement (.wcmp d w) := by
  intro W H
  have Q := packed H (by decide) (low_72 w)
  have C0 : fldN W 0 7 = 0 := by
    rw [Q.lowN 0 7 (by decide)]
    have := w.isLt
    simp only [low1]; omega
  have C1 : fldN W 9 10 = 0 := by
    rw [fldN, Q.num]
    have := d.isLt
    have := w.isLt
    simp only [five_zero, five_none, low1]; omega
  simp only [decodeWord, Q.hi, Nat.zero_div, Nat.reduceDiv, decodeRowF, Q.lo, Nat.zero_mod, Nat.reduceMod, fixed, five_zero,
    five_none, C0, C1, Q.fd, Q.lowB 7 2 (by decide), low_72_x, beq_self_eq_true, Bool.and_self, if_true, reduceIte]

theorem whash (d : BitVec 5) (a : BitVec 5) (w : BitVec 2) : Statement (.whash d a w) := by
  intro W H
  have Q := packed H (by decide) (low_72 w)
  have C0 : fldN W 0 7 = 0 := by
    rw [Q.lowN 0 7 (by decide)]
    have := w.isLt
    simp only [low1]; omega
  simp only [decodeWord, Q.hi, Nat.zero_div, Nat.reduceDiv, decodeRowF, Q.lo, Nat.zero_mod, Nat.reduceMod, fixed, five_zero,
    five_none, C0, Q.nb, Q.fd, Q.fa, Q.lowB 7 2 (by decide), low_72_x, beq_self_eq_true, Bool.and_self, if_true, reduceIte]

theorem wret (n : BitVec 4) : Statement (.wret n) := by
  intro W H
  have Q := packed H (by decide) (low_04 n)
  have C0 : fldN W 4 20 = 786432 := by
    rw [fldN, Q.num]
    have := n.isLt
    simp only [five_zero, five_none, low1]; omega
  simp only [decodeWord, Q.hi, Nat.zero_div, Nat.reduceDiv, decodeRowF, Q.lo, Nat.zero_mod, Nat.reduceMod, fixed, five_zero,
    five_none, C0, Q.lowB 0 4 (by decide), low_04_x, beq_self_eq_true, Bool.and_self, if_true, reduceIte]

theorem wmiss : Statement (.wmiss) := by
  intro W H
  have Q := packed H (by decide) (by decide)
  have C0 : fldN W 0 24 = 12582912 := by
    rw [fldN, Q.num]; rfl
  simp only [decodeWord, Q.hi, Nat.zero_div, Nat.reduceDiv, decodeRowF, Q.lo, Nat.zero_mod, Nat.reduceMod, fixed, five_zero,
    five_none, C0, beq_self_eq_true, Bool.and_self, if_true, reduceIte]

theorem wfail : Statement (.wfail) := by
  intro W H
  have Q := packed H (by decide) (by decide)
  have C0 : fldN W 0 24 = 12582912 := by
    rw [fldN, Q.num]; rfl
  simp only [decodeWord, Q.hi, Nat.zero_div, Nat.reduceDiv, decodeRowF, Q.lo, Nat.zero_mod, Nat.reduceMod, fixed, five_zero,
    five_none, C0, beq_self_eq_true, Bool.and_self, if_true, reduceIte]

theorem wnext (d : BitVec 5) (m : BitVec 7) : Statement (.wnext d m) := by
  intro W H
  have Q := packed H (by decide) (low_07 m)
  have C0 : fldN W 7 12 = 0 := by
    rw [fldN, Q.num]
    have := d.isLt
    have := m.isLt
    simp only [five_zero, five_none, low1]; omega
  simp only [decodeWord, Q.hi, Nat.zero_div, Nat.reduceDiv, decodeRowF, Q.lo, Nat.zero_mod, Nat.reduceMod, fixed, five_zero,
    five_none, C0, Q.fd, Q.lowB 0 7 (by decide), low_07_x, beq_self_eq_true, Bool.and_self, if_true, reduceIte]

theorem trap (a : BitVec 5) (b : BitVec 5) : Statement (.trap a b) := by
  intro W H
  have Q := packed H (by decide) (by decide)
  have C0 : fldN W 0 9 = 0 := (Q.lowN 0 9 (by decide)).trans (by decide)
  simp only [decodeWord, Q.hi, Nat.zero_div, Nat.reduceDiv, decodeRowF, Q.lo, Nat.zero_mod, Nat.reduceMod, fixed, five_zero,
    five_none, C0, Q.nd, Q.fa, Q.fb, beq_self_eq_true, Bool.and_self, if_true, reduceIte]

theorem brk (a : BitVec 5) (b : BitVec 5) : Statement (.brk a b) := by
  intro W H
  have Q := packed H (by decide) (by decide)
  have C0 : fldN W 0 9 = 0 := (Q.lowN 0 9 (by decide)).trans (by decide)
  simp only [decodeWord, Q.hi, Nat.zero_div, Nat.reduceDiv, decodeRowF, Q.lo, Nat.zero_mod, Nat.reduceMod, fixed, five_zero,
    five_none, C0, Q.nd, Q.fa, Q.fb, beq_self_eq_true, Bool.and_self, if_true, reduceIte]

theorem whey : Statement (.whey) := by
  intro W H
  have Q := packed H (by decide) (by decide)
  have C0 : fldN W 0 24 = 0 := by
    rw [fldN, Q.num]; rfl
  simp only [decodeWord, Q.hi, Nat.zero_div, Nat.reduceDiv, decodeRowF, Q.lo, Nat.zero_mod, Nat.reduceMod, fixed, five_zero,
    five_none, C0, beq_self_eq_true, Bool.and_self, if_true, reduceIte]

theorem ident (d : BitVec 5) (s : BitVec 3) : Statement (.ident d s) := by
  intro W H
  have Q := packed H (by decide) (low_63 s)
  have C0 : fldN W 0 6 = 0 := by
    rw [Q.lowN 0 6 (by decide)]
    have := s.isLt
    simp only [low1]; omega
  have C1 : fldN W 9 10 = 0 := by
    rw [fldN, Q.num]
    have := d.isLt
    have := s.isLt
    simp only [five_zero, five_none, low1]; omega
  simp only [decodeWord, Q.hi, Nat.zero_div, Nat.reduceDiv, decodeRowF, Q.lo, Nat.zero_mod, Nat.reduceMod, fixed, five_zero,
    five_none, C0, C1, Q.fd, Q.lowB 6 3 (by decide), low_63_x, beq_self_eq_true, Bool.and_self, if_true, reduceIte]

theorem clock (d : BitVec 5) : Statement (.clock d) := by
  intro W H
  have Q := packed H (by decide) (by decide)
  have C0 : fldN W 0 19 = 0 := by
    rw [fldN, Q.num]
    have := d.isLt
    simp only [five_zero, five_none]; omega
  simp only [decodeWord, Q.hi, Nat.zero_div, Nat.reduceDiv, decodeRowF, Q.lo, Nat.zero_mod, Nat.reduceMod, fixed, five_zero,
    five_none, C0, Q.fd, beq_self_eq_true, Bool.and_self, if_true, reduceIte]

theorem xctl (d : BitVec 5) (a : BitVec 5) (s : BitVec 5) (r : BitVec 4) : Statement (.xctl d a s r) := by
  intro W H
  have Q := packed H (by decide) (low_45_04 s r)
  simp only [decodeWord, Q.hi, Nat.zero_div, Nat.reduceDiv, decodeRowF, Q.lo, Nat.zero_mod, Nat.reduceMod, fixed, five_zero,
    five_none, Q.nb, Q.fd, Q.fa, Q.lowB 4 5 (by decide), low_45_04_x, Q.lowB 0 4 (by decide), low_45_04_y, beq_self_eq_true, Bool.and_self, if_true, reduceIte]

theorem xstat (d : BitVec 5) (s : BitVec 5) (r : BitVec 4) : Statement (.xstat d s r) := by
  intro W H
  have Q := packed H (by decide) (low_45_04 s r)
  have C0 : fldN W 9 10 = 0 := by
    rw [fldN, Q.num]
    have := d.isLt
    have := r.isLt
    have := s.isLt
    simp only [five_zero, five_none, low2]; omega
  simp only [decodeWord, Q.hi, Nat.zero_div, Nat.reduceDiv, decodeRowF, Q.lo, Nat.zero_mod, Nat.reduceMod, fixed, five_zero,
    five_none, C0, Q.fd, Q.lowB 4 5 (by decide), low_45_04_x, Q.lowB 0 4 (by decide), low_45_04_y, beq_self_eq_true, Bool.and_self, if_true, reduceIte]

theorem ruleUrgent (el : Nat) (rule : Nat) : Statement (.ruleUrgent el rule) := fun _ H => nomatch H

theorem longLatencyCommit (el : Nat) (id : Nat) : Statement (.longLatencyCommit el id) := fun _ H => nomatch H

theorem tokenArrival (ch : Nat) : Statement (.tokenArrival ch) := fun _ H => nomatch H

theorem haltedDiscard (el : Nat) : Statement (.haltedDiscard el) := fun _ H => nomatch H

theorem elementMark (el : Nat) : Statement (.elementMark el) := fun _ H => nomatch H

theorem elementDrainForward (el : Nat) : Statement (.elementDrainForward el) := fun _ H => nomatch H

theorem memoryAccessAtHome (acc : Nat) : Statement (.memoryAccessAtHome acc) := fun _ H => nomatch H

theorem memoryResponse (acc : Nat) : Statement (.memoryResponse acc) := fun _ H => nomatch H

theorem postedTranslate (acc : Nat) : Statement (.postedTranslate acc) := fun _ H => nomatch H

theorem pageWalk (walk : Nat) : Statement (.pageWalk walk) := fun _ H => nomatch H

theorem fenceComplete (el : Nat) (id : Nat) : Statement (.fenceComplete el id) := fun _ H => nomatch H

theorem copyTrigger (tile : Nat) : Statement (.copyTrigger tile) := fun _ H => nomatch H

theorem copyIssueDeferred (el : Nat) (id : Nat) : Statement (.copyIssueDeferred el id) := fun _ H => nomatch H

theorem copyTransfer (tile : Nat) (flight : Nat) : Statement (.copyTransfer tile flight) := fun _ H => nomatch H

theorem copyComplete (tile : Nat) (flight : Nat) : Statement (.copyComplete tile flight) := fun _ H => nomatch H

theorem copyEngineDrain (tile : Nat) : Statement (.copyEngineDrain tile) := fun _ H => nomatch H

theorem bararrSend (el : Nat) (id : Nat) : Statement (.bararrSend el id) := fun _ H => nomatch H

theorem barrierHomeOp (op : Nat) : Statement (.barrierHomeOp op) := fun _ H => nomatch H

theorem barrierVerdict (op : Nat) : Statement (.barrierVerdict op) := fun _ H => nomatch H

theorem walkAccept (el : Nat) (id : Nat) : Statement (.walkAccept el id) := fun _ H => nomatch H

theorem walkReadReturn (etile : Nat) (slot : Nat) : Statement (.walkReadReturn etile slot) := fun _ H => nomatch H

theorem walkResultDelivery (etile : Nat) (slot : Nat) : Statement (.walkResultDelivery etile slot) := fun _ H => nomatch H

theorem pressCommandPerform (tile : Nat) : Statement (.pressCommandPerform tile) := fun _ H => nomatch H

theorem pressResultDelivery (tile : Nat) : Statement (.pressResultDelivery tile) := fun _ H => nomatch H

theorem pressMark (tile : Nat) : Statement (.pressMark tile) := fun _ H => nomatch H

theorem pressDrain (tile : Nat) : Statement (.pressDrain tile) := fun _ H => nomatch H

theorem scannerStep (unit : Nat) : Statement (.scannerStep unit) := fun _ H => nomatch H

theorem intersecterStep (unit : Nat) : Statement (.intersecterStep unit) := fun _ H => nomatch H

theorem repeaterStep (unit : Nat) : Statement (.repeaterStep unit) := fun _ H => nomatch H

theorem reducerStep (unit : Nat) : Statement (.reducerStep unit) := fun _ H => nomatch H

theorem reducerFlush (unit : Nat) : Statement (.reducerFlush unit) := fun _ H => nomatch H

theorem nmDecoderStep (unit : Nat) : Statement (.nmDecoderStep unit) := fun _ H => nomatch H

theorem apertureStep (unit : Nat) : Statement (.apertureStep unit) := fun _ H => nomatch H

theorem splitterStep (unit : Nat) : Statement (.splitterStep unit) := fun _ H => nomatch H

theorem splitterSlotRetry (unit : Nat) : Statement (.splitterSlotRetry unit) := fun _ H => nomatch H

theorem splitterSpillWrite (unit : Nat) : Statement (.splitterSpillWrite unit) := fun _ H => nomatch H

theorem splitterSpillRead (unit : Nat) : Statement (.splitterSpillRead unit) := fun _ H => nomatch H

theorem collimatorStep (unit : Nat) : Statement (.collimatorStep unit) := fun _ H => nomatch H

theorem unitMark (unit : Nat) : Statement (.unitMark unit) := fun _ H => nomatch H

theorem unitDrain (unit : Nat) : Statement (.unitDrain unit) := fun _ H => nomatch H

theorem xctlApply (unit : Nat) : Statement (.xctlApply unit) := fun _ H => nomatch H

theorem unitRegisterRead (el : Nat) (id : Nat) : Statement (.unitRegisterRead el id) := fun _ H => nomatch H

theorem clockRead (el : Nat) (id : Nat) : Statement (.clockRead el id) := fun _ H => nomatch H

theorem wheyAdderStep (unit : Nat) : Statement (.wheyAdderStep unit) := fun _ H => nomatch H

theorem wheyRootWrite (unit : Nat) : Statement (.wheyRootWrite unit) := fun _ H => nomatch H

theorem brineWheyEmit (unit : Nat) : Statement (.brineWheyEmit unit) := fun _ H => nomatch H

theorem imageLoad (task : Nat) : Statement (.imageLoad task) := fun _ H => nomatch H

theorem sourceInject (region : Nat) (src : Nat) : Statement (.sourceInject region src) := fun _ H => nomatch H

theorem sinkTake (region : Nat) (sink : Nat) : Statement (.sinkTake region sink) := fun _ H => nomatch H

theorem faultRecordPost (ctx : Nat) : Statement (.faultRecordPost ctx) := fun _ H => nomatch H

theorem eventRecordWrite (ctx : Nat) : Statement (.eventRecordWrite ctx) := fun _ H => nomatch H

theorem signalHandle (sig : Nat) : Statement (.signalHandle sig) := fun _ H => nomatch H

theorem regionDrainComplete (region : Nat) : Statement (.regionDrainComplete region) := fun _ H => nomatch H

theorem configSignatureCheck (region : Nat) : Statement (.configSignatureCheck region) := fun _ H => nomatch H

theorem configStoreError (region : Nat) : Statement (.configStoreError region) := fun _ H => nomatch H

theorem configReloadDone (region : Nat) : Statement (.configReloadDone region) := fun _ H => nomatch H

theorem regionResume (region : Nat) (endid : Word) : Statement (.regionResume region endid) := fun _ H => nomatch H

theorem regionFence (region : Nat) (code : Byte) : Statement (.regionFence region code) := fun _ H => nomatch H

theorem sigcommit (region : Nat) (v : Word) : Statement (.sigcommit region v) := fun _ H => nomatch H

theorem unhpop (region : Nat) : Statement (.unhpop region) := fun _ H => nomatch H

theorem udataWrite (region : Nat) (v : Word) : Statement (.udataWrite region v) := fun _ H => nomatch H

theorem dispatchAdmit : Statement (.dispatchAdmit) := fun _ H => nomatch H

theorem queueAged (queue : Nat) : Statement (.queueAged queue) := fun _ H => nomatch H

theorem taskBind : Statement (.taskBind) := fun _ H => nomatch H

theorem bindReservation : Statement (.bindReservation) := fun _ H => nomatch H

theorem quantumExpiry (task : Nat) : Statement (.quantumExpiry task) := fun _ H => nomatch H

theorem markInject (task : Nat) : Statement (.markInject task) := fun _ H => nomatch H

theorem taskSaveComplete (task : Nat) : Statement (.taskSaveComplete task) := fun _ H => nomatch H

theorem taskDrainDetect (task : Nat) : Statement (.taskDrainDetect task) := fun _ H => nomatch H

theorem taskRetire (task : Nat) : Statement (.taskRetire task) := fun _ H => nomatch H

theorem abort (ctx : Nat) (taskid : BitVec 16) : Statement (.abort ctx taskid) := fun _ H => nomatch H

theorem preempt (ctx : Nat) (taskid : BitVec 16) : Statement (.preempt ctx taskid) := fun _ H => nomatch H

theorem create (ctx : Nat) : Statement (.create ctx) := fun _ H => nomatch H

theorem restore (ctx : Nat) : Statement (.restore ctx) := fun _ H => nomatch H

theorem contextRestoreDone (ctx : Nat) : Statement (.contextRestoreDone ctx) := fun _ H => nomatch H

theorem quiesce (ctx : Nat) : Statement (.quiesce ctx) := fun _ H => nomatch H

theorem quiesceComplete (ctx : Nat) : Statement (.quiesceComplete ctx) := fun _ H => nomatch H

theorem resume (ctx : Nat) : Statement (.resume ctx) := fun _ H => nomatch H

theorem destroy (ctx : Nat) : Statement (.destroy ctx) := fun _ H => nomatch H

theorem destroyComplete (ctx : Nat) : Statement (.destroyComplete ctx) := fun _ H => nomatch H

theorem resolveReplay (ctx : Nat) (handle : Nat) : Statement (.resolveReplay ctx handle) := fun _ H => nomatch H

theorem resolveDiscard (ctx : Nat) (handle : Nat) : Statement (.resolveDiscard ctx handle) := fun _ H => nomatch H

theorem harvest (ctx : Nat) : Statement (.harvest ctx) := fun _ H => nomatch H

theorem harvestComplete (ctx : Nat) : Statement (.harvestComplete ctx) := fun _ H => nomatch H

theorem quotaWrite (ctx : Nat) (v : Word) : Statement (.quotaWrite ctx v) := fun _ H => nomatch H

theorem enq (t : Txn) : Statement (.enq t) := fun _ H => nomatch H

theorem enqSpillDone (queue : Nat) : Statement (.enqSpillDone queue) := fun _ H => nomatch H

theorem queueRefillDone (queue : Nat) : Statement (.queueRefillDone queue) := fun _ H => nomatch H

theorem queueEnable (queue : Nat) : Statement (.queueEnable queue) := fun _ H => nomatch H

theorem queueDisable (queue : Nat) : Statement (.queueDisable queue) := fun _ H => nomatch H

theorem pause (queue : Nat) : Statement (.pause queue) := fun _ H => nomatch H

theorem unpause (queue : Nat) : Statement (.unpause queue) := fun _ H => nomatch H

theorem close (queue : Nat) : Statement (.close queue) := fun _ H => nomatch H

theorem clear (queue : Nat) : Statement (.clear queue) := fun _ H => nomatch H

theorem tinvPage (cmd : Dword) : Statement (.tinvPage cmd) := fun _ H => nomatch H

theorem tinvContext (cmd : Dword) : Statement (.tinvContext cmd) := fun _ H => nomatch H

theorem tinvComplete : Statement (.tinvComplete) := fun _ H => nomatch H

theorem deviceReset : Statement (.deviceReset) := fun _ H => nomatch H

theorem pllLockLoss : Statement (.pllLockLoss) := fun _ H => nomatch H

theorem boot : Statement (.boot) := fun _ H => nomatch H

theorem linkTrainingDone (link : Nat) (lanes : BitVec 4) : Statement (.linkTrainingDone link lanes) := fun _ H => nomatch H

theorem flitReceive (link : Nat) (flit : List Byte) : Statement (.flitReceive link flit) := fun _ H => nomatch H

theorem replayRequest (link : Nat) (seq : BitVec 12) : Statement (.replayRequest link seq) := fun _ H => nomatch H

theorem replayExhausted (link : Nat) : Statement (.replayExhausted link) := fun _ H => nomatch H

theorem linkEnable (link : Nat) : Statement (.linkEnable link) := fun _ H => nomatch H

theorem linkDisable (link : Nat) : Statement (.linkDisable link) := fun _ H => nomatch H

theorem linkRetrain (link : Nat) : Statement (.linkRetrain link) := fun _ H => nomatch H

theorem linkFence (link : Nat) : Statement (.linkFence link) := fun _ H => nomatch H

theorem read (t : Txn) : Statement (.read t) := fun _ H => nomatch H

theorem write (t : Txn) : Statement (.write t) := fun _ H => nomatch H

theorem signal (t : Txn) : Statement (.signal t) := fun _ H => nomatch H

theorem atomic (t : Txn) : Statement (.atomic t) := fun _ H => nomatch H

theorem xchg64 (t : Txn) : Statement (.xchg64 t) := fun _ H => nomatch H

theorem cas64 (t : Txn) : Statement (.cas64 t) := fun _ H => nomatch H

theorem reduce (t : Txn) : Statement (.reduce t) := fun _ H => nomatch H

theorem response (t : Txn) : Statement (.response t) := fun _ H => nomatch H

theorem nack (t : Txn) : Statement (.nack t) := fun _ H => nomatch H

theorem mgmt (t : Txn) : Statement (.mgmt t) := fun _ H => nomatch H

theorem transactionResend (ep : Nat) (eseq : BitVec 16) : Statement (.transactionResend ep eseq) := fun _ H => nomatch H

theorem registerWrite (off : Nat) (v : Dword) (wide : Bool) : Statement (.registerWrite off v wide) := fun _ H => nomatch H

theorem aclWrite (off : Nat) (v : Dword) (wide : Bool) : Statement (.aclWrite off v wide) := fun _ H => nomatch H

theorem measmaskWrite (v : Dword) (wide : Bool) : Statement (.measmaskWrite v wide) := fun _ H => nomatch H

theorem report (cmd : Dword) : Statement (.report cmd) := fun _ H => nomatch H

theorem reportDone : Statement (.reportDone) := fun _ H => nomatch H

theorem scrubPass (group : Nat) (bank : Option Nat) : Statement (.scrubPass group bank) := fun _ H => nomatch H

theorem powerGovernorSample : Statement (.powerGovernorSample) := fun _ H => nomatch H

theorem dflRecordWrite : Statement (.dflRecordWrite) := fun _ H => nomatch H

theorem round : Statement (.round) := fun _ H => nomatch H

theorem copyEngineMark (tile : Nat) : Statement (.copyEngineMark tile) := fun _ H => nomatch H

end Laws.RoundTrip

end Sys2Proof
end

