-- ==== Sys2Proof/Tests/Slice0.lean ====
section
/-! SUPPORT. Tests: instruction words written from the encodings, the well-formedness checks, the worked results of the spec,
and for every statement a state and operands that meet its premises. -/

-- One theorem after another: each then needs one thread only.
set_option Elab.async false


open Sys2Proof Sys2Proof.Machine

namespace Sys2Proof.Tests

/-- R141, R142, R143, R144, R145, R148: words written from the encodings, field by field. -/
theorem test_words_instructions_move_integer_1 :
    decodeWord 0b00000000_00000_00000_00000_101_10_0000 = .ok (.nop 5 2)
    ∧ decodeWord 0b00000001_10111_10100_00000_011_01_1101 = .ok (.mov 23 20 3 1 13)
    ∧ decodeWord 0b00000010_01010_11101_00000_100_10_0000 = .ok (.pass 10 29 4 2)
    ∧ decodeWord 0b00000011_11000_10111_00000_010_11_0000 = .ok (.drop 23 2 3)
    ∧ decodeWord 0b00000100_11001_11101_10010_111_01_1011 = .ok (.sel 25 29 18 7 1 11)
    ∧ decodeWord 0b00000101_01110_11001_11011_010_01_0000 = .ok (.steer 14 25 27 2 1)
    ∧ decodeWord 0b00000110_00101_01110_00000_001_11_0010 = .ok (.tagof 5 14 1 3 2)
    ∧ decodeWord 0b00000111_10111_10100_11011_001_01_0000 = .ok (.mktag 23 20 27 1 1)
    ∧ decodeWord 0b00001000_01010_11101_01100_110_01_1011 = .ok (.pand 10 29 12 6 1 11)
    ∧ decodeWord 0b00001001_10111_10010_11011_101_10_1001 = .ok (.por 23 18 27 5 2 9)
    ∧ decodeWord 0b00001010_11001_11101_10010_111_01_1011 = .ok (.pxor 25 29 18 7 1 11)
    ∧ decodeWord 0b00001011_01110_11001_00000_011_10_1101 = .ok (.pnot 14 25 3 2 13)
    ∧ decodeWord 0b00001100_00101_01110_00000_001_11_0010 = .ok (.pmov 5 14 1 3 2)
    ∧ decodeWord 0b00001101_10111_00000_00000_100_11_1001 = .ok (.ptod 23 4 3 9) := by
  refine ⟨rfl, rfl, rfl, rfl, rfl, rfl, rfl, rfl, rfl, rfl, rfl, rfl, rfl, rfl⟩

/-- R145, R146, R147, R148, R150: words written from the encodings, field by field. -/
theorem test_words_instructions_move_integer_2 :
    decodeWord 0b00001110_11000_01010_00000_000000000 = .ok (.dtop 10)
    ∧ decodeWord 0b00001111_10111_10010_00000_011_01_0000 = .ok (.iter 23 18 3 1)
    ∧ decodeWord 0b00010000_11001_11101_00000_010_11_0100 = .ok (.cntrd 25 29 2 3 4)
    ∧ decodeWord 0b00010001_01110_11001_00000_011_10_0000 = .ok (.cntset 14 25 3 2)
    ∧ decodeWord 0b00010010_00000_00000_00000_000000000 = .ok (.halt)
    ∧ decodeWord 0b00100000_10111_10100_11011_001_01_0010 = .ok (.add 23 20 27 1 1 2)
    ∧ decodeWord 0b00100001_01010_11101_01100_110_01_1011 = .ok (.sub 10 29 12 6 1 11)
    ∧ decodeWord 0b00100010_10111_10010_11011_101_10_1001 = .ok (.adds 23 18 27 5 2 9)
    ∧ decodeWord 0b00100011_11001_11101_10010_111_01_1011 = .ok (.subs 25 29 18 7 1 11)
    ∧ decodeWord 0b00100100_01110_11001_11011_010_01_1100 = .ok (.addsn 14 25 27 2 1 12)
    ∧ decodeWord 0b00100101_00101_01110_01001_111_10_1011 = .ok (.subsn 5 14 9 7 2 11)
    ∧ decodeWord 0b00100110_10111_10100_00000_011_01_1101 = .ok (.neg 23 20 3 1 13)
    ∧ decodeWord 0b00100111_01010_11101_00000_100_10_1001 = .ok (.abs 10 29 4 2 9)
    ∧ decodeWord 0b00101000_10111_10010_11011_101_10_1001 = .ok (.mul 23 18 27 5 2 9) := by
  refine ⟨rfl, rfl, rfl, rfl, rfl, rfl, rfl, rfl, rfl, rfl, rfl, rfl, rfl, rfl⟩

/-- R150, R151: words written from the encodings, field by field. -/
theorem test_words_instructions_move_integer_3 :
    decodeWord 0b00101001_11001_11101_10010_111_01_1011 = .ok (.mulh 25 29 18 7 1 11)
    ∧ decodeWord 0b00101010_01110_11001_11011_010_01_1100 = .ok (.mulhn 14 25 27 2 1 12)
    ∧ decodeWord 0b00101011_00101_01110_01001_111_10_1011 = .ok (.mac 5 14 9 7 2 11)
    ∧ decodeWord 0b00101100_10111_10100_11011_001_01_0010 = .ok (.min 23 20 27 1 1 2)
    ∧ decodeWord 0b00101101_01010_11101_01100_110_01_1011 = .ok (.max 10 29 12 6 1 11)
    ∧ decodeWord 0b00101110_10111_10010_11011_101_10_1001 = .ok (.minn 23 18 27 5 2 9)
    ∧ decodeWord 0b00101111_11001_11101_10010_111_01_1011 = .ok (.maxn 25 29 18 7 1 11)
    ∧ decodeWord 0b00110000_01110_11001_11011_010_01_1100 = .ok (.and 14 25 27 2 1 12)
    ∧ decodeWord 0b00110001_00101_01110_01001_111_10_1011 = .ok (.or 5 14 9 7 2 11)
    ∧ decodeWord 0b00110010_10111_10100_11011_001_01_0010 = .ok (.xor 23 20 27 1 1 2)
    ∧ decodeWord 0b00110011_01010_11101_01100_110_01_1011 = .ok (.andn 10 29 12 6 1 11)
    ∧ decodeWord 0b00110100_10111_10010_11011_101_10_1001 = .ok (.orn 23 18 27 5 2 9)
    ∧ decodeWord 0b00110101_11001_11101_00000_010_11_0100 = .ok (.not 25 29 2 3 4)
    ∧ decodeWord 0b00110110_01110_11001_11011_010_01_1100 = .ok (.shl 14 25 27 2 1 12) := by
  refine ⟨rfl, rfl, rfl, rfl, rfl, rfl, rfl, rfl, rfl, rfl, rfl, rfl, rfl, rfl⟩

/-- R151, R152, R153: words written from the encodings, field by field. -/
theorem test_words_instructions_move_integer_4 :
    decodeWord 0b00110111_00101_01110_01001_111_10_1011 = .ok (.shr 5 14 9 7 2 11)
    ∧ decodeWord 0b00111000_10111_10100_11011_001_01_0010 = .ok (.sar 23 20 27 1 1 2)
    ∧ decodeWord 0b00111001_01010_11101_01100_110_01_1011 = .ok (.rol 10 29 12 6 1 11)
    ∧ decodeWord 0b00111010_10111_10010_00000_011_01_1110 = .ok (.clz 23 18 3 1 14)
    ∧ decodeWord 0b00111011_11001_11101_00000_010_11_0100 = .ok (.ctz 25 29 2 3 4)
    ∧ decodeWord 0b00111100_01110_11001_00000_011_10_1101 = .ok (.popc 14 25 3 2 13)
    ∧ decodeWord 0b00111101_00101_01110_00000_001_11_0010 = .ok (.brev 5 14 1 3 2)
    ∧ decodeWord 0b00111110_10111_10100_11011_001_01_0010 = .ok (.bfx 23 20 27 1 1 2)
    ∧ decodeWord 0b00111111_01010_11101_01100_110_01_1011 = .ok (.bfxs 10 29 12 6 1 11)
    ∧ decodeWord 0b01000000_10111_10010_11011_101_10_1001 = .ok (.bfi 23 18 27 5 2 9)
    ∧ decodeWord 0b01000001_11001_11101_10010_111_01_1011 = .ok (.cmpeq 25 29 18 7 1 11)
    ∧ decodeWord 0b01000010_01110_11001_11011_010_01_1100 = .ok (.cmpne 14 25 27 2 1 12)
    ∧ decodeWord 0b01000011_00101_01110_01001_111_10_1011 = .ok (.cmplt 5 14 9 7 2 11)
    ∧ decodeWord 0b01000100_10111_10100_11011_001_01_0010 = .ok (.cmple 23 20 27 1 1 2) := by
  refine ⟨rfl, rfl, rfl, rfl, rfl, rfl, rfl, rfl, rfl, rfl, rfl, rfl, rfl, rfl⟩

/-- R153, R154, R155, R156, R157: words written from the encodings, field by field. -/
theorem test_words_instructions_move_integer_5 :
    decodeWord 0b01000101_01010_11101_01100_110_01_1011 = .ok (.cmpltn 10 29 12 6 1 11)
    ∧ decodeWord 0b01000110_10111_10010_11011_101_10_1001 = .ok (.cmplen 23 18 27 5 2 9)
    ∧ decodeWord 0b01000111_11001_11101_10010_111_01_1011 = .ok (.addh2 25 29 18 7 1 11)
    ∧ decodeWord 0b01001000_01110_11001_11011_010_01_1100 = .ok (.subh2 14 25 27 2 1 12)
    ∧ decodeWord 0b01001001_00101_01110_01001_111_10_1011 = .ok (.maxh2 5 14 9 7 2 11)
    ∧ decodeWord 0b01001010_10111_10100_11011_001_01_0010 = .ok (.minh2 23 20 27 1 1 2)
    ∧ decodeWord 0b01001011_01010_11101_01100_110_01_1011 = .ok (.addb4 10 29 12 6 1 11)
    ∧ decodeWord 0b01001100_10111_10010_11011_101_10_1001 = .ok (.subb4 23 18 27 5 2 9)
    ∧ decodeWord 0b01001101_11001_11101_10010_111_01_1011 = .ok (.maxb4 25 29 18 7 1 11)
    ∧ decodeWord 0b01001110_01110_11001_11011_010_01_1100 = .ok (.minb4 14 25 27 2 1 12)
    ∧ decodeWord 0b01001111_00101_01110_01001_111_10_1011 = .ok (.dot4 5 14 9 7 2 11)
    ∧ decodeWord 0b01010000_10111_10100_11011_001_01_0010 = .ok (.dot4n 23 20 27 1 1 2)
    ∧ decodeWord 0b01010001_01010_11101_01100_110_01_00_11 = .ok (.lea 10 29 12 6 1 3)
    ∧ decodeWord 0b01010010_10111_10010_11011_101_10_1001 = .ok (.hash 23 18 27 5 2 9) := by
  refine ⟨rfl, rfl, rfl, rfl, rfl, rfl, rfl, rfl, rfl, rfl, rfl, rfl, rfl, rfl⟩

/-- R158, R159: words written from the encodings, field by field. -/
theorem test_words_instructions_move_integer_6 :
    decodeWord 0b01010011_11001_11101_00000_010_11_0100 = .ok (.xsh 25 29 2 3 4)
    ∧ decodeWord 0b01010100_01110_11001_11011_010_01_1100 = .ok (.divn 14 25 27 2 1 12)
    ∧ decodeWord 0b01010101_00101_01110_01001_111_10_1011 = .ok (.remn 5 14 9 7 2 11) := by
  refine ⟨rfl, rfl, rfl⟩

/-- R165, R167, R168, R169, R170: words written from the encodings, field by field. -/
theorem test_words_instructions_float_convert_1 :
    decodeWord 0b01100000_10111_10100_11011_001_01_0010 = .ok (.fadd 23 20 27 1 1 2)
    ∧ decodeWord 0b01100001_01010_11101_01100_110_01_1011 = .ok (.fsub 10 29 12 6 1 11)
    ∧ decodeWord 0b01100010_10111_10010_11011_101_10_1001 = .ok (.fmul 23 18 27 5 2 9)
    ∧ decodeWord 0b01100011_11001_11101_10010_111_01_1011 = .ok (.ffma 25 29 18 7 1 11)
    ∧ decodeWord 0b01100100_01110_11001_11011_010_01_1100 = .ok (.fmin 14 25 27 2 1 12)
    ∧ decodeWord 0b01100101_00101_01110_01001_111_10_1011 = .ok (.fmax 5 14 9 7 2 11)
    ∧ decodeWord 0b01100110_10111_10100_00000_011_01_1101 = .ok (.fabs 23 20 3 1 13)
    ∧ decodeWord 0b01100111_01010_11101_00000_100_10_1001 = .ok (.fneg 10 29 4 2 9)
    ∧ decodeWord 0b01101000_10111_10010_11011_101_10_1001 = .ok (.fcpys 23 18 27 5 2 9)
    ∧ decodeWord 0b01101001_11001_11101_10010_111_01_1011 = .ok (.fcmpeq 25 29 18 7 1 11)
    ∧ decodeWord 0b01101010_01110_11001_11011_010_01_1100 = .ok (.fcmplt 14 25 27 2 1 12)
    ∧ decodeWord 0b01101011_00101_01110_01001_111_10_1011 = .ok (.fcmple 5 14 9 7 2 11)
    ∧ decodeWord 0b01101100_10111_10100_11011_001_01_0010 = .ok (.fcmpun 23 20 27 1 1 2)
    ∧ decodeWord 0b01101101_01010_11101_00000_100_10_1001 = .ok (.fclass 10 29 4 2 9) := by
  refine ⟨rfl, rfl, rfl, rfl, rfl, rfl, rfl, rfl, rfl, rfl, rfl, rfl, rfl, rfl⟩

/-- R165, R166, R171, R172, R173, R174: words written from the encodings, field by field. -/
theorem test_words_instructions_float_convert_2 :
    decodeWord 0b01101110_10111_10010_11011_101_10_1001 = .ok (.fdiv 23 18 27 5 2 9)
    ∧ decodeWord 0b01101111_11001_11101_00000_010_11_0100 = .ok (.fsqrt 25 29 2 3 4)
    ∧ decodeWord 0b01110000_01110_11001_00000_011_10_1101 = .ok (.frcpe 14 25 3 2 13)
    ∧ decodeWord 0b01110001_00101_01110_00000_001_11_0010 = .ok (.frsqe 5 14 1 3 2)
    ∧ decodeWord 0b01110010_10111_10100_00000_011_01_1101 = .ok (.fex2 23 20 3 1 13)
    ∧ decodeWord 0b01110011_01010_11101_00000_100_10_1001 = .ok (.flg2 10 29 4 2 9)
    ∧ decodeWord 0b01110100_10111_10010_00000_011_01_1110 = .ok (.frint 23 18 3 1 14)
    ∧ decodeWord 0b01110101_11001_11101_00000_010_11_0100 = .ok (.ffloor 25 29 2 3 4)
    ∧ decodeWord 0b01110110_01110_11001_00000_011_10_1101 = .ok (.fceil 14 25 3 2 13)
    ∧ decodeWord 0b01110111_00101_01110_00000_001_11_0010 = .ok (.ftrnc 5 14 1 3 2)
    ∧ decodeWord 0b01111000_10111_10100_11011_001_01_0010 = .ok (.badd2 23 20 27 1 1 2)
    ∧ decodeWord 0b01111001_01010_11101_01100_110_01_1011 = .ok (.bsub2 10 29 12 6 1 11)
    ∧ decodeWord 0b01111010_10111_10010_11011_101_10_1001 = .ok (.bmul2 23 18 27 5 2 9)
    ∧ decodeWord 0b01111011_11001_11101_10010_111_01_1011 = .ok (.bfma2 25 29 18 7 1 11) := by
  refine ⟨rfl, rfl, rfl, rfl, rfl, rfl, rfl, rfl, rfl, rfl, rfl, rfl, rfl, rfl⟩

/-- R174, R175, R179: words written from the encodings, field by field. -/
theorem test_words_instructions_float_convert_3 :
    decodeWord 0b01111100_01110_11001_11011_010_01_1100 = .ok (.bmax2 14 25 27 2 1 12)
    ∧ decodeWord 0b01111101_00101_01110_01001_111_10_1011 = .ok (.bmin2 5 14 9 7 2 11)
    ∧ decodeWord 0b01111110_10111_10100_11011_001_01_0010 = .ok (.hadd2 23 20 27 1 1 2)
    ∧ decodeWord 0b01111111_01010_11101_01100_110_01_1011 = .ok (.hsub2 10 29 12 6 1 11)
    ∧ decodeWord 0b10000000_10111_10010_11011_101_10_1001 = .ok (.hmul2 23 18 27 5 2 9)
    ∧ decodeWord 0b10000001_11001_11101_10010_111_01_1011 = .ok (.hfma2 25 29 18 7 1 11)
    ∧ decodeWord 0b10000010_01110_11001_11011_010_01_1100 = .ok (.hmax2 14 25 27 2 1 12)
    ∧ decodeWord 0b10000011_00101_01110_01001_111_10_1011 = .ok (.hmin2 5 14 9 7 2 11)
    ∧ decodeWord 0b10000100_10111_10100_00000_011_01_1101 = .ok (.cvtfi 23 20 3 1 13)
    ∧ decodeWord 0b10000101_01010_11101_00000_100_10_1001 = .ok (.cvtif 10 29 4 2 9)
    ∧ decodeWord 0b10000110_10111_10010_00000_011_01_1110 = .ok (.cvtifz 23 18 3 1 14)
    ∧ decodeWord 0b10000111_11001_11101_10010_111_01_1011 = .ok (.cvtbf 25 29 18 7 1 11)
    ∧ decodeWord 0b10001000_01110_11001_11011_010_01_1100 = .ok (.cvtbfz 14 25 27 2 1 12)
    ∧ decodeWord 0b10001001_00101_01110_01001_111_10_1011 = .ok (.cvthf 5 14 9 7 2 11) := by
  refine ⟨rfl, rfl, rfl, rfl, rfl, rfl, rfl, rfl, rfl, rfl, rfl, rfl, rfl, rfl⟩

/-- R175, R176, R177, R178, R180: words written from the encodings, field by field. -/
theorem test_words_instructions_float_convert_4 :
    decodeWord 0b10001010_10111_10100_11011_001_01_0010 = .ok (.cvthfz 23 20 27 1 1 2)
    ∧ decodeWord 0b10001011_01010_11101_01100_110_01_1011 = .ok (.cvtfb 10 29 12 6 1 11)
    ∧ decodeWord 0b10001100_10111_10010_11011_101_10_1001 = .ok (.cvtfh 23 18 27 5 2 9)
    ∧ decodeWord 0b10001101_11001_11101_10010_111_01_1011 = .ok (.cvte4 25 29 18 7 1 11)
    ∧ decodeWord 0b10001110_01110_11001_11011_010_01_1100 = .ok (.cvte4z 14 25 27 2 1 12)
    ∧ decodeWord 0b10001111_00101_01110_01001_111_10_1011 = .ok (.cvte5 5 14 9 7 2 11)
    ∧ decodeWord 0b10010000_10111_10100_11011_001_01_0010 = .ok (.cvte5z 23 20 27 1 1 2)
    ∧ decodeWord 0b10010001_01010_11101_01100_110_01_1011 = .ok (.cvtfe4 10 29 12 6 1 11)
    ∧ decodeWord 0b10010010_10111_10010_11011_101_10_1001 = .ok (.cvtfe5 23 18 27 5 2 9)
    ∧ decodeWord 0b10010011_11001_11101_10010_111_01_1011 = .ok (.cvtq4 25 29 18 7 1 11)
    ∧ decodeWord 0b10010100_01110_11001_11011_010_01_1100 = .ok (.cvtq4z 14 25 27 2 1 12)
    ∧ decodeWord 0b10010101_00101_01110_01001_111_10_1011 = .ok (.cvtfq4 5 14 9 7 2 11)
    ∧ decodeWord 0b10010110_10111_10100_00000_011_01_1101 = .ok (.qsc 23 20 3 1 13) := by
  refine ⟨rfl, rfl, rfl, rfl, rfl, rfl, rfl, rfl, rfl, rfl, rfl, rfl, rfl⟩

/-- R189, R190, R191, R192: words written from the encodings, field by field. -/
theorem test_words_instructions_memory_sync_1 :
    decodeWord 0b10100000_01010_11101_00000_100_10_0000 = .ok (.ld8 10 29 4 2)
    ∧ decodeWord 0b10100001_10111_10010_00000_011_01_0000 = .ok (.ld8s 23 18 3 1)
    ∧ decodeWord 0b10100010_11001_11101_00000_010_11_0000 = .ok (.ld16 25 29 2 3)
    ∧ decodeWord 0b10100011_01110_11001_00000_011_10_0000 = .ok (.ld16s 14 25 3 2)
    ∧ decodeWord 0b10100100_00101_01110_00000_001_11_0000 = .ok (.ld32 5 14 1 3)
    ∧ decodeWord 0b10100101_10111_10100_11011_001_01_0000 = .ok (.st8 23 20 27 1 1)
    ∧ decodeWord 0b10100110_01010_11101_01100_110_01_0000 = .ok (.st16 10 29 12 6 1)
    ∧ decodeWord 0b10100111_10111_10010_11011_101_10_0000 = .ok (.st32 23 18 27 5 2)
    ∧ decodeWord 0b10101000_11001_11101_00000_010_11_0100 = .ok (.ldg 25 29 2 3 4)
    ∧ decodeWord 0b10101001_01110_11001_11011_010_01_1100 = .ok (.stg 14 25 27 2 1 12)
    ∧ decodeWord 0b10101010_00101_00000_00000_000_10_0000 = .ok (.fence 5 2)
    ∧ decodeWord 0b10101011_10111_10100_11011_001_01_0000 = .ok (.aadd 23 20 27 1 1)
    ∧ decodeWord 0b10101100_01010_11101_01100_110_01_0000 = .ok (.asub 10 29 12 6 1)
    ∧ decodeWord 0b10101101_10111_10010_11011_101_10_0000 = .ok (.amin 23 18 27 5 2) := by
  refine ⟨rfl, rfl, rfl, rfl, rfl, rfl, rfl, rfl, rfl, rfl, rfl, rfl, rfl, rfl⟩

/-- R192, R193: words written from the encodings, field by field. -/
theorem test_words_instructions_memory_sync_2 :
    decodeWord 0b10101110_11001_11101_10010_111_01_0000 = .ok (.amax 25 29 18 7 1)
    ∧ decodeWord 0b10101111_01110_11001_11011_010_01_0000 = .ok (.aminn 14 25 27 2 1)
    ∧ decodeWord 0b10110000_00101_01110_01001_111_10_0000 = .ok (.amaxn 5 14 9 7 2)
    ∧ decodeWord 0b10110001_10111_10100_11011_001_01_0000 = .ok (.aand 23 20 27 1 1)
    ∧ decodeWord 0b10110010_01010_11101_01100_110_01_0000 = .ok (.aor 10 29 12 6 1)
    ∧ decodeWord 0b10110011_10111_10010_11011_101_10_0000 = .ok (.axor 23 18 27 5 2)
    ∧ decodeWord 0b10110100_11001_11101_10010_111_01_0000 = .ok (.axchg 25 29 18 7 1)
    ∧ decodeWord 0b10110101_01110_11001_11011_010_01_0_100 = .ok (.acas 14 25 27 2 1 4)
    ∧ decodeWord 0b10110110_00101_01110_01001_111_10_0000 = .ok (.afadd 5 14 9 7 2)
    ∧ decodeWord 0b10110111_10111_10100_11011_001_01_0000 = .ok (.abadd2 23 20 27 1 1)
    ∧ decodeWord 0b10111000_01010_11101_01100_110_01_0000 = .ok (.atake 10 29 12 6 1)
    ∧ decodeWord 0b10111001_10111_10010_11011_101_10_0000 = .ok (.agive 23 18 27 5 2)
    ∧ decodeWord 0b10111010_11001_11101_10010_111_01_0000 = .ok (.radd 25 29 18 7 1)
    ∧ decodeWord 0b10111011_01110_11001_11011_010_01_0000 = .ok (.rmin 14 25 27 2 1) := by
  refine ⟨rfl, rfl, rfl, rfl, rfl, rfl, rfl, rfl, rfl, rfl, rfl, rfl, rfl, rfl⟩

/-- R193, R204, R205, R206: words written from the encodings, field by field. -/
theorem test_words_instructions_memory_sync_3 :
    decodeWord 0b10111100_00101_01110_01001_111_10_0000 = .ok (.rmax 5 14 9 7 2)
    ∧ decodeWord 0b10111101_10111_10100_11011_001_01_0000 = .ok (.rminn 23 20 27 1 1)
    ∧ decodeWord 0b10111110_01010_11101_01100_110_01_0000 = .ok (.rmaxn 10 29 12 6 1)
    ∧ decodeWord 0b10111111_10111_10010_11011_101_10_0000 = .ok (.rand 23 18 27 5 2)
    ∧ decodeWord 0b11000000_11001_11101_10010_111_01_0000 = .ok (.ror 25 29 18 7 1)
    ∧ decodeWord 0b11000001_01110_11001_11011_010_01_0000 = .ok (.rxor 14 25 27 2 1)
    ∧ decodeWord 0b11000010_00101_01110_01001_111_10_0000 = .ok (.rfadd 5 14 9 7 2)
    ∧ decodeWord 0b11000011_10111_10100_11011_001_01_0000 = .ok (.rbadd2 23 20 27 1 1)
    ∧ decodeWord 0b11001000_01010_11101_01100_101110_000 = .ok (.copy 10 29 12 46)
    ∧ decodeWord 0b11001001_11000_00000_00000_110111_010 = .ok (.carm 55 2)
    ∧ decodeWord 0b11001010_11000_00000_00000_000000_001 = .ok (.cdis 1)
    ∧ decodeWord 0b11001011_01110_00000_00000_011001_000 = .ok (.cstat 14 25)
    ∧ decodeWord 0b11001100_00101_01110_01001_000000000 = .ok (.tagany 5 14 9)
    ∧ decodeWord 0b11001101_10111_10100_11011_000000000 = .ok (.tagall 23 20 27) := by
  refine ⟨rfl, rfl, rfl, rfl, rfl, rfl, rfl, rfl, rfl, rfl, rfl, rfl, rfl, rfl⟩

/-- R204, R207, R208, R209, R211: words written from the encodings, field by field. -/
theorem test_words_instructions_memory_sync_4 :
    decodeWord 0b11001110_01010_11101_01100_000000000 = .ok (.tagff 10 29 12)
    ∧ decodeWord 0b11001111_11000_10111_10010_000000000 = .ok (.tagclr 23 18)
    ∧ decodeWord 0b11010000_11001_11101_10010_111_01_0000 = .ok (.barinit 25 29 18 7 1)
    ∧ decodeWord 0b11010001_01110_11001_00000_011_10_0000 = .ok (.bararr 14 25 3 2)
    ∧ decodeWord 0b11010010_00101_01110_00000_001_11_0000 = .ok (.barkill 5 14 1 3)
    ∧ decodeWord 0b11010011_10111_10100_00000_011_01_0000 = .ok (.barq 23 20 3 1)
    ∧ decodeWord 0b11010100_01010_11101_01100_110_000000 = .ok (.walk 10 29 12 6)
    ∧ decodeWord 0b11010101_10111_10010_11011_0101_00000 = .ok (.sigsend 23 18 27 5)
    ∧ decodeWord 0b11010110_11001_11101_10010_000000000 = .ok (.event 25 29 18) := by
  refine ⟨rfl, rfl, rfl, rfl, rfl, rfl, rfl, rfl, rfl⟩

/-- R235, R236, R238, R239, R240, R241, R242, R243, R244, R245, R246: words written from the encodings, field by field. -/
theorem test_words_instructions_segment_press_1 :
    decodeWord 0b11011000_01110_11001_00000_011_00000_1 = .ok (.segstep 14 25 3 1)
    ∧ decodeWord 0b11011001_00101_01110_00000_001_11_000_1 = .ok (.segend 5 14 1 3 1)
    ∧ decodeWord 0b11011010_11000_10111_00000_100_000000 = .ok (.sumnew 23 4)
    ∧ decodeWord 0b11011011_11000_01010_11101_000000000 = .ok (.sumapp 10 29)
    ∧ decodeWord 0b11011100_11000_10111_10010_0_11_000000 = .ok (.sumbsc 23 18 3)
    ∧ decodeWord 0b11011101_11000_11001_11101_000000000 = .ok (.sumpatch 25 29)
    ∧ decodeWord 0b11011110_01110_00000_11001_00000_1011 = .ok (.sumrd 14 25 11)
    ∧ decodeWord 0b11011111_11000_00000_00000_000000000 = .ok (.sumseal)
    ∧ decodeWord 0b11100000_11000_10111_00000_000000000 = .ok (.ptbl 23)
    ∧ decodeWord 0b11100001_11000_01010_11101_000000000 = .ok (.pmask 10 29)
    ∧ decodeWord 0b11100010_11000_10111_00000_0010_00000 = .ok (.ppoint 23 2)
    ∧ decodeWord 0b11100011_11000_00000_00000_1001_1_0000 = .ok (.pclr 9 1)
    ∧ decodeWord 0b11100100_11000_01110_00000_1001_00000 = .ok (.pseg 14 9)
    ∧ decodeWord 0b11100101_11000_00101_01110_1001_00000 = .ok (.pdense 5 14 9) := by
  refine ⟨rfl, rfl, rfl, rfl, rfl, rfl, rfl, rfl, rfl, rfl, rfl, rfl, rfl, rfl⟩

/-- R247, R248, R249, R250, R251: words written from the encodings, field by field. -/
theorem test_words_instructions_segment_press_2 :
    decodeWord 0b11100110_11000_10111_10100_0000_011_00 = .ok (.pvlda 23 20 3)
    ∧ decodeWord 0b11100111_11000_01010_11101_0000_100_00 = .ok (.pvldb 10 29 4)
    ∧ decodeWord 0b11101000_11000_10111_10010_00000_1011 = .ok (.pouter 23 18 11)
    ∧ decodeWord 0b11101001_11000_11001_11101_0010_11_000 = .ok (.pread 25 29 2 3)
    ∧ decodeWord 0b11101010_01110_11001_00000_000000000 = .ok (.pstat 14 25)
    ∧ decodeWord 0b11101011_00101_01110_00000_000000000 = .ok (.psync 5 14) := by
  refine ⟨rfl, rfl, rfl, rfl, rfl, rfl⟩

/-- R312, R313: words written from the encodings, field by field. -/
theorem test_words_loupe_traversal :
    decodeWord 0b11110000_10111_00000_00000_01_0111011 = .ok (.wrd 23 1 59)
    ∧ decodeWord 0b11110001_01010_00000_00000_00_0011101 = .ok (.wptr 10 29)
    ∧ decodeWord 0b11110010_10111_00000_00000_10_0000000 = .ok (.wcmp 23 2)
    ∧ decodeWord 0b11110011_11001_11101_00000_10_0000000 = .ok (.whash 25 29 2)
    ∧ decodeWord 0b11110100_11000_00000_00000_00000_1110 = .ok (.wret 14)
    ∧ decodeWord 0b11110101_11000_00000_00000_000000000 = .ok (.wmiss)
    ∧ decodeWord 0b11110110_11000_00000_00000_000000000 = .ok (.wfail)
    ∧ decodeWord 0b11110111_01010_00000_00000_00_0011101 = .ok (.wnext 10 29) := by
  refine ⟨rfl, rfl, rfl, rfl, rfl, rfl, rfl, rfl⟩

/-- R415: words written from the encodings, field by field. -/
theorem test_words_faults_and_containment :
    decodeWord 0b11111000_11000_10111_10010_000000000 = .ok (.trap 23 18)
    ∧ decodeWord 0b11111001_11000_11001_11101_000000000 = .ok (.brk 25 29) := by
  refine ⟨rfl, rfl⟩

/-- R281, R282: words written from the encodings, field by field. -/
theorem test_words_stream_units :
    decodeWord 0b11111010_00000_00000_00000_000000000 = .ok (.whey)
    ∧ decodeWord 0b11111101_00101_01110_00000_01001_0111 = .ok (.xctl 5 14 9 7)
    ∧ decodeWord 0b11111110_10111_00000_00000_10100_1011 = .ok (.xstat 23 20 11) := by
  refine ⟨rfl, rfl, rfl⟩

/-- R325, R326: words written from the encodings, field by field. -/
theorem test_words_regions :
    decodeWord 0b11111011_01010_00000_00000_101_000000 = .ok (.ident 10 5)
    ∧ decodeWord 0b11111100_10111_00000_00000_000000000 = .ok (.clock 23) := by
  refine ⟨rfl, rfl⟩

/-! The well-formedness checks: for each, a term that it refuses beside one that it accepts. -/

/-- R114: PO 00 with PI not 0, PO 11 without a flag, SEL without a predicate; R62, R114: a forbidden tag, a tag without a channel. -/
theorem test_wf_modifiers :
    wfElem (.add 8 8 9 1 0 0) = false ∧ wfElem (.add 8 8 9 1 1 0) = true
    ∧ wfElem (.nop 1 3) = false ∧ wfElem (.nop 1 2) = true
    ∧ wfElem (.sel 8 9 10 0 0 0) = false ∧ wfElem (.sel 8 9 10 3 3 0) = true
    ∧ wfElem (.add 8 8 9 0 0 0x7) = false ∧ wfElem (.add 8 8 9 0 0 0xC) = false ∧ wfElem (.add 8 8 9 0 0 0xD) = false
    ∧ wfElem (.add 8 8 9 0 0 0xE) = false ∧ wfElem (.add 8 8 9 0 0 0xF) = false ∧ wfElem (.add 8 8 9 0 0 0xB) = true
    ∧ wfElem (.add 0 8 9 0 0 1) = false ∧ wfElem (.add 0 8 9 0 0 0) = true := by decide

/-- R111, R137: a destination code outside each instruction's list, at the edge of the list. -/
theorem test_wf_destinations :
    wfElem (.add 25 8 9 0 0 0) = false ∧ wfElem (.add 24 8 9 0 0 0) = true
    ∧ wfElem (.pass 7 8 0 0) = false ∧ wfElem (.pass 16 8 0 0) = false ∧ wfElem (.pass 15 8 0 0) = true
    ∧ wfElem (.mac 8 0 1 0 0 0) = false ∧ wfElem (.mac 7 0 1 0 0 0) = true
    ∧ wfElem (.cntset 24 0 0 0) = false ∧ wfElem (.cntset 27 0 0 0) = false ∧ wfElem (.cntset 26 0 0 0) = true
    ∧ wfElem (.ld32 16 0 0 0) = false ∧ wfElem (.ld32 24 0 0 0) = false ∧ wfElem (.ld32 15 0 0 0) = true
    ∧ wfElem (.st32 7 0 0 0 0) = false ∧ wfElem (.st32 24 0 0 0 0) = true
    ∧ wfElem (.aadd 16 0 0 0 0) = false ∧ wfElem (.aadd 24 0 0 0 0) = true
    ∧ wfElem (.fence 24 0) = false ∧ wfElem (.fence 8 0) = true ∧ wfElem (.psync 7 8) = false
    ∧ wfElem (.clock 1) = false ∧ wfElem (.clock 7) = false ∧ wfElem (.clock 6) = true ∧ wfElem (.clock 16) = false := by decide

/-- R111, R140, R145: an operand code outside each instruction's list. -/
theorem test_wf_operands :
    wfElem (.pass 8 7 0 0) = false ∧ wfElem (.pass 8 24 0 0) = false ∧ wfElem (.pass 8 23 0 0) = true
    ∧ wfElem (.drop 16 0 0) = false ∧ wfElem (.drop 15 0 0) = true
    ∧ wfElem (.pand 8 8 0 0 0 0) = false ∧ wfElem (.pand 8 0 8 0 0 0) = false ∧ wfElem (.pand 8 7 7 0 0 0) = true
    ∧ wfElem (.iter 8 2 0 0) = false ∧ wfElem (.iter 8 1 0 0) = true
    ∧ wfElem (.segstep 8 16 0 0) = false ∧ wfElem (.segstep 8 15 0 0) = true := by decide

/-- R190, R215, R232, R236, R325: a modifier field outside its range. -/
theorem test_wf_fields :
    wfElem (.ldg 0 8 0 0 2) = false ∧ wfElem (.ldg 0 8 0 0 1) = true ∧ wfElem (.stg 24 8 9 0 0 2) = false
    ∧ wfElem (.segend 8 8 0 3 0) = false ∧ wfElem (.segend 8 8 0 2 0) = true
    ∧ wfElem (.sumnew 8 3) = false ∧ wfElem (.sumnew 8 2) = true
    ∧ wfElem (.pclr 1 1) = false ∧ wfElem (.pclr 0 1) = true ∧ wfElem (.pclr 1 0) = true
    ∧ wfElem (.pvlda 8 9 6) = false ∧ wfElem (.pvldb 8 9 6) = false ∧ wfElem (.pvlda 8 9 5) = true
    ∧ wfElem (.pread 8 9 0 3) = false ∧ wfElem (.pread 8 9 0 2) = true
    ∧ wfElem (.ident 0 4) = false ∧ wfElem (.ident 0 3) = true := by decide

/-- R122, R308, R309, R311: the walk group outside a Loupe, and what a Loupe program may not hold. -/
theorem test_wf_loupe :
    wfElem (.wrd 16 0 0) = false ∧ wfElem .wmiss = false ∧ wfElem (.wret 0) = false ∧ wfElem (.round) = false
    ∧ wfLoupe (.wrd 15 0 0) = false ∧ wfLoupe (.wrd 24 0 0) = true
    ∧ wfLoupe (.wcmp 24 0) = false ∧ wfLoupe (.wcmp 23 0) = true
    ∧ wfLoupe (.add 4 0 1 0 0 0) = false ∧ wfLoupe (.add 5 0 1 0 0 0) = true ∧ wfLoupe (.add 8 0 1 0 0 0) = false
    ∧ wfLoupe (.add 0 7 1 0 0 0) = false ∧ wfLoupe (.add 0 6 24 0 0 0) = true ∧ wfLoupe (.add 0 0 8 0 0 0) = false
    ∧ wfLoupe (.add 0 0 1 0 0 1) = false ∧ wfLoupe (.adds 0 0 1 0 0 0) = false ∧ wfLoupe (.fadd 0 0 1 0 0 0) = false
    ∧ wfLoupe (.lea 5 0 1 0 0 0) = true ∧ wfLoupe (.lea 16 0 1 0 0 0) = false ∧ wfLoupe .halt = false := by decide

/-- R67, R109: an unused rule with a word, a tag test without a port, a reserved trigger bit, a value bit outside its mask. -/
theorem test_wf_guards :
    wfGuard 0 1 = false ∧ wfGuard 0 0 = true ∧ wfGuard 0x00000001 0 = true
    ∧ wfGuard 0x00010001 0 = false ∧ wfGuard 0x01010001 0 = true
    ∧ wfGuard 0x00002001 0 = false ∧ wfGuard 0x00000011 0 = false ∧ wfGuard 0x00000321 0 = false
    ∧ wfGuardLoupe 0x01010001 0 = true ∧ wfGuardLoupe 0x00000401 0 = false ∧ wfGuardLoupe 0x00000003 0 = false := by decide

/-! Small states. Element 16 is element 0 of C-tile 1, in region 0. -/

/-- A token of each tag. -/
def tk (v : Word) (t : Tag) : Token := ⟨v, t⟩

/-- An input end that holds these tokens. -/
def inWith (l : List Token) : InEnd := { wired := true, buf := l }

/-- A running element with tokens at the heads of i0 and i1 and every output end connected. -/
def el (a b : List Token) : Elem :=
  { life := .running, d := #v[7, 0xFFFFFFFF, 0, 0x80000000, 4, 0, 0, 0], p := 0b10000001
    c := #v[1, 2, 3, 0, 0, 0, 0, 0]
    ports := { ins := #v[inWith a, inWith b, {}, {}, {}, {}, {}, {}], outs := Vector.replicate 8 { wired := true } } }

/-- Rule 0 of element 16 executes, with these data words at i0 and i1. -/
def st (a b : Word) : State := { elems := [(16, el [tk a 0] [tk b 0])], cur := .rule 16 0 }

/-- A walk of slot 3 of the Loupe of E-tile 0 executes rule 0. -/
def wst : State :=
  { loupes := [(0, { on := true, slots := (Vector.replicate 32 {}).set 3 { st := .running, v := #v[5, 6, 7, 8], key := 6, ptr := 64 } })]
    cur := .walk 0 3 0 }

/-- Premises of a rule that reads i0 and i1: its operands and its room. -/
def Ready2 (d : BitVec 5) (lat : Nat) : Prop := ∃ x, (st 5 3).armed 16 0 (rq d (some 8) (some 9) 0 3 lat) x
    ∧ x.a.data = 5 ∧ x.b.data = 3 ∧ (st 5 3).hasRoom 16 0 (rq d (some 8) (some 9) 0 3 lat) (deliver d 0 8) true

/-- Premises of a rule that reads i0. -/
def Ready1 (d : BitVec 5) (lat : Nat) : Prop := ∃ x, (st 5 3).armed 16 0 (rq d (some 8) none 0 3 lat) x
    ∧ x.a.data = 5 ∧ (st 5 3).hasRoom 16 0 (rq d (some 8) none 0 3 lat) (deliver d 0 8) true

/-- Premises of a walk's rule. -/
def InWalk : Prop := wst.cur = .walk 0 3 0

theorem ready2 (d : BitVec 5) (h : d = 10 ∨ d = 4) (lat : Nat) (hl : lat = 1 ∨ lat = 4 ∨ lat = 12) : Ready2 d lat := by
  rcases h with rfl | rfl <;> rcases hl with rfl | rfl | rfl <;> exact ⟨_, ⟨rfl, rfl⟩, rfl, rfl, rfl⟩

theorem ready1 (d : BitVec 5) (h : d = 10 ∨ d = 4) (lat : Nat) (hl : lat = 1 ∨ lat = 4 ∨ lat = 8 ∨ lat = 12) : Ready1 d lat := by
  rcases h with rfl | rfl <;> rcases hl with rfl | rfl | rfl | rfl <;> exact ⟨_, ⟨rfl, rfl⟩, rfl, rfl⟩

/-! Witnesses: states and operands that meet the premises of each statement. -/

theorem witness_EncodeDecode : encode (.iter 8 0 1 3) = some 0x0F400070 ∧ encode (.wret 15) = some 0xF4C0000F := by decide

theorem witness_DecodeEncode : decodeWord 0x0F400070 = .ok (.iter 8 0 1 3) ∧ decodeWord 0xF4C0000F = .ok (.wret 15) := ⟨rfl, rfl⟩

/-- Both sides of each edge of the unassigned opcodes. -/
theorem witness_SpecWordsRefusals :
    (decodeWord 0x12000000).toOption.isSome = true ∧ decodeWord 0x13000000 = .error .badOp ∧ decodeWord 0x1F000000 = .error .badOp
    ∧ (decodeWord 0x20000000).toOption.isSome = true ∧ (decodeWord 0x55000000).toOption.isSome = true
    ∧ decodeWord 0x56000000 = .error .badOp ∧ decodeWord 0x5F000000 = .error .badOp ∧ (decodeWord 0x60000000).toOption.isSome = true := by
  refine ⟨rfl, rfl, rfl, rfl, rfl, rfl, rfl, rfl⟩

/-- A state whose element 16 and Loupe 0 hold a rule. -/
def placed (g : Word) : State :=
  { elems := [(16, { actions := (Vector.replicate 16 0).set 0 0x0F400070 })]
    loupes := [(0, { actions := (Vector.replicate 16 0).set 0 0xF5C00000, guards := (Vector.replicate 16 0).set 0 g
                     slots := (Vector.replicate 32 {}).set 3 { st := .running } })] }

theorem witness_StepRunsDecoded :
    decodeWord ((placed 1).ruleWord 16 0) = .ok (.iter 8 0 1 3)
    ∧ walkRule ((placed 1).loupe 0) (((placed 1).loupe 0).slot 3).p = some 0 ∧ decodeWord ((placed 1).walkWord 0 0) = .ok .wmiss
    ∧ walkRule ((placed 0).loupe 0) (((placed 0).loupe 0).slot 3).p = none := ⟨rfl, rfl, rfl, rfl⟩

theorem witness_PlacedWordRuns :
    decodeWord 0x0F400070 = .ok (.iter 8 0 1 3) ∧ fldN (0x0F400070 : Word) 24 8 < 0xF0
    ∧ decodeWord 0xF5C00000 = .ok .wmiss ∧ fldN (0xF5C00000 : Word) 24 8 = 0xF5
    ∧ ((State.reset.loupe 0).guards.toList.drop 1).all (fun g => fldN g 0 1 == 0) = true := ⟨rfl, by decide, rfl, rfl, rfl⟩

theorem witness_InvKept : ({ agenda := [.ev (.haltedDiscard 16)] } : State).Inv
    ∧ step { agenda := [.ev (.haltedDiscard 16)] } = .next {} := ⟨rfl, rfl⟩

theorem witness_MemoryLaws : Memory.wf [] = true ∧ Memory.wf [(3, 1), (4, 255)] = true := by decide

/-- A head absent, a MARK head, a result with and without room, an abort. -/
theorem witness_RuleWaits :
    (({ elems := [(16, el [] [tk 3 0])] } : State).elem 16).input (rq 10 (some 8) (some 9) 0 0 1) = none
    ∧ (({ elems := [(16, el [] [tk 3 0])] } : State).elem 16).ports.head 0 = none
    ∧ (({ elems := [(16, el [tk 0 Tag.mark] [tk 3 0])] } : State).elem 16).ports.head 0 = some (tk 0 Tag.mark)
    ∧ (({ elems := [(16, el [tk 0 Tag.drain] [tk 3 0])] } : State).elem 16).ports.head 0 = some (tk 0 Tag.drain)
    ∧ (((st 5 3).elem 16).input (rq 10 (some 8) (some 9) 0 0 1)).isSome = true
    ∧ (st 5 3).hasRoom 16 0 (rq 10 (some 8) (some 9) 0 0 1) (deliver 10 0 8) false
    ∧ ¬ (st 5 3).hasRoom 16 0 (rq 10 (some 8) (some 9) 0 0 1) (deliver 10 0 8 ++ deliver 10 0 8 ++ deliver 10 0 8) false := by
  refine ⟨rfl, rfl, rfl, rfl, rfl, rfl, ?_⟩
  unfold State.hasRoom; decide +kernel

theorem witness_CommitWrites : (rq 10 (some 8) (some 9) 0 0 1).lat = 1 := rfl

/-- A cycle at its limit less one, with a DATA token at its entry that an ADD takes. -/
theorem witness_CommitOnceAndControl : (rq 10 (some 8) (some 9) 0 0 1).lat = 1 ∧ 15 < 16
    ∧ (let e : Elem := { el [tk 1 0] [tk 2 0] with
        cycles := [⟨5, 0, 2, 1, 4⟩], guards := (Vector.replicate 16 0).set 0 1, actions := (Vector.replicate 16 0).set 0 0x20521200 }
       e.ready {} false 0 = true ∧ Place.inp 0 ∈ (e.foot 0).writes ∧ (e.headTok 0).any isData = true) := by decide +kernel

theorem witness_LongLatency : 1 < (rq 10 (some 8) (some 9) 0 0 4).lat
    ∧ (({ elems := [(16, { el [] [] with pend := [{ id := 2, rule := 0, puts := [.d 3 5] }] })] } : State).elem 16).pend? 2
      = some { id := 2, rule := 0, job := .timed, left := 0, puts := [.d 3 5] } := by decide +kernel

theorem witness_AbortFreezes :
    (∃ x t, ((st 5 7).elem 16).life = .running ∧ (st 5 7).armed 16 0 (rq 10 (some 8) (some 9) 0 0 1) x ∧ fldN x.b.data 0 4 = 7
      ∧ exec (.mktag 10 8 9 0 0) (st 5 7) = .next t)
    ∧ (∃ x t, (st 5 12).armed 16 0 (rq 10 (some 8) (some 9) 0 0 1) x ∧ 12 ≤ fldN x.b.data 0 4 ∧ exec (.mktag 10 8 9 0 0) (st 5 12) = .next t)
    ∧ (∃ x t, (st 0 7).armed 16 0 (rq 24 (some 8) none 0 0 1) x ∧ x.a.data = 0 ∧ exec (.cntset 25 8 0 0) (st 0 7) = .next t) :=
  ⟨⟨_, _, rfl, ⟨rfl, rfl⟩, rfl, rfl⟩, ⟨_, _, ⟨rfl, rfl⟩, by decide, rfl⟩, ⟨_, _, ⟨rfl, rfl⟩, rfl, rfl⟩⟩

theorem witness_MoveResults : Ready1 10 1 ∧ Ready2 4 1 ∧ InWalk
    ∧ (∃ x, (st 5 3).armed 16 0 (rq 24 none none 0 0 1) x ∧ (st 5 3).hasRoom 16 0 (rq 24 none none 0 0 1) [] false)
    ∧ (∃ x, (st 5 6).armed 16 0 (rq 10 (some 8) (some 9) 0 0 1) x ∧ fldN x.b.data 0 4 < 7)
    ∧ (∃ x, (st 5 11).armed 16 0 (rq 10 (some 8) (some 9) 0 0 1) x ∧ 8 ≤ fldN x.b.data 0 4 ∧ fldN x.b.data 0 4 < 12) :=
  ⟨ready1 10 (.inl rfl) 1 (.inl rfl), ready2 4 (.inr rfl) 1 (.inl rfl), rfl, ⟨_, ⟨rfl, rfl⟩, rfl⟩, ⟨_, ⟨rfl, rfl⟩, by decide⟩,
    ⟨_, ⟨rfl, rfl⟩, by decide, by decide⟩⟩

/-- Both ends with room; o3 full. -/
theorem witness_SteerSends :
    (∃ x, (st 5 3).armed 16 0 (rq 10 (some 8) (some 9) 0 0 1) x ∧ 1 ≤ (((st 5 3).elem 16).ports.outAt 2).room
      ∧ 1 ≤ (((st 5 3).elem 16).ports.outAt (2 ^^^ 1)).room ∧ (st 5 3).hasRoom 16 0 (rq 10 (some 8) (some 9) 0 0 1) [.out 2 [x.a]] true)
    ∧ ((({ el [] [] with ports := { (el [] []).ports with
        outs := (Vector.replicate 8 { wired := true }).set 3 { wired := true, slots := [.held 0, .held 1] } } } : Elem).ports.outAt (2 ^^^ 1)).room = 0) :=
  ⟨⟨_, ⟨rfl, rfl⟩, by decide, by decide, rfl⟩, rfl⟩

theorem witness_PredicateResults : Ready1 10 1 ∧ InWalk ∧ (∃ x, (st 5 3).armed 16 0 (rq 10 none none 0 3 1) x)
    ∧ (∃ x, (st 5 3).armed 16 0 (rq 24 (some 8) none 0 0 1) x ∧ (st 5 3).hasRoom 16 0 (rq 24 (some 8) none 0 0 1) [] false) :=
  ⟨ready1 10 (.inl rfl) 1 (.inl rfl), rfl, ⟨_, ⟨rfl, rfl⟩⟩, ⟨_, ⟨rfl, rfl⟩, rfl⟩⟩

/-- A counter at its last value with and without a level, and one that carries into l1. -/
theorem witness_CounterResults :
    (∃ x, (st 5 3).armed 16 0 (rq 24 (some 8) none 0 0 1) x ∧ x.a.data ≠ 0
      ∧ ((st 5 3).elem 16).roomFor (((st 5 3).elem 16).allPuts 0 (rq 24 (some 8) none 0 0 1) [] false) = true)
    ∧ (∃ x, (st 5 3).armed 16 0 (rq 24 none none 0 0 1) x ∧ (st 5 3).hasRoom 16 0 (rq 24 none none 0 0 1) [] false)
    ∧ (let e : Elem := { el [] [] with l := #v[{ bound := 2, value := 1, wlevel := 1, chain := 1 }, { bound := 1, value := 0, wlevel := 3 }] }
       let s : State := { elems := [(16, e)], cur := .rule 16 0 }
       ∃ x, s.armed 16 0 (rq 8 none none 1 3 1) x ∧ 2 ≤ ((s.elem 16).ports.outAt 0).room
        ∧ s.hasRoom 16 0 (rq 8 none none 1 3 1) [.out 0 [tk 1 Tag.last, tk 1 (BitVec.ofNat 4 4)]] true) :=
  ⟨⟨_, ⟨rfl, rfl⟩, by decide, rfl⟩, ⟨_, ⟨rfl, rfl⟩, rfl⟩, ⟨_, ⟨rfl, rfl⟩, by decide, rfl⟩⟩

theorem witness_IntegerArithmetic : Ready2 10 1 ∧ Ready1 10 1 ∧ Ready2 4 1 ∧ InWalk :=
  ⟨ready2 10 (.inl rfl) 1 (.inl rfl), ready1 10 (.inl rfl) 1 (.inl rfl), ready2 4 (.inr rfl) 1 (.inl rfl), rfl⟩

theorem witness_LogicAndShift : Ready2 10 1 ∧ Ready1 10 1 ∧ InWalk :=
  ⟨ready2 10 (.inl rfl) 1 (.inl rfl), ready1 10 (.inl rfl) 1 (.inl rfl), rfl⟩

theorem witness_BitFields : Ready2 10 1 ∧ Ready1 10 1 ∧ Ready2 4 1 ∧ InWalk :=
  ⟨ready2 10 (.inl rfl) 1 (.inl rfl), ready1 10 (.inl rfl) 1 (.inl rfl), ready2 4 (.inr rfl) 1 (.inl rfl), rfl⟩

theorem witness_CompareResults : Ready2 10 1 ∧ InWalk := ⟨ready2 10 (.inl rfl) 1 (.inl rfl), rfl⟩

theorem witness_PackedLanes : Ready2 10 1 ∧ InWalk := ⟨ready2 10 (.inl rfl) 1 (.inl rfl), rfl⟩

theorem witness_DotLeaHashDivide : Ready2 10 1 ∧ Ready1 10 1 ∧ Ready2 4 1 ∧ InWalk :=
  ⟨ready2 10 (.inl rfl) 1 (.inl rfl), ready1 10 (.inl rfl) 1 (.inl rfl), ready2 4 (.inr rfl) 1 (.inl rfl), rfl⟩

/-- A magnitude that the grid holds, one between two of its values, one that flushes and one that overflows (BF16). -/
theorem witness_RoundOnce : bf16.grid 3 0 ≤ 0 ∧ 0 < bf16.grid 0x1FF 0 ∧ (bf16.round false false true 1 (-200)).inc.flush = 1
    ∧ (bf16.round false false false 0x1FF 0).inc.sat = 0 ∧ (bf16.round false false false 0x1FF 0).inc.inf = 0
    ∧ (bf16.round false false false 1 128).inc.inf = 1 := by decide +kernel

theorem witness_QuotientRoundsOnce : (1 : Nat) ≠ 0 ∧ (3 : Nat) ≠ 0 ∧ (quot 1 0 3 0).2 + 2 ≤ -10 := by decide +kernel

theorem witness_FloatSums : Ready2 10 4 ∧ Ready2 4 4 := ⟨ready2 10 (.inl rfl) 4 (.inr (.inl rfl)), ready2 4 (.inr rfl) 4 (.inr (.inl rfl))⟩

theorem witness_FloatQuotientRoot : Ready2 10 12 ∧ Ready1 10 12 ∧ Ready1 10 8 :=
  ⟨ready2 10 (.inl rfl) 12 (.inr (.inr rfl)), ready1 10 (.inl rfl) 12 (.inr (.inr (.inr rfl))), ready1 10 (.inl rfl) 8 (.inr (.inr (.inl rfl)))⟩

theorem witness_FloatCompareSelect : Ready2 10 4 ∧ Ready1 10 4 :=
  ⟨ready2 10 (.inl rfl) 4 (.inr (.inl rfl)), ready1 10 (.inl rfl) 4 (.inr (.inl rfl))⟩

theorem witness_FloatEstimateIntegral : Ready1 10 4 := ready1 10 (.inl rfl) 4 (.inr (.inl rfl))

theorem witness_PackedFloat : Ready2 10 4 ∧ Ready2 4 4 := ⟨ready2 10 (.inl rfl) 4 (.inr (.inl rfl)), ready2 4 (.inr rfl) 4 (.inr (.inl rfl))⟩

theorem witness_Conversions : Ready2 10 4 ∧ Ready2 4 4 ∧ Ready1 10 4 :=
  ⟨ready2 10 (.inl rfl) 4 (.inr (.inl rfl)), ready2 4 (.inr rfl) 4 (.inr (.inl rfl)), ready1 10 (.inl rfl) 4 (.inr (.inl rfl))⟩

/-! Memory. Task 0 of region 0 has windows 0 (ordinary, 64 KiB at VA 0x10000) and 1 (a barrier page in the slice of
M-tile 18 at VA 0x20000); window 2 has no permission. -/

def memWins : Vector Window 8 :=
  (Vector.replicate 8 {}).set 0 { base := 0x10000, len := 0x10000, r := true, w := true, a := true }
    |>.set 1 { base := 0x20000, len := 0x10000, r := true, w := true, a := true } |>.set 2 { base := 0x10000, len := 0x10000 }

/-- The slice of M-tile 18. -/
def slice18 : Nat := 2 ^ 40 + 18 * 2 ^ 22

/-- The pages that the translation cache of a tile holds. -/
def pages : Tlb :=
  [{ ctx := 0, base := 0x10000, big := false, leaf := some ⟨0x50000, true, false, false, false, true, true⟩ },
   { ctx := 0, base := 0x20000, big := false, leaf := some ⟨slice18, true, false, true, false, true, true⟩ },
   { ctx := 0, base := 0x30000, big := false, leaf := none, bad := [(.read, 0x12), (.write, 0x12)] }]

def task0 : Task := { st := .running, ctx := 0, taskid := 9, record := List.replicate 16 0, wins := memWins }

def mst (a b : Word) : State :=
  { st a b with tasks := [(0, task0)], tlbs := [(0, pages), (1, pages)], ctxs := [(0, { st := .active })] }

/-- Premises of a load or an atomic of `n` bytes at window offset `a`. -/
def SourceReady (a b : Word) (q : Req) (n : Nat) (perm : Window → Bool) (kind : Kind) : Prop :=
  ∃ x pa s1, (mst a b).armed 16 0 q x ∧ ((mst a b).elem 16).portRoom 0 (deliver 10 0 0) = true
    ∧ x.a.data.toNat + n ≤ ((mst a b).window ((mst a b).taskOfElem 16) 0).len
    ∧ (((mst a b).window ((mst a b).taskOfElem 16) 0).base + x.a.data.toNat) % n = 0
    ∧ perm ((mst a b).window ((mst a b).taskOfElem 16) 0) = true
    ∧ (mst a b).heldPage 16 ((mst a b).ctxOfTask ((mst a b).taskOfElem 16)) (0x10000 + x.a.data.toNat) = false
    ∧ (mst a b).translate (tileOfElem 16) ((mst a b).ctxOfTask ((mst a b).taskOfElem 16)) (0x10000 + x.a.data.toNat) kind = (.hit pa, s1)

/-- At the last place of the window for each size. -/
theorem witness_MemoryIssue :
    SourceReady 0xFFFF 3 (rq 10 (some 8) none 0 0 1) 1 Window.r .read ∧ SourceReady 0xFFFE 3 (rq 10 (some 8) none 0 0 1) 2 Window.r .read
    ∧ SourceReady 0xFFFC 3 (rq 10 (some 8) none 0 0 1) 4 Window.r .read
    ∧ SourceReady 0xFFFC 3 (rq 10 (some 8) (some 9) 0 0 1) 4 Window.a .atomic
    ∧ SourceReady 0xFFFC 3 (rq 10 (some 8) (some 9) 0 0 1) 4 Window.w .write := by
  refine ⟨?_, ?_, ?_, ?_, ?_⟩ <;> exact ⟨_, _, _, ⟨rfl, rfl⟩, rfl, by decide, rfl, rfl, rfl, rfl⟩

/-- Formats 0 and 1, and the first format that is refused. -/
theorem witness_GatherIssue :
    (∃ x sts s1, (mst 0x04030201 3).armed 16 0 (rq 10 (some 8) none 0 0 1) x
      ∧ ((mst 0x04030201 3).elem 16).portRoom 0 (deliver 10 x.a.tag 0) = true
      ∧ (mst 0x04030201 3).check 16 0 (memWins[0]) true (some .read)
          [⟨1, 1, .read⟩, ⟨2, 1, .read⟩, ⟨3, 1, .read⟩, ⟨4, 1, .read⟩] = (.ok sts, s1))
    ∧ (∃ sts s1, (mst 0x7FFF0001 3).check 16 0 (memWins[0]) true (some .read) [⟨2, 2, .read⟩, ⟨0xFFFE, 2, .read⟩] = (.ok sts, s1))
    ∧ (∃ x sts s1, (mst 0x04030201 3).armed 16 0 (rq 10 (some 8) (some 9) 0 0 1) x
      ∧ ((mst 0x04030201 3).elem 16).portRoom 0 (deliver 10 x.a.tag x.a.data) = true
      ∧ (mst 0x04030201 3).check 16 0 (memWins[0]) true none [⟨1, 1, .write 3⟩, ⟨2, 1, .write 0⟩] = (.ok sts, s1))
    ∧ (2 : BitVec 4) ≠ 0 ∧ (2 : BitVec 4) ≠ 1 :=
  ⟨⟨_, _, _, ⟨rfl, rfl⟩, rfl, rfl⟩, ⟨_, _, rfl⟩, ⟨_, _, _, ⟨rfl, rfl⟩, rfl, rfl⟩, by decide, by decide⟩

/-- A state with a store of element 16 parked on the page of VA 0x10000. -/
def onPage (s : State) : State :=
  { s with accs := [{ id := 9, src := .elem 16 7, ctx := 0, task := 0, region := 0, opc := 0xA7, va := 0x10010, size := 4, act := .write 0,
                      posted := true, st := .parked 0x13 0 }] }

/-- A passing prefix; each failing check at its edge; a bad page. -/
theorem witness_AccessChecks :
    (∃ sts s1, (mst 0 0).check 16 0 (memWins[0]) true (some .read) [⟨0, 4, .read⟩] = (.ok sts, s1))
    ∧ firstFault (memWins[0]) 0xFFFD 4 true = some 0x10 ∧ firstFault (memWins[0]) 0xFFFC 4 true = none
    ∧ firstFault (memWins[0]) 2 4 true = some 0x11 ∧ firstFault (memWins[0]) 4 4 false = some 0x13
    ∧ (∃ code s2, (mst 0 0).translate 1 0 0x30000 .read = (.bad code, s2)) ∧ (∃ s2, (mst 0 0).translate 1 0 0x40000 .read = (.miss, s2))
    ∧ (onPage (mst 0 0)).heldPage 16 0 0x10000 = true ∧ (mst 0 0).heldPage 16 0 0x10000 = false :=
  ⟨⟨_, _, rfl⟩, by decide, by decide, by decide, by decide, ⟨_, _, rfl⟩, ⟨_, rfl⟩, by decide, by decide⟩

theorem witness_AccessFaults :
    (∃ x, (mst 0xFFFD 3).armed 16 0 (rq 10 (some 8) none 0 0 1) x ∧ ((mst 0xFFFD 3).elem 16).portRoom 0 (deliver 10 x.a.tag 0) = true
      ∧ ((mst 0xFFFD 3).elem 16).life = .running
      ∧ firstFault ((mst 0xFFFD 3).window ((mst 0xFFFD 3).taskOfElem 16) 0) x.a.data.toNat 4 true = some 0x10)
    ∧ (∃ x, (mst 4 3).armed 16 0 (rq 10 (some 8) (some 9) 0 0 1) x ∧ ((mst 4 3).elem 16).portRoom 0 (deliver 10 x.a.tag x.a.data) = true
      ∧ firstFault ((mst 4 3).window ((mst 4 3).taskOfElem 16) 2) x.a.data.toNat 4 (Window.a ((mst 4 3).window 0 2)) = some 0x13)
    ∧ (∃ s1, (mst 1 0).check 16 0 (memWins[0]) true none [⟨0, 2, .read⟩, ⟨1, 2, .read⟩] = (.fail 0x11 1, s1))
    ∧ (∃ s1, (onPage (mst 0 0)).check 16 0 (memWins[0]) true (some .read) [⟨0, 2, .read⟩] = (.withdraw, s1)) :=
  ⟨⟨_, ⟨rfl, rfl⟩, rfl, rfl, by decide⟩, ⟨_, ⟨rfl, rfl⟩, rfl, by decide⟩, ⟨_, rfl⟩, ⟨_, rfl⟩⟩

/-- ATAKE at equality, and below; ACAS equal. -/
theorem witness_AtomicValues : (3 : Word).toNat ≤ (3 : Word).toNat ∧ (2 : Word).toNat < (3 : Word).toNat
    ∧ (((0xC3 : Byte), (0xB7 : Byte)) ∈ [((0xBA : Byte), (0xAB : Byte)), (0xC3, 0xB7)]) := by decide

/-- An access of element 16. -/
def acc (id : Nat) (act : Act) (st : AccSt) : Access :=
  { id := id, src := .elem 16 0, ctx := 0, task := 0, region := 0, opc := 0xA4, va := 0x10000, size := 4, act := act, st := st }

/-- An element whose operations are these. -/
def pst (l : List Pend) (accs : List Access) : State :=
  { mst 5 3 with elems := [(16, { el [tk 5 0] [tk 3 0] with pend := l, nextId := 9 })], accs := accs }

theorem witness_AccessAtHome :
    (let s := pst [] [acc 1 .read (.ready 0x50000)]
     s.acc? 1 = some (acc 1 .read (.ready 0x50000)) ∧ s.blocked (acc 1 .read (.ready 0x50000)) = false ∧ isFabric 0x50000 = false
      ∧ s.poisoned 0x50000 4 false = false ∧ ({ s with poison := [0x50000] } : State).poisoned 0x50000 4 false = true)
    ∧ (pst [] [acc 0 (.write 2) .point, acc 1 .read (.ready 0x50000)]).blocked (acc 1 .read (.ready 0x50000)) = true := by decide +kernel

theorem witness_AccessEvents :
    (let a : Access := { acc 1 (.write 5) .point with posted := true }
     let s := pst [] [a]
     s.acc? 1 = some a ∧ a.st = .point ∧ s.queued a = false
      ∧ (∃ pa s2, (s.leftTile a.src).translate (etileOf 0) 0 0x10000 .write = (.hit pa, s2))
      ∧ (∃ s2, (s.leftTile a.src).translate (etileOf 0) 0 0x50000 .write = (.miss, s2))
      ∧ (∃ code s2, (s.leftTile a.src).translate (etileOf 0) 0 0x30000 .write = (.bad code, s2)))
    ∧ (let m : MemTag := { opc := 0xA4, win := 0, scope := 0, a := 0, tag := 0 }
       let p : Pend := { id := 0, rule := 0, job := .mem m }
       let s := pst [p] [acc 1 .read (.done 7)]
       s.acc? 1 = some (acc 1 .read (.done 7)) ∧ (s.elem 16).pend? 0 = some p
        ∧ (s.accs.filter (fun b => b.src == .elem 16 0)).all (fun b => b.performed 0) = true
        ∧ ((pst [p] [acc 1 .read .point]).accs.filter (fun b => b.src == .elem 16 0)).all (fun b => b.performed 0) = false)
    ∧ (let w : PWalk := { id := 3, etile := 0, ctx := 0, va := 0x10000, kinds := [.read], places := [1] }
       let s : State := { mst 5 3 with pwalks := [w] }
       s.pwalks.find? (fun x => x.id == 3) = some w ∧ walkFrom s.mem w.va [1, 2, 3] (s.ctx 0).ptroot.toNat = none
        ∧ (walkFrom (((Memory.writeN [] 0 8 0x10001).writeN 0x10000 8 0x20001).writeN 0x20008 8 0x50005) 0x10000 [1, 2, 3] 0).isSome = true) := by
  refine ⟨⟨rfl, rfl, rfl, ⟨_, _, rfl⟩, ⟨_, rfl⟩, ⟨_, _, rfl⟩⟩, ⟨rfl, rfl, rfl, rfl⟩, ⟨rfl, rfl, by decide +kernel⟩⟩

/-- A posted store alone and behind one parked on its page; a walk that reads a poisoned entry and one of a page of 256 MiB. -/
theorem witness_AccessEvents_posted :
    (let a : Access := { acc 1 (.write 5) .point with posted := true }
     let s := pst [] [a]
     s.accs.filter (fun b => b.src == a.src && b.st == .point) = [a] ∧ s.pointHeld a = false
      ∧ (∃ l s2, (s.leftTile a.src).translateAll [a] = (.hit l, s2))
      ∧ (∃ s2, (s.leftTile a.src).translateAll [{ a with va := 0x50000 }] = (.miss, s2))
      ∧ (∃ b code s2, (s.leftTile a.src).translateAll [a, { a with va := 0x30000 }] = (.bad b code, s2))
      ∧ (pst [] [{ a with id := 0, src := .elem 16 1, st := .parked 0x12 1 }, a]).pointHeld a = true)
    ∧ (let m := ((Memory.writeN [] 0 8 0x10001).writeN 0x10000 8 0x20001).writeN 0x20008 8 0x50005
       let w : PWalk := { id := 3, etile := 0, ctx := 0, va := 0x10000, kinds := [.read], places := [1] }
       let s : State := { mst 5 3 with pwalks := [w], mem := m, poison := [0x20000] }
       (walkReads s.mem w.va [1, 2, 3] 0).find? (fun a => s.poisoned a 8 false) = some 0x20008
        ∧ ((s.pwalks.filter (fun x => x.etile == w.etile)).take 64).any (fun x => x.id == 3) = true
        ∧ (∀ a ∈ walkReads s.mem w.va [1, 2, 3] 0, ({ s with poison := [] } : State).poisoned a 8 false = false)) := by
  refine ⟨⟨rfl, rfl, ⟨_, _, rfl⟩, ⟨_, rfl⟩, ⟨_, _, _, rfl⟩, rfl⟩, ?_⟩
  decide +kernel

/-- Nothing wrong in the groups read; a symbol that is corrected there. -/
theorem witness_AccessAtHome_codes :
    (let s := pst [] [acc 1 .read (.ready slice18)]
     s.flaws = [] ∧ s.poison = [] ∧ ({ s with flaws := [⟨slice18, 3, 5⟩] } : State).flaws ≠ []
      ∧ ({ acc 1 (.combine 0 5) (.ready slice18) with size := 2 } : Access).act.isWrite = false) := by decide +kernel

/-- An access that has performed and one that has not; at the queue's last free entry and past it. -/
theorem witness_FenceWaits :
    (let p : Pend := { id := 0, rule := 0, job := .fence 3 [1] false }
     (pst [p] []).cur = .rule 16 0 ∧ ((pst [p] []).elem 16).pend? 0 = some p ∧ (acc 1 .read .point).performed 3 = false
      ∧ (acc 1 .read (.done 0)).performed 3 = true)
    ∧ ((pst (List.replicate 7 { id := 1, rule := 0, port := true }) []).elem 16).portRoom 0 (deliver 10 Tag.data 0) = true
    ∧ ((pst (List.replicate 8 { id := 1, rule := 0, port := true }) []).elem 16).portRoom 0 (deliver 10 Tag.data 0) = false := by decide +kernel

/-- SG with a pending run of 3 rows (start 64, position 67, low 1, high 4). -/
def seg3 : BitVec 64 := 0x0043004001040001

/-- The same two operands with tags, and SG. -/
def sgst (t : Tag) (g : BitVec 64) : State :=
  { elems := [(16, { el [tk 5 t] [tk 3 0] with sg := g })], cur := .rule 16 0 }

/-- Each tag on both sides of its edge; a run that grows, one at row 64 that cannot, none pending. -/
theorem witness_SegmentSteps :
    (∃ x, (sgst 1 seg3).armed 16 0 (rq 10 (some 8) none 0 0 1) x ∧ 1 ≤ (((sgst 1 seg3).elem 16).ports.outAt 2).room ∧ x.a.tag = Tag.last)
    ∧ (∃ x, (sgst 2 seg3).armed 16 0 (rq 10 (some 8) none 0 0 1) x ∧ x.a.tag ≠ Tag.data ∧ x.a.tag ≠ Tag.last ∧ 2 ≤ x.a.tag.toNat
        ∧ 2 ≤ (((sgst 2 seg3).elem 16).ports.outAt 2).room)
    ∧ (∃ x, (sgst 5 0).armed 16 0 (rq 10 (some 8) none 0 0 1) x ∧ x.a.tag.toNat ≤ 5)
    ∧ (∃ x, (sgst 6 0).armed 16 0 (rq 10 (some 8) none 0 0 1) x ∧ 5 < x.a.tag.toNat)
    ∧ SegOk seg3 ∧ SegOk 0 ∧ seg3.getLsbD 0 = true ∧ (0x0080004001040001 : BitVec 64).toNat / 2 ^ 48 % 2 ^ 16 % 64 = 0
    ∧ (sgst 1 seg3).hasRoom 16 0 (rq 10 (some 8) none 0 0 1) [.sg 0, .out 2 [tk 5 0]] false := by
  refine ⟨⟨_, ⟨rfl, rfl⟩, by decide, rfl⟩, ⟨_, ⟨rfl, rfl⟩, by decide, by decide, by decide, by decide⟩, ⟨_, ⟨rfl, rfl⟩, by decide⟩,
    ⟨_, ⟨rfl, rfl⟩, by decide⟩, by unfold SegOk; decide, by unfold SegOk; decide, by decide, by decide, rfl⟩

/-- A Press whose slot 0 holds a table of 64 bands from 0. -/
def prs (sealed_ : Bool) : Press :=
  { on := true, hoop := { slots := (Vector.replicate 4 {}).set 0 { kind := 0, sealed := sealed_ } } }

def pst2 (p : Press) : State := { st 5 3 with presses := [(1, p)] }

/-- A command that passes, one with a bad index, one out of range; PSEG with and without a DATA token; the result buffer at
its last place for a PREAD of two tokens. -/
theorem witness_PressCommands :
    (∃ x, (pst2 (prs false)).armed 16 0 (rq 24 (some 8) (some 9) 0 0 1) x
      ∧ ((pst2 (prs false)).elem 16).roomFor (deliver 24 0 0 ++ ((pst2 (prs false)).elem 16).everyCo 0) = true
      ∧ ((pst2 (prs false)).press 1).future.verdict (.sumapp x.a.data x.b.data) = none ∧ isData x.a = true)
    ∧ (prs true).verdict (.sumapp 5 3) = some 0x51 ∧ (prs false).verdict (.ppoint 96 0) = some 0x50
    ∧ (isData (tk 5 2)) = false
    ∧ ({ prs false with result := List.replicate 526 { tok := tk 0 0, left := 0 } } : Press).readRoom (.pread 0 0x10010000 0 0) = false
    ∧ ({ prs false with result := List.replicate 525 { tok := tk 0 0, left := 0 } } : Press).readRoom (.pread 0 0x10010000 0 0) = true := by
  refine ⟨⟨_, ⟨rfl, rfl⟩, rfl, by decide +kernel, rfl⟩, ?_⟩
  decide +kernel

/-- Both answers of each check, at the edge. -/
theorem witness_PressChecks :
    (prs false).verdict (.sumnew 0x0000000C 0) = none ∧ (prs false).verdict (.sumnew 0x0000000D 0) = some 0x51
    ∧ (prs false).verdict (.sumapp 0x007FFFFF 0x003F01FF) = none ∧ (prs false).verdict (.sumapp 0x00800000 0x003F01FF) = some 0x50
    ∧ (prs false).verdict (.sumapp 0 0x004001FF) = some 0x51 ∧ (prs false).verdict (.sumbsc 0x7F7F 0 0) = none
    ∧ (prs false).verdict (.sumbsc 0x7F80 0 0) = some 0x50 ∧ (prs false).verdict (.sumbsc 0 0 1) = some 0x51
    ∧ (prs false).verdict (.ptbl 1) = some 0x51 ∧ (prs false).verdict (.ptbl 0) = none
    ∧ (prs false).verdict (.pmask 0 0x10) = some 0x51 ∧ (prs false).verdict (.pmask 0 0x8000000F) = none
    ∧ (prs false).verdict (.ppoint 95 0) = none
    ∧ (prs true).verdict (.pseg 0x0000003F 0) = none ∧ (prs true).verdict (.pseg 0x0000013F 0) = some 0x51
    ∧ (prs false).verdict (.pseg 0x0000003F 0) = some 0x51 ∧ (prs true).verdict (.pdense 0 60 0) = none
    ∧ (prs true).verdict (.pdense 0 61 0) = some 0x51 ∧ (prs true).verdict (.pdense 0 64 0) = some 0x51
    ∧ (prs true).verdict (.pvld false 0 0x0001000E 0) = none ∧ (prs true).verdict (.pvld false 0 0x0001000F 0) = some 0x51
    ∧ (prs true).verdict (.pvld true 0 0x0001001E 0) = none ∧ (prs true).verdict (.pvld false 0 0x00020000 0) = some 0x51
    ∧ (prs true).verdict (.pread 0 0x000001FF 0 0) = none ∧ (prs true).verdict (.pread 0 0x000101FF 0 0) = some 0x51 := by decide +kernel

/-- An entry in the table, a sealed band with a finite scale, an operand pair of an outer product. -/
theorem witness_PressEffects :
    (95 : Word).toNat ≤ 95 ∧ (prs false).addr 0x003F01FF = some (0, 63, 511) ∧ ((prs false).selected).isSome = true
    ∧ ((prs false).hoop.hdr 0).first.toNat + ((prs false).hoop.hdr 0).nbm1.toNat < 4
    ∧ fldN (0x0000000C : Word) 0 2 + fldN (0x0000000C : Word) 2 2 < 4
    ∧ (prs true).sealedBand (fldN (0x00003F00 : Word) 8 16) = some (0, 63) ∧ (prs true).sealedBand 60 = some (0, 60)
    ∧ (bf16.value ((prs true).hoop.scale 0 511)).finite = true ∧ (prs true).mask.getLsbD 511 = true
    ∧ (0x00008000 : Word).getLsbD (15 : BitVec 4).toNat = true ∧ 511 / 32 = (15 : BitVec 4).toNat ∧ (0x80000000 : Word).getLsbD (511 % 32) = true
    ∧ ((prs true).apply (.pstat 0)).2.isSome = true
    ∧ fldN (0x0000001F : Word) 0 5 + fldN (0x0000001F : Word) 16 4 < 32 ∧ fldN (0x0000000F : Word) 0 5 + fldN (0x0000000F : Word) 16 4 < 16
    ∧ fldN (0x000001FF : Word) 0 9 + fldN (0x000001FF : Word) 16 9 < 512 ∧ fldN (0x01FF0000 : Word) 0 9 + fldN (0x01FF0000 : Word) 16 9 < 512
    ∧ (fp32.value 0x7F800000).finite = false ∧ (fp32.value 0x3F800000).finite = true ∧ fp32.value 0x3F800000 = .fin false 0x800000 (-23) := by
  decide +kernel

/-- A Press with this result buffer and this whey connection. -/
def pres (q : List PEntry) (r : List PTok) (wired : Bool) : Press :=
  { prs true with life := .running, queue := q, result := r, wheyConvOn := true, wheySegOn := true,
                  ports := { outs := (Vector.replicate 8 {}).set 0 { wired := wired } } }

/-- The queue empty, its head not done, done; a data token, a stop below and at the closing levels. -/
theorem witness_PressEvents :
    ((pst2 (pres [⟨.sumseal, 16, 4, 1⟩] [] true)).press 1).queue = [⟨.sumseal, 16, 4, 1⟩]
    ∧ ((pst2 (pres [⟨.pstat 0, 16, 4, 0⟩] [] true)).press 1).queue = [⟨.pstat 0, 16, 4, 0⟩]
    ∧ ((pst [{ id := 4, rule := 0, job := .press }] []).elem 16).pend? 4 = some { id := 4, rule := 0, job := .press }
    ∧ 1 ≤ ((pres [] [⟨tk 0 0, 0⟩] true).ports.outAt 0).room ∧ isStop (tk 0 0) = false ∧ isStop (tk 0 2) = true
    ∧ (pres [] [⟨tk 0 4, 0⟩] true).stopWaits (tk 0 4) = false
    ∧ (pres [] [⟨tk 0 4, 0⟩] true).wconv.toNat ≤ ((tk 0 4).tag - 1).toNat ∧ ((tk 0 2).tag - 1).toNat < (pres [] [⟨tk 0 2, 0⟩] true).wconv.toNat
    ∧ (∀ k, k < 16 → (((pst2 (pres [] [] true)).elem (elemOfTile 1 k)).holds 0xDA 0xDF
        || ((pst2 (pres [] [] true)).elem (elemOfTile 1 k)).holds 0xE0 0xEB) = false)
    ∧ (∀ k, k < 4 → ((pres [] [] true).hoop.hdr k).cif = 0) := by decide +kernel

/-- A Hoop whose groups are sound, and one that PSEG finds poisoned. -/
theorem witness_PressEvents_hoop :
    (let s := pst2 (pres [⟨.pseg 0x0000003F 0, 16, 4, 0⟩] [] true)
     s.hoopBad 1 ((s.press 1).reads (.pseg 0x0000003F 0)) = false
      ∧ (∃ g ∈ (s.press 1).reads (.pseg 0x0000003F 0), ({ s with poison := [hoopGroup 1 g] } : State).hoopBad 1 ((s.press 1).reads (.pseg 0x0000003F 0)) = true)) := by
  decide +kernel

/-- A linear template of 4 words within window 0, its destination a quarter of the window above. -/
def shape (tag : BitVec 6) : Shape :=
  { dims := [{ ext := 4, sst := 4, dst := 4 }], perm := [0], ssize := 2, dsize := 2, swin := 0, dwin := 0, tag := tag, scope := 0, redop := 0
    conv := 0, dkind := 0, stop := 0, ltag := false, dport := 0, soff := 0, doff := 0x4000, pss := 1, pds := 1 }

/-- Tile 1 with that template as template 3, armed to port 2. -/
def cst (c : CopyEng) : State :=
  { mst 5 3 with
    copies := [(1, { c with on := true, tmpls := [(3, shape 63)], arms := (Vector.replicate 8 none).set 2 (some 3) })] }

def flight (mark : Nat) : Flight := { id := 0, tmpl := 3, a := 0, b := 0, el := some (16, 0), mark := mark }

/-- A check that passes and one that fails; a full engine; an operation held behind another; a trigger token. -/
theorem witness_CopyInstructions :
    (∃ x, (cst {}).armed 16 0 (rq 10 (some 8) (some 9) 0 0 1) x ∧ ((cst {}).elem 16).portRoom 0 (deliver 10 Tag.data x.a.data) = true)
    ∧ (∃ x, (cst {}).armed 16 0 (rq 10 none none 0 0 1) x ∧ ((cst {}).elem 16).portRoom 0 (deliver 10 Tag.data 0) = true)
    ∧ (∃ x, (cst {}).armed 16 0 (rq 24 none none 0 0 1) x ∧ ((cst {}).elem 16).portRoom 0 [] = true)
    ∧ (∃ down l, (cst {}).copyCheck 1 3 0 0 = .ok down l) ∧ (cst {}).copyCheck 1 3 0x10000 0 = .fail 0x10
    ∧ (∃ code, (cst {}).copyCheck 1 4 0 0 = .fail code)
    ∧ ((cst { flights := List.replicate 255 (flight 0) }).copyEng 1).flights.length < 256
    ∧ 256 ≤ ((cst { flights := List.replicate 256 (flight 0) }).copyEng 1).flights.length
    ∧ ((pst [{ id := 0, rule := 0, job := .copyIssue 3 0 0 }] []).elem 16).pend? 0 = some { id := 0, rule := 0, job := .copyIssue 3 0 0 }
    ∧ (pst [{ id := 0, rule := 0, job := .copyIssue 3 0 0 }] []).behind 16 0 = false
    ∧ (pst [{ id := 0, rule := 0, job := .copyIssue 3 0 0 }] []).behind 16 1 = true
    ∧ Table.get? ((cst {}).copyEng 1).tmpls 4 = none ∧ Table.get? ((cst {}).copyEng 1).tmpls 3 ≠ none
    ∧ (let c := (cst { life := .running, ports := { ins := (Vector.replicate 8 {}).set 2 (inWith [tk 0 0]) } }).copyEng 1
       c.life = .running ∧ c.freeze = none ∧ c.served = some (2, tk 0 0, 3))
    ∧ isData (tk 0 0) = true ∧ isData (tk 0 2) = false := by
  refine ⟨⟨_, ⟨rfl, rfl⟩, rfl⟩, ⟨_, ⟨rfl, rfl⟩, rfl⟩, ⟨_, ⟨rfl, rfl⟩, rfl⟩, ⟨_, _, rfl⟩, by decide +kernel, ⟨_, rfl⟩, ?_⟩
  decide +kernel

/-- The copy ends on the last byte of the window. -/
theorem witness_CopyBounds :
    Table.get? ((cst {}).copyEng 1).tmpls 3 = some (shape 63) ∧ (shape 63).perm.Perm (List.range (shape 63).dims.length)
    ∧ (∀ x ∈ (shape 63).dims, x.ext ≠ 0) ∧ (∃ down l, (cst {}).copyCheck 1 3 0xFFF0 0xBFF0 = .ok down l)
    ∧ (cst {}).copyCheck 1 3 0xFFF4 0 = .fail 0x10 :=
  ⟨rfl, List.Perm.refl _, by decide, ⟨_, _, rfl⟩, by decide +kernel⟩

/-- Tile 1 with one copy in flight. -/
def fst (f : Flight) (accs : List Access) : State :=
  { cst { flights := [f], life := .running, nextId := 1, out := (Vector.replicate 64 0).set 63 1 } with accs := accs }

def cacc (act : Act) (st : AccSt) : Access :=
  { id := 1, src := .copy 1 0, ctx := 0, task := 0, region := 0, opc := 0xC8, va := 0x10000, size := 4, act := act, st := st }

/-- The template with another destination, its index 0 or `doff`. -/
def shapeTo (kind : BitVec 3) (size : BitVec 2) (doff : Word) : Shape := { shape 63 with dkind := kind, ssize := size, dsize := size, doff := doff }

/-- A copy of that shape in flight, its read back. -/
def kst (kind : BitVec 3) (size : BitVec 2) (doff : Word) (rest : List Token) : State :=
  { fst (flight 0) [cacc .read (.done 5)] with
    copies := [(1, { on := true, tmpls := [(3, shapeTo kind size doff)], flights := [{ flight 0 with rest := rest }], life := .running })] }

/-- A copy to a channel, VA, VB and the Hoop, at the ends of the ranges; good and faulty blocks; a token waiting to go. -/
theorem witness_CopyEvents_kinds :
    ((kst 1 3 0 []).copyEng 1).portBusy (flight 0) (shapeTo 1 3 0) = false ∧ (flight 0).ahead = 0
    ∧ (kst 1 3 0 []).copyMarked 1 = false ∧ ((kst 1 3 0 []).accs.filter (fun a => a.src == Port.copy 1 0 && a.act == Act.read)) ≠ []
    ∧ (∀ a ∈ (kst 1 3 0 []).accs, a.back = true)
    ∧ (shapeTo 2 2 7).dst 0 0 = 7 ∧ ((shapeTo 2 2 7).dst 0 0).toNat + 1 ≤ 16 / 2 ∧ ((shapeTo 3 2 15).dst 0 0).toNat + 1 ≤ 32 / 2
    ∧ (shapeTo 4 3 33279).dst 0 0 = 33279 ∧ (shapeTo 4 3 15).dst 0 0 = 15
    ∧ blockEntry 2 0x0000_6485_0000_002B 0 = -788 ∧ blockEntry 2 0x0000_6485_0000_002B 7 = -196
    ∧ 2 ^ 23 ≤ blockEntry 0 0x7FFFFF_00_00000001 0 ∧ (bf16.value 0x7F80).finite = false
    ∧ ((kst 1 3 0 [tk 1 0]).copyEng 1).flights.find? (fun g => g.id == 0) = some { flight 0 with rest := [tk 1 0] } := by decide +kernel

/-- Before the read, while it is out, when it is back; with all written and performed; the engine past its heads. -/
theorem witness_CopyEvents :
    ((fst (flight 0) []).copyEng 1).flights.find? (fun g => g.id == 0) = some (flight 0) ∧ (flight 0).rest = [] ∧ (flight 0).paused = none
    ∧ (flight 3).mark < (shape 63).count ∧ (shape 63).count ≤ (flight 4).mark ∧ (shape 63).dkind = 0
    ∧ (∃ pa s1, (fst (flight 0) []).translate 1 0 0x10000 .read = (.hit pa, s1))
    ∧ (∃ s1, (fst (flight 0) []).translate 1 0 0x40000 .read = (.miss, s1))
    ∧ (∃ code s1, (fst (flight 0) []).translate 1 0 0x30000 .read = (.bad code, s1))
    ∧ (fst (flight 0) [cacc .read .point]).copyMarked 1 = false
    ∧ (∃ pa s1, (fst (flight 0) [cacc .read (.done 5)]).translate 1 0 0x14000 .write = (.hit pa, s1))
    ∧ ([cacc (.write 5) (.done 0)].all (fun a => a.performed (shape 63).scope)) = true
    ∧ [cacc (.write 5) (.ready 0)].any (fun a => !a.performed (shape 63).scope) = true
    ∧ (cst { life := .running }).copyIdle 1 = true ∧ (fst (flight 0) []).copyIdle 1 = false
    ∧ ({ fst (flight 0) [] with
          tasks := [(0, { task0 with st := .preempting })]
          regions := [(0, { st := .saving })]
          elems := [] } : State).copyMarked 1 = true := by
  refine ⟨rfl, rfl, rfl, by decide, by decide, rfl, ⟨_, _, rfl⟩, ⟨_, rfl⟩, ⟨_, _, rfl⟩, by decide +kernel, ⟨_, _, rfl⟩,
    by decide, by decide, by decide +kernel, by decide +kernel, by decide +kernel⟩

/-- A barrier operation at its home; `o` may carry its verdict. -/
def barOp (opc : Byte) (count : Word) (dchan : Option Nat) (v : Option (Byte × Word)) : BarOp :=
  { id := 7, el := 16, pend := 0, task := 0, opc := opc, pa := slice18, va := 0x20000, count := count, dchan := dchan, verdict := v }

/-- An object in state 1, expecting 2. -/
def barMem (arrived waiters : Nat) : Memory := Memory.setBarrier [] slice18 ⟨1, 2, arrived, 5, waiters, 0, false⟩

def bst (o : BarOp) (m : Memory) : State :=
  { pst [{ id := 0, rule := 0, job := .bar 7 }] [] with
    bars := [o], mem := m, waiters := [⟨slice18, 0x20000, 16, 3, 0, 5⟩] }

/-- Window 1 at its last object; an object at its last arrival and before; COUNT at 0, 1, 65535 and 65536. -/
theorem witness_BarrierProtocol :
    (∃ x s1, (mst 0xFFF0 3).armed 16 0 (rq 10 (some 8) (some 9) 0 0 1) x
      ∧ ((mst 0xFFF0 3).elem 16).portRoom 0 (deliver 10 Tag.data x.a.data) = true
      ∧ x.a.data.toNat + 16 ≤ ((mst 0xFFF0 3).window ((mst 0xFFF0 3).taskOfElem 16) 1).len
      ∧ (((mst 0xFFF0 3).window 0 1).base + x.a.data.toNat) % 16 = 0 ∧ ((mst 0xFFF0 3).window 0 1).a = true
      ∧ (mst 0xFFF0 3).heldPage 16 0 0x2FFF0 = false
      ∧ (mst 0xFFF0 3).translate (tileOfElem 16) 0 0x2FFF0 .barrier = (.hit (slice18 + 0xFFF0), s1))
    ∧ (let p : Pend := { id := 0, rule := 0, job := .barWait 7 [1] }
       ((pst [p] []).elem 16).pend? 0 = some p ∧ (pst [p] []).settled [1] 0 = true
        ∧ (pst [p] [acc 1 .read .point]).settled [1] 0 = false)
    ∧ (∀ o ∈ [barOp 0xD0 1 none none, barOp 0xD0 65535 none none, barOp 0xD0 0 none none, barOp 0xD0 65536 none none,
          barOp 0xD1 0 (some 2) none, barOp 0xD1 0 none none, barOp 0xD2 0 none none, barOp 0xD3 0 (some 2) none],
        let s := bst o (barMem 1 1)
        s.bars.find? (fun o => o.id == 7) = some o ∧ s.mem.wf = true ∧ s.barSent o = true ∧ s.poisoned o.pa 16 false = false
          ∧ (let x := s.mem.barrier o.pa
             x.st = 1 ∧ x.bad = false ∧ x.arrived + 1 = x.expected ∧ x.waiters + x.saved = 1))
    ∧ (let x := (bst (barOp 0xD1 0 none none) (barMem 0 0)).mem.barrier slice18
       x.arrived + 1 < x.expected ∧ x.waiters + x.saved = 0)
    ∧ (let o := barOp 0xD1 0 (some 2) (some (0x21, 0))
       (bst o []).bars.find? (fun o => o.id == 7) = some o ∧ ((bst o []).elem 16).pend? 0 = some { id := 0, rule := 0, job := .bar 7 }
        ∧ ((bst o []).elem 16).life = .running) := by
  refine ⟨⟨_, _, ⟨rfl, rfl⟩, rfl, by decide, rfl, rfl, rfl, rfl⟩, by decide +kernel, by decide +kernel, by decide +kernel, rfl, rfl, rfl⟩

/-- A task that leaves and one that stays; an access of a copy that is back and one still on its way. -/
theorem witness_leaving :
    (let p : Pend := { id := 0, rule := 0, job := .barWait 7 [] }
     let s := pst [p] []
     s.behind 16 0 = false ∧ s.leaving (s.taskOfElem 16) = false
      ∧ ({ s with tasks := [(0, { task0 with ending := some (.aborted, 0) })] } : State).leaving (s.taskOfElem 16) = true)
    ∧ (cacc .read (.done 5)).back = true ∧ ({ cacc .read (.done 5) with left := 2 } : Access).back = false
    ∧ (cacc .read .point).back = false := by decide +kernel

/-- Region 0 with this signal entry 4 and `n` unhandled records; its task has a span of one region. -/
def sigst (entry : BitVec 64) (n : Nat) (w : Word) (c : Ctx) : State :=
  { pst [{ id := 4, rule := 0, job := .signal 0 4 5 }] [] with
    tasks := [(0, { task0 with record := (List.replicate 16 0).set 6 0x01010000 })]
    regions := [(0, { st := .active, sig := (Vector.replicate 16 0).set 4 entry
                      unh := List.replicate n ⟨0, 0, 0, 0, false, 0, 0⟩
                      sources := [{ dst := ⟨1, 0, 5⟩, words := [w] }] })]
    ctxs := [(0, c)]
    signals := [⟨6, 0, 4, 5, false, 16, 4, 0⟩] }

/-- A context with rings of 4 records at 0x100000 and 0x200000. -/
def ctx4 (head tail : Word) : Ctx :=
  { st := .active, fqbase := 0x100000, fqlen := 3, fqhead := head, fqtail := tail, eqbase := 0x200000, eqlen := 3, eqhead := head, eqtail := tail }

/-- A valid entry for i5 of element 0 of the span's C-tile 0, and one for the context. -/
def toEnd : BitVec 64 := 0x8000000000000500
def toCtx : BitVec 64 := 0xC000000000000000

/-- The span's last region and the one past it; each form of entry; rings with and without room. -/
theorem witness_SignalsAndRecords :
    (∃ x, (sigst 0 0 0 {}).armed 16 0 (rq 24 (some 8) (some 9) 0 0 1) x
      ∧ ((sigst 0 0 0 {}).elem 16).portRoom 0 (deliver 24 Tag.data x.b.data) = true
      ∧ (sigst 0 0 0 {}).spanOf ((sigst 0 0 0 {}).taskOfElem 16) = (0, 0, 1, 1) ∧ 1 * 1 ≤ x.a.data.toNat)
    ∧ (0 : Word).toNat < 1 * 1
    ∧ (let s := sigst 0 31 0 {}
       s.signals.find? (fun y => y.id == 6) = some ⟨6, 0, 4, 5, false, 16, 4, 0⟩ ∧ s.behind 16 4 = false ∧ (s.region 0).st ≠ .fenced
        ∧ ((s.region 0).sig[(4 : BitVec 4).toNat]).getLsbD 63 = false ∧ (s.region 0).unh.length < 32
        ∧ 32 ≤ ((sigst 0 32 0 {}).region 0).unh.length)
    ∧ (toCtx.getLsbD 63 = true ∧ toCtx.getLsbD 62 = true ∧ ringFull 0 3 3 = true ∧ ringFull 0 2 3 = false ∧ (ctx4 0 2).st = .active)
    ∧ (let s := sigst toEnd 0 7 {}
       toEnd.getLsbD 63 = true ∧ toEnd.getLsbD 62 = false
        ∧ hwEnd (s.spanOf (s.taskOfRegion 0)) (Word.ofNat toEnd.toNat) = some ⟨1, 0, 5⟩
        ∧ ({ dst := ⟨1, 0, 5⟩, words := [7] } : Source) ∈ (s.region 0).sources ∧ (s.region 0).st = .active
        ∧ 1 ≤ ((s.ports 1 0).inAt 5).room)
    ∧ (let s : State := { sigst 0 0 0 (ctx4 0 2) with elems := [(16, { el [] [] with pend := [{ id := 4, rule := 0, job := .event 1 2 }] })] }
       s.mem.wf = true ∧ (s.ctx 0).events = [] ∧ s.eventJobs 0 = [(16, 4, 1, 2)] ∧ s.poisoned 0x200040 32 true = false
        ∧ (2 + 1) % 4 ≠ 0 % 4 ∧ (3 + 1) % 4 = 0 % 4)
    ∧ (let s := sigst 0 0 0 { ctx4 0 2 with faults := [List.replicate 8 9] }
       s.mem.wf = true ∧ ((s.collectFreezes 0).ctx 0).faults = [List.replicate 8 9] ∧ (s.collectFreezes 0).poisoned 0x100040 32 true = false) := by
  refine ⟨⟨_, ⟨rfl, rfl⟩, rfl, rfl, by decide⟩, ?_⟩
  decide +kernel

/-- A record that the hub holds, its owner's accesses performed or not; a ring slot with poison that the record does not cover; a
signal's end that names an output. -/
theorem witness_SignalsAndRecords_held :
    (let r : List Word := List.replicate 8 9
     let s := sigst 0 0 0 { ctx4 0 2 with events := [(some 0, r)] }
     s.mem.wf = true ∧ (s.ctx 0).events = [(some 0, r)] ∧ r.length = 8 ∧ s.ripe (some 0) = true ∧ s.ripe none = true
      ∧ ({ s with accs := [acc 1 (.write 5) (.fabric 3 4)] } : State).ripe (some 0) = false ∧ (s.ctx 0).st = .active
      ∧ s.poisoned 0x200040 32 true = false ∧ ({ s with poison := [0x200000] } : State).poisoned 0x200040 32 true = true
      ∧ (2 + 1) % 4 ≠ 0 % 4)
    ∧ inEnd (0, 0, 1, 1) (Word.ofNat toEnd.toNat) = some ⟨1, 0, 5⟩ ∧ inEnd (0, 0, 1, 1) 0x00001500 = none := by decide +kernel

/-- A stream unit with tokens at its inputs, and every output connected. -/
def unit (kind : UKind) (payload : List Word) (s : UState) (ins : Vector InEnd 8) : SUnit :=
  { kind := kind, slot := 3, payload := payload, st := s, ports := { ins := ins, outs := Vector.replicate 8 { wired := true } } }

/-- The same tokens at the inputs of any unit. -/
def ins4 (a b c d : List Token) : Vector InEnd 8 := #v[inWith a, inWith b, inWith c, inWith d, {}, {}, {}, {}]

/-- S-tile 51 of region 0 has unit 3 of its slots; element 16 waits for `l`. -/
def ust (u : SUnit) (l : List Pend) : State := { pst l [] with units := [(51 * 64, u)], regions := [(0, { st := .active })] }

def scanner (s : UState) (ins : Vector InEnd 8) : SUnit := unit .scan [0, 4] s ins

/-- A present unit, a register that is absent, a write that is refused; the first of its kind; at an element boundary and within one. -/
theorem witness_SystemInstructions :
    (∃ x, (st 5 3).armed 16 0 (rq 24 (some 8) (some 9) 0 0 1) x ∧ ((st 5 3).elem 16).portRoom 0 [] = true ∧ ((st 5 3).elem 16).life = .running)
    ∧ ((st 5 3).elem 16).whey = [] ∧ ((st 5 3).elem 16).portRoom 0 (deliver 7 Tag.data 0) = true
    ∧ ((st 5 3).elem 16).portRoom 0 (clockPuts 15 0) = true ∧ ((st 5 3).elem 16).portRoom 0 (clockPuts 6 0) = true
    ∧ (let p : Pend := { id := 4, rule := 0, job := .clock }
       ((pst [p] []).elem 16).pend? 4 = some p ∧ (pst [p] []).behind 16 4 = false
        ∧ ((pst [p] []).elem 16).firstJob 4 (fun j => j == .clock) = true
        ∧ ((pst [{ p with id := 3 }, p] []).elem 16).firstJob 4 (fun j => j == .clock) = false)
    ∧ (let u := scanner (.scan false none) (ins4 [] [] [] [])
       (ust u []).unitOfSlot ((ust u []).taskOfElem 16) 3 = some (51 * 64, u) ∧ (ust u []).unitOfSlot ((ust u []).taskOfElem 16) 4 = none
        ∧ u.writable 15 0 = true ∧ u.writable 0 0 = false ∧ u.reg 15 = none ∧ u.reg 11 = some 0 ∧ u.boundary = true)
    ∧ (let p : Pend := { id := 4, rule := 0, job := .xctl (51 * 64) 2 9 false }
       let u := scanner (.scan false (some { ref := 0 })) (ins4 [] [] [] [])
       ((ust u [p]).elem 16).pend? 4 = some p ∧ (ust u [p]).unit? (51 * 64) = some u ∧ ((ust u [p]).elem 16).firstJob 4 Job.xmoving = true
        ∧ u.boundary = false ∧ u.life ≠ .frozen ∧ u.life ≠ .drained ∧ 1 ≤ (2 : BitVec 4).toNat ∧ (2 : BitVec 4).toNat ≤ u.payload.length)
    ∧ (let p : Pend := { id := 4, rule := 0, job := .xstat (51 * 64) 2 }
       ((ust (scanner .isect (ins4 [] [] [] [])) [p]).elem 16).pend? 4 = some p
        ∧ (scanner .isect (ins4 [] [] [] [])).reg 2 = some 4) := by
  refine ⟨⟨_, ⟨rfl, rfl⟩, rfl, rfl⟩, rfl, rfl, rfl, rfl, ?_, ?_, ?_, ?_⟩ <;> decide +kernel

/-- The Loupe of E-tile 0: slot 3 as given, element 16 a client. -/
def lst (x : WSlot) (limit : BitVec 16) (marked : Bool) (l : List Pend) (accs : List Access) : State :=
  { pst l accs with
    elems := [(16, { el [tk 5 0] [tk 3 0] with pend := l, nextId := 9, loupe := some 0 })]
    cur := .walk 0 3 0
    loupes := [(0, { on := true, limit := limit, clients := [16], marked := marked, slots := (Vector.replicate 32 {}).set 3 x })] }

def wacc (st : AccSt) : Access := { acc 1 .read st with src := .walk 0 3 }

def slot3 : WSlot := { st := .running, ptr := 64, step := 2, el := 16, pend := 4, out := 2 }

/-- A root within and outside the window; the step limit reached and not; each read outstanding; the last token. -/
theorem witness_LoupeWalks :
    (∃ x, (mst 5 0xFFFF).armed 16 0 (rq 10 (some 8) (some 9) 0 0 1) x ∧ ((mst 5 0xFFFF).elem 16).portUse < 8
      ∧ 1 ≤ (((mst 5 0xFFFF).elem 16).ports.outAt 2).room ∧ ((mst 5 0xFFFF).elem 16).roomFor (((mst 5 0xFFFF).elem 16).everyCo 0) = true
      ∧ x.b.data.toNat < ((mst 5 0xFFFF).window ((mst 5 0xFFFF).taskOfElem 16) 0).len ∧ ((mst 5 0xFFFF).window 0 0).r = true
      ∧ ((mst 5 0xFFFF).window 0 2).r = false ∧ ((mst 5 0xFFFF).window 0 3).len ≤ x.b.data.toNat)
    ∧ (let p : Pend := { id := 4, rule := 0, job := .walkIssue 6 64 0 }
       let s := lst {} 9 false [p] []
       (s.elem 16).pend? 4 = some p ∧ s.loupeOf 16 = some 0 ∧ s.behind 16 4 = false ∧ (s.loupe 0).freeSlot = some 0
        ∧ ({ s.loupe 0 with slots := Vector.replicate 32 slot3 } : Loupe).freeSlot = none)
    ∧ (let s := lst slot3 9 false [] []
       let x := (s.loupe 0).slot 3
       s.cur = .walk 0 3 0 ∧ x.step ≠ (s.loupe 0).limit ∧ x.step = ((lst slot3 2 false [] []).loupe 0).limit
        ∧ 0x10000 < (0xFFFD + 4 : Nat) ∧ x.ptr.toNat + 4 * 1 ≤ (s.window x.task x.win).len
        ∧ ((s.window x.task x.win).base + x.ptr.toNat) % 4 = 0 ∧ ((s.window x.task x.win).base + (x.ptr + 1).toNat) % 4 ≠ 0)
    ∧ (∀ r ∈ [WRead.wrd 1, .wptr, .wnext, .wret 0],
        let s := lst { slot3 with st := .reading, read := some (r, 64, 16) } 9 false [] [wacc (.done 5)]
        ((s.loupe 0).slot 3).st = .reading
          ∧ (s.accs.filter (fun a => a.src == Port.walk 0 3)).map (fun a => a.st) = [(5 : Word)].map AccSt.done
          ∧ ((s.loupe 0).slot 3).read = some (r, 64, 16))
    ∧ (let s := lst { slot3 with st := .returning, ret := [tk 1 1] } 9 false [{ id := 4, rule := 0, job := .walk }] []
       ((s.loupe 0).slot 3).st = .returning ∧ ((s.loupe 0).slot 3).ret = [tk 1 1] ∧ ((s.elem 16).ports.outAt 2).slots.length < 2
        ∧ (s.elem 16).pend? 4 = some { id := 4, rule := 0, job := .walk })
    ∧ (resultToks 0 0 0 (List.replicate 16 0)).length = 17 := by
  refine ⟨⟨_, ⟨rfl, rfl⟩, by decide, by decide, rfl, by decide, rfl, rfl, by decide⟩, ?_⟩
  decide +kernel

/-- A unit that may act. -/
def Acts (u : SUnit) : Prop := (ust u []).unit? (51 * 64) = some u ∧ u.life = .running ∧ u.marked = false ∧ u.held = false
    ∧ (ust u []).unitAccs (51 * 64) = []

/-- The splitter's slots are at offset 0 of window 0. -/
def splitter (s : UState) (ins : Vector InEnd 8) : SUnit := unit .split [0x00000007, 0, 64, 2] s ins

def rings1 : List (Nat × Nat × Nat) := [(0, 0, 0), (0, 1, 1)]

/-- For each clause the unit and its tokens; stops at the least and greatest level; an Aperture window at its last word. -/
theorem witness_StreamUnits :
    (Acts (scanner (.scan false none) (ins4 [tk 7 0] [] [] [])) ∧ scanKind (scanner (.scan false none) (ins4 [tk 7 0] [] [] [])) = 0
      ∧ (scanner (.scan false none) (ins4 [tk 7 0] [] [] [])).head 0 = some (tk 7 0)
      ∧ (scanner (.scan false none) (ins4 [tk 7 5] [] [] [])).room (List.range 8) = true)
    ∧ (let u : SUnit := { scanner (.scan false (some { ref := 7, lo := 28, hi := 32, at_ := 31 })) (ins4 [] [] [] []) with
          ports := { outs := (Vector.replicate 8 {}).set 0 { wired := true } } }
       Acts u ∧ u.wired 2 = false ∧ u.room [0, 1, 2] = true)
    ∧ (let u := unit .isect [0x80000000, 9] .isect (ins4 [tk 3 0] [tk 1 0] [tk 4 1] [tk 2 0])
       Acts u ∧ u.room [0, 1, 2] = true ∧ u.has 1 = true ∧ u.has 3 = true ∧ fldN (u.pw 0) 31 1 = 1
        ∧ (unit .isect [0, 9] .isect (ins4 [tk 0 2] [tk 1 2] [tk 0 5] [tk 2 5])).has 3 = true)
    ∧ (let u := unit .rep [] (.rep [(1, 2)] none none 0 0) (ins4 [tk 3 0] [tk 1 0] [] [])
       Acts u ∧ u.head 0 = some (tk 3 0) ∧ u.has 1 = true ∧ [((1 : Word), (2 : Word))].length < 8191)
    ∧ (let u := unit .rep [] (.rep [(1, 2)] (some (3, 4, 2)) none 0 0) (ins4 [] [] [tk 2 0] [])
       Acts u ∧ u.head 2 = some (tk 2 0))
    ∧ (Acts (unit .rep [] (.rep [(1, 2)] (some (3, 4, 2)) (some 2) 0 1) (ins4 [] [] [] []))
      ∧ [((1 : Word), (2 : Word))].length ≤ 1 ∧ 0 + 1 < (2 : Word).toNat ∧ (2 : Word).toNat ≤ 1 + 1 ∧ [((1 : Word), (2 : Word))][0]? = some (1, 2))
    ∧ (let u := unit .red [0x80000000, 0xFFFFF001] (.red [(4095, 2)] none) (ins4 [tk 0 0] [tk 5 0] [] [])
       Acts u ∧ u.head 0 = some (tk 0 0) ∧ u.has 1 = true ∧ ((0 : Word) - u.pw 1).toNat < 4096 ∧ ((0 : Word) - u.pw 1).toNat = 4095
        ∧ Table.get? [(4095, (2 : Word))] 4095 = some 2)
    ∧ (Acts (unit .red [0, 0] (.red [(1, 2)] (some 1)) (ins4 [] [] [] [])) ∧ Acts (unit .red [0, 0] (.red [] (some 1)) (ins4 [] [] [] []))
      ∧ (unit .red [0, 0] (.red [(1, 2)] (some 1)) (ins4 [] [] [] [])).room [0, 1] = true)
    ∧ (Acts (unit .nm [0, 9] (.nm 7 [true, false] false) (ins4 [tk 5 0] [] [] [])) ∧ Acts (unit .nm [0, 9] (.nm 7 [false, true] false) (ins4 [] [] [] [])))
    ∧ (let u := unit .nm [0, 9] (.nm 7 [] false) (ins4 [tk 5 0] [tk 0x30000000 0] [] [])
       Acts u ∧ fldN (u.pw 0) 0 2 = 0 ∧ 0x30000000 / 2 ^ (4 * 7) % 2 ^ 4 = 3 ∧ u.head 1 = some (tk 0x30000000 0))
    ∧ (let u := unit .aper [0x11000003] (.aper [1, 2, 3, 4, 5, 6, 7] 7 0 3 none) (ins4 [tk 8 0] [] [] [])
       let a := aperOf (u.pw 0)
       Acts u ∧ u.room [0] = true ∧ a.kh = 2 ∧ 3 < a.kh * a.kw ∧ a.index 0 (a.kh * a.kw - 1) < 7
        ∧ (unit .aper [0x11000003] (.aper [1, 2] 2 0 0 none) (ins4 [tk 8 0] [] [] [])).aperEmit = none)
    ∧ (let u := splitter (.split none false none 0 [] none none 0) (ins4 [tk 7 0] [] [] [])
       Acts u ∧ u.head 0 = some (tk 7 0) ∧ fldN (7 : Word) 0 3 ≤ fldN (u.pw 0) 0 3 ∧ fldN (u.pw 0) 31 1 = 0)
    ∧ (let u := splitter (.split (some (7, 255)) false none 0 [] none none 0) (ins4 [tk 7 1] [] [] [])
       Acts u ∧ u.room [7] = true ∧ 255 < 256)
    ∧ (let u := splitter (.split none false none 1 [] none none 0) (ins4 [tk 7 0] [] [] [])
       Acts u ∧ unitCheck ((ust u []).unitWin (51 * 64) (fldN (u.pw 0) 8 3)) true ((u.pw 1).toNat + 28) 4 = 0)
    ∧ (let u := splitter (.split none false none 0 rings1 (some (1, List.replicate 254 0)) none 0) (ins4 [tk 7 1] [] [] [])
       let w := (ust u []).unitWin (51 * 64) (fldN (u.pw 0) 4 3)
       Acts u ∧ w.w = true ∧ unitCheck w w.w (ringOff u 1 1) 4 = 0 ∧ ringOff u 1 1 + 4 + 4 * 255 ≤ w.len)
    ∧ (Acts (splitter (.split none false none 0 rings1 none none 0) (ins4 [] [] [] [])) ∧ nextRing rings1 0 = some 1)
    ∧ Acts (splitter (.split none false none 0 rings1 none (some (1, 1, [5])) 0) (ins4 [] [] [] []))
    ∧ (let u : SUnit := { unit .coll [] (.coll [] [] 7) (ins4 [tk 0x00050001 0] [] [] []) with hold := 5 }
       Acts u ∧ u.head 0 = some (tk 0x00050001 0) ∧ (7 + 1) % 8 = 0 ∧ u.room [0] = true
        ∧ fld (0x00050001 : Word) 16 16 = (fld u.hold 0 16 : BitVec 16)) := by
  unfold Acts
  refine ⟨?_, ?_, ?_, ?_, ?_, ?_, ?_, ?_, ?_, ?_, ?_, ?_, ?_, ?_, ?_, ?_, ?_, ?_⟩ <;> decide +kernel

/-- A Repeater before its list with ABORT at i2; a decoder's group that a stop ends, with room and without; a Collimator that sends
one vector while it takes another. -/
theorem witness_StreamUnits_more :
    (let u := unit .rep [] (.rep [] none none 0 0) (ins4 [] [] [tk 0 Tag.abort] [])
     Acts u ∧ u.head 2 = some (tk 0 Tag.abort) ∧ u.room (List.range 8) = true
      ∧ (unit .rep [] (.rep [] none none 0 0) (ins4 [tk 1 0] [tk 1 0] [tk 1 0] [])).abortAt 2 = false)
    ∧ (let u := unit .nm [0, 9] (.nm 7 [] false) (ins4 [tk 5 2] [tk 0x30000000 0] [] [])
       Acts u ∧ u.head 0 = some (tk 5 2) ∧ u.head 1 = some (tk 0x30000000 0) ∧ u.room [0] = true
        ∧ (let full : OutEnd := { wired := true, slots := List.replicate 2 (.full (tk 0 0)) }
           ({ u with ports := { u.ports with outs := Vector.replicate 8 full } } : SUnit).room [0] = false))
    ∧ (let u := unit .red [0, 0] (.red [(1, 2)] none) (ins4 [tk 0 5] [tk 5 5] [] [])
       Acts u ∧ u.head 0 = some (tk 0 5) ∧ u.has 1 = true ∧ u.room [0, 1] = true)
    ∧ (let u : SUnit := { unit .coll [] (.coll [(5, true, [tk 1 0, tk 2 1])] [] 7) (ins4 [tk 0x00060001 0] [] [] []) with hold := 5 }
       Acts u ∧ u.head 0 = some (tk 0x00060001 0) ∧ u.room [0] = true ∧ (fld (0x00060001 : Word) 16 16 : BitVec 16) ≠ fld u.hold 0 16
        ∧ ((fld (0x00060001 : Word) 16 16 : BitVec 16) - fld u.hold 0 16).toNat < 256) := by
  unfold Acts
  refine ⟨?_, ?_, ?_, ?_⟩ <;> decide +kernel

/-- Element 24 of region 0 with a channel to its i5; generations that agree and differ; a full buffer. -/
def nst (left : Nat) (gen : Byte) (buf : List Token) : State :=
  { elems := [(16, { el [] [] with ports := { ins := (Vector.replicate 8 {}).set 5 (inWith buf) } })]
    chans := [(2, { owner := 0, frm := ⟨1, 1, 0⟩, dst := ⟨1, 0, 5⟩, moving := [⟨tk 9 0, left, gen⟩] })] }

theorem witness_NodeEvents :
    (let s := nst 0 0 (List.replicate 3 (tk 0 0))
     Table.get? s.chans 2 = some { owner := 0, frm := ⟨1, 1, 0⟩, dst := ⟨1, 0, 5⟩, moving := [⟨tk 9 0, 0, 0⟩] }
      ∧ (0 : Byte) = (s.region 0).chgen ∧ (1 : Byte) ≠ (s.region 0).chgen ∧ 1 ≤ ((s.ports 1 0).inAt 5).room ∧ kindOfTile 1 = .c
      ∧ (((nst 0 0 (List.replicate 4 (tk 0 0))).ports 1 0).inAt 5).room = 0)
    ∧ (let e : Elem := { el [] [] with wait := (Vector.replicate 16 0).set 15 14 }
       e.life = .running ∧ e.wait[15] = 14 ∧ e.wait[14] ≠ 14)
    ∧ ({ el [tk 1 0] [] with life := .halted } : Elem).life = .halted
    ∧ (let s : State := { elems := [(16, { el [tk 0 Tag.mark] [tk 0 Tag.drain] with markSent := false })]
                          regions := [(0, { st := .saving })], tasks := [(0, { task0 with st := .preempting })] }
       (s.elem 16).life = .running ∧ s.markHeads 16 = true ∧ (s.elem 16).settledPend = true
        ∧ ({ s with elems := [(16, el [tk 0 Tag.mark] [])] } : State).markHeads 16 = false)
    ∧ ((el [tk 0 Tag.drain] [tk 0 Tag.drain]).drainOk = true ∧ (el [tk 0 Tag.drain] []).drainOk = false)
    ∧ (let u := scanner (.scan false none) (ins4 [tk 0 Tag.mark] [tk 0 Tag.drain] [tk 0 Tag.mark] [tk 0 Tag.mark])
       (ust u []).unit? (51 * 64) = some u ∧ u.ins ≠ [] ∧ u.marked = true ∧ u.asking = false
        ∧ (scanner (.scan false none) (ins4 [tk 0 Tag.mark] [] [] [])).marked = false)
    ∧ (let d := [tk 0 Tag.drain]
       (scanner (.scan false none) (ins4 d d d d)).drainHeads = true ∧ (scanner (.scan false none) (ins4 d d d d)).idle = true
        ∧ (scanner (.scan true none) (ins4 d d d d)).idle = false ∧ (ust (scanner (.scan false none) (ins4 d d d d)) []).unitAccs (51 * 64) = [])
    ∧ (let t : WheyTok := { data := 0xFFFFFFFF, tag := 0 }
       let ins := [[t, t, t, t], [t, t, t, t]]
       let u := unit .whey [0x20000001, 0, 0, 0, 3] (.whey ins 0 none) (ins4 [] [] [] [])
       (ust u []).unit? (51 * 64) = some u ∧ (∀ l ∈ ins, 4 ≤ l.length) ∧ u.whey = [] ∧ wheyRoot u = true
        ∧ wheyRoot (unit .whey [0x00000001] (.whey ins 0 none) (ins4 [] [] [] [])) = false ∧ (∃ l ∈ [[t, t, t], [t, t, t, t]], l.length < 4))
    ∧ (let u := unit .whey [0x20000001, 0, 0, 0, 3] (.whey [] 3 (some ([1, 2, 3, 4], 0))) (ins4 [] [] [] [])
       let win := (ust u []).unitWin (51 * 64) (fldN (u.pw 0) 8 3)
       let off := (u.pw 3).toNat + 32 * ((3 : BitVec 16).toNat % (fldN (u.pw 4) 0 16 + 1))
       u.life = .running ∧ off + 32 ≤ win.len ∧ (win.base + off) % 4 = 0 ∧ win.w = true)
    ∧ (let u : SUnit := { unit .brine [] (.brine {} (some 2) false) (ins4 [] [] [] []) with wheyOn := true }
       (ust u []).unit? (51 * 64) = some u ∧ u.whey = []) := by decide +kernel

/-- A control end with room and without; a MARKED node with a back edge; the codec of a region whose copy engines have drained. -/
theorem witness_NodeEvents_more :
    (let s : State := { nst 0 0 [] with
        chans := [(2, { owner := 0, frm := ⟨1, 1, 0⟩, dst := ⟨1, 0, 3⟩, ctl := true, moving := [⟨tk 9 0, 0, 0⟩] })]
        regions := [(0, { st := .active })] }
     (s.region 0).st ≠ .free ∧ (s.region 0).st ≠ .fenced ∧ 1 ≤ ((s.ports 1 0).cinAt 3).room ∧ kindOfTile 1 = .c
      ∧ (Table.get? s.chans 2).map (fun c => c.ctl) = some true ∧ (0 : Byte) = (s.region 0).chgen)
    ∧ (let s : State := { nst 0 0 [] with
        elems := [(16, { el [] [] with life := .marked })]
        chans := [(2, { owner := 0, frm := ⟨1, 1, 0⟩, dst := ⟨1, 0, 5⟩, back := true, moving := [⟨tk 9 0, 0, 0⟩] })]
        regions := [(0, { st := .saving })] }
     s.lifeAt ⟨1, 0, 5⟩ = .marked ∧ (s.region 0).st ≠ .free)
    ∧ ((nst 0 0 []).region 0).st = .free
    ∧ (let u : SUnit := unit .brine [] (.brine {} none false) (ins4 [] [] [] [])
       (ust u []).unit? (51 * 64) = some u ∧ u.whey = [] ∧ u.life = .running
        ∧ (∀ t, t < 16 → ((ust u []).copyEng (tileAt (regionOfTile 51) t)).on = false
          ∧ ((ust u []).copyEng (tileAt (regionOfTile 51) t)).flights = [])) := by decide +kernel

/-- An element whose rules 0 and 1 are NOPs in use, both ready; a halted and a barred element; an awake region. -/
theorem witness_RoundPrism :
    (let e : Elem := { el [] [] with guards := (Vector.replicate 16 0).set 0 1 |>.set 1 5, wait := (Vector.replicate 16 0).set 1 15 }
     let s : State := { elems := [(16, e)], tasks := [(0, task0)], regions := [(0, { st := .active, awake := true, cycle := 5 })] }
     1 ∈ e.prism (fun k => k == 1) ∧ fldN (e.guardOf 1) 2 2 = 1 ∧ (e.wait[1]) = 15
      ∧ (s.elem 16).life = .running ∧ s.lets 0 = true ∧ s.misreads 16 = false ∧ (s.elem 16).barred = false ∧ s.stopped 16 = false ∧ (s.region 0).awake = true)
    ∧ ({ el [] [] with life := .halted } : Elem).life ≠ .running
    ∧ ({ el [] [] with pend := [{ id := 0, rule := 0, job := .bar 7 }] } : Elem).barred = true := by decide +kernel

/-- An element that reads an uncorrectable word of its configuration, whichever element the free choice names. -/
theorem witness_RoundPrism_misreads :
    ({ inputs := [[.configStoreError (regionOfElem (Config.pick 0))]] } : State).misreads (Config.pick 0) = true := by
  simp [State.misreads]

/-- The least image: a header of 16 words, no section, for one region. -/
def image : List Word :=
  let h : List Word := [0x524C5331, 0x01000101, 7, 0, 16, 0, 0, 0, 0, 0, 0, 0, 0, 0, 0, 0]
  h.set 6 (imageCheck h)

/-- A record that names image 7 of one region, and `w` for word 7. -/
def record (w : Word) : Record := [7, 0, 0, 0, 0x10000, 0, 0x01010009, w, 0, 0, 2, 0, 0, 0, 0, 0]

def taskL (w : Word) : Task := { task0 with st := .loading, record := record w, bound := true }

/-- Region 0 in state `r` with that image in entry 0 of its cache, and task 0. -/
def rst (r : RegSt) (ws : List Word) (pin : Bool) (t : Task) : State :=
  { mst 5 3 with
    elems := [], tasks := [(0, t)]
    regions := [(0, { st := r, left := .active, awake := true
                      cache := (Vector.replicate 4 {}).set 0 { v := true, pin := pin, ctx := 0, addr := 0x100, image := 7, words := ws } })] }

/-- Image words that pass, of another shape, no image; a span that is owned and one that is not; the sources' last words; each
region state; a cache copy that is good and one that is not; the register writes at each edge. -/
theorem witness_RegionEvents :
    (let t := taskL 0
     let s := rst .loading image false t
     s.task? 0 = some t ∧ t.st = .loading ∧ t.ending = none ∧ t.final = none ∧ (∀ r ∈ t.regions, s.owns 0 r = true) ∧ t.regions = [0]
      ∧ (s.imageWords t).2.toOption.isSome = true ∧ (parseImage t.rows t.cols image).isSome = true
      ∧ ((parseImage t.rows t.cols image).map (imageBad (t.row, t.col, t.rows, t.cols) (recArglen t.record))) = some none
      ∧ parseImage 1 2 image = none ∧ t.save = none
      ∧ ((s.readVaWords 0 (recArgva t.record) 0).2.toOption).isSome = true ∧ (rst .free image false t).owns 0 0 = false)
    ∧ (let s : State := { sigst 0 0 7 {} with elems := [(16, { el [] [] with ports := { ins := (Vector.replicate 8 {}).set 5 (inWith []) } })] }
       (s.region 0).sources[0]? = some { dst := ⟨1, 0, 5⟩, words := [7] } ∧ kindOfTile 1 = .c ∧ 1 ≤ ((s.ports 1 0).inAt 5).room
        ∧ (s.region 0).st.runs = true)
    ∧ (let e : Elem := { el [] [] with ports := { outs := (Vector.replicate 8 {}).set 0 { wired := true, slots := [.full (tk 9 0)] } } }
       let s : State := { elems := [(16, e)], regions := [(0, { st := .active, sinks := [{ frm := ⟨1, 0, 0⟩ }] })] }
       (s.region 0).sinks[0]? = some { frm := ⟨1, 0, 0⟩ } ∧ ((s.ports 1 0).outAt 0).head = some (tk 9 0))
    ∧ (let s := rst .draining [] false task0
       (s.region 0).st = .draining ∧ s.enginesIdle 0 = true ∧ s.outstanding 0 = false ∧ ({ s with accs := [acc 1 .read .point] } : State).outstanding 0 = true)
    ∧ (let s := rst .reloading image true task0
       (s.region 0).st = .reloading ∧ ((s.region 0).entry 0).v = true ∧ ((s.region 0).entry 0).pin = true ∧ ((s.region 0).entry 0).good = true
        ∧ (((rst .reloading (image.set 6 0) true task0).region 0).entry 0).good = false
        ∧ (((rst .reloading image false task0).region 0).entry 0).pin = false)
    ∧ (let s : State := { sigst 0 0 0 {} with elems := [(16, { el [] [] with life := .frozen })] }
       (s.region 0).st ≠ .fenced ∧ hwEnd (s.spanOf (s.region 0).task.toNat) 0x00000000 = some ⟨1, 0, 0⟩ ∧ regionOfTile 1 = 0 ∧ kindOfTile 1 = .c
        ∧ hwEnd (s.spanOf (s.region 0).task.toNat) 0x00048000 = some ⟨1, 18, 0⟩ ∧ (s.elem 16).life = .frozen
        ∧ hwEnd (s.spanOf (s.region 0).task.toNat) 0x3FF00000 = none)
    ∧ ((rst .fenced [] false task0).region 0).st = .fenced
    ∧ (sigStageOk 0x4000000000000000 = true ∧ sigStageOk 0x0001000000000000 = false ∧ fldN (0x80000000 : Word) 31 1 = 1
      ∧ (let u := scanner (.scan false none) (ins4 [] [] [] [])
         let s : State := { sigst 0 0 0 {} with
           units := [(51 * 64, u)]
           regions := [(0, { st := .active, usel := 0xF80000000 })] }
         (s.uselUnit 0).isSome = true ∧ u.writable 15 0 = true ∧ u.life ≠ .frozen ∧ ((sigst 0 0 0 {}).uselUnit 0) = none)) := by
  refine ⟨?_, ?_, ?_, ?_, ?_, ?_, ?_, ?_⟩ <;> decide +kernel

/-- A load of a saved task whose area holds a state of version 1, of another version, and poison; a region at its drain's end; a
signature that agrees and one that does not. -/
theorem witness_RegionEvents_more :
    (let t : Task := { taskL 0 with save := some { units := [0] } }
     let s : State := { rst .loading image false t with saves := [([], {})] }
     s.readSave t.ctx [0] = some {} ∧ ({ s with saves := [([], { version := 2 })] } : State).readSave t.ctx [0] = some { version := 2 }
      ∧ ({ s with poison := [2 ^ 20] } : State).readSave t.ctx [0] = none
      ∧ imageFault (t.row, t.col, t.rows, t.cols) (recArglen t.record) ((parseImage 1 1 image).getD []) = none)
    ∧ (let s := rst .draining [] false task0
       (s.region 0).cfgbad = false ∧ s.sentOut 0 = true
        ∧ ({ s with regions := [(0, { st := .draining, sinks := [{ frm := ⟨1, 0, 0⟩ }] })] } : State).sentOut 0 = false)
    ∧ (let s := rst .active image true task0
       ({ s with regions := [(0, { st := .active, sign := s.signature 0 })] } : State).signature 0 = s.signature 0
        ∧ (s.signature 0 + 1 ≠ s.signature 0) ∧ (parseImage 1 1 image).isSome = true ∧ parseImage 1 1 [] = none)
    ∧ (let s : State := { sigst 0 0 0 { st := .active } with elems := [(16, { el [] [] with life := .frozen, markSent := true, unposted := true })] }
       (s.elem 16).unposted = true ∧ (s.ctx (s.ctxOfRegion 0)).st = .active) := by
  refine ⟨?_, ?_, ?_, ?_⟩ <;> decide +kernel

/-- A queue with one record, its head `age` rounds old. -/
def qst (age : Nat) (r : Record) (t : List (Nat × Task)) : State :=
  { queues := [(5, { st := .active, slots := [r], age := age })], ctxs := [(0, { st := .active, quota := 1, savelen := 0x800000 })]
    tasks := t, regions := [(0, { awake := true })] }

def taskR (st : TaskSt) (age : Nat) : Task := { st := st, ctx := 0, taskid := 9, record := record 0, age := age }

def taskB (st : TaskSt) : Task := { taskR st 0 with bound := true }

/-- A well-formed record and one that is not; the ages at their edges; each state of a task. -/
theorem witness_TaskEvents :
    ((qst 0 (record 0) []).freeIndex = some 0 ∧ ((qst 0 (record 0) []).chooseQueue).isSome = true ∧ recordOk (record 0) = true
      ∧ recordOk (record 5) = false ∧ (qst 0 (record 0) []).unretired 0 9 = none ∧ (qst 0 (record 0) [(0, taskR .ready 0)]).unretired 0 9 = some 0
      ∧ ((qst 0 [] []).queue 5).slots ≠ [] ∧ 2 ^ 20 ≤ ((qst (2 ^ 20 - 1) [] []).queue 5).age + 1 ∧ ((qst (2 ^ 20 - 2) [] []).queue 5).age + 1 < 2 ^ 20
      ∧ (State.reset.chooseQueue) = none)
    ∧ (let s := qst 0 [] [(3, taskR .ready 0)]
       s.bindable (taskR .ready 0) = true ∧ s.quotaOk (taskR .ready 0) = true ∧ s.reserve = none ∧ (s.findSpan (taskR .ready 0)).isSome = true)
    ∧ (let s := qst 0 [] [(3, taskR .ready (2 ^ 22))]
       (3, taskR .ready (2 ^ 22)) ∈ s.tasks ∧ s.bindable (taskR .ready (2 ^ 22)) = true ∧ 2 ^ 22 ≤ (taskR .ready (2 ^ 22)).age
        ∧ s.quotaOk (taskR .ready (2 ^ 22)) = true ∧ ({ s with reserve := some 3 } : State).reserve = some 3)
    ∧ (let t : Task := { taskR .running 0 with quantum := some 0 }
       (qst 0 [] [(3, t)]).task? 3 = some t ∧ t.st = .running ∧ t.quantum = some 0 ∧ (qst 0 [] [(3, t)]).drained 3 t = true
        ∧ (qst 0 [] [(3, t)]).unretired 0 9 = some 3)
    ∧ (let t : Task := { taskB .running with expire := true }
       let s : State := { qst 0 [] [(0, t)] with elems := [(16, el [] [])], regions := [(0, { st := .active, awake := true })] }
       s.task? 0 = some t ∧ s.markOk 0 t = true ∧ ({ s with ctxs := [] } : State).markOk 0 t = false ∧ Table.sorted s.loupes = true)
    ∧ (let t := taskB .preempting
       let s := rst .saving [] false t
       s.task? 0 = some t ∧ s.saveReady 0 t = true ∧ (s.ctx t.ctx).st = .active
        ∧ ({ s with elems := [(16, el [] [])] } : State).saveReady 0 t = false)
    ∧ (let t := taskB .draining
       (rst .free [] false t).task? 0 = some t ∧ (rst .free [] false t).owns 0 0 = false ∧ (rst .draining [] false t).owns 0 0 = true)
    ∧ (let t : Task := { taskB .running with ending := some (.aborted, 0) }
       let s := rst .active [] false t
       s.task? 0 = some t ∧ t.bound = true ∧ t.st ≠ .binding ∧ t.st ≠ .loading ∧ ((s.dropWaiters 0).discardParked 0).flushable 0 = true
        ∧ (({ s with accs := [acc 1 .read .point] } : State).flushable 0) = false ∧ t.regions = [0] ∧ s.owns 0 0 = true
        ∧ ({ t with bound := false } : Task).bound = false) := by
  refine ⟨?_, ?_, ?_, ?_, ?_, ?_, ?_, ?_⟩ <;> decide +kernel

/-- A context whose areas are aligned and lie in HBM. -/
def ctxOk (st : CtxSt) : Ctx :=
  { st := st, ptroot := 0x10000, fqbase := 0x100000, fqlen := 3, eqbase := 0x200000, eqlen := 3, dlbase := 0x300000, dlpages := 64
    savebase := 0x400000, savelen := 0x800000, quota := 1 }

def xst (c : Ctx) (q : Queue) (t : List (Nat × Task)) : State := { ctxs := [(2, c)], queues := [(5, q)], tasks := t }

def queue2 (st : QSt) : Queue := { st := st, cfg := 0x00020000, spbase := 0x500000, splen := 1 }

/-- A header with one suspended task and queue 5. -/
def head1 : Head := { tasks := [(0, { taskR .suspended 0 with ctx := 2 })], queues := [(queue2 .paused).saved 5] }

/-- A transaction for this device, the next of endpoint 3. -/
def txn (type : BitVec 4) (len : Byte) (opx : Byte) (addr : Dword) (n : Nat) : Txn :=
  { type := type, dst := Config.endpoint, src := 3, eseq := 0, len := len, opx := opx, addr := addr, data := List.replicate n 0 }

/-- Endpoint 3 may reach memory, context 2 and the management space. -/
def acl3 : Sec := { boot := .running, acl := (Vector.replicate 64 {}).set 0 { v := true, admin := true, mem := true, ep := 3, ctxmask := 4 } }

/-- Each state of a context and a queue on both sides of each command; sizes at their edges; items of the three kinds; the ring
of a queue full and not. -/
theorem witness_ContextQueueCommands :
    ((ctxOk .free).createOk = true ∧ ({ ctxOk .free with ptroot := 1 } : Ctx).createOk = false ∧ (ctxOk .active).st ≠ .free
      ∧ 7 * 2 ^ 20 * fldN (1 : Word) 0 7 + 2 ^ 20 ≤ (ctxOk .active).savelen.toNat ∧ ¬ 7 * 2 ^ 20 * fldN (2 : Word) 0 7 + 2 ^ 20 ≤ (ctxOk .active).savelen.toNat)
    ∧ (let s : State := { ctxs := [(2, { ctxOk .creating with making := false })], heads := [([], head1)], queues := [(5, queue2 .disabled)] }
       (s.ctx 2).st = .creating ∧ (s.ctx 2).making = false ∧ s.headAt 2 = some head1 ∧ (s.ctx 2).createOk = true ∧ head1.version = 1
        ∧ head1.queues.all (s.queueFits 2) = true ∧ head1.queues.all (({ s with queues := [] } : State).queueFits 2) = false
        ∧ ({ s with poison := [0x400000] } : State).headAt 2 = none
        ∧ (({ ctxOk .creating with making := true } : Ctx).making = true) ∧ ({ ctxOk .creating with dlbase := 1 } : Ctx).createOk = false)
    ∧ (let s := xst (ctxOk .active) (queue2 .active) [(0, { task0 with ctx := 2 })]
       (s.ctx 2).st = .active ∧ (s.queue 5).ctx = 2 ∧ (s.queue 5).st = .active ∧ (s.task? 0).isSome = true)
    ∧ (let s := xst (ctxOk .quiescing) (queue2 .paused) [(0, { taskR .suspended 0 with ctx := 2 })]
       (s.ctx 2).st = .quiescing ∧ (∀ x ∈ s.tasks, x.2.ctx = 2 → x.2.atRest = true) ∧ (∀ x ∈ s.queues, x.2.ctx = 2 → x.2.refill = false)
        ∧ ({ taskR .running 0 with ctx := 2 } : Task).atRest = false)
    ∧ (let s := { xst (ctxOk .suspended) (queue2 .paused) [] with heads := [([], head1)] }
       (s.ctx 2).st = .suspended ∧ s.headAt 2 = some head1 ∧ head1.entries ≠ [] ∧ (s.readmitAt head1.entries).length = head1.entries.length
        ∧ Table.sorted head1.entries = true ∧ (s.ctx 2).harvest = none)
    ∧ (let s := xst (ctxOk .destroying) (queue2 .disabled) []
       (s.ctx 2).st = .destroying ∧ (∀ x ∈ s.tasks, x.2.ctx ≠ 2) ∧ (s.ctx 2).events = [] ∧ (∀ a ∈ s.accs, a.ctx = 2 → a.performed 3 = true))
    ∧ (let s : State := { xst { ctxOk .active with items := [(1, .posted 7), (2, .copy 1 0), (3, .walk 0 3)] } (queue2 .active) [] with
          accs := [acc 7 (.write 0) (.parked 0x12 1)]
          loupes := [(0, { on := true, slots := (Vector.replicate 32 {}).set 3 { slot3 with st := .parked, park := some (0x12, 0, 3) } })] }
       s.item? 2 1 = some (.posted 7) ∧ s.item? 2 2 = some (.copy 1 0) ∧ s.item? 2 3 = some (.walk 0 3) ∧ s.item? 2 4 = none
        ∧ (s.acc? 7).isSome = true ∧ ((s.loupe 0).slot 3).park = some (0x12, 0, 3))
    ∧ (let c := ctxOk .active
       c.dlpages.toNat / 64 = 1 ∧ (c.harvest.getD (1, [])).1 = 0 + 1 ∧ 0 < 1 ∧ (({ c with harvest := some (0, []) } : Ctx).harvest.getD (1, [])).1 = 0
        ∧ (pst [] [acc 1 .read .point]).settled [1] 3 = false ∧ (pst [] []).settled [1] 3 = true)
    ∧ (((queue2 .active).slots.length < 8 ∧ (queue2 .active).spilled = 0 ∧ (queue2 .active).cap = 2)
      ∧ (let q : Queue := { queue2 .spilling with spilled := 2, slots := List.replicate 8 [] }
         8 ≤ q.slots.length ∧ q.spilled = q.cap)
      ∧ (queue2 .active).spbase.toNat % 64 = 0 ∧ areaOk (queue2 .active).spbase.toNat 128 = true
      ∧ (let q : Queue := { queue2 .spilling with spilled := 1, refill := true }
         q.spilled ≠ 0 ∧ q.slots.length < 8 ∧ (State.reset.poisoned q.spbase.toNat 64 false) = false
          ∧ ({ poison := [0x500000] } : State).poisoned q.spbase.toNat 64 false = true
          ∧ ({ poison := [0x4FFFF0, 0x500040] } : State).poisoned q.spbase.toNat 64 true = false))
    ∧ (tinvBad 0x0020000000010000 = false ∧ tinvBad 0x0020000000010001 = true ∧ (State.reset.tinv.status ≠ 0xFF)
      ∧ (let a := { acc 1 .read (.parked 0x12 1) with ctx := 2 }
         (a.st = .parked 0x12 1 ∧ (acc 1 .read .point).performed 3 = false))) := by
  refine ⟨?_, ?_, ?_, ?_, ?_, ?_, ?_, ?_, ?_, ?_⟩ <;> decide +kernel

theorem spansBad_clean (s : State) (h : s.poison = []) (l : List (Nat × Nat)) (n : Nat) : s.spansBad l n = false := by
  induction l generalizing n with
  | nil => rfl
  | cons x l ih => obtain ⟨a, k⟩ := x; simp [State.spansBad, State.poisoned, h, ih]

theorem saveImage_length (n : Nat) : 8 ≤ (saveImage n).length := by
  simp [saveImage, bytesLE]

theorem poisoned_before (s : State) (n : Nat) (hn : 8 ≤ n) (h : s.poison = [0x400000]) : s.poisoned 0x400040 n true = true := by
  unfold State.poisoned
  rw [List.any_eq_true]
  refine ⟨0x400000, ?_, by simp [h]⟩
  have hg : granule 0x400040 = 128 := by decide
  simp only [granulesOf, hg, List.mem_filterMap, List.mem_range]
  exact ⟨0, by omega, by simp; omega⟩

/-- A save area that takes a header and a task's state, and one that takes neither. -/
theorem witness_ContextQueueCommands_save :
    (State.reset.writeHead 2 {}).isSome = true ∧ (State.reset.writeSave 2 [0, 1] {}).isSome = true
    ∧ (let s : State := { ctxs := [(2, { ctxOk .quiescing with savebase := 0x400040 })], poison := [0x400000] }
       s.writeHead 2 {} = none)
    ∧ (let s : State := { ctxs := [(2, { ctxOk .active with savebase := 0x300040 })], poison := [0x400000] }
       s.writeSave 2 [0] {} = none) := by
  refine ⟨?_, ?_, ?_, ?_⟩
  · simp [State.writeHead, spansBad_clean State.reset rfl]
  · simp [State.writeSave, spansBad_clean State.reset rfl]
  · have := saveImage_length 0
    simp only [State.writeHead, State.spansBad, Bool.or_false]
    rw [if_pos]
    exact poisoned_before _ _ (by simp [List.length_take]; omega) rfl
  · have := saveImage_length 0
    simp only [State.writeSave, State.saveSpans, List.map, State.spansBad, Bool.or_false]
    rw [if_pos]
    exact poisoned_before _ _ (by simp [List.length_take, saveUnit]; omega) rfl

/-- The header, the endpoint and its entry of an ENQ. -/
theorem witness_ContextQueueCommands_enq :
    (let s : State := { xst (ctxOk .active) (queue2 .active) [] with sec := acl3 }
     s.due (txn 2 4 0 5 64) ∧ s.sec.boot ≠ .fail ∧ enqHeaderOk (txn 2 4 0 5 64) = true ∧ s.sec.serves 3 (s.queue 5).ctx = true) := by
  refine ⟨⟨rfl, rfl⟩, ?_, rfl, ?_⟩ <;> decide +kernel

theorem endpoint_other : Config.endpoint + 1 ≠ Config.endpoint := by
  intro h
  have h1 : (Config.endpoint + 1).toNat = Config.endpoint.toNat := congrArg BitVec.toNat h
  have := Config.endpoint.isLt
  rw [BitVec.toNat_add] at h1
  simp at h1
  omega

theorem wordAt_wordBytes (c : Word) : (bytesToWords (wordBytes c)).headD 0 = c := by
  apply BitVec.eq_of_toNat_eq
  have := c.isLt
  simp [wordBytes, bytesToWords, List.range, List.range.loop]
  try omega

/-- A flit that a link builds has the right CRC. -/
theorem flitOk_mkFlit (w : Word) : flitOk (mkFlit w []) = true := by
  unfold flitOk mkFlit
  generalize hb : wordBytes w ++ List.replicate 8 0 ++ [] ++ List.replicate (240 - ([] : List Byte).length) 0 = body
  have hl : body.length = 252 := by
    rw [← hb]; simp only [List.length_append, List.length_replicate, wordBytes, List.length_map, List.length_range, List.length_nil]
  have hw : ∀ c, (wordBytes c).length = 4 := fun c => by simp [wordBytes]
  simp only [List.length_append, hl, hw, wordAt, List.drop_left' hl, List.take_left' hl]
  rw [List.take_of_length_le (by simp [hw]), wordAt_wordBytes]
  simp

/-- A link in each state; lanes that pass, half pass and fail; flits that are right, wrong and out of order; a transaction of each kind. -/
theorem witness_LinksFabric :
    (State.reset.link 4).st = .training
    ∧ ((7 : BitVec 4) ≠ 0xF ∧ (7 : BitVec 4).getLsbD 0 = true ∧ (7 : BitVec 4).getLsbD 1 = true ∧ (5 : BitVec 4).getLsbD 1 = false ∧ (6 : BitVec 4).getLsbD 0 = false)
    ∧ (let l : Link := { st := .up }
       let f := mkFlit (l.flitHead 0 0 0) []
       l.carries = true ∧ fldN (wordAt f 0) 5 2 = 0 ∧ fld (wordAt f 0) 20 12 = l.rxseq ∧ flitOk [] = false
        ∧ fld (wordAt (mkFlit (l.flitHead 1 0 0) []) 0) 20 12 ≠ l.rxseq ∧ fldN (wordAt (mkFlit (l.flitHead 1 2 0) []) 0) 5 2 = 2
        ∧ ({ st := .down } : Link).carries = false ∧ ({ st := .retrying, tries := 8 } : Link).tries = 8)
    ∧ (let n := (225000 : Nat)
       225000 ≤ n ∧ ({ sent := [(txn 0 1 0 0 0, n)] } : Endpoint).sent.length = 1)
    ∧ (txnHeadOk (txn 0 1 0 0 0) 0 false = true ∧ deviceRange 0 16 = true ∧ txnHeadOk (txn 1 1 15 0 16) 1 true = true ∧ writeBytesOf (txn 1 1 15 0 16) = 15
      ∧ txnHeadOk (txn 4 1 14 4 16) 4 true = true ∧ txnHeadOk (txn 4 1 0x11 8 16) 4 true = true ∧ txnHeadOk (txn 5 1 9 4 16) 5 true = true
      ∧ txnHeadOk (txn 3 1 0 0xF3F 16) 3 true = true ∧ signalAddrOk 0xF3F = true ∧ signalAddrOk 0x1000 = false ∧ acl3.mem 3 = true ∧ acl3.mem 4 = false
      ∧ acl3.serves 3 2 = true) := by
  refine ⟨rfl, ?_, ?_, ?_, ?_⟩ <;> decide +kernel

theorem witness_LinksFabric_txn :
    (∀ w, flitOk (mkFlit w []) = true) ∧
    (let s : State := { sec := acl3, ctxs := [(2, ctxOk .active)], regions := [(63, { st := .active, ctx := 2 })] }
     s.Inv ∧ s.due (txn 3 1 0 0xF3F 16) ∧ s.sec.boot ≠ .fail ∧ s.sec.serves 3 (s.region (0xF3F % 64)).ctx.toNat = true)
    ∧ ({ txn 0 1 0 0 0 with dst := Config.endpoint + 1 } : Txn).dst ≠ Config.endpoint
    ∧ (let s : State := { eps := [(3, { expect := 0xFFFF })] }
       ((txn 0 1 0 0 0).eseq - (s.ep 3).expect).toNat = 1)
    ∧ (let s : State := { eps := [(3, { expect := 1, answers := [⟨0, txn 6 0 0 0 0⟩], sent := [(txn 0 1 0 0 0, 5)] })] }
       65280 ≤ ((txn 0 1 0 0 0).eseq - (s.ep 3).expect).toNat ∧ (s.ep 3).answers.find? (fun y => y.eseq == 0) = some ⟨0, txn 6 0 0 0 0⟩
        ∧ (s.ep 3).sent.any (fun x => x.1.eseq == 0) = true) := by
  refine ⟨flitOk_mkFlit, ⟨rfl, ⟨rfl, rfl⟩, by decide +kernel, by decide +kernel⟩, endpoint_other, rfl, by decide, rfl, rfl⟩

/-- The two firmware copies, whatever the flash holds; the registers; each kind of group; the fault log. -/
theorem witness_Management :
    (State.reset.sec.boot = .reset ∧ acl3.boot ≠ .reset ∧ acl3.boot ≠ .verifying)
    ∧ ((fwOk 0 = false ∧ fwOk 1 = false) ∨ (∃ copy, copy = 0 ∧ fwOk 0 = true ∨ copy = 1 ∧ fwOk 0 = false ∧ fwOk 1 = true))
    ∧ ((ctxOk .free).st = .free ∧ (ctxOk .active).st ≠ .free ∧ (queue2 .paused).st = .paused ∧ (queue2 .disabled).st = .disabled)
    ∧ (State.reset.dfl.en = false ∧ ({ len := 0x80000003 } : Dfl).en = true)
    ∧ (0x400 ≤ 0x7FC ∧ 0x7FC < 0x800 ∧ (∃ x ∈ acl3.acl.toList, x.v = true ∧ x.admin = true))
    ∧ (areaOk 0x10000 256 = true ∧ areaOk (2 ^ 45) 256 = false ∧ acl3.attstatus ≠ 0xFF)
    ∧ (mgmtHdr (txn 8 0 2 0x10 0) = true ∧ mgmtHdr (txn 8 1 1 0x10018 16) = true ∧ mgmtHdr (txn 8 0 0 2 0) = false
      ∧ ({ sec := acl3 } : State).mgmtAllowed (txn 8 1 1 0x10018 16) = true ∧ State.reset.mgmtAllowed (txn 8 1 1 0x10018 16) = false)
    ∧ (groupOf 0x80 = .hbm 0x80 ∧ groupOf slice18 = .slice 18 slice18 ∧ groupOf (2 ^ 52) = .hoop 0 ∧ groupOf (2 ^ 53) = .cache 0 0
      ∧ ({ hits := (List.range 15).map (fun k => (4, k)) } : Banks).count 4 = 15 ∧ ({ hits := (List.range 16).map (fun k => (4, k)) } : Banks).count 4 = 16)
    ∧ (let d : Dfl := { base := 0x600000, len := 0x80000003, head := 0, tail := 2, hold := [List.replicate 8 1] }
       fldN d.len 31 1 = 1 ∧ ¬ (d.tail.toNat + 1) % 4 = d.head.toNat ∧ (rangeOk (d.base.toNat + 64) 32 && isDevice (d.base.toNat + 64)) = true
        ∧ (rangeOk (2 ^ 45) 32 && isDevice (2 ^ 45)) = false) := by
  refine ⟨by decide, ?_, by decide, by decide, ?_, by decide +kernel, by decide +kernel, by decide +kernel, by decide +kernel⟩
  · rcases h0 : fwOk 0 with _ | _
    · rcases h1 : fwOk 1 with _ | _
      · exact .inl ⟨rfl, rfl⟩
      · exact .inr ⟨1, .inr ⟨rfl, rfl, rfl⟩⟩
    · exact .inr ⟨0, .inl ⟨rfl, rfl⟩⟩
  · decide +kernel

/-- For `State.due` with the header of each management request. -/
theorem witness_Management_txn : ({ sec := acl3 } : State).due (txn 8 1 1 0x10018 16) ∧ ({ sec := acl3 } : State).Inv := ⟨⟨rfl, rfl⟩, rfl⟩

/-! The spec's own assembled words (spec/07 after R164, spec/08 after R188 and R204, spec/10 after R233, spec/13 after R319,
spec/14 after R326). -/

theorem test_worked_words_float_memory :
    decodeWord 0x631A1200 = .ok (.ffma 3 8 9 0 0 0) ∧ decodeWord 0x8D004470 = .ok (.cvte4 0 1 2 1 3 0)
    ∧ decodeWord 0xA44A00A0 = .ok (.ld32 9 8 2 2) ∧ decodeWord 0xA6521240 = .ok (.st16 10 8 9 1 0)
    ∧ decodeWord 0xB5221222 = .ok (.acas 4 8 9 0 2 2) ∧ decodeWord 0xC85A3028 = .ok (.copy 11 8 24 5)
    ∧ decodeWord 0xC9C0002A = .ok (.carm 5 2) ∧ decodeWord 0xCD8E7400 = .ok (.tagall 17 25 26)
    ∧ decodeWord 0xD14280D0 = .ok (.bararr 8 10 3 1) := by
  refine ⟨rfl, rfl, rfl, rfl, rfl, rfl, rfl, rfl, rfl⟩

theorem test_worked_words_press_loupe :
    decodeWord 0xD8420040 = .ok (.segstep 8 8 1 0) ∧ decodeWord 0xD9420040 = .ok (.segend 8 8 1 0 0)
    ∧ decodeWord 0xDDC04400 = .ok (.sumpatch 1 2) ∧ decodeWord 0xDE180400 = .ok (.sumrd 3 2 0)
    ∧ decodeWord 0xE4C20040 = .ok (.pseg 8 2) ∧ decodeWord 0xE6C27800 = .ok (.pvlda 9 28 0)
    ∧ decodeWord 0xE8C6B603 = .ok (.pouter 26 27 3) ∧ decodeWord 0xE9C63240 = .ok (.pread 24 25 2 0)
    ∧ decodeWord 0xEB4E0000 = .ok (.psync 9 24)
    ∧ decodeWord 0xFB100000 = .ok (.ident 2 0) ∧ decodeWord 0xFB2800C0 = .ok (.ident 5 3)
    ∧ decodeWord 0xFC200000 = .ok (.clock 4) ∧ decodeWord 0xFC480000 = .ok (.clock 9)
    ∧ decodeWord 0xF4C00003 = .ok (.wret 3) ∧ decodeWord 0xD44A3680 = .ok (.walk 9 8 27 2) := by
  refine ⟨rfl, rfl, rfl, rfl, rfl, rfl, rfl, rfl, rfl, rfl, rfl, rfl, rfl, rfl, rfl⟩

/-! Results. The register operands of a rule, its result in d0 (or d2, d4, d5, d6) and its flag in p2. -/

/-- Rule 0 of element 16 with these registers and heads. -/
def run (d : Vector Word 8) (a b : Word) : State :=
  { elems := [(16, { el [tk a 0] [tk b 0] with d := d, p := 0 })], cur := .rule 16 0 }

/-- What an instruction leaves in its element. -/
def left (i : Instr) (s : State) : Elem := match exec i s with | .next t => t.elem 16 | _ => {}

/-- A result of latency 1: register, p2, SAT of the next round. -/
def now (i : Instr) (k : Fin 8) (d : Vector Word 8) : Word × Bool × BitVec 16 :=
  let e := left i (run d 0 0)
  (e.d[k], e.p.getLsbD 2, e.tick.stats.sat)

/-- A result of a longer latency: what the rule owes. -/
def owes (i : Instr) (d : Vector Word 8) : List (List Put × Inc) := (left i (run d 0 0)).pend.map (fun p => (p.puts, p.inc))

/-- Two operands. -/
def v2 (a b : Word) : Vector Word 8 := #v[0, a, b, 0, 0, 0, 0, 0]

/-- Worked results after R159. -/
theorem test_worked_integer :
    now (.add 0 1 2 2 3 0) 0 (v2 0xFFFFFFFF 1) = (0, true, 0)
    ∧ now (.adds 0 1 2 2 3 0) 0 (v2 0x7FFFFFF0 0x20) = (0x7FFFFFFF, true, 1)
    ∧ now (.subsn 0 1 2 2 3 0) 0 (v2 3 5) = (0, true, 1)
    ∧ now (.sar 0 1 2 2 3 0) 0 (v2 0x80000000 40) = (0xFFFFFFFF, true, 0)
    ∧ now (.bfxs 0 1 2 2 3 0) 0 (v2 0xF00 0x68) = (0xFFFFFFFF, true, 0)
    ∧ now (.xsh 0 1 2 3 0) 0 (v2 1 0) = (0x00042021, true, 0)
    ∧ now (.divn 4 0 1 2 3 0) 4 #v[7, 0, 0, 0, 0, 0, 0, 0] = (0xFFFFFFFF, true, 0)
    ∧ now (.shl 0 1 2 2 3 0) 0 (v2 0x80000001 1) = (2, true, 0)
    ∧ now (.rol 0 1 2 2 3 0) 0 (v2 0x80000001 32) = (0x80000001, true, 0) := by decide +kernel

theorem test_worked_dot4 :
    (left (.dot4 2 8 9 2 3 0) (run #v[0, 0, 100, 0, 0, 0, 0, 0] 0x03FF0281 0x04050607)).d[2] = 0xFFFFFCFE
    ∧ (left (.dot4n 2 8 9 2 3 0) (run #v[0, 0, 100, 0, 0, 0, 0, 0] 0x03FF0281 0x04050607)).d[2] = 0x000008FE := by decide +kernel

/-- Worked results after R180. -/
theorem test_worked_float :
    owes (.fadd 0 1 2 2 3 0) (v2 0x3F800000 0x33800000) = [([.d 0 0x3F800000, .p 2 true], {})]
    ∧ owes (.fmul 0 1 2 2 3 0) (v2 0x7F000000 0x40800000) = [([.d 0 0x7F800000, .p 2 true], { inf := 1 })]
    ∧ owes (.fdiv 0 1 2 2 3 0) (v2 0x3F800000 0x40400000) = [([.d 0 0x3EAAAAAB, .p 2 true], {})]
    ∧ owes (.fsqrt 0 1 2 3 0) (v2 0xC0800000 0) = [([.d 0 0x7FC00000, .p 2 true], { nan := 1 })]
    ∧ owes (.fmin 0 1 2 2 3 0) (v2 0 0x80000000) = [([.d 0 0x80000000, .p 2 true], {})]
    ∧ owes (.frsqe 0 1 2 3 0) (v2 0x40800000 0) = [([.d 0 0x3EF75A86, .p 2 false], {})]
    ∧ owes (.frcpe 0 1 2 3 0) (v2 0x3F800000 0) = [([.d 0 0x3F7311C7, .p 2 false], {})]
    ∧ owes (.frint 0 1 2 3 0) (v2 0x40200000 0) = [([.d 0 0x40000000, .p 2 true], {})]
    ∧ owes (.frint 0 1 2 3 0) (v2 0x40600000 0) = [([.d 0 0x40800000, .p 2 true], {})]
    ∧ owes (.fceil 0 1 2 3 0) (v2 0xBE99999A 0) = [([.d 0 0x80000000, .p 2 true], {})] := by decide +kernel

/-- R166: 2 ^ 0.5 is 1.41421356, 2 ^ 1 is exact, log2 3 is 1.58496250. -/
theorem test_exp_log :
    fp32.exp2 (fp32.value 0x3F000000) = ⟨0x3FB504F3, true, {}⟩ ∧ fp32.exp2 (fp32.value 0x3F800000) = ⟨0x40000000, false, {}⟩
    ∧ fp32.log2 (fp32.value 0x40400000) = ⟨0x3FCAE00D, true, {}⟩ := by decide +kernel

/-- R419: one wrong symbol is found at its bank, two are beyond the code, and so is another one beside a failed bank. -/
theorem test_symbol_code :
    decodeGroup none [(17, 0x8E)] = .fixed 17 ∧ decodeGroup none [(3, 1), (7, 1)] = .beyond ∧ decodeGroup (some 3) [(3, 0x40)] = .fixed 3
    ∧ decodeGroup (some 3) [(7, 0x40)] = .beyond ∧ decodeGroup none [(5, 9), (5, 9)] = .clean := by decide +kernel

theorem test_worked_conversions :
    owes (.cvtif 0 1 2 3 0) (v2 16777219 0) = [([.d 0 0x4B800002, .p 2 true], {})]
    ∧ owes (.cvtifz 0 1 2 3 0) (v2 (-16777219) 0) = [([.d 0 0xCB800001, .p 2 true], {})]
    ∧ owes (.cvtbf 0 1 2 2 3 0) (v2 0x3F800000 0x3F818000) = [([.d 0 0x3F823F80, .p 2 true], {})]
    ∧ owes (.cvte4 0 1 2 2 3 0) (v2 0x43EB0000 0x3F800000) = [([.d 0 0x387E0000, .p 2 true], { sat := 1 })]
    ∧ owes (.cvte4 0 1 2 2 3 0) #v[0x387E0000, 0xC0000000, 0x3A000000, 0, 0, 0, 0, 0] = [([.d 0 0x00C0387E, .p 2 true], { flush := 1 })]
    ∧ owes (.cvtq4 5 1 2 2 3 0) (v2 0xC05E0000 0x85) = [([.d 5 0xB0000000, .p 2 false], {})]
    ∧ owes (.cvtfq4 6 1 2 2 3 0) (v2 0xB0000000 0x785) = [([.d 6 0xC05E0000, .p 2 true], {})]
    ∧ owes (.qsc 0 1 2 3 0) (v2 0x40A00000 0) = [([.d 0 0x56, .p 2 false], {})]
    ∧ owes (.qsc 0 1 2 3 0) (v2 0x433D0000 0) = [([.d 0 0xFF, .p 2 false], {})] := by decide +kernel

/-- R143 to R148: STEER to the other end, SEL, ITER at its last value, MKTAG. -/
theorem test_moves :
    ((left (.steer 10 8 9 0 0) (run (v2 0 0) 5 0)).ports.outAt 3).slots = [.full (tk 5 0)]
    ∧ ((left (.steer 10 8 9 0 0) (run (v2 0 0) 5 1)).ports.outAt 2).slots = [.full (tk 5 0)]
    ∧ ((left (.mktag 10 8 9 0 0) (run (v2 0 0) 5 3)).ports.outAt 2).slots = [.full (tk 5 3)]
    ∧ (left (.mktag 10 8 9 0 0) (run (v2 0 0) 5 14)).life = .frozen
    ∧ ((left (.iter 8 0 0 0) { run (v2 0 0) 0 0 with
        elems := [(16, { el [] [] with l := #v[{ bound := 2, value := 1, wlevel := 2 }, {}] })] }).ports.outAt 0).slots
          = [.full (tk 1 1), .full (tk 2 3)] := by decide +kernel

/-- The worked walk after R400. -/
theorem test_worked_page_walk :
    let m := ((Memory.writeN [] 0x10000000 8 0x10008001).writeN 0x1000A000 8 0x10010001).writeN 0x10010008 8 0x200000007
    let r := walkResult m 0x10000000 3 0x4000010000 [.write]
    walkFrom m 0x4000010000 [1, 2, 3] 0x10000000 = some (0x10010008, 0x200000007, false)
      ∧ r.1.leaf.map Leaf.frame = some 0x200000000 ∧ r.2.readN 0x10010008 8 = 0x20000001F := by decide +kernel

/-- The worked results of R248 (RNE of 1.5 is 2) and of the FP4 case after R246 (−111 at P 4, −14 at P 1). -/
theorem test_worked_press :
    let outer : Press := { va := { lanes := [(0, ⟨3, -1⟩)] }, vb := { lanes := [(5, ⟨1, -2⟩)] }, point := (Vector.replicate 16 0).set 0 2 }
    let fp4 := fun (P : BitVec 7) => ({
      point := (Vector.replicate 16 0).set 2 P
      hoop := { slots := (Vector.replicate 4 {}).set 0 { kind := 2, sealed := true }, scales := [(0, 0x4000)]
                entries := [(7, 100), (8, BitVec.ofInt 24 (-788)), (9, BitVec.ofInt 24 (-196))] } } : Press)
    (outer.apply (.pouter 1 0x20 3)).1.word 0 101 = 2
      ∧ (fp4 4).hoop.sum 0 0 10 - (fp4 4).hoop.sum 0 0 8 = -296 ∧ (fp4 4).sealedBand (fldN (0x03000801 : Word) 8 16) = some (0, 8)
      ∧ ((fp4 4).contrib 2 0 ((fp4 4).segTerm 0 0 3 (-296))).word 2 0 = BitVec.ofInt 80 (-111)
      ∧ ((fp4 1).contrib 2 0 ((fp4 1).segTerm 0 0 3 (-296))).word 2 0 = BitVec.ofInt 80 (-14) := by decide +kernel

/-- R52, R50: nibble 0xB under 0x85 is -1.5 times 2.3125. -/
theorem test_worked_fp4 : (e2m1.value 0xB).rat = -3 / 2 ∧ ((e3m5 0x85).1 : Rat) * 2 ^ (e3m5 0x85).2 = 37 / 16 := by decide +kernel

/-- R5, R189: bytes lie little-endian; LD8S and LD16S extend the sign; LDG packs its lanes. -/
theorem test_memory_values :
    (Memory.writeN [] 8 4 0x01020304).read 8 = 4 ∧ (Memory.writeN [] 8 4 0x01020304).read 11 = 1
    ∧ (Memory.writeN [(8, 1)] 8 1 0) = [] ∧ loadValue 0xA1 [0x80] = 0xFFFFFF80 ∧ loadValue 0xA3 [0x7FFF] = 0x7FFF := by decide +kernel

/-- R187, R192: an atomic at its home gives back the old word; ATAKE below its operand leaves the word. -/
theorem test_atomic_home :
    (match exec (.memoryAccessAtHome 1) { pst [] [acc 1 (.atomic 0xAB 5 0) (.ready 64)] with mem := [(64, 7)] } with
      | .next t => (t.mem, (t.accs.map (fun a => a.st)))
      | _ => ([], [])) = ([(64, 12)], [.done 7])
    ∧ (atomicNew 0xB8 2 3 0).2 = false ∧ atomicNew 0xB9 0xFFFFFFFE 3 0 = (0xFFFFFFFF, true) := by decide +kernel

/-- R385, R386: the last arrival takes the next phase and frees the waiter. -/
theorem test_barrier_last_arrival :
    (match exec (.barrierHomeOp 7) (bst (barOp 0xD1 0 none none) (barMem 1 1)) with
      | .next t => ((t.mem.barrier slice18).phase, (t.mem.barrier slice18).arrived, t.releases.map (fun r => r.tok), t.waiters.length)
      | _ => (0, 0, [], 9)) = (6, 0, [tk 6 0], 0) := by decide +kernel

/-- R414: TRAP stores USER and freezes its element with TRAP. -/
theorem test_trap :
    (left (.trap 8 9) (run (v2 0 0) 0x12345 7)).life = .frozen ∧ (left (.trap 8 9) (run (v2 0 0) 0x12345 7)).fault.code = 0x60
    ∧ (left (.trap 8 9) (run (v2 0 0) 0x12345 7)).fault.user = 0x2345 := by decide +kernel

/-- R24, R437: a context command before CREATE is rejected; R403: device reset leaves the links TRAINING. -/
theorem test_commands :
    (match exec (.quiesce 2) State.reset with | .next t => (t.ctx 2).status | _ => 0) = 1
    ∧ (match exec .deviceReset { links := [(3, { st := .up })] } with | .next t => (t.link 3).st | _ => .up) = .training := by decide +kernel

end Sys2Proof.Tests
end

section
/-! The obligation on memory: a store of bytes and the reads after it (R5), from the rules of a store. -/

namespace Sys2Proof.Machine

/-- Settles O9: the read of the stored value, its single bytes, the bytes outside it and the canonical form each have a rule
for a store of `n` bytes, proved by induction on `n`; the premise is what makes a byte read as it was written. -/
theorem memoryLaws : Obligations.MemoryLaws := by
  intro m a n v hwf
  refine ⟨?readBack, ?inside, ?outside, ?canonical⟩
  case readBack => exact Memory.readN_writeN hwf a n v
  case inside => exact fun k hk => Memory.read_writeN_inside hwf a n v k hk
  case outside => exact fun _ ha => Memory.read_writeN_outside m n v ha
  case canonical => exact Memory.wf_writeN hwf a n v

end Sys2Proof.Machine
end

section
/-! The obligation on reset: every table of the reset state is empty, so that every component reads as its type's initial value. -/

namespace Sys2Proof.Machine

/-! What is read of the reset state (R24, R403, R437). -/

@[simp] theorem State.region_reset (r : Nat) : State.reset.region r = {} := rfl
@[simp] theorem State.elem_reset (el : Nat) : State.reset.elem el = {} := rfl
@[simp] theorem State.ctx_reset (c : Nat) : State.reset.ctx c = {} := rfl
@[simp] theorem State.queue_reset (q : Nat) : State.reset.queue q = {} := rfl
@[simp] theorem State.link_reset (l : Nat) : State.reset.link l = {} := rfl

/-- Settles O6: what is read of the reset state is the initial value of a region, a context, a queue, a link, an element, whose
fields are those of R24, R335, R403 and R437. -/
theorem resetState : Obligations.ResetState := by
  refine ⟨?regions, ?contexts, ?queues, ?links, ?boot, ?elements, ?memory, ?accesses, ?agenda⟩
  case regions => exact fun r => ⟨rfl, rfl, rfl, fun k h => by simp⟩
  case contexts => exact fun c => by rw [State.ctx_reset]
  case queues => exact fun q => by rw [State.queue_reset]
  case links => exact fun l => by rw [State.link_reset]
  case boot => rfl
  case elements => exact fun el => ⟨rfl, rfl, rfl, fun k h => ⟨by simp, by simp⟩⟩
  case memory => exact fun a => rfl
  case accesses => rfl
  case agenda => rfl

end Sys2Proof.Machine
end

section
/-! The Prism's order (R70, R72): urgent rules first, then by class, then from ROT on. The list in which the rules are tried is
sorted by that order and holds each of the 16 rules once. -/

namespace Sys2Proof.Machine

/-- R72: the WAIT count of rule `k` stands at 15. -/
def Elem.Urgent (e : Elem) (k : Nat) : Prop := (e.wait[k % 16]'(Nat.mod_lt _ (by decide))) = 15

/-- R70: the class of rule `k`. -/
def Elem.ruleClass (e : Elem) (k : Nat) : Nat := fldN (e.guardOf k) 2 2

/-- R70: how far rule `k` stands from ROT. -/
def Elem.fromRot (e : Elem) (k : Nat) : Nat := (k + 16 - e.rot.toNat) % 16

/-- R70, R72: rule `k` is tried before rule `j`. -/
def Elem.Precedes (e : Elem) (k j : Nat) : Prop :=
  (e.Urgent k ∧ ¬ e.Urgent j)
    ∨ ((e.Urgent k ↔ e.Urgent j)
      ∧ ((¬ e.Urgent k ∧ e.ruleClass k < e.ruleClass j) ∨ ((e.Urgent k ∨ e.ruleClass k = e.ruleClass j) ∧ e.fromRot k < e.fromRot j)))

/-- The rules from ROT on, once round. -/
def Elem.turn (e : Elem) : List Nat := (List.range 16).map (fun j => (e.rot.toNat + j) % 16)

/-- Whether rule `k` is one of class `c` that is not urgent. -/
def Elem.calm (e : Elem) (c k : Nat) : Bool :=
  !((e.wait[k % 16]'(Nat.mod_lt _ (by decide))) == 15) && fldN (e.guardOf k) 2 2 == c

theorem Elem.calm_iff (e : Elem) (c k : Nat) : e.calm c k = true ↔ ¬ e.Urgent k ∧ e.ruleClass k = c := by
  simp [Elem.calm, Elem.Urgent, Elem.ruleClass]

theorem Elem.order_eq (e : Elem) :
    e.order = e.turn.filter (fun k => (e.wait[k % 16]'(Nat.mod_lt _ (by decide))) == 15)
      ++ (List.range 4).flatMap (fun c => e.turn.filter (e.calm c)) := rfl

theorem Elem.Precedes.asymm {e : Elem} {k j : Nat} (h : e.Precedes k j) : ¬ e.Precedes j k := by
  unfold Elem.Precedes at *
  by_cases hk : e.Urgent k <;> by_cases hj : e.Urgent j <;> simp only [hk, hj] at h ⊢ <;> simp at h ⊢ <;> omega

theorem Elem.fromRot_turn (e : Elem) {j : Nat} (h : j < 16) : e.fromRot ((e.rot.toNat + j) % 16) = j := by
  have hr := e.rot.isLt
  unfold Elem.fromRot
  omega

theorem Elem.mem_turn {e : Elem} {k : Nat} : k ∈ e.turn ↔ k < 16 := by
  have hr := e.rot.isLt
  simp only [Elem.turn, List.mem_map, List.mem_range]
  constructor
  · rintro ⟨j, _, rfl⟩
    exact Nat.mod_lt _ (by decide)
  · exact fun hk => ⟨(k + 16 - e.rot.toNat) % 16, Nat.mod_lt _ (by decide), by omega⟩

theorem Elem.turn_pairwise (e : Elem) : e.turn.Pairwise (fun a b => e.fromRot a < e.fromRot b) := by
  refine List.pairwise_map.2 (List.pairwise_lt_range.imp_of_mem fun ha hb hlt => ?_)
  rwa [e.fromRot_turn (List.mem_range.1 ha), e.fromRot_turn (List.mem_range.1 hb)]

theorem Elem.order_pairwise (e : Elem) : e.order.Pairwise e.Precedes := by
  rw [Elem.order_eq, List.pairwise_append, List.pairwise_flatMap]
  refine ⟨?urgent, ⟨?sameClass, ?classes⟩, ?urgentFirst⟩
  case urgent =>
    refine (e.turn_pairwise.filter _).imp_of_mem fun {a b} ha hb hlt => ?_
    have hua : e.Urgent a := beq_iff_eq.1 (List.mem_filter.1 ha).2
    have hub : e.Urgent b := beq_iff_eq.1 (List.mem_filter.1 hb).2
    exact .inr ⟨iff_of_true hua hub, .inr ⟨.inl hua, hlt⟩⟩
  case sameClass =>
    refine fun c _ => (e.turn_pairwise.filter _).imp_of_mem fun ha hb hlt => ?_
    obtain ⟨hua, hca⟩ := (e.calm_iff c _).1 (List.mem_filter.1 ha).2
    obtain ⟨hub, hcb⟩ := (e.calm_iff c _).1 (List.mem_filter.1 hb).2
    exact .inr ⟨iff_of_false hua hub, .inr ⟨.inr (hca.trans hcb.symm), hlt⟩⟩
  case classes =>
    refine List.pairwise_lt_range.imp fun {c d} hcd a ha b hb => ?_
    obtain ⟨hua, hca⟩ := (e.calm_iff c a).1 (List.mem_filter.1 ha).2
    obtain ⟨hub, hcb⟩ := (e.calm_iff d b).1 (List.mem_filter.1 hb).2
    exact .inr ⟨iff_of_false hua hub, .inl ⟨hua, by rw [hca, hcb]; exact hcd⟩⟩
  case urgentFirst =>
    intro a ha b hb
    obtain ⟨c, _, hb⟩ := List.mem_flatMap.1 hb
    obtain ⟨hub, _⟩ := (e.calm_iff c b).1 (List.mem_filter.1 hb).2
    exact .inl ⟨beq_iff_eq.1 (List.mem_filter.1 ha).2, hub⟩

theorem Elem.order_nodup (e : Elem) : e.order.Nodup :=
  e.order_pairwise.imp fun {a b} (h : e.Precedes a b) heq => by subst heq; exact h.asymm h

theorem Elem.mem_order {e : Elem} {k : Nat} : k ∈ e.order ↔ k < 16 := by
  have hc : e.ruleClass k < 4 := Nat.mod_lt _ (by decide)
  simp only [Elem.order_eq, List.mem_append, List.mem_filter, List.mem_flatMap, List.mem_range, e.calm_iff, Elem.mem_turn,
    beq_iff_eq]
  constructor
  · rintro (⟨hk, _⟩ | ⟨_, _, hk, _⟩) <;> exact hk
  · intro hk
    by_cases hu : e.Urgent k
    · exact .inl ⟨hk, hu⟩
    · exact .inr ⟨_, hc, hk, hu, rfl⟩

/-- The ready rules in the order in which they are tried. -/
def Elem.tried (e : Elem) (ready : Nat → Bool) : List Nat := e.order.filter ready

theorem Elem.mem_tried {e : Elem} {ready : Nat → Bool} {k : Nat} : k ∈ e.tried ready ↔ k < 16 ∧ ready k = true := by
  rw [Elem.tried, List.mem_filter, Elem.mem_order]

/-- The ready rule that precedes every other is tried first. -/
theorem Elem.tried_eq_cons {e : Elem} {ready : Nat → Bool} {k : Nat} (hk : k < 16) (hr : ready k = true)
    (hfirst : ∀ j, j < 16 → j ≠ k → ready j = true → e.Precedes k j) : ∃ rest, e.tried ready = k :: rest := by
  have hmem : k ∈ e.tried ready := Elem.mem_tried.2 ⟨hk, hr⟩
  have hsorted : (e.tried ready).Pairwise e.Precedes := e.order_pairwise.filter _
  match htried : e.tried ready with
  | [] => simp [htried] at hmem
  | j :: rest =>
    obtain ⟨hj16, hrj⟩ := Elem.mem_tried.1 (htried ▸ List.mem_cons_self : j ∈ e.tried ready)
    by_cases hjk : j = k
    · exact ⟨rest, by rw [hjk]⟩
    · rw [htried] at hmem hsorted
      have hbefore := List.rel_of_pairwise_cons hsorted ((List.mem_cons.1 hmem).resolve_left (Ne.symm hjk))
      exact absurd (hfirst j hj16 hjk hrj) hbefore.asymm

end Sys2Proof.Machine
end

section
/-! The Prism's choice (R69, R70, R73, R223): the rules are tried one after the other, and each joins those chosen unless something
bars it. What is chosen fits together, and what is left out stays barred, since what bars a rule is never taken back. -/

namespace Sys2Proof.Machine

/-- R69: the rules of a list that go to a lane. -/
def Elem.onLane (e : Elem) (l : List Nat) (lane : RLane) : List Nat := l.filter (fun j => laneOf (opcOf (e.actOf j)) == lane)

/-- R223: rule `k` is a command to the Press. -/
def Elem.commands (e : Elem) (k : Nat) : Bool := pressOp (opcOf (e.actOf k))

/-- R73: two rules, in either order, are compatible. -/
def Elem.agree (e : Elem) (j k : Nat) : Bool := compatible (e.foot (min j k)) (e.foot (max j k))

/-- R70, R73, R223: the rules of a list bar rule `k`: its lane is full, a command is among them and it is one, or it is not
compatible with one of them. -/
def Elem.Bars (e : Elem) (l : List Nat) (k : Nat) : Prop :=
  (laneOf (opcOf (e.actOf k))).cap ≤ (e.onLane l (laneOf (opcOf (e.actOf k)))).length
    ∨ (e.commands k = true ∧ ∃ j ∈ l, e.commands j = true)
    ∨ ∃ j ∈ l, e.agree j k = false

/-- R70, R73, R223: two rules may fire together. -/
def Elem.Together (e : Elem) (j k : Nat) : Prop := e.agree j k = true ∧ ¬ (e.commands j = true ∧ e.commands k = true)

theorem Elem.Together.symm {e : Elem} {j k : Nat} (h : e.Together j k) : e.Together k j :=
  ⟨by rw [Elem.agree, min_comm, max_comm]; exact h.1, fun hc => h.2 hc.symm⟩

/-- R69, R70: the rules of a list fire together within the lanes. -/
structure Elem.Fits (e : Elem) (l : List Nat) : Prop where
  lanes : ∀ lane : RLane, (e.onLane l lane).length ≤ lane.cap
  together : l.Pairwise e.Together

theorem RLane.cap_pos (lane : RLane) : 0 < lane.cap := by cases lane <;> decide

/-! One rule is tried. -/

theorem Elem.choose_of_bars {e : Elem} {l : List Nat} {k : Nat} (h : e.Bars l k) : e.choose l k = l := by
  refine if_neg ?_
  rintro ⟨hroom, hpress, hall⟩
  rcases h with hfull | ⟨hk, j, hj, hcmd⟩ | ⟨j, hj, hno⟩
  · exact absurd hroom (Nat.not_lt.2 hfull)
  · simp only [Bool.not_eq_true', Bool.and_eq_false_iff, List.any_eq_false] at hpress
    rcases hpress with hp | hp
    · exact absurd hk (by simp [Elem.commands, hp])
    · exact absurd hcmd (hp j hj)
  · exact absurd (List.all_eq_true.1 hall j hj) (by simpa [Elem.agree] using hno)

theorem Elem.choose_of_not_bars {e : Elem} {l : List Nat} {k : Nat} (h : ¬ e.Bars l k) : e.choose l k = l ++ [k] := by
  simp only [Elem.Bars, not_or, not_and, not_exists, Nat.not_le, Bool.not_eq_true, Bool.not_eq_false] at h
  obtain ⟨hroom, hpress, hall⟩ := h
  refine if_pos ⟨hroom, ?_, List.all_eq_true.2 hall⟩
  cases hk : e.commands k with
  | false => simp [show pressOp (opcOf (e.actOf k)) = false from hk]
  | true =>
    have hnone : l.any (fun j => pressOp (opcOf (e.actOf j))) = false :=
      List.any_eq_false.2 fun j hj => by simpa [Elem.commands] using hpress hk j hj
    rw [hnone, Bool.and_false]
    rfl

theorem Elem.Bars.mono {e : Elem} {l l' : List Nat} {k : Nat} (hl : l.Sublist l') (h : e.Bars l k) : e.Bars l' k := by
  rcases h with hfull | ⟨hk, j, hj, hcmd⟩ | ⟨j, hj, hno⟩
  · exact .inl (hfull.trans (hl.filter _).length_le)
  · exact .inr (.inl ⟨hk, j, hl.subset hj, hcmd⟩)
  · exact .inr (.inr ⟨j, hl.subset hj, hno⟩)

theorem Elem.sublist_choose (e : Elem) (l : List Nat) (k : Nat) : l.Sublist (e.choose l k) := by
  by_cases h : e.Bars l k
  · rw [Elem.choose_of_bars h]
  · rw [Elem.choose_of_not_bars h]
    exact List.sublist_append_left l [k]

theorem Elem.mem_choose_or_bars (e : Elem) (l : List Nat) (k : Nat) : k ∈ e.choose l k ∨ e.Bars l k := by
  by_cases h : e.Bars l k
  · exact .inr h
  · exact .inl (by rw [Elem.choose_of_not_bars h]; exact List.mem_concat_self)

theorem Elem.Fits.choose {e : Elem} {l : List Nat} (h : e.Fits l) (k : Nat) : e.Fits (e.choose l k) := by
  by_cases hb : e.Bars l k
  · rwa [Elem.choose_of_bars hb]
  rw [Elem.choose_of_not_bars hb]
  simp only [Elem.Bars, not_or, not_and, not_exists, Nat.not_le, Bool.not_eq_true, Bool.not_eq_false] at hb
  obtain ⟨hroom, hpress, hall⟩ := hb
  refine ⟨fun lane => ?_, ?_⟩
  · by_cases hlane : laneOf (opcOf (e.actOf k)) = lane
    · subst hlane
      simpa [Elem.onLane, List.filter_append] using hroom
    · simpa [Elem.onLane, List.filter_append, hlane] using h.lanes lane
  · refine List.pairwise_append.2 ⟨h.together, List.pairwise_singleton _ _, fun j hj k' hk' => ?_⟩
    rw [List.mem_singleton.1 hk']
    exact ⟨hall j hj, fun ⟨hcj, hck⟩ => by simp [hpress hck j hj] at hcj⟩

/-! All of them are. -/

theorem Elem.sublist_foldl_choose (e : Elem) (l rules : List Nat) : l.Sublist (rules.foldl e.choose l) := by
  induction rules generalizing l with
  | nil => exact List.Sublist.refl l
  | cons k rules ih => exact (e.sublist_choose l k).trans (ih _)

theorem Elem.Fits.foldl_choose {e : Elem} {l : List Nat} (h : e.Fits l) (rules : List Nat) : e.Fits (rules.foldl e.choose l) := by
  induction rules generalizing l with
  | nil => exact h
  | cons k rules ih => exact ih (h.choose k)

theorem Elem.mem_foldl_choose_or_bars (e : Elem) (l : List Nat) {rules : List Nat} {k : Nat} (hk : k ∈ rules) :
    k ∈ rules.foldl e.choose l ∨ e.Bars (rules.foldl e.choose l) k := by
  induction rules generalizing l with
  | nil => cases hk
  | cons j rules ih =>
    rcases List.mem_cons.1 hk with rfl | hk
    · have hrest := e.sublist_foldl_choose (e.choose l k) rules
      exact (e.mem_choose_or_bars l k).imp (fun h => hrest.subset h) (fun h => h.mono ((e.sublist_choose l k).trans hrest))
    · exact ih _ hk

theorem Elem.foldl_choose_sublist (e : Elem) (l rules : List Nat) : (rules.foldl e.choose l).Sublist (l ++ rules) := by
  induction rules generalizing l with
  | nil => simp
  | cons k rules ih =>
    refine (ih _).trans ?_
    have hone : (e.choose l k).Sublist (l ++ [k]) := by
      by_cases h : e.Bars l k
      · rw [Elem.choose_of_bars h]
        exact List.sublist_append_left l [k]
      · rw [Elem.choose_of_not_bars h]
    simpa using hone.append_right rules

/-! The rules that a round fires. -/

/-- The rules chosen, in the order in which they were tried. -/
def Elem.chosen (e : Elem) (ready : Nat → Bool) : List Nat := (e.tried ready).foldl e.choose []

theorem Elem.prism_eq (e : Elem) (ready : Nat → Bool) : e.prism ready = (List.range 16).filter (fun k => (e.chosen ready).contains k) := rfl

theorem Elem.chosen_sublist (e : Elem) (ready : Nat → Bool) : (e.chosen ready).Sublist (e.tried ready) :=
  e.foldl_choose_sublist [] (e.tried ready)

theorem Elem.chosen_fits (e : Elem) (ready : Nat → Bool) : e.Fits (e.chosen ready) :=
  Elem.Fits.foldl_choose ⟨fun _ => Nat.zero_le _, List.Pairwise.nil⟩ _

theorem Elem.mem_prism {e : Elem} {ready : Nat → Bool} {k : Nat} : k ∈ e.prism ready ↔ k ∈ e.chosen ready := by
  rw [Elem.prism_eq, List.mem_filter, List.contains_iff_mem, List.mem_range]
  exact ⟨And.right, fun h => ⟨(Elem.mem_tried.1 ((e.chosen_sublist ready).subset h)).1, h⟩⟩

theorem Elem.prism_sorted (e : Elem) (ready : Nat → Bool) : (e.prism ready).Pairwise (· < ·) := List.pairwise_lt_range.filter _

theorem Elem.prism_perm_chosen (e : Elem) (ready : Nat → Bool) : (e.prism ready).Perm (e.chosen ready) :=
  (List.perm_ext_iff_of_nodup ((e.prism_sorted ready).imp Nat.ne_of_lt)
    ((e.chosen_sublist ready).nodup (e.order_nodup.filter _))).2 fun _ => Elem.mem_prism

theorem Elem.prism_ready {e : Elem} {ready : Nat → Bool} {k : Nat} (h : k ∈ e.prism ready) : k < 16 ∧ ready k = true :=
  Elem.mem_tried.1 ((e.chosen_sublist ready).subset (Elem.mem_prism.1 h))

theorem Elem.prism_fits (e : Elem) (ready : Nat → Bool) : e.Fits (e.prism ready) where
  lanes lane := (((e.prism_perm_chosen ready).filter _).length_eq).trans_le ((e.chosen_fits ready).lanes lane)
  together := (e.prism_perm_chosen ready).symm.pairwise (e.chosen_fits ready).together fun h => h.symm

/-- Nothing could join what fires (R70). -/
theorem Elem.prism_maximal {e : Elem} {ready : Nat → Bool} {k : Nat} (hk : k < 16) (hr : ready k = true) (hout : k ∉ e.prism ready) :
    e.Bars (e.prism ready) k := by
  have hbars := (e.mem_foldl_choose_or_bars [] (Elem.mem_tried.2 ⟨hk, hr⟩)).resolve_left (fun h => hout (Elem.mem_prism.2 h))
  rcases hbars with hfull | ⟨hck, j, hj, hcj⟩ | ⟨j, hj, hno⟩
  · exact .inl (hfull.trans_eq ((e.prism_perm_chosen ready).filter _).length_eq.symm)
  · exact .inr (.inl ⟨hck, j, Elem.mem_prism.2 hj, hcj⟩)
  · exact .inr (.inr ⟨j, Elem.mem_prism.2 hj, hno⟩)

/-- What is tried first fires: nothing is chosen yet that could bar it. -/
theorem Elem.first_mem_prism {e : Elem} {ready : Nat → Bool} {k : Nat} {rest : List Nat} (h : e.tried ready = k :: rest) :
    k ∈ e.prism ready := by
  have hfree : ¬ e.Bars [] k := by
    rintro (hfull | ⟨_, j, hj, _⟩ | ⟨j, hj, _⟩)
    · exact absurd hfull (Nat.not_le.2 (RLane.cap_pos _))
    · cases hj
    · cases hj
  rw [Elem.mem_prism, Elem.chosen, h, List.foldl_cons, Elem.choose_of_not_bars hfree]
  exact (e.sublist_foldl_choose _ rest).subset (List.mem_singleton.2 rfl)

end Sys2Proof.Machine
end

section
/-! What a round does with the Prism's choice (R70 to R72, R87, R88, R207, R333, R428): the element after the choice, and the rules
that fire where the element chooses at all. -/

namespace Sys2Proof.Machine

/-! The element after the choice (R70, R71). -/

@[simp] theorem Elem.turned_rot (e : Elem) (ready : Nat → Bool) (fired : List Nat) : (e.turned ready fired).rot = e.rot + 1 := rfl
@[simp] theorem Elem.turned_d (e : Elem) (ready : Nat → Bool) (fired : List Nat) : (e.turned ready fired).d = e.d := rfl
@[simp] theorem Elem.turned_ports (e : Elem) (ready : Nat → Bool) (fired : List Nat) : (e.turned ready fired).ports = e.ports := rfl
@[simp] theorem Elem.turned_life (e : Elem) (ready : Nat → Bool) (fired : List Nat) : (e.turned ready fired).life = e.life := rfl

theorem Elem.turned_wait (e : Elem) (ready : Nat → Bool) (fired : List Nat) {k : Nat} (h : k < 16) :
    (e.turned ready fired).wait[k] = if ready k = true ∧ k ∉ fired then (if e.wait[k] = 15 then 15 else e.wait[k] + 1) else 0 := by
  simp [Elem.turned]

@[simp] theorem Elem.watch_rot (e : Elem) (fired : List Nat) : (e.watch fired).rot = e.rot := rfl

/-! The choice of an element, by what may keep it from choosing. -/

theorem State.select_of_idle {s : State} {el : Nat} (w : Bool)
    (h : ¬ ((s.elem el).life = .running ∧ s.lets (regionOfElem el) = true)) : s.select el w = ([], s.elem el) :=
  if_pos ((not_and_or.1 h).imp_right fun hl => by simpa using hl)

section
variable {s : State} {el : Nat} (w : Bool) (hrun : (s.elem el).life = .running) (hlets : s.lets (regionOfElem el) = true)
include hrun hlets

theorem State.select_of_barred (h : (s.elem el).barred = true) : s.select el w = ([], { s.elem el with rot := (s.elem el).rot + 1 }) := by
  simp [State.select, hrun, hlets, h]

variable (hbar : (s.elem el).barred = false)
include hbar

theorem State.select_of_misreads_or_stopped (h : s.misreads el = true ∨ s.stopped el = true) :
    s.select el w = ([], (s.elem el).turned (s.readySet el) []) := by
  simp [State.select, hrun, hlets, hbar, h]

variable (hread : s.misreads el = false) (hgo : s.stopped el = false)
include hread hgo

theorem State.select_of_withheld (halu : ∃ k ∈ (s.elem el).prism (s.readySet el), laneOf (opcOf ((s.elem el).actOf k)) = .alu) :
    s.select el true = ([], { s.elem el with rot := (s.elem el).rot + 1 }) := by
  simp [State.select, hrun, hlets, hbar, hread, hgo, halu]

theorem State.select_of_issues
    (h : w = false ∨ ¬ ∃ k ∈ (s.elem el).prism (s.readySet el), laneOf (opcOf ((s.elem el).actOf k)) = .alu) :
    s.select el w = ((s.elem el).prism (s.readySet el),
      ((s.elem el).turned (s.readySet el) ((s.elem el).prism (s.readySet el))).watch ((s.elem el).prism (s.readySet el))) := by
  have hissue : (w && ((s.elem el).prism (s.readySet el)).any (fun k => laneOf (opcOf ((s.elem el).actOf k)) == .alu)) = false := by
    rcases h with rfl | hnone
    · rfl
    · rw [List.any_eq_false.2 fun k hk => by simpa using fun halu => hnone ⟨k, hk, halu⟩, Bool.and_false]
  simp [State.select, hrun, hlets, hbar, hread, hgo, hissue]

end

/-! What holds of the choice whatever keeps the element from choosing. -/

theorem State.select_rot {s : State} {el : Nat} (w : Bool) (hrun : (s.elem el).life = .running)
    (hlets : s.lets (regionOfElem el) = true) : (s.select el w).2.rot = (s.elem el).rot + 1 := by
  cases hbar : (s.elem el).barred with
  | true => rw [State.select_of_barred w hrun hlets hbar]
  | false =>
    by_cases hstop : s.misreads el = true ∨ s.stopped el = true
    · rw [State.select_of_misreads_or_stopped w hrun hlets hbar hstop, Elem.turned_rot]
    · simp only [not_or, Bool.not_eq_true] at hstop
      by_cases hissue : w = false ∨ ¬ ∃ k ∈ (s.elem el).prism (s.readySet el), laneOf (opcOf ((s.elem el).actOf k)) = .alu
      · rw [State.select_of_issues w hrun hlets hbar hstop.1 hstop.2 hissue, Elem.watch_rot, Elem.turned_rot]
      · simp only [not_or, Bool.not_eq_false, not_not] at hissue
        obtain ⟨rfl, halu⟩ := hissue
        rw [State.select_of_withheld hrun hlets hbar hstop.1 hstop.2 halu]

theorem State.select_barred {s : State} {el : Nat} (w : Bool) (hbar : (s.elem el).barred = true) :
    (s.select el w).1 = [] ∧ (s.select el w).2.wait = (s.elem el).wait := by
  by_cases hact : (s.elem el).life = .running ∧ s.lets (regionOfElem el) = true
  · rw [State.select_of_barred w hact.1 hact.2 hbar]
    exact ⟨rfl, rfl⟩
  · rw [State.select_of_idle w hact]
    exact ⟨rfl, rfl⟩

theorem State.select_misreads_or_stopped {s : State} {el : Nat} (w : Bool) (hstop : s.misreads el = true ∨ s.stopped el = true) :
    (s.select el w).1 = [] := by
  by_cases hact : (s.elem el).life = .running ∧ s.lets (regionOfElem el) = true
  · cases hbar : (s.elem el).barred with
    | true => exact (State.select_barred w hbar).1
    | false => rw [State.select_of_misreads_or_stopped w hact.1 hact.2 hbar hstop]
  · rw [State.select_of_idle w hact]

end Sys2Proof.Machine
end

section
/-! Region counters (R24, R25). One operation of a round advances them, State.tickRegions; whatever else a round does to a region
leaves its counter and its reset as they stand. What an operation leaves of the regions is said of their table: the table itself
where no region changes, else what Table.clocks reads of it. -/

namespace Sys2Proof

/-- R24, R25: the counters of the regions of a table, and which of them have left reset. -/
def Table.clocks (t : Table Machine.Region) (r : Nat) : Dword × Bool := ((Table.getD t r {}).cycle, (Table.getD t r {}).awake)

theorem Table.clocks_put {t : Table Machine.Region} {k : Nat} {x : Machine.Region} (h : (x.cycle, x.awake) = t.clocks k) :
    (Table.put t k x).clocks = t.clocks := by
  funext r
  by_cases hr : r = k
  · rw [hr, ← h, Table.clocks, Table.getD_put_same]
  · rw [Table.clocks, Table.getD_put_other _ _ _ _ _ hr, Table.clocks]

/-- A table written at every number of a list holds at each what was written there. -/
theorem Table.get?_foldl_put {α : Type} (v : Nat → α) (l : List Nat) (t : Table α) (k : Nat) :
    Table.get? (l.foldl (fun t j => Table.put t j (v j)) t) k = if k ∈ l then some (v k) else Table.get? t k := by
  induction l generalizing t with
  | nil => simp
  | cons j l ih =>
    rw [List.foldl_cons, ih]
    by_cases hl : k ∈ l
    · simp [hl]
    · by_cases hj : k = j
      · simp [hj, Table.get?_put_same]
      · simp [hl, hj, Table.get?_put_other _ _ _ _ hj]

namespace Machine

/-- What every step of a fold leaves alone, the fold leaves alone. -/
theorem foldl_unchanged {β γ δ : Type} (g : β → δ) {f : β → γ → β} (h : ∀ b x, g (f b x) = g b) (l : List γ) (b : β) :
    g (l.foldl f b) = g b := by
  induction l generalizing b with
  | nil => rfl
  | cons x l ih => rw [List.foldl_cons, ih, h]

theorem State.region_congr {s s' : State} (h : s'.regions = s.regions) (r : Nat) : s'.region r = s.region r := by
  rw [State.region, State.region, h]

@[simp] theorem State.setRegion_clocks {s : State} {k : Nat} {x : Region} (hc : x.cycle = (s.region k).cycle)
    (ha : x.awake = (s.region k).awake) : (s.setRegion k x).regions.clocks = s.regions.clocks :=
  Table.clocks_put (by rw [hc, ha]; rfl)

/-! Operations that leave the table of regions alone. -/

@[simp] theorem State.endTask_regions (s : State) (task : Nat) (st : TaskSt) (code : Byte) : (s.endTask task st code).regions = s.regions := by
  unfold State.endTask
  split
  · split <;> rfl
  · rfl

@[simp] theorem State.modTask_regions (s : State) (task : Nat) (f : Task → Task) : (s.modTask task f).regions = s.regions := by
  unfold State.modTask
  split <;> rfl

@[simp] theorem State.dflLog_regions (s : State) (r : DflRec) : (s.dflLog r).regions = s.regions := by
  unfold State.dflLog
  split <;> rfl

@[simp] theorem State.freeEntry_regions (s : State) (o : Option Nat) : (s.freeEntry o).regions = s.regions := by
  cases o with
  | none => rfl
  | some t =>
    unfold State.freeEntry
    dsimp only
    split <;> rfl

@[simp] theorem State.postEvent_regions (s : State) (ctx : Nat) (owner : Option Nat) (r : List Word) :
    (s.postEvent ctx owner r).regions = s.regions := by
  unfold State.postEvent
  dsimp only
  split
  · exact State.freeEntry_regions s owner
  · rfl

@[simp] theorem State.postFault_regions (s : State) (ctx : Nat) (r : List Word) : (s.postFault ctx r).regions = s.regions := by
  unfold State.postFault
  dsimp only
  split <;> rfl

@[simp] theorem State.ctxFault_regions (s : State) (ctx : Nat) : (s.ctxFault ctx).regions = s.regions :=
  foldl_unchanged State.regions State.freeEntry_regions _ _

@[simp] theorem State.setPorts_regions (s : State) (tile unit : Nat) (p : Ports) : (s.setPorts tile unit p).regions = s.regions := by
  unfold State.setPorts
  split
  · split
    · rfl
    · split <;> rfl
  · split <;> rfl

/-! What is placed in a region leaves it (R321, R332). -/

@[simp] theorem State.postElem_regions (s : State) (el : Nat) : (s.postElem el).regions = s.regions := by
  unfold State.postElem
  split
  · exact State.postFault_regions _ _ _
  · rfl

@[simp] theorem State.postUnit_regions (s : State) (k : Nat) (u : SUnit) : (s.postUnit k u).regions = s.regions := by
  unfold State.postUnit
  split
  · exact State.postFault_regions _ _ _
  · rfl

@[simp] theorem State.postCopy_regions (s : State) (tile : Nat) : (s.postCopy tile).regions = s.regions := by
  unfold State.postCopy
  split
  · exact State.postFault_regions _ _ _
  · rfl

@[simp] theorem State.postAll_regions (s : State) (reg : Nat) : (s.postAll reg).regions = s.regions := by
  unfold State.postAll
  dsimp only
  rw [foldl_unchanged State.regions (fun s _ => State.postCopy_regions s _),
    foldl_unchanged State.regions (fun s _ => State.postUnit_regions s _ _),
    foldl_unchanged State.regions (fun s _ => State.postElem_regions s _)]

@[simp] theorem State.dropRegion_regions (s : State) (reg : Nat) : (s.dropRegion reg).regions = s.regions :=
  State.postAll_regions s reg

/-! Fences (R339). -/

@[simp] theorem State.fenceTask_regions (s : State) (task : Nat) (code : Byte) : (s.fenceTask task code).regions = s.regions :=
  State.modTask_regions _ _ _

@[simp] theorem State.fenceRegion_clocks (s : State) (reg : Nat) (code : Byte) :
    (s.fenceRegion reg code).regions.clocks = s.regions.clocks := by
  unfold State.fenceRegion
  dsimp only
  split
  · rfl
  have hdrop : (((if ((s.region reg).st != .free) = true then s.fenceTask (s.region reg).task.toNat code else s).dropRegion reg)).regions
      = s.regions := by
    rw [State.dropRegion_regions]
    split
    · exact State.fenceTask_regions _ _ _
    · rfl
  have hreg := State.region_congr hdrop reg
  unfold State.shapeCheck
  dsimp only
  rw [State.dflLog_regions, State.setRegion_clocks (by rw [hreg]) (by rw [hreg]), hdrop]

/-! Protection of storage (R418 to R422). -/

@[simp] theorem State.markBad_clocks (s : State) (n : Nat) : (s.markBad n).regions.clocks = s.regions.clocks := by
  unfold State.markBad
  split
  · exact State.setRegion_clocks rfl rfl
  · split <;> rfl

@[simp] theorem State.flipByte_clocks (s : State) (group bank : Nat) (e : Byte) :
    (s.flipByte group bank e).regions.clocks = s.regions.clocks := by
  unfold State.flipByte
  split
  · rfl
  · split
    · rfl
    · exact State.setRegion_clocks rfl rfl
    · rfl

@[simp] theorem State.flip_clocks (s : State) (group : Nat) (l : List (Nat × Byte)) : (s.flip group l).regions.clocks = s.regions.clocks :=
  foldl_unchanged (fun s : State => s.regions.clocks) (fun s _ => State.flipByte_clocks s _ _ _) _ _

@[simp] theorem State.symbolFault_clocks (s : State) (n bank : Nat) (e : Byte) :
    (s.symbolFault n bank e).regions.clocks = s.regions.clocks := by
  unfold State.symbolFault
  dsimp only
  split
  · rfl
  · split
    · exact State.flip_clocks _ _ _
    · exact State.flip_clocks _ _ _
    · exact State.markBad_clocks _ _

@[simp] theorem State.bankFails_clocks (s : State) (key f : Nat) : (s.bankFails key f).regions.clocks = s.regions.clocks :=
  foldl_unchanged (fun s : State => s.regions.clocks) (fun s _ => State.markBad_clocks s _) _ _

@[simp] theorem State.correct_clocks (s : State) (group bank : Nat) : (s.correct group bank).regions.clocks = s.regions.clocks := by
  unfold State.correct
  extract_lets g b b1
  split
  · rw [State.dflLog_regions, State.bankFails_clocks]
  · rfl

@[simp] theorem State.noteGroup_clocks (s : State) (group : Nat) : (s.noteGroup group).regions.clocks = s.regions.clocks := by
  unfold State.noteGroup
  split
  · split <;> rfl
  · split
    · exact State.correct_clocks _ _ _
    · rfl

@[simp] theorem State.bankFence_clocks (s : State) (key : Nat) : (s.bankFence key).regions.clocks = s.regions.clocks := by
  unfold State.bankFence
  dsimp only
  split
  · exact State.fenceRegion_clocks _ _ _
  · rfl

@[simp] theorem State.bankFences_clocks (s : State) : s.bankFences.regions.clocks = s.regions.clocks :=
  foldl_unchanged (fun s : State => s.regions.clocks) State.bankFence_clocks _ _

@[simp] theorem State.scrubPeriod_clocks (s : State) : s.scrubPeriod.regions.clocks = s.regions.clocks := by
  unfold State.scrubPeriod State.scrubAll
  dsimp only
  rw [State.bankFences_clocks]
  exact foldl_unchanged (fun s : State => s.regions.clocks) State.noteGroup_clocks _ _

@[simp] theorem State.residueFail_clocks (s : State) (tile : Nat) : (s.residueFail tile).regions.clocks = s.regions.clocks := by
  unfold State.residueFail
  dsimp only
  split <;> simp

@[simp] theorem State.mismatch_clocks (s : State) (unit : Nat) : (s.mismatch unit).regions.clocks = s.regions.clocks :=
  State.residueFail_clocks _ _

@[simp] theorem State.lose_regions (s : State) (l : Lost) : (s.lose l).regions = s.regions := by
  cases l with
  | tile t =>
    simp only [State.lose]
    split <;> simp
  | entry k =>
    simp only [State.lose]
    split <;> simp
  | block c =>
    simp only [State.lose]
    split <;> simp
  | slot k j =>
    simp only [State.lose]
    split <;> simp [State.queueEvent]

@[simp] theorem State.losses_regions (s : State) : s.losses.regions = s.regions :=
  foldl_unchanged State.regions (fun s _ => State.lose_regions s _) _ _

@[simp] theorem State.wordFault_regions (s : State) (el k : Nat) (v : Word) : (s.wordFault el k v).regions = s.regions := by
  unfold State.wordFault
  dsimp only
  split
  · rfl
  · split
    · rfl
    · split
      · split <;> rfl
      · rfl

@[simp] theorem State.strike_clocks (s : State) (x : Strike) : (s.strike x).regions.clocks = s.regions.clocks := by
  cases x with
  | symbol group bank err => exact State.symbolFault_clocks s group bank err
  | line pa =>
    simp only [State.strike]
    split <;> simp
  | store l => rfl
  | result k => rfl
  | word el k v => simp [State.strike]

@[simp] theorem State.strikes_clocks (s : State) : s.strikes.regions.clocks = s.regions.clocks :=
  foldl_unchanged (fun s : State => s.regions.clocks) State.strike_clocks _ _

/-! Movement (R19 to R21, R386). -/

@[simp] theorem State.depart_regions (s : State) (ch : Nat) : (s.depart ch).regions = s.regions := by
  unfold State.depart
  split
  · rfl
  · split
    · rfl
    · dsimp only
      split
      · split
        · rfl
        · exact State.setPorts_regions _ _ _ _
      · split
        · rfl
        · exact State.setPorts_regions _ _ _ _

theorem State.arriveData_regions {s s' : State} {c : Channel} {t : Token} (h : s.arriveData c t = some s') : s'.regions = s.regions := by
  unfold State.arriveData at h
  dsimp only at h
  split at h
  · cases h; rfl
  · split at h
    · cases h; exact State.setPorts_regions _ _ _ _
    · split at h
      · cases h
      · cases h; exact State.setPorts_regions _ _ _ _

theorem State.arriveCtl_regions {s s' : State} {d : EndPt} (h : s.arriveCtl d = some s') : s'.regions = s.regions := by
  unfold State.arriveCtl at h
  dsimp only at h
  split at h
  · cases h
  · cases h; exact State.setPorts_regions _ _ _ _

@[simp] theorem State.arrive_clocks (s : State) (ch : Nat) : (s.arrive ch).regions.clocks = s.regions.clocks := by
  unfold State.arrive
  split
  · rfl
  · split
    · rfl
    · dsimp only
      split
      · rfl
      · split
        · exact State.setRegion_clocks rfl rfl
        · split
          · rfl
          · split
            · next hin =>
              split at hin
              · rw [State.arriveCtl_regions hin]
              · rw [State.arriveData_regions hin]
            · rfl

@[simp] theorem State.route_clocks (s : State) (ch : Nat) : (s.route ch).regions.clocks = s.regions.clocks := by
  unfold State.route
  split
  · rfl
  · simp

@[simp] theorem State.wheyDrop_regions (s : State) (f : EndPt) : (s.wheyDrop f).regions = s.regions := by
  unfold State.wheyDrop
  split
  · dsimp only
    split
    · rfl
    · split <;> rfl
  · split <;> rfl

theorem State.wheyEnter_regions {s s' : State} {d : EndPt} {t : WheyTok} (h : s.wheyEnter d t = some s') : s'.regions = s.regions := by
  unfold State.wheyEnter at h
  split at h
  · cases h
  · split at h
    · dsimp only at h
      split at h
      · cases h
      · cases h; rfl
    · cases h

@[simp] theorem State.wheyLane_regions (s : State) (k : Nat) : (s.wheyLane k).regions = s.regions := by
  unfold State.wheyLane
  split
  · rfl
  · next c _ =>
    extract_lets on s1 s2
    have h1 : s1.1.regions = s.regions := by
      unfold s1
      split
      · rfl
      · split
        · exact State.wheyDrop_regions _ _
        · rfl
    have h2 : s2.1.regions = s1.1.regions := by
      unfold s2
      split
      · split
        · next hin => exact State.wheyEnter_regions hin
        · rfl
      · rfl
    exact h2.trans h1

@[simp] theorem State.move_clocks (s : State) : s.move.regions.clocks = s.regions.clocks := by
  unfold State.move
  dsimp only
  rw [foldl_unchanged State.regions State.wheyLane_regions,
    foldl_unchanged (fun s : State => s.regions.clocks) State.route_clocks]

@[simp] theorem State.deliverRelease_regions (s : State) (r : Release) : (s.deliverRelease r).regions = s.regions := by
  unfold State.deliverRelease
  dsimp only
  split
  · split <;> rfl
  · rfl

@[simp] theorem State.releaseSome_regions (s : State) : s.releaseSome.regions = s.regions := by
  refine foldl_unchanged State.regions (fun s x => ?_) _ _
  split
  · exact State.deliverRelease_regions _ _
  · rfl

/-! What runs (R321), and what a round sends (R407). -/

@[simp] theorem State.enterReload_clocks (s : State) (reg : Nat) : (s.enterReload reg).regions.clocks = s.regions.clocks := by
  unfold State.enterReload
  dsimp only
  split
  · exact State.setRegion_clocks rfl rfl
  · rfl

@[simp] theorem State.freezeState_clocks (s : State) (reg : Nat) : (s.freezeState reg).regions.clocks = s.regions.clocks := by
  unfold State.freezeState
  dsimp only
  split
  · exact State.setRegion_clocks rfl rfl
  · split
    · exact State.setRegion_clocks rfl rfl
    · rfl

@[simp] theorem State.drainState_clocks (s : State) (reg : Nat) : (s.drainState reg).regions.clocks = s.regions.clocks := by
  unfold State.drainState
  dsimp only
  split
  · exact State.setRegion_clocks rfl rfl
  · rfl

@[simp] theorem State.regionStates_clocks (s : State) : s.regionStates.regions.clocks = s.regions.clocks :=
  foldl_unchanged (fun s : State => s.regions.clocks) (fun s r => by simp) _ _

@[simp] theorem State.transmit_regions (s : State) : s.transmit.regions = s.regions := by
  unfold State.transmit
  split
  · rfl
  · split <;> rfl

@[simp] theorem State.bootBegins_regions (s : State) : s.bootBegins.regions = s.regions := by
  unfold State.bootBegins
  split <;> rfl

@[simp] theorem State.takeReport_regions (s : State) : s.takeReport.regions = s.regions := by
  unfold State.takeReport
  split <;> rfl

/-! The choices of a round (R70, R310, R423). -/

@[simp] theorem State.selectOne_clocks (w : Bool) (acc : State × List Todo) (el : Nat) :
    (State.selectOne w acc el).1.regions.clocks = acc.1.regions.clocks := by
  unfold State.selectOne
  dsimp only
  split
  · exact State.mismatch_clocks _ _
  · rfl

@[simp] theorem State.prisms_clocks (s : State) (w : Bool) : (s.prisms w).1.regions.clocks = s.regions.clocks :=
  foldl_unchanged (fun acc : State × List Todo => acc.1.regions.clocks) (State.selectOne_clocks w) _ _

@[simp] theorem State.walks_regions (s : State) : s.walks.1.regions = s.regions := by
  refine foldl_unchanged (fun acc : State × List Todo => acc.1.regions) (fun acc x => ?_) _ _
  extract_lets ks
  split <;> rfl

@[simp] theorem State.pressUpsets_clocks (s : State) : s.pressUpsets.regions.clocks = s.regions.clocks := by
  refine foldl_unchanged (fun s : State => s.regions.clocks) (fun s x => ?_) _ _
  split
  · split
    · exact State.mismatch_clocks _ _
    · rfl
  · rfl

@[simp] theorem State.aluUpsets_clocks (s : State) : s.aluUpsets.regions.clocks = s.regions.clocks := by
  refine foldl_unchanged (fun s : State => s.regions.clocks) (fun s x => ?_) _ _
  split
  · split
    · exact State.mismatch_clocks _ _
    · rfl
  · rfl

/-! The round. -/

theorem State.timers_clocks (s : State) : s.timers.regions.clocks = s.tickRegions.regions.clocks := by
  unfold State.timers
  dsimp only
  split <;> simp

theorem State.tickRegions_clocks {s : State} {r : Nat} (hr : r < 64) (hawake : (s.region r).awake = true) :
    s.tickRegions.regions.clocks r = ((s.region r).cycle + 1, true) := by
  have hput : Table.get? s.tickRegions.regions r = some (s.region r).tick := by
    simp only [State.tickRegions, Table.get?_foldl_put, List.mem_range, hr, hawake, if_true]
  simp [Table.clocks, Table.getD, hput, Region.tick, hawake]

theorem State.advance_clocks {s : State} {r : Nat} (hr : r < 64) (hawake : (s.region r).awake = true) :
    s.advance.regions.clocks r = ((s.region r).cycle + 1, true) := by
  have hreg := State.region_congr s.takeReport_regions r
  rw [← hreg] at hawake ⊢
  simp [State.advance, State.timers_clocks, State.tickRegions_clocks hr hawake]

theorem exec_round (s : State) : exec .round s = execRound s := rfl

/-- ROUND answers a state, in which the counters stand as all that comes before the choices has left them. -/
theorem execRound_next (s : State) : ∃ s', execRound s = .next s' ∧ s'.regions.clocks = s.advance.regions.clocks := by
  unfold execRound
  dsimp only
  exact ⟨_, rfl, by simp [State.grants]⟩

end Machine
end Sys2Proof
end

section
/-! The obligation on a round: the Prism's choice, the elements that choose, and the counters. -/

namespace Sys2Proof.Machine

theorem Elem.prism_pairwise (e : Elem) (ready : Nat → Bool) :
    (e.prism ready).Pairwise (fun j k =>
      j < k ∧ compatible (e.foot j) (e.foot k) = true ∧ ¬ (e.commands j = true ∧ e.commands k = true)) := by
  refine ((e.prism_sorted ready).and (e.prism_fits ready).together).imp ?_
  rintro j k ⟨hlt, hagree, hcmd⟩
  rw [Elem.agree, min_eq_left hlt.le, max_eq_right hlt.le] at hagree
  exact ⟨hlt, hagree, hcmd⟩

/-- A ready rule left out while its lane has room is barred by one that fires (R70, R73, R223). -/
theorem Elem.prism_left_out {e : Elem} {ready : Nat → Bool} {k : Nat} (hk : k < 16) (hr : ready k = true) (hout : k ∉ e.prism ready)
    (hroom : (e.onLane (e.prism ready) (laneOf (opcOf (e.actOf k)))).length < (laneOf (opcOf (e.actOf k))).cap) :
    (∃ j ∈ e.prism ready, e.agree j k = false) ∨ (e.commands k = true ∧ ∃ j ∈ e.prism ready, e.commands j = true) :=
  ((Elem.prism_maximal hk hr hout).resolve_left (Nat.not_le.2 hroom)).symm

theorem Elem.first_fires {e : Elem} {ready : Nat → Bool} {k : Nat} (hk : k < 16) (hr : ready k = true)
    (hfirst : ∀ j, j < 16 → j ≠ k → ready j = true → e.Precedes k j) : k ∈ e.prism ready := by
  obtain ⟨rest, htried⟩ := Elem.tried_eq_cons hk hr hfirst
  exact Elem.first_mem_prism htried

/-- R24: a round advances the counter of every region that has left reset. -/
theorem exec_round_cycle (s : State) : ∃ s', exec .round s = .next s'
    ∧ ∀ r, r < 64 → (s.region r).awake = true → (s'.region r).cycle = (s.region r).cycle + 1 ∧ (s'.region r).awake = true := by
  obtain ⟨s', hnext, hclocks⟩ := execRound_next s
  refine ⟨s', (exec_round s).trans hnext, fun r hr hawake => ?_⟩
  have hr' : s'.regions.clocks r = ((s.region r).cycle + 1, true) := by rw [hclocks, State.advance_clocks hr hawake]
  exact Prod.mk.inj hr'

/-- Settles O55: the rules are tried in the Prism's order and each joins unless those chosen bar it, which gives what fires and why
the others do not; an element that chooses does so by one of four branches; and of all that a round does, only its timers move the
counters. -/
theorem roundPrism : Obligations.RoundPrism := by
  refine ⟨fun e ready => ?choice, fun s el w => ?element, exec_round_cycle⟩
  case choice =>
    intro fired lane press room urgent cls far
    refine ⟨e.prism_pairwise ready, fun k hk => Elem.prism_ready hk, fun k _ => (e.prism_fits ready).lanes (lane k),
      fun k hk hr hout hroom => Elem.prism_left_out hk hr hout hroom, fun k hk hr hfirst => Elem.first_fires hk hr hfirst,
      e.turned_rot ready fired, fun k hk => e.turned_wait ready fired hk, e.turned_d ready fired, e.turned_ports ready fired,
      e.turned_life ready fired⟩
  case element =>
    intro alu
    refine ⟨?notRunning, State.select_rot w, State.select_barred w, ?stops, ?chooses⟩
    case notRunning => exact fun hrun => State.select_of_idle w fun h => hrun h.1
    case stops =>
      refine fun hstop => ⟨State.select_misreads_or_stopped w hstop, fun hrun hlets hbar => ?_⟩
      rw [State.select_of_misreads_or_stopped w hrun hlets hbar hstop]
    case chooses =>
      refine fun hrun hlets hread hbar hgo => ⟨fun hissue => ?_, ?_⟩
      · rw [State.select_of_issues w hrun hlets hbar hread hgo hissue]
      · rintro rfl halu
        rw [State.select_of_withheld hrun hlets hbar hread hgo halu]
        exact ⟨rfl, rfl⟩

end Sys2Proof.Machine
end

section
/-! What a step adds around exec (R70, R74, R310): it takes the first item of the agenda and runs the instruction that item holds. -/

namespace Sys2Proof.Machine

theorem runWord_of_decode {w : Word} {i : Instr} (h : decodeWord w = .ok i) (c : Cursor) (s : State) :
    runWord w c s = exec i { s with cur := c } := by
  simp only [runWord, h]

theorem encode_evInstr (e : Ev) : encode (evInstr e) = none := by cases e <;> rfl

section
variable {s : State} {rest : List Todo}

theorem step_of_fire {el rule : Nat} (h : s.agenda = .fire el rule :: rest) :
    step s = runWord (s.ruleWord el rule) (.rule el rule) { s with agenda := rest } := by
  simp only [step, h]

theorem step_of_walk {t k rule : Nat} (h : s.agenda = .walk t k :: rest)
    (hrule : walkRule (s.loupe t) ((s.loupe t).slot k).p = some rule) :
    step s = runWord (s.walkWord t rule) (.walk t k rule) { s with agenda := rest } := by
  simp only [step, h, hrule]

theorem step_of_walk_without_rule {t k : Nat} (h : s.agenda = .walk t k :: rest)
    (hrule : walkRule (s.loupe t) ((s.loupe t).slot k).p = none) :
    step s = .next ({ s with agenda := rest }.endWalk t k 4 0xFF []) := by
  simp only [step, h, hrule, State.walkNoRule]

theorem step_of_ev {e : Ev} (h : s.agenda = .ev e :: rest) : step s = runEv e { s with agenda := rest, cur := .none } := by
  simp only [step, h]

theorem step_of_empty (h : s.agenda = []) : step s = exec .round { s with cur := .none } := by
  simp only [step, h]

end

/-- Settles O4: one case for each first item of the agenda. A rule's and a walk's word run as the instruction they decode to, and a
step without an encoding runs as its own instruction. -/
theorem stepRunsDecoded : Obligations.StepRunsDecoded := by
  refine fun s rest => ⟨?fire, ?walk, ?walkEnds, ?ev, step_of_empty⟩
  case fire => exact fun el rule i h hword => (step_of_fire h).trans (runWord_of_decode hword _ _)
  case walk => exact fun t k rule i h hrule hword => (step_of_walk h hrule).trans (runWord_of_decode hword _ _)
  case walkEnds => exact fun t k h hrule => step_of_walk_without_rule h hrule
  case ev => exact fun e h => ⟨step_of_ev h, evInstr e, encode_evInstr e, runEv_eq_exec e⟩

end Sys2Proof.Machine
end

section
/-! What the shared rule operation can do (R68, R74, R79): wait for an operand or for room, commit, or abort. The operations that wait
and that commit with their operands there are State.genElem_waits and State.genElem_fires. -/

namespace Sys2Proof.Machine

section
variable {s : State} {el rule : Nat} {q : Req} {f : In → Res} {x : In}

theorem State.genElem_without_input (h : (s.elem el).input q = none) : s.genElem el rule q f = s := by
  simp only [State.genElem, h]

theorem State.genElem_aborts {code : Byte} (hx : (s.elem el).input q = some x) (hf : f x = .abort code) :
    s.genElem el rule q f = s.abortWith el rule code x := by
  simp only [State.genElem, hx, hf, State.abortWith]

theorem State.abortWith_eq (s : State) (el rule : Nat) (code : Byte) (x : In) :
    s.abortWith el rule code x = s.setElem el ((s.elem el).freeze
      { code := code, rule := BitVec.ofNat 4 rule, opa := x.a.data, opb := x.b.data, stamp := s.cycleOf (regionOfElem el) } false) := rfl

/-- R309: an instruction of the element groups, in a rule. -/
theorem State.genE_of_armed (h : s.armed el rule q x) : s.genE q f = .next (s.genElem el rule q f) := by
  simp only [State.genE, h.1]

end

/-! Operands that are not there (R68 item 1). -/

/-- R68 item 1: an end that is empty, or at whose head MARK or DRAIN stands, gives no operand. -/
theorem Elem.headTok_eq_none {e : Elem} {k : Nat}
    (h : e.ports.head k = none ∨ ∃ t, e.ports.head k = some t ∧ (t.tag = Tag.mark ∨ t.tag = Tag.drain)) : e.headTok k = none := by
  obtain hnone | ⟨t, hsome, htag⟩ := h
  · simp only [Elem.headTok, hnone]
  · have hstop : (t.tag == Tag.mark || t.tag == Tag.drain) = true := by simpa using htag
    simp only [Elem.headTok, hsome, hstop, if_true]

/-- R134: codes 8 to 15 take the head of an end, codes 16 to 23 look at it. -/
theorem Elem.src?_of_channel {e : Elem} {k : Nat} {c : BitVec 5} (hk : k < 8) (hc : c.toNat = 8 + k ∨ c.toNat = 16 + k) :
    e.src? c = e.headTok k := by
  obtain hc | hc := hc
  · have hlt : 8 + k < 16 := by omega
    simp [Elem.src?, hc, hlt]
  · have hge : ¬ 16 + k < 8 := by omega
    have hlt : 16 + k < 24 := by omega
    simp [Elem.src?, hc, hge, hlt]

theorem Elem.input_eq_none {e : Elem} {q : Req} (h : e.opnd q.a = none ∨ e.opnd q.b = none) : e.input q = none := by
  unfold Elem.input
  obtain h | h := h
  · simp [h]
  · cases e.opnd q.a <;> simp [h]

theorem Elem.input_eq_none_of_src? {e : Elem} {q : Req} {c : BitVec 5} (hc : q.a = some c ∨ q.b = some c)
    (hsrc : e.src? c = none) : e.input q = none :=
  Elem.input_eq_none (hc.imp (fun h => by rw [h]; exact hsrc) (fun h => by rw [h]; exact hsrc))

/-- Settles O10: the shared operation branches on the operands, then on what the instruction computes from them, then on the room. -/
theorem ruleWaits : Obligations.RuleWaits := by
  refine fun s el rule q f => ⟨State.genElem_without_input, ?noToken, ?computes, ?aborts⟩
  case noToken =>
    intro k c hc hcode hk hhead
    have hsrc : (s.elem el).src? c = none := (Elem.src?_of_channel hk hcode).trans (Elem.headTok_eq_none hhead)
    exact State.genElem_without_input (Elem.input_eq_none_of_src? hc hsrc)
  case computes => exact fun x puts flag inc hx hf => ⟨State.genElem_waits hx hf, State.genElem_fires hx hf⟩
  case aborts => exact fun x code hx hf => (State.genElem_aborts hx hf).trans (State.abortWith_eq s el rule code x)

end Sys2Proof.Machine
end

section
/-! The aborts of the move group (R144, R147): a tag that may not enter a channel, and a count of 0. -/

namespace Sys2Proof.Machine

/-- R144: what MKTAG computes. -/
def mktagRes (d : BitVec 5) (x : In) : Res :=
  if tagOk (fld x.b.data 0 4) then ret d (fld x.b.data 0 4) x.a.data (nz x.a.data) else .abort 0x02

/-- R147: what CNTSET computes for the counter that D names. -/
def cntsetRes (d : BitVec 5) (x : In) : Res :=
  if x.a.data = 0 then .abort 0x02
  else .done [.l (BitVec.ofNat 1 ((d.toNat + 1) % 2))
    { (x.l[(d.toNat + 1) % 2 % 2]'(Nat.mod_lt _ (by decide))) with bound := x.a.data, value := 0 }] false {}

theorem exec_mktag (d a b : BitVec 5) (i : BitVec 3) (p : BitVec 2) (s : State) :
    exec (.mktag d a b i p) s = s.genE (rq d (some a) (some b) i p 1) (mktagRes d) := rfl

theorem exec_cntset (d a : BitVec 5) (i : BitVec 3) (p : BitVec 2) (s : State) :
    exec (.cntset d a i p) s = s.genE (rq 24 (some a) none i p 1) (cntsetRes d) := rfl

@[simp] theorem fld_toNat (w : Word) (lo n : Nat) : (fld w lo n).toNat = fldN w lo n := by simp [fld, fldN]

/-- R62, R144: the tags that may not enter a channel are 7 and those from 12 on. -/
theorem tagOk_eq_false {t : Tag} (h : t.toNat = 7 ∨ 12 ≤ t.toNat) : tagOk t = false := by
  revert t; decide

theorem mktagRes_aborts (d : BitVec 5) {x : In} (h : fldN x.b.data 0 4 = 7 ∨ 12 ≤ fldN x.b.data 0 4) : mktagRes d x = .abort 0x02 := by
  have hbad : tagOk (fld x.b.data 0 4) = false := tagOk_eq_false (by rwa [fld_toNat])
  simp [mktagRes, hbad]

theorem cntsetRes_aborts (d : BitVec 5) {x : In} (h : x.a.data = 0) : cntsetRes d x = .abort 0x02 := by
  simp [cntsetRes, h]

theorem Elem.freeze_of_running {e : Elem} (h : e.life = .running) (f : FaultReg) (trap : Bool) :
    e.freeze f trap = { e with life := .frozen, fault := f, unposted := true } := by
  simp only [Elem.freeze, h]

/-- R79, R80: a rule of the element groups that aborts leaves a state in which its element alone has changed, by its freeze. -/
theorem State.genE_aborts {s : State} {el rule : Nat} {q : Req} {f : In → Res} {x : In} {code : Byte} (ha : s.armed el rule q x)
    (hf : f x = .abort code) : s.genE q f = .next (s.abortWith el rule code x) := by
  rw [State.genE_of_armed ha, State.genElem_aborts ha.2 hf]

/-- Settles O14: both instructions abort with CFG_FIELD, and the freeze of a RUNNING element writes its life, its fault register and
the freeze to be posted, nothing else. -/
theorem abortFreezes : Obligations.AbortFreezes := by
  intro s el rule x d a b i p hrun j hj
  have hexec : exec j s = .next (s.abortWith el rule 0x02 x) := by
    obtain ⟨harmed, hbad, rfl⟩ | ⟨harmed, hzero, rfl⟩ := hj
    · rw [exec_mktag, State.genE_aborts harmed (mktagRes_aborts d hbad)]
    · rw [exec_cntset, State.genE_aborts harmed (cntsetRes_aborts d hzero)]
  rw [State.abortWith_eq, Elem.freeze_of_running hrun] at hexec
  exact ⟨_, hexec, rfl, rfl, rfl, rfl, rfl, rfl, rfl, rfl, rfl, rfl, rfl, rfl, rfl, rfl⟩

end Sys2Proof.Machine
end

section
/-! The commit of a fired rule (R74, R75, R84, R134, R135): the takes, the writes of one round, and the places of a longer one, each
with what it leaves of the ends, the registers and the increments. -/

namespace Sys2Proof.Machine

/-! The two parts of a commit. -/

/-- R67, R74, R84, R112: a fired rule's element after its takes and its departures from the cycles, before its writes `l`. -/
def Elem.paid (e : Elem) (rule : Nat) (q : Req) (l : List Put) : Elem := l.foldl Elem.leave (e.fireTakes rule (takes q.a q.b))

theorem Elem.commit_of_one_round (e : Elem) (rule : Nat) {q : Req} (l : List Put) (n : Inc) (h : q.lat = 1) :
    e.commit rule q l n = { (e.paid rule q l).puts l with now := (e.paid rule q l).now.plus n } := by
  simp only [Elem.commit, Elem.issue, h, le_refl, if_true, Elem.paid]

@[simp] theorem Elem.commit_stats (e : Elem) (r : Nat) (q : Req) (l : List Put) (n : Inc) : (e.commit r q l n).stats = e.stats := by
  unfold Elem.commit Elem.issue; split <;> simp

/-! The increments of the round and of the next (R43). -/

/-- R43: the increments of this round and of the next. -/
def Elem.incs (e : Elem) : Inc × Inc := (e.now, e.due)

@[simp] theorem Elem.takeIn_incs (e : Elem) (k : Nat) : (e.takeIn k).incs = e.incs := by
  unfold Elem.takeIn Elem.admission; split <;> (try split) <;> rfl

@[simp] theorem Elem.takeCtl_incs (e : Elem) (r : Nat) : (e.takeCtl r).incs = e.incs := by
  unfold Elem.takeCtl; simp only []; split <;> rfl

@[simp] theorem Elem.once_incs (e : Elem) (r : Nat) : (e.once r).incs = e.incs := by
  unfold Elem.once; simp only []; split <;> rfl

@[simp] theorem Elem.leave_incs (e : Elem) (x : Put) : (e.leave x).incs = e.incs := by
  unfold Elem.leave; split <;> (try split) <;> rfl

@[simp] theorem Elem.put_incs (e : Elem) (x : Put) : (e.put x).incs = e.incs := by cases x <;> rfl

@[simp] theorem Elem.putHeld_incs (e : Elem) (id : Nat) (x : Put) : (e.putHeld id x).incs = e.incs := by cases x <;> rfl

@[simp] theorem Elem.fireTakes_incs (e : Elem) (r : Nat) (ends : List Nat) : (e.fireTakes r ends).incs = e.incs := by
  simp [Elem.fireTakes, foldl_unchanged Elem.incs Elem.takeIn_incs]

@[simp] theorem Elem.puts_incs (e : Elem) (l : List Put) : (e.puts l).incs = e.incs := foldl_unchanged Elem.incs Elem.put_incs l e

@[simp] theorem Elem.reserve_incs (e : Elem) (id : Nat) (l : List Put) : (e.reserve id l).incs = e.incs :=
  foldl_unchanged Elem.incs (fun _ x => by cases x <;> rfl) l e

@[simp] theorem Elem.suspend_incs (e : Elem) (r : Nat) (l : List Put) (x : Pend) : (e.suspend r l x).incs = e.incs :=
  Elem.reserve_incs e e.nextId l

@[simp] theorem Elem.paid_incs (e : Elem) (rule : Nat) (q : Req) (l : List Put) : (e.paid rule q l).incs = e.incs :=
  (foldl_unchanged Elem.incs Elem.leave_incs l _).trans (Elem.fireTakes_incs e rule _)

theorem Elem.now_eq {e e' : Elem} (h : e'.incs = e.incs) : e'.now = e.now := congrArg Prod.fst h
theorem Elem.due_eq {e e' : Elem} (h : e'.incs = e.incs) : e'.due = e.due := congrArg Prod.snd h

/-! The element before its writes. -/

section
variable (e : Elem) (rule : Nat) (q : Req) (l : List Put)

@[simp] theorem Elem.paid_d : (e.paid rule q l).d = e.d := by simp [Elem.paid]
@[simp] theorem Elem.paid_p : (e.paid rule q l).p = e.p := by simp [Elem.paid]
@[simp] theorem Elem.paid_l : (e.paid rule q l).l = e.l := by simp [Elem.paid]
@[simp] theorem Elem.paid_sg : (e.paid rule q l).sg = e.sg := by simp [Elem.paid]
@[simp] theorem Elem.paid_binds : (e.paid rule q l).binds = e.binds := by simp [Elem.paid]
@[simp] theorem Elem.paid_pend : (e.paid rule q l).pend = e.pend := by simp [Elem.paid]
@[simp] theorem Elem.paid_nextId : (e.paid rule q l).nextId = e.nextId := by simp [Elem.paid]
@[simp] theorem Elem.paid_outs : (e.paid rule q l).ports.outs = e.ports.outs := by simp [Elem.paid]
@[simp] theorem Elem.paid_couts : (e.paid rule q l).ports.couts = e.ports.couts := by simp [Elem.paid]

end

/-! Ends read back: an end depends on its side of the ports alone. -/

theorem Ports.outAt_congr {p p' : Ports} (h : p'.outs = p.outs) (k : Nat) : p'.outAt k = p.outAt k := by simp only [Ports.outAt, h]
theorem Ports.inAt_congr {p p' : Ports} (h : p'.ins = p.ins) (k : Nat) : p'.inAt k = p.inAt k := by simp only [Ports.inAt, h]
theorem Ports.cinAt_congr {p p' : Ports} (h : p'.cins = p.cins) (k : Nat) : p'.cinAt k = p.cinAt k := by simp only [Ports.cinAt, h]
theorem Ports.coutAt_congr {p p' : Ports} (h : p'.couts = p.couts) (k : Nat) : p'.coutAt k = p.coutAt k := by
  simp only [Ports.coutAt, h]

/-- R112, R134: each input end whose token is an operand loses its head, an end that both operands name once. -/
theorem Elem.paid_inAt_buf (e : Elem) (rule : Nat) (q : Req) (l : List Put) {k : Nat} (hk : k < 8) :
    ((e.paid rule q l).ports.inAt k).buf =
      if q.a = some (BitVec.ofNat 5 (8 + k)) ∨ q.b = some (BitVec.ofNat 5 (8 + k)) then (e.ports.inAt k).buf.tail
      else (e.ports.inAt k).buf := by
  have hins : (e.paid rule q l).ports.ins = ((takes q.a q.b).foldl Ports.take e.ports).ins := by
    rw [Elem.paid, Elem.leaves_ports, Elem.fireTakes_ins]
  rw [Ports.inAt_congr hins, takes_buf e.ports q.a q.b k hk]

/-! Writes leave the input ends and the control inputs (R135). -/

@[simp] theorem Ports.pushes_ins (p : Ports) (k : Nat) (ts : List Token) : (ts.foldl (fun p t => p.push k t) p).ins = p.ins :=
  foldl_unchanged Ports.ins (fun p t => p.push_ins k t) ts p
@[simp] theorem Ports.pushes_cins (p : Ports) (k : Nat) (ts : List Token) : (ts.foldl (fun p t => p.push k t) p).cins = p.cins :=
  foldl_unchanged Ports.cins (fun p t => p.push_cins k t) ts p
@[simp] theorem Ports.pushes_couts (p : Ports) (k : Nat) (ts : List Token) : (ts.foldl (fun p t => p.push k t) p).couts = p.couts :=
  foldl_unchanged Ports.couts (fun p t => p.push_couts k t) ts p

@[simp] theorem Elem.put_ins (e : Elem) (x : Put) : (e.put x).ports.ins = e.ports.ins := by cases x <;> simp [Elem.put]
@[simp] theorem Elem.put_cins (e : Elem) (x : Put) : (e.put x).ports.cins = e.ports.cins := by cases x <;> simp [Elem.put]
@[simp] theorem Elem.puts_ins (e : Elem) (l : List Put) : (e.puts l).ports.ins = e.ports.ins :=
  foldl_unchanged (fun e : Elem => e.ports.ins) Elem.put_ins l e
@[simp] theorem Elem.puts_cins (e : Elem) (l : List Put) : (e.puts l).ports.cins = e.ports.cins :=
  foldl_unchanged (fun e : Elem => e.ports.cins) Elem.put_cins l e

theorem Elem.reserve_ins (e : Elem) (id : Nat) (l : List Put) : (e.reserve id l).ports.ins = e.ports.ins :=
  foldl_unchanged (fun e : Elem => e.ports.ins) (fun _ x => by cases x <;> rfl) l e

/-! Tokens on the output ends. -/

/-- The tokens that a write sends to output `k`. -/
def Put.toOut (k : Nat) : Put → List Token
  | .out j ts => if j.toNat = k then ts else []
  | _ => []

theorem Ports.pushes_outAt_slots (p : Ports) {j k : Nat} (hj : j < 8) (hk : k < 8) (ts : List Token) :
    ((ts.foldl (fun p t => p.push j t) p).outAt k).slots = (p.outAt k).slots ++ (if j = k then ts else []).map Slot.full := by
  induction ts generalizing p with
  | nil => simp
  | cons t ts ih =>
    rw [List.foldl_cons, ih, Ports.push, Ports.outAt_setOut, Nat.mod_eq_of_lt hj, Nat.mod_eq_of_lt hk]
    by_cases h : j = k
    · simp [h]
    · simp [h]

theorem Elem.put_outAt_slots (e : Elem) (x : Put) {k : Nat} (hk : k < 8) :
    ((e.put x).ports.outAt k).slots = (e.ports.outAt k).slots ++ (x.toOut k).map Slot.full := by
  cases x with
  | out j ts => exact Ports.pushes_outAt_slots e.ports j.isLt hk ts
  | _ => exact (List.append_nil _).symm

theorem Elem.puts_outAt_slots (e : Elem) (l : List Put) {k : Nat} (hk : k < 8) :
    ((e.puts l).ports.outAt k).slots = (e.ports.outAt k).slots ++ (l.flatMap (Put.toOut k)).map Slot.full := by
  induction l generalizing e with
  | nil => simp [Elem.puts]
  | cons x l ih =>
    have hstep := ih (e.put x)
    rw [Elem.put_outAt_slots e x hk] at hstep
    simpa [Elem.puts] using hstep

theorem Elem.reserve_cons (e : Elem) (id : Nat) (x : Put) (l : List Put) :
    e.reserve id (x :: l) = (e.reserve id [x]).reserve id l := rfl

theorem Elem.reserve_one_outAt_slots (e : Elem) (id : Nat) (x : Put) {k : Nat} (hk : k < 8) :
    ((e.reserve id [x]).ports.outAt k).slots = (e.ports.outAt k).slots ++ (x.toOut k).map (fun _ => Slot.held id) := by
  cases x with
  | out j ts =>
    simp only [Elem.reserve, List.foldl, Ports.hold, Ports.outAt_setOut, Nat.mod_eq_of_lt j.isLt, Nat.mod_eq_of_lt hk, Put.toOut]
    by_cases h : j.toNat = k
    · simp [h]
    · simp [h]
  | _ => exact (List.append_nil _).symm

/-- R68 item 2, R75: one entry is reserved for each token that the writes will send. -/
theorem Elem.reserve_outAt_slots (e : Elem) (id : Nat) (l : List Put) {k : Nat} (hk : k < 8) :
    ((e.reserve id l).ports.outAt k).slots =
      (e.ports.outAt k).slots ++ (l.flatMap (Put.toOut k)).map (fun _ => Slot.held id) := by
  induction l generalizing e with
  | nil => simp [Elem.reserve]
  | cons x l ih =>
    rw [Elem.reserve_cons, ih, Elem.reserve_one_outAt_slots e id x hk]
    simp

/-! Control tokens on the control outputs (R64). -/

theorem Elem.put_coutAt_held (e : Elem) (x : Put) {k : Nat} (hk : k < 4) :
    ((e.put x).ports.coutAt k).held = (e.ports.coutAt k).held + (if x = .co (BitVec.ofNat 2 k) then 1 else 0) := by
  cases x with
  | out j ts => exact congrArg CtlEnd.held (Ports.coutAt_congr (Ports.pushes_couts e.ports j.toNat ts) k)
  | co j =>
    have hj : j = BitVec.ofNat 2 k ↔ j.toNat = k := by
      rw [← BitVec.toNat_inj, BitVec.toNat_ofNat, Nat.mod_eq_of_lt hk]
    simp only [Elem.put, Ports.coutAt_setCout, Nat.mod_eq_of_lt j.isLt, Nat.mod_eq_of_lt hk, Put.co.injEq, hj]
    by_cases h : j.toNat = k
    · simp [h]
    · simp [h]
  | _ => rfl

theorem Elem.puts_coutAt_held (e : Elem) (l : List Put) {k : Nat} (hk : k < 4) :
    ((e.puts l).ports.coutAt k).held = (e.ports.coutAt k).held + l.count (.co (BitVec.ofNat 2 k)) := by
  induction l generalizing e with
  | nil => simp [Elem.puts]
  | cons x l ih =>
    have hstep := ih (e.put x)
    rw [Elem.put_coutAt_held e x hk] at hstep
    simp only [Elem.puts, List.foldl_cons, List.count_cons, beq_iff_eq] at hstep ⊢
    omega

/-! The writes of a rule with one result (R64, R135): the result, the predicate update, the bound control tokens. -/

/-- R135: a result goes to a data register, an output end, a predicate, or nowhere. -/
theorem deliver_cases (d : BitVec 5) (t : Tag) (v : Word) :
    (∃ j : BitVec 3, d.toNat = j.toNat ∧ deliver d t v = [.d j v])
      ∨ (∃ j : BitVec 3, d.toNat = 8 + j.toNat ∧ deliver d t v = [.out j [⟨v, t⟩]])
      ∨ (∃ j : BitVec 3, d.toNat = 16 + j.toNat ∧ deliver d t v = [.p j (v != 0)])
      ∨ (24 ≤ d.toNat ∧ deliver d t v = []) := by
  have hcode : ∀ n, n < 8 → (BitVec.ofNat 3 n).toNat = n := fun n h => by rw [BitVec.toNat_ofNat, Nat.mod_eq_of_lt h]
  simp only [deliver]
  split
  · next h => exact .inl ⟨_, (hcode _ h).symm, rfl⟩
  split
  · exact .inr (.inl ⟨_, by rw [hcode _ (by omega)]; omega, rfl⟩)
  split
  · exact .inr (.inr (.inl ⟨_, by rw [hcode _ (by omega)]; omega, rfl⟩))
  · exact .inr (.inr (.inr ⟨by omega, rfl⟩))

theorem deliver_toOut (d : BitVec 5) (t : Tag) (v : Word) {k : Nat} (hk : k < 8) :
    (deliver d t v).flatMap (Put.toOut k) = if d.toNat = 8 + k then [⟨v, t⟩] else [] := by
  obtain ⟨j, hd, h⟩ | ⟨j, hd, h⟩ | ⟨j, hd, h⟩ | ⟨hd, h⟩ := deliver_cases d t v
  · have hne : ¬ d.toNat = 8 + k := by omega
    simp [h, Put.toOut, hne]
  · simp [h, Put.toOut, hd]
  · have hne : ¬ d.toNat = 8 + k := by omega
    simp [h, Put.toOut, hne]
  · have hne : ¬ d.toNat = 8 + k := by omega
    simp [h, hne]

theorem Elem.puts_deliver_d (e : Elem) (d : BitVec 5) (t : Tag) (v : Word) {k : Nat} (hk : k < 8) :
    (e.puts (deliver d t v)).d[k] = if d.toNat = k then v else e.d[k] := by
  obtain ⟨j, hd, h⟩ | ⟨j, hd, h⟩ | ⟨j, hd, h⟩ | ⟨hd, h⟩ := deliver_cases d t v
  · simp [h, Elem.puts, Elem.put, hd, Vector.getElem_set]
  · have hne : ¬ d.toNat = k := by omega
    simp [h, Elem.puts, Elem.put, hne]
  · have hne : ¬ d.toNat = k := by omega
    simp [h, Elem.puts, Elem.put, hne]
  · have hne : ¬ d.toNat = k := by omega
    simp [h, Elem.puts, hne]

theorem Elem.puts_deliver_p (e : Elem) (d : BitVec 5) (t : Tag) (v : Word) {k : Nat} (hk : k < 8) :
    (e.puts (deliver d t v)).p.getLsbD k = if d.toNat = 16 + k then decide (v ≠ 0) else e.p.getLsbD k := by
  obtain ⟨j, hd, h⟩ | ⟨j, hd, h⟩ | ⟨j, hd, h⟩ | ⟨hd, h⟩ := deliver_cases d t v
  · have hne : ¬ d.toNat = 16 + k := by omega
    simp [h, Elem.puts, Elem.put, hne]
  · have hne : ¬ d.toNat = 16 + k := by omega
    simp [h, Elem.puts, Elem.put, hne]
  · rw [h]
    simp only [Elem.puts, List.foldl, Elem.put, setPred_getLsbD _ _ _ _ hk, hd, Nat.add_left_cancel_iff, eq_comm (a := k),
      ← bne_iff_ne, Bool.decide_eq_true]
  · have hne : ¬ d.toNat = 16 + k := by omega
    simp [h, Elem.puts, hne]

theorem Elem.puts_deliver_l (e : Elem) (d : BitVec 5) (t : Tag) (v : Word) : (e.puts (deliver d t v)).l = e.l := by
  obtain ⟨j, hd, h⟩ | ⟨j, hd, h⟩ | ⟨j, hd, h⟩ | ⟨hd, h⟩ := deliver_cases d t v <;> rw [h] <;> rfl

theorem Elem.puts_deliver_sg (e : Elem) (d : BitVec 5) (t : Tag) (v : Word) : (e.puts (deliver d t v)).sg = e.sg := by
  obtain ⟨j, hd, h⟩ | ⟨j, hd, h⟩ | ⟨j, hd, h⟩ | ⟨hd, h⟩ := deliver_cases d t v <;> rw [h] <;> rfl

/-- R135: PO 1 sets p(PI), 2 clears it, 3 writes the flag; 0 leaves it. -/
theorem update_cases (i : BitVec 3) (p : BitVec 2) (f : Bool) :
    (p = 0 ∧ update i p f = []) ∨ (p ≠ 0 ∧ update i p f = [.p i (if p = 1 then true else if p = 2 then false else f)]) := by
  have hp : p = 0 ∨ p = 1 ∨ p = 2 ∨ p = 3 := by revert p; decide
  obtain rfl | rfl | rfl | rfl := hp
  · exact .inl ⟨rfl, rfl⟩
  · exact .inr ⟨by decide, rfl⟩
  · exact .inr ⟨by decide, rfl⟩
  · exact .inr ⟨by decide, rfl⟩

theorem Elem.puts_update_p (e : Elem) (i : BitVec 3) (p : BitVec 2) (f : Bool) {k : Nat} (hk : k < 8) :
    (e.puts (update i p f)).p.getLsbD k =
      if p ≠ 0 ∧ i.toNat = k then (if p = 1 then true else if p = 2 then false else f) else e.p.getLsbD k := by
  obtain ⟨hp, h⟩ | ⟨hp, h⟩ := update_cases i p f
  · rw [h]
    simp [hp, Elem.puts]
  · simp only [h, Elem.puts, List.foldl, Elem.put, setPred_getLsbD _ _ _ _ hk, hp, ne_eq, not_false_eq_true, true_and, eq_comm]

theorem update_toOut (i : BitVec 3) (p : BitVec 2) (f : Bool) (k : Nat) : (update i p f).flatMap (Put.toOut k) = [] := by
  obtain ⟨-, h⟩ | ⟨-, h⟩ := update_cases i p f <;> rw [h] <;> rfl

theorem allCo_toOut {l : List Put} (h : allCo l) (k : Nat) : l.flatMap (Put.toOut k) = [] := by
  refine List.flatMap_eq_nil_iff.2 fun x hx => ?_
  obtain ⟨j, rfl⟩ := h x hx
  rfl

/-- R64: a bound control output takes one control token, for a FLAG binding only with the flag. -/
theorem Elem.count_boundCo (e : Elem) (rule : Nat) (flag : Bool) {k : Nat} (hk : k < 4) :
    (e.boundCo rule flag).count (.co (BitVec.ofNat 2 k)) =
      if e.binds[k].en ∧ e.binds[k].rule.toNat = rule ∧ (e.binds[k].flag = false ∨ flag = true) then 1 else 0 := by
  have hends : ∀ j ∈ List.range 4, ((BitVec.ofNat 2 j = BitVec.ofNat 2 k) ↔ j = k) := fun j hj => by
    rw [← BitVec.toNat_inj, BitVec.toNat_ofNat, BitVec.toNat_ofNat, Nat.mod_eq_of_lt (List.mem_range.1 hj), Nat.mod_eq_of_lt hk]
  rw [Elem.boundCo, List.count_filterMap, List.countP_congr (q := fun j => j == k && decide (e.binds[k].en ∧
    e.binds[k].rule.toNat = rule ∧ (e.binds[k].flag = false ∨ flag = true)))]
  · by_cases hbound : e.binds[k].en ∧ e.binds[k].rule.toNat = rule ∧ (e.binds[k].flag = false ∨ flag = true)
    · simp only [decide_eq_true hbound, Bool.and_true, if_pos hbound]
      exact List.count_eq_one_of_mem List.nodup_range (List.mem_range.2 hk)
    · simp [hbound]
  · intro j hj
    simp only [beq_iff_eq, Option.ite_none_right_eq_some, Option.some.injEq, Put.co.injEq, hends j hj, Bool.and_eq_true,
      decide_eq_true_eq]
    constructor
    · rintro ⟨h, rfl⟩
      exact ⟨rfl, by simpa [Nat.mod_eq_of_lt hk] using h⟩
    · rintro ⟨rfl, h⟩
      exact ⟨by simpa [Nat.mod_eq_of_lt hk] using h, rfl⟩

end Sys2Proof.Machine
end

section
/-! The obligation on the commit of a one-round rule: the writes follow one another in the order of R135, on the element that has
paid its tokens. -/

namespace Sys2Proof.Machine

/-- R64, R135: the writes of a rule with one result happen in this order. -/
theorem Elem.puts_allPuts (e e' : Elem) (rule : Nat) (q : Req) (puts : List Put) (f : Bool) :
    e'.puts (e.allPuts rule q puts f) = ((e'.puts puts).puts (update q.i q.p f)).puts (e.boundCo rule (q.p == 3 && f)) := by
  rw [Elem.allPuts, Elem.puts_append, Elem.puts_append]

section
variable (e e' : Elem) (rule : Nat) (q : Req) (t : Tag) (v : Word) (f : Bool) {k : Nat}

theorem Elem.puts_allPuts_d (hk : k < 8) :
    (e'.puts (e.allPuts rule q (deliver q.d t v) f)).d[k] = if q.d.toNat = k then v else e'.d[k] := by
  obtain ⟨hd, -⟩ := puts_co (boundCo_allCo e rule (q.p == 3 && f)) ((e'.puts (deliver q.d t v)).puts (update q.i q.p f))
  obtain ⟨hud, -⟩ := puts_update (e'.puts (deliver q.d t v)) q.i q.p f
  simp only [Elem.puts_allPuts, hd, hud, Elem.puts_deliver_d e' q.d t v hk]

theorem Elem.puts_allPuts_p (hk : k < 8) :
    (e'.puts (e.allPuts rule q (deliver q.d t v) f)).p.getLsbD k =
      if q.p ≠ 0 ∧ q.i.toNat = k then (if q.p = 1 then true else if q.p = 2 then false else f)
      else if q.d.toNat = 16 + k then decide (v ≠ 0) else e'.p.getLsbD k := by
  obtain ⟨-, hp, -⟩ := puts_co (boundCo_allCo e rule (q.p == 3 && f)) ((e'.puts (deliver q.d t v)).puts (update q.i q.p f))
  rw [Elem.puts_allPuts, hp, Elem.puts_update_p _ q.i q.p f hk, Elem.puts_deliver_p e' q.d t v hk]

theorem Elem.puts_allPuts_l : (e'.puts (e.allPuts rule q (deliver q.d t v) f)).l = e'.l := by
  obtain ⟨-, -, hl, -⟩ := puts_co (boundCo_allCo e rule (q.p == 3 && f)) ((e'.puts (deliver q.d t v)).puts (update q.i q.p f))
  obtain ⟨-, hul, -⟩ := puts_update (e'.puts (deliver q.d t v)) q.i q.p f
  rw [Elem.puts_allPuts, hl, hul, Elem.puts_deliver_l]

theorem Elem.puts_allPuts_sg : (e'.puts (e.allPuts rule q (deliver q.d t v) f)).sg = e'.sg := by
  obtain ⟨-, -, -, hsg, -⟩ := puts_co (boundCo_allCo e rule (q.p == 3 && f)) ((e'.puts (deliver q.d t v)).puts (update q.i q.p f))
  obtain ⟨-, -, husg, -⟩ := puts_update (e'.puts (deliver q.d t v)) q.i q.p f
  rw [Elem.puts_allPuts, hsg, husg, Elem.puts_deliver_sg]

/-- R135: of a rule with one result, the result alone sends a token on a channel. -/
theorem Elem.allPuts_toOut (hk : k < 8) :
    (e.allPuts rule q (deliver q.d t v) f).flatMap (Put.toOut k) = if q.d.toNat = 8 + k then [⟨v, t⟩] else [] := by
  simp only [Elem.allPuts, List.flatMap_append, deliver_toOut q.d t v hk, update_toOut, allCo_toOut (boundCo_allCo e rule _),
    List.append_nil]

end

/-- Settles O11: each part of the element is followed through the takes, the departures from the cycles and the writes. -/
theorem commitWrites : Obligations.CommitWrites := by
  intro e rule q t v f n hlat e'
  have hcommit := e.commit_of_one_round rule (e.allPuts rule q (deliver q.d t v) f) n hlat
  have hnow : e'.now = e.now.plus n := by
    simp only [e', hcommit, Elem.now_eq (Elem.paid_incs e rule q _)]
  have hdue : e'.due = e.due := by
    simp only [e', hcommit, Elem.due_eq (Elem.puts_incs _ _), Elem.due_eq (Elem.paid_incs e rule q _)]
  have hstats : e'.stats = e.stats := Elem.commit_stats ..
  refine ⟨?d, ?p, ?outs, ?ins, hstats, hnow, hdue, ?pend, ?l, ?sg, Elem.commit_c .., Elem.commit_guards .., Elem.commit_actions ..,
    Elem.commit_binds .., Elem.commit_wait .., Elem.commit_rot .., Elem.commit_life .., Elem.commit_fault .., Elem.commit_disc ..,
    Elem.commit_whey .., ?tick⟩
  case d => intro k hk; simp only [e', hcommit, Elem.puts_allPuts_d e _ rule q t v f hk, Elem.paid_d]
  case p => intro k hk; simp only [e', hcommit, Elem.puts_allPuts_p e _ rule q t v f hk, Elem.paid_p]
  case outs =>
    intro k hk
    simp only [e', hcommit, Elem.puts_outAt_slots _ _ hk, Ports.outAt_congr (Elem.paid_outs e rule q _), Elem.allPuts_toOut e rule q t v f hk]
    split <;> rfl
  case ins =>
    intro k hk
    simp only [e', hcommit, Ports.inAt_congr (Elem.puts_ins _ _), Elem.paid_inAt_buf e rule q _ hk]
  case pend => simp only [e', hcommit, Elem.puts_pend, Elem.paid_pend]
  case l => simp only [e', hcommit, Elem.puts_allPuts_l, Elem.paid_l]
  case sg => simp only [e', hcommit, Elem.puts_allPuts_sg, Elem.paid_sg]
  case tick => simp only [Elem.tick, hstats, hnow]

end Sys2Proof.Machine
end

section
/-! The obligation on what a fired rule's guard, bindings and cycles give it (R64, R67, R74, R84). -/

namespace Sys2Proof.Machine

/-! DIS and the control input that a guard tests. -/

theorem Elem.once_dis_getLsbD (e : Elem) {rule k : Nat} (hr : rule < 16) (hk : k < 16) :
    (e.once rule).dis.getLsbD k = (e.dis.getLsbD k || decide (k = rule ∧ fldN e.guards[rule] 1 1 = 1)) := by
  have hbit : ((1 : BitVec 16) <<< rule).getLsbD k = decide (k = rule) := by
    simp only [BitVec.ofNat_eq_ofNat, BitVec.getLsbD_shiftLeft, BitVec.getLsbD_one, hk, decide_true, Bool.true_and]
    grind
  simp only [Elem.once, Nat.mod_eq_of_lt hr]
  split
  · next h => simp only [BitVec.getLsbD_or, hbit, h, and_true]
  · next h => simp [h]

theorem Elem.takeCtl_cinAt_held (e : Elem) {rule k : Nat} (hr : rule < 16) (hk : k < 4) :
    ((e.takeCtl rule).ports.cinAt k).held = (e.ports.cinAt k).held -
      (if fldN e.guards[rule] 8 2 = 3 ∧ fldN e.guards[rule] 4 2 = 0 ∧ fldN e.guards[rule] 6 2 = k then 1 else 0) := by
  have hend : fldN e.guards[rule] 6 2 < 4 := Nat.mod_lt _ (by decide)
  simp only [Elem.takeCtl, Nat.mod_eq_of_lt hr, ← and_assoc]
  split
  · next htest =>
    simp only [Ports.cinAt_setCin, Nat.mod_eq_of_lt hend, Nat.mod_eq_of_lt hk, htest, true_and]
    split
    · next h => simp [h]
    · rfl
  · next htest => simp [htest]

theorem Elem.paid_cinAt_held (e : Elem) {rule k : Nat} (q : Req) (l : List Put) (hr : rule < 16) (hk : k < 4) :
    ((e.paid rule q l).ports.cinAt k).held = (e.ports.cinAt k).held -
      (if fldN e.guards[rule] 8 2 = 3 ∧ fldN e.guards[rule] 4 2 = 0 ∧ fldN e.guards[rule] 6 2 = k then 1 else 0) := by
  have hcins : ((takes q.a q.b).foldl Elem.takeIn e).ports.cins = e.ports.cins := by rw [Elem.takeIns_ports, takes_cins]
  rw [Elem.paid, Elem.leaves_ports, Elem.fireTakes, Elem.once_ports, Elem.takeCtl_cinAt_held _ hr hk, Ports.cinAt_congr hcins]
  simp only [Elem.takeIns_guards]

theorem Elem.paid_dis_getLsbD (e : Elem) {rule k : Nat} (q : Req) (l : List Put) (hr : rule < 16) (hk : k < 16) :
    (e.paid rule q l).dis.getLsbD k = (e.dis.getLsbD k || decide (k = rule ∧ fldN e.guards[rule] 1 1 = 1)) := by
  rw [Elem.paid, Elem.leaves_dis, Elem.fireTakes, Elem.once_dis_getLsbD _ hr hk]
  simp only [Elem.takeCtl_dis, Elem.takeCtl_guards, Elem.takeIns_dis, Elem.takeIns_guards]

/-! Bound control outputs. -/

theorem Elem.count_allPuts_co (e : Elem) (rule : Nat) (q : Req) (t : Tag) (v : Word) (f : Bool) {k : Nat} (hk : k < 4) :
    (e.allPuts rule q (deliver q.d t v) f).count (.co (BitVec.ofNat 2 k)) =
      if e.binds[k].en ∧ e.binds[k].rule.toNat = rule ∧ (e.binds[k].flag = false ∨ (q.p = 3 ∧ f = true)) then 1 else 0 := by
  have hresult : (deliver q.d t v).count (.co (BitVec.ofNat 2 k)) = 0 := by
    obtain ⟨j, -, h⟩ | ⟨j, -, h⟩ | ⟨j, -, h⟩ | ⟨-, h⟩ := deliver_cases q.d t v <;> rw [h] <;> rfl
  have hupdate : (update q.i q.p f).count (.co (BitVec.ofNat 2 k)) = 0 := by
    obtain ⟨-, h⟩ | ⟨-, h⟩ := update_cases q.i q.p f <;> rw [h] <;> rfl
  simp only [Elem.allPuts, List.count_append, hresult, hupdate, e.count_boundCo rule _ hk, Nat.zero_add, Bool.and_eq_true, beq_iff_eq]

/-! Occupancy of the cycles (R84). -/

theorem mem_takeOf {c : Option (BitVec 5)} {k : Nat} (hk : k < 8) : k ∈ takeOf c ↔ c = some (BitVec.ofNat 5 (8 + k)) := by
  cases c with
  | none => simp [takeOf]
  | some c =>
    have hcode : c = BitVec.ofNat 5 (8 + k) ↔ c.toNat = 8 + k := by
      rw [← BitVec.toNat_inj, BitVec.toNat_ofNat, Nat.mod_eq_of_lt (by omega)]
    simp only [takeOf, Option.some.injEq, hcode]
    split
    · simp only [List.mem_singleton]; omega
    · simp only [List.not_mem_nil, false_iff]; omega

theorem mem_takes {a b : Option (BitVec 5)} {k : Nat} (hk : k < 8) :
    k ∈ takes a b ↔ a = some (BitVec.ofNat 5 (8 + k)) ∨ b = some (BitVec.ofNat 5 (8 + k)) := by
  rw [← mem_takeOf hk, ← mem_takeOf hk, takes]
  split
  · next h => rw [beq_iff_eq.1 h, or_self]
  · rw [List.mem_append]

theorem takeOf_cases (c : Option (BitVec 5)) : takeOf c = [] ∨ ∃ k, k < 8 ∧ takeOf c = [k] := by
  cases c with
  | none => exact .inl rfl
  | some c =>
    rw [takeOf]
    split
    · exact .inr ⟨c.toNat - 8, by omega, rfl⟩
    · exact .inl rfl

theorem lt_of_mem_takes {a b : Option (BitVec 5)} {k : Nat} (h : k ∈ takes a b) : k < 8 := by
  have one : ∀ c, k ∈ takeOf c → k < 8 := fun c hc => by
    obtain hnil | ⟨j, hj, hone⟩ := takeOf_cases c
    · simp [hnil] at hc
    · rw [hone, List.mem_singleton] at hc; omega
  rw [takes] at h
  split at h
  · exact one a h
  · exact (List.mem_append.1 h).elim (one a) (one b)

/-- R112: an end that both operands name is taken once. -/
theorem takes_nodup (a b : Option (BitVec 5)) : (takes a b).Nodup := by
  obtain ha | ⟨i, -, ha⟩ := takeOf_cases a <;> obtain hb | ⟨j, -, hb⟩ := takeOf_cases b
  · simp [takes, ha, hb]
  · simp [takes, ha, hb]
  · simp [takes, ha, hb]
  · by_cases h : i = j
    · simp [takes, ha, hb, h]
    · simp [takes, ha, hb, h]

theorem Elem.headTok_takeIn (e : Elem) {j k : Nat} (hj : j < 8) (hk : k < 8) (h : j ≠ k) : (e.takeIn k).headTok j = e.headTok j := by
  have hends : (e.takeIn k).ports.inAt j = e.ports.inAt j := by
    rw [Elem.takeIn_ports, Ports.take, Ports.inAt_setIn, Nat.mod_eq_of_lt hj, Nat.mod_eq_of_lt hk, if_neg h.symm]
  simp only [Elem.headTok, Ports.head, hends]

/-- R84: the occupancy of a cycle once a rule has taken the tokens of these input ends. -/
def Elem.admitOcc (e : Elem) (ends : List Nat) (c : Cycle) : BitVec 8 :=
  if c.entry.toNat ∈ ends ∧ (e.headTok c.entry.toNat).any isData = true then satAdd c.occ 1 else c.occ

theorem Elem.takeIn_cycles (e : Elem) (k : Nat) :
    (e.takeIn k).cycles = e.cycles.map (fun c => { c with occ := e.admitOcc [k] c }) := by
  have hocc : ∀ c : Cycle, e.admitOcc [k] c =
      if c.entry.toNat = k ∧ (e.headTok k).any isData = true then satAdd c.occ 1 else c.occ := by
    intro c
    by_cases h : c.entry.toNat = k
    · simp [Elem.admitOcc, h]
    · simp [Elem.admitOcc, h]
  simp only [hocc, Elem.takeIn, Elem.admission]
  cases e.headTok k with
  | none => simp
  | some t =>
    cases hdata : isData t with
    | false => simp [hdata]
    | true =>
      simp only [Option.any_some, hdata, and_true, if_true]
      refine List.map_congr_left fun c _ => ?_
      split <;> rfl

theorem Elem.takeIns_cycles (e : Elem) {ends : List Nat} (hnodup : ends.Nodup) (hlt : ∀ k ∈ ends, k < 8) :
    (ends.foldl Elem.takeIn e).cycles = e.cycles.map (fun c => { c with occ := e.admitOcc ends c }) := by
  induction ends generalizing e with
  | nil => simp [Elem.admitOcc]
  | cons k ends ih =>
    obtain ⟨hk, hrest⟩ := List.nodup_cons.1 hnodup
    rw [List.foldl_cons, ih _ hrest (fun j hj => hlt j (List.mem_cons_of_mem k hj)), Elem.takeIn_cycles, List.map_map]
    refine List.map_congr_left fun c _ => ?_
    simp only [Function.comp_apply, Elem.admitOcc, List.mem_cons, List.not_mem_nil, or_false]
    by_cases hentry : c.entry.toNat = k
    · simp [hentry, hk]
    · rw [Elem.headTok_takeIn e c.entry.isLt (hlt k List.mem_cons_self) hentry]
      simp [hentry]

/-- R84: an occupancy once a rule has issued, or not, a DATA or LAST result for the cycle's exit. -/
def occAfter (issued : Prop) [Decidable issued] (occ : BitVec 8) : BitVec 8 := if issued ∧ occ ≠ 0 then occ - 1 else occ

/-- A write that sends no token on a channel takes nothing out of a cycle. -/
theorem Elem.leaves_of_silent (e : Elem) {l : List Put} (h : ∀ x ∈ l, ∀ k ts, x ≠ .out k ts) : l.foldl Elem.leave e = e := by
  induction l with
  | nil => rfl
  | cons x l ih =>
    have hx : e.leave x = e := by
      cases x with
      | out k ts => exact absurd rfl (h _ List.mem_cons_self k ts)
      | _ => rfl
    rw [List.foldl_cons, hx, ih fun y hy => h y (List.mem_cons_of_mem x hy)]

theorem Elem.leave_cycles (e : Elem) (k : BitVec 3) (tok : Token) :
    (e.leave (.out k [tok])).cycles = e.cycles.map (fun c => { c with occ := occAfter (c.exit = k ∧ isData tok = true) c.occ }) := by
  cases hdata : isData tok with
  | false => simp [Elem.leave, occAfter, hdata]
  | true =>
    simp only [Elem.leave, occAfter, List.any_cons, hdata, Bool.true_or, if_true, and_true]
    refine List.map_congr_left fun c _ => ?_
    split <;> rfl

theorem isData_iff {t : Token} : isData t = true ↔ t.tag = Tag.data ∨ t.tag = Tag.last := by
  simp [isData]

theorem Elem.leaves_deliver_cycles (e : Elem) (d : BitVec 5) (t : Tag) (v : Word) :
    ((deliver d t v).foldl Elem.leave e).cycles =
      e.cycles.map (fun c => { c with occ := occAfter (d.toNat = 8 + c.exit.toNat ∧ (t = Tag.data ∨ t = Tag.last)) c.occ }) := by
  have hsame (hd : ¬ (8 ≤ d.toNat ∧ d.toNat < 16)) : e.cycles.map (fun c =>
      { c with occ := occAfter (d.toNat = 8 + c.exit.toNat ∧ (t = Tag.data ∨ t = Tag.last)) c.occ }) = e.cycles := by
    refine List.map_id'' (fun c => ?_) _
    have hne : ¬ d.toNat = 8 + c.exit.toNat := by omega
    simp [occAfter, hne]
  obtain ⟨j, hd, h⟩ | ⟨j, hd, h⟩ | ⟨j, hd, h⟩ | ⟨hd, h⟩ := deliver_cases d t v
  · rw [hsame (by omega), h]; rfl
  · have hexit : ∀ c : Cycle, d.toNat = 8 + c.exit.toNat ↔ c.exit = j := fun c => by rw [← BitVec.toNat_inj]; omega
    simp only [h, List.foldl, Elem.leave_cycles, hexit, isData_iff]
  · rw [hsame (by omega), h]; rfl
  · rw [hsame (by omega), h]; rfl

theorem Elem.leaves_allPuts_cycles (e e' : Elem) (rule : Nat) (q : Req) (t : Tag) (v : Word) (f : Bool) :
    ((e.allPuts rule q (deliver q.d t v) f).foldl Elem.leave e').cycles =
      e'.cycles.map (fun c => { c with occ := occAfter (q.d.toNat = 8 + c.exit.toNat ∧ (t = Tag.data ∨ t = Tag.last)) c.occ }) := by
  have hupdate : ∀ x ∈ update q.i q.p f, ∀ k ts, x ≠ .out k ts := by
    obtain ⟨-, h⟩ | ⟨-, h⟩ := update_cases q.i q.p f
    · simp [h]
    · simp [h]
  have hbound : ∀ x ∈ e.boundCo rule (q.p == 3 && f), ∀ k ts, x ≠ .out k ts := by
    rintro x hx k ts rfl
    obtain ⟨j, hj⟩ := boundCo_allCo e rule _ _ hx
    exact Put.noConfusion hj
  rw [Elem.allPuts, List.foldl_append, List.foldl_append, Elem.leaves_of_silent _ hbound, Elem.leaves_of_silent _ hupdate,
    Elem.leaves_deliver_cycles]

theorem satAdd_one_toNat (x : BitVec 8) : (satAdd x 1).toNat = min 255 (x.toNat + 1) := by
  have hx := x.isLt
  rw [satAdd]
  split
  · rw [BitVec.toNat_allOnes]; omega
  · rw [BitVec.toNat_ofNat]; omega

/-- R84: what a commit makes of the cycles, whatever the latency. -/
theorem Elem.commit_cycles (e : Elem) (rule : Nat) (q : Req) (t : Tag) (v : Word) (f : Bool) (n : Inc) :
    (e.commit rule q (e.allPuts rule q (deliver q.d t v) f) n).cycles = e.cycles.map (fun c =>
      { c with occ := occAfter (q.d.toNat = 8 + c.exit.toNat ∧ (t = Tag.data ∨ t = Tag.last)) (e.admitOcc (takes q.a q.b) c) }) := by
  rw [Elem.commit, Elem.issue_cycles, Elem.leaves_allPuts_cycles, Elem.fireTakes, Elem.once_cycles, Elem.takeCtl_cycles,
    Elem.takeIns_cycles e (takes_nodup q.a q.b) (fun _ => lt_of_mem_takes), List.map_map]
  rfl

theorem Elem.admitOcc_toNat (e : Elem) (a b : Option (BitVec 5)) (c : Cycle) :
    (e.admitOcc (takes a b) c).toNat =
      if (a = some (BitVec.ofNat 5 (8 + c.entry.toNat)) ∨ b = some (BitVec.ofNat 5 (8 + c.entry.toNat)))
        ∧ (e.headTok c.entry.toNat).any isData = true
      then min 255 (c.occ.toNat + 1) else c.occ.toNat := by
  simp only [Elem.admitOcc, mem_takes c.entry.isLt]
  split
  · exact satAdd_one_toNat c.occ
  · rfl

theorem occAfter_eq (issued : Prop) [Decidable issued] (occ : BitVec 8) :
    occAfter issued occ = BitVec.ofNat 8 (occ.toNat - if issued then 1 else 0) := by
  by_cases h : issued
  · have hzero : occ = 0 ↔ occ.toNat = 0 := by rw [← BitVec.toNat_inj]; rfl
    apply BitVec.eq_of_toNat_eq
    by_cases h0 : occ = 0
    · simp [occAfter, h, h0]
    · simp only [occAfter, h, h0, ne_eq, not_false_eq_true, and_self, if_true]
      rw [hzero] at h0
      bv_omega
  · simp [occAfter, h]

/-- R84: the admission rule of a full cycle is not ready. -/
theorem Elem.cycleOk_of_ready {e : Elem} {p : Press} {grant : Bool} {k : Nat} (h : e.ready p grant k = true) :
    e.cycleOk (e.foot k) = true := by
  simp only [Elem.ready, Elem.readyBut, Bool.and_eq_true] at h
  obtain ⟨-, ⟨-, hcycles⟩, -⟩ := h
  exact hcycles

theorem Elem.occ_lt_of_cycleOk {e : Elem} {f : Foot} {c : Cycle} (h : e.cycleOk f = true) (hc : c ∈ e.cycles)
    (hw : Place.inp c.entry.toNat ∈ f.writes) (hdata : (e.headTok c.entry.toNat).any isData = true) :
    c.occ.toNat < c.limit.toNat := by
  obtain ⟨t, htok, ht⟩ := (Option.any_eq_true _ _).1 hdata
  have hcycle := List.all_eq_true.1 h c hc
  simpa [hw, htok, ht] using hcycle

/-- Settles O12: the takes of a fired rule set DIS, take the control token and raise the occupancies; its writes fill the bound
control ends and lower the occupancies; a ready rule has found every cycle that it would enter below its limit. -/
theorem commitOnceAndControl : Obligations.CommitOnceAndControl := by
  refine ⟨fun e rule q t v f n hlat hr => ?sideEffects, fun e rule q t v f n => ?cycles,
    fun e p grant k h c hc hw hdata => Elem.occ_lt_of_cycleOk (Elem.cycleOk_of_ready h) hc hw hdata⟩
  case sideEffects =>
    intro g e'
    have hcommit := e.commit_of_one_round rule (e.allPuts rule q (deliver q.d t v) f) n hlat
    refine ⟨fun k hk => ?dis, fun k hk => ?cin, fun k hk => ?cout⟩
    case dis => simp only [e', hcommit, Elem.puts_dis, Elem.paid_dis_getLsbD e q _ hr hk, g]
    case cin => simp only [e', hcommit, Ports.cinAt_congr (Elem.puts_cins _ _), Elem.paid_cinAt_held e q _ hr hk, g]
    case cout =>
      simp only [e', hcommit, Elem.puts_coutAt_held _ _ hk, Ports.coutAt_congr (Elem.paid_couts e rule q _),
        Elem.count_allPuts_co e rule q t v f hk]
  case cycles =>
    intro takes emits
    rw [Elem.commit_cycles]
    refine List.map_congr_left fun c _ => ?_
    rw [occAfter_eq, Elem.admitOcc_toNat]

end Sys2Proof.Machine
end

section
/-! The obligation on a rule of a longer latency (R43, R68, R75): its writes wait in the pending list with their places reserved, and
are made in its last round. -/

namespace Sys2Proof.Machine

/-! The issue in two parts: what goes at the firing itself, and what waits. -/

/-- R75: the writes that wait for the last round: all but the control tokens that every firing sends. -/
def Elem.later (e : Elem) (l : List Put) : List Put := l.filter (fun x => !e.coNow x)

/-- R64, R75: the element of a long-latency rule once it has paid and has sent the control tokens that every firing sends. -/
def Elem.announced (e : Elem) (rule : Nat) (q : Req) (l : List Put) : Elem := (e.paid rule q l).puts (l.filter e.coNow)

theorem Elem.coNow_paid (e : Elem) (rule : Nat) (q : Req) (l : List Put) : (e.paid rule q l).coNow = e.coNow := by
  funext x
  cases x with
  | co k => simp only [Elem.coNow, Elem.paid_binds]
  | _ => rfl

theorem Elem.commit_of_long (e : Elem) (rule : Nat) {q : Req} (l : List Put) (n : Inc) (h : 1 < q.lat) :
    e.commit rule q l n =
      (e.announced rule q l).suspend rule (e.later l) { id := 0, rule := 0, inc := n, left := q.lat - 1 } := by
  rw [Elem.later, Elem.announced, ← Elem.coNow_paid e rule q l]
  simp only [Elem.commit, Elem.issue, Nat.not_le.2 h, if_false, Elem.paid]

theorem Elem.now_allCo (e : Elem) (l : List Put) : allCo (l.filter e.coNow) := by
  intro x hx
  have hco := (List.mem_filter.1 hx).2
  cases x with
  | co k => exact ⟨k, rfl⟩
  | _ => simp [Elem.coNow] at hco

section
variable (e : Elem) (rule : Nat) (q : Req) (l : List Put)

theorem Elem.announced_registers : (e.announced rule q l).d = e.d ∧ (e.announced rule q l).p = e.p ∧ (e.announced rule q l).l = e.l
    ∧ (e.announced rule q l).sg = e.sg ∧ (e.announced rule q l).ports.outs = e.ports.outs := by
  obtain ⟨hd, hp, hl, hsg, houts, -⟩ := puts_co (e.now_allCo l) (e.paid rule q l)
  exact ⟨hd.trans (e.paid_d rule q l), hp.trans (e.paid_p rule q l), hl.trans (e.paid_l rule q l), hsg.trans (e.paid_sg rule q l),
    houts.trans (e.paid_outs rule q l)⟩

@[simp] theorem Elem.announced_pend : (e.announced rule q l).pend = e.pend := by simp [Elem.announced]
@[simp] theorem Elem.announced_nextId : (e.announced rule q l).nextId = e.nextId := by simp [Elem.announced]
@[simp] theorem Elem.announced_incs : (e.announced rule q l).incs = e.incs := by simp [Elem.announced]
theorem Elem.announced_ins : (e.announced rule q l).ports.ins = (e.paid rule q l).ports.ins := Elem.puts_ins _ _

end

/-- R64: what goes at the firing itself is control tokens, so that every other write waits. -/
theorem Elem.mem_later {e : Elem} {l : List Put} {x : Put} (hx : x ∈ l) (hco : ∀ k, x ≠ .co k) : x ∈ e.later l := by
  refine List.mem_filter.2 ⟨hx, ?_⟩
  cases x with
  | co k => exact absurd rfl (hco k)
  | _ => rfl

theorem Elem.later_toOut (e : Elem) (l : List Put) (k : Nat) : (e.later l).flatMap (Put.toOut k) = l.flatMap (Put.toOut k) := by
  induction l with
  | nil => rfl
  | cons x l ih =>
    cases hnow : e.coNow x with
    | false => simpa [Elem.later, hnow] using ih
    | true =>
      obtain ⟨j, rfl⟩ := e.now_allCo [x] x (by simp [hnow])
      simpa [Elem.later, hnow, Put.toOut] using ih

theorem deliver_ne_co {d : BitVec 5} {t : Tag} {v : Word} {x : Put} (hx : x ∈ deliver d t v) (k : BitVec 2) : x ≠ .co k := by
  rintro rfl
  obtain ⟨j, -, h⟩ | ⟨j, -, h⟩ | ⟨j, -, h⟩ | ⟨-, h⟩ := deliver_cases d t v <;> simp [h] at hx

theorem update_ne_co {i : BitVec 3} {p : BitVec 2} {f : Bool} {x : Put} (hx : x ∈ update i p f) (k : BitVec 2) : x ≠ .co k := by
  rintro rfl
  obtain ⟨-, h⟩ | ⟨-, h⟩ := update_cases i p f <;> simp [h] at hx

/-- R75: the result and the predicate update wait. -/
theorem Elem.mem_later_allPuts (e : Elem) (rule : Nat) {q : Req} {t : Tag} {v : Word} {f : Bool} {x : Put}
    (hx : x ∈ deliver q.d t v ++ update q.i q.p f) : x ∈ e.later (e.allPuts rule q (deliver q.d t v) f) :=
  Elem.mem_later (List.mem_append_left _ hx) fun k =>
    (List.mem_append.1 hx).elim (fun h => deliver_ne_co h k) (fun h => update_ne_co h k)

theorem mem_locsOf_d {l : List Put} {k : BitVec 3} {v : Word} (h : .d k v ∈ l) : Loc.d k.toNat ∈ locsOf l :=
  List.mem_flatMap.2 ⟨_, h, List.mem_singleton.2 rfl⟩

theorem mem_locsOf_p {l : List Put} {k : BitVec 3} {v : Bool} (h : .p k v ∈ l) : Loc.p k.toNat ∈ locsOf l :=
  List.mem_flatMap.2 ⟨_, h, List.mem_singleton.2 rfl⟩

section
variable {l : List Put} {q : Req} {t : Tag} {v : Word} {f : Bool} (hl : ∀ x ∈ deliver q.d t v ++ update q.i q.p f, x ∈ l)
include hl

/-- R75: a data register that the result goes to is pending. -/
theorem locsOf_d (hd : q.d.toNat < 8) : Loc.d q.d.toNat ∈ locsOf l := by
  obtain ⟨j, hj, h⟩ | ⟨j, hj, h⟩ | ⟨j, hj, h⟩ | ⟨hj, h⟩ := deliver_cases q.d t v
  · exact hj ▸ mem_locsOf_d (hl (.d j v) (by simp [h]))
  all_goals omega

/-- R75: a predicate that the result goes to is pending. -/
theorem locsOf_p (hd : 16 ≤ q.d.toNat) (hd' : q.d.toNat < 24) : Loc.p (q.d.toNat - 16) ∈ locsOf l := by
  obtain ⟨j, hj, h⟩ | ⟨j, hj, h⟩ | ⟨j, hj, h⟩ | ⟨hj, h⟩ := deliver_cases q.d t v
  case inr.inr.inl =>
    have hk : q.d.toNat - 16 = j.toNat := by omega
    exact hk ▸ mem_locsOf_p (hl (.p j (v != 0)) (by simp [h]))
  all_goals omega

/-- R75: the predicate that PO updates is pending. -/
theorem locsOf_update (hp : q.p ≠ 0) : Loc.p q.i.toNat ∈ locsOf l := by
  obtain ⟨h0, -⟩ | ⟨-, h⟩ := update_cases q.i q.p f
  · exact absurd h0 hp
  · exact mem_locsOf_p (hl _ (List.mem_append_right _ (h ▸ List.mem_singleton_self _)))

end

/-! The element after the issue. -/

/-- R68, R75: the entry that an operation `x` of a rule with the waiting writes `l` gets in the pending list. -/
def Elem.entry (e : Elem) (rule : Nat) (l : List Put) (x : Pend) : Pend :=
  { x with id := e.nextId, rule := BitVec.ofNat 4 rule, locs := locsOf l, ends := endsOf l, puts := l }

theorem Elem.suspend_pend (e : Elem) (rule : Nat) (l : List Put) (x : Pend) :
    (e.suspend rule l x).pend = e.pend ++ [e.entry rule l x] := rfl
theorem Elem.suspend_nextId (e : Elem) (rule : Nat) (l : List Put) (x : Pend) : (e.suspend rule l x).nextId = e.nextId + 1 := rfl
theorem Elem.suspend_ports (e : Elem) (rule : Nat) (l : List Put) (x : Pend) :
    (e.suspend rule l x).ports = (e.reserve e.nextId l).ports := rfl

/-! The last round. -/

/-- LONG_LATENCY_COMMIT finishes a timed operation that has no rounds left. -/
theorem exec_longLatencyCommit {s : State} {el id : Nat} {p : Pend} (hp : (s.elem el).pend? id = some p) (hjob : p.job = .timed)
    (hleft : p.left = 0) : exec (.longLatencyCommit el id) s = .next (s.setElem el ((s.elem el).finish id none false)) := by
  have hexec : exec (.longLatencyCommit el id) s = execLongLatencyCommit el id s := rfl
  simp only [hexec, execLongLatencyCommit, hp, hjob, hleft, and_self, if_true]

theorem Elem.finish_of_pend {e : Elem} {id : Nat} {p : Pend} (hp : e.pend? id = some p) (v : Option Word) (abort : Bool) :
    e.finish id v abort = (p.puts.map (Put.carry v abort)).foldl (fun e x => e.putHeld id x)
      { e with pend := e.pend.filter (fun x => x.id != id), due := e.due.plus p.inc } := by
  simp only [Elem.finish, hp]

/-- Settles O13: at the issue of a long-latency rule only control tokens are sent, the result and the predicate update wait in the
operation that joins the pending list, and one entry is reserved where the result will go. LONG_LATENCY_COMMIT then finishes that
operation, and no write of it touches the increments. -/
theorem longLatency : Obligations.LongLatency := by
  refine ⟨fun e rule q t v f n hlat => ?issue, fun s el id p hp hjob hleft => ⟨_, ?completes, rfl, ?counts⟩⟩
  case issue =>
    intro e'
    have hcommit := e.commit_of_long rule (e.allPuts rule q (deliver q.d t v) f) n hlat
    obtain ⟨hd, hp, hl, hsg, houts⟩ := e.announced_registers rule q (e.allPuts rule q (deliver q.d t v) f)
    have hincs : e'.incs = e.incs := by simp only [e', hcommit, Elem.suspend_incs, Elem.announced_incs]
    have hname := e.announced_nextId rule q (e.allPuts rule q (deliver q.d t v) f)
    have hwaits : ∀ w ∈ deliver q.d t v ++ update q.i q.p f, w ∈ e.later (e.allPuts rule q (deliver q.d t v) f) :=
      fun w hw => e.mem_later_allPuts rule hw
    refine ⟨?d, ?p, ?counters, ?sg, Elem.commit_stats .., Elem.now_eq hincs, Elem.due_eq hincs,
      ⟨Elem.entry _ rule _ { id := 0, rule := 0, inc := n, left := q.lat - 1 }, ?pend, hname, rfl, rfl, rfl, rfl,
        locsOf_d hwaits, locsOf_p hwaits, locsOf_update hwaits, hwaits⟩, ?next, fun k hk => ?outs, fun k hk => ?ins⟩
    case d => simp only [e', hcommit, Elem.suspend_d, hd]
    case p => simp only [e', hcommit, Elem.suspend_p, hp]
    case counters => simp only [e', hcommit, Elem.suspend_l, hl]
    case sg => simp only [e', hcommit, Elem.suspend_sg, hsg]
    case pend => simp only [e', hcommit, Elem.suspend_pend, Elem.announced_pend]
    case next => simp only [e', hcommit, Elem.suspend_nextId, hname]
    case outs =>
      simp only [e', hcommit, Elem.suspend_ports, Elem.reserve_outAt_slots _ _ _ hk, hname, Ports.outAt_congr houts, Elem.later_toOut,
        Elem.allPuts_toOut e rule q t v f hk]
      split <;> rfl
    case ins =>
      simp only [e', hcommit, Elem.suspend_ports, Ports.inAt_congr (Elem.reserve_ins _ _ _), Ports.inAt_congr (Elem.announced_ins ..),
        Elem.paid_inAt_buf e rule q _ hk]
  case completes =>
    rw [exec_longLatencyCommit hp hjob hleft, Elem.finish_of_pend hp]
  case counts =>
    exact (Elem.due_eq (foldl_unchanged Elem.incs (fun e x => e.putHeld_incs id x) _ _) : _)

end Sys2Proof.Machine
end

section
/-! The obligation on the words of instructions: an instruction is read back from its word (R111, R113, R120). -/

namespace Sys2Proof.Laws.RoundTrip

/-- Each encoded instruction has its own round trip; a step without an encoding has no word. -/
theorem holds (i : Instr) : Statement i := by
  cases i with
  | nop i p => exact nop i p | mov d a i p t => exact mov d a i p t | pass d a i p => exact pass d a i p
  | drop a i p => exact drop a i p | sel d a b i p t => exact sel d a b i p t | steer d a b i p => exact steer d a b i p
  | tagof d a i p t => exact tagof d a i p t | mktag d a b i p => exact mktag d a b i p
  | pand d a b i p t => exact pand d a b i p t | por d a b i p t => exact por d a b i p t
  | pxor d a b i p t => exact pxor d a b i p t | pnot d a i p t => exact pnot d a i p t | pmov d a i p t => exact pmov d a i p t
  | ptod d i p t => exact ptod d i p t | dtop a => exact dtop a | iter d a i p => exact iter d a i p
  | cntrd d a i p t => exact cntrd d a i p t | cntset d a i p => exact cntset d a i p | halt => exact halt
  | add d a b i p t => exact add d a b i p t | sub d a b i p t => exact sub d a b i p t
  | adds d a b i p t => exact adds d a b i p t | subs d a b i p t => exact subs d a b i p t
  | addsn d a b i p t => exact addsn d a b i p t | subsn d a b i p t => exact subsn d a b i p t
  | neg d a i p t => exact neg d a i p t | abs d a i p t => exact abs d a i p t | mul d a b i p t => exact mul d a b i p t
  | mulh d a b i p t => exact mulh d a b i p t | mulhn d a b i p t => exact mulhn d a b i p t
  | mac d a b i p t => exact mac d a b i p t | min d a b i p t => exact min d a b i p t | max d a b i p t => exact max d a b i p t
  | minn d a b i p t => exact minn d a b i p t | maxn d a b i p t => exact maxn d a b i p t
  | and d a b i p t => exact and d a b i p t | or d a b i p t => exact or d a b i p t | xor d a b i p t => exact xor d a b i p t
  | andn d a b i p t => exact andn d a b i p t | orn d a b i p t => exact orn d a b i p t | not d a i p t => exact not d a i p t
  | shl d a b i p t => exact shl d a b i p t | shr d a b i p t => exact shr d a b i p t | sar d a b i p t => exact sar d a b i p t
  | rol d a b i p t => exact rol d a b i p t | clz d a i p t => exact clz d a i p t | ctz d a i p t => exact ctz d a i p t
  | popc d a i p t => exact popc d a i p t | brev d a i p t => exact brev d a i p t | bfx d a b i p t => exact bfx d a b i p t
  | bfxs d a b i p t => exact bfxs d a b i p t
  | bfi d a b i p t => exact bfi d a b i p t | cmpeq d a b i p t => exact cmpeq d a b i p t
  | cmpne d a b i p t => exact cmpne d a b i p t | cmplt d a b i p t => exact cmplt d a b i p t
  | cmple d a b i p t => exact cmple d a b i p t | cmpltn d a b i p t => exact cmpltn d a b i p t
  | cmplen d a b i p t => exact cmplen d a b i p t | addh2 d a b i p t => exact addh2 d a b i p t
  | subh2 d a b i p t => exact subh2 d a b i p t | maxh2 d a b i p t => exact maxh2 d a b i p t
  | minh2 d a b i p t => exact minh2 d a b i p t | addb4 d a b i p t => exact addb4 d a b i p t
  | subb4 d a b i p t => exact subb4 d a b i p t | maxb4 d a b i p t => exact maxb4 d a b i p t
  | minb4 d a b i p t => exact minb4 d a b i p t | dot4 d a b i p t => exact dot4 d a b i p t
  | dot4n d a b i p t => exact dot4n d a b i p t | lea d a b i p s => exact lea d a b i p s
  | hash d a b i p t => exact hash d a b i p t | xsh d a i p t => exact xsh d a i p t | divn d a b i p t => exact divn d a b i p t
  | remn d a b i p t => exact remn d a b i p t
  | fadd d a b i p t => exact fadd d a b i p t | fsub d a b i p t => exact fsub d a b i p t
  | fmul d a b i p t => exact fmul d a b i p t | ffma d a b i p t => exact ffma d a b i p t
  | fmin d a b i p t => exact fmin d a b i p t | fmax d a b i p t => exact fmax d a b i p t
  | fabs d a i p t => exact fabs d a i p t | fneg d a i p t => exact fneg d a i p t | fcpys d a b i p t => exact fcpys d a b i p t
  | fcmpeq d a b i p t => exact fcmpeq d a b i p t | fcmplt d a b i p t => exact fcmplt d a b i p t
  | fcmple d a b i p t => exact fcmple d a b i p t | fcmpun d a b i p t => exact fcmpun d a b i p t
  | fclass d a i p t => exact fclass d a i p t | fdiv d a b i p t => exact fdiv d a b i p t
  | fsqrt d a i p t => exact fsqrt d a i p t
  | frcpe d a i p t => exact frcpe d a i p t | frsqe d a i p t => exact frsqe d a i p t | fex2 d a i p t => exact fex2 d a i p t
  | flg2 d a i p t => exact flg2 d a i p t | frint d a i p t => exact frint d a i p t | ffloor d a i p t => exact ffloor d a i p t
  | fceil d a i p t => exact fceil d a i p t | ftrnc d a i p t => exact ftrnc d a i p t
  | badd2 d a b i p t => exact badd2 d a b i p t | bsub2 d a b i p t => exact bsub2 d a b i p t
  | bmul2 d a b i p t => exact bmul2 d a b i p t | bfma2 d a b i p t => exact bfma2 d a b i p t
  | bmax2 d a b i p t => exact bmax2 d a b i p t | bmin2 d a b i p t => exact bmin2 d a b i p t
  | hadd2 d a b i p t => exact hadd2 d a b i p t | hsub2 d a b i p t => exact hsub2 d a b i p t
  | hmul2 d a b i p t => exact hmul2 d a b i p t | hfma2 d a b i p t => exact hfma2 d a b i p t
  | hmax2 d a b i p t => exact hmax2 d a b i p t | hmin2 d a b i p t => exact hmin2 d a b i p t
  | cvtfi d a i p t => exact cvtfi d a i p t | cvtif d a i p t => exact cvtif d a i p t
  | cvtifz d a i p t => exact cvtifz d a i p t | cvtbf d a b i p t => exact cvtbf d a b i p t
  | cvtbfz d a b i p t => exact cvtbfz d a b i p t | cvthf d a b i p t => exact cvthf d a b i p t
  | cvthfz d a b i p t => exact cvthfz d a b i p t | cvtfb d a b i p t => exact cvtfb d a b i p t
  | cvtfh d a b i p t => exact cvtfh d a b i p t | cvte4 d a b i p t => exact cvte4 d a b i p t
  | cvte4z d a b i p t => exact cvte4z d a b i p t | cvte5 d a b i p t => exact cvte5 d a b i p t
  | cvte5z d a b i p t => exact cvte5z d a b i p t | cvtfe4 d a b i p t => exact cvtfe4 d a b i p t
  | cvtfe5 d a b i p t => exact cvtfe5 d a b i p t | cvtq4 d a b i p t => exact cvtq4 d a b i p t
  | cvtq4z d a b i p t => exact cvtq4z d a b i p t | cvtfq4 d a b i p t => exact cvtfq4 d a b i p t
  | qsc d a i p t => exact qsc d a i p t
  | ld8 d a w s => exact ld8 d a w s | ld8s d a w s => exact ld8s d a w s | ld16 d a w s => exact ld16 d a w s
  | ld16s d a w s => exact ld16s d a w s | ld32 d a w s => exact ld32 d a w s | st8 d a b w s => exact st8 d a b w s
  | st16 d a b w s => exact st16 d a b w s | st32 d a b w s => exact st32 d a b w s | ldg d a w s f => exact ldg d a w s f
  | stg d a b w s f => exact stg d a b w s f | fence d s => exact fence d s | aadd d a b w s => exact aadd d a b w s
  | asub d a b w s => exact asub d a b w s | amin d a b w s => exact amin d a b w s | amax d a b w s => exact amax d a b w s
  | aminn d a b w s => exact aminn d a b w s
  | amaxn d a b w s => exact amaxn d a b w s | aand d a b w s => exact aand d a b w s | aor d a b w s => exact aor d a b w s
  | axor d a b w s => exact axor d a b w s | axchg d a b w s => exact axchg d a b w s | acas d a b w s k => exact acas d a b w s k
  | afadd d a b w s => exact afadd d a b w s | abadd2 d a b w s => exact abadd2 d a b w s
  | atake d a b w s => exact atake d a b w s | agive d a b w s => exact agive d a b w s | radd d a b w s => exact radd d a b w s
  | rmin d a b w s => exact rmin d a b w s | rmax d a b w s => exact rmax d a b w s | rminn d a b w s => exact rminn d a b w s
  | rmaxn d a b w s => exact rmaxn d a b w s | rand d a b w s => exact rand d a b w s
  | ror d a b w s => exact ror d a b w s | rxor d a b w s => exact rxor d a b w s | rfadd d a b w s => exact rfadd d a b w s
  | rbadd2 d a b w s => exact rbadd2 d a b w s | copy d a b k => exact copy d a b k | carm k p => exact carm k p
  | cdis p => exact cdis p | cstat d k => exact cstat d k | tagany d a b => exact tagany d a b
  | tagall d a b => exact tagall d a b | tagff d a b => exact tagff d a b | tagclr a b => exact tagclr a b
  | barinit d a b w s => exact barinit d a b w s | bararr d a w s => exact bararr d a w s
  | barkill d a w s => exact barkill d a w s | barq d a w s => exact barq d a w s | walk d a b w => exact walk d a b w
  | sigsend d a b h => exact sigsend d a b h | event d a b => exact event d a b | segstep d a k t => exact segstep d a k t
  | segend d a k f t => exact segend d a k f t | sumnew a k => exact sumnew a k | sumapp a b => exact sumapp a b
  | sumbsc a b n => exact sumbsc a b n | sumpatch a b => exact sumpatch a b | sumrd d b t => exact sumrd d b t
  | sumseal => exact sumseal
  | ptbl a => exact ptbl a | pmask a b => exact pmask a b | ppoint a r => exact ppoint a r | pclr r l => exact pclr r l
  | pseg a r => exact pseg a r | pdense a b r => exact pdense a b r | pvlda a b f => exact pvlda a b f
  | pvldb a b f => exact pvldb a b f | pouter a b g => exact pouter a b g | pread a b r f => exact pread a b r f
  | pstat d a => exact pstat d a | psync d a => exact psync d a
  | wrd d w m => exact wrd d w m | wptr d m => exact wptr d m | wcmp d w => exact wcmp d w | whash d a w => exact whash d a w
  | wret n => exact wret n | wmiss => exact wmiss | wfail => exact wfail | wnext d m => exact wnext d m
  | trap a b => exact trap a b | brk a b => exact brk a b | whey => exact whey | ident d s => exact ident d s
  | clock d => exact clock d | xctl d a s r => exact xctl d a s r | xstat d s r => exact xstat d s r
  | _ => exact fun _ hword => nomatch hword

end Sys2Proof.Laws.RoundTrip

namespace Sys2Proof.Machine

/-- Settles O1, by the round trip of each instruction. -/
theorem encodeDecode : Obligations.EncodeDecode := Laws.RoundTrip.holds

end Sys2Proof.Machine
end

section
/-! What the decoder answers (R111, R113, R120, R122), by the opcode of the word: an unassigned opcode is no instruction; with an
assigned one, a word is read only when it is the word of the instruction read, as its fields are those that the encoder packs. -/

namespace Sys2Proof.Machine

/-! The fields of a word. -/

theorem fldN_lt (w : Word) (lo n : Nat) : fldN w lo n < 2 ^ n := Nat.mod_lt _ (Nat.two_pow_pos n)

theorem opcode_high (w : Word) : fldN w 28 4 = fldN w 24 8 / 16 := by
  have := w.isLt
  simp only [fldN]
  omega

theorem opcode_low (w : Word) : fldN w 24 4 = fldN w 24 8 % 16 := by
  simp only [fldN]
  omega

/-- R111: the five fields of a word, packed, are the word. -/
theorem packWord_eq {w : Word} {op : Nat} {d a b : BitVec 5} {low : Nat} (hop : fldN w 24 8 = op) (hd : d.toNat = fldN w 19 5)
    (ha : a.toNat = fldN w 14 5) (hb : b.toNat = fldN w 9 5) (hlow : low = fldN w 0 9) : packWord op d a b low = w := by
  have := w.isLt
  apply BitVec.eq_of_toNat_eq
  simp only [packWord, BitVec.toNat_ofNat, hd, ha, hb, hlow, ← hop, fldN]
  omega

/-- R113: bits 8:0 of the general form, PI, PO and OT, and of the memory form, W, S and X. -/
theorem low3_general (w : Word) : low3 (fld w 6 3) 6 (fld w 4 2) 4 (fld w 0 4) 0 = fldN w 0 9 := by
  simp only [low3, fld_toNat, fldN]
  omega

/-- R113: those bits when the last field, unused, is zero. -/
theorem low2_general {w : Word} (h : fldN w 0 4 = 0) : low2 (fld w 6 3) 6 (fld w 4 2) 4 = fldN w 0 9 := by
  simp only [low2, fld_toNat, fldN] at h ⊢
  omega

/-! Unassigned opcodes. -/

/-- R120: the opcodes that the map leaves unassigned. -/
def Unassigned (op : Nat) : Prop :=
  0x13 ≤ op ∧ op ≤ 0x1F ∨ 0x56 ≤ op ∧ op ≤ 0x5F ∨ 0x97 ≤ op ∧ op ≤ 0x9F ∨ 0xC4 ≤ op ∧ op ≤ 0xC7 ∨ op = 0xD7
    ∨ 0xEC ≤ op ∧ op ≤ 0xEF ∨ op = 0xFF

theorem decodeWord_of_unassigned {w : Word} (h : Unassigned (fldN w 24 8)) : decodeWord w = .error .badOp := by
  have high := opcode_high w
  have low := opcode_low w
  simp only [Unassigned, le_antisymm_iff] at h
  rcases h with ⟨_, _⟩ | ⟨_, _⟩ | ⟨_, _⟩ | ⟨_, _⟩ | ⟨_, _⟩ | ⟨_, _⟩ | ⟨_, _⟩
  all_goals
    interval_cases fldN w 24 8
    all_goals
      simp only [decodeWord, high, Nat.reduceDiv, low, Nat.reduceMod, decodeRow1, decodeRow5, decodeRow9, decodeRowC, decodeRowD,
        decodeRowE, decodeRowF]

/-! Assigned opcodes. -/

/-- `r` is an answer for the word `w` with an assigned opcode: its opcode is not refused, and `w` is the word of the instruction that
is read, if one is. -/
def Faithful (w : Word) (r : Except Reject Instr) : Prop := r ≠ .error .badOp ∧ ∀ i, r = .ok i → encode i = some w

theorem fixed_ne_badOp (ok : Bool) (i : Instr) : fixed ok i ≠ .error .badOp := by
  cases ok <;> simp [fixed]

theorem fixed_eq_ok {ok : Bool} {i j : Instr} : fixed ok i = .ok j ↔ ok = true ∧ i = j := by
  cases ok <;> simp [fixed]

/-- An instruction read under the check `ok` of its unused bits: that check is what makes the fields packed those of the word. -/
theorem Faithful.of_packWord {w : Word} {ok : Bool} {i : Instr} {op : Nat} {d a b : BitVec 5} {low : Nat}
    (hi : encode i = some (packWord op d a b low)) (hop : fldN w 24 8 = op)
    (hfields : ok = true → d.toNat = fldN w 19 5 ∧ a.toNat = fldN w 14 5 ∧ b.toNat = fldN w 9 5 ∧ low = fldN w 0 9) :
    Faithful w (fixed ok i) := by
  refine ⟨fixed_ne_badOp ok i, fun j hj => ?_⟩
  obtain ⟨hok, rfl⟩ := fixed_eq_ok.1 hj
  obtain ⟨hd, ha, hb, hlow⟩ := hfields hok
  rw [hi, packWord_eq hop hd ha hb hlow]

/-- R113: the general form and the memory form. -/
theorem decodeWord_faithful_general {w : Word} (hop : fldN w 24 8 ≤ 0x12 ∨ 0x20 ≤ fldN w 24 8 ∧ fldN w 24 8 ≤ 0x55
    ∨ 0x60 ≤ fldN w 24 8 ∧ fldN w 24 8 ≤ 0x96 ∨ 0xA0 ≤ fldN w 24 8 ∧ fldN w 24 8 ≤ 0xC3) : Faithful w (decodeWord w) := by
  have high := opcode_high w
  have low := opcode_low w
  rcases hop with _ | ⟨_, _⟩ | ⟨_, _⟩ | ⟨_, _⟩
  all_goals interval_cases op : fldN w 24 8
  all_goals
    simp only [decodeWord, high, Nat.zero_div, Nat.reduceDiv, low, Nat.zero_mod, Nat.reduceMod, decodeRow0, decodeRow1, decodeRow2,
      decodeRow3, decodeRow4, decodeRow5, decodeRow6, decodeRow7, decodeRow8, decodeRow9, decodeRowA, decodeRowB, decodeRowC]
    refine Faithful.of_packWord rfl op ?_
    simp +contextual only [Bool.and_eq_true, beq_iff_eq, fld_toNat, low3_general, low2_general, five_zero, five_none, true_and,
      and_true, implies_true]
  -- What is left are the instructions with a field of their own in bits 8:0, or with no D or A.
  all_goals
    intro hok
    simp only [fldN, fld_toNat, low3, low1] at hok ⊢
    omega

/-- R113, R115 to R119: the forms whose bits 8:0 are laid out per instruction. -/
theorem decodeWord_faithful_special {w : Word} (hop : 0xC8 ≤ fldN w 24 8 ∧ fldN w 24 8 ≤ 0xD6
    ∨ 0xD8 ≤ fldN w 24 8 ∧ fldN w 24 8 ≤ 0xEB ∨ 0xF0 ≤ fldN w 24 8 ∧ fldN w 24 8 ≤ 0xFE) : Faithful w (decodeWord w) := by
  have high := opcode_high w
  have low := opcode_low w
  rcases hop with ⟨_, _⟩ | ⟨_, _⟩ | ⟨_, _⟩
  all_goals interval_cases op : fldN w 24 8
  all_goals
    simp only [decodeWord, high, Nat.reduceDiv, low, Nat.reduceMod, decodeRowC, decodeRowD, decodeRowE, decodeRowF]
    refine Faithful.of_packWord rfl op fun hok => ?_
    simp only [Bool.and_eq_true, beq_iff_eq, fld_toNat, five_zero, five_none, true_and, fldN, low3, low2, low1] at hok ⊢
    omega

theorem decodeWord_faithful {w : Word} (h : ¬ Unassigned (fldN w 24 8)) : Faithful w (decodeWord w) := by
  have hlt := fldN_lt w 24 8
  unfold Unassigned at h
  rcases lt_or_ge (fldN w 24 8) 0xC4 with hop | hop
  · exact decodeWord_faithful_general (by omega)
  · exact decodeWord_faithful_special (by omega)

theorem decodeWord_eq_badOp_iff (w : Word) : decodeWord w = .error .badOp ↔ Unassigned (fldN w 24 8) :=
  ⟨fun hbad => by_contra fun h => (decodeWord_faithful h).1 hbad, decodeWord_of_unassigned⟩

/-- Settles O2: a word that is read has an assigned opcode, and then the check of its unused bits leaves it no other value than the
word of the instruction. -/
theorem decodeEncode : Obligations.DecodeEncode := by
  intro w i hi
  have hop : ¬ Unassigned (fldN w 24 8) := fun h => by simp [decodeWord_of_unassigned h] at hi
  exact (decodeWord_faithful hop).2 i hi

/-- Settles O3: the opcode alone decides whether a word is an instruction's, and the worked words are read as they stand. -/
theorem specWordsRefusals : Obligations.SpecWordsRefusals :=
  ⟨decodeWord_eq_badOp_iff, rfl, rfl, rfl, rfl, rfl, rfl, rfl⟩

end Sys2Proof.Machine
end

section
/-! The obligation on a placed word (R74, R310): the head of the agenda names rule 0 of element 16 or the walk in slot 0 of the first
Loupe, and there the word lies. -/

namespace Sys2Proof.Machine

section
variable {s : State} {w : Word}

theorem State.placeWord_of_rule (h : fldN w 24 8 < 0xF0 ∨ 0xF7 < fldN w 24 8) :
    s.placeWord w = { s.setElem 16 ((s.elem 16).place w) with agenda := .fire 16 0 :: s.agenda } :=
  if_neg (by omega)

theorem State.placeWord_of_walk (h : 0xF0 ≤ fldN w 24 8) (h' : fldN w 24 8 ≤ 0xF7) :
    s.placeWord w = { s.setLoupe 0 ((s.loupe 0).place w) with agenda := .walk 0 0 :: s.agenda } :=
  if_pos ⟨h, h'⟩

theorem State.placeWord_rule_agenda (h : fldN w 24 8 < 0xF0 ∨ 0xF7 < fldN w 24 8) :
    (s.placeWord w).agenda = .fire 16 0 :: s.agenda := by rw [State.placeWord_of_rule h]

theorem State.placeWord_ruleWord (h : fldN w 24 8 < 0xF0 ∨ 0xF7 < fldN w 24 8) : (s.placeWord w).ruleWord 16 0 = w := by
  have helem : (s.placeWord w).elem 16 = (s.elem 16).place w := by
    rw [State.placeWord_of_rule h]
    exact State.elem_setElem ..
  simp [State.ruleWord, helem, Elem.place]

theorem State.placeWord_walk_agenda (h : 0xF0 ≤ fldN w 24 8) (h' : fldN w 24 8 ≤ 0xF7) :
    (s.placeWord w).agenda = .walk 0 0 :: s.agenda := by rw [State.placeWord_of_walk h h']

theorem State.placeWord_loupe (h : 0xF0 ≤ fldN w 24 8) (h' : fldN w 24 8 ≤ 0xF7) :
    (s.placeWord w).loupe 0 = (s.loupe 0).place w := by
  rw [State.placeWord_of_walk h h']
  exact State.loupe_setLoupe ..

theorem State.placeWord_walkWord (h : 0xF0 ≤ fldN w 24 8) (h' : fldN w 24 8 ≤ 0xF7) : (s.placeWord w).walkWord 0 0 = w := by
  simp [State.walkWord, State.placeWord_loupe h h', Loupe.place]

/-- R310: with no other rule valid, the placed rule 0 is the only one ready. -/
theorem Loupe.walkReady_place {l : Loupe} (h : (l.guards.toList.drop 1).all (fun g => fldN g 0 1 == 0) = true) {k : Nat}
    (hk : k < 16) : walkReady (l.place w) 0 k = (k == 0) := by
  rcases k with _ | k
  · simp [walkReady, Loupe.place, fldN, fld]
  · have hmem : l.guards[k + 1] ∈ l.guards.toList.drop 1 := List.mem_iff_getElem.2 ⟨k, by simp; omega, by simp⟩
    have hvalid := List.all_eq_true.1 h _ hmem
    simp [walkReady, Loupe.place, Nat.mod_eq_of_lt hk, beq_iff_eq.1 hvalid]

theorem Loupe.walkRule_place {l : Loupe} (h : (l.guards.toList.drop 1).all (fun g => fldN g 0 1 == 0) = true) :
    walkRule (l.place w) ((l.place w).slot 0).p = some 0 := by
  have hslot : ((l.place w).slot 0).p = 0 := by simp [Loupe.slot, Loupe.place]
  have hready : (List.range 16).filter (walkReady (l.place w) 0) = [0] :=
    (List.filter_congr fun k hk => Loupe.walkReady_place h (List.mem_range.1 hk)).trans rfl
  rw [hslot, walkRule, hready]
  rfl

end

/-- Settles O5: the agenda's first item is the placed rule or walk, and its word is the placed one. -/
theorem placedWordRuns : Obligations.PlacedWordRuns := by
  refine fun s w i hi => ⟨fun h => ?rule, fun h h' hvalid => ?walk⟩
  case rule =>
    rw [step_of_fire (State.placeWord_rule_agenda h), State.placeWord_ruleWord h, runWord_of_decode hi]
  case walk =>
    have hrule : walkRule ((s.placeWord w).loupe 0) (((s.placeWord w).loupe 0).slot 0).p = some 0 := by
      rw [State.placeWord_loupe h h']
      exact Loupe.walkRule_place hvalid
    rw [step_of_walk (State.placeWord_walk_agenda h h') hrule, State.placeWord_walkWord h h', runWord_of_decode hi]

end Sys2Proof.Machine
end

section
/-! The instructions of the integer and bit group (R149 to R159) as their results and flags: an instruction of elements and walks,
or of elements alone, completes with what its function of the operands gives. The flags "nonzero" of R136 are all one case. -/

namespace Sys2Proof.Machine

@[simp] theorem nz_eq_true {r : Word} : nz r = true ↔ r ≠ 0 := bne_iff_ne

theorem nz_eq_decide (r : Word) : nz r = decide (r ≠ 0) := by
  rw [Bool.eq_iff_iff, nz_eq_true, decide_eq_true_iff]

theorem withNz_flag {x : Word × Bool} (h : x = withNz x.1) : x.2 = true ↔ x.1 ≠ 0 := by
  rw [h]
  exact nz_eq_true

/-- R136: a two-operand instruction whose flag is "nonzero" completes with its result. -/
theorem binary_of_nonzero {c : BitVec 5 → BitVec 5 → BitVec 5 → BitVec 3 → BitVec 2 → BitVec 4 → Instr}
    {P : Word → Word → Word → Prop} {r : Word → Word → Word × Bool}
    (he : ∀ d a b i p t s, exec (c d a b i p t) s = s.gen (rq d (some a) (some b) i p 1)
      (fun x => ret2 d t (r x.a.data x.b.data)))
    (hn : ∀ a b, r a b = withNz (r a b).1) (hP : ∀ a b, P a b (r a b).1) :
    Binary c (fun a b v f => P a b v ∧ (f = true ↔ v ≠ 0)) :=
  binary_of_gen (r := r) he fun a b => ⟨hP a b, withNz_flag (hn a b)⟩

theorem unary_of_nonzero {c : BitVec 5 → BitVec 5 → BitVec 3 → BitVec 2 → BitVec 4 → Instr}
    {P : Word → Word → Prop} {r : Word → Word × Bool}
    (he : ∀ d a i p t s, exec (c d a i p t) s = s.gen (rq d (some a) none i p 1) (fun x => ret2 d t (r x.a.data)))
    (hn : ∀ a, r a = withNz (r a).1) (hP : ∀ a, P a (r a).1) : Unary c (fun a v f => P a v ∧ (f = true ↔ v ≠ 0)) :=
  unary_of_gen (r := r) he fun a => ⟨hP a, withNz_flag (hn a)⟩

/-- R138: an instruction that reads the old d(D), whose flag is "nonzero" and that counts nothing. -/
theorem binaryE_of_nonzero {c : BitVec 5 → BitVec 5 → BitVec 5 → BitVec 3 → BitVec 2 → BitVec 4 → Instr}
    {P : Word → Word → Word → Word → Prop} {r : Word → Word → Word → Word × Bool}
    (he : ∀ d a b i p t s, exec (c d a b i p t) s = s.genE (rq d (some a) (some b) i p 1)
      (fun x => ret2 d t (r x.d x.a.data x.b.data)))
    (hn : ∀ d a b, r d a b = withNz (r d a b).1) (hP : ∀ d a b, P d a b (r d a b).1) :
    BinaryE 1 c (fun d a b v f n => P d a b v ∧ (f = true ↔ v ≠ 0) ∧ n = {}) :=
  binaryE_of_genE (r := fun d a b => ((r d a b).1, (r d a b).2, {})) he
    fun d a b => ⟨hP d a b, withNz_flag (hn d a b), rfl⟩

/-- R309: an instruction whose result and flag depend on more than its operands' data completes with them in a rule and in a
walk. -/
theorem completes_inBoth_of_gen {j : Instr} {q : Req} {t : Tag} {P Q : In → Word → Bool → Prop} {r : In → Word × Bool}
    (he : ∀ s, exec j s = s.gen q (fun x => ret2 q.d t (r x))) (hP : ∀ x, P x (r x).1 (r x).2) (hQ : ∀ x, Q x (r x).1 (r x).2) :
    Completes j q t (fun x v f n => P x v f ∧ Q x v f ∧ n = {}) ∧ CompletesInWalk j q t (fun x v f _ => P x v f ∧ Q x v f) :=
  ⟨completes_of_gen (r := fun x => ((r x).1, (r x).2, {})) he fun x => ⟨hP x, hQ x, rfl⟩,
    completesInWalk_of_gen (r := fun x => ((r x).1, (r x).2, {})) he fun x => ⟨hP x, hQ x⟩⟩

/-- R42: an instruction of elements that clamps and counts SAT once when it does. -/
theorem binaryE_of_retSat {c : BitVec 5 → BitVec 5 → BitVec 5 → BitVec 3 → BitVec 2 → BitVec 4 → Instr}
    {P : Word → Word → Word → Prop} {F : Word → Word → Word → Prop} {r : Word → Word → Word × Bool}
    (he : ∀ d a b i p t s, exec (c d a b i p t) s = s.genE (rq d (some a) (some b) i p 1)
      (fun x => retSat d t (r x.a.data x.b.data)))
    (hP : ∀ a b, P a b (r a b).1) (hF : ∀ a b, (r a b).2 = true ↔ F a b (r a b).1) :
    BinaryE 1 c (fun _ a b v f n => P a b v ∧ (f = true ↔ F a b v) ∧ n = { sat := if f then 1 else 0 }) :=
  binaryE_of_genE (r := fun _ a b => ((r a b).1, (r a b).2, { sat := if (r a b).2 then 1 else 0 })) he
    fun _ a b => ⟨hP a b, hF a b, rfl⟩

end Sys2Proof.Machine
end

section
/-! The general form in a rule and in a walk (R68, R74, R308, R309): what an instruction answers once it has computed its writes. -/

namespace Sys2Proof.Machine

section
variable {s : State} {q : Req} {f : In → Res} {puts : List Put} {flag : Bool} {inc : Inc}

/-- R309: an instruction of elements and walks, in a rule. -/
theorem State.gen_of_armed {el rule : Nat} {x : In} (h : s.armed el rule q x) : s.gen q f = .next (s.genElem el rule q f) := by
  simp only [State.gen, h.1]

theorem State.gen_fires {el rule : Nat} {x : In} (h : s.armed el rule q x) (hf : f x = .done puts flag inc)
    (hr : s.hasRoom el rule q puts flag) : s.gen q f = .next (s.fired el rule q puts flag inc) := by
  rw [State.gen_of_armed h, State.genElem_fires h.2 hf hr]

theorem State.genE_fires {el rule : Nat} {x : In} (h : s.armed el rule q x) (hf : f x = .done puts flag inc)
    (hr : s.hasRoom el rule q puts flag) : s.genE q f = .next (s.fired el rule q puts flag inc) := by
  rw [State.genE_of_armed h, State.genElem_fires h.2 hf hr]

theorem State.gen_walks {t k rule : Nat} (hc : s.cur = .walk t k rule)
    (hf : f (winput (s.loupe t) ((s.loupe t).slot k) q) = .done puts flag inc) : s.gen q f = .next (s.walked t k q puts flag) := by
  simp only [State.gen, hc, State.genWalk, hf, State.walked]

end

/-- R134: the counters that an instruction computes from are its element's. -/
theorem Elem.input_l {e : Elem} {q : Req} {x : In} (h : e.input q = some x) : x.l = e.l := by
  unfold Elem.input at h
  split at h
  · cases h; rfl
  · cases h

end Sys2Proof.Machine
end

section
/-! The obligation on the moves (R140 to R144, R148). -/

namespace Sys2Proof.Machine

/-- R62, R144: the tags that may enter a channel are those below 7 and 8 to 11. -/
theorem tagOk_eq_true {t : Tag} (h : t.toNat < 7 ∨ 8 ≤ t.toNat ∧ t.toNat < 12) : tagOk t = true := by
  revert t; decide

/-- R144: the tag that MKTAG makes is B modulo 16. -/
theorem fld_low (w : Word) (n : Nat) : fld w 0 n = BitVec.ofNat n w.toNat := by
  rw [fld, Nat.pow_zero, Nat.div_one]

theorem mktagRes_sends (d : BitVec 5) {x : In} (h : fldN x.b.data 0 4 < 7 ∨ 8 ≤ fldN x.b.data 0 4 ∧ fldN x.b.data 0 4 < 12) :
    mktagRes d x = .done (deliver d (BitVec.ofNat 4 x.b.data.toNat) x.a.data) (decide (x.a.data ≠ 0)) {} := by
  have hok : tagOk (fld x.b.data 0 4) = true := tagOk_eq_true (by rwa [fld_toNat])
  rw [mktagRes, if_pos hok, ret, fld_low, nz_eq_decide]

/-- Settles O15: each move fires with its own writes; only MKTAG branches, on its tag. That MOV's flag is R136's "nonzero" is the
model's choice (log 87). -/
theorem moveResults : Obligations.MoveResults := by
  refine ⟨?nop, ?mov, ?pass, ?drop, ?sel, ?tagof, ?mktag⟩
  case nop =>
    refine fun i p => ⟨fun s el rule x ha hr => ?_, fun s t k rule hc => ?_⟩
    · exact State.gen_fires (f := fun _ => .done [] false {}) ha rfl hr
    · exact State.gen_walks (f := fun _ => .done [] false {}) hc rfl
  case mov => exact unary_of_gen (r := withNz) (fun _ _ _ _ _ _ => rfl) fun a => ⟨rfl, nz_eq_true⟩
  case pass =>
    exact fun d a i p s el rule x ha hr =>
      State.genE_fires (f := fun x => ret d x.a.tag x.a.data (isStop x.a)) ha rfl hr
  case drop =>
    exact fun a i p s el rule x ha hr => State.genE_fires (f := fun x => .done [] (isStop x.a) {}) ha rfl hr
  case sel =>
    exact fun d a b i p t => completes_inBoth_of_gen
      (r := fun x => (if x.p.getLsbD i.toNat then x.a.data else x.b.data, x.p.getLsbD i.toNat)) (fun _ => rfl)
      (fun x => rfl) (fun x => rfl)
  case tagof =>
    refine fun d a i p t => completes_of_genE (r := fun x => (BitVec.ofNat 32 x.a.tag.toNat, isStop x.a, {})) (fun _ => rfl)
      fun x => ?_
    have htag := x.a.tag.isLt
    exact ⟨by rw [BitVec.toNat_ofNat]; omega, decide_eq_true_iff, rfl⟩
  case mktag => exact fun d a b i p s el rule x ha htag hr => State.genE_fires ha (mktagRes_sends d htag) hr

end Sys2Proof.Machine
end

section
/-! The obligation on STEER (R143): the room of both ends of the pair, and the one that takes the token. -/

namespace Sys2Proof.Machine

/-- R143: what STEER computes for the end `k`. -/
def steerRes (k : Nat) (x : In) : Res :=
  .done [.out (BitVec.ofNat 3 (if x.b.data != 0 then k else k ^^^ 1)) [x.a]] (x.b.data != 0) {}

/-- R143: STEER in a rule, by the room of its two ends. -/
theorem exec_steer {s : State} {el rule : Nat} (hc : s.cur = .rule el rule) (d a b : BitVec 5) (i : BitVec 3) (p : BitVec 2) :
    exec (.steer d a b i p) s =
      if 1 ≤ ((s.elem el).ports.outAt (d.toNat % 8)).room ∧ 1 ≤ ((s.elem el).ports.outAt (d.toNat % 8 ^^^ 1)).room then
        .next (s.genElem el rule (rq d (some a) (some b) i p 1) (steerRes (d.toNat % 8)))
      else .next s := by
  change execSteer d a b i p s = _
  simp only [execSteer, hc]
  rfl

/-- The end that D names. -/
theorem steer_end (k : Fin 8) : (BitVec.ofNat 5 (8 + k.val)).toNat % 8 = k.val := by
  revert k; decide

theorem steer_pair (k : Fin 8) : BitVec.ofNat 3 (k.val ^^^ 1) = BitVec.ofNat 3 k.val ^^^ 1 := by
  revert k; decide

theorem steerRes_eq (k : Fin 8) (x : In) :
    steerRes k.val x = .done [.out (if decide (x.b.data ≠ 0) then BitVec.ofNat 3 k.val else BitVec.ofNat 3 k.val ^^^ 1) [x.a]]
      (decide (x.b.data ≠ 0)) {} := by
  have hon : (x.b.data != 0) = decide (x.b.data ≠ 0) := nz_eq_decide _
  rw [steerRes, hon, ← steer_pair]
  split <;> rfl

/-- Settles O16: with a full end STEER waits; with room on both it fires with the one write of its token. -/
theorem steerSends : Obligations.SteerSends := by
  intro s el rule k a b i p x d q on target ha
  have hexec := exec_steer ha.1 d a b i p
  rw [steer_end k] at hexec
  refine ⟨fun hfull => ?waits, fun hown hother hroom => ?sends⟩
  case waits => rw [hexec, if_neg (by omega)]
  case sends => rw [hexec, if_pos ⟨hown, hother⟩, State.genElem_fires ha.2 (steerRes_eq k x) hroom]

end Sys2Proof.Machine
end

section
/-! What the commit of a one-round rule makes of the counters and of the predicates written together, and which writes need no room
(R68, R74, R135). -/

namespace Sys2Proof.Machine

/-! Counters. -/

/-- What a write makes of the counters. -/
def Put.onCounters (l : Vector Counter 2) : Put → Vector Counter 2
  | .l k c => l.set k.toNat c k.isLt
  | _ => l

theorem Elem.put_l (e : Elem) (x : Put) : (e.put x).l = x.onCounters e.l := by cases x <;> rfl

theorem Elem.puts_l (e : Elem) (l : List Put) : (e.puts l).l = l.foldl Put.onCounters e.l := by
  induction l generalizing e with
  | nil => rfl
  | cons x l ih => rw [List.foldl_cons, ← Elem.put_l]; exact ih (e.put x)

theorem deliver_onCounters (d : BitVec 5) (t : Tag) (v : Word) (l : Vector Counter 2) :
    (deliver d t v).foldl Put.onCounters l = l := by
  obtain ⟨j, -, h⟩ | ⟨j, -, h⟩ | ⟨j, -, h⟩ | ⟨-, h⟩ := deliver_cases d t v <;> rw [h] <;> rfl

/-- The predicate update and the bound control tokens leave registers and counters: those after a commit are those after the rule's
own writes. -/
theorem Elem.commit_l (e : Elem) (rule : Nat) {q : Req} (puts : List Put) (f : Bool) (n : Inc) (h : q.lat = 1) :
    (e.commit rule q (e.allPuts rule q puts f) n).l = puts.foldl Put.onCounters e.l := by
  rw [e.commit_of_one_round rule _ n h]
  obtain ⟨-, -, hco, -⟩ := puts_co (boundCo_allCo e rule (q.p == 3 && f))
    (((e.paid rule q (e.allPuts rule q puts f)).puts puts).puts (update q.i q.p f))
  obtain ⟨-, hupdate, -⟩ := puts_update ((e.paid rule q (e.allPuts rule q puts f)).puts puts) q.i q.p f
  simp only [Elem.puts_allPuts, hco, hupdate, Elem.puts_l, Elem.paid_l]

theorem Elem.commit_p_of_no_update (e : Elem) (rule : Nat) {q : Req} (puts : List Put) (f : Bool) (n : Inc) (h : q.lat = 1)
    (hp : q.p = 0) : (e.commit rule q (e.allPuts rule q puts f) n).p = ((e.paid rule q (e.allPuts rule q puts f)).puts puts).p := by
  rw [e.commit_of_one_round rule _ n h]
  obtain ⟨-, hco, -⟩ := puts_co (boundCo_allCo e rule (q.p == 3 && f))
    (((e.paid rule q (e.allPuts rule q puts f)).puts puts).puts (update q.i q.p f))
  have hupdate : update q.i q.p f = [] := by rw [hp]; rfl
  rw [Elem.puts_allPuts, hco, hupdate]
  rfl

/-! Room. -/

/-- A write that needs no room: it sends nothing on a channel or a control channel. -/
def Put.silent : Put → Bool
  | .out _ _ => false
  | .co _ => false
  | _ => true

theorem Elem.roomFor_cons_of_silent (e : Elem) {x : Put} (l : List Put) (h : x.silent = true) :
    e.roomFor (x :: l) = e.roomFor l := by
  have hout : ∀ k, outCount (x :: l) k = outCount l k := fun k => by
    cases x with
    | out _ _ => cases h
    | _ => rfl
  have hco : ∀ k, (x :: l).contains (.co k) = l.contains (.co k) := fun k => by
    cases x with
    | co _ => cases h
    | _ => rfl
  simp only [Elem.roomFor, hout, hco]

theorem State.hasRoom_of_silent {s : State} {el rule : Nat} {q : Req} {x : Put} {f : Bool} (h : x.silent = true)
    (hr : s.hasRoom el rule q [] f) : s.hasRoom el rule q [x] f :=
  ((s.elem el).roomFor_cons_of_silent _ h).trans hr

end Sys2Proof.Machine
end

section
/-! The obligation on the predicate instructions (R145), in elements and in walks. -/

namespace Sys2Proof.Machine

/-- R145: a predicate instruction completes, in both places, with `g` of the two predicates that it names. -/
theorem completes_of_predOp {j : Instr} {d a b : BitVec 5} {i : BitVec 3} {p : BitVec 2} {t : BitVec 4} {g : Bool → Bool → Bool}
    (he : ∀ s, exec j s = predOp d a b i p t g s) (ha : a.toNat < 8) (hb : b.toNat < 8) :
    Completes j (rq d none none i p 1) t (fun x v f n =>
        f = g (x.p.getLsbD a.toNat) (x.p.getLsbD b.toNat) ∧ v = (if f then 1 else 0) ∧ n = {})
      ∧ CompletesInWalk j (rq d none none i p 1) t (fun x v f _ =>
        f = g (x.p.getLsbD a.toNat) (x.p.getLsbD b.toNat) ∧ v = (if f then 1 else 0)) := by
  refine completes_inBoth_of_gen (r := fun x => rel (g (x.p.getLsbD a.toNat) (x.p.getLsbD b.toNat))) (fun s => ?_)
    (fun x => rfl) (fun x => rfl)
  rw [he, predOp, Nat.mod_eq_of_lt ha, Nat.mod_eq_of_lt hb]
  rfl

/-! PTOD: the predicates as bits 7:0 of a word. -/

theorem toNat_ptod (p : BitVec 8) : (BitVec.ofNat 32 p.toNat).toNat = p.toNat := by
  have := p.isLt
  rw [BitVec.toNat_ofNat]
  omega

theorem nz_ptod (p : BitVec 8) : nz (BitVec.ofNat 32 p.toNat) = true ↔ p ≠ 0 := by
  rw [nz_eq_true, ne_eq, ne_eq, ← BitVec.toNat_inj, ← BitVec.toNat_inj, toNat_ptod]
  rfl

/-! DTOP: all predicates from bits 7:0 of A. -/

/-- R145: what DTOP computes. -/
def dtopRes (x : In) : Res := .done [.pAll (fld x.a.data 0 8)] false {}

theorem exec_dtop (a : BitVec 5) (s : State) : exec (.dtop a) s = s.gen (rq 24 (some a) none 0 0 1) dtopRes := rfl

theorem fld_low_getLsbD (w : Word) {k : Nat} (hk : k < 8) : (fld w 0 8).getLsbD k = w.getLsbD k := by
  rw [fld_low, BitVec.getLsbD_ofNat, decide_eq_true hk, Bool.true_and, BitVec.testBit_toNat]

/-- Settles O17: the five two-predicate instructions share one operation; DTOP is the one write of all predicates, and it needs no
room. -/
theorem predicateResults : Obligations.PredicateResults := by
  unfold Obligations.PredicateResults
  intro two
  refine ⟨?pand, ?por, ?pxor, ?pnot, ?pmov, ?ptod, ?dtop, ?dtopInWalk⟩
  case pand => exact fun d a b i p t ha hb => completes_of_predOp (fun _ => rfl) ha hb
  case por => exact fun d a b i p t ha hb => completes_of_predOp (fun _ => rfl) ha hb
  case pxor => exact fun d a b i p t ha hb => completes_of_predOp (fun _ => rfl) ha hb
  case pnot => exact fun d a b i p t ha _ => completes_of_predOp (b := 0) (g := fun u _ => !u) (fun _ => rfl) ha (by decide)
  case pmov => exact fun d a b i p t ha _ => completes_of_predOp (b := 0) (g := fun u _ => u) (fun _ => rfl) ha (by decide)
  case ptod =>
    exact fun d i p t => completes_inBoth_of_gen (r := fun x => withNz (BitVec.ofNat 32 x.p.toNat)) (fun _ => rfl)
      (fun x => toNat_ptod x.p) (fun x => nz_ptod x.p)
  case dtop =>
    intro a s el rule x ha hr
    have hroom : s.hasRoom el rule (rq 24 (some a) none 0 0 1) [.pAll (fld x.a.data 0 8)] false := State.hasRoom_of_silent rfl hr
    refine ⟨_, (exec_dtop a s).trans (State.gen_fires ha rfl hroom), fun k hk => ?_⟩
    rw [Elem.commit_p_of_no_update _ _ _ _ _ rfl rfl]
    exact fld_low_getLsbD x.a.data hk
  case dtopInWalk =>
    exact fun a s t k rule hc => ⟨_, (exec_dtop a s).trans (State.gen_walks hc rfl), fun j hj => fld_low_getLsbD _ hj⟩

end Sys2Proof.Machine
end

section
/-! The obligation on the counters: CNTRD, CNTSET and HALT (R147, R148), and ITER (R138, R146). -/

namespace Sys2Proof.Machine

/-! CNTRD and CNTSET. -/

theorem cntrd_completes (d a : BitVec 5) (i : BitVec 3) (p : BitVec 2) (t : BitVec 4) (ha : a.toNat < 2) :
    Completes (.cntrd d a i p t) (rq d none none i p 1) t (fun x v f n =>
      v = x.l[a.toNat].value ∧ (f = true ↔ x.l[a.toNat].value = x.l[a.toNat].bound - 1) ∧ n = {}) := by
  refine completes_of_genE
    (r := fun x => (x.l[a.toNat].value, x.l[a.toNat].value == x.l[a.toNat].bound - 1, {})) (fun s => ?_)
    fun x => ⟨rfl, beq_iff_eq, rfl⟩
  change execCntrd d a i p t s = _
  simp only [execCntrd, Nat.mod_eq_of_lt ha]
  rfl

/-- R147: the counter that CNTSET writes. -/
theorem cntsetRes_sets (k : Fin 2) {x : In} (h : x.a.data ≠ 0) : cntsetRes (BitVec.ofNat 5 (25 + k.val)) x =
    .done [.l (BitVec.ofNat 1 k.val) { x.l[k] with bound := x.a.data, value := 0 }] false {} := by
  rw [cntsetRes, if_neg h]
  match k with
  | 0 => rfl
  | 1 => rfl

/-- A counter written, read back. -/
theorem onCounters_getElem (l : Vector Counter 2) (k j : Fin 2) (c : Counter) :
    (Put.onCounters l (.l (BitVec.ofNat 1 k.val) c))[j] = if j = k then c else l[j] := by
  have hk : (BitVec.ofNat 1 k.val).toNat = k.val := by rw [BitVec.toNat_ofNat]; omega
  simp only [Put.onCounters, Fin.getElem_fin, Vector.getElem_set, hk, Fin.ext_iff, eq_comm]

/-! HALT. -/

theorem Table.put_put_same {α : Type} (t : Table α) (k : Nat) (v w : α) : (t.put k v).put k w = t.put k w := by
  induction t with
  | nil => simp [Table.put]
  | cons h t ih =>
    obtain ⟨j, u⟩ := h
    rw [Table.put]
    split
    · next hlt => simp [Table.put, hlt]
    · next hlt =>
      split
      · next heq => simp [Table.put, heq]
      · next hne => simp [Table.put, hlt, hne, ih]

theorem State.setElem_setElem (s : State) (el : Nat) (e e' : Elem) : (s.setElem el e).setElem el e' = s.setElem el e' := by
  simp only [State.setElem, Table.put_put_same]

/-- R148: HALT in a rule that has its room. -/
theorem exec_halt {s : State} {el rule : Nat} {x : In} (ha : s.armed el rule (rq 24 none none 0 0 1) x)
    (hr : s.hasRoom el rule (rq 24 none none 0 0 1) [] false) :
    exec .halt s = .next (s.setElem el
      { (s.elem el).commit rule (rq 24 none none 0 0 1) ((s.elem el).allPuts rule (rq 24 none none 0 0 1) [] false) {} with
        halted := true, life := if (s.elem el).life = .frozen then .frozen else .halted }) := by
  have hroom : (s.elem el).roomFor ((s.elem el).allPuts rule {} [] false) = true := hr
  have hfire : s.genElem el rule {} (fun _ => .done [] false {}) = s.fired el rule (rq 24 none none 0 0 1) [] false {} :=
    State.genElem_fires (f := fun _ => .done [] false {}) ha.2 rfl hr
  change execHalt s = _
  simp only [execHalt, ha.1, hfire, hroom, if_true]
  simp only [State.fired, State.elem_setElem, State.setElem_setElem, Elem.commit_life]

/-! ITER: its terms, each as R146 names it. -/

section
variable (l : Vector Counter 2) (k : Fin 2)

/-- The index is the last of counter `k`. -/
def iterLast : Bool := decide (l[k].value = l[k].bound - 1)

/-- The counter wraps into l1, to which it is chained. -/
def iterCarry : Bool := iterLast l k && decide (k.val = 0) && decide (l[0].chain = 1)

/-- The outer counter wraps too. -/
def iterWrap : Bool := iterCarry l k && decide (l[1].value = l[1].bound - 1)

/-- The level of the counter's own stop, 0 for none. -/
def iterOwn : Nat := if iterLast l k then l[k].wlevel.toNat else 0

/-- The level of the outer counter's stop, 0 for none. -/
def iterOuter : Nat := if iterWrap l k then l[1].wlevel.toNat else 0

/-- The data of the stop. -/
def iterStop : Word := if iterOwn l k < iterOuter l k then l[1].bound else l[k].bound

/-- The counters written. -/
def iterCounters : List Put :=
  .l (BitVec.ofNat 1 k.val) { l[k] with value := if iterLast l k then 0 else l[k].value + 1 }
    :: (if iterCarry l k then [.l 1 { l[1] with value := if iterWrap l k then 0 else l[1].value + 1 }] else [])

/-- All writes of ITER to D. -/
def iterPuts (d : BitVec 5) : List Put :=
  (if dChan d = true then [Put.out (BitVec.ofNat 3 (d.toNat - 8)) (⟨l[k].value, if iterLast l k then Tag.last else Tag.data⟩ ::
      (if max (iterOwn l k) (iterOuter l k) ≠ 0 then [⟨iterStop l k, BitVec.ofNat 4 (1 + max (iterOwn l k) (iterOuter l k))⟩]
        else []))]
    else deliver d (if iterLast l k then Tag.last else Tag.data) l[k].value) ++ iterCounters l k

/-- The data that the model's step gives a stop, 0 where there is none. -/
def iterData : Word := if iterOwn l k < iterOuter l k then l[1].bound else if iterOwn l k = 0 then 0 else l[k].bound

theorem iterData_of_stop (h : max (iterOwn l k) (iterOuter l k) ≠ 0) : iterData l k = iterStop l k := by
  unfold iterData iterStop
  split
  · rfl
  · exact if_neg (by omega)

theorem iterCarry_iff : iterCarry l k = true ↔ iterLast l k = true ∧ k.val = 0 ∧ l[0].chain = 1 := by
  simp [iterCarry, and_assoc]

theorem iterOuter_of_no_wrap (h : iterWrap l k = false) : iterOuter l k = 0 := by
  simp [iterOuter, h]

/-- The model's step of a counter in these terms: it branches on the carry, and on a carry on the wrap of l1. -/
theorem iterStep_eq :
    iterStep l k.val = (l[k].value, iterLast l k, max (iterOwn l k) (iterOuter l k), iterData l k, iterCounters l k) := by
  have hlast : (l[k].value == l[k].bound - 1) = iterLast l k := beq_eq_decide ..
  simp only [iterStep, Nat.mod_eq_of_lt k.isLt, ← Fin.getElem_fin, hlast, ← iterCarry_iff]
  cases hcarry : iterCarry l k with
  | false =>
    have hno : iterWrap l k = false := by rw [iterWrap, hcarry]; rfl
    simp [iterData, iterOuter_of_no_wrap l k hno, iterOwn, iterCounters, hcarry]
  | true =>
    have hwrap : (l[1].value == l[1].bound - 1) = iterWrap l k := by rw [iterWrap, hcarry, beq_eq_decide]; rfl
    rw [hwrap]
    cases hw : iterWrap l k with
    | false => simp [iterData, iterOuter_of_no_wrap l k hw, iterOwn, iterCounters, hcarry, hw]
    | true => simp [iterData, iterOuter, iterOwn, iterCounters, hcarry, hw]

theorem iterRoom_eq : iterRoom l k.val = if l[k].wlevel ≠ 0 ∨ (k.val = 0 ∧ l[0].chain = 1 ∧ l[1].wlevel ≠ 0) then 2 else 1 := by
  simp only [iterRoom, Nat.mod_eq_of_lt k.isLt]
  rfl

end

/-- R146: what ITER computes for counter `k`. -/
def iterRes (d : BitVec 5) (k : Nat) (x : In) : Res :=
  match iterStep x.l k with
  | (idx, last, lvl, data, ctrs) =>
    let tag : Tag := if last then Tag.last else Tag.data
    let toks := if dChan d ∧ lvl ≠ 0 then [⟨idx, tag⟩, ⟨data, BitVec.ofNat 4 (1 + lvl)⟩] else [(⟨idx, tag⟩ : Token)]
    .done ((if dChan d then [Put.out (BitVec.ofNat 3 (d.toNat - 8)) toks] else deliver d tag idx) ++ ctrs) last {}

theorem iterRes_eq (d : BitVec 5) (k : Fin 2) (x : In) : iterRes d k.val x = .done (iterPuts x.l k d) (iterLast x.l k) {} := by
  rw [iterRes, iterStep_eq]
  by_cases hchan : dChan d = true
  · by_cases hlevel : max (iterOwn x.l k) (iterOuter x.l k) = 0
    · simp [iterPuts, hchan, hlevel]
    · simp [iterPuts, hchan, hlevel, iterData_of_stop x.l k hlevel]
  · simp [iterPuts, hchan]

/-- R146: ITER in a rule, by the room of a channel destination. -/
theorem exec_iter {s : State} {el rule : Nat} (hc : s.cur = .rule el rule) (d : BitVec 5) (k : Fin 2) (i : BitVec 3)
    (p : BitVec 2) :
    exec (.iter d (BitVec.ofNat 5 k.val) i p) s =
      if dChan d ∧ ((s.elem el).ports.outAt (d.toNat - 8)).room < iterRoom (s.elem el).l k.val then .next s
      else .next (s.genElem el rule (rq d none none i p 1) (iterRes d k.val)) := by
  have hk : (BitVec.ofNat 5 k.val).toNat % 2 = k.val := by revert k; decide
  change execIter d (BitVec.ofNat 5 k.val) i p s = _
  simp only [execIter, hc, hk]
  rfl

/-- ITER writes the counters after its result, which leaves them. -/
theorem iterPuts_onCounters (l : Vector Counter 2) (k : Fin 2) (d : BitVec 5) :
    (iterPuts l k d).foldl Put.onCounters l = (iterCounters l k).foldl Put.onCounters l := by
  rw [iterPuts, List.foldl_append]
  split
  · rfl
  · rw [deliver_onCounters]

/-- Both counters after ITER. -/
theorem iterCounters_getElem (l : Vector Counter 2) (k j : Fin 2) : ((iterCounters l k).foldl Put.onCounters l)[j] =
    if iterCarry l k = true ∧ j = 1 then { l[1] with value := if iterWrap l k then 0 else l[1].value + 1 }
    else if j = k then { l[k] with value := if iterLast l k then 0 else l[k].value + 1 } else l[j] := by
  have houter : ∀ (l' : Vector Counter 2) (c : Counter), (Put.onCounters l' (.l 1 c))[j] = if j = 1 then c else l'[j] :=
    fun l' c => onCounters_getElem l' 1 j c
  cases hcarry : iterCarry l k with
  | false =>
    simp only [iterCounters, hcarry, Bool.false_eq_true, if_false, List.foldl_cons, List.foldl_nil, onCounters_getElem, false_and]
  | true => simp only [iterCounters, hcarry, if_true, List.foldl_cons, List.foldl_nil, houter, onCounters_getElem, true_and]

theorem iterCounters_own (l : Vector Counter 2) (k : Fin 2) :
    ((iterCounters l k).foldl Put.onCounters l)[k] = { l[k] with value := if iterLast l k then 0 else l[k].value + 1 } := by
  have hk : ¬ (iterCarry l k = true ∧ k = 1) := by
    rintro ⟨hcarry, rfl⟩
    obtain ⟨-, hzero, -⟩ := (iterCarry_iff l 1).1 hcarry
    exact absurd hzero (by decide)
  rw [iterCounters_getElem, if_neg hk, if_pos rfl]

theorem iterCounters_outer (l : Vector Counter 2) : ((iterCounters l 0).foldl Put.onCounters l)[1] =
    { l[1] with value := if iterWrap l 0 then 0 else if iterCarry l 0 then l[1].value + 1 else l[1].value } := by
  refine (iterCounters_getElem l 0 1).trans ?_
  cases hcarry : iterCarry l 0 with
  | false =>
    have hno : iterWrap l 0 = false := by rw [iterWrap, hcarry]; rfl
    simp [hno]
  | true => simp

theorem iterCounters_inner (l : Vector Counter 2) : ((iterCounters l 1).foldl Put.onCounters l)[0] = l[0] := by
  refine (iterCounters_getElem l 1 0).trans ?_
  simp

/-- Settles O18: CNTRD and CNTSET by what they compute, HALT by its commit; ITER waits or fires with the writes of the model's step,
which are those of R146, and the counters after it are read off them. That HALT leaves a FROZEN element FROZEN is the model's choice
(log 64). -/
theorem counterResults : Obligations.CounterResults := by
  refine ⟨⟨cntrd_completes, ?cntset, fun s el rule x => exec_halt⟩, ?iter⟩
  case cntset =>
    intro k a i p s el rule x ha hne hr
    have hfires := State.genE_fires ha (cntsetRes_sets k hne) (State.hasRoom_of_silent rfl hr)
    refine ⟨_, (exec_cntset _ a i p s).trans hfires, ?_, fun j hj => ?_⟩
    · rw [Elem.commit_l _ _ _ _ _ rfl, List.foldl_cons, List.foldl_nil, onCounters_getElem, if_pos rfl, Elem.input_l ha.2]
    · rw [Elem.commit_l _ _ _ _ _ rfl, List.foldl_cons, List.foldl_nil, onCounters_getElem, if_neg hj]
  case iter =>
    intro s el rule d k i p x a q l last carry wrap1 own outer level stop chan need tag res puts ha
    have hexec := exec_iter ha.1 d k i p
    have hcompute : iterRes d k.val x = .done puts last {} := by
      rw [iterRes_eq, Elem.input_l ha.2]
      rfl
    have hcounters : ((s.fired el rule q puts last {}).elem el).l = (iterCounters l k).foldl Put.onCounters l := by
      rw [State.fired, State.elem_setElem, Elem.commit_l _ _ _ _ _ rfl]
      exact iterPuts_onCounters l k d
    rw [iterRoom_eq] at hexec
    refine ⟨fun hchan hfull => ?waits, fun hroomOut hroom => ⟨?fires, ?own, ?outer, ?inner⟩⟩
    case waits => exact hexec.trans (if_pos ⟨hchan, hfull⟩)
    case fires =>
      have hfree : ¬ (dChan d = true ∧ ((s.elem el).ports.outAt (d.toNat - 8)).room < need) :=
        fun h => absurd (hroomOut h.1) (Nat.not_le.2 h.2)
      exact (hexec.trans (if_neg hfree)).trans (congrArg _ (State.genElem_fires ha.2 hcompute hroom))
    case own => rw [hcounters]; exact iterCounters_own l k
    case outer =>
      intro hk
      obtain rfl : k = 0 := Fin.ext hk
      rw [hcounters]
      exact iterCounters_outer l
    case inner =>
      intro hk
      obtain rfl : k = 1 := Fin.ext hk
      rw [hcounters]
      exact iterCounters_inner l

end Sys2Proof.Machine
end

section
/-! The obligation on the adds, subtracts, multiplies and selects (R150): the exact integer, and its reduction or clamp to 32
bits. -/

namespace Sys2Proof.Machine

/-! Exact integers narrowed (R11). -/

theorem Word.toNat_ofInt (x : Int) : ((Word.ofInt x).toNat : Int) = x % 2 ^ 32 := by
  rw [BitVec.toNat_ofInt]
  omega

/-- The signed reading of a word by its unsigned one (R4). -/
theorem Word.toInt_eq (a : Word) : a.toInt = if a.toNat < 2 ^ 31 then (a.toNat : Int) else (a.toNat : Int) - 2 ^ 32 := by
  have := a.isLt
  rw [BitVec.toInt_eq_toNat_cond]
  split <;> split <;> omega

/-! The clamps (R31). -/

theorem clampI_toInt (x : Int) : (clampI x).1.toInt = max (-2 ^ 31) (min (2 ^ 31 - 1) x) := by
  unfold clampI
  split
  · have : (0x80000000 : Word).toInt = -2 ^ 31 := by decide
    dsimp only; omega
  split
  · have : (0x7FFFFFFF : Word).toInt = 2 ^ 31 - 1 := by decide
    dsimp only; omega
  · have : (Word.ofInt x).toInt = x := BitVec.toInt_ofInt_eq_self (by decide) (by omega) (by omega)
    dsimp only; omega

theorem clampI_flag (x : Int) : (clampI x).2 = true ↔ (clampI x).1.toInt ≠ x := by
  rw [clampI_toInt]
  unfold clampI
  split
  · simp only [true_iff]; omega
  split
  · simp only [true_iff]; omega
  · simp only [Bool.false_eq_true, false_iff]; omega

theorem clampN_toNat (x : Int) : ((clampN x).1.toNat : Int) = max 0 (min (2 ^ 32 - 1) x) := by
  unfold clampN
  split
  · have : (0 : Word).toNat = 0 := rfl
    dsimp only; omega
  split
  · have : (0xFFFFFFFF : Word).toNat = 2 ^ 32 - 1 := rfl
    dsimp only; omega
  · have := Word.toNat_ofInt x
    dsimp only; omega

theorem clampN_flag (x : Int) : (clampN x).2 = true ↔ ((clampN x).1.toNat : Int) ≠ x := by
  rw [clampN_toNat]
  unfold clampN
  split
  · simp only [true_iff]; omega
  split
  · simp only [true_iff]; omega
  · simp only [Bool.false_eq_true, false_iff]; omega

/-! Results and flags of the table. -/

/-- An unsigned difference, wrapped. -/
theorem toNat_sub_emod {n : Nat} (x y : BitVec n) : ((x - y).toNat : Int) = ((x.toNat : Int) - y.toNat) % 2 ^ n := by
  have hwrap : (2 : Int) ^ n - y.toNat + x.toNat = x.toNat - y.toNat + 2 ^ n := by ring
  rw [BitVec.toNat_sub]
  push_cast [Nat.cast_sub y.isLt.le]
  rw [hwrap, Int.add_emod_right]

theorem addsnR_toNat (a b : Word) : (addsnR a b).1.toNat = min (2 ^ 32 - 1) (a.toNat + b.toNat) := by
  have := clampN_toNat (a.toNat + b.toNat)
  rw [addsnR]
  omega

theorem addsnR_flag (a b : Word) : (addsnR a b).2 = true ↔ (addsnR a b).1.toNat ≠ a.toNat + b.toNat := by
  rw [addsnR, clampN_flag]
  omega

theorem subsnR_toNat (a b : Word) : ((subsnR a b).1.toNat : Int) = max 0 ((a.toNat : Int) - b.toNat) := by
  have ha := a.isLt
  have := clampN_toNat (a.toNat - b.toNat)
  rw [subsnR]
  omega

theorem negR_toNat (a : Word) : ((negR a).1.toNat : Int) = (-a.toInt) % 2 ^ 32 := by
  have ha := a.isLt
  rw [Word.toInt_eq, negR, BitVec.toNat_neg]
  split <;> omega

theorem absR_toNat (a : Word) : (absR a).1.toNat = a.toInt.natAbs % 2 ^ 32 := by
  have ha := a.isLt
  have hneg := negR_toNat a
  have hint := Word.toInt_eq a
  simp only [absR, negR] at hneg ⊢
  split at hint <;> split <;> omega

theorem mulR_flag (a b : Word) :
    (mulR a b).2 = true ↔ ¬ (-2 ^ 31 ≤ a.toInt * b.toInt ∧ a.toInt * b.toInt < 2 ^ 31) := by
  rw [mulR, decide_eq_true_iff]
  omega

theorem mulhnR_toNat (a b : Word) : (mulhnR a b).1.toNat = a.toNat * b.toNat / 2 ^ 32 := by
  have hlt : a.toNat * b.toNat < 2 ^ 32 * 2 ^ 32 := Nat.mul_lt_mul'' a.isLt b.isLt
  rw [mulhnR, withNz, BitVec.toNat_ofNat, Nat.mod_eq_of_lt (Nat.div_lt_of_lt_mul hlt)]

/-- MAC and DOT4: an exact integer added to a register, modulo 2^32. -/
theorem Word.toNat_add_ofInt (d : Word) (x : Int) : ((d + Word.ofInt x).toNat : Int) = ((d.toNat : Int) + x) % 2 ^ 32 := by
  have := Word.toNat_ofInt x
  rw [BitVec.toNat_add]
  omega

/-- R150: the select that takes B when its key is the smaller and A otherwise, on a tie too. -/
theorem select_smaller {α β : Type} [LinearOrder α] (key : β → α) (a b : β) [Decidable (key b < key a)] :
    key (if key b < key a then (b, true) else (a, false)).1 = min (key a) (key b)
      ∧ ((if key b < key a then (b, true) else (a, false)).2 = true ↔ key b < key a) := by
  split
  · next h => exact ⟨(min_eq_right h.le).symm, iff_of_true rfl h⟩
  · next h => exact ⟨(min_eq_left (not_lt.1 h)).symm, iff_of_false Bool.false_ne_true h⟩

theorem select_larger {α β : Type} [LinearOrder α] (key : β → α) (a b : β) [Decidable (key a < key b)] :
    key (if key a < key b then (b, true) else (a, false)).1 = max (key a) (key b)
      ∧ ((if key a < key b then (b, true) else (a, false)).2 = true ↔ key a < key b) := by
  split
  · next h => exact ⟨(max_eq_right h.le).symm, iff_of_true rfl h⟩
  · next h => exact ⟨(max_eq_left (not_lt.1 h)).symm, iff_of_false Bool.false_ne_true h⟩

/-- Settles O19: each instruction completes with its function's result and flag, which stand in the table's relation. -/
theorem integerArithmetic : Obligations.IntegerArithmetic := by
  refine ⟨?add, ?sub, ?adds, ?subs, ?addsn, ?subsn, ?neg, ?abs, ?mul, ?mulh, ?mulhn, ?mac, ?min, ?max, ?minn, ?maxn⟩
  case add => exact binary_of_gen (r := addR) (fun _ _ _ _ _ _ _ => rfl) fun a b => ⟨BitVec.toNat_add a b, decide_eq_true_iff⟩
  case sub => exact binary_of_gen (r := subR) (fun _ _ _ _ _ _ _ => rfl) fun a b => ⟨toNat_sub_emod a b, decide_eq_true_iff⟩
  case adds =>
    exact binaryE_of_retSat (r := addsR) (fun _ _ _ _ _ _ _ => rfl) (fun a b => clampI_toInt _) (fun a b => clampI_flag _)
  case subs =>
    exact binaryE_of_retSat (r := subsR) (fun _ _ _ _ _ _ _ => rfl) (fun a b => clampI_toInt _) (fun a b => clampI_flag _)
  case addsn => exact binaryE_of_retSat (r := addsnR) (fun _ _ _ _ _ _ _ => rfl) addsnR_toNat addsnR_flag
  case subsn => exact binaryE_of_retSat (r := subsnR) (fun _ _ _ _ _ _ _ => rfl) subsnR_toNat (fun a b => clampN_flag _)
  case neg => exact unary_of_gen (r := negR) (fun _ _ _ _ _ _ => rfl) fun a => ⟨negR_toNat a, beq_iff_eq⟩
  case abs => exact unary_of_gen (r := absR) (fun _ _ _ _ _ _ => rfl) fun a => ⟨absR_toNat a, beq_iff_eq⟩
  case mul => exact binary_of_gen (r := mulR) (fun _ _ _ _ _ _ _ => rfl) fun a b => ⟨Word.toNat_ofInt _, mulR_flag a b⟩
  case mulh =>
    exact binary_of_nonzero (r := mulhR) (fun _ _ _ _ _ _ _ => rfl) (fun _ _ => rfl) (fun a b => Word.toNat_ofInt _)
  case mulhn => exact binary_of_nonzero (r := mulhnR) (fun _ _ _ _ _ _ _ => rfl) (fun _ _ => rfl) mulhnR_toNat
  case mac =>
    exact binaryE_of_nonzero (r := macR) (fun _ _ _ _ _ _ _ => rfl) (fun _ _ _ => rfl) (fun d a b => Word.toNat_add_ofInt d _)
  case min => exact binary_of_gen (r := minR) (fun _ _ _ _ _ _ _ => rfl) fun a b => select_smaller BitVec.toInt a b
  case max => exact binary_of_gen (r := maxR) (fun _ _ _ _ _ _ _ => rfl) fun a b => select_larger BitVec.toInt a b
  case minn => exact binary_of_gen (r := minnR) (fun _ _ _ _ _ _ _ => rfl) fun a b => select_smaller BitVec.toNat a b
  case maxn => exact binary_of_gen (r := maxnR) (fun _ _ _ _ _ _ _ => rfl) fun a b => select_larger BitVec.toNat a b

end Sys2Proof.Machine
end

section
/-! The obligation on the logic and shift instructions (R151): a shift that is not reduced modulo 32, and the 1 bits it loses. -/

namespace Sys2Proof.Machine

/-! The 1 bits that have no place in the result. -/

theorem Word.exists_bit_from_iff (a : Word) (n : Nat) : (∃ k, k < 32 ∧ a.getLsbD k = true ∧ n ≤ k) ↔ 2 ^ n ≤ a.toNat := by
  constructor
  · rintro ⟨k, -, hbit, hk⟩
    exact (Nat.pow_le_pow_right (by decide) hk).trans (Nat.ge_two_pow_of_testBit hbit)
  · intro h
    obtain ⟨k, hk, hbit⟩ := Nat.exists_ge_and_testBit_of_ge_two_pow h
    exact ⟨k, BitVec.lt_of_getLsbD hbit, hbit, hk⟩

theorem Word.exists_bit_below_iff (a : Word) (n : Nat) :
    (∃ k, k < 32 ∧ a.getLsbD k = true ∧ k < n) ↔ a.toNat % 2 ^ n ≠ 0 := by
  constructor
  · rintro ⟨k, -, hbit, hk⟩ hzero
    have hlow : (a.toNat % 2 ^ n).testBit k = true := by
      rw [Nat.testBit_mod_two_pow, decide_eq_true hk, Bool.true_and]
      exact hbit
    simp [hzero] at hlow
  · intro h
    obtain ⟨k, hbit⟩ := Nat.exists_testBit_of_ne_zero h
    rw [Nat.testBit_mod_two_pow, Bool.and_eq_true, decide_eq_true_iff] at hbit
    exact ⟨k, BitVec.lt_of_getLsbD hbit.2, hbit.2, hbit.1⟩

/-! The shifts. -/

theorem shlR_eq (a b : Word) : (shlR a b).1 = a <<< b.toNat := by
  unfold shlR
  split
  · apply BitVec.eq_of_toNat_eq
    rw [BitVec.toNat_ofNat, BitVec.toNat_shiftLeft, Nat.shiftLeft_eq]
  · next h => exact (BitVec.shiftLeft_eq_zero (Nat.not_lt.1 h)).symm

theorem shlR_flag (a b : Word) : (shlR a b).2 = true ↔ 2 ^ (32 - b.toNat) ≤ a.toNat := by
  unfold shlR
  split
  · next h =>
    have hsplit : 2 ^ 32 = 2 ^ (32 - b.toNat) * 2 ^ b.toNat := by rw [← Nat.pow_add]; congr 1; omega
    rw [decide_eq_true_iff, hsplit]
    exact Nat.mul_le_mul_right_iff (Nat.two_pow_pos _)
  · next h =>
    rw [Nat.sub_eq_zero_of_le (Nat.not_lt.1 h), bne_iff_ne, ne_eq, ← BitVec.toNat_inj]
    exact Nat.pos_iff_ne_zero.symm

theorem shrR_eq (a b : Word) : (shrR a b).1 = a >>> b.toNat := by
  unfold shrR
  split
  · apply BitVec.eq_of_toNat_eq
    have := a.isLt
    rw [BitVec.toNat_ofNat, BitVec.toNat_ushiftRight, Nat.shiftRight_eq_div_pow,
      Nat.mod_eq_of_lt ((Nat.div_le_self ..).trans_lt this)]
  · next h => exact (BitVec.ushiftRight_eq_zero (Nat.not_lt.1 h)).symm

theorem sarR_eq (a b : Word) : (sarR a b).1 = a.sshiftRight b.toNat := by
  unfold sarR
  split
  · rw [BitVec.sshiftRight, Int.shiftRight_eq_div_pow]
    norm_cast
  · next h =>
    ext k hk
    have hout : ¬ b.toNat + k < 32 := by omega
    rw [BitVec.getElem_sshiftRight, dif_neg hout, BitVec.msb_eq_toInt]
    split
    · next hneg =>
      have hones : (0xFFFFFFFF : Word) = BitVec.allOnes 32 := rfl
      rw [hones, BitVec.getElem_allOnes, decide_eq_true hneg]
    · next hneg => simp [hneg]

theorem shlR_getLsbD (a b : Word) {k : Nat} (hk : k < 32) :
    (shlR a b).1.getLsbD k = (decide (b.toNat ≤ k) && a.getLsbD (k - b.toNat)) := by
  rw [shlR_eq, BitVec.getLsbD_shiftLeft, decide_eq_true hk, Bool.true_and, ← decide_not]
  simp only [Nat.not_lt]

theorem shrR_getLsbD (a b : Word) (k : Nat) : (shrR a b).1.getLsbD k = a.getLsbD (k + b.toNat) := by
  rw [shrR_eq, BitVec.getLsbD_ushiftRight, Nat.add_comm]

theorem sarR_getLsbD (a b : Word) {k : Nat} (hk : k < 32) :
    (sarR a b).1.getLsbD k = if k + b.toNat < 32 then a.getLsbD (k + b.toNat) else a.getLsbD 31 := by
  rw [sarR_eq, BitVec.getLsbD_sshiftRight, decide_eq_false (Nat.not_le.2 hk), BitVec.msb_eq_getLsbD_last, Nat.add_comm]
  rfl

/-- R151: the flag that SHR and SAR share, a remainder of the operand. -/
theorem lost_low_iff (a b : Word) :
    (if b.toNat < 32 then decide (a.toNat % 2 ^ b.toNat ≠ 0) else a != 0) = true ↔ a.toNat % 2 ^ b.toNat ≠ 0 := by
  split
  · exact decide_eq_true_iff
  · next h =>
    have hlt : a.toNat < 2 ^ b.toNat := a.isLt.trans_le (Nat.pow_le_pow_right (by decide) (Nat.not_lt.1 h))
    rw [Nat.mod_eq_of_lt hlt, bne_iff_ne, ne_eq, ← BitVec.toNat_inj]
    rfl

theorem rolR_getLsbD (a b : Word) {k : Nat} (hk : k < 32) : (rolR a b).1.getLsbD ((k + b.toNat) % 32) = a.getLsbD k := by
  have hlast : (k + b.toNat) % 32 < 32 := Nat.mod_lt _ (by decide)
  simp only [rolR, withNz, BitVec.getLsbD_rotateLeft, Nat.mod_mod, cond_eq_ite, decide_eq_true_iff]
  split
  · next h => congr 1; omega
  · next h =>
    rw [decide_eq_true hlast, Bool.true_and]
    congr 1; omega

/-- Settles O20: the logic instructions work on each bit; the shifts are those of the library, and their flags a bound on the
operand or a remainder of it. -/
theorem logicAndShift : Obligations.LogicAndShift := by
  unfold Obligations.LogicAndShift
  intro bits
  refine ⟨?and, ?or, ?xor, ?andn, ?orn, ?not, ?shl, ?shr, ?sar, ?rol⟩
  case and => exact binary_of_nonzero (r := andR) (fun _ _ _ _ _ _ _ => rfl) (fun _ _ => rfl) fun a b k _ => BitVec.getLsbD_and
  case or => exact binary_of_nonzero (r := orR) (fun _ _ _ _ _ _ _ => rfl) (fun _ _ => rfl) fun a b k _ => BitVec.getLsbD_or
  case xor => exact binary_of_nonzero (r := xorR) (fun _ _ _ _ _ _ _ => rfl) (fun _ _ => rfl) fun a b k _ => BitVec.getLsbD_xor
  case andn =>
    exact binary_of_nonzero (r := andnR) (fun _ _ _ _ _ _ _ => rfl) (fun _ _ => rfl) fun a b k hk => by simp [andnR, withNz, hk]
  case orn =>
    exact binary_of_nonzero (r := ornR) (fun _ _ _ _ _ _ _ => rfl) (fun _ _ => rfl) fun a b k hk => by simp [ornR, withNz, hk]
  case not =>
    exact unary_of_nonzero (r := notR) (fun _ _ _ _ _ _ => rfl) (fun _ => rfl) fun a k hk => by simp [notR, withNz, hk]
  case shl =>
    refine binary_of_gen (r := shlR) (fun _ _ _ _ _ _ _ => rfl) fun a b => ⟨fun k hk => shlR_getLsbD a b hk, ?_⟩
    simp only [shlR_flag, ← Word.exists_bit_from_iff, Nat.sub_le_iff_le_add]
  case shr =>
    exact binary_of_gen (r := shrR) (fun _ _ _ _ _ _ _ => rfl) fun a b =>
      ⟨fun k _ => shrR_getLsbD a b k, (lost_low_iff a b).trans (Word.exists_bit_below_iff a _).symm⟩
  case sar =>
    exact binary_of_gen (r := sarR) (fun _ _ _ _ _ _ _ => rfl) fun a b =>
      ⟨fun k hk => sarR_getLsbD a b hk, (lost_low_iff a b).trans (Word.exists_bit_below_iff a _).symm⟩
  case rol => exact binary_of_nonzero (r := rolR) (fun _ _ _ _ _ _ _ => rfl) (fun _ _ => rfl) fun a b k hk => rolR_getLsbD a b hk

end Sys2Proof.Machine
end

section
/-! The obligation on the bit counts, the reversal and the bit fields (R152): the counts by recursion on the bits looked at, the
fields by the bits of quotients and remainders by powers of 2. -/

namespace Sys2Proof.Machine

/-! The counts and the reversal. -/

theorem clzN_spec (a n : Nat) :
    clzN a n ≤ n ∧ (∀ k, k < clzN a n → a.testBit (n - 1 - k) = false) ∧ (clzN a n < n → a.testBit (n - 1 - clzN a n) = true) := by
  induction n with
  | zero => simp [clzN]
  | succ n ih =>
    obtain ⟨hle, hzeros, hone⟩ := ih
    rw [clzN]
    split
    · next h => simp [Nat.testBit_eq_decide_div_mod_eq, h]
    · next h =>
      have htop : a.testBit n = false := by rw [Nat.testBit_eq_decide_div_mod_eq, decide_eq_false h]
      have hshift : ∀ k, n + 1 - 1 - (1 + k) = n - 1 - k := by omega
      refine ⟨by omega, fun k hk => ?_, fun hlt => ?_⟩
      · cases k with
        | zero => exact htop
        | succ k => rw [Nat.add_comm k 1, hshift]; exact hzeros k (by omega)
      · rw [hshift]; exact hone (by omega)

theorem ctzN_spec (a n : Nat) :
    ctzN a n ≤ n ∧ (∀ k, k < ctzN a n → a.testBit k = false) ∧ (ctzN a n < n → a.testBit (ctzN a n) = true) := by
  induction n generalizing a with
  | zero => simp [ctzN]
  | succ n ih =>
    obtain ⟨hle, hzeros, hone⟩ := ih (a / 2)
    rw [ctzN]
    split
    · next h => simp [Nat.testBit_zero, h]
    · next h =>
      refine ⟨by omega, fun k hk => ?_, fun hlt => ?_⟩
      · cases k with
        | zero => rw [Nat.testBit_zero, decide_eq_false h]
        | succ k => rw [Nat.testBit_succ]; exact hzeros k (by omega)
      · rw [Nat.add_comm, Nat.testBit_succ]; exact hone (by omega)

theorem popN_eq_countP (a n : Nat) : popN a n = (List.range n).countP a.testBit := by
  induction n generalizing a with
  | zero => rfl
  | succ n ih =>
    have hrest : a.testBit ∘ Nat.succ = (a / 2).testBit := funext fun k => Nat.testBit_succ a k
    rw [popN, ih, List.range_succ_eq_map, List.countP_cons, List.countP_map, hrest, Nat.testBit_zero, Nat.add_comm]
    simp only [decide_eq_true_iff]
    split <;> omega

theorem revN_lt (a n : Nat) : revN a n < 2 ^ n := by
  induction n generalizing a with
  | zero => exact Nat.one_pos
  | succ n ih =>
    have hrest := ih (a / 2)
    have hbit : (a % 2) * 2 ^ n ≤ 1 * 2 ^ n := Nat.mul_le_mul_right _ (by omega)
    rw [revN, Nat.pow_succ]
    omega

theorem revN_testBit (a n : Nat) {k : Nat} (hk : k < n) : (revN a n).testBit (n - 1 - k) = a.testBit k := by
  induction n generalizing a k with
  | zero => omega
  | succ n ih =>
    rw [revN, Nat.mul_comm, Nat.testBit_two_pow_mul_add _ (revN_lt (a / 2) n)]
    cases k with
    | zero => simp [Nat.testBit_zero]
    | succ k =>
      have hlt : n + 1 - 1 - (k + 1) < n := by omega
      rw [if_pos hlt, Nat.testBit_succ, ← ih (a / 2) (by omega : k < n)]
      congr 1; omega

theorem Word.toNat_ofNat_of_le {n : Nat} (h : n ≤ 32) : (Word.ofNat n).toNat = n := by
  rw [BitVec.toNat_ofNat]
  omega

theorem popN_le (a n : Nat) : popN a n ≤ n := by
  rw [popN_eq_countP]
  exact List.countP_le_length.trans (by rw [List.length_range])

theorem clzR_spec (a : Word) : (clzR a).1.toNat ≤ 32 ∧ (∀ k, k < (clzR a).1.toNat → a.getLsbD (31 - k) = false)
    ∧ ((clzR a).1.toNat < 32 → a.getLsbD (31 - (clzR a).1.toNat) = true) ∧ ((clzR a).2 = true ↔ a = 0) := by
  obtain ⟨hle, hzeros, hone⟩ := clzN_spec a.toNat 32
  have hn : (clzR a).1.toNat = clzN a.toNat 32 := Word.toNat_ofNat_of_le hle
  rw [hn]
  exact ⟨hle, hzeros, hone, beq_iff_eq⟩

theorem ctzR_spec (a : Word) : (ctzR a).1.toNat ≤ 32 ∧ (∀ k, k < (ctzR a).1.toNat → a.getLsbD k = false)
    ∧ ((ctzR a).1.toNat < 32 → a.getLsbD (ctzR a).1.toNat = true) ∧ ((ctzR a).2 = true ↔ a = 0) := by
  obtain ⟨hle, hzeros, hone⟩ := ctzN_spec a.toNat 32
  have hn : (ctzR a).1.toNat = ctzN a.toNat 32 := Word.toNat_ofNat_of_le hle
  rw [hn]
  exact ⟨hle, hzeros, hone, beq_iff_eq⟩

theorem popcR_spec (a : Word) : (popcR a).1.toNat = ((List.range 32).filter a.getLsbD).length
    ∧ ((popcR a).2 = true ↔ (popcR a).1.toNat % 2 = 1) := by
  have hn : (popcR a).1.toNat = popN a.toNat 32 := Word.toNat_ofNat_of_le (popN_le _ 32)
  rw [hn]
  exact ⟨(popN_eq_countP _ 32).trans List.countP_eq_length_filter, beq_iff_eq⟩

/-- A bit of an exact natural narrowed to a word. -/
theorem Word.getLsbD_ofNat {k : Nat} (n : Nat) (hk : k < 32) : (Word.ofNat n).getLsbD k = n.testBit k := by
  rw [BitVec.getLsbD_ofNat, decide_eq_true hk, Bool.true_and]

theorem brevR_getLsbD (a : Word) {k : Nat} (hk : k < 32) : (brevR a).1.getLsbD (31 - k) = a.getLsbD k := by
  rw [brevR, withNz, Word.getLsbD_ofNat _ (by omega)]
  exact revN_testBit a.toNat 32 hk

/-! The fields. -/

theorem fieldPos_eq (b : Word) : fieldPos b = fldN b 0 5 := by
  simp [fieldPos, fldN]

theorem fieldWidth_eq (b : Word) : fieldWidth b = min (fldN b 5 5 + 1) (32 - fieldPos b) := rfl

/-- R152: a field has at least one bit and ends at bit 31 at the latest. -/
theorem field_bounds (b : Word) : 0 < fieldWidth b ∧ fieldPos b + fieldWidth b ≤ 32 := by
  have hpos : fieldPos b < 32 := Nat.mod_lt _ (by decide)
  unfold fieldWidth
  omega

/-- R152: the field of A that B describes. -/
def field (a b : Word) : BitVec (fieldWidth b) := BitVec.ofNat _ (a.toNat / 2 ^ fieldPos b)

theorem field_getLsbD (a b : Word) (k : Nat) :
    (field a b).getLsbD k = (decide (k < fieldWidth b) && a.getLsbD (fieldPos b + k)) := by
  rw [field, BitVec.getLsbD_ofNat, Nat.testBit_div_two_pow, Nat.add_comm, BitVec.testBit_toNat]

theorem field_msb (a b : Word) : (field a b).msb = a.getLsbD (fieldPos b + fieldWidth b - 1) := by
  obtain ⟨hwidth, -⟩ := field_bounds b
  have hlast : fieldWidth b - 1 < fieldWidth b := by omega
  rw [BitVec.msb_eq_getLsbD_last, field_getLsbD, decide_eq_true hlast, Bool.true_and, Nat.add_sub_assoc hwidth]

theorem bfxR_eq (a b : Word) : (bfxR a b).1 = (field a b).setWidth 32 := by
  apply BitVec.eq_of_toNat_eq
  rw [bfxR, withNz, BitVec.toNat_setWidth, field, BitVec.toNat_ofNat, BitVec.toNat_ofNat]

theorem bfxR_getLsbD (a b : Word) {k : Nat} (hk : k < 32) :
    (bfxR a b).1.getLsbD k = (decide (k < fieldWidth b) && a.getLsbD (fieldPos b + k)) := by
  rw [bfxR_eq, BitVec.getLsbD_setWidth, decide_eq_true hk, Bool.true_and, field_getLsbD]

theorem bfxsR_eq (a b : Word) : (bfxsR a b).1 = (field a b).signExtend 32 := by
  have htop : (field a b).msb = decide ((field a b).toNat / 2 ^ (fieldWidth b - 1) % 2 = 1) := by
    rw [BitVec.msb_eq_getLsbD_last, ← BitVec.testBit_toNat, Nat.testBit_eq_decide_div_mod_eq]
  rw [BitVec.signExtend, BitVec.toInt_eq_msb_cond, htop, field, BitVec.toNat_ofNat]
  simp only [bfxsR, withNz, decide_eq_true_iff]
  split
  · push_cast; rfl
  · exact (BitVec.ofInt_natCast ..).symm

theorem bfxsR_getLsbD (a b : Word) {k : Nat} (hk : k < 32) :
    (bfxsR a b).1.getLsbD k =
      if k < fieldWidth b then a.getLsbD (fieldPos b + k) else a.getLsbD (fieldPos b + fieldWidth b - 1) := by
  rw [bfxsR_eq, BitVec.getLsbD_signExtend, decide_eq_true hk, Bool.true_and, field_msb, field_getLsbD]
  split
  · next h => rw [decide_eq_true h, Bool.true_and]
  · rfl

theorem bfiR_getLsbD (d a b : Word) {k : Nat} (hk : k < 32) :
    (bfiR d a b).1.getLsbD k =
      if fieldPos b ≤ k ∧ k < fieldPos b + fieldWidth b then a.getLsbD (k - fieldPos b) else d.getLsbD k := by
  have hmask : (Word.ofNat ((2 ^ fieldWidth b - 1) * 2 ^ fieldPos b)).getLsbD k =
      decide (fieldPos b ≤ k ∧ k < fieldPos b + fieldWidth b) := by
    rw [Word.getLsbD_ofNat _ hk, Nat.testBit_mul_two_pow, Nat.testBit_two_pow_sub_one, ← Bool.decide_and]
    exact decide_eq_decide.2 (by omega)
  have ha : fieldPos b ≤ k → (Word.ofNat (a.toNat * 2 ^ fieldPos b)).getLsbD k = a.getLsbD (k - fieldPos b) := fun hle => by
    rw [Word.getLsbD_ofNat _ hk, Nat.testBit_mul_two_pow, decide_eq_true hle, Bool.true_and, BitVec.testBit_toNat]
  simp only [bfiR, withNz, BitVec.getLsbD_or, BitVec.getLsbD_and, BitVec.getLsbD_not, decide_eq_true hk, Bool.true_and, hmask]
  split
  · next h => simp [h, ha h.1]
  · next h => simp [h]

/-- Settles O21: the counts by what they count, and each field instruction by the bits of the field. -/
theorem bitFields : Obligations.BitFields := by
  unfold Obligations.BitFields
  simp only [← fieldWidth_eq, ← fieldPos_eq]
  refine ⟨?clz, ?ctz, ?popc, ?brev, ?bfx, ?bfxs, ?bfi⟩
  case clz => exact unary_of_gen (r := clzR) (fun _ _ _ _ _ _ => rfl) clzR_spec
  case ctz => exact unary_of_gen (r := ctzR) (fun _ _ _ _ _ _ => rfl) ctzR_spec
  case popc => exact unary_of_gen (r := popcR) (fun _ _ _ _ _ _ => rfl) popcR_spec
  case brev => exact unary_of_nonzero (r := brevR) (fun _ _ _ _ _ _ => rfl) (fun _ => rfl) fun a k hk => brevR_getLsbD a hk
  case bfx =>
    exact binary_of_nonzero (r := bfxR) (fun _ _ _ _ _ _ _ => rfl) (fun _ _ => rfl) fun a b k hk => bfxR_getLsbD a b hk
  case bfxs =>
    exact binary_of_nonzero (r := bfxsR) (fun _ _ _ _ _ _ _ => rfl) (fun _ _ => rfl) fun a b k hk => bfxsR_getLsbD a b hk
  case bfi =>
    exact binaryE_of_nonzero (r := bfiR) (fun _ _ _ _ _ _ _ => rfl) (fun _ _ _ => rfl) fun d a b k hk => bfiR_getLsbD d a b hk

end Sys2Proof.Machine
end

section
/-! The obligation on the compares (R153): a relation as result and flag. -/

namespace Sys2Proof.Machine

/-- R153: what a compare delivers of a relation that `p` decides. -/
theorem rel_spec {p : Bool} {R : Prop} (h : p = true ↔ R) :
    (R → (rel p).1 = 1 ∧ (rel p).2 = true) ∧ (¬ R → (rel p).1 = 0 ∧ (rel p).2 = false) := by
  cases p with
  | true => exact ⟨fun _ => ⟨rfl, rfl⟩, fun hn => absurd (h.1 rfl) hn⟩
  | false => exact ⟨fun hr => absurd (h.2 hr) Bool.false_ne_true, fun _ => ⟨rfl, rfl⟩⟩

/-- Settles O22: each compare is `rel` of a test that decides its relation. -/
theorem compareResults : Obligations.CompareResults := by
  refine ⟨?cmpeq, ?cmpne, ?cmplt, ?cmple, ?cmpltn, ?cmplen⟩
  case cmpeq => exact binary_of_gen (r := cmpeqR) (fun _ _ _ _ _ _ _ => rfl) fun a b => rel_spec beq_iff_eq
  case cmpne => exact binary_of_gen (r := cmpneR) (fun _ _ _ _ _ _ _ => rfl) fun a b => rel_spec bne_iff_ne
  case cmplt => exact binary_of_gen (r := cmpltR) (fun _ _ _ _ _ _ _ => rfl) fun a b => rel_spec decide_eq_true_iff
  case cmple => exact binary_of_gen (r := cmpleR) (fun _ _ _ _ _ _ _ => rfl) fun a b => rel_spec decide_eq_true_iff
  case cmpltn => exact binary_of_gen (r := cmpltnR) (fun _ _ _ _ _ _ _ => rfl) fun a b => rel_spec decide_eq_true_iff
  case cmplen => exact binary_of_gen (r := cmplenR) (fun _ _ _ _ _ _ _ => rfl) fun a b => rel_spec decide_eq_true_iff

end Sys2Proof.Machine
end

section
/-! The obligation on the packed lanes (R5, R154): a lane of the result is the lane function of the same lanes of the operands. -/

namespace Sys2Proof.Machine

theorem lanes2_fld (f : BitVec 16 → BitVec 16 → BitVec 16) (a b : Word) {j : Nat} (hj : j < 2) :
    fld (lanes2 f a b).1 (16 * j) 16 = f (fld a (16 * j) 16) (fld b (16 * j) 16) := by
  have h0 := (f (fld a 0 16) (fld b 0 16)).isLt
  have h1 := (f (fld a 16 16) (fld b 16 16)).isLt
  apply BitVec.eq_of_toNat_eq
  rw [fld_toNat, fldN, lanes2, withNz, BitVec.toNat_ofNat]
  interval_cases j
  · simp only [Nat.mul_zero]; omega
  · simp only [Nat.mul_one]; omega

theorem lanes4_fld (f : BitVec 8 → BitVec 8 → BitVec 8) (a b : Word) {j : Nat} (hj : j < 4) :
    fld (lanes4 f a b).1 (8 * j) 8 = f (fld a (8 * j) 8) (fld b (8 * j) 8) := by
  have h0 := (f (fld a 0 8) (fld b 0 8)).isLt
  have h1 := (f (fld a 8 8) (fld b 8 8)).isLt
  have h2 := (f (fld a 16 8) (fld b 16 8)).isLt
  have h3 := (f (fld a 24 8) (fld b 24 8)).isLt
  apply BitVec.eq_of_toNat_eq
  rw [fld_toNat, fldN, lanes4, withNz, BitVec.toNat_ofNat]
  interval_cases j
  · simp only [Nat.mul_zero]; omega
  · simp only [Nat.mul_one]; omega
  · simp only [Nat.reduceMul]; omega
  · simp only [Nat.reduceMul]; omega

/-- R154: `g` relates each of `n` lanes of `m` bits of the result to the same lanes of the operands, and the flag is "nonzero". -/
def OnLanes (n m : Nat) (g : BitVec m → BitVec m → BitVec m → Prop) (a b v : Word) (f : Bool) : Prop :=
  (∀ j, j < n → g (fld a (m * j) m) (fld b (m * j) m) (fld v (m * j) m)) ∧ (f = true ↔ v ≠ 0)

/-- R154: a packed instruction completes with what its lane function gives in each lane. -/
theorem binary_of_lanes {c : BitVec 5 → BitVec 5 → BitVec 5 → BitVec 3 → BitVec 2 → BitVec 4 → Instr} {n m : Nat}
    {g : BitVec m → BitVec m → BitVec m → Prop} {f : BitVec m → BitVec m → BitVec m} {r : Word → Word → Word × Bool}
    (he : ∀ d a b i p t s, exec (c d a b i p t) s = s.gen (rq d (some a) (some b) i p 1)
      (fun x => ret2 d t (r x.a.data x.b.data)))
    (hn : ∀ a b, r a b = withNz (r a b).1)
    (hr : ∀ a b j, j < n → fld (r a b).1 (m * j) m = f (fld a (m * j) m) (fld b (m * j) m))
    (hf : ∀ x y, g x y (f x y)) : Binary c (OnLanes n m g) :=
  binary_of_nonzero he hn fun a b j hj => hr a b j hj ▸ hf _ _

theorem binary_of_lanes2 {c : BitVec 5 → BitVec 5 → BitVec 5 → BitVec 3 → BitVec 2 → BitVec 4 → Instr}
    {g : BitVec 16 → BitVec 16 → BitVec 16 → Prop} (f : BitVec 16 → BitVec 16 → BitVec 16)
    (he : ∀ d a b i p t s, exec (c d a b i p t) s = s.gen (rq d (some a) (some b) i p 1)
      (fun x => ret2 d t (lanes2 f x.a.data x.b.data)))
    (hf : ∀ x y, g x y (f x y)) : Binary c (OnLanes 2 16 g) :=
  binary_of_lanes he (fun _ _ => rfl) (fun a b _ => lanes2_fld f a b) hf

theorem binary_of_lanes4 {c : BitVec 5 → BitVec 5 → BitVec 5 → BitVec 3 → BitVec 2 → BitVec 4 → Instr}
    {g : BitVec 8 → BitVec 8 → BitVec 8 → Prop} (f : BitVec 8 → BitVec 8 → BitVec 8)
    (he : ∀ d a b i p t s, exec (c d a b i p t) s = s.gen (rq d (some a) (some b) i p 1)
      (fun x => ret2 d t (lanes4 f x.a.data x.b.data)))
    (hf : ∀ x y, g x y (f x y)) : Binary c (OnLanes 4 8 g) :=
  binary_of_lanes he (fun _ _ => rfl) (fun a b _ => lanes4_fld f a b) hf

/-! The lane functions. -/

theorem smax_toInt {n : Nat} (x y : BitVec n) : (smax x y).toInt = max x.toInt y.toInt := by
  unfold smax
  split
  · next h => exact (max_eq_right h.le).symm
  · next h => exact (max_eq_left (not_lt.1 h)).symm

theorem smin_toInt {n : Nat} (x y : BitVec n) : (smin x y).toInt = min x.toInt y.toInt := by
  unfold smin
  split
  · next h => exact (min_eq_right h.le).symm
  · next h => exact (min_eq_left (not_lt.1 h)).symm

/-- Settles O23: the four lane functions, in lanes of either width. -/
theorem packedLanes : Obligations.PackedLanes := by
  unfold Obligations.PackedLanes
  intro h q
  have hh : h = OnLanes 2 16 := rfl
  have hq : q = OnLanes 4 8 := rfl
  rw [hh, hq]
  refine ⟨?addh2, ?subh2, ?maxh2, ?minh2, ?addb4, ?subb4, ?maxb4, ?minb4⟩
  case addh2 => exact binary_of_lanes2 (· + ·) (fun _ _ _ _ _ _ _ => rfl) BitVec.toNat_add
  case subh2 => exact binary_of_lanes2 (· - ·) (fun _ _ _ _ _ _ _ => rfl) toNat_sub_emod
  case maxh2 => exact binary_of_lanes2 smax (fun _ _ _ _ _ _ _ => rfl) smax_toInt
  case minh2 => exact binary_of_lanes2 smin (fun _ _ _ _ _ _ _ => rfl) smin_toInt
  case addb4 => exact binary_of_lanes4 (· + ·) (fun _ _ _ _ _ _ _ => rfl) BitVec.toNat_add
  case subb4 => exact binary_of_lanes4 (· - ·) (fun _ _ _ _ _ _ _ => rfl) toNat_sub_emod
  case maxb4 => exact binary_of_lanes4 smax (fun _ _ _ _ _ _ _ => rfl) smax_toInt
  case minb4 => exact binary_of_lanes4 smin (fun _ _ _ _ _ _ _ => rfl) smin_toInt

end Sys2Proof.Machine
end

section
/-! The obligation on the dot products, LEA, the mixing functions and the divisions (R155 to R159). -/

namespace Sys2Proof.Machine

/-! The dot products (R155). -/

theorem dot4S_eq_sum (a b : Word) :
    dot4S a b = ((List.range 4).map (fun j => (fld a (8 * j) 8).toInt * (fld b (8 * j) 8).toInt)).sum := by
  simp [dot4S, List.range_succ, Int.add_assoc]

theorem dot4U_eq_sum (a b : Word) : dot4U a b = ((List.range 4).map (fun j => fldN a (8 * j) 8 * fldN b (8 * j) 8)).sum := by
  simp [dot4U, List.range_succ, Nat.add_assoc]

theorem dot4R_toNat (d a b : Word) : ((dot4R d a b).1.toNat : Int) = ((d.toNat : Int)
    + ((List.range 4).map (fun j => (fld a (8 * j) 8).toInt * (fld b (8 * j) 8).toInt)).sum) % 2 ^ 32 := by
  rw [← dot4S_eq_sum]
  exact Word.toNat_add_ofInt d _

theorem dot4nR_toNat (d a b : Word) : (dot4nR d a b).1.toNat = (d.toNat
    + ((List.range 4).map (fun j => fldN a (8 * j) 8 * fldN b (8 * j) 8)).sum) % 2 ^ 32 := by
  rw [← dot4U_eq_sum, dot4nR, withNz, BitVec.toNat_add, BitVec.toNat_ofNat, Nat.add_mod_mod]

/-! The mixing functions (R157, R158). -/

theorem Word.toNat_xor_shiftRight (x : Word) (k : Nat) : (x ^^^ (x >>> k)).toNat = x.toNat ^^^ (x.toNat / 2 ^ k) := by
  rw [BitVec.toNat_xor, BitVec.toNat_ushiftRight, Nat.shiftRight_eq_div_pow]

theorem Word.toNat_xor_shiftLeft (x : Word) (k : Nat) : (x ^^^ (x <<< k)).toNat = x.toNat ^^^ (x.toNat * 2 ^ k % 2 ^ 32) := by
  rw [BitVec.toNat_xor, BitVec.toNat_shiftLeft, Nat.shiftLeft_eq]

/-- The six steps of R157 on unsigned numbers. -/
theorem hash_toNat (key seed : Word) :
    let h1 := (key.toNat + seed.toNat * 0x9D2C5681) % 2 ^ 32
    let h2 := h1 ^^^ (h1 / 2 ^ 15)
    let h3 := h2 * 0x2C1B3C6D % 2 ^ 32
    let h4 := h3 ^^^ (h3 / 2 ^ 12)
    let h5 := h4 * 0x297A2D39 % 2 ^ 32
    (hash key seed).toNat = h5 ^^^ (h5 / 2 ^ 15) := by
  have hstart : (key + seed * 0x9D2C5681).toNat = (key.toNat + seed.toNat * 0x9D2C5681) % 2 ^ 32 := by
    rw [BitVec.toNat_add, BitVec.toNat_mul, Nat.add_mod_mod]
    rfl
  have hthird : ∀ x : Word, (x * 0x2C1B3C6D).toNat = x.toNat * 0x2C1B3C6D % 2 ^ 32 := fun x => BitVec.toNat_mul x _
  have hfifth : ∀ x : Word, (x * 0x297A2D39).toNat = x.toNat * 0x297A2D39 % 2 ^ 32 := fun x => BitVec.toNat_mul x _
  simp only [hash, Word.toNat_xor_shiftRight, hthird, hfifth, hstart]

/-- The three steps of R158 on unsigned numbers. -/
theorem xsh_toNat (a : Word) :
    let x1 := a.toNat ^^^ (a.toNat * 2 ^ 13 % 2 ^ 32)
    let x2 := x1 ^^^ (x1 / 2 ^ 17)
    (xsh a).toNat = x2 ^^^ (x2 * 2 ^ 5 % 2 ^ 32) := by
  simp only [xsh, Word.toNat_xor_shiftRight, Word.toNat_xor_shiftLeft]

/-! The divisions (R159). -/

theorem divnR_spec (a b : Word) : (b ≠ 0 → (divnR a b).1.toNat = a.toNat / b.toNat ∧ (divnR a b).2 = false)
    ∧ (b = 0 → (divnR a b).1 = 0xFFFFFFFF ∧ (divnR a b).2 = true) := by
  refine ⟨fun hb => ?_, fun hb => ?_⟩
  · have hlt : a.toNat / b.toNat < 2 ^ 32 := (Nat.div_le_self ..).trans_lt a.isLt
    simp only [divnR, if_neg hb, BitVec.toNat_ofNat, Nat.mod_eq_of_lt hlt, and_self]
  · simp only [divnR, if_pos hb, and_self]

theorem remnR_spec (a b : Word) :
    (b ≠ 0 → (remnR a b).1.toNat + b.toNat * (a.toNat / b.toNat) = a.toNat ∧ (remnR a b).2 = false)
      ∧ (b = 0 → (remnR a b).1 = a ∧ (remnR a b).2 = true) := by
  refine ⟨fun hb => ?_, fun hb => ?_⟩
  · have hlt : a.toNat % b.toNat < 2 ^ 32 := (Nat.mod_le ..).trans_lt a.isLt
    simp only [remnR, if_neg hb, BitVec.toNat_ofNat, Nat.mod_eq_of_lt hlt, Nat.mod_add_div, and_self]
  · simp only [remnR, if_pos hb, and_self]

/-- Settles O24: exact sums reduced once, the steps of the mixing functions, and the two cases of a division. LEA is stated in both
places it may run. -/
theorem dotLeaHashDivide : Obligations.DotLeaHashDivide := by
  refine ⟨?dot4, ?dot4n, ?lea, ?hash, ?xsh, ?divn, ?remn⟩
  case dot4 => exact binaryE_of_nonzero (r := dot4R) (fun _ _ _ _ _ _ _ => rfl) (fun _ _ _ => rfl) dot4R_toNat
  case dot4n => exact binaryE_of_nonzero (r := dot4nR) (fun _ _ _ _ _ _ _ => rfl) (fun _ _ _ => rfl) dot4nR_toNat
  case lea =>
    exact fun d a b i p z => completes_inBoth_of_gen (r := fun x => leaR x.a.data x.b.data z) (fun _ => rfl)
      (fun x => BitVec.toNat_ofNat ..) (fun x => decide_eq_true_iff)
  case hash =>
    exact binary_of_nonzero (r := fun a b => withNz (hash a b)) (fun _ _ _ _ _ _ _ => rfl) (fun _ _ => rfl) hash_toNat
  case xsh => exact unary_of_nonzero (r := fun a => withNz (xsh a)) (fun _ _ _ _ _ _ => rfl) (fun _ => rfl) xsh_toNat
  case divn => exact binary_of_gen (r := divnR) (fun _ _ _ _ _ _ _ => rfl) divnR_spec
  case remn => exact binary_of_gen (r := remnR) (fun _ _ _ _ _ _ _ => rfl) remnR_spec

end Sys2Proof.Machine
end

section
/-! How many bits a magnitude has, and a magnitude on a grid (R38, R39): what `onGrid` counts, in exact integers and in exact
rationals. -/

namespace Sys2Proof.Machine
open Sys2Proof.Laws

/-! Bits of a magnitude. -/

@[simp] theorem bits_zero : bits 0 = 0 := rfl

theorem bits_eq_size (m : Nat) : bits m = Nat.size m := by
  unfold bits
  split
  · next h => rw [h, Nat.size_zero]
  · next h =>
    refine le_antisymm (Nat.lt_size.2 (Nat.log2_self_le h)) (Nat.size_le.2 Nat.lt_log2_self)

theorem lt_pow_bits (m : Nat) : m < 2 ^ bits m := bits_eq_size m ▸ Nat.lt_size_self m

theorem bits_le {m n : Nat} : bits m ≤ n ↔ m < 2 ^ n := by rw [bits_eq_size, Nat.size_le]

theorem lt_bits {m n : Nat} : n < bits m ↔ 2 ^ n ≤ m := by rw [bits_eq_size, Nat.lt_size]

theorem bits_pos {m : Nat} : 0 < bits m ↔ m ≠ 0 := by rw [lt_bits, pow_zero, Nat.one_le_iff_ne_zero]

theorem pow_bits_pred_le {m : Nat} (h : m ≠ 0) : 2 ^ (bits m - 1) ≤ m :=
  lt_bits.1 (Nat.sub_lt (bits_pos.2 h) Nat.one_pos)

theorem bits_eq {m n : Nat} (hlo : 2 ^ n ≤ m) (hhi : m < 2 ^ (n + 1)) : bits m = n + 1 :=
  le_antisymm (bits_le.2 hhi) (lt_bits.2 hlo)

@[simp] theorem bits_two_pow (n : Nat) : bits (2 ^ n) = n + 1 := bits_eq le_rfl (Nat.pow_lt_pow_succ Nat.one_lt_two)

/-! A magnitude on a grid no finer than needed, and on a coarser one. -/

theorem onGrid_of_le {r : Bool} {m : Nat} {e g : Int} (h : g ≤ e) : onGrid r m e g = (m * 2 ^ (e - g).toNat, true) := if_pos h

/-- The same magnitude with a factor moved between the number and its exponent. -/
theorem onGrid_shift (r : Bool) (m j : Nat) (e g : Int) : onGrid r (m * 2 ^ j) e g = onGrid r m (e + j) g := by
  by_cases h : g ≤ e
  · rw [onGrid_of_le h, onGrid_of_le (by omega), mul_assoc, ← pow_add,
      show (e + j - g).toNat = j + (e - g).toNat by omega]
  by_cases h' : g ≤ e + j
  · obtain ⟨c, hc⟩ : ∃ c, j = (g - e).toNat + c := ⟨j - (g - e).toNat, by omega⟩
    rw [onGrid_of_le h', onGrid, if_neg h, hc, pow_add, mul_left_comm]
    have hpos : 0 < 2 ^ (g - e).toNat := Nat.two_pow_pos _
    simp only [Nat.mul_div_cancel_left _ hpos, Nat.mul_mod_right, Nat.mul_zero, Nat.not_lt_zero, hpos.ne, decide_false,
      Bool.false_and, Bool.or_self, Bool.and_false, Bool.false_eq_true, if_false, decide_true, Prod.mk.injEq, and_true]
    congr 2
    omega
  · have hsh : (g - e).toNat = j + (g - (e + j)).toNat := by omega
    have hpos : 0 < 2 ^ j := Nat.two_pow_pos _
    have htwo : ∀ x, 2 * (2 ^ j * x) = 2 ^ j * (2 * x) := fun x => by ring
    simp only [onGrid, if_neg h, if_neg h', hsh, mul_comm m, pow_add, Nat.mul_div_mul_left _ _ hpos, Nat.mul_mod_mul_left, htwo,
      Nat.mul_lt_mul_left hpos, Nat.mul_right_inj hpos.ne', mul_eq_zero, hpos.ne', false_or]

section
variable {m : Nat} {e g : Int} (h : e < g)
include h

theorem onGrid_cut : (onGrid false m e g).1 = m / 2 ^ (g - e).toNat := by
  simp [onGrid, not_le.2 h]

theorem onGrid_exact_iff_mod (r : Bool) : (onGrid r m e g).2 = true ↔ m % 2 ^ (g - e).toNat = 0 := by
  simp [onGrid, not_le.2 h]

/-- R38: nearest, in units of half a grid step, and even on a tie. -/
theorem onGrid_nearest :
    2 * m ≤ (2 * (onGrid true m e g).1 + 1) * 2 ^ (g - e).toNat
      ∧ 2 * (onGrid true m e g).1 * 2 ^ (g - e).toNat ≤ 2 * m + 2 ^ (g - e).toNat
      ∧ (2 * m = (2 * (onGrid true m e g).1 + 1) * 2 ^ (g - e).toNat
          ∨ 2 * (onGrid true m e g).1 * 2 ^ (g - e).toNat = 2 * m + 2 ^ (g - e).toNat → (onGrid true m e g).1 % 2 = 0) := by
  simp only [onGrid, if_neg (not_le.2 h), Bool.true_and, Bool.or_eq_true, Bool.and_eq_true, decide_eq_true_eq]
  generalize (g - e).toNat = sh
  have hmod := Nat.mod_lt m (Nat.two_pow_pos sh)
  have hdiv := Nat.div_add_mod m (2 ^ sh)
  generalize m / 2 ^ sh = k at *
  generalize m % 2 ^ sh = r at *
  generalize 2 ^ sh = D at *
  subst hdiv
  have hk : ∀ c : Nat, (2 * k + c) * D = 2 * (D * k) + c * D := fun c => by ring
  split
  · next hup =>
    rw [show 2 * (k + 1) + 1 = 2 * k + 3 by ring, show 2 * (k + 1) = 2 * k + 2 by ring, hk, hk]
    refine ⟨by omega, by omega, fun htie => ?_⟩
    rcases hup with hlt | ⟨_, hodd⟩ <;> omega
  · next hup =>
    simp only [not_or, not_and, not_lt] at hup
    have h0 := hk 0
    rw [Nat.add_zero] at h0
    rw [hk, h0]
    refine ⟨by omega, by omega, fun htie => ?_⟩
    have := hup.2
    omega

end

theorem onGrid_exact_same (r r' : Bool) (m : Nat) (e g : Int) : (onGrid r m e g).2 = (onGrid r' m e g).2 := by
  by_cases h : g ≤ e
  · rw [onGrid_of_le h, onGrid_of_le h]
  · rw [Bool.eq_iff_iff, onGrid_exact_iff_mod (by omega), onGrid_exact_iff_mod (by omega)]

/-- A grid count is the quotient or one more, and the quotient itself where that is exact. -/
theorem onGrid_count {m : Nat} {e g : Int} (h : e < g) (r : Bool) :
    (onGrid r m e g).1 = m / 2 ^ (g - e).toNat
      ∨ (onGrid r m e g).1 = m / 2 ^ (g - e).toNat + 1 ∧ m % 2 ^ (g - e).toNat ≠ 0 := by
  simp only [onGrid, if_neg (not_le.2 h)]
  split
  · next hup =>
    refine .inr ⟨rfl, fun h0 => ?_⟩
    have := Nat.two_pow_pos (g - e).toNat
    simp only [h0, Bool.and_eq_true, Bool.or_eq_true, decide_eq_true_eq] at hup
    omega
  · exact .inl rfl

/-- A power of two with an integer exponent, as a natural power. -/
theorem two_zpow_toNat {x : Int} (h : 0 ≤ x) : (2 : Rat) ^ x = ((2 ^ x.toNat : Nat) : Rat) := by
  obtain ⟨n, rfl⟩ := Int.eq_ofNat_of_zero_le h
  simp

theorem two_zpow_pos (x : Int) : (0 : Rat) < (2 : Rat) ^ x := zpow_pos two_pos x

/-- A magnitude in units of a grid. -/
theorem onGrid_scale {e g : Int} (h : e ≤ g) : (2 : Rat) ^ g = ((2 ^ (g - e).toNat : Nat) : Rat) * (2 : Rat) ^ e := by
  rw [← two_zpow_toNat (by omega), ← zpow_add₀ two_ne_zero, sub_add_cancel]

/-- R163: the count is exact where the grid value is the magnitude. -/
theorem onGrid_exact_iff (r : Bool) (m : Nat) (e g : Int) :
    (onGrid r m e g).2 = true ↔ ((onGrid r m e g).1 : Rat) * (2 : Rat) ^ g = (m : Rat) * (2 : Rat) ^ e := by
  by_cases h : g ≤ e
  · rw [onGrid_of_le h, onGrid_scale h]
    push_cast
    exact iff_of_true rfl (by ring)
  · have hlt : e < g := by omega
    have hdiv := Nat.div_add_mod m (2 ^ (g - e).toNat)
    have hmod := Nat.mod_lt m (Nat.two_pow_pos (g - e).toNat)
    rw [onGrid_exact_iff_mod hlt, onGrid_scale hlt.le, ← mul_assoc, mul_left_inj' (two_zpow_pos e).ne']
    norm_cast
    rcases onGrid_count hlt r with hk | ⟨hk, hne⟩
    · rw [hk, mul_comm]
      omega
    · rw [hk, mul_comm, Nat.mul_add, Nat.mul_one]
      omega

end Sys2Proof.Machine
end

section
/-! Codes and values of the formats (R32 to R35): the parts of a code, and the value that they give. -/

namespace Sys2Proof.Machine

/-- The code of a sign, an exponent field and a mantissa field. -/
def Fmt.pack (f : Fmt) (neg : Bool) (E M : Nat) : Nat := (if neg then f.signBit else 0) + (E * 2 ^ f.mb + M)

/-- The value of the parts of a code (R33). -/
def Fmt.valueOf (f : Fmt) (neg : Bool) (E M : Nat) : FV :=
  if f.ieee = true ∧ E = 2 ^ f.eb - 1 then (if M = 0 then .inf neg else .nan)
  else if f.nan ≠ 0 ∧ f.ieee = false ∧ E * 2 ^ f.mb + M = f.nan then .nan
  else if E = 0 then .fin neg M (1 - f.bias - f.mb)
  else .fin neg (2 ^ f.mb + M) ((E : Int) - f.bias - f.mb)

theorem Fmt.signBit_eq (f : Fmt) : f.signBit = 2 ^ f.eb * 2 ^ f.mb := pow_add ..

theorem Fmt.body_lt {f : Fmt} {E M : Nat} (hE : E < 2 ^ f.eb) (hM : M < 2 ^ f.mb) : E * 2 ^ f.mb + M < f.signBit := by
  rw [f.signBit_eq]
  calc E * 2 ^ f.mb + M < (E + 1) * 2 ^ f.mb := by rw [Nat.add_mul]; omega
    _ ≤ 2 ^ f.eb * 2 ^ f.mb := Nat.mul_le_mul_right _ hE

theorem Fmt.pack_lt {f : Fmt} (neg : Bool) {E M : Nat} (hE : E < 2 ^ f.eb) (hM : M < 2 ^ f.mb) : f.pack neg E M < 2 * f.signBit := by
  have := Fmt.body_lt hE hM
  unfold Fmt.pack
  split <;> omega

/-- R33: the value of a code from its own fields. -/
theorem Fmt.value_eq_valueOf (f : Fmt) (c : Nat) :
    f.value c = f.valueOf (decide (c / f.signBit % 2 = 1)) (c / 2 ^ f.mb % 2 ^ f.eb) (c % 2 ^ f.mb) := by
  have hbody : c % f.signBit = c / 2 ^ f.mb % 2 ^ f.eb * 2 ^ f.mb + c % 2 ^ f.mb := by
    rw [f.signBit_eq, Nat.mul_comm (2 ^ f.eb), Nat.mod_mul, Nat.add_comm, Nat.mul_comm (2 ^ f.mb)]
  simp only [Fmt.value, Fmt.valueOf, hbody, Bool.not_eq_true']

theorem Fmt.value_pack {f : Fmt} (neg : Bool) {E M : Nat} (hE : E < 2 ^ f.eb) (hM : M < 2 ^ f.mb) :
    f.value (f.pack neg E M) = f.valueOf neg E M := by
  have hbody := Fmt.body_lt hE hM
  have hS : 0 < f.signBit := Nat.two_pow_pos _
  have hpos : 0 < 2 ^ f.mb := Nat.two_pow_pos _
  have hlow : f.pack neg E M = (if neg then f.signBit else 0) + (E * 2 ^ f.mb + M) := rfl
  have hneg : decide (f.pack neg E M / f.signBit % 2 = 1) = neg := by
    cases neg
    · simp [hlow, Nat.div_eq_of_lt hbody]
    · simp [hlow, Nat.add_div_left _ hS, Nat.div_eq_of_lt hbody]
  have hexp : f.pack neg E M / 2 ^ f.mb % 2 ^ f.eb = E := by
    have : f.pack neg E M / 2 ^ f.mb = (if neg then 2 ^ f.eb else 0) + E := by
      rw [hlow, f.signBit_eq]
      cases neg
      · simp [Nat.mul_comm E, Nat.mul_add_div hpos, Nat.div_eq_of_lt hM]
      · rw [if_pos rfl, if_pos rfl, ← Nat.add_assoc, ← Nat.add_mul, Nat.mul_comm, Nat.mul_add_div hpos, Nat.div_eq_of_lt hM,
          Nat.add_zero]
    rw [this]
    cases neg
    · simp [Nat.mod_eq_of_lt hE]
    · simp [Nat.mod_eq_of_lt hE]
  have hman : f.pack neg E M % 2 ^ f.mb = M := by
    rw [hlow, f.signBit_eq]
    cases neg
    · simp [Nat.mul_comm E, Nat.mod_eq_of_lt hM]
    · rw [if_pos rfl, ← Nat.add_assoc, ← Nat.add_mul, Nat.mul_comm, Nat.mul_add_mod, Nat.mod_eq_of_lt hM]
  rw [Fmt.value_eq_valueOf, hneg, hexp, hman]

theorem Fmt.valueOf_eq_nan {f : Fmt} {neg : Bool} {E M : Nat} : f.valueOf neg E M = .nan ↔
    (f.ieee = true ∧ E = 2 ^ f.eb - 1 ∧ M ≠ 0) ∨ (f.ieee = false ∧ f.nan ≠ 0 ∧ E * 2 ^ f.mb + M = f.nan) := by
  unfold Fmt.valueOf
  split
  · next h => split <;> simp_all
  · next h =>
    split
    · next h' => simp_all
    · next h' => split <;> simp_all

theorem Fmt.valueOf_eq_inf {f : Fmt} {neg s : Bool} {E M : Nat} : f.valueOf neg E M = .inf s ↔
    f.ieee = true ∧ E = 2 ^ f.eb - 1 ∧ M = 0 ∧ neg = s := by
  unfold Fmt.valueOf
  split
  · next h => split <;> simp_all
  · next h =>
    split
    · next h' => simp_all
    · next h' => split <;> simp_all

/-- The parts of a finite code, and its value. -/
theorem Fmt.valueOf_eq_fin {f : Fmt} {neg s : Bool} {E M m : Nat} {e : Int} (h : f.valueOf neg E M = .fin s m e) :
    s = neg ∧ (E = 0 ∧ m = M ∧ e = 1 - f.bias - f.mb ∨ E ≠ 0 ∧ m = 2 ^ f.mb + M ∧ e = (E : Int) - f.bias - f.mb)
      ∧ (f.ieee = true → E ≠ 2 ^ f.eb - 1) := by
  unfold Fmt.valueOf at h
  split at h
  · split at h <;> simp at h
  next hi =>
    split at h
    · simp at h
    split at h
    · next hE => simp_all
    · next hE => simp_all

/-- The opposite sign bit gives the opposite value. -/
theorem Fmt.valueOf_neg (f : Fmt) (neg : Bool) (E M : Nat) : f.valueOf (!neg) E M = (f.valueOf neg E M).neg := by
  unfold Fmt.valueOf
  split
  · split <;> rfl
  split
  · rfl
  split <;> rfl

end Sys2Proof.Machine
end

section
/-! The formats (R32): what the constants of a format have to do with each other. -/

namespace Sys2Proof.Machine

/-- R32, R33: the constants of a format agree: the largest finite code is that of the largest exponent and significand, every smaller
code is finite, and there is room for more than one binade. -/
structure Fmt.Regular (f : Fmt) : Prop where
  sig_ge : 2 ^ f.mb ≤ f.maxSig
  sig_lt : f.maxSig < 2 ^ (f.mb + 1)
  wide : 2 - f.bias ≤ f.emax
  fits : f.emax + f.bias < 2 ^ f.eb
  ieee_top : f.ieee = true → f.emax + f.bias + 1 < 2 ^ f.eb
  maxCode_eq : f.maxCode = (f.emax + f.bias).toNat * 2 ^ f.mb + (f.maxSig - 2 ^ f.mb)
  above : f.ieee = false → f.nan ≠ 0 → f.maxCode < f.nan
  nan_lt : f.nan < f.signBit

theorem regular_of_mem {f : Fmt} (h : f ∈ [fp32, fp16, bf16, e5m2, e4m3, e2m1]) : f.Regular := by
  simp only [List.mem_cons, List.not_mem_nil, or_false] at h
  rcases h with rfl | rfl | rfl | rfl | rfl | rfl <;> constructor <;> decide

theorem fp32_regular : fp32.Regular := regular_of_mem (by simp)
theorem fp16_regular : fp16.Regular := regular_of_mem (by simp)
theorem bf16_regular : bf16.Regular := regular_of_mem (by simp)
theorem e5m2_regular : e5m2.Regular := regular_of_mem (by simp)
theorem e4m3_regular : e4m3.Regular := regular_of_mem (by simp)
theorem e2m1_regular : e2m1.Regular := regular_of_mem (by simp)

section
variable {f : Fmt} (hf : f.Regular)
include hf

/-- R33: a code up to the largest finite one has a finite value. -/
theorem Fmt.Regular.valueOf_fin {E M : Nat} (neg : Bool) (hE : (E : Int) ≤ f.emax + f.bias)
    (hM : (E : Int) = f.emax + f.bias → 2 ^ f.mb + M ≤ f.maxSig) (hlt : M < 2 ^ f.mb) :
    f.valueOf neg E M = if E = 0 then .fin neg M (1 - f.bias - f.mb) else .fin neg (2 ^ f.mb + M) ((E : Int) - f.bias - f.mb) := by
  have hcode : E * 2 ^ f.mb + M ≤ f.maxCode := by
    rw [hf.maxCode_eq]
    have hsig := hf.sig_ge
    rcases hE.lt_or_eq with h | h
    · have hstep : E + 1 ≤ (f.emax + f.bias).toNat := by omega
      have := Nat.mul_le_mul_right (2 ^ f.mb) hstep
      rw [Nat.add_mul] at this
      omega
    · have := hM h
      rw [show E = (f.emax + f.bias).toNat by omega]
      omega
  unfold Fmt.valueOf
  rw [if_neg, if_neg]
  · rintro ⟨hn, hi, heq⟩
    have := hf.above hi hn
    omega
  · rintro ⟨hi, rfl⟩
    have := hf.ieee_top hi
    have : (1 : Int) ≤ 2 ^ f.eb := one_le_pow₀ (by norm_num)
    push_cast [Nat.one_le_two_pow] at hE
    omega

theorem Fmt.Regular.lt_pow_eb {E : Nat} (hE : (E : Int) ≤ f.emax + f.bias) : E < 2 ^ f.eb := by
  have := hf.fits
  zify
  omega

end

end Sys2Proof.Machine
end

section
/-! The one rounding (R38, R39, R41): the grid count of a magnitude, when it overflows, and the code and value that it is delivered
as. -/

namespace Sys2Proof.Machine

/-- The number of grid units that a magnitude is rounded to; `z` cuts. -/
def Fmt.units (f : Fmt) (z : Bool) (m : Nat) (e : Int) : Nat := (onGrid (!z) m e (f.grid m e)).1

/-- Whether the rounding of a magnitude is exact. -/
def Fmt.exact (f : Fmt) (m : Nat) (e : Int) : Bool := (onGrid true m e (f.grid m e)).2

/-- The significand of `k` units, with its leading bit at `mb`. -/
def Fmt.sigOf (f : Fmt) (k : Nat) : Nat :=
  if bits k ≤ f.mb + 1 then k * 2 ^ (f.mb + 1 - bits k) else k / 2 ^ (bits k - f.mb - 1)

/-- R41: `k` units of `2 ^ g` are above the largest finite value. -/
def Fmt.Overflows (f : Fmt) (k : Nat) (g : Int) : Prop :=
  f.emax < g + bits k - 1 ∨ (g + bits k - 1 = f.emax ∧ f.maxSig < f.sigOf k)

/-- The code of `k` units of `2 ^ g`. -/
def Fmt.finCode (f : Fmt) (neg : Bool) (k : Nat) (g : Int) : Nat :=
  if g + bits k - 1 < 1 - f.bias then f.pack neg 0 k
  else f.pack neg (g + bits k - 1 + f.bias).toNat (f.sigOf k - 2 ^ f.mb)

/-- `k` units of `2 ^ g` as a rounding leaves them: no more than a significand, and no less except on the finest grid. -/
structure Fmt.Fits (f : Fmt) (k : Nat) (g : Int) : Prop where
  le : k ≤ 2 ^ (f.mb + 1)
  finest : 1 - f.bias - f.mb ≤ g
  full : g = 1 - f.bias - f.mb ∨ 2 ^ f.mb ≤ k

/-! The cases of a rounding. -/

section
variable {f : Fmt} (z sat neg : Bool) {m : Nat} {e : Int}

theorem Fmt.round_zero : f.round z sat neg 0 e = { code := f.pack neg 0 0 } := by simp [Fmt.round, Fmt.pack]

theorem Fmt.exact_eq (f : Fmt) (m : Nat) (e : Int) : (onGrid (!z) m e (f.grid m e)).2 = f.exact m e := onGrid_exact_same ..

variable (hm : m ≠ 0)
include hm

theorem Fmt.round_flush (h : f.units z m e = 0) :
    f.round z sat neg m e = { code := f.pack neg 0 0, x := true, inc := { flush := 1 } } := by
  have h' : (onGrid (!z) m e (f.grid m e)).1 = 0 := h
  simp [Fmt.round, hm, h', Fmt.pack]

theorem Fmt.round_overflow (h : f.units z m e ≠ 0) (ho : f.Overflows (f.units z m e) (f.grid m e)) :
    f.round z sat neg m e = if sat then { code := (if neg then f.signBit else 0) + f.maxCode, x := true, inc := { sat := 1 } }
      else { code := f.pack neg (2 ^ f.eb - 1) 0, x := true, inc := { inf := 1 } } := by
  have h' : (onGrid (!z) m e (f.grid m e)).1 ≠ 0 := h
  have ho' : f.Overflows (onGrid (!z) m e (f.grid m e)).1 (f.grid m e) := ho
  unfold Fmt.Overflows Fmt.sigOf at ho'
  simp only [Fmt.round, if_neg hm, if_neg h', if_pos ho', Fmt.pack, Nat.add_zero]

theorem Fmt.round_finite (h : f.units z m e ≠ 0) (ho : ¬ f.Overflows (f.units z m e) (f.grid m e)) :
    f.round z sat neg m e = { code := f.finCode neg (f.units z m e) (f.grid m e), x := !f.exact m e } := by
  have h' : (onGrid (!z) m e (f.grid m e)).1 ≠ 0 := h
  have ho' : ¬ f.Overflows (onGrid (!z) m e (f.grid m e)).1 (f.grid m e) := ho
  unfold Fmt.Overflows Fmt.sigOf at ho'
  simp only [Fmt.round, if_neg hm, if_neg h', if_neg ho', Fmt.exact_eq, Fmt.finCode, Fmt.pack, Fmt.units, Fmt.sigOf, Nat.zero_mul,
    Nat.zero_add, Nat.add_assoc]
  split <;> rfl

end

/-- A rounding does not see how a magnitude is split into a number and a power of two. -/
theorem Fmt.round_shift (f : Fmt) (z sat neg : Bool) {m : Nat} (hm : m ≠ 0) (j : Nat) (e : Int) :
    f.round z sat neg (m * 2 ^ j) e = f.round z sat neg m (e + j) := by
  have hg : f.grid (m * 2 ^ j) e = f.grid m (e + j) := by
    unfold Fmt.grid
    rw [Laws.bits_shift (by omega)]
    congr 1
    push_cast
    ring
  have hmj : m * 2 ^ j ≠ 0 := by positivity
  simp only [Fmt.round, if_neg hm, if_neg hmj, hg, onGrid_shift]

/-! The count of a magnitude on its grid. -/

theorem Fmt.units_exact_iff (f : Fmt) (z : Bool) (m : Nat) (e : Int) :
    f.exact m e = true ↔ (f.units z m e : Rat) * (2 : Rat) ^ f.grid m e = (m : Rat) * (2 : Rat) ^ e := by
  rw [← f.exact_eq z, Fmt.units, onGrid_exact_iff]

theorem Fmt.grid_of_above {f : Fmt} {m : Nat} {e : Int} (h : 1 - f.bias - f.mb ≤ e + bits m - 1 - f.mb) :
    f.grid m e = e + bits m - 1 - f.mb := max_eq_left h

theorem Fmt.grid_of_below {f : Fmt} {m : Nat} {e : Int} (h : e + bits m - 1 - f.mb ≤ 1 - f.bias - f.mb) :
    f.grid m e = 1 - f.bias - f.mb := max_eq_right h

theorem Fmt.le_grid (f : Fmt) (m : Nat) (e : Int) : 1 - f.bias - f.mb ≤ f.grid m e := le_max_right ..

theorem Fmt.top_le_grid (f : Fmt) (m : Nat) (e : Int) : e + bits m - 1 - f.mb ≤ f.grid m e := le_max_left ..

/-- A quotient of a magnitude by a grid step has as many bits fewer. -/
theorem Fmt.div_grid_lt (f : Fmt) {m : Nat} {e : Int} (h : e < f.grid m e) : m / 2 ^ (f.grid m e - e).toNat < 2 ^ (f.mb + 1) := by
  refine Nat.div_lt_of_lt_mul ((lt_pow_bits m).trans_le ?_)
  rw [← pow_add]
  have := f.top_le_grid m e
  exact Nat.pow_le_pow_right (by decide) (by omega)

theorem Fmt.fits_units (f : Fmt) (z : Bool) {m : Nat} (hm : m ≠ 0) (e : Int) : f.Fits (f.units z m e) (f.grid m e) where
  le := by
    unfold Fmt.units
    by_cases h : f.grid m e ≤ e
    · rw [onGrid_of_le h]
      have hb := lt_pow_bits m
      have := f.top_le_grid m e
      calc m * 2 ^ (e - f.grid m e).toNat ≤ 2 ^ bits m * 2 ^ (e - f.grid m e).toNat := Nat.mul_le_mul_right _ hb.le
        _ = 2 ^ (bits m + (e - f.grid m e).toNat) := (pow_add ..).symm
        _ ≤ 2 ^ (f.mb + 1) := Nat.pow_le_pow_right (by decide) (by omega)
    · have := f.div_grid_lt (m := m) (e := e) (by omega)
      rcases onGrid_count (m := m) (e := e) (g := f.grid m e) (by omega) (!z) with hk | ⟨hk, _⟩ <;> omega
  finest := f.le_grid m e
  full := by
    by_cases htop : e + bits m - 1 - f.mb ≤ 1 - f.bias - f.mb
    · exact .inl (Fmt.grid_of_below htop)
    refine .inr ?_
    have hg : f.grid m e = e + bits m - 1 - f.mb := Fmt.grid_of_above (by omega)
    have hlow := pow_bits_pred_le hm
    unfold Fmt.units
    by_cases h : f.grid m e ≤ e
    · rw [onGrid_of_le h]
      calc 2 ^ f.mb = 2 ^ (bits m - 1) * 2 ^ (e - f.grid m e).toNat := by
            have := bits_pos.2 hm
            rw [← pow_add]
            congr 1
            omega
        _ ≤ m * 2 ^ (e - f.grid m e).toNat := Nat.mul_le_mul_right _ hlow
    · have hq : 2 ^ f.mb ≤ m / 2 ^ (f.grid m e - e).toNat := by
        rw [Nat.le_div_iff_mul_le (Nat.two_pow_pos _), ← pow_add]
        exact (Nat.pow_le_pow_right (by decide) (by omega)).trans hlow
      rcases onGrid_count (m := m) (e := e) (g := f.grid m e) (by omega) (!z) with hk | ⟨hk, _⟩ <;> omega

/-! The significand and the code of a count. -/

/-- The finest grid holds a count below the least normal number as it stands. -/
theorem Fmt.Fits.subnormal {f : Fmt} {k : Nat} {g : Int} (h : f.Fits k g) (hlow : g + bits k - 1 < 1 - f.bias) :
    g = 1 - f.bias - f.mb ∧ k < 2 ^ f.mb := by
  have hfine := h.finest
  have hsub : k < 2 ^ f.mb := bits_le.1 (by omega)
  refine ⟨h.full.resolve_right (not_le.2 hsub), hsub⟩

theorem Fmt.Fits.value_subnormal {f : Fmt} {k : Nat} {g : Int} (h : f.Fits k g) (hf : f.Regular) (neg : Bool)
    (hlow : g + bits k - 1 < 1 - f.bias) : f.value (f.finCode neg k g) = .fin neg k g := by
  obtain ⟨hg, hsub⟩ := h.subnormal hlow
  have hwide := hf.wide
  unfold Fmt.finCode
  rw [if_pos hlow, Fmt.value_pack neg (Nat.two_pow_pos _) hsub,
    hf.valueOf_fin neg (by push_cast; omega) (fun heq => by push_cast at heq; omega) hsub, if_pos rfl, hg]

section
variable {f : Fmt} {k : Nat} {g : Int} (hk : k ≠ 0) (h : f.Fits k g)
include hk h

/-- The leading bit of a count is that of its significand. -/
theorem Fmt.Fits.sigOf_spec : 2 ^ f.mb ≤ f.sigOf k ∧ f.sigOf k < 2 ^ (f.mb + 1)
    ∧ (f.sigOf k : Rat) * (2 : Rat) ^ (g + bits k - 1 - f.mb) = (k : Rat) * (2 : Rat) ^ g := by
  have hb := bits_pos.2 hk
  unfold Fmt.sigOf
  split
  · next hle =>
    refine ⟨?_, ?_, ?_⟩
    · calc 2 ^ f.mb = 2 ^ (bits k - 1) * 2 ^ (f.mb + 1 - bits k) := by rw [← pow_add]; congr 1; omega
        _ ≤ _ := Nat.mul_le_mul_right _ (pow_bits_pred_le hk)
    · calc k * 2 ^ (f.mb + 1 - bits k) < 2 ^ bits k * 2 ^ (f.mb + 1 - bits k) :=
            Nat.mul_lt_mul_of_pos_right (lt_pow_bits k) (Nat.two_pow_pos _)
        _ = 2 ^ (f.mb + 1) := by rw [← pow_add]; congr 1; omega
    · have hpow : (2 : Rat) ^ g = (2 : Rat) ^ (f.mb + 1 - bits k) * (2 : Rat) ^ (g + bits k - 1 - f.mb) := by
        rw [← zpow_natCast, ← zpow_add₀ two_ne_zero]
        congr 1
        omega
      rw [hpow]
      push_cast
      ring
  · next hgt =>
    have hk' : k = 2 ^ (f.mb + 1) := le_antisymm h.le (lt_bits.1 (by omega))
    subst hk'
    rw [bits_two_pow, show f.mb + 1 + 1 - f.mb - 1 = 1 by omega, pow_one, pow_succ, Nat.mul_div_cancel _ two_pos]
    refine ⟨le_rfl, ?_, ?_⟩
    · have := Nat.two_pow_pos f.mb; omega
    · have hpow : (2 : Rat) ^ (g + ((f.mb + 1 + 1 : Nat) : Int) - 1 - f.mb) = 2 * (2 : Rat) ^ g := by
        rw [← zpow_one_add₀ two_ne_zero]
        congr 1
        push_cast
        ring
      rw [hpow]
      push_cast
      ring

theorem Fmt.Fits.sigOf_sub_lt : f.sigOf k - 2 ^ f.mb < 2 ^ f.mb := by
  obtain ⟨hlo, hhi, _⟩ := h.sigOf_spec hk
  rw [pow_succ] at hhi
  omega

variable (hf : f.Regular) (ho : ¬ f.Overflows k g)
include hf ho

theorem Fmt.Fits.value_normal (neg : Bool) (hnormal : 1 - f.bias ≤ g + bits k - 1) :
    f.value (f.finCode neg k g) = .fin neg (f.sigOf k) (g + bits k - 1 - f.mb) := by
  obtain ⟨hlo, hhi, _⟩ := h.sigOf_spec hk
  simp only [Fmt.Overflows, not_or, not_and, not_lt] at ho
  obtain ⟨htop, hsig⟩ := ho
  have hE : ((g + bits k - 1 + f.bias).toNat : Int) ≤ f.emax + f.bias := by omega
  have hM := h.sigOf_sub_lt hk
  unfold Fmt.finCode
  rw [if_neg (not_lt.2 hnormal), Fmt.value_pack neg (hf.lt_pow_eb hE) hM,
    hf.valueOf_fin neg hE (fun heq => by have := hsig (by omega); omega) hM, if_neg (by omega)]
  congr 1
  · omega
  · omega

/-- The code of a count that does not overflow has the count's value. -/
theorem Fmt.Fits.value_finCode (neg : Bool) : ∃ m' e', f.value (f.finCode neg k g) = .fin neg m' e'
    ∧ (m' : Rat) * (2 : Rat) ^ e' = (k : Rat) * (2 : Rat) ^ g := by
  obtain ⟨_, _, hval⟩ := h.sigOf_spec hk
  by_cases hlow : g + bits k - 1 < 1 - f.bias
  · exact ⟨_, _, h.value_subnormal hf neg hlow, rfl⟩
  · exact ⟨_, _, h.value_normal hk hf ho neg (not_lt.1 hlow), hval⟩

theorem Fmt.Fits.finCode_lt (neg : Bool) : f.finCode neg k g < 2 * f.signBit := by
  simp only [Fmt.Overflows, not_or, not_and, not_lt] at ho
  unfold Fmt.finCode
  split
  · next hlow => exact Fmt.pack_lt neg (Nat.two_pow_pos _) (h.subnormal hlow).2
  · next hlow =>
    refine Fmt.pack_lt neg (hf.lt_pow_eb ?_) (h.sigOf_sub_lt hk)
    have := ho.1
    omega

end

/-! What a rounding delivers. -/

section
variable {f : Fmt} (hf : f.Regular) (z sat neg : Bool) {m : Nat} {e : Int}
include hf

theorem Fmt.Regular.value_signed_zero : f.value (f.pack neg 0 0) = .fin neg 0 (1 - f.bias - f.mb) := by
  have hwide := hf.wide
  rw [Fmt.value_pack neg (Nat.two_pow_pos _) (Nat.two_pow_pos _),
    hf.valueOf_fin neg (by push_cast; omega) (fun heq => by push_cast at heq; omega) (Nat.two_pow_pos _), if_pos rfl]

/-- R38, R39: a rounding that neither flushes nor overflows delivers the grid value, with X where that is not the magnitude. -/
theorem Fmt.Regular.round_value (hm : m ≠ 0) (hk : f.units z m e ≠ 0) (ho : ¬ f.Overflows (f.units z m e) (f.grid m e)) :
    ∃ m' e', f.value (f.round z sat neg m e).code = .fin neg m' e'
      ∧ (m' : Rat) * (2 : Rat) ^ e' = (f.units z m e : Rat) * (2 : Rat) ^ f.grid m e
      ∧ (f.round z sat neg m e).x = !f.exact m e ∧ (f.round z sat neg m e).inc = {} := by
  obtain ⟨m', e', hval, hrat⟩ := (f.fits_units z hm e).value_finCode hk hf ho neg
  rw [Fmt.round_finite z sat neg hm hk ho]
  exact ⟨m', e', hval, hrat, rfl, rfl⟩

theorem Fmt.Regular.maxCode_lt : f.maxCode < f.signBit := by
  rw [hf.maxCode_eq]
  have := hf.wide
  have hhi := hf.sig_lt
  rw [pow_succ] at hhi
  refine Fmt.body_lt (hf.lt_pow_eb ?_) ?_ <;> omega

/-- Every delivered code is a code of the format. -/
theorem Fmt.Regular.round_code_lt : (f.round z sat neg m e).code < 2 * f.signBit := by
  have hpow := Nat.two_pow_pos f.eb
  by_cases hm : m = 0
  · rw [hm, Fmt.round_zero]
    exact Fmt.pack_lt neg (Nat.two_pow_pos _) (Nat.two_pow_pos _)
  by_cases hk : f.units z m e = 0
  · rw [Fmt.round_flush z sat neg hm hk]
    exact Fmt.pack_lt neg (Nat.two_pow_pos _) (Nat.two_pow_pos _)
  by_cases ho : f.Overflows (f.units z m e) (f.grid m e)
  · rw [Fmt.round_overflow z sat neg hm hk ho]
    cases sat
    · exact Fmt.pack_lt neg (by omega) (Nat.two_pow_pos _)
    · have hmax := hf.maxCode_lt
      rw [if_pos rfl]
      dsimp only
      split <;> omega
  · rw [Fmt.round_finite z sat neg hm hk ho]
    exact (f.fits_units z hm e).finCode_lt hk hf ho neg

/-- A magnitude on the format's finest grid, and well below its top, neither flushes nor overflows. -/
theorem Fmt.Regular.units_inRange (hm : m ≠ 0) (hlo : 1 - f.bias - f.mb ≤ e) (hhi : e + bits m ≤ f.emax) :
    f.units z m e ≠ 0 ∧ ¬ f.Overflows (f.units z m e) (f.grid m e) := by
  have hfit := f.fits_units z hm e
  have hk : f.units z m e ≠ 0 := by
    have := Nat.two_pow_pos f.mb
    rcases hfit.full with hfine | hfull
    · have hpos : 0 < m * 2 ^ (e - f.grid m e).toNat := by positivity
      rw [Fmt.units, onGrid_of_le (by omega)]
      exact hpos.ne'
    · omega
  refine ⟨hk, ?_⟩
  obtain ⟨hslo, hshi, _⟩ := hfit.sigOf_spec hk
  have hwide := hf.wide
  have hbits : bits (f.units z m e) ≤ f.mb + 2 :=
    bits_le.2 (hfit.le.trans_lt (Nat.pow_lt_pow_right (by decide) (by omega)))
  have htop : f.grid m e + f.mb + 1 ≤ f.emax := by
    by_cases h : e + bits m - 1 - f.mb ≤ 1 - f.bias - f.mb
    · rw [Fmt.grid_of_below h]; omega
    · rw [Fmt.grid_of_above (by omega)]; omega
  rintro (hgt | ⟨heq, hsig⟩)
  · omega
  · have hbig : f.units z m e = 2 ^ (f.mb + 1) := le_antisymm hfit.le (lt_bits.1 (by omega))
    have hsigOf : f.sigOf (2 ^ (f.mb + 1)) = 2 ^ f.mb := by
      simp only [Fmt.sigOf, bits_two_pow]
      rw [if_neg (by omega), show f.mb + 1 + 1 - f.mb - 1 = 1 by omega, pow_one, pow_succ, Nat.mul_div_cancel _ two_pos]
    have := hf.sig_ge
    rw [hbig, hsigOf] at hsig
    omega

/-- A magnitude that the format holds is delivered as it is. -/
theorem Fmt.Regular.round_exact (hlo : 1 - f.bias - f.mb ≤ e) (hbits : bits m ≤ f.mb + 1)
    (hhi : e + bits m ≤ f.emax ∨ (f.maxSig + 1 = 2 ^ (f.mb + 1) ∧ e + bits m ≤ f.emax + 1)) :
    ∃ m' e', f.value (f.round z sat neg m e).code = .fin neg m' e' ∧ (m' : Rat) * (2 : Rat) ^ e' = (m : Rat) * (2 : Rat) ^ e
      ∧ (f.round z sat neg m e).x = false ∧ (f.round z sat neg m e).inc = {} := by
  by_cases hm : m = 0
  · subst hm
    rw [Fmt.round_zero]
    exact ⟨_, _, hf.value_signed_zero neg, by simp, rfl, rfl⟩
  have hg : f.grid m e ≤ e := by
    unfold Fmt.grid
    omega
  have hu : f.units z m e = m * 2 ^ (e - f.grid m e).toNat := by rw [Fmt.units, onGrid_of_le hg]
  have hk : f.units z m e ≠ 0 := by rw [hu]; positivity
  have hb : bits (f.units z m e) = (e - f.grid m e).toNat + bits m := by rw [hu, Laws.bits_shift (by omega)]
  have ho : ¬ f.Overflows (f.units z m e) (f.grid m e) := by
    obtain ⟨_, hshi, _⟩ := (f.fits_units z hm e).sigOf_spec hk
    rintro (hgt | ⟨heq, hsig⟩) <;> omega
  have hex : f.exact m e = true := by rw [Fmt.exact, onGrid_of_le hg]
  obtain ⟨m', e', hval, hrat, hx, hinc⟩ := hf.round_value z sat neg hm hk ho
  exact ⟨m', e', hval, hrat.trans ((f.units_exact_iff z m e).1 hex), by rw [hx, hex]; rfl, hinc⟩

end

end Sys2Proof.Machine
end

section
/-! The operands of the float group as words (R32, R33): what the bits of an FP32 word say of its value. -/

namespace Sys2Proof.Machine

/-- The body of a word, below its sign bit. -/
def Word.body (a : Word) : Nat := a.toNat % 2 ^ 31

theorem Word.body_eq (a : Word) : Word.body a = fldN a 23 8 * 2 ^ 23 + a.toNat % 2 ^ 23 := by
  unfold Word.body fldN
  omega

theorem Word.sign_iff (a : Word) : a.getLsbD 31 = true ↔ 2 ^ 31 ≤ a.toNat := by
  have := a.isLt
  rw [BitVec.getLsbD, Nat.testBit_eq_decide_div_mod_eq, decide_eq_true_iff]
  omega

theorem Word.toNat_eq_sign_add_body (a : Word) : a.toNat = (if a.getLsbD 31 then 2 ^ 31 else 0) + Word.body a := by
  have hlt := a.isLt
  have hs := Word.sign_iff a
  unfold Word.body
  split <;> simp_all only [true_iff, Bool.not_eq_true, Bool.false_eq_true, false_iff] <;> omega

/-- A word is its sign and its body. -/
theorem Word.ext_sign_body {a b : Word} (hs : a.getLsbD 31 = b.getLsbD 31) (hb : Word.body a = Word.body b) : a = b :=
  BitVec.eq_of_toNat_eq (by rw [Word.toNat_eq_sign_add_body a, Word.toNat_eq_sign_add_body b, hs, hb])

theorem fp32_value_word (a : Word) : fp32.value a.toNat = fp32.valueOf (a.getLsbD 31) (fldN a 23 8) (a.toNat % 2 ^ 23) := by
  rw [Fmt.value_eq_valueOf]
  congr 1
  rw [BitVec.getLsbD, Nat.testBit_eq_decide_div_mod_eq]
  rfl

theorem fp32_eq_nan_iff (a : Word) : fp32.value a.toNat = .nan ↔ 0x7F800000 < Word.body a := by
  have hE := Nat.mod_lt (a.toNat / 2 ^ 23) (Nat.two_pow_pos 8)
  have hM := Nat.mod_lt a.toNat (Nat.two_pow_pos 23)
  have hbody := Word.body_eq a
  rw [fp32_value_word, Fmt.valueOf_eq_nan]
  simp only [fp32, fldN] at *
  simp only [true_and, Bool.true_eq_false, false_and, or_false]
  omega

theorem fp32_eq_inf_iff (a : Word) (s : Bool) : fp32.value a.toNat = .inf s ↔ Word.body a = 0x7F800000 ∧ a.getLsbD 31 = s := by
  have hE := Nat.mod_lt (a.toNat / 2 ^ 23) (Nat.two_pow_pos 8)
  have hM := Nat.mod_lt a.toNat (Nat.two_pow_pos 23)
  have hbody := Word.body_eq a
  rw [fp32_value_word, Fmt.valueOf_eq_inf, ← and_assoc, ← and_assoc]
  refine and_congr_left' ?_
  simp only [fp32, fldN] at *
  simp only [true_and]
  omega

/-- R33: the number and exponent of a finite FP32 word. -/
theorem fp32_eq_fin {a : Word} {s : Bool} {m : Nat} {e : Int} (h : fp32.value a.toNat = .fin s m e) :
    Word.body a < 0x7F800000 ∧ s = a.getLsbD 31 ∧ m < 2 ^ 24 ∧ -149 ≤ e ∧ e ≤ 104 ∧ (m < 2 ^ 23 → e = -149)
      ∧ (m = 0 ↔ Word.body a = 0) := by
  have hnan : ¬ 0x7F800000 < Word.body a := fun hn => by rw [(fp32_eq_nan_iff a).2 hn] at h; simp at h
  have hinf : Word.body a ≠ 0x7F800000 := fun hi => by rw [(fp32_eq_inf_iff a _).2 ⟨hi, rfl⟩] at h; simp at h
  have hbody := Word.body_eq a
  have hE := Nat.mod_lt (a.toNat / 2 ^ 23) (Nat.two_pow_pos 8)
  have hM := Nat.mod_lt a.toNat (Nat.two_pow_pos 23)
  rw [fp32_value_word] at h
  obtain ⟨hs, hparts, _⟩ := Fmt.valueOf_eq_fin h
  simp only [fp32, fldN] at *
  refine ⟨by omega, hs, ?_⟩
  rcases hparts with ⟨h0, rfl, rfl⟩ | ⟨h0, rfl, rfl⟩
  · refine ⟨by omega, by omega, by omega, fun _ => by omega, by omega⟩
  · refine ⟨by omega, by omega, by omega, fun _ => by omega, by omega⟩

/-- The kinds of FP32 words by their bodies. -/
theorem fp32_cases (a : Word) : (0x7F800000 < Word.body a ∧ fp32.value a.toNat = .nan)
    ∨ (Word.body a = 0x7F800000 ∧ fp32.value a.toNat = .inf (a.getLsbD 31))
    ∨ (Word.body a < 0x7F800000 ∧ ∃ m e, fp32.value a.toNat = .fin (a.getLsbD 31) m e ∧ m < 2 ^ 24 ∧ -149 ≤ e ∧ e ≤ 104
        ∧ (m < 2 ^ 23 → e = -149) ∧ (m = 0 ↔ Word.body a = 0)) := by
  match hv : fp32.value a.toNat with
  | .nan => exact .inl ⟨(fp32_eq_nan_iff a).1 hv, rfl⟩
  | .inf s =>
    obtain ⟨hb, rfl⟩ := (fp32_eq_inf_iff a s).1 hv
    exact .inr (.inl ⟨hb, rfl⟩)
  | .fin s m e =>
    obtain ⟨hb, rfl, hrest⟩ := fp32_eq_fin hv
    exact .inr (.inr ⟨hb, m, e, rfl, hrest⟩)

theorem fp32_zero_iff (a : Word) : (fp32.value a.toNat).zero = true ↔ Word.body a = 0 := by
  rcases fp32_cases a with ⟨hb, hv⟩ | ⟨hb, hv⟩ | ⟨hb, m, e, hv, _, _, _, _, hz⟩ <;> rw [hv]
  · simp only [FV.zero, Bool.false_eq_true, false_iff]; omega
  · simp only [FV.zero, Bool.false_eq_true, false_iff]; omega
  · rw [FV.zero, beq_iff_eq, hz]

theorem fp32_finite_iff (a : Word) : (fp32.value a.toNat).finite = true ↔ Word.body a < 0x7F800000 := by
  rcases fp32_cases a with ⟨hb, hv⟩ | ⟨hb, hv⟩ | ⟨hb, m, e, hv, _⟩ <;> rw [hv]
  · simp only [FV.finite, Bool.false_eq_true, false_iff]; omega
  · simp only [FV.finite, Bool.false_eq_true, false_iff]; omega
  · simp only [FV.finite, true_iff]; omega

theorem fp32_sign {a : Word} (h : fp32.value a.toNat ≠ .nan) : (fp32.value a.toNat).sign = a.getLsbD 31 := by
  rcases fp32_cases a with ⟨hb, hv⟩ | ⟨hb, hv⟩ | ⟨hb, m, e, hv, _⟩
  · exact absurd hv h
  · rw [hv]; rfl
  · rw [hv]; rfl

/-! Words made of a sign and a body. -/

theorem Word.body_lt (a : Word) : Word.body a < 2 ^ 31 := Nat.mod_lt _ (Nat.two_pow_pos 31)

@[simp] theorem Word.sign_xor (a : Word) : (a ^^^ (0x80000000 : Word)).getLsbD 31 = !a.getLsbD 31 := by
  rw [BitVec.getLsbD_xor, show (0x80000000 : Word).getLsbD 31 = true by decide, Bool.xor_true]

@[simp] theorem Word.body_xor (a : Word) : Word.body (a ^^^ (0x80000000 : Word)) = Word.body a := by
  simp only [Word.body, BitVec.toNat_xor, Nat.xor_mod_two_pow]
  exact Nat.xor_zero _

@[simp] theorem Word.sign_and_low (a : Word) : (a &&& (0x7FFFFFFF : Word)).getLsbD 31 = false := by
  rw [BitVec.getLsbD_and, show (0x7FFFFFFF : Word).getLsbD 31 = false by decide, Bool.and_false]

@[simp] theorem Word.body_and_low (a : Word) : Word.body (a &&& (0x7FFFFFFF : Word)) = Word.body a := by
  simp only [Word.body, BitVec.toNat_and, Nat.and_mod_two_pow]
  exact (Nat.and_two_pow_sub_one_eq_mod _ 31).trans (Nat.mod_mod _ _)

@[simp] theorem Word.sign_and_high (a : Word) : (a &&& (0x80000000 : Word)).getLsbD 31 = a.getLsbD 31 := by
  rw [BitVec.getLsbD_and, show (0x80000000 : Word).getLsbD 31 = true by decide, Bool.and_true]

@[simp] theorem Word.body_and_high (a : Word) : Word.body (a &&& (0x80000000 : Word)) = 0 := by
  simp only [Word.body, BitVec.toNat_and, Nat.and_mod_two_pow]
  exact Nat.and_zero _

/-- A code below 2^32 is the number of its word. -/
theorem Word.toNat_ofNat_of_lt {c : Nat} (h : c < 2 ^ 32) : (Word.ofNat c).toNat = c := by
  rw [BitVec.toNat_ofNat, Nat.mod_eq_of_lt h]

/-- R168: the opposite sign bit gives the opposite value. -/
theorem fp32_value_xor (b : Word) : fp32.value (b ^^^ (0x80000000 : Word)).toNat = (fp32.value b.toNat).neg := by
  have hbody := Word.body_xor b
  rw [Word.body_eq, Word.body_eq] at hbody
  have hE := Nat.mod_lt (b.toNat / 2 ^ 23) (Nat.two_pow_pos 8)
  have hM := Nat.mod_lt b.toNat (Nat.two_pow_pos 23)
  have hE' := Nat.mod_lt ((b ^^^ (0x80000000 : Word)).toNat / 2 ^ 23) (Nat.two_pow_pos 8)
  have hM' := Nat.mod_lt (b ^^^ (0x80000000 : Word)).toNat (Nat.two_pow_pos 23)
  have hfields : fldN (b ^^^ (0x80000000 : Word)) 23 8 = fldN b 23 8
      ∧ (b ^^^ (0x80000000 : Word)).toNat % 2 ^ 23 = b.toNat % 2 ^ 23 := by
    unfold fldN at *
    omega
  rw [fp32_value_word, fp32_value_word, Word.sign_xor, hfields.1, hfields.2, Fmt.valueOf_neg]

end Sys2Proof.Machine
end

section
/-! Exact values (R38, R165): sums, products and opposites of operands, and what FP32 delivers of a value. -/

namespace Sys2Proof.Machine

@[simp] theorem FV.rat_fin (neg : Bool) (m : Nat) (e : Int) :
    (FV.fin neg m e).rat = (if neg then -(m : Rat) else (m : Rat)) * (2 : Rat) ^ e := rfl
@[simp] theorem FV.finite_fin (neg : Bool) (m : Nat) (e : Int) : (FV.fin neg m e).finite = true := rfl
@[simp] theorem FV.finite_inf (s : Bool) : (FV.inf s).finite = false := rfl
@[simp] theorem FV.finite_nan : FV.nan.finite = false := rfl
@[simp] theorem FV.sign_fin (neg : Bool) (m : Nat) (e : Int) : (FV.fin neg m e).sign = neg := rfl
@[simp] theorem FV.sign_inf (s : Bool) : (FV.inf s).sign = s := rfl
@[simp] theorem FV.zero_fin (neg : Bool) (m : Nat) (e : Int) : (FV.fin neg m e).zero = true ↔ m = 0 := beq_iff_eq
@[simp] theorem FV.zero_inf (s : Bool) : (FV.inf s).zero = false := rfl
@[simp] theorem FV.zero_nan : FV.nan.zero = false := rfl

theorem FV.finite_iff {x : FV} : x.finite = true ↔ ∃ neg m e, x = .fin neg m e := by
  cases x with
  | nan => simp
  | inf s => simp
  | fin neg m e => simp

/-! Opposites. -/

theorem FV.neg_rat (y : FV) : y.neg.rat = -y.rat := by
  cases y with
  | nan => simp [FV.neg, FV.rat]
  | inf s => simp [FV.neg, FV.rat]
  | fin neg m e => cases neg <;> simp [FV.neg]

theorem FV.neg_sign {y : FV} (h : y ≠ .nan) : y.neg.sign = !y.sign := by
  cases y with
  | nan => exact absurd rfl h
  | inf s => rfl
  | fin neg m e => rfl

/-! Sums. -/

theorem FV.add_eq_nan {x y : FV} (h : x = .nan ∨ y = .nan ∨ ∃ s, x = .inf s ∧ y = .inf (!s)) : x.add y = .nan := by
  rcases h with rfl | rfl | ⟨s, rfl, rfl⟩
  · rfl
  · cases x <;> rfl
  · cases s <;> rfl

theorem FV.add_eq_inf {x y : FV} {s : Bool}
    (h : (x = .inf s ∧ y ≠ .nan ∧ y ≠ .inf (!s)) ∨ (y = .inf s ∧ x ≠ .nan ∧ x ≠ .inf (!s))) : x.add y = .inf s := by
  rcases h with ⟨rfl, hnan, hinf⟩ | ⟨rfl, hnan, hinf⟩
  · cases y with
    | nan => exact absurd rfl hnan
    | inf t =>
      have hst : t = s := by simpa using hinf
      simp [FV.add, hst]
    | fin neg m e => rfl
  · cases x with
    | nan => exact absurd rfl hnan
    | inf t =>
      have hst : t = s := by simpa using hinf
      simp [FV.add, hst]
    | fin neg m e => rfl

/-- The signed number of a finite operand in units of a finer grid. -/
theorem signed_on_finer (neg : Bool) (m : Nat) {e g : Int} (h : g ≤ e) :
    ((if neg then -((m * 2 ^ (e - g).toNat : Nat) : Int) else ((m * 2 ^ (e - g).toNat : Nat) : Int) : Int) : Rat) * (2 : Rat) ^ g
      = (FV.fin neg m e).rat := by
  rw [FV.rat_fin, onGrid_scale h]
  cases neg <;> simp only [Bool.false_eq_true, if_false, if_true] <;> push_cast <;> ring

/-- R38: the sum of finite operands is exact, and an exact zero is −0 only when both are. -/
theorem FV.add_finite {x y : FV} (hx : x.finite = true) (hy : y.finite = true) :
    (x.add y).finite = true ∧ (x.add y).rat = x.rat + y.rat
      ∧ ((x.add y).zero = true → ((x.add y).sign = true ↔ x.zero = true ∧ x.sign = true ∧ y.zero = true ∧ y.sign = true)) := by
  obtain ⟨na, ma, ea, rfl⟩ := FV.finite_iff.1 hx
  obtain ⟨nb, mb, eb, rfl⟩ := FV.finite_iff.1 hy
  have ha := signed_on_finer na ma (min_le_left ea eb)
  have hb := signed_on_finer nb mb (min_le_right ea eb)
  rw [← ha, ← hb, ← add_mul]
  norm_cast
  simp only [FV.add]
  generalize min ea eb = g
  generalize (if na then -((ma * 2 ^ (ea - g).toNat : Nat) : Int) else ((ma * 2 ^ (ea - g).toNat : Nat) : Int))
    + (if nb then -((mb * 2 ^ (eb - g).toNat : Nat) : Int) else ((mb * 2 ^ (eb - g).toNat : Nat) : Int)) = sum
  split
  · next h =>
    refine ⟨rfl, ?_, fun _ => ?_⟩
    · rw [h]; simp
    · simp only [FV.sign_fin, FV.zero_fin, Bool.and_eq_true, decide_eq_true_eq]
      tauto
  · next h =>
    refine ⟨rfl, ?_, fun hz => absurd ((FV.zero_fin _ _ _).1 hz) (by simpa using h)⟩
    rw [FV.rat_fin]
    congr 1
    by_cases hneg : sum < 0
    · rw [if_pos (decide_eq_true hneg), show sum = -(sum.natAbs : Int) by omega]
      push_cast
      simp
    · rw [if_neg (by simpa using hneg)]
      rw [← Int.cast_natCast, show ((sum.natAbs : Nat) : Int) = sum by omega]

/-! Products. -/

theorem FV.mul_eq_nan {x y : FV}
    (h : x = .nan ∨ y = .nan ∨ (x.finite = false ∧ y.zero = true) ∨ (x.zero = true ∧ y.finite = false)) : x.mul y = .nan := by
  rcases h with rfl | rfl | ⟨hx, hy⟩ | ⟨hx, hy⟩
  · rfl
  · cases x <;> rfl
  · match x, y, hx, hy with
    | .nan, _, _, _ => rfl
    | .inf s, .fin neg m e, _, hy => exact if_pos ((FV.zero_fin _ _ _).1 hy)
  · match x, y, hx, hy with
    | .fin neg m e, .nan, _, _ => rfl
    | .fin neg m e, .inf s, hx, _ => exact if_pos ((FV.zero_fin _ _ _).1 hx)

theorem FV.mul_eq_inf {x y : FV} (hx : x ≠ .nan) (hy : y ≠ .nan)
    (h : x.finite = false ∧ y.zero = false ∨ x.zero = false ∧ y.finite = false) : x.mul y = .inf (x.sign != y.sign) := by
  have hne : ∀ {neg m e}, (FV.fin neg m e).zero = false → m ≠ 0 := fun hz h0 => by
    rw [(FV.zero_fin _ _ _).2 h0] at hz
    simp at hz
  match x, y, hx, hy, h with
  | .inf s, .inf t, _, _, _ => rfl
  | .inf s, .fin neg m e, _, _, .inl ⟨_, hz⟩ => exact if_neg (hne hz)
  | .fin neg m e, .inf s, _, _, .inr ⟨hz, _⟩ => exact if_neg (hne hz)

theorem FV.mul_finite {x y : FV} (hx : x.finite = true) (hy : y.finite = true) :
    (x.mul y).finite = true ∧ (x.mul y).rat = x.rat * y.rat ∧ (x.mul y).sign = (x.sign != y.sign) := by
  obtain ⟨na, ma, ea, rfl⟩ := FV.finite_iff.1 hx
  obtain ⟨nb, mb, eb, rfl⟩ := FV.finite_iff.1 hy
  refine ⟨rfl, ?_, rfl⟩
  rw [FV.mul, FV.rat_fin, FV.rat_fin, FV.rat_fin, zpow_add₀ two_ne_zero]
  push_cast
  cases na <;> cases nb <;> simp <;> ring

/-- R165: the model's product follows the table and is exact. -/
theorem FV.productOf_mul (x y : FV) : ProductOf x y (x.mul y) := ⟨FV.mul_eq_nan, FV.mul_eq_inf, FV.mul_finite⟩

/-! What FP32 delivers of an exact value. -/

theorem fp32_deliver_nan : IsNanResult (Word.ofNat (fp32.deliver .nan).code) (fp32.deliver .nan).x (fp32.deliver .nan).inc :=
  ⟨rfl, rfl, rfl⟩

theorem fp32_infR (s : Bool) : IsInfResult s (Word.ofNat (fp32.infR s).code) (fp32.infR s).x (fp32.infR s).inc := by
  cases s <;> exact ⟨rfl, rfl, rfl⟩

theorem fp32_deliver_finite {x : FV} (h : x.finite = true) :
    Rounded x (Word.ofNat (fp32.deliver x).code) (fp32.deliver x).x (fp32.deliver x).inc := by
  obtain ⟨neg, m, e, rfl⟩ := FV.finite_iff.1 h
  exact ⟨neg, m, e, rfl, rfl, rfl, rfl⟩

/-- R165: the sum of two operands, delivered. -/
theorem sumOf_deliver (x y : FV) :
    SumOf x y (Word.ofNat (fp32.deliver (x.add y)).code) (fp32.deliver (x.add y)).x (fp32.deliver (x.add y)).inc := by
  refine ⟨fun h => ?nan, fun s h => ?inf, fun hx hy => ?finite⟩
  case nan => rw [FV.add_eq_nan h]; exact fp32_deliver_nan
  case inf => rw [FV.add_eq_inf h]; exact fp32_infR s
  case finite =>
    obtain ⟨hfin, hrat, hzero⟩ := FV.add_finite hx hy
    exact ⟨_, hfin, hrat, fp32_deliver_finite hfin, hzero⟩

end Sys2Proof.Machine
end

section
/-! The instructions of the float and convert group (R160 to R180) as their results: an instruction completes with the code, the
flag and the counts of its result. -/

namespace Sys2Proof.Machine

/-- A two-operand instruction of the group completes with its result. -/
theorem binaryE_of_retF {lat : Nat} {c : BitVec 5 → BitVec 5 → BitVec 5 → BitVec 3 → BitVec 2 → BitVec 4 → Instr}
    {R : Word → Word → Word → Word → Bool → Inc → Prop} (r : Word → Word → Word → FR × Bool)
    (he : ∀ d a b i p t s, exec (c d a b i p t) s = s.genE (rq d (some a) (some b) i p lat)
      (fun x => retF d t (r x.d x.a.data x.b.data)))
    (hR : ∀ d a b, R d a b (Word.ofNat (r d a b).1.code) (r d a b).2 (r d a b).1.inc) : BinaryE lat c R :=
  binaryE_of_genE (r := fun d a b => (Word.ofNat (r d a b).1.code, (r d a b).2, (r d a b).1.inc)) he hR

/-- A one-operand instruction of the group completes with its result. -/
theorem unaryE_of_retF {lat : Nat} {c : BitVec 5 → BitVec 5 → BitVec 3 → BitVec 2 → BitVec 4 → Instr}
    {R : Word → Word → Bool → Inc → Prop} (r : Word → FR × Bool)
    (he : ∀ d a i p t s, exec (c d a i p t) s = s.genE (rq d (some a) none i p lat) (fun x => retF d t (r x.a.data)))
    (hR : ∀ a, R a (Word.ofNat (r a).1.code) (r a).2 (r a).1.inc) : UnaryE lat c R :=
  unaryE_of_genE (r := fun a => (Word.ofNat (r a).1.code, (r a).2, (r a).1.inc)) he hR

end Sys2Proof.Machine
end

section
/-! The obligation on the sums and products of FP32 (R165): an exact value, delivered once. -/

namespace Sys2Proof.Machine

/-- Settles O27: the model's exact sum and product are those of the rationals where the operands are finite and follow R165's
tables elsewhere, and each is delivered by one rounding. FSUB adds the opposite of B, whose word has the other sign bit. -/
theorem floatSums : Obligations.FloatSums := by
  refine ⟨?fadd, ?fsub, ?fmul, ?ffma⟩
  case fadd =>
    exact binaryE_of_retF (fun _ a b => lx (fp32.addC a.toNat b.toNat)) (fun _ _ _ _ _ _ _ => rfl) fun _ a b => sumOf_deliver _ _
  case fsub =>
    refine binaryE_of_retF (fun _ a b => lx (fp32.subC a.toNat b.toNat)) (fun _ _ _ _ _ _ _ => rfl) fun _ a b => ?_
    dsimp only
    rw [fp32_value_xor]
    exact sumOf_deliver _ _
  case fmul =>
    refine binaryE_of_retF (fun _ a b => lx (fp32.mulC a.toNat b.toNat)) (fun _ _ _ _ _ _ _ => rfl) fun _ a b => ?_
    refine ⟨_, FV.productOf_mul _ _, fun h => ?_, fun s h => ?_, fun h => fp32_deliver_finite h⟩
    · simp only [lx, Fmt.mulC, h]; exact fp32_deliver_nan
    · simp only [lx, Fmt.mulC, h]; exact fp32_infR s
  case ffma =>
    exact binaryE_of_retF (fun d a b => lx (fp32.fmaC d.toNat a.toNat b.toNat)) (fun _ _ _ _ _ _ _ => rfl)
      fun d a b => ⟨_, FV.productOf_mul _ _, sumOf_deliver _ _⟩

end Sys2Proof.Machine
end

section
/-! The order of float operands (R167, R169): the model's integer key, and what a comparison of keys says of exact values. -/

namespace Sys2Proof.Machine

/-- The range of exponents and numbers in which the model's keys are exact. -/
def FV.Keyed (x : FV) : Prop := ∀ neg m e, x = .fin neg m e → -160 ≤ e ∧ e + bits m ≤ 239

/-- R167: the order in which −0 is below +0. -/
def Before (x y : FV) : Prop := Below x y ∨ (x.zero = true ∧ y.zero = true ∧ x.sign = true ∧ y.sign = false)

/-- R169: two operands of the same exact value. -/
def SameValue (x y : FV) : Prop :=
  (x.finite = true ∧ y.finite = true ∧ x.rat = y.rat) ∨ ∃ s, x = .inf s ∧ y = .inf s

/-- The number of a finite operand in units of 2^-160. -/
def FV.scaled : FV → Int
  | .fin neg m e => if neg then -((m * 2 ^ (e + 160).toNat : Nat) : Int) else ((m * 2 ^ (e + 160).toNat : Nat) : Int)
  | _ => 0

theorem FV.rat_eq_scaled {neg : Bool} {m : Nat} {e : Int} (h : -160 ≤ e) :
    (FV.fin neg m e).rat = ((FV.fin neg m e).scaled : Rat) * (2 : Rat) ^ (-160 : Int) := by
  rw [← signed_on_finer neg m h, FV.scaled, show e - -160 = e + 160 by ring]

section
variable {x y : FV} (hx : x.Keyed) (hy : y.Keyed) (hfx : x.finite = true) (hfy : y.finite = true)
include hx hy hfx hfy

theorem FV.rat_lt_iff : x.rat < y.rat ↔ x.scaled < y.scaled := by
  obtain ⟨nx, mx, ex, rfl⟩ := FV.finite_iff.1 hfx
  obtain ⟨ny, my, ey, rfl⟩ := FV.finite_iff.1 hfy
  rw [FV.rat_eq_scaled (hx _ _ _ rfl).1, FV.rat_eq_scaled (hy _ _ _ rfl).1, mul_lt_mul_iff_left₀ (two_zpow_pos _)]
  exact Int.cast_lt

theorem FV.rat_eq_iff : x.rat = y.rat ↔ x.scaled = y.scaled := by
  obtain ⟨nx, mx, ex, rfl⟩ := FV.finite_iff.1 hfx
  obtain ⟨ny, my, ey, rfl⟩ := FV.finite_iff.1 hfy
  rw [FV.rat_eq_scaled (hx _ _ _ rfl).1, FV.rat_eq_scaled (hy _ _ _ rfl).1, mul_left_inj' (two_zpow_pos _).ne']
  exact Int.cast_inj

end

/-- Two zeros apart, operands are compared by their keys. -/
theorem FV.lt_of_not_zeros {x y : FV} (h : ¬ (x.zero = true ∧ y.zero = true)) : FV.lt x y = decide (x.key 0 < y.key 0) := by
  unfold FV.lt
  split
  · simp at h
  · rfl

theorem FV.eq_of_not_zeros {x y : FV} (h : ¬ (x.zero = true ∧ y.zero = true)) : FV.eq x y = decide (x.key 0 = y.key 0) := by
  unfold FV.eq
  split
  · simp at h
  · rfl

theorem FV.key_inf (s : Bool) : (FV.inf s).key 0 = if s then -(2 ^ 400) else 2 ^ 400 := rfl

/-- The keys of finite operands lie strictly between those of the infinities. -/
theorem FV.Keyed.key_bounds {neg : Bool} {m : Nat} {e : Int} (h : (FV.fin neg m e).Keyed) :
    -(2 ^ 400) < (FV.fin neg m e).key 0 ∧ (FV.fin neg m e).key 0 < 2 ^ 400 := by
  obtain ⟨hlo, hhi⟩ := h _ _ _ rfl
  have hnat : 2 * (m * 2 ^ (e + 160).toNat) + 1 < 2 ^ 400 := by
    have hS : m * 2 ^ (e + 160).toNat < 2 ^ (bits m + (e + 160).toNat) := by
      rw [pow_add]
      exact Nat.mul_lt_mul_of_pos_right (lt_pow_bits m) (Nat.two_pow_pos _)
    refine lt_of_lt_of_le (b := 2 ^ (bits m + (e + 160).toNat + 1)) ?_ (pow_le_pow_right₀ one_le_two (by omega))
    rw [pow_succ]
    omega
  have hint : ((2 * (m * 2 ^ (e + 160).toNat) + 1 : Nat) : Int) < 2 ^ 400 := (Int.ofNat_lt.2 hnat).trans_eq (Nat.cast_pow 2 400)
  simp only [FV.key]
  generalize (2 : Int) ^ 400 = K at *
  split <;> omega

section
variable {x y : FV} (hx : x.Keyed) (hy : y.Keyed) (hnx : x ≠ .nan) (hny : y ≠ .nan)
include hx hy hnx hny

theorem FV.key_lt_iff : x.key 0 < y.key 0 ↔ Before x y := by
  unfold Before Below
  have hK : (0 : Int) < 2 ^ 400 := by positivity
  match x, y, hnx, hny with
  | .inf s, .inf t, _, _ =>
    rw [FV.key_inf, FV.key_inf]
    generalize (2 : Int) ^ 400 = K at *
    cases s <;> cases t <;> simp <;> omega
  | .inf s, .fin ny my ey, _, _ =>
    have := hy.key_bounds
    rw [FV.key_inf]
    generalize (2 : Int) ^ 400 = K at *
    cases s <;> simp <;> omega
  | .fin nx mx ex, .inf t, _, _ =>
    have := hx.key_bounds
    rw [FV.key_inf]
    generalize (2 : Int) ^ 400 = K at *
    cases t <;> simp <;> omega
  | .fin nx mx ex, .fin ny my ey, _, _ =>
    have hzero : ∀ (m : Nat) (e : Int), m = 0 ↔ m * 2 ^ (e + 160).toNat = 0 := fun m e => by simp
    rw [FV.rat_lt_iff hx hy rfl rfl, FV.zero_fin, FV.zero_fin, hzero mx ex, hzero my ey]
    simp only [FV.key, FV.scaled, FV.finite_fin, FV.sign_fin, reduceCtorEq, false_and, or_false, true_and, ne_eq]
    generalize mx * 2 ^ (ex + 160).toNat = S
    generalize my * 2 ^ (ey + 160).toNat = T
    cases nx <;> cases ny <;>
      simp only [Bool.false_eq_true, Bool.true_eq_false, if_false, if_true, and_true, and_false, or_false, and_self] <;> omega

/-- R169: the numeric order, in which the zeros are equal. -/
theorem FV.lt_iff : FV.lt x y = true ↔ Below x y := by
  by_cases hz : x.zero = true ∧ y.zero = true
  · obtain ⟨hzx, hzy⟩ := hz
    match x, y, hzx, hzy with
    | .fin nx mx ex, .fin ny my ey, hzx, hzy =>
      obtain rfl := (FV.zero_fin _ _ _).1 hzx
      obtain rfl := (FV.zero_fin _ _ _).1 hzy
      simp [FV.lt, Below]
  · rw [FV.lt_of_not_zeros hz, decide_eq_true_iff, FV.key_lt_iff hx hy hnx hny, Before, or_iff_left fun h => hz ⟨h.1, h.2.1⟩]

/-- R169: equality of exact values. -/
theorem FV.eq_iff : FV.eq x y = true ↔ SameValue x y := by
  unfold SameValue
  have hK : (0 : Int) < 2 ^ 400 := by positivity
  match x, y, hnx, hny with
  | .inf s, .inf t, _, _ =>
    rw [FV.eq_of_not_zeros (by simp), decide_eq_true_iff, FV.key_inf, FV.key_inf]
    generalize (2 : Int) ^ 400 = K at *
    cases s <;> cases t <;> simp <;> omega
  | .inf s, .fin ny my ey, _, _ =>
    have := hy.key_bounds
    rw [FV.eq_of_not_zeros (by simp), decide_eq_true_iff, FV.key_inf]
    generalize (2 : Int) ^ 400 = K at *
    cases s <;> simp <;> omega
  | .fin nx mx ex, .inf t, _, _ =>
    have := hx.key_bounds
    rw [FV.eq_of_not_zeros (by simp), decide_eq_true_iff, FV.key_inf]
    generalize (2 : Int) ^ 400 = K at *
    cases t <;> simp <;> omega
  | .fin nx mx ex, .fin ny my ey, _, _ =>
    by_cases hz : mx = 0 ∧ my = 0
    · obtain ⟨rfl, rfl⟩ := hz
      simp [FV.eq]
    · have hzeros : ¬ ((FV.fin nx mx ex).zero = true ∧ (FV.fin ny my ey).zero = true) := by simpa using hz
      have hzero : ∀ (m : Nat) (e : Int), m = 0 ↔ m * 2 ^ (e + 160).toNat = 0 := fun m e => by simp
      rw [hzero mx ex, hzero my ey] at hz
      rw [FV.eq_of_not_zeros hzeros, decide_eq_true_iff, FV.rat_eq_iff hx hy rfl rfl]
      simp only [FV.key, FV.scaled, FV.finite_fin, reduceCtorEq, false_and, exists_false, or_false, true_and]
      generalize mx * 2 ^ (ex + 160).toNat = S at *
      generalize my * 2 ^ (ey + 160).toNat = T at *
      cases nx <;> cases ny <;> simp only [Bool.false_eq_true, if_false, if_true] <;> omega

end

theorem FV.isNan_iff {x : FV} : x.isNan = true ↔ x = .nan := by cases x <;> simp [FV.isNan]

/-! Codes have keyed values. -/

/-- The exponents and numbers of the finite codes of a format. -/
theorem Fmt.Regular.value_bounds {f : Fmt} (hf : f.Regular) {c m : Nat} {neg : Bool} {e : Int} (h : f.value c = .fin neg m e) :
    1 - f.bias - f.mb ≤ e ∧ e < 2 ^ f.eb - f.bias - f.mb ∧ m < 2 ^ (f.mb + 1)
      ∧ (f.ieee = true → e + 1 < 2 ^ f.eb - f.bias - f.mb) := by
  have hwide := hf.wide
  have hfits := hf.fits
  have hE := Nat.mod_lt (c / 2 ^ f.mb) (Nat.two_pow_pos f.eb)
  have hM := Nat.mod_lt c (Nat.two_pow_pos f.mb)
  rw [Fmt.value_eq_valueOf] at h
  rw [pow_succ]
  generalize c / 2 ^ f.mb % 2 ^ f.eb = E at *
  generalize c % 2 ^ f.mb = M at *
  have hE' : (E : Int) < 2 ^ f.eb := by exact_mod_cast hE
  have htop := hf.ieee_top
  obtain ⟨_, ⟨_, rfl, rfl⟩ | ⟨hE0, rfl, rfl⟩, hfin⟩ := Fmt.valueOf_eq_fin h
  · exact ⟨le_rfl, by omega, by omega, fun hi => by have := htop hi; omega⟩
  · refine ⟨by omega, by omega, by omega, fun hi => ?_⟩
    have : (E : Int) + 1 < 2 ^ f.eb := by exact_mod_cast (show E + 1 < 2 ^ f.eb by have := hfin hi; omega)
    omega

theorem Fmt.Regular.keyed {f : Fmt} (hf : f.Regular) (hlo : -160 ≤ 1 - f.bias - f.mb) (hhi : (2 : Int) ^ f.eb - f.bias ≤ 239)
    (c : Nat) : (f.value c).Keyed := by
  intro neg m e h
  obtain ⟨hge, hlt, hm, _⟩ := hf.value_bounds h
  have := bits_le.2 hm
  exact ⟨by omega, by omega⟩

theorem fp32_keyed (c : Nat) : (fp32.value c).Keyed := fp32_regular.keyed (by decide) (by decide) c
theorem bf16_keyed (c : Nat) : (bf16.value c).Keyed := bf16_regular.keyed (by decide) (by decide) c
theorem fp16_keyed (c : Nat) : (fp16.value c).Keyed := fp16_regular.keyed (by decide) (by decide) c

/-- R167: the greater or lesser operand, B only where it is strictly first. -/
theorem Fmt.pick_spec {f : Fmt} (mx : Bool) {a b : Nat} (ha : (f.value a).Keyed) (hb : (f.value b).Keyed) :
    (f.value a = .nan → f.value b = .nan → f.pick mx a b = (f.nanR, false))
    ∧ (f.value a = .nan → f.value b ≠ .nan → f.pick mx a b = ({ code := b }, true))
    ∧ (f.value a ≠ .nan → f.value b = .nan → f.pick mx a b = ({ code := a }, false))
    ∧ (f.value a ≠ .nan → f.value b ≠ .nan →
        ((if mx then Before (f.value a) (f.value b) else Before (f.value b) (f.value a)) → f.pick mx a b = ({ code := b }, true))
        ∧ (¬ (if mx then Before (f.value a) (f.value b) else Before (f.value b) (f.value a)) →
            f.pick mx a b = ({ code := a }, false))) := by
  refine ⟨fun hna hnb => ?_, fun hna hnb => ?_, fun hna hnb => ?_, fun hna hnb => ?_⟩
  · simp [Fmt.pick, hna, hnb]
  · simp [Fmt.pick, hna, hnb]
  · simp [Fmt.pick, hna, hnb]
  · rw [← FV.key_lt_iff ha hb hna hnb, ← FV.key_lt_iff hb ha hnb hna]
    exact ⟨fun h => by simp [Fmt.pick, hna, hnb, h], fun h => by simp [Fmt.pick, hna, hnb, h]⟩

end Sys2Proof.Machine
end

section
/-! The obligation on the selects, the sign operations, the comparisons and FCLASS (R167 to R170). -/

namespace Sys2Proof.Machine

/-! Selects. -/

/-- The zeros by their words. -/
theorem fp32_zeros_iff (a b : Word) :
    (fp32.value a.toNat).zero = true ∧ (fp32.value b.toNat).zero = true ∧ (fp32.value a.toNat).sign = true
        ∧ (fp32.value b.toNat).sign = false
      ↔ (fp32.value a.toNat).zero = true ∧ (fp32.value b.toNat).zero = true ∧ a = 0x80000000 ∧ b = 0 := by
  refine and_congr_right fun hza => and_congr_right fun hzb => ?_
  rw [fp32_zero_iff] at hza hzb
  have hna : ¬ 0x7F800000 < Word.body a := by omega
  have hnb : ¬ 0x7F800000 < Word.body b := by omega
  rw [fp32_sign (mt (fp32_eq_nan_iff a).1 hna), fp32_sign (mt (fp32_eq_nan_iff b).1 hnb)]
  refine and_congr ⟨fun h => ?_, fun h => h ▸ by decide⟩ ⟨fun h => ?_, fun h => h ▸ by decide⟩
  · exact Word.ext_sign_body (h.trans (by decide)) (hza.trans (by decide))
  · exact Word.ext_sign_body (h.trans (by decide)) (hzb.trans (by decide))

/-- R167: what a select delivers, by the kinds of its operands and by which comes first. -/
def Selected (first : Prop) (a b v : Word) (f : Bool) (n : Inc) : Prop :=
  (fp32.value a.toNat = .nan → fp32.value b.toNat = .nan → v = 0x7FC00000 ∧ f = false ∧ n = { nan := 1 })
    ∧ (fp32.value a.toNat = .nan → ¬ fp32.value b.toNat = .nan → v = b ∧ f = true ∧ n = {})
    ∧ (¬ fp32.value a.toNat = .nan → fp32.value b.toNat = .nan → v = a ∧ f = false ∧ n = {})
    ∧ (¬ fp32.value a.toNat = .nan → ¬ fp32.value b.toNat = .nan →
        (first → v = b ∧ f = true ∧ n = {}) ∧ (¬ first → v = a ∧ f = false ∧ n = {}))

theorem selected_pick (mx : Bool) (a b : Word) {first : Prop}
    (hfirst : first ↔ if mx then Before (fp32.value a.toNat) (fp32.value b.toNat)
      else Before (fp32.value b.toNat) (fp32.value a.toNat)) :
    Selected first a b (Word.ofNat (fp32.pick mx a.toNat b.toNat).1.code) (fp32.pick mx a.toNat b.toNat).2
      (fp32.pick mx a.toNat b.toNat).1.inc := by
  have hof : ∀ w : Word, Word.ofNat w.toNat = w := BitVec.ofNat_toNat 32
  obtain ⟨hboth, ha, hb, hnone⟩ := Fmt.pick_spec (f := fp32) mx (fp32_keyed a.toNat) (fp32_keyed b.toNat)
  rw [← hfirst] at hnone
  refine ⟨fun h h' => ?_, fun h h' => ?_, fun h h' => ?_, fun h h' => ⟨fun hf => ?_, fun hf => ?_⟩⟩
  · rw [hboth h h']; exact ⟨rfl, rfl, rfl⟩
  · rw [ha h h']; exact ⟨hof b, rfl, rfl⟩
  · rw [hb h h']; exact ⟨hof a, rfl, rfl⟩
  · rw [(hnone h h').1 hf]; exact ⟨hof b, rfl, rfl⟩
  · rw [(hnone h h').2 hf]; exact ⟨hof a, rfl, rfl⟩

/-! Sign operations. -/

theorem signOp_of_nan {a r : Word} (h : fp32.value a.toNat = .nan) :
    Word.ofNat (signOp a r).code = 0x7FC00000 ∧ (signOp a r).inc = { nan := 1 } := by
  rw [signOp, if_pos (FV.isNan_iff.2 h)]
  exact ⟨rfl, rfl⟩

theorem signOp_of_number {a r : Word} (h : ¬ fp32.value a.toNat = .nan) :
    Word.ofNat (signOp a r).code = r ∧ (signOp a r).inc = {} := by
  rw [signOp, if_neg (mt FV.isNan_iff.1 h)]
  exact ⟨BitVec.ofNat_toNat 32 r, rfl⟩

theorem unaryE_of_signOp {c : BitVec 5 → BitVec 5 → BitVec 3 → BitVec 2 → BitVec 4 → Instr} (r : Word → Word)
    (he : ∀ d a i p t s, exec (c d a i p t) s = s.genE (rq d (some a) none i p 4)
      (fun x => retF d t (signOp x.a.data (r x.a.data), x.a.data.getLsbD 31))) :
    UnaryE 4 c (fun a v f n => ((fp32.value a.toNat = .nan → v = 0x7FC00000 ∧ n = { nan := 1 })
      ∧ (¬ fp32.value a.toNat = .nan → v = r a ∧ n = {})) ∧ f = a.getLsbD 31) :=
  unaryE_of_retF (fun a => (signOp a (r a), a.getLsbD 31)) he fun _ => ⟨⟨signOp_of_nan, signOp_of_number⟩, rfl⟩

/-! Comparisons. -/

/-- R169: a comparison completes with 1 where its relation holds and with 0 where it does not, and counts nothing. -/
theorem binaryE_of_retC {c : BitVec 5 → BitVec 5 → BitVec 5 → BitVec 3 → BitVec 2 → BitVec 4 → Instr} (g : Word → Word → Bool)
    {R : Word → Word → Prop}
    (he : ∀ d a b i p t s, exec (c d a b i p t) s = s.genE (rq d (some a) (some b) i p 4) (fun x => retC d t (g x.a.data x.b.data)))
    (hR : ∀ a b, g a b = true ↔ R a b) :
    BinaryE 4 c (fun _ a b v f n => (R a b → v = 1 ∧ f = true) ∧ (¬ R a b → v = 0 ∧ f = false) ∧ n = {}) :=
  binaryE_of_genE (r := fun _ a b => (Word.ofBool (g a b), g a b, {})) he fun _ a b => by
    rw [← hR]
    cases g a b <;> simp [Word.ofBool]

/-- R169: the operations on values that no NaN takes part in. -/
theorem fcmp_iff {g : FV → FV → Bool} {a b : Word} : fcmp g a b = true ↔
    fp32.value a.toNat ≠ .nan ∧ fp32.value b.toNat ≠ .nan ∧ g (fp32.value a.toNat) (fp32.value b.toNat) = true := by
  simp only [fcmp, Bool.and_eq_true, Bool.not_eq_true', ← Bool.not_eq_true, FV.isNan_iff, and_assoc, ne_eq]

theorem Below.numbers {x y : FV} (h : Below x y) : x ≠ .nan ∧ y ≠ .nan := by
  rcases h with ⟨hx, hy, _⟩ | ⟨rfl, _, hy⟩ | ⟨rfl, _, hx⟩
  · exact ⟨fun h => by simp [h] at hx, fun h => by simp [h] at hy⟩
  · exact ⟨by simp, hy⟩
  · exact ⟨hx, by simp⟩

theorem fcmp_lt_iff (a b : Word) : fcmp FV.lt a b = true ↔ Below (fp32.value a.toNat) (fp32.value b.toNat) := by
  rw [fcmp_iff]
  refine ⟨fun ⟨ha, hb, h⟩ => (FV.lt_iff (fp32_keyed _) (fp32_keyed _) ha hb).1 h, fun h => ?_⟩
  exact ⟨h.numbers.1, h.numbers.2, (FV.lt_iff (fp32_keyed _) (fp32_keyed _) h.numbers.1 h.numbers.2).2 h⟩

theorem fcmp_eq_iff (a b : Word) : fcmp FV.eq a b = true ↔ fp32.value a.toNat ≠ .nan ∧ fp32.value b.toNat ≠ .nan
    ∧ SameValue (fp32.value a.toNat) (fp32.value b.toNat) := by
  rw [fcmp_iff]
  exact and_congr_right fun ha => and_congr_right fun hb => FV.eq_iff (fp32_keyed _) (fp32_keyed _) ha hb

theorem fcmp_or (g g' : FV → FV → Bool) (a b : Word) :
    fcmp (fun u v => g u v || g' u v) a b = (fcmp g a b || fcmp g' a b) := by
  simp only [fcmp, Bool.and_or_distrib_left]

/-! FCLASS. -/

/-- R170: the mask by the fields of a word. -/
theorem fclass_word (a : Word) : fclass a.toNat =
    if fldN a 23 8 = 255 then
      if a.toNat % 2 ^ 23 = 0 then (if a.getLsbD 31 then 0x001 else 0x080) else if a.getLsbD 22 then 0x200 else 0x100
    else if fldN a 23 8 = 0 then
      if a.toNat % 2 ^ 23 = 0 then (if a.getLsbD 31 then 0x008 else 0x010) else if a.getLsbD 31 then 0x004 else 0x020
    else if a.getLsbD 31 then 0x002 else 0x040 := by
  have hsign : decide (a.toNat / 2 ^ 31 % 2 = 1) = a.getLsbD 31 := (Nat.testBit_eq_decide_div_mod_eq ..).symm
  have hquiet : a.getLsbD 22 = decide (¬ a.toNat % 2 ^ 23 / 2 ^ 22 = 0) := by
    rw [BitVec.getLsbD, Nat.testBit_eq_decide_div_mod_eq, decide_eq_decide]
    omega
  simp only [fclass, hsign, hquiet, decide_not, Bool.not_eq_true', decide_eq_false_iff_not, ite_not, fldN]
  rfl

theorem fclass_spec (a : Word) :
    let v := Word.ofNat (fclass a.toNat)
    (fp32.value a.toNat = .inf true → v = 0x001) ∧ (fp32.value a.toNat = .inf false → v = 0x080)
    ∧ (fp32.value a.toNat = .nan → v = if a.getLsbD 22 then 0x200 else 0x100)
    ∧ ((fp32.value a.toNat).zero = true → v = if a.getLsbD 31 then 0x008 else 0x010)
    ∧ ((fp32.value a.toNat).finite = true → (fp32.value a.toNat).zero = false →
        v = if fldN a 23 8 = 0 then (if a.getLsbD 31 then 0x004 else 0x020) else if a.getLsbD 31 then 0x002 else 0x040) := by
  have hE := Nat.mod_lt (a.toNat / 2 ^ 23) (Nat.two_pow_pos 8)
  have hM := Nat.mod_lt a.toNat (Nat.two_pow_pos 23)
  have hbody := Word.body_eq a
  simp only [fclass_word]
  refine ⟨fun h => ?_, fun h => ?_, fun h => ?_, fun h => ?_, fun hfin hz => ?_⟩
  · obtain ⟨hb, hs⟩ := (fp32_eq_inf_iff a _).1 h
    rw [if_pos (by unfold fldN at *; omega), if_pos (by unfold fldN at *; omega), hs]
    rfl
  · obtain ⟨hb, hs⟩ := (fp32_eq_inf_iff a _).1 h
    rw [if_pos (by unfold fldN at *; omega), if_pos (by unfold fldN at *; omega), hs]
    rfl
  · have hb := (fp32_eq_nan_iff a).1 h
    rw [if_pos (by unfold fldN at *; omega), if_neg (by unfold fldN at *; omega)]
    cases a.getLsbD 22 <;> rfl
  · have hb := (fp32_zero_iff a).1 h
    rw [if_neg (by unfold fldN at *; omega), if_pos (by unfold fldN at *; omega), if_pos (by unfold fldN at *; omega)]
    cases a.getLsbD 31 <;> rfl
  · have hb := (fp32_finite_iff a).1 hfin
    have hnz := mt (fp32_zero_iff a).2 (by simp [hz])
    rw [if_neg (by unfold fldN at *; omega)]
    by_cases h0 : fldN a 23 8 = 0
    · rw [if_pos h0, if_neg (by omega), if_pos h0]
      cases a.getLsbD 31 <;> rfl
    · rw [if_neg h0, if_neg h0]
      cases a.getLsbD 31 <;> rfl

/-- Settles O29: the model's keys order operands as R167 does, and the comparisons, selects and signs follow from that order and
from the word's sign bit; FCLASS reads the word's fields. -/
theorem floatCompareSelect : Obligations.FloatCompareSelect := by
  refine ⟨?fmin, ?fmax, ?fabs, ?fneg, ?fcpys, ?fcmpeq, ?fcmplt, ?fcmple, ?fcmpun, ?fclass⟩
  case fmin =>
    refine binaryE_of_retF (fun _ a b => fp32.pick false a.toNat b.toNat) (fun _ _ _ _ _ _ _ => rfl) fun _ a b => ?_
    exact selected_pick false a b (or_congr_right (fp32_zeros_iff b a).symm)
  case fmax =>
    refine binaryE_of_retF (fun _ a b => fp32.pick true a.toNat b.toNat) (fun _ _ _ _ _ _ _ => rfl) fun _ a b => ?_
    exact selected_pick true a b (or_congr_right (fp32_zeros_iff a b).symm)
  case fabs => exact unaryE_of_signOp (fun a => a &&& 0x7FFFFFFF) (fun _ _ _ _ _ _ => rfl)
  case fneg => exact unaryE_of_signOp (fun a => a ^^^ 0x80000000) (fun _ _ _ _ _ _ => rfl)
  case fcpys =>
    exact binaryE_of_retF (fun _ a b => (signOp a ((a &&& 0x7FFFFFFF) ||| (b &&& 0x80000000)), b.getLsbD 31))
      (fun _ _ _ _ _ _ _ => rfl) fun _ a b => ⟨⟨signOp_of_nan, signOp_of_number⟩, rfl⟩
  case fcmpeq => exact binaryE_of_retC (fcmp FV.eq) (fun _ _ _ _ _ _ _ => rfl) fcmp_eq_iff
  case fcmplt => exact binaryE_of_retC (fcmp FV.lt) (fun _ _ _ _ _ _ _ => rfl) fcmp_lt_iff
  case fcmple =>
    refine binaryE_of_retC (fcmp fun u v => FV.lt u v || FV.eq u v) (fun _ _ _ _ _ _ _ => rfl) fun a b => ?_
    rw [fcmp_or, Bool.or_eq_true]
    exact or_congr (fcmp_lt_iff a b) (fcmp_eq_iff a b)
  case fcmpun =>
    refine binaryE_of_retC (fun a b => (fp32.value a.toNat).isNan || (fp32.value b.toNat).isNan) (fun _ _ _ _ _ _ _ => rfl)
      fun a b => ?_
    rw [Bool.or_eq_true]
    exact or_congr FV.isNan_iff FV.isNan_iff
  case fclass =>
    refine unaryE_of_genE (r := fun a => (Word.ofNat (fclass a.toNat), (fp32.value a.toNat).isNan, {})) (fun _ _ _ _ _ _ => rfl)
      fun a => ?_
    obtain ⟨hneg, hpos, hnan, hzero, hnum⟩ := fclass_spec a
    exact ⟨hneg, hpos, hnan, hzero, hnum, FV.isNan_iff, rfl⟩

end Sys2Proof.Machine
end

section
/-! The integral values of a magnitude (R48, R173): the grid of step 1, and the count that each direction takes. -/

namespace Sys2Proof.Machine

/-- R39: a cut count is the greatest that is not above the magnitude. -/
theorem onGrid_cut_rat (m : Nat) (e g : Int) :
    ((onGrid false m e g).1 : Rat) * (2 : Rat) ^ g ≤ (m : Rat) * (2 : Rat) ^ e
      ∧ (m : Rat) * (2 : Rat) ^ e < (((onGrid false m e g).1 : Rat) + 1) * (2 : Rat) ^ g := by
  by_cases h : g ≤ e
  · have hexact := (onGrid_exact_iff false m e g).1 (by rw [onGrid_of_le h])
    have := two_zpow_pos g
    exact ⟨hexact.le, by linarith⟩
  · have hdiv := Nat.div_add_mod m (2 ^ (g - e).toNat)
    have hmod := Nat.mod_lt m (Nat.two_pow_pos (g - e).toNat)
    rw [onGrid_cut (by omega), onGrid_scale (show e ≤ g by omega), ← mul_assoc, ← mul_assoc, mul_le_mul_iff_left₀ (two_zpow_pos e),
      mul_lt_mul_iff_left₀ (two_zpow_pos e)]
    norm_cast
    rw [Nat.add_mul, Nat.mul_comm]
    omega

/-- R38: a nearest count is at most half a step away, and even where it is just that. -/
theorem onGrid_nearest_rat (m : Nat) (e g : Int) :
    2 * ((m : Rat) * (2 : Rat) ^ e) ≤ (2 * ((onGrid true m e g).1 : Rat) + 1) * (2 : Rat) ^ g
      ∧ (2 * ((onGrid true m e g).1 : Rat) - 1) * (2 : Rat) ^ g ≤ 2 * ((m : Rat) * (2 : Rat) ^ e)
      ∧ (2 * ((m : Rat) * (2 : Rat) ^ e) = (2 * ((onGrid true m e g).1 : Rat) + 1) * (2 : Rat) ^ g
          ∨ 2 * ((m : Rat) * (2 : Rat) ^ e) = (2 * ((onGrid true m e g).1 : Rat) - 1) * (2 : Rat) ^ g → (onGrid true m e g).1 % 2 = 0) := by
  have hg := two_zpow_pos g
  by_cases h : g ≤ e
  · have hexact := (onGrid_exact_iff true m e g).1 (by rw [onGrid_of_le h])
    refine ⟨by linarith, by linarith, fun htie => ?_⟩
    rcases htie with htie | htie <;> linarith
  · obtain ⟨hup, hlow, htie⟩ := onGrid_nearest (m := m) (e := e) (g := g) (by omega)
    have he := two_zpow_pos e
    have hupQ : 2 * (m : Rat) ≤ (2 * ((onGrid true m e g).1 : Rat) + 1) * ((2 ^ (g - e).toNat : Nat) : Rat) := by exact_mod_cast hup
    have hlowQ : 2 * ((onGrid true m e g).1 : Rat) * ((2 ^ (g - e).toNat : Nat) : Rat) ≤ 2 * (m : Rat) + ((2 ^ (g - e).toNat : Nat) : Rat) := by
      exact_mod_cast hlow
    rw [onGrid_scale (show e ≤ g by omega), ← mul_assoc, ← mul_assoc, ← mul_assoc, mul_le_mul_iff_left₀ he, mul_le_mul_iff_left₀ he,
      mul_left_inj' he.ne', mul_left_inj' he.ne']
    refine ⟨hupQ, by linarith, fun h' => htie (h'.imp (fun heq => by exact_mod_cast heq) fun heq => ?_)⟩
    have : 2 * ((onGrid true m e g).1 : Rat) * ((2 ^ (g - e).toNat : Nat) : Rat) = 2 * (m : Rat) + ((2 ^ (g - e).toNat : Nat) : Rat) := by
      linarith
    exact_mod_cast this

/-! The count of a direction. -/

theorem integral_nearest (neg : Bool) (m : Nat) (e : Int) : (integral 0 neg m e).1 = (onGrid true m e 0).1 := by simp [integral]

/-- Toward zero: the whole part. -/
theorem integral_whole {mode : Nat} {neg : Bool} (h : mode = 1 ∧ neg = false ∨ mode = 2 ∧ neg = true ∨ mode = 3) (m : Nat) (e : Int) :
    (integral mode neg m e).1 = (onGrid false m e 0).1 := by
  rcases h with ⟨rfl, rfl⟩ | ⟨rfl, rfl⟩ | rfl <;> simp [integral]

/-- Away from zero: the whole part where the magnitude is integral, else one more. -/
theorem integral_next {mode : Nat} {neg : Bool} (h : mode = 1 ∧ neg = true ∨ mode = 2 ∧ neg = false) (m : Nat) (e : Int) :
    (integral mode neg m e).1 = if (onGrid false m e 0).2 then (onGrid false m e 0).1 else (onGrid false m e 0).1 + 1 := by
  rcases h with ⟨rfl, rfl⟩ | ⟨rfl, rfl⟩ <;> cases hx : (onGrid false m e 0).2 <;> simp [integral, hx]

theorem integral_exact (mode : Nat) (neg : Bool) (m : Nat) (e : Int) : (integral mode neg m e).2 = (onGrid true m e 0).2 :=
  onGrid_exact_same ..

/-- The whole part of a magnitude. -/
theorem whole_bounds (m : Nat) (e : Int) : ((onGrid false m e 0).1 : Rat) ≤ (m : Rat) * (2 : Rat) ^ e
    ∧ (m : Rat) * (2 : Rat) ^ e < ((onGrid false m e 0).1 : Rat) + 1 := by
  simpa using onGrid_cut_rat m e 0

theorem unit_exact_iff (r : Bool) (m : Nat) (e : Int) :
    (onGrid r m e 0).2 = true ↔ ((onGrid r m e 0).1 : Rat) = (m : Rat) * (2 : Rat) ^ e := by
  simpa using onGrid_exact_iff r m e 0

/-- The count that lies away from zero is the least not below the magnitude. -/
theorem next_bounds {mode : Nat} {neg : Bool} (h : mode = 1 ∧ neg = true ∨ mode = 2 ∧ neg = false) (m : Nat) (e : Int) :
    (m : Rat) * (2 : Rat) ^ e ≤ ((integral mode neg m e).1 : Rat) ∧ ((integral mode neg m e).1 : Rat) < (m : Rat) * (2 : Rat) ^ e + 1 := by
  obtain ⟨hlow, hhigh⟩ := whole_bounds m e
  rw [integral_next h]
  split
  · next hx =>
    have := (unit_exact_iff false m e).1 hx
    exact ⟨this.ge, by linarith⟩
  · next hx =>
    have := mt (unit_exact_iff false m e).2 hx
    push_cast
    exact ⟨hhigh.le, by linarith [lt_of_le_of_ne hlow this]⟩

/-- The flag Frac of R173: clear exactly where the result is the operand. -/
theorem integral_exact_iff {mode : Nat} (hmode : mode ≤ 3) (neg : Bool) (m : Nat) (e : Int) :
    (integral mode neg m e).2 = true ↔ ((integral mode neg m e).1 : Rat) = (m : Rat) * (2 : Rat) ^ e := by
  rw [integral_exact]
  by_cases h0 : mode = 0
  · subst h0
    rw [integral_nearest, unit_exact_iff]
  by_cases hnext : mode = 1 ∧ neg = true ∨ mode = 2 ∧ neg = false
  · obtain ⟨hlow, hhigh⟩ := whole_bounds m e
    rw [onGrid_exact_same true false, integral_next hnext]
    split
    · next hx => exact iff_of_true hx ((unit_exact_iff false m e).1 hx)
    · next hx =>
      push_cast
      exact iff_of_false hx (by linarith)
  · have hwhole : mode = 1 ∧ neg = false ∨ mode = 2 ∧ neg = true ∨ mode = 3 := by cases neg <;> simp_all <;> omega
    rw [onGrid_exact_same true false, integral_whole hwhole, unit_exact_iff]

/-- A count of units is small where the magnitude has a fraction. -/
theorem integral_le (mode : Nat) (neg : Bool) {m : Nat} {e : Int} (he : e < 0) : (integral mode neg m e).1 ≤ m / 2 + 1 := by
  have hhalf : m / 2 ^ (0 - e).toNat ≤ m / 2 := Nat.div_le_div_left (Nat.le_self_pow (by omega) 2) two_pos
  unfold integral
  dsimp only
  rcases onGrid_count (m := m) he (mode == 0) with hk | ⟨hk, hne⟩
  · rw [hk]
    split <;> omega
  · have hmode : (mode == 0) = true := by
      by_contra hc
      rw [Bool.not_eq_true] at hc
      rw [hc, onGrid_cut he] at hk
      omega
    have hm0 : mode = 0 := by simpa using hmode
    subst hm0
    rw [hk]
    simp only [Nat.reduceBEq, Bool.false_and, Bool.or_self, Bool.and_false, Bool.false_eq_true, if_false]
    omega

end Sys2Proof.Machine
end

section
/-! The obligation on the estimates and the integral values (R171 to R173). -/

namespace Sys2Proof.Machine

/-! Words put together of a sign and a body. -/

theorem Word.and_low_toNat (a : Word) : (a &&& (0x7FFFFFFF : Word)).toNat = Word.body a := by
  rw [Word.toNat_eq_sign_add_body, Word.sign_and_low, Word.body_and_low]
  simp

theorem Word.and_low_eq_iff (a : Word) {b : Word} : a &&& (0x7FFFFFFF : Word) = b ↔ Word.body a = b.toNat := by
  rw [← Word.and_low_toNat]
  exact ⟨fun h => h ▸ rfl, BitVec.eq_of_toNat_eq⟩

theorem Word.and_high_toNat (a : Word) : (a &&& (0x80000000 : Word)).toNat = 2 ^ 31 * (a.toNat / 2 ^ 31) := by
  have hlt := a.isLt
  have hs := Word.sign_iff a
  rw [Word.toNat_eq_sign_add_body, Word.sign_and_high, Word.body_and_high]
  split <;> simp_all only [true_iff, Bool.not_eq_true, Bool.false_eq_true, false_iff] <;> omega

theorem Word.ofNat_sign_add (a : Word) {x : Nat} (hx : x < 2 ^ 31) :
    Word.ofNat (a.toNat / 2 ^ 31 * 2 ^ 31 + x) = (a &&& (0x80000000 : Word)) ||| Word.ofNat x := by
  have hlt := a.isLt
  apply BitVec.eq_of_toNat_eq
  rw [BitVec.toNat_or, Word.and_high_toNat, BitVec.toNat_ofNat, BitVec.toNat_ofNat, Nat.mod_eq_of_lt (by omega : x < 2 ^ 32),
    ← Nat.two_pow_add_eq_or_of_lt hx, Nat.mod_eq_of_lt (by omega), Nat.mul_comm]

theorem Word.ofNat_sign (a : Word) : Word.ofNat (a.toNat / 2 ^ 31 * 2 ^ 31) = a &&& (0x80000000 : Word) := by
  have := Word.ofNat_sign_add a (show 0 < 2 ^ 31 by decide)
  simpa using this

/-- A constant above a body, less that body. -/
theorem Word.ofNat_sub_body {a : Word} {c : Nat} (h : Word.body a ≤ c) :
    Word.ofNat (c - Word.body a) = BitVec.ofNat 32 c - (a &&& (0x7FFFFFFF : Word)) := by
  have hself : BitVec.ofNat 32 (Word.body a) = a &&& (0x7FFFFFFF : Word) := by
    rw [← Word.and_low_toNat]
    exact BitVec.ofNat_toNat 32 _
  rw [← hself, BitVec.ofNat_sub_ofNat_of_le _ _ ((Word.body_lt a).trans (by decide)) h]

/-! The estimates. -/

/-- R171: the rows of the table, by the body of the operand. -/
theorem frcpe_rows (a : Word) :
    (0x7F800000 < Word.body a → frcpe a.toNat = (fp32.nanR, true))
    ∧ (Word.body a = 0 → frcpe a.toNat = ({ code := a.toNat / 2 ^ 31 * 2 ^ 31 + 0x7F800000, inc := { inf := 1 } }, true))
    ∧ (Word.body a = 0x7F800000 → frcpe a.toNat = ({ code := a.toNat / 2 ^ 31 * 2 ^ 31 }, true))
    ∧ (0x7EF311C7 ≤ Word.body a → Word.body a < 0x7F800000 →
        frcpe a.toNat = ({ code := a.toNat / 2 ^ 31 * 2 ^ 31, inc := { flush := 1 } }, true))
    ∧ (0 < Word.body a → Word.body a < 0x7EF311C7 →
        frcpe a.toNat = ({ code := a.toNat / 2 ^ 31 * 2 ^ 31 + (0x7EF311C7 - Word.body a) }, false)) := by
  have hbody : a.toNat % 2 ^ 31 = Word.body a := rfl
  simp only [frcpe, hbody]
  refine ⟨fun h => if_pos h, fun h => ?_, fun h => ?_, fun h h' => ?_, fun h h' => ?_⟩
  · rw [if_neg (by omega), if_pos h]
  · rw [if_neg (by omega), if_neg (by omega), if_pos h]
  · rw [if_neg (by omega), if_neg (by omega), if_neg (by omega), if_pos h]
  · rw [if_neg (by omega), if_neg (by omega), if_neg (by omega), if_neg (by omega)]

/-- R172: the rows of the table, by the operand's number. -/
theorem frsqe_rows (a : Word) :
    (0x7F800000 < Word.body a → frsqe a.toNat = (fp32.nanR, true))
    ∧ (a = 0x80000000 → frsqe a.toNat = ({ code := 0xFF800000, inc := { inf := 1 } }, true))
    ∧ (a = 0 → frsqe a.toNat = ({ code := 0x7F800000, inc := { inf := 1 } }, true))
    ∧ (0x80000000 < a.toNat → a.toNat ≤ 0xFF800000 → frsqe a.toNat = (fp32.nanR, true))
    ∧ (a = 0x7F800000 → frsqe a.toNat = ({ code := 0 }, true))
    ∧ (0 < a.toNat → a.toNat < 0x7F800000 → frsqe a.toNat = ({ code := 0x5F375A86 - a.toNat / 2 }, false)) := by
  refine ⟨fun h => if_pos h, fun h => h ▸ rfl, fun h => h ▸ rfl, fun h h' => ?_, fun h => h ▸ rfl, fun h h' => ?_⟩
  · rw [frsqe, if_neg (by omega), if_neg (by omega), if_neg (by omega), if_pos (by omega)]
  · rw [frsqe, if_neg (by omega), if_neg (by omega), if_neg (by omega), if_neg (by omega), if_neg (by omega)]

/-! The integral values. -/

/-- R173: what an integral instruction delivers, in the direction `dir`. -/
def IntegralResult (dir : Rat → Int → Prop) (a v : Word) (f : Bool) (n : Inc) : Prop :=
  (fp32.value a.toNat = .nan → v = 0x7FC00000 ∧ f = true ∧ n = { nan := 1 })
    ∧ ((fp32.value a.toNat = .inf true ∨ fp32.value a.toNat = .inf false ∨ (fp32.value a.toNat).zero = true) → v = a ∧ f = false ∧ n = {})
    ∧ ((fp32.value a.toNat).finite = true → ∃ k : Int, dir (fp32.value a.toNat).rat k ∧ (fp32.value v.toNat).finite = true
        ∧ (fp32.value v.toNat).rat = (k : Rat) ∧ v &&& 0x80000000 = a &&& 0x80000000
        ∧ (f = true ↔ (fp32.value a.toNat).rat ≠ (k : Rat)) ∧ n = {})

/-- The signed count of a direction. -/
def signedIntegral (mode : Nat) (neg : Bool) (m : Nat) (e : Int) : Int :=
  if neg then -((integral mode neg m e).1 : Int) else ((integral mode neg m e).1 : Int)

/-- The number of a delivered FP32 code is that of its word. -/
theorem fp32_round_word (z sat neg : Bool) (m : Nat) (e : Int) :
    (Word.ofNat (fp32.round z sat neg m e).code).toNat = (fp32.round z sat neg m e).code :=
  Word.toNat_ofNat_of_lt (fp32_regular.round_code_lt z sat neg)

/-- A magnitude that FP32 holds is delivered as it is. -/
theorem fp32_round_exact (z sat neg : Bool) {m : Nat} {e : Int} (hm : m < 2 ^ 24) (hlo : -149 ≤ e) (hhi : e + bits m ≤ 128) :
    ∃ m' e', fp32.value (fp32.round z sat neg m e).code = .fin neg m' e' ∧ (m' : Rat) * (2 : Rat) ^ e' = (m : Rat) * (2 : Rat) ^ e
      ∧ (fp32.round z sat neg m e).x = false ∧ (fp32.round z sat neg m e).inc = {} :=
  fp32_regular.round_exact z sat neg hlo (bits_le.2 hm) (.inr ⟨rfl, hhi⟩)

/-- Every integral value of an FP32 number is an FP32 number. -/
theorem integral_value (mode : Nat) (neg : Bool) {m : Nat} {e : Int} (hm : m ≠ 0) (hlt : m < 2 ^ 24) (hlo : -149 ≤ e) (hhi : e ≤ 104) :
    ∃ m' e', fp32.value (fp32.round false false neg (integral mode neg m e).1 0).code = .fin neg m' e'
      ∧ (m' : Rat) * (2 : Rat) ^ e' = ((integral mode neg m e).1 : Rat) := by
  have hbits := bits_le.2 hlt
  by_cases he : 0 ≤ e
  · obtain ⟨j, rfl⟩ := Int.eq_ofNat_of_zero_le he
    have hcount : (integral mode neg m j).1 = m * 2 ^ j := by simp [integral, onGrid_of_le he]
    rw [hcount, Fmt.round_shift fp32 false false neg hm j 0, zero_add]
    obtain ⟨m', e', hval, hrat, _, _⟩ := fp32_round_exact false false neg hlt hlo (by omega)
    exact ⟨m', e', hval, by rw [hrat]; push_cast; rfl⟩
  · have hle := integral_le mode neg (m := m) (show e < 0 by omega)
    have hk : (integral mode neg m e).1 < 2 ^ 24 := by omega
    have := bits_le.2 hk
    obtain ⟨m', e', hval, hrat, _, _⟩ := fp32_round_exact false false neg hk (by decide : (-149 : Int) ≤ 0) (by omega)
    exact ⟨m', e', hval, by rw [hrat, zpow_zero, mul_one]⟩

theorem signedIntegral_eq_iff {mode : Nat} (hmode : mode ≤ 3) (neg : Bool) (m : Nat) (e : Int) :
    (integral mode neg m e).2 = true ↔ (FV.fin neg m e).rat = (signedIntegral mode neg m e : Rat) := by
  rw [integral_exact_iff hmode, FV.rat_fin, signedIntegral]
  cases neg
  · simp [eq_comm]
  · simp [eq_comm]

theorem toIntegral_of_zero {f : Fmt} {c : Nat} (mode : Nat) {neg : Bool} {e : Int} (hv : f.value c = .fin neg 0 e) :
    f.toIntegral mode c = ({ code := c }, false) := by simp only [Fmt.toIntegral, hv, if_true]

theorem toIntegral_of_number {f : Fmt} {c : Nat} (mode : Nat) {neg : Bool} {m : Nat} {e : Int} (hv : f.value c = .fin neg m e)
    (hm : m ≠ 0) : f.toIntegral mode c =
      ({ code := (f.round false false neg (integral mode neg m e).1 0).code }, !(integral mode neg m e).2) := by
  simp only [Fmt.toIntegral, hv, if_neg hm]

/-- R173: the direction's count is what the instruction delivers. -/
theorem toIntegral_result {mode : Nat} (hmode : mode ≤ 3) {dir : Rat → Int → Prop}
    (hdir : ∀ neg m e, dir (FV.fin neg m e).rat (signedIntegral mode neg m e)) (a : Word) :
    IntegralResult dir a (Word.ofNat (fp32.toIntegral mode a.toNat).1.code) (fp32.toIntegral mode a.toNat).2
      (fp32.toIntegral mode a.toNat).1.inc := by
  have hself : Word.ofNat a.toNat = a := BitVec.ofNat_toNat 32 a
  rcases fp32_cases a with ⟨_, hv⟩ | ⟨_, hv⟩ | ⟨_, m, e, hv, hlt, hlo, hhi, _, _⟩
  · have hr : fp32.toIntegral mode a.toNat = (fp32.nanR, true) := by rw [Fmt.toIntegral, hv]
    rw [hr]
    exact ⟨fun _ => ⟨rfl, rfl, rfl⟩, by simp [hv], by simp [hv]⟩
  · have hr : fp32.toIntegral mode a.toNat = ({ code := a.toNat }, false) := by rw [Fmt.toIntegral, hv]
    rw [hr]
    exact ⟨by simp [hv], fun _ => ⟨hself, rfl, rfl⟩, by simp [hv]⟩
  · generalize hneg : a.getLsbD 31 = neg at *
    have hd := hdir neg m e
    have hiff := signedIntegral_eq_iff hmode neg m e
    by_cases hm : m = 0
    · subst hm
      have hcount : signedIntegral mode neg 0 e = 0 := by
        by_cases h : 0 ≤ e <;> simp [signedIntegral, integral, onGrid, h]
      have hrat : (FV.fin neg 0 e).rat = 0 := by simp
      rw [toIntegral_of_zero mode hv, IntegralResult, hself, hv]
      rw [hcount, hrat] at hd
      refine ⟨by simp, fun _ => ⟨rfl, rfl, rfl⟩, fun _ => ⟨0, hrat ▸ hd, rfl, by simp, rfl, by simp, rfl⟩⟩
    · obtain ⟨m', e', hval, hrat⟩ := integral_value mode neg hm hlt hlo hhi
      rw [toIntegral_of_number mode hv hm]
      have hword := fp32_round_word false false neg (integral mode neg m e).1 0
      generalize (fp32.round false false neg (integral mode neg m e).1 0).code = c at *
      rw [← hword] at hval
      obtain ⟨_, hsign, _⟩ := fp32_eq_fin hval
      rw [IntegralResult, hv, hval]
      refine ⟨by simp, by simp [hm], fun _ => ⟨_, hd, rfl, ?value, ?sign, ?flag, rfl⟩⟩
      case value =>
        rw [FV.rat_fin, signedIntegral]
        cases neg <;> simp [hrat]
      case sign =>
        refine Word.ext_sign_body ?_ ((Word.body_and_high _).trans (Word.body_and_high _).symm)
        rw [Word.sign_and_high, Word.sign_and_high, hneg, hsign]
      case flag =>
        rw [ne_eq, ← hiff]
        simp

/-! The four directions. -/

/-- FRINT: the nearest integer, the even one of two. -/
def ToNearest (x : Rat) (k : Int) : Prop :=
  (k : Rat) - 1 / 2 ≤ x ∧ x ≤ (k : Rat) + 1 / 2 ∧ ((x = (k : Rat) + 1 / 2 ∨ x = (k : Rat) - 1 / 2) → k % 2 = 0)

/-- FFLOOR: the greatest integer not above. -/
def ToFloor (x : Rat) (k : Int) : Prop := (k : Rat) ≤ x ∧ x < (k : Rat) + 1

/-- FCEIL: the least integer not below. -/
def ToCeil (x : Rat) (k : Int) : Prop := x ≤ (k : Rat) ∧ (k : Rat) - 1 < x

/-- FTRNC: the nearest integer toward zero. -/
def ToZero (x : Rat) (k : Int) : Prop := (0 ≤ x → (k : Rat) ≤ x ∧ x < (k : Rat) + 1) ∧ (x ≤ 0 → x ≤ (k : Rat) ∧ (k : Rat) - 1 < x)

/-- A count to nearest, with the sign of its magnitude. -/
theorem toNearest_onGrid (neg : Bool) (m : Nat) (e : Int) : ToNearest (FV.fin neg m e).rat
    (if neg then -((onGrid true m e 0).1 : Int) else ((onGrid true m e 0).1 : Int)) := by
  obtain ⟨hup, hlow, htie⟩ := onGrid_nearest_rat m e 0
  rw [zpow_zero, mul_one, mul_one] at *
  cases neg
  · simp only [ToNearest, FV.rat_fin, Bool.false_eq_true, if_false, Int.cast_natCast]
    refine ⟨by linarith, by linarith, fun h => ?_⟩
    have := htie (h.imp (fun h => by linarith) fun h => by linarith)
    omega
  · simp only [ToNearest, FV.rat_fin, if_true, neg_mul, Int.cast_neg, Int.cast_natCast]
    refine ⟨by linarith, by linarith, fun h => ?_⟩
    have := htie (h.symm.imp (fun h => by linarith) fun h => by linarith)
    omega

theorem toNearest_signedIntegral (neg : Bool) (m : Nat) (e : Int) :
    ToNearest (FV.fin neg m e).rat (signedIntegral 0 neg m e) := by
  rw [signedIntegral, integral_nearest]
  exact toNearest_onGrid neg m e

theorem toFloor_signedIntegral (neg : Bool) (m : Nat) (e : Int) : ToFloor (FV.fin neg m e).rat (signedIntegral 1 neg m e) := by
  cases neg
  · simp only [signedIntegral, ToFloor, FV.rat_fin, Bool.false_eq_true, if_false, Int.cast_natCast]
    rw [integral_whole (.inl ⟨rfl, rfl⟩)]
    exact whole_bounds m e
  · obtain ⟨hlow, hhigh⟩ := next_bounds (.inl ⟨rfl, rfl⟩) m e
    simp only [signedIntegral, ToFloor, FV.rat_fin, if_true, neg_mul, Int.cast_neg, Int.cast_natCast]
    exact ⟨by linarith, by linarith⟩

theorem toCeil_signedIntegral (neg : Bool) (m : Nat) (e : Int) : ToCeil (FV.fin neg m e).rat (signedIntegral 2 neg m e) := by
  cases neg
  · obtain ⟨hlow, hhigh⟩ := next_bounds (.inr ⟨rfl, rfl⟩) m e
    simp only [signedIntegral, ToCeil, FV.rat_fin, Bool.false_eq_true, if_false, Int.cast_natCast]
    exact ⟨by linarith, by linarith⟩
  · obtain ⟨hlow, hhigh⟩ := whole_bounds m e
    simp only [signedIntegral, ToCeil, FV.rat_fin, if_true, neg_mul, Int.cast_neg, Int.cast_natCast]
    rw [integral_whole (.inr (.inl ⟨rfl, rfl⟩))]
    exact ⟨by linarith, by linarith⟩

theorem toZero_signedIntegral (neg : Bool) (m : Nat) (e : Int) : ToZero (FV.fin neg m e).rat (signedIntegral 3 neg m e) := by
  obtain ⟨hlow, hhigh⟩ := whole_bounds m e
  have hk : (0 : Rat) ≤ ((onGrid false m e 0).1 : Rat) := Nat.cast_nonneg _
  rw [signedIntegral, integral_whole (.inr (.inr rfl))]
  cases neg
  · simp only [ToZero, FV.rat_fin, Bool.false_eq_true, if_false, Int.cast_natCast]
    exact ⟨fun _ => ⟨hlow, hhigh⟩, fun h => ⟨by linarith, by linarith⟩⟩
  · simp only [ToZero, FV.rat_fin, if_true, neg_mul, Int.cast_neg, Int.cast_natCast]
    exact ⟨fun h => ⟨by linarith, by linarith⟩, fun _ => ⟨by linarith, by linarith⟩⟩

/-- R173: an integral instruction completes with the integral value of its direction. -/
theorem unaryE_of_toIntegral {c : BitVec 5 → BitVec 5 → BitVec 3 → BitVec 2 → BitVec 4 → Instr} {mode : Nat} (hmode : mode ≤ 3)
    {dir : Rat → Int → Prop} (hdir : ∀ neg m e, dir (FV.fin neg m e).rat (signedIntegral mode neg m e))
    (he : ∀ d a i p t s, exec (c d a i p t) s = s.genE (rq d (some a) none i p 4)
      (fun x => retF d t (fp32.toIntegral mode x.a.data.toNat))) : UnaryE 4 c (IntegralResult dir) :=
  unaryE_of_retF (fun a => fp32.toIntegral mode a.toNat) he (toIntegral_result hmode hdir)

/-- Settles O30: the estimates by the rows of their tables on the operand's body, the integral values by the count of their
direction, which is always an FP32 number. -/
theorem floatEstimateIntegral : Obligations.FloatEstimateIntegral := by
  refine ⟨?frcpe, ?frsqe, ?frint, ?ffloor, ?fceil, ?ftrnc⟩
  case frcpe =>
    refine unaryE_of_retF (fun a => frcpe a.toNat) (fun _ _ _ _ _ _ => rfl) fun a => ?_
    obtain ⟨hnan, hzero, hinf, hflush, hrest⟩ := frcpe_rows a
    rw [fp32_eq_nan_iff, Word.and_low_eq_iff, Word.and_low_eq_iff, Word.and_low_toNat]
    refine ⟨fun h => ?_, fun h => ?_, fun h => ?_, fun h h' => ?_, fun h h' => ?_⟩
    · rw [hnan h]; exact ⟨rfl, rfl, rfl⟩
    · rw [hzero h]; exact ⟨Word.ofNat_sign_add a (by decide), rfl, rfl⟩
    · rw [hinf h]; exact ⟨Word.ofNat_sign a, rfl, rfl⟩
    · rw [hflush h h']; exact ⟨Word.ofNat_sign a, rfl, rfl⟩
    · rw [hrest h h']
      exact ⟨(Word.ofNat_sign_add a (by omega)).trans (congrArg _ (Word.ofNat_sub_body h'.le)), rfl, rfl⟩
  case frsqe =>
    refine unaryE_of_retF (fun a => frsqe a.toNat) (fun _ _ _ _ _ _ => rfl) fun a => ?_
    obtain ⟨hnan, hnegZero, hzero, hneg, hinf, hrest⟩ := frsqe_rows a
    rw [fp32_eq_nan_iff]
    refine ⟨fun h => ?_, fun h => ?_, fun h => ?_, fun h h' => ?_, fun h => ?_, fun h h' => ?_⟩
    · rw [hnan h]; exact ⟨rfl, rfl, rfl⟩
    · rw [hnegZero h]; exact ⟨rfl, rfl, rfl⟩
    · rw [hzero h]; exact ⟨rfl, rfl, rfl⟩
    · rw [hneg h h']; exact ⟨rfl, rfl, rfl⟩
    · rw [hinf h]; exact ⟨rfl, rfl, rfl⟩
    · rw [hrest h h']; exact ⟨Word.toNat_ofNat_of_lt (show 0x5F375A86 - a.toNat / 2 < 2 ^ 32 by omega), rfl, rfl⟩
  case frint => exact unaryE_of_toIntegral (dir := ToNearest) (by decide) toNearest_signedIntegral (fun _ _ _ _ _ _ => rfl)
  case ffloor => exact unaryE_of_toIntegral (dir := ToFloor) (by decide) toFloor_signedIntegral (fun _ _ _ _ _ _ => rfl)
  case fceil => exact unaryE_of_toIntegral (dir := ToCeil) (by decide) toCeil_signedIntegral (fun _ _ _ _ _ _ => rfl)
  case ftrnc => exact unaryE_of_toIntegral (dir := ToZero) (by decide) toZero_signedIntegral (fun _ _ _ _ _ _ => rfl)

end Sys2Proof.Machine
end

section
/-! The obligation on the packed BF16 and FP16 instructions (R174): two lanes, each computed alone by the rule of one operand. -/

namespace Sys2Proof.Machine

/-! Codes of a lane. -/

theorem Fmt.Regular.nan_code_lt {f : Fmt} (hf : f.Regular) : f.nan < 2 * f.signBit := by
  have := hf.nan_lt
  omega

theorem Fmt.infR_code_lt (f : Fmt) (s : Bool) (n : Inc) : (f.infR s n).code < 2 * f.signBit :=
  Fmt.pack_lt s (Nat.sub_lt (Nat.two_pow_pos _) Nat.one_pos) (Nat.two_pow_pos _)

theorem Fmt.Regular.deliver_code_lt {f : Fmt} (hf : f.Regular) (x : FV) : (f.deliver x).code < 2 * f.signBit := by
  cases x with
  | nan => exact hf.nan_code_lt
  | inf s => exact f.infR_code_lt s {}
  | fin neg m e => exact hf.round_code_lt false false neg

theorem Fmt.Regular.pick_code_lt {f : Fmt} (hf : f.Regular) (mx : Bool) {a b : Nat} (ha : a < 2 * f.signBit) (hb : b < 2 * f.signBit) :
    (f.pick mx a b).1.code < 2 * f.signBit := by
  unfold Fmt.pick
  dsimp only
  split
  · exact hf.nan_code_lt
  split
  · exact hb
  split
  · exact ha
  cases mx
  all_goals
    rw [apply_ite Prod.fst, apply_ite FR.code]
    exact (max_lt hb ha).trans_le' (ite_le_sup ..)

/-! Two lanes. -/

/-- R174: each lane of the result is `F` of the same lanes of the operands, the flag the or of the lanes' flags, and the counts
their sums. -/
def OnTwo (F : Nat → Nat → Nat → FR × Bool) (d a b v : Word) (f : Bool) (n : Inc) : Prop :=
  let r0 := F (fldN d 0 16) (fldN a 0 16) (fldN b 0 16)
  let r1 := F (fldN d 16 16) (fldN a 16 16) (fldN b 16 16)
  fldN v 0 16 = r0.1.code ∧ fldN v 16 16 = r1.1.code ∧ f = (r0.2 || r1.2) ∧ n.sat = r0.1.inc.sat + r1.1.inc.sat
    ∧ n.nan = r0.1.inc.nan + r1.1.inc.nan ∧ n.inf = r0.1.inc.inf + r1.1.inc.inf ∧ n.flush = r0.1.inc.flush + r1.1.inc.flush

/-- Two 16-bit codes side by side. -/
theorem fldN_two {x y : Nat} (hx : x < 2 ^ 16) (hy : y < 2 ^ 16) :
    fldN (Word.ofNat (x + y * 2 ^ 16)) 0 16 = x ∧ fldN (Word.ofNat (x + y * 2 ^ 16)) 16 16 = y := by
  unfold fldN
  rw [Word.toNat_ofNat_of_lt (by omega)]
  omega

theorem binaryE_of_two {c : BitVec 5 → BitVec 5 → BitVec 5 → BitVec 3 → BitVec 2 → BitVec 4 → Instr} (F : Nat → Nat → Nat → FR × Bool)
    (he : ∀ d a b i p t s, exec (c d a b i p t) s = s.genE (rq d (some a) (some b) i p 4)
      (fun x => retP d t (two F x.d x.a.data x.b.data)))
    (hF : ∀ z x y, x < 2 ^ 16 → y < 2 ^ 16 → (F z x y).1.code < 2 ^ 16) : BinaryE 4 c (OnTwo F) :=
  binaryE_of_genE (r := two F) he fun d a b => by
    have hlane : ∀ (w : Word) k, fldN w k 16 < 2 ^ 16 := fun w k => Nat.mod_lt _ (Nat.two_pow_pos 16)
    obtain ⟨hlow, hhigh⟩ := fldN_two (hF (fldN d 0 16) _ _ (hlane a 0) (hlane b 0)) (hF (fldN d 16 16) _ _ (hlane a 16) (hlane b 16))
    exact ⟨hlow, hhigh, rfl, rfl, rfl, rfl, rfl⟩

/-- R174: a packed instruction whose lanes are exact values delivered. -/
theorem binaryE_of_delivered {c : BitVec 5 → BitVec 5 → BitVec 5 → BitVec 3 → BitVec 2 → BitVec 4 → Instr} {f : Fmt} (hf : f.Regular)
    (h16 : 2 * f.signBit = 2 ^ 16) (g : Nat → Nat → Nat → FV)
    (he : ∀ d a b i p t s, exec (c d a b i p t) s = s.genE (rq d (some a) (some b) i p 4)
      (fun x => retP d t (two (fun z x y => lx (f.deliver (g z x y))) x.d x.a.data x.b.data))) :
    BinaryE 4 c (OnTwo fun z x y => lx (f.deliver (g z x y))) :=
  binaryE_of_two _ he fun _ _ _ _ _ => h16 ▸ hf.deliver_code_lt _

/-- R174: a packed instruction whose lanes are selected operands. -/
theorem binaryE_of_picked {c : BitVec 5 → BitVec 5 → BitVec 5 → BitVec 3 → BitVec 2 → BitVec 4 → Instr} {f : Fmt} (hf : f.Regular)
    (h16 : 2 * f.signBit = 2 ^ 16) (mx : Bool)
    (he : ∀ d a b i p t s, exec (c d a b i p t) s = s.genE (rq d (some a) (some b) i p 4)
      (fun x => retP d t (two (fun _ x y => f.pick mx x y) x.d x.a.data x.b.data))) :
    BinaryE 4 c (OnTwo fun _ x y => f.pick mx x y) :=
  binaryE_of_two _ he fun _ _ _ hx hy => h16 ▸ hf.pick_code_lt mx (h16 ▸ hx) (h16 ▸ hy)

theorem bf16_lane : 2 * bf16.signBit = 2 ^ 16 := rfl
theorem fp16_lane : 2 * fp16.signBit = 2 ^ 16 := rfl

/-- Settles O31: each lane is an exact value delivered or an operand selected, whose code fits the lane; the two formats' NaNs and
infinities are those of their constants. -/
theorem packedFloat : Obligations.PackedFloat := by
  have hinf : ∀ {f : Fmt} {c : Nat}, f.signBit = 0x8000 → (2 ^ f.eb - 1) * 2 ^ f.mb = c →
      ∀ s, f.deliver (.inf s) = { code := (if s then 0x8000 else 0) + c } := by
    intro f c hs hc s
    rw [Fmt.deliver, Fmt.infR, hs, hc]
  refine ⟨⟨rfl, hinf rfl rfl, fun _ _ _ => rfl⟩, ⟨rfl, hinf rfl rfl, fun _ _ _ => rfl⟩,
    fun mx => ⟨fun a b _ _ => Fmt.pick_spec mx (bf16_keyed a) (bf16_keyed b), fun a b _ _ => Fmt.pick_spec mx (fp16_keyed a) (fp16_keyed b)⟩,
    fun x y => ⟨FV.productOf_mul x y, FV.neg_rat y, FV.neg_sign, FV.add_eq_nan, fun s => FV.add_eq_inf, FV.add_finite⟩,
    ?badd2, ?bsub2, ?bmul2, ?bfma2, ?bmax2, ?bmin2, ?hadd2, ?hsub2, ?hmul2, ?hfma2, ?hmax2, ?hmin2⟩
  case badd2 => exact binaryE_of_delivered bf16_regular bf16_lane (fun _ a b => (bf16.value a).add (bf16.value b)) fun _ _ _ _ _ _ _ => rfl
  case bsub2 =>
    exact binaryE_of_delivered bf16_regular bf16_lane (fun _ a b => (bf16.value a).add (bf16.value b).neg) fun _ _ _ _ _ _ _ => rfl
  case bmul2 => exact binaryE_of_delivered bf16_regular bf16_lane (fun _ a b => (bf16.value a).mul (bf16.value b)) fun _ _ _ _ _ _ _ => rfl
  case bfma2 =>
    exact binaryE_of_delivered bf16_regular bf16_lane (fun c a b => ((bf16.value a).mul (bf16.value b)).add (bf16.value c))
      fun _ _ _ _ _ _ _ => rfl
  case bmax2 => exact binaryE_of_picked bf16_regular bf16_lane true fun _ _ _ _ _ _ _ => rfl
  case bmin2 => exact binaryE_of_picked bf16_regular bf16_lane false fun _ _ _ _ _ _ _ => rfl
  case hadd2 => exact binaryE_of_delivered fp16_regular fp16_lane (fun _ a b => (fp16.value a).add (fp16.value b)) fun _ _ _ _ _ _ _ => rfl
  case hsub2 =>
    exact binaryE_of_delivered fp16_regular fp16_lane (fun _ a b => (fp16.value a).add (fp16.value b).neg) fun _ _ _ _ _ _ _ => rfl
  case hmul2 => exact binaryE_of_delivered fp16_regular fp16_lane (fun _ a b => (fp16.value a).mul (fp16.value b)) fun _ _ _ _ _ _ _ => rfl
  case hfma2 =>
    exact binaryE_of_delivered fp16_regular fp16_lane (fun c a b => ((fp16.value a).mul (fp16.value b)).add (fp16.value c))
      fun _ _ _ _ _ _ _ => rfl
  case hmax2 => exact binaryE_of_picked fp16_regular fp16_lane true fun _ _ _ _ _ _ _ => rfl
  case hmin2 => exact binaryE_of_picked fp16_regular fp16_lane false fun _ _ _ _ _ _ _ => rfl

end Sys2Proof.Machine
end

section
/-! Narrowing and widening (R175 to R178): one operand rounded once to a narrower format, and a narrow lane as an FP32 word. -/

namespace Sys2Proof.Machine

/-! Narrowing. -/

/-- R41, R175: the conversion's three kinds of operand. -/
theorem narrowed_cvt (F : Fmt) (z sat : Bool) (c : Word) :
    Narrowed F z sat c (F.cvt z sat c.toNat).code (F.cvt z sat c.toNat).x (F.cvt z sat c.toNat).inc := by
  refine ⟨fun h => ?nan, fun s h hi => ?inf, fun s h hi => ?saturated, fun neg m e h => ?fin⟩
  case nan => rw [Fmt.cvt, h]; exact ⟨rfl, rfl, rfl⟩
  case inf => rw [Fmt.cvt, h]; dsimp only; rw [if_pos hi]; exact ⟨rfl, rfl, rfl⟩
  case saturated => rw [Fmt.cvt, h]; dsimp only; rw [if_neg (by simp [hi])]; exact ⟨rfl, rfl, rfl⟩
  case fin => rw [Fmt.cvt, h]; exact ⟨rfl, rfl, rfl⟩

theorem Fmt.Regular.cvt_code_lt {F : Fmt} (hF : F.Regular) (z sat : Bool) (c : Nat) : (F.cvt z sat c).code < 2 * F.signBit := by
  unfold Fmt.cvt
  split
  · exact hF.nan_code_lt
  · next s _ =>
    split
    · exact F.infR_code_lt s {}
    · have hmax := hF.maxCode_lt
      dsimp only
      split <;> omega
  · exact hF.round_code_lt z sat _

/-- R177: the conversion to a nibble, operand by operand. -/
theorem narrowedQ_cvtq4 (z : Bool) (c : Word) (k : Nat) :
    NarrowedQ z c k (cvtq4 z c.toNat k).code (cvtq4 z c.toNat k).x (cvtq4 z c.toNat k).inc := by
  refine ⟨fun h => ?nan, fun s h => ?inf, fun hz => ?zero, fun hfin hz hk => ?zeroScale, fun neg m e h hm hk => ?quotient⟩
  case nan => rw [cvtq4, h]; exact ⟨rfl, rfl, rfl⟩
  case inf => rw [cvtq4, h]; exact ⟨rfl, rfl, rfl⟩
  case zero =>
    match hv : fp32.value c.toNat, hz with
    | .fin neg m e, hz =>
      obtain rfl := (FV.zero_fin _ _ _).1 hz
      have hq : cvtq4 z c.toNat k = { code := if neg then 0x8 else 0x0 } := by simp only [cvtq4, hv, if_true, ite_self]
      rw [hq]
      exact ⟨rfl, rfl, rfl⟩
  case zeroScale =>
    obtain ⟨neg, m, e, hv⟩ := FV.finite_iff.1 hfin
    have hm : m ≠ 0 := fun h0 => by
      rw [hv, (FV.zero_fin neg m e).2 h0] at hz
      simp at hz
    have hq : cvtq4 z c.toNat k = { code := if neg then 0xF else 0x7, x := true, inc := { sat := 1 } } := by
      simp only [cvtq4, hv, hk, if_true, if_neg hm]
    rw [hq, hv]
    exact ⟨rfl, rfl, rfl⟩
  case quotient => simp only [cvtq4, h, if_neg hm, if_neg hk, and_self]

theorem cvtq4_code_lt (z : Bool) (c k : Nat) : (cvtq4 z c k).code < 16 := by
  have hsign : ∀ (neg : Bool) (x y : Nat), x < 16 → y < 16 → (if neg then x else y) < 16 := fun neg x y hx hy => by
    cases neg <;> assumption
  unfold cvtq4
  split
  · decide
  · exact hsign _ _ _ (by decide) (by decide)
  · dsimp only
    split
    · split <;> exact hsign _ _ _ (by decide) (by decide)
    split
    · exact hsign _ _ _ (by decide) (by decide)
    · exact e2m1_regular.round_code_lt z true _

/-! Lanes of a word. -/

/-- Two 8-bit codes above the upper half of the old word. -/
theorem fldN_shift8 (d : Word) {x y : Nat} (hx : x < 2 ^ 8) (hy : y < 2 ^ 8) :
    let v := Word.ofNat (d.toNat / 2 ^ 16 + x * 2 ^ 16 + y * 2 ^ 24)
    fldN v 0 16 = fldN d 16 16 ∧ fldN v 16 8 = x ∧ fldN v 24 8 = y := by
  have hd := d.isLt
  unfold fldN
  dsimp only
  rw [Word.toNat_ofNat_of_lt (by omega)]
  omega

/-- A nibble above the upper 28 bits of the old word. -/
theorem fldN_shift4 (d : Word) {x : Nat} (hx : x < 16) :
    let v := Word.ofNat (d.toNat / 16 + x * 2 ^ 28)
    fldN v 0 28 = fldN d 4 28 ∧ fldN v 28 4 = x := by
  have hd := d.isLt
  unfold fldN
  dsimp only
  rw [Word.toNat_ofNat_of_lt (by omega)]
  omega

/-- R175: A and B in the two lanes of a 16-bit format. -/
def PairOf (F : Fmt) (z : Bool) (a b v : Word) (f : Bool) (n : Inc) : Prop :=
  ∃ x0 x1 n0 n1, Narrowed F z z a (fldN v 0 16) x0 n0 ∧ Narrowed F z z b (fldN v 16 16) x1 n1 ∧ f = (x0 || x1) ∧ n = n0.plus n1

/-- R176: two FP8 codes shifted into the top. -/
def ShiftedFp8 (F : Fmt) (z : Bool) (d a b v : Word) (f : Bool) (n : Inc) : Prop :=
  fldN v 0 16 = fldN d 16 16 ∧ ∃ x0 x1 n0 n1, Narrowed F z true a (fldN v 16 8) x0 n0 ∧ Narrowed F z true b (fldN v 24 8) x1 n1
    ∧ f = (x0 || x1) ∧ n = n0.plus n1

/-- R177: one nibble shifted into the top. -/
def ShiftedFp4 (z : Bool) (d a b v : Word) (f : Bool) (n : Inc) : Prop :=
  fldN v 0 28 = fldN d 4 28 ∧ NarrowedQ z a (fldN b 0 8) (fldN v 28 4) f n

theorem binaryE_of_cvt2 {c : BitVec 5 → BitVec 5 → BitVec 5 → BitVec 3 → BitVec 2 → BitVec 4 → Instr} {F : Fmt} (hF : F.Regular)
    (h16 : 2 * F.signBit = 2 ^ 16) (z : Bool)
    (he : ∀ d a b i p t s, exec (c d a b i p t) s = s.genE (rq d (some a) (some b) i p 4)
      (fun x => retP d t (cvt2 F z x.a.data x.b.data))) : BinaryE 4 c (fun _ => PairOf F z) :=
  binaryE_of_genE (r := fun _ a b => cvt2 F z a b) he fun _ a b => by
    obtain ⟨hlow, hhigh⟩ := fldN_two (h16 ▸ hF.cvt_code_lt z z a.toNat) (h16 ▸ hF.cvt_code_lt z z b.toNat)
    exact ⟨_, _, _, _, hlow.symm ▸ narrowed_cvt F z z a, hhigh.symm ▸ narrowed_cvt F z z b, rfl, rfl⟩

theorem binaryE_of_cvt8 {c : BitVec 5 → BitVec 5 → BitVec 5 → BitVec 3 → BitVec 2 → BitVec 4 → Instr} {F : Fmt} (hF : F.Regular)
    (h8 : 2 * F.signBit = 2 ^ 8) (z : Bool)
    (he : ∀ d a b i p t s, exec (c d a b i p t) s = s.genE (rq d (some a) (some b) i p 4)
      (fun x => retP d t (cvt8 F z x.d x.a.data x.b.data))) : BinaryE 4 c (ShiftedFp8 F z) :=
  binaryE_of_genE (r := cvt8 F z) he fun d a b => by
    obtain ⟨hold, hlow, hhigh⟩ := fldN_shift8 d (h8 ▸ hF.cvt_code_lt z true a.toNat) (h8 ▸ hF.cvt_code_lt z true b.toNat)
    exact ⟨hold, _, _, _, _, hlow.symm ▸ narrowed_cvt F z true a, hhigh.symm ▸ narrowed_cvt F z true b, rfl, rfl⟩

theorem binaryE_of_cvt4 {c : BitVec 5 → BitVec 5 → BitVec 5 → BitVec 3 → BitVec 2 → BitVec 4 → Instr} (z : Bool)
    (he : ∀ d a b i p t s, exec (c d a b i p t) s = s.genE (rq d (some a) (some b) i p 4)
      (fun x => retP d t (cvt4 z x.d x.a.data x.b.data))) : BinaryE 4 c (ShiftedFp4 z) :=
  binaryE_of_genE (r := cvt4 z) he fun d a b => by
    obtain ⟨hold, hnew⟩ := fldN_shift4 d (cvtq4_code_lt z a.toNat (fldN b 0 8))
    exact ⟨hold, hnew.symm ▸ narrowedQ_cvtq4 z a (fldN b 0 8)⟩

/-! Widening. -/

/-- R178: a narrow code delivered as an FP32 word of the same value. -/
def WidensTo (F : Fmt) (c : Nat) (v : Word) (f : Bool) (n : Inc) : Prop :=
  (F.value c = .nan → v = 0x7FC00000 ∧ f = true ∧ n = { nan := 1 })
    ∧ (F.value c ≠ .nan → f = false ∧ n = {} ∧ (fp32.value v.toNat).sign = (F.value c).sign
        ∧ (∀ s, F.value c = .inf s → fp32.value v.toNat = .inf s)
        ∧ ((F.value c).finite = true → (fp32.value v.toNat).finite = true ∧ (fp32.value v.toNat).rat = (F.value c).rat))

theorem FV.rat_congr {m m' : Nat} {e e' : Int} (h : (m : Rat) * (2 : Rat) ^ e = (m' : Rat) * (2 : Rat) ^ e') (neg : Bool) :
    (FV.fin neg m e).rat = (FV.fin neg m' e').rat := by
  cases neg <;> simp [h]

/-- The word of a delivered infinity. -/
theorem fp32_infR_word (s : Bool) : fp32.value (Word.ofNat (fp32.infR s).code).toNat = .inf s := by cases s <;> decide

/-- A format whose numbers are all FP32 numbers. -/
structure Fmt.Narrow (F : Fmt) : Prop where
  regular : F.Regular
  fine : -149 ≤ 1 - F.bias - F.mb
  short : F.mb + 1 ≤ 24
  range : (2 : Int) ^ F.eb - F.bias ≤ if F.ieee then 129 else 128

theorem Fmt.Narrow.widensTo {F : Fmt} (hF : F.Narrow) (c : Nat) :
    WidensTo F c (Word.ofNat (F.widen c).1.code) (F.widen c).2 (F.widen c).1.inc := by
  unfold WidensTo Fmt.widen
  match hv : F.value c with
  | .nan => exact ⟨fun _ => ⟨rfl, rfl, rfl⟩, fun h => absurd rfl h⟩
  | .inf s =>
    refine ⟨fun h => by simp at h, fun _ => ?_⟩
    dsimp only [Fmt.deliver]
    rw [fp32_infR_word]
    exact ⟨rfl, rfl, rfl, fun _ h => h, by simp⟩
  | .fin neg m e =>
    obtain ⟨hlo, hhi, hm, hieee⟩ := hF.regular.value_bounds hv
    have hbits := bits_le.2 hm
    have hfine := hF.fine
    have hshort := hF.short
    have hrange := hF.range
    have htop : e + bits m ≤ 128 := by
      cases hi : F.ieee with
      | false => rw [hi, if_neg (by simp)] at hrange; omega
      | true => rw [hi, if_pos rfl] at hrange; have := hieee hi; omega
    obtain ⟨m', e', hval, hrat, hx, hinc⟩ :=
      fp32_round_exact false false neg (hm.trans_le (Nat.pow_le_pow_right (by decide) hshort)) (by omega) htop
    refine ⟨fun h => by simp at h, fun _ => ?_⟩
    dsimp only [Fmt.deliver]
    rw [fp32_round_word, hval]
    exact ⟨rfl, hinc, rfl, by simp, fun _ => ⟨rfl, FV.rat_congr hrat neg⟩⟩

theorem bf16_narrow : bf16.Narrow := ⟨bf16_regular, by decide, by decide, by decide⟩
theorem fp16_narrow : fp16.Narrow := ⟨fp16_regular, by decide, by decide, by decide⟩
theorem e4m3_narrow : e4m3.Narrow := ⟨e4m3_regular, by decide, by decide, by decide⟩
theorem e5m2_narrow : e5m2.Narrow := ⟨e5m2_regular, by decide, by decide, by decide⟩

theorem binaryE_of_widen {c : BitVec 5 → BitVec 5 → BitVec 5 → BitVec 3 → BitVec 2 → BitVec 4 → Instr} {F : Fmt} (hF : F.Narrow)
    (lane : Word → Word → Nat)
    (he : ∀ d a b i p t s, exec (c d a b i p t) s = s.genE (rq d (some a) (some b) i p 4)
      (fun x => retF d t (F.widen (lane x.a.data x.b.data)))) : BinaryE 4 c (fun _ a b => WidensTo F (lane a b)) :=
  binaryE_of_retF (fun _ a b => F.widen (lane a b)) he fun _ a b => hF.widensTo (lane a b)

/-! A nibble times its scale. -/

theorem e2m1_fin (c : Nat) : ∃ neg m e, e2m1.value c = .fin neg m e := by
  match hv : e2m1.value c with
  | .nan =>
    rw [Fmt.value_eq_valueOf, Fmt.valueOf_eq_nan] at hv
    simp [e2m1] at hv
  | .inf s =>
    rw [Fmt.value_eq_valueOf, Fmt.valueOf_eq_inf] at hv
    simp [e2m1] at hv
  | .fin neg m e => exact ⟨neg, m, e, rfl⟩

/-- R44: the numbers and exponents of the E3M5 codes. -/
theorem e3m5_bounds (c : Nat) : (e3m5 c).1 < 64 ∧ -7 ≤ (e3m5 c).2 ∧ (e3m5 c).2 ≤ -1 := by
  unfold e3m5
  dsimp only
  split
  · exact ⟨by omega, by omega, by omega⟩
  · exact ⟨by omega, by omega, by omega⟩

/-- R178: the product of a nibble and its scale is an FP32 number. -/
theorem cvtfq4_spec (lane k : Nat) :
    let r := cvtfq4 lane k
    let x := e2m1.value lane
    r.code < 2 ^ 32 ∧ (fp32.value r.code).finite = true ∧ (fp32.value r.code).rat = x.rat * ((e3m5 k).1 : Rat) * (2 : Rat) ^ (e3m5 k).2
      ∧ (fp32.value r.code).sign = x.sign ∧ r.inc = {} := by
  obtain ⟨neg, m, e, hv⟩ := e2m1_fin lane
  obtain ⟨hlo, hhi, hm, _⟩ := e2m1_regular.value_bounds hv
  obtain ⟨hkm, hke, hke'⟩ := e3m5_bounds k
  have hm4 : m < 4 := hm
  have hlo' : -1 ≤ e := hlo
  have hhi' : e < 2 := hhi
  have hprod : m * (e3m5 k).1 < 2 ^ 8 := by
    have := Nat.mul_le_mul (Nat.le_of_lt_succ hm4) (Nat.le_of_lt_succ hkm)
    omega
  have hbits := bits_le.2 hprod
  obtain ⟨m', e', hval, hrat, _, hinc⟩ := fp32_round_exact false false neg (hprod.trans (by decide)) (show -149 ≤ e + (e3m5 k).2 by omega)
    (by omega)
  simp only [cvtfq4, hv]
  refine ⟨fp32_regular.round_code_lt false false neg, ?_, ?_, ?_, hinc⟩
  · rw [hval]; rfl
  · rw [hval, FV.rat_congr hrat neg, FV.rat_fin, FV.rat_fin, zpow_add₀ two_ne_zero]
    push_cast
    cases neg <;> simp only [Bool.false_eq_true, if_false, if_true] <;> ring
  · rw [hval]; rfl

end Sys2Proof.Machine
end

section
/-! Integers and scale codes (R46, R179, R180). -/

namespace Sys2Proof.Machine

/-! CVTFI. -/

/-- R179: the nearest integer, saturated. -/
def IntegerOf (a v : Word) (f : Bool) (n : Inc) : Prop :=
  (fp32.value a.toNat = .nan → v = 0 ∧ f = true ∧ n = { nan := 1 })
    ∧ (∀ s, fp32.value a.toNat = .inf s → v = (if s then 0x80000000 else 0x7FFFFFFF) ∧ f = true ∧ n = { sat := 1 })
    ∧ ((fp32.value a.toNat).finite = true → ∃ k : Int, (k : Rat) - 1 / 2 ≤ (fp32.value a.toNat).rat
        ∧ (fp32.value a.toNat).rat ≤ (k : Rat) + 1 / 2
        ∧ (((fp32.value a.toNat).rat = (k : Rat) + 1 / 2 ∨ (fp32.value a.toNat).rat = (k : Rat) - 1 / 2) → k % 2 = 0)
        ∧ (2 ^ 31 ≤ k → v = 0x7FFFFFFF ∧ f = true ∧ n = { sat := 1 })
        ∧ (k < -2 ^ 31 → v = 0x80000000 ∧ f = true ∧ n = { sat := 1 })
        ∧ (-2 ^ 31 ≤ k → k < 2 ^ 31 → v.toInt = k ∧ (f = true ↔ (fp32.value a.toNat).rat ≠ (k : Rat))
            ∧ n = (if k = 0 ∧ (fp32.value a.toNat).rat ≠ 0 then { flush := 1 } else {})))

theorem cvtfi_of_fin {a : Word} {neg : Bool} {m : Nat} {e : Int} (hv : fp32.value a.toNat = .fin neg m e) : cvtfi a.toNat =
    if (neg = true ∧ 2 ^ 31 < (onGrid true m e 0).1) ∨ (neg = false ∧ 2 ^ 31 ≤ (onGrid true m e 0).1) then
      { code := if neg then 0x80000000 else 0x7FFFFFFF, x := true, inc := { sat := 1 } }
    else
      { code := (Word.ofInt (if neg then -((onGrid true m e 0).1 : Int) else (onGrid true m e 0).1)).toNat, x := !(onGrid true m e 0).2,
        inc := if (onGrid true m e 0).1 = 0 ∧ m ≠ 0 then { flush := 1 } else {} } := by
  simp only [cvtfi, hv, Bool.not_eq_true']

theorem integerOf_cvtfi (a : Word) : IntegerOf a (Word.ofNat (cvtfi a.toNat).code) (cvtfi a.toNat).x (cvtfi a.toNat).inc := by
  refine ⟨fun h => ?nan, fun s h => ?inf, fun h => ?fin⟩
  case nan => rw [cvtfi, h]; exact ⟨rfl, rfl, rfl⟩
  case inf => rw [cvtfi, h]; cases s <;> exact ⟨rfl, rfl, rfl⟩
  case fin =>
    obtain ⟨neg, m, e, hv⟩ := FV.finite_iff.1 h
    obtain ⟨hnear, hnear', htie⟩ := toNearest_onGrid neg m e
    have hexact := unit_exact_iff true m e
    rw [hv, cvtfi_of_fin hv]
    refine ⟨_, hnear, hnear', htie, fun hbig => ?above, fun hsmall => ?below, fun hlow hhigh => ?inRange⟩
    case above =>
      cases neg
      · rw [if_neg (by simp)] at hbig
        rw [if_pos (.inr ⟨rfl, by omega⟩)]
        exact ⟨rfl, rfl, rfl⟩
      · rw [if_pos rfl] at hbig; omega
    case below =>
      cases neg
      · rw [if_neg (by simp)] at hsmall; omega
      · rw [if_pos rfl] at hsmall
        rw [if_pos (.inl ⟨rfl, by omega⟩)]
        exact ⟨rfl, rfl, rfl⟩
    case inRange =>
      have hfits : ¬ ((neg = true ∧ 2 ^ 31 < (onGrid true m e 0).1) ∨ (neg = false ∧ 2 ^ 31 ≤ (onGrid true m e 0).1)) := by
        cases neg <;> simp only [Bool.false_eq_true, if_false, if_true, Bool.true_eq_false, false_and, true_and, false_or, or_false] at *
          <;> omega
      have hzero : (FV.fin neg m e).rat ≠ 0 ↔ m ≠ 0 := by cases neg <;> simp [(two_zpow_pos e).ne']
      rw [if_neg hfits]
      refine ⟨?value, ?flag, ?count⟩
      case value =>
        refine (congrArg BitVec.toInt (BitVec.ofNat_toNat 32 _)).trans ?_
        exact BitVec.toInt_ofInt_eq_self (by decide) (by omega) (by omega)
      case flag =>
        rw [Bool.not_eq_true', ← Bool.not_eq_true, hexact, not_iff_not, FV.rat_fin]
        cases neg <;> simp [eq_comm]
      case count =>
        simp only [hzero]
        cases neg <;> simp

/-! CVTIF and CVTIFZ. -/

/-- A signed word's magnitude is far below FP32's top, so that its conversion neither flushes nor overflows. -/
theorem cvtif_units {a : Word} (z : Bool) (h : a.toInt.natAbs ≠ 0) :
    fp32.units z a.toInt.natAbs 0 ≠ 0 ∧ ¬ fp32.Overflows (fp32.units z a.toInt.natAbs 0) (fp32.grid a.toInt.natAbs 0) := by
  have hlow := BitVec.le_toInt a
  have hhigh := BitVec.toInt_lt (x := a)
  have hbits : bits a.toInt.natAbs ≤ 32 := bits_le.2 (by omega)
  exact fp32_regular.units_inRange z h (by decide) (show 0 + (bits a.toInt.natAbs : Int) ≤ 127 by omega)

theorem cvtif_inc (z : Bool) (a : Word) : (cvtif z a).inc = {} := by
  unfold cvtif
  by_cases h : a.toInt.natAbs = 0
  · rw [h, Fmt.round_zero]
  · obtain ⟨hk, ho⟩ := cvtif_units z h
    rw [Fmt.round_finite z false _ h hk ho]

/-- R179: the value delivered, and the flag X where it is not the signed word. -/
theorem cvtif_value (z : Bool) (a : Word) : (fp32.value (cvtif z a).code).finite = true
    ∧ ((cvtif z a).x = true ↔ (fp32.value (cvtif z a).code).rat ≠ (a.toInt : Rat)) := by
  unfold cvtif
  have hsigned : (a.toInt : Rat) = (FV.fin (decide (a.toInt < 0)) a.toInt.natAbs 0).rat := by
    have habs : ((a.toInt.natAbs : Nat) : Int) = if a.toInt < 0 then -a.toInt else a.toInt := by split <;> omega
    rw [FV.rat_fin, ← Int.cast_natCast, habs]
    by_cases h : a.toInt < 0 <;> simp [h]
  rw [hsigned]
  generalize decide (a.toInt < 0) = neg
  by_cases h : a.toInt.natAbs = 0
  · rw [h, Fmt.round_zero]
    dsimp only
    rw [fp32_regular.value_signed_zero]
    simp
  · obtain ⟨hk, ho⟩ := cvtif_units z h
    obtain ⟨m', e', hval, hrat, hx, _⟩ := fp32_regular.round_value z false neg h hk ho
    have hexact := fp32.units_exact_iff z a.toInt.natAbs 0
    rw [hval, hx]
    refine ⟨rfl, ?_⟩
    rw [Bool.not_eq_true', ← Bool.not_eq_true, hexact, ← hrat, ne_eq, not_iff_not, FV.rat_fin, FV.rat_fin]
    cases neg <;> simp

/-! QSC. -/

/-- The bound of a scale code, in units of 2^-160. -/
def reach160 (c : Nat) : Nat := 6 * (e3m5 c).1 * 2 ^ ((e3m5 c).2 + 160).toNat

theorem qscFrom_spec {m t : Nat} (ht : m ≤ reach160 t) (n c : Nat) (hct : c ≤ t) (htn : t < c + n) :
    m ≤ reach160 (qscFrom m n c) ∧ qscFrom m n c ≤ t ∧ ∀ c', c ≤ c' → c' < qscFrom m n c → reach160 c' < m := by
  induction n generalizing c with
  | zero => omega
  | succ n ih =>
    have hstep : qscFrom m (n + 1) c = if m ≤ reach160 c then c else qscFrom m n (c + 1) := rfl
    rw [hstep]
    split
    · next h => exact ⟨h, hct, fun c' h1 h2 => by omega⟩
    · next h =>
      have hne : c ≠ t := fun heq => h (heq ▸ ht)
      obtain ⟨hreach, hle, hleast⟩ := ih (c + 1) (by omega) (by omega)
      refine ⟨hreach, hle, fun c' h1 h2 => ?_⟩
      rcases h1.eq_or_lt with rfl | hlt
      · omega
      · exact hleast c' hlt h2

theorem reach160_top : reach160 255 = 189 * 2 ^ 160 := by decide

/-- R46: a bound as a rational. -/
theorem reach160_rat (c : Nat) :
    (6 : Rat) * ((e3m5 c).1 : Rat) * (2 : Rat) ^ (e3m5 c).2 = (reach160 c : Rat) * (2 : Rat) ^ (-160 : Int) := by
  obtain ⟨_, hke, _⟩ := e3m5_bounds c
  rw [reach160, onGrid_scale (show (-160 : Int) ≤ (e3m5 c).2 by omega), show (e3m5 c).2 - -160 = (e3m5 c).2 + 160 by ring]
  push_cast
  ring

/-- R46, R180: the code of a magnitude. -/
theorem qsc_of_fin {a : Word} {neg : Bool} {m : Nat} {e : Int} (hv : fp32.value a.toNat = .fin neg m e) :
    (189 * 2 ^ 160 < m * 2 ^ (e + 160).toNat → qsc a.toNat = ({ code := 0xFF, inc := { sat := 1 } }, true))
    ∧ (m * 2 ^ (e + 160).toNat ≤ 189 * 2 ^ 160 → ∃ c, qsc a.toNat = ({ code := c }, false) ∧ c ≤ 255
        ∧ m * 2 ^ (e + 160).toNat ≤ reach160 c ∧ ∀ c', c' < c → reach160 c' < m * 2 ^ (e + 160).toNat) := by
  simp only [qsc, hv]
  refine ⟨fun h => ?_, fun h => ?_⟩
  · rw [if_neg (by rintro rfl; simp at h), if_pos h]
  · by_cases hm : m = 0
    · subst hm
      exact ⟨0, by simp, by simp, by simp, by simp⟩
    · obtain ⟨hreach, hle, hleast⟩ := qscFrom_spec (t := 255) (reach160_top ▸ h) 256 0 (by decide) (by decide)
      rw [if_neg hm, if_neg (by omega)]
      exact ⟨_, rfl, hle, hreach, fun c' => hleast c' (Nat.zero_le c')⟩

/-- R46, R180: the least code whose bound reaches the operand. -/
def ScaleOf (a v : Word) (f : Bool) (n : Inc) : Prop :=
  let reach := fun c : Nat => (6 : Rat) * ((e3m5 c).1 : Rat) * (2 : Rat) ^ (e3m5 c).2
  let r := (fp32.value a.toNat).rat
  (fp32.value a.toNat = .nan → v = 0xFF ∧ f = true ∧ n = { nan := 1 })
    ∧ (∀ s, fp32.value a.toNat = .inf s → v = 0xFF ∧ f = true ∧ n = { sat := 1 })
    ∧ ((fp32.value a.toNat).finite = true → (189 < r ∨ r < -189) → v = 0xFF ∧ f = true ∧ n = { sat := 1 })
    ∧ ((fp32.value a.toNat).finite = true → -189 ≤ r → r ≤ 189 →
        f = false ∧ n = {} ∧ v.toNat ≤ 0xFF ∧ r ≤ reach v.toNat ∧ -r ≤ reach v.toNat
        ∧ ∀ c, c < v.toNat → reach c < r ∨ reach c < -r)

/-- A rational bound on both signs of an operand is a bound on its scaled magnitude. -/
theorem FV.rat_le_iff {neg : Bool} {m : Nat} {e : Int} (he : -160 ≤ e) (N : Nat) :
    (FV.fin neg m e).rat ≤ (N : Rat) * (2 : Rat) ^ (-160 : Int) ∧ -(FV.fin neg m e).rat ≤ (N : Rat) * (2 : Rat) ^ (-160 : Int)
      ↔ m * 2 ^ (e + 160).toNat ≤ N := by
  have hpos := two_zpow_pos (-160)
  rw [FV.rat_eq_scaled he, ← neg_mul, mul_le_mul_iff_left₀ hpos, mul_le_mul_iff_left₀ hpos, FV.scaled]
  generalize m * 2 ^ (e + 160).toNat = S
  cases neg
  · simp only [Bool.false_eq_true, if_false]
    norm_cast
    omega
  · simp only [if_true]
    norm_cast
    omega

theorem scaleOf_qsc (a : Word) : ScaleOf a (Word.ofNat (qsc a.toNat).1.code) (qsc a.toNat).2 (qsc a.toNat).1.inc := by
  have htop : (189 : Rat) = ((189 * 2 ^ 160 : Nat) : Rat) * (2 : Rat) ^ (-160 : Int) := by
    norm_num
  refine ⟨fun h => ?nan, fun s h => ?inf, fun h hbig => ?above, fun h hlow hhigh => ?within⟩
  case nan => rw [qsc, h]; exact ⟨rfl, rfl, rfl⟩
  case inf => rw [qsc, h]; exact ⟨rfl, rfl, rfl⟩
  case above =>
    obtain ⟨neg, m, e, hv⟩ := FV.finite_iff.1 h
    have he : -160 ≤ e := (fp32_keyed a.toNat neg m e hv).1
    have hbound := FV.rat_le_iff (neg := neg) (m := m) he (189 * 2 ^ 160)
    rw [← htop] at hbound
    rw [hv] at hbig
    have hgt : ¬ m * 2 ^ (e + 160).toNat ≤ 189 * 2 ^ 160 := fun hle => by
      obtain ⟨h1, h2⟩ := hbound.2 hle
      rcases hbig with hbig | hbig <;> linarith
    rw [(qsc_of_fin hv).1 (not_le.1 hgt)]
    exact ⟨rfl, rfl, rfl⟩
  case within =>
    obtain ⟨neg, m, e, hv⟩ := FV.finite_iff.1 h
    have he : -160 ≤ e := (fp32_keyed a.toNat neg m e hv).1
    have hbound := fun N => FV.rat_le_iff (neg := neg) (m := m) he N
    rw [hv] at hlow hhigh ⊢
    have hle : m * 2 ^ (e + 160).toNat ≤ 189 * 2 ^ 160 := by
      rw [← hbound, ← htop]
      exact ⟨hhigh, by linarith⟩
    obtain ⟨c, hq, hc, hreach, hleast⟩ := (qsc_of_fin hv).2 hle
    rw [hq]
    dsimp only
    rw [Word.toNat_ofNat_of_lt (hc.trans_lt (by decide)), reach160_rat]
    obtain ⟨hr, hr'⟩ := (hbound _).2 hreach
    refine ⟨rfl, rfl, hc, hr, hr', fun c' hc' => ?_⟩
    by_contra hnone
    rw [reach160_rat, not_or, not_lt, not_lt, hbound] at hnone
    exact absurd (hleast c' hc') (not_lt.2 hnone)

end Sys2Proof.Machine
end

section
/-! The obligation on the conversions (R46, R175 to R180). -/

namespace Sys2Proof.Machine

/-- Settles O32: each lane narrows or widens alone, and what it delivers fits its place; integers are the nearest, saturated, and
QSC's search finds the least code. That CVTQ4 of zero leaves X clear, also over a zero scale, is the model's choice (log 31). -/
theorem conversions : Obligations.Conversions := by
  refine ⟨?cvtbf, ?cvtbfz, ?cvthf, ?cvthfz, ?cvte4, ?cvte4z, ?cvte5, ?cvte5z, ?cvtq4, ?cvtq4z, ?cvtfb, ?cvtfh, ?cvtfe4, ?cvtfe5,
    ?cvtfq4, ?cvtfi, ?cvtif, ?cvtifz, ?qsc⟩
  case cvtbf => exact binaryE_of_cvt2 bf16_regular bf16_lane false fun _ _ _ _ _ _ _ => rfl
  case cvtbfz => exact binaryE_of_cvt2 bf16_regular bf16_lane true fun _ _ _ _ _ _ _ => rfl
  case cvthf => exact binaryE_of_cvt2 fp16_regular fp16_lane false fun _ _ _ _ _ _ _ => rfl
  case cvthfz => exact binaryE_of_cvt2 fp16_regular fp16_lane true fun _ _ _ _ _ _ _ => rfl
  case cvte4 => exact binaryE_of_cvt8 e4m3_regular rfl false fun _ _ _ _ _ _ _ => rfl
  case cvte4z => exact binaryE_of_cvt8 e4m3_regular rfl true fun _ _ _ _ _ _ _ => rfl
  case cvte5 => exact binaryE_of_cvt8 e5m2_regular rfl false fun _ _ _ _ _ _ _ => rfl
  case cvte5z => exact binaryE_of_cvt8 e5m2_regular rfl true fun _ _ _ _ _ _ _ => rfl
  case cvtq4 => exact binaryE_of_cvt4 false fun _ _ _ _ _ _ _ => rfl
  case cvtq4z => exact binaryE_of_cvt4 true fun _ _ _ _ _ _ _ => rfl
  case cvtfb => exact binaryE_of_widen bf16_narrow (fun a b => fldN a (16 * fldN b 0 1) 16) fun _ _ _ _ _ _ _ => rfl
  case cvtfh => exact binaryE_of_widen fp16_narrow (fun a b => fldN a (16 * fldN b 0 1) 16) fun _ _ _ _ _ _ _ => rfl
  case cvtfe4 => exact binaryE_of_widen e4m3_narrow (fun a b => fldN a (8 * fldN b 0 2) 8) fun _ _ _ _ _ _ _ => rfl
  case cvtfe5 => exact binaryE_of_widen e5m2_narrow (fun a b => fldN a (8 * fldN b 0 2) 8) fun _ _ _ _ _ _ _ => rfl
  case cvtfq4 =>
    refine binaryE_of_retF (fun _ a b => (cvtfq4 (fldN a (4 * fldN b 8 3) 4) (fldN b 0 8),
      (cvtfq4 (fldN a (4 * fldN b 8 3) 4) (fldN b 0 8)).code != 0)) (fun _ _ _ _ _ _ _ => rfl) fun _ a b => ?_
    obtain ⟨hlt, hfin, hrat, hsign, hinc⟩ := cvtfq4_spec (fldN a (4 * fldN b 8 3) 4) (fldN b 0 8)
    have hword := Word.toNat_ofNat_of_lt hlt
    dsimp only
    rw [hword]
    refine ⟨hfin, hrat, hsign, ?_, hinc⟩
    rw [bne_iff_ne, ne_eq, ne_eq, not_iff_not]
    exact ⟨fun h => by rw [h]; rfl, fun h => by rw [← hword, h]; rfl⟩
  case cvtfi => exact unaryE_of_retF (fun a => lx (cvtfi a.toNat)) (fun _ _ _ _ _ _ => rfl) integerOf_cvtfi
  case cvtif =>
    exact unaryE_of_retF (fun a => lx (cvtif false a)) (fun _ _ _ _ _ _ => rfl) fun a =>
      ⟨⟨_, _, _, rfl, rfl, rfl, rfl⟩, cvtif_inc false a⟩
  case cvtifz =>
    refine unaryE_of_retF (fun a => lx (cvtif true a)) (fun _ _ _ _ _ _ => rfl) fun a => ?_
    obtain ⟨hfin, hx⟩ := cvtif_value true a
    have hword : (Word.ofNat (cvtif true a).code).toNat = (cvtif true a).code := fp32_round_word _ _ _ _ _
    dsimp only [lx]
    rw [hword]
    exact ⟨hfin, hx, cvtif_inc true a, rfl⟩
  case qsc => exact unaryE_of_retF (fun a => qsc a.toNat) (fun _ _ _ _ _ _ => rfl) scaleOf_qsc

end Sys2Proof.Machine
end

section
/-! The quotient and the square root of FP32 (R165, R166). -/

namespace Sys2Proof.Machine

/-! FDIV. -/

/-- What FP32 delivers of a result. -/
def Delivers (r : FR) (v : Word) (f : Bool) (n : Inc) : Prop := v = Word.ofNat r.code ∧ f = r.x ∧ n = r.inc

/-- R165: the quotient of two operands. -/
def QuotientOf (x y : FV) (v : Word) (f : Bool) (n : Inc) : Prop :=
  ((x = .nan ∨ y = .nan ∨ (x.zero = true ∧ y.zero = true) ∨ (∃ s t, x = .inf s ∧ y = .inf t)) → IsNanResult v f n)
  ∧ (x.finite = true → x.zero = false → y.zero = true →
      v = (if x.sign != y.sign then 0xFF800000 else 0x7F800000) ∧ f = false ∧ n = { inf := 1 })
  ∧ (∀ s, x = .inf s → y.finite = true → IsInfResult (s != y.sign) v f n)
  ∧ (∀ s, y = .inf s → x.finite = true → v = (if x.sign != s then 0x80000000 else 0) ∧ f = false ∧ n = {})
  ∧ (∀ na ma ea nb mb eb, x = .fin na ma ea → y = .fin nb mb eb → mb ≠ 0 →
      Delivers (fp32.round false false (na != nb) (quot ma ea mb eb).1 (quot ma ea mb eb).2) v f n)

theorem quotientOf_div (x y : FV) : QuotientOf x y (Word.ofNat (fp32.div x y).code) (fp32.div x y).x (fp32.div x y).inc := by
  refine ⟨fun h => ?nan, fun hx hnz hy => ?byZero, fun s hx hy => ?infinite, fun s hy hx => ?byInfinite, ?finite⟩
  case nan =>
    have hdiv : fp32.div x y = fp32.nanR := by
      rcases h with rfl | rfl | ⟨hx, hy⟩ | ⟨s, t, rfl, rfl⟩
      · rfl
      · cases x <;> rfl
      · match x, y, hx, hy with
        | .fin na ma ea, .fin nb mb eb, hx, hy =>
          simp only [Fmt.div, (FV.zero_fin _ _ _).1 hx, (FV.zero_fin _ _ _).1 hy, if_true]
      · rfl
    rw [hdiv]
    exact ⟨rfl, rfl, rfl⟩
  case byZero =>
    match x, y, hx, hy with
    | .fin na ma ea, .fin nb mb eb, _, hy =>
      have hma : ma ≠ 0 := fun h0 => by rw [(FV.zero_fin na ma ea).2 h0] at hnz; simp at hnz
      have hdiv : fp32.div (.fin na ma ea) (.fin nb mb eb) = fp32.infR (na ^^ nb) { inf := 1 } := by
        simp only [Fmt.div, (FV.zero_fin _ _ _).1 hy, if_true, if_neg hma]
      rw [hdiv]
      cases na <;> cases nb <;> exact ⟨rfl, rfl, rfl⟩
  case infinite =>
    obtain ⟨nb, mb, eb, rfl⟩ := FV.finite_iff.1 hy
    subst hx
    exact fp32_infR (s != nb)
  case byInfinite =>
    obtain ⟨na, ma, ea, rfl⟩ := FV.finite_iff.1 hx
    subst hy
    cases na <;> cases s <;> exact ⟨rfl, rfl, rfl⟩
  case finite =>
    rintro na ma ea nb mb eb rfl rfl hmb
    simp only [Fmt.div, if_neg hmb]
    exact ⟨rfl, rfl, rfl⟩

/-! The integer root. -/

theorem isqrt_bounds (x n r : Nat) (hlow : r * r ≤ x) (hhigh : x < (r + 2 ^ n) * (r + 2 ^ n)) :
    isqrt x n r * isqrt x n r ≤ x ∧ x < (isqrt x n r + 1) * (isqrt x n r + 1) := by
  induction n generalizing r with
  | zero => exact ⟨hlow, hhigh⟩
  | succ n ih =>
    simp only [isqrt]
    split
    · next h => exact ih _ h (by rwa [Nat.add_assoc, ← Nat.two_mul, ← pow_succ'])
    · next h => exact ih _ hlow (not_le.1 h)

theorem isqrt_eq_sqrt {x : Nat} (h : x < 2 ^ 64 * 2 ^ 64) : isqrt x 64 0 = Nat.sqrt x := by
  obtain ⟨hlow, hhigh⟩ := isqrt_bounds x 64 0 (Nat.zero_le x) (by simpa using h)
  exact Nat.eq_sqrt.2 ⟨hlow, hhigh⟩

/-- R166: the number that FSQRT rounds: twice the integer root, and a last bit for what is left. -/
def rootNumber (X : Nat) : Nat := 2 * Nat.sqrt X + (if Nat.sqrt X * Nat.sqrt X = X then 0 else 1)

/-- The nearest count to `rootNumber X` on a grid of 4 `P` is the nearest to the root itself, where no midpoint is the root. -/
theorem rootNumber_nearest {n X k P : Nat} (hn : n = rootNumber X) (hk : 1 ≤ k) (hup : 2 * n ≤ (2 * k + 1) * (4 * P))
    (hlow : 2 * k * (4 * P) ≤ 2 * n + 4 * P) (hmid : ∀ q, 2 * k - 1 ≤ q → q % 2 = 1 → (q * P) * (q * P) ≠ X) :
    ((2 * k - 1) * P) * ((2 * k - 1) * P) < X ∧ X < ((2 * k + 1) * P) * ((2 * k + 1) * P)
      ∧ (k * (4 * P) = n ↔ (k * (2 * P)) * (k * (2 * P)) = X)
      ∧ (k * (4 * P) ≤ n → (k * (2 * P)) * (k * (2 * P)) ≤ X) := by
  have hroot := Nat.sqrt_le X
  have hnext := Nat.lt_succ_sqrt X
  have hup' : n ≤ 2 * ((2 * k + 1) * P) := by
    rw [show (2 * k + 1) * (4 * P) = 4 * ((2 * k + 1) * P) by ring] at hup
    omega
  have hlow' : 2 * ((2 * k - 1) * P) ≤ n := by
    obtain ⟨j, rfl⟩ : ∃ j, k = j + 1 := ⟨k - 1, by omega⟩
    rw [show 2 * (j + 1) * (4 * P) = 4 * ((2 * (j + 1) - 1) * P) + 4 * P by rw [show 2 * (j + 1) - 1 = 2 * j + 1 by omega]; ring] at hlow
    omega
  have hlowSq := hmid (2 * k - 1) le_rfl (by omega)
  have hupSq := hmid (2 * k + 1) (by omega) (by omega)
  have hself : ∀ D, D * D = X → Nat.sqrt X = D := fun D h => h ▸ Nat.sqrt_eq D
  have hpair : k * (4 * P) = 2 * (k * (2 * P)) := by ring
  rw [hpair]
  rw [rootNumber] at hn
  subst hn
  generalize (2 * k - 1) * P = A at *
  generalize (2 * k + 1) * P = C at *
  generalize k * (2 * P) = D at *
  generalize Nat.sqrt X = r at *
  refine ⟨?below, ?above, ⟨fun h => ?_, fun h => ?_⟩, fun h => ?_⟩
  case below =>
    have hA : A ≤ r := by split at hlow' <;> omega
    exact lt_of_le_of_ne ((Nat.mul_le_mul hA hA).trans hroot) hlowSq
  case above =>
    have hC : r ≤ C := by split at hup' <;> omega
    rcases hC.lt_or_eq with hlt | rfl
    · exact hnext.trans_le (Nat.mul_le_mul hlt hlt)
    · rw [if_neg hupSq] at hup'
      omega
  · split at h
    · next hX =>
      obtain rfl : D = r := by omega
      exact hX
    · omega
  · obtain rfl := hself D h
    rw [if_pos h, Nat.add_zero]
  · have hD : D ≤ r := by split at h <;> omega
    exact (Nat.mul_le_mul hD hD).trans hroot

/-- An odd square above `m` is no divisor of `m` times a power of two. -/
theorem odd_square_ne {m q P s : Nat} (hm : m ≠ 0) (hq : q % 2 = 1) (hbig : m < q * q) :
    (q * P) * (q * P) ≠ m * 2 ^ s := by
  intro h
  have hcop : Nat.Coprime (q * q) (2 ^ s) := by
    have hodd : Nat.Coprime q 2 := (Nat.coprime_two_right).2 (Nat.odd_iff.2 hq)
    exact (hodd.mul_left hodd).pow_right s
  have hdvd : q * q ∣ m * 2 ^ s := ⟨P * P, by rw [← h]; ring⟩
  exact absurd (Nat.le_of_dvd (Nat.pos_of_ne_zero hm) (hcop.dvd_of_dvd_mul_right hdvd)) (not_le.2 hbig)

/-! FSQRT. -/

/-- The even part of an operand's exponent that its root's exponent halves, and what is left with the number. -/
theorem root_exponent (e : Int) : ∃ (s : Nat) (h : Int), s = (if e % 2 = 0 then 80 else 81)
    ∧ ((if e % 2 = 0 then e else e - 1) - 80) / 2 = h ∧ e = s + 2 * h := by
  split
  · exact ⟨80, _, rfl, rfl, by omega⟩
  · exact ⟨81, _, rfl, rfl, by omega⟩

/-- The root of a positive number is the root of an integer, scaled. -/
theorem fp32_sqrt_fin {m : Nat} {e : Int} (hm : m ≠ 0) (hlt : m < 2 ^ 24) : ∃ (s : Nat) (h : Int), (s = 80 ∨ s = 81) ∧ e = s + 2 * h
    ∧ fp32.sqrt (.fin false m e) = fp32.round false false false (rootNumber (m * 2 ^ s)) (h - 1) := by
  obtain ⟨s, h, hs, hh, he⟩ := root_exponent e
  have hs' : s = 80 ∨ s = 81 := by rw [hs]; split <;> simp
  refine ⟨s, h, hs', he, ?_⟩
  have hX : m * 2 ^ s < 2 ^ 64 * 2 ^ 64 := by
    calc m * 2 ^ s < 2 ^ 24 * 2 ^ s := Nat.mul_lt_mul_of_pos_right hlt (Nat.two_pow_pos s)
      _ ≤ 2 ^ 24 * 2 ^ 81 := Nat.mul_le_mul_left _ (Nat.pow_le_pow_right (by decide) (by omega))
      _ ≤ 2 ^ 64 * 2 ^ 64 := by norm_num
  simp only [Fmt.sqrt, if_neg hm, Bool.false_eq_true, if_false, ← hs, hh, isqrt_eq_sqrt hX, rootNumber]

/-- The integer root has 41 to 53 bits, so that 17 bits or more are rounded away. -/
theorem rootNumber_bits {m s : Nat} (hm : m ≠ 0) (hlt : m < 2 ^ 24) (hs : s = 80 ∨ s = 81) :
    41 < bits (rootNumber (m * 2 ^ s)) ∧ bits (rootNumber (m * 2 ^ s)) ≤ 54 := by
  have hlow : 2 ^ 40 ≤ Nat.sqrt (m * 2 ^ s) := by
    rw [Nat.le_sqrt, ← pow_add]
    calc 2 ^ (40 + 40) ≤ 2 ^ s := Nat.pow_le_pow_right (by decide) (by omega)
      _ ≤ m * 2 ^ s := Nat.le_mul_of_pos_left _ (Nat.pos_of_ne_zero hm)
  have hhigh : Nat.sqrt (m * 2 ^ s) < 2 ^ 53 := by
    rw [Nat.sqrt_lt, ← pow_add]
    calc m * 2 ^ s < 2 ^ 24 * 2 ^ s := Nat.mul_lt_mul_of_pos_right hlt (Nat.two_pow_pos s)
      _ = 2 ^ (24 + s) := (pow_add ..).symm
      _ ≤ 2 ^ (53 + 53) := Nat.pow_le_pow_right (by decide) (by omega)
  rw [lt_bits, bits_le]
  unfold rootNumber
  split <;> omega

/-- R166: what FSQRT delivers of a positive number `x`: the nearest normal number, by the squares of its midpoints. -/
def RootOf (x : Rat) (v : FV) (f : Bool) : Prop :=
  ∃ (k : Nat) (g : Int), v = .fin false k g ∧ 2 ^ 23 ≤ k ∧ k < 2 ^ 24
    ∧ (2 * (k : Rat) - 1) ^ 2 * (4 : Rat) ^ g < 4 * x ∧ 4 * x < (2 * (k : Rat) + 1) ^ 2 * (4 : Rat) ^ g
    ∧ (k = 2 ^ 23 → (4 * (k : Rat) - 1) ^ 2 * (4 : Rat) ^ g < 16 * x)
    ∧ (f = true ↔ (k : Rat) ^ 2 * (4 : Rat) ^ g ≠ x)

/-- The same of a count of at most 2^24, before it is normalised. -/
structure RootCount (x : Rat) (k : Nat) (g : Int) : Prop where
  ge : 2 ^ 23 ≤ k
  le : k ≤ 2 ^ 24
  below : (2 * (k : Rat) - 1) ^ 2 * (4 : Rat) ^ g < 4 * x
  above : 4 * x < (2 * (k : Rat) + 1) ^ 2 * (4 : Rat) ^ g
  least : k = 2 ^ 23 → (4 * (k : Rat) - 1) ^ 2 * (4 : Rat) ^ g < 16 * x

/-- A carry into the next binade leaves the same value on a grid twice as coarse. -/
theorem RootCount.rootOf {x : Rat} {k : Nat} {g : Int} (h : RootCount x k g) (ho : ¬ fp32.Overflows k g) (hfit : fp32.Fits k g)
    (hnormal : -126 ≤ g + bits k - 1) {f : Bool} (hf : f = true ↔ (k : Rat) ^ 2 * (4 : Rat) ^ g ≠ x) :
    RootOf x (fp32.value (fp32.finCode false k g)) f := by
  have hk : k ≠ 0 := by have := h.ge; omega
  rw [hfit.value_normal hk fp32_regular ho false hnormal]
  rcases h.le.lt_or_eq with hlt | rfl
  · have hbits : bits k = 24 := bits_eq h.ge hlt
    have hsig : fp32.sigOf k = k := by simp [Fmt.sigOf, fp32, hbits]
    refine ⟨k, g, ?_, h.ge, hlt, h.below, h.above, h.least, hf⟩
    rw [hsig, hbits]
    congr 1
    show g + 24 - 1 - 23 = g
    ring
  · have hsig : fp32.sigOf (2 ^ 24) = 2 ^ 23 := by decide
    have hbits : bits (2 ^ 24) = 25 := bits_two_pow 24
    have hpow : (4 : Rat) ^ (g + 1) = 4 * (4 : Rat) ^ g := by rw [zpow_add_one₀ (by norm_num), mul_comm]
    have hpos : (0 : Rat) < (4 : Rat) ^ g := zpow_pos (by norm_num) g
    have hbelow := h.below
    have habove := h.above
    push_cast at hbelow habove hf
    refine ⟨2 ^ 23, g + 1, ?_, le_rfl, by norm_num, ?_, ?_, fun _ => ?_, ?_⟩
    · rw [hsig, hbits]
      congr 1
      show g + 25 - 1 - 23 = g + 1
      ring
    · rw [hpow]; push_cast; linarith
    · rw [hpow]; push_cast; linarith
    · rw [hpow]; push_cast; linarith
    · rw [hf, hpow]; push_cast
      rw [not_iff_not, ← mul_assoc]
      norm_num

/-- A grid step in the root's units. -/
theorem four_zpow_grid (h : Int) (j : Nat) :
    (4 : Rat) ^ (h + j + 1) = 4 * (((2 ^ j : Nat) : Rat) * ((2 ^ j : Nat) : Rat)) * (4 : Rat) ^ h := by
  rw [zpow_add_one₀ (by norm_num), zpow_add₀ (by norm_num), zpow_natCast]
  push_cast
  rw [← mul_pow]
  ring

/-- A positive number as an integer scaled by a power of four. -/
theorem root_scaled (m s : Nat) (h : Int) : (m : Rat) * (2 : Rat) ^ ((s : Int) + 2 * h) = ((m * 2 ^ s : Nat) : Rat) * (4 : Rat) ^ h := by
  rw [zpow_add₀ two_ne_zero, zpow_mul, zpow_natCast]
  push_cast
  ring

/-- R166: the count that FSQRT rounds to, on integers: `2 ^ (j + 2)` is what a grid step holds of the number's units. -/
theorem rootNumber_units {n m s : Nat} {e : Int} (hn : n = rootNumber (m * 2 ^ s)) (hm : m ≠ 0) (hlt : m < 2 ^ 24) (hs : s = 80 ∨ s = 81)
    (hfine : -149 < e + bits n - 24) : ∃ j : Nat, fp32.grid n e = e + j + 2 ∧ 2 ^ 23 ≤ fp32.units false n e
      ∧ ((2 * fp32.units false n e - 1) * 2 ^ j) * ((2 * fp32.units false n e - 1) * 2 ^ j) < m * 2 ^ s
      ∧ m * 2 ^ s < ((2 * fp32.units false n e + 1) * 2 ^ j) * ((2 * fp32.units false n e + 1) * 2 ^ j)
      ∧ (fp32.exact n e = true ↔ (fp32.units false n e * (2 * 2 ^ j)) * (fp32.units false n e * (2 * 2 ^ j)) = m * 2 ^ s)
      ∧ (fp32.units false n e = 2 ^ 23 → (fp32.units false n e * (2 * 2 ^ j)) * (fp32.units false n e * (2 * 2 ^ j)) ≤ m * 2 ^ s) := by
  obtain ⟨hb, _⟩ := rootNumber_bits hm hlt hs
  rw [← hn] at hb
  have hn0 : n ≠ 0 := bits_pos.1 (by omega)
  obtain ⟨j, hj⟩ : ∃ j, bits n = j + 26 := ⟨_, (Nat.sub_add_cancel (by omega)).symm⟩
  have hgrid : fp32.grid n e = e + j + 2 := by
    refine (Fmt.grid_of_above (f := fp32) (show -149 ≤ e + bits n - 1 - 23 by omega)).trans ?_
    show e + bits n - 1 - 23 = e + j + 2
    omega
  have hquad : 2 ^ (fp32.grid n e - e).toNat = 4 * 2 ^ j := by
    rw [show (fp32.grid n e - e).toNat = j + 2 by omega, pow_add, Nat.mul_comm]
    rfl
  have hfull := (fp32.fits_units false hn0 e).full.resolve_left (by rw [hgrid]; show ¬ e + j + 2 = -149; omega)
  have hge : 2 ^ 23 ≤ fp32.units false n e := hfull
  obtain ⟨hup, hlow, _⟩ := onGrid_nearest (m := n) (e := e) (g := fp32.grid n e) (by omega)
  have hcount : (onGrid true n e (fp32.grid n e)).1 = fp32.units false n e := rfl
  rw [hquad, hcount] at hup hlow
  obtain ⟨hbelow, habove, hexact, hleast⟩ := rootNumber_nearest (k := fp32.units false n e) hn (by omega) hup hlow fun q hq hodd =>
    odd_square_ne hm hodd (hlt.trans_le (le_trans (by norm_num) (Nat.mul_le_mul (show 2 ^ 24 - 1 ≤ q by omega) (show 2 ≤ q by omega))))
  refine ⟨j, hgrid, hge, hbelow, habove, ?_, fun h => hleast ?_⟩
  · rw [← hexact, fp32.units_exact_iff false, onGrid_scale (show e ≤ fp32.grid n e by omega), hquad, ← mul_assoc,
      mul_left_inj' (two_zpow_pos e).ne']
    norm_cast
  · have hbits := pow_bits_pred_le hn0
    rw [h]
    calc 2 ^ 23 * (4 * 2 ^ j) = 2 ^ (bits n - 1) := by rw [hj, show j + 26 - 1 = 23 + 2 + j by omega, pow_add, pow_add]; ring
      _ ≤ n := hbits

/-- R166: FSQRT of a positive number. -/
theorem fp32_sqrt_spec {m : Nat} {e : Int} (hm : m ≠ 0) (hlt : m < 2 ^ 24) (hlo : -149 ≤ e) (hhi : e ≤ 104) :
    RootOf ((m : Rat) * (2 : Rat) ^ e) (fp32.value (fp32.sqrt (.fin false m e)).code) (fp32.sqrt (.fin false m e)).x
      ∧ (fp32.sqrt (.fin false m e)).inc = {} := by
  obtain ⟨s, h, hs, rfl, hsqrt⟩ := fp32_sqrt_fin (e := e) hm hlt
  rw [hsqrt, root_scaled]
  obtain ⟨hb, hb'⟩ := rootNumber_bits hm hlt hs
  generalize hn : rootNumber (m * 2 ^ s) = n at *
  have hn0 : n ≠ 0 := bits_pos.1 (by omega)
  obtain ⟨j, hgrid, hge, hbelow, habove, hexact, hleast⟩ := rootNumber_units (e := h - 1) hn.symm hm hlt hs (by omega)
  have hfit := fp32.fits_units false hn0 (h - 1)
  obtain ⟨hk, ho⟩ := fp32_regular.units_inRange false hn0 (show -149 ≤ h - 1 by omega) (show h - 1 + bits n ≤ 127 by omega)
  have hkbits := lt_bits.2 hge
  rw [Fmt.round_finite false false false hn0 hk ho]
  have hpos : (0 : Rat) < (4 : Rat) ^ h := zpow_pos (by norm_num) h
  have hfour : (4 : Rat) ^ fp32.grid n (h - 1) = 4 * (((2 ^ j : Nat) : Rat) * ((2 ^ j : Nat) : Rat)) * (4 : Rat) ^ h := by
    rw [hgrid, ← four_zpow_grid]
    congr 1
    ring
  generalize fp32.units false n (h - 1) = k at *
  have hP : 0 < 2 ^ j := Nat.two_pow_pos j
  generalize 2 ^ j = P at *
  generalize m * 2 ^ s = X at *
  obtain ⟨i, rfl⟩ : ∃ i, k = i + 1 := ⟨k - 1, by omega⟩
  rw [show 2 * (i + 1) - 1 = 2 * i + 1 by omega] at hbelow
  have hbelowQ : ((2 * (i : Rat) + 1) * P) * ((2 * (i : Rat) + 1) * P) < X := by exact_mod_cast hbelow
  have haboveQ : (X : Rat) < ((2 * ((i : Rat) + 1) + 1) * P) * ((2 * ((i : Rat) + 1) + 1) * P) := by exact_mod_cast habove
  refine ⟨RootCount.rootOf ⟨hge, hfit.le, ?below, ?above, fun hk23 => ?least⟩ ho hfit ?normal ?exact, rfl⟩
  case below =>
    rw [hfour]
    push_cast
    have := mul_lt_mul_of_pos_right hbelowQ hpos
    linarith
  case above =>
    rw [hfour]
    push_cast
    have := mul_lt_mul_of_pos_right haboveQ hpos
    linarith
  case least =>
    have hleastQ : (((i : Rat) + 1) * (2 * P)) * (((i : Rat) + 1) * (2 * P)) ≤ X := by exact_mod_cast hleast hk23
    have hgap : 0 < 4 * ((P : Rat) * P) * (8 * ((i : Rat) + 1) - 1) := by
      have hi : (0 : Rat) ≤ i := Nat.cast_nonneg i
      have hPQ : (0 : Rat) < P := Nat.cast_pos.2 hP
      exact mul_pos (by positivity) (by linarith)
    have hstrict : (4 * ((i : Rat) + 1) - 1) ^ 2 * (4 * ((P : Rat) * P)) < 16 * X := by linarith
    have := mul_lt_mul_of_pos_right hstrict hpos
    rw [hfour]
    push_cast
    linarith
  case normal => omega
  case exact =>
    have hexactQ : fp32.exact n (h - 1) = true ↔ (((i : Rat) + 1) * (2 * P)) * (((i : Rat) + 1) * (2 * P)) = X := by
      rw [hexact]
      norm_cast
    have hsquare : ((i + 1 : Nat) : Rat) ^ 2 * (4 * ((P : Rat) * P) * (4 : Rat) ^ h)
        = (((i : Rat) + 1) * (2 * P)) * (((i : Rat) + 1) * (2 * P)) * (4 : Rat) ^ h := by
      push_cast
      ring
    rw [Bool.not_eq_true', ← Bool.not_eq_true, ne_eq, not_iff_not, hexactQ, hfour, hsquare, mul_left_inj' hpos.ne']

end Sys2Proof.Machine
end

section
/-! The powers and logarithms of FP32 (R166): a search by exact powers of integers, and the integers that need none. -/

namespace Sys2Proof.Machine
open Sys2Proof.Laws

/-! The search. -/

/-- A bit by bit search ends where its test holds for the last time. -/
theorem bitSearch_spec (p : Nat → Bool) (n r : Nat) (hlow : p r = true) (hhigh : p (r + 2 ^ n) = false) :
    p (bitSearch p n r) = true ∧ p (bitSearch p n r + 1) = false ∧ r ≤ bitSearch p n r := by
  induction n generalizing r with
  | zero => exact ⟨hlow, hhigh, le_rfl⟩
  | succ n ih =>
    simp only [bitSearch]
    split
    · next h =>
      obtain ⟨h1, h2, h3⟩ := ih (r + 2 ^ n) h (by rwa [Nat.add_assoc, ← Nat.two_mul, ← pow_succ'])
      exact ⟨h1, h2, (Nat.le_add_right _ _).trans h3⟩
    · next h => exact ih r hlow (by simpa using h)

/-- The model's count of bits decides whether a power is below a power of two. -/
theorem powBits_le_iff {r : Nat} (hr : 0 < r) (t B : Nat) : powBits r t ≤ B ↔ r ^ 2 ^ t < 2 ^ B := by
  rw [powBits_eq hr, bits_le]

/-- A power that is a power of two has such a base. -/
theorem exists_two_pow_of_pow_eq {m N B : Nat} (hN : N ≠ 0) (h : m ^ N = 2 ^ B) : ∃ j, m = 2 ^ j := by
  obtain ⟨j, _, hj⟩ := (Nat.dvd_prime_pow Nat.prime_two).1 (h ▸ dvd_pow_self m hN)
  exact ⟨j, hj⟩

/-! FEX2. -/

/-- The number of an operand with its sign, which FEX2 takes apart into an integer and a fraction. -/
def signedNumber (neg : Bool) (m : Nat) : Int := if neg then -(m : Int) else (m : Int)

/-- R166: off the integers FEX2 rounds a value between two neighbouring 26-bit numbers whose powers enclose the exact one. -/
theorem exp2_of_fraction (f : Fmt) {neg : Bool} {m t : Nat} (hsmall : bits m ≤ 8 + t)
    (hfrac : (signedNumber neg m % 2 ^ t).toNat ≠ 0) :
    ∃ r : Nat, 2 ^ 25 ≤ r ∧ r ^ 2 ^ t < 2 ^ (25 * 2 ^ t + (signedNumber neg m % 2 ^ t).toNat)
      ∧ 2 ^ (25 * 2 ^ t + (signedNumber neg m % 2 ^ t).toNat) < (r + 1) ^ 2 ^ t
      ∧ f.exp2 (.fin neg m (-(t : Int))) = f.round false false false (2 * r + 1) (signedNumber neg m / 2 ^ t - 26) := by
  have hm : m ≠ 0 := by rintro rfl; simp [signedNumber] at hfrac
  have ht : ¬ (0 : Int) ≤ -(t : Int) := by
    intro h
    obtain rfl : t = 0 := by omega
    simp at hfrac
  have hexp : f.exp2 (.fin neg m (-(t : Int))) = f.round false false false
      (2 * bitSearch (fun r => decide (powBits r t ≤ 25 * 2 ^ t + (signedNumber neg m % 2 ^ t).toNat)) 25 (2 ^ 25) + 1)
      (signedNumber neg m / 2 ^ t - 26) := by
    simp only [Fmt.exp2, if_neg hm, if_neg (show ¬ 8 < -(t : Int) + bits m by omega), if_neg ht, neg_neg, Int.toNat_natCast]
    exact if_neg hfrac
  have hlt : (signedNumber neg m % 2 ^ t).toNat < 2 ^ t := by
    have := Int.emod_lt_of_pos (signedNumber neg m) (show (0 : Int) < 2 ^ t by positivity)
    zify
    have := Int.emod_nonneg (signedNumber neg m) (show (2 : Int) ^ t ≠ 0 by positivity)
    omega
  rw [hexp]
  generalize (signedNumber neg m % 2 ^ t).toNat = frac at *
  have hpow : ∀ j, (2 ^ j) ^ 2 ^ t = 2 ^ (j * 2 ^ t) := fun j => (pow_mul 2 j (2 ^ t)).symm
  have hlow : decide (powBits (2 ^ 25) t ≤ 25 * 2 ^ t + frac) = true := by
    rw [decide_eq_true_iff, powBits_le_iff (Nat.two_pow_pos 25), hpow]
    exact Nat.pow_lt_pow_right one_lt_two (by omega)
  have hhigh : decide (powBits (2 ^ 25 + 2 ^ 25) t ≤ 25 * 2 ^ t + frac) = false := by
    rw [decide_eq_false_iff_not, powBits_le_iff (by positivity), ← Nat.two_mul, ← pow_succ', hpow, not_lt]
    exact Nat.pow_le_pow_right two_pos (by omega)
  obtain ⟨hin, hout, hge⟩ :=
    bitSearch_spec (fun r => decide (powBits r t ≤ 25 * 2 ^ t + frac)) 25 (2 ^ 25) hlow hhigh
  generalize bitSearch (fun r => decide (powBits r t ≤ 25 * 2 ^ t + frac)) 25 (2 ^ 25) = r at *
  rw [decide_eq_true_iff, powBits_le_iff (by omega)] at hin
  rw [decide_eq_false_iff_not, powBits_le_iff (Nat.succ_pos r), not_lt] at hout
  refine ⟨r, hge, hin, lt_of_le_of_ne hout fun heq => ?_, rfl⟩
  obtain ⟨j, hj⟩ := exists_two_pow_of_pow_eq (Nat.two_pow_pos t).ne' heq.symm
  rw [hj, hpow] at heq
  have hmul : frac = (j - 25) * 2 ^ t := by
    have := Nat.pow_right_injective le_rfl heq
    rw [Nat.sub_mul]
    omega
  rcases Nat.eq_zero_or_pos (j - 25) with h0 | hpos
  · rw [h0, Nat.zero_mul] at hmul
    exact hfrac hmul
  · exact absurd (hmul ▸ Nat.le_mul_of_pos_left (2 ^ t) hpos) (not_le.2 hlt)

/-- R166: a finite operand that is an integer below 256 in magnitude gives that power of two, rounded. -/
theorem exp2_of_integer (f : Fmt) {neg : Bool} {m : Nat} {e k : Int} (hk : (FV.fin neg m e).rat = (k : Rat)) (hsmall : e + bits m ≤ 8) :
    f.exp2 (.fin neg m e) = f.round false false false 1 k := by
  by_cases hm : m = 0
  · subst hm
    obtain rfl : k = 0 := by exact_mod_cast (show (k : Rat) = 0 by rw [← hk]; simp)
    simp [Fmt.exp2]
  have hsigned : (FV.fin neg m e).rat = (signedNumber neg m : Rat) * (2 : Rat) ^ e := by
    rw [FV.rat_fin, signedNumber]
    cases neg <;> simp
  rw [hsigned] at hk
  simp only [Fmt.exp2, if_neg hm, if_neg (not_lt.2 hsmall)]
  have hnum : (if neg then -(m : Int) else (m : Int)) = signedNumber neg m := rfl
  rw [hnum]
  by_cases he : 0 ≤ e
  · rw [two_zpow_toNat he] at hk
    have hint : signedNumber neg m * 2 ^ e.toNat = k := by exact_mod_cast hk
    simp only [if_pos he, if_true, hint]
  · have hint : signedNumber neg m = k * 2 ^ (-e).toNat := by
      have hscale := onGrid_scale (show e ≤ 0 by omega)
      rw [zpow_zero, zero_sub] at hscale
      have : (signedNumber neg m : Rat) = (k : Rat) * ((2 ^ (-e).toNat : Nat) : Rat) := by
        rw [← hk, mul_assoc, mul_comm ((2 : Rat) ^ e), ← hscale, mul_one]
      exact_mod_cast this
    simp only [if_neg he, hint, Int.mul_emod_left, Int.toNat_zero, if_true]
    rw [Int.mul_ediv_cancel _ (by positivity)]

/-- An operand with a magnitude of 256 or more. -/
theorem le_magnitude {m : Nat} {e : Int} (h : 8 < e + bits m) (hm : m ≠ 0) : (256 : Rat) ≤ (m : Rat) * (2 : Rat) ^ e := by
  have hlow : ((2 ^ (bits m - 1) : Nat) : Rat) ≤ (m : Rat) := Nat.cast_le.2 (pow_bits_pred_le hm)
  have hbits := bits_pos.2 hm
  calc (256 : Rat) = (2 : Rat) ^ (8 : Int) := by norm_num
    _ ≤ (2 : Rat) ^ (((bits m - 1 : Nat) : Int) + e) := zpow_le_zpow_right₀ (by norm_num) (by omega)
    _ = ((2 ^ (bits m - 1) : Nat) : Rat) * (2 : Rat) ^ e := by rw [zpow_add₀ two_ne_zero, zpow_natCast]; push_cast; rfl
    _ ≤ (m : Rat) * (2 : Rat) ^ e := mul_le_mul_of_nonneg_right hlow (two_zpow_pos e).le

/-- R166: beyond 256 FEX2 flushes or is infinite. -/
theorem exp2_of_large (f : Fmt) {neg : Bool} {m : Nat} {e : Int} (hm : m ≠ 0) (h : 8 < e + bits m) :
    f.exp2 (.fin neg m e) = if neg then { code := 0, x := true, inc := { flush := 1 } }
      else { code := (2 ^ f.eb - 1) * 2 ^ f.mb, x := true, inc := { inf := 1 } } := by
  simp only [Fmt.exp2, if_neg hm, if_pos h]

/-! Powers of two on FP32's grid. -/

theorem fp32_power_flush {k : Int} (h : k ≤ -150) :
    fp32.round false false false 1 k = { code := 0, x := true, inc := { flush := 1 } } := by
  have hgrid : fp32.grid 1 k = -149 := Fmt.grid_of_below (f := fp32) (show k + 1 - 1 - 23 ≤ -149 by omega)
  refine (Fmt.round_flush (f := fp32) false false false one_ne_zero ?_).trans rfl
  obtain ⟨hup, hlow, htie⟩ := onGrid_nearest (m := 1) (e := k) (g := fp32.grid 1 k) (by omega)
  have htwo : 2 ^ 1 ≤ 2 ^ (fp32.grid 1 k - k).toNat := Nat.pow_le_pow_right two_pos (by omega)
  have hcount := onGrid_count (m := 1) (e := k) (g := fp32.grid 1 k) (by omega) true
  rw [Nat.div_eq_of_lt (by omega)] at hcount
  have hunits : fp32.units false 1 k = (onGrid true 1 k (fp32.grid 1 k)).1 := rfl
  rw [hunits]
  generalize (onGrid true 1 k (fp32.grid 1 k)).1 = u at *
  rcases hcount with h0 | ⟨rfl, _⟩
  · exact h0
  · omega

theorem fp32_power_overflow {k : Int} (h : 128 ≤ k) :
    fp32.round false false false 1 k = { code := 0x7F800000, x := true, inc := { inf := 1 } } := by
  have hgrid : fp32.grid 1 k = k - 23 := (Fmt.grid_of_above (f := fp32) (show -149 ≤ k + 1 - 1 - 23 by omega)).trans
    (show k + 1 - 1 - 23 = k - 23 by omega)
  have hunits : fp32.units false 1 k = 2 ^ 23 := by
    rw [Fmt.units, onGrid_of_le (by omega), hgrid, show (k - (k - 23)).toNat = 23 by omega]
    rfl
  refine (Fmt.round_overflow (f := fp32) false false false one_ne_zero (by rw [hunits]; decide) (.inl ?_)).trans rfl
  rw [hunits, hgrid, bits_two_pow]
  show (127 : Int) < k - 23 + 24 - 1
  omega

theorem fp32_power_exact {k : Int} (hlo : -149 ≤ k) (hhi : k ≤ 127) : ∃ m' e',
    fp32.value (fp32.round false false false 1 k).code = .fin false m' e' ∧ (m' : Rat) * (2 : Rat) ^ e' = (2 : Rat) ^ k
      ∧ (fp32.round false false false 1 k).x = false ∧ (fp32.round false false false 1 k).inc = {} := by
  obtain ⟨m', e', hval, hrat, hx, hinc⟩ := fp32_round_exact (m := 1) false false false (by norm_num) hlo (show k + 1 ≤ 128 by omega)
  exact ⟨m', e', hval, by rw [hrat, Nat.cast_one, one_mul], hx, hinc⟩

/-! FLG2. -/

/-- R166: the whole number of 2^-52 in a logarithm, and the value between it and the next that FLG2 rounds. -/
theorem log2_spec (f : Fmt) {m : Nat} (e : Int) (hm : m ≠ 0) : ∃ i : Nat, 2 ^ i ≤ m ^ 2 ^ 52 ∧ m ^ 2 ^ 52 < 2 ^ (i + 1)
    ∧ (m ≠ 2 ^ (bits m - 1) → 2 ^ i < m ^ 2 ^ 52 ∧ f.log2 (.fin false m e)
        = f.round false false (decide (e * 2 ^ 52 + i < 0)) (2 * (e * 2 ^ 52 + i) + 1).natAbs (-53))
    ∧ (m = 2 ^ (bits m - 1) → f.log2 (.fin false m e) = f.round false false (decide (e + bits m - 1 < 0)) (e + bits m - 1).natAbs 0) := by
  have hpow := powBits_eq (Nat.pos_of_ne_zero hm) 52
  have hpos : m ^ 2 ^ 52 ≠ 0 := pow_ne_zero _ hm
  have hbits := bits_pos.2 hm
  have hwhole : (bits m - 1) * 2 ^ 52 < powBits m 52 := by
    rw [hpow, lt_bits, pow_mul]
    exact Nat.pow_le_pow_left (pow_bits_pred_le hm) _
  have hlog : f.log2 (.fin false m e) = if m = 2 ^ (bits m - 1) then
        f.round false false (decide (e + bits m - 1 < 0)) (e + bits m - 1).natAbs 0
      else f.round false false (decide (e * 2 ^ 52 + (powBits m 52 - 1 : Nat) < 0))
        (2 * (e * 2 ^ 52 + (powBits m 52 - 1 : Nat)) + 1).natAbs (-53) := by
    have hv : (e + bits m - 1) * 2 ^ 52 + ((powBits m 52 - 1 - (bits m - 1) * 2 ^ 52 : Nat) : Int)
        = e * 2 ^ 52 + ((powBits m 52 - 1 : Nat) : Int) := by omega
    simp only [Fmt.log2, if_neg hm, Bool.false_eq_true, if_false, hv]
  have hlow : 2 ^ (powBits m 52 - 1) ≤ m ^ 2 ^ 52 := hpow ▸ pow_bits_pred_le hpos
  have hhigh : m ^ 2 ^ 52 < 2 ^ (powBits m 52 - 1 + 1) := by
    rw [Nat.sub_add_cancel (by omega), hpow]
    exact lt_pow_bits _
  refine ⟨powBits m 52 - 1, hlow, hhigh, fun hne => ⟨lt_of_le_of_ne hlow fun heq => hne ?_, by rw [hlog, if_neg hne]⟩,
    fun heq => by rw [hlog, if_pos heq]⟩
  obtain ⟨j, rfl⟩ := exists_two_pow_of_pow_eq (Nat.two_pow_pos 52).ne' heq.symm
  rw [bits_two_pow, Nat.add_sub_cancel]

end Sys2Proof.Machine
end

section
/-! The obligation on quotient, root, power and logarithm (R165, R166). -/

namespace Sys2Proof.Machine

/-! Operands that are delivered as they are. -/

theorem Word.ofNat_sign_add_body (a : Word) : Word.ofNat ((if a.getLsbD 31 then 2 ^ 31 else 0) + Word.body a) = a := by
  rw [← Word.toNat_eq_sign_add_body]
  exact BitVec.ofNat_toNat 32 a

theorem fp32_infinity_word {a : Word} (h : fp32.value a.toNat = .inf false) : a = 0x7F800000 := by
  obtain ⟨hbody, hsign⟩ := (fp32_eq_inf_iff a false).1 h
  exact Word.ext_sign_body (hsign.trans (by decide)) (hbody.trans (by decide))

/-- The operands of which a root or a logarithm is undefined. -/
def Undefined (x : FV) : Prop := x = .nan ∨ x = .inf true ∨ (x.finite = true ∧ x.zero = false ∧ x.sign = true)

theorem undefined_cases {x : FV} (h : Undefined x) : x = .nan ∨ x = .inf true ∨ ∃ m e, m ≠ 0 ∧ x = .fin true m e := by
  rcases h with rfl | rfl | ⟨hfin, hzero, hsign⟩
  · exact .inl rfl
  · exact .inr (.inl rfl)
  · obtain ⟨neg, m, e, rfl⟩ := FV.finite_iff.1 hfin
    obtain rfl : neg = true := hsign
    refine .inr (.inr ⟨m, e, fun h0 => ?_, rfl⟩)
    rw [(FV.zero_fin true m e).2 h0] at hzero
    simp at hzero

theorem sqrt_undefined (f : Fmt) {x : FV} (h : Undefined x) : f.sqrt x = f.nanR := by
  rcases undefined_cases h with rfl | rfl | ⟨m, e, hm, rfl⟩
  · rfl
  · rfl
  · simp only [Fmt.sqrt, if_neg hm, if_true]

theorem log2_undefined (f : Fmt) {x : FV} (h : Undefined x) : f.log2 x = f.nanR := by
  rcases undefined_cases h with rfl | rfl | ⟨m, e, hm, rfl⟩
  · rfl
  · rfl
  · simp only [Fmt.log2, if_neg hm, if_true]

theorem sqrt_of_zero (f : Fmt) (neg : Bool) (e : Int) : f.sqrt (.fin neg 0 e) = { code := if neg then f.signBit else 0 } := rfl

theorem log2_of_zero (f : Fmt) (neg : Bool) (e : Int) : f.log2 (.fin neg 0 e) = f.infR true { inf := 1 } := rfl

theorem exp2_of_zero (f : Fmt) (neg : Bool) (e : Int) : f.exp2 (.fin neg 0 e) = f.round false false false 1 0 := rfl

/-! FEX2 of an integer. -/

/-- A zero has the exponent of the least number, so that it is no large operand. -/
theorem fp32_large_ne_zero {a : Word} {neg : Bool} {m : Nat} {e : Int} (hv : fp32.value a.toNat = .fin neg m e) (h : 8 < e + bits m) :
    m ≠ 0 := by
  rintro rfl
  obtain ⟨_, _, _, _, _, hleast, _⟩ := fp32_eq_fin hv
  have := hleast (by decide)
  rw [bits_zero] at h
  omega

/-- R166: FEX2 of an integer is that power of two where FP32 holds it, and otherwise flushes or is infinite. -/
theorem fp32_exp2_of_integer {a : Word} {k : Int} (hfin : (fp32.value a.toNat).finite = true) (hk : (fp32.value a.toNat).rat = (k : Rat)) :
    (-149 ≤ k → k ≤ 127 → fp32.exp2 (fp32.value a.toNat) = fp32.round false false false 1 k)
    ∧ (k ≤ -150 → fp32.exp2 (fp32.value a.toNat) = { code := 0, x := true, inc := { flush := 1 } })
    ∧ (128 ≤ k → fp32.exp2 (fp32.value a.toNat) = { code := 0x7F800000, x := true, inc := { inf := 1 } }) := by
  obtain ⟨neg, m, e, hv⟩ := FV.finite_iff.1 hfin
  rw [hv] at hk ⊢
  by_cases hsmall : e + bits m ≤ 8
  · rw [exp2_of_integer fp32 hk hsmall]
    exact ⟨fun _ _ => rfl, fp32_power_flush, fp32_power_overflow⟩
  · have hm := fp32_large_ne_zero hv (not_le.1 hsmall)
    have hbig := le_magnitude (not_le.1 hsmall) hm
    rw [exp2_of_large fp32 hm (not_le.1 hsmall)]
    cases neg
    · have : (256 : Int) ≤ k := by
        rw [FV.rat_fin, if_neg Bool.false_ne_true] at hk
        exact_mod_cast hbig.trans_eq hk
      exact ⟨fun _ _ => by omega, fun _ => by omega, fun _ => rfl⟩
    · have : k ≤ -256 := by
        rw [FV.rat_fin, if_pos rfl, neg_mul] at hk
        have : (k : Rat) ≤ -256 := by linarith
        exact_mod_cast this
      exact ⟨fun _ _ => by omega, fun _ => rfl, fun _ => by omega⟩

/-- Settles O28: division by its table; the root by the exact squares of the midpoints of its rounding, of which none is the
operand; the power by a search whose test compares exact powers; the logarithm by the bits of an exact power. -/
theorem floatQuotientRoot : Obligations.FloatQuotientRoot := by
  refine ⟨?fdiv, ?fsqrt, ?fex2, ?flg2⟩
  case fdiv =>
    exact binaryE_of_retF (fun _ a b => lx (fp32.div (fp32.value a.toNat) (fp32.value b.toNat))) (fun _ _ _ _ _ _ _ => rfl)
      fun _ a b => quotientOf_div _ _
  case fsqrt =>
    refine unaryE_of_retF (fun a => lx (fp32.sqrt (fp32.value a.toNat))) (fun _ _ _ _ _ _ => rfl) fun a => ?_
    dsimp only [lx]
    refine ⟨fun h => ?undefined, fun h => ?zero, fun h => ?infinite, fun m e h hm => ?positive⟩
    case undefined => rw [sqrt_undefined fp32 h]; exact ⟨rfl, rfl, rfl⟩
    case zero =>
      have hbody := (fp32_zero_iff a).1 h
      rcases fp32_cases a with ⟨hb, _⟩ | ⟨hb, _⟩ | ⟨_, m, e, hv, _, _, _, _, hz⟩
      · omega
      · omega
      · obtain rfl := hz.2 hbody
        have hself := Word.ofNat_sign_add_body a
        rw [hbody, Nat.add_zero] at hself
        rw [hv, sqrt_of_zero]
        exact ⟨hself, rfl, rfl⟩
    case infinite => rw [h, fp32_infinity_word h]; exact ⟨rfl, rfl, rfl⟩
    case positive =>
      obtain ⟨_, _, hlt, hlo, hhi, _, _⟩ := fp32_eq_fin h
      obtain ⟨⟨k, g, hval, hroot⟩, hinc⟩ := fp32_sqrt_spec hm hlt hlo hhi
      have hcode : (fp32.sqrt (.fin false m e)).code < 2 ^ 32 := by
        obtain ⟨s, h, _, _, hsqrt⟩ := fp32_sqrt_fin (e := e) hm hlt
        rw [hsqrt]
        exact fp32_regular.round_code_lt false false false
      rw [h, Word.toNat_ofNat_of_lt hcode]
      obtain ⟨hge, hlt24, hbelow, habove, hleast, hx⟩ := hroot
      exact ⟨k, g, hval, hge, hlt24, hbelow, habove, hleast, hx, hinc⟩
  case fex2 =>
    refine unaryE_of_retF (fun a => lx (fp32.exp2 (fp32.value a.toNat))) (fun _ _ _ _ _ _ => rfl) fun a => ?_
    dsimp only [lx]
    refine ⟨fun h => ?nan, fun h => ?negative, fun h => ?infinite, fun h => ?zero, fun k hfin hk hlo hhi => ?power,
      fun k hfin hk => ?beyond, fun neg m t h hsmall hfrac => ?fraction, fun neg m e h hbig => ?large⟩
    case nan => rw [h]; exact ⟨rfl, rfl, rfl⟩
    case negative => rw [h]; exact ⟨rfl, rfl, rfl⟩
    case infinite => rw [h, fp32_infinity_word h]; exact ⟨rfl, rfl, rfl⟩
    case zero =>
      match hv : fp32.value a.toNat, h with
      | .fin neg m e, h =>
        obtain rfl := (FV.zero_fin _ _ _).1 h
        rw [exp2_of_zero]
        decide
    case power =>
      obtain ⟨m', e', hval, hrat, hx, hinc⟩ := fp32_power_exact hlo hhi
      obtain ⟨hround, _, _⟩ := fp32_exp2_of_integer hfin hk
      rw [hround hlo hhi, fp32_round_word, hval]
      exact ⟨rfl, hrat, hx, hinc⟩
    case beyond =>
      obtain ⟨_, hflush, hinf⟩ := fp32_exp2_of_integer hfin hk
      refine ⟨fun hlow => ?_, fun hhigh => ?_⟩
      · rw [hflush hlow]; exact ⟨rfl, rfl, rfl⟩
      · rw [hinf hhigh]; exact ⟨rfl, rfl, rfl⟩
    case fraction =>
      obtain ⟨r, hge, hlow, hhigh, hexp⟩ := exp2_of_fraction fp32 (neg := neg) hsmall hfrac
      rw [h, hexp]
      exact ⟨r, hge, hlow, hhigh, rfl, rfl, rfl⟩
    case large =>
      rw [h, exp2_of_large fp32 (fp32_large_ne_zero h hbig) hbig]
      refine ⟨?_, ?_⟩
      · rintro rfl; exact ⟨rfl, rfl, rfl⟩
      · rintro rfl; exact ⟨rfl, rfl, rfl⟩
  case flg2 =>
    refine unaryE_of_retF (fun a => lx (fp32.log2 (fp32.value a.toNat))) (fun _ _ _ _ _ _ => rfl) fun a => ?_
    dsimp only [lx]
    refine ⟨fun h => ?undefined, fun h => ?zero, fun h => ?infinite, fun m e h hm => ?positive⟩
    case undefined => rw [log2_undefined fp32 h]; exact ⟨rfl, rfl, rfl⟩
    case zero =>
      match hv : fp32.value a.toNat, h with
      | .fin neg m e, h =>
        obtain rfl := (FV.zero_fin _ _ _).1 h
        rw [log2_of_zero]
        exact ⟨rfl, rfl, rfl⟩
    case infinite => rw [h, fp32_infinity_word h]; exact ⟨rfl, rfl, rfl⟩
    case positive =>
      obtain ⟨i, hlow, hhigh, hbetween, hpower⟩ := log2_spec fp32 e hm
      rw [h]
      refine ⟨i, hlow, hhigh, fun hne => ?_, fun heq => ?_⟩
      · obtain ⟨hlt, hlog⟩ := hbetween hne
        rw [hlog]
        exact ⟨hlt, rfl, rfl, rfl⟩
      · rw [hpower heq]
        exact ⟨rfl, rfl, rfl⟩

end Sys2Proof.Machine
end

section
/-! What the look-ups of an access leave alone: the decoding of stored groups (R419, R420) and a translation (R183, R369, R397). -/

namespace Sys2Proof.Machine

/-- The nodes of the regions, with what is under way between them: nothing of memory protection or of a translation is in them. -/
def State.nodes (s : State) := (s.elems, s.copies, s.presses, s.units, s.loupes, s.chans, s.queues, s.bars, s.waiters, s.releases)

/-- The nodes, memory, the accesses, the tasks and the contexts: what the decoding of stored groups leaves alone. -/
def State.stored (s : State) := (s.nodes, s.mem, s.accs, s.tasks, s.ctxs)

/-! Stored groups are read (R419, R420). -/

@[simp] theorem State.dflLog_stored (s : State) (r : DflRec) : (s.dflLog r).stored = s.stored := by
  unfold State.dflLog
  split <;> rfl

@[simp] theorem State.markBad_stored (s : State) (n : Nat) : (s.markBad n).stored = s.stored := by
  unfold State.markBad
  split
  · rfl
  · split <;> rfl

@[simp] theorem State.bankFails_stored (s : State) (key f : Nat) : (s.bankFails key f).stored = s.stored :=
  foldl_unchanged State.stored (fun s _ => State.markBad_stored s _) _ _

@[simp] theorem State.correct_stored (s : State) (group bank : Nat) : (s.correct group bank).stored = s.stored := by
  unfold State.correct
  extract_lets g b b1
  split
  · exact (State.dflLog_stored _ _).trans (State.bankFails_stored _ _ _)
  · rfl

@[simp] theorem State.noteGroup_stored (s : State) (group : Nat) : (s.noteGroup group).stored = s.stored := by
  unfold State.noteGroup
  split
  · split <;> rfl
  · split
    · exact State.correct_stored _ _ _
    · rfl

@[simp] theorem State.noteBytes_stored (s : State) (pa n : Nat) : (s.noteBytes pa n).stored = s.stored := by
  unfold State.noteBytes
  split
  · rfl
  · unfold State.noteRead
    split
    · rfl
    · exact foldl_unchanged State.stored State.noteGroup_stored _ _

@[simp] theorem State.noteBytes_clocks (s : State) (pa n : Nat) : (s.noteBytes pa n).regions.clocks = s.regions.clocks := by
  unfold State.noteBytes
  split
  · rfl
  · unfold State.noteRead
    split
    · rfl
    · exact foldl_unchanged (fun s : State => s.regions.clocks) State.noteGroup_clocks _ _

/-- R419: with no symbol in error and no mark of poison a reading counts nothing. -/
theorem State.noteBytes_of_clean {s : State} (hflaws : s.flaws = []) (hpoison : s.poison = []) (pa n : Nat) : s.noteBytes pa n = s := by
  unfold State.noteBytes State.noteRead
  simp [hflaws, hpoison]

/-! A translation. -/

theorem State.nodes_of_stored {s s' : State} (h : s'.stored = s.stored) : s'.nodes = s.nodes := congrArg Prod.fst h

@[simp] theorem State.freeEntry_nodes (s : State) (o : Option Nat) : (s.freeEntry o).nodes = s.nodes := by
  cases o with
  | none => rfl
  | some t =>
    unfold State.freeEntry
    dsimp only
    split <;> rfl

@[simp] theorem State.ctxFault_nodes (s : State) (ctx : Nat) : (s.ctxFault ctx).nodes = s.nodes :=
  foldl_unchanged State.nodes State.freeEntry_nodes _ _

@[simp] theorem State.areaFault_nodes (s : State) (ctx : Nat) (spans : List (Nat × Nat)) : (s.areaFault ctx spans).nodes = s.nodes := by
  unfold State.areaFault
  dsimp only
  rw [foldl_unchanged State.nodes (fun s _ => State.nodes_of_stored (State.dflLog_stored s _))]
  split
  · exact State.ctxFault_nodes s ctx
  · rfl

@[simp] theorem State.areaFault_regions (s : State) (ctx : Nat) (spans : List (Nat × Nat)) :
    (s.areaFault ctx spans).regions = s.regions := by
  unfold State.areaFault
  dsimp only
  rw [foldl_unchanged State.regions (fun s _ => State.dflLog_regions s _)]
  split
  · exact State.ctxFault_regions s ctx
  · rfl

@[simp] theorem State.logDirty_nodes (s : State) (ctx va : Nat) (big : Bool) : (s.logDirty ctx va big).nodes = s.nodes := by
  unfold State.logDirty
  extract_lets c first bits
  split
  · rfl
  · split
    · exact State.areaFault_nodes _ _ _
    · exact foldl_unchanged State.nodes (fun s _ => State.nodes_of_stored (State.noteBytes_stored s _ _)) _ _

@[simp] theorem State.logDirty_clocks (s : State) (ctx va : Nat) (big : Bool) :
    (s.logDirty ctx va big).regions.clocks = s.regions.clocks := by
  unfold State.logDirty
  extract_lets c first bits
  split
  · rfl
  · split
    · rw [State.areaFault_regions]
    · exact foldl_unchanged (fun s : State => s.regions.clocks) (fun s _ => State.noteBytes_clocks s _ _) _ _

@[simp] theorem State.startWalk_nodes (s : State) (place ctx va : Nat) (k : Kind) : (s.startWalk place ctx va k).nodes = s.nodes := by
  unfold State.startWalk
  dsimp only
  split <;> rfl

@[simp] theorem State.startWalk_regions (s : State) (place ctx va : Nat) (k : Kind) :
    (s.startWalk place ctx va k).regions = s.regions := by
  unfold State.startWalk
  dsimp only
  split <;> rfl

@[simp] theorem State.translate_nodes (s : State) (place ctx va : Nat) (k : Kind) : (s.translate place ctx va k).2.nodes = s.nodes := by
  unfold State.translate
  dsimp only
  split
  · rfl
  · split
    · exact State.startWalk_nodes s place ctx va k
    · rfl
    · dsimp only
      split
      · exact State.logDirty_nodes _ _ _ _
      · rfl

@[simp] theorem State.translate_clocks (s : State) (place ctx va : Nat) (k : Kind) :
    (s.translate place ctx va k).2.regions.clocks = s.regions.clocks := by
  unfold State.translate
  dsimp only
  split
  · rfl
  · split
    · rw [State.startWalk_regions]
    · rfl
    · dsimp only
      split
      · exact State.logDirty_clocks _ _ _ _
      · rfl

section
variable {s s' : State} {place ctx va : Nat} {k : Kind} {r : Tr} (h : s.translate place ctx va k = (r, s'))
include h

theorem State.nodes_of_translate : s'.nodes = s.nodes := by rw [← State.translate_nodes s place ctx va k, h]

theorem State.clocks_of_translate : s'.regions.clocks = s.regions.clocks := by rw [← State.translate_clocks s place ctx va k, h]

end

section
variable {s s' : State} (h : s'.nodes = s.nodes)
include h

theorem State.elems_of_nodes : s'.elems = s.elems := congrArg Prod.fst h
theorem State.copies_of_nodes : s'.copies = s.copies := congrArg (fun n => n.2.1) h
theorem State.presses_of_nodes : s'.presses = s.presses := congrArg (fun n => n.2.2.1) h
theorem State.units_of_nodes : s'.units = s.units := congrArg (fun n => n.2.2.2.1) h
theorem State.loupes_of_nodes : s'.loupes = s.loupes := congrArg (fun n => n.2.2.2.2.1) h
theorem State.chans_of_nodes : s'.chans = s.chans := congrArg (fun n => n.2.2.2.2.2.1) h
theorem State.queues_of_nodes : s'.queues = s.queues := congrArg (fun n => n.2.2.2.2.2.2.1) h

theorem State.elem_of_nodes (el : Nat) : s'.elem el = s.elem el := by simp only [State.elem, State.elems_of_nodes h]

end

theorem State.cycleOf_of_clocks {s s' : State} (h : s'.regions.clocks = s.regions.clocks) (r : Nat) : s'.cycleOf r = s.cycleOf r :=
  congrArg Prod.fst (congrFun h r)

end Sys2Proof.Machine
end

section
/-! The checks of an access (R182, R183, R190), by what the first of its lanes meets. -/

namespace Sys2Proof.Machine

theorem firstFault_eq_none {win : Window} {off size : Nat} {perm : Bool} :
    firstFault win off size perm = none ↔ off + size ≤ win.len ∧ (win.base + off) % size = 0 ∧ perm = true := by
  unfold firstFault
  split
  · simp only [reduceCtorEq, false_iff]; omega
  · split
    · simp_all
    · cases perm <;> simp_all

/-- The answer of the checks with one more lane, whose access is in state `t`, before the lanes that gave `r`. -/
def Chk.cons (t : AccSt) (r : Chk × State) : Chk × State :=
  match r with
  | (.ok ts, s) => (.ok (t :: ts), s)
  | r => r

theorem Chk.cons_state (t : AccSt) (r : Chk × State) : (Chk.cons t r).2 = r.2 := by
  obtain ⟨_ | _ | _, s⟩ := r <;> rfl

section
variable {s s' : State} {el ctx : Nat} {win : Window} {perm : Bool} {src : Option Kind} {k : Kind} {l : Lane} {rest : List Lane}

theorem State.check_cons_of_fault {code : Byte} (h : firstFault win l.off l.size perm = some code) :
    s.check el ctx win perm src (l :: rest) = (.fail code l.off, s) := by
  unfold firstFault at h
  simp only [State.check]
  split at h
  case isTrue hlen => cases h; exact if_pos hlen
  case isFalse hlen =>
    rw [if_neg hlen]
    split at h
    case isTrue halign => cases h; exact if_pos halign
    case isFalse halign =>
      rw [if_neg halign]
      split at h
      case isTrue hperm => cases h; simp [hperm, cPerm]
      case isFalse => cases h

section
variable (h : firstFault win l.off l.size perm = none)
include h

theorem State.check_cons_posted : s.check el ctx win perm none (l :: rest) = Chk.cons .point (s.check el ctx win perm none rest) := by
  obtain ⟨hlen, halign, hperm⟩ := firstFault_eq_none.1 h
  simp only [State.check, if_neg (Nat.not_lt.2 hlen), if_neg (not_not.2 halign), hperm, Chk.cons]
  rfl

theorem State.check_cons_held (hheld : s.heldPage el ctx (win.base + l.off) = true) :
    s.check el ctx win perm (some k) (l :: rest) = (.withdraw, s) := by
  obtain ⟨hlen, halign, hperm⟩ := firstFault_eq_none.1 h
  simp [State.check, Nat.not_lt.2 hlen, halign, hperm, hheld]

variable (hfree : s.heldPage el ctx (win.base + l.off) = false)
include hfree

theorem State.check_cons_miss (ht : s.translate (tileOfElem el) ctx (win.base + l.off) k = (.miss, s')) :
    s.check el ctx win perm (some k) (l :: rest) = (.withdraw, s') := by
  obtain ⟨hlen, halign, hperm⟩ := firstFault_eq_none.1 h
  simp [State.check, Nat.not_lt.2 hlen, halign, hperm, hfree, ht]

theorem State.check_cons_bad {code : Byte} (ht : s.translate (tileOfElem el) ctx (win.base + l.off) k = (.bad code, s')) :
    s.check el ctx win perm (some k) (l :: rest) = (.fail code l.off, s') := by
  obtain ⟨hlen, halign, hperm⟩ := firstFault_eq_none.1 h
  simp [State.check, Nat.not_lt.2 hlen, halign, hperm, hfree, ht]

theorem State.check_cons_hit {pa : Nat} (ht : s.translate (tileOfElem el) ctx (win.base + l.off) k = (.hit pa, s')) :
    s.check el ctx win perm (some k) (l :: rest) = Chk.cons (.ready pa) (s'.check el ctx win perm (some k) rest) := by
  obtain ⟨hlen, halign, hperm⟩ := firstFault_eq_none.1 h
  simp only [State.check, if_neg (Nat.not_lt.2 hlen), if_neg (not_not.2 halign), hperm, hfree, ht, Chk.cons]
  rfl

end

/-- What a translation leaves alone, the checks leave alone. -/
theorem State.check_unchanged {β : Type} (g : State → β)
    (h : ∀ (s : State) (va : Nat) (k : Kind), g (s.translate (tileOfElem el) ctx va k).2 = g s) (lanes : List Lane) :
    g (s.check el ctx win perm src lanes).2 = g s := by
  induction lanes generalizing s with
  | nil => rfl
  | cons l rest ih =>
    cases hfault : firstFault win l.off l.size perm with
    | some code => rw [State.check_cons_of_fault hfault]
    | none =>
      cases src with
      | none => rw [State.check_cons_posted hfault, Chk.cons_state, ih]
      | some k =>
        cases hheld : s.heldPage el ctx (win.base + l.off) with
        | true => rw [State.check_cons_held hfault hheld]
        | false =>
          have hkeeps := h s (win.base + l.off) k
          match ht : s.translate (tileOfElem el) ctx (win.base + l.off) k with
          | (.miss, s') => rw [State.check_cons_miss hfault hheld ht, ← hkeeps, ht]
          | (.bad code, s') => rw [State.check_cons_bad hfault hheld ht, ← hkeeps, ht]
          | (.hit pa, s') => rw [State.check_cons_hit hfault hheld ht, Chk.cons_state, ih, ← hkeeps, ht]

@[simp] theorem State.check_nodes (lanes : List Lane) : (s.check el ctx win perm src lanes).2.nodes = s.nodes :=
  State.check_unchanged State.nodes (fun s va k => State.translate_nodes s _ ctx va k) lanes

@[simp] theorem State.check_clocks (lanes : List Lane) : (s.check el ctx win perm src lanes).2.regions.clocks = s.regions.clocks :=
  State.check_unchanged (fun s => s.regions.clocks) (fun s va k => State.translate_clocks s _ ctx va k) lanes

variable {r : Chk} {lanes : List Lane} (h : s.check el ctx win perm src lanes = (r, s'))
include h

theorem State.nodes_of_check : s'.nodes = s.nodes := by
  rw [← State.check_nodes (s := s) (el := el) (ctx := ctx) (win := win) (perm := perm) (src := src) lanes, h]

theorem State.clocks_of_check : s'.regions.clocks = s.regions.clocks := by
  rw [← State.check_clocks (s := s) (el := el) (ctx := ctx) (win := win) (perm := perm) (src := src) lanes, h]

end
end Sys2Proof.Machine
end

section
/-! A memory-form rule (R181 to R186): what it does with its operands and room, by the answer of its checks. -/

namespace Sys2Proof.Machine

/-- R134: the fields of a memory-form rule that the shared operation uses. -/
def MemOp.req (o : MemOp) : Req := rq o.d (some o.a) o.b 0 0 1

/-- R185: what a memory-form rule delivers, before its answer is known. -/
def MemOp.token (o : MemOp) (x : In) : Token := ⟨if o.src.isSome then 0 else x.a.data, x.a.tag⟩

/-- R181: what outlives the issue. -/
def MemOp.job (o : MemOp) (x : In) : Job := .mem { opc := o.opc, win := o.w, scope := o.sc, a := x.a.data, tag := x.a.tag }

/-- R181 to R186: what a memory-form rule of state `s` does by the answer of its checks. -/
def MemOp.after (o : MemOp) (s : State) (el rule : Nat) (x : In) (lanes : List Lane) : Chk × State → State
  | (.withdraw, s') => s'
  | (.fail code off, s') => s'.abortRule el (memFault code rule x o.w (s.window (s.taskOfElem el) o.w) off)
  | (.ok sts, s') =>
    { s'.setElem el ((s'.elem el).issuePort rule o.req (deliver o.d (o.token x).tag (o.token x).data) (o.job x) true) with
      accs := s'.accs ++ newAccs s'.fresh (.elem el (s.elem el).nextId) (s.ctxOfTask (s.taskOfElem el)) (s.taskOfElem el)
        (regionOfElem el) o.opc (s.window (s.taskOfElem el) o.w).base o.src.isNone 0 lanes sts
      fresh := s'.fresh + lanes.length }

theorem State.memForm_of_armed {s : State} {el rule : Nat} {q : Req} {x : In} {o : MemOp} (ha : s.armed el rule q x) :
    s.memForm o = .next (s.memElem el rule o) := by
  unfold State.memForm; rw [ha.1]

theorem State.memElem_of_room {s : State} {el rule : Nat} {o : MemOp} {x : In} (hx : (s.elem el).input o.req = some x)
    (hroom : (s.elem el).portRoom rule (deliver o.d (o.token x).tag (o.token x).data) = true) :
    s.memElem el rule o = (o.lanes (s.elem el) x).elim (s.abortWith el rule cCfgField x) (fun lanes =>
      o.after s el rule x lanes (s.check el (s.ctxOfTask (s.taskOfElem el)) (s.window (s.taskOfElem el) o.w)
        (o.perm (s.window (s.taskOfElem el) o.w)) o.src lanes)) := by
  simp only [State.memElem]
  split
  case h_1 h => exact absurd (hx.symm.trans h) nofun
  case h_2 y h =>
    obtain rfl : x = y := Option.some.inj (hx.symm.trans h)
    rw [if_neg (by rw [show (s.elem el).portRoom rule (deliver o.d x.a.tag (if o.src.isSome then 0 else x.a.data)) = true from hroom]; exact Bool.false_ne_true)]
    cases o.lanes (s.elem el) x with
    | none => rfl
    | some lanes => rfl

section
variable {s s' : State} {el rule : Nat} {o : MemOp} {x : In} (ha : s.armed el rule o.req x)
    (hroom : (s.elem el).portRoom rule (deliver o.d (o.token x).tag (o.token x).data) = true)
include ha hroom

theorem State.memForm_reserved (hl : o.lanes (s.elem el) x = none) : s.memForm o = .next (s.abortWith el rule cCfgField x) := by
  rw [State.memForm_of_armed ha, State.memElem_of_room ha.2 hroom, hl, Option.elim_none]

variable {lanes : List Lane} (hl : o.lanes (s.elem el) x = some lanes)
include hl

theorem State.memForm_withdraws
    (hchk : s.check el (s.ctxOfTask (s.taskOfElem el)) (s.window (s.taskOfElem el) o.w) (o.perm (s.window (s.taskOfElem el) o.w))
      o.src lanes = (.withdraw, s')) : s.memForm o = .next s' := by
  rw [State.memForm_of_armed ha, State.memElem_of_room ha.2 hroom, hl, Option.elim_some, hchk, MemOp.after]

theorem State.memForm_aborts {code : Byte} {off : Nat}
    (hchk : s.check el (s.ctxOfTask (s.taskOfElem el)) (s.window (s.taskOfElem el) o.w) (o.perm (s.window (s.taskOfElem el) o.w))
      o.src lanes = (.fail code off, s')) :
    s.memForm o = .next (s'.abortRule el (memFault code rule x o.w (s.window (s.taskOfElem el) o.w) off)) := by
  rw [State.memForm_of_armed ha, State.memElem_of_room ha.2 hroom, hl, Option.elim_some, hchk, MemOp.after]

theorem State.memForm_commits {sts : List AccSt}
    (hchk : s.check el (s.ctxOfTask (s.taskOfElem el)) (s.window (s.taskOfElem el) o.w) (o.perm (s.window (s.taskOfElem el) o.w))
      o.src lanes = (.ok sts, s')) :
    s.memForm o = .next
      { s'.setElem el ((s'.elem el).issuePort rule o.req (deliver o.d (o.token x).tag (o.token x).data) (o.job x) true) with
        accs := s'.accs ++ newAccs s'.fresh (.elem el (s.elem el).nextId) (s.ctxOfTask (s.taskOfElem el)) (s.taskOfElem el)
          (regionOfElem el) o.opc (s.window (s.taskOfElem el) o.w).base o.src.isNone 0 lanes sts
        fresh := s'.fresh + lanes.length } := by
  rw [State.memForm_of_armed ha, State.memElem_of_room ha.2 hroom, hl, Option.elim_some, hchk, MemOp.after]

end

/-! The forms of one lane (R189, R192, R193). -/

/-- A memory-form instruction of one lane, of `size` bytes at the offset that A gives. -/
def oneLane (opc : Byte) (d a : BitVec 5) (b : Option (BitVec 5)) (w : BitVec 3) (sc : BitVec 2) (size : Nat) (perm : Window → Bool)
    (src : Option Kind) (act : Elem → In → Act) : MemOp :=
  { opc := opc, d := d, a := a, b := b, w := w, sc := sc, perm := perm, src := src
    lanes := fun e x => some [{ off := x.a.data.toNat, size := size, act := act e x }] }

/-- R182 to R186: a translated form of one lane, whose page the cache has, commits with one access. -/
theorem sourceIssues_of_oneLane {i : Instr} {opc : Byte} {d a : BitVec 5} {b : Option (BitVec 5)} {w : BitVec 3} {sc : BitVec 2}
    {size : Nat} {perm : Window → Bool} {kind : Kind} {act : Elem → In → Act}
    (hi : ∀ s, exec i s = s.memForm (oneLane opc d a b w sc size perm (some kind) act)) :
    SourceIssues i opc d a b w sc size perm kind act := by
  intro s s1 el rule x pa win off ctx q l harmed hroom hlen halign hperm hfree ht
  have hpass : firstFault win off size (perm win) = none := firstFault_eq_none.2 ⟨hlen, halign, hperm⟩
  have hchk : s.check el ctx win (perm win) (some kind) [⟨off, size, act (s.elem el) x⟩] = (.ok [.ready pa], s1) :=
    State.check_cons_hit hpass hfree ht
  rw [hi]
  exact State.memForm_commits (o := oneLane opc d a b w sc size perm (some kind) act) harmed hroom rfl hchk

/-- R182, R184 to R186: a posted form of one lane commits with one access, still to be translated. -/
theorem postedIssues_of_oneLane {i : Instr} {opc : Byte} {d a b : BitVec 5} {w : BitVec 3} {sc : BitVec 2}
    {size : Nat} {perm : Window → Bool} {act : In → Act}
    (hi : ∀ s, exec i s = s.memForm (oneLane opc d a (some b) w sc size perm none (fun _ => act))) :
    PostedIssues i opc d a b w sc size perm act := by
  intro s el rule x win off q l harmed hroom hlen halign hperm
  have hpass : firstFault win off size (perm win) = none := firstFault_eq_none.2 ⟨hlen, halign, hperm⟩
  have hchk : s.check el (s.ctxOfTask (s.taskOfElem el)) win (perm win) none [⟨off, size, act x⟩] = (.ok [.point], s) :=
    State.check_cons_posted hpass
  rw [hi]
  exact State.memForm_commits (o := oneLane opc d a (some b) w sc size perm none (fun _ => act)) harmed hroom rfl hchk

/-- Settles O33: every form of one lane is the shared memory-form operation; its one lane passes the checks, and it commits. -/
theorem memoryIssue : Obligations.MemoryIssue := by
  have load : ∀ {c : BitVec 5 → BitVec 5 → BitVec 3 → BitVec 2 → Instr} {opc : Byte} {n : Nat},
      (∀ d a w sc s, exec (c d a w sc) s = loadForm opc n d a w sc s) → ∀ d a w sc,
        SourceIssues (c d a w sc) opc d a none w sc n Window.r .read (fun _ _ => .read) :=
    fun h d a w sc => sourceIssues_of_oneLane (h d a w sc)
  have store : ∀ {c : BitVec 5 → BitVec 5 → BitVec 5 → BitVec 3 → BitVec 2 → Instr} {opc : Byte} {n : Nat},
      (∀ d a b w sc s, exec (c d a b w sc) s = storeForm opc n d a b w sc s) →
      ∀ d a b w sc, PostedIssues (c d a b w sc) opc d a b w sc n Window.w (fun x => .write x.b.data) :=
    fun h d a b w sc => postedIssues_of_oneLane (h d a b w sc)
  have atomic : ∀ {c : BitVec 5 → BitVec 5 → BitVec 5 → BitVec 3 → BitVec 2 → Instr} {opc : Byte},
      (∀ d a b w sc s, exec (c d a b w sc) s = atomicForm opc d a b w sc 0 s) → ∀ d a b w sc, ∃ k : BitVec 3,
        SourceIssues (c d a b w sc) opc d a (some b) w sc 4 Window.a .atomic (fun e x => .atomic opc x.b.data e.d[k.toNat]) :=
    fun h d a b w sc => ⟨0, sourceIssues_of_oneLane (h d a b w sc)⟩
  have reduce : ∀ {c : BitVec 5 → BitVec 5 → BitVec 5 → BitVec 3 → BitVec 2 → Instr} {opc : Byte},
      (∀ d a b w sc s, exec (c d a b w sc) s = reduceForm opc d a b w sc s) →
      ∀ d a b w sc, PostedIssues (c d a b w sc) opc d a b w sc 4 Window.a (fun x => .reduce opc x.b.data) :=
    fun h d a b w sc => postedIssues_of_oneLane (h d a b w sc)
  unfold Obligations.MemoryIssue
  intro l t a r
  refine ⟨load ?_, load ?_, load ?_, load ?_, load ?_, store ?_, store ?_, store ?_, atomic ?_, atomic ?_, atomic ?_, atomic ?_, atomic ?_,
    atomic ?_, atomic ?_, atomic ?_, atomic ?_, atomic ?_, fun d a b w sc k => sourceIssues_of_oneLane ?_, atomic ?_, atomic ?_, atomic ?_,
    atomic ?_, reduce ?_, reduce ?_, reduce ?_, reduce ?_, reduce ?_, reduce ?_, reduce ?_, reduce ?_, reduce ?_, reduce ?_⟩ <;>
  intros <;> rfl

end Sys2Proof.Machine
end

section
/-! Gathers and scatters (R190): the lanes of a format, in lane order, are those of the shared memory-form operation. -/

namespace Sys2Proof.Machine

/-- LDG as a memory-form operation. -/
def ldgOp (d a : BitVec 5) (w : BitVec 3) (sc : BitVec 2) (f : BitVec 4) : MemOp :=
  { opc := 0xA8, d := d, a := a, b := none, w := w, sc := sc, perm := Window.r, src := some .read
    lanes := fun _ x => (gatherLanes f x.a.data).map (fun l => l.map (fun o => { off := o.1, size := o.2, act := .read })) }

/-- STG as a memory-form operation. -/
def stgOp (d a b : BitVec 5) (w : BitVec 3) (sc : BitVec 2) (f : BitVec 4) : MemOp :=
  { opc := 0xA9, d := d, a := a, b := some b, w := w, sc := sc, perm := Window.w, src := none
    lanes := fun _ x => (gatherLanes f x.a.data).map (fun l =>
      l.zipIdx.map (fun o => { off := o.1.1, size := o.1.2, act := .write (lanePart x.b.data o.2 o.1.2) })) }

theorem exec_ldg (d a : BitVec 5) (w : BitVec 3) (sc : BitVec 2) (f : BitVec 4) (s : State) :
    exec (.ldg d a w sc f) s = s.memForm (ldgOp d a w sc f) := rfl

theorem exec_stg (d a b : BitVec 5) (w : BitVec 3) (sc : BitVec 2) (f : BitVec 4) (s : State) :
    exec (.stg d a b w sc f) s = s.memForm (stgOp d a b w sc f) := rfl

theorem gatherLanes_reserved {f : BitVec 4} (h0 : f ≠ 0) (h1 : f ≠ 1) (a : Word) : gatherLanes f a = none := by
  unfold gatherLanes
  split
  case h_1 h => exact absurd (BitVec.eq_of_toNat_eq h) h0
  case h_2 h => exact absurd (BitVec.eq_of_toNat_eq h) h1
  case h_3 => rfl

/-- Settles O34: the lanes of formats 0 and 1 are those listed, so that the rule commits when all their checks pass; a reserved
format has no lanes, and the rule aborts. -/
theorem gatherIssue : Obligations.GatherIssue := by
  refine ⟨?gathers, ?scatters, fun s el rule x d a b w sc f h0 h1 => ⟨?noGather, ?noScatter⟩⟩
  case gathers =>
    intro s s1 el rule x d a w sc f sts lanes task win hf harmed hroom hchk
    have hlanes : (ldgOp d a w sc f).lanes (s.elem el) x = some lanes := by obtain rfl | rfl := hf <;> rfl
    have hlen : lanes.length = if f = 0 then 4 else 2 := by rw [List.length_map, List.length_range]
    have hel : s1.elem el = s.elem el := State.elem_of_nodes (State.nodes_of_check hchk) el
    have hcommit := State.memForm_commits (o := ldgOp d a w sc f) harmed hroom hlanes hchk
    rw [← hel, hlen] at hcommit
    exact hcommit
  case scatters =>
    intro s s1 el rule x d a b w sc f sts lanes task win hf harmed hroom hchk
    have hlanes : (stgOp d a b w sc f).lanes (s.elem el) x = some lanes := by obtain rfl | rfl := hf <;> rfl
    have hlen : lanes.length = if f = 0 then 4 else 2 := by rw [List.length_map, List.length_range]
    have hel : s1.elem el = s.elem el := State.elem_of_nodes (State.nodes_of_check hchk) el
    have hcommit := State.memForm_commits (o := stgOp d a b w sc f) harmed hroom hlanes hchk
    rw [← hel, hlen] at hcommit
    exact hcommit
  case noGather =>
    intro harmed hroom
    have hlanes : (ldgOp d a w sc f).lanes (s.elem el) x = none := by simp [ldgOp, gatherLanes_reserved h0 h1]
    exact State.memForm_reserved (o := ldgOp d a w sc f) harmed hroom hlanes
  case noScatter =>
    intro harmed hroom
    have hlanes : (stgOp d a b w sc f).lanes (s.elem el) x = none := by simp [stgOp, gatherLanes_reserved h0 h1]
    exact State.memForm_reserved (o := stgOp d a b w sc f) harmed hroom hlanes

end Sys2Proof.Machine
end

section
/-! A memory-form or barrier rule that fails a check (R79, R80, R82, R182, R207): the freeze of its element, and its withdrawal. -/

namespace Sys2Proof.Machine

/-- R79, R82, R182: the element `e'` that a rule with operands `x` and window `w` of state `s` leaves when it aborts at `off`. -/
def Froze (s : State) (el rule : Nat) (x : In) (w : BitVec 3) (code : Byte) (off : Nat) (e' : Elem) : Prop :=
  let e := s.elem el
  e'.life = .frozen ∧ e'.fault.code = code ∧ e'.fault.rule = BitVec.ofNat 4 rule ∧ e'.fault.w = w ∧ e'.fault.vav = true
  ∧ e'.fault.user = 0 ∧ e'.fault.opa = x.a.data ∧ e'.fault.opb = x.b.data ∧ e'.fault.offset = Word.ofNat off
  ∧ e'.fault.va = BitVec.ofNat 64 (((s.window (s.taskOfElem el) w).base + off) % 2 ^ 52) ∧ e'.fault.stamp = s.cycleOf (regionOfElem el)
  ∧ e'.d = e.d ∧ e'.p = e.p ∧ e'.ports = e.ports ∧ e'.pend = e.pend ∧ e'.dis = e.dis

theorem State.abortRule_memFault {s s' : State} {el : Nat} (hn : s'.nodes = s.nodes) (hc : s'.regions.clocks = s.regions.clocks)
    (hrun : (s.elem el).life = .running) (rule : Nat) (x : In) (w : BitVec 3) (code : Byte) (off : Nat) :
    ∃ e', s'.abortRule el (memFault code rule x w (s.window (s.taskOfElem el) w) off) = s'.setElem el e'
      ∧ Froze s el rule x w code off e' := by
  refine ⟨_, rfl, ?_⟩
  rw [State.elem_of_nodes hn, Elem.freeze_of_running hrun, State.cycleOf_of_clocks hc]
  exact ⟨rfl, rfl, rfl, rfl, rfl, rfl, rfl, rfl, rfl, rfl, rfl, rfl, rfl, rfl, rfl, rfl⟩

/-- The checks that an instruction makes of the lanes `ls` of its operands: by their answer its rule is withdrawn or aborts. -/
def ChecksLanes (i : Instr) (d a : BitVec 5) (b : Option (BitVec 5)) (w : BitVec 3) (perm : Window → Bool) (k : Option Kind)
    (token : In → Token) (ls : Elem → In → List Lane) : Prop :=
  ∀ (s s1 : State) (el rule : Nat) (x : In),
    let win := s.window (s.taskOfElem el) w
    let answer := s.check el (s.ctxOfTask (s.taskOfElem el)) win (perm win) k (ls (s.elem el) x)
    s.armed el rule (rq d (some a) b 0 0 1) x → (s.elem el).portRoom rule (deliver d (token x).tag (token x).data) = true →
    (answer = (.withdraw, s1) → exec i s = .next s1)
    ∧ ∀ code off, answer = (.fail code off, s1) →
      exec i s = .next (s1.abortRule el (memFault code rule x w win off))

theorem checksLanes_of_memForm {i : Instr} {o : MemOp} {ls : Elem → In → List Lane} (hi : ∀ s, exec i s = s.memForm o)
    (hl : ∀ e x, o.lanes e x = some (ls e x)) : ChecksLanes i o.d o.a o.b o.w o.perm o.src o.token ls := by
  intro s s1 el rule x win answer harmed hroom
  rw [hi]
  exact ⟨fun h => State.memForm_withdraws harmed hroom (hl _ _) h, fun code off h => State.memForm_aborts harmed hroom (hl _ _) h⟩

/-! The barrier instructions (R207): the same checks of one lane of 16 bytes. -/

theorem State.barForm_of_armed {s : State} {el rule : Nat} {q : Req} {x : In} {opc : Byte} {d a : BitVec 5} {b : Option (BitVec 5)}
    {w : BitVec 3} {sc : BitVec 2} (ha : s.armed el rule q x) :
    s.barForm opc d a b w sc = .next (s.barElem el rule opc d a b w sc) := by
  unfold State.barForm; rw [ha.1]

/-- R207: the operation of a barrier rule of element `el`, at the physical address `pa`. -/
def barOpOf (s s' : State) (el : Nat) (opc : Byte) (d a : BitVec 5) (b : Option (BitVec 5)) (w : BitVec 3) (sc : BitVec 2) (x : In)
    (pa : Nat) : BarOp :=
  { id := s'.fresh, el := el, pend := (s.elem el).nextId, task := s.taskOfElem el, opc := opc, pa := pa
    va := (s.window (s.taskOfElem el) w).base + x.a.data.toNat, count := x.b.data, opa := x.a.data, ends := takes (some a) b, win := w
    off := x.a.data.toNat, scope := sc, left := flitHome (tileOfElem el) pa, dchan := if dChan d then some (d.toNat - 8) else none }

/-- R207, R208: what the element still waits for. -/
def barJobOf (s' : State) (el : Nat) (opc : Byte) (sc : BitVec 2) : Job :=
  if opc = 0xD1 then .barWait s'.fresh (s'.owing el sc) else .bar s'.fresh

/-- R207: what a barrier rule of state `s` does by the answer of its checks. -/
def barAfter (s : State) (el rule : Nat) (opc : Byte) (d a : BitVec 5) (b : Option (BitVec 5)) (w : BitVec 3) (sc : BitVec 2) (x : In) :
    Chk × State → State
  | (.withdraw, s') => s'
  | (.fail code off, s') => s'.abortRule el (memFault code rule x w (s.window (s.taskOfElem el) w) off)
  | (.ok (.ready pa :: _), s') =>
    { s'.setElem el ((s'.elem el).suspend rule (deliver d Tag.data x.a.data ++ (s.elem el).everyCo rule)
        { id := 0, rule := 0, dst := d, port := true, job := barJobOf s' el opc sc }) with
      bars := s'.bars ++ [barOpOf s s' el opc d a b w sc x pa]
      fresh := s'.fresh + 1 }
  | (.ok _, s') => s'

theorem State.barElem_of_room {s : State} {el rule : Nat} {opc : Byte} {d a : BitVec 5} {b : Option (BitVec 5)}
    {w : BitVec 3} {sc : BitVec 2} {x : In} (hx : (s.elem el).input (rq d (some a) b 0 0 1) = some x)
    (hroom : (s.elem el).portRoom rule (deliver d Tag.data x.a.data) = true) :
    s.barElem el rule opc d a b w sc = barAfter s el rule opc d a b w sc x
      (s.check el (s.ctxOfTask (s.taskOfElem el)) (s.window (s.taskOfElem el) w) (s.window (s.taskOfElem el) w).a (some .barrier)
        [⟨x.a.data.toNat, 16, .read⟩]) := by
  simp only [State.barElem]
  split
  case h_1 h => exact absurd (hx.symm.trans h) nofun
  case h_2 y h =>
    obtain rfl : x = y := Option.some.inj (hx.symm.trans h)
    rw [if_neg (by rw [hroom]; exact Bool.false_ne_true)]
    generalize s.check el _ _ _ _ _ = r
    obtain ⟨(_ | ⟨_ | _, l⟩) | _ | _, s'⟩ := r <;> rfl

theorem checksLanes_of_barForm {i : Instr} {opc : Byte} {d a : BitVec 5} {b : Option (BitVec 5)} {w : BitVec 3} {sc : BitVec 2}
    (hi : ∀ s, exec i s = s.barForm opc d a b w sc) :
    ChecksLanes i d a b w Window.a (some .barrier) (fun x => ⟨x.a.data, Tag.data⟩) (fun _ x => [⟨x.a.data.toNat, 16, .read⟩]) := by
  intro s s1 el rule x win answer harmed hroom
  rw [hi, State.barForm_of_armed harmed, State.barElem_of_room harmed.2 hroom]
  exact ⟨fun h => congrArg (fun r => Host.Outcome.next (barAfter s el rule opc d a b w sc x r)) h,
    fun code off h => congrArg (fun r => Host.Outcome.next (barAfter s el rule opc d a b w sc x r)) h⟩

end Sys2Proof.Machine
end

section
/-! The obligation on failed checks and translations at issue. -/

namespace Sys2Proof.Machine

section
variable {i : Instr} {d a : BitVec 5} {b : Option (BitVec 5)} {w : BitVec 3} {size : Nat} {perm : Window → Bool} {k : Option Kind}
  {token : In → Token} {act : Elem → In → Act}

/-- R182: a lane that fails its bound, its alignment or its permission. -/
theorem ChecksLanes.faults (h : ChecksLanes i d a b w perm k token (fun e x => [⟨x.a.data.toNat, size, act e x⟩])) :
    ∀ (s : State) (el rule : Nat) (x : In) (code : Byte), s.armed el rule (rq d (some a) b 0 0 1) x →
      (s.elem el).portRoom rule (deliver d (token x).tag (token x).data) = true → (s.elem el).life = .running →
      firstFault (s.window (s.taskOfElem el) w) x.a.data.toNat size (perm (s.window (s.taskOfElem el) w)) = some code →
      ∃ e', exec i s = .next (s.setElem el e') ∧ Froze s el rule x w code x.a.data.toNat e' := by
  intro s el rule x code harmed hroom hrun hfault
  obtain ⟨e', habort, hfroze⟩ := State.abortRule_memFault (s' := s) rfl rfl hrun rule x w code x.a.data.toNat
  have hchk := State.check_cons_of_fault (s := s) (el := el) (ctx := s.ctxOfTask (s.taskOfElem el)) (src := k)
    (l := ⟨x.a.data.toNat, size, act (s.elem el) x⟩) (rest := []) hfault
  exact ⟨e', habort ▸ (h s s el rule x harmed hroom).2 _ _ hchk, hfroze⟩

/-- R183, R184: a lane that passes them and is to be translated. -/
theorem ChecksLanes.translates {kind : Kind}
    (h : ChecksLanes i d a b w perm (some kind) token (fun e x => [⟨x.a.data.toNat, size, act e x⟩])) :
    ∀ (s : State) (el rule : Nat) (x : In), s.armed el rule (rq d (some a) b 0 0 1) x →
      (s.elem el).portRoom rule (deliver d (token x).tag (token x).data) = true → (s.elem el).life = .running →
      firstFault (s.window (s.taskOfElem el) w) x.a.data.toNat size (perm (s.window (s.taskOfElem el) w)) = none →
      let ctx := s.ctxOfTask (s.taskOfElem el)
      let va := (s.window (s.taskOfElem el) w).base + x.a.data.toNat
      (s.heldPage el ctx va = true → exec i s = .next s)
      ∧ (s.heldPage el ctx va = false →
          (∀ s1, s.translate (tileOfElem el) ctx va kind = (.miss, s1) → exec i s = .next s1)
          ∧ ∀ code s1, s.translate (tileOfElem el) ctx va kind = (.bad code, s1) →
              ∃ e', exec i s = .next (s1.setElem el e') ∧ Froze s el rule x w code x.a.data.toNat e') := by
  intro s el rule x harmed hroom hrun hpass ctx va
  have hlane := fun s1 => h s s1 el rule x harmed hroom
  refine ⟨fun hheld => (hlane s).1 ?_, fun hfree => ⟨fun s1 ht => (hlane s1).1 ?_, fun code s1 ht => ?_⟩⟩
  · exact State.check_cons_held (l := ⟨x.a.data.toNat, size, act (s.elem el) x⟩) hpass hheld
  · exact State.check_cons_miss (l := ⟨x.a.data.toNat, size, act (s.elem el) x⟩) hpass hfree ht
  · obtain ⟨e', habort, hfroze⟩ := State.abortRule_memFault (State.nodes_of_translate ht) (State.clocks_of_translate ht) hrun rule x w code x.a.data.toNat
    have hchk := State.check_cons_bad (l := ⟨x.a.data.toNat, size, act (s.elem el) x⟩) (rest := []) hpass hfree ht
    exact ⟨e', habort ▸ (hlane s1).2 _ _ hchk, hfroze⟩

/-- R182, R190: any lanes. -/
theorem ChecksLanes.answers {ls : Elem → In → List Lane} (h : ChecksLanes i d a b w perm k token ls) :
    ∀ (s s1 : State) (el rule : Nat) (x : In),
      let win := s.window (s.taskOfElem el) w
      let answer := s.check el (s.ctxOfTask (s.taskOfElem el)) win (perm win) k (ls (s.elem el) x)
      s.armed el rule (rq d (some a) b 0 0 1) x → (s.elem el).portRoom rule (deliver d (token x).tag (token x).data) = true →
      (s.elem el).life = .running →
      (answer = (.withdraw, s1) → exec i s = .next s1)
      ∧ ∀ code off, answer = (.fail code off, s1) → ∃ e', exec i s = .next (s1.setElem el e') ∧ Froze s el rule x w code off e' := by
  intro s s1 el rule x win answer harmed hroom hrun
  refine ⟨(h s s1 el rule x harmed hroom).1, fun code off hfail => ?_⟩
  obtain ⟨e', habort, hfroze⟩ := State.abortRule_memFault (State.nodes_of_check hfail) (State.clocks_of_check hfail) hrun rule x w code off
  exact ⟨e', habort ▸ (h s s1 el rule x harmed hroom).2 _ _ hfail, hfroze⟩

end

/-- The memory-form operation of one lane checks that lane. -/
theorem checksLanes_of_oneLane {i : Instr} {opc : Byte} {d a : BitVec 5} {b : Option (BitVec 5)} {w : BitVec 3} {sc : BitVec 2}
    {size : Nat} {perm : Window → Bool} {src : Option Kind} {act : Elem → In → Act}
    (hi : ∀ s, exec i s = s.memForm (oneLane opc d a b w sc size perm src act)) :
    ChecksLanes i d a b w perm src (oneLane opc d a b w sc size perm src act).token (fun e x => [⟨x.a.data.toNat, size, act e x⟩]) :=
  checksLanes_of_memForm hi (fun _ _ => rfl)

/-- R190: the size of a lane of format `f`, and the offset of lane `j` that A gives. -/
def gatherSize (f : BitVec 4) : Nat := if f = 0 then 1 else 2
def gatherOffset (f : BitVec 4) (a : Word) (j : Nat) : Nat := if f = 0 then fldN a (8 * j) 8 else 2 * fldN a (16 * j) 16

/-- R190: lanes of a format, side by side in a word. -/
def formatLanes (f : BitVec 4) (a : Word) (act : Nat → Act) : List Lane :=
  (List.range (4 / gatherSize f)).map (fun j => { off := gatherOffset f a j, size := gatherSize f, act := act j })

theorem formatLanes_zero (a : Word) (act : Nat → Act) :
    formatLanes 0 a act = [⟨fldN a 0 8, 1, act 0⟩, ⟨fldN a 8 8, 1, act 1⟩, ⟨fldN a 16 8, 1, act 2⟩, ⟨fldN a 24 8, 1, act 3⟩] := by
  have hn : 4 / gatherSize 0 = 4 := rfl
  rw [formatLanes, hn]
  rfl

theorem formatLanes_one (a : Word) (act : Nat → Act) :
    formatLanes 1 a act = [⟨2 * fldN a 0 16, 2, act 0⟩, ⟨2 * fldN a 16 16, 2, act 1⟩] := by
  have hn : 4 / gatherSize 1 = 2 := rfl
  rw [formatLanes, hn]
  rfl

theorem ldgOp_lanes {f : BitVec 4} (hf : f = 0 ∨ f = 1) (d a : BitVec 5) (w : BitVec 3) (sc : BitVec 2) (e : Elem) (x : In) :
    (ldgOp d a w sc f).lanes e x = some (formatLanes f x.a.data (fun _ => .read)) := by
  obtain rfl | rfl := hf
  · rw [formatLanes_zero]; rfl
  · rw [formatLanes_one]; rfl

theorem stgOp_lanes {f : BitVec 4} (hf : f = 0 ∨ f = 1) (d a b : BitVec 5) (w : BitVec 3) (sc : BitVec 2) (e : Elem) (x : In) :
    (stgOp d a b w sc f).lanes e x = some (formatLanes f x.a.data (fun j => .write (x.b.data >>> (8 * gatherSize f * j)))) := by
  obtain rfl | rfl := hf
  · rw [formatLanes_zero]; rfl
  · rw [formatLanes_one]; rfl

/-- Settles O36: every instruction of the statement makes the checks of its lanes; what they answer for one lane is what the lane
meets, and no look-up changes an element or a cycle counter, so that the freeze records the state of before. -/
theorem accessFaults : Obligations.AccessFaults := by
  unfold Obligations.AccessFaults
  intro froze fails source lanes empty load three
  have loads : ∀ {c : BitVec 5 → BitVec 5 → BitVec 3 → BitVec 2 → Instr} {opc : Byte} {n : Nat},
      (∀ d a w sc s, exec (c d a w sc) s = loadForm opc n d a w sc s) → load c n := fun h d a w sc =>
    have hlane := checksLanes_of_oneLane (h d a w sc)
    ⟨hlane.faults, hlane.translates⟩
  have stores : ∀ {c : BitVec 5 → BitVec 5 → BitVec 5 → BitVec 3 → BitVec 2 → Instr} {opc : Byte} {n : Nat},
      (∀ d a b w sc s, exec (c d a b w sc) s = storeForm opc n d a b w sc s) → three c n Window.w (fun x => x.a) := fun h d a b w sc =>
    (checksLanes_of_oneLane (h d a b w sc)).faults
  have atomics : ∀ {c : BitVec 5 → BitVec 5 → BitVec 5 → BitVec 3 → BitVec 2 → Instr} {opc : Byte},
      (∀ d a b w sc s, exec (c d a b w sc) s = atomicForm opc d a b w sc 0 s) →
      three c 4 Window.a empty ∧ ∀ d a b w sc, source (c d a b w sc) d a (some b) w 4 Window.a .atomic empty := fun h =>
    ⟨fun d a b w sc => (checksLanes_of_oneLane (h d a b w sc)).faults, fun d a b w sc => (checksLanes_of_oneLane (h d a b w sc)).translates⟩
  have reductions : ∀ {c : BitVec 5 → BitVec 5 → BitVec 5 → BitVec 3 → BitVec 2 → Instr} {opc : Byte},
      (∀ d a b w sc s, exec (c d a b w sc) s = reduceForm opc d a b w sc s) → three c 4 Window.a (fun x => x.a) := fun h d a b w sc =>
    (checksLanes_of_oneLane (h d a b w sc)).faults
  have barriers : ∀ {i : Instr} {opc : Byte} {d a : BitVec 5} {b : Option (BitVec 5)} {w : BitVec 3} {sc : BitVec 2},
      (∀ s, exec i s = s.barForm opc d a b w sc) → fails i d a b w 16 Window.a (fun x => ⟨x.a.data, Tag.data⟩)
        ∧ source i d a b w 16 Window.a .barrier (fun x => ⟨x.a.data, Tag.data⟩) := fun h =>
    have hlane := checksLanes_of_barForm h
    ⟨hlane.faults, hlane.translates⟩
  refine ⟨loads (fun _ _ _ _ _ => rfl), loads (fun _ _ _ _ _ => rfl), loads (fun _ _ _ _ _ => rfl), loads (fun _ _ _ _ _ => rfl),
    loads (fun _ _ _ _ _ => rfl), stores (fun _ _ _ _ _ _ => rfl), stores (fun _ _ _ _ _ _ => rfl), stores (fun _ _ _ _ _ _ => rfl),
    ?atomics, fun d a b w sc k => ?acas, ?reductions, fun d a b w sc f hf => ?gathers, fun d a b w sc => ?barriers⟩
  case atomics =>
    simp only [List.forall_mem_cons, List.not_mem_nil, false_imp_iff, implies_true, and_true]
    exact ⟨atomics (fun _ _ _ _ _ _ => rfl), atomics (fun _ _ _ _ _ _ => rfl), atomics (fun _ _ _ _ _ _ => rfl),
      atomics (fun _ _ _ _ _ _ => rfl), atomics (fun _ _ _ _ _ _ => rfl), atomics (fun _ _ _ _ _ _ => rfl),
      atomics (fun _ _ _ _ _ _ => rfl), atomics (fun _ _ _ _ _ _ => rfl), atomics (fun _ _ _ _ _ _ => rfl),
      atomics (fun _ _ _ _ _ _ => rfl), atomics (fun _ _ _ _ _ _ => rfl), atomics (fun _ _ _ _ _ _ => rfl),
      atomics (fun _ _ _ _ _ _ => rfl), atomics (fun _ _ _ _ _ _ => rfl)⟩
  case acas =>
    have hlane : ∀ s, exec (.acas d a b w sc k) s = _ := fun s => rfl
    exact ⟨(checksLanes_of_oneLane hlane).faults, (checksLanes_of_oneLane hlane).translates⟩
  case reductions =>
    simp only [List.forall_mem_cons, List.not_mem_nil, false_imp_iff, implies_true, and_true]
    exact ⟨reductions (fun _ _ _ _ _ _ => rfl), reductions (fun _ _ _ _ _ _ => rfl), reductions (fun _ _ _ _ _ _ => rfl),
      reductions (fun _ _ _ _ _ _ => rfl), reductions (fun _ _ _ _ _ _ => rfl), reductions (fun _ _ _ _ _ _ => rfl),
      reductions (fun _ _ _ _ _ _ => rfl), reductions (fun _ _ _ _ _ _ => rfl), reductions (fun _ _ _ _ _ _ => rfl),
      reductions (fun _ _ _ _ _ _ => rfl)⟩
  case gathers =>
    exact ⟨(checksLanes_of_memForm (exec_ldg d a w sc f) (ldgOp_lanes hf d a w sc)).answers,
      (checksLanes_of_memForm (exec_stg d a b w sc f) (stgOp_lanes hf d a b w sc)).answers⟩
  case barriers =>
    simp only [List.forall_mem_cons, List.not_mem_nil, false_imp_iff, implies_true, and_true]
    exact ⟨barriers (fun _ => rfl), barriers (fun _ => rfl), barriers (fun _ => rfl), barriers (fun _ => rfl)⟩

end Sys2Proof.Machine
end

section
/-! The obligation on what the checks leave alone: the dirty bit of a translated access is stored in the live bitmap, and the reading
of the bitmap's group may be the sixteenth correction of a bank. -/

namespace Sys2Proof.Machine

/-- The first byte of the live bitmap, in the slice of the M-tile 18. -/
def bitmapAt : Nat := 2 ^ 40 + 18 * 2 ^ 22

/-- A lane that the window and the translation cache of tile 1 let pass. -/
def loggedLane : Lane := ⟨0, 4, .atomic 0xAB 1 0⟩

/-- A window of four bytes that allows every access. -/
def openWindow : Window := { len := 4, r := true, w := true, a := true }

/-- R369, R419, R420: context 0 logs its writes at bitmapAt. The group there has a symbol of bank 3 wrong, bank 3 of the slice has
15 corrections in this scrub period, and the next group has a symbol of bank 5 wrong. -/
def loggingState : State :=
  { tlbs := [(1, [{ ctx := 0, base := 0, big := false, leaf := some ⟨0, true, false, false, false, true, true⟩ }])]
    ctxs := [(0, { dlctl := 1, dlpages := 64, dlbase := BitVec.ofNat 64 bitmapAt })]
    flaws := [⟨bitmapAt, 3, 1⟩, ⟨bitmapAt + 16, 5, 1⟩]
    banks := [(18, { hits := (List.range 15).map (fun k => (3, bitmapAt + 32 + 16 * k)) })] }

/-- R420: the correction marks bank 3 failed, and the next group is beyond the code: it gets its mark of poison. -/
theorem check_poisons : (loggingState.check 16 0 openWindow true (some .atomic) [loggedLane]).2.poison
    = [bitmapAt + 16] := by decide +kernel

/-- Refutes O35: the checks may leave a mark of poison that was not there. -/
theorem not_accessChecks : ¬ Obligations.AccessChecks := by
  intro h
  obtain ⟨-, hframe⟩ := h loggingState 16 0 openWindow true (some .atomic) [loggedLane] loggedLane []
  obtain ⟨-, -, -, -, -, -, -, -, -, -, hpoison, -⟩ := hframe _ _ Prod.mk.eta.symm
  rw [check_poisons] at hpoison
  exact absurd hpoison (List.cons_ne_nil _ _)

end Sys2Proof.Machine
end

section
/-! The tables of the atomics and of the reducing copies (R192, R193, R197), in exact arithmetic. -/

namespace Sys2Proof.Machine

/-- The smaller by a key, in the form of the tables. -/
theorem key_smaller {α β : Type} [LinearOrder α] (key : β → α) (old v : β) :
    key (if key v < key old then v else old) = min (key old) (key v) := by
  split
  case isTrue h => exact (min_eq_right h.le).symm
  case isFalse h => exact (min_eq_left (not_lt.1 h)).symm

theorem key_larger {α β : Type} [LinearOrder α] (key : β → α) (old v : β) :
    key (if key old < key v then v else old) = max (key old) (key v) := by
  split
  case isTrue h => exact (max_eq_right h.le).symm
  case isFalse h => exact (max_eq_left (not_lt.1 h)).symm

/-- R192: AGIVE clamps. -/
theorem clampedAdd_toNat (old v : Word) :
    (if 2 ^ 32 ≤ old.toNat + v.toNat then (0xFFFFFFFF : Word) else old + v).toNat = min (2 ^ 32 - 1) (old.toNat + v.toNat) := by
  have hold := old.isLt
  have hv := v.isLt
  split
  case isTrue h => rw [min_eq_left (by omega)]; rfl
  case isFalse h => rw [BitVec.toNat_add, Nat.mod_eq_of_lt (by omega), min_eq_right (by omega)]

/-- R174: the two lanes of ABADD2. -/
theorem two_bf16_add (old v : Word) :
    let r := (two (fun _ a b => lx (bf16.addC a b)) 0 old v).1
    fldN r 0 16 = (bf16.addC (fldN old 0 16) (fldN v 0 16)).code ∧ fldN r 16 16 = (bf16.addC (fldN old 16 16) (fldN v 16 16)).code :=
  fldN_two (bf16_lane ▸ bf16_regular.deliver_code_lt _) (bf16_lane ▸ bf16_regular.deliver_code_lt _)

/-- Settles O37: the rows of the table one by one; what each computes is the exact value that the row names. -/
theorem atomicValues : Obligations.AtomicValues := by
  intro old v cmp new
  refine ⟨⟨BitVec.toNat_add old v, rfl⟩, ⟨toNat_sub_emod old v, rfl⟩, ⟨key_smaller BitVec.toInt old v, rfl⟩,
    ⟨key_larger BitVec.toInt old v, rfl⟩, ⟨key_smaller BitVec.toNat old v, rfl⟩, ⟨key_larger BitVec.toNat old v, rfl⟩,
    fun k hk => ⟨BitVec.getLsbD_and .., BitVec.getLsbD_or .., BitVec.getLsbD_xor ..⟩, ⟨rfl, rfl, rfl⟩, ⟨rfl, rfl⟩, ⟨rfl, beq_iff_eq⟩, ⟨rfl, rfl⟩,
    ⟨(two_bf16_add old v).1, (two_bf16_add old v).2, rfl⟩, ⟨fun hle => ⟨?take, decide_eq_true hle⟩, fun hlt => decide_eq_false (by omega)⟩,
    ⟨?give, rfl⟩, ?reductions⟩
  case give => exact clampedAdd_toNat old v
  case reductions => simp [reduceAs]
  case take => exact BitVec.toNat_sub_of_le (BitVec.le_def.2 hle)

end Sys2Proof.Machine
end

section
/-! An access at its home (R186, R187, R189, R197, R421). -/

namespace Sys2Proof.Machine

/-! The combined values of a reducing copy (R197). -/

theorem toNat_ofNat_bytes {n x : Nat} (h : x < 2 ^ (8 * n)) : (BitVec.ofNat (8 * n) x).toNat = x := by
  rw [BitVec.toNat_ofNat, Nat.mod_eq_of_lt h]

/-- The signed value of `n` bytes. -/
def signedOf (n x : Nat) : Int := if 2 * x < 2 ^ (8 * n) then (x : Int) else (x : Int) - (2 ^ (8 * n) : Nat)

theorem toInt_ofNat_bytes {n x : Nat} (h : x < 2 ^ (8 * n)) : (BitVec.ofNat (8 * n) x).toInt = signedOf n x := by
  rw [BitVec.toInt_eq_toNat_cond, toNat_ofNat_bytes h, signedOf]

section
variable {n old v : Nat} (hold : old < 2 ^ (8 * n)) (hv : v < 2 ^ (8 * n))
include hold hv

theorem combineNew_smaller : combineNew 2 n old v = if signedOf n v < signedOf n old then v else old := by
  rw [← toInt_ofNat_bytes hold, ← toInt_ofNat_bytes hv]
  exact if_congr decide_eq_true_iff rfl rfl

theorem combineNew_larger : combineNew 3 n old v = if signedOf n v < signedOf n old then old else v := by
  rw [← toInt_ofNat_bytes hold, ← toInt_ofNat_bytes hv]
  exact if_congr decide_eq_true_iff rfl rfl

end

theorem combineNew_floats {old v : Nat} (hold : old < 2 ^ 32) (hv : v < 2 ^ 32) :
    combineNew 9 4 old v = (fp32.addC old v).code
    ∧ combineNew 10 4 old v = (bf16.addC (old % 2 ^ 16) (v % 2 ^ 16)).code + 2 ^ 16 * (bf16.addC (old / 2 ^ 16) (v / 2 ^ 16)).code := by
  have hlow : ∀ {x : Nat}, x < 2 ^ 32 → fldN (Word.ofNat x) 0 16 = x % 2 ^ 16 := fun h => by
    rw [fldN, Word.toNat_ofNat_of_lt h, pow_zero, Nat.div_one]
  have hhigh : ∀ {x : Nat}, x < 2 ^ 32 → fldN (Word.ofNat x) 16 16 = x / 2 ^ 16 := fun h => by
    rw [fldN, Word.toNat_ofNat_of_lt h]; omega
  have hcode : ∀ x y, (bf16.addC x y).code < 2 ^ 16 := fun x y => bf16_lane ▸ bf16_regular.deliver_code_lt _
  refine ⟨?fp32, ?bf16⟩
  case fp32 =>
    have h32 : (fp32.addC old v).code < 2 ^ 32 := fp32_regular.deliver_code_lt _
    calc combineNew 9 4 old v = (Word.ofNat (fp32.addC (Word.ofNat old).toNat (Word.ofNat v).toNat).code).toNat := rfl
      _ = _ := by rw [Word.toNat_ofNat_of_lt hold, Word.toNat_ofNat_of_lt hv, Word.toNat_ofNat_of_lt h32]
  case bf16 =>
    have hlo := hcode (old % 2 ^ 16) (v % 2 ^ 16)
    have hhi := hcode (old / 2 ^ 16) (v / 2 ^ 16)
    calc combineNew 10 4 old v = (Word.ofNat ((bf16.addC (fldN (Word.ofNat old) 0 16) (fldN (Word.ofNat v) 0 16)).code
          + (bf16.addC (fldN (Word.ofNat old) 16 16) (fldN (Word.ofNat v) 16 16)).code * 2 ^ 16)).toNat := rfl
      _ = _ := by rw [hlow hold, hlow hv, hhigh hold, hhigh hv, Word.toNat_ofNat_of_lt (by omega), Nat.mul_comm]

/-- R197: the table of the combined values, in exact arithmetic. -/
theorem combineNew_table {n old v : Nat} (hold : old < 2 ^ (8 * n)) (hv : v < 2 ^ (8 * n)) :
    let new := fun op : BitVec 4 => combineNew op n old v
    new 0 = v ∧ new 1 = (old + v) % 2 ^ (8 * n)
    ∧ (new 2 < 2 ^ (8 * n) ∧ signedOf n (new 2) = min (signedOf n old) (signedOf n v))
    ∧ (new 3 < 2 ^ (8 * n) ∧ signedOf n (new 3) = max (signedOf n old) (signedOf n v))
    ∧ new 4 = min old v ∧ new 5 = max old v
    ∧ (∀ k, (new 6).testBit k = (old.testBit k && v.testBit k) ∧ (new 7).testBit k = (old.testBit k || v.testBit k)
        ∧ (new 8).testBit k = (old.testBit k != v.testBit k)) := by
  refine ⟨rfl, rfl, ?smaller, ?larger, rfl, rfl, fun k => ⟨Nat.testBit_and .., Nat.testBit_or .., Nat.testBit_xor ..⟩⟩
  case smaller =>
    dsimp only
    rw [combineNew_smaller hold hv]
    exact ⟨by split <;> assumption, key_smaller (signedOf n) old v⟩
  case larger =>
    dsimp only
    rw [combineNew_larger hold hv]
    refine ⟨by split <;> assumption, ?_⟩
    rw [max_comm]
    exact key_larger (signedOf n) v old

/-! The access (R187, R189). -/

theorem homeAct_atomic (m : Memory) (pa size : Nat) (opc : Byte) (v cmp : Word) :
    homeAct m pa size (.atomic opc v cmp) = (m.word pa,
      if (atomicNew opc (m.word pa) v cmp).2 then m.writeN pa 4 (atomicNew opc (m.word pa) v cmp).1.toNat else m) := by
  simp only [homeAct]
  generalize atomicNew opc (m.word pa) v cmp = r
  obtain ⟨new, _ | _⟩ := r <;> rfl

/-- R187, R189: the bytes that a home writes lie inside its access, of one word at least. -/
theorem homeAct_outside (m : Memory) (pa size : Nat) (act : Act) {b : Nat} (hb : b < pa ∨ pa + max size 4 ≤ b) :
    (homeAct m pa size act).2.read b = m.read b := by
  have hout : ∀ {n v : Nat}, n ≤ max size 4 → (m.writeN pa n v).read b = m.read b := fun hn =>
    Memory.read_writeN_outside m _ _ (by omega)
  cases act with
  | read => rfl
  | write v => exact hout (le_max_left _ _)
  | atomic opc v cmp =>
    rw [homeAct_atomic]
    dsimp only
    split
    · exact hout (le_max_right _ _)
    · rfl
  | reduce opc v => exact hout (le_max_right _ _)
  | combine op v => exact hout (le_max_left _ _)
  | swap op v old => exact hout (le_max_left _ _)

section
variable {s : State} {acc : Nat} {a : Access} (ha : s.acc? acc = some a)
include ha

theorem exec_access_blocked (hb : s.blocked a = true) : exec (.memoryAccessAtHome acc) s = .next s := by
  show execMemoryAccessAtHome acc s = .next s
  unfold execMemoryAccessAtHome
  simp only [ha, hb, if_true]

theorem exec_access_ready {pa : Nat} (hb : s.blocked a = false) (hst : a.st = .ready pa) :
    exec (.memoryAccessAtHome acc) s = .next (s.perform a pa) := by
  show execMemoryAccessAtHome acc s = _
  unfold execMemoryAccessAtHome
  simp only [ha, hb, hst, Bool.false_eq_true, if_false]

end

theorem State.perform_poisoned {s : State} {a : Access} {pa : Nat} (hdev : isFabric pa = false)
    (hp : s.poisoned pa a.size a.act.isWrite = true) :
    s.perform a pa = ((s.noteBytes pa a.size).setAcc { a with st := .failed 0x70 }).eccFail a.task pa a.size := by
  unfold State.perform
  rw [if_neg (by rw [hdev]; exact Bool.false_ne_true), if_pos hp]

theorem State.perform_done {s : State} {a : Access} {pa : Nat} (hdev : isFabric pa = false)
    (hp : s.poisoned pa a.size a.act.isWrite = false) :
    s.perform a pa =
      let s1 := { s.noteBytes pa a.size with
        mem := (homeAct s.mem pa a.size a.act).2
        accs := s.accs.map (fun x =>
          if x.id = a.id then { a with st := .done (homeAct s.mem pa a.size a.act).1, left := flitHome a.src.tile pa } else x) }
      if a.act = .read then s1 else s1.rewritten pa a.size := by
  have haccs : (s.noteBytes pa a.size).accs = s.accs := congrArg (fun t => t.2.2.1) (State.noteBytes_stored s pa a.size)
  unfold State.perform
  rw [if_neg (by rw [hdev]; exact Bool.false_ne_true), if_neg (by rw [hp]; exact Bool.false_ne_true), ← haccs]
  rfl

/-- Settles O38: the table of R197 row by row; an access that is free to go and translated is performed, and what its home does
is read off for each action; the reading of the groups changes nothing else that the statement names. -/
theorem accessAtHome : Obligations.AccessAtHome := by
  refine ⟨fun n old v hn hold hv => ?table, fun s acc pa a ha => ⟨exec_access_blocked ha, fun hb hst hdev hp => ?done,
    fun hb hst hdev hp => ?poisoned, fun hf hp => State.noteBytes_of_clean hf hp pa a.size, fun n => ?frame⟩⟩
  case table =>
    obtain ⟨h0, h1, h2, h3, h4, h5, hbits⟩ := combineNew_table hold hv
    exact ⟨h0, h1, h2, h3, h4, h5, hbits, by rintro rfl; exact combineNew_floats hold hv⟩
  case done =>
    refine ⟨(homeAct s.mem pa a.size a.act).1, (homeAct s.mem pa a.size a.act).2, ?_⟩
    intro s1
    rw [exec_access_ready ha hb hst, State.perform_done hdev hp]
    refine ⟨rfl, fun h => ?_, fun w h => ?_, fun opc w c h => ?_, fun opc w h => ?_, fun op w h => ?_, fun b hb => homeAct_outside _ _ _ _ hb⟩ <;>
      rw [h]
    · exact ⟨rfl, BitVec.toNat_ofNat ..⟩
    · rfl
    · rw [homeAct_atomic]; exact ⟨rfl, rfl⟩
    · rfl
    · rfl
  case poisoned => rw [exec_access_ready ha hb hst, State.perform_poisoned hdev hp]
  case frame =>
    have h := State.noteBytes_stored s pa n
    have hn := State.nodes_of_stored h
    exact ⟨congrArg (fun t => t.2.1) h, congrArg (fun t => t.2.2.1) h, State.elems_of_nodes hn, congrArg (fun t => t.2.2.2.1) h,
      congrArg (fun t => t.2.2.2.2) h, State.presses_of_nodes hn, State.units_of_nodes hn, State.copies_of_nodes hn,
      State.loupes_of_nodes hn, State.chans_of_nodes hn, State.queues_of_nodes hn⟩

end Sys2Proof.Machine
end


-- ==== Proofs: FENCE's token waits for what its element issued before (O40, R191) ====
section
/-! PROOFS. What an issue into the port queue adds to the pending list, and FENCE: the accesses it waits for are those the
element still owes at its scope, and its completion looks at them again (R191). -/

namespace Sys2Proof.Machine

/-- R186: the entry that an issue into the port queue adds to the pending list. -/
def Elem.portEntry (e : Elem) (rule : Nat) (q : Req) (l : List Put) (job : Job) (port : Bool) : Pend :=
  e.entry rule l { id := 0, rule := 0, dst := q.d, port := port, job := job }

theorem Elem.issuePort_pend (e : Elem) (rule : Nat) (q : Req) (l : List Put) (job : Job) (port : Bool) :
    (e.issuePort rule q l job port).pend = e.pend ++ [e.portEntry rule q l job port] := by
  have hbefore : ((l.foldl Elem.leave (e.fireTakes rule (takes q.a q.b))).puts (e.everyCo rule)).pend = e.pend := by simp
  have hid : ((l.foldl Elem.leave (e.fireTakes rule (takes q.a q.b))).puts (e.everyCo rule)).nextId = e.nextId := by simp
  simp only [Elem.issuePort, Elem.suspend_pend, hbefore, Elem.portEntry, Elem.entry, hid]

/-- R191, R208: a name is owed exactly when an access of the element under it has not performed at the scope. -/
theorem State.mem_owing {s : State} {el : Nat} {sc : BitVec 2} {k : Nat} :
    k ∈ s.owing el sc ↔ ∃ a ∈ s.accs, a.id = k ∧ samePort a.src (.elem el 0) = true ∧ a.performed sc = false := by
  simp only [State.owing, List.mem_map, List.mem_filter, Bool.and_eq_true, Bool.not_eq_true']
  constructor
  · rintro ⟨a, ⟨ha, hport, howed⟩, hid⟩
    exact ⟨a, ha, hid, hport, howed⟩
  · rintro ⟨a, ha, hid, hport, howed⟩
    exact ⟨a, ⟨ha, hport, howed⟩, hid⟩

/-- R191: what a fence waits for has settled exactly when each of its accesses still listed has performed. -/
theorem State.settled_iff {s : State} {waits : List Nat} {sc : BitVec 2} :
    s.settled waits sc = true ↔ ∀ a ∈ s.accs, a.id ∈ waits → a.performed sc = true := by
  simp only [State.settled, List.all_eq_true, Bool.or_eq_true, Bool.not_eq_true', List.contains_eq_mem, decide_eq_false_iff_not]
  exact forall₂_congr fun a _ => ⟨fun h hin => h.resolve_left (not_not.2 hin), fun h => or_iff_not_imp_left.2 (h ∘ not_not.1)⟩

/-- FENCE issues its operation when the port queue and its result have room, and is withdrawn otherwise. -/
theorem exec_fence {s : State} {el rule : Nat} (hcur : s.cur = .rule el rule) (d : BitVec 5) (sc : BitVec 2) :
    exec (.fence d sc) s =
      if (s.elem el).portRoom rule (deliver d Tag.data 0) then
        .next (s.setElem el ((s.elem el).issuePort rule { d := d } (deliver d Tag.data 0)
          (.fence sc (s.owing el sc) (s.elem el).dropped) true))
      else .next s := by
  have hexec : exec (.fence d sc) s = execFence d sc s := rfl
  simp only [hexec, execFence, hcur]

/-- FENCE_COMPLETE sends the token once what the fence waits for has settled. -/
theorem exec_fenceComplete {s : State} {el id : Nat} {p : Pend} {sc : BitVec 2} {waits : List Nat} {dropped : Bool}
    (hp : (s.elem el).pend? id = some p) (hjob : p.job = .fence sc waits dropped) :
    exec (.fenceComplete el id) s =
      if s.settled waits sc then .next (s.setElem el ((s.elem el).finish id none dropped)) else .next s := by
  have hexec : exec (.fenceComplete el id) s = execFenceComplete el id s := rfl
  simp only [hexec, execFenceComplete, hp, hjob]

/-- Settles O40: the names that FENCE keeps are those of `State.owing`, and FENCE_COMPLETE tests `State.settled`. -/
theorem fenceWaits : Obligations.FenceWaits := by
  refine ⟨fun s el rule d sc hcur => ⟨fun hfull => ?_, fun hroom => ?_⟩, fun s el id p sc waits dropped hp hjob => ⟨?_, fun hdone => ?_⟩⟩
  case refine_1 => rw [exec_fence hcur, if_neg (Bool.eq_false_iff.1 hfull)]
  case refine_2 =>
    exact ⟨_, _, s.owing el sc, (exec_fence hcur d sc).trans (if_pos hroom), Elem.issuePort_pend .., rfl, rfl, rfl,
      fun a ha hport howed => State.mem_owing.2 ⟨a, ha, rfl, hport, howed⟩, fun k hk => State.mem_owing.1 hk⟩
  case refine_3 =>
    rintro ⟨a, ha, hin, howed⟩
    rw [exec_fenceComplete hp hjob, if_neg fun hset => ?_]
    exact absurd (State.settled_iff.1 hset a ha hin) (by simp [howed])
  case refine_4 => rw [exec_fenceComplete hp hjob, if_pos (State.settled_iff.2 hdone)]

end Sys2Proof.Machine
end

section
/-! PROOFS. The obligation on the verdict of a barrier object: the release tokens leave in the round after the verdict (R386), so each
has one round more to go than the verdict's own flit. -/

namespace Sys2Proof.Machine

/-- R385: a BARKILL of element 16 that its home has received. -/
def killOp : BarOp :=
  { id := 0, el := 16, pend := 0, task := 0, opc := 0xD2, pa := 0, va := 0, count := 0, dchan := none }

/-- R386: the object at byte 0 has its reset bytes, and element 17 waits at it; element 16 has sent a BARKILL. -/
def parkedState : State :=
  { elems := [(16, { pend := [{ id := 0, rule := 0, port := true, job := .bar 0 }] })]
    bars := [killOp]
    waiters := [⟨0, 0, 17, 1, 0, 0⟩] }

/-- The release tokens of the next state. -/
def releasesOf : Out → List Release
  | .next s => s.releases
  | _ => []

/-- R386: the home sends the waiter's release a round after the verdict. -/
theorem kill_releases_later : releasesOf (exec (.barrierHomeOp 0) parkedState)
    = [⟨17, 1, ⟨0, Tag.abort⟩, flitHome (tileOfElem 17) 0 + 1⟩] := by decide +kernel

/-- Refutes O49: the release of a parked waiter is under way one round longer than the statement says. -/
theorem not_barrierProtocol : ¬ Obligations.BarrierProtocol := by
  rintro ⟨-, -, hhome, -⟩
  obtain ⟨-, hverdict⟩ := hhome parkedState 0 killOp rfl (by decide +kernel) (by decide) (by decide)
  obtain ⟨s', hexec, -, -, -, -, -, -, -, -, hkill, -⟩ :=
    hverdict rfl rfl (by decide +kernel) (by decide +kernel) (by decide +kernel)
  obtain ⟨-, -, -, hrel⟩ := hkill rfl
  have hsent : s'.releases = [⟨17, 1, ⟨0, Tag.abort⟩, flitHome (tileOfElem 17) 0 + 1⟩] :=
    (congrArg releasesOf hexec).symm.trans kill_releases_later
  have hleft := congrArg (List.map Release.left) (hrel.symm.trans hsent)
  exact absurd hleft (by decide +kernel)

end Sys2Proof.Machine
end


-- ==== Proofs: an element of a copy lies between the extremes of its tuples, on the grid of its strides (O47, R198, R199) ====
section
/-! PROOFS. Each digit of an element's index adds between 0 and the last multiple of its dimension's stride (R198). So the element's
address lies between the extremes that the checks of R199 compare with the window, and stays on the grid of the element size. -/

namespace Sys2Proof.Machine

/-- R198: the least and the greatest part of an address that a dimension adds. -/
def Dim.least (st : Dim → BitVec 40) (d : Dim) : Int := min 0 (((d.ext.toNat : Int) - 1) * (st d).toInt)
def Dim.greatest (st : Dim → BitVec 40) (d : Dim) : Int := max 0 (((d.ext.toNat : Int) - 1) * (st d).toInt)

theorem spanLo_eq_sum (dims : List Dim) (st : Dim → BitVec 40) (base : Int) :
    spanLo dims st base = base + (dims.map (Dim.least st)).sum := by
  induction dims generalizing base with
  | nil => simp [spanLo]
  | cons d ds ih =>
    have hstep : spanLo (d :: ds) st base = spanLo ds st (base + d.least st) := rfl
    rw [hstep, ih, List.map_cons, List.sum_cons, add_assoc]

theorem spanHi_eq_sum (dims : List Dim) (st : Dim → BitVec 40) (base : Int) :
    spanHi dims st base = base + (dims.map (Dim.greatest st)).sum := by
  induction dims generalizing base with
  | nil => simp [spanHi]
  | cons d ds ih =>
    have hstep : spanHi (d :: ds) st base = spanHi ds st (base + d.greatest st) := rfl
    rw [hstep, ih, List.map_cons, List.sum_cons, add_assoc]

/-- A dimension's index below its extent adds no less than the least and no more than the greatest part. -/
theorem Dim.part_bounds (st : Dim → BitVec 40) (d : Dim) {j : Nat} (hj : j < d.ext.toNat) :
    d.least st ≤ (j : Int) * (st d).toInt ∧ (j : Int) * (st d).toInt ≤ d.greatest st := by
  have hj0 : (0 : Int) ≤ j := by omega
  have hj1 : (j : Int) ≤ (d.ext.toNat : Int) - 1 := by omega
  unfold Dim.least Dim.greatest
  rcases le_total 0 (st d).toInt with hst | hst
  · exact ⟨(min_le_left ..).trans (mul_nonneg hj0 hst), (mul_le_mul_of_nonneg_right hj1 hst).trans (le_max_right ..)⟩
  · exact ⟨(min_le_right ..).trans (mul_le_mul_of_nonpos_right hj1 hst), (mul_nonpos_of_nonneg_of_nonpos hj0 hst).trans (le_max_left ..)⟩

section Offsets
variable {dims : List Dim} (st : Dim → BitVec 40)

/-- A dimension of the record, or the one of extent 1 that stands for an index beyond it. -/
theorem dim_moves (hext : ∀ d ∈ dims, d.ext ≠ 0) (k : Nat) : 0 < (dims.getD k ⟨1, 0, 0⟩).ext.toNat := by
  rw [List.getD_eq_getElem?_getD]
  rcases hk : dims[k]? with _ | d
  · decide
  · exact Nat.pos_of_ne_zero fun h => hext d (List.mem_of_getElem? hk) (BitVec.eq_of_toNat_eq h)

/-- R198: what an element's index adds lies between the sums of the extremes. -/
theorem dimOff_bounds (hext : ∀ d ∈ dims, d.ext ≠ 0) (ks : List Nat) (i : Nat) :
    (ks.map (fun k => (dims.getD k ⟨1, 0, 0⟩).least st)).sum ≤ dimOff dims st ks i
    ∧ dimOff dims st ks i ≤ (ks.map (fun k => (dims.getD k ⟨1, 0, 0⟩).greatest st)).sum := by
  induction ks generalizing i with
  | nil => simp [dimOff]
  | cons k ks ih =>
    obtain ⟨hlo, hhi⟩ := (dims.getD k ⟨1, 0, 0⟩).part_bounds st (Nat.mod_lt i (dim_moves hext k))
    obtain ⟨hlo', hhi'⟩ := ih (i / (dims.getD k ⟨1, 0, 0⟩).ext.toNat)
    exact ⟨add_le_add hlo hlo', add_le_add hhi hhi'⟩

/-- R198: the element of index 0 stands at the base. -/
theorem dimOff_zero (ks : List Nat) : dimOff dims st ks 0 = 0 := by
  induction ks with
  | nil => rfl
  | cons k ks ih => simp [dimOff, ih]

/-- R199: when the stride of every dimension that moves is a multiple of `n`, so is what an element's index adds. -/
theorem dvd_dimOff (hext : ∀ d ∈ dims, d.ext ≠ 0) {n : Nat} (hst : strideBad dims st n = false) (ks : List Nat) (i : Nat) :
    (n : Int) ∣ dimOff dims st ks i := by
  induction ks generalizing i with
  | nil => exact dvd_zero _
  | cons k ks ih =>
    refine dvd_add ?_ (ih _)
    have hpos := dim_moves hext k
    rw [List.getD_eq_getElem?_getD] at hpos ⊢
    rcases hk : dims[k]? with _ | d
    · simp [Nat.mod_one]
    · rw [hk, Option.getD_some] at hpos
      have hgood := List.any_eq_false.1 hst d (List.mem_of_getElem? hk)
      rw [Bool.and_eq_true, decide_eq_true_eq, bne_iff_ne, not_and, not_not] at hgood
      rcases Nat.lt_or_ge 1 d.ext.toNat with hmoves | hone
      · exact (Int.dvd_of_emod_eq_zero (hgood hmoves)).mul_left _
      · have hdigit : i % d.ext.toNat = 0 := by
          rw [le_antisymm hone hpos, Nat.mod_one]
        simp only [Option.getD_some, hdigit, Nat.cast_zero, zero_mul, dvd_zero]

end Offsets

/-- R195: a permutation of the dimensions names each once, so a sum over it is the sum over the dimensions. -/
theorem sum_map_perm {dims : List Dim} {perm : List Nat} (hperm : perm.Perm (List.range dims.length)) (f : Dim → Int) :
    (perm.map (fun k => f (dims.getD k ⟨1, 0, 0⟩))).sum = (dims.map f).sum := by
  rw [(hperm.map _).sum_eq]
  refine congrArg List.sum (List.ext_getElem (by simp) fun k hk hk' => ?_)
  have hlen : k < dims.length := by simpa using hk'
  simp [List.getElem?_eq_getElem hlen]

/-- R198: an offset of the copy lies between the extremes of its tuples, and every element is on the grid of the first. -/
theorem offset_between {dims : List Dim} {perm : List Nat} (hperm : perm.Perm (List.range dims.length))
    (hext : ∀ d ∈ dims, d.ext ≠ 0) (st : Dim → BitVec 40) (base : Int) (i : Nat) :
    spanLo dims st (base + dimOff dims st perm 0) ≤ base + dimOff dims st perm i
    ∧ base + dimOff dims st perm i ≤ spanHi dims st (base + dimOff dims st perm 0) := by
  obtain ⟨hlo, hhi⟩ := dimOff_bounds st hext perm i
  rw [sum_map_perm hperm] at hlo hhi
  rw [spanLo_eq_sum, spanHi_eq_sum, dimOff_zero, add_zero]
  exact ⟨add_le_add_right hlo base, add_le_add_right hhi base⟩

/-- R199: with the first element aligned and every stride that moves a multiple of the size, each element is aligned. -/
theorem offset_aligned {dims : List Dim} (hext : ∀ d ∈ dims, d.ext ≠ 0) (st : Dim → BitVec 40) {n : Nat}
    (hst : strideBad dims st n = false) (perm : List Nat) (win base : Int) (h0 : (win + (base + dimOff dims st perm 0)) % n = 0) (i : Nat) :
    (win + (base + dimOff dims st perm i)) % n = 0 := by
  rw [dimOff_zero, add_zero] at h0
  rw [← add_assoc]
  exact Int.emod_eq_zero_of_dvd (dvd_add (Int.dvd_of_emod_eq_zero h0) (dvd_dimOff st hext hst perm i))

/-- A check that does not fail leaves the answer to the checks behind it. -/
theorem CopyChk.passed {p : Prop} [Decidable p] {code : Byte} {x : CopyChk} {down : Bool} {slots : List Nat}
    (h : (if p then .fail code else x) = .ok down slots) : ¬ p ∧ x = .ok down slots := by
  split at h
  · cases h
  next hp => exact ⟨hp, h⟩

/-- R199: what a passed check says, check by check. -/
theorem State.copyCheck_ok {s : State} {tile k : Nat} {a b : Word} {h : Shape} {down : Bool} {slots : List Nat}
    (hk : Table.get? (s.copyEng tile).tmpls k = some h) (hok : s.copyCheck tile k a b = .ok down slots) :
    let task := s.taskOfRegion (regionOfTile tile)
    let sw := s.window task h.swin
    let dw := s.window task h.dwin
    let n := 2 ^ h.ssize.toNat
    let m := 2 ^ h.dsize.toNat
    (0 ≤ spanLo h.dims Dim.sst (h.src a 0) ∧ spanHi h.dims Dim.sst (h.src a 0) + (n : Nat) ≤ sw.len
      ∧ ((sw.base : Int) + h.src a 0) % (n : Nat) = 0 ∧ strideBad h.dims Dim.sst n = false ∧ sw.r = true)
    ∧ (h.dkind = 0 → 0 ≤ spanLo h.dims Dim.dst (h.dst b 0) ∧ spanHi h.dims Dim.dst (h.dst b 0) + (m : Nat) ≤ dw.len
      ∧ ((dw.base : Int) + h.dst b 0) % (m : Nat) = 0 ∧ strideBad h.dims Dim.dst m = false
      ∧ (if h.redop = 0 then dw.w else dw.a) = true)
    ∧ down = s.copyDown tile k a b ∧ slots = h.slots b := by
  intro task sw dw n m
  simp only [State.copyCheck, hk] at hok
  obtain ⟨hbound, hok⟩ := CopyChk.passed hok
  obtain ⟨-, hok⟩ := CopyChk.passed hok
  obtain ⟨halign, hok⟩ := CopyChk.passed hok
  obtain ⟨hallow, hok⟩ := CopyChk.passed hok
  obtain ⟨-, hok⟩ := CopyChk.passed hok
  obtain ⟨hdown, hslots⟩ := CopyChk.ok.inj hok
  simp only [not_or, not_and, not_lt, not_not, Bool.not_eq_true, Bool.not_eq_eq_eq_not, Bool.not_true, beq_iff_eq,
    Bool.not_eq_false] at hbound halign hallow
  obtain ⟨hlo, hhi, hdst⟩ := hbound
  obtain ⟨halign0, hgrid, halignd⟩ := halign
  obtain ⟨hread, hwrite⟩ := hallow
  refine ⟨⟨hlo, hhi, halign0, hgrid, hread⟩, fun hmem => ?_, hdown.symm, hslots.symm⟩
  exact ⟨(hdst hmem).1, (hdst hmem).2, (halignd hmem).1, (halignd hmem).2, hwrite hmem⟩

/-- Settles O47: the extremes that the checks compare with the windows bound every element, and the grid holds it aligned. -/
theorem copyBounds : Obligations.CopyBounds := by
  intro s tile k a b h down slots hk hperm hext hok
  obtain ⟨⟨hlo, hhi, halign, hgrid, hread⟩, hdst, -⟩ := State.copyCheck_ok hk hok
  refine ⟨hread, fun hmem => ?_, fun i _ => ?_⟩
  case refine_1 =>
    obtain ⟨-, -, -, -, hwrite⟩ := hdst hmem
    exact hwrite
  case refine_2 =>
    obtain ⟨hge, hle⟩ := offset_between hperm hext Dim.sst (h.soff.toNat + a.toNat * h.pss.toInt) i
    refine ⟨hlo.trans hge, (add_le_add_left hle _).trans hhi, offset_aligned hext Dim.sst hgrid h.perm _ _ halign i, fun hmem => ?_⟩
    obtain ⟨hlo', hhi', halign', hgrid', -⟩ := hdst hmem
    obtain ⟨hge', hle'⟩ := offset_between hperm hext Dim.dst (h.doff.toNat + b.toNat * h.pds.toInt) i
    exact ⟨hlo'.trans hge', (add_le_add_left hle' _).trans hhi', offset_aligned hext Dim.dst hgrid' h.perm _ _ halign' i⟩

end Sys2Proof.Machine
end


-- ==== Proofs: walks from submission to their result (O52, R209, R210, R306, R310 to R314) ====
section
/-! PROOFS. The slot of a Loupe after a write, the end of a walk, the checks of its reads and what their return does; then the
submission, which holds the output end that the result tokens will enter. -/

namespace Sys2Proof.Machine

/-! Slots of a Loupe. -/

@[simp] theorem State.slot_setSlot_same (s : State) (t k : Nat) (x : WSlot) : ((s.setSlot t k x).loupe t).slot k = x := by
  simp [State.setSlot, Loupe.slot]

theorem State.slot_setSlot_other (s : State) (t : Nat) {k j : Nat} (hk : k < 32) (hj : j < 32) (hne : j ≠ k) (x : WSlot) :
    ((s.setSlot t k x).loupe t).slot j = (s.loupe t).slot j := by
  simp only [State.setSlot, State.loupe_setLoupe, Loupe.slot, Vector.getElem_set, Nat.mod_eq_of_lt hk, Nat.mod_eq_of_lt hj, if_neg hne.symm]

/-! The end of a walk (R314). -/

/-- R314: in `s'` the walk of slot `k` has ended with a status, a code and a record at `step`, and the rest is as in `s`. -/
def WalkEnded (s : State) (t k status : Nat) (code : Byte) (step : BitVec 16) (rec_ : List Word) (s' : State) : Prop :=
  ((s'.loupe t).slot k).st = .returning ∧ ((s'.loupe t).slot k).ret = resultToks status code step rec_
  ∧ ((s'.loupe t).slot k).left = flitDelay t (tileOfElem ((s.loupe t).slot k).el)
  ∧ (∀ j, j < 32 → j ≠ k → (s'.loupe t).slot j = (s.loupe t).slot j) ∧ s'.mem = s.mem ∧ s'.elems = s.elems

theorem State.walkEnded_endWalk (s : State) (t : Nat) {k : Nat} (hk : k < 32) (status : Nat) (code : Byte) (rec_ : List Word) :
    WalkEnded s t k status code ((s.loupe t).slot k).step rec_ (s.endWalk t k status code rec_) := by
  refine ⟨?_, ?_, ?_, fun j hj hne => State.slot_setSlot_other s t hk hj hne _, rfl, rfl⟩ <;> rw [State.endWalk, State.slot_setSlot_same]

/-- The end of a walk whose slot `x` was written first; its element is the same. -/
theorem State.walkEnded_setSlot_endWalk (s : State) (t : Nat) {k : Nat} (hk : k < 32) {x : WSlot} (hx : x.el = ((s.loupe t).slot k).el)
    (status : Nat) (code : Byte) (rec_ : List Word) :
    WalkEnded s t k status code x.step rec_ ((s.setSlot t k x).endWalk t k status code rec_) := by
  obtain ⟨hst, hret, hleft, hother, hmem, helems⟩ := (s.setSlot t k x).walkEnded_endWalk t hk status code rec_
  rw [State.slot_setSlot_same] at hret hleft
  exact ⟨hst, hret, hx ▸ hleft, fun j hj hne => (hother j hj hne).trans (State.slot_setSlot_other s t hk hj hne x), hmem, helems⟩

/-! Reads (R312). -/

/-- The accesses of a read, one for each of its words. -/
theorem newAccs_words (first : Nat) (src : Port) (ctx task region : Nat) (opc : Byte) (base off : Nat) (k : Nat) (js : List Nat) :
    (newAccs first src ctx task region opc base false k (js.map (fun j => ({ off := off + 4 * j, size := 4, act := .read } : Lane)))
      ((js.map (fun j => ({ off := off + 4 * j, size := 4, act := .read } : Lane))).map (fun _ => AccSt.point))).map
        (fun a => (a.va, a.size, a.act, a.src)) = js.map (fun j => (base + off + 4 * j, 4, Act.read, src)) := by
  induction js generalizing k with
  | nil => rfl
  | cons j js ih =>
    simp only [List.map_cons, newAccs, ih, Nat.add_assoc]

theorem State.walkRead_at_limit {s : State} {t k : Nat} (h : ((s.loupe t).slot k).step = (s.loupe t).limit) (r : WRead) (off : Nat) (d : BitVec 5) :
    s.walkRead t k r off d = s.endWalk t k 2 0 [] := if_pos h

section Reads
variable {s : State} {t k off : Nat} {r : WRead} (h : ((s.loupe t).slot k).step ≠ (s.loupe t).limit)
include h

theorem State.walkRead_beyond (hlen : (s.window ((s.loupe t).slot k).task ((s.loupe t).slot k).win).len < off + 4 * r.size) (d : BitVec 5) :
    s.walkRead t k r off d = s.endWalk t k 3 0x10 [] := (if_neg h).trans (if_pos hlen)

variable (hlen : off + 4 * r.size ≤ (s.window ((s.loupe t).slot k).task ((s.loupe t).slot k).win).len)
include hlen

theorem State.walkRead_unaligned (halign : ((s.window ((s.loupe t).slot k).task ((s.loupe t).slot k).win).base + off) % 4 ≠ 0) (d : BitVec 5) :
    s.walkRead t k r off d = s.endWalk t k 3 0x11 [] := (if_neg h).trans ((if_neg (not_lt.2 hlen)).trans (if_pos halign))

theorem State.walkRead_reads (halign : ((s.window ((s.loupe t).slot k).task ((s.loupe t).slot k).win).base + off) % 4 = 0) (d : BitVec 5) :
    ∃ l, s.walkRead t k r off d = { s.setSlot t k { (s.loupe t).slot k with st := .reading, read := some (r, off, d) } with
        accs := s.accs ++ l, fresh := s.fresh + r.size }
      ∧ l.map (fun a => (a.va, a.size, a.act, a.src)) =
        (List.range r.size).map (fun j => ((s.window ((s.loupe t).slot k).task ((s.loupe t).slot k).win).base + off + 4 * j, 4, Act.read,
          Port.walk t k)) := by
  have hread : s.walkRead t k r off d = (s.setSlot t k { (s.loupe t).slot k with st := .reading, read := some (r, off, d) }).issueRead t k off r.size :=
    (if_neg h).trans ((if_neg (not_lt.2 hlen)).trans (if_neg (not_not.2 halign)))
  refine ⟨_, hread.trans ?_, newAccs_words s.fresh (.walk t k) ((s.loupe t).slot k).ctx ((s.loupe t).slot k).task (regionOfTile t) 0xD4
    (s.window ((s.loupe t).slot k).task ((s.loupe t).slot k).win).base off 0 (List.range r.size)⟩
  rw [State.issueRead, State.slot_setSlot_same]
  rfl

end Reads

/-- R311: what a walk's rule writes to the predicate that D names. -/
def WSlot.predAfter (x : WSlot) (d : BitVec 5) (v : Bool) : BitVec 8 :=
  if 16 ≤ d.toNat ∧ d.toNat < 24 then setPred x.p (d.toNat - 16) v else x.p

theorem WSlot.mark_eq (x : WSlot) (d : BitVec 5) (v : Bool) : x.mark d v = { x with p := x.predAfter d v } := by
  unfold WSlot.mark WSlot.predAfter
  split <;> rfl

/-! The return of a read (R312). -/

section Return
variable {s : State} {t k : Nat} {vs : List Word}

/-- The state without the accesses of a walk. -/
def State.withoutWalk (s : State) (t k : Nat) : State := { s with accs := s.accs.filter (fun a => a.src != Port.walk t k) }

/-- R312: what the return of a walk's words `vs` does to its slot `x`. -/
def State.walkReturned (s : State) (t k : Nat) (x : WSlot) (vs : List Word) : State :=
  match x.read with
  | some (.wrd wr, _, d) => s.goOn t k ({ x with step := x.step + 1, v := x.v.set wr.toNat (vs.headD 0) }.mark d true)
  | some (.wptr, _, d) => s.goOn t k ({ x with step := x.step + 1, ptr := vs.headD 0 }.mark d true)
  | some (.wnext, _, d) =>
    if vs.headD 0 = 0 then (s.setSlot t k { x with step := x.step + 1 }).endWalk t k 1 0 []
    else s.goOn t k ({ x with step := x.step + 1, ptr := vs.headD 0 }.mark d true)
  | some (.wret _, _, _) => (s.setSlot t k { x with step := x.step + 1 }).endWalk t k 0 0 vs
  | none => s

/-- An access that is done and whose answer has come back has its word and no fault. -/
theorem exists_done_of_mem {mine : List Access} {vs : List Word} (hst : mine.map (fun a => a.st) = vs.map AccSt.done) {a : Access} (ha : a ∈ mine) :
    ∃ v ∈ vs, a.st = .done v := by
  have hmem : a.st ∈ vs.map AccSt.done := hst ▸ List.mem_map_of_mem ha
  obtain ⟨v, hv, hva⟩ := List.mem_map.1 hmem
  exact ⟨v, hv, hva.symm⟩

theorem values_of_done {mine : List Access} {vs : List Word} (hst : mine.map (fun a => a.st) = vs.map AccSt.done) :
    mine.map Access.value = vs := by
  have hvalue : Access.value = (fun st : AccSt => match st with | .done v => v | _ => 0) ∘ (fun a : Access => a.st) := rfl
  rw [hvalue, ← List.map_map, hst, List.map_map]
  exact List.map_id' vs

theorem exec_walkReadReturn (hreading : ((s.loupe t).slot k).st = .reading)
    (hst : (s.accs.filter (fun a => a.src == Port.walk t k)).map (fun a => a.st) = vs.map AccSt.done)
    (hleft : ∀ a ∈ s.accs.filter (fun a => a.src == Port.walk t k), a.left = 0)
    (hread : ((s.loupe t).slot k).read ≠ none) :
    exec (.walkReadReturn t k) s = .next ((s.withoutWalk t k).walkReturned t k ((s.loupe t).slot k) vs) := by
  have hexec : exec (.walkReadReturn t k) s = execWalkReadReturn t k s := rfl
  have hback : (s.accs.filter (fun a => a.src == Port.walk t k)).any (fun a => a.waiting || (a.failedCode.isNone && !a.back)) = false := by
    refine List.any_eq_false.2 fun a ha => ?_
    obtain ⟨v, -, hv⟩ := exists_done_of_mem hst ha
    simp [Access.waiting, Access.failedCode, Access.back, hv, hleft a ha]
  have hgood : (s.accs.filter (fun a => a.src == Port.walk t k)).find? (fun a => a.failedCode.isSome) = none := by
    refine List.find?_eq_none.2 fun a ha => ?_
    obtain ⟨v, -, hv⟩ := exists_done_of_mem hst ha
    simp [Access.failedCode, hv]
  rw [hexec, execWalkReadReturn]
  simp only [hreading, hback, hgood, values_of_done hst, State.walkReturned]
  rcases hr : ((s.loupe t).slot k).read with _ | ⟨r, off, d⟩
  case none => exact absurd hr hread
  case some =>
    cases r with
    | wnext => simp only [State.withoutWalk, ne_eq, not_true_eq_false, Bool.false_eq_true, or_self, if_false]; split <;> rfl
    | _ => rfl

end Return

/-! The result tokens (R314). -/

theorem recordToks_cons (w : Word) {ws : List Word} (hne : ws ≠ []) : recordToks (w :: ws) = ⟨w, Tag.data⟩ :: recordToks ws := by
  rw [recordToks]
  exact hne

theorem recordToks_data (ws : List Word) : (recordToks ws).map (fun t => t.data) = ws := by
  induction ws using recordToks.induct with
  | case1 => rfl
  | case2 w => rfl
  | case3 w ws hne ih => rw [recordToks_cons w hne, List.map_cons, ih]

theorem recordToks_tag (ws : List Word) {j : Nat} (hj : j < ws.length) :
    ((recordToks ws)[j]?).map (fun t => t.tag) = some (if j + 1 = ws.length then Tag.last else Tag.data) := by
  induction ws using recordToks.induct generalizing j with
  | case1 => exact absurd hj (Nat.not_lt_zero j)
  | case2 w =>
    obtain rfl : j = 0 := by simpa using hj
    rfl
  | case3 w ws hne ih =>
    rw [recordToks_cons w hne]
    cases j with
    | zero => simpa using hne
    | succ j =>
      have hj' : j < ws.length := Nat.lt_of_succ_lt_succ hj
      simp only [List.getElem?_cons_succ, ih hj', List.length_cons, Nat.add_right_cancel_iff]

theorem recordToks_length (ws : List Word) : (recordToks ws).length = ws.length := by
  have h := congrArg List.length (recordToks_data ws)
  rwa [List.length_map] at h

theorem resultToks_tag (status : Nat) (code : Byte) (step : BitVec 16) (ws : List Word) {j : Nat} (hj : j ≤ ws.length) :
    ((resultToks status code step ws)[j]?).map (fun t => t.tag) = some (if j = ws.length then Tag.last else Tag.data) := by
  cases j with
  | zero => cases ws <;> rfl
  | succ j => exact recordToks_tag ws hj

/-- R314: the fields of the status word. -/
theorem walkStatus_fields {status n : Nat} (hs : status ≤ 7) (hn : n ≤ 16) (code : Byte) (step : BitVec 16) :
    fldN (walkStatus status n code step) 29 3 = status ∧ fldN (walkStatus status n code step) 24 5 = n
    ∧ fldN (walkStatus status n code step) 16 8 = code.toNat ∧ fldN (walkStatus status n code step) 0 16 = step.toNat := by
  have hcode := code.isLt
  have hstep := step.isLt
  have hword : (walkStatus status n code step).toNat = status * 2 ^ 29 + n * 2 ^ 24 + code.toNat * 2 ^ 16 + step.toNat :=
    Word.toNat_ofNat_of_lt (by omega)
  simp only [fldN, hword]
  omega

/-! Delivery (R314). -/

theorem Ports.outAt_holdWalk (p : Ports) (k : Nat) (on : Bool) : (p.holdWalk k on).outAt k = { p.outAt k with walk := on } := by
  rw [Ports.holdWalk, Ports.outAt_setOut, if_pos rfl]

theorem Ports.outAt_push (p : Ports) (k : Nat) (t : Token) : (p.push k t).outAt k = { p.outAt k with slots := (p.outAt k).slots ++ [.full t] } := by
  rw [Ports.push, Ports.outAt_setOut, if_pos rfl]

/-- An operation without writes of its own leaves the ports as they are when it finishes. -/
theorem Elem.finish_of_no_puts {e : Elem} {id : Nat} (h : ∀ p, e.pend? id = some p → p.puts = []) :
    (e.finish id none false).ports = e.ports ∧ (e.finish id none false).pend = e.pend.filter (fun p => p.id != id) := by
  rcases hp : e.pend? id with _ | p
  case none =>
    have hall : e.pend.filter (fun p => p.id != id) = e.pend := by
      refine List.filter_eq_self.2 fun p hin => ?_
      simpa using List.find?_eq_none.1 hp p hin
    simp only [Elem.finish, hp, hall, and_self]
  case some =>
    rw [Elem.finish_of_pend hp, h p hp]
    exact ⟨rfl, rfl⟩

/-! Submission (R209, R210). -/

theorem Elem.issuePort_eq (e : Elem) (rule : Nat) (q : Req) (l : List Put) (job : Job) (port : Bool) :
    e.issuePort rule q l job port = ((e.paid rule q l).puts (e.everyCo rule)).suspend rule l
      { id := 0, rule := 0, dst := q.d, port := port, job := job } := rfl

/-- R185: an issue into the port queue writes no register. -/
theorem Elem.issuePort_regs (e : Elem) (rule : Nat) (q : Req) (l : List Put) (job : Job) (port : Bool) :
    (e.issuePort rule q l job port).d = e.d ∧ (e.issuePort rule q l job port).p = e.p := by
  obtain ⟨hd, hp, -⟩ := puts_co (boundCo_allCo e rule false) (e.paid rule q l)
  rw [Elem.issuePort_eq, Elem.suspend_d, Elem.suspend_p]
  exact ⟨hd.trans (by simp [Elem.paid]), hp.trans (by simp [Elem.paid])⟩

/-- R67, R185: an issue into the port queue takes the tokens that its operands name. -/
theorem Elem.issuePort_inAt_buf (e : Elem) (rule : Nat) (q : Req) (l : List Put) (job : Job) (port : Bool) {k : Nat} (hk : k < 8) :
    (((e.issuePort rule q l job port).ports.inAt k).buf) =
      if q.a = some (BitVec.ofNat 5 (8 + k)) ∨ q.b = some (BitVec.ofNat 5 (8 + k)) then (e.ports.inAt k).buf.tail
      else (e.ports.inAt k).buf := by
  have hins : (e.issuePort rule q l job port).ports.ins = (e.paid rule q l).ports.ins := by
    rw [Elem.issuePort_eq, Elem.suspend_ports, Elem.reserve_ins, Elem.puts_ins]
  rw [Ports.inAt_congr hins, Elem.paid_inAt_buf e rule q l hk]

/-- R210: the element after the submission of a walk: the operation waits for a slot, and the end is its own. -/
def Elem.submitted (e : Elem) (el rule : Nat) (q : Req) (job : Job) (k : Nat) : Elem :=
  let e1 := ((e.issuePort rule q [] job true).leave (.out (BitVec.ofNat 3 k) [⟨0, Tag.data⟩])).delay e.nextId
    (flitDelay (tileOfElem el) (etileOf (regionOfElem el)))
  { e1 with
    ports := e1.ports.holdWalk k true
    pend := e1.pend.map (fun p => if p.id = e.nextId then { p with ends := [BitVec.ofNat 3 k] } else p) }

theorem Elem.submitted_ports (e : Elem) (el rule : Nat) (q : Req) (job : Job) (k : Nat) :
    (e.submitted el rule q job k).ports = (e.issuePort rule q [] job true).ports.holdWalk k true := by
  simp [Elem.submitted, Elem.delay]

theorem Elem.submitted_regs (e : Elem) (el rule : Nat) (q : Req) (job : Job) (k : Nat) :
    (e.submitted el rule q job k).d = e.d ∧ (e.submitted el rule q job k).p = e.p := by
  obtain ⟨hd, hp⟩ := e.issuePort_regs rule q [] job true
  exact ⟨Eq.trans (by simp [Elem.submitted, Elem.delay]) hd, Eq.trans (by simp [Elem.submitted, Elem.delay]) hp⟩

theorem Elem.submitted_pend (e : Elem) (el rule : Nat) (q : Req) (job : Job) (k : Nat) :
    (e.submitted el rule q job k).pend = (e.pend ++ [e.portEntry rule q [] job true]).map (fun p => if p.id = e.nextId then
      { p with left := flitDelay (tileOfElem el) (etileOf (regionOfElem el)), ends := [BitVec.ofNat 3 k] } else p) := by
  simp only [Elem.submitted, Elem.delay, Elem.leave_pend, Elem.issuePort_pend, List.map_map]
  refine List.map_congr_left fun p _ => ?_
  by_cases hp : p.id = e.nextId
  · simp only [Function.comp, if_pos hp]
  · simp only [Function.comp, if_neg hp]

section Submission
variable {s : State} {el rule : Nat} {x : In} {d a b : BitVec 5} {w : BitVec 3}

/-- WALK with a free entry, room for its status and its control tokens: the checks of the root and of the window, in that order. -/
theorem exec_walk (harmed : s.armed el rule (rq d (some a) (some b) 0 0 1) x) (h8 : 8 ≤ d.toNat) (h16 : d.toNat < 16)
    (huse : (s.elem el).portUse < 8) (hroom : 1 ≤ ((s.elem el).ports.outAt (d.toNat - 8)).room)
    (hco : (s.elem el).roomFor ((s.elem el).everyCo rule) = true) :
    exec (.walk d a b w) s = .next
      (if (s.window (s.taskOfElem el) w).len ≤ x.b.data.toNat then
        s.abortRule el { faultOf cWinBound rule x with offset := x.b.data }
      else if (s.window (s.taskOfElem el) w).r = false then
        s.abortRule el { faultOf cPerm rule x with offset := x.b.data }
      else s.setElem el ((s.elem el).submitted el rule (rq d (some a) (some b) 0 0 1) (.walkIssue x.a.data x.b.data w) (d.toNat - 8))) := by
  obtain ⟨hcur, hin⟩ := harmed
  have hexec : exec (.walk d a b w) s = execWalk d a b w s := rfl
  have hk : (d.toNat + 24) % 32 % 8 = d.toNat - 8 := by omega
  have hin' : (s.elem el).input { d := d, a := some a, b := some b } = some x := hin
  simp only [hexec, execWalk, hcur, hin', hk, huse, hroom, hco, and_self, if_true, Bool.not_eq_true']
  split
  · rfl
  · split <;> rfl

end Submission

/-! A rule of a walk (R311 to R313). -/

section Rule
variable {s : State} {t k rule : Nat} (hcur : s.cur = .walk t k rule)
include hcur

theorem State.wread_of_walk (r : WRead) (imm : Nat) (d : BitVec 5) :
    s.wread r imm d = .next (s.walkRead t k r (((s.loupe t).slot k).ptr.toNat + 4 * imm) d) := by
  simp only [State.wread, hcur]

theorem State.wdo_of_walk (f : State → Nat → Nat → WSlot → State) : s.wdo f = .next (f s t k ((s.loupe t).slot k)) := by
  simp only [State.wdo, hcur]

end Rule

/-- R312: what an instruction that reads `r` at `off` does in the slot `k`: the limit, the checks in their order, and the reads. -/
theorem reads_of_walkRead {s : State} {t k : Nat} (hk : k < 32) {i : Instr} {r : WRead} {off : Nat} {d : BitVec 5}
    (hi : exec i s = .next (s.walkRead t k r off d)) :
    let x := (s.loupe t).slot k
    let win := s.window x.task x.win
    (x.step = (s.loupe t).limit → ∃ s', exec i s = .next s' ∧ WalkEnded s t k 2 0 x.step [] s')
    ∧ (x.step ≠ (s.loupe t).limit → win.len < off + 4 * r.size → ∃ s', exec i s = .next s' ∧ WalkEnded s t k 3 0x10 x.step [] s')
    ∧ (x.step ≠ (s.loupe t).limit → off + 4 * r.size ≤ win.len → (win.base + off) % 4 ≠ 0 → ∃ s',
        exec i s = .next s' ∧ WalkEnded s t k 3 0x11 x.step [] s')
    ∧ (x.step ≠ (s.loupe t).limit → off + 4 * r.size ≤ win.len → (win.base + off) % 4 = 0 → ∃ l,
        exec i s = .next { s.setSlot t k { x with st := .reading, read := some (r, off, d) } with
          accs := s.accs ++ l, fresh := s.fresh + r.size }
        ∧ l.map (fun a => (a.va, a.size, a.act, a.src)) =
            (List.range r.size).map (fun j => (win.base + off + 4 * j, 4, Act.read, Port.walk t k))) := by
  refine ⟨fun h => ⟨_, hi.trans ?_, s.walkEnded_endWalk t hk 2 0 []⟩, fun h hlen => ⟨_, hi.trans ?_, s.walkEnded_endWalk t hk 3 0x10 []⟩,
    fun h hlen halign => ⟨_, hi.trans ?_, s.walkEnded_endWalk t hk 3 0x11 []⟩, fun h hlen halign => ?_⟩
  case refine_1 => rw [State.walkRead_at_limit h]
  case refine_2 => rw [State.walkRead_beyond h hlen]
  case refine_3 => rw [State.walkRead_unaligned h hlen halign]
  case refine_4 =>
    obtain ⟨l, hread, hwords⟩ := State.walkRead_reads h hlen halign d
    exact ⟨l, hi.trans (congrArg _ hread), hwords⟩

/-- R306: the slot of a walk that the Loupe has accepted. -/
def acceptedSlot (s : State) (el id : Nat) (p : Pend) (key root : Word) (w : BitVec 3) (marked : Bool) : WSlot :=
  { ptr := root, v := #v[root, 0, 0, 0], key := key, win := w, el := el, pend := id, out := p.ends.headD 0
    st := if marked then .saved else .running, task := s.taskOfElem el, ctx := s.ctxOfTask (s.taskOfElem el) }

section Accept
variable {s : State} {el id t : Nat} {p : Pend} {key root : Word} {w : BitVec 3} (hp : (s.elem el).pend? id = some p)
  (hjob : p.job = .walkIssue key root w) (ht : s.loupeOf el = some t)
include hp hjob ht

theorem exec_walkAccept_full (hfull : (s.loupe t).freeSlot = none) : exec (.walkAccept el id) s = .next s := by
  have hexec : exec (.walkAccept el id) s = execWalkAccept el id s := rfl
  simp only [hexec, execWalkAccept, hp, ht, hjob, hfull]

theorem exec_walkAccept_free (hbehind : s.behind el id = false) {k : Nat} (hfree : (s.loupe t).freeSlot = some k) :
    exec (.walkAccept el id) s = .next ((s.setElem el ((s.elem el).setJob id .walk)).setSlot t k
      (acceptedSlot s el id p key root w (s.loupe t).marked)) := by
  have hexec : exec (.walkAccept el id) s = execWalkAccept el id s := rfl
  simp only [hexec, execWalkAccept, hp, ht, hjob, hfree, hbehind, Bool.false_eq_true, if_false, acceptedSlot]

end Accept

section Compare
variable {s : State} {t k rule : Nat} (hcur : s.cur = .walk t k rule)
include hcur

/-- R313: what WCMP does in the slot of its walk. -/
theorem exec_wcmp (d : BitVec 5) (w : BitVec 2) :
    let x := (s.loupe t).slot k
    exec (.wcmp d w) s = .next (s.setSlot t k { x with p := x.predAfter d (x.v[w.toNat] == x.key) }) := by
  have hexec : exec (.wcmp d w) s = execWcmp d w s := rfl
  rw [hexec, execWcmp, State.wdo_of_walk hcur, WSlot.mark_eq]

/-- R313: what WHASH does in the slot of its walk. -/
theorem exec_whash (d a : BitVec 5) (w : BitVec 2) :
    let x := (s.loupe t).slot k
    exec (.whash d a w) s = .next (s.setSlot t k
      { x with v := x.v.set w.toNat (hash x.key (wsrc (s.loupe t) x a)), p := x.predAfter d true }) := by
  have hexec : exec (.whash d a w) s = execWhash d a w s := rfl
  rw [hexec, execWhash, State.wdo_of_walk hcur, WSlot.mark_eq]
  rfl

theorem exec_wmiss : exec .wmiss s = .next (s.endWalk t k 1 0 []) := State.wdo_of_walk hcur fun s t k _ => s.endWalk t k 1 0 []

theorem exec_wfail : exec .wfail s = .next (s.endWalk t k 4 0 []) := State.wdo_of_walk hcur fun s t k _ => s.endWalk t k 4 0 []

end Compare

/-- R317: the slot of a walk that goes on. -/
theorem State.goOn_mark (s : State) (t k : Nat) (x : WSlot) (d : BitVec 5) :
    s.goOn t k (x.mark d true) = s.setSlot t k
      { x with p := x.predAfter d true, read := none, st := if (s.loupe t).marked then .saved else .running } := by
  rw [State.goOn, WSlot.mark_eq]

section Delivery
variable {s : State} {t k : Nat} {tok : Token} (hst : ((s.loupe t).slot k).st = .returning)
include hst

/-- WALK_RESULT_DELIVERY waits while the end has two tokens. -/
theorem exec_walkResultDelivery_waits {rest : List Token} (hret : ((s.loupe t).slot k).ret = tok :: rest)
    (hfull : 2 ≤ ((s.elem ((s.loupe t).slot k).el).ports.outAt ((s.loupe t).slot k).out.toNat).slots.length) :
    exec (.walkResultDelivery t k) s = .next s := by
  have hexec : exec (.walkResultDelivery t k) s = execWalkResultDelivery t k s := rfl
  simp only [hexec, execWalkResultDelivery, hst, hret, hfull, if_true]

variable (hroom : ((s.elem ((s.loupe t).slot k).el).ports.outAt ((s.loupe t).slot k).out.toNat).slots.length < 2)
include hroom

/-- A result token before the last. -/
theorem exec_walkResultDelivery_more {t' : Token} {rest : List Token} (hret : ((s.loupe t).slot k).ret = tok :: t' :: rest) :
    let x := (s.loupe t).slot k
    exec (.walkResultDelivery t k) s = .next ((s.setElem x.el
      { s.elem x.el with ports := (s.elem x.el).ports.push x.out.toNat tok }).setSlot t k { x with ret := t' :: rest }) := by
  have hexec : exec (.walkResultDelivery t k) s = execWalkResultDelivery t k s := rfl
  simp only [hexec, execWalkResultDelivery, hst, hret, not_le.2 hroom, if_false]

/-- The last result token. -/
theorem exec_walkResultDelivery_last (hret : ((s.loupe t).slot k).ret = [tok]) :
    let x := (s.loupe t).slot k
    exec (.walkResultDelivery t k) s = .next ((s.setElem x.el
      ({ s.elem x.el with ports := ((s.elem x.el).ports.push x.out.toNat tok).holdWalk x.out.toNat false }.finish x.pend none false)).setSlot
        t k {}) := by
  have hexec : exec (.walkResultDelivery t k) s = execWalkResultDelivery t k s := rfl
  simp only [hexec, execWalkResultDelivery, hst, hret, not_le.2 hroom, if_false]

end Delivery

theorem State.elem_setSlot_setElem (s : State) (el t k : Nat) (e : Elem) (x : WSlot) : ((s.setElem el e).setSlot t k x).elem el = e := by
  simp

/-- Settles O52: submission by `exec_walk`, the rules of a walk by `reads_of_walkRead`, their return by `exec_walkReadReturn`. -/
theorem loupeWalks : Obligations.LoupeWalks := by
  unfold Obligations.LoupeWalks
  intro ended set
  refine ⟨?submits, ?accepts, ?rules, ?returns, ?delivers, ?tokens⟩
  case submits =>
    intro s el rule x d a b w e win harmed h8 h16 huse hroom hco
    have hwalk := exec_walk (w := w) harmed h8 h16 huse hroom hco
    refine ⟨fun hlen hrun => ⟨_, hwalk.trans (congrArg _ ((if_pos hlen).trans rfl)), ?_⟩,
      fun hlen hread hrun => ⟨_, hwalk.trans (congrArg _ ((if_neg (not_le.2 hlen)).trans ((if_pos hread).trans rfl))), ?_⟩,
      fun hlen hread => ⟨_, _, hwalk.trans (congrArg _ ((if_neg (not_le.2 hlen)).trans (if_neg (Bool.not_eq_false _ ▸ hread)))), rfl, rfl, rfl,
        Elem.submitted_pend .., ?_⟩⟩
    · rw [Elem.freeze_of_running hrun]
      exact ⟨rfl, rfl, rfl⟩
    · rw [Elem.freeze_of_running hrun]
      exact ⟨rfl, rfl, rfl⟩
    · obtain ⟨hd, hp⟩ := e.submitted_regs el rule (rq d (some a) (some b) 0 0 1) (.walkIssue x.a.data x.b.data w) (d.toNat - 8)
      rw [Elem.submitted_ports, Ports.outAt_holdWalk]
      exact ⟨rfl, rfl, hd, hp, fun k hk => Elem.issuePort_inAt_buf e rule _ [] _ true hk⟩
  case accepts =>
    intro s el id t k p key root w hp hjob ht hbehind
    exact ⟨exec_walkAccept_full hp hjob ht, fun hfree => ⟨_, exec_walkAccept_free hp hjob ht hbehind hfree, rfl, rfl, rfl, rfl, rfl, rfl, rfl,
      rfl, rfl, rfl⟩⟩
  case rules =>
    intro s t k rule hcur hk x win reads
    refine ⟨fun d w m => reads_of_walkRead (i := .wrd d w m) hk (State.wread_of_walk hcur (.wrd w) m.toNat d),
      fun d m => reads_of_walkRead (i := .wptr d m) hk (State.wread_of_walk hcur .wptr m.toNat d),
      fun d m => reads_of_walkRead (i := .wnext d m) hk (State.wread_of_walk hcur .wnext m.toNat d),
      fun n => reads_of_walkRead (i := .wret n) hk (State.wread_of_walk hcur (.wret (n.toNat + 1)) 0 24),
      exec_wcmp hcur, exec_whash hcur, ⟨_, exec_wmiss hcur, s.walkEnded_endWalk t hk 1 0 []⟩,
      ⟨_, exec_wfail hcur, s.walkEnded_endWalk t hk 4 0 []⟩⟩
  case returns =>
    intro s t k vs hk x mine st s1 hreading hst hleft
    have hreturn : x.read ≠ none → exec (.walkReadReturn t k) s = .next (s1.walkReturned t k x vs) :=
      exec_walkReadReturn hreading hst hleft
    refine ⟨fun wr off d w hread hvs => ?_, fun r off d w hr hread hvs => ?_, fun off d hread hvs => ?_, fun n off d hread => ?_⟩
    case refine_1 =>
      rw [hreturn (by simp [hread]), hvs]
      simp only [State.walkReturned, hread, State.goOn_mark]
      rfl
    case refine_2 =>
      rw [hreturn (by simp [hread]), hvs]
      rcases hr with rfl | ⟨rfl, hw⟩
      · simp only [State.walkReturned, hread, State.goOn_mark]
        rfl
      · simp only [State.walkReturned, hread, List.headD_cons, if_neg hw, State.goOn_mark]
        rfl
    case refine_3 =>
      refine ⟨_, (hreturn (by simp [hread])).trans ?_, s1.walkEnded_setSlot_endWalk t hk (x := { x with step := x.step + 1 }) rfl 1 0 []⟩
      simp only [State.walkReturned, hread, hvs, List.headD_cons, if_true]
    case refine_4 =>
      refine ⟨_, (hreturn (by simp [hread])).trans ?_, s1.walkEnded_setSlot_endWalk t hk (x := { x with step := x.step + 1 }) rfl 0 0 vs⟩
      simp only [State.walkReturned, hread]
  case delivers =>
    intro s t k tok rest hk x e hst hret
    refine ⟨exec_walkResultDelivery_waits hst hret, fun hroom hputs => ?_⟩
    cases rest with
    | nil =>
      obtain ⟨hports, hpend⟩ := Elem.finish_of_no_puts
        (e := { e with ports := (e.ports.push x.out.toNat tok).holdWalk x.out.toNat false }) (id := x.pend) hputs
      refine ⟨_, exec_walkResultDelivery_last hst hroom hret, ?_, fun h => absurd rfl h, fun _ => ⟨State.slot_setSlot_same .., ?_, ?_⟩⟩
      all_goals rw [State.elem_setSlot_setElem]
      · rw [hports, Ports.outAt_holdWalk, Ports.outAt_push]
      · rw [hports, Ports.outAt_holdWalk]
      · exact hpend
    | cons t' rest =>
      refine ⟨_, exec_walkResultDelivery_more hst hroom hret, ?_, fun _ => ⟨State.slot_setSlot_same .., ?_⟩, fun h => absurd h (List.cons_ne_nil _ _)⟩
      all_goals rw [State.elem_setSlot_setElem]
      · rw [Ports.outAt_push]
  case tokens =>
    intro status code step ws
    refine ⟨?_, fun j hj => ?_, fun j hj => resultToks_tag status code step ws hj, fun hs hn h hhead => ?_⟩
    · rw [resultToks, List.length_cons, recordToks_length, Nat.add_comm]
    · have hdata : ((recordToks ws)[j]?).map (fun t => t.data) = ws[j]? := by rw [← List.getElem?_map, recordToks_data]
      rw [resultToks, List.getElem?_cons_succ, hdata, List.getD_eq_getElem?_getD, List.getElem?_eq_getElem hj, Option.getD_some]
    · obtain rfl := Option.some.inj hhead
      exact walkStatus_fields hs hn code step

end Sys2Proof.Machine
end


-- ==== Proofs: the instructions that act on a copy engine, and its trigger (O46, R199, R202 to R206) ====
section
/-! PROOFS. What an issue adds to the engine, one lemma for COPY, its deferred issue and the trigger; the value of a TAG instruction
and of CSTAT; and what the end of a round does to the arms and the bitmap. -/

namespace Sys2Proof.Machine

/-! The issue of a copy (R202, R205). -/

/-- R202, R205: in `s'` the engine of `tile` has a new flight of template `k`, its tag counted out and marked issued; `s` is before. -/
def CopyIssued (s s' : State) (tile k : Nat) (a b : Word) (el : Option (Nat × Nat)) (down : Bool) (slots : List Nat) : Prop :=
  ∃ f : Flight, (s'.copyEng tile).flights = (s.copyEng tile).flights ++ [f] ∧ f.id = (s.copyEng tile).nextId ∧ f.tmpl = k ∧ f.a = a
    ∧ f.b = b ∧ f.el = el ∧ f.mark = 0 ∧ f.down = down ∧ f.paused = none ∧ f.rest = [] ∧ f.slots = slots
    ∧ f.ahead = (s.press tile).queue.length
    ∧ (∀ h, Table.get? (s.copyEng tile).tmpls k = some h →
        (∀ t, (ht : t < 64) → (s'.copyEng tile).out[t] = (s.copyEng tile).out[t] + (if t = h.tag.toNat then 1 else 0))
        ∧ (∀ t, t < 64 → (s'.copyEng tile).issued.getLsbD t = ((s.copyEng tile).issued.getLsbD t || decide (t = h.tag.toNat))))
    ∧ (s'.copyEng tile).bitmap = (s.copyEng tile).bitmap ∧ s'.mem = s.mem ∧ s'.accs = s.accs

theorem setBit_getLsbD (x : BitVec 64) {t : Nat} (u : Nat) (ht : t < 64) : (setBit x u).getLsbD t = (x.getLsbD t || decide (t = u)) := by
  have hone : (1#64 <<< u).getLsbD t = decide (t = u) := by
    rw [BitVec.getLsbD_shiftLeft, BitVec.getLsbD_one]
    rcases lt_trichotomy t u with h | h | h
    · simp [h, h.ne]
    · simp [h, h ▸ ht]
    · simp [h.ne', Nat.sub_ne_zero_of_lt h]
  rw [← hone, ← BitVec.getLsbD_or]
  rfl

/-- The flight that an issue adds. -/
def newFlight (s : State) (tile k : Nat) (a b : Word) (el : Option (Nat × Nat)) (down : Bool) (slots : List Nat) : Flight :=
  { id := (s.copyEng tile).nextId, tmpl := k, a := a, b := b, el := el, down := down, slots := slots
    ahead := (s.press tile).queue.length }

/-- The tag that a template counts. -/
def CopyEng.tagOf (c : CopyEng) (k : Nat) : Nat := ((Table.get? c.tmpls k).map (fun h => h.tag.toNat)).getD 0

/-- The engine after an issue. -/
def CopyEng.withFlight (c : CopyEng) (t : Nat) (f : Flight) : CopyEng :=
  { c with
    flights := c.flights ++ [f]
    nextId := c.nextId + 1
    out := c.out.set (t % 64) (c.out[t % 64]'(Nat.mod_lt _ (by decide)) + 1) (Nat.mod_lt _ (by decide))
    issued := setBit c.issued t }

theorem State.copyEng_copyIssue (s : State) (tile k : Nat) (a b : Word) (el : Option (Nat × Nat)) (down : Bool) (slots : List Nat) :
    (s.copyIssue tile k a b el down slots).copyEng tile =
      (s.copyEng tile).withFlight ((s.copyEng tile).tagOf k) (newFlight s tile k a b el down slots) := by
  unfold State.copyIssue
  extract_lets c t f s1
  split
  · exact State.copyEng_setCopy ..
  · exact State.copyEng_setCopy s tile _

theorem State.copyIssue_stored (s : State) (tile k : Nat) (a b : Word) (el : Option (Nat × Nat)) (down : Bool) (slots : List Nat) :
    (s.copyIssue tile k a b el down slots).mem = s.mem ∧ (s.copyIssue tile k a b el down slots).accs = s.accs := by
  unfold State.copyIssue
  extract_lets c t f s1
  split <;> exact ⟨rfl, rfl⟩

/-- R202: the engine has the new flight of `s` whatever its ports are, with the memory and the accesses of `s`. -/
theorem copyIssued_of_engine {s s' : State} {tile k : Nat} {a b : Word} {el : Option (Nat × Nat)} {down : Bool} {slots : List Nat}
    {p : Ports} {rr : Nat} (hmem : s'.mem = s.mem) (haccs : s'.accs = s.accs)
    (hc : s'.copyEng tile = { (s.copyEng tile).withFlight ((s.copyEng tile).tagOf k) (newFlight s tile k a b el down slots) with
      ports := p, rr := rr }) : CopyIssued s s' tile k a b el down slots := by
  refine ⟨newFlight s tile k a b el down slots, by rw [hc]; rfl, rfl, rfl, rfl, rfl, rfl, rfl, rfl, rfl, rfl, rfl, rfl,
    fun h hh => ?_, by rw [hc]; rfl, hmem, haccs⟩
  have htag : (s.copyEng tile).tagOf k = h.tag.toNat := by rw [CopyEng.tagOf, hh]; rfl
  have hlt : h.tag.toNat < 64 := h.tag.isLt
  refine ⟨fun t ht => ?_, fun t ht => ?_⟩
  · have hout : (s'.copyEng tile).out = ((s.copyEng tile).withFlight h.tag.toNat (newFlight s tile k a b el down slots)).out := by rw [hc, htag]
    simp only [hout, CopyEng.withFlight, Vector.getElem_set, Nat.mod_eq_of_lt hlt]
    by_cases h' : h.tag.toNat = t
    · subst h'; simp
    · simp [h', Ne.symm h']
  · have hissued : (s'.copyEng tile).issued = setBit (s.copyEng tile).issued h.tag.toNat := by rw [hc, htag]; rfl
    rw [hissued, setBit_getLsbD _ _ ht]

/-- R202: an issue from `s` itself. -/
theorem copyIssued_of_copyIssue {s s' : State} {tile k : Nat} {a b : Word} {el : Option (Nat × Nat)} {down : Bool} {slots : List Nat}
    (hcopies : s'.copyEng tile = (s.copyIssue tile k a b el down slots).copyEng tile)
    (hmem : s'.mem = (s.copyIssue tile k a b el down slots).mem) (haccs : s'.accs = (s.copyIssue tile k a b el down slots).accs) :
    CopyIssued s s' tile k a b el down slots := by
  obtain ⟨hm, ha⟩ := s.copyIssue_stored tile k a b el down slots
  exact copyIssued_of_engine (p := (s.copyEng tile).ports) (rr := (s.copyEng tile).rr) (hmem.trans hm) (haccs.trans ha)
    (hcopies.trans (s.copyEng_copyIssue tile k a b el down slots))

/-! COPY and its deferred issue (R205). -/

section Copy
variable {s : State} {el rule : Nat} {x : In} {d a b : BitVec 5} {k : BitVec 6}
  (harmed : s.armed el rule (rq d (some a) (some b) 0 0 1) x)
  (hroom : (s.elem el).portRoom rule (deliver d Tag.data x.a.data) = true)
include harmed hroom

theorem exec_copy_fails {code : Byte} (hcheck : s.copyCheck (tileOfElem el) k.toNat x.a.data x.b.data = .fail code) :
    exec (.copy d a b k) s = .next (s.abortWith el rule code x) := by
  obtain ⟨hcur, hin⟩ := harmed
  have hexec : exec (.copy d a b k) s = execCopy d a b k s := rfl
  have hin' : (s.elem el).input { d := d, a := some a, b := some b } = some x := hin
  simp only [hexec, execCopy, hcur, hin', hroom, hcheck, Bool.not_true, Bool.false_eq_true, if_false]

/-- R205: the operation of a COPY with the operands of `x`. -/
def Elem.copyOp (e : Elem) (rule : Nat) (d a b : BitVec 5) (k : BitVec 6) (x : In) : Elem :=
  e.issuePort rule (rq d (some a) (some b) 0 0 1) (deliver d Tag.data x.a.data) (.copyIssue k.toNat x.a.data x.b.data) true

variable {down : Bool} {slots : List Nat} (hcheck : s.copyCheck (tileOfElem el) k.toNat x.a.data x.b.data = .ok down slots)
include hcheck

theorem exec_copy_passes : exec (.copy d a b k) s = .next
    (if (s.copyEng (tileOfElem el)).flights.length < 256 ∧ s.behind el (s.elem el).nextId = false then
      let e2 := ((s.elem el).copyOp rule d a b k x).setJob (s.elem el).nextId (.copy (s.copyEng (tileOfElem el)).nextId)
      (s.copyIssue (tileOfElem el) k.toNat x.a.data x.b.data (some (el, (s.elem el).nextId)) down slots).setElem el
        (if d = 24 then e2.finish (s.elem el).nextId none false else e2)
    else s.setElem el ((s.elem el).copyOp rule d a b k x)) := by
  obtain ⟨hcur, hin⟩ := harmed
  have hexec : exec (.copy d a b k) s = execCopy d a b k s := rfl
  have hin' : (s.elem el).input { d := d, a := some a, b := some b } = some x := hin
  simp only [hexec, execCopy, hcur, hin', hroom, hcheck, Bool.not_true, Bool.false_eq_true, if_false, Bool.not_eq_true']
  split <;> rfl

end Copy

section Deferred
variable {s : State} {el id k : Nat} {p : Pend} {a b : Word} (hp : (s.elem el).pend? id = some p) (hjob : p.job = .copyIssue k a b)
  (hbehind : s.behind el id = false)
include hp hjob hbehind

theorem exec_copyIssueDeferred_waits (hfull : 256 ≤ (s.copyEng (tileOfElem el)).flights.length) :
    exec (.copyIssueDeferred el id) s = .next s := by
  have hexec : exec (.copyIssueDeferred el id) s = execCopyIssueDeferred el id s := rfl
  simp only [hexec, execCopyIssueDeferred, hp, hjob, hbehind, not_lt.2 hfull, Bool.false_eq_true, if_false]

theorem exec_copyIssueDeferred_issues (hfree : (s.copyEng (tileOfElem el)).flights.length < 256) :
    let e1 := (s.elem el).setJob id (.copy (s.copyEng (tileOfElem el)).nextId)
    exec (.copyIssueDeferred el id) s = .next ((s.copyIssue (tileOfElem el) k a b (some (el, id))
      (s.copyDown (tileOfElem el) k a b) (s.copySlots (tileOfElem el) k b)).setElem el
        (if p.dst = 24 then e1.finish id none false else e1)) := by
  have hexec : exec (.copyIssueDeferred el id) s = execCopyIssueDeferred el id s := rfl
  simp only [hexec, execCopyIssueDeferred, hp, hjob, hbehind, hfree, Bool.false_eq_true, if_false, if_true]

end Deferred

/-! TAG instructions and CSTAT (R204, R206). -/

/-- R204: a TAG instruction with its operands acts in this round, or waits behind an earlier operation. -/
theorem State.tagForm_of_armed {s : State} {el rule : Nat} {x : In} {opc : Byte} {d : BitVec 5} {a b : Option (BitVec 5)} {k : BitVec 6}
    (harmed : s.armed el rule (rq d a b 0 0 1) x) :
    let e := s.elem el
    let c := s.copyEng (tileOfElem el)
    let m := x.b.data ++ x.a.data
    let l := deliver d Tag.data (c.tagValue opc m k.toNat)
    let e1 := e.issuePort rule (rq d a b 0 0 1) l (.tag opc m k) true
    e.portRoom rule l = true →
    s.tagForm opc d a b k = .next (if s.behind el e.nextId then s.setElem el e1
      else (s.setElem el (e1.finish e.nextId none false)).setCopy (tileOfElem el) (c.tagDo opc m)) := by
  intro e c m l e1 hroom
  obtain ⟨hcur, hin⟩ := harmed
  have hin' : e.input { d := d, a := a, b := b } = some x := hin
  have hroom' : (s.elem el).portRoom rule (deliver d Tag.data ((s.copyEng (tileOfElem el)).tagValue opc (x.b.data ++ x.a.data) k.toNat)) = true :=
    hroom
  simp only [State.tagForm, hcur]
  rw [hin']
  simp only [hroom', Bool.not_true, Bool.false_eq_true, if_false]
  split <;> rfl

/-- R204: the bit that TAGFF answers is the lowest that is set. -/
theorem lowBit_spec (x : BitVec 64) :
    (x = 0 → lowBit x = 64) ∧ (x ≠ 0 → lowBit x < 64 ∧ x.getLsbD (lowBit x) = true) ∧ ∀ j, j < lowBit x → x.getLsbD j = false := by
  rcases hfind : (List.range 64).find? (fun k => x.getLsbD k) with _ | n
  case none =>
    have hlow : lowBit x = 64 := by rw [lowBit, hfind]; rfl
    have hclear : ∀ j < 64, x.getLsbD j = false := fun j hj => by simpa using List.find?_eq_none.1 hfind j (List.mem_range.2 hj)
    refine ⟨fun _ => hlow, fun hne => absurd (BitVec.eq_of_getLsbD_eq fun j hj => ?_) hne, fun j hj => hclear j (hlow ▸ hj)⟩
    rw [hclear j hj]; simp
  case some =>
    have hlow : lowBit x = n := by rw [lowBit, hfind]; rfl
    obtain ⟨hset, hmem, hbelow⟩ := List.find?_range_eq_some.1 hfind
    have hlt : n < 64 := List.mem_range.1 hmem
    rw [hlow]
    refine ⟨fun h => ?_, fun _ => ⟨hlt, hset⟩, fun j hj => by simpa using hbelow j hj⟩
    simp [h] at hset

/-- The number whose bits below `m` say where `q` holds. -/
def maskOf (q : Nat → Prop) [DecidablePred q] (m : Nat) : Nat := (List.range m).foldl (fun n p => if q p then n + 2 ^ p else n) 0

theorem maskOf_succ (q : Nat → Prop) [DecidablePred q] (m : Nat) : maskOf q (m + 1) = if q m then maskOf q m + 2 ^ m else maskOf q m := by
  rw [maskOf, List.range_succ, List.foldl_append]
  rfl

theorem maskOf_lt (q : Nat → Prop) [DecidablePred q] (m : Nat) : maskOf q m < 2 ^ m := by
  induction m with
  | zero => exact Nat.one_pos
  | succ m ih =>
    rw [maskOf_succ, Nat.pow_succ]
    split <;> omega

theorem maskOf_testBit (q : Nat → Prop) [DecidablePred q] {m j : Nat} (hj : j < m) : (maskOf q m).testBit j = decide (q j) := by
  induction m with
  | zero => exact absurd hj (Nat.not_lt_zero j)
  | succ m ih =>
    have hlt := maskOf_lt q m
    rw [maskOf_succ]
    rcases Nat.lt_succ_iff_lt_or_eq.1 hj with hjm | rfl
    · split
      · rw [Nat.add_comm, Nat.testBit_two_pow_add_gt hjm, ih hjm]
      · exact ih hjm
    · split
      next hq => rw [Nat.add_comm, Nat.testBit_two_pow_add_eq, Nat.testBit_lt_two_pow hlt]; simp [hq]
      next hq => rw [Nat.testBit_lt_two_pow hlt]; simp [hq]

/-- R206: the fields of a status word. -/
theorem CopyEng.status_fields (c : CopyEng) (k : BitVec 6) (hlen : c.flights.length < 512) :
    fldN (c.status k.toNat) 0 9 = (c.flights.filter (fun f => f.tmpl == k.toNat)).length ∧ fldN (c.status k.toNat) 9 7 = 0
    ∧ fldN (c.status k.toNat) 24 7 = 0
    ∧ ((c.status k.toNat).getLsbD 31 = true ↔ ∃ f ∈ c.flights, f.tmpl = k.toNat ∧ f.paused.isSome = true)
    ∧ (∀ j, (h : j < 8) → ((c.status k.toNat).getLsbD (16 + j) = true ↔ ∃ t, c.arms[j] = some t ∧ t.toNat = k.toNat)) := by
  set mine := c.flights.filter (fun f => f.tmpl == k.toNat) with hmine
  set q := fun p => (c.arms[p % 8]'(Nat.mod_lt _ (by decide))).map BitVec.toNat = some k.toNat with hq
  set paused := mine.any (fun f => f.paused.isSome) with hpaused
  have hn : mine.length < 512 := (List.length_filter_le ..).trans_lt hlen
  have hmask : maskOf q 8 < 256 := maskOf_lt q 8
  have hstatus : c.status k.toNat = Word.ofNat ((if paused then 2 ^ 31 else 0) + maskOf q 8 * 2 ^ 16 + mine.length) := rfl
  have hword : (c.status k.toNat).toNat = (if paused then 2 ^ 31 else 0) + maskOf q 8 * 2 ^ 16 + mine.length := by
    rw [hstatus, Word.toNat_ofNat_of_lt (by split <;> omega)]
  have harm : (c.status k.toNat).toNat / 2 ^ 16 % 2 ^ 8 = maskOf q 8 := by rw [hword]; split <;> omega
  refine ⟨?_, ?_, ?_, ?_, fun j hj => ?_⟩
  · rw [fldN, hword]; split <;> omega
  · rw [fldN, hword]; split <;> omega
  · rw [fldN, hword]; split <;> omega
  · have hbit : (c.status k.toNat).getLsbD 31 = paused := by
      rw [BitVec.getLsbD, Nat.testBit_eq_decide_div_mod_eq, hword]
      cases paused <;> simp <;> omega
    rw [hbit, hpaused, List.any_eq_true, hmine]
    simp only [List.mem_filter, beq_iff_eq, and_assoc]
  · have hbit : (c.status k.toNat).getLsbD (16 + j) = (maskOf q 8).testBit j := by
      rw [← harm, Nat.testBit_mod_two_pow, Nat.testBit_div_two_pow, BitVec.getLsbD, Nat.add_comm]
      simp [hj]
    rw [hbit, maskOf_testBit q hj]
    simp [hq, Nat.mod_eq_of_lt hj, Option.map_eq_some_iff]

/-- R204: what an instruction `i` of the TAG group with request `q` does: it answers `v`, and the engine's bits to clear become `cleared`. -/
def TagDoes (s : State) (el rule : Nat) (x : In) (i : Instr) (q : Req) (opc : Byte) (mask : BitVec 64) (tk : BitVec 6) (v : Word)
    (cleared : BitVec 64) : Prop :=
  let e := s.elem el
  let e1 := e.issuePort rule q (deliver q.d Tag.data v) (.tag opc mask tk) true
  s.armed el rule q x → e.portRoom rule (deliver q.d Tag.data v) = true →
    (s.behind el e.nextId = true → exec i s = .next (s.setElem el e1))
    ∧ (s.behind el e.nextId = false → exec i s = .next
        ((s.setElem el (e1.finish e.nextId none false)).setCopy (tileOfElem el) { s.copyEng (tileOfElem el) with cleared := cleared }))

theorem tagDoes_of_tagForm {s : State} {i : Instr} {opc : Byte} {d : BitVec 5} {a b : Option (BitVec 5)} {k : BitVec 6}
    (hi : exec i s = s.tagForm opc d a b k) (el rule : Nat) (x : In) {v : Word} {cleared : BitVec 64}
    (hv : (s.copyEng (tileOfElem el)).tagValue opc (x.b.data ++ x.a.data) k.toNat = v)
    (hdo : (s.copyEng (tileOfElem el)).tagDo opc (x.b.data ++ x.a.data) = { s.copyEng (tileOfElem el) with cleared := cleared }) :
    TagDoes s el rule x i (rq d a b 0 0 1) opc (x.b.data ++ x.a.data) k v cleared := by
  intro harmed hroom
  subst hv
  have hform := hi.trans (State.tagForm_of_armed harmed hroom)
  exact ⟨fun h => hform.trans (congrArg _ (if_pos h)),
    fun h => hform.trans (congrArg _ ((if_neg (Bool.eq_false_iff.1 h)).trans (congrArg _ hdo)))⟩

theorem CopyEng.tagValue_any (c : CopyEng) (m : BitVec 64) (k : Nat) : c.tagValue 0xCC m k = if c.bitmap &&& m = 0 then 0 else 1 := by
  have hany : c.tagValue 0xCC m k = Word.ofBool (c.bitmap &&& m != 0) := rfl
  rw [hany]
  by_cases h : c.bitmap &&& m = 0
  · rw [if_pos h, h]; rfl
  · rw [if_neg h, bne_iff_ne.2 h]; rfl

theorem CopyEng.tagValue_all (c : CopyEng) (m : BitVec 64) (k : Nat) : c.tagValue 0xCD m k = if c.bitmap &&& m = m then 1 else 0 := by
  have hall : c.tagValue 0xCD m k = Word.ofBool (c.bitmap &&& m == m) := rfl
  rw [hall]
  by_cases h : c.bitmap &&& m = m
  · rw [if_pos h, beq_iff_eq.2 h]; rfl
  · rw [if_neg h, beq_eq_false_iff_ne.2 h]; rfl

theorem lowBit_le (x : BitVec 64) : lowBit x ≤ 64 := by
  obtain ⟨hzero, hset, -⟩ := lowBit_spec x
  by_cases h : x = 0
  · exact (hzero h).le
  · exact (hset h).1.le

/-- R204: what TAGFF answers. -/
theorem CopyEng.tagValue_first (c : CopyEng) (m : BitVec 64) (k : Nat) :
    (c.bitmap &&& m = 0 → c.tagValue 0xCE m k = 64)
    ∧ (c.bitmap &&& m ≠ 0 → (c.tagValue 0xCE m k).toNat < 64 ∧ (c.bitmap &&& m).getLsbD (c.tagValue 0xCE m k).toNat = true)
    ∧ ∀ j, j < (c.tagValue 0xCE m k).toNat → (c.bitmap &&& m).getLsbD j = false := by
  have hfirst : c.tagValue 0xCE m k = Word.ofNat (lowBit (c.bitmap &&& m)) := rfl
  have hnat : (c.tagValue 0xCE m k).toNat = lowBit (c.bitmap &&& m) :=
    hfirst ▸ Word.toNat_ofNat_of_lt ((lowBit_le _).trans_lt (by decide))
  obtain ⟨hzero, hset, hbelow⟩ := lowBit_spec (c.bitmap &&& m)
  rw [hnat]
  exact ⟨fun h => by rw [hfirst, hzero h]; rfl, hset, hbelow⟩

/-! CARM and CDIS (R205). -/

/-- The element after an arming: its control tokens are sent, and the arming is the engine's. -/
def Elem.armed (e : Elem) (rule : Nat) : Elem := (e.fireTakes rule []).puts (e.everyCo rule)

theorem Elem.armed_unchanged (e : Elem) (rule : Nat) : (e.armed rule).d = e.d ∧ (e.armed rule).p = e.p ∧ (e.armed rule).pend = e.pend := by
  obtain ⟨hd, hp, -⟩ := puts_co (boundCo_allCo e rule false) (e.fireTakes rule [])
  exact ⟨hd.trans (by simp), hp.trans (by simp), by simp [Elem.armed]⟩

section Arms
variable {s : State} {el rule : Nat} {x : In} (harmed : s.armed el rule (rq 24 none none 0 0 1) x)
  (hroom : (s.elem el).portRoom rule [] = true)
include harmed hroom

theorem exec_carm_undefined {k : BitVec 6} (hnone : Table.get? (s.copyEng (tileOfElem el)).tmpls k.toNat = none) (port : BitVec 3) :
    exec (.carm k port) s = .next (s.abortWith el rule 0x31 x) := by
  obtain ⟨hcur, hin⟩ := harmed
  have hexec : exec (.carm k port) s = s.armForm port (some k) := rfl
  have hin' : (s.elem el).input {} = some x := hin
  simp only [hexec, State.armForm, hcur, hroom, hin', hnone, Bool.not_true, Bool.false_eq_true, if_false, Option.isNone_none, if_true]

theorem exec_carm {k : BitVec 6} (hsome : Table.get? (s.copyEng (tileOfElem el)).tmpls k.toNat ≠ none) (port : BitVec 3) :
    exec (.carm k port) s = .next ((s.setElem el ((s.elem el).armed rule)).setCopy (tileOfElem el)
      { s.copyEng (tileOfElem el) with rearm := (s.copyEng (tileOfElem el)).rearm ++ [(port, some k)] }) := by
  obtain ⟨hcur, hin⟩ := harmed
  have hexec : exec (.carm k port) s = s.armForm port (some k) := rfl
  have hin' : (s.elem el).input {} = some x := hin
  simp only [hexec, State.armForm, hcur, hroom, hin', Option.isNone_iff_eq_none, hsome, Bool.not_true, Bool.false_eq_true, if_false, Elem.armed]

theorem exec_cdis (port : BitVec 3) :
    exec (.cdis port) s = .next ((s.setElem el ((s.elem el).armed rule)).setCopy (tileOfElem el)
      { s.copyEng (tileOfElem el) with rearm := (s.copyEng (tileOfElem el)).rearm ++ [(port, none)] }) := by
  obtain ⟨hcur, hin⟩ := harmed
  have hexec : exec (.cdis port) s = s.armForm port none := rfl
  have hin' : (s.elem el).input {} = some x := hin
  simp only [hexec, State.armForm, hcur, hroom, hin', Bool.not_true, Bool.false_eq_true, if_false, Elem.armed]

end Arms

/-- R205: the last arming of a port is its arm after the round. -/
theorem CopyEng.commit_arms (c : CopyEng) (port : BitVec 3) (t : Option (BitVec 6)) {j : Nat} (hj : j < 8) :
    (({ c with rearm := [(port, t)] } : CopyEng).commit).arms[j] = if j = port.toNat then t else c.arms[j] := by
  simp only [CopyEng.commit, List.foldl_cons, List.foldl_nil, Vector.getElem_set, eq_comm]

/-- R202: an issue clears a tag, else the last completion sets it, else TAGCLR clears it. -/
theorem CopyEng.commit_bitmap (c : CopyEng) {t : Nat} (ht : t < 64) : c.commit.bitmap.getLsbD t =
    if c.issued.getLsbD t then false else if c.zeroed.getLsbD t then true else if c.cleared.getLsbD t then false else c.bitmap.getLsbD t := by
  simp only [CopyEng.commit, BitVec.getLsbD_and, BitVec.getLsbD_or, BitVec.getLsbD_not, ht, decide_true, Bool.true_and]
  cases c.issued.getLsbD t <;> cases c.zeroed.getLsbD t <;> cases c.cleared.getLsbD t <;> simp

/-! The trigger (R203). -/

section Trigger
variable {s : State} {tile : Nat} (hlife : (s.copyEng tile).life = .running) (hfreeze : (s.copyEng tile).freeze = none)
  (hfree : (s.copyEng tile).flights.length < 256)
include hlife hfreeze hfree

theorem exec_copyTrigger_idle (hserved : (s.copyEng tile).served = none) : exec (.copyTrigger tile) s = .next s := by
  have hexec : exec (.copyTrigger tile) s = execCopyTrigger tile s := rfl
  simp only [hexec, execCopyTrigger, hserved, hlife, hfreeze, not_le.2 hfree, ne_eq, not_true_eq_false, Option.isSome_none,
    Bool.false_eq_true, or_self, if_false]

variable {p : Nat} {tok : Token} {t : BitVec 6} (hserved : (s.copyEng tile).served = some (p, tok, t))
include hserved

theorem exec_copyTrigger_drops (hdata : isData tok = false) : exec (.copyTrigger tile) s = .next
    (s.setCopy tile { s.copyEng tile with ports := (s.copyEng tile).ports.take p, rr := p }) := by
  have hexec : exec (.copyTrigger tile) s = execCopyTrigger tile s := rfl
  simp only [hexec, execCopyTrigger, hserved, hlife, hfreeze, not_le.2 hfree, hdata, ne_eq, not_true_eq_false, Option.isSome_none,
    Bool.false_eq_true, or_self, if_false]

theorem exec_copyTrigger_issues (hdata : isData tok = true) {down : Bool} {slots : List Nat}
    (hcheck : s.copyCheck tile t.toNat tok.data tok.data = .ok down slots) : exec (.copyTrigger tile) s = .next
    ((s.setCopy tile { s.copyEng tile with ports := (s.copyEng tile).ports.take p, rr := p }).copyIssue tile t.toNat tok.data tok.data none
      down slots) := by
  have hexec : exec (.copyTrigger tile) s = execCopyTrigger tile s := rfl
  simp only [hexec, execCopyTrigger, hserved, hlife, hfreeze, not_le.2 hfree, hdata, hcheck, ne_eq, not_true_eq_false, Option.isSome_none,
    Bool.false_eq_true, or_self, if_false, if_true]

theorem exec_copyTrigger_freezes (hdata : isData tok = true) {code : Byte}
    (hcheck : s.copyCheck tile t.toNat tok.data tok.data = .fail code) : exec (.copyTrigger tile) s = .next
    (s.setCopy tile { s.copyEng tile with
      rr := p
      freeze := some { code := code, tmpl := t.toNat, port := p, data := tok.data, stamp := s.cycleOf (regionOfTile tile) }
      unposted := true }) := by
  have hexec : exec (.copyTrigger tile) s = execCopyTrigger tile s := rfl
  simp only [hexec, execCopyTrigger, hserved, hlife, hfreeze, not_le.2 hfree, hdata, hcheck, ne_eq, not_true_eq_false, Option.isSome_none,
    Bool.false_eq_true, or_self, if_false, if_true]

end Trigger

/-- Settles O46: every issue adds the flight of `copyIssued_of_engine`; the TAG group answers by `tagDoes_of_tagForm`. -/
theorem copyInstructions : Obligations.CopyInstructions := by
  unfold Obligations.CopyInstructions
  intro issued
  refine ⟨?copy, ?checks, ?deferred, ?tags, ?arms, ?trigger⟩
  case copy =>
    intro s el rule x d a b k e tile q l e1 harmed hroom
    refine ⟨fun code hfail => exec_copy_fails harmed hroom hfail, fun down slots hok => ⟨fun hwait => ?_, fun hfree hbehind => ?_⟩⟩
    case refine_1 =>
      refine (exec_copy_passes harmed hroom hok).trans (congrArg _ (if_neg fun ⟨hfree, hbehind⟩ => ?_))
      rcases hwait with hfull | hbehind'
      · exact absurd hfree (not_lt.2 hfull)
      · exact absurd (hbehind.symm.trans hbehind') Bool.false_ne_true
    case refine_2 =>
      refine ⟨_, (exec_copy_passes harmed hroom hok).trans (congrArg _ (if_pos ⟨hfree, hbehind⟩)), copyIssued_of_copyIssue rfl rfl rfl,
        fun hd => ?_, fun hd => ?_⟩
      · rw [State.elem_setElem, if_neg hd]; rfl
      · rw [State.elem_setElem, if_pos hd]; rfl
  case checks =>
    intro s tile k a b down slots hok
    rcases hk : Table.get? (s.copyEng tile).tmpls k with _ | h
    case none => simp [State.copyCheck, hk] at hok
    case some =>
      obtain ⟨-, -, hdown, hslots⟩ := State.copyCheck_ok hk hok
      exact ⟨hdown, hslots.trans (by simp only [State.copySlots, hk])⟩
  case deferred =>
    intro s el id k p a b hp hjob hbehind
    exact ⟨exec_copyIssueDeferred_waits hp hjob hbehind, fun hfree => ⟨_, exec_copyIssueDeferred_issues hp hjob hbehind hfree,
      copyIssued_of_copyIssue rfl rfl rfl⟩⟩
  case tags =>
    intro s el rule x d a b k e c m does q
    exact ⟨tagDoes_of_tagForm rfl el rule x (c.tagValue_any ..) rfl, tagDoes_of_tagForm rfl el rule x (c.tagValue_all ..) rfl,
      ⟨_, tagDoes_of_tagForm rfl el rule x rfl rfl, c.tagValue_first ..⟩, tagDoes_of_tagForm rfl el rule x rfl rfl,
      ⟨_, tagDoes_of_tagForm rfl el rule x rfl rfl, c.status_fields k⟩⟩
  case arms =>
    intro s el rule x k port e c harmed hroom
    exact ⟨fun hnone => exec_carm_undefined harmed hroom hnone port,
      fun hsome => ⟨_, exec_carm harmed hroom hsome port, e.armed_unchanged rule⟩, ⟨_, exec_cdis harmed hroom port, e.armed_unchanged rule⟩,
      fun c t j hj => c.commit_arms port t hj, fun c t ht => c.commit_bitmap ht⟩
  case trigger =>
    intro s tile p tok t c hlife hfreeze hfree
    refine ⟨exec_copyTrigger_idle hlife hfreeze hfree, fun hserved => ⟨exec_copyTrigger_drops hlife hfreeze hfree hserved,
      fun down slots hdata hok => ⟨_, exec_copyTrigger_issues hlife hfreeze hfree hserved hdata hok, ?_, ?_⟩,
      fun code hdata hfail => ⟨_, exec_copyTrigger_freezes hlife hfreeze hfree hserved hdata hfail, rfl, rfl, rfl, rfl⟩⟩⟩
    case refine_1 =>
      obtain ⟨hmem, haccs⟩ := (s.setCopy tile { c with ports := c.ports.take p, rr := p }).copyIssue_stored tile t.toNat tok.data tok.data
        none down slots
      refine copyIssued_of_engine (p := c.ports.take p) (rr := p) hmem haccs ?_
      simp only [State.copyEng_copyIssue, State.copyEng_setCopy, newFlight]
      rfl
    case refine_2 => rw [State.copyEng_copyIssue, State.copyEng_setCopy]; rfl

end Sys2Proof.Machine
end


-- ==== Proofs: signals, events and fault records (O50, R211, R332, R336 to R338, R365, R366, R368) ====
section
/-! PROOFS. Words stored in a row, the regions of a span in their order, what a signal meets at its region by the entry's decision,
and a record that enters a ring: the eight words at its tail, and no other byte. -/

namespace Sys2Proof.Machine

/-! Words stored in a row. -/

theorem Memory.readN_congr {m m' : Memory} {a n : Nat} (h : ∀ k < n, m.read (a + k) = m'.read (a + k)) : m.readN a n = m'.readN a n := by
  induction n generalizing a with
  | zero => rfl
  | succ n ih =>
    have hrest : m.readN (a + 1) n = m'.readN (a + 1) n := ih fun k hk => by
      rw [Nat.add_assoc, Nat.add_comm 1 k]
      exact h (k + 1) (Nat.succ_lt_succ hk)
    have hfirst : m.read a = m'.read a := h 0 (Nat.succ_pos n)
    rw [Memory.readN, Memory.readN, hrest, hfirst]

theorem Memory.read_writeWords_outside (m : Memory) {a k : Nat} (l : List Word) (h : k < a ∨ a + 4 * l.length ≤ k) :
    (m.writeWords a l).read k = m.read k := by
  induction l generalizing m a with
  | nil => rfl
  | cons w l ih =>
    rw [List.length_cons] at h
    rw [Memory.writeWords, ih _ (by omega), Memory.read_writeN_outside _ _ _ (by omega)]

theorem Memory.word_writeWords {m : Memory} (hm : m.wf = true) (a : Nat) {l : List Word} {j : Nat} (hj : j < l.length) :
    (m.writeWords a l).word (a + 4 * j) = l.getD j 0 := by
  induction l generalizing m a j with
  | nil => exact absurd hj (Nat.not_lt_zero j)
  | cons w l ih =>
    have hm' := Memory.wf_writeN hm a 4 w.toNat
    cases j with
    | zero =>
      have hfirst : (Memory.writeWords (m.writeN a 4 w.toNat) (a + 4) l).readN a 4 = (m.writeN a 4 w.toNat).readN a 4 :=
        Memory.readN_congr fun k hk => Memory.read_writeWords_outside _ l (.inl (by omega))
      have hword : (Memory.writeWords m a (w :: l)).word (a + 4 * 0) = BitVec.ofNat 32 ((m.writeN a 4 w.toNat).readN a 4) :=
        congrArg (BitVec.ofNat 32) hfirst
      rw [hword, Memory.readN_writeN hm]
      exact BitVec.eq_of_toNat_eq (by simpa using w.isLt)
    | succ j =>
      have hat : a + 4 * (j + 1) = a + 4 + 4 * j := by omega
      rw [Memory.writeWords, hat, ih hm' (a + 4) (Nat.lt_of_succ_lt_succ hj)]
      rfl

/-! SIGSEND and EVENT (R211). -/

/-- R211: a span's regions in row-major order. -/
theorem spanRegions_getElem? (row col rows cols n : Nat) : (spanRegions row col rows cols)[n]? =
    if n < rows * cols then some (regionAt (row + n / cols) (col + n % cols)) else none := by
  induction rows with
  | zero => simp [spanRegions]
  | succ rows ih =>
    have hlen : (spanRegions row col rows cols).length = rows * cols := by simp [spanRegions]
    have hsucc : spanRegions row col (rows + 1) cols =
        spanRegions row col rows cols ++ (List.range cols).map (fun c => regionAt (row + rows) (col + c)) := by
      simp [spanRegions, List.range_succ]
    rw [hsucc, Nat.succ_mul]
    rcases Nat.lt_or_ge n (rows * cols) with hn | hn
    · rw [List.getElem?_append_left (hlen.symm ▸ hn), ih, if_pos hn, if_pos (hn.trans_le (Nat.le_add_right ..))]
    · obtain ⟨c, rfl⟩ := Nat.exists_eq_add_of_le hn
      rw [List.getElem?_append_right (hlen.symm ▸ hn), hlen, Nat.add_sub_cancel_left, List.getElem?_map]
      rcases Nat.lt_or_ge c cols with hc | hc
      · rw [List.getElem?_range hc, if_pos (Nat.add_lt_add_left hc _), Nat.add_comm (rows * cols) c, Nat.mul_comm rows cols,
          Nat.add_mul_div_left _ _ (Nat.zero_lt_of_lt hc), Nat.add_mul_mod_self_left, Nat.div_eq_of_lt hc, Nat.mod_eq_of_lt hc, Nat.zero_add]
        rfl
      · rw [List.getElem?_eq_none (by simpa using hc), if_neg (by omega)]
        rfl

section Send
variable {s : State} {el rule : Nat} {x : In} {d a b : BitVec 5} (harmed : s.armed el rule (rq d (some a) (some b) 0 0 1) x)
include harmed

theorem exec_event (hroom : (s.elem el).portRoom rule (deliver d Tag.data 0) = true) :
    exec (.event d a b) s = .next (s.setElem el ((s.elem el).issuePort rule (rq d (some a) (some b) 0 0 1) (deliver d Tag.data 0)
      (.event x.a.data x.b.data) true)) := by
  obtain ⟨hcur, hin⟩ := harmed
  have hexec : exec (.event d a b) s = execEvent d a b s := rfl
  have hin' : (s.elem el).input { d := d, a := some a, b := some b } = some x := hin
  simp only [hexec, execEvent, hcur, hin', hroom, Bool.not_true, Bool.false_eq_true, if_false]
  rfl

variable {h : BitVec 4} {row col rows cols : Nat} (hroom : (s.elem el).portRoom rule (deliver d Tag.data x.b.data) = true)
  (hspan : s.spanOf (s.taskOfElem el) = (row, col, rows, cols))
include hroom hspan

theorem exec_sigsend_beyond (hn : rows * cols ≤ x.a.data.toNat) : exec (.sigsend d a b h) s = .next (s.abortWith el rule 0x02 x) := by
  obtain ⟨hcur, hin⟩ := harmed
  have hexec : exec (.sigsend d a b h) s = execSigsend d a b h s := rfl
  have hin' : (s.elem el).input { d := d, a := some a, b := some b } = some x := hin
  have hnone : (spanRegions row col rows cols)[x.a.data.toNat]? = none := by rw [spanRegions_getElem?, if_neg (not_lt.2 hn)]
  simp only [hexec, execSigsend, hcur, hin', hroom, hspan, hnone, Bool.not_true, Bool.false_eq_true, if_false]

theorem exec_sigsend (hn : x.a.data.toNat < rows * cols) :
    let reg := regionAt (row + x.a.data.toNat / cols) (col + x.a.data.toNat % cols)
    exec (.sigsend d a b h) s = .next
      { s.setElem el ((s.elem el).issuePort rule (rq d (some a) (some b) 0 0 1) (deliver d Tag.data x.b.data) (.signal reg h x.b.data) true) with
        signals := s.signals ++ [⟨s.fresh, reg, h, x.b.data, false, el, (s.elem el).nextId, flitDelay (tileOfElem el) (etileOf reg)⟩]
        fresh := s.fresh + 1 } := by
  obtain ⟨hcur, hin⟩ := harmed
  have hexec : exec (.sigsend d a b h) s = execSigsend d a b h s := rfl
  have hin' : (s.elem el).input { d := d, a := some a, b := some b } = some x := hin
  have hsome := spanRegions_getElem? row col rows cols x.a.data.toNat
  rw [if_pos hn] at hsome
  simp only [hexec, execSigsend, hcur, hin', hroom, hspan, hsome, Bool.not_true, Bool.false_eq_true, if_false]
  rfl

end Send

/-! Signals at their region (R337, R338). -/

theorem State.enter_unchanged (s : State) (d : EndPt) (t : Token) : (s.enter d t).signals = s.signals ∧ (s.enter d t).mem = s.mem := by
  unfold State.enter State.setPorts
  split
  · split
    · exact ⟨rfl, rfl⟩
    · split <;> exact ⟨rfl, rfl⟩
  · split <;> exact ⟨rfl, rfl⟩

/-- R365: an event without an owner changes its context's list at most. -/
theorem State.postEvent_none (s : State) (k : Nat) (r : List Word) : ∃ c, s.postEvent k none r = { s with ctxs := c } := by
  unfold State.postEvent
  extract_lets c
  split
  · exact ⟨s.ctxs, rfl⟩
  · exact ⟨_, rfl⟩

theorem State.postEvent_of_active {s : State} {k : Nat} (h : (s.ctx k).st = .active) (owner : Option Nat) (r : List Word) :
    s.postEvent k owner r = s.setCtx k { s.ctx k with events := (s.ctx k).events ++ [(owner, r)] } :=
  if_neg (by simp [h])

/-- R211, R337: the state `t` once an element's signal has been accepted. -/
def Signal.told (g : Signal) (t : State) : State :=
  { t with signals := t.signals.filter (fun y => y.id != g.id) }.setElem g.sender ((t.elem g.sender).finish g.reply none false)

section Signals
variable {s : State} {g : Signal} (hfind : s.signals.find? (fun y => y.id == g.id) = some g) (hfab : g.fab = false)
include hfab

theorem State.sigDone_of_elem (t : State) : t.sigDone g = g.told t := by
  unfold State.sigDone
  rw [if_neg (by simp [hfab])]
  rfl

variable (hbehind : s.behind g.sender g.reply = false)
include hfind hbehind

theorem exec_signalHandle : exec (.signalHandle g.id) s = .next (s.takeSignal g) := by
  have hexec : exec (.signalHandle g.id) s = execSignalHandle g.id s := rfl
  simp only [hexec, execSignalHandle, hfind, hfab, hbehind, Bool.not_false, Bool.and_false, Bool.false_eq_true, if_false]

/-- R337: a signal that cannot be taken now stays. -/
theorem exec_signalHandle_busy (hdecide : s.sigDecide g = .busy) : exec (.signalHandle g.id) s = .next s := by
  rw [exec_signalHandle hfind hfab hbehind]
  simp only [State.takeSignal, hdecide, State.sigNack, hfab, Bool.false_eq_true, if_false]
  rfl

theorem exec_signalHandle_fenced (hdecide : s.sigDecide g = .fenced) :
    exec (.signalHandle g.id) s = .next { s with signals := s.signals.filter (fun y => y.id != g.id) } := by
  rw [exec_signalHandle hfind hfab hbehind]
  simp only [State.takeSignal, hdecide, State.sigNack, hfab, Bool.false_eq_true, if_false, if_true]

theorem exec_signalHandle_token {d : EndPt} {t : Token} (hdecide : s.sigDecide g = .token d t) :
    exec (.signalHandle g.id) s = .next (g.told (s.enter d t)) := by
  rw [exec_signalHandle hfind hfab hbehind]
  simp only [State.takeSignal, hdecide, State.sigDone_of_elem hfab]

/-- R338: an unhandled signal with no room for its record stays. -/
theorem exec_signalHandle_full {reason : BitVec 4} (hdecide : s.sigDecide g = .unhandled reason) (hfull : 32 ≤ (s.region g.region).unh.length) :
    exec (.signalHandle g.id) s = .next s := by
  rw [exec_signalHandle hfind hfab hbehind]
  simp only [State.takeSignal, hdecide, hfull, if_true, State.sigNack, hfab, Bool.false_eq_true, if_false]
  rfl

/-- R338: the record of an unhandled signal. -/
def State.unhandledOf (s : State) (g : Signal) (reason : BitVec 4) : Unhandled :=
  { payload := g.payload, reason := reason, entry := g.h, version := BitVec.ofNat 16 ((s.region g.region).sig[g.h.toNat].toNat / 2 ^ 32)
    fab := g.fab, sender := BitVec.ofNat 14 g.sender, stamp := s.cycleOf g.region }

theorem exec_signalHandle_unhandled {reason : BitVec 4} (hdecide : s.sigDecide g = .unhandled reason)
    (hroom : (s.region g.region).unh.length < 32) : ∃ c, exec (.signalHandle g.id) s = .next (g.told
      { s.setRegion g.region { s.region g.region with unh := (s.region g.region).unh ++ [s.unhandledOf g reason] } with ctxs := c }) := by
  rw [exec_signalHandle hfind hfab hbehind]
  simp only [State.takeSignal, hdecide, not_le.2 hroom, if_false, State.sigDone_of_elem hfab]
  obtain ⟨c, hc⟩ := State.postEvent_none (s.setRegion g.region { s.region g.region with
    unh := (s.region g.region).unh ++ [s.unhandledOf g reason] }) (s.ctxOfRegion g.region) _
  exact ⟨c, congrArg _ (congrArg _ hc)⟩

/-- R337, R368: the record of the event that a signal's entry asks for. -/
def State.signalRecord (s : State) (g : Signal) : List Word :=
  eventRecord 0x11 g.region (s.taskId (s.taskOfRegion g.region)) (s.evdata (s.taskOfRegion g.region))
    (((s.task? (s.taskOfRegion g.region)).map (fun t => t.st.code)).getD 0) 0
    (Word.ofNat (g.h.toNat * 2 ^ 24 + (BitVec.ofNat 16 ((s.region g.region).sig[g.h.toNat].toNat / 2 ^ 32)).toNat)) g.payload g.senderWord
    (s.cycleOf g.region)

theorem exec_signalHandle_event (hdecide : s.sigDecide g = .event) (hactive : (s.ctx (s.ctxOfRegion g.region)).st = .active) :
    let k := s.ctxOfRegion g.region
    exec (.signalHandle g.id) s = .next (g.told (s.setCtx k { s.ctx k with events := (s.ctx k).events ++ [(none, s.signalRecord g)] })) := by
  rw [exec_signalHandle hfind hfab hbehind]
  simp only [State.takeSignal, hdecide, State.sigDone_of_elem hfab, State.postEvent_of_active hactive]
  rfl

end Signals

/-! What the entry decides (R337). -/

section Decide
variable {s : State} {g : Signal}

theorem State.sigDecide_invalid (h : (s.region g.region).sig[g.h.toNat].getLsbD 63 = false) : s.sigDecide g = .unhandled 0 := by
  simp only [State.sigDecide, h, Bool.not_false, if_true]

variable (hvalid : (s.region g.region).sig[g.h.toNat].getLsbD 63 = true)
include hvalid

theorem State.sigDecide_fenced (hst : (s.region g.region).st = .fenced) : s.sigDecide g = .fenced := by
  simp only [State.sigDecide, hvalid, hst, Bool.not_true, Bool.false_eq_true, if_false, if_true]

variable (hst : (s.region g.region).st ≠ .fenced)
include hst

theorem State.sigDecide_event (hevent : (s.region g.region).sig[g.h.toNat].getLsbD 62 = true) :
    let c := s.ctx (s.ctxOfRegion g.region)
    s.sigDecide g = if ringFull c.eqhead c.eqtail c.eqlen then .busy else .event := by
  simp only [State.sigDecide, hvalid, hst, hevent, Bool.not_true, Bool.false_eq_true, if_false, if_true]

theorem State.sigDecide_token (htoken : (s.region g.region).sig[g.h.toNat].getLsbD 62 = false) {d : EndPt} {src : Source}
    (hend : inEnd (s.spanOf (s.taskOfRegion g.region)) (Word.ofNat (s.region g.region).sig[g.h.toNat].toNat) = some d)
    (hfind : (s.region g.region).sources.find? (fun x => x.dst == d) = some src) (hruns : (s.region g.region).st.runs = true)
    (hdrained : src.drained = false) (hmarked : src.marked = false) (hroom : ((s.ports d.tile d.unit).inAt d.port).room ≠ 0) :
    s.sigDecide g = .token d ⟨g.payload, BitVec.ofNat 4 ((s.region g.region).sig[g.h.toNat].toNat / 2 ^ 58)⟩ := by
  simp only [State.sigDecide, hvalid, hst, htoken, hend, hfind, hruns, hdrained, hmarked, hroom, Bool.not_true, Bool.false_eq_true, or_self,
    if_false]

end Decide

/-- The source of an end, when it is the only one of it. -/
theorem find?_source {l : List Source} {d : EndPt} {src : Source} (hmem : src ∈ l) (hdst : src.dst = d) (honly : ∀ y ∈ l, y.dst = d → y = src) :
    l.find? (fun x => x.dst == d) = some src := by
  rcases hf : l.find? (fun x => x.dst == d) with _ | y
  · exact absurd (beq_iff_eq.2 hdst) (by simpa using List.find?_eq_none.1 hf src hmem)
  · exact hf.trans (congrArg some (honly y (List.mem_of_find?_eq_some hf) (beq_iff_eq.1 (List.find?_some (p := fun x : Source => x.dst == d) hf))))

/-- R368: the type, the region and the low words of an event record. -/
theorem eventRecord_head {type region taskid : Nat} (htype : type < 256) (hregion : region < 64) (htask : taskid < 2 ^ 18) (ev : Word) (st : Nat)
    (code : Byte) (i3 i4 i5 : Word) (stamp : Dword) :
    fldN ((eventRecord type region taskid ev st code i3 i4 i5 stamp).getD 0 0) 24 8 = type
    ∧ fldN ((eventRecord type region taskid ev st code i3 i4 i5 stamp).getD 0 0) 18 6 = region := by
  have hword : ((eventRecord type region taskid ev st code i3 i4 i5 stamp).getD 0 0).toNat = type * 2 ^ 24 + region * 2 ^ 18 + taskid :=
    Word.toNat_ofNat_of_lt (by omega)
  simp only [fldN, hword]
  omega

theorem State.taskId_lt (s : State) (task : Nat) : s.taskId task < 2 ^ 18 := by
  unfold State.taskId
  split
  next t _ => exact t.taskid.isLt.trans (by decide)
  · decide

/-! Records enter a ring (R365). -/

theorem ringFull_iff {head tail len : Word} : ringFull head tail len = true ↔ (tail.toNat + 1) % (fldN len 0 16 + 1) = head.toNat := beq_iff_eq

section Event
variable {s : State} {k : Nat} {r : List Word} {go : State → State}

/-- R365: the bytes of the ring's tail. -/
def Ctx.eventAt (c : Ctx) : Nat := c.eqbase.toNat + 32 * c.eqtail.toNat

/-- R365: the state once the record `r` stands in the event ring of context `k`. -/
def State.withEvent (s : State) (k : Nat) (r : List Word) : State :=
  (s.ringWrite (s.ctx k).eqbase (s.ctx k).eqtail r).setCtx k { s.ctx k with eqtail := ringNext (s.ctx k).eqtail (s.ctx k).eqlen }

variable (hfree : (s.ctx k).st ≠ .free) (hfaulted : (s.ctx k).st ≠ .faulted) (hcreating : (s.ctx k).st ≠ .creating)
include hfree hfaulted hcreating

theorem State.putEvent_full (hfull : ringFull (s.ctx k).eqhead (s.ctx k).eqtail (s.ctx k).eqlen = true)
    (hdestroying : (s.ctx k).st ≠ .destroying) : s.putEvent k r go = s := by
  simp only [State.putEvent, hfree, hfaulted, hcreating, hfull, hdestroying, or_self, true_or, if_true, if_false]

variable (hroom : ringFull (s.ctx k).eqhead (s.ctx k).eqtail (s.ctx k).eqlen = false)
include hroom

theorem State.putEvent_room (hclean : s.poisoned (s.ctx k).eventAt 32 true = false) : s.putEvent k r go = go (s.withEvent k r) := by
  have hclean' : s.poisoned ((s.ctx k).eqbase.toNat + 32 * (s.ctx k).eqtail.toNat) 32 true = false := hclean
  simp only [State.putEvent, hfree, hfaulted, hcreating, hroom, hclean', Bool.false_eq_true, or_self, if_false, State.withEvent]

theorem State.putEvent_poisoned (hbad : s.poisoned (s.ctx k).eventAt 32 true = true) (hdestroying : (s.ctx k).st ≠ .destroying) :
    s.putEvent k r go = go (s.areaFault k [((s.ctx k).eventAt, 32)]) := by
  have hbad' : s.poisoned ((s.ctx k).eqbase.toNat + 32 * (s.ctx k).eqtail.toNat) 32 true = true := hbad
  simp only [State.putEvent, hfree, hfaulted, hcreating, hroom, hbad', hdestroying, Bool.false_eq_true, or_self, or_true, if_true, if_false,
    Ctx.eventAt]

end Event

/-- R365: a record written into a ring leaves every byte but its own. -/
theorem State.ringWrite_mem {s : State} (hm : s.mem.wf = true) (base : BitVec 64) (tail : Word) {r : List Word} (hr : r.length = 8) :
    let at_ := base.toNat + 32 * tail.toNat
    (∀ j : Nat, j < at_ ∨ at_ + 32 ≤ j → (s.ringWrite base tail r).mem.read j = s.mem.read j)
    ∧ (∀ j, j < 8 → (s.ringWrite base tail r).mem.word (at_ + 4 * j) = r.getD j 0)
    ∧ (s.ringWrite base tail r).mem.word at_ = r.getD 0 0 := by
  intro at_
  have hmem : (s.ringWrite base tail r).mem = s.mem.writeWords at_ r := rfl
  have hwords : ∀ j, j < 8 → (s.mem.writeWords at_ r).word (at_ + 4 * j) = r.getD j 0 :=
    fun j hj => Memory.word_writeWords hm _ (hr.symm ▸ hj)
  rw [hmem]
  exact ⟨fun j hj => Memory.read_writeWords_outside s.mem r (by omega), hwords, hwords 0 (by decide)⟩

theorem State.withEvent_mem {s : State} (hm : s.mem.wf = true) (k : Nat) {r : List Word} (hr : r.length = 8) :
    (∀ j : Nat, j < (s.ctx k).eventAt ∨ (s.ctx k).eventAt + 32 ≤ j → (s.withEvent k r).mem.read j = s.mem.read j)
    ∧ (∀ j, j < 8 → (s.withEvent k r).mem.word ((s.ctx k).eventAt + 4 * j) = r.getD j 0)
    ∧ (s.withEvent k r).mem.word (s.ctx k).eventAt = r.getD 0 0 := State.ringWrite_mem hm _ _ hr

theorem State.withEvent_elems (s : State) (k : Nat) (r : List Word) : (s.withEvent k r).elems = s.elems := rfl

theorem State.elem_withEvent (s : State) (k : Nat) (r : List Word) (el : Nat) : (s.withEvent k r).elem el = s.elem el := rfl

theorem State.withEvent_kept (s : State) (k : Nat) (r : List Word) : (s.withEvent k r).accs = s.accs ∧ (s.withEvent k r).tasks = s.tasks
    ∧ (s.withEvent k r).regions = s.regions := ⟨rfl, rfl, rfl⟩

theorem State.ctx_withEvent (s : State) (k : Nat) (r : List Word) : (s.withEvent k r).ctx k =
    { s.ctx k with eqtail := BitVec.ofNat 32 (((s.ctx k).eqtail.toNat + 1) % (fldN (s.ctx k).eqlen 0 16 + 1)) } := by
  rw [State.withEvent, State.ctx_setCtx, ringNext, Word.ofNat]

/-- R211, R368: the record of an element's EVENT. -/
def State.jobRecord (s : State) (el : Nat) (a b : Word) : List Word :=
  eventRecord 0x10 (regionOfElem el) (s.taskId (s.taskOfElem el)) (s.evdata (s.taskOfElem el))
    (((s.task? (s.taskOfElem el)).map (fun t => t.st.code)).getD 0) 0 a b (Word.ofNat el) (s.cycleOf (regionOfElem el))

/-- R365: what follows the record of an element's EVENT: its operation ends. -/
def State.jobDone (s : State) (el id : Nat) : State := s.setElem el ((s.elem el).finish id none false)

theorem State.jobDone_kept (s : State) (el id : Nat) : (s.jobDone el id).accs = s.accs ∧ (s.jobDone el id).tasks = s.tasks
    ∧ (s.jobDone el id).regions = s.regions ∧ (s.jobDone el id).mem = s.mem := ⟨rfl, rfl, rfl, rfl⟩

theorem State.ctx_jobDone (s : State) (el id k : Nat) : (s.jobDone el id).ctx k = s.ctx k := rfl

theorem State.elem_jobDone (s : State) (el id : Nat) : (s.jobDone el id).elem el = (s.elem el).finish id none false := State.elem_setElem ..

/-- EVENT_RECORD_WRITE: an element's EVENT, once no record that the machine holds may be written. -/
theorem exec_eventRecordWrite_job {s : State} {k el id : Nat} {a b : Word} {rest : List (Nat × Nat × Word × Word)}
    (hheld : (s.ctx k).events = []) (hjobs : s.eventJobs k = (el, id, a, b) :: rest) :
    exec (.eventRecordWrite k) s = .next (s.putEvent k (s.jobRecord el a b) (fun t => t.jobDone el id)) := by
  have hexec : exec (.eventRecordWrite k) s = execEventRecordWrite k s := rfl
  have hnone : (s.ctx k).events.findIdx? (fun x => s.ripe x.1) = none := by rw [hheld]; rfl
  simp only [hexec, execEventRecordWrite, hnone, hjobs]
  rfl

/-- R293, R365: the oldest held record has entered the ring: its task's entry is free. -/
def State.heldDone (s : State) (k : Nat) (owner : Option Nat) : State :=
  (s.setCtx k { s.ctx k with events := (s.ctx k).events.eraseIdx 0 }).freeEntry owner

/-- EVENT_RECORD_WRITE: the oldest record that the machine holds, when it may be written. -/
theorem exec_eventRecordWrite_held {s : State} {k : Nat} {owner : Option Nat} {r : List Word} {rest : List (Option Nat × List Word)}
    (hheld : (s.ctx k).events = (owner, r) :: rest) (hripe : s.ripe owner = true) :
    exec (.eventRecordWrite k) s = .next (s.putEvent k r (fun t => t.heldDone k owner)) := by
  have hexec : exec (.eventRecordWrite k) s = execEventRecordWrite k s := rfl
  have hfirst : (s.ctx k).events.findIdx? (fun x => s.ripe x.1) = some 0 := by rw [hheld, List.findIdx?_cons, if_pos hripe]
  have hget : (s.ctx k).events.getD 0 (none, []) = (owner, r) := by rw [hheld]; rfl
  simp only [hexec, execEventRecordWrite, hfirst, hget]
  rfl

/-! The entry of a task (R340). -/

theorem Table.get?_erase {α : Type} (t : Table α) (k : Nat) : (t.erase k).get? k = none := by
  induction t with
  | nil => rfl
  | cons x t ih =>
    obtain ⟨j, w⟩ := x
    by_cases h : j = k
    · simpa [Table.erase, h] using ih
    · simpa [Table.erase, Table.get?, h] using ih

theorem Table.get?_mapAll_of_none {α : Type} {t : Table α} {k : Nat} (h : t.get? k = none) (f : Nat → α → α) : (t.mapAll f).get? k = none := by
  induction t with
  | nil => rfl
  | cons x t ih =>
    obtain ⟨j, w⟩ := x
    by_cases hj : j = k
    · simp [Table.get?, hj] at h
    · have ht : Table.get? t k = none := by simpa [Table.get?, hj] using h
      simpa [Table.mapAll, Table.get?, hj] using ih ht

theorem State.task?_freeEntry (s : State) (t : Nat) : (s.freeEntry (some t)).task? t = none := by
  rcases ht : s.task? t with _ | x
  · simp only [State.freeEntry, ht]
  · simp only [State.freeEntry, ht]
    simp only [State.task?, Table.get?_mapAll_of_none (Table.get?_erase s.tasks t)]

theorem State.freeEntry_ctxs (s : State) (o : Option Nat) : (s.freeEntry o).ctxs = s.ctxs := by
  unfold State.freeEntry
  split
  · split <;> rfl
  · rfl

theorem State.freeEntry_mem (s : State) (o : Option Nat) : (s.freeEntry o).mem = s.mem := by
  unfold State.freeEntry
  split
  · split <;> rfl
  · rfl

theorem State.ctxs_of_stored {s s' : State} (h : s'.stored = s.stored) : s'.ctxs = s.ctxs := by
  simp only [State.stored, Prod.mk.injEq] at h
  exact h.2.2.2.2

theorem State.mem_of_stored {s s' : State} (h : s'.stored = s.stored) : s'.mem = s.mem := by
  simp only [State.stored, Prod.mk.injEq] at h
  exact h.2.1

/-- R361, R426: poison under an area of a context that is not being created or destroyed makes the context FAULTED. -/
theorem State.areaFault_faults {s : State} {k : Nat} (hst : (s.ctx k).st = .active ∨ (s.ctx k).st = .quiescing ∨ (s.ctx k).st = .suspended)
    (spans : List (Nat × Nat)) :
    ((s.areaFault k spans).ctx k).st = .faulted ∧ (s.areaFault k spans).mem = s.mem ∧ (s.areaFault k spans).elems = s.elems := by
  have hlog : ∀ (l : List Nat) (t : State), (l.foldl (fun s g => s.dflLog (s.eccRec g 0 none)) t).stored = t.stored :=
    fun l t => foldl_unchanged State.stored (fun s g => State.dflLog_stored s _) l t
  have harea : (s.areaFault k spans).stored = (s.ctxFault k).stored := by
    unfold State.areaFault
    extract_lets c s1
    exact (hlog _ _).trans (congrArg State.stored (if_pos hst))
  have hctxs : (s.ctxFault k).ctxs = (s.setCtx k { s.ctx k with st := .faulted, faults := [], events := [] }).ctxs :=
    foldl_unchanged State.ctxs State.freeEntry_ctxs _ _
  have hmem : (s.ctxFault k).mem = s.mem := foldl_unchanged State.mem State.freeEntry_mem _ _
  refine ⟨?_, (State.mem_of_stored harea).trans hmem, State.elems_of_nodes (State.areaFault_nodes s k spans)⟩
  have hctx : (s.areaFault k spans).ctx k = { s.ctx k with st := .faulted, faults := [], events := [] } := by
    rw [State.ctx, State.ctxs_of_stored harea, hctxs]
    exact State.ctx_setCtx ..
  rw [hctx]

/-- R293: what the entry of a record's task leaves alone when it goes. -/
theorem State.heldDone_unchanged (s : State) (k : Nat) (owner : Option Nat) :
    (s.heldDone k owner).ctx k = { s.ctx k with events := (s.ctx k).events.eraseIdx 0 } ∧ (s.heldDone k owner).mem = s.mem
    ∧ (s.heldDone k owner).elems = s.elems ∧ (s.heldDone k owner).regions = s.regions := by
  refine ⟨?_, State.freeEntry_mem .., State.elems_of_nodes (State.freeEntry_nodes ..), State.freeEntry_regions ..⟩
  rw [State.ctx, State.heldDone, State.freeEntry_ctxs]
  exact State.ctx_setCtx ..

/-! The fault queue (R332, R365). -/

theorem State.postFault_kept (s : State) (k : Nat) (r : List Word) :
    (s.postFault k r).mem = s.mem ∧ (s.postFault k r).regions = s.regions := by
  unfold State.postFault
  extract_lets c
  split <;> exact ⟨rfl, rfl⟩

/-- R332: collecting the freezes leaves memory and the regions. -/
theorem State.collectFreezes_kept (s : State) (k : Nat) : (s.collectFreezes k).mem = s.mem ∧ (s.collectFreezes k).regions = s.regions := by
  suffices h : (fun t : State => (t.mem, t.regions)) (s.collectFreezes k) = (s.mem, s.regions) from Prod.mk.inj h
  have hpost : ∀ (t : State) (r : List Word), (fun t : State => (t.mem, t.regions)) (t.postFault k r) = (t.mem, t.regions) := fun t r =>
    Prod.ext (t.postFault_kept k r).1 (t.postFault_kept k r).2
  unfold State.collectFreezes
  extract_lets mine es us cs s1 s2
  have h1 : (s1.mem, s1.regions) = (s.mem, s.regions) :=
    foldl_unchanged (fun t : State => (t.mem, t.regions)) (fun t x => (hpost (t.setElem x.1 _) _).trans rfl) es s
  have h2 : (s2.mem, s2.regions) = (s1.mem, s1.regions) :=
    foldl_unchanged (fun t : State => (t.mem, t.regions)) (fun t x => (hpost (t.setUnit x.1 _) _).trans rfl) us s1
  refine (foldl_unchanged (fun t : State => (t.mem, t.regions)) (fun t x => ?_) cs s2).trans (h2.trans h1)
  split
  · exact hpost _ _
  · rfl

/-- R365: the bytes of the fault queue's tail. -/
def Ctx.faultAt (c : Ctx) : Nat := c.fqbase.toNat + 32 * c.fqtail.toNat

/-- R365: the state once the record `r` stands in the fault queue of context `k`, with `rest` waiting behind it. -/
def State.withFault (s : State) (k : Nat) (r : List Word) (rest : List (List Word)) : State :=
  (s.ringWrite (s.ctx k).fqbase (s.ctx k).fqtail r).setCtx k
    { s.ctx k with faults := rest, fqtail := ringNext (s.ctx k).fqtail (s.ctx k).fqlen }

theorem State.withFault_kept (s : State) (k : Nat) (r : List Word) (rest : List (List Word)) :
    (s.withFault k r rest).elems = s.elems ∧ (s.withFault k r rest).accs = s.accs ∧ (s.withFault k r rest).tasks = s.tasks := ⟨rfl, rfl, rfl⟩

theorem State.ctx_withFault (s : State) (k : Nat) (r : List Word) (rest : List (List Word)) : (s.withFault k r rest).ctx k =
    { s.ctx k with faults := rest, fqtail := BitVec.ofNat 32 (((s.ctx k).fqtail.toNat + 1) % (fldN (s.ctx k).fqlen 0 16 + 1)) } := by
  rw [State.withFault, State.ctx_setCtx, ringNext, Word.ofNat]

theorem State.withFault_mem {s : State} (hm : s.mem.wf = true) (k : Nat) {r : List Word} (hr : r.length = 8) (rest : List (List Word)) :
    (∀ j : Nat, j < (s.ctx k).faultAt ∨ (s.ctx k).faultAt + 32 ≤ j → (s.withFault k r rest).mem.read j = s.mem.read j)
    ∧ (∀ j, j < 8 → (s.withFault k r rest).mem.word ((s.ctx k).faultAt + 4 * j) = r.getD j 0)
    ∧ (s.withFault k r rest).mem.word (s.ctx k).faultAt = r.getD 0 0 := State.ringWrite_mem hm _ _ hr

section Fault
variable {s : State} {k : Nat} {r : List Word} {rest : List (List Word)} (hheld : ((s.collectFreezes k).ctx k).faults = r :: rest)
  (hclean : (s.collectFreezes k).poisoned ((s.collectFreezes k).ctx k).faultAt 32 true = false)
include hheld hclean

/-- FAULT_RECORD_POST: the oldest record enters the fault queue, or waits for room in it. -/
theorem exec_faultRecordPost : exec (.faultRecordPost k) s = .next
    (let t := s.collectFreezes k
    let c := t.ctx k
    if ringFull c.fqhead c.fqtail c.fqlen then (if c.st = .destroying then t.setCtx k { c with faults := rest } else t)
    else t.withFault k (t.stamped r) rest) := by
  have hexec : exec (.faultRecordPost k) s = execFaultRecordPost k s := rfl
  have hclean' : (s.collectFreezes k).poisoned (((s.collectFreezes k).ctx k).fqbase.toNat + 32 * ((s.collectFreezes k).ctx k).fqtail.toNat)
    32 true = false := hclean
  simp only [hexec, execFaultRecordPost, hheld, hclean', Bool.false_eq_true, or_false]
  split
  · split <;> rfl
  · rfl

end Fault

/-- R366, R454: the words of a record as it is posted. -/
theorem State.stamped_words (s : State) {r : List Word} (hr : r.length = 8) :
    (s.stamped r).length = 8 ∧ (∀ j, j < 6 → (s.stamped r).getD j 0 = r.getD j 0)
    ∧ (s.stamped r).getD 6 0 = Word.ofNat (s.cycleOf (fldN (r.getD 0 0) 14 6)).toNat
    ∧ (s.stamped r).getD 7 0 = Word.ofNat ((s.cycleOf (fldN (r.getD 0 0) 14 6)).toNat / 2 ^ 32) := by
  have hlen : (r.take 6).length = 6 := by simp [hr]
  refine ⟨by simp [State.stamped, hr], fun j hj => ?_, ?_, ?_⟩
  · rw [State.stamped, List.getD_append _ _ _ _ (hlen.symm ▸ hj), List.getD_eq_getElem?_getD, List.getElem?_take_of_lt hj,
      ← List.getD_eq_getElem?_getD]
  · rw [State.stamped, List.getD_append_right _ _ _ _ hlen.le, hlen]; rfl
  · rw [State.stamped, List.getD_append_right _ _ _ _ (by omega), hlen]; rfl

/-- R211, R368: the words of an EVENT's record. -/
theorem State.jobRecord_words (s : State) (el : Nat) (a b : Word) :
    fldN ((s.jobRecord el a b).getD 0 0) 24 8 = 0x10 ∧ fldN ((s.jobRecord el a b).getD 0 0) 18 6 = regionOfElem el
    ∧ (s.jobRecord el a b).getD 3 0 = a ∧ (s.jobRecord el a b).getD 4 0 = b ∧ (s.jobRecord el a b).getD 5 0 = Word.ofNat el
    ∧ (s.jobRecord el a b).getD 6 0 = Word.ofNat (s.cycleOf (regionOfElem el)).toNat
    ∧ (s.jobRecord el a b).getD 7 0 = Word.ofNat ((s.cycleOf (regionOfElem el)).toNat / 2 ^ 32) := by
  obtain ⟨htype, hreg⟩ := eventRecord_head (type := 0x10) (by decide) (Nat.mod_lt _ (by decide) : regionOfElem el < 64)
    (s.taskId_lt (s.taskOfElem el)) (s.evdata (s.taskOfElem el)) (((s.task? (s.taskOfElem el)).map (fun t => t.st.code)).getD 0) 0 a b
    (Word.ofNat el) (s.cycleOf (regionOfElem el))
  exact ⟨htype, hreg, rfl, rfl, rfl, rfl, rfl⟩

theorem State.jobRecord_length (s : State) (el : Nat) (a b : Word) : (s.jobRecord el a b).length = 8 := rfl

/-- Settles O50: SIGSEND by the row-major order of `spanRegions_getElem?`, a signal by its entry's decision, a record by the bytes that
`State.withEvent_mem` says it writes. -/
theorem signalsAndRecords : Obligations.SignalsAndRecords := by
  unfold Obligations.SignalsAndRecords
  refine ⟨?sends, ?events, ?signals, ?jobs, ?held, ?faults, ?records⟩
  case sends =>
    intro s el rule x d a b h row col rows cols e q n harmed hroom hspan
    exact ⟨exec_sigsend_beyond harmed hroom hspan, exec_sigsend harmed hroom hspan⟩
  case events =>
    intro s el rule x d a b q harmed hroom
    exact exec_event harmed hroom
  case signals =>
    intro s g r entry told hfind hfab hbehind
    refine ⟨fun hinvalid hroom => ?_, fun hinvalid hfull => ?_, fun hvalid hfenced => ?_,
      fun hvalid hevent hst hregion => ⟨fun hfull => ?_, fun hroom hactive => ?_⟩,
      fun d src hvalid htoken hend hmem hdst honly hst hdrained hmarked hroom => ?_⟩
    case refine_1 =>
      obtain ⟨c, hc⟩ := exec_signalHandle_unhandled hfind hfab hbehind (State.sigDecide_invalid hinvalid) hroom
      exact ⟨_, c, hc, rfl, rfl, rfl, BitVec.toNat_ofNat .., hfab, rfl⟩
    case refine_2 => exact exec_signalHandle_full hfind hfab hbehind (State.sigDecide_invalid hinvalid) hfull
    case refine_3 => exact exec_signalHandle_fenced hfind hfab hbehind (State.sigDecide_fenced hvalid hfenced)
    case refine_4 => exact exec_signalHandle_busy hfind hfab hbehind ((State.sigDecide_event hvalid hst hevent).trans (if_pos hfull))
    case refine_5 =>
      have hdecide := (State.sigDecide_event hvalid hst hevent).trans (if_neg (Bool.eq_false_iff.1 hroom))
      obtain ⟨htype, hreg⟩ := eventRecord_head (type := 0x11) (by decide) hregion (s.taskId_lt (s.taskOfRegion g.region))
        (s.evdata (s.taskOfRegion g.region)) (((s.task? (s.taskOfRegion g.region)).map (fun t => t.st.code)).getD 0) 0
        (Word.ofNat (g.h.toNat * 2 ^ 24 + (BitVec.ofNat 16 (entry.toNat / 2 ^ 32)).toNat)) g.payload g.senderWord (s.cycleOf g.region)
      exact ⟨_, exec_signalHandle_event hfind hfab hbehind hdecide hactive, htype, hreg, rfl⟩
    case refine_6 =>
      have hruns : r.st.runs = true := by rcases hst with h | h <;> rw [h] <;> rfl
      have hnot : r.st ≠ .fenced := by rcases hst with h | h <;> rw [h] <;> nofun
      have hdecide := State.sigDecide_token hvalid hnot htoken hend (find?_source hmem hdst honly) hruns hdrained hmarked (Nat.ne_of_gt hroom)
      obtain ⟨hsignals, henter⟩ := s.enter_unchanged d ⟨g.payload, BitVec.ofNat 4 (entry.toNat / 2 ^ 58)⟩
      exact ⟨_, exec_signalHandle_token hfind hfab hbehind hdecide, congrArg _ hsignals, henter, rfl⟩
  case jobs =>
    intro s k el id a b rest c size at_ hm hheld hjobs hfree hfaulted hcreating hclean
    have hexec := exec_eventRecordWrite_job hheld hjobs
    refine ⟨fun hfull hdestroying => ?_, fun hroom => ?_⟩
    case refine_1 => rw [hexec, State.putEvent_full hfree hfaulted hcreating (ringFull_iff.2 hfull) hdestroying]
    case refine_2 =>
      rw [State.putEvent_room hfree hfaulted hcreating (Bool.eq_false_iff.2 (mt ringFull_iff.1 hroom)) hclean] at hexec
      obtain ⟨houtside, hwords, hword⟩ := State.withEvent_mem hm k (s.jobRecord_length el a b)
      obtain ⟨htype, hreg, ha, hb, hel, hlo, hhi⟩ := s.jobRecord_words el a b
      obtain ⟨haccs, htasks, hregions⟩ := s.withEvent_kept k (s.jobRecord el a b)
      obtain ⟨haccs', htasks', hregions', hmem'⟩ := (s.withEvent k (s.jobRecord el a b)).jobDone_kept el id
      refine ⟨_, hexec, (State.elem_jobDone ..).trans (by rw [State.elem_withEvent]), (State.ctx_jobDone ..).trans (State.ctx_withEvent ..),
        haccs'.trans haccs, htasks'.trans htasks, hregions'.trans hregions, ?_⟩
      rw [hmem']
      refine ⟨houtside, ?_, ?_, ?_, ?_, ?_, ?_, ?_⟩
      · exact (congrArg (fun w => fldN w 24 8) hword).trans htype
      · exact (congrArg (fun w => fldN w 18 6) hword).trans hreg
      · exact (hwords 3 (by decide)).trans ha
      · exact (hwords 4 (by decide)).trans hb
      · exact (hwords 5 (by decide)).trans hel
      · exact (hwords 6 (by decide)).trans hlo
      · exact (hwords 7 (by decide)).trans hhi
  case held =>
    intro s k owner r rest c size at_ hm hheld hr hripe hfree hfaulted hcreating hroom
    have hexec := exec_eventRecordWrite_held hheld hripe
    have hroom' := Bool.eq_false_iff.2 (mt ringFull_iff.1 hroom)
    refine ⟨fun hclean => ?_, fun hbad hdestroying => ?_⟩
    case refine_1 =>
      rw [State.putEvent_room hfree hfaulted hcreating hroom' hclean] at hexec
      obtain ⟨houtside, hwords, -⟩ := State.withEvent_mem hm k hr
      obtain ⟨haccs, htasks, hregions⟩ := s.withEvent_kept k r
      obtain ⟨hctx, hmem, helems, hregions'⟩ := (s.withEvent k r).heldDone_unchanged k owner
      refine ⟨_, hexec, ?_, ?_, ?_, helems.trans (s.withEvent_elems k r), hregions'.trans hregions, fun t ht => ?_, fun hnone => ?_⟩
      · rw [hctx, State.ctx_withEvent, hheld]
        rfl
      · rw [hmem]; exact houtside
      · rw [hmem]; exact hwords
      · subst ht; exact State.task?_freeEntry ..
      · subst hnone; exact ⟨htasks, haccs⟩
    case refine_2 =>
      rw [State.putEvent_poisoned hfree hfaulted hcreating hroom' hbad hdestroying] at hexec
      have hst : c.st = .active ∨ c.st = .quiescing ∨ c.st = .suspended := by
        generalize c.st = st at hfree hfaulted hcreating hdestroying ⊢
        cases st with
        | active => exact .inl rfl
        | quiescing => exact .inr (.inl rfl)
        | suspended => exact .inr (.inr rfl)
        | free => exact absurd rfl hfree
        | creating => exact absurd rfl hcreating
        | faulted => exact absurd rfl hfaulted
        | destroying => exact absurd rfl hdestroying
      obtain ⟨hfault, hmem, helems⟩ := State.areaFault_faults hst [(c.eventAt, 32)]
      obtain ⟨hctx, hmem', helems', -⟩ := (s.areaFault k [(c.eventAt, 32)]).heldDone_unchanged k owner
      exact ⟨_, hexec, (congrArg Ctx.st hctx).trans hfault, hmem'.trans hmem, helems'.trans helems⟩
  case faults =>
    intro s k r rest t c size at_ hm hheld hr hclean
    have hexec := exec_faultRecordPost hheld hclean
    obtain ⟨hmem, hregions⟩ := s.collectFreezes_kept k
    refine ⟨fun hfull hdestroying => ?_, fun hroom => ?_⟩
    case refine_1 => exact hexec.trans (congrArg _ ((if_pos (ringFull_iff.2 hfull)).trans (if_neg hdestroying)))
    case refine_2 =>
      have hcycle : t.cycleOf = s.cycleOf := by funext reg; simp only [State.cycleOf, State.region, t, hregions]
      obtain ⟨hlen, hlow, h6, h7⟩ := t.stamped_words hr
      obtain ⟨houtside, hwords, -⟩ := State.withFault_mem (s := t) (hmem.symm ▸ hm) k hlen rest
      obtain ⟨helems, haccs, htasks⟩ := t.withFault_kept k (t.stamped r) rest
      refine ⟨_, hexec.trans (congrArg _ (if_neg (mt ringFull_iff.1 hroom))), helems, haccs, htasks, State.ctx_withFault .., ?_, fun j hj => ?_, ?_, ?_⟩
      · exact fun j hj => (houtside j hj).trans (congrArg (fun m => Memory.read m j) hmem)
      · exact (hwords j (by omega)).trans (hlow j hj)
      · rw [← hcycle]; exact (hwords 6 (by decide)).trans h6
      · rw [← hcycle]; exact (hwords 7 (by decide)).trans h7
  case records =>
    intro s el f va
    rw [State.elemRecord, faultRecord, Nat.zero_mul, Nat.zero_add]
    rfl

end Sys2Proof.Machine
end

section
/-! PROOFS. The obligation on a copy into a vector register: it states the exact values of the lanes for every format code, without
the bound of 5 that R247 puts on a PVLDA's; a reserved code takes the block scale in the model and none in the statement. -/

namespace Sys2Proof.Machine

/-- R195: one element of one byte to lane 0 of VA. -/
def laneShape : Shape :=
  { dims := [], perm := [], ssize := 0, dsize := 0, swin := 0, dwin := 0, tag := 0, scope := 0, redop := 0, conv := 0, dkind := 2
    stop := 0, ltag := false, dport := 0, soff := 0, doff := 0, pss := 0, pds := 0 }

/-- R200: the flight of that copy, at its only element. -/
def laneFlight : Flight := { id := 0, tmpl := 0, a := 0, b := 0, el := none }

/-- R200: the read of its element is done: its low nibble is 1.0 in E2M1. -/
def laneRead : Access := { id := 0, src := .copy 0 0, ctx := 0, task := 0, region := 0, opc := 0xC8, va := 0, size := 1, act := .read, st := .done 2 }

/-- R247: VA has the reserved format 6 and the block scale 0, and the engine of tile 0 has read the element. -/
def reservedState : State :=
  { copies := [(0, { tmpls := [(0, laneShape)], flights := [laneFlight] })]
    presses := [(0, { va := { fmt := 6 } })]
    accs := [laneRead] }

/-- The lanes of VA of tile 0 in the next state. -/
def lanesOfVa : Out → Table Dy
  | .next s => (s.press 0).va.lanes
  | _ => []

/-- R247: the lane is scaled by 0 and so is not listed. -/
theorem transfer_scales_reserved : lanesOfVa (exec (.copyTransfer 0 0) reservedState) = [] := by decide +kernel

/-- E2M1 code 2 is 1.0. -/
theorem laneFV_reserved : (laneFV 6 2 0).rat = 1 := by
  have hvalue : laneFV 6 2 0 = .fin false 2 (-1) := by decide +kernel
  rw [hvalue, FV.rat]
  norm_num

/-- Refutes O48: a vector of a reserved format gets its element times the block scale, where the statement has the element itself. -/
theorem not_copyEvents : ¬ Obligations.CopyEvents := by
  rintro ⟨htransfer, -⟩
  obtain ⟨-, hgoes⟩ := htransfer reservedState 0 0 laneFlight laneShape rfl rfl rfl
  obtain ⟨-, -, -, -, hvector, -⟩ := hgoes rfl (by decide +kernel) (by decide +kernel) (by decide +kernel) (by decide +kernel)
  obtain ⟨s', y, nf, hexec, -, hloads, hpress⟩ :=
    hvector (by decide +kernel) (by decide +kernel) (.inl rfl) (by decide +kernel) (by decide +kernel)
  obtain ⟨-, -, hlane, -⟩ := hloads
  have hva : (s'.press 0).va = y := congrArg Press.va hpress
  have hlanes : y.lanes = [] := by
    rw [← hva]
    exact (congrArg lanesOfVa hexec).symm.trans transfer_scales_reserved
  have hzero : y.lane 0 = 0 := by rw [PVec.lane, hlanes]; rfl
  have hone : y.lane 0 = (laneFV 6 2 0).rat * 1 := (hlane 0 (by decide)).trans ((if_pos (by decide +kernel)).trans
    (congrArg₂ (fun v unit => FV.rat v * unit) (by decide +kernel) (if_neg (by decide +kernel))))
  rw [hzero, laneFV_reserved] at hone
  exact absurd hone (by norm_num)

end Sys2Proof.Machine
end


-- ==== Proofs: what a Press command does in the round it fires (O42, R223, R228, R232, R233) ====
section
/-! PROOFS. A Press command is refused by its operands, aborts by its verdict, or is accepted (R223, R228): one lemma for each answer of
the shared operation, and one for all instructions whose command is made of their operands. -/

namespace Sys2Proof.Machine

/-! The element of an accepted command (R228, R232). -/

/-- R228, R232: `e'` is `e` after it has issued a command with operands `a` and `b`: the tokens it names are taken, and registers,
predicates, counters, SG and statistics are as before. -/
def Elem.Issues (e e' : Elem) (a b : Option (BitVec 5)) : Prop :=
  e'.d = e.d ∧ e'.p = e.p ∧ e'.l = e.l ∧ e'.sg = e.sg ∧ e'.stats = e.stats ∧ e'.life = e.life ∧ e'.nextId = e.nextId + 1
  ∧ ∀ k, k < 8 → (e'.ports.inAt k).buf =
      if a = some (BitVec.ofNat 5 (8 + k)) ∨ b = some (BitVec.ofNat 5 (8 + k)) then (e.ports.inAt k).buf.tail else (e.ports.inAt k).buf

/-- R228: a command that delivers nothing leaves nothing pending in its element. -/
def Elem.issueSilent (e : Elem) (rule : Nat) (a b : Option (BitVec 5)) : Elem :=
  { (e.fireTakes rule (takes a b)).puts (e.everyCo rule) with nextId := e.nextId + 1 }

theorem Elem.issues_issueSilent (e : Elem) (rule : Nat) (a b : Option (BitVec 5)) : e.Issues (e.issueSilent rule a b) a b := by
  obtain ⟨hd, hp, hl, hsg, -, hins, -⟩ := puts_co (boundCo_allCo e rule false) (e.fireTakes rule (takes a b))
  refine ⟨hd.trans (by simp), hp.trans (by simp), hl.trans (by simp), hsg.trans (by simp), by simp [Elem.issueSilent],
    by simp [Elem.issueSilent], rfl, fun k hk => ?_⟩
  have hports : (e.issueSilent rule a b).ports.ins = ((takes a b).foldl Ports.take e.ports).ins :=
    hins.trans (e.fireTakes_ins rule (takes a b))
  rw [Ports.inAt_congr hports, takes_buf e.ports a b k hk]

theorem Elem.issueSilent_pend (e : Elem) (rule : Nat) (a b : Option (BitVec 5)) : (e.issueSilent rule a b).pend = e.pend := by
  simp [Elem.issueSilent]

theorem Elem.issues_issuePort (e : Elem) (rule : Nat) (q : Req) (l : List Put) (job : Job) (port : Bool) :
    e.Issues (e.issuePort rule q l job port) q.a q.b := by
  obtain ⟨-, -, hl, hsg, -⟩ := puts_co (boundCo_allCo e rule false) (e.paid rule q l)
  obtain ⟨hd, hp⟩ := e.issuePort_regs rule q l job port
  refine ⟨hd, hp, ?counters, ?sg, by simp, by simp, ?name, fun k hk => e.issuePort_inAt_buf rule q l job port hk⟩
  case counters => rw [Elem.issuePort_eq, Elem.suspend_l]; exact hl.trans (by simp)
  case sg => rw [Elem.issuePort_eq, Elem.suspend_sg]; exact hsg.trans (by simp)
  case name => rw [Elem.issuePort_eq, Elem.suspend_nextId]; simp

/-! The answers of the shared operation (R223, R228). -/

/-- R251: the word of the token that PSYNC sends; what other commands deliver they bring with their performance. -/
def PCmd.sent : PCmd → Word
  | .psync v => v
  | _ => 0

/-- R246: the Press that has accepted a command; only PDENSE has 10 rounds left, and it alone stops the grants. -/
theorem Press.accept_eq (p : Press) (c : PCmd) (el name k : Nat) :
    p.accept ⟨c, el, name, c.lat - 1⟩ k = { p with
      queue := p.queue ++ [⟨c, el, name, c.lat - 1⟩], rr := k, held := if c.lat - 1 = 10 then 4 else p.held } := by
  cases c <;> rfl

/-- R228: the element of an accepted command, by whether the command delivers. -/
def Elem.issuePress (e : Elem) (rule : Nat) (d : BitVec 5) (tag : Tag) (a b : Option (BitVec 5)) (p : Press) (c : PCmd) : Elem :=
  if (deliver d tag c.sent).isEmpty then e.issueSilent rule a b
  else e.issuePort rule (rq d a b 0 0 1) (deliver d tag c.sent) (pressJob p c) false

/-- R228, R249: a command with room for its result and in the result buffer is not withdrawn. -/
theorem not_withdrawn_of_room {e : Elem} {p : Press} {c : PCmd} {l : List Put} (hroom : e.roomFor l = true) (hread : p.readRoom c = true) :
    ¬ ((!e.roomFor l) = true ∨ (!p.readRoom c) = true) := by
  simp [hroom, hread]

section Form
variable {s : State} {el rule : Nat} {d : BitVec 5} {tag : Tag} {a b : Option (BitVec 5)} {mk : In → Except Byte PCmd} {x : In}
  (harmed : s.armed el rule (rq d a b 0 0 1) x)
include harmed

theorem State.pressForm_refuses {code : Byte} (hmk : mk x = .error code) :
    s.pressForm d tag a b mk = .next (s.abortWith el rule code x) := by
  obtain ⟨hcur, hin⟩ := harmed
  have hin' : (s.elem el).input { d := d, a := a, b := b } = some x := hin
  simp only [State.pressForm, hcur, State.pressElem, hin', hmk]

variable {c : PCmd} (hmk : mk x = .ok c) (hroom : (s.elem el).roomFor (deliver d tag c.sent ++ (s.elem el).everyCo rule) = true)
  (hread : (s.press (tileOfElem el)).readRoom c = true)
include hmk hroom hread

theorem State.pressForm_aborts {code : Byte} (hcode : (s.press (tileOfElem el)).future.verdict c = some code) :
    s.pressForm d tag a b mk = .next (s.abortWith el rule code x) := by
  obtain ⟨hcur, hin⟩ := harmed
  have hin' : (s.elem el).input { d := d, a := a, b := b } = some x := hin
  simp only [State.pressForm, hcur, State.pressElem, hin', hmk, hcode]
  exact congrArg Host.Outcome.next (if_neg (not_withdrawn_of_room hroom hread))

theorem State.pressForm_accepts (hpass : (s.press (tileOfElem el)).future.verdict c = none) :
    s.pressForm d tag a b mk = .next ((s.setElem el ((s.elem el).issuePress rule d tag a b (s.press (tileOfElem el)) c)).setPress
      (tileOfElem el) ((s.press (tileOfElem el)).accept ⟨c, el, (s.elem el).nextId, c.lat - 1⟩ (el % 16))) := by
  obtain ⟨hcur, hin⟩ := harmed
  have hin' : (s.elem el).input { d := d, a := a, b := b } = some x := hin
  simp only [State.pressForm, hcur, State.pressElem, hin', hmk, hpass]
  exact congrArg Host.Outcome.next (if_neg (not_withdrawn_of_room hroom hread))

end Form

/-! From the shared operation to the statement on an instruction. -/

theorem deliver_isEmpty (d : BitVec 5) (t : Tag) (v : Word) : (deliver d t v).isEmpty = decide (24 ≤ d.toNat) := by
  obtain ⟨j, hd, h⟩ | ⟨j, hd, h⟩ | ⟨j, hd, h⟩ | ⟨hd, h⟩ := deliver_cases d t v <;> rw [h] <;> simp <;> omega

theorem Elem.issuePress_of_silent (e : Elem) (rule : Nat) (tag : Tag) (a b : Option (BitVec 5)) (p : Press) (c : PCmd) :
    e.issuePress rule 24 tag a b p c = e.issueSilent rule a b := if_pos (deliver_isEmpty 24 tag c.sent)

theorem Elem.issuePress_of_delivers (e : Elem) (rule : Nat) {d : BitVec 5} (hd : d.toNat < 24) (tag : Tag) (a b : Option (BitVec 5))
    (p : Press) (c : PCmd) : e.issuePress rule d tag a b p c =
      e.issuePort rule (rq d a b 0 0 1) (deliver d tag c.sent) (pressJob p c) false :=
  if_neg (by rw [deliver_isEmpty, decide_eq_true_eq]; omega)

theorem Elem.issues_issuePress (e : Elem) (rule : Nat) (d : BitVec 5) (tag : Tag) (a b : Option (BitVec 5)) (p : Press) (c : PCmd) :
    e.Issues (e.issuePress rule d tag a b p c) a b := by
  unfold Elem.issuePress
  split
  · exact e.issues_issueSilent rule a b
  · exact e.issues_issuePort rule (rq d a b 0 0 1) _ _ _

/-- An instruction whose command is made of its operands, where they are of a kind it takes. -/
theorem pressAccepts_of_form {i : Instr} {d : BitVec 5} {a b : Option (BitVec 5)} {tag : Tag} {tok : In → Word} {takes : In → Bool}
    {cmd : In → PCmd} {left : Nat} {job : Option (Press → Job)} {mk : In → Except Byte PCmd}
    (hexec : ∀ s, exec i s = s.pressForm d tag a b mk) (hmk : ∀ x, mk x = if takes x then .ok (cmd x) else .error cSumIndex)
    (hsent : ∀ x, (cmd x).sent = tok x) (hleft : ∀ x, (cmd x).lat - 1 = left) (hsilent : job = none → d = 24)
    (hjob : ∀ j, job = some j → d.toNat < 24 ∧ ∀ p x, pressJob p (cmd x) = j p) :
    PressAccepts i d a b tag tok takes cmd left job := by
  intro s el rule x
  dsimp only
  rw [hexec s, ← hsent x]
  refine fun harmed => ⟨fun hno => State.pressForm_refuses harmed (by rw [hmk x, hno]; rfl), fun hyes hroom hread => ?_⟩
  have hcmd : mk x = .ok (cmd x) := (hmk x).trans (if_pos hyes)
  refine ⟨fun code hcode => State.pressForm_aborts harmed hcmd hroom hread hcode, fun hpass => ?_⟩
  have haccepts := State.pressForm_accepts harmed hcmd hroom hread hpass
  rw [Press.accept_eq, hleft x] at haccepts
  obtain ⟨hd, hp, hl, hsg, hstats, hlife, hname, hbuf⟩ :=
    (s.elem el).issues_issuePress rule d tag a b (s.press (tileOfElem el)) (cmd x)
  refine ⟨_, haccepts, hd, hp, hl, hsg, hstats, hlife, hname, hbuf, fun hnone => ?silent, fun j hj => ?pending⟩
  case silent => rw [hsilent hnone, Elem.issuePress_of_silent, Elem.issueSilent_pend]
  case pending =>
    obtain ⟨hlt, hpress⟩ := hjob j hj
    rw [Elem.issuePress_of_delivers _ _ hlt]
    exact ⟨_, Elem.issuePort_pend .., rfl, hpress _ x, rfl, rfl⟩

/-- R228: a command without a result, of 8 rounds. -/
theorem pressAccepts_of_silent {i : Instr} {a b : Option (BitVec 5)} {cmd : In → PCmd}
    (hexec : ∀ s, exec i s = s.pressForm 24 0 a b (fun x => .ok (cmd x))) (hsent : ∀ x, (cmd x).sent = 0)
    (hlat : ∀ x, (cmd x).lat = 8) : PressAccepts i 24 a b 0 (fun _ => 0) (fun _ => true) cmd 7 none :=
  pressAccepts_of_form hexec (fun _ => rfl) hsent (fun x => by rw [hlat x]) (fun _ => rfl) nofun

/-- R228: a command whose element waits for its result. -/
theorem pressAccepts_of_result {i : Instr} {d : BitVec 5} {a b : Option (BitVec 5)} {tag : Tag} {tok : In → Word} {cmd : In → PCmd}
    {job : Press → Job} (hd : d.toNat < 16) (hexec : ∀ s, exec i s = s.pressForm d tag a b (fun x => .ok (cmd x)))
    (hsent : ∀ x, (cmd x).sent = tok x) (hlat : ∀ x, (cmd x).lat = 8) (hjob : ∀ p x, pressJob p (cmd x) = job p) :
    PressAccepts i d a b tag tok (fun _ => true) cmd 7 (some job) :=
  pressAccepts_of_form hexec (fun _ => rfl) hsent (fun x => by rw [hlat x]) nofun fun _ hj => ⟨by omega, Option.some.inj hj ▸ hjob⟩

/-- Settles O42: each instruction is the shared operation with its own command; PSEG alone refuses operands, PDENSE alone takes 11
rounds, and SUMRD, PSTAT and PSYNC alone deliver. -/
theorem pressCommands : Obligations.PressCommands := by
  refine ⟨fun a k => ?_, fun a b => ?_, fun a b n => ?_, fun a b => ?_, fun d b t hd => ?sumrd, ?_, fun a => ?_, fun a b => ?_, fun a r => ?_,
    fun r l => ?_, fun a r => ?pseg, fun a b r => ?pdense, fun a b f => ?_, fun a b f => ?_, fun a b g => ?_, fun a b r f => ?_,
    fun d a hd => ?pstat, fun d a _ hd => ?psync⟩
  case pseg | pdense =>
    exact pressAccepts_of_form (fun _ => rfl) (fun _ => rfl) (fun _ => rfl) (fun _ => rfl) (fun _ => rfl) nofun
  case sumrd | pstat | psync => exact pressAccepts_of_result hd (fun _ => rfl) (fun _ => rfl) (fun _ => rfl) fun _ _ => rfl
  all_goals exact pressAccepts_of_silent (fun _ => rfl) (fun _ => rfl) fun _ => rfl

end Sys2Proof.Machine
end


-- ==== Proofs: the Rennet step (O41, R213, R214, R234 to R236) ====
section
/-! PROOFS. The fields of SG written and read back, the segment token of a pending run, and the three answers of one step (R234, R235):
the run grows, is closed by a new one, or begins. SEGSTEP and SEGEND are the shared rule operation with these answers. -/

namespace Sys2Proof.Machine

/-! The fields of SG (R234). -/

/-- R234: bits of SG as a number, and a byte of it as a signed one. -/
def sgField (g : BitVec 64) (lo n : Nat) : Nat := g.toNat / 2 ^ lo % 2 ^ n
def sgByte (g : BitVec 64) (lo : Nat) : Int := (BitVec.ofNat 8 (sgField g lo 8)).toInt

theorem sgField_pos (g : BitVec 64) : sgField g 48 16 = sgPos g := Nat.mod_eq_of_lt (by have := g.isLt; omega)

theorem sgPos_lt (g : BitVec 64) : sgPos g < 2 ^ 16 := by
  have := g.isLt
  unfold sgPos
  omega

theorem sgStart_lt (g : BitVec 64) : sgStart g < 2 ^ 16 := Nat.mod_lt _ (by decide)

theorem sgByte_eq (g : BitVec 64) (lo : Nat) : sgByte g lo = (BitVec.ofNat 8 (g.toNat / 2 ^ lo)).toInt := by
  have hmod : BitVec.ofNat 8 (sgField g lo 8) = BitVec.ofNat 8 (g.toNat / 2 ^ lo) := by
    apply BitVec.eq_of_toNat_eq
    simp [sgField]
  rw [sgByte, hmod]

theorem sgByte_min (g : BitVec 64) : sgByte g 24 = sgMin g := sgByte_eq g 24
theorem sgByte_max (g : BitVec 64) : sgByte g 16 = sgMax g := sgByte_eq g 16

/-- R213: an activation value. -/
def IsI8 (v : Int) : Prop := -128 ≤ v ∧ v < 128

theorem isI8_toInt (b : BitVec 8) : IsI8 b.toInt := ⟨BitVec.le_toInt b, BitVec.toInt_lt⟩

theorem toInt_ofInt_of_isI8 {v : Int} (h : IsI8 v) : (BitVec.ofInt 8 v).toInt = v :=
  BitVec.toInt_ofInt_eq_self (by decide) h.1 h.2

theorem IsI8.min {u v : Int} (hu : IsI8 u) (hv : IsI8 v) : IsI8 (min u v) := by unfold IsI8 at *; omega
theorem IsI8.max {u v : Int} (hu : IsI8 u) (hv : IsI8 v) : IsI8 (max u v) := by unfold IsI8 at *; omega

/-! SG with a run pending. -/

section Run
variable (pos start : Nat) (lo hi : Int)

theorem sgMk_toNat : (sgMk pos start lo hi).toNat = pos % 2 ^ 16 * 2 ^ 48 + start % 2 ^ 16 * 2 ^ 32
    + (BitVec.ofInt 8 lo).toNat * 2 ^ 24 + (BitVec.ofInt 8 hi).toNat * 2 ^ 16 + 1 := by
  have hlo := (BitVec.ofInt 8 lo).isLt
  have hhi := (BitVec.ofInt 8 hi).isLt
  rw [sgMk, BitVec.toNat_ofNat]
  omega

theorem sgPos_sgMk : sgPos (sgMk pos start lo hi) = pos % 2 ^ 16 := by
  have hlo := (BitVec.ofInt 8 lo).isLt
  have hhi := (BitVec.ofInt 8 hi).isLt
  rw [sgPos, sgMk_toNat]
  omega

theorem sgStart_sgMk : sgStart (sgMk pos start lo hi) = start % 2 ^ 16 := by
  have hlo := (BitVec.ofInt 8 lo).isLt
  have hhi := (BitVec.ofInt 8 hi).isLt
  rw [sgStart, sgMk_toNat]
  omega

theorem sgMk_reserved : sgField (sgMk pos start lo hi) 1 15 = 0 := by
  rw [sgField, sgMk_toNat]
  omega

theorem sgMk_run : (sgMk pos start lo hi).getLsbD 0 = true := by
  rw [BitVec.getLsbD, sgMk_toNat, Nat.testBit_zero, decide_eq_true_eq]
  omega

variable {lo hi}

theorem sgMin_sgMk (h : IsI8 lo) : sgMin (sgMk pos start lo hi) = lo := by
  have hbyte : BitVec.ofNat 8 ((sgMk pos start lo hi).toNat / 2 ^ 24) = BitVec.ofInt 8 lo := by
    have hlo := (BitVec.ofInt 8 lo).isLt
    have hhi := (BitVec.ofInt 8 hi).isLt
    apply BitVec.eq_of_toNat_eq
    rw [BitVec.toNat_ofNat, sgMk_toNat]
    omega
  rw [sgMin, hbyte, toInt_ofInt_of_isI8 h]

theorem sgMax_sgMk (h : IsI8 hi) : sgMax (sgMk pos start lo hi) = hi := by
  have hbyte : BitVec.ofNat 8 ((sgMk pos start lo hi).toNat / 2 ^ 16) = BitVec.ofInt 8 hi := by
    have hhi := (BitVec.ofInt 8 hi).isLt
    apply BitVec.eq_of_toNat_eq
    rw [BitVec.toNat_ofNat, sgMk_toNat]
    omega
  rw [sgMax, hbyte, toInt_ofInt_of_isI8 h]

end Run

/-! The segment token (R213, R234). -/

/-- R213, R234: the rows of the pending run, from its first to POS. -/
def sgRows (g : BitVec 64) : Nat := (sgPos g + 2 ^ 16 - sgStart g) % 2 ^ 16

theorem segOk_iff {g : BitVec 64} : SegOk g ↔ (g.getLsbD 0 = true → 1 ≤ sgRows g ∧ sgStart g % 64 + sgRows g ≤ 64) := Iff.rfl

/-- R213: `w` is the segment of the pending run of `g`: its first row, the middle of its extremes, and its rows less one, in one band. -/
def IsSegment (g : BitVec 64) (w : Word) : Prop :=
  fldN w 8 16 = sgField g 32 16 ∧ (fld w 24 8 : BitVec 8).toInt = (sgByte g 24 + sgByte g 16 + 1) / 2 ∧ fldN w 6 2 = 0
  ∧ (SegOk g → fldN w 0 6 + 1 = (sgField g 48 16 + 2 ^ 16 - sgField g 32 16) % 2 ^ 16 ∧ fldN w 8 16 % 64 + fldN w 0 6 + 1 ≤ 64)

theorem segOf_toNat (g : BitVec 64) : (segOf g).toNat = (BitVec.ofInt 8 ((sgMin g + sgMax g + 1) / 2)).toNat * 2 ^ 24
    + sgStart g * 2 ^ 8 + (sgRows g + 2 ^ 16 - 1) % 2 ^ 16 % 64 := by
  have hstart := sgStart_lt g
  have hmid := (BitVec.ofInt 8 ((sgMin g + sgMax g + 1) / 2)).isLt
  exact Word.toNat_ofNat_of_lt (by omega)

theorem isSegment_segOf {g : BitVec 64} (hrun : g.getLsbD 0 = true) : IsSegment g (segOf g) := by
  have hw := segOf_toNat g
  have hstart := sgStart_lt g
  have hmid := (BitVec.ofInt 8 ((sgMin g + sgMax g + 1) / 2)).isLt
  have hfirst : fldN (segOf g) 8 16 = sgStart g := by rw [fldN, hw]; omega
  have hrows : fldN (segOf g) 0 6 = (sgRows g + 2 ^ 16 - 1) % 2 ^ 16 % 64 := by rw [fldN, hw]; omega
  refine ⟨hfirst, ?middle, by rw [fldN, hw]; omega, fun hok => ?rows⟩
  case middle =>
    obtain ⟨hmin, hmin'⟩ := isI8_toInt (BitVec.ofNat 8 (g.toNat / 2 ^ 24))
    obtain ⟨hmax, hmax'⟩ := isI8_toInt (BitVec.ofNat 8 (g.toNat / 2 ^ 16))
    have hbyte : (fld (segOf g) 24 8 : BitVec 8) = BitVec.ofInt 8 ((sgMin g + sgMax g + 1) / 2) := by
      apply BitVec.eq_of_toNat_eq
      rw [fld_toNat, fldN, hw]
      omega
    rw [hbyte, sgByte_min, sgByte_max]
    exact toInt_ofInt_of_isI8 (by unfold IsI8 sgMin sgMax; omega)
  case rows =>
    obtain ⟨hone, hband⟩ := segOk_iff.1 hok hrun
    rw [hfirst, hrows, sgField_pos]
    have hlen : (sgPos g + 2 ^ 16 - sgField g 32 16) % 2 ^ 16 = sgRows g := rfl
    rw [hlen]
    omega

/-! One step (R235). -/

/-- R235: the run grows: its span stays within twice the tolerance, and POS is not at a band's first row. -/
def Grows (g : BitVec 64) (v : Int) (tau : Nat) : Prop :=
  g.getLsbD 0 = true ∧ max (sgByte g 16) v - min (sgByte g 24) v ≤ 2 * tau ∧ sgField g 48 16 % 64 ≠ 0

theorem rennet_of_grows {g : BitVec 64} {v : Int} {tau : Nat} (h : Grows g v tau) :
    rennet g v tau = (sgMk (sgPos g + 1) (sgStart g) (min (sgMin g) v) (max (sgMax g) v), none) := by
  obtain ⟨hrun, hspan, hpos⟩ := h
  rw [sgByte_min, sgByte_max] at hspan
  rw [sgField_pos] at hpos
  exact (if_pos hrun).trans (if_pos ⟨hspan, hpos⟩)

theorem rennet_of_not_grows {g : BitVec 64} {v : Int} {tau : Nat} (h : ¬ Grows g v tau) :
    rennet g v tau = (sgMk (sgPos g + 1) (sgPos g) v v, if g.getLsbD 0 then some (segOf g) else none) := by
  rw [Grows, sgByte_min, sgByte_max, sgField_pos] at h
  cases hrun : g.getLsbD 0 with
  | false => exact if_neg (by rw [sgRun, hrun]; exact Bool.false_ne_true)
  | true => exact (if_pos hrun).trans (if_neg fun hgrow => h ⟨hrun, hgrow⟩)

/-- R213, R235: a run that grows stays in its band, for it had not filled it. -/
theorem segOk_grows {g : BitVec 64} (hrun : g.getLsbD 0 = true) (hpos : sgPos g % 64 ≠ 0) (hok : SegOk g) (lo hi : Int) :
    SegOk (sgMk (sgPos g + 1) (sgStart g) lo hi) := by
  obtain ⟨hone, hband⟩ := segOk_iff.1 hok hrun
  have hlt := sgPos_lt g
  have hstart := sgStart_lt g
  refine segOk_iff.2 fun _ => ?_
  rw [sgRows] at hone hband ⊢
  rw [sgPos_sgMk, sgStart_sgMk]
  omega

/-- R235: a new run has one row. -/
theorem segOk_begins (pos : Nat) (lo hi : Int) : SegOk (sgMk (pos + 1) pos lo hi) := by
  refine segOk_iff.2 fun _ => ?_
  rw [sgRows, sgPos_sgMk, sgStart_sgMk]
  omega

/-- R234, R235: `g'` and the tokens `toks` of tag `t` are what a step with activation `v` and tolerance `tau` makes of `g`. -/
def Stepped (g g' : BitVec 64) (v : Int) (tau : Nat) (t : Tag) (toks : List Token) : Prop :=
  sgField g' 48 16 = (sgField g 48 16 + 1) % 2 ^ 16 ∧ g'.getLsbD 0 = true ∧ sgField g' 1 15 = 0
  ∧ (Grows g v tau → toks = [] ∧ sgField g' 32 16 = sgField g 32 16 ∧ sgByte g' 24 = min (sgByte g 24) v
      ∧ sgByte g' 16 = max (sgByte g 16) v)
  ∧ (¬ Grows g v tau → sgField g' 32 16 = sgField g 48 16 ∧ sgByte g' 24 = v ∧ sgByte g' 16 = v
      ∧ (g.getLsbD 0 = true → ∃ w, IsSegment g w ∧ toks = [⟨w, t⟩]) ∧ (g.getLsbD 0 = false → toks = []))
  ∧ (SegOk g → SegOk g')

/-- The tokens of a step that emits a segment or none. -/
def segTokens (t : Tag) (w : Option Word) : List Token := (w.map (fun w => ⟨w, t⟩)).toList

theorem rennet_stepped (g : BitVec 64) {v : Int} (hv : IsI8 v) (tau : Nat) (t : Tag) :
    Stepped g (rennet g v tau).1 v tau t (segTokens t (rennet g v tau).2) := by
  have hlt := sgPos_lt g
  have hstart := sgStart_lt g
  by_cases h : Grows g v tau
  · rw [rennet_of_grows h]
    have hmin : IsI8 (min (sgMin g) v) := (isI8_toInt _).min hv
    have hmax : IsI8 (max (sgMax g) v) := (isI8_toInt _).max hv
    refine ⟨?_, sgMk_run .., sgMk_reserved .., fun _ => ⟨rfl, ?_, ?_, ?_⟩, fun hno => absurd h hno, fun hok => ?_⟩
    · rw [sgField_pos, sgField_pos, sgPos_sgMk]
    · exact (sgStart_sgMk ..).trans (Nat.mod_eq_of_lt hstart)
    · rw [sgByte_min, sgByte_min, sgMin_sgMk _ _ hmin]
    · rw [sgByte_max, sgByte_max, sgMax_sgMk _ _ hmax]
    · obtain ⟨hrun, -, hpos⟩ := h
      exact segOk_grows hrun (sgField_pos g ▸ hpos) hok _ _
  · rw [rennet_of_not_grows h]
    refine ⟨?_, sgMk_run .., sgMk_reserved .., fun hyes => absurd hyes h, fun _ => ⟨?_, ?_, ?_, fun hrun => ?_, fun hno => ?_⟩,
      fun _ => segOk_begins (sgPos g) v v⟩
    · rw [sgField_pos, sgField_pos, sgPos_sgMk]
    · rw [sgField_pos]
      exact (sgStart_sgMk ..).trans (Nat.mod_eq_of_lt hlt)
    · rw [sgByte_min, sgMin_sgMk _ _ hv]
    · rw [sgByte_max, sgMax_sgMk _ _ hv]
    · exact ⟨segOf g, isSegment_segOf hrun, by rw [if_pos hrun]; rfl⟩
    · rw [hno]; rfl

/-! SEGSTEP and SEGEND (R235, R236). -/

/-- R235, R236: tokens that a step sends to the output end that D names. -/
def sendTo (d : BitVec 5) (toks : List Token) : List Put := if toks = [] then [] else [.out (BitVec.ofNat 3 (d.toNat - 8)) toks]

theorem sendTo_eq (d : BitVec 5) (toks : List Token) :
    sendTo d toks = if toks.isEmpty then [] else [.out (BitVec.ofNat 3 (d.toNat - 8)) toks] := by
  cases toks <;> rfl

/-- R135: the output end of a D code, however its number is counted. -/
theorem outEnd_of_code {d : BitVec 5} (hlo : 8 ≤ d.toNat) : BitVec.ofNat 3 (d.toNat + 24) = BitVec.ofNat 3 (d.toNat - 8) := by
  apply BitVec.eq_of_toNat_eq
  rw [BitVec.toNat_ofNat, BitVec.toNat_ofNat]
  omega

theorem Ports.outAt_of_mod {p : Ports} {j k : Nat} (h : j % 8 = k % 8) : p.outAt j = p.outAt k := by simp only [Ports.outAt, h]

/-- R235: what SEGSTEP computes. -/
def segstepRes (d : BitVec 5) (k : BitVec 3) (t : BitVec 1) (x : In) : Res :=
  if isData x.a then
    let r := rennet x.sg (fld x.a.data 0 8 : BitVec 8).toInt (x.c[k.toNat]).toNat
    .done (.sg r.1 :: sendTo d (segTokens (t.setWidth 4) r.2)) false {}
  else .abort 0x02

/-- R236: what SEGEND computes: the segment of the run, if any, and behind it the stop that it takes. -/
def segendToks (a : BitVec 5) (t : BitVec 1) (g : BitVec 64) (stop : Token) : List Token :=
  (if g.getLsbD 0 then [⟨segOf g, t.setWidth 4⟩] else []) ++ (if a.toNat < 16 then [stop] else [])
def segendRes (d a : BitVec 5) (k : BitVec 3) (f : BitVec 2) (t : BitVec 1) (x : In) : Res :=
  if isStop x.a then .done (.sg 2 :: sendTo d (segendToks a t x.sg x.a) ++ update k f false) false {} else .abort 0x02

section Form
variable {s : State} {el rule : Nat} {d a : BitVec 5} (hcur : s.cur = .rule el rule) (hlo : 8 ≤ d.toNat)
include hcur hlo

/-- With an entry free on its output, SEGSTEP is the shared rule operation. -/
theorem exec_segstep (k : BitVec 3) (t : BitVec 1) (hroom : 1 ≤ ((s.elem el).ports.outAt (d.toNat - 8)).room) :
    exec (.segstep d a k t) s = .next (s.genElem el rule (rq d (some a) none 0 0 1) (segstepRes d k t)) := by
  have hexec : exec (.segstep d a k t) s = execSegstep d a k t s := rfl
  have hfree : ¬ ((s.elem el).ports.outAt (d.toNat + 24)).room < 1 := by
    rw [Ports.outAt_of_mod (by omega : (d.toNat + 24) % 8 = (d.toNat - 8) % 8)]
    omega
  rw [hexec]
  simp only [execSegstep, hcur, if_neg hfree]
  refine congrArg (fun f => Host.Outcome.next (s.genElem el rule _ f)) (funext fun x => ?_)
  rw [segstepRes, outEnd_of_code hlo]
  cases isData x.a with
  | false => rfl
  | true =>
    rcases rennet x.sg (fld x.a.data 0 8 : BitVec 8).toInt (x.c[k.toNat]).toNat with ⟨g, _ | w⟩ <;> rfl

/-- With the entries free that it may need, SEGEND is the shared rule operation. -/
theorem exec_segend (k : BitVec 3) {f : BitVec 2} (hf : f ≠ 3) (t : BitVec 1)
    (hroom : (if a.toNat < 16 then 2 else 1) ≤ ((s.elem el).ports.outAt (d.toNat - 8)).room) :
    exec (.segend d a k f t) s = .next (s.genElem el rule (rq d (some a) none 0 0 1) (segendRes d a k f t)) := by
  have hexec : exec (.segend d a k f t) s = execSegend d a k f t s := rfl
  have hfree : ¬ ((s.elem el).ports.outAt (BitVec.ofNat 3 (d.toNat + 24)).toNat).room < if decide (a.toNat < 16) then 2 else 1 := by
    rw [BitVec.toNat_ofNat, Ports.outAt_of_mod (by omega : (d.toNat + 24) % 2 ^ 3 % 8 = (d.toNat - 8) % 8)]
    simpa using hroom
  rw [hexec]
  simp only [execSegend, hcur, if_neg hfree, if_neg hf]
  refine congrArg (fun f => Host.Outcome.next (s.genElem el rule _ f)) (funext fun x => ?_)
  rw [segendRes, outEnd_of_code hlo]
  cases isStop x.a with
  | false => rfl
  | true =>
    rw [sendTo_eq, segendToks]
    simp only [decide_eq_true_eq]
    rfl

end Form

/-- R234: what the operands of a rule give of SG and of the constants. -/
theorem Elem.input_sg_c {e : Elem} {q : Req} {x : In} (h : e.input q = some x) : x.sg = e.sg ∧ x.c = e.c := by
  unfold Elem.input at h
  split at h
  · cases h
    exact ⟨rfl, rfl⟩
  · cases h

section Step
variable {s : State} {el rule : Nat} {x : In} {d a : BitVec 5} (harmed : s.armed el rule (rq d (some a) none 0 0 1) x)
  (hlo : 8 ≤ d.toNat)
include harmed hlo

theorem exec_segstep_aborts (k : BitVec 3) (t : BitVec 1) (hroom : 1 ≤ ((s.elem el).ports.outAt (d.toNat - 8)).room)
    (hdata : x.a.tag ≠ Tag.data) (hlast : x.a.tag ≠ Tag.last) :
    exec (.segstep d a k t) s = .next (s.abortWith el rule 0x02 x) := by
  obtain ⟨hcur, hin⟩ := harmed
  rw [exec_segstep hcur hlo k t hroom]
  exact congrArg Host.Outcome.next (State.genElem_aborts hin (if_neg fun h => (isData_iff.1 h).elim hdata hlast))

theorem exec_segstep_fires (k : BitVec 3) (t : BitVec 1) (hroom : 1 ≤ ((s.elem el).ports.outAt (d.toNat - 8)).room)
    (htag : x.a.tag = Tag.data ∨ x.a.tag = Tag.last) :
    let r := rennet (s.elem el).sg (fld x.a.data 0 8 : BitVec 8).toInt ((s.elem el).c[k.toNat]).toNat
    let puts := .sg r.1 :: sendTo d (segTokens (t.setWidth 4) r.2)
    s.hasRoom el rule (rq d (some a) none 0 0 1) puts false →
      exec (.segstep d a k t) s = .next (s.fired el rule (rq d (some a) none 0 0 1) puts false {}) := by
  obtain ⟨hcur, hin⟩ := harmed
  obtain ⟨hsg, hc⟩ := Elem.input_sg_c hin
  intro r puts hputs
  rw [exec_segstep hcur hlo k t hroom]
  refine congrArg Host.Outcome.next (State.genElem_fires hin ?_ hputs)
  simp only [segstepRes, if_pos (isData_iff.2 htag), hsg, hc]
  rfl

variable (k : BitVec 3) {f : BitVec 2} (hf : f ≠ 3) (t : BitVec 1)
  (hroom : (if a.toNat < 16 then 2 else 1) ≤ ((s.elem el).ports.outAt (d.toNat - 8)).room)
include hf hroom

theorem exec_segend_aborts (htag : x.a.tag.toNat < 2 ∨ 5 < x.a.tag.toNat) :
    exec (.segend d a k f t) s = .next (s.abortWith el rule 0x02 x) := by
  obtain ⟨hcur, hin⟩ := harmed
  have hstop : ¬ isStop x.a = true := by
    rw [isStop, decide_eq_true_eq]
    omega
  rw [exec_segend hcur hlo k hf t hroom]
  exact congrArg Host.Outcome.next (State.genElem_aborts hin (if_neg hstop))

theorem exec_segend_fires (htag : 2 ≤ x.a.tag.toNat) (htag' : x.a.tag.toNat ≤ 5) :
    let puts := .sg 2 :: sendTo d (segendToks a t (s.elem el).sg x.a) ++ update k f false
    s.hasRoom el rule (rq d (some a) none 0 0 1) puts false →
      exec (.segend d a k f t) s = .next (s.fired el rule (rq d (some a) none 0 0 1) puts false {}) := by
  obtain ⟨hcur, hin⟩ := harmed
  obtain ⟨hsg, -⟩ := Elem.input_sg_c hin
  intro puts hputs
  rw [exec_segend hcur hlo k hf t hroom]
  refine congrArg Host.Outcome.next (State.genElem_fires hin ?_ hputs)
  have hstop : isStop x.a = true := decide_eq_true ⟨htag, htag'⟩
  rw [segendRes, if_pos hstop, hsg]

end Step

/-- R236: FP sets or clears p(K); 3 stands for neither. -/
theorem update_of_fp (k : BitVec 3) {f : BitVec 2} (hf : f ≠ 3) :
    update k f false = if f = 1 then [Put.p k true] else if f = 2 then [Put.p k false] else [] := by
  have hcases : f = 0 ∨ f = 1 ∨ f = 2 ∨ f = 3 := by revert f; decide
  obtain rfl | rfl | rfl | rfl := hcases
  · rfl
  · rfl
  · rfl
  · exact absurd rfl hf

/-- Settles O41: SEGSTEP commits the Rennet step of its activation; SEGEND commits the empty SG, the segment of the run, and the stop
behind it. -/
theorem segmentSteps : Obligations.SegmentSteps := by
  refine ⟨fun s el rule x d a k t => ?step, fun s el rule x d a k f t => ?flush⟩
  case step =>
    intro q g v grow harmed hlo _ hroom
    refine ⟨fun hdata hlast => exec_segstep_aborts harmed hlo k t hroom hdata hlast, fun htag => ?_⟩
    exact ⟨_, _, exec_segstep_fires harmed hlo k t hroom htag,
      rennet_stepped (s.elem el).sg (isI8_toInt (fld x.a.data 0 8)) ((s.elem el).c[k.toNat]).toNat (t.setWidth 4)⟩
  case flush =>
    intro q g harmed hlo _ hf hroom
    refine ⟨fun htag => exec_segend_aborts harmed hlo k hf t hroom htag, fun htag htag' => ?_, fun hrun => absurd hrun (by decide)⟩
    refine ⟨if (s.elem el).sg.getLsbD 0 then [⟨segOf (s.elem el).sg, t.setWidth 4⟩] else [], fun hrun => ?_, fun hno => ?_, ?_⟩
    · exact ⟨_, isSegment_segOf hrun, if_pos hrun⟩
    · exact if_neg (by rw [hno]; exact Bool.false_ne_true)
    · rw [← update_of_fp k hf]
      exact exec_segend_fires harmed hlo k hf t hroom htag htag'

end Sys2Proof.Machine
end


-- ==== Proofs: the events of a Press (O45, R223, R226, R231, R249, R251, R252) ====
section
/-! PROOFS. The oldest command performs (R223): what the reading of Hoop groups and the delivery to the element leave alone. A token
leaves the result buffer (R249): what a stop closes of the two whey groups (R226). MARK and DRAIN go last (R252). -/

namespace Sys2Proof.Machine

/-! The Hoop groups that a command reads (R419, R421). -/

theorem State.noteRead_stored (s : State) (groups : List Nat) : (s.noteRead groups).stored = s.stored := by
  unfold State.noteRead
  split
  · rfl
  · exact foldl_unchanged State.stored State.noteGroup_stored _ _

theorem State.hoopTouch_stored (s : State) (tile : Nat) (reads : List Nat) (fresh : Nat → Bool) :
    (s.hoopTouch tile reads fresh).stored = s.stored := by
  unfold State.hoopTouch
  split
  · rfl
  · exact s.noteRead_stored (reads.map (hoopGroup tile))

/-! The performance of a command (R223, R228, R231). -/

/-- All but the elements, as far as the events of a Press are concerned. -/
def State.butElems (s : State) := (s.presses, s.copies, s.mem, s.accs, s.chans, s.tasks, s.ctxs)

/-- R228, R251: the element of a command gets its word, or PSYNC's learns that it has performed. -/
def State.pressAnswer (s : State) (x : PEntry) (v : Option Word) : State :=
  match (s.elem x.el).pend? x.pend with
  | some y =>
    match y.job with
    | .press => s.setElem x.el ((s.elem x.el).finish x.pend v false)
    | .psync _ n => s.setElem x.el (((s.elem x.el).setJob x.pend (.psync true n)).syncDone x.pend)
    | _ => s
  | none => s

theorem State.pressAnswer_butElems (s : State) (x : PEntry) (v : Option Word) : (s.pressAnswer x v).butElems = s.butElems := by
  unfold State.pressAnswer
  split
  · split <;> rfl
  · rfl

theorem State.pressAnswer_of_press {s : State} {x : PEntry} {y : Pend} (hy : (s.elem x.el).pend? x.pend = some y) (hjob : y.job = .press)
    (v : Option Word) : s.pressAnswer x v = s.setElem x.el ((s.elem x.el).finish x.pend v false) := by
  simp only [State.pressAnswer, hy, hjob]

theorem State.pressAnswer_of_none {s : State} {x : PEntry} (hnone : (s.elem x.el).pend? x.pend = none) (v : Option Word) :
    s.pressAnswer x v = s := by
  simp only [State.pressAnswer, hnone]

/-- R421: the groups that the command reads, and those that hold fresh codewords once it has performed. -/
def State.pressTouch (s : State) (tile : Nat) (c : PCmd) : State :=
  s.hoopTouch tile ((s.press tile).reads c)
    (fun k => (s.press tile).fills k c || (c.rewrites && ((s.press tile).reads c).contains k))

section Perform
variable {s : State} {tile : Nat}

theorem exec_perform_idle (hq : (s.press tile).queue = []) : exec (.pressCommandPerform tile) s = .next s := by
  have hexec : exec (.pressCommandPerform tile) s = execPressCommandPerform tile s := rfl
  simp only [hexec, execPressCommandPerform, hq]

variable {x : PEntry} {rest : List PEntry} (hq : (s.press tile).queue = x :: rest)
include hq

theorem exec_perform_early (hleft : x.left ≠ 0) : exec (.pressCommandPerform tile) s = .next s := by
  have hexec : exec (.pressCommandPerform tile) s = execPressCommandPerform tile s := rfl
  simp only [hexec, execPressCommandPerform, hq, if_pos hleft]

theorem exec_perform_dropped (hleft : x.left = 0) (hbad : s.hoopBad tile ((s.press tile).reads x.cmd) = true) :
    exec (.pressCommandPerform tile) s = .next ((s.popCommand tile (s.press tile) rest).hoopFail tile) := by
  have hexec : exec (.pressCommandPerform tile) s = execPressCommandPerform tile s := rfl
  simp only [hexec, execPressCommandPerform, hq, if_neg (not_not.2 hleft), if_pos hbad]

theorem exec_perform_done (hleft : x.left = 0) (hsound : s.hoopBad tile ((s.press tile).reads x.cmd) = false) :
    exec (.pressCommandPerform tile) s = .next
      (((s.pressTouch tile x.cmd).popCommand tile ((s.press tile).apply x.cmd).1 rest).pressAnswer x ((s.press tile).apply x.cmd).2) := by
  have hexec : exec (.pressCommandPerform tile) s = execPressCommandPerform tile s := rfl
  have hgood : ¬ s.hoopBad tile ((s.press tile).reads x.cmd) = true := by rw [hsound]; exact Bool.false_ne_true
  simp only [hexec, execPressCommandPerform, hq, if_neg (not_not.2 hleft), if_neg hgood, State.pressTouch]
  generalize State.popCommand _ tile ((s.press tile).apply x.cmd).1 rest = s1
  rcases hy : (s1.elem x.el).pend? x.pend with _ | y
  · simp only [State.pressAnswer, hy]
  · simp only [State.pressAnswer, hy]
    cases y.job <;> rfl

end Perform

theorem State.popCommand_press (s : State) (tile : Nat) (q : Press) (rest : List PEntry) :
    (s.popCommand tile q rest).press tile = { q with queue := rest } := by
  rw [State.popCommand, State.setCopy_pressAt, State.press_setPress]

theorem State.popCommand_copyEng (s : State) (tile : Nat) (q : Press) (rest : List PEntry) :
    (s.popCommand tile q rest).copyEng tile = (s.copyEng tile).passed := by
  rw [State.popCommand, State.copyEng_setCopy]

/-- R223, R228, R231: what a performed command makes of the Press and of the copies of its tile, and what it leaves alone. -/
theorem perform_leaves (s : State) (tile : Nat) (q : Press) (rest : List PEntry) (x : PEntry) (v : Option Word) :
    let s1 := (s.pressTouch tile x.cmd).popCommand tile q rest
    let s' := s1.pressAnswer x v
    s1.elems = s.elems ∧ (∀ j, s1.elem j = s.elem j) ∧ s'.press tile = { q with queue := rest } ∧ s'.copyEng tile = (s.copyEng tile).passed
    ∧ s'.mem = s.mem ∧ s'.accs = s.accs ∧ s'.chans = s.chans ∧ s'.tasks = s.tasks ∧ s'.ctxs = s.ctxs := by
  intro s1 s'
  have htouch : (s.pressTouch tile x.cmd).stored = s.stored := s.hoopTouch_stored tile _ _
  have hanswer : s'.butElems = s1.butElems := s1.pressAnswer_butElems x v
  simp only [State.stored, Prod.mk.injEq] at htouch
  simp only [State.butElems, Prod.mk.injEq] at hanswer
  obtain ⟨hnodes, hmem, haccs, htasks, hctxs⟩ := htouch
  obtain ⟨hpresses, hcopies, hmem', haccs', hchans', htasks', hctxs'⟩ := hanswer
  have helems : (s.pressTouch tile x.cmd).elems = s.elems := State.elems_of_nodes hnodes
  have hchans : (s.pressTouch tile x.cmd).chans = s.chans := State.chans_of_nodes hnodes
  refine ⟨helems, fun j => ?elem, ?press, ?copies, hmem'.trans hmem, haccs'.trans haccs, hchans'.trans hchans,
    htasks'.trans htasks, hctxs'.trans hctxs⟩
  case elem =>
    have hsame : s1.elem j = (s.pressTouch tile x.cmd).elem j := rfl
    rw [hsame, State.elem_of_nodes hnodes]
  case press =>
    have hsame : s'.press tile = s1.press tile := by simp only [State.press, hpresses]
    rw [hsame, State.popCommand_press]
  case copies =>
    have hsame : s'.copyEng tile = s1.copyEng tile := by simp only [State.copyEng, hcopies]
    have htouched : (s.pressTouch tile x.cmd).copyEng tile = s.copyEng tile := by
      simp only [State.copyEng, State.copies_of_nodes hnodes]
    rw [hsame, State.popCommand_copyEng, htouched]

/-! A token leaves the result buffer (R226, R249, R251). -/

/-- R251: a token that enters the result channel changes elements only. -/
theorem State.syncToken_butElems (s : State) (tile : Nat) : (s.syncToken tile).butElems = s.butElems :=
  foldl_unchanged State.butElems (fun s k => by dsimp only; split <;> rfl) _ _

/-- R226: what a stop of this level closes of either group. -/
def Press.closeConv (p : Press) (level : BitVec 4) : Press := if p.wconv.toNat ≤ level.toNat then p.emitConv level else p
def Press.closeSeg (p : Press) (level : BitVec 4) : Press := if p.wseg.toNat ≤ level.toNat then p.emitSeg level else p

theorem Press.emitConv_rest (p : Press) (level : BitVec 4) : ∃ c w, p.emitConv level = { p with conv := c, wheyConv := w } := by
  unfold Press.emitConv
  split
  · exact ⟨_, _, rfl⟩
  · exact ⟨p.conv, p.wheyConv, rfl⟩

theorem Press.emitSeg_rest (p : Press) (level : BitVec 4) : ∃ c w, p.emitSeg level = { p with seg := c, wheySeg := w } := by
  unfold Press.emitSeg
  split
  · exact ⟨_, _, rfl⟩
  · exact ⟨p.seg, p.wheySeg, rfl⟩

theorem Press.closeConv_rest (p : Press) (level : BitVec 4) : ∃ c w, p.closeConv level = { p with conv := c, wheyConv := w } := by
  unfold Press.closeConv
  split
  · exact p.emitConv_rest level
  · exact ⟨p.conv, p.wheyConv, rfl⟩

theorem Press.closeSeg_rest (p : Press) (level : BitVec 4) : ∃ c w, p.closeSeg level = { p with seg := c, wheySeg := w } := by
  unfold Press.closeSeg
  split
  · exact p.emitSeg_rest level
  · exact ⟨p.seg, p.wheySeg, rfl⟩

theorem Press.closeBy_of_token (p : Press) {t : Token} (h : isStop t = false) : p.closeBy t = p := by
  simp [Press.closeBy, h]

theorem Press.closeBy_of_stop (p : Press) {t : Token} (h : isStop t = true) :
    p.closeBy t = (p.closeConv (t.tag - 1)).closeSeg (t.tag - 1) := by
  obtain ⟨c, w, hconv⟩ := p.closeConv_rest (t.tag - 1)
  have hlevel : (p.closeConv (t.tag - 1)).wseg = p.wseg := by rw [hconv]
  rw [Press.closeSeg, hlevel]
  simp only [Press.closeBy, h, Bool.not_true, Bool.false_eq_true, if_false, Press.closeConv]

section Deliver
variable {s : State} {tile : Nat} {x : PTok} {rest : List PTok} (hres : (s.press tile).result = x :: rest)
include hres

theorem exec_delivery_waits (h : x.left ≠ 0 ∨ ((s.press tile).ports.outAt 0).room = 0) :
    exec (.pressResultDelivery tile) s = .next s := by
  have hexec : exec (.pressResultDelivery tile) s = execPressResultDelivery tile s := rfl
  have hwait : x.left ≠ 0 ∨ ((s.press tile).ports.outAt 0).room < 1 ∨ (s.press tile).stopWaits x.tok = true := by omega
  simp only [hexec, execPressResultDelivery, hres, if_pos hwait]

theorem exec_delivery_moves (hleft : x.left = 0) (hroom : 1 ≤ ((s.press tile).ports.outAt 0).room)
    (hstop : (s.press tile).stopWaits x.tok = false) :
    let q := ({ s.press tile with result := rest, ports := (s.press tile).ports.push 0 x.tok }).closeBy x.tok
    exec (.pressResultDelivery tile) s = .next ((s.setPress tile q).syncToken tile) := by
  have hexec : exec (.pressResultDelivery tile) s = execPressResultDelivery tile s := rfl
  have hgo : ¬ (x.left ≠ 0 ∨ ((s.press tile).ports.outAt 0).room < 1 ∨ (s.press tile).stopWaits x.tok = true) := by
    simp only [hleft, hstop, Bool.false_eq_true, or_false]
    omega
  simp only [hexec, execPressResultDelivery, hres, if_neg hgo]

end Deliver

/-- R251: the Press, memory and accesses after a token has left. -/
theorem syncToken_leaves (s : State) (tile : Nat) (q : Press) :
    ((s.setPress tile q).syncToken tile).press tile = q ∧ ((s.setPress tile q).syncToken tile).mem = s.mem
    ∧ ((s.setPress tile q).syncToken tile).accs = s.accs := by
  have hsync := (s.setPress tile q).syncToken_butElems tile
  simp only [State.butElems, Prod.mk.injEq] at hsync
  obtain ⟨hpresses, -, hmem, haccs, -⟩ := hsync
  refine ⟨?_, hmem, haccs⟩
  have hsame : ((s.setPress tile q).syncToken tile).press tile = (s.setPress tile q).press tile := by simp only [State.press, hpresses]
  rw [hsame, State.press_setPress]

theorem wheyGroup_data (w0 w1 w2 w3 : Word) (level : BitVec 4) (kind : BitVec 2) :
    (wheyGroup w0 w1 w2 w3 level kind).map WheyTok.data = [w0, w1, w2, w3] := rfl

/-- R226: the conversion group, closed at its level, else left. -/
theorem Press.closeConv_group (p : Press) (level : BitVec 4) :
    (p.wconv.toNat ≤ level.toNat → p.wheyConvOn = true → (p.closeConv level).conv = {}
      ∧ (p.closeConv level).wheyConv.map WheyTok.data = [p.conv.sat, p.conv.nan, p.conv.inf, p.conv.flush])
    ∧ (level.toNat < p.wconv.toNat → p.closeConv level = p) := by
  refine ⟨fun hlevel hon => ?_, fun hlevel => if_neg (Nat.not_le.2 hlevel)⟩
  rw [Press.closeConv, if_pos hlevel, Press.emitConv, if_pos hon]
  exact ⟨rfl, rfl⟩

/-- R226: the segment group, closed at its level, else left. -/
theorem Press.closeSeg_group (p : Press) (level : BitVec 4) :
    (p.wseg.toNat ≤ level.toNat → p.wheySegOn = true → (p.closeSeg level).seg = Vector.replicate 4 0
      ∧ (p.closeSeg level).wheySeg.map WheyTok.data = p.seg.toList)
    ∧ (level.toNat < p.wseg.toNat → p.closeSeg level = p) := by
  refine ⟨fun hlevel hon => ?_, fun hlevel => if_neg (Nat.not_le.2 hlevel)⟩
  rw [Press.closeSeg, if_pos hlevel, Press.emitSeg, if_pos hon]
  refine ⟨rfl, ?_⟩
  rw [wheyGroup_data]
  refine List.ext_getElem (by simp) fun k hk _ => ?_
  have hk4 : k < 4 := hk
  rw [Vector.getElem_toList]
  interval_cases k <;> rfl

/-- R226, R249: a stop that leaves the result buffer closes each group at its level. -/
theorem Press.closeBy_stop (p : Press) (rest : List PTok) (t : Token) (h : isStop t = true) :
    let q := ({ p with result := rest, ports := p.ports.push 0 t }).closeBy t
    q.result = rest ∧ q.ports = p.ports.push 0 t
    ∧ (p.wconv.toNat ≤ (t.tag - 1).toNat → p.wheyConvOn = true → q.conv = {}
        ∧ q.wheyConv.map WheyTok.data = [p.conv.sat, p.conv.nan, p.conv.inf, p.conv.flush])
    ∧ ((t.tag - 1).toNat < p.wconv.toNat → q.conv = p.conv ∧ q.wheyConv = p.wheyConv)
    ∧ (p.wseg.toNat ≤ (t.tag - 1).toNat → p.wheySegOn = true → q.seg = Vector.replicate 4 0 ∧ q.wheySeg.map WheyTok.data = p.seg.toList)
    ∧ ((t.tag - 1).toNat < p.wseg.toNat → q.seg = p.seg ∧ q.wheySeg = p.wheySeg) := by
  intro q
  let p0 : Press := { p with result := rest, ports := p.ports.push 0 t }
  have hq : q = (p0.closeConv (t.tag - 1)).closeSeg (t.tag - 1) := p0.closeBy_of_stop h
  obtain ⟨c, w, hconv⟩ := p0.closeConv_rest (t.tag - 1)
  obtain ⟨g, v, hseg⟩ := (p0.closeConv (t.tag - 1)).closeSeg_rest (t.tag - 1)
  obtain ⟨hcloses, hkeeps⟩ := p0.closeConv_group (t.tag - 1)
  obtain ⟨hcloses', hkeeps'⟩ := (p0.closeConv (t.tag - 1)).closeSeg_group (t.tag - 1)
  have hresult : q.result = rest := by rw [hq, hseg, hconv]
  have hports : q.ports = p.ports.push 0 t := by rw [hq, hseg, hconv]
  have hcounts : q.conv = (p0.closeConv (t.tag - 1)).conv := by rw [hq, hseg]
  have hgroup : q.wheyConv = (p0.closeConv (t.tag - 1)).wheyConv := by rw [hq, hseg]
  rw [← hq, hconv] at hcloses' hkeeps'
  refine ⟨hresult, hports, fun hlevel hon => ?_, fun hlevel => ?_, hcloses', fun hlevel => ?_⟩
  · rw [hcounts, hgroup]
    exact hcloses hlevel hon
  · rw [hcounts, hgroup, hkeeps hlevel]
    exact ⟨rfl, rfl⟩
  · rw [hkeeps' hlevel]
    exact ⟨rfl, rfl⟩

/-- R56, R226: the levels of both final groups. -/
theorem Press.emits_levels (p : Press) (level : BitVec 4) :
    (p.wheyConvOn = true → ((p.emitConv level).emitSeg level).wheyConv.map WheyTok.level = [0, 0, 0, level])
    ∧ (p.wheySegOn = true → ((p.emitConv level).emitSeg level).wheySeg.map WheyTok.level = [0, 0, 0, level]) := by
  refine ⟨fun hon => ?_, fun hon => ?_⟩
  · obtain ⟨g, w, hseg⟩ := (p.emitConv level).emitSeg_rest level
    rw [hseg, Press.emitConv, if_pos hon]
    rfl
  · obtain ⟨c, w, hconv⟩ := p.emitConv_rest level
    rw [hconv, Press.emitSeg, if_pos hon]
    rfl

/-! MARK and DRAIN (R252). -/

/-- R252: every element with a Press or SUM rule is past MARK or DRAIN. -/
def State.PressPast (s : State) (tile : Nat) (st : Life) (head : InEnd → Bool) : Prop :=
  ∀ k, k < 16 → ((s.elem (elemOfTile tile k)).holds 0xDA 0xDF || (s.elem (elemOfTile tile k)).holds 0xE0 0xEB) = false
    ∨ (s.elem (elemOfTile tile k)).life = st
    ∨ ∀ j, j < 8 → let i := (s.elem (elemOfTile tile k)).ports.inAt j
        i.wired = false ∨ i.back = true ∨ s.fedByPress (elemOfTile tile k) j = true ∨ head i = true

theorem State.pressPast_iff {s : State} {tile : Nat} {st : Life} {head : InEnd → Bool} :
    s.pressPast tile st head = true ↔ s.PressPast tile st head := by
  simp only [State.pressPast, State.PressPast, List.all_eq_true, List.mem_range, Bool.or_eq_true, Bool.not_eq_true', beq_iff_eq, or_assoc]

section Last
variable {s : State} {tile : Nat}

theorem exec_mark_goes (hlife : (s.press tile).life = .running) (hq : (s.press tile).queue = [])
    (hpast : s.PressPast tile .marked InEnd.markHead) :
    exec (.pressMark tile) s = .next (s.setPress tile { s.press tile with
      life := .marked
      result := (s.press tile).result ++ (if ((s.press tile).ports.outAt 0).wired then [{ tok := ⟨0, Tag.mark⟩, left := 0 }] else []) }) := by
  have hexec : exec (.pressMark tile) s = execPressMark tile s := rfl
  rw [hexec, execPressMark, if_pos ⟨hlife, by rw [hq]; rfl, State.pressPast_iff.2 hpast⟩]
  split <;> simp

theorem exec_mark_waits (h : (s.press tile).life ≠ .running ∨ (s.press tile).queue ≠ [] ∨ ¬ s.PressPast tile .marked InEnd.markHead) :
    exec (.pressMark tile) s = .next s := by
  have hexec : exec (.pressMark tile) s = execPressMark tile s := rfl
  rw [hexec, execPressMark, if_neg]
  rintro ⟨hlife, hq, hpast⟩
  exact h.elim (absurd hlife) (Or.elim · (absurd (List.isEmpty_iff.1 hq)) (absurd (State.pressPast_iff.1 hpast)))

theorem exec_drain_waits (h : (s.press tile).life ≠ .running ∨ (s.press tile).queue ≠ [] ∨ (s.press tile).result ≠ []
    ∨ ¬ s.PressPast tile .drained InEnd.drainHead) : exec (.pressDrain tile) s = .next s := by
  have hexec : exec (.pressDrain tile) s = execPressDrain tile s := rfl
  rw [hexec, execPressDrain, if_neg]
  rintro ⟨hlife, hq, hres, -, hpast, -⟩
  obtain h | h | h | h := h
  · exact h hlife
  · exact h (List.isEmpty_iff.1 hq)
  · exact h (List.isEmpty_iff.1 hres)
  · exact h (State.pressPast_iff.1 hpast)

theorem exec_drain_goes (hlife : (s.press tile).life = .running) (hq : (s.press tile).queue = []) (hres : (s.press tile).result = [])
    (hcopies : ∀ k, k < 4 → ((s.press tile).hoop.hdr k).cif = 0) (hpast : s.PressPast tile .drained InEnd.drainHead)
    (hconv : (s.press tile).wheyConv = []) (hseg : (s.press tile).wheySeg = []) (hwired : ((s.press tile).ports.outAt 0).wired = true)
    (hroom : 1 ≤ ((s.press tile).ports.outAt 0).room) :
    exec (.pressDrain tile) s = .next (s.setPress tile { ((s.press tile).emitConv 0xF).emitSeg 0xF with
      life := .drained
      ports := (s.press tile).ports.push 0 ⟨0, Tag.drain⟩ }) := by
  have hexec : exec (.pressDrain tile) s = execPressDrain tile s := rfl
  obtain ⟨c, w, hc⟩ := (s.press tile).emitConv_rest 0xF
  obtain ⟨g, w', hg⟩ := ((s.press tile).emitConv 0xF).emitSeg_rest 0xF
  have hports : (((s.press tile).emitConv 0xF).emitSeg 0xF).ports = (s.press tile).ports := by rw [hg, hc]
  have hnone : ((List.range 4).all fun k => ((s.press tile).hoop.hdr k).cif == 0) = true := by
    simpa [List.all_eq_true] using hcopies
  rw [hexec, execPressDrain, if_pos ⟨hlife, List.isEmpty_iff.2 hq, List.isEmpty_iff.2 hres, hnone, State.pressPast_iff.2 hpast,
    List.isEmpty_iff.2 hconv, List.isEmpty_iff.2 hseg, .inr hroom⟩]
  simp only [hwired, if_true, hports]

end Last

/-- Settles O45: the queue, the result buffer and the states of the elements decide what each event does; the reading of Hoop groups
and the tokens of waiting PSYNCs leave alone what the statement names. -/
theorem pressEvents : Obligations.PressEvents := by
  refine ⟨fun s tile => ⟨exec_perform_idle, fun x rest hq => exec_perform_early hq, fun x rest hq => exec_perform_dropped hq,
    fun x rest hq hleft hsound => ?perform⟩, fun s tile x rest => ?delivery, fun s tile => ?last⟩
  case perform =>
    obtain ⟨helems, helem, hpress, hcopies, hmem, haccs, hchans, htasks, hctxs⟩ :=
      perform_leaves s tile ((s.press tile).apply x.cmd).1 rest x ((s.press tile).apply x.cmd).2
    refine ⟨_, exec_perform_done hq hleft hsound, hpress, hcopies, hmem, haccs, hchans, htasks, hctxs, fun y hy hjob => ?_, fun hnone => ?_⟩
    · rw [← helem x.el] at hy ⊢
      rw [State.pressAnswer_of_press hy hjob, State.elem_setElem]
    · rw [← helem x.el] at hnone
      rw [State.pressAnswer_of_none hnone, helems]
  case delivery =>
    intro p hres
    refine ⟨exec_delivery_waits hres, fun hleft hroom htok => ?token, fun hleft hroom htok hstop => ?stop⟩
    case token =>
      have hwaits : p.stopWaits x.tok = false := by simp [Press.stopWaits, htok]
      obtain ⟨hpress, hmem, haccs⟩ := syncToken_leaves s tile (({ p with result := rest, ports := p.ports.push 0 x.tok }).closeBy x.tok)
      exact ⟨_, exec_delivery_moves hres hleft hroom hwaits, hpress.trans (Press.closeBy_of_token _ htok), hmem, haccs⟩
    case stop =>
      obtain ⟨hpress, -, -⟩ := syncToken_leaves s tile (({ p with result := rest, ports := p.ports.push 0 x.tok }).closeBy x.tok)
      refine ⟨_, exec_delivery_moves hres hleft hroom hstop, ?_⟩
      rw [hpress]
      exact Press.closeBy_stop p rest x.tok htok
  case last =>
    refine ⟨exec_mark_goes, exec_mark_waits, fun hlife hq hres hcopies hpast hconv hseg hwired hroom => ?_, exec_drain_waits⟩
    exact ⟨_, exec_drain_goes hlife hq hres hcopies hpast hconv hseg hwired hroom, rfl, rfl, Press.emits_levels (s.press tile) 0xF⟩

end Sys2Proof.Machine
end


-- ==== Proofs: when a Press command passes, and with which code it fails (O43, R230, R237 to R249) ====
section
/-! PROOFS. A verdict (R228) looks at the index first and at the range after it: lemmas for the three answers, for what a contraction
index and an address word name in the selected table (R230, R237), then one lemma for each command that can fail. -/

namespace Sys2Proof.Machine

/-! The three answers of a verdict (R228). -/

/-- R228: the verdict is SUM_INDEX exactly when `index` holds, SUM_RANGE exactly when `range` alone holds, and to perform otherwise. -/
def Judges (verdict : Option Byte) (index range : Prop) : Prop :=
  (verdict = none ↔ ¬ index ∧ ¬ range) ∧ (verdict = some 0x51 ↔ index) ∧ (verdict = some 0x50 ↔ ¬ index ∧ range)

section
variable {index range c d : Prop}

theorem judges_index (h : index) : Judges (some cSumIndex) index range := by simp [Judges, cSumIndex, h]

theorem judges_none (h : ¬ index) (hr : ¬ range) : Judges none index range := by simp [Judges, h, hr]

theorem judges_range (h : ¬ index) (hr : range) : Judges (some cSumRange) index range := by simp [Judges, cSumRange, h, hr]

/-- The range decides once the index is right. -/
theorem judges_ite_range [Decidable d] (h : ¬ index) (hd : d ↔ range) :
    Judges (if d then some cSumRange else none) index range := by
  split
  · exact judges_range h (hd.1 ‹d›)
  · exact judges_none h (mt hd.2 ‹¬ d›)

/-- A check of the index, then one of the range. -/
theorem judges_ite [Decidable c] [Decidable d] (hc : c ↔ index) (hd : d ↔ range) :
    Judges (if c then some cSumIndex else if d then some cSumRange else none) index range := by
  split
  · exact judges_index (hc.1 ‹c›)
  · exact judges_ite_range (mt hc.2 ‹¬ c›) hd

/-- A check of the index alone. -/
theorem judges_ite_index [Decidable c] (hc : c ↔ index) : Judges (if c then some cSumIndex else none) index False := by
  split
  · exact judges_index (hc.1 ‹c›)
  · exact judges_none (mt hc.2 ‹¬ c›) id

end

/-! What a contraction index and an address word name (R230, R237). -/

/-- R230: the slot at TSEL holds a table that starts there. -/
def Press.HasTable (p : Press) : Prop := (p.hoop.hdr p.tsel.toNat).kind ≠ 3 ∧ (p.hoop.hdr p.tsel.toNat).first = p.tsel

/-- R230, R237: row `k` of the selected table is entry `e` of `slot`, and no Hoop copy is reaching that slot. -/
def Press.Names (p : Press) (k slot e : Nat) : Prop :=
  p.HasTable ∧ (p.hoop.hdr p.tsel.toNat).korg.toNat ≤ k
  ∧ k < (p.hoop.hdr p.tsel.toNat).korg.toNat + 64 * ((p.hoop.hdr p.tsel.toNat).nbm1.toNat + 1)
  ∧ slot = p.tsel.toNat + (k - (p.hoop.hdr p.tsel.toNat).korg.toNat) / 64
  ∧ e = (k - (p.hoop.hdr p.tsel.toNat).korg.toNat) % 64 ∧ (p.hoop.hdr slot).cif = 0

/-- R237: the address word names entry `e` of `slot`. -/
def Press.Addresses (p : Press) (b : Word) (slot e : Nat) : Prop := fldN b 9 7 = 0 ∧ p.Names (fldN b 16 16) slot e

section
variable {p : Press} {b : Word} {k slot e col : Nat}

theorem Press.selected_of_hasTable (h : p.HasTable) : p.selected = some (p.hoop.hdr p.tsel.toNat) :=
  if_neg (not_or.2 ⟨h.1, not_not.2 h.2⟩)

theorem Press.selected_of_not_hasTable (h : ¬ p.HasTable) : p.selected = none :=
  if_pos ((not_and_or.1 h).imp_left not_not.1)

theorem Press.slotAt_of_hasTable (h : p.HasTable) (k : Nat) :
    p.slotAt k =
      if k < (p.hoop.hdr p.tsel.toNat).korg.toNat
          ∨ (p.hoop.hdr p.tsel.toNat).korg.toNat + 64 * ((p.hoop.hdr p.tsel.toNat).nbm1.toNat + 1) ≤ k then none
      else some (p.tsel.toNat + (k - (p.hoop.hdr p.tsel.toNat).korg.toNat) / 64,
        (k - (p.hoop.hdr p.tsel.toNat).korg.toNat) % 64) := by
  simp only [Press.slotAt, Press.selected_of_hasTable h, h.2]

theorem Press.slotAt_of_not_hasTable (h : ¬ p.HasTable) (k : Nat) : p.slotAt k = none := by
  rw [Press.slotAt, Press.selected_of_not_hasTable h]

theorem Press.names_iff : p.Names k slot e ↔ p.slotAt k = some (slot, e) ∧ (p.hoop.hdr slot).cif = 0 := by
  by_cases htable : p.HasTable
  · rw [Press.slotAt_of_hasTable htable]
    split
    · simp only [Press.Names, reduceCtorEq, false_and, iff_false]
      omega
    · simp only [Press.Names, htable, true_and, Option.some.injEq, Prod.mk.injEq, eq_comm (b := slot), eq_comm (b := e), and_assoc]
      omega
  · simp [Press.Names, htable, Press.slotAt_of_not_hasTable htable k]

theorem Press.band_eq_some_iff : p.band k = some (slot, e) ↔ p.Names k slot e := by
  simp [Press.band, Option.filter_eq_some_iff, Press.names_iff]

theorem Press.entryAt_eq_some_iff :
    p.entryAt b = some (slot, e, col) ↔ fldN b 9 7 = 0 ∧ p.slotAt (fldN b 16 16) = some (slot, e) ∧ fldN b 0 9 = col := by
  by_cases hb : fldN b 9 7 = 0 <;> simp [Press.entryAt, hb]

theorem Press.addr_eq_some_iff : p.addr b = some (slot, e, col) ↔ p.Addresses b slot e ∧ fldN b 0 9 = col := by
  simp only [Press.addr, Option.filter_eq_some_iff, beq_iff_eq, Press.entryAt_eq_some_iff, Press.Addresses, Press.names_iff]
  tauto

theorem Press.band_eq_none_iff : p.band k = none ↔ ¬ ∃ slot e, p.Names k slot e := by
  simp [Option.eq_none_iff_forall_ne_some, Press.band_eq_some_iff]

theorem Press.addr_eq_none_iff : p.addr b = none ↔ ¬ ∃ slot e, p.Addresses b slot e := by
  simp [Option.eq_none_iff_forall_ne_some, Press.addr_eq_some_iff]

/-- R245: PSEG and PDENSE need the band that they read to be sealed. -/
theorem Press.sealedBand_isNone_iff :
    (p.sealedBand k).isNone = true ↔ ¬ ∃ slot e, p.Names k slot e ∧ (p.hoop.hdr slot).sealed = true := by
  cases hband : p.band k with
  | none =>
    have hno := Press.band_eq_none_iff.1 hband
    simp only [Press.sealedBand, hband, Option.isNone_none, true_iff]
    exact fun ⟨slot, e, hnames, _⟩ => hno ⟨slot, e, hnames⟩
  | some x =>
    obtain ⟨slot, e⟩ := x
    simp only [← Press.band_eq_some_iff, Press.sealedBand, hband, Option.some.injEq, Prod.mk.injEq]
    split <;> simp [*]

/-- An address word names at most one entry. -/
theorem Press.exists_addresses_iff (h : p.addr b = some (slot, e, col)) {q : Nat → Nat → Prop} :
    (∃ slot' e', p.Addresses b slot' e' ∧ q slot' e') ↔ q slot e := by
  constructor
  · rintro ⟨slot', e', haddr, hq⟩
    have hsome := h.symm.trans (Press.addr_eq_some_iff.2 ⟨haddr, rfl⟩)
    simp only [Option.some.injEq, Prod.mk.injEq] at hsome
    obtain ⟨rfl, rfl, -⟩ := hsome
    exact hq
  · exact fun hq => ⟨slot, e, (Press.addr_eq_some_iff.1 h).1, hq⟩

end

/-! The sum-table commands (R237 to R243). -/

section
variable (p : Press)

/-- R51: the bounds of an i24. -/
def FitsI24 (v : Int) : Prop := -8388608 ≤ v ∧ v ≤ 8388607

theorem isI24_iff {v : Int} : isI24 v = true ↔ FitsI24 v := by
  simp only [isI24, FitsI24, decide_eq_true_eq]
  omega

theorem FV.dy_isNone {x : FV} : x.dy.isNone = true ↔ x.finite = false := by
  cases x <;> simp [FV.dy]

theorem mem_slotRange {first nbm1 j : Nat} : j ∈ slotRange first nbm1 ↔ first ≤ j ∧ j ≤ first + nbm1 := by
  simp only [slotRange, List.mem_map, List.mem_range]
  exact ⟨by omega, fun h => ⟨j - first, by omega, by omega⟩⟩

theorem Hoop.mem_sharing {h : Hoop} {first nbm1 j : Nat} : j ∈ h.sharing first nbm1 ↔
    j < 4 ∧ (h.hdr j).kind ≠ 3 ∧ (h.hdr j).first.toNat ≤ first + nbm1 ∧ first ≤ (h.hdr j).first.toNat + (h.hdr j).nbm1.toNat := by
  simp [Hoop.sharing]

/-- R230: a Hoop copy is reaching one of the slots. -/
theorem Hoop.any_cif_iff {h : Hoop} {l : List Nat} : l.any (fun k => (h.hdr k).cif != 0) = true ↔ ∃ j ∈ l, (h.hdr j).cif ≠ 0 := by
  simp

/-- R238: a copy in flight counts in the slots that SUMNEW takes and in those that it frees, whose table shares a slot with the new one. -/
theorem Press.judges_sumnew (a : Word) (k : BitVec 3) : Judges (p.verdict (.sumnew a k))
    (fldN a 4 12 ≠ 0 ∨ fldN a 16 16 % 64 ≠ 0 ∨ 65536 < fldN a 16 16 + 64 * (fldN a 2 2 + 1) ∨ 3 < fldN a 0 2 + fldN a 2 2
      ∨ ∃ j, j < 4 ∧ (p.hoop.hdr j).cif ≠ 0 ∧ ((fldN a 0 2 ≤ j ∧ j ≤ fldN a 0 2 + fldN a 2 2)
        ∨ ((p.hoop.hdr j).kind ≠ 3 ∧ (p.hoop.hdr j).first.toNat ≤ fldN a 0 2 + fldN a 2 2
          ∧ fldN a 0 2 ≤ (p.hoop.hdr j).first.toNat + (p.hoop.hdr j).nbm1.toNat))) False := by
  simp only [Press.verdict]
  split
  case isTrue h => exact judges_index (by tauto)
  case isFalse h =>
    have hlast : fldN a 0 2 + fldN a 2 2 < 4 := by omega
    simp only [not_or] at h
    obtain ⟨hzero, horg, htop, hfour⟩ := h
    refine judges_ite_index ?_
    simp only [hzero, horg, htop, hfour, false_or, Hoop.any_cif_iff, List.mem_append, mem_slotRange, Hoop.mem_sharing]
    exact exists_congr fun j => ⟨fun ⟨hj, hcif⟩ => ⟨by omega, hcif, by tauto⟩, fun ⟨hj, hcif, hslot⟩ => ⟨by tauto, hcif⟩⟩

/-- R239: only an unsealed slot takes a running sum. -/
theorem Press.judges_sumapp (a b : Word) : Judges (p.verdict (.sumapp a b))
    (¬ ∃ slot e, p.Addresses b slot e ∧ (p.hoop.hdr slot).sealed = false)
    (∃ slot e, p.Addresses b slot e
      ∧ ¬ FitsI24 ((if e = 0 then 0 else p.hoop.entry slot (fldN b 0 9) (e - 1)) + a.toInt)) := by
  rw [Press.verdict]
  cases haddr : p.addr b with
  | none => exact judges_index fun ⟨slot, e, h, _⟩ => Press.addr_eq_none_iff.1 haddr ⟨slot, e, h⟩
  | some x =>
    obtain ⟨slot, e, col⟩ := x
    obtain ⟨-, rfl⟩ := Press.addr_eq_some_iff.1 haddr
    rw [Press.exists_addresses_iff haddr, Press.exists_addresses_iff haddr]
    simp only [← ite_not (p := isI24 _ = true)]
    exact judges_ite (by simp) (not_congr isI24_iff)

theorem Press.judges_sumbsc (a b : Word) (band : BitVec 3) : Judges (p.verdict (.sumbsc a b band))
    (¬ p.HasTable ∨ (p.hoop.hdr p.tsel.toNat).nbm1.toNat < band.toNat ∨ fldN b 9 22 ≠ 0
      ∨ (p.hoop.hdr (p.tsel.toNat + band.toNat)).cif ≠ 0)
    ((bf16.value (fldN a 0 16)).finite = false) := by
  rw [Press.verdict]
  by_cases htable : p.HasTable
  · simp only [Press.selected_of_hasTable htable, htable.2]
    exact judges_ite (by simp [htable]) FV.dy_isNone
  · rw [Press.selected_of_not_hasTable htable]
    exact judges_index (.inl htable)

/-- R241: SUMPATCH adds to the entries from the one that the address names to the end of its band. -/
theorem Press.judges_sumpatch (a b : Word) : Judges (p.verdict (.sumpatch a b)) (¬ ∃ slot e, p.Addresses b slot e)
    (∃ slot e, p.Addresses b slot e ∧ ∃ j, e ≤ j ∧ j < 64 ∧ ¬ FitsI24 (p.hoop.entry slot (fldN b 0 9) j + a.toInt)) := by
  rw [Press.verdict]
  cases haddr : p.addr b with
  | none => exact judges_index (Press.addr_eq_none_iff.1 haddr)
  | some x =>
    obtain ⟨slot, e, col⟩ := x
    obtain ⟨hnames, rfl⟩ := Press.addr_eq_some_iff.1 haddr
    rw [Press.exists_addresses_iff haddr]
    simp only [← ite_not (p := List.all _ _ = true)]
    refine judges_ite_range (not_not.2 ⟨slot, e, hnames⟩) ?_
    simp only [List.all_eq_true, List.mem_range, isI24_iff, not_forall]
    constructor
    · rintro ⟨i, hi, hfits⟩
      exact ⟨e + i, by omega, by omega, hfits⟩
    · rintro ⟨j, hej, hj, hfits⟩
      exact ⟨j - e, by omega, by rwa [Nat.add_sub_cancel' hej]⟩

theorem Press.judges_sumrd (b : Word) : Judges (p.verdict (.sumrd b)) (¬ ∃ slot e, p.Addresses b slot e) False :=
  judges_ite_index (Option.isNone_iff_eq_none.trans Press.addr_eq_none_iff)

theorem Press.judges_sumseal : Judges (p.verdict .sumseal) (¬ p.HasTable
    ∨ ∃ j, p.tsel.toNat ≤ j ∧ j ≤ p.tsel.toNat + (p.hoop.hdr p.tsel.toNat).nbm1.toNat ∧ (p.hoop.hdr j).cif ≠ 0) False := by
  rw [Press.verdict]
  by_cases htable : p.HasTable
  · simp only [Press.selected_of_hasTable htable, htable.2]
    exact judges_ite_index (by simp [mem_slotRange, htable, and_assoc])
  · rw [Press.selected_of_not_hasTable htable]
    exact judges_index (.inl htable)

/-! The commands that read bands, vectors and accumulators (R245 to R249). -/

/-- R245: bits 5:0 of the token, LEN, must keep the segment within the band of its first row. -/
theorem Press.judges_pseg (a : Word) (r : BitVec 4) : Judges (p.verdict (.pseg a r))
    (fldN a 6 2 ≠ 0 ∨ 64 < fldN a 8 16 % 64 + fldN a 0 6 + 1
      ∨ ¬ ∃ slot e, p.Names (fldN a 8 16) slot e ∧ (p.hoop.hdr slot).sealed = true) False := by
  have hlow : fldN a 8 16 % 64 = fldN a 8 6 := Nat.mod_mod_of_dvd _ (by norm_num)
  rw [Press.verdict, ← ite_or]
  exact judges_ite_index (by rw [Press.sealedBand_isNone_iff, hlow, or_assoc])

theorem Press.judges_pdense (a b : Word) (r : BitVec 4) : Judges (p.verdict (.pdense a b r))
    (b.toNat % 4 ≠ 0 ∨ 65532 < b.toNat ∨ ¬ ∃ slot e, p.Names b.toNat slot e ∧ (p.hoop.hdr slot).sealed = true) False := by
  rw [Press.verdict, ← ite_or]
  exact judges_ite_index (by rw [Press.sealedBand_isNone_iff, or_assoc])

/-- R247: VA has 16 lanes and VB 32, and a word holds as many lanes as its format has. -/
theorem Press.judges_pvld (second : Bool) (a b : Word) (f : BitVec 3) (hf : f.toNat ≤ 5) : Judges (p.verdict (.pvld second a b f))
    (fldN b 20 4 ≠ 0 ∨ fldN b 5 11 ≠ 0 ∨ (fldN b 24 8 ≠ 0 ∧ f ≠ 5)
      ∨ (if f.toNat < 2 then 2 else if f.toNat < 5 then 4 else 8) ≤ fldN b 16 4
      ∨ (if second then 31 else 15) < fldN b 0 5 + fldN b 16 4) False := by
  have hlast : (if second then 32 else 16) ≤ fldN b 0 5 + fldN b 16 4 ↔ (if second then 31 else 15) < fldN b 0 5 + fldN b 16 4 := by
    cases second <;> exact Nat.succ_le_iff
  rw [Press.verdict, ← ite_or]
  exact judges_ite_index (by simp only [hlast, lanesOf, or_assoc, hf.not_gt, false_or])

end

/-- Settles O43: the model's checks in the order of R230 and R237 to R249, the index before the range. -/
theorem pressChecks : Obligations.PressChecks := by
  intro p
  exact ⟨p.judges_sumnew, p.judges_sumapp, p.judges_sumbsc, p.judges_sumpatch, p.judges_sumrd, p.judges_sumseal,
    fun _ => judges_ite_index .rfl, fun _ _ => judges_ite_index .rfl, fun _ _ => judges_ite_range id .rfl,
    fun _ _ => judges_none id id, p.judges_pseg, p.judges_pdense, p.judges_pvld, fun _ _ _ => judges_none id id,
    fun _ _ _ _ => judges_ite_index .rfl, fun _ => judges_none id id, fun _ => judges_none id id⟩

end Sys2Proof.Machine
end


-- ==== Proofs: the system group and the registers of units (O51, R281 to R283, R325, R326, R414 to R416) ====
section
/-! PROOFS. A trap is a silent issue and a freeze (R415); the register of a unit as it is read and written (R282, R283); what the
arrival and the application of an XCTL leave in the unit and in the element that waits (R282). -/

namespace Sys2Proof.Machine

/-! TRAP and BRK (R414 to R416). -/

section Trap
variable {s : State} {el rule : Nat} {x : In} {a b : BitVec 5}

/-- R415: the element after a trap: its tokens are taken, its control tokens sent, and it is FROZEN. -/
def Elem.trapped (e : Elem) (rule : Nat) (a b : BitVec 5) (code : Byte) (x : In) (stamp : Dword) : Elem :=
  { e.issueSilent rule (some a) (some b) with
    nextId := e.nextId, life := .frozen, unposted := true
    fault := { code := code, rule := BitVec.ofNat 4 rule, user := fld x.a.data 0 16, opa := x.a.data, opb := x.b.data, stamp := stamp } }

theorem trapForm_of_running (harmed : s.armed el rule (rq 24 (some a) (some b) 0 0 1) x)
    (hroom : (s.elem el).portRoom rule [] = true) (hlife : (s.elem el).life = .running) (code : Byte) :
    trapForm code a b s = .next (s.setElem el ((s.elem el).trapped rule a b code x (s.cycleOf (regionOfElem el)))) := by
  obtain ⟨hcur, hin⟩ := harmed
  have hin' : (s.elem el).input { a := some a, b := some b } = some x := hin
  have hrun : (((s.elem el).fireTakes rule (takes (some a) (some b))).puts ((s.elem el).everyCo rule)).life = .running := by
    simp [hlife]
  have hid : (((s.elem el).fireTakes rule (takes (some a) (some b))).puts ((s.elem el).everyCo rule)).nextId = (s.elem el).nextId := by
    simp
  simp only [trapForm, hcur, hin', hroom, Elem.freeze, hrun, Elem.trapped, Elem.issueSilent, ← hid, faultOf]
  rfl

/-- R415: a trap writes no register and takes the tokens that its operands name. -/
theorem Elem.trapped_unchanged (e : Elem) (rule : Nat) (a b : BitVec 5) (code : Byte) (x : In) (stamp : Dword) :
    (e.trapped rule a b code x stamp).d = e.d ∧ (e.trapped rule a b code x stamp).p = e.p
    ∧ (e.trapped rule a b code x stamp).pend = e.pend
    ∧ ∀ k, k < 8 → ((e.trapped rule a b code x stamp).ports.inAt k).buf =
        if some a = some (BitVec.ofNat 5 (8 + k)) ∨ some b = some (BitVec.ofNat 5 (8 + k)) then (e.ports.inAt k).buf.tail
        else (e.ports.inAt k).buf := by
  obtain ⟨hd, hp, -, -, -, -, -, hins⟩ := e.issues_issueSilent rule (some a) (some b)
  exact ⟨hd, hp, e.issueSilent_pend rule (some a) (some b), hins⟩

end Trap

/-! WHEY, IDENT and CLOCK (R281, R325, R326). -/

/-- R281: the element after WHEY: its counters are on their way and clear. -/
def Elem.wheyed (e : Elem) (rule : Nat) : Elem :=
  { e.armed rule with
    whey := if e.wheyOn then
      wheyGroup (e.stats.sat.setWidth 32) (e.stats.nan.setWidth 32) (e.stats.inf.setWidth 32) (e.stats.flush.setWidth 32) 0 0 else []
    stats := {} }

theorem exec_whey {s : State} {el rule : Nat} (hcur : s.cur = .rule el rule) (hroom : (s.elem el).portRoom rule [] = true)
    (hwhey : (s.elem el).whey = []) : exec .whey s = .next (s.setElem el ((s.elem el).wheyed rule)) := by
  have hexec : exec .whey s = execWhey s := rfl
  simp only [hexec, execWhey, hcur, hroom, hwhey]
  rfl

/-- R57: a group carries the four counts as words. -/
theorem Elem.wheyed_whey (e : Elem) (rule : Nat) (hon : e.wheyOn = true) :
    (e.wheyed rule).whey.map (fun t => (t.data.toNat, t.tag, t.level)) =
      [(e.stats.sat.toNat, Tag.data, 0), (e.stats.nan.toNat, Tag.data, 0), (e.stats.inf.toNat, Tag.data, 0),
        (e.stats.flush.toNat, Tag.last, 0)] := by
  have hwide : ∀ c : BitVec 16, (c.setWidth 32).toNat = c.toNat := fun c => BitVec.toNat_setWidth_of_le (by decide)
  simp [Elem.wheyed, hon, wheyGroup, hwide]

theorem Elem.wheyed_life (e : Elem) (rule : Nat) : (e.wheyed rule).life = e.life := by
  show ((e.fireTakes rule []).puts (e.everyCo rule)).life = e.life
  simp

theorem exec_ident {s : State} {el rule : Nat} (hcur : s.cur = .rule el rule) (d : BitVec 5) (sel : BitVec 3)
    (hroom : (s.elem el).portRoom rule (deliver d Tag.data (s.ident el sel)) = true) :
    exec (.ident d sel) s = .next (s.setElem el (((s.elem el).issuePort rule (rq d none none 0 0 1)
      (deliver d Tag.data (s.ident el sel)) .timed true).finish (s.elem el).nextId none false)) := by
  have hexec : exec (.ident d sel) s = execIdent d sel s := rfl
  simp only [hexec, execIdent, hcur, hroom]
  rfl

/-- R325: the words that the selectors name. -/
theorem State.ident_words {s : State} {el row col rows cols : Nat} (hspan : s.spanOf (s.taskOfElem el) = (row, col, rows, cols))
    (sel : BitVec 3) :
    (sel = 0 → s.ident el sel = Word.ofNat (localOf row col rows cols (tileOfElem el) * 2 ^ 22 + el))
    ∧ (sel = 1 → s.ident el sel = Word.ofNat ((spanRegions row col rows cols).idxOf (regionOfElem el) * 2 ^ 16 + regionOfElem el))
    ∧ (sel = 2 → s.ident el sel = Word.ofNat (rows * 2 ^ 8 + cols))
    ∧ (sel = 3 → s.ident el sel = Word.ofNat (s.taskId (s.taskOfElem el) * 2 ^ 16 + s.ctxOfTask (s.taskOfElem el))) := by
  refine ⟨?_, ?_, ?_, ?_⟩ <;> rintro rfl <;> simp only [State.ident, hspan] <;> rfl

theorem exec_clock {s : State} {el rule : Nat} (hcur : s.cur = .rule el rule) (d : BitVec 5)
    (hroom : (s.elem el).portRoom rule (clockPuts d 0) = true) :
    exec (.clock d) s = .next (s.setElem el (((s.elem el).issuePort rule (rq d none none 0 0 1) (clockPuts d 0) .clock true).delay
      (s.elem el).nextId (flitDelay (tileOfElem el) (etileOf (regionOfElem el))))) := by
  have hexec : exec (.clock d) s = execClock d s := rfl
  simp only [hexec, execClock, hcur, hroom]
  rfl

/-- R326: the low and the high word of a reading, to a register pair or as two tokens. -/
theorem clockPuts_words (d : BitVec 5) (v : Dword) : ∃ lo hi : Word, lo.toNat = v.toNat % 2 ^ 32 ∧ hi.toNat = v.toNat / 2 ^ 32
    ∧ (d.toNat < 8 → clockPuts d v = [.d (BitVec.ofNat 3 d.toNat) lo, .d (BitVec.ofNat 3 (d.toNat + 1)) hi])
    ∧ (8 ≤ d.toNat → clockPuts d v = [.out (BitVec.ofNat 3 (d.toNat - 8)) [⟨lo, Tag.data⟩, ⟨hi, Tag.last⟩]]) := by
  have hv := v.isLt
  refine ⟨Word.ofNat v.toNat, Word.ofNat (v.toNat / 2 ^ 32), BitVec.toNat_ofNat _ _, Word.toNat_ofNat_of_lt (by omega),
    fun h => ?_, fun h => ?_⟩
  · simp only [clockPuts, if_pos h]
  · simp only [clockPuts, if_neg (Nat.not_lt.2 h)]

/-- CLOCK_READ: the reading leaves once no earlier CLOCK of the element waits. -/
theorem exec_clockRead {s : State} {el id : Nat} {p : Pend} (hp : (s.elem el).pend? id = some p) (hjob : p.job = .clock)
    (hbehind : s.behind el id = false) :
    exec (.clockRead el id) s = .next (if (s.elem el).firstJob id (fun j => j == .clock) then s.setElem el
      ((s.elem el).answer id (clockPuts p.dst (s.cycleOf (regionOfElem el))) (flitDelay (tileOfElem el) (etileOf (regionOfElem el)))) else s) := by
  have hexec : exec (.clockRead el id) s = execClockRead el id s := rfl
  simp only [hexec, execClockRead, hp, hjob, hbehind, Bool.not_false, true_and, and_true]
  split <;> rfl

/-! XCTL and XSTAT at issue (R282). -/

section Issue
variable {s : State} {el rule : Nat} {x : In} {d a sl : BitVec 5} {r : BitVec 4} {k : Nat} {u : SUnit}

/-- R282: the element once its request to unit `k` is under way. -/
def Elem.requests (e : Elem) (el rule : Nat) (q : Req) (l : List Put) (job : Job) (k : Nat) : Elem :=
  (e.issuePort rule q l job true).delay e.nextId (flitDelay (tileOfElem el) (k / 64))

theorem exec_xctl_absent (harmed : s.armed el rule (rq d (some a) none 0 0 1) x)
    (hroom : (s.elem el).portRoom rule (deliver d Tag.data x.a.data) = true)
    (hunit : s.unitOfSlot (s.taskOfElem el) sl.toNat = none) :
    exec (.xctl d a sl r) s = .next (s.abortWith el rule 0x02 x) := by
  obtain ⟨hcur, hin⟩ := harmed
  have hexec : exec (.xctl d a sl r) s = execXctl d a sl r s := rfl
  have hin' : (s.elem el).input { d := d, a := some a } = some x := hin
  simp only [hexec, execXctl, hcur, hin', hroom, hunit]
  rfl

theorem exec_xctl_present (harmed : s.armed el rule (rq d (some a) none 0 0 1) x)
    (hroom : (s.elem el).portRoom rule (deliver d Tag.data x.a.data) = true)
    (hunit : s.unitOfSlot (s.taskOfElem el) sl.toNat = some (k, u)) :
    exec (.xctl d a sl r) s = .next (if u.writable r x.a.data then s.setElem el ((s.elem el).requests el rule
      (rq d (some a) none 0 0 1) (deliver d Tag.data x.a.data) (.xctl k r x.a.data false) k) else s.abortWith el rule 0x02 x) := by
  obtain ⟨hcur, hin⟩ := harmed
  have hexec : exec (.xctl d a sl r) s = execXctl d a sl r s := rfl
  have hin' : (s.elem el).input { d := d, a := some a } = some x := hin
  simp only [hexec, execXctl, hcur, hin', hroom, hunit]
  cases u.writable r x.a.data <;> rfl

theorem exec_xstat_absent (harmed : s.armed el rule (rq 24 none none 0 0 1) x)
    (hroom : (s.elem el).portRoom rule (deliver d Tag.data 0) = true)
    (hunit : s.unitOfSlot (s.taskOfElem el) sl.toNat = none) :
    exec (.xstat d sl r) s = .next (s.abortWith el rule 0x02 x) := by
  obtain ⟨hcur, hin⟩ := harmed
  have hexec : exec (.xstat d sl r) s = execXstat d sl r s := rfl
  have hin' : (s.elem el).input {} = some x := hin
  simp only [hexec, execXstat, hcur, hin', hroom, hunit]
  rfl

theorem exec_xstat_present (harmed : s.armed el rule (rq 24 none none 0 0 1) x)
    (hroom : (s.elem el).portRoom rule (deliver d Tag.data 0) = true)
    (hunit : s.unitOfSlot (s.taskOfElem el) sl.toNat = some (k, u)) :
    exec (.xstat d sl r) s = .next (if (u.reg r).isSome then s.setElem el ((s.elem el).requests el rule
      (rq d none none 0 0 1) (deliver d Tag.data 0) (.xstat k r) k) else s.abortWith el rule 0x02 x) := by
  obtain ⟨hcur, hin⟩ := harmed
  have hexec : exec (.xstat d sl r) s = execXstat d sl r s := rfl
  have hin' : (s.elem el).input {} = some x := hin
  simp only [hexec, execXstat, hcur, hin', hroom, hunit]
  cases (u.reg r).isSome <;> rfl

end Issue

/-! Writes of a unit's register (R282, R283). -/

@[simp] theorem State.writeUnit_unit (s : State) (k : Nat) (u : SUnit) (r : BitVec 4) (v : Word) :
    (s.writeUnit k u r v).unit? k = some (u.write r v) := by simp [State.writeUnit]

@[simp] theorem State.writeUnit_elems (s : State) (k : Nat) (u : SUnit) (r : BitVec 4) (v : Word) :
    (s.writeUnit k u r v).elems = s.elems := by simp [State.writeUnit]

@[simp] theorem State.xdone_unit (s : State) (k : Nat) (w : Option (Nat × Nat)) (j : Nat) : (s.xdone k w).unit? j = s.unit? j := by
  cases w <;> rfl

/-- R282: the waiting element gets its answer. -/
theorem State.xdone_elem (s : State) (k el id : Nat) : (s.xdone k (some (el, id))).elem el =
    (s.elem el).answerWith id none (flitDelay (k / 64) (tileOfElem el)) := State.elem_setElem ..

theorem State.elem_of_elems {s s' : State} (h : s'.elems = s.elems) (el : Nat) : s'.elem el = s.elem el := by
  rw [State.elem, State.elem, h]

/-- R283: a register write leaves the deferred writes alone. -/
theorem SUnit.write_xctl (u : SUnit) (r : BitVec 4) (v : Word) (l : List (BitVec 4 × Word × Option (Nat × Nat))) :
    ({ u with xctl := l } : SUnit).write r v = { u.write r v with xctl := l } := by
  simp only [SUnit.write]
  split
  · rfl
  · split
    · rfl
    · split <;> rfl

/-- R283: register 15 clears the counters. -/
theorem SUnit.write_counters (u : SUnit) {r : BitVec 4} (v : Word) (hr : r.toNat = 15) :
    u.write r v = { u with taken := 0, emitted := 0, elems := 0 } := by
  simp [SUnit.write, hr]

/-- R283: a payload register is read as it was written. -/
theorem SUnit.write_payload (u : SUnit) {r : BitVec 4} (v : Word) (h1 : 1 ≤ r.toNat) (hlen : r.toNat ≤ u.payload.length)
    (h8 : r.toNat ≤ 8) : (u.write r v).payload = u.payload.set (r.toNat - 1) v ∧ (u.write r v).reg r = some v := by
  have hpay : (u.write r v).payload = u.payload.set (r.toNat - 1) v := by simp only [SUnit.write, h1, h8, and_self, if_true]
  refine ⟨hpay, ?_⟩
  have hget : (u.payload.set (r.toNat - 1) v).getD (r.toNat - 1) 0 = v := by
    rw [List.getD_eq_getElem _ _ (by rw [List.length_set]; omega), List.getElem_set_self]
  simp only [SUnit.reg, if_neg (Nat.one_le_iff_ne_zero.1 h1), if_pos h8, SUnit.pw, hpay, hget]

/-! Requests at their unit (R282). -/

section Arrival
variable {s : State} {el id k : Nat} {r : BitVec 4} {p : Pend} {u : SUnit} (hp : (s.elem el).pend? id = some p)
  (hu : s.unit? k = some u) (hfirst : (s.elem el).firstJob id Job.xmoving = true) (hbehind : s.behind el id = false)
include hp hu hfirst hbehind

theorem exec_unitRegisterRead_xstat (hjob : p.job = .xstat k r) : exec (.unitRegisterRead el id) s = .next (s.setElem el
    ((s.elem el).answerWith id (some ((u.reg r).getD 0)) (flitDelay (k / 64) (tileOfElem el)))) := by
  have hexec : exec (.unitRegisterRead el id) s = execUnitRegisterRead el id s := rfl
  simp only [hexec, execUnitRegisterRead, hp, hfirst, hbehind, hjob, hu]
  rfl

/-- An XCTL on its arrival: at once in a FROZEN or DRAINED unit (log 36), else deferred. -/
theorem exec_unitRegisterRead_xctl {v : Word} (hjob : p.job = .xctl k r v false) : exec (.unitRegisterRead el id) s = .next
    (if u.life = .frozen ∨ u.life = .drained then
      ((s.setElem el ((s.elem el).setJob id (.xctl k r v true))).writeUnit k u r v).xdone k (some (el, id))
    else (s.setElem el ((s.elem el).setJob id (.xctl k r v true))).setUnit k { u with xctl := u.xctl ++ [(r, v, some (el, id))] }) := by
  have hexec : exec (.unitRegisterRead el id) s = execUnitRegisterRead el id s := rfl
  simp only [hexec, execUnitRegisterRead, hp, hfirst, hbehind, hjob, hu]
  by_cases hlife : u.life = .frozen ∨ u.life = .drained
  · simp only [if_pos hlife]; rfl
  · simp only [if_neg hlife]; rfl

theorem exec_unitRegisterRead_writes {v : Word} (hjob : p.job = .xctl k r v false) : ∃ s', exec (.unitRegisterRead el id) s = .next s'
    ∧ (u.life = .frozen ∨ u.life = .drained → s'.unit? k = some (u.write r v)
      ∧ s'.elem el = ((s.elem el).setJob id (.xctl k r v true)).answerWith id none (flitDelay (k / 64) (tileOfElem el)))
    ∧ (u.life ≠ .frozen → u.life ≠ .drained → s'.unit? k = some { u with xctl := u.xctl ++ [(r, v, some (el, id))] }
      ∧ s'.elem el = (s.elem el).setJob id (.xctl k r v true)) := by
  refine ⟨_, exec_unitRegisterRead_xctl hp hu hfirst hbehind hjob, fun hnow => ?_, fun hf hd => ?_⟩
  · rw [if_pos hnow, State.xdone_unit, State.writeUnit_unit, State.xdone_elem, State.elem_of_elems (State.writeUnit_elems ..),
      State.elem_setElem]
    exact ⟨rfl, rfl⟩
  · rw [if_neg (not_or.2 ⟨hf, hd⟩)]
    exact ⟨State.unit_setUnit .., State.elem_setElem ..⟩

end Arrival

section Apply
variable {s : State} {k : Nat} {u : SUnit} {r : BitVec 4} {v : Word} {w : Option (Nat × Nat)}
  {rest : List (BitVec 4 × Word × Option (Nat × Nat))} (hu : s.unit? k = some u) (hx : u.xctl = (r, v, w) :: rest)
include hu hx

theorem exec_xctlApply : exec (.xctlApply k) s = .next (if u.boundary = true ∨ u.life = .frozen ∨ u.life = .drained then
    (s.writeUnit k { u with xctl := rest } r v).xdone k w else s) := by
  have hexec : exec (.xctlApply k) s = execXctlApply k s := rfl
  simp only [hexec, execXctlApply, hu, hx]
  split <;> rfl

theorem exec_xctlApply_writes (hnow : u.boundary = true ∨ u.life = .frozen ∨ u.life = .drained) :
    ∃ s', exec (.xctlApply k) s = .next s' ∧ s'.unit? k = some { u.write r v with xctl := rest }
      ∧ (∀ el id, w = some (el, id) → s'.elem el = (s.elem el).answerWith id none (flitDelay (k / 64) (tileOfElem el)))
      ∧ (w = none → s'.elems = s.elems) := by
  refine ⟨_, (exec_xctlApply hu hx).trans (by rw [if_pos hnow]), ?unit, ?answered, ?unanswered⟩
  case unit => rw [State.xdone_unit, State.writeUnit_unit, SUnit.write_xctl]
  case answered =>
    rintro el id rfl
    rw [State.xdone_elem, State.elem_of_elems (State.writeUnit_elems ..)]
  case unanswered =>
    rintro rfl
    exact State.writeUnit_elems ..

end Apply

/-- Settles O51: the traps by the silent issue with its freeze, the requests by what their issue and their arrival leave. -/
theorem systemInstructions : Obligations.SystemInstructions := by
  unfold Obligations.SystemInstructions
  refine ⟨?traps, ?whey, ?ident, ?clock, clockPuts_words, ?clockRead, ?xctl, ?xstat, ?arrival, ?apply, ?counters, ?payload⟩
  case traps =>
    intro s el rule x a b traps
    have htraps : ∀ i code, exec i s = trapForm code a b s → traps i code := fun i code hexec harmed hroom hlife =>
      have ⟨hd, hp, hpend, hins⟩ := (s.elem el).trapped_unchanged rule a b code x (s.cycleOf (regionOfElem el))
      ⟨_, hexec.trans (trapForm_of_running harmed hroom hlife code), rfl, rfl, rfl, hd, hp, hpend, hins⟩
    exact ⟨htraps _ _ rfl, htraps _ _ rfl⟩
  case whey =>
    intro s el rule hcur hroom hwhey
    obtain ⟨hd, hp, hpend⟩ := (s.elem el).armed_unchanged rule
    exact ⟨_, exec_whey hcur hroom hwhey, rfl, hd, hp, hpend, (s.elem el).wheyed_life rule,
      fun hoff => by simp [Elem.wheyed, hoff], (s.elem el).wheyed_whey rule⟩
  case ident =>
    intro s el rule row col rows cols d sel hcur hspan
    exact ⟨s.ident el sel, exec_ident hcur d sel, State.ident_words hspan sel⟩
  case clock => exact fun s el rule d hcur hroom => exec_clock hcur d hroom
  case clockRead =>
    intro s el id p hp hjob hbehind
    exact ⟨fun hfirst => (exec_clockRead hp hjob hbehind).trans (by rw [if_pos hfirst]),
      fun hlater => (exec_clockRead hp hjob hbehind).trans (by simp [hlater])⟩
  case xctl =>
    intro s el rule x d a sl r q unit harmed hroom
    exact ⟨exec_xctl_absent harmed hroom,
      fun k u hunit hrefused => (exec_xctl_present harmed hroom hunit).trans (by rw [hrefused]; rfl),
      fun k u hunit hallowed => (exec_xctl_present harmed hroom hunit).trans (by rw [hallowed]; rfl)⟩
  case xstat =>
    intro s el rule x d sl r unit harmed hroom
    exact ⟨exec_xstat_absent harmed hroom,
      fun k u hunit hnone => (exec_xstat_present harmed hroom hunit).trans (by rw [hnone]; rfl),
      fun k u v hunit hsome => (exec_xstat_present harmed hroom hunit).trans (by rw [hsome]; rfl)⟩
  case arrival =>
    intro s el id k r p u hp hu hfirst hbehind
    refine ⟨fun v hjob hr => ?_, fun v hjob => exec_unitRegisterRead_writes hp hu hfirst hbehind hjob⟩
    rw [exec_unitRegisterRead_xstat hp hu hfirst hbehind hjob, hr, Option.getD_some]
  case apply =>
    intro s k u r v w rest hu hx
    refine ⟨fun hb hf hd => (exec_xctlApply hu hx).trans ?_, exec_xctlApply_writes hu hx⟩
    rw [if_neg (by simp [hb, hf, hd])]
  case counters =>
    intro u r v hr
    rw [u.write_counters v hr]
    exact ⟨rfl, rfl, rfl, rfl⟩
  case payload => exact fun u r v h1 hlen h8 => u.write_payload v h1 hlen h8

end Sys2Proof.Machine
end


-- ==== Proofs: the ends of a stream unit and its step (R253 to R259) ====
section
/-! PROOFS. What the operations on a unit's ends do (R253, R259): the inputs that a step takes from and the tokens that it sends, by
lemmas for one input, one output, and one step after another. Then the step of a unit that may act. -/

namespace Sys2Proof.Machine

/-! Tokens as units read them (R254). -/

theorem Token.reads_data {t : Token} (h : t.tag = Tag.data ∨ t.tag = Tag.last) :
    unitData t = true ∧ isAbort t = false ∧ isStop t = false := by
  rcases h with h | h <;> simp [unitData, isAbort, isStop, h]

theorem Token.reads_stop {t : Token} (h2 : 2 ≤ t.tag.toNat) (h5 : t.tag.toNat ≤ 5) :
    unitData t = false ∧ isAbort t = false ∧ isStop t = true := by
  have hne : ∀ c : Tag, (c.toNat < 2 ∨ 5 < c.toNat) → (t.tag == c) = false := fun c hc =>
    beq_eq_false_iff_ne.2 fun heq => by rw [heq] at h2 h5; omega
  refine ⟨?_, hne _ (by decide), decide_eq_true ⟨h2, h5⟩⟩
  simp only [unitData, hne Tag.data (by decide), hne Tag.last (by decide), Bool.false_or, decide_eq_false_iff_not]
  omega

/-- A vector's token is no token of the region controller (R86, R88). -/
theorem Token.not_control {t : Token} (h : t.tag = Tag.data ∨ t.tag = Tag.last) :
    (t.tag == Tag.mark) = false ∧ (t.tag == Tag.drain) = false := by
  rcases h with h | h <;> simp [h]

/-- R253: the tag of a stop that a unit makes. -/
theorem mkStop_eq {k n : Nat} (h : k + 1 = n) : mkStop k = ⟨0, BitVec.ofNat 4 n⟩ := by rw [mkStop, h]

/-! The ends of a unit. -/

section Ends
variable (u : SUnit)

@[simp] theorem SUnit.emit_ins (k : Nat) (t : Token) : (u.emit k t).ports.ins = u.ports.ins := by
  rw [SUnit.emit]; split <;> rfl
@[simp] theorem SUnit.emit_st (k : Nat) (t : Token) : (u.emit k t).st = u.st := by
  rw [SUnit.emit]; split <;> rfl
@[simp] theorem SUnit.emit_elems (k : Nat) (t : Token) : (u.emit k t).elems = u.elems := by
  rw [SUnit.emit]; split <;> rfl
@[simp] theorem SUnit.emit_hold (k : Nat) (t : Token) : (u.emit k t).hold = u.hold := by
  rw [SUnit.emit]; split <;> rfl
@[simp] theorem SUnit.emit_xctl (k : Nat) (t : Token) : (u.emit k t).xctl = u.xctl := by
  rw [SUnit.emit]; split <;> rfl

theorem SUnit.wired_emit (k : Nat) (t : Token) (j : Nat) : (u.emit k t).wired j = u.wired j := by
  rw [SUnit.emit]
  split
  · simp only [SUnit.wired, Ports.push, Ports.outAt_setOut]
    split
    · rename_i hkj; rw [Ports.outAt_of_mod hkj]
    · rfl
  · rfl

@[simp] theorem SUnit.emitAll_ins (t : Token) : (u.emitAll t).ports.ins = u.ports.ins := by
  rw [SUnit.emitAll]
  exact foldl_unchanged (fun u : SUnit => u.ports.ins) (fun u k => u.emit_ins k t) _ u
@[simp] theorem SUnit.emitAll_st (t : Token) : (u.emitAll t).st = u.st := by
  rw [SUnit.emitAll]
  exact foldl_unchanged SUnit.st (fun u k => u.emit_st k t) _ u

@[simp] theorem SUnit.take2_outs (k j : Nat) : (u.take2 k j).ports.outs = u.ports.outs := by
  rw [SUnit.take2]; split <;> rfl
@[simp] theorem SUnit.take2_st (k j : Nat) : (u.take2 k j).st = u.st := by
  rw [SUnit.take2]; split <;> rfl
@[simp] theorem SUnit.take2_elems (k j : Nat) : (u.take2 k j).elems = u.elems := by
  rw [SUnit.take2]; split <;> rfl

end Ends

/-! What a step sends (R253). -/

section Sends
variable {u v w : SUnit} {f g : Nat → List Token}

theorem SUnit.sends_nothing (h : v.ports.outs = u.ports.outs) : u.Sends v (fun _ => []) := by
  intro k _
  rw [Ports.outAt_congr h]
  simp

theorem SUnit.sends_emit {p : Nat} (hp : p < 8) (t : Token) : u.Sends (u.emit p t) (fun j => if j = p then [t] else []) := by
  intro k hk
  rw [SUnit.emit]
  by_cases hw : u.wired p = true
  · rw [if_pos hw, Ports.push, Ports.outAt_setOut, Nat.mod_eq_of_lt hp, Nat.mod_eq_of_lt hk]
    by_cases hpk : p = k
    · subst hpk; simp [hw]
    · simp [hpk, Ne.symm hpk]
  · rw [if_neg hw]
    by_cases hkp : k = p
    · subst hkp; simp [hw]
    · simp [hkp]

/-- The tokens of two steps one after the other. -/
theorem SUnit.Sends.trans (h : u.Sends v f) (hw : v.Sends w g) (hwired : ∀ j, v.wired j = u.wired j) :
    u.Sends w (fun j => f j ++ g j) := by
  intro k hk
  rw [hw k hk, h k hk, hwired]
  cases u.wired k <;> simp

theorem SUnit.Sends.congr (h : u.Sends v f) (hw : w.ports.outs = v.ports.outs) (hg : ∀ j, j < 8 → g j = f j) : u.Sends w g := by
  intro k hk
  rw [Ports.outAt_congr hw, h k hk, hg k hk]

theorem SUnit.sends_two (x y : Token) :
    u.Sends ((u.emit 0 x).emit 1 y) (fun j => if j = 0 then [x] else if j = 1 then [y] else []) := by
  refine ((SUnit.sends_emit (by decide) x).trans (SUnit.sends_emit (by decide) y) (u.wired_emit 0 x)).congr rfl fun j _ => ?_
  by_cases h0 : j = 0
  · simp [h0]
  · simp [h0]

/-- An entry of an intersecter: coordinate and both values. -/
theorem SUnit.sends_emit3 (c a b : Word) : u.Sends (u.emit3 c a b)
    (fun j => if j = 0 then [mkData c] else if j = 1 then [mkData a] else if j = 2 then [mkData b] else []) := by
  have hwired : ∀ j, ((u.emit 0 (mkData c)).emit 1 (mkData a)).wired j = u.wired j := fun j => by rw [SUnit.wired_emit, SUnit.wired_emit]
  refine ((SUnit.sends_two _ _).trans (SUnit.sends_emit (by decide) (mkData b)) hwired).congr rfl fun j _ => ?_
  by_cases h0 : j = 0
  · simp [h0]
  · by_cases h1 : j = 1
    · simp [h1]
    · simp [h0, h1]

/-- An output that is not connected gets nothing. -/
theorem SUnit.emit_of_not_wired {p : Nat} (h : u.wired p = false) (t : Token) : u.emit p t = u := by simp [SUnit.emit, h]

theorem SUnit.emits_wired (t : Token) (l : List Nat) (j : Nat) : (l.foldl (fun u k => u.emit k t) u).wired j = u.wired j :=
  foldl_unchanged (fun u : SUnit => u.wired j) (fun u k => u.wired_emit k t j) l u

theorem SUnit.sends_emits (u : SUnit) (t : Token) (l : List Nat) (hl : ∀ k ∈ l, k < 8) (hnodup : l.Nodup) :
    u.Sends (l.foldl (fun u k => u.emit k t) u) (fun j => if j ∈ l then [t] else []) := by
  induction l generalizing u with
  | nil => exact (SUnit.sends_nothing rfl).congr rfl fun j _ => by simp
  | cons p l ih =>
    obtain ⟨hp, hnodup⟩ := List.nodup_cons.1 hnodup
    refine ((SUnit.sends_emit (hl p (List.mem_cons_self ..)) t).trans (ih (u.emit p t) (fun k hk => hl k (List.mem_cons_of_mem _ hk)) hnodup)
      (u.wired_emit p t)).congr rfl fun j _ => ?_
    by_cases hj : j = p
    · subst hj; simp [hp]
    · simp [hj]

/-- R253: a stop goes to every connected output. -/
theorem SUnit.sends_emitAll (t : Token) : u.Sends (u.emitAll t) (fun _ => [t]) := by
  have hall := u.sends_emits t (List.range 8) (fun _ hk => List.mem_range.1 hk) List.nodup_range
  rw [← SUnit.emitAll] at hall
  exact hall.congr rfl fun j hj => by rw [if_pos (List.mem_range.2 hj)]

/-- The outputs before the step are those of `v`. -/
theorem SUnit.Sends.of_outs (h : v.Sends w f) (hv : v.ports.outs = u.ports.outs) : u.Sends w f := by
  intro k hk
  rw [h k hk, Ports.outAt_congr hv, SUnit.wired, SUnit.wired, Ports.outAt_congr hv]

theorem SUnit.Sends.ite {c : Prop} [Decidable c] (h : u.Sends v f) :
    u.Sends (if c then v else u) (fun j => if c then f j else []) := by
  by_cases hc : c
  · simpa only [if_pos hc] using h
  · simpa only [if_neg hc] using SUnit.sends_nothing rfl

end Sends

/-! What a step takes (R253, R259). -/

section Takes
variable {u v w : SUnit} {ks js : List Nat}

theorem SUnit.takes_nothing (h : v.ports.ins = u.ports.ins) : u.Takes v [] := by
  intro k _
  rw [Ports.inAt_congr h]
  rfl

theorem SUnit.Takes.congr (h : u.Takes v ks) (hw : w.ports.ins = v.ports.ins) : u.Takes w ks := by
  intro k hk
  rw [Ports.inAt_congr hw, h k hk]

theorem SUnit.take_inAt {j k : Nat} (hj : j < 8) (hk : k < 8) : (u.take j).ports.inAt k =
    if j = k then { u.ports.inAt k with buf := (u.ports.inAt k).buf.tail } else u.ports.inAt k := by
  show (u.ports.take j).inAt k = _
  rw [Ports.take, Ports.inAt_setIn, Nat.mod_eq_of_lt hj, Nat.mod_eq_of_lt hk]
  by_cases hjk : j = k
  · subst hjk; rfl
  · rw [if_neg hjk, if_neg hjk]

theorem SUnit.take_wired {j k : Nat} (hj : j < 8) (hk : k < 8) : ((u.take j).ports.inAt k).wired = (u.ports.inAt k).wired := by
  rw [SUnit.take_inAt hj hk]; split <;> rfl

theorem SUnit.take2_wired {i j k : Nat} (hi : i < 8) (hj : j < 8) (hk : k < 8) :
    ((u.take2 i j).ports.inAt k).wired = (u.ports.inAt k).wired := by
  rw [SUnit.take2]
  split
  · rw [SUnit.take_wired hj hk, SUnit.take_wired hi hk]
  · rw [SUnit.take_wired hi hk]

/-- Sending leaves the inputs alone, so a step may send before it takes: `v` has the inputs of `u`. -/
theorem SUnit.takes_take {j : Nat} (hv : v.ports.ins = u.ports.ins) (hj : j < 8) (hwired : (u.ports.inAt j).wired = true) :
    u.Takes (v.take j) [j] := by
  intro k hk
  rw [SUnit.take_inAt hj hk, Ports.inAt_congr hv]
  by_cases hjk : j = k
  · subst hjk; simp [hwired]
  · simp [hjk, Ne.symm hjk]

/-- The inputs of two steps one after the other, each taken once. -/
theorem SUnit.Takes.trans (h : u.Takes v ks) (hw : v.Takes w js) (hwired : ∀ k, k < 8 → (v.ports.inAt k).wired = (u.ports.inAt k).wired)
    (hdisj : ∀ k ∈ ks, k ∉ js) : u.Takes w (ks ++ js) := by
  intro k hk
  rw [hw k hk, h k hk, hwired k hk]
  by_cases hks : k ∈ ks
  · simp [hks, hdisj k hks]
  · simp [hks]

theorem SUnit.takes_of_not_wired {j : Nat} (h : (u.ports.inAt j).wired = false) : u.Takes u [j] := by
  intro k _
  by_cases hjk : k = j
  · subst hjk; simp [h]
  · simp [hjk]

/-- R259: an input and its companion. -/
theorem SUnit.takes_take2 {i j : Nat} (hv : v.ports.ins = u.ports.ins) (hi : i < 8) (hj : j < 8) (hij : i ≠ j)
    (hwired : (u.ports.inAt i).wired = true) : u.Takes (v.take2 i j) [i, j] := by
  have hfirst := SUnit.takes_take hv hi hwired
  have hkept : ∀ k, k < 8 → ((v.take i).ports.inAt k).wired = (u.ports.inAt k).wired := fun k hk => by
    rw [SUnit.take_wired hi hk, Ports.inAt_congr hv]
  have hdisj : ∀ k ∈ [i], k ∉ [j] := by simp [hij]
  rw [SUnit.take2]
  by_cases hwj : (v.ports.inAt j).wired = true
  · rw [if_pos hwj]
    exact hfirst.trans (SUnit.takes_take rfl hj ((SUnit.take_wired hi hj).trans hwj)) hkept hdisj
  · rw [if_neg hwj]
    exact hfirst.trans (SUnit.takes_of_not_wired ((SUnit.take_wired hi hj).trans (by simpa using hwj))) hkept hdisj

/-- R263: both sides with their values. -/
theorem SUnit.takes_both (hv : v.ports.ins = u.ports.ins) (h0 : (u.ports.inAt 0).wired = true) (h2 : (u.ports.inAt 2).wired = true) :
    u.Takes ((v.take2 0 1).take2 2 3) [0, 1, 2, 3] := by
  have hkept : ∀ k, k < 8 → ((v.take2 0 1).ports.inAt k).wired = (u.ports.inAt k).wired := fun k hk => by
    rw [SUnit.take2_wired (by decide) (by decide) hk, Ports.inAt_congr hv]
  exact (SUnit.takes_take2 hv (by decide) (by decide) (by decide) h0).trans
    (SUnit.takes_take2 rfl (by decide) (by decide) (by decide) ((hkept 2 (by decide)).trans h2)) hkept (by decide)

theorem SUnit.takes_done : u.Takes v.done ks ↔ u.Takes v ks := Iff.rfl
theorem SUnit.sends_done {f : Nat → List Token} : u.Sends v.done f ↔ u.Sends v f := Iff.rfl

end Takes

/-! A unit that may act (R253). -/

/-- R253, R258, R282: the unit runs, is not marked, and no deferred write holds it. -/
structure State.Works (s : State) (k : Nat) (u : SUnit) : Prop where
  unit : s.unit? k = some u
  live : u.live = true
  held : u.held = false

theorem State.works {s : State} {k : Nat} {u : SUnit} (hu : s.unit? k = some u) (hlife : u.life = .running)
    (hmarked : u.marked = false) (hheld : u.held = false) : s.Works k u := ⟨hu, by simp [SUnit.live, hlife, hmarked], hheld⟩

/-- A step that replaces the unit, in a state with the same memory and elements. -/
theorem unitActs_of_setUnit {i : Instr} {s t : State} {k : Nat} {u' : SUnit} {P : SUnit → Prop} (h : exec i s = .next (t.setUnit k u'))
    (hP : P u') (hmem : t.mem = s.mem := by rfl) (helems : t.elems = s.elems := by rfl) : UnitActs i s k P :=
  ⟨_, u', h, State.unit_setUnit .., hP, hmem, helems⟩

/-- The same for a step that changes the ends as `v` and then the state and the counts. -/
theorem unitActs_of_ends {i : Instr} {s t : State} {k : Nat} {u v : SUnit} {ks : List Nat} {f : Nat → List Token} {Q : SUnit → Prop}
    {st : UState} {hold elems : Word} (h : exec i s = .next (t.setUnit k { v with st := st, hold := hold, elems := elems }))
    (htakes : u.Takes v ks) (hsends : u.Sends v f) (hQ : Q { v with st := st, hold := hold, elems := elems })
    (hmem : t.mem = s.mem := by rfl) (helems : t.elems = s.elems := by rfl) :
    UnitActs i s k (fun u' => u.Takes u' ks ∧ u.Sends u' f ∧ Q u') :=
  unitActs_of_setUnit h ⟨htakes, hsends, hQ⟩ hmem helems

section Quiet
variable {s : State} {k : Nat} (hquiet : s.unitAccs k = [])
include hquiet

theorem State.unitFailed_of_quiet : s.unitFailed k = none := by simp [State.unitFailed, hquiet]
theorem State.unitWords_of_quiet : s.unitWords k = some [] := by simp [State.unitWords, State.unitReads, hquiet]

end Quiet

end Sys2Proof.Machine
end


-- ==== Proofs: one step of each stream unit (O53, R260 to R275) ====
section
/-! PROOFS. Unit by unit the state that a step leaves, one lemma for each branch that the obligation speaks of; the obligation from these
and from the lemmas on the ends of a unit. -/

namespace Sys2Proof.Machine

section Units
variable {s : State} {k : Nat} {u : SUnit} {t : Token} (hwork : s.Works k u)

/-! Scanners (R261). -/

section Scanner
variable {p : Bool} {f : Fibre}

include hwork in
theorem exec_scannerStep_head (hst : u.st = .scan p none) : exec (.scannerStep k) s = .next (s.setUnit k (u.scanHead p)) := by
  have hexec : exec (.scannerStep k) s = execScannerStep k s := rfl
  simp only [hexec, execScannerStep, hwork.unit, hst, hwork.live, hwork.held]
  rfl

/-- R261: a reference begins a dense fibre of the payload's length. -/
theorem SUnit.scanHead_data (hhead : u.head 0 = some t) (hdata : t.tag = Tag.data ∨ t.tag = Tag.last) (hkind : scanKind u = 0) :
    u.scanHead false = (u.take 0).fibre false { ref := t.data, at_ := t.data.toNat * (u.pw 1).toNat, lo := t.data.toNat * (u.pw 1).toNat,
                                                hi := t.data.toNat * (u.pw 1).toNat + (u.pw 1).toNat } := by
  obtain ⟨hread, habort, -⟩ := Token.reads_data hdata
  simp only [SUnit.scanHead, hhead, habort, hread, hkind]
  rfl

/-- R261: a stop goes on one level higher. -/
theorem SUnit.scanHead_stop (hhead : u.head 0 = some t) (h2 : 2 ≤ t.tag.toNat) (h5 : t.tag.toNat ≤ 5) (hroom : u.room (List.range 8) = true) :
    (u.scanHead p).ports = ((u.take 0).emitAll ⟨0, BitVec.ofNat 4 (min (t.tag.toNat + 1) 5)⟩).ports
    ∧ (u.scanHead p).st = .scan false none := by
  obtain ⟨hread, habort, hstop⟩ := Token.reads_stop h2 h5
  have hlevel : mkStop (min (stopLevel t + 1) 4) = ⟨0, BitVec.ofNat 4 (min (t.tag.toNat + 1) 5)⟩ := mkStop_eq (by rw [stopLevel]; omega)
  simp only [SUnit.scanHead, hhead, habort, hread, hstop, hroom, hlevel, Bool.false_eq_true, if_false, if_true, and_self]

include hwork in
theorem exec_scannerStep_dense (hst : u.st = .scan p (some f)) (hkind : scanKind u = 0) (hvals : u.wired 2 = false)
    (hquiet : s.unitAccs k = []) (hroom : u.room [0, 1, 2] = true) : exec (.scannerStep k) s = .next ((s.dropReads k).setUnit k
      (u.scanEntry p f (Word.ofNat (f.at_ - f.lo)) (Word.ofNat f.at_) 0)) := by
  have hexec : exec (.scannerStep k) s = execScannerStep k s := rfl
  have hneeds : scanNeeds u f = [] := by simp [scanNeeds, hkind, scanVals, hvals]
  simp only [hexec, execScannerStep, hwork.unit, hst, hwork.live, hwork.held, State.unitFailed_of_quiet hquiet,
    State.unitWords_of_quiet hquiet, hneeds, SUnit.scanStep, hkind, hroom]
  simp

/-- R261: the ends, the state and the count after an entry whose value is not connected. -/
theorem SUnit.scanEntry_dense (hvals : u.wired 2 = false) (c a v : Word) :
    (u.scanEntry p f c a v).ports = ((u.emit 0 (mkData c)).emit 1 (mkData a)).ports
    ∧ (f.hi ≤ f.at_ + 1 → (u.scanEntry p f c a v).st = .scan true none ∧ (u.scanEntry p f c a v).elems = u.elems + 1)
    ∧ (f.at_ + 1 < f.hi → (u.scanEntry p f c a v).st = .scan p (some { f with at_ := f.at_ + 1, busy := false })) := by
  have hthird : (((u.emit 0 (mkData c)).emit 1 (mkData a)).emit 2 (mkData v)) = (u.emit 0 (mkData c)).emit 1 (mkData a) :=
    SUnit.emit_of_not_wired (by rw [SUnit.wired_emit, SUnit.wired_emit, hvals]) _
  simp only [SUnit.scanEntry, hthird]
  by_cases hlast : f.at_ + 1 < f.hi
  · rw [if_pos hlast]
    exact ⟨rfl, fun hend => absurd hlast (Nat.not_lt.2 hend), fun _ => rfl⟩
  · rw [if_neg hlast]
    exact ⟨rfl, fun _ => ⟨rfl, by simp [SUnit.endFibre, SUnit.done]⟩, fun hmore => absurd hmore hlast⟩

end Scanner

/-! Intersecters (R263). -/

section Intersecter
variable {a b : Token}

theorem SUnit.ihead_data {j : Nat} (hhead : u.head j = some t) (hdata : t.tag = Tag.data ∨ t.tag = Tag.last) :
    u.ihead j = some (.data t.data) ∧ u.abortAt j = false := by
  obtain ⟨hread, habort, -⟩ := Token.reads_data hdata
  exact ⟨by simp only [SUnit.ihead, hhead, hread, if_true], by simp only [SUnit.abortAt, hhead, habort]⟩

theorem SUnit.ihead_stop {j : Nat} (hhead : u.head j = some t) (h2 : 2 ≤ t.tag.toNat) (h5 : t.tag.toNat ≤ 5) :
    u.ihead j = some (.stop (stopLevel t)) ∧ u.abortAt j = false := by
  obtain ⟨hread, habort, hstop⟩ := Token.reads_stop h2 h5
  exact ⟨by simp only [SUnit.ihead, hhead, hread, hstop, if_true]; rfl, by simp only [SUnit.abortAt, hhead, habort]⟩

include hwork in
/-- The comparison is made when the sides that it takes have their values. -/
theorem exec_intersecterStep (hst : u.st = .isect) (hroom : u.room [0, 1, 2] = true) (ha : u.abortAt 0 = false) (hb : u.abortAt 2 = false)
    {x y : Bool} (htakes : u.isectTakes = (x, y)) (hsome : x = true ∨ y = true) (hx : x = true → u.has 1 = true)
    (hy : y = true → u.has 3 = true) : exec (.intersecterStep k) s = .next (s.setUnit k u.isectStep.done) := by
  have hexec : exec (.intersecterStep k) s = execIntersecterStep k s := rfl
  have hready : u.room [0, 1, 2] = true ∧ (x = true ∨ y = true) ∧ ((!x) = true ∨ u.has 1 = true) ∧ ((!y) = true ∨ u.has 3 = true) := by
    refine ⟨hroom, hsome, ?_, ?_⟩
    · cases x <;> simp_all
    · cases y <;> simp_all
  simp only [hexec, execIntersecterStep, hwork.unit, hwork.live, hwork.held, hst, ha, hb, htakes, if_pos hready]
  simp

variable {va vb : Word} (ha : u.ihead 0 = some (.data va)) (hb : u.ihead 2 = some (.data vb))

include ha hb in
/-- R263: what a comparison of two coordinates takes: the lesser one, or both. -/
theorem SUnit.isectTakes_data : u.isectTakes = (decide (va.toNat ≤ vb.toNat), decide (vb.toNat ≤ va.toNat)) := by
  simp only [SUnit.isectTakes, ha, hb]

theorem SUnit.emit3_ins (c x y : Word) : (u.emit3 c x y).ports.ins = u.ports.ins := by simp [SUnit.emit3]

theorem SUnit.emit3_if_ins (p : Prop) [Decidable p] (c x y : Word) :
    (if p then u.emit3 c x y else u).ports.ins = u.ports.ins := by
  split
  · exact SUnit.emit3_ins c x y
  · rfl

section Compare
variable (hw0 : (u.ports.inAt 0).wired = true) (hw2 : (u.ports.inAt 2).wired = true)
include ha hb

include hw0 hw2 in
theorem SUnit.isectStep_match (heq : va = vb) : u.Takes u.isectStep [0, 1, 2, 3]
    ∧ u.Sends u.isectStep
      (fun j => if j = 0 then [mkData va] else if j = 1 then [mkData (u.val 1)] else if j = 2 then [mkData (u.val 3)] else [])
    ∧ u.isectStep.elems = u.elems := by
  have hstep : u.isectStep = ((u.emit3 va (u.val 1) (u.val 3)).take2 0 1).take2 2 3 := by simp only [SUnit.isectStep, ha, hb, if_pos heq]
  rw [hstep]
  refine ⟨SUnit.takes_both (SUnit.emit3_ins ..) hw0 hw2, (SUnit.sends_emit3 _ _ _).congr ?_ fun _ _ => rfl, ?_⟩
  · rw [SUnit.take2_outs, SUnit.take2_outs]
  · simp [SUnit.emit3]

include hw0 in
theorem SUnit.isectStep_lower (hlt : va.toNat < vb.toNat) : u.Takes u.isectStep [0, 1] ∧ u.Sends u.isectStep
    (fun j => if fldN (u.pw 0) 31 1 = 1 then
      if j = 0 then [mkData va] else if j = 1 then [mkData (u.val 1)] else if j = 2 then [mkData (u.pw 1)] else [] else []) := by
  have hne : va ≠ vb := fun heq => absurd (congrArg BitVec.toNat heq) (Nat.ne_of_lt hlt)
  have hstep : u.isectStep = (if fldN (u.pw 0) 31 1 = 1 then u.emit3 va (u.val 1) (u.pw 1) else u).take2 0 1 := by
    simp only [SUnit.isectStep, ha, hb, if_neg hne, if_pos hlt]
  rw [hstep]
  exact ⟨SUnit.takes_take2 (SUnit.emit3_if_ins ..) (by decide) (by decide) (by decide) hw0,
    (SUnit.sends_emit3 _ _ _).ite.congr (SUnit.take2_outs ..) fun _ _ => rfl⟩

include hw2 in
theorem SUnit.isectStep_higher (hlt : vb.toNat < va.toNat) : u.Takes u.isectStep [2, 3] ∧ u.Sends u.isectStep
    (fun j => if fldN (u.pw 0) 31 1 = 1 then
      if j = 0 then [mkData vb] else if j = 1 then [mkData (u.pw 1)] else if j = 2 then [mkData (u.val 3)] else [] else []) := by
  have hne : va ≠ vb := fun heq => absurd (congrArg BitVec.toNat heq).symm (Nat.ne_of_lt hlt)
  have hstep : u.isectStep = (if fldN (u.pw 0) 31 1 = 1 then u.emit3 vb (u.pw 1) (u.val 3) else u).take2 2 3 := by
    simp only [SUnit.isectStep, ha, hb, if_neg hne, if_neg (Nat.lt_asymm hlt)]
  rw [hstep]
  exact ⟨SUnit.takes_take2 (SUnit.emit3_if_ins ..) (by decide) (by decide) (by decide) hw2,
    (SUnit.sends_emit3 _ _ _).ite.congr (SUnit.take2_outs ..) fun _ _ => rfl⟩

end Compare

/-- R263: two stops are taken together; the higher goes on. -/
theorem SUnit.isectStep_stops (hw0 : (u.ports.inAt 0).wired = true) (hw2 : (u.ports.inAt 2).wired = true)
    (ha : u.ihead 0 = some (.stop (stopLevel a))) (hb : u.ihead 2 = some (.stop (stopLevel b))) (ha2 : 2 ≤ a.tag.toNat)
    (hb2 : 2 ≤ b.tag.toNat) : u.isectTakes = (true, true) ∧ u.Takes u.isectStep [0, 1, 2, 3]
      ∧ u.Sends u.isectStep (fun _ => [⟨0, BitVec.ofNat 4 (max a.tag.toNat b.tag.toNat)⟩]) := by
  have hlevel : mkStop (max (stopLevel a) (stopLevel b)) = ⟨0, BitVec.ofNat 4 (max a.tag.toNat b.tag.toNat)⟩ :=
    mkStop_eq (by rw [stopLevel, stopLevel]; omega)
  have hstep : u.isectStep = ((u.emitAll ⟨0, BitVec.ofNat 4 (max a.tag.toNat b.tag.toNat)⟩).take2 0 1).take2 2 3 := by
    simp only [SUnit.isectStep, ha, hb, hlevel]
  rw [hstep]
  refine ⟨by simp only [SUnit.isectTakes, ha, hb], SUnit.takes_both (SUnit.emitAll_ins ..) hw0 hw2,
    (SUnit.sends_emitAll _).congr ?_ fun _ _ => rfl⟩
  rw [SUnit.take2_outs, SUnit.take2_outs]

end Intersecter

/-! Repeaters (R264). -/

section Repeater
variable {buf : List (Word × Word)} {c : Word × Word × Tag} {n : Word} {c1 c2 copy entry : Nat}

section Fill
variable (hst : u.st = .rep buf none none c1 c2) (hhead : u.head 0 = some t) (hvalue : u.has 1 = true) (habort2 : u.abortAt 2 = false)
include hwork hst hhead hvalue habort2

theorem exec_repeaterStep_entry (hdata : t.tag = Tag.data ∨ t.tag = Tag.last) (hlen : buf.length < 8191) :
    exec (.repeaterStep k) s = .next (s.setUnit k { u.take2 0 1 with st := .rep (buf ++ [(t.data, u.val 1)]) none none 0 0 }) := by
  have hexec : exec (.repeaterStep k) s = execRepeaterStep k s := rfl
  obtain ⟨hread, habort, -⟩ := Token.reads_data hdata
  simp only [hexec, execRepeaterStep, hwork.unit, hwork.live, hwork.held, hst, hhead, hvalue, habort2, hread, habort, if_neg (Nat.not_le.2 hlen)]
  rfl

theorem exec_repeaterStep_close (h2 : 2 ≤ t.tag.toNat) (h5 : t.tag.toNat ≤ 5) :
    exec (.repeaterStep k) s = .next (s.setUnit k { u.take2 0 1 with st := .rep buf (some (t.data, u.val 1, t.tag)) none 0 0 }) := by
  have hexec : exec (.repeaterStep k) s = execRepeaterStep k s := rfl
  obtain ⟨hread, habort, hstop⟩ := Token.reads_stop h2 h5
  simp only [hexec, execRepeaterStep, hwork.unit, hwork.live, hwork.held, hst, hhead, hvalue, habort2, hread, habort, hstop]
  rfl

end Fill

include hwork in
/-- R254: an ABORT at i2 outside the copies goes to every output. -/
theorem exec_repeaterStep_abort (hst : u.st = .rep buf none none c1 c2) (hhead : u.head 2 = some t) (habort : t.tag = Tag.abort)
    (hroom : u.room (List.range 8) = true) : exec (.repeaterStep k) s = .next (s.setUnit k ((u.take 2).emitAll t)) := by
  have hexec : exec (.repeaterStep k) s = execRepeaterStep k s := rfl
  have habort2 : u.abortAt 2 = true := by simp [SUnit.abortAt, hhead, isAbort, habort]
  simp only [hexec, execRepeaterStep, hwork.unit, hwork.live, hwork.held, hst, habort2, hroom, SUnit.passAbort, hhead]
  rfl

include hwork in
theorem exec_repeaterStep_count (hst : u.st = .rep buf (some c) none c1 c2) (hhead : u.head 2 = some t)
    (hdata : t.tag = Tag.data ∨ t.tag = Tag.last) :
    exec (.repeaterStep k) s = .next (s.setUnit k { u.take 2 with st := .rep buf (some c) (some t.data) 0 0 }) := by
  have hexec : exec (.repeaterStep k) s = execRepeaterStep k s := rfl
  obtain ⟨hread, habort, -⟩ := Token.reads_data hdata
  simp only [hexec, execRepeaterStep, hwork.unit, hwork.live, hwork.held, hst, hhead, hread, habort]
  rfl

section Copies
variable (hst : u.st = .rep buf (some c) (some n) copy entry) (hroom : u.room [0, 1] = true)
include hwork hst hroom

theorem exec_repeaterStep_copy {x v : Word} (hn : n ≠ 0) (hentry : buf[entry]? = some (x, v)) : exec (.repeaterStep k) s = .next
    (s.setUnit k { (u.emit 0 (mkData x)).emit 1 (mkData v) with st := .rep buf (some c) (some n) copy (entry + 1) }) := by
  have hexec : exec (.repeaterStep k) s = execRepeaterStep k s := rfl
  simp only [hexec, execRepeaterStep, hwork.unit, hwork.live, hwork.held, hst, hroom, if_neg hn, hentry]
  rfl

theorem exec_repeaterStep_next (hend : buf.length ≤ entry) (hmore : copy + 1 < n.toNat) : exec (.repeaterStep k) s = .next (s.setUnit k
    { (u.emit 0 (mkStop (repSep u))).emit 1 (mkStop (repSep u)) with st := .rep buf (some c) (some n) (copy + 1) 0 }) := by
  have hexec : exec (.repeaterStep k) s = execRepeaterStep k s := rfl
  have hnone : (if n = 0 then none else buf[entry]?) = none := by rw [List.getElem?_eq_none hend, ite_self]
  simp only [hexec, execRepeaterStep, hwork.unit, hwork.live, hwork.held, hst, hroom, hnone, if_pos hmore]
  rfl

theorem exec_repeaterStep_last (hend : n = 0 ∨ buf.length ≤ entry) (hlast : n.toNat ≤ copy + 1) : exec (.repeaterStep k) s = .next
    (s.setUnit k { ((u.emit 0 ⟨c.1, c.2.2⟩).emit 1 ⟨c.2.1, c.2.2⟩).done with st := .rep [] none none 0 0 }) := by
  have hexec : exec (.repeaterStep k) s = execRepeaterStep k s := rfl
  have hnone : (if n = 0 then none else buf[entry]?) = none := by
    rcases hend with hzero | hend
    · rw [if_pos hzero]
    · rw [List.getElem?_eq_none hend, ite_self]
  simp only [hexec, execRepeaterStep, hwork.unit, hwork.live, hwork.held, hst, hroom, hnone, if_neg (Nat.not_lt.2 hlast)]
  rfl

end Copies

end Repeater

/-! Reducers (R265). -/

section Reducer
variable {acc : Table Word}

/-- R265: the entry of a key once `v` has been added to it. -/
def SUnit.reduced (u : SUnit) (acc : Table Word) (j : Nat) (v : Word) : Word :=
  (Table.get? acc j).elim v fun old => if fldN (u.pw 0) 31 1 = 1 then old + v else Word.ofNat (fp32.addC old.toNat v.toNat).code

section Accumulate
variable (hst : u.st = .red acc none) (hhead : u.head 0 = some t) (hvalue : u.has 1 = true)
include hwork hst hhead hvalue

theorem exec_reducerStep_pair (hdata : t.tag = Tag.data ∨ t.tag = Tag.last) (hkey : (t.data - u.pw 1).toNat < 4096) :
    exec (.reducerStep k) s = .next (s.setUnit k { (u.take2 0 1).done with
      st := .red (Table.put acc (t.data - u.pw 1).toNat (u.reduced acc (t.data - u.pw 1).toNat (u.val 1))) none }) := by
  have hexec : exec (.reducerStep k) s = execReducerStep k s := rfl
  obtain ⟨hread, habort, -⟩ := Token.reads_data hdata
  simp only [hexec, execReducerStep, hwork.unit, hwork.live, hwork.held, hst, hhead, hvalue, hread, habort, if_neg (Nat.not_le.2 hkey), SUnit.reduced]
  cases Table.get? acc (t.data - u.pw 1).toNat <;> rfl

theorem exec_reducerStep_stop (h2 : 2 ≤ t.tag.toNat) (h5 : t.tag.toNat ≤ 5) : exec (.reducerStep k) s = .next
    (if u.room [0, 1] then s.setUnit k { u.take2 0 1 with
      elems := if t.tag.toNat - 1 < redLevel u then u.elems + 1 else u.elems
      st := .red acc (if t.tag.toNat - 1 < redLevel u then none else some (t.tag.toNat - 2)) } else s) := by
  have hexec : exec (.reducerStep k) s = execReducerStep k s := rfl
  obtain ⟨hread, habort, hstop⟩ := Token.reads_stop h2 h5
  have hst' := (u.take2_st 0 1).trans hst
  simp only [hexec, execReducerStep, hwork.unit, hwork.live, hwork.held, hst, hhead, hvalue, hread, habort, hstop, stopLevel, Nat.sub_sub]
  cases u.room [0, 1]
  · rfl
  · by_cases hlevel : t.tag.toNat - 1 < redLevel u
    · simp [hlevel, SUnit.done, ← hst']
    · simp only [hlevel, ← u.take2_elems 0 1]; rfl

end Accumulate

/-- R265: only the key's entry changes, to its first value, the wrapped sum, or the sum as FADD delivers it (R165). -/
theorem SUnit.reduced_table (u : SUnit) (acc : Table Word) (j : Nat) (v : Word) :
    (∀ i, i ≠ j → Table.get? (Table.put acc j (u.reduced acc j v)) i = Table.get? acc i)
    ∧ (Table.get? acc j = none → Table.get? (Table.put acc j (u.reduced acc j v)) j = some v)
    ∧ (∀ old, Table.get? acc j = some old → fldN (u.pw 0) 31 1 = 1 →
        Table.get? (Table.put acc j (u.reduced acc j v)) j = some (old + v))
    ∧ (∀ old, Table.get? acc j = some old → fldN (u.pw 0) 31 1 = 0 → ∃ r f m,
        Table.get? (Table.put acc j (u.reduced acc j v)) j = some r ∧ SumOf (fp32.value old.toNat) (fp32.value v.toNat) r f m) := by
  refine ⟨fun i hi => Table.get?_put_other _ _ _ _ hi, fun hnone => ?first, fun old hold hwrap => ?wrap, fun old hold hfloat => ?float⟩
  case first => rw [Table.get?_put_same, SUnit.reduced, hnone]; rfl
  case wrap => rw [Table.get?_put_same, SUnit.reduced, hold, Option.elim_some, if_pos hwrap]
  case float =>
    have hnew : u.reduced acc j v = Word.ofNat (fp32.addC old.toNat v.toNat).code := by
      rw [SUnit.reduced, hold, Option.elim_some, if_neg (by omega)]
    exact ⟨_, _, _, Table.get?_put_same .., hnew ▸ sumOf_deliver (fp32.value old.toNat) (fp32.value v.toNat)⟩

section Flush
variable {j lv : Nat} {v : Word} {rest : Table Word} (hroom : u.room [0, 1] = true)
include hwork hroom

theorem exec_reducerFlush_entry (hst : u.st = .red ((j, v) :: rest) (some lv)) : exec (.reducerFlush k) s = .next (s.setUnit k
    { (u.emit 0 (mkData (u.pw 1 + Word.ofNat j))).emit 1 (mkData v) with st := .red rest (some lv) }) := by
  have hexec : exec (.reducerFlush k) s = execReducerFlush k s := rfl
  simp only [hexec, execReducerFlush, hwork.unit, hwork.live, hst, hroom]
  rfl

theorem exec_reducerFlush_stop (hlv : 0 < lv) (hst : u.st = .red [] (some lv)) : exec (.reducerFlush k) s = .next (s.setUnit k
    { ((u.emit 0 (mkStop lv)).emit 1 (mkStop lv)).done with st := .red [] none }) := by
  have hexec : exec (.reducerFlush k) s = execReducerFlush k s := rfl
  simp only [hexec, execReducerFlush, hwork.unit, hwork.live, hst, hroom, if_neg (Nat.pos_iff_ne_zero.1 hlv)]
  rfl

end Flush

end Reducer

/-! N:M decoders (R266, R267). -/

section Decoder
variable {g : Nat} {m : Token}

include hwork in
/-- One position of a group that has more: its value, or the filler. -/
theorem exec_nmDecoderStep_position {b : Bool} {left : List Bool} {held : Bool} (hst : u.st = .nm g (b :: left) held) (hleft : left ≠ [])
    (hroom : u.room [0] = true) : exec (.nmDecoderStep k) s = .next (s.setUnit k
      { (if b then (u.emit 0 (mkData (u.val 0))).take 0 else u.emit 0 (mkData (u.pw 1))) with st := .nm g left held }) := by
  have hexec : exec (.nmDecoderStep k) s = execNmDecoderStep k s := rfl
  have hmore : left.isEmpty = false := List.isEmpty_eq_false_iff.2 hleft
  simp only [hexec, execNmDecoderStep, hwork.unit, hwork.live, hwork.held, hst, hroom, hmore]
  rfl

theorem SUnit.abortAt_data {j : Nat} (hhead : u.head j = some t) (hdata : t.tag = Tag.data ∨ t.tag = Tag.last) : u.abortAt j = false := by
  simp only [SUnit.abortAt, hhead, (Token.reads_data hdata).2.1]

theorem SUnit.abortAt_stop {j : Nat} (hhead : u.head j = some t) (h2 : 2 ≤ t.tag.toNat) (h5 : t.tag.toNat ≤ 5) : u.abortAt j = false := by
  simp only [SUnit.abortAt, hhead, (Token.reads_stop h2 h5).2.1]

section Group
variable (hst : u.st = .nm g [] false) (hmeta : u.head 1 = some m) (hdata : m.tag = Tag.data ∨ m.tag = Tag.last)
include hwork hst hmeta hdata

/-- R266: a field of the 1-of-4 pattern names the position of its value. -/
theorem exec_nmDecoderStep_group {v : Token} (hpat : fldN (u.pw 0) 0 2 = 0) (hpos : m.data.toNat / 2 ^ (4 * g) % 2 ^ 4 < 4)
    (hhead : u.head 0 = some v) (hv : v.tag = Tag.data ∨ v.tag = Tag.last) : exec (.nmDecoderStep k) s = .next (s.setUnit k
      { u with st := .nm g ((List.range 4).map (fun j => [m.data.toNat / 2 ^ (4 * g) % 2 ^ 4 % 4].contains j)) false }) := by
  have hexec : exec (.nmDecoderStep k) s = execNmDecoderStep k s := rfl
  obtain ⟨hread, -, hstop⟩ := Token.reads_data hdata
  obtain ⟨hvread, -, hvstop⟩ := Token.reads_data hv
  have hfirst : (u.ports.inAt 0).buf.take 1 = [v] := by
    have hbuf : (u.ports.inAt 0).buf.head? = some v := hhead
    obtain ⟨l, hl⟩ := List.head?_eq_some_iff.1 hbuf
    rw [hl]; rfl
  have hlow : m.data.toNat / 2 ^ (4 * g) % 2 ^ 4 / 2 ^ (2 * 1) = 0 := by omega
  have hps : nmPos 1 2 (m.data.toNat / 2 ^ (4 * g) % 2 ^ 4) = [m.data.toNat / 2 ^ (4 * g) % 2 ^ 4 % 4] := by simp [nmPos]
  simp only [hexec, execNmDecoderStep, hwork.unit, hwork.live, hwork.held, hst, SUnit.abortAt_data hmeta hdata,
    SUnit.abortAt_data hhead hv, hmeta, hhead, hread, hstop, hvstop, hpat, nmShape, Bool.false_eq_true, if_false, hlow, hps, hfirst]
  simp [hvread, hvstop, ascending]

/-- R267: a stop at the values discards the groups left in the metadata token. -/
theorem exec_nmDecoderStep_discard (hhead : u.head 0 = some t) (h2 : 2 ≤ t.tag.toNat) (h5 : t.tag.toNat ≤ 5) :
    exec (.nmDecoderStep k) s = .next
      (if u.room [0] then s.setUnit k { (u.take 1).done with st := .nm 0 [] false, hold := 0 } else s) := by
  have hexec : exec (.nmDecoderStep k) s = execNmDecoderStep k s := rfl
  obtain ⟨hread, -, hstop⟩ := Token.reads_data hdata
  simp only [hexec, execNmDecoderStep, hwork.unit, hwork.live, hwork.held, hst, SUnit.abortAt_data hmeta hdata,
    SUnit.abortAt_stop hhead h2 h5, hmeta, hhead, hread, hstop, (Token.reads_stop h2 h5).2.2]
  simp

end Group

end Decoder

/-! The Aperture unit (R268, R269). -/

section Aperture
variable {pix : List Word} {taken n j : Nat}

include hwork in
/-- R269: a pixel is kept behind those that the windows still to come need. -/
theorem exec_apertureStep_pixel (hst : u.st = .aper pix taken n j none) (hhead : u.head 0 = some t)
    (hdata : t.tag = Tag.data ∨ t.tag = Tag.last) (hnone : u.room [0] = false ∨ u.aperEmit = none) (hlen : pix.length < 32768) :
    exec (.apertureStep k) s = .next (s.setUnit k { u.take 0 with
      st := .aper (aperDrop pix taken (aperKeep (aperOf (u.pw 0)) n j) ++ [t.data]) (taken + 1) n j none }) := by
  have hexec : exec (.apertureStep k) s = execApertureStep k s := rfl
  obtain ⟨hread, habort, -⟩ := Token.reads_data hdata
  have hwait : (if u.room [0] then u.aperEmit else none) = none := by
    rcases hnone with hroom | hnone
    · rw [hroom]; rfl
    · rw [hnone, ite_self]
  have hkept : (aperDrop pix taken (aperKeep (aperOf (u.pw 0)) n j)).length < 32768 := by
    rw [aperDrop, List.length_drop]; omega
  simp only [hexec, execApertureStep, hwork.unit, hwork.live, hwork.held, hst, hwait, hhead, hread, habort, if_pos hkept]
  rfl

include hwork in
/-- R269: a window's word leaves once the window's last pixel has been taken. -/
theorem exec_apertureStep_word (hst : u.st = .aper pix taken n j none) (hroom : u.room [0] = true)
    (hj : j < (aperOf (u.pw 0)).kh * (aperOf (u.pw 0)).kw)
    (hlast : (aperOf (u.pw 0)).index n ((aperOf (u.pw 0)).kh * (aperOf (u.pw 0)).kw - 1) < taken) :
    exec (.apertureStep k) s = .next (s.setUnit k
      { u.emit 0 (mkData (pix.getD ((aperOf (u.pw 0)).index n j - (taken - pix.length)) 0)) with st := .aper pix taken n (j + 1) none }) := by
  have hexec : exec (.apertureStep k) s = execApertureStep k s := rfl
  have hemit : u.aperEmit = some
      { u.emit 0 (mkData (pix.getD ((aperOf (u.pw 0)).index n j - (taken - pix.length)) 0)) with st := .aper pix taken n (j + 1) none } := by
    simp only [SUnit.aperEmit, hst, if_pos hj, if_pos hlast]
  simp only [hexec, execApertureStep, hwork.unit, hwork.live, hwork.held, hst, hroom, if_true, hemit]
  rfl

end Aperture

/-! The Splitter (R270 to R273). -/

section Splitter
variable {rings : List (Nat × Nat × Nat)} {rr tg n w : Nat} {granted : Bool}

section Stream
variable (hhead : u.head 0 = some t) (hdata : t.tag = Tag.data ∨ t.tag = Tag.last) (hquiet : s.unitAccs k = [])
include hwork hhead hdata hquiet

/-- R272: without slots a vector begins at once. -/
theorem exec_splitterStep_begins (hst : u.st = .split none false none 0 rings none none rr)
    (htarget : fldN t.data 0 3 ≤ fldN (u.pw 0) 0 3) (hslots : fldN (u.pw 0) 31 1 = 0) : exec (.splitterStep k) s = .next (s.setUnit k
      { u with st := .split (some (fldN t.data 0 3, 0)) false none 0 rings none none rr }) := by
  have hexec : exec (.splitterStep k) s = execSplitterStep k s := rfl
  obtain ⟨hread, habort, hstop⟩ := Token.reads_data hdata
  have hfree : splitSlots u = false := by simp [splitSlots, hslots]
  simp only [hexec, execSplitterStep, hwork.unit, hwork.live, hwork.held, hst, State.unitFailed_of_quiet hquiet, hhead, hread, habort, hstop, hfree,
    if_neg (Nat.not_lt.2 htarget)]
  rfl

/-- R272: the unit after one token of the vector in progress. -/
def SUnit.streamed (u : SUnit) (tg n : Nat) (granted : Bool) (rings : List (Nat × Nat × Nat)) (rr : Nat) (t : Token) : SUnit :=
  { (u.emit tg t).take 0 with
    elems := if t.tag = Tag.last then u.elems + 1 else u.elems
    st := if t.tag = Tag.last then .split none false none 0 rings none none rr
      else .split (some (tg, n + 1)) granted none 0 rings none none rr }

theorem exec_splitterStep_streams (hst : u.st = .split (some (tg, n)) granted none 0 rings none none rr) (hn : n < 256)
    (hroom : u.room [tg] = true) : exec (.splitterStep k) s = .next (s.setUnit k (u.streamed tg n granted rings rr t)) := by
  have hexec : exec (.splitterStep k) s = execSplitterStep k s := rfl
  obtain ⟨-, habort, -⟩ := Token.reads_data hdata
  obtain ⟨hmark, hdrain⟩ := Token.not_control hdata
  simp only [hexec, execSplitterStep, hwork.unit, hwork.live, hwork.held, hst, State.unitFailed_of_quiet hquiet, hhead, habort, hmark, hdrain, hroom,
    if_neg (Nat.not_le.2 hn), SUnit.streamed, ← u.emit_elems tg t]
  by_cases hlast : t.tag = Tag.last
  · simp only [if_pos hlast]; rfl
  · simp only [if_neg hlast]; rfl

end Stream

/-- R272: a request for a slot is one ATAKE of 1 on the target's word. -/
theorem State.askSlot_asks (s : State) (k : Nat) (u : SUnit) (tg : Nat) (st : Nat → UState)
    (hcode : unitCheck (s.unitWin k (fldN (u.pw 0) 8 3)) (s.unitWin k (fldN (u.pw 0) 8 3)).a ((u.pw 1).toNat + 4 * tg) 4 = 0) :
    ∃ a : Access, (s.askSlot k u tg st).accs = s.accs ++ [a] ∧ a.va = (s.unitWin k (fldN (u.pw 0) 8 3)).base + ((u.pw 1).toNat + 4 * tg)
      ∧ a.size = 4 ∧ a.act = .atomic 0xB8 1 0 ∧ a.src = .unit k ∧ (s.askSlot k u tg st).unit? k = some { u with st := st s.fresh } := by
  have hask : s.askSlot k u tg st = (s.setUnit k { u with st := st s.fresh }).unitIssue k (.unit k) false
      [(s.unitWin k (fldN (u.pw 0) 8 3), (u.pw 1).toNat + 4 * tg, 4, .atomic 0xB8 1 0)] := by
    simp only [State.askSlot, hcode]; rfl
  rw [hask]
  exact ⟨_, rfl, rfl, rfl, rfl, rfl, State.unit_setUnit ..⟩

include hwork in
theorem exec_splitterSlotRetry (hst : u.st = .split none false none (w + 1) rings none none rr) (hhead : u.head 0 = some t) :
    exec (.splitterSlotRetry k) s = .next
      (s.askSlot k u (fldN t.data 0 3) (fun id => .split none false (some id) 0 rings none none rr)) := by
  have hexec : exec (.splitterSlotRetry k) s = execSplitterSlotRetry k s := rfl
  simp only [hexec, execSplitterSlotRetry, hwork.unit, hst, hhead, hwork.live, if_true]

include hwork in
theorem exec_splitterSpillRead_asks (hst : u.st = .split none false none 0 rings none none rr) (hquiet : s.unitAccs k = [])
    (hring : nextRing rings rr = some tg) : exec (.splitterSpillRead k) s = .next
      (s.askSlot k u tg (fun id => .split none false (some id) 0 rings none (some (tg, 0, [])) tg)) := by
  have hexec : exec (.splitterSpillRead k) s = execSplitterSpillRead k s := rfl
  simp only [hexec, execSplitterSpillRead, hwork.unit, hwork.live, hwork.held, hst, State.unitFailed_of_quiet hquiet, hring]
  rfl

/-! A vector on its way into a ring (R273). -/

section Spill
variable {ask : Option Nat} {l : List Word} {rd : Option (Nat × Nat × List Word)}
  (hst : u.st = .split none granted ask w rings (some (tg, l)) rd rr) (hhead : u.head 0 = some t) (hlen : l.length < 256)
include hwork hst hhead hlen

theorem exec_splitterSpillWrite_keeps (htag : t.tag = Tag.data) : exec (.splitterSpillWrite k) s = .next (s.setUnit k
    { u.take 0 with st := .split none false none 0 rings (some (tg, l ++ [t.data])) none rr }) := by
  have hexec : exec (.splitterSpillWrite k) s = execSplitterSpillWrite k s := rfl
  have hne : t.tag ≠ Tag.last := by rw [htag]; decide
  obtain ⟨hmark, hdrain⟩ := Token.not_control (.inl htag)
  simp only [hexec, execSplitterSpillWrite, hwork.unit, hwork.live, hst, hhead, hmark, hdrain, (Token.reads_data (.inl htag)).2.1,
    if_neg (Nat.not_le.2 hlen), if_pos hne]
  rfl

/-- The rings once a vector has been written behind those of target `tg`. -/
def pushRing (u : SUnit) (rings : List (Nat × Nat × Nat)) (tg : Nat) : List (Nat × Nat × Nat) :=
  (List.range 8).map (fun k => if k = tg then ((ringOf rings tg).1, ((ringOf rings tg).2.1 + 1) % splitCap u, (ringOf rings tg).2.2 + 1)
    else ringOf rings k)

variable (htag : t.tag = Tag.last)
include htag

section Last
variable {win : Window} {off : Nat} (hwin : s.unitWin k (fldN (u.pw 0) 4 3) = win) (hoff : ringOff u tg (ringOf rings tg).2.1 = off)
include hwin hoff

/-- R182, R273: the last token checks the tail slot of the ring. -/
theorem exec_splitterSpillWrite_faults (hcode : unitCheck win win.w off 4 ≠ 0) : exec (.splitterSpillWrite k) s = .next
    (s.unitFreeze k (unitCheck win win.w off 4) 0 (some (win.base + off)) off) := by
  have hexec : exec (.splitterSpillWrite k) s = execSplitterSpillWrite k s := rfl
  obtain ⟨hmark, hdrain⟩ := Token.not_control (.inr htag)
  have hlast : ¬ t.tag ≠ Tag.last := not_not.2 htag
  rcases hring : ringOf rings tg with ⟨hd, tl, c⟩
  rw [hring] at hoff
  simp only [hexec, execSplitterSpillWrite, hwork.unit, hwork.live, hst, hhead, hmark, hdrain, (Token.reads_data (.inr htag)).2.1,
    if_neg (Nat.not_le.2 hlen), if_neg hlast, hring, hwin, hoff, if_pos hcode]
  rfl

/-- R273: the last token writes the count and the words into the tail slot, as one posted operation. -/
theorem exec_splitterSpillWrite_writes (hcode : unitCheck win win.w off 4 = 0) (hfits : off + 4 + 4 * (l.length + 1) ≤ win.len) :
    exec (.splitterSpillWrite k) s = .next
      ((s.setUnit k { (u.take 0).done with st := .split none false none 0 (pushRing u rings tg) none none rr }).unitIssue k
        (.root k s.fresh) true (spillWrite win off (l ++ [t.data]))) := by
  have hexec : exec (.splitterSpillWrite k) s = execSplitterSpillWrite k s := rfl
  obtain ⟨hmark, hdrain⟩ := Token.not_control (.inr htag)
  have hlast : ¬ t.tag ≠ Tag.last := not_not.2 htag
  have hcode' : ¬ unitCheck win win.w off 4 ≠ 0 := not_not.2 hcode
  have hfits' : ¬ win.len < off + 4 + 4 * (l ++ [t.data]).length := by rw [List.length_append]; exact Nat.not_lt.2 hfits
  rcases hring : ringOf rings tg with ⟨hd, tl, c⟩
  rw [hring] at hoff
  simp only [hexec, execSplitterSpillWrite, hwork.unit, hwork.live, hst, hhead, hmark, hdrain, (Token.reads_data (.inr htag)).2.1,
    if_neg (Nat.not_le.2 hlen), if_neg hlast, hring, hwin, hoff, if_neg hcode', if_neg hfits', pushRing]
  rfl

end Last

end Spill

theorem ringOf_pushRing (u : SUnit) (rings : List (Nat × Nat × Nat)) (htg : tg < 8) : ringOf (pushRing u rings tg) tg =
    ((ringOf rings tg).1, ((ringOf rings tg).2.1 + 1) % splitCap u, (ringOf rings tg).2.2 + 1) := by
  rw [ringOf, pushRing, List.getD_eq_getElem _ _ (by simpa using htg), List.getElem_map, List.getElem_range, if_pos rfl]

/-- What the accesses of an issue are: those of the list, from one source, posted or not. -/
theorem State.unitIssue_accs (s : State) (k : Nat) (src : Port) (posted : Bool) (l : List (Window × Nat × Nat × Act)) :
    ∃ l', (s.unitIssue k src posted l).accs = s.accs ++ l'
      ∧ (∀ a ∈ l', a.posted = posted ∧ a.src = src ∧ ∃ x ∈ l, a.size = x.2.2.1)
      ∧ l'.map (fun a => a.va) = l.map (fun x => x.1.base + x.2.1) ∧ l'.map (fun a => a.act) = l.map (fun x => x.2.2.2) := by
  have hzip : ∀ {β : Type} (g : Window × Nat × Nat × Act → β), l.zipIdx.map (fun x => g x.1) = l.map g := fun g => by
    conv_rhs => rw [← List.zipIdx_map_fst 0 l, List.map_map]
    rfl
  refine ⟨_, rfl, fun a ha => ?_, ?_, ?_⟩
  · obtain ⟨⟨x, i⟩, hx, rfl⟩ := List.mem_map.1 ha
    exact ⟨rfl, rfl, x, List.fst_mem_of_mem_zipIdx hx, rfl⟩
  · rw [List.map_map]; exact hzip fun x => x.1.base + x.2.1
  · rw [List.map_map]; exact hzip fun x => x.2.2.2

/-- R273: the count and the words of a vector, one word after the other. -/
theorem spillWrite_words (win : Window) (off : Nat) (l : List Word) :
    (∀ x ∈ spillWrite win off l, x.2.2.1 = 4)
    ∧ (spillWrite win off l).map (fun x => x.1.base + x.2.1) = (List.range (l.length + 1)).map (fun j => win.base + (off + 4 * j))
    ∧ (spillWrite win off l).map (fun x => x.2.2.2) = Act.write (Word.ofNat l.length) :: l.map Act.write := by
  refine ⟨?size, ?va, ?act⟩
  case size =>
    intro x hx
    rcases List.mem_cons.1 hx with rfl | hx
    · rfl
    · obtain ⟨y, -, rfl⟩ := List.mem_map.1 hx
      rfl
  case va =>
    refine List.ext_getElem (by simp [spillWrite]) fun j hj _ => ?_
    rcases j with _ | j
    · simp [spillWrite]
    · simp only [spillWrite, List.map_cons, List.getElem_cons_succ, List.getElem_map, List.getElem_zipIdx, List.getElem_range]
      omega
  case act =>
    simp only [spillWrite, List.map_cons, List.map_map]
    congr 1
    conv_rhs => rw [← List.zipIdx_map_fst 0 l, List.map_map]
    rfl

/-! A spilled vector on its way out (R273). -/

section Unspill
variable {v : Word} {ws : List Word}

/-- R273: the unit after one word of a spilled vector. -/
def SUnit.unspilled (u : SUnit) (rings : List (Nat × Nat × Nat)) (tg n rr : Nat) (v : Word) (ws : List Word) : SUnit :=
  { u.emit tg ⟨v, if ws = [] then Tag.last else Tag.data⟩ with
    st := if ws = [] then .split none false none 0 ((List.range 8).map (fun j => if j = tg then
          (((ringOf rings tg).1 + 1) % splitCap u, (ringOf rings tg).2.1, (ringOf rings tg).2.2 - 1) else ringOf rings j)) none none rr
      else .split none false none 0 rings none (some (tg, n, ws)) rr }

include hwork in
theorem exec_splitterSpillRead_sends (hst : u.st = .split none false none 0 rings none (some (tg, n, v :: ws)) rr)
    (hquiet : s.unitAccs k = []) (hroom : u.room [tg] = true) :
    exec (.splitterSpillRead k) s = .next (s.setUnit k (u.unspilled rings tg n rr v ws)) := by
  have hexec : exec (.splitterSpillRead k) s = execSplitterSpillRead k s := rfl
  simp only [hexec, execSplitterSpillRead, hwork.unit, hwork.live, hst, State.unitFailed_of_quiet hquiet, hroom, SUnit.unspilled]
  cases ws <;> rfl

end Unspill

end Splitter

/-! The Collimator (R275). -/

section Collimator
variable {rr : Nat} {buf : List (BitVec 16 × Bool × List Token)}

/-- R275: the connected inputs in the order in which they are tried. -/
def SUnit.collInputs (u : SUnit) (rr : Nat) : List Nat :=
  ((List.range 8).map (fun k => (rr + 1 + k) % 8)).filter (fun k => (u.ports.inAt k).wired)

theorem SUnit.collInputs_cons (hwired : (u.ports.inAt ((rr + 1) % 8)).wired = true) :
    ∃ ks, u.collInputs rr = (rr + 1) % 8 :: ks := by
  refine ⟨((List.range' 1 7).map (fun k => (rr + 1 + k) % 8)).filter (fun k => (u.ports.inAt k).wired), ?_⟩
  have hrange : List.range 8 = 0 :: List.range' 1 7 := rfl
  rw [SUnit.collInputs, hrange, List.map_cons]
  exact List.filter_cons_of_pos (p := fun k => (u.ports.inAt k).wired) hwired

include hwork in
/-- A token that heads the first input in turn and can be taken is taken, after the buffer has sent its own. -/
theorem exec_collimatorStep (hst : u.st = .coll buf [] rr) (hwired : (u.ports.inAt ((rr + 1) % 8)).wired = true)
    (hhead : u.head ((rr + 1) % 8) = some t) (hdata : t.tag = Tag.data ∨ t.tag = Tag.last) (hroom : u.room [0] = true)
    {u1 u' : SUnit} {buf1 : List (BitVec 16 × Bool × List Token)} {used : Bool} (hout : u.collOut buf = (u1, buf1, used))
    (htake : u1.collTake (fld u.hold 0 16) buf1 [] (!used) ((rr + 1) % 8) t = some (some u')) :
    exec (.collimatorStep k) s = .next (s.setUnit k u') := by
  have hexec : exec (.collimatorStep k) s = execCollimatorStep k s := rfl
  obtain ⟨ks, hks⟩ := SUnit.collInputs_cons hwired
  have hks' : ((List.range 8).map (fun k => (rr + 1 + k) % 8)).filter (fun k => (u.ports.inAt k).wired) = (rr + 1) % 8 :: ks := hks
  have hno : (u.head ((rr + 1) % 8)).filter isStop = none := by
    rw [hhead, Option.filter_some, (Token.reads_data hdata).2.2]; rfl
  have hfewer : ((((rr + 1) % 8) :: ks).filterMap (fun k => (u.head k).filter isStop)).length ≠ ((rr + 1) % 8 :: ks).length := by
    rw [List.filterMap_cons_none (f := fun k => (u.head k).filter isStop) hno, List.length_cons]
    exact Nat.ne_of_lt (Nat.lt_succ_of_le (List.length_filterMap_le ..))
  have hfirst : (((rr + 1) % 8) :: ks).findSome? (fun k => (u.head k).bind
      (u1.collTake (fld u.hold 0 16) buf1 [] (!used && u.room [0]) k)) = some (some u') := by
    rw [List.findSome?_cons, hhead, Option.bind_some, hroom, Bool.and_true, htake]
  simp only [hexec, execCollimatorStep, hwork.unit, hwork.live, hst, hks', hout, hfirst, hfewer, false_and, if_false]
  rfl

theorem SUnit.collOut_nil : u.collOut [] = (u, [], false) := rfl

/-- R275: a buffered vector that NEXT names sends one token and keeps the others. -/
theorem SUnit.collOut_more {t0 t1 : Token} {ts : List Token} (hroom : u.room [0] = true) :
    u.collOut [(fld u.hold 0 16, true, t0 :: t1 :: ts)] = (u.emit 0 t0, [(fld u.hold 0 16, true, t1 :: ts)], true) := by
  simp [SUnit.collOut, hroom]

/-- The unit that has taken a token at `p`. -/
def SUnit.collected (u : SUnit) (buf : List (BitVec 16 × Bool × List Token)) (cur : List (Nat × BitVec 16 × Bool × Nat)) (p : Nat) : SUnit :=
  { u.take p with st := .coll buf cur p }

variable {p : Nat} {next : BitVec 16}

/-- R275: a token of NEXT's vector goes straight to o0; with LAST, NEXT goes on by one. -/
theorem SUnit.collTake_through (hheld : u.held = false) (hdata : t.tag = Tag.data ∨ t.tag = Tag.last) (hseq : fld t.data 16 16 = next) :
    u.collTake next [] [] true p t = some (some (if t.tag == Tag.last then
      { ((u.emit 0 t).collected [] [] p).done with hold := Word.ofNat (next + 1).toNat }
      else (u.emit 0 t).collected [] [(p, next, false, 1)] p)) := by
  obtain ⟨hread, habort, -⟩ := Token.reads_data hdata
  have hzero : (next - next).toNat = 0 := by rw [BitVec.sub_self]; rfl
  simp only [SUnit.collTake, List.find?_nil, habort, hread, hheld, hseq, hzero]
  rfl

/-- R275: a token of a later vector goes into the buffer. -/
theorem SUnit.collTake_keeps (hheld : u.held = false) (hdata : t.tag = Tag.data ∨ t.tag = Tag.last) (hne : fld t.data 16 16 ≠ next)
    (hfar : (fld t.data 16 16 - next).toNat < 256) {t1 : Token} {ts : List Token} (hlen : ts.length < 4095) (free : Bool) :
    u.collTake next [(next, true, t1 :: ts)] [] free p t = some (some (u.collected
      [(next, true, t1 :: ts), (fld t.data 16 16, t.tag == Tag.last, [t])]
      (if t.tag == Tag.last then [] else [(p, fld t.data 16 16, true, 1)]) p)) := by
  obtain ⟨hread, habort, -⟩ := Token.reads_data hdata
  have hpos : (fld t.data 16 16 - next).toNat ≠ 0 := by
    generalize (fld t.data 16 16 : BitVec 16) = seq at hne
    bv_omega
  have hbuf : ([(next, true, t1 :: ts)].any fun x => x.1 == (fld t.data 16 16 : BitVec 16)) = false := by simp [Ne.symm hne]
  have hspace : [(next, true, t1 :: ts)].length < 256 ∧ collTokens [(next, true, t1 :: ts)] < 4096 := by
    simp [collTokens]; omega
  simp only [SUnit.collTake, List.find?_nil, habort, hread, hheld, hpos, hfar, hbuf, hspace, collKeep]
  rfl

theorem SUnit.held_emit (j : Nat) (t : Token) : (u.emit j t).held = u.held := by simp [SUnit.held, SUnit.boundary]

theorem fld_low_ofNat (x : BitVec 16) : (fld (Word.ofNat x.toNat) 0 16 : BitVec 16) = x := by
  have hx := x.isLt
  refine BitVec.eq_of_toNat_eq ?_
  rw [fld_toNat, fldN, Word.toNat_ofNat_of_lt (by omega)]
  omega

end Collimator

end Units

/-! The obligation. -/

/-- Settles O53: for each clause the state that the unit's step leaves, its inputs taken by `SUnit.takes_take` or `SUnit.takes_take2` and
its tokens sent by `SUnit.sends_emit` or `SUnit.sends_emitAll`. -/
theorem streamUnits : Obligations.StreamUnits := by
  unfold Obligations.StreamUnits
  intro s k u hu hlife hmarked hheld one two three data quiet
  have hwork := State.works hu hlife hmarked hheld
  have htake2 : (u.ports.inAt 0).wired = true → u.Takes (u.take2 0 1) [0, 1] := fun hw =>
    SUnit.takes_take2 rfl (by decide) (by decide) (by decide) hw
  have htwo : ∀ x y, u.Takes ((u.emit 0 x).emit 1 y) [] := fun x y => SUnit.takes_nothing (by simp)
  refine ⟨?scanStart, ?scanEntry, ?scanStop, ?isect, ?repFill, ?repAbort, ?repCount, ?repCopies, ?reduce, ?flush, ?nmPosition, ?nmGroup,
    ?nmDiscard, ?aperPixel, ?aperWord, ?splitBegin, ?splitStream, ?splitRetry, ?spillWrite, ?spillAsk, ?spillSend, ?collPass, ?collKeep⟩
  case scanStart =>
    rintro t hst ⟨hhead, hdata⟩ hkind hwired
    have hexec := exec_scannerStep_head hwork hst
    rw [SUnit.scanHead_data hhead hdata hkind] at hexec
    exact unitActs_of_ends hexec (SUnit.takes_take rfl (by decide) hwired) (SUnit.sends_nothing rfl) ⟨_, rfl, rfl, rfl, rfl⟩
  case scanEntry =>
    intro p f hst hkind hvals hquiet hroom
    obtain ⟨hports, hlast, hmore⟩ := SUnit.scanEntry_dense (p := p) (f := f) hvals (Word.ofNat (f.at_ - f.lo)) (Word.ofNat f.at_) 0
    refine unitActs_of_setUnit (exec_scannerStep_dense hwork hst hkind hvals hquiet hroom) ⟨?_, ?_, hlast, hmore⟩
    · exact SUnit.takes_nothing (by rw [hports, SUnit.emit_ins, SUnit.emit_ins])
    · exact (SUnit.sends_two _ _).congr (congrArg Ports.outs hports) fun _ _ => rfl
  case scanStop =>
    intro p t hst hhead h2 h5 hroom hwired
    obtain ⟨hports, hst'⟩ := SUnit.scanHead_stop (p := p) hhead h2 h5 hroom
    refine unitActs_of_setUnit (exec_scannerStep_head hwork hst) ⟨?_, ?_, hst'⟩
    · exact (SUnit.takes_take rfl (by decide) hwired).congr ((congrArg Ports.ins hports).trans (SUnit.emitAll_ins ..))
    · exact ((SUnit.sends_emitAll _).of_outs (v := u.take 0) rfl).congr (congrArg Ports.outs hports) fun _ _ => rfl
  case isect =>
    intro hst hroom hw0 hw2 union
    refine ⟨fun a b ⟨ha, hda⟩ ⟨hb, hdb⟩ => ?coordinates, fun a b ha hb ha2 ha5 hb2 hb5 _ hv1 hv3 => ?stops⟩
    case coordinates =>
      obtain ⟨hia, hna⟩ := SUnit.ihead_data ha hda
      obtain ⟨hib, hnb⟩ := SUnit.ihead_data hb hdb
      have hexec := fun hsome hx hy => exec_intersecterStep hwork hst hroom hna hnb (SUnit.isectTakes_data hia hib) hsome hx hy
      refine ⟨fun heq hv1 hv3 => ?same, fun hlt hv1 => ?lower, fun hlt hv3 => ?higher⟩
      case same =>
        obtain ⟨htakes, hsends, helems⟩ := SUnit.isectStep_match hia hib hw0 hw2 heq
        exact unitActs_of_setUnit (hexec (.inl (by simp [heq])) (fun _ => hv1) fun _ => hv3)
          ⟨SUnit.takes_done.2 htakes, SUnit.sends_done.2 hsends, congrArg (· + 1) helems⟩
      case lower =>
        obtain ⟨htakes, hsends⟩ := SUnit.isectStep_lower hia hib hw0 hlt
        exact unitActs_of_setUnit (hexec (.inl (by simpa using hlt.le)) (fun _ => hv1) fun hy => absurd hlt (by simpa using hy))
          ⟨SUnit.takes_done.2 htakes, SUnit.sends_done.2 hsends⟩
      case higher =>
        obtain ⟨htakes, hsends⟩ := SUnit.isectStep_higher hia hib hw2 hlt
        exact unitActs_of_setUnit (hexec (.inr (by simpa using hlt.le)) (fun hx => absurd hlt (by simpa using hx)) fun _ => hv3)
          ⟨SUnit.takes_done.2 htakes, SUnit.sends_done.2 hsends⟩
    case stops =>
      obtain ⟨hia, hna⟩ := SUnit.ihead_stop ha ha2 ha5
      obtain ⟨hib, hnb⟩ := SUnit.ihead_stop hb hb2 hb5
      obtain ⟨hboth, htakes, hsends⟩ := SUnit.isectStep_stops hw0 hw2 hia hib ha2 hb2
      exact unitActs_of_setUnit (exec_intersecterStep hwork hst hroom hna hnb hboth (.inl rfl) (fun _ => hv1) fun _ => hv3)
        ⟨SUnit.takes_done.2 htakes, SUnit.sends_done.2 hsends⟩
  case repFill =>
    intro buf t c1 c2 hst hhead hvalue hwired habort2
    exact ⟨fun hdata hlen => unitActs_of_ends (exec_repeaterStep_entry hwork hst hhead hvalue habort2 hdata hlen)
        (htake2 hwired) (SUnit.sends_nothing (SUnit.take2_outs ..)) rfl,
      fun h2 h5 => unitActs_of_ends (exec_repeaterStep_close hwork hst hhead hvalue habort2 h2 h5)
        (htake2 hwired) (SUnit.sends_nothing (SUnit.take2_outs ..)) rfl⟩
  case repAbort =>
    intro buf c1 c2 t hst hhead habort hroom hwired
    exact unitActs_of_setUnit (exec_repeaterStep_abort hwork hst hhead habort hroom)
      ⟨(SUnit.takes_take rfl (by decide) hwired).congr ((u.take 2).emitAll_ins t),
        ((u.take 2).sends_emitAll t).of_outs rfl, (u.take 2).emitAll_st t⟩
  case repCount =>
    rintro buf c t c1 c2 hst ⟨hhead, hdata⟩ hwired
    exact unitActs_of_ends (exec_repeaterStep_count hwork hst hhead hdata)
      (SUnit.takes_take rfl (by decide) hwired) (SUnit.sends_nothing rfl) rfl
  case repCopies =>
    intro buf c n copy entry hst hroom
    exact ⟨fun x v hn hentry => unitActs_of_ends (exec_repeaterStep_copy hwork hst hroom hn hentry) (htwo _ _) (SUnit.sends_two _ _) rfl,
      fun hend hmore => unitActs_of_ends (exec_repeaterStep_next hwork hst hroom hend hmore) (htwo _ _) (SUnit.sends_two _ _) rfl,
      fun hend hlast => unitActs_of_ends (exec_repeaterStep_last hwork hst hroom hend hlast) (SUnit.takes_done.2 (htwo _ _))
        (SUnit.sends_done.2 (SUnit.sends_two _ _)) rfl⟩
  case reduce =>
    intro acc t hst hhead hvalue hwired
    refine ⟨fun hdata hkey => ?pair, fun h2 h5 hfull => ?full, fun h2 h5 hroom => ?stop⟩
    case pair =>
      exact unitActs_of_ends (exec_reducerStep_pair hwork hst hhead hvalue hdata hkey) (SUnit.takes_done.2 (htake2 hwired))
        (SUnit.sends_done.2 (SUnit.sends_nothing (SUnit.take2_outs ..))) ⟨_, rfl, u.reduced_table acc _ (u.val 1)⟩
    case full => exact (exec_reducerStep_stop hwork hst hhead hvalue h2 h5).trans (by simp [hfull])
    case stop =>
      have hexec := exec_reducerStep_stop hwork hst hhead hvalue h2 h5
      rw [if_pos hroom] at hexec
      exact unitActs_of_ends hexec (htake2 hwired) (SUnit.sends_nothing (SUnit.take2_outs ..)) rfl
  case flush =>
    intro hroom
    exact ⟨fun j v rest lv hst => unitActs_of_ends (exec_reducerFlush_entry hwork hroom hst) (htwo _ _) (SUnit.sends_two _ _) rfl,
      fun lv hlv hst => unitActs_of_ends (exec_reducerFlush_stop hwork hroom hlv hst) (SUnit.takes_done.2 (htwo _ _))
        (SUnit.sends_done.2 (SUnit.sends_two _ _)) rfl⟩
  case nmPosition =>
    intro g b left held hst hleft hroom hwired
    have hexec := exec_nmDecoderStep_position hwork hst hleft hroom
    cases b
    · exact unitActs_of_ends hexec (SUnit.takes_nothing (u.emit_ins ..)) (SUnit.sends_emit (by decide) _) rfl
    · exact unitActs_of_ends hexec (SUnit.takes_take (u.emit_ins ..) (by decide) hwired)
        ((SUnit.sends_emit (by decide) _).congr rfl fun _ _ => rfl) rfl
  case nmGroup =>
    rintro g m ps hst ⟨hmeta, hdata⟩ hpat rfl hpos ⟨v, hhead, hv⟩
    exact unitActs_of_ends (exec_nmDecoderStep_group hwork hst hmeta hdata hpat hpos hhead hv)
      (SUnit.takes_nothing rfl) (SUnit.sends_nothing rfl) rfl
  case nmDiscard =>
    rintro g m t hst ⟨hmeta, hdata⟩ hhead h2 h5 hwired
    have hexec := exec_nmDecoderStep_discard hwork hst hmeta hdata hhead h2 h5
    refine ⟨fun hfull => hexec.trans (by simp [hfull]), fun hroom => ?_⟩
    rw [if_pos hroom] at hexec
    exact unitActs_of_ends hexec (SUnit.takes_done.2 (SUnit.takes_take rfl (by decide) hwired))
      (SUnit.sends_done.2 (SUnit.sends_nothing rfl)) ⟨rfl, rfl⟩
  case aperPixel =>
    rintro pix taken n j t hst ⟨hhead, hdata⟩ hwired hnone hlen -
    exact ⟨_, unitActs_of_ends (exec_apertureStep_pixel hwork hst hhead hdata hnone hlen)
      (SUnit.takes_take rfl (by decide) hwired) (SUnit.sends_nothing rfl) rfl, List.drop_suffix ..⟩
  case aperWord =>
    intro pix taken n j hst hroom a hj hlast
    exact unitActs_of_ends (exec_apertureStep_word hwork hst hroom hj hlast)
      (SUnit.takes_nothing (u.emit_ins ..)) (SUnit.sends_emit (by decide) _) rfl
  case splitBegin =>
    rintro rings rr t hst hquiet ⟨hhead, hdata⟩ htarget hslots
    exact unitActs_of_ends (exec_splitterStep_begins hwork hhead hdata hquiet hst htarget hslots)
      (SUnit.takes_nothing rfl) (SUnit.sends_nothing rfl) rfl
  case splitStream =>
    rintro tg n granted rings rr t hst hquiet ⟨hhead, hdata⟩ hn htg hroom hwired
    exact unitActs_of_ends (exec_splitterStep_streams hwork hhead hdata hquiet hst hn hroom)
      (SUnit.takes_take (u.emit_ins tg t) (by decide) hwired) ((SUnit.sends_emit htg t).congr rfl fun _ _ => rfl) rfl
  case splitRetry =>
    intro rings rr w t hst hhead win off hcode
    obtain ⟨a, haccs, hva, hsize, hact, hsrc, hunit⟩ := s.askSlot_asks k u (fldN t.data 0 3) _ hcode
    exact ⟨_, a, exec_splitterSlotRetry hwork hst hhead, haccs, hva, hsize, hact, hsrc, hunit⟩
  case spillWrite =>
    intro granted ask w rings tg l rd rr t hst hhead hwired hlen
    refine ⟨fun htag => ?keep, fun htag => ⟨fun hcode => ?fault, fun hcode hfits htg => ?write⟩⟩
    case keep =>
      exact unitActs_of_ends (exec_splitterSpillWrite_keeps hwork hst hhead hlen htag)
        (SUnit.takes_take rfl (by decide) hwired) (SUnit.sends_nothing rfl) rfl
    case fault => exact exec_splitterSpillWrite_faults hwork hst hhead hlen htag rfl rfl hcode
    case write =>
      obtain ⟨hsizes, hvas, hacts⟩ := spillWrite_words (s.unitWin k (fldN (u.pw 0) 4 3)) (ringOff u tg (ringOf rings tg).2.1) (l ++ [t.data])
      obtain ⟨l', haccs, hall, hva, hact⟩ := State.unitIssue_accs
        (s.setUnit k { (u.take 0).done with st := .split none false none 0 (pushRing u rings tg) none none rr }) k (.root k s.fresh) true
        (spillWrite (s.unitWin k (fldN (u.pw 0) 4 3)) (ringOff u tg (ringOf rings tg).2.1) (l ++ [t.data]))
      rw [List.length_append] at hvas hacts
      refine ⟨_, l', exec_splitterSpillWrite_writes hwork hst hhead hlen htag rfl rfl hcode hfits, fun a ha => ?_, haccs, hva.trans hvas,
        hact.trans hacts, _, pushRing u rings tg, State.unit_setUnit .., rfl, ringOf_pushRing u rings htg⟩
      obtain ⟨hposted, hsrc, x, hx, hsize⟩ := hall a ha
      exact ⟨hposted, hsrc, hsize.trans (hsizes x hx)⟩
  case spillAsk =>
    intro rings rr tg hst hquiet hring win off hcode
    obtain ⟨a, haccs, hva, -, hact, -, hunit⟩ := s.askSlot_asks k u tg _ hcode
    exact ⟨_, a, exec_splitterSpillRead_asks hwork hst hquiet hring, haccs, hva, hact, hunit⟩
  case spillSend =>
    intro rings rr tg n w ws hst hquiet htg hroom
    exact unitActs_of_setUnit (exec_splitterSpillRead_sends hwork hst hquiet hroom)
      ⟨SUnit.takes_nothing (u.emit_ins ..), SUnit.sends_emit htg _⟩
  case collPass =>
    rintro rr p t hst rfl hwired ⟨hhead, hdata⟩ hroom hseq
    have hexec := exec_collimatorStep hwork hst hwired hhead hdata hroom SUnit.collOut_nil (SUnit.collTake_through hheld hdata hseq)
    have htakes := SUnit.takes_take (u.emit_ins 0 t) (Nat.mod_lt (rr + 1) (by decide)) hwired
    have hsends := (SUnit.sends_emit (u := u) (by decide) t).congr (w := (u.emit 0 t).take ((rr + 1) % 8)) rfl fun _ _ => rfl
    by_cases hlast : t.tag = Tag.last
    · rw [if_pos (beq_iff_eq.2 hlast)] at hexec
      exact unitActs_of_ends hexec htakes hsends ⟨fun _ => ⟨fld_low_ofNat _, rfl⟩, fun hmore => absurd hlast hmore⟩
    · rw [if_neg (by simpa using hlast)] at hexec
      exact unitActs_of_ends hexec htakes hsends ⟨fun hend => absurd hend hlast, fun _ => ⟨u.emit_hold 0 t, rfl⟩⟩
  case collKeep =>
    rintro rr p t t0 t1 ts nx seq hst rfl hwired ⟨hhead, hdata⟩ hroom hlen hne hfar
    have htake := SUnit.collTake_keeps (p := (rr + 1) % 8) ((u.held_emit 0 t0).trans hheld) hdata hne hfar (t1 := t1) hlen (!true)
    have hsends := (SUnit.sends_emit (u := u) (by decide) t0).congr (w := (u.emit 0 t0).take ((rr + 1) % 8)) rfl fun _ _ => rfl
    simp only [beq_iff_eq] at htake
    exact unitActs_of_ends (exec_collimatorStep hwork hst hwired hhead hdata hroom (SUnit.collOut_more hroom) htake)
      (SUnit.takes_take (u.emit_ins 0 t0) (Nat.mod_lt _ (by decide)) hwired) hsends ⟨u.emit_hold 0 t0, rfl⟩

end Sys2Proof.Machine
end

section
/-! PROOFS. The operations that leave memory alone, each by the branches of its definition: the memory of the state it makes is the
memory of the state it is given. A fold leaves alone what its steps leave alone. -/

namespace Sys2Proof.Machine

theorem State.foldl_mem {γ : Type} {f : State → γ → State} (h : ∀ s x, (f s x).mem = s.mem) (l : List γ) (s : State) :
    (l.foldl f s).mem = s.mem := foldl_unchanged State.mem h l s
@[simp] theorem State.shapeCheck_mem (s : State) : (s.shapeCheck).mem = s.mem :=
  rfl

/-! Components, ports and freezing (R8, R79, R126). -/

@[simp] theorem State.setPorts_mem (s : State) (tile unit : Nat) (p : Ports) : (s.setPorts tile unit p).mem = s.mem := by
  unfold State.setPorts
  dsimp only
  split
  · simp [apply_ite State.mem]
  · split <;> simp

@[simp] theorem State.abortRule_mem (s : State) (el : Nat) (f : FaultReg) : (s.abortRule el f).mem = s.mem :=
  rfl

/-! Operand forms and the commit of a rule (R68, R74). -/

@[simp] theorem State.abortWith_mem (s : State) (el rule : Nat) (code : Byte) (x : In) : (s.abortWith el rule code x).mem = s.mem :=
  rfl

@[simp] theorem State.genElem_mem (s : State) (el rule : Nat) (q : Req) (f : In → Res) : (s.genElem el rule q f).mem = s.mem := by
  unfold State.genElem
  split
  · rfl
  · split <;> simp [apply_ite State.mem]

@[simp] theorem State.genWalk_mem (s : State) (t k : Nat) (q : Req) (f : In → Res) : (s.genWalk t k q f).mem = s.mem := by
  unfold State.genWalk
  split <;> rfl

/-! Storage protection (R418 to R422). -/

@[simp] theorem State.endTask_mem (s : State) (task : Nat) (st : TaskSt) (code : Byte) : (s.endTask task st code).mem = s.mem := by
  unfold State.endTask
  split <;> simp [apply_ite State.mem]

@[simp] theorem State.dflLog_mem (s : State) (r : DflRec) : (s.dflLog r).mem = s.mem := by
  unfold State.dflLog
  split <;> rfl

@[simp] theorem State.markBad_mem (s : State) (n : Nat) : (s.markBad n).mem = s.mem := by
  unfold State.markBad
  split <;> simp [apply_ite State.mem]

@[simp] theorem State.clearPoison_mem (s : State) (pa n : Nat) : (s.clearPoison pa n).mem = s.mem :=
  rfl

@[simp] theorem State.rewritten_mem (s : State) (pa n : Nat) : (s.rewritten pa n).mem = s.mem :=
  rfl

@[simp] theorem State.bankFails_mem (s : State) (key f : Nat) : (s.bankFails key f).mem = s.mem := by
  simp [State.bankFails, State.foldl_mem]

@[simp] theorem State.correct_mem (s : State) (group bank : Nat) : (s.correct group bank).mem = s.mem := by
  simp [State.correct, apply_ite State.mem]

@[simp] theorem State.further_mem (s : State) (group : Nat) : (s.further group).mem = s.mem :=
  rfl

@[simp] theorem State.noteGroup_mem (s : State) (group : Nat) : (s.noteGroup group).mem = s.mem := by
  unfold State.noteGroup
  split
  · simp [apply_ite State.mem]
  · split <;> simp

@[simp] theorem State.noteRead_mem (s : State) (groups : List Nat) : (s.noteRead groups).mem = s.mem := by
  simp [State.noteRead, apply_ite State.mem, State.foldl_mem]

@[simp] theorem State.noteWrite_mem (s : State) (pa n : Nat) : (s.noteWrite pa n).mem = s.mem := by
  unfold State.noteWrite
  split <;> simp

@[simp] theorem State.noteSpan_mem (s : State) (a n : Nat) : (s.noteSpan a n).mem = s.mem := by
  simp [State.noteSpan, State.foldl_mem]

@[simp] theorem State.noteBytes_mem (s : State) (pa n : Nat) : (s.noteBytes pa n).mem = s.mem := by
  unfold State.noteBytes
  split <;> simp

/-! The memory system (R187, R192, R397). -/

@[simp] theorem State.eccFail_mem (s : State) (task pa n : Nat) : (s.eccFail task pa n).mem = s.mem := by
  simp [State.eccFail, State.foldl_mem]

@[simp] theorem State.startWalk_mem (s : State) (place ctx va : Nat) (k : Kind) : (s.startWalk place ctx va k).mem = s.mem := by
  unfold State.startWalk
  dsimp only
  split <;> simp

@[simp] theorem State.ctxFault_mem (s : State) (ctx : Nat) : (s.ctxFault ctx).mem = s.mem :=
  foldl_unchanged State.mem State.freeEntry_mem _ _

@[simp] theorem State.areaFault_mem (s : State) (ctx : Nat) (spans : List (Nat × Nat)) : (s.areaFault ctx spans).mem = s.mem := by
  simp [State.areaFault, apply_ite State.mem, State.foldl_mem]

@[simp] theorem State.entriesRead_mem (s : State) (reads : List Nat) (entry : TlbEntry) (kinds : List Kind) :
    (s.entriesRead reads entry kinds).mem = s.mem := by
  unfold State.entriesRead
  split <;> simp [apply_ite State.mem, State.foldl_mem]

theorem State.sendOut_mem {s : State} {ep : Nat} {t : Txn} {x : State × Nat} (h : s.sendOut ep t = some x) : x.1.mem = s.mem := by
  unfold State.sendOut at h
  dsimp only at h
  split at h
  · cases h
  · cases h; rfl

@[simp] theorem State.setAcc_mem (s : State) (a : Access) : (s.setAcc a).mem = s.mem :=
  rfl

@[simp] theorem State.newHandle_mem (s : State) (ctx : Nat) (it : Item) : (s.newHandle ctx it).1.mem = s.mem :=
  rfl

@[simp] theorem State.dropItem_mem (s : State) (ctx handle : Nat) : (s.dropItem ctx handle).mem = s.mem :=
  rfl

@[simp] theorem State.postFault_mem (s : State) (ctx : Nat) (r : List Word) : (s.postFault ctx r).mem = s.mem := by
  unfold State.postFault
  dsimp only
  split <;> simp

@[simp] theorem State.modTask_mem (s : State) (task : Nat) (f : Task → Task) : (s.modTask task f).mem = s.mem := by
  unfold State.modTask
  split <;> rfl

@[simp] theorem State.setOp_mem (s : State) (src : Port) (st : AccSt) : (s.setOp src st).mem = s.mem :=
  rfl

@[simp] theorem State.dropOp_mem (s : State) (src : Port) : (s.dropOp src).mem = s.mem := by
  unfold State.dropOp
  split <;> rfl

@[simp] theorem State.park_mem (s : State) (a : Access) (code : Byte) : (s.park a code).mem = s.mem := by
  simp [State.park]

/-! The port lane (R182 to R186). -/

@[simp] theorem State.leftTile_mem (s : State) (p : Port) : (s.leftTile p).mem = s.mem := by
  unfold State.leftTile
  split
  · split
    · simp [apply_ite State.mem]
    · rfl
  · rfl

@[simp] theorem State.sendLanes_mem (s : State) (l : List Access) (pas : List Nat) : (s.sendLanes l pas).mem = s.mem := by
  induction l generalizing s pas with
  | nil => rfl
  | cons a l ih =>
    cases pas with
    | nil => rfl
    | cons pa pas => rw [State.sendLanes, ih, State.setAcc_mem]

/-! Segments and the Press (R212 to R252). -/

@[simp] theorem State.hoopTouch_mem (s : State) (tile : Nat) (reads : List Nat) (fresh : Nat → Bool) :
    (s.hoopTouch tile reads fresh).mem = s.mem := by
  unfold State.hoopTouch
  split <;> simp

@[simp] theorem State.hoopFail_mem (s : State) (tile : Nat) : (s.hoopFail tile).mem = s.mem := by
  simp [State.hoopFail]

@[simp] theorem State.pressElem_mem (s : State) (el rule : Nat) (d : BitVec 5) (tag : Tag) (a b : Option (BitVec 5)) (mk : In → Except Byte PCmd) :
    (s.pressElem el rule d tag a b mk).mem = s.mem := by
  unfold State.pressElem
  dsimp only
  repeat' split
  all_goals simp

@[simp] theorem State.popCommand_mem (s : State) (tile : Nat) (q : Press) (rest : List PEntry) : (s.popCommand tile q rest).mem = s.mem :=
  rfl

@[simp] theorem State.syncToken_mem (s : State) (tile : Nat) : (s.syncToken tile).mem = s.mem := by
  simp [State.syncToken, apply_ite State.mem, State.foldl_mem]

/-! The copy engine (R195 to R206). -/

@[simp] theorem State.copyIssue_mem (s : State) (tile k : Nat) (a b : Word) (el : Option (Nat × Nat)) (down : Bool) (slots : List Nat) :
    (s.copyIssue tile k a b el down slots).mem = s.mem := by
  unfold State.copyIssue
  dsimp only
  split <;> simp

@[simp] theorem State.brineCount_mem (s : State) (reg : Nat) (i : Inc) : (s.brineCount reg i).mem = s.mem := by
  unfold State.brineCount
  dsimp only
  split
  · split <;> simp
  · split <;> simp

@[simp] theorem State.brineOwe_mem (s : State) (reg : Nat) (level : BitVec 4) : (s.brineOwe reg level).mem = s.mem := by
  unfold State.brineOwe
  split
  · split <;> simp
  · rfl

@[simp] theorem State.pauseCopy_mem (s : State) (tile : Nat) (f : Flight) (code : Byte) (va : Nat) :
    (s.pauseCopy tile f code va).mem = s.mem := by
  simp [State.pauseCopy]

@[simp] theorem State.copyAccs_mem (s : State) (tile fid va pa n : Nat) (act : Nat → Act) (whole : Bool) :
    (s.copyAccs tile fid va pa n act whole).mem = s.mem :=
  rfl

@[simp] theorem State.copyFresh_mem (s : State) (h : Shape) (b : Word) (i pa : Nat) : (s.copyFresh h b i pa).mem = s.mem := by
  unfold State.copyFresh
  dsimp only
  split <;> simp

@[simp] theorem State.resumeCopy_mem (s : State) (tile flight : Nat) : (s.resumeCopy tile flight).mem = s.mem :=
  rfl

/-! Barriers, SIGSEND and EVENT (R207, R208, R382 to R389). -/

@[simp] theorem State.release_mem (s : State) (pa : Nat) (t : Token) : (s.release pa t).mem = s.mem :=
  rfl

@[simp] theorem State.deliverRelease_mem (s : State) (r : Release) : (s.deliverRelease r).mem = s.mem := by
  unfold State.deliverRelease
  dsimp only
  split <;> simp [apply_ite State.mem]

/-! Stream units (R253 to R275). -/

@[simp] theorem State.unitFreeze_mem (s : State) (k : Nat) (code : Byte) (detail : Nat) (va : Option Nat) (off : Nat) :
    (s.unitFreeze k code detail va off).mem = s.mem := by
  unfold State.unitFreeze
  split <;> rfl

@[simp] theorem State.unitIssue_mem (s : State) (k : Nat) (src : Port) (posted : Bool) (l : List (Window × Nat × Nat × Act)) :
    (s.unitIssue k src posted l).mem = s.mem :=
  rfl

@[simp] theorem State.dropReads_mem (s : State) (k : Nat) : (s.dropReads k).mem = s.mem :=
  rfl

@[simp] theorem State.unitFail_mem (s : State) (k : Nat) (a : Access) (code : Byte) : (s.unitFail k a code).mem = s.mem := by
  simp [State.unitFail]

@[simp] theorem State.askSlot_mem (s : State) (unit : Nat) (u : SUnit) (t : Nat) (st : Nat → UState) :
    (s.askSlot unit u t st).mem = s.mem := by
  unfold State.askSlot
  dsimp only
  split <;> simp

/-! The system group, unit registers and whey nodes (R276 to R283, R325, R326). -/

@[simp] theorem State.writeUnit_mem (s : State) (k : Nat) (u : SUnit) (r : BitVec 4) (v : Word) : (s.writeUnit k u r v).mem = s.mem :=
  rfl

@[simp] theorem State.xdone_mem (s : State) (unit : Nat) (o : Option (Nat × Nat)) : (s.xdone unit o).mem = s.mem := by
  cases o <;> rfl

/-! Region controllers and records (R320 to R339, R365 to R368). -/

@[simp] theorem State.reply_mem (s : State) (ep eseq : Nat) (nack : Bool) (opx : Byte) (data : List Byte) :
    (s.reply ep eseq nack opx data).mem = s.mem :=
  rfl

@[simp] theorem State.postEvent_mem (s : State) (ctx : Nat) (owner : Option Nat) (r : List Word) :
    (s.postEvent ctx owner r).mem = s.mem := by
  unfold State.postEvent
  dsimp only
  split
  · exact State.freeEntry_mem s owner
  · rfl

@[simp] theorem State.taskEvent_mem (s : State) (task type region : Nat) (owner : Option Nat) (code : Byte) (i3 i4 i5 : Word) :
    (s.taskEvent task type region owner code i3 i4 i5).mem = s.mem := by
  unfold State.taskEvent
  split <;> simp

@[simp] theorem State.collectFreezes_mem (s : State) (ctx : Nat) : (s.collectFreezes ctx).mem = s.mem := by
  unfold State.collectFreezes
  dsimp only
  rw [State.foldl_mem (fun s x => by split <;> simp), State.foldl_mem (fun s x => by simp), State.foldl_mem (fun s x => by simp)]

@[simp] theorem State.setSource_mem (s : State) (reg k : Nat) (x : Source) : (s.setSource reg k x).mem = s.mem :=
  rfl

@[simp] theorem State.enter_mem (s : State) (d : EndPt) (t : Token) : (s.enter d t).mem = s.mem := by
  simp [State.enter]

@[simp] theorem State.sigDone_mem (s : State) (g : Signal) : (s.sigDone g).mem = s.mem := by
  unfold State.sigDone
  split <;> rfl

@[simp] theorem State.sigNack_mem (s : State) (g : Signal) (reason : Byte) : (s.sigNack g reason).mem = s.mem := by
  simp [State.sigNack, apply_ite State.mem]

@[simp] theorem State.takeSignal_mem (s : State) (g : Signal) : (s.takeSignal g).mem = s.mem := by
  unfold State.takeSignal
  split <;> simp [apply_ite State.mem]

@[simp] theorem State.regWrite_mem (s : State) (region : Nat) (f : Region → Region) : (s.regWrite region f).mem = s.mem := by
  unfold State.regWrite
  split <;> rfl

@[simp] theorem State.freezeState_mem (s : State) (reg : Nat) : (s.freezeState reg).mem = s.mem := by
  simp [State.freezeState, apply_ite State.mem]

@[simp] theorem State.postElem_mem (s : State) (el : Nat) : (s.postElem el).mem = s.mem := by
  unfold State.postElem
  split <;> simp

@[simp] theorem State.postUnit_mem (s : State) (k : Nat) (u : SUnit) : (s.postUnit k u).mem = s.mem := by
  unfold State.postUnit
  split <;> simp

@[simp] theorem State.postCopy_mem (s : State) (tile : Nat) : (s.postCopy tile).mem = s.mem := by
  unfold State.postCopy
  split <;> simp

@[simp] theorem State.postAll_mem (s : State) (reg : Nat) : (s.postAll reg).mem = s.mem := by
  simp [State.postAll, State.foldl_mem]

@[simp] theorem State.dropNodes_mem (s : State) (reg : Nat) : (s.dropNodes reg).mem = s.mem :=
  rfl

@[simp] theorem State.dropRoutes_mem (s : State) (reg : Nat) : (s.dropRoutes reg).mem = s.mem :=
  rfl

@[simp] theorem State.dropRegion_mem (s : State) (reg : Nat) : (s.dropRegion reg).mem = s.mem := by
  simp [State.dropRegion]

@[simp] theorem State.setFree_mem (s : State) (reg : Nat) : (s.setFree reg).mem = s.mem := by
  unfold State.setFree
  dsimp only
  split <;> simp

@[simp] theorem State.freeRegion_mem (s : State) (reg : Nat) : (s.freeRegion reg).mem = s.mem := by
  simp [State.freeRegion]

@[simp] theorem State.drainRegion_mem (s : State) (reg : Nat) : (s.drainRegion reg).mem = s.mem := by
  simp [State.drainRegion]

@[simp] theorem State.drainState_mem (s : State) (reg : Nat) : (s.drainState reg).mem = s.mem := by
  unfold State.drainState
  dsimp only
  split <;> simp

@[simp] theorem State.flushRegion_mem (s : State) (task reg : Nat) : (s.flushRegion task reg).mem = s.mem := by
  simp [State.flushRegion]

/-! Transactions received (R406, R407). -/

@[simp] theorem State.relay_mem (s : State) (t : Txn) : (s.relay t).mem = s.mem :=
  rfl

@[simp] theorem State.respond_mem (s : State) (t : Txn) (data : List Byte) : (s.respond t data).mem = s.mem :=
  rfl

@[simp] theorem State.refuse_mem (s : State) (t : Txn) (reason : Byte) : (s.refuse t reason).mem = s.mem :=
  rfl

/-! Queues (R373 to R381). -/

@[simp] theorem State.queueEvent_mem (s : State) (k : Nat) (q : Queue) (reason : Nat) (code : Byte) :
    (s.queueEvent k q reason code).mem = s.mem := by
  simp [State.queueEvent]

@[simp] theorem State.spillFault_mem (s : State) (k : Nat) (q : Queue) (addr : Nat) : (s.spillFault k q addr).mem = s.mem := by
  simp [State.spillFault]

@[simp] theorem State.enqNack_mem (s : State) (t : Txn) (k : Nat) (q : Queue) (reason : Nat) : (s.enqNack t k q reason).mem = s.mem :=
  rfl

@[simp] theorem State.queueReject_mem (s : State) (k : Nat) : (s.queueReject k).mem = s.mem :=
  rfl

/-! Save areas (R352, R370). -/

@[simp] theorem State.noteSpans_mem (s : State) (spans : List (Nat × Nat)) : (s.noteSpans spans).mem = s.mem := by
  simp [State.noteSpans, State.foldl_mem]

/-! The dispatcher (R340 to R358). -/

@[simp] theorem State.fenceTask_mem (s : State) (task : Nat) (code : Byte) : (s.fenceTask task code).mem = s.mem := by
  simp [State.fenceTask]

@[simp] theorem State.fenceRegion_mem (s : State) (reg : Nat) (code : Byte) : (s.fenceRegion reg code).mem = s.mem := by
  simp [State.fenceRegion, apply_ite State.mem]

theorem State.chooseQueue_mem {s : State} {x : Nat × State} (h : s.chooseQueue = some x) : x.2.mem = s.mem := by
  unfold State.chooseQueue at h
  dsimp only at h
  split at h
  · cases h; rfl
  · split at h
    · cases h
    · split at h
      · cases h
      · cases h; rfl

@[simp] theorem State.rejectRecord_mem (s : State) (ctx : Nat) (r : Record) (code : Byte) : (s.rejectRecord ctx r code).mem = s.mem := by
  simp [State.rejectRecord]

@[simp] theorem State.admission_mem (s : State) (ctx cls : Nat) (r : Record) : (s.admission ctx cls r).mem = s.mem := by
  unfold State.admission
  dsimp only
  split
  · simp
  · split <;> simp

@[simp] theorem State.bindTask_mem (s : State) (k : Nat) (t : Task) (row col : Nat) : (s.bindTask k t row col).mem = s.mem :=
  State.foldl_mem (fun s reg => by simp) _ _

@[simp] theorem State.markLoupe_mem (s : State) (t : Nat) : (s.markLoupe t).mem = s.mem := by
  unfold State.markLoupe
  dsimp only
  rw [State.foldl_mem (fun s w => by split <;> simp), State.setLoupe_mem]

@[simp] theorem State.markSources_mem (s : State) (reg : Nat) : (s.markSources reg).mem = s.mem := by
  simp [State.markSources, State.foldl_mem]

@[simp] theorem State.voidItems_mem (s : State) (ctx : Nat) (regs : List Nat) : (s.voidItems ctx regs).mem = s.mem :=
  rfl

@[simp] theorem State.retire_mem (s : State) (k : Nat) (t : Task) (st : TaskSt) (code : Byte) : (s.retire k t st code).mem = s.mem := by
  unfold State.retire
  dsimp only
  split
  · simp [State.freeEntry_mem]
  · simp

@[simp] theorem State.discardParked_mem (s : State) (task : Nat) : (s.discardParked task).mem = s.mem := by
  unfold State.discardParked
  dsimp only
  rw [State.foldl_mem State.dropOp_mem, State.foldl_mem (fun s a => by simp), State.foldl_mem State.dropOp_mem]

@[simp] theorem State.dropQueued_mem (s : State) (task : Nat) : (s.dropQueued task).mem = s.mem :=
  rfl

@[simp] theorem State.abortTask_mem (s : State) (k : Nat) : (s.abortTask k).mem = s.mem := by
  simp [State.abortTask]

/-! Walks (R305 to R319). -/

@[simp] theorem State.endWalk_mem (s : State) (t k : Nat) (status : Nat) (code : Byte) (record : List Word) :
    (s.endWalk t k status code record).mem = s.mem :=
  rfl

@[simp] theorem State.walkNoRule_mem (s : State) (t k : Nat) : (s.walkNoRule t k).mem = s.mem :=
  rfl

@[simp] theorem State.issueRead_mem (s : State) (t k off n : Nat) : (s.issueRead t k off n).mem = s.mem :=
  rfl

@[simp] theorem State.walkRead_mem (s : State) (t k : Nat) (r : WRead) (off : Nat) (d : BitVec 5) :
    (s.walkRead t k r off d).mem = s.mem := by
  simp [State.walkRead, apply_ite State.mem]

@[simp] theorem State.goOn_mem (s : State) (t k : Nat) (x : WSlot) : (s.goOn t k x).mem = s.mem :=
  rfl

@[simp] theorem State.parkWalk_mem (s : State) (t k : Nat) (code : Byte) (va : Nat) : (s.parkWalk t k code va).mem = s.mem := by
  simp [State.parkWalk, apply_ite State.mem]

@[simp] theorem State.replayWalk_mem (s : State) (t k : Nat) : (s.replayWalk t k).mem = s.mem := by
  unfold State.replayWalk
  dsimp only
  split <;> simp

/-! Loading and reloading a span (R327 to R334). -/

@[simp] theorem State.placeElem_mem (s : State) (sp : Span) (im : Image) (r : List Word) : (s.placeElem sp im r).mem = s.mem :=
  rfl

@[simp] theorem State.wireIn_mem (s : State) (d : EndPt) (back : Bool) (init : List Token) : (s.wireIn d back init).mem = s.mem := by
  simp [State.wireIn]

@[simp] theorem State.wireOut_mem (s : State) (d : EndPt) : (s.wireOut d).mem = s.mem := by
  simp [State.wireOut]

@[simp] theorem State.wireCin_mem (s : State) (d : EndPt) : (s.wireCin d).mem = s.mem := by
  simp [State.wireCin]

@[simp] theorem State.wireCout_mem (s : State) (d : EndPt) : (s.wireCout d).mem = s.mem := by
  simp [State.wireCout]

@[simp] theorem State.putChan_mem (s : State) (c : Channel) : (s.putChan c).mem = s.mem :=
  rfl

@[simp] theorem State.addChan_mem (s : State) (owner : Nat) (f t : EndPt) (ctl back : Bool) :
    (s.addChan owner f t ctl back).mem = s.mem :=
  rfl

@[simp] theorem State.placeChan_mem (s : State) (sp : Span) (owner : Nat) (r : List Word) : (s.placeChan sp owner r).mem = s.mem := by
  unfold State.placeChan
  split <;> simp

@[simp] theorem State.placeTemplate_mem (s : State) (sp : Span) (r : List Word) : (s.placeTemplate sp r).mem = s.mem :=
  rfl

@[simp] theorem State.placeTable_mem (s : State) (sp : Span) (r : List Word) : (s.placeTable sp r).mem = s.mem := by
  simp [State.placeTable]

@[simp] theorem State.placePress_mem (s : State) (sp : Span) (owner : Nat) (r : List Word) : (s.placePress sp owner r).mem = s.mem := by
  unfold State.placePress
  split <;> simp

@[simp] theorem State.placeUnit_mem (s : State) (sp : Span) (im : Image) (r : List Word) : (s.placeUnit sp im r).mem = s.mem :=
  rfl

@[simp] theorem State.placeBrine_mem (s : State) (sp : Span) (im : Image) (k : Nat) : (s.placeBrine sp im k).mem = s.mem := by
  unfold State.placeBrine
  dsimp only
  split <;> simp

@[simp] theorem State.putWhey_mem (s : State) (c : WheyLink) : (s.putWhey c).mem = s.mem :=
  rfl

@[simp] theorem State.placeWhey_mem (s : State) (sp : Span) (owner : Nat) (im : Image) (r : List Word) :
    (s.placeWhey sp owner im r).mem = s.mem := by
  unfold State.placeWhey
  dsimp only
  rw [State.foldl_mem (fun s x => State.putWhey_mem s _), State.setUnit_mem]

@[simp] theorem State.wheySource_mem (s : State) (sp : Span) (w : Word) : (s.wheySource sp w).mem = s.mem := by
  simp [State.wheySource, apply_ite State.mem]

@[simp] theorem State.placeSources_mem (s : State) (sp : Span) (im : Image) : (s.placeSources sp im).mem = s.mem := by
  simp [State.placeSources, State.foldl_mem]

@[simp] theorem State.placeLoupe_mem (s : State) (sp : Span) (r : List Word) : (s.placeLoupe sp r).mem = s.mem :=
  rfl

@[simp] theorem State.placeEnds_mem (s : State) (sp : Span) (im : Image) (args : List Word) (reg : Nat) :
    (s.placeEnds sp im args reg).mem = s.mem :=
  rfl

@[simp] theorem State.engineOn_mem (s : State) (t : Nat) : (s.engineOn t).mem = s.mem := by
  simp [State.engineOn, apply_ite State.mem]

@[simp] theorem State.pressOn_mem (s : State) (t : Nat) : (s.pressOn t).mem = s.mem := by
  simp [State.pressOn, apply_ite State.mem]

@[simp] theorem State.placeImage_mem (s : State) (sp : Span) (im : Image) (args : List Word) : (s.placeImage sp im args).mem = s.mem := by
  unfold State.placeImage
  dsimp only
  repeat rw [State.foldl_mem (fun s x => by simp)]
  rw [State.placeSources_mem]
  repeat rw [State.foldl_mem (fun s x => by simp [apply_ite State.mem])]

@[simp] theorem State.repostPaused_mem (s : State) (tile : Nat) : (s.repostPaused tile).mem = s.mem := by
  unfold State.repostPaused
  dsimp only
  rw [State.foldl_mem (fun s k => by split <;> simp), State.foldl_mem (fun s f => by split <;> simp)]

@[simp] theorem State.measure_mem (s : State) (ctx : Nat) (ws : List Word) : (s.measure ctx ws).mem = s.mem := by
  unfold State.measure
  split <;> rfl

@[simp] theorem State.startRegion_mem (s : State) (reg : Nat) : (s.startRegion reg).mem = s.mem :=
  rfl

@[simp] theorem State.startTask_mem (s : State) (task : Nat) (t : Task) : (s.startTask task t).mem = s.mem := by
  unfold State.startTask
  dsimp only
  rw [State.foldl_mem State.freezeState_mem, State.setTask_mem, State.foldl_mem State.startRegion_mem]

@[simp] theorem State.loadFails_mem (s : State) (task : Nat) (t : Task) (code : Byte) (place : Option FaultAt) :
    (s.loadFails task t code place).mem = s.mem := by
  simp [State.loadFails, apply_ite State.mem, State.foldl_mem]

@[simp] theorem State.pinEntry_mem (s : State) (t : Task) (ws : List Word) (reg : Nat) : (s.pinEntry t ws reg).mem = s.mem := by
  unfold State.pinEntry
  dsimp only
  split <;> simp

@[simp] theorem State.newPlacement_mem (s : State) (regs : List Nat) : (s.newPlacement regs).mem = s.mem :=
  foldl_unchanged State.mem (fun s x => by simp) _ _

@[simp] theorem State.storeError_mem (s : State) (region : Nat) : (s.storeError region).mem = s.mem := by
  unfold State.storeError
  dsimp only
  split <;> simp

@[simp] theorem State.enterReload_mem (s : State) (region : Nat) : (s.enterReload region).mem = s.mem := by
  unfold State.enterReload
  dsimp only
  split <;> simp

@[simp] theorem State.rewrite_mem (s : State) (reg : Nat) (sp : Span) (im : Image) : (s.rewrite reg sp im).mem = s.mem := by
  unfold State.rewrite
  dsimp only
  rw [State.foldl_mem (fun s r => by simp), State.foldl_mem (fun s r => by simp), State.foldl_mem (fun s r => by simp),
    State.foldl_mem (fun s r => by split <;> simp), State.foldl_mem (fun s r => by simp)]

/-! Contexts and invalidation (R360 to R372, R398). -/

@[simp] theorem State.ctxReject_mem (s : State) (k : Nat) : (s.ctxReject k).mem = s.mem :=
  rfl

@[simp] theorem State.placeQueue_mem (s : State) (ctx : Nat) (v : QSave) : (s.placeQueue ctx v).mem = s.mem :=
  rfl

@[simp] theorem State.dropTlb_mem (s : State) (p : TlbEntry → Bool) : (s.dropTlb p).mem = s.mem :=
  rfl

@[simp] theorem State.ctxDone_mem (s : State) (ctx : Nat) : (s.ctxDone ctx).mem = s.mem :=
  rfl

@[simp] theorem State.invalidate_mem (s : State) (cmd : Dword) (ctx lo n : Nat) : (s.invalidate cmd ctx lo n).mem = s.mem := by
  simp [State.invalidate, apply_ite State.mem]

/-! Protection, the fault log and the governor (R418 to R428). -/

@[simp] theorem State.logBad_mem (s : State) (group bank : Nat) : (s.logBad group bank).mem = s.mem := by
  simp [State.logBad]

@[simp] theorem State.bankFence_mem (s : State) (key : Nat) : (s.bankFence key).mem = s.mem := by
  unfold State.bankFence
  dsimp only
  split <;> simp

@[simp] theorem State.bankFences_mem (s : State) : (s.bankFences).mem = s.mem := by
  simp [State.bankFences, State.foldl_mem]

@[simp] theorem State.scrubAll_mem (s : State) : (s.scrubAll).mem = s.mem := by
  simp [State.scrubAll, State.foldl_mem]

@[simp] theorem State.scrubPeriod_mem (s : State) : (s.scrubPeriod).mem = s.mem := by
  simp [State.scrubPeriod]

@[simp] theorem State.lose_mem (s : State) (l : Lost) : (s.lose l).mem = s.mem := by
  cases l with
  | tile t => simp [State.lose, apply_ite State.mem]
  | entry k =>
    simp only [State.lose]
    split <;> simp
  | block c => simp [State.lose, apply_ite State.mem]
  | slot k j => simp [State.lose, apply_ite State.mem]

@[simp] theorem State.losses_mem (s : State) : s.losses.mem = s.mem :=
  foldl_unchanged State.mem (fun s _ => State.lose_mem s _) _ _

@[simp] theorem State.wordFault_mem (s : State) (el k : Nat) (v : Word) : (s.wordFault el k v).mem = s.mem := by
  simp [State.wordFault, apply_ite State.mem]

@[simp] theorem State.residueFail_mem (s : State) (tile : Nat) : (s.residueFail tile).mem = s.mem := by
  unfold State.residueFail
  dsimp only
  split <;> simp

/-! Links (R402 to R412). -/

@[simp] theorem State.linkDown_mem (s : State) (link : Nat) : (s.linkDown link).mem = s.mem := by
  simp [State.linkDown]

@[simp] theorem State.fenceLink_mem (s : State) (link : Nat) : (s.fenceLink link).mem = s.mem := by
  simp [State.fenceLink]

@[simp] theorem State.trainLink_mem (s : State) (link : Nat) : (s.trainLink link).mem = s.mem := by
  simp [State.trainLink, apply_ite State.mem]

@[simp] theorem State.flitData_mem (s : State) (link : Nat) (l : Link) (f : List Byte) : (s.flitData link l f).mem = s.mem :=
  rfl

@[simp] theorem State.fecCount_mem (s : State) (link : Nat) : (s.fecCount link).mem = s.mem :=
  rfl

@[simp] theorem State.replayFailed_mem (s : State) (link : Nat) (l : Link) : (s.replayFailed link l).mem = s.mem := by
  unfold State.replayFailed
  dsimp only
  split <;> simp

@[simp] theorem State.sendOn_mem (s : State) (k : Nat) (t : Txn) : (s.sendOn k t).mem = s.mem :=
  rfl

@[simp] theorem State.transmit_mem (s : State) : (s.transmit).mem = s.mem := by
  unfold State.transmit
  split
  · rfl
  · split <;> simp

/-! Transactions performed (R406, R409). -/

@[simp] theorem State.logPoison_mem (s : State) (t : Txn) (pa n : Nat) : (s.logPoison t pa n).mem = s.mem := by
  simp [State.logPoison, State.foldl_mem]

@[simp] theorem State.answered_mem (s : State) (ep : Nat) (eseq : BitVec 16) : (s.answered ep eseq).mem = s.mem :=
  rfl

/-! The management space (R410 to R412). -/

@[simp] theorem State.dispWrite_mem (s : State) (off : Nat) (v : Word) : (s.dispWrite off v).mem = s.mem := by
  unfold State.dispWrite
  split <;> simp [apply_ite State.mem]

@[simp] theorem State.secWrite_mem (s : State) (off : Nat) (v : Word) : (s.secWrite off v).mem = s.mem := by
  unfold State.secWrite
  split <;> rfl

@[simp] theorem State.ctxChecked_mem (s : State) (k : Nat) (c : Ctx) : (s.ctxChecked k c).mem = s.mem := by
  unfold State.ctxChecked
  split <;> rfl

@[simp] theorem State.ctxWrite_mem (s : State) (k off : Nat) (v : Word) : (s.ctxWrite k off v).mem = s.mem := by
  unfold State.ctxWrite
  split <;> simp [apply_ite State.mem]

@[simp] theorem State.ctxWrite8_mem (s : State) (k off : Nat) (v : Dword) : (s.ctxWrite8 k off v).mem = s.mem := by
  unfold State.ctxWrite8
  split <;> simp [apply_ite State.mem]

@[simp] theorem State.queueWrite_mem (s : State) (k off : Nat) (v : Word) : (s.queueWrite k off v).mem = s.mem := by
  unfold State.queueWrite
  split <;> simp [apply_ite State.mem]

@[simp] theorem State.regionWrite_mem (s : State) (reg off : Nat) (v : Word) : (s.regionWrite reg off v).mem = s.mem := by
  unfold State.regionWrite
  split <;> simp

@[simp] theorem State.plainWrite_mem (s : State) (off : Nat) (v : Word) : (s.plainWrite off v).mem = s.mem := by
  simp [State.plainWrite, apply_ite State.mem]

@[simp] theorem State.takeReport_mem (s : State) : (s.takeReport).mem = s.mem := by
  unfold State.takeReport
  split <;> rfl

@[simp] theorem State.queueCommand_mem (s : State) (k : Nat) (e : Ev) : (s.queueCommand k e).mem = s.mem :=
  rfl

/-! Tokens on their way and the life of an element (R19, R86 to R89). -/

theorem State.arriveData_mem {s s' : State} {c : Channel} {t : Token} (h : s.arriveData c t = some s') : s'.mem = s.mem := by
  unfold State.arriveData at h
  dsimp only at h
  split at h
  · cases h; rfl
  · split at h
    · cases h; exact State.setPorts_mem _ _ _ _
    · split at h
      · cases h
      · cases h; exact State.enter_mem _ _ _

theorem State.arriveCtl_mem {s s' : State} {d : EndPt} (h : s.arriveCtl d = some s') : s'.mem = s.mem := by
  unfold State.arriveCtl at h
  dsimp only at h
  split at h
  · cases h
  · cases h; exact State.setPorts_mem _ _ _ _

@[simp] theorem State.arrive_mem (s : State) (ch : Nat) : (s.arrive ch).mem = s.mem := by
  unfold State.arrive
  split
  · rfl
  · split
    · rfl
    · dsimp only
      split
      · rfl
      · split
        · rfl
        · split
          · rfl
          · split
            · next hin =>
              split at hin
              · rw [State.arriveCtl_mem hin]
              · rw [State.arriveData_mem hin]
            · rfl

@[simp] theorem State.depart_mem (s : State) (ch : Nat) : (s.depart ch).mem = s.mem := by
  unfold State.depart
  dsimp only
  repeat' split
  all_goals simp

@[simp] theorem State.route_mem (s : State) (ch : Nat) : (s.route ch).mem = s.mem := by
  unfold State.route
  split <;> simp

@[simp] theorem State.wheyDrop_mem (s : State) (f : EndPt) : (s.wheyDrop f).mem = s.mem := by
  unfold State.wheyDrop
  dsimp only
  split
  · simp [apply_ite State.mem]
  · split <;> simp

theorem State.wheyEnter_mem {s s' : State} {d : EndPt} {t : WheyTok} (h : s.wheyEnter d t = some s') : s'.mem = s.mem := by
  unfold State.wheyEnter at h
  split at h
  · cases h
  · split at h
    · dsimp only at h
      split at h
      · cases h
      · cases h; rfl
    · cases h

@[simp] theorem State.wheyLane_mem (s : State) (k : Nat) : (s.wheyLane k).mem = s.mem := by
  unfold State.wheyLane
  split
  · rfl
  · next c _ =>
    extract_lets on s1 s2
    have h1 : s1.1.mem = s.mem := by
      unfold s1
      split
      · rfl
      · split
        · exact State.wheyDrop_mem _ _
        · rfl
    have h2 : s2.1.mem = s1.1.mem := by
      unfold s2
      split
      · split
        · next hin => exact State.wheyEnter_mem hin
        · rfl
      · rfl
    exact h2.trans h1

/-! The round (R70 to R72). -/

@[simp] theorem State.tickRegions_mem (s : State) : (s.tickRegions).mem = s.mem := by
  simp [State.tickRegions]

@[simp] theorem State.timers_mem (s : State) : (s.timers).mem = s.mem := by
  unfold State.timers
  dsimp only
  split <;> simp

@[simp] theorem State.releaseSome_mem (s : State) : (s.releaseSome).mem = s.mem := by
  simp [State.releaseSome, apply_ite State.mem, State.foldl_mem]

@[simp] theorem State.move_mem (s : State) : (s.move).mem = s.mem := by
  simp [State.move, State.foldl_mem]

@[simp] theorem State.regionStates_mem (s : State) : (s.regionStates).mem = s.mem := by
  simp [State.regionStates, State.foldl_mem]

@[simp] theorem State.grants_mem (s : State) (w : Bool) : (s.grants w).mem = s.mem :=
  rfl

@[simp] theorem State.mismatch_mem (s : State) (unit : Nat) : (s.mismatch unit).mem = s.mem := by
  simp [State.mismatch]

@[simp] theorem State.selectOne_mem (w : Bool) (acc : State × List Todo) (el : Nat) : (State.selectOne w acc el).1.mem = acc.1.mem := by
  unfold State.selectOne
  dsimp only
  split <;> simp

@[simp] theorem State.prisms_mem (s : State) (w : Bool) : (s.prisms w).1.mem = s.mem :=
  foldl_unchanged (fun acc : State × List Todo => acc.1.mem) (State.selectOne_mem w) _ _

@[simp] theorem State.walks_mem (s : State) : s.walks.1.mem = s.mem := by
  refine foldl_unchanged (fun acc : State × List Todo => acc.1.mem) (fun acc x => ?_) _ _
  extract_lets ks
  split <;> rfl

@[simp] theorem State.pressUpsets_mem (s : State) : s.pressUpsets.mem = s.mem := by
  refine foldl_unchanged State.mem (fun s x => ?_) _ _
  split
  · simp [apply_ite State.mem]
  · rfl

@[simp] theorem State.aluUpsets_mem (s : State) : s.aluUpsets.mem = s.mem := by
  refine foldl_unchanged State.mem (fun s x => ?_) _ _
  split
  · simp [apply_ite State.mem]
  · rfl

@[simp] theorem State.bootBegins_mem (s : State) : (s.bootBegins).mem = s.mem := by
  unfold State.bootBegins
  split <;> rfl

end Sys2Proof.Machine
end

section
/-! PROOFS. The operations that write memory keep its canonical form (R284): each of their writes is one of Memory's own, which keep
it, and what they do beside writing leaves memory alone. -/

namespace Sys2Proof.Machine

/-! What an outcome leaves of memory. -/

/-- An outcome that answers a next state leaves memory in canonical form. -/
def LeavesWf (o : Out) : Prop := ∀ s', o = .next s' → s'.mem.wf = true

@[simp] theorem leavesWf_next {s : State} : LeavesWf (.next s) ↔ s.mem.wf = true := by
  constructor
  · intro h; exact h s rfl
  · intro h s' hs; cases hs; exact h

@[simp] theorem leavesWf_refused {r : Refusal} : LeavesWf (.refused r) := by
  intro s' hs; cases hs

@[simp] theorem leavesWf_fault {f : Fault} : LeavesWf (.fault f) := by
  intro s' hs; cases hs

theorem leavesWf_ite {c : Prop} [Decidable c] {a b : Out} (ha : LeavesWf a) (hb : LeavesWf b) : LeavesWf (if c then a else b) := by
  split
  · exact ha
  · exact hb

theorem stepped_wf {o : Out} {s : State} (h : s.mem.wf = true) (ho : LeavesWf o) : (stepped o s).mem.wf = true := by
  cases o with
  | next t => exact ho t rfl
  | _ => exact h

/-- What every step of a fold keeps, the fold keeps. -/
theorem foldl_keeps {β γ : Type} (P : β → Prop) {f : β → γ → β} (hf : ∀ b x, P b → P (f b x)) (l : List γ) {b : β} (h : P b) :
    P (l.foldl f b) := by
  induction l generalizing b with
  | nil => exact h
  | cons x l ih => exact ih (hf b x h)

theorem State.foldl_wf {γ : Type} {f : State → γ → State} (hf : ∀ s x, s.mem.wf = true → (f s x).mem.wf = true) (l : List γ)
    {s : State} (h : s.mem.wf = true) : (l.foldl f s).mem.wf = true :=
  foldl_keeps (fun s : State => s.mem.wf = true) hf l h

/-! Writes of memory. -/

theorem Memory.wf_setBarrier {m : Memory} (h : m.wf = true) (pa : Nat) (o : BarObj) : (m.setBarrier pa o).wf = true :=
  Memory.wf_writeWords h _ _

theorem homeAct_wf {m : Memory} (h : m.wf = true) (pa size : Nat) (a : Act) : (homeAct m pa size a).2.wf = true := by
  cases a with
  | read => exact h
  | write v => exact Memory.wf_writeN h _ _ _
  | atomic opc v cmp =>
    unfold homeAct
    dsimp only
    split
    · exact Memory.wf_writeN h _ _ _
    · exact h
  | reduce opc v => exact Memory.wf_writeN h _ _ _
  | combine op v => exact Memory.wf_writeN h _ _ _
  | swap op v old => exact Memory.wf_writeN h _ _ _

theorem walkResult_wf {m : Memory} (h : m.wf = true) (root ctx va : Nat) (kinds : List Kind) :
    (walkResult m root ctx va kinds).2.wf = true := by
  unfold walkResult
  split
  · exact h
  · dsimp only
    split
    · exact h
    · exact Memory.wf_write h _ _

/-! Operations that write memory. -/

theorem State.ringWrite_wf {s : State} (h : s.mem.wf = true) (base : BitVec 64) (tail : Word) (r : List Word) :
    (s.ringWrite base tail r).mem.wf = true := by
  simp [State.ringWrite, Memory.wf_writeWords h]

theorem State.onBarrier_wf {s : State} (h : s.mem.wf = true) (task pa : Nat) (f : BarObj → BarObj) :
    (s.onBarrier task pa f).mem.wf = true := by
  unfold State.onBarrier
  split
  · simp [h]
  · simp [Memory.wf_setBarrier h]

theorem State.forgetSaved_wf {s : State} (h : s.mem.wf = true) (ctx : Nat) (w : Waiter) : (s.forgetSaved ctx w).mem.wf = true := by
  unfold State.forgetSaved
  dsimp only
  split
  · simp [h]
  · split
    · simp [h]
    · split
      · simp [h]
      · simp [Memory.wf_setBarrier h]

theorem State.forgetWaiter_wf {s : State} (h : s.mem.wf = true) (w : Waiter) : (s.forgetWaiter w).mem.wf = true := by
  unfold State.forgetWaiter
  dsimp only
  split
  · simp [h]
  · exact State.onBarrier_wf h _ _ _

theorem State.forgetWaiters_wf {s : State} (h : s.mem.wf = true) (t : Task) : (s.forgetWaiters t).mem.wf = true :=
  State.foldl_wf (fun _ w hs => State.forgetWaiter_wf hs w) _ h

theorem State.dropWaiters_wf {s : State} (h : s.mem.wf = true) (task : Nat) : (s.dropWaiters task).mem.wf = true :=
  State.foldl_wf (fun _ _ hs => State.onBarrier_wf hs _ _ _) _ h

theorem State.saveWaiters_wf {s : State} (h : s.mem.wf = true) (el : Nat) : (s.saveWaiters el).1.mem.wf = true :=
  State.foldl_wf (fun _ _ hs => State.onBarrier_wf hs _ _ _) _ h

theorem State.restoreWaiter_wf {s : State} (h : s.mem.wf = true) (w : Waiter) : (s.restoreWaiter w).mem.wf = true := by
  unfold State.restoreWaiter
  extract_lets pa o tell parked
  have htell (s : State) (t : Token) : (tell s t).mem = s.mem := rfl
  split
  · simp [h]
  · split
    · simp [h]
    · split
      · rw [htell]; exact State.onBarrier_wf h _ _ _
      · split
        · dsimp only
          exact State.onBarrier_wf h _ _ _
        · rw [htell]
          split
          · exact State.onBarrier_wf h _ _ _
          · exact h

theorem State.mark_wf {s : State} (h : s.mem.wf = true) (el : Nat) : (s.mark el).mem.wf = true := by
  unfold State.mark
  dsimp only
  simp [State.saveWaiters_wf h]

theorem State.flushTask_wf {s : State} (h : s.mem.wf = true) (k : Nat) (t : Task) : (s.flushTask k t).mem.wf = true := by
  have hflush : ((s.held k t).foldl (fun s r => s.flushRegion k r) s).mem.wf = true := by
    rw [State.foldl_mem (fun s r => State.flushRegion_mem s k r), h]
  simp [State.flushTask, State.forgetWaiters_wf hflush]

theorem State.reinstate_wf {s : State} (h : s.mem.wf = true) (task : Nat) (t : Task) (v : Saved) : (s.reinstate task t v).mem.wf = true := by
  unfold State.reinstate
  extract_lets tiles regs ft v1 gen s1 s2 s3 s4
  have h1 : s1.mem = s.mem := rfl
  clear_value s1
  have h2 : s2.mem = s1.mem := State.foldl_mem (fun s reg => State.setRegion_mem s _ _) _ _
  have h3 : s3.mem = s2.mem := State.foldl_mem (fun s tile => by split <;> simp) _ _
  have h4 : s4.mem = s3.mem := State.foldl_mem State.repostPaused_mem _ _
  exact State.foldl_wf (fun _ _ hs => State.restoreWaiter_wf hs _) _ (by rw [h4, h3, h2, h1, h])

theorem State.flipByte_wf {s : State} (h : s.mem.wf = true) (group bank : Nat) (e : Byte) : (s.flipByte group bank e).mem.wf = true := by
  unfold State.flipByte
  split
  · exact h
  · split
    · exact h
    · exact h
    · exact Memory.wf_write h _ _

theorem State.flip_wf {s : State} (h : s.mem.wf = true) (group : Nat) (l : List (Nat × Byte)) : (s.flip group l).mem.wf = true :=
  State.foldl_wf (fun _ _ hs => State.flipByte_wf hs _ _ _) _ h

theorem State.symbolFault_wf {s : State} (h : s.mem.wf = true) (n bank : Nat) (e : Byte) : (s.symbolFault n bank e).mem.wf = true := by
  unfold State.symbolFault
  extract_lets g l s1
  have h1 : s1.mem.wf = true := h
  clear_value s1
  split
  · exact h
  · split
    · exact State.flip_wf h1 _ _
    · refine State.flip_wf ?_ _ _
      exact h1
    · rw [State.markBad_mem]; exact h1

theorem State.scrubFault_wf {s : State} (h : s.mem.wf = true) (group : Nat) (o : Option Nat) : (s.scrubFault group o).mem.wf = true := by
  unfold State.scrubFault
  split
  · exact h
  · split
    · simp [h]
    · exact State.symbolFault_wf h _ _ _

theorem State.strike_wf {s : State} (h : s.mem.wf = true) (x : Strike) : (s.strike x).mem.wf = true := by
  cases x with
  | symbol group bank err => exact State.symbolFault_wf h _ _ _
  | line pa => simp [State.strike, apply_ite State.mem, h]
  | store l => exact h
  | result k => exact h
  | word el k v => simp [State.strike, h]

theorem State.strikes_wf {s : State} (h : s.mem.wf = true) : s.strikes.mem.wf = true :=
  State.foldl_wf (fun _ x hs => State.strike_wf hs x) _ h

theorem State.advance_wf {s : State} (h : s.mem.wf = true) : s.advance.mem.wf = true := by
  have hs : s.takeReport.timers.move.regionStates.transmit.bootBegins.mem.wf = true := by simp [h]
  simp [State.advance, State.strikes_wf hs]

theorem State.logDirty_wf {s : State} (h : s.mem.wf = true) (ctx va : Nat) (big : Bool) : (s.logDirty ctx va big).mem.wf = true := by
  unfold State.logDirty
  extract_lets c first bits noted
  split
  · exact h
  · split
    · simp [h]
    · exact foldl_keeps (fun m : Memory => m.wf = true) (fun _ _ hm => Memory.wf_write hm _ _) _ h

theorem State.translate_wf {s : State} (h : s.mem.wf = true) (place ctx va : Nat) (k : Kind) :
    (s.translate place ctx va k).2.mem.wf = true := by
  unfold State.translate
  dsimp only
  split
  · exact h
  · split
    · simp [h]
    · simp [h]
    · dsimp only
      split
      · exact State.logDirty_wf (by simp [h]) _ _ _
      · simp [h]

theorem State.translateAll_wf {s : State} (h : s.mem.wf = true) (l : List Access) : (s.translateAll l).2.mem.wf = true := by
  induction l generalizing s with
  | nil => exact h
  | cons a l ih =>
    have ht := State.translate_wf h (etileOf a.region) a.ctx a.va a.act.kind
    unfold State.translateAll
    split
    · next heq => rw [heq] at ht; exact ht
    · next heq => rw [heq] at ht; exact ht
    · next heq =>
      rw [heq] at ht
      have hl := ih ht
      split
      · next heq' => rw [heq'] at hl; exact hl
      · exact hl

theorem State.check_wf {s : State} (h : s.mem.wf = true) (el ctx : Nat) (win : Window) (perm : Bool) (src : Option Kind) (l : List Lane) :
    (s.check el ctx win perm src l).2.mem.wf = true := by
  induction l generalizing s with
  | nil => exact h
  | cons x l ih =>
    unfold State.check
    split
    · exact h
    · split
      · exact h
      · split
        · exact h
        · split
          · have hl := ih h
            split
            · next heq => rw [heq] at hl; exact hl
            · exact hl
          · next k =>
            split
            · exact h
            · have ht := State.translate_wf h (tileOfElem el) ctx (win.base + x.off) k
              split
              · next heq => rw [heq] at ht; exact ht
              · next heq => rw [heq] at ht; exact ht
              · next heq =>
                rw [heq] at ht
                have hl := ih ht
                split
                · next heq' => rw [heq'] at hl; exact hl
                · exact hl

theorem State.memElem_wf {s : State} (h : s.mem.wf = true) (el rule : Nat) (o : MemOp) : (s.memElem el rule o).mem.wf = true := by
  unfold State.memElem
  extract_lets e task ctx win
  split
  · exact h
  · extract_lets l job
    split
    · exact h
    · split
      · simp [h]
      · next lanes _ =>
        have hc := State.check_wf h el ctx win (o.perm win) o.src lanes
        split
        · next heq => rw [heq] at hc; exact hc
        · next heq => rw [heq] at hc; simpa using hc
        · next heq => rw [heq] at hc; exact hc

theorem State.barElem_wf {s : State} (h : s.mem.wf = true) (el rule : Nat) (opc : Byte) (d a : BitVec 5) (b : Option (BitVec 5))
    (w : BitVec 3) (sc : BitVec 2) : (s.barElem el rule opc d a b w sc).mem.wf = true := by
  unfold State.barElem
  extract_lets e q task ctx win
  split
  · exact h
  · extract_lets l off
    split
    · exact h
    · have hc := State.check_wf h el ctx win win.a (some .barrier) [{ off := off, size := 16, act := .read }]
      split
      · next heq => rw [heq] at hc; exact hc
      · next heq => rw [heq] at hc; simpa using hc
      · next heq =>
        rw [heq] at hc
        split
        · exact hc
        · exact hc

theorem State.perform_wf {s : State} (h : s.mem.wf = true) (a : Access) (pa : Nat) : (s.perform a pa).mem.wf = true := by
  unfold State.perform
  split
  · split
    · next heq => rw [State.setAcc_mem, State.sendOut_mem heq, h]
    · simp [h]
  · split
    · simp [h]
    · have ha := homeAct_wf h pa a.size a.act
      split
      next heq =>
      rw [heq] at ha
      dsimp only
      split
      · simpa using ha
      · simpa using ha

theorem State.copyWrite_wf {s : State} (h : s.mem.wf = true) (tile : Nat) (f : Flight) (sh : Shape) (i v0 : Nat) (inc : Inc) (sva : Nat) :
    (s.copyWrite tile f sh i v0 inc sva).mem.wf = true := by
  unfold State.copyWrite
  extract_lets c p reg task clean next idx va
  have hclean : clean.mem.wf = true := by
    unfold clean
    rw [State.brineCount_mem]
    exact h
  clear_value clean
  split
  · have ht := State.translate_wf h tile (s.ctxOfTask task) va (if sh.redop = 0 then .write else .atomic)
    split
    · next heq => rw [heq] at ht; exact ht
    · next heq => rw [heq] at ht; rw [State.pauseCopy_mem]; exact ht
    · next heq =>
      rw [heq] at ht
      dsimp only
      rw [State.setCopy_mem, State.copyAccs_mem, State.copyFresh_mem, State.brineCount_mem]
      exact ht
  · exact hclean
  · exact hclean
  · exact hclean
  · split
    · simp [h]
    · split
      · simp [h]
      · simp [hclean]

/-! The loader's reads (R293, R328): each sets the accessed bit of a leaf. -/

theorem State.loaderTouch_wf {s : State} (h : s.mem.wf = true) (ctx va : Nat) : (s.loaderTouch ctx va).1.mem.wf = true := by
  have hr (l : List Nat) : (l.foldl (fun (s : State) a => s.noteBytes a 8) s).mem.wf = true := by
    rw [State.foldl_mem (fun s a => State.noteBytes_mem s a 8), h]
  unfold State.loaderTouch
  extract_lets root s1
  split
  · exact h
  · split
    · exact h
    · split
      · exact hr _
      · extract_lets code pa s2
        split
        · exact hr _
        · have h2 : s2.mem.wf = true := by simp [s2, Memory.wf_write h]
          split
          · exact h2
          · simpa using h2

theorem State.readVa_wf {s : State} (h : s.mem.wf = true) (ctx va n : Nat) : (s.readVa ctx va n).1.mem.wf = true := by
  induction n generalizing s va with
  | zero => exact h
  | succ n ih =>
    have ht := State.loaderTouch_wf h ctx va
    unfold State.readVa
    split
    · next heq => rw [heq] at ht; exact ht
    · next heq =>
      rw [heq] at ht
      have hl := ih ht (va + 1)
      split
      · next heq' => rw [heq'] at hl; exact hl
      · next heq' => rw [heq'] at hl; exact hl

theorem State.readVaWords_wf {s : State} (h : s.mem.wf = true) (ctx va n : Nat) : (s.readVaWords ctx va n).1.mem.wf = true := by
  have hr := State.readVa_wf h ctx va (4 * n)
  unfold State.readVaWords
  split
  · next heq => rw [heq] at hr; exact hr
  · next heq => rw [heq] at hr; exact hr

theorem State.fetchImage_wf {s : State} (h : s.mem.wf = true) (ctx va : Nat) : (s.fetchImage ctx va).1.mem.wf = true := by
  have hr := State.readVaWords_wf h ctx va 16
  unfold State.fetchImage
  split
  · next heq => rw [heq] at hr; exact hr
  · next heq =>
    rw [heq] at hr
    split
    · exact hr
    · next w _ =>
      have ht := State.readVaWords_wf hr ctx (va + 64) ((w.getD 4 0).toNat - 16)
      split
      · next heq' => rw [heq'] at ht; exact ht
      · next heq' => rw [heq'] at ht; exact ht

theorem State.imageWords_wf {s : State} (h : s.mem.wf = true) (t : Task) : (s.imageWords t).1.mem.wf = true := by
  have hscrub : (t.regions.foldl (fun s reg => s.setRegion reg ((s.region reg).scrubHit t.ctx (recImage t.record))) s).mem.wf = true := by
    rw [State.foldl_mem (fun s reg => by simp), h]
  have hpin (s : State) (ws : List Word) : (t.regions.foldl (fun s reg => s.pinEntry t ws reg) s).mem = s.mem :=
    State.foldl_mem (fun s reg => State.pinEntry_mem s t ws reg) _ _
  have hf := State.fetchImage_wf hscrub t.ctx (recImgva t.record)
  unfold State.imageWords
  dsimp only
  split
  · rw [hpin]; exact hscrub
  · split
    · next heq => rw [heq] at hf; exact hf
    · next heq => rw [heq] at hf; rw [hpin]; exact hf

theorem State.reloadSource_wf {s : State} (h : s.mem.wf = true) (region : Nat) : (s.reloadSource region).1.mem.wf = true := by
  unfold State.reloadSource
  dsimp only
  split
  · exact h
  · next k _ =>
    split
    · exact h
    · have hf := State.fetchImage_wf h ((s.region region).entry k).ctx.toNat ((s.region region).entry k).addr.toNat
      split
      · next heq => rw [heq] at hf; exact hf
      · next heq =>
        rw [heq] at hf
        split
        · exact hf
        · exact hf

/-! Save areas (R352, R370). -/

theorem State.putSpans_wf {s : State} (h : s.mem.wf = true) (l : List (Nat × Nat)) (bs : List Byte) : (s.putSpans l bs).mem.wf = true := by
  induction l generalizing s bs with
  | nil => exact h
  | cons x l ih =>
    rw [State.putSpans]
    exact ih (by simp [Memory.wf_writeBytes h]) _

theorem State.writeHead_wf {s s' : State} (h : s.mem.wf = true) {ctx : Nat} {v : Head} (hw : s.writeHead ctx v = some s') :
    s'.mem.wf = true := by
  unfold State.writeHead at hw
  dsimp only at hw
  split at hw
  · cases hw
  · cases hw; exact State.putSpans_wf h _ _

theorem State.writeSave_wf {s s' : State} (h : s.mem.wf = true) {ctx : Nat} {units : List Nat} {v : Saved}
    (hw : s.writeSave ctx units v = some s') : s'.mem.wf = true := by
  unfold State.writeSave at hw
  dsimp only at hw
  split at hw
  · cases hw
  · cases hw; exact State.putSpans_wf h _ _

/-! Transactions (R406, R407). -/

theorem State.receive_wf {s : State} (h : s.mem.wf = true) (t : Txn) {f : State → Option State}
    (hf : ∀ s s' : State, s.mem.wf = true → f s = some s' → s'.mem.wf = true) : (s.receive t f).mem.wf = true := by
  unfold State.receive
  dsimp only
  split
  · simp [h]
  · split
    · split
      · next heq => exact hf _ _ (by simpa using h) heq
      · simp [h]
    · split
      · simp [h]
      · split
        · split
          · exact h
          · exact h
        · exact h

theorem State.gate_wf {s s' : State} (h : s.mem.wf = true) {t : Txn} {hdr always allowed : Bool} {f : State → Option State}
    (hf : f s = some s' → s'.mem.wf = true) (hg : s.gate t hdr always allowed f = some s') : s'.mem.wf = true := by
  unfold State.gate at hg
  split at hg
  · cases hg; simp [h]
  · split at hg
    · cases hg; simp [h]
    · split at hg
      · cases hg; simp [h]
      · exact hf hg

theorem State.fabricWrite_wf {s : State} (h : s.mem.wf = true) (t : Txn) (a : Nat) (l : List Byte) : (s.fabricWrite t a l).mem.wf = true := by
  unfold State.fabricWrite
  split
  · simp [h]
  · simp [Memory.wf_writeBytes h]

theorem State.fabricRmw_wf {s : State} (h : s.mem.wf = true) (t : Txn) (n : Nat) (f : Nat → Nat × Option Nat) :
    (s.fabricRmw t n f).1.mem.wf = true := by
  unfold State.fabricRmw
  dsimp only
  split
  · simp [h]
  · split
    · simp [Memory.wf_writeN h]
    · simp [h]

theorem State.rmw_wf {s : State} (h : s.mem.wf = true) (t : Txn) (type n : Nat) (opxOk answer : Bool) (f : Nat → Nat × Option Nat) :
    (s.rmw t type n opxOk answer f).mem.wf = true := by
  refine State.receive_wf h t (fun s s' hs hg => State.gate_wf hs (fun he => ?_) hg)
  have hr := State.fabricRmw_wf hs t n f
  dsimp only at he
  cases he
  simpa using hr

theorem State.enqDecide_wf {s : State} (h : s.mem.wf = true) (t : Txn) : (s.enqDecide t).mem.wf = true := by
  unfold State.enqDecide
  dsimp only
  iterate 6 (split; · simp [h])
  split
  · simp [h, apply_ite State.mem]
  · split
    · simp [h]
    · simp [Memory.wf_writeWords h]

/-! Records (R367, R368). -/

theorem State.putEvent_wf {s : State} (h : s.mem.wf = true) (ctx : Nat) (r : List Word) {go : State → State}
    (hgo : ∀ s, (go s).mem = s.mem) : (s.putEvent ctx r go).mem.wf = true := by
  unfold State.putEvent
  dsimp only
  split
  · rw [hgo, h]
  · split
    · split
      · rw [hgo, h]
      · split
        · exact h
        · rw [hgo, State.areaFault_mem, h]
    · rw [hgo, State.setCtx_mem, State.ringWrite_wf h]

/-! The shared forms of encoded instructions. -/

section Forms

variable {s : State} (h : s.mem.wf = true)
include h

theorem State.gen_wf (q : Req) (f : In → Res) : LeavesWf (s.gen q f) := by
  unfold State.gen
  split <;> simp [h]

theorem State.genE_wf (q : Req) (f : In → Res) : LeavesWf (s.genE q f) := by
  unfold State.genE
  split <;> simp [h]

theorem State.memForm_wf (o : MemOp) : LeavesWf (s.memForm o) := by
  unfold State.memForm
  split
  · exact leavesWf_next.2 (State.memElem_wf h _ _ _)
  · exact leavesWf_next.2 h

theorem State.barForm_wf (opc : Byte) (d a : BitVec 5) (b : Option (BitVec 5)) (w : BitVec 3) (sc : BitVec 2) :
    LeavesWf (s.barForm opc d a b w sc) := by
  unfold State.barForm
  split
  · exact leavesWf_next.2 (State.barElem_wf h _ _ _ _ _ _ _ _)
  · exact leavesWf_next.2 h

theorem State.pressForm_wf (d : BitVec 5) (tag : Tag) (a b : Option (BitVec 5)) (mk : In → Except Byte PCmd) :
    LeavesWf (s.pressForm d tag a b mk) := by
  unfold State.pressForm
  split <;> simp [h]

theorem State.tagForm_wf (opc : Byte) (d : BitVec 5) (a b : Option (BitVec 5)) (k : BitVec 6) : LeavesWf (s.tagForm opc d a b k) := by
  unfold State.tagForm
  split
  · dsimp only
    split
    · simp [h]
    · split
      · simp [h]
      · split <;> simp [h]
  · simp [h]

theorem State.armForm_wf (p : BitVec 3) (k : Option (BitVec 6)) : LeavesWf (s.armForm p k) := by
  unfold State.armForm
  split
  · dsimp only
    split
    · simp [h]
    · split
      · simp [h]
      · exact leavesWf_ite (by simp [h]) (by simp [h])
  · simp [h]

theorem trapForm_wf (code : Byte) (a b : BitVec 5) : LeavesWf (trapForm code a b s) := by
  unfold trapForm
  split
  · dsimp only
    split
    · simp [h]
    · split <;> simp [h]
  · simp [h]

theorem State.wread_wf (r : WRead) (imm : Nat) (d : BitVec 5) : LeavesWf (s.wread r imm d) := by
  unfold State.wread
  split <;> simp [h]

theorem State.wdo_wf {f : State → Nat → Nat → WSlot → State} (hf : ∀ s t k x, (f s t k x).mem = s.mem) : LeavesWf (s.wdo f) := by
  unfold State.wdo
  split <;> simp [h, hf]

end Forms

end Sys2Proof.Machine
end

section
/-! PROOFS. The instructions keep the canonical form of memory: one lemma for each that is no shared form, by the branches of its
meaning, each of which ends in a state made by operations of the two parts above. -/

namespace Sys2Proof.Machine

/-! The memory system (R187, R192, R397). -/

theorem execPageWalk_wf {s : State} (h : s.mem.wf = true) (walk : Nat) : LeavesWf (execPageWalk walk s) := by
  unfold execPageWalk
  split
  · simp [h]
  · refine leavesWf_ite ?_ (by simp [h])
    dsimp only
    split
    · simp [h]
    · exact leavesWf_next.2 (walkResult_wf h _ _ _ _)

theorem execMemoryAccessAtHome_wf {s : State} (h : s.mem.wf = true) (acc : Nat) : LeavesWf (execMemoryAccessAtHome acc s) := by
  unfold execMemoryAccessAtHome
  split
  · simp [h]
  · next a _ =>
    refine leavesWf_ite (by simp [h]) ?_
    split
    · exact leavesWf_next.2 (State.perform_wf h a _)
    · refine leavesWf_ite (by simp [h]) ?_
      have ht := State.translate_wf h a.via a.ctx a.va a.act.kind
      split
      · next heq => rw [heq] at ht; exact leavesWf_next.2 ht
      · next heq => rw [heq] at ht; exact leavesWf_next.2 ht
      · next heq =>
        rw [heq] at ht
        rw [leavesWf_next]
        split
        · rw [State.park_mem]; exact ht
        · exact ht
    · simp [h]

/-! The port lane (R182 to R186). -/

theorem execLongLatencyCommit_wf {s : State} (h : s.mem.wf = true) (el id : Nat) : LeavesWf (execLongLatencyCommit el id s) := by
  unfold execLongLatencyCommit
  split
  · split <;> simp [h]
  · simp [h]

theorem execMemoryResponse_wf {s : State} (h : s.mem.wf = true) (acc : Nat) : LeavesWf (execMemoryResponse acc s) := by
  unfold execMemoryResponse
  dsimp only
  repeat' split
  all_goals simp [h]

theorem execPostedTranslate_wf {s : State} (h : s.mem.wf = true) (acc : Nat) : LeavesWf (execPostedTranslate acc s) := by
  unfold execPostedTranslate
  split
  · simp [h]
  · next a _ =>
    extract_lets s1 mine
    have h1 : s1.mem.wf = true := by rw [State.leftTile_mem, h]
    refine leavesWf_ite (by simp [h]) (leavesWf_ite (leavesWf_next.2 h1) ?_)
    have ht := State.translateAll_wf h1 mine
    split
    · next heq => rw [heq] at ht; rw [leavesWf_next, State.sendLanes_mem]; exact ht
    · next heq => rw [heq] at ht; exact leavesWf_next.2 ht
    · next heq => rw [heq] at ht; rw [leavesWf_next, State.park_mem]; exact ht

theorem execFence_wf {st : State} (h : st.mem.wf = true) (d : BitVec 5) (s : BitVec 2) : LeavesWf (execFence d s st) := by
  unfold execFence
  dsimp only
  split
  · split <;> simp [h]
  · simp [h]

theorem execFenceComplete_wf {s : State} (h : s.mem.wf = true) (el : Nat) (id : Nat) : LeavesWf (execFenceComplete el id s) := by
  unfold execFenceComplete
  split
  · split
    · exact leavesWf_ite (by simp [h]) (by simp [h])
    · simp [h]
  · simp [h]

/-! Segments and the Press (R212 to R252). -/

theorem execSegstep_wf {s : State} (h : s.mem.wf = true) (d a : BitVec 5) (k : BitVec 3) (t : BitVec 1) :
    LeavesWf (execSegstep d a k t s) := by
  unfold execSegstep
  dsimp only
  split
  · split <;> simp [h]
  · simp [h]

theorem execSegend_wf {s : State} (h : s.mem.wf = true) (d a : BitVec 5) (k : BitVec 3) (f : BitVec 2) (t : BitVec 1) :
    LeavesWf (execSegend d a k f t s) := by
  unfold execSegend
  dsimp only
  repeat' split
  all_goals simp [h]

theorem execPressCommandPerform_wf {s : State} (h : s.mem.wf = true) (tile : Nat) : LeavesWf (execPressCommandPerform tile s) := by
  unfold execPressCommandPerform
  dsimp only
  repeat' split
  all_goals simp [h]

theorem execPressResultDelivery_wf {s : State} (h : s.mem.wf = true) (tile : Nat) : LeavesWf (execPressResultDelivery tile s) := by
  unfold execPressResultDelivery
  dsimp only
  split
  · simp [h]
  · split <;> simp [h]

theorem execPressMark_wf {s : State} (h : s.mem.wf = true) (tile : Nat) : LeavesWf (execPressMark tile s) := by
  unfold execPressMark
  dsimp only
  split <;> simp [h]

theorem execPressDrain_wf {s : State} (h : s.mem.wf = true) (tile : Nat) : LeavesWf (execPressDrain tile s) := by
  unfold execPressDrain
  dsimp only
  split <;> simp [h]

/-! The copy engine (R195 to R206). -/

theorem execCopy_wf {s : State} (h : s.mem.wf = true) (d a b : BitVec 5) (k : BitVec 6) : LeavesWf (execCopy d a b k s) := by
  unfold execCopy
  dsimp only
  repeat' split
  all_goals simp [h]

theorem execCopyIssueDeferred_wf {s : State} (h : s.mem.wf = true) (el id : Nat) : LeavesWf (execCopyIssueDeferred el id s) := by
  unfold execCopyIssueDeferred
  dsimp only
  repeat' split
  all_goals simp [h]

theorem execCopyTransfer_wf {s : State} (h : s.mem.wf = true) (tile : Nat) (flight : Nat) :
    LeavesWf (execCopyTransfer tile flight s) := by
  unfold execCopyTransfer
  dsimp only
  split
  · simp [h]
  · split
    · simp [h]
    · split
      · refine leavesWf_ite (leavesWf_next.2 ?_) (by simp [h])
        split <;> simp [h]
      · next f _ _ sh _ _ _ =>
        refine leavesWf_ite (by simp [h]) (leavesWf_ite ?_ (leavesWf_ite ?_ (by simp [h])))
        · have ht := State.translate_wf h tile (s.ctxOfTask (s.taskOfRegion (regionOfTile tile)))
            (((s.window (s.taskOfRegion (regionOfTile tile)) sh.swin).base : Int)
              + sh.src f.a (if f.down then sh.count - 1 - f.mark else f.mark)).toNat .read
          split
          · next heq => rw [heq] at ht; exact leavesWf_next.2 ht
          · next heq => rw [heq] at ht; rw [leavesWf_next, State.pauseCopy_mem]; exact ht
          · next heq => rw [heq] at ht; rw [leavesWf_next, State.copyAccs_mem]; exact ht
        · exact leavesWf_next.2 (State.copyWrite_wf h _ _ _ _ _ _ _)

theorem execCopyComplete_wf {s : State} (h : s.mem.wf = true) (tile flight : Nat) : LeavesWf (execCopyComplete tile flight s) := by
  unfold execCopyComplete
  dsimp only
  repeat' split
  all_goals simp [h]

theorem execCopyTrigger_wf {s : State} (h : s.mem.wf = true) (tile : Nat) : LeavesWf (execCopyTrigger tile s) := by
  unfold execCopyTrigger
  dsimp only
  repeat' split
  all_goals simp [h]

theorem execCopyEngineDrain_wf {s : State} (h : s.mem.wf = true) (tile : Nat) : LeavesWf (execCopyEngineDrain tile s) := by
  unfold execCopyEngineDrain
  dsimp only
  split
  · simp [h]
  · split <;> simp [h]

theorem execCopyEngineMark_wf {s : State} (h : s.mem.wf = true) (tile : Nat) : LeavesWf (execCopyEngineMark tile s) := by
  unfold execCopyEngineMark
  dsimp only
  split
  · simp [h]
  · split <;> simp [h]

/-! Barriers, SIGSEND and EVENT (R207, R208, R382 to R389). -/

theorem execBararrSend_wf {s : State} (h : s.mem.wf = true) (el id : Nat) : LeavesWf (execBararrSend el id s) := by
  unfold execBararrSend
  dsimp only
  repeat' split
  all_goals simp [h]

theorem execBarrierHomeOp_wf {s : State} (h : s.mem.wf = true) (op : Nat) : LeavesWf (execBarrierHomeOp op s) := by
  unfold execBarrierHomeOp
  split
  · simp [h]
  · next o _ =>
    extract_lets obj chan code set park noted s1 s2 own
    have hset (s : State) : (set s).mem = s.mem := rfl
    have h1 : s1.mem.wf = true := by
      unfold s1
      split
      · simp [h]
      · simp [Memory.wf_setBarrier h]
    have h2 : s2.mem.wf = true := by rw [State.release_mem]; exact h1
    clear_value s1 s2
    refine leavesWf_ite (by simp [h]) (leavesWf_ite (by simp [h]) (leavesWf_ite ?_ (leavesWf_ite ?_ (leavesWf_ite
      (leavesWf_ite ?_ (leavesWf_ite ?_ ?_)) ?_)))) <;> rw [leavesWf_next, hset]
    · exact h
    · rw [State.release_mem]; exact h1
    · split <;> exact h2
    · exact h1
    · exact h1
    · exact h1

theorem execBarrierVerdict_wf {s : State} (h : s.mem.wf = true) (op : Nat) : LeavesWf (execBarrierVerdict op s) := by
  unfold execBarrierVerdict
  dsimp only
  repeat' split
  all_goals simp [h]

theorem execSigsend_wf {s : State} (hm : s.mem.wf = true) (d a b : BitVec 5) (h : BitVec 4) : LeavesWf (execSigsend d a b h s) := by
  unfold execSigsend
  split
  · dsimp only
    split
    · simp [hm]
    · refine leavesWf_ite (by simp [hm]) ?_
      split <;> simp [hm]
  · simp [hm]

theorem execEvent_wf {s : State} (h : s.mem.wf = true) (d a b : BitVec 5) : LeavesWf (execEvent d a b s) := by
  unfold execEvent
  dsimp only
  repeat' split
  all_goals simp [h]

/-! The move group (R140 to R148). -/

theorem execSteer_wf {s : State} (h : s.mem.wf = true) (d a b : BitVec 5) (i : BitVec 3) (p : BitVec 2) :
    LeavesWf (execSteer d a b i p s) := by
  unfold execSteer
  dsimp only
  split
  · split <;> simp [h]
  · simp [h]

theorem execIter_wf {s : State} (h : s.mem.wf = true) (d a : BitVec 5) (i : BitVec 3) (p : BitVec 2) : LeavesWf (execIter d a i p s) := by
  unfold execIter
  dsimp only
  split
  · split <;> simp [h]
  · simp [h]

theorem execHalt_wf {s : State} (h : s.mem.wf = true) : LeavesWf (execHalt s) := by
  unfold execHalt
  split
  · split <;> simp [h]
  · simp [h]

/-! Stream units (R253 to R275). -/

theorem execScannerStep_wf {s : State} (h : s.mem.wf = true) (unit : Nat) : LeavesWf (execScannerStep unit s) := by
  unfold execScannerStep
  dsimp only
  repeat' split
  all_goals simp [h]

theorem execIntersecterStep_wf {s : State} (h : s.mem.wf = true) (unit : Nat) : LeavesWf (execIntersecterStep unit s) := by
  unfold execIntersecterStep
  dsimp only
  repeat' split
  all_goals simp [h]

theorem execRepeaterStep_wf {s : State} (h : s.mem.wf = true) (unit : Nat) : LeavesWf (execRepeaterStep unit s) := by
  unfold execRepeaterStep
  dsimp only
  repeat' split
  all_goals simp [h]

theorem execReducerStep_wf {s : State} (h : s.mem.wf = true) (unit : Nat) : LeavesWf (execReducerStep unit s) := by
  unfold execReducerStep
  dsimp only
  repeat' split
  all_goals simp [h]

theorem execReducerFlush_wf {s : State} (h : s.mem.wf = true) (unit : Nat) : LeavesWf (execReducerFlush unit s) := by
  unfold execReducerFlush
  dsimp only
  repeat' split
  all_goals simp [h]

theorem execNmDecoderStep_wf {s : State} (h : s.mem.wf = true) (unit : Nat) : LeavesWf (execNmDecoderStep unit s) := by
  unfold execNmDecoderStep
  split
  · simp [h]
  · next u _ =>
    refine leavesWf_ite (by simp [h]) ?_
    split
    · refine leavesWf_ite (by simp [h]) (leavesWf_ite (leavesWf_ite ?_ ?_) ?_) <;> simp [h]
    · refine leavesWf_ite (by simp [h]) (leavesWf_ite (by simp [h]) ?_)
      split
      · refine leavesWf_ite (leavesWf_ite ?_ ?_) (leavesWf_ite ?_ (leavesWf_ite ?_
          (leavesWf_ite ?_ (leavesWf_ite ?_ (leavesWf_ite ?_ (leavesWf_ite ?_ ?_)))))) <;> simp [h, apply_ite State.mem]
      · simp [h]
    · simp [h]

theorem execApertureStep_wf {s : State} (h : s.mem.wf = true) (unit : Nat) : LeavesWf (execApertureStep unit s) := by
  unfold execApertureStep
  dsimp only
  repeat' split
  all_goals simp [h]

theorem execSplitterStep_wf {s : State} (h : s.mem.wf = true) (unit : Nat) : LeavesWf (execSplitterStep unit s) := by
  unfold execSplitterStep
  dsimp only
  repeat' split
  all_goals simp [h]

theorem execSplitterSlotRetry_wf {s : State} (h : s.mem.wf = true) (unit : Nat) : LeavesWf (execSplitterSlotRetry unit s) := by
  unfold execSplitterSlotRetry
  split
  · simp [h]
  · split
    · exact leavesWf_ite (by simp [h]) (by simp [h])
    · simp [h]

theorem execSplitterSpillWrite_wf {s : State} (h : s.mem.wf = true) (unit : Nat) : LeavesWf (execSplitterSpillWrite unit s) := by
  unfold execSplitterSpillWrite
  dsimp only
  repeat' split
  all_goals simp [h]

theorem execSplitterSpillRead_wf {s : State} (h : s.mem.wf = true) (unit : Nat) : LeavesWf (execSplitterSpillRead unit s) := by
  unfold execSplitterSpillRead
  dsimp only
  repeat' split
  all_goals simp [h]

theorem execCollimatorStep_wf {s : State} (h : s.mem.wf = true) (unit : Nat) : LeavesWf (execCollimatorStep unit s) := by
  unfold execCollimatorStep
  dsimp only
  repeat' split
  all_goals simp [h]

theorem execUnitMark_wf {s : State} (h : s.mem.wf = true) (unit : Nat) : LeavesWf (execUnitMark unit s) := by
  unfold execUnitMark
  split
  · simp [h]
  · split
    · simp [h]
    · split <;> simp [h]

theorem execUnitDrain_wf {s : State} (h : s.mem.wf = true) (unit : Nat) : LeavesWf (execUnitDrain unit s) := by
  unfold execUnitDrain
  split
  · simp [h]
  · split
    · simp [h]
    · split <;> simp [h]

/-! The system group, unit registers and whey nodes (R276 to R283, R325, R326). -/

theorem execWhey_wf {s : State} (h : s.mem.wf = true) : LeavesWf (execWhey s) := by
  unfold execWhey
  dsimp only
  split
  · split <;> simp [h]
  · simp [h]

theorem execIdent_wf {s : State} (h : s.mem.wf = true) (d : BitVec 5) (sel : BitVec 3) : LeavesWf (execIdent d sel s) := by
  unfold execIdent
  dsimp only
  split
  · split <;> simp [h]
  · simp [h]

theorem execClock_wf {s : State} (h : s.mem.wf = true) (d : BitVec 5) : LeavesWf (execClock d s) := by
  unfold execClock
  dsimp only
  split
  · split <;> simp [h]
  · simp [h]

theorem execClockRead_wf {s : State} (h : s.mem.wf = true) (el id : Nat) : LeavesWf (execClockRead el id s) := by
  unfold execClockRead
  dsimp only
  split
  · split <;> simp [h]
  · simp [h]

theorem execXctl_wf {s : State} (h : s.mem.wf = true) (d a : BitVec 5) (sl : BitVec 5) (r : BitVec 4) :
    LeavesWf (execXctl d a sl r s) := by
  unfold execXctl
  dsimp only
  repeat' split
  all_goals simp [h]

theorem execXstat_wf {s : State} (h : s.mem.wf = true) (d : BitVec 5) (sl : BitVec 5) (r : BitVec 4) : LeavesWf (execXstat d sl r s) := by
  unfold execXstat
  dsimp only
  repeat' split
  all_goals simp [h]

theorem execUnitRegisterRead_wf {s : State} (h : s.mem.wf = true) (el id : Nat) : LeavesWf (execUnitRegisterRead el id s) := by
  unfold execUnitRegisterRead
  dsimp only
  repeat' split
  all_goals simp [h]

theorem execXctlApply_wf {s : State} (h : s.mem.wf = true) (unit : Nat) : LeavesWf (execXctlApply unit s) := by
  unfold execXctlApply
  split
  · simp [h]
  · split
    · simp [h]
    · split <;> simp [h]

theorem execWheyAdderStep_wf {s : State} (h : s.mem.wf = true) (unit : Nat) : LeavesWf (execWheyAdderStep unit s) := by
  unfold execWheyAdderStep
  dsimp only
  repeat' split
  all_goals simp [h]

theorem execWheyRootWrite_wf {s : State} (h : s.mem.wf = true) (unit : Nat) : LeavesWf (execWheyRootWrite unit s) := by
  unfold execWheyRootWrite
  dsimp only
  repeat' split
  all_goals simp [h]

theorem execBrineWheyEmit_wf {s : State} (h : s.mem.wf = true) (unit : Nat) : LeavesWf (execBrineWheyEmit unit s) := by
  unfold execBrineWheyEmit
  dsimp only
  repeat' split
  all_goals simp [h]

/-! Region controllers and records (R320 to R339, R365 to R368). -/

theorem execEventRecordWrite_wf {s : State} (h : s.mem.wf = true) (ctx : Nat) : LeavesWf (execEventRecordWrite ctx s) := by
  unfold execEventRecordWrite
  split
  · exact leavesWf_next.2 (State.putEvent_wf h _ _ (fun s => by rw [State.freeEntry_mem, State.setCtx_mem]))
  · split
    · simp [h]
    · exact leavesWf_next.2 (State.putEvent_wf h _ _ (fun s => State.setElem_mem s _ _))

theorem execFaultRecordPost_wf {s : State} (h : s.mem.wf = true) (ctx : Nat) : LeavesWf (execFaultRecordPost ctx s) := by
  have hs : (s.collectFreezes ctx).mem.wf = true := by simp [h]
  unfold execFaultRecordPost
  dsimp only
  split
  · simp [h]
  · refine leavesWf_ite (leavesWf_ite ?_ (leavesWf_ite ?_ ?_)) ?_
    · simp [h]
    · simp [h]
    · simp [h]
    · simp [State.ringWrite_wf hs]

theorem execSourceInject_wf {s : State} (h : s.mem.wf = true) (region src : Nat) : LeavesWf (execSourceInject region src s) := by
  unfold execSourceInject
  dsimp only
  repeat' split
  all_goals simp [h]

theorem execSinkTake_wf {s : State} (h : s.mem.wf = true) (region sink : Nat) : LeavesWf (execSinkTake region sink s) := by
  unfold execSinkTake
  dsimp only
  repeat' split
  all_goals simp [h]

theorem execSignalHandle_wf {s : State} (h : s.mem.wf = true) (sig : Nat) : LeavesWf (execSignalHandle sig s) := by
  unfold execSignalHandle
  split
  · simp [h]
  · split <;> simp [h]

theorem execSigcommit_wf {s : State} (h : s.mem.wf = true) (region : Nat) (v : Word) : LeavesWf (execSigcommit region v s) := by
  simp [execSigcommit, h]

theorem execUnhpop_wf {s : State} (h : s.mem.wf = true) (region : Nat) : LeavesWf (execUnhpop region s) := by
  simp [execUnhpop, h]

theorem execUdataWrite_wf {s : State} (h : s.mem.wf = true) (region : Nat) (v : Word) : LeavesWf (execUdataWrite region v s) := by
  unfold execUdataWrite
  refine leavesWf_ite (by simp [h]) ?_
  split
  · simp [h]
  · exact leavesWf_ite (by simp [h]) (leavesWf_ite (by simp [h]) (by simp [h]))

theorem execRegionResume_wf {s : State} (h : s.mem.wf = true) (region : Nat) (endid : Word) :
    LeavesWf (execRegionResume region endid s) := by
  unfold execRegionResume
  dsimp only
  repeat' split
  all_goals simp [h]

theorem execRegionDrainComplete_wf {s : State} (h : s.mem.wf = true) (region : Nat) : LeavesWf (execRegionDrainComplete region s) := by
  unfold execRegionDrainComplete
  split <;> simp [h]

/-! Queues (R373 to R381). -/

theorem execEnq_wf {s : State} (h : s.mem.wf = true) (t : Txn) : LeavesWf (execEnq t s) := by
  refine leavesWf_next.2 (State.receive_wf h t (fun s s' hs hg => State.gate_wf hs (fun he => ?_) hg))
  cases he
  exact State.enqDecide_wf hs t

theorem execEnqSpillDone_wf {s : State} (h : s.mem.wf = true) (queue : Nat) : LeavesWf (execEnqSpillDone queue s) := by
  unfold execEnqSpillDone
  dsimp only
  split <;> simp [h]

theorem execQueueRefillDone_wf {s : State} (h : s.mem.wf = true) (queue : Nat) : LeavesWf (execQueueRefillDone queue s) := by
  unfold execQueueRefillDone
  dsimp only
  repeat' split
  all_goals simp [h]

theorem execQueueEnable_wf {s : State} (h : s.mem.wf = true) (queue : Nat) : LeavesWf (execQueueEnable queue s) := by
  unfold execQueueEnable
  dsimp only
  split
  · simp [h]
  · split <;> simp [h]

theorem execQueueDisable_wf {s : State} (h : s.mem.wf = true) (queue : Nat) : LeavesWf (execQueueDisable queue s) := by
  simp [execQueueDisable, h]

theorem execPause_wf {s : State} (h : s.mem.wf = true) (queue : Nat) : LeavesWf (execPause queue s) := by
  unfold execPause
  dsimp only
  split <;> simp [h]

theorem execUnpause_wf {s : State} (h : s.mem.wf = true) (queue : Nat) : LeavesWf (execUnpause queue s) := by
  unfold execUnpause
  dsimp only
  split <;> simp [h]

theorem execClose_wf {s : State} (h : s.mem.wf = true) (queue : Nat) : LeavesWf (execClose queue s) := by
  unfold execClose
  dsimp only
  split <;> simp [h]

theorem execClear_wf {s : State} (h : s.mem.wf = true) (queue : Nat) : LeavesWf (execClear queue s) := by
  unfold execClear
  dsimp only
  split <;> simp [h]

theorem execQueueAged_wf {s : State} (h : s.mem.wf = true) (queue : Nat) : LeavesWf (execQueueAged queue s) := by
  unfold execQueueAged
  dsimp only
  split <;> simp [h]

/-! The dispatcher (R340 to R358). -/

theorem execRegionFence_wf {s : State} (h : s.mem.wf = true) (region : Nat) (code : Byte) : LeavesWf (execRegionFence region code s) := by
  simp [execRegionFence, h]

theorem execDispatchAdmit_wf {s : State} (h : s.mem.wf = true) : LeavesWf (execDispatchAdmit s) := by
  unfold execDispatchAdmit
  split
  · simp [h]
  · split
    · simp [h]
    · next hq =>
      dsimp only
      split
      · simp [h]
      · have h1 := State.chooseQueue_mem hq
        dsimp only at h1
        simp [h1, h]

theorem execTaskBind_wf {s : State} (h : s.mem.wf = true) : LeavesWf (execTaskBind s) := by
  unfold execTaskBind
  dsimp only
  split <;> simp [h]

theorem execBindReservation_wf {s : State} (h : s.mem.wf = true) : LeavesWf (execBindReservation s) := by
  unfold execBindReservation
  dsimp only
  split <;> simp [h]

theorem execQuantumExpiry_wf {s : State} (h : s.mem.wf = true) (task : Nat) : LeavesWf (execQuantumExpiry task s) := by
  unfold execQuantumExpiry
  split
  · split <;> simp [h]
  · simp [h]

theorem execPreempt_wf {s : State} (h : s.mem.wf = true) (ctx : Nat) (taskid : BitVec 16) : LeavesWf (execPreempt ctx taskid s) := by
  unfold execPreempt
  split <;> simp [h]

theorem execMarkInject_wf {s : State} (h : s.mem.wf = true) (task : Nat) : LeavesWf (execMarkInject task s) := by
  unfold execMarkInject
  dsimp only
  repeat' split
  all_goals simp [h, State.foldl_mem]

theorem execTaskSaveComplete_wf {s : State} (h : s.mem.wf = true) (task : Nat) : LeavesWf (execTaskSaveComplete task s) := by
  unfold execTaskSaveComplete
  split
  · simp [h]
  · refine leavesWf_ite (by simp [h]) ?_
    dsimp only
    split
    · simp [h]
    · split
      · simp [h]
      · next hw =>
        rw [leavesWf_next, State.taskEvent_mem, State.setTask_mem, State.foldl_mem State.freeRegion_mem, State.voidItems_mem]
        exact State.writeSave_wf h hw

theorem execTaskDrainDetect_wf {s : State} (h : s.mem.wf = true) (task : Nat) : LeavesWf (execTaskDrainDetect task s) := by
  unfold execTaskDrainDetect
  split
  · refine leavesWf_ite ?_ (by simp [h])
    rw [leavesWf_next, State.foldl_mem State.drainState_mem]
    exact h
  · simp [h]

theorem execTaskRetire_wf {s : State} (h : s.mem.wf = true) (task : Nat) : LeavesWf (execTaskRetire task s) := by
  unfold execTaskRetire
  split
  · simp [h]
  · next t _ =>
    refine leavesWf_ite (by simp [h]) ?_
    split
    · extract_lets s1
      have h1 : s1.mem.wf = true := by simp [s1, State.dropWaiters_wf h]
      clear_value s1
      refine leavesWf_ite ?_ (leavesWf_ite (by simp [h]) (leavesWf_ite ?_ (leavesWf_next.2 h1)))
      · rw [leavesWf_next, State.retire_mem, State.foldl_mem State.freeRegion_mem]
        exact State.forgetWaiters_wf h t
      · rw [leavesWf_next, State.retire_mem]
        exact State.flushTask_wf h1 task t
    · refine leavesWf_ite (leavesWf_next.2 ?_) (by simp [h])
      split <;> simp [h]

theorem execAbort_wf {s : State} (h : s.mem.wf = true) (ctx : Nat) (taskid : BitVec 16) : LeavesWf (execAbort ctx taskid s) := by
  unfold execAbort
  split <;> simp [h]

/-! Walks (R305 to R319). -/

theorem execWalk_wf {s : State} (h : s.mem.wf = true) (d a b : BitVec 5) (w : BitVec 3) : LeavesWf (execWalk d a b w s) := by
  unfold execWalk
  dsimp only
  repeat' split
  all_goals simp [h]

theorem execWalkAccept_wf {s : State} (h : s.mem.wf = true) (el id : Nat) : LeavesWf (execWalkAccept el id s) := by
  unfold execWalkAccept
  dsimp only
  repeat' split
  all_goals simp [h]

theorem execWcmp_wf {s : State} (h : s.mem.wf = true) (d : BitVec 5) (w : BitVec 2) : LeavesWf (execWcmp d w s) :=
  State.wdo_wf h (fun _ _ _ _ => rfl)

theorem execWhash_wf {s : State} (h : s.mem.wf = true) (d a : BitVec 5) (w : BitVec 2) : LeavesWf (execWhash d a w s) :=
  State.wdo_wf h (fun _ _ _ _ => rfl)

theorem execWmiss_wf {s : State} (h : s.mem.wf = true) : LeavesWf (execWmiss s) :=
  State.wdo_wf h (fun s t k _ => State.endWalk_mem s t k _ _ _)

theorem execWfail_wf {s : State} (h : s.mem.wf = true) : LeavesWf (execWfail s) :=
  State.wdo_wf h (fun s t k _ => State.endWalk_mem s t k _ _ _)

theorem execWalkReadReturn_wf {s : State} (h : s.mem.wf = true) (etile slot : Nat) : LeavesWf (execWalkReadReturn etile slot s) := by
  unfold execWalkReadReturn
  dsimp only
  repeat' split
  all_goals simp [h]

theorem execWalkResultDelivery_wf {s : State} (h : s.mem.wf = true) (etile slot : Nat) :
    LeavesWf (execWalkResultDelivery etile slot s) := by
  unfold execWalkResultDelivery
  dsimp only
  repeat' split
  all_goals simp [h]

/-! Loading and reloading a span (R327 to R334). -/

theorem execImageLoad_wf {s : State} (h : s.mem.wf = true) (task : Nat) : LeavesWf (execImageLoad task s) := by
  unfold execImageLoad
  split
  · simp [h]
  · next t _ =>
    refine leavesWf_ite (by simp [h]) ?_
    have hw := State.imageWords_wf h t
    split
    · next heq => rw [heq] at hw; simpa using hw
    · next s1 ws heq =>
      rw [heq] at hw
      dsimp only at hw ⊢
      split
      · simp [hw]
      · split
        · simp [hw]
        · split
          · split
            · simp [hw]
            · refine leavesWf_ite (by simp [hw]) ?_
              rw [leavesWf_next, State.startTask_mem]
              exact State.reinstate_wf (by simp [hw]) _ _ _
          · have hv := State.readVaWords_wf hw t.ctx (recArgva t.record) (recArglen t.record)
            split
            · next heq' => rw [heq'] at hv; simpa using hv
            · next heq' => rw [heq'] at hv; simpa using hv

theorem execConfigStoreError_wf {s : State} (h : s.mem.wf = true) (region : Nat) : LeavesWf (execConfigStoreError region s) := by
  simp [execConfigStoreError, h]

theorem execConfigSignatureCheck_wf {s : State} (h : s.mem.wf = true) (region : Nat) : LeavesWf (execConfigSignatureCheck region s) := by
  unfold execConfigSignatureCheck
  split <;> simp [h]

theorem execConfigReloadDone_wf {s : State} (h : s.mem.wf = true) (region : Nat) : LeavesWf (execConfigReloadDone region s) := by
  unfold execConfigReloadDone
  refine leavesWf_ite (by simp [h]) ?_
  have hr := State.reloadSource_wf h region
  split
  · next heq => rw [heq] at hr; simpa using hr
  · next heq =>
    rw [heq] at hr
    dsimp only at hr ⊢
    split <;> simp [hr]

/-! Reset and boot (R403, R429 to R437). -/

theorem execDeviceReset_wf {s : State} (_h : s.mem.wf = true) : LeavesWf (execDeviceReset s) :=
  leavesWf_next.2 State.reset_mem_wf

theorem execPllLockLoss_wf {s : State} (_h : s.mem.wf = true) : LeavesWf (execPllLockLoss s) :=
  leavesWf_next.2 State.reset_mem_wf

theorem execBoot_wf {s : State} (h : s.mem.wf = true) : LeavesWf (execBoot s) := by
  unfold execBoot
  split
  · simp [h]
  · split
    · simp [h]
    · split <;> simp [h]

/-! Contexts and invalidation (R360 to R372, R398). -/

theorem execCreate_wf {s : State} (h : s.mem.wf = true) (ctx : Nat) : LeavesWf (execCreate ctx s) := by
  unfold execCreate
  dsimp only
  split
  · simp [h]
  · split <;> simp [h]

theorem execQuotaWrite_wf {s : State} (h : s.mem.wf = true) (ctx : Nat) (v : Word) : LeavesWf (execQuotaWrite ctx v s) := by
  unfold execQuotaWrite
  dsimp only
  split <;> simp [h]

theorem execRestore_wf {s : State} (h : s.mem.wf = true) (ctx : Nat) : LeavesWf (execRestore ctx s) := by
  unfold execRestore
  dsimp only
  split <;> simp [h]

theorem execContextRestoreDone_wf {s : State} (h : s.mem.wf = true) (ctx : Nat) : LeavesWf (execContextRestoreDone ctx s) := by
  unfold execContextRestoreDone
  refine leavesWf_ite (by simp [h]) ?_
  dsimp only
  split
  · simp [h]
  · refine leavesWf_ite (by simp [h]) ?_
    rw [leavesWf_next, State.foldl_mem (fun s v => State.placeQueue_mem s ctx v)]
    exact h

theorem execQuiesce_wf {s : State} (h : s.mem.wf = true) (ctx : Nat) : LeavesWf (execQuiesce ctx s) := by
  unfold execQuiesce
  dsimp only
  split <;> simp [h]

theorem execQuiesceComplete_wf {s : State} (h : s.mem.wf = true) (ctx : Nat) : LeavesWf (execQuiesceComplete ctx s) := by
  unfold execQuiesceComplete
  refine leavesWf_ite (by simp [h]) ?_
  dsimp only
  split
  · simp [h]
  · next hw =>
    have h1 := State.writeHead_wf h hw
    rw [leavesWf_next, State.postEvent_mem, State.setCtx_mem]
    exact h1

theorem execResume_wf {s : State} (h : s.mem.wf = true) (ctx : Nat) : LeavesWf (execResume ctx s) := by
  unfold execResume
  dsimp only
  repeat' split
  all_goals simp [h]

theorem execDestroy_wf {s : State} (h : s.mem.wf = true) (ctx : Nat) : LeavesWf (execDestroy ctx s) := by
  unfold execDestroy
  extract_lets c saved s1 s2 s3 s4
  refine leavesWf_ite (by simp [h]) ?_
  have h1 : s1.mem = s.mem := State.foldl_mem (fun s k => State.setQueue_mem s _ _) _ _
  have h2 : s2.mem = s1.mem := State.foldl_mem (fun s x => State.abortTask_mem s _) _ _
  have h3 : s3.mem.wf = true :=
    State.foldl_wf (fun _ _ hs => State.foldl_wf (fun _ w hs => State.forgetSaved_wf hs ctx w) _ hs) _ (by rw [h2, h1, h])
  rw [leavesWf_next, State.setCtx_mem, State.dropTlb_mem]
  exact h3

theorem execDestroyComplete_wf {s : State} (h : s.mem.wf = true) (ctx : Nat) : LeavesWf (execDestroyComplete ctx s) := by
  unfold execDestroyComplete
  dsimp only
  split <;> simp [h]

theorem execResolveReplay_wf {s : State} (h : s.mem.wf = true) (ctx handle : Nat) : LeavesWf (execResolveReplay ctx handle s) := by
  unfold execResolveReplay
  dsimp only
  repeat' split
  all_goals simp [h]

theorem execResolveDiscard_wf {s : State} (h : s.mem.wf = true) (ctx handle : Nat) : LeavesWf (execResolveDiscard ctx handle s) := by
  unfold execResolveDiscard
  dsimp only
  repeat' split
  all_goals simp [h]

theorem execHarvest_wf {s : State} (h : s.mem.wf = true) (ctx : Nat) : LeavesWf (execHarvest ctx s) := by
  unfold execHarvest
  refine leavesWf_ite (by simp [h]) ?_
  dsimp only
  split
  · simp [h]
  · exact leavesWf_ite (by simp [h]) (by simp [Memory.wf_writeN (Memory.wf_writeN h _ _ _)])

theorem execHarvestComplete_wf {s : State} (h : s.mem.wf = true) (ctx : Nat) : LeavesWf (execHarvestComplete ctx s) := by
  unfold execHarvestComplete
  dsimp only
  split
  · split <;> simp [h]
  · simp [h]

theorem execTinvPage_wf {s : State} (h : s.mem.wf = true) (cmd : Dword) : LeavesWf (execTinvPage cmd s) := by
  simp [execTinvPage, h]

theorem execTinvContext_wf {s : State} (h : s.mem.wf = true) (cmd : Dword) : LeavesWf (execTinvContext cmd s) := by
  simp [execTinvContext, h]

theorem execTinvComplete_wf {s : State} (h : s.mem.wf = true) : LeavesWf (execTinvComplete s) := by
  unfold execTinvComplete
  split <;> simp [h]

/-! Protection, the fault log and the governor (R418 to R428). -/

theorem execDflRecordWrite_wf {s : State} (h : s.mem.wf = true) : LeavesWf (execDflRecordWrite s) := by
  unfold execDflRecordWrite
  split
  · simp [h]
  · exact leavesWf_ite (by simp [h]) (leavesWf_ite leavesWf_fault (leavesWf_next.2 (State.ringWrite_wf h _ _ _)))

theorem execScrubPass_wf {s : State} (h : s.mem.wf = true) (group : Nat) (bank : Option Nat) : LeavesWf (execScrubPass group bank s) := by
  have hs := State.scrubFault_wf h group bank
  unfold execScrubPass
  dsimp only
  rw [leavesWf_next, State.bankFence_mem]
  dsimp only
  rw [State.noteGroup_mem]
  split <;> simp [hs]

theorem execPowerGovernorSample_wf {s : State} (h : s.mem.wf = true) : LeavesWf (execPowerGovernorSample s) := by
  simp [execPowerGovernorSample, h]

/-! Links (R402 to R412). -/

theorem execLinkTrainingDone_wf {s : State} (h : s.mem.wf = true) (link : Nat) (lanes : BitVec 4) :
    LeavesWf (execLinkTrainingDone link lanes s) := by
  unfold execLinkTrainingDone
  dsimp only
  repeat' split
  all_goals simp [h]

theorem execLinkEnable_wf {s : State} (h : s.mem.wf = true) (link : Nat) : LeavesWf (execLinkEnable link s) := by
  unfold execLinkEnable
  split <;> simp [h]

theorem execLinkDisable_wf {s : State} (h : s.mem.wf = true) (link : Nat) : LeavesWf (execLinkDisable link s) := by
  unfold execLinkDisable
  split <;> simp [h]

theorem execLinkRetrain_wf {s : State} (h : s.mem.wf = true) (link : Nat) : LeavesWf (execLinkRetrain link s) := by
  unfold execLinkRetrain
  split <;> simp [h]

theorem execLinkFence_wf {s : State} (h : s.mem.wf = true) (link : Nat) : LeavesWf (execLinkFence link s) := by
  simp [execLinkFence, h]

theorem execFlitReceive_wf {s0 : State} (h : s0.mem.wf = true) (link : Nat) (flit : List Byte) :
    LeavesWf (execFlitReceive link flit s0) := by
  unfold execFlitReceive
  dsimp only
  repeat' split
  all_goals simp [h]

theorem execReplayRequest_wf {s : State} (h : s.mem.wf = true) (link : Nat) (seq : BitVec 12) :
    LeavesWf (execReplayRequest link seq s) := by
  unfold execReplayRequest
  split <;> simp [h]

theorem execReplayExhausted_wf {s : State} (h : s.mem.wf = true) (link : Nat) : LeavesWf (execReplayExhausted link s) := by
  unfold execReplayExhausted
  split <;> simp [h]

theorem execTransactionResend_wf {s : State} (h : s.mem.wf = true) (ep : Nat) (eseq : BitVec 16) :
    LeavesWf (execTransactionResend ep eseq s) := by
  unfold execTransactionResend
  dsimp only
  split
  · split <;> simp [h]
  · simp [h]

/-! Transactions performed (R406, R409). -/

theorem execRead_wf {s : State} (h : s.mem.wf = true) (t : Txn) : LeavesWf (execRead t s) := by
  refine leavesWf_next.2 (State.receive_wf h t (fun s s' hs hg => State.gate_wf hs (fun he => ?_) hg))
  cases he
  simp [hs]

theorem execWrite_wf {s : State} (h : s.mem.wf = true) (t : Txn) : LeavesWf (execWrite t s) := by
  refine leavesWf_next.2 (State.receive_wf h t (fun s s' hs hg => State.gate_wf hs (fun he => ?_) hg))
  cases he
  simp [State.fabricWrite_wf hs]

theorem execSignal_wf {s : State} (h : s.mem.wf = true) (t : Txn) : LeavesWf (execSignal t s) := by
  refine leavesWf_next.2 (State.receive_wf h t (fun s s' hs hg => State.gate_wf hs (fun he => ?_) hg))
  cases he
  simp [hs]

theorem execAtomic_wf {s : State} (h : s.mem.wf = true) (t : Txn) : LeavesWf (execAtomic t s) :=
  leavesWf_next.2 (State.rmw_wf h t _ _ _ _ _)

theorem execXchg64_wf {s : State} (h : s.mem.wf = true) (t : Txn) : LeavesWf (execXchg64 t s) :=
  leavesWf_next.2 (State.rmw_wf h t _ _ _ _ _)

theorem execCas64_wf {s : State} (h : s.mem.wf = true) (t : Txn) : LeavesWf (execCas64 t s) :=
  leavesWf_next.2 (State.rmw_wf h t _ _ _ _ _)

theorem execReduce_wf {s : State} (h : s.mem.wf = true) (t : Txn) : LeavesWf (execReduce t s) :=
  leavesWf_next.2 (State.rmw_wf h t _ _ _ _ _)

theorem execResponse_wf {s : State} (h : s.mem.wf = true) (t : Txn) : LeavesWf (execResponse t s) := by
  unfold execResponse
  split
  · simp [h]
  · split
    · simp [h]
    · split <;> simp [h]

theorem execNack_wf {s : State} (h : s.mem.wf = true) (t : Txn) : LeavesWf (execNack t s) := by
  unfold execNack
  split
  · simp [h]
  · split <;> simp [h]

/-! The management space (R410 to R412). -/

theorem execRegisterWrite_wf {s : State} (h : s.mem.wf = true) (off : Nat) (v : Dword) (wide : Bool) :
    LeavesWf (execRegisterWrite off v wide s) := by
  unfold execRegisterWrite
  split
  · simp [h]
  · split <;> simp [h]

theorem execAclWrite_wf {s : State} (h : s.mem.wf = true) (off : Nat) (v : Dword) (wide : Bool) :
    LeavesWf (execAclWrite off v wide s) := by
  simp [execAclWrite, h]

theorem execMeasmaskWrite_wf {s : State} (h : s.mem.wf = true) (v : Dword) (_wide : Bool) : LeavesWf (execMeasmaskWrite v _wide s) := by
  simp [execMeasmaskWrite, h]

theorem execReport_wf {s : State} (h : s.mem.wf = true) (cmd : Dword) : LeavesWf (execReport cmd s) := by
  unfold execReport
  dsimp only
  split
  · simp [h]
  · split <;> simp [h]

theorem execReportDone_wf {s : State} (h : s.mem.wf = true) : LeavesWf (execReportDone s) := by
  unfold execReportDone
  split
  · simp [Memory.wf_writeBytes h]
  · simp [h]

/-! Tokens on their way and the life of an element (R19, R86 to R89). -/

theorem execRuleUrgent_wf {s : State} (h : s.mem.wf = true) (el rule : Nat) : LeavesWf (execRuleUrgent el rule s) := by
  unfold execRuleUrgent
  dsimp only
  split <;> simp [h]

theorem execTokenArrival_wf {s : State} (h : s.mem.wf = true) (ch : Nat) : LeavesWf (execTokenArrival ch s) := by
  simp [execTokenArrival, h]

theorem execHaltedDiscard_wf {s : State} (h : s.mem.wf = true) (el : Nat) : LeavesWf (execHaltedDiscard el s) := by
  unfold execHaltedDiscard
  dsimp only
  split <;> simp [h]

theorem execElementMark_wf {s : State} (h : s.mem.wf = true) (el : Nat) : LeavesWf (execElementMark el s) := by
  unfold execElementMark
  exact leavesWf_ite (leavesWf_ite (leavesWf_next.2 (State.mark_wf h el)) (by simp [h]))
    (leavesWf_ite (by simp [h]) (by simp [h]))

theorem execElementDrainForward_wf {s : State} (h : s.mem.wf = true) (el : Nat) : LeavesWf (execElementDrainForward el s) := by
  unfold execElementDrainForward
  dsimp only
  split <;> simp [h]

/-! The round (R70 to R72). -/

theorem execRound_wf {s : State} (h : s.mem.wf = true) : LeavesWf (execRound s) := by
  unfold execRound
  dsimp only
  simp [State.advance_wf h]

end Sys2Proof.Machine
end

section
/-! PROOFS. The obligations on memory: it is in canonical form at reset, and every step keeps it so. -/

namespace Sys2Proof.Machine

/-! Management (R410): a write runs the register's own step, or a command's. -/

theorem State.ite_wf {c : Prop} [Decidable c] {a b : State} (ha : a.mem.wf = true) (hb : b.mem.wf = true) :
    (if c then a else b).mem.wf = true := by
  split
  · exact ha
  · exact hb

section Management

variable {s : State} (h : s.mem.wf = true)
include h

theorem State.rowWrite_wf {s' : State} {off : Nat} {v : Word} (hw : s.rowWrite off v = some s') : s'.mem.wf = true := by
  unfold State.rowWrite at hw
  split at hw
  · cases hw; exact stepped_wf h (execMeasmaskWrite_wf h _ _)
  · split at hw
    · cases hw; exact stepped_wf h (execAclWrite_wf h _ _ _)
    · split at hw
      · cases hw; exact stepped_wf h (execQuotaWrite_wf h _ _)
      · split at hw
        · dsimp only at hw
          split at hw
          · cases hw; exact stepped_wf h (execUdataWrite_wf h _ _)
          · cases hw; exact stepped_wf h (execSigcommit_wf h _ _)
          · cases hw; exact stepped_wf h (execUnhpop_wf h _)
          · cases hw
        · cases hw

theorem State.write4_wf (off : Nat) (v : Word) : (s.write4 off v).mem.wf = true := by
  unfold State.write4
  split
  · next hw => exact State.rowWrite_wf h hw
  · simp [h]

theorem State.queueCommand_wf (k : Nat) (e : Ev) : (s.queueCommand k e).mem.wf = true := by
  simp [h]

theorem State.command_wf (off : Nat) (v : Dword) : (s.command off v).mem.wf = true := by
  unfold State.command
  dsimp only
  refine State.ite_wf (State.ite_wf h ?task) (State.ite_wf ?tinv (State.ite_wf ?report (State.ite_wf (State.ite_wf h ?ctx)
    (State.ite_wf (State.ite_wf h ?queue) (State.ite_wf ?link (State.ite_wf h ?region))))))
  case task =>
    split
    · exact stepped_wf h (execAbort_wf h _ _)
    · exact stepped_wf h (execPreempt_wf h _ _)
    · exact h
  case tinv =>
    split
    · exact stepped_wf h (execTinvPage_wf h _)
    · exact stepped_wf h (execTinvContext_wf h _)
    · exact h
  case report => exact State.ite_wf (stepped_wf h (execReport_wf h _)) h
  case ctx =>
    split
    · exact State.ite_wf (stepped_wf h (execCreate_wf h _)) (by simp [h])
    · exact stepped_wf h (execRestore_wf h _)
    · exact stepped_wf h (execQuiesce_wf h _)
    · exact stepped_wf h (execResume_wf h _)
    · exact stepped_wf h (execDestroy_wf h _)
    · split
      · exact stepped_wf h (execResolveReplay_wf h _ _)
      · exact stepped_wf h (execResolveDiscard_wf h _ _)
      · simp [h]
    · exact stepped_wf h (execHarvest_wf h _)
    · exact h
  case queue =>
    split
    · exact State.queueCommand_wf h _ _
    · exact State.queueCommand_wf h _ _
    · exact State.queueCommand_wf h _ _
    · exact State.queueCommand_wf h _ _
    · exact State.queueCommand_wf h _ _
    · exact State.queueCommand_wf h _ _
    · exact h
  case link =>
    split
    · exact stepped_wf h (execLinkEnable_wf h _)
    · exact stepped_wf h (execLinkDisable_wf h _)
    · exact stepped_wf h (execLinkRetrain_wf h _)
    · exact stepped_wf h (execLinkFence_wf h _)
    · exact h
  case region =>
    split
    · exact stepped_wf h (execRegionResume_wf h _ _)
    · exact stepped_wf h (execRegionFence_wf h _ _)
    · exact h

theorem State.mgmtWrite_wf (off : Nat) (v : Dword) (wide : Bool) : (s.mgmtWrite off v wide).mem.wf = true :=
  State.ite_wf (State.command_wf h _ _) (State.ite_wf (by simp [h]) (State.ite_wf (stepped_wf h (execAclWrite_wf h _ _ _))
    (State.ite_wf (State.write4_wf (State.write4_wf h _ _) _ _) (State.write4_wf h _ _))))

end Management

theorem execMgmt_wf {s : State} (h : s.mem.wf = true) (t : Txn) : LeavesWf (execMgmt t s) := by
  refine leavesWf_next.2 (State.receive_wf h t (fun s s' hs hg => State.gate_wf hs (fun he => ?_) hg))
  dsimp only at he
  split at he
  · cases he
    rw [State.respond_mem]
    exact State.mgmtWrite_wf hs _ _ _
  · cases he
    simp [hs]

/-- Every instruction and every step without an encoding keeps the canonical form of memory. -/
theorem exec_wf {s : State} (h : s.mem.wf = true) (i : Instr) : LeavesWf (exec i s) := by
  cases i with
  | nop | mov | sel | ptod | dtop | add | sub | neg | abs | mul | mulh | mulhn | min | max | minn | maxn | and | or | xor | andn
    | orn | not | shl | shr | sar | rol | clz | ctz | popc | brev | bfx | bfxs | cmpeq | cmpne | cmplt | cmple | cmpltn | cmplen
    | addh2 | subh2 | maxh2 | minh2 | addb4 | subb4 | maxb4 | minb4 | lea | hash | xsh | divn | remn | pand | por | pxor | pnot
    | pmov =>
    exact State.gen_wf h _ _
  | pass | drop | tagof | mktag | cntrd | cntset | adds | subs | addsn | subsn | mac | bfi | dot4 | dot4n | fadd | fsub | fmul |
    ffma | fmin | fmax | fabs | fneg | fcpys | fcmpeq | fcmplt | fcmple | fcmpun | fclass | fdiv | fsqrt | frcpe | frsqe | fex2
    | flg2 | frint | ffloor | fceil | ftrnc | badd2 | bsub2 | bmul2 | bfma2 | bmax2 | bmin2 | hadd2 | hsub2 | hmul2 | hfma2 |
    hmax2 | hmin2 | cvtfi | cvtif | cvtifz | cvtbf | cvtbfz | cvthf | cvthfz | cvtfb | cvtfh | cvte4 | cvte4z | cvte5 | cvte5z |
    cvtfe4 | cvtfe5 | cvtq4 | cvtq4z | cvtfq4 | qsc =>
    exact State.genE_wf h _ _
  | ld8 | ld8s | ld16 | ld16s | ld32 | st8 | st16 | st32 | ldg | stg | aadd | asub | amin | amax | aminn | amaxn | aand | aor |
    axor | axchg | acas | afadd | abadd2 | atake | agive | radd | rmin | rmax | rminn | rmaxn | rand | ror | rxor | rfadd |
    rbadd2 =>
    exact State.memForm_wf h _
  | carm k p => exact State.armForm_wf h p (some k)
  | cdis p => exact State.armForm_wf h p none
  | cstat d k => exact State.tagForm_wf h 0xCB d none none k
  | tagany | tagall | tagff | tagclr =>
    exact State.tagForm_wf h _ _ _ _ _
  | barinit | bararr | barkill | barq =>
    exact State.barForm_wf h _ _ _ _ _ _
  | sumnew | sumapp | sumbsc | sumpatch | sumrd | sumseal | ptbl | pmask | ppoint | pclr | pseg | pdense | pvlda | pvldb |
    pouter | pread | pstat | psync =>
    exact State.pressForm_wf h _ _ _ _ _
  | wrd | wptr | wret | wnext =>
    exact State.wread_wf h _ _ _
  | trap | brk =>
    exact trapForm_wf h _ _ _
  | steer => exact execSteer_wf h _ _ _ _ _
  | iter => exact execIter_wf h _ _ _ _
  | halt => exact execHalt_wf h
  | fence => exact execFence_wf h _ _
  | copy => exact execCopy_wf h _ _ _ _
  | walk => exact execWalk_wf h _ _ _ _
  | sigsend => exact execSigsend_wf h _ _ _ _
  | event => exact execEvent_wf h _ _ _
  | segstep => exact execSegstep_wf h _ _ _ _
  | segend => exact execSegend_wf h _ _ _ _ _
  | wcmp => exact execWcmp_wf h _ _
  | whash => exact execWhash_wf h _ _ _
  | wmiss => exact execWmiss_wf h
  | wfail => exact execWfail_wf h
  | whey => exact execWhey_wf h
  | ident => exact execIdent_wf h _ _
  | clock => exact execClock_wf h _
  | xctl => exact execXctl_wf h _ _ _ _
  | xstat => exact execXstat_wf h _ _ _
  | ruleUrgent => exact execRuleUrgent_wf h _ _
  | longLatencyCommit => exact execLongLatencyCommit_wf h _ _
  | tokenArrival => exact execTokenArrival_wf h _
  | haltedDiscard => exact execHaltedDiscard_wf h _
  | elementMark => exact execElementMark_wf h _
  | elementDrainForward => exact execElementDrainForward_wf h _
  | memoryAccessAtHome => exact execMemoryAccessAtHome_wf h _
  | memoryResponse => exact execMemoryResponse_wf h _
  | postedTranslate => exact execPostedTranslate_wf h _
  | pageWalk => exact execPageWalk_wf h _
  | fenceComplete => exact execFenceComplete_wf h _ _
  | copyTrigger => exact execCopyTrigger_wf h _
  | copyIssueDeferred => exact execCopyIssueDeferred_wf h _ _
  | copyTransfer => exact execCopyTransfer_wf h _ _
  | copyComplete => exact execCopyComplete_wf h _ _
  | copyEngineDrain => exact execCopyEngineDrain_wf h _
  | bararrSend => exact execBararrSend_wf h _ _
  | barrierHomeOp => exact execBarrierHomeOp_wf h _
  | barrierVerdict => exact execBarrierVerdict_wf h _
  | walkAccept => exact execWalkAccept_wf h _ _
  | walkReadReturn => exact execWalkReadReturn_wf h _ _
  | walkResultDelivery => exact execWalkResultDelivery_wf h _ _
  | pressCommandPerform => exact execPressCommandPerform_wf h _
  | pressResultDelivery => exact execPressResultDelivery_wf h _
  | pressMark => exact execPressMark_wf h _
  | pressDrain => exact execPressDrain_wf h _
  | scannerStep => exact execScannerStep_wf h _
  | intersecterStep => exact execIntersecterStep_wf h _
  | repeaterStep => exact execRepeaterStep_wf h _
  | reducerStep => exact execReducerStep_wf h _
  | reducerFlush => exact execReducerFlush_wf h _
  | nmDecoderStep => exact execNmDecoderStep_wf h _
  | apertureStep => exact execApertureStep_wf h _
  | splitterStep => exact execSplitterStep_wf h _
  | splitterSlotRetry => exact execSplitterSlotRetry_wf h _
  | splitterSpillWrite => exact execSplitterSpillWrite_wf h _
  | splitterSpillRead => exact execSplitterSpillRead_wf h _
  | collimatorStep => exact execCollimatorStep_wf h _
  | unitMark => exact execUnitMark_wf h _
  | unitDrain => exact execUnitDrain_wf h _
  | xctlApply => exact execXctlApply_wf h _
  | unitRegisterRead => exact execUnitRegisterRead_wf h _ _
  | clockRead => exact execClockRead_wf h _ _
  | wheyAdderStep => exact execWheyAdderStep_wf h _
  | wheyRootWrite => exact execWheyRootWrite_wf h _
  | brineWheyEmit => exact execBrineWheyEmit_wf h _
  | imageLoad => exact execImageLoad_wf h _
  | sourceInject => exact execSourceInject_wf h _ _
  | sinkTake => exact execSinkTake_wf h _ _
  | faultRecordPost => exact execFaultRecordPost_wf h _
  | eventRecordWrite => exact execEventRecordWrite_wf h _
  | signalHandle => exact execSignalHandle_wf h _
  | regionDrainComplete => exact execRegionDrainComplete_wf h _
  | configSignatureCheck => exact execConfigSignatureCheck_wf h _
  | configStoreError => exact execConfigStoreError_wf h _
  | configReloadDone => exact execConfigReloadDone_wf h _
  | regionResume => exact execRegionResume_wf h _ _
  | regionFence => exact execRegionFence_wf h _ _
  | sigcommit => exact execSigcommit_wf h _ _
  | unhpop => exact execUnhpop_wf h _
  | udataWrite => exact execUdataWrite_wf h _ _
  | dispatchAdmit => exact execDispatchAdmit_wf h
  | queueAged => exact execQueueAged_wf h _
  | taskBind => exact execTaskBind_wf h
  | bindReservation => exact execBindReservation_wf h
  | quantumExpiry => exact execQuantumExpiry_wf h _
  | markInject => exact execMarkInject_wf h _
  | taskSaveComplete => exact execTaskSaveComplete_wf h _
  | taskDrainDetect => exact execTaskDrainDetect_wf h _
  | taskRetire => exact execTaskRetire_wf h _
  | abort => exact execAbort_wf h _ _
  | preempt => exact execPreempt_wf h _ _
  | create => exact execCreate_wf h _
  | restore => exact execRestore_wf h _
  | contextRestoreDone => exact execContextRestoreDone_wf h _
  | quiesce => exact execQuiesce_wf h _
  | quiesceComplete => exact execQuiesceComplete_wf h _
  | resume => exact execResume_wf h _
  | destroy => exact execDestroy_wf h _
  | destroyComplete => exact execDestroyComplete_wf h _
  | resolveReplay => exact execResolveReplay_wf h _ _
  | resolveDiscard => exact execResolveDiscard_wf h _ _
  | harvest => exact execHarvest_wf h _
  | harvestComplete => exact execHarvestComplete_wf h _
  | quotaWrite => exact execQuotaWrite_wf h _ _
  | enq => exact execEnq_wf h _
  | enqSpillDone => exact execEnqSpillDone_wf h _
  | queueRefillDone => exact execQueueRefillDone_wf h _
  | queueEnable => exact execQueueEnable_wf h _
  | queueDisable => exact execQueueDisable_wf h _
  | pause => exact execPause_wf h _
  | unpause => exact execUnpause_wf h _
  | close => exact execClose_wf h _
  | clear => exact execClear_wf h _
  | tinvPage => exact execTinvPage_wf h _
  | tinvContext => exact execTinvContext_wf h _
  | tinvComplete => exact execTinvComplete_wf h
  | deviceReset => exact execDeviceReset_wf h
  | pllLockLoss => exact execPllLockLoss_wf h
  | boot => exact execBoot_wf h
  | linkTrainingDone => exact execLinkTrainingDone_wf h _ _
  | flitReceive => exact execFlitReceive_wf h _ _
  | replayRequest => exact execReplayRequest_wf h _ _
  | replayExhausted => exact execReplayExhausted_wf h _
  | linkEnable => exact execLinkEnable_wf h _
  | linkDisable => exact execLinkDisable_wf h _
  | linkRetrain => exact execLinkRetrain_wf h _
  | linkFence => exact execLinkFence_wf h _
  | read => exact execRead_wf h _
  | write => exact execWrite_wf h _
  | signal => exact execSignal_wf h _
  | atomic => exact execAtomic_wf h _
  | xchg64 => exact execXchg64_wf h _
  | cas64 => exact execCas64_wf h _
  | reduce => exact execReduce_wf h _
  | response => exact execResponse_wf h _
  | nack => exact execNack_wf h _
  | mgmt => exact execMgmt_wf h _
  | transactionResend => exact execTransactionResend_wf h _ _
  | registerWrite => exact execRegisterWrite_wf h _ _ _
  | aclWrite => exact execAclWrite_wf h _ _ _
  | measmaskWrite v wide => exact execMeasmaskWrite_wf h v wide
  | report => exact execReport_wf h _
  | reportDone => exact execReportDone_wf h
  | scrubPass => exact execScrubPass_wf h _ _
  | powerGovernorSample => exact execPowerGovernorSample_wf h
  | dflRecordWrite => exact execDflRecordWrite_wf h
  | round => exact execRound_wf h
  | copyEngineMark => exact execCopyEngineMark_wf h _

theorem runWord_wf {s : State} (h : s.mem.wf = true) (w : Word) (c : Cursor) : LeavesWf (runWord w c s) := by
  unfold runWord
  split
  · exact exec_wf (by exact h) _
  · exact leavesWf_refused

/-- Whatever heads the agenda, the step keeps the canonical form. -/
theorem step_wf {s : State} (h : s.mem.wf = true) : LeavesWf (step s) := by
  unfold step
  split
  · exact exec_wf (by exact h) _
  · exact runWord_wf (by exact h) _ _
  · split
    · exact runWord_wf (by exact h) _ _
    · exact leavesWf_next.2 h
  · rw [runEv_eq_exec]
    exact exec_wf (by exact h) _

/-- Settles O7: nothing is listed at reset. -/
theorem resetInv : Obligations.ResetInv := State.reset_mem_wf

/-- Settles O8: each operation keeps the canonical form of memory, and so does each instruction built of them. -/
theorem invKept : Obligations.InvKept := fun _ s' h hstep => step_wf h s' hstep

end Sys2Proof.Machine
end

section
/-! PROOFS. The refutation of the obligation on region events: `regionOfElem` reduces the region number mod 64, `regionOfTile` does not,
so the record of a resumed element of region 64 goes to the context of region 0. -/

namespace Sys2Proof.Machine

/-- Task 1 of context 1 runs in region 64, whose first element is frozen with a record not yet posted; region 0 belongs to nobody. -/
def aliasedState : State :=
  { tasks := [(1, { ctx := 1, taskid := 0, record := [0, 0, 0, 0, 0, 0, 0x01010000], row := 8, col := 0 })]
    regions := [(64, { st := .active, task := 1 })]
    ctxs := [(1, { st := .active })]
    elems := [(elemOfTile 1025 0, { life := .frozen, unposted := true })] }

/-- The fault records of context 1 once the first element of region 64 is resumed. -/
def resumedFaults : List (List Word) :=
  match execRegionResume 64 0 aliasedState with
  | .next s => (s.ctx 1).faults
  | _ => []

/-- R334: the record does not reach the region's context. -/
theorem resumedFaults_nil : resumedFaults = [] := by decide +kernel

/-- The hardware end of word 0 is the first element of region 64. -/
theorem aliasedState_end :
    hwEnd (aliasedState.spanOf (aliasedState.region 64).task.toNat) 0 = some ⟨1025, 0, 0⟩ := by decide +kernel

/-- Refutes O56: RESUME of the first element of region 64 posts no record in the context of the region's task. -/
theorem not_regionEvents : ¬ Obligations.RegionEvents := by
  rintro ⟨-, -, -, -, -, -, resume, -⟩
  obtain ⟨-, -, -, resumed⟩ := resume aliasedState 64 0 ⟨1025, 0, 0⟩
  obtain ⟨element, -⟩ := resumed (by decide +kernel) aliasedState_end rfl
  obtain ⟨s', hs', -, -, posts⟩ := element _ rfl (by decide) rfl (by decide +kernel)
  have hposted : resumedFaults = (aliasedState.ctx 1).faults ++ [aliasedState.elemRecord (elemOfTile 1025 0)] := by
    have hrun : execRegionResume 64 0 aliasedState = .next s' := hs'
    rw [resumedFaults, hrun]
    exact posts rfl (by decide +kernel) (by decide +kernel)
  rw [resumedFaults_nil] at hposted
  exact absurd hposted (by decide +kernel)

end Sys2Proof.Machine
end

section
/-! PROOFS. Transactions: receipt, the gate and the answer (R406, R407, R434). -/

namespace Sys2Proof.Machine

/-! Transactions: receipt, the gate and the answer. -/

section
variable {s x : State} {t : Txn} {f : State → Option State}

/-- R407: the next transaction of its source is performed in the state that has counted it. -/
theorem State.receive_of_due (hdue : s.due t) (hf : f (s.counted t) = some x) : s.receive t f = x := by
  obtain ⟨hdst, heseq⟩ := hdue
  have hd : (t.eseq - (s.ep t.src.toNat).expect).toNat = 0 := by rw [heseq, BitVec.sub_self]; rfl
  unfold State.receive
  rw [if_neg (not_not.2 hdst)]
  dsimp only
  rw [if_pos hd]
  unfold State.counted at hf
  rw [hf]

theorem State.gate_of_bootfail {hdr always : Bool} (allowed : Bool) (hboot : s.sec.boot = .fail) (h : (hdr && always) = false) :
    s.gate t hdr always allowed f = some (s.refuse t 0x11) := by
  unfold State.gate
  rw [if_pos ⟨hboot, by rw [h]; rfl⟩]

theorem State.gate_of_badhdr (always allowed : Bool) (hboot : s.sec.boot ≠ .fail) : s.gate t false always allowed f = some (s.refuse t 0x10) := by
  unfold State.gate
  rw [if_neg (fun h => hboot h.1)]
  rfl

theorem State.gate_of_denied (hboot : s.sec.boot ≠ .fail) : s.gate t true false false f = some (s.refuse t 0x11) := by
  unfold State.gate
  rw [if_neg (fun h => hboot h.1)]
  rfl

theorem State.gate_of_allowed (always : Bool) (hboot : s.sec.boot ≠ .fail) : s.gate t true always true f = f s := by
  unfold State.gate
  rw [if_neg (fun h => hboot h.1), Bool.or_true]
  rfl

theorem State.gate_of_always (allowed : Bool) : s.gate t true true allowed f = f s := by
  unfold State.gate
  rw [if_neg (fun h => absurd h.2 (by decide))]
  rfl

@[simp] theorem State.counted_sec : (s.counted t).sec = s.sec := rfl
@[simp] theorem State.counted_outq : (s.counted t).outq = s.outq := rfl
@[simp] theorem State.counted_mem : (s.counted t).mem = s.mem := rfl

theorem State.reply_outq (nack : Bool) (opx : Byte) (data : List Byte) : (s.reply t.src.toNat t.eseq.toNat nack opx data).outq =
    s.outq ++ [answerTo t (if nack then 7 else 6) opx data] := by
  unfold State.reply answerTo
  simp only [BitVec.ofNat_toNat, BitVec.setWidth_eq]

/-- R407: the last answer stored is the one just given. -/
theorem State.reply_stored (nack : Bool) (opx : Byte) (data : List Byte) :
    ((s.reply t.src.toNat t.eseq.toNat nack opx data).ep t.src.toNat).answers.getLast? = some ⟨t.eseq, answerTo t (if nack then 7 else 6) opx data⟩ := by
  have hread : ∀ e q, ({ s.setEp t.src.toNat e with outq := q } : State).ep t.src.toNat = e := fun e _ => State.ep_setEp s t.src.toNat e
  unfold State.reply answerTo
  dsimp only
  rw [hread, List.drop_append_of_le_length (by omega), List.getLast?_append]
  simp only [List.getLast?_singleton, Option.some_or, BitVec.ofNat_toNat, BitVec.setWidth_eq]

/-- R406: a step that ends with an answer. -/
theorem answers_of_reply {i : Instr} {P : State → Prop} {nack : Bool} {opx : Byte} {data : List Byte}
    (hexec : exec i s = .next (x.reply t.src.toNat t.eseq.toNat nack opx data)) (houtq : x.outq = s.outq)
    (hP : P (x.reply t.src.toNat t.eseq.toNat nack opx data)) : Answers i s t (answerTo t (if nack then 7 else 6) opx data) P :=
  ⟨_, hexec, by rw [State.reply_outq, houtq], State.reply_stored nack opx data, hP⟩
end

end Sys2Proof.Machine
end

section
/-! PROOFS. Byte strings in memory. -/

namespace Sys2Proof.Machine

/-! Byte strings in memory. -/

theorem Memory.read_writeBytes_outside (m : Memory) {a x : Nat} (l : List Byte) (h : x < a ∨ a + l.length ≤ x) :
    (m.writeBytes a l).read x = m.read x := by
  induction l generalizing m a with
  | nil => rfl
  | cons b l ih =>
    rw [List.length_cons] at h
    rw [Memory.writeBytes, ih _ (by omega), Memory.read_write_other _ _ (by omega)]

theorem Memory.read_writeBytes_inside {m : Memory} (hm : m.wf = true) (a : Nat) {l : List Byte} {j : Nat} (hj : j < l.length) :
    (m.writeBytes a l).read (a + j) = l[j] := by
  induction l generalizing m a j with
  | nil => exact absurd hj (Nat.not_lt_zero _)
  | cons b l ih =>
    rw [Memory.writeBytes]
    cases j with
    | zero =>
      rw [Memory.read_writeBytes_outside _ _ (by omega)]
      exact Memory.read_write_same hm a b
    | succ j =>
      have hnext : a + (j + 1) = a + 1 + j := by omega
      rw [hnext]
      exact ih (Memory.wf_write hm a b) (a + 1) (by simpa using hj)

theorem Memory.readBytes_congr {m m' : Memory} {a n : Nat} (h : ∀ k < n, m.read (a + k) = m'.read (a + k)) : m.readBytes a n = m'.readBytes a n := by
  induction n generalizing a with
  | zero => rfl
  | succ n ih =>
    have htail : ∀ k < n, m.read (a + 1 + k) = m'.read (a + 1 + k) := by
      intro k hk
      have hnext : a + 1 + k = a + (k + 1) := by omega
      rw [hnext]
      exact h (k + 1) (by omega)
    rw [Memory.readBytes, Memory.readBytes, ih htail, show m.read a = m'.read a from h 0 (by omega)]

theorem Memory.readBytes_writeBytes {m : Memory} (hm : m.wf = true) (a : Nat) (l : List Byte) : (m.writeBytes a l).readBytes a l.length = l := by
  induction l generalizing m a with
  | nil => rfl
  | cons b l ih =>
    have hhead : (m.writeBytes a (b :: l)).read a = b := Memory.read_writeBytes_inside hm a (l := b :: l) (j := 0) (by simp)
    rw [List.length_cons, Memory.readBytes, hhead]
    exact congrArg (b :: ·) (ih (Memory.wf_write hm a b) (a + 1))

end Sys2Proof.Machine
end

section
/-! PROOFS. Register writes and reads of the management space (R410, R322, R362, R375). -/

namespace Sys2Proof.Machine

theorem lo_setWidth (v : Word) : lo (v.setWidth 64 : Dword).toNat = v := by
  apply BitVec.eq_of_toNat_eq
  have hv := v.isLt
  simp only [lo, Word.ofNat, BitVec.toNat_ofNat, BitVec.toNat_setWidth]
  omega

section
variable (s : State) {k : Nat} (v : Word)

theorem exec_registerWrite_word (off : Nat) : exec (.registerWrite off (v.setWidth 64) false) s = .next (s.plainWrite off v) := by
  show (.next (s.plainWrite off (lo _)) : Out) = _
  rw [lo_setWidth]

theorem State.plainWrite_ctx (hk : k < 64) {o : Nat} (ho : o < 256) : s.plainWrite (0x10000 + 256 * k + o) v = s.ctxWrite k o v := by
  have hq : (0x10000 + 256 * k + o - 0x10000) / 256 = k := by omega
  have hr : (0x10000 + 256 * k + o) % 256 = o := by omega
  unfold State.plainWrite
  rw [if_neg (by omega), if_neg (by omega), if_neg (by omega), if_neg (by omega), if_pos (by omega), hq, hr]

theorem State.plainWrite_queue (hk : k < 2048) {o : Nat} (ho : o < 64) : s.plainWrite (0x20000 + 64 * k + o) v = s.queueWrite k o v := by
  have hq : (0x20000 + 64 * k + o - 0x20000) / 64 = k := by omega
  have hr : (0x20000 + 64 * k + o) % 64 = o := by omega
  unfold State.plainWrite
  rw [if_neg (by omega), if_neg (by omega), if_neg (by omega), if_neg (by omega), if_neg (by omega), if_pos (by omega), hq, hr]

theorem State.plainWrite_region (hk : k < 64) {o : Nat} (ho : o < 16384) :
    s.plainWrite (0x100000 + 16384 * k + o) v = s.regionWrite k o v := by
  have hq : (0x100000 + 16384 * k + o - 0x100000) / 16384 = k := by omega
  have hr : (0x100000 + 16384 * k + o) % 16384 = o := by omega
  unfold State.plainWrite
  rw [if_neg (by omega), if_neg (by omega), if_neg (by omega), if_neg (by omega), if_neg (by omega), if_neg (by omega), if_pos (by omega), hq, hr]

theorem State.mgmtWord_region (hk : k < 64) {o : Nat} (ho : o < 16384) :
    s.mgmtWord (0x100000 + 16384 * k + o) = s.regionWord k o := by
  have hq : (0x100000 + 16384 * k + o - 0x100000) / 16384 = k := by omega
  have hr : (0x100000 + 16384 * k + o) % 16384 = o := by omega
  unfold State.mgmtWord
  rw [if_neg (by omega), if_neg (by omega), if_neg (by omega), if_neg (by omega), if_neg (by omega), if_neg (by omega), if_neg (by omega),
    if_pos (by omega), hq, hr]

theorem exec_registerWrite_ctx (hk : k < 64) {o : Nat} (ho : o < 256) :
    exec (.registerWrite (0x10000 + 256 * k + o) (v.setWidth 64) false) s = .next (s.ctxWrite k o v) := by
  rw [exec_registerWrite_word, s.plainWrite_ctx v hk ho]

theorem exec_registerWrite_queue (hk : k < 2048) {o : Nat} (ho : o < 64) :
    exec (.registerWrite (0x20000 + 64 * k + o) (v.setWidth 64) false) s = .next (s.queueWrite k o v) := by
  rw [exec_registerWrite_word, s.plainWrite_queue v hk ho]

theorem exec_registerWrite_region (hk : k < 64) {o : Nat} (ho : o < 16384) :
    exec (.registerWrite (0x100000 + 16384 * k + o) (v.setWidth 64) false) s = .next (s.regionWrite k o v) := by
  rw [exec_registerWrite_word, s.plainWrite_region v hk ho]

theorem exec_registerWrite_ptroot (hk : k < 64) (w : Dword) (hfree : (s.ctx k).st = .free) :
    exec (.registerWrite (0x10000 + 256 * k + 0x18) w true) s = .next (s.setCtx k { s.ctx k with ptroot := w }) := by
  have hq : (0x10000 + 256 * k + 0x18 - 0x10000) / 256 = k := by omega
  have hr : (0x10000 + 256 * k + 0x18) % 256 = 0x18 := by omega
  have hwide : ctxWide (0x10000 + 256 * k + 0x18) = true := by
    unfold ctxWide
    rw [hr, decide_eq_true (by omega)]
    rfl
  show execRegisterWrite _ w true s = _
  unfold execRegisterWrite
  rw [if_neg (by decide), if_pos hwide, hq, hr]
  exact congrArg Host.Outcome.next (if_pos hfree)
end

section
variable (s : State) {k : Nat}

/-- The high word of a doubleword. -/
theorem hi_toNat (x : BitVec 64) : hi x.toNat = (x >>> 32).setWidth 32 := by
  apply BitVec.eq_of_toNat_eq
  simp only [hi, Word.ofNat, BitVec.toNat_ofNat, BitVec.toNat_setWidth, BitVec.toNat_ushiftRight, Nat.shiftRight_eq_div_pow]

/-- R410, R322: what a region block reads for FSEL, USEL and SIGSTAGE. -/
theorem State.regionWord_ends (hst : (s.region k).st ≠ .fenced) :
    s.regionWord k 0x80 = (s.region k).fsel &&& 0xFFFFFF00
    ∧ s.regionWord k 0xC0 = (s.region k).usel.setWidth 32 &&& 0xFFFFFF00
    ∧ s.regionWord k 0x180 = (s.region k).sigstage.setWidth 32 &&& 0xFFFFFF00
    ∧ s.regionWord k 0x184 = ((s.region k).sigstage >>> 32).setWidth 32 &&& 0xFC00FFFF := by
  unfold State.regionWord
  simp only [hst, false_and, if_false]
  exact ⟨rfl, rfl, rfl, congrArg (· &&& stageFields) (hi_toNat _)⟩
end

end Sys2Proof.Machine
end

section
/-! PROOFS. Queue commands, access entries and MEASMASK (R376, R433 to R435). -/

namespace Sys2Proof.Machine

section
variable (s : State) {k : Nat}

/-- R376: a write of QCMD gives the queue its command. -/
theorem State.mgmtWrite_qcmd (hk : k < 2048) {n : Nat} {e : Ev}
    (hcmd : (n, e) ∈ ([(1, .queueEnable k), (2, .queueDisable k), (3, .pause k), (4, .unpause k), (5, .close k), (6, .clear k)] : List (Nat × Ev))) :
    s.mgmtWrite (0x20000 + 64 * k + 8) (BitVec.ofNat 64 (n * 2 ^ 60)) true = s.queueCommand k e := by
  have hq : (0x20000 + 64 * k + 8 - 0x20000) / 64 = k := by omega
  have hr : (0x20000 + 64 * k + 8) % 64 = 8 := by omega
  have hcommand : isCommand (0x20000 + 64 * k + 8) = true := by
    unfold isCommand
    rw [hr, decide_eq_true (p := 0x20000 ≤ 0x20000 + 64 * k + 8 ∧ 0x20000 + 64 * k + 8 < 0x40000) (by omega)]
    simp
  unfold State.mgmtWrite
  rw [if_pos ⟨rfl, hcommand⟩]
  unfold State.command
  rw [if_neg (by omega), if_neg (by omega), if_neg (by omega), if_neg (by omega), if_pos (by omega), hq]
  simp only [List.mem_cons, Prod.mk.injEq, List.not_mem_nil, or_false] at hcmd
  obtain ⟨rfl, rfl⟩ | ⟨rfl, rfl⟩ | ⟨rfl, rfl⟩ | ⟨rfl, rfl⟩ | ⟨rfl, rfl⟩ | ⟨rfl, rfl⟩ := hcmd
  all_goals rfl
end

/-! Access entries (R433, R434). -/

theorem Acl.bits_lt (a : Acl) : a.bits < 2 ^ 128 := by
  have hmask := a.ctxmask.isLt
  have hep := a.ep.isLt
  have hv := a.v.toNat_lt
  have hadmin := a.admin.toNat_lt
  have hmem := a.mem.toNat_lt
  unfold Acl.bits
  omega

section
variable (c : Sec) {off n v : Nat}

/-- The entry that a write of `n` bits makes. -/
def Sec.newAcl (c : Sec) (off n v : Nat) : Acl :=
  let old := (c.coming[(off - 0x400) / 16 % 64]'(Nat.mod_lt _ (by decide))).bits
  let sh := 32 * (off % 16 / 4)
  aclOf (old / 2 ^ (sh + n) * 2 ^ (sh + n) + v * 2 ^ sh + old % 2 ^ sh)

/-- The entries after the write. -/
def Sec.afterWrite (c : Sec) (off n v : Nat) : Vector Acl 64 :=
  c.coming.set ((off - 0x400) / 16 % 64) (c.newAcl off n v) (Nat.mod_lt _ (by decide))

theorem Sec.writeBits_eq (hlo : 0x400 ≤ off) (hhi : off < 0x800) :
    c.writeBits off n v = if (c.afterWrite off n v).toList.any (fun x => x.v && x.admin) then
      { c with aclNew := c.aclNew ++ [((off - 0x400) / 16, c.newAcl off n v, none)] } else c :=
  if_neg (by omega)

/-- R434: the write stands where an ADMIN entry would remain. -/
theorem Sec.writeBits_of_admin (hlo : 0x400 ≤ off) (hhi : off < 0x800)
    (hadmin : ∃ x ∈ (c.afterWrite off n v).toList, x.v = true ∧ x.admin = true) :
    c.writeBits off n v = { c with aclNew := c.aclNew ++ [((off - 0x400) / 16, c.newAcl off n v, none)] } := by
  obtain ⟨x, hx, hv, ha⟩ := hadmin
  rw [c.writeBits_eq hlo hhi, if_pos (List.any_eq_true.2 ⟨x, hx, by rw [hv, ha]; rfl⟩)]

theorem Sec.writeBits_of_none (hlo : 0x400 ≤ off) (hhi : off < 0x800)
    (hnone : ∀ x ∈ (c.afterWrite off n v).toList, x.v = true → x.admin = false) : c.writeBits off n v = c := by
  rw [c.writeBits_eq hlo hhi, if_neg]
  intro hany
  obtain ⟨x, hx, hboth⟩ := List.any_eq_true.1 hany
  rw [Bool.and_eq_true] at hboth
  exact Bool.false_ne_true ((hnone x hx hboth.1).symm.trans hboth.2)

/-- R433: a write of 8 bytes makes one half of an entry. -/
theorem Sec.newAcl_wide (halign : off % 8 = 0) (v : Nat) :
    c.newAcl off 64 v = aclOf (if off % 16 = 0 then (c.coming[(off - 0x400) / 16 % 64]'(Nat.mod_lt _ (by decide))).bits / 2 ^ 64 * 2 ^ 64 + v
      else v * 2 ^ 64 + (c.coming[(off - 0x400) / 16 % 64]'(Nat.mod_lt _ (by decide))).bits % 2 ^ 64) := by
  have hlt := Acl.bits_lt (c.coming[(off - 0x400) / 16 % 64]'(Nat.mod_lt _ (by decide)))
  unfold Sec.newAcl
  generalize (c.coming[(off - 0x400) / 16 % 64]'(Nat.mod_lt _ (by decide))).bits = old at hlt ⊢
  refine congrArg aclOf ?_
  obtain h0 | h8 : off % 16 = 0 ∨ off % 16 = 8 := by omega
  · rw [h0, if_pos rfl]
    omega
  · rw [h8, if_neg (by decide)]
    omega
end

theorem Table.get?_mapAll {α : Type} (t : Table α) (f : Nat → α → α) (k : Nat) : Table.get? (Table.mapAll t f) k = (Table.get? t k).map (f k) := by
  induction t with
  | nil => rfl
  | cons p t ih =>
    obtain ⟨j, v⟩ := p
    show (if j = k then some (f j v) else Table.get? (Table.mapAll t f) k) = (if j = k then some v else Table.get? t k).map (f k)
    split
    case isTrue h => rw [h]; rfl
    case isFalse h => exact ih

section
variable (s : State)

/-- R432, R435: MEASMASK clears the measurements of the bits that it sets. -/
theorem execMeasmaskWrite_sets (v : Word) (wide : Bool) : ∃ s', exec (.measmaskWrite (v.setWidth 64) wide) s = .next s'
    ∧ s'.sec = { s.sec with measmask := v }
    ∧ ∀ j x, Table.get? s.ctxs j = some x → Table.get? s'.ctxs j = some (if j < 32 ∧ v.getLsbD j = true ∧ s.sec.measmask.getLsbD j = false
        then { x with meas := 0 } else x) := by
  refine ⟨_, rfl, ?_, fun j x hx => ?_⟩
  · exact congrArg (fun w => { s.sec with measmask := w }) (lo_setWidth v)
  · dsimp only
    rw [Table.get?_mapAll, hx, Option.map_some, lo_setWidth]
    congr 1
    refine if_congr ?_ rfl rfl
    rw [BitVec.getLsbD_and, BitVec.getLsbD_not]
    by_cases hj : j < 32 <;> simp [hj]
end

end Sys2Proof.Machine
end

section
/-! PROOFS. MGMT transactions (R406, R410, R434). -/

namespace Sys2Proof.Machine

theorem mgmtFree_iff (t : Txn) : mgmtFree t = true ↔
    t.opx.getLsbD 0 = false ∧ (t.addr.toNat < 0x1000 ∨ 0x3000 ≤ t.addr.toNat ∧ t.addr.toNat < 0x4000) := by
  simp [mgmtFree]

section
variable {s : State} {t : Txn}

/-- R410: what a MGMT transaction does once it has passed the gate. -/
def mgmtDoes (t : Txn) (s : State) : State :=
  if t.opx.getLsbD 0 then
    let s1 := s.mgmtWrite t.addr.toNat (BitVec.ofNat 64 (dwordAt t.data 0)) (t.opx.getLsbD 1)
    { s1 with sec := s1.sec.tagged t }.respond t []
  else s.respond t (unitOf (s.mgmtRead t.addr.toNat (t.opx.getLsbD 1)) (if t.opx.getLsbD 1 then 8 else 4))

theorem State.counted_regionWord (reg off : Nat) : (s.counted t).regionWord reg off = s.regionWord reg off := by
  have hfreg : (s.counted t).freg reg = s.freg reg := rfl
  have hudata : (s.counted t).udata reg = s.udata reg := rfl
  have hregion : (s.counted t).region reg = s.region reg := rfl
  unfold State.regionWord
  rw [hfreg, hudata, hregion]

/-- R407: no register shows the count of a source. -/
theorem State.counted_mgmtWord (off : Nat) : (s.counted t).mgmtWord off = s.mgmtWord off := by
  have hctx : (s.counted t).ctx = s.ctx := rfl
  have hqueue : (s.counted t).queue = s.queue := rfl
  have hlink : (s.counted t).link = s.link := rfl
  have hdisp : (s.counted t).dispWord = s.dispWord := rfl
  have htinv : (s.counted t).tinvWord = s.tinvWord := rfl
  have hsec : (s.counted t).secWord = s.secWord := rfl
  unfold State.mgmtWord
  rw [hctx, hqueue, hlink, hdisp, htinv, hsec]
  simp only [State.counted_regionWord]


/-- R407, R434: a due MGMT meets the gate in the state that has counted it. -/
theorem exec_mgmt_of_due (hdue : s.due t) {x : State}
    (hgate : (s.counted t).gate t (mgmtHdr t) (mgmtFree t) (s.mgmtAllowed t) (fun s => some (mgmtDoes t s)) = some x) :
    exec (.mgmt t) s = .next x := by
  refine congrArg Host.Outcome.next (State.receive_of_due hdue ?_)
  rw [← hgate]
  show State.gate _ _ _ _ _ _ = State.gate _ _ _ _ _ _
  congr 1
  funext y
  unfold mgmtDoes
  split <;> rfl

theorem mgmtHdr_nack (r : Byte) (hdue : s.due t)
    (hgate : (s.counted t).gate t (mgmtHdr t) (mgmtFree t) (s.mgmtAllowed t) (fun s => some (mgmtDoes t s)) = some ((s.counted t).refuse t r)) :
    Answers (.mgmt t) s t (answerTo t 7 r []) (fun s' => s'.mem = s.mem ∧ s'.ctxs = s.ctxs ∧ s'.queues = s.queues) :=
  answers_of_reply (x := s.counted t) (nack := true) (exec_mgmt_of_due hdue hgate) rfl ⟨rfl, rfl, rfl⟩

end

end Sys2Proof.Machine
end

section
/-! PROOFS. The symbol code and the numbers of groups (R419). -/

namespace Sys2Proof.Machine

/-! The symbol code: one wrong symbol (R419). -/

/-- Division by the root α. -/
def gfHalf (b : Byte) : Byte := if b.getLsbD 0 then ((b ^^^ 0x1D) >>> 1) ||| 0x80 else b >>> 1

theorem gfHalf_gfAlpha (b : Byte) : gfHalf (gfAlpha b) = b := by
  have hall : ∀ n < 256, gfHalf (gfAlpha (BitVec.ofNat 8 n)) = BitVec.ofNat 8 n := by decide +kernel
  have hb := hall b.toNat b.isLt
  rwa [BitVec.ofNat_toNat, BitVec.setWidth_eq] at hb

theorem gfAlpha_injective : Function.Injective gfAlpha := Function.LeftInverse.injective gfHalf_gfAlpha

/-- α has no order below 18. -/
theorem gfPow_ne_self {b : Byte} (hb : b ≠ 0) {k : Nat} (hk : k < 17) : gfPow (k + 1) b ≠ b := by
  have hall : ∀ n < 256, n ≠ 0 → ∀ k < 17, gfPow (k + 1) (BitVec.ofNat 8 n) ≠ BitVec.ofNat 8 n := by decide +kernel
  have hne : b.toNat ≠ 0 := fun h => hb (BitVec.eq_of_toNat_eq h)
  have h := hall b.toNat b.isLt hne k hk
  rwa [BitVec.ofNat_toNat, BitVec.setWidth_eq] at h

theorem gfPow_lt_ne {b : Byte} (hb : b ≠ 0) {j k : Nat} (hjk : j < k) (hk : k < 18) : gfPow j b ≠ gfPow k b := by
  induction j generalizing k with
  | zero =>
    obtain ⟨n, rfl⟩ : ∃ n, k = n + 1 := ⟨k - 1, by omega⟩
    exact (gfPow_ne_self hb (by omega)).symm
  | succ j ih =>
    obtain ⟨n, rfl⟩ : ∃ n, k = n + 1 := ⟨k - 1, by omega⟩
    exact fun h => ih (by omega) (by omega) (gfAlpha_injective h)

theorem gfPow_inj {b : Byte} (hb : b ≠ 0) {j k : Nat} (hj : j < 18) (hk : k < 18) (h : gfPow j b = gfPow k b) : j = k := by
  by_contra hne
  obtain hlt | hlt : j < k ∨ k < j := by omega
  · exact gfPow_lt_ne hb hlt hk h
  · exact gfPow_lt_ne hb hlt hj h.symm

theorem syndrome0_single (k : Nat) (e : Byte) : syndrome0 [(k, e)] = e := BitVec.zero_xor
theorem syndrome1_single (k : Nat) (e : Byte) : syndrome1 [(k, e)] = gfPow k e := BitVec.zero_xor

/-- R419: one wrong symbol is found in its bank. -/
theorem decodeGroup_single {k : Nat} {e : Byte} (hk : k < 18) (he : e ≠ 0) : decodeGroup none [(k, e)] = .fixed k := by
  have hfind : (List.range 18).find? (fun j => gfPow j e == gfPow k e) = some k := by
    rw [List.find?_range_eq_some]
    refine ⟨beq_self_eq_true _, List.mem_range.2 hk, fun j hj => ?_⟩
    simp only [Bool.not_eq_true', beq_eq_false_iff_ne]
    exact gfPow_lt_ne he hj hk
  unfold decodeGroup
  rw [syndrome0_single, syndrome1_single]
  dsimp only
  rw [if_neg (fun h => he h.1), hfind]

/-- R420: with another bank failed it is beyond the code. -/
theorem decodeGroup_further {k f : Nat} {e : Byte} (hk : k < 18) (hf : f < 18) (hne : k ≠ f) (he : e ≠ 0) :
    decodeGroup (some f) [(k, e)] = .beyond := by
  unfold decodeGroup
  rw [syndrome0_single, syndrome1_single]
  dsimp only
  rw [if_neg (fun h => he h.1), if_neg (fun h => hne (gfPow_inj he hk hf h))]

/-! Group numbers (R419). -/

theorem groupStart_groupStart (n : Nat) : groupStart (groupStart n) = groupStart n := by
  unfold groupStart
  split
  · rw [if_pos (by omega)]; omega
  · rw [if_neg (by omega)]; omega

theorem groupOf_groupStart (n : Nat) : groupOf (groupStart n) = groupOf n := by
  unfold groupStart
  by_cases hhbm : n < 2 ^ 40
  · rw [if_pos hhbm]
    unfold groupOf
    rw [if_pos (by omega), if_pos hhbm]
    congr 1
    omega
  rw [if_neg hhbm]
  unfold groupOf
  rw [if_neg (by omega), if_neg hhbm]
  by_cases hslice : n < 2 ^ 52
  · have htile : (n / 16 * 16 - 2 ^ 40) / 2 ^ 22 % 1024 = (n - 2 ^ 40) / 2 ^ 22 % 1024 := by omega
    have hpa : n / 16 * 16 / 16 * 16 = n / 16 * 16 := by omega
    rw [if_pos (by omega), if_pos hslice, htile, hpa]
  rw [if_neg (by omega), if_neg hslice]
  by_cases hhoop : n < 2 ^ 53
  · have htile : (n / 16 * 16 - 2 ^ 52) / 2 ^ 20 % 1024 = (n - 2 ^ 52) / 2 ^ 20 % 1024 := by omega
    rw [if_pos (by omega), if_pos hhoop, htile]
  · have hregion : (n / 16 * 16 - 2 ^ 53) / 2 ^ 36 % 64 = (n - 2 ^ 53) / 2 ^ 36 % 64 := by omega
    have hentry : (n / 16 * 16 - 2 ^ 53) / 2 ^ 34 % 4 = (n - 2 ^ 53) / 2 ^ 34 % 4 := by omega
    rw [if_neg (by omega), if_neg hhoop, hregion, hentry]

end Sys2Proof.Machine
end

section
/-! PROOFS. Corrections and marks (R420, R421). -/

namespace Sys2Proof.Machine

/-! Corrections and marks (R420, R421). -/

section
variable (s : State) {gs g key : Nat} {f : Flaw}

theorem State.bankFence_of_few (h : (s.bank key).worse.length < 16) : s.bankFence key = s := by
  unfold State.bankFence
  rw [if_neg (fun hfence => absurd hfence.2.1 (by omega))]

theorem State.bankFence_of_cache (h : 2048 ≤ key) : s.bankFence key = s := by
  unfold State.bankFence
  rw [if_neg (fun hfence => absurd hfence.1 (by omega))]

variable {s}

theorem State.noteGroup_of_clean (hpoison : gs ∉ s.poison) (hflaws : s.flaws.find? (fun f => f.group == gs) = none) : s.noteGroup gs = s := by
  unfold State.noteGroup
  rw [if_neg (by simpa using hpoison), hflaws]

theorem State.noteGroup_of_flaw (hpoison : gs ∉ s.poison) (hflaws : s.flaws.find? (fun f => f.group == gs) = some f)
    (hfailed : (s.bank (groupOf gs).key).failed = none) : s.noteGroup gs = s.correct gs f.bank := by
  unfold State.noteGroup
  rw [if_neg (by simpa using hpoison), hflaws, hfailed]

theorem State.noteGroup_of_poison (hpoison : gs ∈ s.poison) :
    s.noteGroup gs = if (s.bank (groupOf gs).key).failed.isSome then s.further gs else s := by
  unfold State.noteGroup
  rw [if_pos (by simpa using hpoison)]

/-- The counters of a store with one correction more. -/
def Banks.hit (b : Banks) (bank group : Nat) : Banks :=
  { b with hits := if b.hits.contains (bank, group) then b.hits else b.hits ++ [(bank, group)] }

/-- The counters of a store with a bank marked failed. -/
def Banks.fail (b : Banks) (bank : Nat) : Banks := { b with failed := some bank }

theorem State.correct_of_few {bank : Nat} (h : ((s.bank (groupOf gs).key).hit bank gs).count bank < 16) :
    s.correct gs bank = { s with banks := Table.put s.banks (groupOf gs).key ((s.bank (groupOf gs).key).hit bank gs) } :=
  if_neg (Nat.not_le.2 h)

theorem State.correct_of_many {bank : Nat} (h : 16 ≤ ((s.bank (groupOf gs).key).hit bank gs).count bank) :
    ∃ r, s.correct gs bank = (State.bankFails { s with
      banks := Table.put s.banks (groupOf gs).key (((s.bank (groupOf gs).key).hit bank gs).fail bank) } (groupOf gs).key bank).dflLog r :=
  ⟨_, if_pos h⟩

/-! What a mark leaves alone. -/

theorem State.markBad_eq_or (s : State) (n : Nat) : (∃ reg r, s.markBad n = s.setRegion reg r) ∨ ∃ p, s.markBad n = { s with poison := p } := by
  unfold State.markBad
  split
  · exact .inl ⟨_, _, rfl⟩
  · split
    · exact .inr ⟨s.poison, rfl⟩
    · exact .inr ⟨_, rfl⟩

@[simp] theorem State.markBad_banks (s : State) (n : Nat) : (s.markBad n).banks = s.banks := by
  obtain ⟨reg, r, h⟩ | ⟨p, h⟩ := s.markBad_eq_or n
  · rw [h]; rfl
  · rw [h]

@[simp] theorem State.markBad_dfl (s : State) (n : Nat) : (s.markBad n).dfl = s.dfl := by
  obtain ⟨reg, r, h⟩ | ⟨p, h⟩ := s.markBad_eq_or n
  · rw [h]; rfl
  · rw [h]

@[simp] theorem State.markBad_flaws (s : State) (n : Nat) : (s.markBad n).flaws = s.flaws := by
  obtain ⟨reg, r, h⟩ | ⟨p, h⟩ := s.markBad_eq_or n
  · rw [h]; rfl
  · rw [h]

@[simp] theorem State.bankFails_banks (s : State) (key f : Nat) : (s.bankFails key f).banks = s.banks :=
  foldl_unchanged State.banks (fun s (x : Flaw) => State.markBad_banks s x.group) _ _

@[simp] theorem State.bankFails_dfl (s : State) (key f : Nat) : (s.bankFails key f).dfl = s.dfl :=
  foldl_unchanged State.dfl (fun s (x : Flaw) => State.markBad_dfl s x.group) _ _

theorem State.dflLog_eq (s : State) (r : DflRec) : ∃ d, s.dflLog r = { s with dfl := d } := by
  unfold State.dflLog
  split
  · exact ⟨_, rfl⟩
  · exact ⟨_, rfl⟩

/-- R424: a record enters a hold that has room. -/
theorem State.dflLog_of_room (s : State) (r : DflRec) (h : s.dfl.hold.length < 64) :
    s.dflLog r = { s with dfl := { s.dfl with hold := s.dfl.hold ++ [r] } } := by
  unfold State.dflLog Dfl.keeps
  rw [decide_eq_true (by omega), Bool.true_or, if_pos rfl]

@[simp] theorem State.dflLog_banks (s : State) (r : DflRec) : (s.dflLog r).banks = s.banks := by
  obtain ⟨d, h⟩ := s.dflLog_eq r
  rw [h]

@[simp] theorem State.dflLog_poison (s : State) (r : DflRec) : (s.dflLog r).poison = s.poison := by
  obtain ⟨d, h⟩ := s.dflLog_eq r
  rw [h]

/-- A group of memory or of a Hoop, no group of an image cache. -/
def InMemory (g : Nat) : Prop := ∀ r e, groupOf g ≠ .cache r e

theorem State.markBad_of_memory (s : State) (h : InMemory g) :
    s.markBad g = if s.poison.contains (groupStart g) then s else { s with poison := s.poison ++ [groupStart g] } := by
  unfold State.markBad
  cases hg : groupOf g with
  | cache r e => exact absurd hg (h r e)
  | hbm pa => rfl
  | slice t pa => rfl
  | hoop t => rfl

theorem State.isBad_of_memory (s : State) (h : InMemory g) : s.isBad g = s.poison.contains (groupStart g) := by
  unfold State.isBad
  cases hg : groupOf g with
  | cache r e => exact absurd hg (h r e)
  | hbm pa => rfl
  | slice t pa => rfl
  | hoop t => rfl
end

end Sys2Proof.Machine
end

section
/-! PROOFS. The scrubber's passes over a group, and a symbol that goes wrong (R419, R420). -/

namespace Sys2Proof.Machine

/-! The scrubber (R420). -/

section
variable {s : State} {g : Nat}

/-- No symbol of the group is wrong, and it bears no mark. -/
def State.Sound (s : State) (gs : Nat) : Prop := gs ∉ s.poison ∧ ∀ f ∈ s.flaws, f.group ≠ gs

theorem State.Sound.find? (h : s.Sound g) : s.flaws.find? (fun f => f.group == g) = none := by
  rw [List.find?_eq_none]
  exact fun f hf => by simpa using h.2 f hf

theorem State.Sound.filter (h : s.Sound g) : s.flaws.filter (fun f => f.group != g) = s.flaws := by
  rw [List.filter_eq_self]
  exact fun f hf => by simpa using h.2 f hf

/-- R420: the group is written back. -/
def State.wroteBack (s : State) (gs : Nat) : State := { s with flaws := s.flaws.filter (fun f => f.group != gs) }

/-- R420: a group that was not bad in `s0` and is so now is logged. -/
def State.logNew (s s0 : State) (g : Nat) : State :=
  if s.isBad g ∧ !s0.isBad g then s.logBad g (Config.badBank (groupStart g) s0.dfl.hold.length % 18) else s

/-- What the scrubber has done before it looks whether the store's region is to be fenced. -/
def State.scrubbed (s : State) (g : Nat) (bank : Option Nat) : State :=
  (((s.scrubFault g bank).logNew s g).noteGroup (groupStart g)).wroteBack (groupStart g)

theorem exec_scrubPass (g : Nat) (bank : Option Nat) : exec (.scrubPass g bank) s = .next ((s.scrubbed g bank).bankFence (groupOf g).key) := rfl

theorem exec_scrubPass_of_few {bank : Option Nat} (h : ((s.scrubbed g bank).bank (groupOf g).key).worse.length < 16) :
    exec (.scrubPass g bank) s = .next (s.scrubbed g bank) := by
  rw [exec_scrubPass, State.bankFence_of_few _ h]

theorem State.logNew_of_same {s0 : State} (h : s.isBad g = s0.isBad g) : s.logNew s0 g = s := by
  unfold State.logNew
  rw [h, if_neg (by simp)]

theorem State.wroteBack_of_sound {gs : Nat} (h : s.Sound gs) : s.wroteBack gs = s := by
  unfold State.wroteBack
  rw [h.filter]

theorem State.scrubbed_none : s.scrubbed g none = (s.noteGroup (groupStart g)).wroteBack (groupStart g) := by
  have hsame : s.scrubFault g none = s := rfl
  unfold State.scrubbed
  rw [hsame, State.logNew_of_same rfl]

theorem State.scrubbed_none_of_sound (h : s.Sound (groupStart g)) : s.scrubbed g none = s := by
  rw [State.scrubbed_none, State.noteGroup_of_clean h.1 h.find?, State.wroteBack_of_sound h]

/-- R420: one wrong symbol is corrected, counted and written back. -/
theorem State.scrubbed_of_flaw {f : Flaw} (hpoison : groupStart g ∉ s.poison)
    (hflaw : s.flaws.find? (fun f => f.group == groupStart g) = some f) (hfailed : (s.bank (groupOf g).key).failed = none) :
    s.scrubbed g none = (s.correct (groupStart g) f.bank).wroteBack (groupStart g) := by
  rw [State.scrubbed_none, State.noteGroup_of_flaw hpoison hflaw (by rwa [groupOf_groupStart])]

theorem scrubPass_corrects {f : Flaw} (hpoison : groupStart g ∉ s.poison)
    (hflaw : s.flaws.find? (fun f => f.group == groupStart g) = some f) (hfailed : (s.bank (groupOf g).key).failed = none)
    (hworse : (s.bank (groupOf g).key).worse.length < 16)
    (hfew : ((s.bank (groupOf g).key).hit f.bank (groupStart g)).count f.bank < 16) :
    exec (.scrubPass g none) s = .next { s with
      banks := Table.put s.banks (groupOf g).key ((s.bank (groupOf g).key).hit f.bank (groupStart g))
      flaws := s.flaws.filter (fun f => f.group != groupStart g) } := by
  have hs := State.scrubbed_of_flaw hpoison hflaw hfailed
  rw [State.correct_of_few (by rwa [groupOf_groupStart]), groupOf_groupStart] at hs
  have hbank : (s.scrubbed g none).bank (groupOf g).key = (s.bank (groupOf g).key).hit f.bank (groupStart g) := by
    rw [hs]
    exact Table.getD_put_same ..
  rw [exec_scrubPass_of_few (by rw [hbank]; exact hworse), hs]
  rfl

theorem scrubPass_fails {f : Flaw} (hpoison : groupStart g ∉ s.poison)
    (hflaw : s.flaws.find? (fun f => f.group == groupStart g) = some f) (hfailed : (s.bank (groupOf g).key).failed = none)
    (hworse : (s.bank (groupOf g).key).worse.length < 16)
    (hmany : 16 ≤ ((s.bank (groupOf g).key).hit f.bank (groupStart g)).count f.bank) :
    ∃ s', exec (.scrubPass g none) s = .next s' ∧ (s'.bank (groupOf g).key).failed = some f.bank
      ∧ s'.mem = s.mem ∧ (s.dfl.hold.length < 64 → ∃ r, s'.dfl.hold = s.dfl.hold ++ [r]) := by
  have hs := State.scrubbed_of_flaw hpoison hflaw hfailed
  obtain ⟨r, hr⟩ := State.correct_of_many (s := s) (gs := groupStart g) (bank := f.bank) (by rwa [groupOf_groupStart])
  rw [groupOf_groupStart] at hr
  have hbank : (s.scrubbed g none).bank (groupOf g).key = ((s.bank (groupOf g).key).hit f.bank (groupStart g)).fail f.bank := by
    rw [hs]
    show Table.getD (s.correct (groupStart g) f.bank).banks _ _ = _
    rw [hr, State.dflLog_banks, State.bankFails_banks, Table.getD_put_same]
  refine ⟨_, exec_scrubPass_of_few (by rw [hbank]; exact hworse), by rw [hbank]; rfl, ?_, fun hroom => ⟨r, ?_⟩⟩
  · rw [hs]
    exact State.correct_mem ..
  · rw [hs]
    show (s.correct (groupStart g) f.bank).dfl.hold = _
    rw [hr, State.dflLog_of_room, State.bankFails_dfl]
    rwa [State.bankFails_dfl]
end

/-! A symbol that goes wrong (R419). -/

section
variable {s : State} {g bank : Nat} {e : Byte}

theorem State.flipByte_zero (s : State) (group bank : Nat) : s.flipByte group bank 0 = s := if_pos (.inl rfl)

/-- R419: a symbol counted twice changes nothing. -/
theorem State.flip_twice (s : State) (group k : Nat) (e : Byte) : s.flip group [(k, e), (k, e)] = s := by
  have hzero : ∀ j, syndrome0 ([(k, e), (k, e)].filter (fun x => x.1 == j)) = 0 := by
    intro j
    by_cases hj : k = j
    · simp [hj, syndrome0]
    · simp [hj, syndrome0]
  unfold State.flip
  exact foldl_unchanged id (fun s j => by rw [hzero]; exact s.flipByte_zero group j) _ _

section
variable (h : s.Sound (groupStart g)) (hbank : bank < 18) (he : e ≠ 0) (hexists : groupExists g = true)
include h hbank he hexists

theorem State.symbolFault_of_sound (hfailed : (s.bank (groupOf g).key).failed = none) :
    s.symbolFault g bank e = { s with flaws := s.flaws ++ [⟨groupStart g, bank, e⟩] } := by
  have hnone : s.flaws.filter (fun f => f.group == groupStart g) = [] := by
    rw [List.filter_eq_nil_iff]
    exact fun f hf => by simpa using h.2 f hf
  unfold State.symbolFault
  rw [if_neg (by simpa [hexists, Nat.not_le.2 hbank, h.1] using he)]
  dsimp only
  rw [hnone, groupOf_groupStart, hfailed, List.map_nil, List.nil_append, decodeGroup_single hbank he, h.filter]
  dsimp only
  rw [List.singleton_append, syndrome0_single, State.flip_twice]

theorem State.symbolFault_of_failed {f : Nat} (hf : f < 18) (hne : bank ≠ f) (hfailed : (s.bank (groupOf g).key).failed = some f) :
    s.symbolFault g bank e = s.markBad (groupStart g) := by
  have hnone : s.flaws.filter (fun f => f.group == groupStart g) = [] := by
    rw [List.filter_eq_nil_iff]
    exact fun f hf => by simpa using h.2 f hf
  unfold State.symbolFault
  rw [if_neg (by simpa [hexists, Nat.not_le.2 hbank, h.1] using he)]
  dsimp only
  rw [hnone, groupOf_groupStart, hfailed, List.map_nil, List.nil_append, decodeGroup_further hbank hf hne he, h.filter]
end
end

end Sys2Proof.Machine
end

section
/-! PROOFS. The scrubber on struck and on marked groups (R420, R421). -/

namespace Sys2Proof.Machine

section
variable {s : State} {g bank : Nat}

/-- The difference that a struck symbol gets is never 0. -/
def struckBy (tick : Nat) : Byte := if Config.symbol tick = 0 then 1 else Config.symbol tick

theorem struckBy_ne_zero (tick : Nat) : struckBy tick ≠ 0 := by
  unfold struckBy
  split
  case isTrue => decide
  case isFalse h => exact h

theorem State.scrubFault_symbol (hbank : bank < 18) :
    s.scrubFault g (some bank) = { s.symbolFault g bank (struckBy s.tick) with tick := s.tick + 1 } := if_neg (by omega)

theorem State.scrubFault_many (hbank : 18 ≤ bank) : s.scrubFault g (some bank) = s.markBad g := if_pos hbank

theorem State.symbolFault_of_hole {e : Byte} (h : groupExists g = false) : s.symbolFault g bank e = s :=
  if_pos (.inr (.inr (.inl (by rw [h]; rfl))))

/-- The state in which one more symbol is wrong. -/
def State.flawed (s : State) (f : Flaw) : State := { s with flaws := s.flaws ++ [f], tick := s.tick + 1 }

/-- The state in which the free choices before number `n` have been taken. -/
def State.atTick (s : State) (n : Nat) : State := { s with tick := n }

section
variable (hbank : bank < 18) (h : s.Sound (groupStart g))
include hbank h

theorem State.scrubbed_of_struck (hexists : groupExists g = true) (hfailed : (s.bank (groupOf g).key).failed = none)
    (hfew : ((s.bank (groupOf g).key).hit bank (groupStart g)).count bank < 16) :
    s.scrubbed g (some bank) = { s with
      banks := Table.put s.banks (groupOf g).key ((s.bank (groupOf g).key).hit bank (groupStart g)), tick := s.tick + 1 } := by
  let f : Flaw := ⟨groupStart g, bank, struckBy s.tick⟩
  have hstruck : s.scrubFault g (some bank) = s.flawed f := by
    rw [State.scrubFault_symbol hbank, State.symbolFault_of_sound h hbank (struckBy_ne_zero _) hexists hfailed]
    rfl
  have hsame : (s.flawed f).isBad g = s.isBad g := rfl
  have hfind : (s.flawed f).flaws.find? (fun f => f.group == groupStart g) = some f := by
    show (s.flaws ++ [f]).find? _ = _
    rw [List.find?_append, h.find?]
    simp [f]
  have hnote : (s.flawed f).noteGroup (groupStart g) = (s.flawed f).correct (groupStart g) bank :=
    State.noteGroup_of_flaw (s := s.flawed f) h.1 hfind (by rw [groupOf_groupStart]; exact hfailed)
  have hkeep : ((s.flaws ++ [f]).filter (fun f => f.group != groupStart g)) = s.flaws := by
    rw [List.filter_append, h.filter]
    simp [f]
  unfold State.scrubbed
  rw [hstruck, State.logNew_of_same hsame, hnote, State.correct_of_few (by rw [groupOf_groupStart]; exact hfew), groupOf_groupStart]
  show { s with banks := _, tick := _, flaws := (s.flaws ++ [f]).filter _ } = _
  rw [hkeep]
  rfl

theorem State.scrubbed_of_hole (hhole : groupExists g = false) : s.scrubbed g (some bank) = s.atTick (s.tick + 1) := by
  have hstruck : s.scrubFault g (some bank) = s.atTick (s.tick + 1) := by
    rw [State.scrubFault_symbol hbank, State.symbolFault_of_hole hhole]
    rfl
  have hsame : (s.atTick (s.tick + 1)).isBad g = s.isBad g := rfl
  have hsound : (s.atTick (s.tick + 1)).Sound (groupStart g) := h
  unfold State.scrubbed
  rw [hstruck, State.logNew_of_same hsame, State.noteGroup_of_clean hsound.1 hsound.find?, State.wroteBack_of_sound hsound]

/-- R420: a symbol that goes wrong before the scrubber reads its group is corrected and counted. -/
theorem scrubPass_strikes (hfailed : (s.bank (groupOf g).key).failed = none) (hworse : (s.bank (groupOf g).key).worse.length < 16)
    (hfew : ((s.bank (groupOf g).key).hit bank (groupStart g)).count bank < 16) :
    exec (.scrubPass g (some bank)) s = .next (if groupExists g = true then { s with
      banks := Table.put s.banks (groupOf g).key ((s.bank (groupOf g).key).hit bank (groupStart g)), tick := s.tick + 1 }
      else { s with tick := s.tick + 1 }) := by
  by_cases hexists : groupExists g = true
  · have hs := State.scrubbed_of_struck hbank h hexists hfailed hfew
    have hbanks : (s.scrubbed g (some bank)).bank (groupOf g).key = (s.bank (groupOf g).key).hit bank (groupStart g) := by
      rw [hs]
      exact Table.getD_put_same ..
    rw [exec_scrubPass_of_few (by rw [hbanks]; exact hworse), hs, if_pos hexists]
  · have hs := State.scrubbed_of_hole hbank h (by simpa using hexists)
    rw [exec_scrubPass_of_few (by rw [hs]; exact hworse), hs, if_neg hexists]
    rfl
end

/-! A group that bears a mark when it is read (R420, R421). -/

/-- The counters of a store with one further mismatch. -/
def Banks.further (b : Banks) (gs : Nat) : Banks :=
  if b.failed.isSome then { b with worse := if b.worse.contains gs then b.worse else b.worse ++ [gs] } else b

theorem Banks.further_worse_le (b : Banks) (gs : Nat) : (b.further gs).worse.length ≤ b.worse.length + 1 := by
  unfold Banks.further
  split <;> try split
  all_goals simp

theorem State.logNew_eq (s s0 : State) (g : Nat) : ∃ d, s.logNew s0 g = { s with dfl := d } := by
  unfold State.logNew
  split
  · exact State.dflLog_eq _ _
  · exact ⟨s.dfl, rfl⟩

section
variable (s s0 : State) (g : Nat)

theorem State.logNew_poison : (s.logNew s0 g).poison = s.poison := by
  obtain ⟨d, hd⟩ := s.logNew_eq s0 g
  rw [hd]

theorem State.logNew_banks : (s.logNew s0 g).banks = s.banks := by
  obtain ⟨d, hd⟩ := s.logNew_eq s0 g
  rw [hd]

theorem State.logNew_mem : (s.logNew s0 g).mem = s.mem := by
  obtain ⟨d, hd⟩ := s.logNew_eq s0 g
  rw [hd]

theorem State.logNew_regions : (s.logNew s0 g).regions = s.regions := by
  obtain ⟨d, hd⟩ := s.logNew_eq s0 g
  rw [hd]

/-- R421: a memory group that gets its mark now is logged, where the hold has room. -/
theorem State.logNew_hold (hg : InMemory g) (hnew : groupStart g ∈ s.poison) (hold : groupStart g ∉ s0.poison)
    (hroom : s.dfl.hold.length < 64) : ∃ r, (s.logNew s0 g).dfl.hold = s.dfl.hold ++ [r] := by
  unfold State.logNew
  rw [s.isBad_of_memory hg, s0.isBad_of_memory hg, if_pos (by simpa using ⟨hnew, hold⟩)]
  unfold State.logBad
  rw [s.dflLog_of_room _ hroom]
  exact ⟨_, rfl⟩
end

/-- R420: what the reading of a marked group changes. -/
theorem State.noteGroup_marked {gs : Nat} (hmark : gs ∈ s.poison) :
    (s.noteGroup gs).poison = s.poison ∧ (s.noteGroup gs).regions = s.regions ∧ (s.noteGroup gs).dfl = s.dfl
    ∧ (s.noteGroup gs).bank (groupOf gs).key = (s.bank (groupOf gs).key).further gs := by
  rw [State.noteGroup_of_poison hmark]
  unfold Banks.further
  split
  · exact ⟨rfl, rfl, rfl, Table.getD_put_same ..⟩
  · exact ⟨rfl, rfl, rfl, rfl⟩

/-- R420: what the scrubber leaves of a group that bears a mark when it is read. -/
theorem State.scrubbed_of_mark {o : Option Nat} (hmark : groupStart g ∈ (s.scrubFault g o).poison) :
    (s.scrubbed g o).poison = (s.scrubFault g o).poison ∧ (s.scrubbed g o).mem = (s.scrubFault g o).mem
    ∧ (s.scrubbed g o).regions = (s.scrubFault g o).regions ∧ (s.scrubbed g o).dfl = ((s.scrubFault g o).logNew s g).dfl
    ∧ (s.scrubbed g o).bank (groupOf g).key = ((s.scrubFault g o).bank (groupOf g).key).further (groupStart g) := by
  generalize hx : s.scrubFault g o = x at hmark ⊢
  have hlogged : groupStart g ∈ (x.logNew s g).poison := by rwa [State.logNew_poison]
  obtain ⟨hpoison, hregions, hdfl, hbank⟩ := State.noteGroup_marked hlogged
  have hs : s.scrubbed g o = ((x.logNew s g).noteGroup (groupStart g)).wroteBack (groupStart g) := by rw [← hx]; rfl
  rw [hs]
  refine ⟨hpoison.trans (State.logNew_poison ..), ?_, hregions.trans (State.logNew_regions ..), hdfl, ?_⟩
  · exact (State.noteGroup_mem ..).trans (State.logNew_mem ..)
  · rw [groupOf_groupStart] at hbank
    refine hbank.trans ?_
    unfold State.bank
    rw [State.logNew_banks]

theorem State.mem_poison_markBad (hg : InMemory g) : groupStart g ∈ (s.markBad g).poison := by
  rw [s.markBad_of_memory hg]
  split
  case isTrue h => simpa using h
  case isFalse => simp

theorem State.poison_markBad_mono (hg : InMemory g) {p : Nat} (hp : p ∈ s.poison) : p ∈ (s.markBad g).poison := by
  rw [s.markBad_of_memory hg]
  split
  · exact hp
  · exact List.mem_append_left _ hp

theorem InMemory.groupStart (hg : InMemory g) : InMemory (groupStart g) := by
  unfold InMemory
  rwa [groupOf_groupStart]

/-- R420: a further mismatch while another bank is marked failed. -/
theorem scrubPass_further {f : Nat} (hbank : bank < 18) (hf : f < 18) (hne : bank ≠ f) (h : s.Sound (groupStart g))
    (hfailed : (s.bank (groupOf g).key).failed = some f) (hworse : (s.bank (groupOf g).key).worse.length < 15)
    (hexists : groupExists g = true) (hg : InMemory g) :
    ∃ s', exec (.scrubPass g (some bank)) s = .next s' ∧ groupStart g ∈ s'.poison ∧ s'.mem = s.mem
      ∧ (s'.bank (groupOf g).key).worse =
        (if (s.bank (groupOf g).key).worse.contains (groupStart g) then (s.bank (groupOf g).key).worse
          else (s.bank (groupOf g).key).worse ++ [groupStart g]) := by
  have hfault : s.scrubFault g (some bank) = (s.markBad (groupStart g)).atTick (s.tick + 1) := by
    rw [State.scrubFault_symbol hbank, State.symbolFault_of_failed h hbank (struckBy_ne_zero _) hexists hf hne hfailed]
    rfl
  have hmark : groupStart g ∈ (s.scrubFault g (some bank)).poison := by
    rw [hfault]
    have hm := State.mem_poison_markBad (s := s) hg.groupStart
    rwa [groupStart_groupStart] at hm
  obtain ⟨hpoison, hmem, -, -, hb⟩ := State.scrubbed_of_mark hmark
  have hbefore : (s.scrubFault g (some bank)).bank (groupOf g).key = s.bank (groupOf g).key := by
    rw [hfault]
    exact congrArg (fun b => Table.getD b _ _) (State.markBad_banks s _)
  rw [hbefore] at hb
  have hfew := Banks.further_worse_le (s.bank (groupOf g).key) (groupStart g)
  refine ⟨_, exec_scrubPass_of_few (by rw [hb]; omega), by rwa [hpoison], ?_, ?_⟩
  · rw [hmem, hfault]
    exact State.markBad_mem ..
  · rw [hb]
    unfold Banks.further
    rw [hfailed, Option.isSome_some, if_pos rfl]

theorem State.region_setRegion_logged (s : State) (reg : Nat) (r : Region) (d : DflRec) :
    (((s.setRegion reg r).dflLog d).shapeCheck).region reg = r := by
  have hregions : (((s.setRegion reg r).dflLog d).shapeCheck).regions = (s.setRegion reg r).regions := State.dflLog_regions _ _
  rw [State.region_congr hregions, State.region_setRegion]

/-- R339: a region that is fenced stands FENCED. -/
theorem State.fenceRegion_fenced (s : State) (reg : Nat) (code : Byte) : ((s.fenceRegion reg code).region reg).st = .fenced := by
  unfold State.fenceRegion
  dsimp only
  split
  case isTrue h => exact h
  case isFalse => exact congrArg Region.st (State.region_setRegion_logged ..)

section
variable (hbank : 18 ≤ bank)
include hbank

/-- R421: a group beyond the code gets its mark and is logged. -/
theorem scrubPass_marks (hg : InMemory g) (hworse : (s.bank (groupOf g).key).worse.length < 15) :
    ∃ s', exec (.scrubPass g (some bank)) s = .next s' ∧ groupStart g ∈ s'.poison ∧ (∀ p ∈ s.poison, p ∈ s'.poison) ∧ s'.mem = s.mem
      ∧ (groupStart g ∉ s.poison → s.dfl.hold.length < 64 → ∃ r, s'.dfl.hold = s.dfl.hold ++ [r]) := by
  have hfault : s.scrubFault g (some bank) = s.markBad g := State.scrubFault_many hbank
  have hmark : groupStart g ∈ (s.scrubFault g (some bank)).poison := by
    rw [hfault]
    exact State.mem_poison_markBad hg
  obtain ⟨hpoison, hmem, -, hdfl, hb⟩ := State.scrubbed_of_mark hmark
  have hbefore : (s.scrubFault g (some bank)).bank (groupOf g).key = s.bank (groupOf g).key := by
    rw [hfault]
    exact congrArg (fun b => Table.getD b _ _) (State.markBad_banks s _)
  rw [hbefore] at hb
  have hfew := Banks.further_worse_le (s.bank (groupOf g).key) (groupStart g)
  refine ⟨_, exec_scrubPass_of_few (by rw [hb]; omega), by rwa [hpoison], fun p hp => ?_, ?_, fun hnew hroom => ?_⟩
  · rw [hpoison, hfault]
    exact State.poison_markBad_mono hg hp
  · rw [hmem, hfault]
    exact State.markBad_mem ..
  · rw [hdfl]
    have hsame : (s.scrubFault g (some bank)).dfl = s.dfl := by rw [hfault, State.markBad_dfl]
    rw [← hsame] at hroom ⊢
    exact State.logNew_hold _ _ _ hg hmark hnew hroom

/-- R420: the sixteenth group with a further mismatch fences the region of the store. -/
theorem scrubPass_fences {f : Nat} (hfailed : (s.bank (groupOf g).key).failed = some f) (hkey : (groupOf g).key < 2048)
    (hworse : (s.bank (groupOf g).key).worse.length = 15) (hnew : groupStart g ∉ (s.bank (groupOf g).key).worse)
    (hopen : (s.region (regionOfTile ((groupOf g).key % 1024))).st ≠ .fenced) :
    ∃ s', exec (.scrubPass g (some bank)) s = .next s' ∧ (s'.region (regionOfTile ((groupOf g).key % 1024))).st = .fenced := by
  have hg : InMemory g := by
    intro r e h
    rw [h] at hkey
    exact absurd hkey (by simp [Group.key])
  have hfault : s.scrubFault g (some bank) = s.markBad g := State.scrubFault_many hbank
  have hmark : groupStart g ∈ (s.scrubFault g (some bank)).poison := by
    rw [hfault]
    exact State.mem_poison_markBad hg
  obtain ⟨-, -, hregions, -, hb⟩ := State.scrubbed_of_mark hmark
  have hbefore : (s.scrubFault g (some bank)).bank (groupOf g).key = s.bank (groupOf g).key := by
    rw [hfault]
    exact congrArg (fun b => Table.getD b _ _) (State.markBad_banks s _)
  have hmarked : (s.markBad g).regions = s.regions := by
    rw [s.markBad_of_memory hg]
    split <;> rfl
  have hregion : (s.scrubbed g (some bank)).region (regionOfTile ((groupOf g).key % 1024)) = s.region (regionOfTile ((groupOf g).key % 1024)) := by
    refine State.region_congr ?_ _
    rw [hregions, hfault, hmarked]
  have hsixteen : 16 ≤ ((s.scrubbed g (some bank)).bank (groupOf g).key).worse.length := by
    rw [hb, hbefore]
    unfold Banks.further
    rw [hfailed, Option.isSome_some, if_pos rfl, if_neg (by simpa using hnew), List.length_append, hworse]
    exact Nat.le_refl _
  refine ⟨_, exec_scrubPass .., ?_⟩
  unfold State.bankFence
  rw [if_pos ⟨hkey, hsixteen, by rwa [hregion]⟩]
  exact State.fenceRegion_fenced ..
end

/-! Groups of image caches (R421). -/

/-- An entry of a region's cache is to turn into a miss, in a region of a given state. -/
def State.CacheBad (s : State) (reg e : Nat) (st : RegSt) : Prop := ((s.region reg).entry e).bad = true ∧ (s.region reg).st = st

theorem State.markBad_cacheBad (s : State) (n : Nat) {reg e : Nat} {st : RegSt} (h : s.CacheBad reg e st) : (s.markBad n).CacheBad reg e st := by
  obtain ⟨hbad, hst⟩ := h
  unfold State.markBad
  split
  case h_1 j k _ =>
    by_cases hj : reg = j
    · subst hj
      unfold State.CacheBad
      rw [State.region_setRegion]
      refine ⟨?_, hst⟩
      unfold Region.entry at hbad ⊢
      rw [Vector.getElem_set]
      split
      · rfl
      · exact hbad
    · unfold State.CacheBad
      rw [State.region_setRegion_ne _ _ _ _ hj]
      exact ⟨hbad, hst⟩
  case h_2 =>
    split
    · exact ⟨hbad, hst⟩
    · exact ⟨hbad, hst⟩

theorem State.CacheBad.congr {x : State} {reg e : Nat} {st : RegSt} (h : s.CacheBad reg e st) (hr : x.regions = s.regions) : x.CacheBad reg e st := by
  unfold State.CacheBad
  rwa [State.region_congr hr]

theorem State.bankFails_cacheBad {reg e : Nat} {st : RegSt} (h : s.CacheBad reg e st) (key f : Nat) : (s.bankFails key f).CacheBad reg e st :=
  foldl_keeps (fun s : State => s.CacheBad reg e st) (fun _ (x : Flaw) hs => State.markBad_cacheBad _ x.group hs) _ (h.congr rfl)

theorem State.correct_cacheBad {reg e : Nat} {st : RegSt} (h : s.CacheBad reg e st) (gs bank : Nat) : (s.correct gs bank).CacheBad reg e st := by
  by_cases hmany : 16 ≤ ((s.bank (groupOf gs).key).hit bank gs).count bank
  · obtain ⟨r, hr⟩ := State.correct_of_many hmany
    rw [hr]
    refine State.CacheBad.congr (State.bankFails_cacheBad ?_ _ _) (State.dflLog_regions _ r)
    exact h
  · rw [State.correct_of_few (Nat.not_le.1 hmany)]
    exact h.congr rfl

theorem State.noteGroup_cacheBad {reg e : Nat} {st : RegSt} (h : s.CacheBad reg e st) (gs : Nat) : (s.noteGroup gs).CacheBad reg e st := by
  unfold State.noteGroup
  split
  · split
    · exact h
    · exact h
  · split
    · exact State.correct_cacheBad h _ _
    · exact h

/-- R421: a cached image with a group beyond the code turns into a miss; its region goes on. -/
theorem scrubPass_cache {reg e : Nat} (hbank : 18 ≤ bank) (hg : groupOf g = .cache reg e) :
    ∃ s', exec (.scrubPass g (some bank)) s = .next s' ∧ ((s'.region reg).entry e).bad = true
      ∧ (s'.region reg).st = (s.region reg).st ∧ s'.mem = s.mem := by
  have hfault : s.scrubFault g (some bank) = s.markBad g := State.scrubFault_many hbank
  have hmarked : (s.markBad g).CacheBad reg e (s.region reg).st := by
    unfold State.markBad
    rw [hg]
    unfold State.CacheBad
    dsimp only
    rw [State.region_setRegion]
    unfold Region.entry
    rw [Vector.getElem_set_self]
    exact ⟨rfl, rfl⟩
  have hbad : (s.scrubbed g (some bank)).CacheBad reg e (s.region reg).st := by
    unfold State.scrubbed
    rw [hfault]
    exact (State.noteGroup_cacheBad (hmarked.congr (State.logNew_regions ..)) _).congr rfl
  have hkey : 2048 ≤ (groupOf g).key := by
    rw [hg]
    exact Nat.le_add_right ..
  refine ⟨s.scrubbed g (some bank), ?_, hbad.1, hbad.2, ?_⟩
  · rw [exec_scrubPass, State.bankFence_of_cache _ hkey]
  · show (((s.scrubFault g (some bank)).logNew s g).noteGroup (groupStart g)).mem = s.mem
    rw [State.noteGroup_mem, State.logNew_mem, hfault, State.markBad_mem]
end

end Sys2Proof.Machine
end

section
/-! PROOFS. Reports, the device fault log and boot (R424, R431, R436). -/

namespace Sys2Proof.Machine

section
variable {s : State}

/-- R436: the bytes of a report before its signature. -/
theorem State.reportBody_length (s : State) (cmd : Dword) : (s.reportBody cmd).length = 192 := by
  simp [State.reportBody, wordBytes, bytesLE, bytesBE]

/-- R436: a report with its signature, and nothing else, is stored. -/
theorem execReportDone_stores {b : BitVec 52} {d : Dword} {l : List Byte} (hinv : s.Inv) (hreport : s.sec.report = some (b, d, some l)) :
    ∃ s', exec .reportDone s = .next s' ∧ s'.sec = { s.sec with attstatus := 0, report := none }
      ∧ (∀ j, j < l.length → some (s'.mem.read (b.toNat + j)) = l[j]?)
      ∧ (∀ j, j < 64 → s'.mem.read (b.toNat + l.length + j) = BitVec.ofNat 8 ((Config.sm2Sign l).toNat / 256 ^ (63 - j)))
      ∧ ∀ x, (x < b.toNat ∨ b.toNat + l.length + 64 ≤ x) → s'.mem.read x = s.mem.read x := by
  have hsig : (bytesBE 64 (Config.sm2Sign l).toNat).length = 64 := by simp [bytesBE]
  have hexec : exec .reportDone s = .next { ({ s with mem := s.mem.writeBytes b.toNat (l ++ bytesBE 64 (Config.sm2Sign l).toNat) }.clearPoison b.toNat 256) with
      sec := { s.sec with attstatus := 0, report := none } } := by
    show execReportDone s = _
    unfold execReportDone
    rw [hreport]
    rfl
  refine ⟨_, hexec, rfl, fun j hj => ?_, fun j hj => ?_, fun x hx => ?_⟩
  · have hin : j < (l ++ bytesBE 64 (Config.sm2Sign l).toNat).length := by rw [List.length_append]; omega
    refine (congrArg some (Memory.read_writeBytes_inside hinv b.toNat hin)).trans ?_
    rw [List.getElem_append_left hj, List.getElem?_eq_getElem hj]
  · have hin : l.length + j < (l ++ bytesBE 64 (Config.sm2Sign l).toNat).length := by rw [List.length_append, hsig]; omega
    rw [Nat.add_assoc]
    refine (Memory.read_writeBytes_inside hinv b.toNat hin).trans ?_
    rw [List.getElem_append_right (by omega)]
    simp [bytesBE]
  · refine Memory.read_writeBytes_outside _ _ ?_
    rw [List.length_append, hsig]
    omega
end

/-! The device fault log (R424). -/

section
variable {s : State}

theorem Dfl.en_iff (d : Dfl) : d.en = true ↔ fldN d.len 31 1 = 1 := beq_iff_eq

theorem Dfl.en_of_zero {d : Dfl} (h : fldN d.len 31 1 = 0) : d.en = false := by
  unfold Dfl.en
  rw [h]
  rfl

theorem execDflRecordWrite_waits (h : fldN s.dfl.len 31 1 = 0 ∨ (s.dfl.tail.toNat + 1) % (fldN s.dfl.len 0 16 + 1) = s.dfl.head.toNat) :
    exec .dflRecordWrite s = .next s := by
  show execDflRecordWrite s = _
  unfold execDflRecordWrite
  split
  · rfl
  · rw [if_pos]
    obtain hoff | hfull := h
    · exact .inl (by rw [Dfl.en_of_zero hoff]; rfl)
    · exact .inr (beq_iff_eq.2 hfull)

theorem execDflRecordWrite_goes {r : DflRec} {rest : List DflRec} (hhold : s.dfl.hold = r :: rest) (hen : fldN s.dfl.len 31 1 = 1)
    (hroom : ¬ (s.dfl.tail.toNat + 1) % (fldN s.dfl.len 0 16 + 1) = s.dfl.head.toNat) :
    exec .dflRecordWrite s = if !(rangeOk (s.dfl.base.toNat + 32 * s.dfl.tail.toNat) 32 && isDevice (s.dfl.base.toNat + 32 * s.dfl.tail.toNat))
      then .fault .hole
      else .next { (s.ringWrite s.dfl.base s.dfl.tail r) with
        dfl := { s.dfl with hold := rest, tail := ringNext s.dfl.tail s.dfl.len } } := by
  show execDflRecordWrite s = _
  unfold execDflRecordWrite
  rw [hhold]
  dsimp only
  rw [if_neg]
  · rfl
  · rintro (hoff | hfull)
    · rw [(Dfl.en_iff _).2 hen] at hoff
      exact absurd hoff (by decide)
    · exact hroom (beq_iff_eq.1 hfull)

/-- R424: while EN is 0 a record that finds the hold full is lost. -/
theorem State.dflLog_lost (r : DflRec) (hfull : 64 ≤ s.dfl.hold.length) (hoff : fldN s.dfl.len 31 1 = 0) :
    s.dflLog r = { s with dfl := { s.dfl with lost := satAdd s.dfl.lost 1 } } := by
  have hen := Dfl.en_of_zero hoff
  have hfree : s.dfl.free = 0 := by
    unfold Dfl.free
    rw [hen]
    rfl
  unfold State.dflLog Dfl.keeps
  rw [hfree, hen, decide_eq_false (by omega)]
  rfl
end

/-- R431: what the firmware copies decide. -/
theorem execBoot_runs {s : State} (hstarts : s.sec.boot = .reset ∨ s.sec.boot = .verifying) {copy : Nat}
    (hcopy : copy = 0 ∧ fwOk 0 = true ∨ copy = 1 ∧ fwOk 0 = false ∧ fwOk 1 = true) :
    exec .boot s = .next { s with sec := s.sec.runs copy } := by
  have hgo : ¬ (s.sec.boot ≠ .reset ∧ s.sec.boot ≠ .verifying) := by
    rintro ⟨hr, hv⟩
    exact hstarts.elim hr hv
  show execBoot s = _
  unfold execBoot
  obtain ⟨rfl, h0⟩ | ⟨rfl, h0, h1⟩ := hcopy
  · rw [if_neg hgo, if_pos h0]
  · rw [if_neg hgo, if_neg (by rw [h0]; decide), if_pos h1]

theorem execBoot_fails {s : State} (hstarts : s.sec.boot = .reset ∨ s.sec.boot = .verifying) (h0 : fwOk 0 = false) (h1 : fwOk 1 = false) :
    exec .boot s = .next { s with sec := { s.sec with boot := .fail, idpub := Config.devicePub } } := by
  have hgo : ¬ (s.sec.boot ≠ .reset ∧ s.sec.boot ≠ .verifying) := by
    rintro ⟨hr, hv⟩
    exact hstarts.elim hr hv
  show execBoot s = _
  unfold execBoot
  rw [if_neg hgo, if_neg (by rw [h0]; decide), if_neg (by rw [h1]; decide)]

end Sys2Proof.Machine
end

section
/-! PROOFS. The obligation on management, O60. -/

namespace Sys2Proof.Machine

theorem exec_registerWrite_disp (s : State) (v : Word) {o : Nat} (ho : o < 0x1000) :
    exec (.registerWrite (0x1000 + o) (v.setWidth 64) false) s = .next (s.dispWrite o v) := by
  have hoff : 0x1000 + o - 0x1000 = o := by omega
  rw [exec_registerWrite_word]
  unfold State.plainWrite
  rw [if_neg (by omega), if_pos (by omega), hoff]

theorem State.dispWrite_base_on (s : State) (v : Word) (h : s.dfl.en = true) : s.dispWrite 0x100 v = s := if_pos h

theorem State.dispWrite_base_off (s : State) (v : Word) (h : s.dfl.en = false) :
    s.dispWrite 0x100 v = { s with dfl := { s.dfl with base := setHalf s.dfl.base false v } } := if_neg (by rw [h]; decide)

theorem exec_aclWrite_word (s : State) (off : Nat) (v : Word) :
    exec (.aclWrite off (v.setWidth 64) false) s = .next { s with sec := s.sec.writeBits off 32 v.toNat } := by
  show (.next { s with sec := s.sec.writeBits off 32 (lo (v.setWidth 64 : Dword).toNat).toNat } : Out) = _
  rw [lo_setWidth]

theorem exec_aclWrite_wide (s : State) (off : Nat) (w : Dword) :
    exec (.aclWrite off w true) s = .next { s with sec := s.sec.writeBits off 64 w.toNat } := rfl

/-- R434: a good MGMT that is always allowed, or allowed in a device that has booted, is performed. -/
theorem exec_mgmt_of_pass {s : State} {t : Txn} (hdue : s.due t) (hhdr : mgmtHdr t = true)
    (hpass : mgmtFree t = true ∨ (s.sec.boot ≠ .fail ∧ s.mgmtAllowed t = true)) :
    exec (.mgmt t) s = .next (mgmtDoes t (s.counted t)) := by
  refine exec_mgmt_of_due hdue ?_
  rw [hhdr]
  obtain hfree | ⟨hgo, hallowed⟩ := hpass
  · rw [hfree]
    exact State.gate_of_always _
  · rw [hallowed]
    exact State.gate_of_allowed _ hgo

theorem mgmtDoes_read {s : State} {t : Txn} (hread : t.opx.getLsbD 0 = false) : mgmtDoes t (s.counted t) =
    (s.counted t).respond t (unitOf (s.mgmtRead t.addr.toNat (t.opx.getLsbD 1)) (if t.opx.getLsbD 1 = true then 8 else 4)) := by
  unfold mgmtDoes State.mgmtRead
  rw [hread, if_neg (by decide), State.counted_mgmtWord, State.counted_mgmtWord]

/-- R406, R434: a MGMT write is answered; an access entry that it has written waits for that answer. -/
def State.writeAnswered (w : State) (t : Txn) : State := State.respond { w with sec := w.sec.tagged t } t []

theorem State.writeAnswered_outq (w : State) (t : Txn) : (w.writeAnswered t).outq.getLast? = some (answerTo t 6 0 []) := by
  unfold State.writeAnswered State.respond
  rw [State.reply_outq, List.getLast?_append]
  rfl

theorem State.writeAnswered_frame (w : State) (t : Txn) :
    (w.writeAnswered t).mem = w.mem ∧ (w.writeAnswered t).ctxs = w.ctxs ∧ (w.writeAnswered t).queues = w.queues
    ∧ (w.writeAnswered t).regions = w.regions ∧ (w.writeAnswered t).links = w.links ∧ (w.writeAnswered t).tasks = w.tasks
    ∧ (w.writeAnswered t).dfl = w.dfl ∧ (w.writeAnswered t).tinv = w.tinv ∧ (w.writeAnswered t).sec.acl = w.sec.acl
    ∧ (w.writeAnswered t).agenda = w.agenda := ⟨rfl, rfl, rfl, rfl, rfl, rfl, rfl, rfl, rfl, rfl⟩

theorem mgmtDoes_write {s : State} {t : Txn} (hwrite : t.opx.getLsbD 0 = true) : mgmtDoes t s =
    (s.mgmtWrite t.addr.toNat (BitVec.ofNat 64 (dwordAt t.data 0)) (t.opx.getLsbD 1)).writeAnswered t := by
  unfold mgmtDoes
  rw [hwrite, if_pos rfl]
  rfl

/-- Settles O60: each register, command and pass by the lemma about it. -/
theorem management : Obligations.Management := by
  refine ⟨fun s => ?boot, fun s k v hk => ?contexts, fun s k v hk => ?queues, fun s v off => ?security, fun s cmd => ?reports,
    fun s t hdue => ?mgmt, fun s g => ?scrub, fun s => rfl, fun s => ?log⟩
  case boot =>
    refine ⟨rfl, rfl, fun hidle => ?_, fun hstarts h0 h1 => execBoot_fails hstarts h0 h1, fun copy hstarts hcopy =>
      ⟨_, execBoot_runs hstarts hcopy, rfl, rfl, rfl, rfl, Vector.getElem_set_self _, fun k hk hne => ?_⟩⟩
    · exact if_pos (not_or.1 hidle)
    · exact (Vector.getElem_set_ne (by decide) hk (Ne.symm hne)).trans (Vector.getElem_replicate hk)
  case contexts =>
    have hat : ∀ {o : Nat} {x : State}, o < 256 → s.ctxWrite k o v = x →
        exec (.registerWrite (0x10000 + 256 * k + o) (v.setWidth 64) false) s = .next x :=
      fun ho hx => hx ▸ exec_registerWrite_ctx s v hk ho
    have hreg : ∀ {o : Nat} {x : State}, o < 16384 → s.regionWrite k o v = x →
        exec (.registerWrite (0x100000 + 16384 * k + o) (v.setWidth 64) false) s = .next x :=
      fun ho hx => hx ▸ exec_registerWrite_region s v hk ho
    refine ⟨hat (by decide) rfl, hat (by decide) rfl, hat (by decide) rfl, fun hbusy => ⟨?_, ?_, ?_⟩,
      fun hfree => ⟨?_, ?_, ?_, ?_, fun w => exec_registerWrite_ptroot s hk w hfree⟩, fun hfenced => ?_, fun hopen => ⟨?_, ?_⟩, fun hopen => ?_⟩
    · exact hat (by decide) (if_neg hbusy)
    · exact hat (by decide) (if_neg hbusy)
    · exact hat (by decide) (if_neg hbusy)
    · exact hat (by decide) (if_pos hfree)
    · exact hat (by decide) (if_pos hfree)
    · exact hat (by decide) (if_pos hfree)
    · exact hat (by decide) (if_pos hfree)
    · exact hreg (by decide) (if_pos hfenced)
    · exact hreg (by decide) (if_neg hopen)
    · exact hreg (by decide) (if_neg hopen)
    · rw [s.mgmtWord_region hk (by decide), s.mgmtWord_region hk (by decide), s.mgmtWord_region hk (by decide), s.mgmtWord_region hk (by decide)]
      exact s.regionWord_ends hopen
  case queues =>
    have hat : ∀ {o : Nat} {x : State}, o < 64 → s.queueWrite k o v = x →
        exec (.registerWrite (0x20000 + 64 * k + o) (v.setWidth 64) false) s = .next x :=
      fun ho hx => hx ▸ exec_registerWrite_queue s v hk ho
    refine ⟨fun hon => ⟨?_, ?_⟩, fun hoff => ⟨?_, ?_, ?_⟩, fun hpaused => ?_, fun x hx => s.mgmtWrite_qcmd hk hx⟩
    · exact hat (by decide) (if_neg hon)
    · exact hat (by decide) (if_neg hon)
    · exact hat (by decide) (if_pos hoff)
    · exact hat (by decide) (if_pos hoff)
    · exact hat (by decide) (if_pos hoff)
    · exact hat (by decide) ((if_neg (by rw [hpaused]; decide)).trans (if_pos hpaused))
  case security =>
    refine ⟨?_, fun hen => ?_, fun hen => ?_, fun hlo hhi => ⟨fun hadmin => ?_, fun hnone => ?_⟩,
      fun w hlo hhi halign => ⟨fun hadmin => ?_, fun hnone => ?_⟩, execMeasmaskWrite_sets s v⟩
    · exact exec_registerWrite_disp s v (o := 0x10C) (by decide)
    · exact (exec_registerWrite_disp s v (o := 0x100) (by decide)).trans (congrArg Host.Outcome.next (s.dispWrite_base_on v hen))
    · exact (exec_registerWrite_disp s v (o := 0x100) (by decide)).trans (congrArg Host.Outcome.next (s.dispWrite_base_off v hen))
    · rw [exec_aclWrite_word, s.sec.writeBits_of_admin hlo hhi hadmin]
      rfl
    · rw [exec_aclWrite_word, s.sec.writeBits_of_none hlo hhi hnone]
    · have hnew := s.sec.newAcl_wide halign w.toNat
      rw [exec_aclWrite_wide, s.sec.writeBits_of_admin hlo hhi (by unfold Sec.afterWrite; rw [hnew]; exact hadmin), hnew]
      rfl
    · have hnew := s.sec.newAcl_wide halign w.toNat
      rw [exec_aclWrite_wide, s.sec.writeBits_of_none hlo hhi (by unfold Sec.afterWrite; rw [hnew]; exact hnone)]
  case reports =>
    refine ⟨fun hbusy => if_pos hbusy, fun hidle hbad => ?_, fun hidle hok => ?_, s.reportBody_length cmd, fun b hreport => ?_,
      fun hnone => ?_, fun b d l hinv hreport => execReportDone_stores hinv hreport⟩
    · refine (if_neg hidle).trans (if_pos ?_)
      by_contra hgood
      rw [not_or, not_not] at hgood
      exact hbad ⟨hgood.1, by simpa using hgood.2⟩
    · refine (if_neg hidle).trans (if_neg ?_)
      rw [not_or, not_not]
      exact ⟨hok.1, by simpa using hok.2⟩
    · unfold State.takeReport
      rw [hreport]
    · show execReportDone s = _
      unfold execReportDone
      split
      case h_1 b d l hsome => exact absurd hsome (hnone b d l)
      case h_2 => rfl
  case mgmt =>
    have hfree := mgmtFree_iff t
    refine ⟨fun hfail hbad => mgmtHdr_nack 0x11 hdue ?_, fun hgo hhdr => mgmtHdr_nack 0x10 hdue ?_,
      fun hgo hhdr hnot hdenied => mgmtHdr_nack 0x11 hdue ?_, fun hhdr hread hpass => ?_, fun hhdr hwrite hgo hallowed => ?_⟩
    · refine State.gate_of_bootfail _ hfail ?_
      obtain hhdr | hnot := hbad
      · rw [hhdr]; rfl
      · rw [Bool.eq_false_iff.2 (fun h => hnot (hfree.1 h)), Bool.and_false]
    · rw [hhdr]
      exact State.gate_of_badhdr _ _ hgo
    · rw [hhdr, Bool.eq_false_iff.2 (fun h => hnot (hfree.1 h)), hdenied]
      exact State.gate_of_denied hgo
    · have hdoes := exec_mgmt_of_pass hdue hhdr (hpass.imp_left hfree.2)
      rw [mgmtDoes_read hread] at hdoes
      exact answers_of_reply (x := s.counted t) (nack := false) hdoes rfl ⟨rfl, rfl, rfl⟩
    · have hdoes := exec_mgmt_of_pass hdue hhdr (.inr ⟨hgo, hallowed⟩)
      rw [mgmtDoes_write hwrite] at hdoes
      exact ⟨_, hdoes, State.writeAnswered_outq _ t, State.writeAnswered_frame _ t⟩
  case scrub =>
    refine ⟨fun hsound hworse => ?_, fun f hpoison hflaw hfailed hworse => ⟨?_, ?_⟩, fun bank hbank hsound hfailed hworse hfew => ?_,
      fun bank f hbank hf hne hsound hfailed hworse hexists hg => ?_, fun bank hbank hg hworse => ?_,
      fun bank f hbank hfailed hkey hworse hnew hopen => ?_, fun bank r e hbank hg _ => ?_⟩
    · have hs := State.scrubbed_none_of_sound (g := g) hsound
      rw [exec_scrubPass_of_few (by rw [hs]; exact hworse), hs]
    · exact scrubPass_corrects hpoison hflaw hfailed hworse
    · exact scrubPass_fails hpoison hflaw hfailed hworse
    · exact scrubPass_strikes hbank hsound hfailed hworse hfew
    · exact scrubPass_further hbank hf hne hsound hfailed hworse hexists hg
    · exact scrubPass_marks hbank hg hworse
    · exact scrubPass_fences hbank hfailed hkey hworse hnew hopen
    · exact scrubPass_cache hbank hg
  case log =>
    refine ⟨fun hempty => ?_, fun hwaits => execDflRecordWrite_waits hwaits, fun r rest hhold hen hroom => ⟨fun hhole => ?_, fun hok => ?_⟩,
      fun r => ⟨State.dflLog_of_room s r, State.dflLog_lost r⟩⟩
    · show execDflRecordWrite s = _
      unfold execDflRecordWrite
      rw [hempty]
    · rw [execDflRecordWrite_goes hhold hen hroom, hhole]
      rfl
    · rw [execDflRecordWrite_goes hhold hen hroom, hok]
      rfl

end Sys2Proof.Machine
end

section
/-! PROOFS. The refutation of the obligation on task events: a barrier that a saved place names may lie where group numbers name image
caches; reading it may mark their entries. -/

namespace Sys2Proof.Machine

/-- Task 1 is ending, with an access outstanding and a waiter whose object lies at the first group of region 0's image cache. A symbol
of bank 3 is wrong there, bank 3 of the cache has 15 corrections, and the next group has a symbol of bank 5 wrong. -/
def cachedWaiterState : State :=
  { tasks := [(1, { ctx := 0, taskid := 0, record := [], st := .running, bound := true, ending := some (.aborted, 0) })]
    waiters := [{ pa := 2 ^ 53, va := 0, el := 0, pend := 0, task := 1, phase := 0 }]
    accs := [{ id := 0, src := .elem 0 0, ctx := 0, task := 1, region := 0, opc := 0, va := 0, size := 4, act := .read }]
    flaws := [⟨2 ^ 53, 3, 1⟩, ⟨2 ^ 53 + 16, 5, 1⟩]
    banks := [(2048, { hits := (List.range 15).map (fun k => (3, 2 ^ 53 + 32 + 16 * k)) })] }

/-- The regions that the retirement of task 1 leaves in the table. -/
def retiredRegions : List Nat :=
  match execTaskRetire 1 cachedWaiterState with
  | .next s => s.regions.keys
  | _ => []

/-- R420: the sixteenth correction marks bank 3 of the cache failed, and the next group marks its entry in region 0. -/
theorem retiredRegions_eq : retiredRegions = [0] := by decide +kernel

/-- Refutes O57: an ending task that still has an access outstanding may leave the regions changed. -/
theorem not_taskEvents : ¬ Obligations.TaskEvents := by
  rintro ⟨-, -, -, -, -, -, -, -, retire⟩
  obtain ⟨-, -, -, ended⟩ := retire cachedWaiterState 1 _ rfl
  obtain ⟨-, -, -, bound⟩ := ended .aborted 0 rfl rfl
  obtain ⟨outstanding, -⟩ := bound rfl (by decide) (by decide) (by decide +kernel)
  obtain ⟨s', hexec, -, hregions⟩ := outstanding (by decide +kernel)
  have hrun : execTaskRetire 1 cachedWaiterState = .next s' := hexec
  have hempty : retiredRegions = [] := by
    rw [retiredRegions, hrun]
    exact congrArg Table.keys hregions
  rw [retiredRegions_eq] at hempty
  exact absurd hempty (by decide)

end Sys2Proof.Machine
end

section
/-! PROOFS. Contexts: creation and restoring (R361, R362, R371). -/

namespace Sys2Proof.Machine

/-! Creating and restoring contexts (R361, R362, R371). -/

section
variable {s : State} {k : Nat}

theorem exec_create_rejects (hst : (s.ctx k).st ≠ .free) (hmaking : ¬ ((s.ctx k).st = .creating ∧ (s.ctx k).making = true)) :
    exec (.create k) s = .next (s.ctxReject k) := (if_neg hst).trans (if_neg hmaking)

theorem exec_create_ends (hst : (s.ctx k).st = .creating) (hmaking : (s.ctx k).making = true) : exec (.create k) s =
    .next (s.setCtx k (if (s.ctx k).createOk then (s.ctx k).created else { s.ctx k with st := .free, status := 2, making := false })) :=
  (if_neg (by rw [hst]; decide)).trans (if_pos ⟨hst, hmaking⟩)

/-- R361: a restore that fails leaves the context FREE. -/
def State.restoreFails (s : State) (k : Nat) : State := s.setCtx k { s.ctx k with st := .free, status := 2 }

theorem exec_contextRestoreDone_idle (h : (s.ctx k).st ≠ .creating ∨ (s.ctx k).making = true) : exec (.contextRestoreDone k) s = .next s :=
  if_pos h

section
variable (hst : (s.ctx k).st = .creating) (hmaking : (s.ctx k).making = false)
include hst hmaking

theorem exec_contextRestoreDone_unread (hhead : s.headAt k = none) : exec (.contextRestoreDone k) s = .next (s.restoreFails k) := by
  show execContextRestoreDone k s = _
  unfold execContextRestoreDone
  dsimp only
  rw [hhead, if_neg (by rw [hst, hmaking]; decide)]
  rfl

theorem exec_contextRestoreDone_read {h : Head} (hhead : s.headAt k = some h) : exec (.contextRestoreDone k) s =
    if !(s.ctx k).createOk ∨ h.version ≠ 1 ∨ !h.queues.all (s.queueFits k) then .next (s.restoreFails k)
    else .next (h.queues.foldl (fun s v => s.placeQueue k v) (s.setCtx k { s.ctx k with st := .suspended, status := 0, items := [], away := true })) := by
  show execContextRestoreDone k s = _
  unfold execContextRestoreDone
  dsimp only
  rw [hhead, if_neg (by rw [hst, hmaking]; decide)]
  rfl
end

/-! Placing the saved queues (R381). -/

/-- A queue PAUSED in the context. -/
def State.Paused (s : State) (k q : Nat) : Prop := (s.queue q).st = .paused ∧ (k < 64 → (s.queue q).ctx = k)

theorem State.placeQueue_paused (s : State) (k : Nat) (v : QSave) : (s.placeQueue k v).Paused k v.queue := by
  unfold State.Paused State.placeQueue
  rw [State.queue_setQueue]
  refine ⟨rfl, fun hk => ?_⟩
  have hprio : fldN v.cfg 0 2 < 4 := Nat.mod_lt _ (by decide)
  show fldN (Word.ofNat (k % 64 * 2 ^ 16 + fldN v.cfg 0 2)) 16 6 = k
  unfold fldN at hprio ⊢
  rw [BitVec.toNat_ofNat]
  omega

theorem State.placeQueue_keeps {v : QSave} {q : Nat} (h : s.Paused k q) : (s.placeQueue k v).Paused k q := by
  by_cases hq : q = v.queue
  · rw [hq]
    exact s.placeQueue_paused k v
  · unfold State.Paused State.placeQueue
    rw [State.queue_setQueue_ne _ _ _ _ hq]
    exact h

theorem State.placeQueues_paused (s : State) (k : Nat) (l : List QSave) :
    ∀ v ∈ l, (l.foldl (fun s v => s.placeQueue k v) s).Paused k v.queue := by
  induction l generalizing s with
  | nil => exact fun v hv => absurd hv (List.not_mem_nil)
  | cons x l ih =>
    intro v hv
    obtain rfl | hv := List.mem_cons.1 hv
    · exact foldl_keeps (fun s : State => s.Paused k v.queue) (fun _ _ h => State.placeQueue_keeps h) l (s.placeQueue_paused k v)
    · exact ih _ v hv

theorem State.ctx_congr {s s' : State} (h : s'.ctxs = s.ctxs) (k : Nat) : s'.ctx k = s.ctx k := by
  unfold State.ctx
  rw [h]

theorem State.placeQueues_frame (s : State) (k : Nat) (l : List QSave) :
    (l.foldl (fun s v => s.placeQueue k v) s).ctxs = s.ctxs ∧ (l.foldl (fun s v => s.placeQueue k v) s).mem = s.mem
    ∧ (l.foldl (fun s v => s.placeQueue k v) s).tasks = s.tasks :=
  ⟨foldl_unchanged State.ctxs (f := fun s v => s.placeQueue k v) (fun _ _ => rfl) l s,
    foldl_unchanged State.mem (f := fun s v => s.placeQueue k v) (fun _ _ => rfl) l s,
    foldl_unchanged State.tasks (f := fun s v => s.placeQueue k v) (fun _ _ => rfl) l s⟩

/-- R371, R381: a header that passes the checks leaves the context SUSPENDED with its queues PAUSED. -/
theorem exec_contextRestoreDone_restores (hst : (s.ctx k).st = .creating) (hmaking : (s.ctx k).making = false) {h : Head}
    (hhead : s.headAt k = some h) (hok : (s.ctx k).createOk = true ∧ h.version = 1 ∧ h.queues.all (s.queueFits k) = true) :
    ∃ s', exec (.contextRestoreDone k) s = .next s' ∧ (s'.ctx k).st = .suspended ∧ (s'.ctx k).status = 0
      ∧ s'.mem = s.mem ∧ s'.tasks = s.tasks
      ∧ ∀ q ∈ h.queues, (s'.queue q.queue).st = .paused ∧ (k < 64 → (s'.queue q.queue).ctx = k) := by
  obtain ⟨hcreate, hversion, hqueues⟩ := hok
  have hexec := exec_contextRestoreDone_read hst hmaking hhead
  rw [if_neg (by rw [hcreate, hversion, hqueues]; decide)] at hexec
  obtain ⟨hctxs, hmem, htasks⟩ := State.placeQueues_frame
    (s.setCtx k { s.ctx k with st := .suspended, status := 0, items := [], away := true }) k h.queues
  refine ⟨_, hexec, ?_, ?_, hmem, htasks, State.placeQueues_paused _ k h.queues⟩
  · rw [State.ctx_congr hctxs, State.ctx_setCtx]
  · rw [State.ctx_congr hctxs, State.ctx_setCtx]
end

end Sys2Proof.Machine
end

section
/-! PROOFS. Contexts: what a save area gives back (R353, R371). -/

namespace Sys2Proof.Machine

/-! Save areas: what is written is read back (R352, R370, R371). -/

/-- The bytes of a list of places, in order. -/
def spanLength (l : List (Nat × Nat)) : Nat := (l.map (fun x => x.2)).sum

/-- Two places share no byte. -/
def SpanApart (a b : Nat × Nat) : Prop := a.1 + a.2 ≤ b.1 ∨ b.1 + b.2 ≤ a.1

theorem State.putSpans_read_outside (s : State) (l : List (Nat × Nat)) (bs : List Byte) {x : Nat} (h : ∀ p ∈ l, x < p.1 ∨ p.1 + p.2 ≤ x) :
    (s.putSpans l bs).mem.read x = s.mem.read x := by
  induction l generalizing s bs with
  | nil => rfl
  | cons p l ih =>
    obtain ⟨a, n⟩ := p
    have hp := h (a, n) List.mem_cons_self
    rw [State.putSpans, ih _ _ (fun q hq => h q (List.mem_cons_of_mem _ hq))]
    refine Memory.read_writeBytes_outside _ _ ?_
    rw [List.length_take]
    dsimp only at hp
    omega

/-- What places without a common byte hold after a write over them. -/
theorem State.getSpans_putSpans (s : State) (hinv : s.Inv) (l : List (Nat × Nat)) (hapart : l.Pairwise SpanApart) (bs : List Byte)
    (hlen : bs.length ≤ spanLength l) : (s.putSpans l bs).getSpans l bs.length = bs := by
  induction l generalizing s bs with
  | nil =>
    rw [List.eq_nil_of_length_eq_zero (Nat.le_zero.1 hlen)]
    rfl
  | cons p l ih =>
    obtain ⟨a, n⟩ := p
    obtain ⟨hfirst, hrest⟩ := List.pairwise_cons.1 hapart
    rw [State.putSpans, State.getSpans]
    generalize hx : State.clearPoison { s with mem := s.mem.writeBytes a (bs.take n) } a (bs.take n).length = x
    have hxm : x.mem = s.mem.writeBytes a (bs.take n) := by rw [← hx]; rfl
    have hxinv : x.Inv := by
      unfold State.Inv
      rw [hxm]
      exact Memory.wf_writeBytes hinv _ _
    have hhead : (x.putSpans l (bs.drop n)).mem.readBytes a (min n bs.length) = bs.take n := by
      have hread : (x.putSpans l (bs.drop n)).mem.readBytes a (min n bs.length) = x.mem.readBytes a (min n bs.length) := by
        refine Memory.readBytes_congr (fun j hj => State.putSpans_read_outside _ _ _ (fun q hq => ?_))
        have hq' := hfirst q hq
        unfold SpanApart at hq'
        dsimp only at hq'
        omega
      rw [hread, hxm, ← List.length_take]
      exact Memory.readBytes_writeBytes hinv a _
    have hdrop : bs.length - n = (bs.drop n).length := (List.length_drop ..).symm
    rw [hhead, hdrop, ih x hxinv hrest, List.take_append_drop]
    rw [List.length_drop]
    have hsum : spanLength ((a, n) :: l) = n + spanLength l := by simp [spanLength]
    omega

/-- The newest thing written is what the places stand for, where they hold its bytes. -/
theorem State.known_newest {α : Type} (s : State) (bs : List Byte) (v : α) (l : List (List Byte × α)) (spans : List (Nat × Nat))
    (h : s.getSpans spans bs.length = bs) : s.known ((bs, v) :: l) spans = some v := by
  unfold State.known
  rw [List.find?_cons_of_pos (by simpa using h)]
  rfl

theorem State.getSpans_congr {s s' : State} (h : s'.mem = s.mem) (l : List (Nat × Nat)) (n : Nat) : s'.getSpans l n = s.getSpans l n := by
  induction l generalizing n with
  | nil => rfl
  | cons p l ih => rw [State.getSpans, State.getSpans, h, ih]

theorem State.putSpans_ctxs (s : State) (l : List (Nat × Nat)) (bs : List Byte) : (s.putSpans l bs).ctxs = s.ctxs := by
  induction l generalizing s bs with
  | nil => rfl
  | cons p l ih => exact ih _ _

section
variable {s s1 : State} {k : Nat}

theorem State.writeHead_eq {h : Head} (hw : s.writeHead k h = some s1) :
    s1 = { s.putSpans [((s.ctx k).savebase.toNat, 2 ^ 20)] ((saveImage s.fresh).take (2 ^ 20)) with
      heads := ((saveImage s.fresh).take (2 ^ 20), h) :: s.heads, fresh := s.fresh + 1 } := by
  unfold State.writeHead at hw
  dsimp only at hw
  split at hw
  · exact absurd hw (by simp)
  · exact (Option.some.inj hw).symm

/-- R371: RESTORE and RESUME find the header that QUIESCE wrote. -/
theorem State.headAt_writeHead (hinv : s.Inv) {h : Head} (hw : s.writeHead k h = some s1)
    (hclean : s1.badIn (s.ctx k).savebase.toNat (2 ^ 20) = false) : s1.headAt k = some h := by
  have hs1 := State.writeHead_eq hw
  have hctx : s1.ctx k = s.ctx k := by
    refine State.ctx_congr ?_ k
    rw [hs1]
    exact State.putSpans_ctxs ..
  have hheads : s1.heads = ((saveImage s.fresh).take (2 ^ 20), h) :: s.heads := by rw [hs1]
  have hspans : s1.getSpans [((s.ctx k).savebase.toNat, 2 ^ 20)] ((saveImage s.fresh).take (2 ^ 20)).length = (saveImage s.fresh).take (2 ^ 20) := by
    have hmem : s1.mem = (s.putSpans [((s.ctx k).savebase.toNat, 2 ^ 20)] ((saveImage s.fresh).take (2 ^ 20))).mem := by rw [hs1]
    rw [State.getSpans_congr hmem]
    have hone : spanLength [((s.ctx k).savebase.toNat, 2 ^ 20)] = 2 ^ 20 := by simp [spanLength]
    refine State.getSpans_putSpans s hinv _ (List.pairwise_singleton ..) _ ?_
    rw [List.length_take, hone]
    exact Nat.min_le_left ..
  unfold State.headAt State.readHead
  dsimp only
  rw [hctx, hclean, hheads, State.known_newest _ _ _ _ _ hspans]
  rfl

theorem State.writeSave_eq {units : List Nat} {v : Saved} (hw : s.writeSave k units v = some s1) :
    s1 = { s.putSpans (s.saveSpans k units) ((saveImage s.fresh).take (saveUnit * units.length)) with
      saves := ((saveImage s.fresh).take (saveUnit * units.length), v) :: s.saves, fresh := s.fresh + 1 } := by
  unfold State.writeSave at hw
  dsimp only at hw
  split at hw
  · exact absurd hw (by simp)
  · exact (Option.some.inj hw).symm

theorem State.saveSpans_apart (s : State) (k : Nat) {units : List Nat} (h : units.Nodup) : (s.saveSpans k units).Pairwise SpanApart := by
  unfold State.saveSpans
  rw [List.pairwise_map]
  refine h.imp (fun {a b} hne => ?_)
  unfold SpanApart State.unitBase saveUnit
  dsimp only
  omega

theorem State.spanLength_saveSpans (s : State) (k : Nat) (units : List Nat) : spanLength (s.saveSpans k units) = saveUnit * units.length := by
  have hconst : ((fun x => x.2) ∘ fun u => (s.unitBase k u, saveUnit) : Nat → Nat) = fun _ => saveUnit := rfl
  unfold spanLength State.saveSpans
  rw [List.map_map, hconst, List.map_const', List.sum_replicate, smul_eq_mul, Nat.mul_comm]

/-- R353: a task's state is read as it was written. -/
theorem State.readSave_writeSave (hinv : s.Inv) {units : List Nat} {v : Saved} (hunits : units.Nodup) (hw : s.writeSave k units v = some s1)
    (hclean : ∀ x ∈ s.saveSpans k units, s1.badIn x.1 x.2 = false) : s1.readSave k units = some v := by
  have hs1 := State.writeSave_eq hw
  have hctx : s1.ctx k = s.ctx k := by
    refine State.ctx_congr ?_ k
    rw [hs1]
    exact State.putSpans_ctxs ..
  have hplaces : s1.saveSpans k units = s.saveSpans k units := by
    unfold State.saveSpans State.unitBase
    rw [hctx]
  have hsaves : s1.saves = ((saveImage s.fresh).take (saveUnit * units.length), v) :: s.saves := by rw [hs1]
  have hspans : s1.getSpans (s.saveSpans k units) ((saveImage s.fresh).take (saveUnit * units.length)).length
      = (saveImage s.fresh).take (saveUnit * units.length) := by
    have hmem : s1.mem = (s.putSpans (s.saveSpans k units) ((saveImage s.fresh).take (saveUnit * units.length))).mem := by rw [hs1]
    rw [State.getSpans_congr hmem]
    refine State.getSpans_putSpans s hinv _ (s.saveSpans_apart k hunits) _ ?_
    rw [List.length_take, State.spanLength_saveSpans]
    exact Nat.min_le_left ..
  have hnone : (s1.saveSpans k units).any (fun x => s1.badIn x.1 x.2) = false := by
    rw [hplaces, List.any_eq_false]
    exact fun x hx => by rw [hclean x hx]; decide
  unfold State.readSave
  dsimp only
  rw [hnone, hsaves, hplaces, State.known_newest _ _ _ _ _ hspans]
  rfl
end

end Sys2Proof.Machine
end

section
/-! PROOFS. Contexts: QUIESCE and its end (R370). -/

namespace Sys2Proof.Machine

/-! Tables read after a change of every entry. -/

theorem Table.getD_mapAll {α : Type} (t : Table α) (f : Nat → α → α) (k : Nat) {d : α} (hd : f k d = d) :
    Table.getD (Table.mapAll t f) k d = f k (Table.getD t k d) := by
  unfold Table.getD
  rw [Table.get?_mapAll]
  cases Table.get? t k with
  | none => exact hd.symm
  | some v => rfl

theorem Table.mem_of_get? {α : Type} {t : Table α} {k : Nat} {v : α} (h : Table.get? t k = some v) : (k, v) ∈ t := by
  induction t with
  | nil => exact absurd h (by simp [Table.get?])
  | cons p t ih =>
    obtain ⟨j, w⟩ := p
    rw [Table.get?] at h
    split at h
    case isTrue hj =>
      rw [hj, Option.some.inj h]
      exact List.mem_cons_self
    case isFalse => exact List.mem_cons_of_mem _ (ih h)

/-! QUIESCE (R370). -/

section
variable {s : State} {k : Nat}

/-- R370, R374: QUIESCE pauses a queue of the context. -/
def Queue.quiesced (k : Nat) (q : Queue) : Queue := if q.ctx = k ∧ (q.st = .active ∨ q.st = .spilling) then { q with st := .paused } else q

/-- R370: QUIESCE pre-empts a running task of the context. -/
def Task.quiesced (k : Nat) (t : Task) : Task := if t.ctx = k ∧ t.st = .running ∧ t.final.isNone then { t with expire := true } else t

theorem exec_quiesce (hst : (s.ctx k).st = .active) : ∃ s', exec (.quiesce k) s = .next s'
    ∧ s'.ctx k = { s.ctx k with st := .quiescing, status := 0xFF } ∧ (∀ j, s'.queue j = (s.queue j).quiesced k)
    ∧ ∀ j t, s.task? j = some t → s'.task? j = some (t.quiesced k) := by
  refine ⟨_, if_neg (not_not.2 hst), State.ctx_setCtx s k _, fun j => ?_, fun j t ht => ?_⟩
  · exact Table.getD_mapAll s.queues (fun _ q => q.quiesced k) j (if_neg (fun h => by simp at h))
  · refine (Table.get?_mapAll s.tasks (fun _ t => t.quiesced k) j).trans ?_
    unfold State.task? at ht
    rw [ht]
    rfl

/-! The end of QUIESCE. -/

/-- R370: the context is QUIESCING, its tasks are at rest, and no refill of its queues is outstanding. -/
def State.Rests (s : State) (k : Nat) : Prop :=
  (s.ctx k).st = .quiescing ∧ (∀ x ∈ s.tasks, x.2.ctx = k → x.2.atRest = true) ∧ ∀ x ∈ s.queues, x.2.ctx = k → x.2.refill = false

theorem State.rests_iff : s.Rests k ↔
    ¬ ((s.ctx k).st ≠ .quiescing ∨ (!(s.tasks.filter (fun x => x.2.ctx == k)).all (fun x => x.2.atRest)) = true
      ∨ s.queues.any (fun x => x.2.ctx == k && x.2.refill) = true) := by
  have htasks : ((!(s.tasks.filter (fun x => x.2.ctx == k)).all (fun x => x.2.atRest)) = true) ↔ ¬ ∀ x ∈ s.tasks, x.2.ctx = k → x.2.atRest = true := by
    rw [Bool.not_eq_true', Bool.eq_false_iff, Ne, List.all_eq_true]
    simp only [List.mem_filter, beq_iff_eq, and_imp]
  have hqueues : (s.queues.any (fun x => x.2.ctx == k && x.2.refill) = true) ↔ ¬ ∀ x ∈ s.queues, x.2.ctx = k → x.2.refill = false := by
    rw [List.any_eq_true]
    push Not
    simp only [Bool.and_eq_true, beq_iff_eq, ne_eq, Bool.not_eq_false]
  unfold State.Rests
  rw [htasks, hqueues]
  tauto

theorem exec_quiesceComplete_waits (h : ¬ s.Rests k) : exec (.quiesceComplete k) s = .next s := by
  rw [State.rests_iff, not_not] at h
  exact if_pos h

theorem State.mem_headOf_queues {x : Nat × Queue} (hx : x ∈ s.queues) (hctx : x.2.ctx = k) (hst : x.2.st = .paused) :
    x.2.saved x.1 ∈ (s.headOf k).queues :=
  List.mem_map.2 ⟨x, List.mem_filter.2 ⟨hx, by rw [hctx, hst]; simp⟩, rfl⟩

theorem exec_quiesceComplete_fails (h : s.Rests k) (hw : s.writeHead k (s.headOf k) = none) :
    exec (.quiesceComplete k) s = .next (s.areaFault k [((s.ctx k).savebase.toNat, 2 ^ 20)]) := by
  show execQuiesceComplete k s = _
  unfold execQuiesceComplete
  dsimp only
  rw [if_neg (State.rests_iff.1 h), hw]

/-- R370: the state once the header has been written. -/
def State.quiesced (s s1 : State) (k : Nat) : State :=
  { s1 with
    tasks := s.tasks.filter (fun x => x.2.ctx != k)
    reserve := if (s.tasks.filter (fun x => x.2.ctx == k)).any (fun x => s.reserve == some x.1) then none else s.reserve }

theorem State.postEvent_of_live {s : State} {k : Nat} (hfree : (s.ctx k).st ≠ .free) (hfaulted : (s.ctx k).st ≠ .faulted) (owner : Option Nat)
    (r : List Word) : s.postEvent k owner r = s.setCtx k { s.ctx k with events := (s.ctx k).events ++ [(owner, r)] } :=
  if_neg (fun h => h.elim hfree hfaulted)

/-- R370, R364: the entries are released and CTX_QUIESCED is posted. -/
theorem exec_quiesceComplete_done {s1 : State} (h : s.Rests k) (hw : s.writeHead k (s.headOf k) = some s1) :
    ∃ s', exec (.quiesceComplete k) s = .next s' ∧ (s'.ctx k).st = .suspended
      ∧ (s'.ctx k).status = (if (s.ctx k).harvest = none ∧ (s.ctx k).resuming = false then 0 else 0xFF)
      ∧ s'.mem = s1.mem ∧ s'.heads = s1.heads ∧ s'.tasks = s.tasks.filter (fun x => x.2.ctx != k)
      ∧ (s'.ctx k).events = (s.ctx k).events ++ [(none, eventRecord 0x30 0 0 0 0 0 0 0 0 (s.cycleOf 0))] := by
  let c : Ctx := Ctx.settled { s.ctx k with st := .suspended, items := [], away := true }
  have hctx : (((s.quiesced s1 k).setCtx k c).ctx k) = c := State.ctx_setCtx ..
  have hexec : exec (.quiesceComplete k) s = .next (((s.quiesced s1 k).setCtx k c).postEvent k none (eventRecord 0x30 0 0 0 0 0 0 0 0 (s.cycleOf 0))) := by
    show execQuiesceComplete k s = _
    unfold execQuiesceComplete
    dsimp only
    rw [if_neg (State.rests_iff.1 h), hw]
    rfl
  have hst : c.st = .suspended := rfl
  rw [State.postEvent_of_live (by rw [hctx, hst]; decide) (by rw [hctx, hst]; decide), hctx] at hexec
  refine ⟨_, hexec, by rw [State.ctx_setCtx]; rfl, ?_, rfl, rfl, rfl, by rw [State.ctx_setCtx]; rfl⟩
  rw [State.ctx_setCtx]
  show (if Ctx.busy _ then (0xFF : Byte) else 0) = _
  unfold Ctx.busy
  cases (s.ctx k).harvest <;> cases (s.ctx k).resuming <;> rfl
end

end Sys2Proof.Machine
end

section
/-! PROOFS. Contexts: RESUME readmits the saved tasks (R371). -/

namespace Sys2Proof.Machine

/-! RESUME (R371). -/

/-- The new entry of the i-th saved one is the i-th free one. -/
theorem newEntry_zip {keys frees : List Nat} (hkeys : keys.Nodup) {i : Nat} (hi : i < keys.length) (hf : i < frees.length) :
    newEntry (keys.zip frees) keys[i] = frees[i] := by
  induction keys generalizing frees i with
  | nil => exact absurd hi (Nat.not_lt_zero _)
  | cons a keys ih =>
    cases frees with
    | nil => exact absurd hf (Nat.not_lt_zero _)
    | cons b frees =>
      obtain ⟨hfirst, hrest⟩ := List.nodup_cons.1 hkeys
      cases i with
      | zero => simp [newEntry]
      | succ i =>
        have hne : a ≠ keys[i]'(by simpa using hi) := fun h => hfirst (h ▸ List.getElem_mem _)
        have htail : newEntry ((a :: keys).zip (b :: frees)) (keys[i]'(by simpa using hi)) = newEntry (keys.zip frees) (keys[i]'(by simpa using hi)) := by
          unfold newEntry
          rw [List.zip_cons_cons, List.find?_cons_of_neg (by simpa using hne)]
        exact htail.trans (ih hrest (by simpa using hi) (by simpa using hf))

/-- A table filled under distinct keys holds each value put. -/
theorem Table.get?_foldl_put_mem {α β : Type} (key : β → Nat) (val : β → α) {l : List β} (hl : (l.map key).Nodup) {x : β} (hx : x ∈ l) (t : Table α) :
    Table.get? (l.foldl (fun t y => Table.put t (key y) (val y)) t) (key x) = some (val x) := by
  induction l generalizing t with
  | nil => exact absurd hx List.not_mem_nil
  | cons y l ih =>
    rw [List.map_cons, List.nodup_cons] at hl
    obtain ⟨hfirst, hrest⟩ := hl
    rw [List.foldl_cons]
    obtain rfl | hx := List.mem_cons.1 hx
    · have hkeep : ∀ (l : List β) (t : Table α), key x ∉ l.map key →
          Table.get? (l.foldl (fun t y => Table.put t (key y) (val y)) t) (key x) = Table.get? t (key x) := by
        intro l
        induction l with
        | nil => exact fun t _ => rfl
        | cons z l ih =>
          intro t hnot
          rw [List.map_cons, List.mem_cons, not_or] at hnot
          rw [List.foldl_cons, ih _ hnot.2, Table.get?_put_other _ _ _ _ hnot.1]
      rw [hkeep l _ hfirst, Table.get?_put_same]
    · exact ih hrest hx _

theorem Table.sorted_keys {α : Type} {t : Table α} (h : Table.sorted t = true) : (t.map (fun x => x.1)).Pairwise (· < ·) := by
  induction t with
  | nil => exact List.Pairwise.nil
  | cons p t ih =>
    cases t with
    | nil => exact List.pairwise_singleton ..
    | cons q t =>
      obtain ⟨j, v⟩ := p
      obtain ⟨k, w⟩ := q
      rw [Table.sorted, Bool.and_eq_true, decide_eq_true_iff] at h
      have hrest := ih h.2
      refine List.pairwise_cons.2 ⟨fun a ha => ?_, hrest⟩
      obtain rfl | ha := List.mem_cons.1 ha
      · exact h.1
      · exact h.1.trans ((List.pairwise_cons.1 hrest).1 a ha)

section
variable {s : State} {k : Nat}

/-- R371: the table with the saved entries re-admitted. -/
def State.readmitted (s : State) (k : Nat) (saved : Table Task) : Table Task :=
  saved.zipIdx.foldl (fun t (x : (Nat × Task) × Nat) =>
    Table.put t (newEntry (s.readmitAt saved) x.1.1)
      (x.1.2.readmit (s.readmitAt saved) k (newEntry (s.readmitAt saved) x.1.1) s.round (s.fresh + x.2))) s.tasks

theorem State.mem_freeEntries {s : State} {n : Nat} (h : n ∈ (List.range 8192).filter (fun k => (s.task? k).isNone)) : s.task? n = none := by
  simpa using (List.mem_filter.1 h).2

/-- R371: each saved entry stands in an entry that was free. -/
theorem State.readmitted_get? {saved : Table Task} (hroom : (s.readmitAt saved).length = saved.length) (hsorted : Table.sorted saved = true)
    {x : Nat × Task} (hx : x ∈ saved) : ∃ n i, s.task? n = none
      ∧ Table.get? (s.readmitted k saved) n = some (x.2.readmit (s.readmitAt saved) k n s.round (s.fresh + i)) := by
  generalize hfrees : (List.range 8192).filter (fun k => (s.task? k).isNone) = frees
  have hm : s.readmitAt saved = (saved.map (fun x => x.1)).zip frees := by rw [← hfrees]; rfl
  have hlen : saved.length ≤ frees.length := by
    rw [hm, List.length_zip, List.length_map] at hroom
    omega
  have hkeys : (saved.map (fun x => x.1)).Nodup := (Table.sorted_keys hsorted).imp (fun h => Nat.ne_of_lt h)
  have hnew : ∀ i, (hi : i < saved.length) → newEntry (s.readmitAt saved) saved[i].1 = frees[i]'(by omega) := by
    intro i hi
    rw [hm]
    have hz := newEntry_zip (frees := frees) hkeys (i := i) (by simpa using hi) (by omega)
    rwa [List.getElem_map] at hz
  have htargets : saved.zipIdx.map (fun y => newEntry (s.readmitAt saved) y.1.1) = frees.take saved.length := by
    refine List.ext_getElem (by simp [hlen]) (fun i hi _ => ?_)
    have hi' : i < saved.length := by simpa using hi
    rw [List.getElem_map, List.getElem_zipIdx, List.getElem_take]
    exact hnew i hi'
  have hdistinct : (frees.take saved.length).Nodup := by
    rw [← hfrees]
    exact ((List.nodup_range).filter _).sublist (List.take_sublist ..)
  obtain ⟨i, hi, rfl⟩ := List.getElem_of_mem hx
  have hmem : (saved[i], i) ∈ saved.zipIdx := by
    rw [List.mem_zipIdx_iff_getElem?]
    exact List.getElem?_eq_getElem hi
  refine ⟨newEntry (s.readmitAt saved) saved[i].1, i, ?_, ?_⟩
  · rw [hnew i hi]
    refine State.mem_freeEntries ?_
    rw [hfrees]
    exact List.getElem_mem _
  · exact Table.get?_foldl_put_mem (fun y => newEntry (s.readmitAt saved) y.1.1)
      (fun y => y.1.2.readmit (s.readmitAt saved) k (newEntry (s.readmitAt saved) y.1.1) s.round (s.fresh + y.2))
      (by rw [htargets]; exact hdistinct) hmem s.tasks
end

/-- R348: what the check of shapes leaves of an entry. -/
theorem State.shapeCheck_task? (s : State) {n : Nat} {t : Task} (h : s.task? n = some t) :
    ∃ e, s.shapeCheck.task? n = some { t with ending := e } := by
  unfold State.task? at h
  unfold State.shapeCheck State.task?
  dsimp only
  rw [Table.get?_mapAll, h, Option.map_some]
  split
  · exact ⟨_, rfl⟩
  · exact ⟨t.ending, rfl⟩

section
variable {s : State} {k : Nat}

/-- R371: a queue of the context resumes. -/
def Queue.resumed (k : Nat) (q : Queue) : Queue := if q.ctx = k ∧ q.st = .paused then q.reopened.settle else q

theorem exec_resume_unread (hst : (s.ctx k).st = .suspended) (hhead : s.headAt k = none) :
    exec (.resume k) s = .next (s.setCtx k { s.ctx k with status := 2, resuming := false }) := by
  show execResume k s = _
  unfold execResume
  dsimp only
  rw [if_neg (not_not.2 hst), hhead]

variable {h : Head}

theorem exec_resume_waits (hst : (s.ctx k).st = .suspended) (hhead : s.headAt k = some h) (hfull : (s.readmitAt h.entries).length < h.entries.length) :
    exec (.resume k) s = .next (s.setCtx k { s.ctx k with status := 0xFF, resuming := true }) := by
  show execResume k s = _
  unfold execResume
  dsimp only
  rw [if_neg (not_not.2 hst), hhead]
  exact if_pos hfull

theorem exec_resume_goes (hst : (s.ctx k).st = .suspended) (hhead : s.headAt k = some h) (hroom : (s.readmitAt h.entries).length = h.entries.length) :
    ∃ s', exec (.resume k) s = .next s'
      ∧ (s'.ctx k).st = .active ∧ (s'.ctx k).status = (if (s.ctx k).harvest = none then 0 else 0xFF) ∧ (s'.ctx k).resuming = false
      ∧ (∀ j, s'.queue j = (s.queue j).resumed k)
      ∧ (Table.sorted h.entries = true → ∀ x ∈ h.entries, ∃ n t, s.task? n = none ∧ s'.task? n = some t ∧ t.st = x.2.st
          ∧ t.taskid = x.2.taskid ∧ t.record = x.2.record ∧ t.ctx = k ∧ t.rank = s.round ∧ t.age = 0) := by
  let c : Ctx := Ctx.settled { s.ctx k with st := .active, resuming := false, away := false }
  have hexec : exec (.resume k) s = .next (State.shapeCheck { s.setCtx k c with
      fresh := s.fresh + h.entries.length
      tasks := s.readmitted k h.entries
      queues := Table.mapAll s.queues (fun _ q => q.resumed k) }) := by
    show execResume k s = _
    unfold execResume
    dsimp only
    rw [if_neg (not_not.2 hst), hhead]
    exact if_neg (by omega)
  refine ⟨_, hexec, ?_, ?_, ?_, fun j => ?_, fun hsorted x hx => ?_⟩
  · exact congrArg Ctx.st (State.ctx_setCtx s k c)
  · refine (congrArg Ctx.status (State.ctx_setCtx s k c)).trans ?_
    show (if Ctx.busy _ then (0xFF : Byte) else 0) = _
    unfold Ctx.busy
    cases (s.ctx k).harvest <;> rfl
  · exact congrArg Ctx.resuming (State.ctx_setCtx s k c)
  · exact Table.getD_mapAll s.queues (fun _ q => q.resumed k) j (if_neg (fun h => by simp at h))
  · obtain ⟨n, i, hfree, hput⟩ := State.readmitted_get? (k := k) hroom hsorted hx
    obtain ⟨e, he⟩ := State.shapeCheck_task? { s.setCtx k c with
      fresh := s.fresh + h.entries.length
      tasks := s.readmitted k h.entries
      queues := Table.mapAll s.queues (fun _ q => q.resumed k) } hput
    exact ⟨n, _, hfree, he, rfl, rfl, rfl, rfl, rfl, rfl⟩
end

end Sys2Proof.Machine
end

section
/-! PROOFS. Contexts: DESTROY and its end (R372). -/

namespace Sys2Proof.Machine

/-! What corrections, marks and writes of barrier objects leave alone. -/

/-- The state without memory, its marks and counters, the regions and the device fault log. -/
def State.controls (s : State) : State := { s with mem := [], poison := [], flaws := [], banks := [], regions := [], dfl := {} }

section
variable (s : State)

theorem State.dflLog_controls (r : DflRec) : (s.dflLog r).controls = s.controls := by
  obtain ⟨d, h⟩ := s.dflLog_eq r
  rw [h]
  rfl

theorem State.markBad_controls (n : Nat) : (s.markBad n).controls = s.controls := by
  obtain ⟨reg, r, h⟩ | ⟨p, h⟩ := s.markBad_eq_or n
  · rw [h]; rfl
  · rw [h]; rfl

theorem State.bankFails_controls (key f : Nat) : (s.bankFails key f).controls = s.controls :=
  foldl_unchanged State.controls (fun s (x : Flaw) => State.markBad_controls s x.group) _ _

theorem State.correct_controls (group bank : Nat) : (s.correct group bank).controls = s.controls := by
  by_cases hmany : 16 ≤ ((s.bank (groupOf group).key).hit bank group).count bank
  · obtain ⟨r, hr⟩ := State.correct_of_many hmany
    rw [hr, State.dflLog_controls, State.bankFails_controls]
    rfl
  · rw [State.correct_of_few (Nat.not_le.1 hmany)]
    rfl

theorem State.noteGroup_controls (group : Nat) : (s.noteGroup group).controls = s.controls := by
  unfold State.noteGroup
  split
  · split
    · rfl
    · rfl
  · split
    · exact State.correct_controls ..
    · rfl

theorem State.noteBytes_controls (pa n : Nat) : (s.noteBytes pa n).controls = s.controls := by
  unfold State.noteBytes State.noteRead
  split
  · rfl
  · split
    · rfl
    · exact foldl_unchanged State.controls State.noteGroup_controls _ _

theorem State.forgetSaved_controls (ctx : Nat) (w : Waiter) : (s.forgetSaved ctx w).controls = s.controls := by
  unfold State.forgetSaved
  dsimp only
  split
  · exact State.dflLog_controls ..
  · split
    · exact State.dflLog_controls ..
    · split
      · exact State.noteBytes_controls ..
      · refine Eq.trans ?_ (State.noteBytes_controls s ((s.lookup ctx w.va).getD w.pa) 16)
        generalize s.noteBytes _ 16 = x
        rfl
end

/-! DESTROY (R372). -/

section
variable {s : State} {k : Nat}

/-- R374: the queues of the context are disabled. -/
def State.disableQueues (s : State) (l : List Nat) : State := l.foldl (fun s j => s.setQueue j (s.queue j).disable) s

/-- R372: the tasks of the context end. -/
def State.abortTasks (s : State) (l : Table Task) : State := l.foldl (fun s x => s.abortTask x.1) s

/-- R389: the saved waiters of a saved task leave their barriers. -/
def State.forgetTask (s : State) (k : Nat) (t : Task) : State := ((t.save.map (fun v => v.waiters)).getD []).foldl (fun s w => s.forgetSaved k w) s

/-- R389: so do those of every saved task. -/
def State.forgetAll (s : State) (k : Nat) (saved : Table Task) : State := saved.foldl (fun s x => s.forgetTask k x.2) s

/-- The tasks that stand in the save area. -/
def State.savedTasks (s : State) (k : Nat) : Table Task := if (s.ctx k).away then ((s.headAt k).map Head.entries).getD [] else []

theorem State.forgetAll_controls (s : State) (k : Nat) (saved : Table Task) : (s.forgetAll k saved).controls = s.controls :=
  foldl_unchanged State.controls (f := fun s (x : Nat × Task) => s.forgetTask k x.2)
    (fun s _ => foldl_unchanged State.controls (f := fun s w => s.forgetSaved k w) (fun s w => State.forgetSaved_controls s k w) _ s) saved s

theorem Queue.disable_disable (q : Queue) : q.disable.disable = q.disable := rfl

theorem State.disableQueues_queue (s : State) (l : List Nat) (j : Nat) :
    (s.disableQueues l).queue j = if j ∈ l then (s.queue j).disable else s.queue j := by
  induction l generalizing s with
  | nil => rfl
  | cons a l ih =>
    have hstep : s.disableQueues (a :: l) = (s.setQueue a (s.queue a).disable).disableQueues l := rfl
    rw [hstep, ih]
    by_cases ha : j = a
    · subst ha
      rw [State.queue_setQueue, if_pos List.mem_cons_self, Queue.disable_disable, ite_self]
    · rw [State.queue_setQueue_ne _ _ _ _ ha]
      simp [ha]

/-- A queue of the context stands in the list of its queues, or was never configured. -/
theorem State.disableQueues_of_ctx {j : Nat} (h : (s.queue j).ctx = k) : (s.disableQueues (s.queuesOf k)).queue j = (s.queue j).disable := by
  rw [State.disableQueues_queue]
  split
  case isTrue => rfl
  case isFalse hnot =>
    cases hget : Table.get? s.queues j with
    | none =>
      have hempty : s.queue j = {} := by
        unfold State.queue Table.getD
        rw [hget]
        rfl
      rw [hempty]
      rfl
    | some q =>
      have hq : s.queue j = q := by
        unfold State.queue Table.getD
        rw [hget]
        rfl
      rw [hq] at h
      exact absurd (List.mem_map.2 ⟨(j, q), List.mem_filter.2 ⟨Table.mem_of_get? hget, by simp [h]⟩, rfl⟩) hnot

theorem State.abortTasks_task? (s : State) (l : Table Task) (j : Nat) {t : Task} (h : s.task? j = some t) :
    (s.abortTasks l).task? j = some (if j ∈ l.map (fun x => x.1) then { t with abort := true } else t) := by
  induction l generalizing s t with
  | nil => exact h
  | cons a l ih =>
    have hstep : s.abortTasks (a :: l) = (s.abortTask a.1).abortTasks l := rfl
    rw [hstep]
    by_cases ha : j = a.1
    · subst ha
      have habort : (s.abortTask a.1).task? a.1 = some { t with abort := true } := by
        unfold State.abortTask State.modTask
        rw [h]
        exact State.task_setTask ..
      rw [ih _ habort]
      simp
    · have hkeep : (s.abortTask a.1).task? j = some t := by
        unfold State.abortTask State.modTask
        split
        · rw [State.task_setTask_ne _ _ _ _ ha, h]
        · exact h
      rw [ih _ hkeep, List.map_cons]
      simp only [List.mem_cons, ha, false_or]

/-- The state apart from its tasks, which aborting leaves alone. -/
theorem State.abortTasks_others (s : State) (l : Table Task) : ∃ t, s.abortTasks l = { s with tasks := t } := by
  induction l generalizing s with
  | nil => exact ⟨s.tasks, rfl⟩
  | cons a l ih =>
    have hone : ∃ t, s.abortTask a.1 = { s with tasks := t } := by
      unfold State.abortTask State.modTask
      split
      · exact ⟨_, rfl⟩
      · exact ⟨s.tasks, rfl⟩
    obtain ⟨t, ht⟩ := hone
    obtain ⟨t', ht'⟩ := ih { s with tasks := t }
    exact ⟨t', by rw [← ht']; unfold State.abortTasks; rw [List.foldl_cons, ht]⟩

theorem State.disableQueues_others (s : State) (l : List Nat) : ∃ q, s.disableQueues l = { s with queues := q } := by
  induction l generalizing s with
  | nil => exact ⟨s.queues, rfl⟩
  | cons a l ih =>
    obtain ⟨q, hq⟩ := ih (s.setQueue a (s.queue a).disable)
    exact ⟨q, hq⟩

theorem State.mem_dropTlb {p : TlbEntry → Bool} {tile : Nat} {e : TlbEntry} (h : e ∈ (s.dropTlb p).tlb tile) : p e = false := by
  have hread : (s.dropTlb p).tlb tile = (s.tlb tile).filter (fun e => !p e) := by
    unfold State.dropTlb State.tlb
    exact Table.getD_mapAll s.tlbs (fun _ t => t.filter (fun e => !p e)) tile rfl
  rw [hread] at h
  simpa using (List.mem_filter.1 h).2

/-- R372: what DESTROY has done to the queues, the tasks, the saved waiters and the caches. -/
def State.destroying (s : State) (k : Nat) : State :=
  (((s.disableQueues (s.queuesOf k)).abortTasks (s.tasks.filter (fun x => x.2.ctx == k))).forgetAll k (s.savedTasks k)).dropTlb
    (fun e => e.ctx == k)

theorem State.destroying_ctxs (s : State) (k : Nat) : (s.destroying k).ctxs = s.ctxs := by
  obtain ⟨q, hq⟩ := s.disableQueues_others (s.queuesOf k)
  obtain ⟨t, ht⟩ := (s.disableQueues (s.queuesOf k)).abortTasks_others (s.tasks.filter (fun x => x.2.ctx == k))
  refine (congrArg State.ctxs (State.forgetAll_controls _ k (s.savedTasks k))).trans ?_
  rw [ht, hq]
  rfl

theorem exec_destroy (hst : (s.ctx k).st ≠ .free) : exec (.destroy k) s = .next ((s.destroying k).setCtx k { (s.destroying k).ctx k with
    st := .destroying, status := 0xFF, harvest := none, resuming := false, away := false, making := false
    events := ((s.destroying k).ctx k).events ++ (s.savedTasks k).map (fun x => (none, s.savedAbort x.2)) }) := by
  show execDestroy k s = _
  unfold execDestroy
  dsimp only
  rw [if_neg hst]
  rfl

/-- R372, R374: DESTROY disables the queues, ends the tasks, posts an event for each saved task and empties the caches. -/
theorem exec_destroy_does (hst : (s.ctx k).st ≠ .free) : ∃ s', exec (.destroy k) s = .next s' ∧ (s'.ctx k).st = .destroying ∧ (s'.ctx k).status = 0xFF
    ∧ (∀ j, (s.queue j).ctx = k → s'.queue j = (s.queue j).disable)
    ∧ (∀ j t, s.task? j = some t → t.ctx = k → s'.task? j = some { t with abort := true })
    ∧ (s'.ctx k).events = (s.ctx k).events ++ (s.savedTasks k).map (fun x => (none, s.savedAbort x.2))
    ∧ (∀ tile, ∀ e ∈ s'.tlb tile, e.ctx ≠ k) := by
  obtain ⟨q, hq⟩ := s.disableQueues_others (s.queuesOf k)
  obtain ⟨t, ht⟩ := (s.disableQueues (s.queuesOf k)).abortTasks_others (s.tasks.filter (fun x => x.2.ctx == k))
  have hforget := State.forgetAll_controls
    ((s.disableQueues (s.queuesOf k)).abortTasks (s.tasks.filter (fun x => x.2.ctx == k))) k (s.savedTasks k)
  refine ⟨_, exec_destroy hst, by rw [State.ctx_setCtx], by rw [State.ctx_setCtx], fun j hj => ?_, fun j x hx hctx => ?_, ?_, fun tile e he => ?_⟩
  · have hqueues : (s.destroying k).queues = (s.disableQueues (s.queuesOf k)).queues :=
      (congrArg State.queues hforget).trans (by rw [ht]; rfl)
    rw [← State.disableQueues_of_ctx hj]
    exact congrArg (fun t => Table.getD t j ({} : Queue)) hqueues
  · have htasks : (s.destroying k).tasks = (State.abortTasks (s.disableQueues (s.queuesOf k))
        (s.tasks.filter (fun x => x.2.ctx == k))).tasks := (congrArg State.tasks hforget).trans rfl
    have hbefore : (s.disableQueues (s.queuesOf k)).task? j = some x := by rw [hq]; exact hx
    have habort := State.abortTasks_task? _ (s.tasks.filter (fun x => x.2.ctx == k)) j hbefore
    rw [if_pos (List.mem_map.2 ⟨(j, x), List.mem_filter.2 ⟨Table.mem_of_get? hx, by simp [hctx]⟩, rfl⟩)] at habort
    exact (congrArg (fun t => Table.get? t j) htasks).trans habort
  · rw [State.ctx_setCtx, State.ctx_congr (s.destroying_ctxs k)]
  · simpa using State.mem_dropTlb he

/-! DESTROY's end. -/

/-- R372: nothing of the context is left. -/
def State.Emptied (s : State) (k : Nat) : Prop :=
  (s.ctx k).st = .destroying ∧ (∀ x ∈ s.tasks, x.2.ctx ≠ k) ∧ (s.ctx k).events = [] ∧ ∀ a ∈ s.accs, a.ctx = k → a.performed 3 = true

theorem State.emptied_iff : s.Emptied k ↔ ¬ ((s.ctx k).st ≠ .destroying ∨ s.tasks.any (fun x => x.2.ctx == k) = true ∨ (!(s.ctx k).events.isEmpty) = true
    ∨ s.accs.any (fun a => a.ctx == k && !a.performed 3) = true) := by
  unfold State.Emptied
  rw [not_or, not_or, not_or, not_not]
  refine and_congr Iff.rfl (and_congr ?_ (and_congr ?_ ?_))
  · simp [List.any_eq_true]
  · simp
  · simp [List.any_eq_true]

theorem exec_destroyComplete_waits (h : ¬ s.Emptied k) : exec (.destroyComplete k) s = .next s := by
  rw [State.emptied_iff, not_not] at h
  exact if_pos h

theorem exec_destroyComplete_done (h : s.Emptied k) : ∃ s', exec (.destroyComplete k) s = .next s'
    ∧ s'.ctx k = { s.ctx k with st := .free, status := 0, items := [], faults := [] }
    ∧ (∀ w ∈ s'.pwalks, w.ctx ≠ k) ∧ (∀ tile, ∀ e ∈ s'.tlb tile, e.ctx ≠ k) ∧ s'.mem = s.mem := by
  refine ⟨_, if_neg (State.emptied_iff.1 h), State.ctx_setCtx .., fun w hw => ?_, fun tile e he => ?_, rfl⟩
  · simpa using (List.mem_filter.1 hw).2
  · simpa using State.mem_dropTlb he
end

end Sys2Proof.Machine
end

section
/-! PROOFS. Contexts: RESOLVE of a parked item (R367). -/

namespace Sys2Proof.Machine

/-! RESOLVE (R367). -/

section
variable {s : State} {k h : Nat}

/-- R367: the record is resolved and the command is done. -/
def State.resolved (s : State) (k h : Nat) : State := (s.dropItem k h).ctxDone k

theorem State.resolved_items (s : State) (k h : Nat) : ((s.resolved k h).ctx k).items = Table.erase (s.ctx k).items h := by
  unfold State.resolved State.ctxDone
  rw [State.ctx_setCtx]
  show ((s.dropItem k h).ctx k).items = _
  unfold State.dropItem
  rw [State.ctx_setCtx]

theorem State.resolved_discards (s : State) (k h : Nat) : ((s.resolved k h).ctx k).discards = (s.ctx k).discards := by
  unfold State.resolved State.ctxDone
  rw [State.ctx_setCtx]
  show ((s.dropItem k h).ctx k).discards = _
  unfold State.dropItem
  rw [State.ctx_setCtx]

/-- The handle names no record any more. -/
def State.Gone (s : State) (k h : Nat) : Prop := Table.get? (s.ctx k).items h = none

theorem State.resolved_gone (s : State) (k h : Nat) : (s.resolved k h).Gone k h := by
  unfold State.Gone
  rw [State.resolved_items, Table.get?_erase]

theorem State.modTask_ctxs (s : State) (n : Nat) (f : Task → Task) : (s.modTask n f).ctxs = s.ctxs := by
  unfold State.modTask
  split <;> rfl

theorem State.modTask_task? (s : State) {n : Nat} (f : Task → Task) {t : Task} (ht : s.task? n = some t) : (s.modTask n f).task? n = some (f t) := by
  unfold State.modTask
  rw [ht]
  exact State.task_setTask ..

theorem State.modTask_accs (s : State) (n : Nat) (f : Task → Task) : (s.modTask n f).accs = s.accs := by
  unfold State.modTask
  split <;> rfl

theorem State.modTask_elems (s : State) (n : Nat) (f : Task → Task) : (s.modTask n f).elems = s.elems := by
  unfold State.modTask
  split <;> rfl

theorem State.Gone.congr {x : State} (hgone : s.Gone k h) (hctxs : x.ctxs = s.ctxs) : x.Gone k h := by
  unfold State.Gone
  rwa [State.ctx_congr hctxs]

/-- R367: a walk or an operation that is replayed counts for its task. -/
def Task.replays (t : Task) : Task := { t with replayed := true }

theorem exec_resolveReplay_posted {n : Nat} {a : Access} (hitem : s.item? k h = some (.posted n)) (hacc : s.acc? n = some a) :
    ∃ s', exec (.resolveReplay k h) s = .next s' ∧ s'.Gone k h
      ∧ s'.accs = s.accs.map (fun x => if x.src = a.src then { x with st := .point } else x)
      ∧ ∀ t, s.task? a.task = some t → s'.task? a.task = some { t with replayed := true } := by
  have hfound : (s.resolved k h).acc? n = some a := hacc
  have hexec : exec (.resolveReplay k h) s = .next (((s.resolved k h).setOp a.src .point).modTask a.task Task.replays) := by
    show execResolveReplay k h s = _
    unfold execResolveReplay
    rw [hitem]
    unfold State.resolved at hfound
    dsimp only
    rw [hfound]
    rfl
  refine ⟨_, hexec, (s.resolved_gone k h).congr (State.modTask_ctxs ..), State.modTask_accs .., fun t ht => ?_⟩
  exact State.modTask_task? _ _ ht

theorem State.dropOp_accs (s : State) (src : Port) : (s.dropOp src).accs = s.accs.map (fun x => if x.src = src then { x with st := .dropped } else x) := by
  cases src <;> rfl

theorem State.dropOp_tasks (s : State) (src : Port) : (s.dropOp src).tasks = s.tasks := by
  cases src <;> rfl

theorem State.dropOp_elem (s : State) (el id : Nat) : ((s.dropOp (.elem el id)).elem el).dropped = true :=
  congrArg Elem.dropped (State.elem_setElem ..)

/-- R357: the code for which an operation stands parked. -/
def Access.parkCode (a : Access) : Byte :=
  match a.st with
  | .parked code _ => code
  | _ => 0

theorem exec_resolveDiscard_posted {n : Nat} {a : Access} (hitem : s.item? k h = some (.posted n)) (hacc : s.acc? n = some a) :
    ∃ s', exec (.resolveDiscard k h) s = .next s' ∧ s'.Gone k h ∧ (s'.ctx k).discards = satAdd (s.ctx k).discards 1
      ∧ s'.accs = s.accs.map (fun x => if x.src = a.src then { x with st := .dropped } else x)
      ∧ (∀ el id, a.src = .elem el id → (s'.elem el).dropped = true)
      ∧ ∀ t code g, s.task? a.task = some t → a.st = .parked code g → s'.task? a.task = some { t with dropped := some (t.dropped.getD code) } := by
  have hfound : (s.resolved k h).acc? n = some a := hacc
  let y : State := ((s.resolved k h).dropOp a.src).setCtx k
    { (s.resolved k h).ctx k with discards := satAdd ((s.resolved k h).ctx k).discards 1 }
  have hexec : exec (.resolveDiscard k h) s = .next (y.modTask a.task (fun t => { t with dropped := t.dropped.or (some a.parkCode) })) := by
    show execResolveDiscard k h s = _
    unfold execResolveDiscard
    rw [hitem]
    unfold State.resolved at hfound
    dsimp only
    rw [hfound]
    rfl
  have hctx : y.ctx k = { (s.resolved k h).ctx k with discards := satAdd ((s.resolved k h).ctx k).discards 1 } := State.ctx_setCtx ..
  refine ⟨_, hexec, ?_, ?_, ?_, fun el id hsrc => ?_, fun t code g ht hst => ?_⟩
  · unfold State.Gone
    rw [State.ctx_congr (State.modTask_ctxs ..), hctx]
    exact s.resolved_gone k h
  · rw [State.ctx_congr (State.modTask_ctxs ..), hctx]
    exact congrArg (fun d => satAdd d 1) (s.resolved_discards k h)
  · rw [State.modTask_accs]
    exact State.dropOp_accs (s.resolved k h) a.src
  · have helem : (y.modTask a.task (fun t => { t with dropped := t.dropped.or (some a.parkCode) })).elem el = ((s.resolved k h).dropOp a.src).elem el := by
      unfold State.elem
      rw [State.modTask_elems]
      rfl
    rw [helem, hsrc]
    exact State.dropOp_elem ..
  · have hy : y.task? a.task = some t := by
      refine Eq.trans ?_ ht
      exact congrArg (fun l => Table.get? l a.task) (State.dropOp_tasks (s.resolved k h) a.src)
    have hcode : a.parkCode = code := by
      unfold Access.parkCode
      rw [hst]
    rw [State.modTask_task? _ _ hy, hcode]
    cases t.dropped <;> rfl

theorem exec_resolveDiscard_copy {tile n : Nat} (hitem : s.item? k h = some (.copy tile n)) : exec (.resolveDiscard k h) s = .next (s.ctxReject k) := by
  show execResolveDiscard k h s = _
  unfold execResolveDiscard
  rw [hitem]

theorem exec_resolveReplay_copy {tile n : Nat} (hitem : s.item? k h = some (.copy tile n)) : ∃ s', exec (.resolveReplay k h) s = .next s' ∧ s'.Gone k h
    ∧ (s'.copyEng tile).flights = (s.copyEng tile).flights.map (fun f => if f.id = n then { f with paused := none } else f) := by
  have hexec : exec (.resolveReplay k h) s = .next ((s.resolved k h).resumeCopy tile n) := by
    show execResolveReplay k h s = _
    unfold execResolveReplay
    rw [hitem]
    rfl
  refine ⟨_, hexec, (s.resolved_gone k h).congr rfl, ?_⟩
  exact congrArg CopyEng.flights (State.copyEng_setCopy ..)

/-! A walk's record (R315). -/

theorem State.replayWalk_frame (s : State) (tile j : Nat) : (s.replayWalk tile j).ctxs = s.ctxs ∧ (s.replayWalk tile j).tasks = s.tasks := by
  unfold State.replayWalk
  dsimp only
  split
  · exact ⟨rfl, rfl⟩
  · exact ⟨rfl, rfl⟩

theorem exec_resolveReplay_walk {tile j : Nat} (hitem : s.item? k h = some (.walk tile j)) : ∃ s', exec (.resolveReplay k h) s = .next s' ∧ s'.Gone k h
    ∧ ∀ t, s.task? ((s.loupe tile).slot j).task = some t → s'.task? ((s.loupe tile).slot j).task = some { t with replayed := true } := by
  have hexec : exec (.resolveReplay k h) s = .next (((s.resolved k h).replayWalk tile j).modTask ((s.loupe tile).slot j).task Task.replays) := by
    show execResolveReplay k h s = _
    unfold execResolveReplay
    rw [hitem]
    rfl
  obtain ⟨hctxs, htasks⟩ := (s.resolved k h).replayWalk_frame tile j
  refine ⟨_, hexec, (s.resolved_gone k h).congr ((State.modTask_ctxs ..).trans hctxs), fun t ht => State.modTask_task? _ _ ?_⟩
  exact (congrArg (fun l => Table.get? l _) htasks).trans ht

theorem exec_resolveDiscard_walk {tile j : Nat} (hitem : s.item? k h = some (.walk tile j)) {code : Byte} {va g : Nat}
    (hpark : ((s.loupe tile).slot j).park = some (code, va, g)) : ∃ s', exec (.resolveDiscard k h) s = .next s' ∧ s'.Gone k h
    ∧ ((s'.loupe tile).slot j).st = .returning ∧ ((s'.loupe tile).slot j).ret = resultToks 3 code ((s.loupe tile).slot j).step [] := by
  have hexec : exec (.resolveDiscard k h) s = .next ((s.resolved k h).endWalk tile j 3 code []) := by
    show execResolveDiscard k h s = _
    unfold execResolveDiscard
    rw [hitem]
    dsimp only
    rw [hpark]
    rfl
  have hslot : ∀ x : WSlot, (((s.resolved k h).setSlot tile j x).loupe tile).slot j = x := by
    intro x
    unfold State.setSlot
    rw [State.loupe_setLoupe]
    unfold Loupe.slot
    exact Vector.getElem_set_self _
  refine ⟨_, hexec, (s.resolved_gone k h).congr rfl, ?_, ?_⟩
  · unfold State.endWalk
    rw [hslot]
  · unfold State.endWalk
    rw [hslot]
    rfl
end

end Sys2Proof.Machine
end

section
/-! PROOFS. Contexts: HARVEST (R369). -/

namespace Sys2Proof.Machine

/-! HARVEST (R369). -/

section
variable {s : State} {k : Nat}

/-- A state that lets a context's dirty log be harvested. -/
def Ctx.mayHarvest (c : Ctx) : Prop := c.st = .active ∨ c.st = .quiescing ∨ c.st = .suspended

theorem Ctx.mayHarvest_iff (c : Ctx) : c.mayHarvest ↔ ¬ (c.st ≠ .active ∧ c.st ≠ .quiescing ∧ c.st ≠ .suspended) := by
  unfold Ctx.mayHarvest
  tauto

theorem exec_harvest_rejects (h : ¬ (s.ctx k).mayHarvest) : exec (.harvest k) s = .next (s.ctxReject k) := by
  rw [Ctx.mayHarvest_iff, not_not] at h
  exact if_pos h

section
variable (hmay : (s.ctx k).mayHarvest)
include hmay

theorem exec_harvest_over (hover : ((s.ctx k).harvest.getD ((s.ctx k).dlpages.toNat / 64, [])).1 = 0) :
    ∃ l, exec (.harvest k) s = .next (s.setCtx k { s.ctx k with status := 0xFF, harvest := some (0, l) }) := by
  refine ⟨((s.ctx k).harvest.getD ((s.ctx k).dlpages.toNat / 64, [])).2, ?_⟩
  show execHarvest k s = _
  unfold execHarvest
  dsimp only
  rw [if_neg ((Ctx.mayHarvest_iff _).1 hmay)]
  split
  case h_1 l hl => rw [hl]
  case h_2 n l hl =>
    rw [hl] at hover
    exact absurd hover (Nat.succ_ne_zero n)

variable {n : Nat} {l : List Nat} (hleft : (s.ctx k).harvest.getD ((s.ctx k).dlpages.toNat / 64, []) = (n + 1, l))
include hleft

/-- R369: the word of the live bitmap that is harvested next, and its shadow. -/
def State.liveWord (s : State) (k n : Nat) : Nat := (s.ctx k).dlbase.toNat + 8 * ((s.ctx k).dlpages.toNat / 64 - (n + 1))
def State.shadowWord (s : State) (k n : Nat) : Nat := s.liveWord k n + 8 * ((s.ctx k).dlpages.toNat / 64)

theorem exec_harvest_faults (hbad : s.poisoned (s.liveWord k n) 8 false = true ∨ s.poisoned (s.shadowWord k n) 8 false = true) :
    exec (.harvest k) s = .next (s.areaFault k [(s.liveWord k n, 8), (s.shadowWord k n, 8)]) := by
  show execHarvest k s = _
  unfold execHarvest
  dsimp only
  rw [if_neg ((Ctx.mayHarvest_iff _).1 hmay), hleft]
  exact if_pos hbad

/-- R369: one word is moved to the shadow. -/
def State.harvested (s : State) (k n : Nat) : Memory :=
  (s.mem.writeN (s.shadowWord k n) 8 (s.mem.readN (s.shadowWord k n) 8 ||| s.mem.readN (s.liveWord k n) 8)).writeN (s.liveWord k n) 8 0

/-- R369: the state once the word has been moved. -/
def State.wordMoved (s : State) (k n : Nat) (l : List Nat) : State :=
  (({ (s.noteBytes (s.liveWord k n) 8).noteBytes (s.shadowWord k n) 8 with mem := s.harvested k n }.rewritten (s.liveWord k n) 8).rewritten
    (s.shadowWord k n) 8).setCtx k
      { s.ctx k with status := 0xFF, harvest := some (n, l ++ s.wordWrites k ((s.ctx k).dlpages.toNat / 64 - (n + 1))) }

theorem exec_harvest_moves (hlive : s.poisoned (s.liveWord k n) 8 false = false) (hshadow : s.poisoned (s.shadowWord k n) 8 false = false) :
    exec (.harvest k) s = .next (s.wordMoved k n l) := by
  have hclean : ¬ (s.poisoned (s.liveWord k n) 8 false = true ∨ s.poisoned (s.shadowWord k n) 8 false = true) := by
    rw [hlive, hshadow]
    decide
  show execHarvest k s = _
  unfold execHarvest
  dsimp only
  rw [if_neg ((Ctx.mayHarvest_iff _).1 hmay), hleft]
  exact if_neg hclean
end

/-! HARVEST's end. -/

/-- R369: every harvested write has performed. -/
def State.HarvestDone (s : State) (l : List Nat) : Prop := s.settled l 3 = true ∧ ∀ o ∈ s.bars, o.id ∈ l → o.verdict ≠ none

theorem State.harvestDone_iff (s : State) (l : List Nat) : s.HarvestDone l ↔
    (s.settled l 3 = true ∧ s.bars.all (fun o => !l.contains o.id || o.verdict.isSome) = true) := by
  unfold State.HarvestDone
  refine and_congr Iff.rfl ?_
  rw [List.all_eq_true]
  refine forall₂_congr (fun o _ => ?_)
  rw [Bool.or_eq_true, Option.isSome_iff_ne_none]
  simp only [Bool.not_eq_true', List.contains_eq_mem, decide_eq_false_iff_not]
  tauto

theorem exec_harvestComplete {l : List Nat} (h : (s.ctx k).harvest = some (0, l)) : exec (.harvestComplete k) s =
    if s.settled l 3 = true ∧ s.bars.all (fun o => !l.contains o.id || o.verdict.isSome) = true then
      .next (s.setCtx k (Ctx.settled { s.ctx k with harvest := none })) else .next s := by
  show execHarvestComplete k s = _
  unfold execHarvestComplete
  dsimp only
  rw [h]
  rfl

theorem Ctx.settled_harvested (c : Ctx) : Ctx.settled { c with harvest := none } = { c with
    harvest := none
    status := if c.st = .quiescing ∨ c.st = .creating ∨ c.st = .destroying ∨ c.resuming = true then 0xFF else 0 } := by
  unfold Ctx.settled Ctx.busy
  congr 1
  refine if_congr ?_ rfl rfl
  simp only [Option.isSome_none, Bool.false_or, Bool.or_eq_true, beq_iff_eq]
  tauto
end

theorem Memory.readN_lt (m : Memory) (a n : Nat) : m.readN a n < 2 ^ (8 * n) := by
  induction n generalizing a with
  | zero => exact Nat.one_pos
  | succ n ih =>
    have hb := (m.read a).isLt
    have hrest := ih (a + 1)
    have hpow : 2 ^ (8 * (n + 1)) = 256 * 2 ^ (8 * n) := by rw [Nat.mul_succ, Nat.pow_add, Nat.mul_comm]
    rw [Memory.readN, hpow]
    omega

/-! What moving a word changes in memory (R369). -/

section
variable {s : State} {k n : Nat}

theorem State.harvested_outside {a : Nat} (hlive : a < s.liveWord k n ∨ s.liveWord k n + 8 ≤ a) (hshadow : a < s.shadowWord k n ∨ s.shadowWord k n + 8 ≤ a) :
    (s.harvested k n).read a = s.mem.read a := by
  unfold State.harvested
  rw [Memory.read_writeN_outside _ _ _ hlive, Memory.read_writeN_outside _ _ _ hshadow]

theorem State.harvested_live (hinv : s.Inv) : (s.harvested k n).readN (s.liveWord k n) 8 = 0 := by
  unfold State.harvested
  rw [Memory.readN_writeN (Memory.wf_writeN hinv ..)]
  rfl

theorem State.harvested_shadow (hinv : s.Inv) (hn : n < (s.ctx k).dlpages.toNat / 64) :
    (s.harvested k n).readN (s.shadowWord k n) 8 = s.mem.readN (s.shadowWord k n) 8 ||| s.mem.readN (s.liveWord k n) 8 := by
  have happart : s.liveWord k n + 8 ≤ s.shadowWord k n := by
    unfold State.shadowWord
    omega
  have hkeep : (s.harvested k n).readN (s.shadowWord k n) 8 =
      (s.mem.writeN (s.shadowWord k n) 8 (s.mem.readN (s.shadowWord k n) 8 ||| s.mem.readN (s.liveWord k n) 8)).readN (s.shadowWord k n) 8 :=
    Memory.readN_congr (fun j _ => Memory.read_writeN_outside _ _ _ (by omega))
  have hlt : s.mem.readN (s.shadowWord k n) 8 ||| s.mem.readN (s.liveWord k n) 8 < 2 ^ 64 :=
    Nat.or_lt_two_pow (Memory.readN_lt ..) (Memory.readN_lt ..)
  rw [hkeep, Memory.readN_writeN hinv]
  exact Nat.mod_eq_of_lt hlt
end

end Sys2Proof.Machine
end

section
/-! PROOFS. Queues: ENQ (R377, R378). -/

namespace Sys2Proof.Machine

/-! ENQ (R377, R378). -/

section
variable {s : State} {t : Txn}

theorem enqHeaderOk_addr (h : enqHeaderOk t = true) : t.addr.toNat < 2048 := by
  unfold enqHeaderOk at h
  simp only [Bool.and_eq_true, decide_eq_true_eq] at h
  exact h.2

/-- R377, R434: a due ENQ with a good header, from an endpoint that serves the queue's context, is decided. -/
theorem exec_enq_decides (hdue : s.due t) (hgo : s.sec.boot ≠ .fail) (hok : enqHeaderOk t = true)
    (hserves : s.sec.serves t.src (s.queue t.addr.toNat).ctx = true) : exec (.enq t) s = .next ((s.counted t).enqDecide t) := by
  have haddr : t.addr.toNat % 2048 = t.addr.toNat := Nat.mod_eq_of_lt (enqHeaderOk_addr hok)
  refine congrArg Host.Outcome.next (State.receive_of_due hdue ?_)
  have hserves' : (s.counted t).sec.serves t.src ((s.counted t).queue (t.addr.toNat % 2048)).ctx = true := by
    rw [haddr]
    exact hserves
  rw [hok, hserves']
  exact State.gate_of_allowed _ hgo

/-- R377: the state after the NACK of a full queue, which tells the guest once. -/
def State.enqFull (x : State) (t : Txn) (k : Nat) (q : Queue) : State :=
  ((x.enqNack t k q 2).setQueue k { (x.enqNack t k q 2).queue k with roomy := false }).queueEvent k q 2 0

/-- R377: the state after the NACK of a queue whose ring holds poison. -/
def State.enqPoisoned (x : State) (t : Txn) (k : Nat) (q : Queue) (a : Nat) : State :=
  (x.spillFault k q a).enqNack t k ((x.spillFault k q a).queue k) 3

/-- R377: the state after a record has entered the ring. -/
def State.enqSpilled (x : State) (t : Txn) (k : Nat) (q : Queue) (a : Nat) : State :=
  ({ x with mem := x.mem.writeWords a (bytesToWords t.data) }.clearPoison a 64).setQueue k (q.ringIn t.src t.eseq)

/-- R377: what the queue of a good ENQ decides, with its number, block and context by name. -/
theorem State.enqDecide_eq (hok : enqHeaderOk t = true) : (s.counted t).enqDecide t =
    let k := t.addr.toNat
    let q := s.queue k
    let c := s.ctx q.ctx
    let a := q.spbase.toNat + 64 * q.tail
    let x := s.counted t
    if q.st = .disabled then x.enqNack t k q 4
    else if c.st ≠ .active ∧ c.st ≠ .quiescing then x.enqNack t k q 6
    else if q.st = .paused then x.enqNack t k q 1
    else if q.st = .drained ∨ q.closed then x.enqNack t k q 5
    else if q.st = .spillFault then x.enqNack t k q 3
    else if q.spilled = 0 ∧ q.slots.length < 8 then
      (x.setQueue k (q.slotIn (bytesToWords t.data))).reply t.src.toNat t.eseq.toNat false 0 []
    else if q.spilled = q.cap then
      if q.roomy = true then x.enqFull t k q else x.enqNack t k q 2
    else if s.poisoned a 64 true = true then x.enqPoisoned t k q a
    else x.enqSpilled t k q a := by
  have haddr : t.addr.toNat % 2048 = t.addr.toNat := Nat.mod_eq_of_lt (enqHeaderOk_addr hok)
  unfold State.enqDecide
  rw [haddr]
  rfl

/-- R377: the block of a queue that has refused a record. -/
def Queue.nacked (q : Queue) (r : Nat) : Queue := { q with nackcnt := satAdd q.nackcnt 1, lastnack := BitVec.ofNat 4 r }

theorem answers_of_enqNack {i : Instr} {x : State} {k : Nat} {q : Queue} {r : Nat} {P : State → Prop}
    (hexec : exec i s = .next (x.enqNack t k q r)) (houtq : x.outq = s.outq) (hP : P (x.enqNack t k q r)) :
    Answers i s t (answerTo t 7 (BitVec.ofNat 8 r) []) P :=
  answers_of_reply (x := x.setQueue k (q.nacked r)) (nack := true) hexec houtq hP

theorem State.enqNack_queue (x : State) (k : Nat) (q : Queue) (r : Nat) : (x.enqNack t k q r).queue k = q.nacked r :=
  State.queue_setQueue x k (q.nacked r)

theorem State.enqNack_ctx (x : State) (k : Nat) (q : Queue) (r j : Nat) : (x.enqNack t k q r).ctx j = x.ctx j := rfl

theorem State.counted_ctx (j : Nat) : (s.counted t).ctx j = s.ctx j := rfl

theorem answered_enqNack {x : State} {k : Nat} {q : Queue} {r : Nat} (houtq : x.outq = s.outq) :
    (x.enqNack t k q r).outq = s.outq ++ [answerTo t 7 (BitVec.ofNat 8 r) []]
    ∧ ((x.enqNack t k q r).ep t.src.toNat).answers.getLast? = some ⟨t.eseq, answerTo t 7 (BitVec.ofNat 8 r) []⟩ :=
  ⟨(State.reply_outq (s := x.setQueue k (q.nacked r)) true _ _).trans (congrArg (· ++ _) houtq), State.reply_stored (s := x.setQueue k (q.nacked r)) true _ _⟩

/-- R379: the event of a queue, with its reason and code. -/
def Queue.event (q : Queue) (k : Nat) (code : Word) (cycle : Dword) : List Word := eventRecord 0x20 0 0 0 0 0 (Word.ofNat k) code (Word.ofNat q.tail) cycle

theorem State.queue_congr {x y : State} (h : y.queues = x.queues) (k : Nat) : y.queue k = x.queue k := by
  unfold State.queue
  rw [h]

/-- R379: the event of a queue whose context takes events changes that context's events alone. -/
theorem State.queueEvent_of_live {x : State} {k : Nat} {q : Queue} (h : (x.ctx q.ctx).st = .active ∨ (x.ctx q.ctx).st = .quiescing)
    (reason : Nat) (code : Byte) : (x.queueEvent k q reason code).mem = x.mem ∧ (x.queueEvent k q reason code).outq = x.outq
      ∧ (x.queueEvent k q reason code).eps = x.eps ∧ (x.queueEvent k q reason code).queues = x.queues
      ∧ ((x.queueEvent k q reason code).ctx q.ctx).events = (x.ctx q.ctx).events ++ [(none, q.event k (Word.ofNat (reason + code.toNat * 256)) (x.cycleOf 0))] := by
  have hst : (x.ctx q.ctx).st ≠ .free ∧ (x.ctx q.ctx).st ≠ .faulted := by
    obtain h | h := h <;> rw [h] <;> decide
  have hpost := State.postEvent_of_live hst.1 hst.2 none (q.event k (Word.ofNat (reason + code.toNat * 256)) (x.cycleOf 0))
  have hevent : x.queueEvent k q reason code = x.postEvent q.ctx none (q.event k (Word.ofNat (reason + code.toNat * 256)) (x.cycleOf 0)) := rfl
  rw [hevent, hpost]
  exact ⟨rfl, rfl, rfl, rfl, congrArg Ctx.events (State.ctx_setCtx ..)⟩

/-- R377, R379: a full queue's NACK and event change the queue's block and the context's events. -/
theorem State.enqFull_of_live {x : State} {k : Nat} {q : Queue} (h : (x.ctx q.ctx).st = .active ∨ (x.ctx q.ctx).st = .quiescing) :
    (x.enqFull t k q).outq = (x.enqNack t k q 2).outq ∧ (x.enqFull t k q).eps = (x.enqNack t k q 2).eps
    ∧ (x.enqFull t k q).queue k = { q.nacked 2 with roomy := false }
    ∧ ((x.enqFull t k q).ctx q.ctx).events = (x.ctx q.ctx).events ++ [(none, q.event k 2 (x.cycleOf 0))] := by
  have hqueue := State.enqNack_queue (t := t) x k q 2
  have hctx : (x.enqNack t k q 2).ctx q.ctx = x.ctx q.ctx := rfl
  have hcycle : (x.enqNack t k q 2).cycleOf 0 = x.cycleOf 0 := rfl
  have hcode : Word.ofNat (2 + (0 : Byte).toNat * 256) = 2 := by decide
  unfold State.enqFull
  generalize x.enqNack t k q 2 = y at *
  obtain ⟨-, houtq, heps, hqueues, hevents⟩ := State.queueEvent_of_live
    (x := y.setQueue k { y.queue k with roomy := false }) (k := k) (q := q) (by rw [← hctx] at h; exact h) 2 0
  rw [hcode] at hevents
  refine ⟨houtq, heps, (State.queue_congr hqueues k).trans ?_, ?_⟩
  · rw [State.queue_setQueue, hqueue]
  · rw [← hctx, ← hcycle]
    exact hevents

/-- R379, R424: a spill fault changes the queue's block, the context's events and the log. -/
theorem State.spillFault_of_live {x : State} {k : Nat} {q : Queue} (h : (x.ctx q.ctx).st = .active ∨ (x.ctx q.ctx).st = .quiescing) (a : Nat) :
    (x.spillFault k q a).mem = x.mem ∧ (x.spillFault k q a).outq = x.outq
    ∧ (x.spillFault k q a).queue k = { q with st := .spillFault, refill := false }
    ∧ ((x.spillFault k q a).ctx q.ctx).events = (x.ctx q.ctx).events ++ [(none, q.event k 0x8003 (x.cycleOf 0))] := by
  obtain ⟨hmem, houtq, -, hqueues, hevents⟩ := State.queueEvent_of_live (x := x.setQueue k { q with st := .spillFault, refill := false }) (k := k) h 3 cQspill
  obtain ⟨d, hlog⟩ := State.dflLog_eq ((x.setQueue k { q with st := .spillFault, refill := false }).queueEvent k q 3 cQspill)
    (dflRec 4 cQspill 0 0 k 0 a none (x.cycleOf 0))
  have hfault : x.spillFault k q a = { (x.setQueue k { q with st := .spillFault, refill := false }).queueEvent k q 3 cQspill with dfl := d } := hlog
  have hcode : Word.ofNat (3 + cQspill.toNat * 256) = 0x8003 := by decide
  rw [hcode] at hevents
  rw [hfault]
  exact ⟨hmem, houtq, (State.queue_congr hqueues k).trans (State.queue_setQueue ..), hevents⟩

/-- R378: a state that has the ports and sources of an answered one answers the same. -/
theorem Answers.of_same {i : Instr} {a : Txn} {x z : State} {P : State → Prop} (hexec : exec i s = .next z)
    (houtq : z.outq = x.outq) (heps : z.eps = x.eps) (hx : x.outq = s.outq ++ [a] ∧ (x.ep t.src.toNat).answers.getLast? = some ⟨t.eseq, a⟩) (hP : P z) :
    Answers i s t a P := by
  refine ⟨z, hexec, houtq.trans hx.1, ?_, hP⟩
  unfold State.ep
  rw [heps]
  exact hx.2

section
variable (hdue : s.due t) (hgo : s.sec.boot ≠ .fail) (hok : enqHeaderOk t = true) (hserves : s.sec.serves t.src (s.queue t.addr.toNat).ctx = true)
include hdue hgo hok hserves

/-- R377: the NACK of a queue, by reason. -/
theorem answers_enq_nack {r : Nat} (h : (s.counted t).enqDecide t = (s.counted t).enqNack t t.addr.toNat (s.queue t.addr.toNat) r) :
    Answers (.enq t) s t (answerTo t 7 (BitVec.ofNat 8 r) []) (fun s' => s'.queue t.addr.toNat = (s.queue t.addr.toNat).nacked r) :=
  answers_of_enqNack (x := s.counted t) ((exec_enq_decides hdue hgo hok hserves).trans (congrArg _ h)) rfl (State.enqNack_queue ..)

theorem answers_enq_disabled (h : (s.queue t.addr.toNat).st = .disabled) :
    Answers (.enq t) s t (answerTo t 7 4 []) (fun s' => s'.queue t.addr.toNat = (s.queue t.addr.toNat).nacked 4) :=
  answers_enq_nack hdue hgo hok hserves (r := 4) ((State.enqDecide_eq hok).trans (if_pos h))

theorem answers_enq_noContext (h : (s.queue t.addr.toNat).st ≠ .disabled) (hactive : (s.ctx (s.queue t.addr.toNat).ctx).st ≠ .active)
    (hquiescing : (s.ctx (s.queue t.addr.toNat).ctx).st ≠ .quiescing) :
    Answers (.enq t) s t (answerTo t 7 6 []) (fun s' => s'.queue t.addr.toNat = (s.queue t.addr.toNat).nacked 6) :=
  answers_enq_nack hdue hgo hok hserves (r := 6) ((State.enqDecide_eq hok).trans ((if_neg h).trans (if_pos ⟨hactive, hquiescing⟩)))

section
variable (hlive : (s.ctx (s.queue t.addr.toNat).ctx).st = .active ∨ (s.ctx (s.queue t.addr.toNat).ctx).st = .quiescing)
include hlive

omit hdue hgo hok hserves in
theorem ctx_live_of_or : ¬ ((s.ctx (s.queue t.addr.toNat).ctx).st ≠ .active ∧ (s.ctx (s.queue t.addr.toNat).ctx).st ≠ .quiescing) := by
  tauto

theorem answers_enq_paused (h : (s.queue t.addr.toNat).st = .paused) :
    Answers (.enq t) s t (answerTo t 7 1 []) (fun s' => s'.queue t.addr.toNat = (s.queue t.addr.toNat).nacked 1) :=
  answers_enq_nack hdue hgo hok hserves (r := 1) ((State.enqDecide_eq hok).trans ((if_neg (by rw [h]; decide)).trans
    ((if_neg (ctx_live_of_or hlive)).trans (if_pos h))))

theorem answers_enq_closed (h : (s.queue t.addr.toNat).st = .drained ∨ ((s.queue t.addr.toNat).closed = true ∧
      (((s.queue t.addr.toNat).st = .active ∨ (s.queue t.addr.toNat).st = .spilling) ∨ (s.queue t.addr.toNat).st = .spillFault))) :
    Answers (.enq t) s t (answerTo t 7 5 []) (fun s' => s'.queue t.addr.toNat = (s.queue t.addr.toNat).nacked 5) := by
  have hends : (s.queue t.addr.toNat).st = .drained ∨ (s.queue t.addr.toNat).closed = true := h.imp_right And.left
  have hst : (s.queue t.addr.toNat).st ≠ .disabled ∧ (s.queue t.addr.toNat).st ≠ .paused := by
    obtain h | ⟨-, (h | h) | h⟩ := h <;> rw [h] <;> decide
  exact answers_enq_nack hdue hgo hok hserves (r := 5) ((State.enqDecide_eq hok).trans ((if_neg hst.1).trans
    ((if_neg (ctx_live_of_or hlive)).trans ((if_neg hst.2).trans (if_pos hends)))))

section
variable (hclosed : (s.queue t.addr.toNat).closed = false)
include hclosed

theorem answers_enq_spillFault (h : (s.queue t.addr.toNat).st = .spillFault) :
    Answers (.enq t) s t (answerTo t 7 3 []) (fun s' => s'.queue t.addr.toNat = (s.queue t.addr.toNat).nacked 3) :=
  answers_enq_nack hdue hgo hok hserves (r := 3) ((State.enqDecide_eq hok).trans ((if_neg (by rw [h]; decide)).trans
    ((if_neg (ctx_live_of_or hlive)).trans ((if_neg (by rw [h]; decide)).trans ((if_neg (by rw [h, hclosed]; decide)).trans (if_pos h))))))

variable (hopen : (s.queue t.addr.toNat).st = .active ∨ (s.queue t.addr.toNat).st = .spilling)
include hopen

omit hdue hgo hserves in
/-- R377: an open queue takes the record into a slot, into the ring, or refuses it. -/
theorem State.enqDecide_of_open : (s.counted t).enqDecide t =
    let k := t.addr.toNat
    let q := s.queue k
    let a := q.spbase.toNat + 64 * q.tail
    let x := s.counted t
    if q.spilled = 0 ∧ q.slots.length < 8 then
      (x.setQueue k (q.slotIn (bytesToWords t.data))).reply t.src.toNat t.eseq.toNat false 0 []
    else if q.spilled = q.cap then
      if q.roomy = true then x.enqFull t k q else x.enqNack t k q 2
    else if s.poisoned a 64 true = true then x.enqPoisoned t k q a
    else x.enqSpilled t k q a := by
  have hst : (s.queue t.addr.toNat).st ≠ .disabled ∧ (s.queue t.addr.toNat).st ≠ .paused ∧ (s.queue t.addr.toNat).st ≠ .drained
      ∧ (s.queue t.addr.toNat).st ≠ .spillFault := by
    obtain h | h := hopen <;> rw [h] <;> decide
  obtain ⟨hdisabled, hpaused, hdrained, hfault⟩ := hst
  rw [State.enqDecide_eq hok]
  dsimp only
  rw [if_neg hdisabled, if_neg (ctx_live_of_or hlive), if_neg hpaused, if_neg (not_or.2 ⟨hdrained, by rw [hclosed]; decide⟩), if_neg hfault]

theorem answers_enq_slot (hring : (s.queue t.addr.toNat).spilled = 0) (hslot : (s.queue t.addr.toNat).slots.length < 8) :
    Answers (.enq t) s t (answerTo t 6 0 []) (fun s' => s'.queue t.addr.toNat = (s.queue t.addr.toNat).slotIn (bytesToWords t.data)) := by
  have hdecide := (State.enqDecide_of_open hok hlive hclosed hopen).trans (if_pos ⟨hring, hslot⟩)
  exact answers_of_reply (x := (s.counted t).setQueue _ _) (nack := false)
    ((exec_enq_decides hdue hgo hok hserves).trans (congrArg _ hdecide)) rfl (State.queue_setQueue ..)

variable (hfull : (s.queue t.addr.toNat).spilled ≠ 0 ∨ 8 ≤ (s.queue t.addr.toNat).slots.length)
include hfull

omit hdue hgo hserves hok hlive hclosed hopen in
theorem noSlot_of_full : ¬ ((s.queue t.addr.toNat).spilled = 0 ∧ (s.queue t.addr.toNat).slots.length < 8) := by
  omega

theorem answers_enq_full (hcap : (s.queue t.addr.toNat).spilled = (s.queue t.addr.toNat).cap) :
    Answers (.enq t) s t (answerTo t 7 2 []) (fun s' =>
      s'.queue t.addr.toNat = { (s.queue t.addr.toNat).nacked 2 with roomy := false }
      ∧ (s'.ctx (s.queue t.addr.toNat).ctx).events = (s.ctx (s.queue t.addr.toNat).ctx).events ++ (if (s.queue t.addr.toNat).roomy = true then
          [(none, (s.queue t.addr.toNat).event t.addr.toNat 2 (s.cycleOf 0))] else [])) := by
  have hdecide := (State.enqDecide_of_open hok hlive hclosed hopen).trans ((if_neg (noSlot_of_full hfull)).trans (if_pos hcap))
  by_cases hroomy : (s.queue t.addr.toNat).roomy = true
  · have hexec := (exec_enq_decides hdue hgo hok hserves).trans (congrArg _ (hdecide.trans (if_pos hroomy)))
    obtain ⟨houtq, heps, hqueue, hctx⟩ := State.enqFull_of_live (x := s.counted t) (t := t) (k := t.addr.toNat) (q := s.queue t.addr.toNat) hlive
    refine Answers.of_same hexec houtq heps (answered_enqNack (x := s.counted t) (k := t.addr.toNat) (q := s.queue t.addr.toNat) rfl) ⟨hqueue, ?_⟩
    rw [if_pos hroomy]
    exact hctx
  · have hexec := (exec_enq_decides hdue hgo hok hserves).trans (congrArg _ (hdecide.trans (if_neg hroomy)))
    refine answers_of_enqNack (x := s.counted t) (r := 2) hexec rfl ⟨?_, ?_⟩
    · rw [State.enqNack_queue]
      unfold Queue.nacked
      rw [← Bool.eq_false_iff.2 hroomy]
    · rw [if_neg hroomy, State.enqNack_ctx, State.counted_ctx, List.append_nil]

theorem answers_enq_poisoned (hcap : (s.queue t.addr.toNat).spilled ≠ (s.queue t.addr.toNat).cap)
    (hpoison : s.poisoned ((s.queue t.addr.toNat).spbase.toNat + 64 * (s.queue t.addr.toNat).tail) 64 true = true) :
    Answers (.enq t) s t (answerTo t 7 3 []) (fun s' => s'.mem = s.mem
      ∧ s'.queue t.addr.toNat = { (s.queue t.addr.toNat).nacked 3 with st := .spillFault, refill := false }
      ∧ (s'.ctx (s.queue t.addr.toNat).ctx).events = (s.ctx (s.queue t.addr.toNat).ctx).events
        ++ [(none, (s.queue t.addr.toNat).event t.addr.toNat 0x8003 (s.cycleOf 0))]) := by
  have hdecide := (State.enqDecide_of_open hok hlive hclosed hopen).trans ((if_neg (noSlot_of_full hfull)).trans ((if_neg hcap).trans (if_pos hpoison)))
  have hexec := (exec_enq_decides hdue hgo hok hserves).trans (congrArg _ hdecide)
  obtain ⟨hmem, houtq, hqueue, hctx⟩ := State.spillFault_of_live (x := s.counted t) (k := t.addr.toNat) (q := s.queue t.addr.toNat) hlive
    ((s.queue t.addr.toNat).spbase.toNat + 64 * (s.queue t.addr.toNat).tail)
  refine answers_of_enqNack (r := 3) hexec houtq ⟨?_, ?_, ?_⟩
  · rw [State.enqNack_mem]
    exact hmem
  · rw [State.enqNack_queue, hqueue]
    rfl
  · rw [State.enqNack_ctx]
    exact hctx

theorem exec_enq_spills (hcap : (s.queue t.addr.toNat).spilled ≠ (s.queue t.addr.toNat).cap)
    (hclean : s.poisoned ((s.queue t.addr.toNat).spbase.toNat + 64 * (s.queue t.addr.toNat).tail) 64 true = false) :
    ∃ s', exec (.enq t) s = .next s' ∧ s'.outq = s.outq
      ∧ s'.mem = s.mem.writeWords ((s.queue t.addr.toNat).spbase.toNat + 64 * (s.queue t.addr.toNat).tail) (bytesToWords t.data)
      ∧ s'.queue t.addr.toNat = { (s.queue t.addr.toNat).ringIn t.src t.eseq with st := .spilling } := by
  have hdecide := (State.enqDecide_of_open hok hlive hclosed hopen).trans
    ((if_neg (noSlot_of_full hfull)).trans ((if_neg hcap).trans (if_neg (by rw [hclean]; decide))))
  refine ⟨_, (exec_enq_decides hdue hgo hok hserves).trans (congrArg _ hdecide), rfl, rfl, ?_⟩
  refine (State.queue_setQueue ..).trans ?_
  unfold Queue.ringIn
  obtain h | h := hopen
  · rw [h]; rfl
  · rw [h]; rfl
end
end
end
end

end Sys2Proof.Machine
end

section
/-! PROOFS. Queues: the ring, the commands; TINV (R374 to R380, R398). -/

namespace Sys2Proof.Machine

/-! Rings, slots and the commands of queues (R374 to R380). -/

section
variable {s : State} {k : Nat}

/-- R378: the answer of a record whose write to the ring has performed. -/
theorem exec_enqSpillDone {src : BitVec 12} {eseq : BitVec 16} {rest : List (BitVec 12 × BitVec 16)}
    (h : (s.queue k).spill = (src, eseq) :: rest) : ∃ s' a, exec (.enqSpillDone k) s = .next s'
      ∧ s'.queue k = { s.queue k with spill := rest } ∧ s'.mem = s.mem ∧ s'.outq = s.outq ++ [a]
      ∧ a.type = 6 ∧ a.dst = src ∧ a.eseq = eseq := by
  have hexec : exec (.enqSpillDone k) s =
      .next ((s.setQueue k { s.queue k with spill := rest }).reply src.toNat eseq.toNat false 0 []) := by
    show execEnqSpillDone k s = _
    unfold execEnqSpillDone
    dsimp only
    rw [h]
  refine ⟨_, _, hexec, State.queue_setQueue .., rfl, rfl, rfl, ?_, ?_⟩
  · exact (BitVec.ofNat_toNat 12 src).trans (BitVec.setWidth_eq src)
  · exact (BitVec.ofNat_toNat 16 eseq).trans (BitVec.setWidth_eq eseq)

theorem exec_enqSpillDone_idle (h : (s.queue k).spill = []) : exec (.enqSpillDone k) s = .next s := by
  show execEnqSpillDone k s = _
  unfold execEnqSpillDone
  dsimp only
  rw [h]

/-! Refilling the slots (R379). -/

/-- R379: a refill has a record to move and a slot to move it to. -/
def Queue.Moves (q : Queue) : Prop := q.refill = true ∧ q.spilled ≠ 0 ∧ q.slots.length < 8

theorem Queue.moves_iff (q : Queue) : q.Moves ↔ ¬ ((!q.refill) = true ∨ q.spilled = 0 ∨ 8 ≤ q.slots.length) := by
  unfold Queue.Moves
  cases q.refill
  · simp
  · simp

/-- R379: the record the ring's head points at. -/
def Queue.headAddr (q : Queue) : Nat := q.spbase.toNat + 64 * q.head

theorem exec_queueRefillDone_stops (h : ¬ (s.queue k).Moves) :
    exec (.queueRefillDone k) s = .next (s.setQueue k { s.queue k with refill := false }) :=
  if_pos (not_not.1 (mt (Queue.moves_iff _).2 h))

theorem exec_queueRefillDone_poisoned (h : (s.queue k).Moves) (hpoison : s.poisoned (s.queue k).headAddr 64 false = true) :
    exec (.queueRefillDone k) s = .next (if (s.queue k).st = .spilling then s.spillFault k (s.queue k) (s.queue k).headAddr
      else s.setQueue k { s.queue k with refill := false }) :=
  (if_neg ((Queue.moves_iff _).1 h)).trans (if_pos hpoison)

theorem exec_queueRefillDone_moves (h : (s.queue k).Moves) (hclean : s.poisoned (s.queue k).headAddr 64 false = false) :
    exec (.queueRefillDone k) s = .next ((s.noteBytes (s.queue k).headAddr 64).setQueue k
      ((s.queue k).refilled (s.mem.words (s.queue k).headAddr 16)).settle) :=
  (if_neg ((Queue.moves_iff _).1 h)).trans (if_neg (by show ¬ s.poisoned (s.queue k).headAddr 64 false = true; rw [hclean]; decide))

theorem State.freeEntry_queues (s : State) (o : Option Nat) : (s.freeEntry o).queues = s.queues := by
  cases o with
  | none => rfl
  | some n =>
    unfold State.freeEntry
    dsimp only
    split
    · rfl
    · rfl

theorem State.postEvent_queues (s : State) (j : Nat) (owner : Option Nat) (r : List Word) : (s.postEvent j owner r).queues = s.queues := by
  unfold State.postEvent
  dsimp only
  split
  · exact State.freeEntry_queues ..
  · rfl

/-- R379: a spill fault stops the queue, whatever its context. -/
theorem State.spillFault_queue (s : State) (k : Nat) (q : Queue) (a : Nat) :
    (s.spillFault k q a).queue k = { q with st := .spillFault, refill := false } := by
  obtain ⟨d, hlog⟩ := State.dflLog_eq ((s.setQueue k { q with st := .spillFault, refill := false }).queueEvent k q 3 cQspill)
    (dflRec 4 cQspill 0 0 k 0 a none (s.cycleOf 0))
  have hfault : s.spillFault k q a = { (s.setQueue k { q with st := .spillFault, refill := false }).queueEvent k q 3 cQspill with dfl := d } := hlog
  rw [hfault]
  exact (State.queue_congr (State.postEvent_queues ..) k).trans (State.queue_setQueue ..)

theorem exec_queueRefillDone_faults (h : (s.queue k).Moves) (hpoison : s.poisoned (s.queue k).headAddr 64 false = true)
    (hst : (s.queue k).st = .spilling) : ∃ s', exec (.queueRefillDone k) s = .next s' ∧ (s'.queue k).st = .spillFault
      ∧ (s'.queue k).slots = (s.queue k).slots ∧ (s'.queue k).spilled = (s.queue k).spilled := by
  have hexec := exec_queueRefillDone_poisoned h hpoison
  rw [if_pos hst] at hexec
  have hqueue := s.spillFault_queue k (s.queue k) (s.queue k).headAddr
  exact ⟨_, hexec, by rw [hqueue], by rw [hqueue], by rw [hqueue]⟩

theorem Queue.settle_of_open {q : Queue} (h : q.closed = false) : q.settle = q :=
  if_neg (by rw [h]; simp)

theorem exec_queueRefillDone_fills (h : (s.queue k).Moves) (hclean : s.poisoned (s.queue k).headAddr 64 false = false)
    (hclosed : (s.queue k).closed = false) : ∃ s', exec (.queueRefillDone k) s = .next s'
      ∧ s'.queue k = (s.queue k).refilled (s.mem.words (s.queue k).headAddr 16) := by
  refine ⟨_, exec_queueRefillDone_moves h hclean, ?_⟩
  rw [State.queue_setQueue]
  exact Queue.settle_of_open hclosed

/-- R379: the refill goes on while the ring holds more and a slot is empty. -/
theorem Queue.refilled_refill (q : Queue) (r : Record) : (q.refilled r).refill = decide (1 < q.spilled ∧ q.slots.length < 7) := by
  show decide (0 < q.spilled - 1 ∧ (q.slots ++ [r]).length < 8) = _
  rw [List.length_append, List.length_singleton]
  exact decide_eq_decide.2 (by omega)

/-! The commands of a queue (R376, R380). -/

/-- R380: the state of a queue whose ring is open again. -/
def Queue.ringSt (q : Queue) : QSt :=
  if q.closed = true ∧ q.slots = [] ∧ q.spilled = 0 then .drained else if q.spilled = 0 then .active else .spilling

def Queue.mayRefill (q : Queue) : Bool := decide (0 < q.spilled ∧ q.slots.length < 8)

theorem Queue.settle_eq {q : Queue} (hopen : q.st = .active ∨ q.st = .spilling) :
    q.settle = { q with st := if q.closed = true ∧ q.slots = [] ∧ q.spilled = 0 then .drained else q.st } := by
  unfold Queue.settle
  by_cases h : q.closed = true ∧ q.slots = [] ∧ q.spilled = 0
  · obtain ⟨hclosed, hslots, hspilled⟩ := h
    rw [if_pos ⟨hopen, hclosed, by rw [hslots]; rfl, hspilled⟩, if_pos ⟨hclosed, hslots, hspilled⟩]
  · rw [if_neg (fun ⟨_, hclosed, hslots, hspilled⟩ => h ⟨hclosed, List.isEmpty_iff.1 hslots, hspilled⟩), if_neg h]

theorem Queue.settle_reopened (q : Queue) : Queue.settle { q.reopened with status := 0 } =
    { q with st := q.ringSt, status := 0, refill := q.mayRefill } := by
  have hopen : q.reopened.st = .active ∨ q.reopened.st = .spilling := by
    show (if q.spilled = 0 then QSt.active else .spilling) = .active ∨ (if q.spilled = 0 then QSt.active else .spilling) = .spilling
    by_cases h : q.spilled = 0
    · exact Or.inl (if_pos h)
    · exact Or.inr (if_neg h)
  exact Queue.settle_eq (q := { q.reopened with status := 0 }) hopen

theorem Queue.settle_closed {q : Queue} (hopen : q.st = .active ∨ q.st = .spilling) : Queue.settle { q with closed := true, status := 0 } =
    { q with closed := true, status := 0, st := if q.slots = [] ∧ q.spilled = 0 then .drained else q.st } := by
  rw [Queue.settle_eq (q := { q with closed := true, status := 0 }) hopen]
  by_cases h : q.slots = [] ∧ q.spilled = 0
  · rw [if_pos ⟨rfl, h⟩, if_pos h]
  · rw [if_neg (fun hc => h hc.2), if_neg h]

theorem exec_queueEnable_rejects (hdisabled : (s.queue k).st ≠ .disabled) (hdrained : (s.queue k).st ≠ .drained) :
    exec (.queueEnable k) s = .next (s.queueReject k) := if_pos ⟨hdisabled, hdrained⟩

/-- R376: the checks of ENABLE. -/
def State.EnableOk (s : State) (k : Nat) : Prop :=
  (s.ctx (s.queue k).ctx).st ≠ .free ∧ (s.ctx (s.queue k).ctx).st ≠ .destroying ∧ (s.queue k).spbase.toNat % 64 = 0
  ∧ areaOk (s.queue k).spbase.toNat (64 * (s.queue k).cap) = true

theorem State.enableOk_iff : s.EnableOk k ↔ ¬ ((s.ctx (s.queue k).ctx).st = .free ∨ (s.ctx (s.queue k).ctx).st = .destroying
    ∨ (s.queue k).spbase.toNat % 64 ≠ 0 ∨ (!areaOk (s.queue k).spbase.toNat (64 * (s.queue k).cap)) = true) := by
  unfold State.EnableOk
  rw [Bool.not_eq_true', ← Bool.not_eq_true]
  tauto

theorem not_rejected_of_off (h : (s.queue k).st = .disabled ∨ (s.queue k).st = .drained) :
    ¬ ((s.queue k).st ≠ .disabled ∧ (s.queue k).st ≠ .drained) := by tauto

theorem exec_queueEnable_fails (h : (s.queue k).st = .disabled ∨ (s.queue k).st = .drained) (hok : ¬ s.EnableOk k) :
    exec (.queueEnable k) s = .next (s.setQueue k { s.queue k with status := 2 }) :=
  (if_neg (not_rejected_of_off h)).trans (if_pos (not_not.1 (mt State.enableOk_iff.2 hok)))

theorem exec_queueEnable_goes (h : (s.queue k).st = .disabled ∨ (s.queue k).st = .drained) (hok : s.EnableOk k) :
    exec (.queueEnable k) s = .next (s.setQueue k { s.queue k with
      st := .active, closed := false, head := 0, tail := 0, enqcnt := 0, nackcnt := 0, status := 0, age := 0, old := false
      roomy := true }) :=
  (if_neg (not_rejected_of_off h)).trans (if_neg (State.enableOk_iff.1 hok))

section
variable (hopen : (s.queue k).st = .active ∨ (s.queue k).st = .spilling)
include hopen

theorem exec_pause_goes : exec (.pause k) s = .next (s.setQueue k { s.queue k with st := .paused, status := 0 }) := if_pos hopen

theorem exec_close_goes : exec (.close k) s = .next (s.setQueue k { s.queue k with
    closed := true, status := 0, st := if (s.queue k).slots = [] ∧ (s.queue k).spilled = 0 then .drained else (s.queue k).st }) :=
  (if_pos hopen).trans (congrArg (fun q => Host.Outcome.next (s.setQueue k q)) (Queue.settle_closed hopen))
end

theorem exec_pause_close_reject (hopen : ¬ ((s.queue k).st = .active ∨ (s.queue k).st = .spilling)) :
    exec (.pause k) s = .next (s.queueReject k) ∧ exec (.close k) s = .next (s.queueReject k) := ⟨if_neg hopen, if_neg hopen⟩

theorem exec_unpause_goes (h : (s.queue k).st = .paused) : exec (.unpause k) s = .next (s.setQueue k { s.queue k with
    st := (s.queue k).ringSt, status := 0, refill := (s.queue k).mayRefill }) :=
  (if_pos h).trans (congrArg (fun q => Host.Outcome.next (s.setQueue k q)) (Queue.settle_reopened _))

theorem exec_clear_goes (h : (s.queue k).st = .spillFault) : exec (.clear k) s = .next (s.setQueue k { s.queue k with
    st := (s.queue k).ringSt, status := 0, refill := (s.queue k).mayRefill }) :=
  (if_pos h).trans (congrArg (fun q => Host.Outcome.next (s.setQueue k q)) (Queue.settle_reopened _))
end

/-! TINV (R398). -/

section
variable {s : State} {cmd : Dword}

/-- R398: an invalidation of `n` bytes of a context, from `lo` on, drops the entries it names and waits for the accesses that used them. -/
structure State.Drops (s s' : State) (cmd : Dword) (lo n : Nat) : Prop where
  status : s'.tinv.status = 0xFF
  command : s'.tinv.cmd = some cmd
  mem : s'.mem = s.mem
  waits : ∀ a ∈ s.accs, ∀ pa, a.ctx = tinvCtx cmd → a.va < lo + n → lo < a.va + a.size → a.st = .ready pa → s.blocked a = false → a.id ∈ s'.tinv.waits
  tlbs : ∀ tile, s'.tlb tile = (s.tlb tile).filter (fun e => !(decide (e.ctx = tinvCtx cmd ∧ e.base < lo + n ∧ lo < e.base + e.size)))

theorem State.invalidate_idle (lo n : Nat) (h : s.tinv.status = 0xFF) : s.invalidate cmd (tinvCtx cmd) lo n = s := if_pos h

theorem State.invalidate_bad (lo n : Nat) (h : s.tinv.status ≠ 0xFF) (hbad : tinvBad cmd = true) :
    s.invalidate cmd (tinvCtx cmd) lo n = { s with tinv := { s.tinv with status := 1 } } := (if_neg h).trans (if_pos hbad)

theorem State.not_heldIn_of_not_blocked {a : Access} (h : s.blocked a = false) : s.heldIn a = false := by
  unfold State.heldIn
  split
  · rw [h, Bool.and_false]
  · rfl

theorem State.dropTlb_tlb (s : State) (p : TlbEntry → Bool) (tile : Nat) : (s.dropTlb p).tlb tile = (s.tlb tile).filter (fun e => !p e) :=
  Table.getD_mapAll s.tlbs (fun _ t => t.filter (fun e => !p e)) tile rfl

theorem State.invalidate_drops (lo n : Nat) (h : s.tinv.status ≠ 0xFF) (hgood : tinvBad cmd = false) :
    s.Drops (s.invalidate cmd (tinvCtx cmd) lo n) cmd lo n := by
  have hbad : ¬ tinvBad cmd = true := by rw [hgood]; decide
  unfold State.invalidate
  rw [if_neg h, if_neg hbad]
  refine ⟨rfl, rfl, rfl, ?_, fun tile => ?_⟩
  · intro a ha pa hctx hlo hhi hst hfree
    refine List.mem_append_left _ (List.mem_map.2 ⟨a, List.mem_filter.2 ⟨ha, ?_⟩, rfl⟩)
    have hperformed : a.performed 3 = false := by
      unfold Access.performed
      rw [hst]
    simp only [hctx, hst, hperformed, State.not_heldIn_of_not_blocked hfree, decide_eq_true (And.intro hlo hhi), beq_self_eq_true, Bool.and_false,
      Bool.not_false, Bool.true_or, Bool.and_self]
  · refine (State.dropTlb_tlb s _ tile).trans (List.filter_congr (fun e _ => ?_))
    rw [beq_eq_decide, ← Bool.decide_and]

/-- R398: the accesses and the checks an invalidation waits for have performed. -/
def State.TinvDone (s : State) : Prop :=
  s.tinv.status = 0xFF ∧ (∀ a ∈ s.accs, a.id ∈ s.tinv.waits → a.performed 3 = true ∨ ∃ c h, a.st = .parked c h)
  ∧ ∀ o ∈ s.bars, o.id ∈ s.tinv.waits → o.verdict ≠ none

def Access.isParked (a : Access) : Bool :=
  match a.st with
  | .parked _ _ => true
  | _ => false

theorem Access.isParked_iff (a : Access) : a.isParked = true ↔ ∃ c h, a.st = .parked c h := by
  unfold Access.isParked
  cases a.st with
  | parked c h => exact iff_of_true rfl ⟨c, h, rfl⟩
  | _ => exact iff_of_false Bool.false_ne_true (fun ⟨_, _, h⟩ => nomatch h)

theorem State.tinvDone_iff : s.TinvDone ↔ (s.tinv.status = 0xFF
    ∧ s.accs.all (fun a => !s.tinv.waits.contains a.id || a.performed 3 || a.isParked) = true
    ∧ s.bars.all (fun o => !s.tinv.waits.contains o.id || o.verdict.isSome) = true) := by
  unfold State.TinvDone
  refine and_congr_right (fun _ => and_congr ?_ ?_)
  · rw [List.all_eq_true]
    refine forall_congr' fun a => imp_congr_right fun _ => ?_
    rw [← Access.isParked_iff]
    by_cases ha : a.id ∈ s.tinv.waits
    · simp [ha]
    · simp [ha]
  · rw [List.all_eq_true]
    refine forall_congr' fun o => imp_congr_right fun _ => ?_
    by_cases ho : o.id ∈ s.tinv.waits
    · simp [ho, Option.isSome_iff_ne_none]
    · simp [ho]

theorem exec_tinvComplete_goes (h : s.TinvDone) : exec .tinvComplete s = .next { s with tinv := { status := 0, cmd := none, waits := [] } } :=
  if_pos (State.tinvDone_iff.1 h)

theorem exec_tinvComplete_waits (h : ¬ s.TinvDone) : exec .tinvComplete s = .next s := if_neg (mt State.tinvDone_iff.2 h)
end

end Sys2Proof.Machine
end

section
/-! PROOFS. The obligation on contexts, queues and TINV, O58. -/

namespace Sys2Proof.Machine

/-! The obligation on contexts, queues and TINV. -/

section
variable {s : State} {k : Nat} {v : Word}

/-- R367: a quota whose save area fits. -/
def Ctx.Fits (c : Ctx) (v : Word) : Prop := c.st = .free ∨ 7 * 2 ^ 20 * fldN v 0 7 + 2 ^ 20 ≤ c.savelen.toNat

theorem Ctx.fits_iff (c : Ctx) : c.Fits v ↔ c.st = .free ∨ c.saveBound (fldN v 0 7) = true := by
  unfold Ctx.saveBound
  rw [decide_eq_true_iff]
  rfl

theorem exec_quotaWrite_goes (h : (s.ctx k).Fits v) :
    exec (.quotaWrite k v) s = .next (s.setCtx k { s.ctx k with quota := Word.ofNat (fldN v 0 7) }) := if_pos ((Ctx.fits_iff _).1 h)

theorem exec_quotaWrite_rejects (h : ¬ (s.ctx k).Fits v) : exec (.quotaWrite k v) s = .next (s.ctxReject k) :=
  if_neg (mt (Ctx.fits_iff _).2 h)

theorem restoreChecks_fail {h : Head} (hok : ¬ ((s.ctx k).createOk = true ∧ h.version = 1 ∧ h.queues.all (s.queueFits k) = true)) :
    (!(s.ctx k).createOk) = true ∨ h.version ≠ 1 ∨ (!h.queues.all (s.queueFits k)) = true := by
  rw [Bool.not_eq_true', Bool.not_eq_true', ← Bool.not_eq_true, ← Bool.not_eq_true]
  tauto

theorem State.wordMoved_ctx (s : State) (k n : Nat) (l : List Nat) : (s.wordMoved k n l).ctx k = { s.ctx k with
    status := 0xFF, harvest := some (n, l ++ s.wordWrites k ((s.ctx k).dlpages.toNat / 64 - (n + 1))) } := by
  unfold State.wordMoved
  exact State.ctx_setCtx ..

theorem State.wordMoved_mem (s : State) (k n : Nat) (l : List Nat) : (s.wordMoved k n l).mem = s.harvested k n := by
  unfold State.wordMoved
  rw [State.setCtx_mem, State.rewritten_mem, State.rewritten_mem]

theorem tinvRange_eq (cmd : Dword) : tinvRange cmd =
    (cmd.toNat / 2 ^ 16 % 2 ^ 36 * 2 ^ 16, if cmd.getLsbD 59 = true then 2 ^ 28 else 2 ^ 16) := by
  unfold tinvRange
  split
  · rfl
  · rfl

theorem exec_tinvPage (cmd : Dword) : exec (.tinvPage cmd) s = .next (s.invalidate cmd (tinvCtx cmd)
    (cmd.toNat / 2 ^ 16 % 2 ^ 36 * 2 ^ 16) (if cmd.getLsbD 59 = true then 2 ^ 28 else 2 ^ 16)) := by
  show execTinvPage cmd s = _
  unfold execTinvPage
  rw [tinvRange_eq]

/-- R370: QUIESCE expires the running tasks that have no final state yet. -/
theorem exec_quiesce_marks (hst : (s.ctx k).st = .active) : ∃ s', exec (.quiesce k) s = .next s'
    ∧ s'.ctx k = { s.ctx k with st := .quiescing, status := 0xFF } ∧ (∀ j, s'.queue j = (s.queue j).quiesced k)
    ∧ ∀ j t, s.task? j = some t → s'.task? j = some (if t.ctx = k ∧ t.st = .running ∧ t.final = none then { t with expire := true } else t) := by
  obtain ⟨s', hexec, hctx, hqueues, htasks⟩ := exec_quiesce hst
  refine ⟨s', hexec, hctx, hqueues, fun j t ht => ?_⟩
  rw [htasks j t ht]
  unfold Task.quiesced
  simp only [Option.isNone_iff_eq_none]
end

/-- Settles O58: each clause is the lemma about its command and the state of the context or queue; the save area reads back what
QUIESCE wrote by `State.headAt_writeHead` and `State.readSave_writeSave`. -/
theorem contextQueueCommands : Obligations.ContextQueueCommands := by
  unfold Obligations.ContextQueueCommands
  refine ⟨?_, ?_, ?_, ?_, ?_, ?_, ?_, ?_, ?_⟩
  case refine_1 =>
    intro s k v
    refine ⟨exec_create_rejects, fun h => if_pos h, fun h => if_pos h, fun hst hmaking hok => ?_, fun hst hmaking hok => ?_, fun h => if_neg (not_not.2 h), ⟨fun hfits => ?_, fun hfits => ?_⟩,
      exec_contextRestoreDone_idle, exec_contextRestoreDone_unread, fun h hst hmaking hhead => ⟨fun hok => ?_,
      exec_contextRestoreDone_restores hst hmaking hhead⟩⟩
    · rw [exec_create_ends hst hmaking, hok]
      rfl
    · have hexec := exec_create_ends hst hmaking
      rw [hok, if_pos rfl] at hexec
      exact ⟨_, hexec, rfl, rfl, rfl, rfl, rfl, rfl, rfl, rfl, rfl, rfl, rfl, rfl, rfl, rfl, rfl, rfl⟩
    · exact exec_quotaWrite_goes hfits
    · exact exec_quotaWrite_rejects hfits
    · rw [exec_contextRestoreDone_read hst hmaking hhead, if_pos (restoreChecks_fail hok)]
      rfl
  case refine_2 =>
    intro s s1 k hinv
    exact ⟨fun h hw hclean => State.headAt_writeHead hinv hw hclean, fun units v hunits hw hclean => State.readSave_writeSave hinv hunits hw hclean⟩
  case refine_3 =>
    intro s k
    refine ⟨fun h => if_pos h, exec_quiesce_marks, ⟨exec_quiesceComplete_waits, rfl, rfl, fun x => State.mem_headOf_queues, exec_quiesceComplete_fails,
      fun s1 => exec_quiesceComplete_done⟩, fun h => if_pos h, exec_resume_unread, fun h => exec_resume_waits, fun h => exec_resume_goes,
      fun h => if_pos h, fun hst => ?_, exec_destroyComplete_waits, exec_destroyComplete_done⟩
    obtain ⟨s', hexec, hctx, hstatus, hqueues, htasks, hevents, htlb⟩ := exec_destroy_does hst
    refine ⟨s', hexec, hctx, hstatus, hqueues, htasks, fun haway => ?_, fun h haway hhead => ?_, htlb⟩
    · rw [hevents]
      unfold State.savedTasks
      rw [haway]
      exact List.append_nil _
    · rw [hevents]
      unfold State.savedTasks
      rw [haway, hhead]
      rfl
  case refine_4 =>
    intro s k h
    refine ⟨fun hnone => ⟨?_, ?_⟩, fun n a hitem hacc => ⟨exec_resolveReplay_posted hitem hacc, exec_resolveDiscard_posted hitem hacc⟩,
      fun tile n hitem => ⟨exec_resolveDiscard_copy hitem, exec_resolveReplay_copy hitem⟩,
      fun tile j hitem _ => ⟨exec_resolveReplay_walk hitem, fun code x y => exec_resolveDiscard_walk hitem⟩⟩
    · show execResolveReplay k h s = _
      unfold execResolveReplay
      rw [hnone]
      rfl
    · show execResolveDiscard k h s = _
      unfold execResolveDiscard
      rw [hnone]
      rfl
  case refine_5 =>
    intro s k hinv
    refine ⟨exec_harvest_rejects, exec_harvest_over, fun n l hmay hleft hn => ⟨exec_harvest_faults hmay hleft, fun hlive hshadow =>
      ⟨_, exec_harvest_moves hmay hleft hlive hshadow, s.wordMoved_ctx k n l, ?_⟩⟩, fun l hharvest => ⟨fun hdone => ?_, fun hdone => ?_⟩⟩
    · rw [State.wordMoved_mem]
      exact ⟨State.harvested_live hinv, State.harvested_shadow hinv hn, fun a => State.harvested_outside⟩
    · rw [exec_harvestComplete hharvest, if_pos ((State.harvestDone_iff s l).1 hdone), Ctx.settled_harvested]
    · rw [exec_harvestComplete hharvest, if_neg (mt (State.harvestDone_iff s l).2 hdone)]
  case refine_6 =>
    intro s t hdue hgo hok
    refine fun hserves => ⟨answers_enq_disabled hdue hgo hok hserves, answers_enq_noContext hdue hgo hok hserves, fun hlive =>
      ⟨answers_enq_paused hdue hgo hok hserves hlive, answers_enq_closed hdue hgo hok hserves hlive,
      answers_enq_spillFault hdue hgo hok hserves hlive, fun hclosed hopen =>
        ⟨answers_enq_slot hdue hgo hok hserves hlive hclosed hopen, answers_enq_full hdue hgo hok hserves hlive hclosed hopen,
        answers_enq_poisoned hdue hgo hok hserves hlive hclosed hopen, exec_enq_spills hdue hgo hok hserves hlive hclosed hopen⟩⟩⟩
  case refine_7 =>
    intro s k
    refine ⟨exec_enqSpillDone_idle, fun src eseq rest => exec_enqSpillDone, exec_queueRefillDone_stops, exec_queueRefillDone_faults,
      fun hmoves hpoison hst => ?_, fun hmoves hclean hclosed => ?_⟩
    · rw [exec_queueRefillDone_poisoned hmoves hpoison, if_neg hst]
    · obtain ⟨s', hexec, hqueue⟩ := exec_queueRefillDone_fills hmoves hclean hclosed
      refine ⟨s', hexec, ?_⟩
      rw [hqueue, Queue.refilled_refill]
      exact ⟨rfl, rfl, rfl, rfl, rfl⟩
  case refine_8 =>
    intro s k
    exact ⟨exec_queueEnable_rejects, fun hoff => ⟨exec_queueEnable_fails hoff, exec_queueEnable_goes hoff⟩, rfl, exec_pause_goes,
      exec_pause_close_reject, exec_unpause_goes, fun h => if_neg h, exec_close_goes, exec_clear_goes, fun h => if_neg h⟩
  case refine_9 =>
    intro s cmd
    refine ⟨fun hbusy => ⟨congrArg Host.Outcome.next (State.invalidate_idle _ _ hbusy), congrArg Host.Outcome.next (State.invalidate_idle _ _ hbusy)⟩,
      fun hidle hbad => ⟨congrArg Host.Outcome.next (State.invalidate_bad _ _ hidle hbad), congrArg Host.Outcome.next (State.invalidate_bad _ _ hidle hbad)⟩,
      fun hidle hgood => ⟨?_, ?_⟩, exec_tinvComplete_goes, exec_tinvComplete_waits⟩
    · obtain ⟨hstatus, hcmd, hmem, hwaits, htlbs⟩ := State.invalidate_drops (cmd.toNat / 2 ^ 16 % 2 ^ 36 * 2 ^ 16)
        (if cmd.getLsbD 59 = true then 2 ^ 28 else 2 ^ 16) hidle hgood
      exact ⟨_, exec_tinvPage cmd, hstatus, hcmd, hmem, hwaits, htlbs⟩
    · obtain ⟨hstatus, hcmd, hmem, hwaits, htlbs⟩ := State.invalidate_drops 0 (2 ^ 52) hidle hgood
      exact ⟨_, rfl, hstatus, hcmd, hmem, hwaits, htlbs⟩

end Sys2Proof.Machine
end

section
/-! PROOFS. Links: training, commands and events (R403, R412). -/

namespace Sys2Proof.Machine

/-! The states of a link (R403, R412). -/

section
variable {s : State} {k : Nat}

/-- R403: the entries into TRAINING of the last 2,250,000 rounds, with one of now. -/
def Link.recent (l : Link) (now : Nat) : List Nat := l.entries.filter (fun t => decide (now < t + 2250000)) ++ [now]

/-- R403: a link that enters TRAINING. -/
def Link.entering (l : Link) (now : Nat) : Link := { l with
  st := .training, lanes := 0, attempts := 0, asked := false, tries := 0, entries := l.recent now, retrains := satAdd l.retrains 1
  entered := some (l.entries, l.retrains) }

theorem State.trainLink_eq (s : State) (k : Nat) : s.trainLink k =
    if (s.link k).st = .fenced ∨ (s.link k).entered.isSome = true then s
    else if 4 ≤ ((s.link k).recent s.round).length then (s.setLink k ((s.link k).entering s.round)).fenceLink k
    else if (s.link k).felled = true then s
    else s.setLink k ((s.link k).entering s.round) := rfl

/-- R403, R424: the record of a link that goes DOWN or FENCED, where the hold has room. -/
def State.Fell (s s' : State) (k : Nat) : Prop :=
  s.dfl.hold.length < 64 → s'.dfl.hold = s.dfl.hold ++ [dflRec 5 0x71 0 0 k 0 0 none (s.cycleOf 0)]

theorem State.linkDown_link (s : State) (k j : Nat) : (s.linkDown k).link j = s.link j := by
  obtain ⟨d, hlog⟩ := s.dflLog_eq (dflRec 5 cLinkDown 0 0 k 0 0 none (s.cycleOf 0))
  unfold State.linkDown
  rw [hlog]
  rfl

theorem State.setLink_fell (s : State) (k : Nat) (l : Link) : s.Fell ((s.setLink k l).linkDown k) k := by
  intro hroom
  exact congrArg (fun x : State => x.dfl.hold) (State.dflLog_of_room (s.setLink k l) (dflRec 5 cLinkDown 0 0 k 0 0 none (s.cycleOf 0)) hroom)

theorem State.fenceLink_link (s : State) (k : Nat) : (s.fenceLink k).link k = (s.link k).quiet .fenced :=
  (State.linkDown_link _ k k).trans (State.link_setLink ..)

theorem State.fenceLink_fell (s : State) (k : Nat) : s.Fell (s.fenceLink k) k := State.setLink_fell s k _

/-- R403: what an entry into TRAINING does. -/
def State.Trains (s : State) (k : Nat) (i : Instr) : Prop :=
  (((s.link k).st = .fenced ∨ (s.link k).entered ≠ none) → exec i s = .next s)
  ∧ ((s.link k).st ≠ .fenced → (s.link k).entered = none →
    (((s.link k).recent s.round).length < 4 → (s.link k).felled = true → exec i s = .next s)
    ∧ (((s.link k).recent s.round).length < 4 → (s.link k).felled = false → exec i s = .next (s.setLink k ((s.link k).entering s.round)))
    ∧ (4 ≤ ((s.link k).recent s.round).length → ∃ s', exec i s = .next s' ∧ (s'.link k).st = .fenced ∧ (s'.link k).replay = []
        ∧ (s'.link k).retrains = satAdd (s.link k).retrains 1 ∧ s.Fell s' k))

theorem State.trainLink_stays (h : (s.link k).st = .fenced ∨ (s.link k).entered ≠ none) : s.trainLink k = s := by
  rw [State.trainLink_eq, if_pos (h.imp_right Option.isSome_iff_ne_none.2)]

theorem State.trainLink_of_free (hst : (s.link k).st ≠ .fenced) (hentered : (s.link k).entered = none) : s.trainLink k =
    if 4 ≤ ((s.link k).recent s.round).length then (s.setLink k ((s.link k).entering s.round)).fenceLink k
    else if (s.link k).felled = true then s else s.setLink k ((s.link k).entering s.round) := by
  rw [State.trainLink_eq, if_neg (not_or.2 ⟨hst, by rw [hentered]; decide⟩)]

theorem trains_of_exec {i : Instr} (hexec : exec i s = .next (s.trainLink k)) : s.Trains k i := by
  refine ⟨fun h => by rw [hexec, State.trainLink_stays h], fun hst hentered => ⟨fun hfew hfelled => ?_, fun hfew hfelled => ?_, fun hmany => ?_⟩⟩
  · rw [hexec, State.trainLink_of_free hst hentered, if_neg (not_le.2 hfew), if_pos hfelled]
  · rw [hexec, State.trainLink_of_free hst hentered, if_neg (not_le.2 hfew), hfelled, if_neg Bool.false_ne_true]
  · rw [State.trainLink_of_free hst hentered, if_pos hmany] at hexec
    have hlink := State.fenceLink_link (s.setLink k ((s.link k).entering s.round)) k
    rw [State.link_setLink] at hlink
    refine ⟨_, hexec, ?_, ?_, ?_, State.fenceLink_fell (s.setLink k ((s.link k).entering s.round)) k⟩
    · rw [hlink]; rfl
    · rw [hlink]; rfl
    · rw [hlink]; rfl

/-! Training ends (R403). -/

/-- R403: a link trained on these lanes. -/
def Link.trained (l : Link) (k : Nat) (st : LinkSt) (lanes : BitVec 4) : Link := { l with st := st, lanes := lanes, attempts := 0, peer := Config.peer k }

section
variable {lanes : BitVec 4}

theorem exec_linkTrainingDone_idle (h : (s.link k).st ≠ .training ∨ (s.link k).entered ≠ none) :
    exec (.linkTrainingDone k lanes) s = .next s := if_pos (h.imp_right Option.isSome_iff_ne_none.2)

variable (hst : (s.link k).st = .training) (hentered : (s.link k).entered = none)
include hst hentered

theorem exec_linkTrainingDone : exec (.linkTrainingDone k lanes) s =
    if lanes = 0xF then .next (s.setLink k ((s.link k).trained k .up 0xF))
    else if (s.link k).attempts + 1 < 3 then .next (s.setLink k { s.link k with attempts := (s.link k).attempts + 1 })
    else if lanes.getLsbD 0 = true ∧ lanes.getLsbD 1 = true then .next (s.setLink k ((s.link k).trained k .degraded 3))
    else if lanes.getLsbD 0 = true then .next (s.setLink k ((s.link k).trained k .degraded 1))
    else .next ((s.setLink k (s.link k).fell).linkDown k) :=
  if_neg (not_or.2 ⟨not_not.2 hst, by rw [hentered]; decide⟩)

theorem exec_linkTrainingDone_up (h : lanes = 0xF) : exec (.linkTrainingDone k lanes) s = .next (s.setLink k ((s.link k).trained k .up 0xF)) :=
  (exec_linkTrainingDone hst hentered).trans (if_pos h)

theorem exec_linkTrainingDone_again (h : lanes ≠ 0xF) (hfew : (s.link k).attempts < 2) : exec (.linkTrainingDone k lanes) s =
    .next (s.setLink k { s.link k with attempts := (s.link k).attempts + 1 }) :=
  (exec_linkTrainingDone hst hentered).trans ((if_neg h).trans (if_pos (by omega)))

variable (h : lanes ≠ 0xF) (hlast : 2 ≤ (s.link k).attempts)
include h hlast

theorem exec_linkTrainingDone_last : exec (.linkTrainingDone k lanes) s =
    if lanes.getLsbD 0 = true ∧ lanes.getLsbD 1 = true then .next (s.setLink k ((s.link k).trained k .degraded 3))
    else if lanes.getLsbD 0 = true then .next (s.setLink k ((s.link k).trained k .degraded 1))
    else .next ((s.setLink k (s.link k).fell).linkDown k) :=
  (exec_linkTrainingDone hst hentered).trans ((if_neg h).trans (if_neg (by omega)))

theorem exec_linkTrainingDone_two (h0 : lanes.getLsbD 0 = true) (h1 : lanes.getLsbD 1 = true) : exec (.linkTrainingDone k lanes) s =
    .next (s.setLink k ((s.link k).trained k .degraded 3)) := (exec_linkTrainingDone_last hst hentered h hlast).trans (if_pos ⟨h0, h1⟩)

theorem exec_linkTrainingDone_one (h0 : lanes.getLsbD 0 = true) (h1 : lanes.getLsbD 1 = false) : exec (.linkTrainingDone k lanes) s =
    .next (s.setLink k ((s.link k).trained k .degraded 1)) :=
  (exec_linkTrainingDone_last hst hentered h hlast).trans ((if_neg (fun hb => by rw [h1] at hb; exact absurd hb.2 Bool.false_ne_true)).trans (if_pos h0))

omit h hlast hst hentered in
/-- R403, R405: a link that has fallen is DOWN and empty, with the counts the round found. -/
theorem Link.fell_frame (l : Link) : l.fell.st = .down ∧ l.fell.lanes = 0 ∧ l.fell.replay = [] ∧ l.fell.felled = true
    ∧ (l.entered = none → l.fell.entries = l.entries ∧ l.fell.retrains = l.retrains)
    ∧ ∀ es n, l.entered = some (es, n) → l.fell.entries = es ∧ l.fell.retrains = n := by
  unfold Link.fell
  cases l.entered with
  | none => exact ⟨rfl, rfl, rfl, rfl, fun _ => ⟨rfl, rfl⟩, fun _ _ h => nomatch h⟩
  | some x =>
    refine ⟨rfl, rfl, rfl, rfl, fun h => absurd h (Option.some_ne_none x), fun es n h => ?_⟩
    obtain rfl := Option.some.inj h
    exact ⟨rfl, rfl⟩

theorem exec_linkTrainingDone_none (h0 : lanes.getLsbD 0 = false) : ∃ s', exec (.linkTrainingDone k lanes) s = .next s'
    ∧ (s'.link k).st = .down ∧ (s'.link k).lanes = 0 ∧ s.Fell s' k := by
  have h0' : ¬ lanes.getLsbD 0 = true := by rw [h0]; decide
  have hexec := (exec_linkTrainingDone_last hst hentered h hlast).trans ((if_neg (fun hb => h0' hb.1)).trans (if_neg h0'))
  have hlink : ((s.setLink k (s.link k).fell).linkDown k).link k = (s.link k).fell := (State.linkDown_link _ k k).trans (State.link_setLink ..)
  obtain ⟨hdown, hlanes, -⟩ := (s.link k).fell_frame
  exact ⟨_, hexec, by rw [hlink, hdown], by rw [hlink, hlanes], State.setLink_fell s k _⟩
end

/-! Commands and events of a link (R403, R412). -/

theorem exec_linkDisable_goes (hst : (s.link k).st ≠ .fenced) : ∃ l', exec (.linkDisable k) s = .next (s.setLink k l') ∧ l'.st = .down ∧ l'.lanes = 0
    ∧ l'.replay = [] ∧ l'.felled = true ∧ ((s.link k).entered = none → l'.entries = (s.link k).entries ∧ l'.retrains = (s.link k).retrains)
    ∧ (∀ es n, (s.link k).entered = some (es, n) → l'.entries = es ∧ l'.retrains = n) :=
  ⟨(s.link k).fell, if_neg hst, (s.link k).fell_frame⟩

theorem Link.replaying_iff (l : Link) : l.replaying = true ↔ l.st = .retrying ∨ (l.felled = true ∧ l.start = .retrying) := by
  unfold Link.replaying
  rw [Bool.or_eq_true, Bool.and_eq_true, beq_iff_eq, beq_iff_eq]

theorem exec_replayExhausted_trains (h : (s.link k).st = .retrying ∨ ((s.link k).felled = true ∧ (s.link k).start = .retrying))
    (htries : 8 ≤ (s.link k).tries) : s.Trains k (.replayExhausted k) :=
  trains_of_exec (if_pos ⟨(Link.replaying_iff _).2 h, htries⟩)

theorem exec_replayExhausted_idle (h : (s.link k).st ≠ .retrying ∧ ((s.link k).felled = false ∨ (s.link k).start ≠ .retrying) ∨ (s.link k).tries < 8) :
    exec (.replayExhausted k) s = .next s := by
  refine if_neg (fun hgo => ?_)
  obtain ⟨hreplaying, htries⟩ := hgo
  rw [Link.replaying_iff] at hreplaying
  obtain ⟨hst, hstart⟩ | hfew := h
  · obtain hst' | ⟨hfelled, hstart'⟩ := hreplaying
    · exact hst hst'
    · obtain hf | hs := hstart
      · rw [hf] at hfelled
        exact absurd hfelled Bool.false_ne_true
      · exact hs hstart'
  · omega

theorem exec_replayRequest_idle {seq : BitVec 12} (h : (s.link k).carries = false) : exec (.replayRequest k seq) s = .next s :=
  if_neg (by rw [h]; decide)
end

end Sys2Proof.Machine
end

section
/-! PROOFS. Links: flits and replays (R404, R405). -/

namespace Sys2Proof.Machine

/-! Flits (R404, R405). -/

section
variable {s : State} {k : Nat} {f : List Byte}

/-- R405: a link that has asked for a replay: RETRYING, with what it has received as it was. -/
def Link.Asks (l l' : Link) : Prop := l'.st = .retrying ∧ l'.rxseq = l.rxseq ∧ l'.rx = l.rx ∧ l'.asked = true

/-- R405: the request of a replay from the flit wanted. -/
def Link.request (l : Link) : List Byte := mkFlit (l.flitHead l.rxseq 2 0) []

theorem Link.carries_iff (l : Link) : l.carries = true ↔ (l.st = .up ∨ l.st = .degraded) ∨ l.st = .retrying := by
  unfold Link.carries
  rw [Bool.or_eq_true, Bool.or_eq_true, beq_iff_eq, beq_iff_eq, beq_iff_eq]

/-- R403: a link that carries flits is RETRYING from now on. -/
theorem Link.retrying_eq {l y : Link} (h : l.carries = true) (hst : y.st = l.st) : ∃ a,
    (if l.st = .up ∨ l.st = .degraded then { y with st := .retrying, left := l.st } else y) = { y with st := .retrying, left := a } := by
  by_cases hup : l.st = .up ∨ l.st = .degraded
  · exact ⟨l.st, if_pos hup⟩
  · have hretrying := ((Link.carries_iff l).1 h).resolve_left hup
    exact ⟨y.left, (if_neg hup).trans (by rw [← hretrying, ← hst])⟩

theorem Link.gap_of_asked {l : Link} (h : l.carries = true) (hasked : l.asked = true) : ∃ a, l.gap = { l with st := .retrying, left := a } := by
  have hgap : l.gap = if l.st = .up ∨ l.st = .degraded then { l with st := .retrying, left := l.st } else l := by
    unfold Link.gap
    dsimp only
    rw [if_pos hasked]
  rw [hgap]
  exact Link.retrying_eq h rfl

theorem Link.gap_of_not_asked {l : Link} (h : l.carries = true) (hasked : l.asked = false) :
    ∃ a, l.gap = { l.ask with st := .retrying, left := a } := by
  have hgap : l.gap = if l.st = .up ∨ l.st = .degraded then { l.ask with st := .retrying, left := l.st } else l.ask := by
    unfold Link.gap
    dsimp only
    have hno : ¬ l.asked = true := by rw [hasked]; decide
    rw [if_neg hno]
  rw [hgap]
  exact Link.retrying_eq h rfl

/-- R403, R405: a link that carries flits asks for a replay once. -/
theorem Link.gap_of_carries {l : Link} (h : l.carries = true) : l.Asks l.gap ∧ l.gap.crcerr = l.crcerr ∧ l.gap.tries = l.tries
    ∧ (l.asked = true → l.gap.tx = l.tx)
    ∧ (l.asked = false → l.gap.tx = l.tx ++ [l.request] ∧ l.gap.replays = satAdd l.replays 1) := by
  cases hasked : l.asked with
  | true =>
    obtain ⟨a, hgap⟩ := Link.gap_of_asked h hasked
    rw [hgap]
    exact ⟨⟨rfl, rfl, rfl, hasked⟩, rfl, rfl, fun _ => rfl, fun hf => absurd hf (by decide)⟩
  | false =>
    obtain ⟨a, hgap⟩ := Link.gap_of_not_asked h hasked
    rw [hgap]
    exact ⟨⟨rfl, rfl, rfl, rfl⟩, rfl, rfl, fun hf => absurd hf (by decide), fun _ => ⟨rfl, rfl⟩⟩

/-- R403, R405: a flit that fails its CRC. -/
def Link.garbled (l : Link) : Link := Link.gap { l with crcerr := satAdd l.crcerr 1, asked := false }

theorem Link.garbled_of_carries {l : Link} (h : l.carries = true) : l.Asks l.garbled ∧ l.garbled.crcerr = satAdd l.crcerr 1
    ∧ l.garbled.replays = satAdd l.replays 1 ∧ l.garbled.tx = l.tx ++ [l.request] ∧ l.garbled.tries = l.tries := by
  obtain ⟨hasks, hcrc, htries, -, hask⟩ := Link.gap_of_carries (l := { l with crcerr := satAdd l.crcerr 1, asked := false }) h
  obtain ⟨htx, hreplays⟩ := hask rfl
  exact ⟨hasks, hcrc, hreplays, htx, htries⟩

/-- R403: a failed replay, counted in the state `u`; the eighth is met at once. -/
def State.Fails (s u : State) (k : Nat) (f : List Byte) (l : Link) : Prop :=
  exec (.flitReceive k f) s = .next (if 8 ≤ l.tries then { u.setLink k l with agenda := .ev (.replayExhausted k) :: s.agenda } else u.setLink k l)

/-- R412: the link with the corrected codewords of the flit counted. -/
def State.fecLink (s : State) (k : Nat) : Link := (s.fecCount k).link k

theorem State.fecLink_eq (s : State) (k : Nat) : s.fecLink k =
    { s.link k with feccorr := satAdd (s.link k).feccorr (Config.fecCorrected s.tick) } := State.link_setLink s k _

theorem State.fecLink_carries (s : State) (k : Nat) : (s.fecLink k).carries = (s.link k).carries := by
  rw [State.fecLink_eq]
  rfl

theorem State.fecLink_st (s : State) (k : Nat) : (s.fecLink k).st = (s.link k).st := by rw [State.fecLink_eq]
theorem State.fecLink_felled (s : State) (k : Nat) : (s.fecLink k).felled = (s.link k).felled := by rw [State.fecLink_eq]
theorem State.fecLink_start (s : State) (k : Nat) : (s.fecLink k).start = (s.link k).start := by rw [State.fecLink_eq]

/-! A link that carries no flits. -/

section
variable (hcarries : (s.fecLink k).carries = false)
include hcarries

theorem exec_flitReceive_dead : exec (.flitReceive k f) s =
    .next (if (s.link k).replaying && !flitOk f then s.replayFailed k (s.link k) else s) := by
  rw [State.fecLink_carries] at hcarries
  show execFlitReceive k f s = _
  unfold execFlitReceive
  dsimp only
  rw [hcarries, if_neg Bool.false_ne_true, hcarries]
  exact if_pos rfl

theorem not_retrying_of_dead : (s.link k).st ≠ .retrying := by
  rw [State.fecLink_carries] at hcarries
  intro hst
  have hlive := (Link.carries_iff (s.link k)).2 (Or.inr hst)
  rw [hcarries] at hlive
  exact absurd hlive Bool.false_ne_true

theorem exec_flitReceive_drops (h : ((s.fecLink k).felled = false ∨ (s.fecLink k).start ≠ .retrying) ∨ flitOk f = true) :
    exec (.flitReceive k f) s = .next s := by
  rw [State.fecLink_felled, State.fecLink_start] at h
  rw [exec_flitReceive_dead hcarries, if_neg]
  rw [Bool.and_eq_true, Link.replaying_iff, Bool.not_eq_true']
  rintro ⟨hst | ⟨hfelled, hstart⟩, hbad⟩
  · exact not_retrying_of_dead hcarries hst
  · obtain (hf | hs) | hok := h
    · rw [hf] at hfelled
      exact absurd hfelled Bool.false_ne_true
    · exact hs hstart
    · rw [hok] at hbad
      exact absurd hbad.symm Bool.false_ne_true

theorem exec_flitReceive_felled (hfelled : (s.fecLink k).felled = true) (hstart : (s.fecLink k).start = .retrying) (hbad : flitOk f = false) :
    s.Fails s k f { s.link k with tries := (s.link k).tries + 1 } := by
  rw [State.fecLink_felled] at hfelled
  rw [State.fecLink_start] at hstart
  unfold State.Fails
  rw [exec_flitReceive_dead hcarries, (Link.replaying_iff _).2 (Or.inr ⟨hfelled, hstart⟩), hbad]
  rfl
end

/-! A link that carries flits. -/

section
variable (hcarries : (s.fecLink k).carries = true)
include hcarries

theorem exec_flitReceive_live : exec (.flitReceive k f) s =
    if (!flitOk f) = true then .next (if (s.fecLink k).st = .retrying then (s.fecCount k).replayFailed k (s.fecLink k).garbled
      else (s.fecCount k).setLink k (s.fecLink k).garbled)
    else if fldN (wordAt f 0) 5 2 = 3 then .next (s.fecCount k)
    else
      let l1 := if fldN (wordAt f 0) 7 1 = 1 then (s.fecLink k).acked (fld (wordAt f 0) 8 12) else s.fecLink k
      if fldN (wordAt f 0) 5 2 = 1 then .next ((s.fecCount k).setLink k l1)
      else if fldN (wordAt f 0) 5 2 = 2 then .next ((s.fecCount k).setLink k (l1.resend (fld (wordAt f 0) 20 12)))
      else if fld (wordAt f 0) 20 12 = l1.rxseq then .next ((s.fecCount k).flitData k l1 f)
      else .next ((s.fecCount k).setLink k l1.gap) := by
  have hlink : (s.link k).carries = true := by
    rw [← State.fecLink_carries]
    exact hcarries
  have hlive : ¬ (!((s.fecCount k).link k).carries) = true := by
    rw [show ((s.fecCount k).link k).carries = true from hcarries]
    decide
  show execFlitReceive k f s = _
  unfold execFlitReceive
  dsimp only
  rw [hlink, if_pos rfl, if_neg hlive]
  rfl

theorem exec_flitReceive_garbled (hbad : flitOk f = false) : ∃ l',
    (if (s.fecLink k).st = .retrying then s.Fails (s.fecCount k) k f l' else exec (.flitReceive k f) s = .next ((s.fecCount k).setLink k l'))
    ∧ (s.fecLink k).Asks l' ∧ l'.crcerr = satAdd (s.fecLink k).crcerr 1 ∧ l'.replays = satAdd (s.fecLink k).replays 1
    ∧ l'.tx = (s.fecLink k).tx ++ [(s.fecLink k).request]
    ∧ l'.tries = (if (s.fecLink k).st = .retrying then (s.fecLink k).tries + 1 else (s.fecLink k).tries) := by
  obtain ⟨hasks, hcrc, hreplays, htx, htries⟩ := Link.garbled_of_carries hcarries
  have hexec := (exec_flitReceive_live (f := f) hcarries).trans (if_pos (by rw [hbad]; rfl))
  by_cases hst : (s.fecLink k).st = .retrying
  · rw [if_pos hst] at hexec
    refine ⟨{ (s.fecLink k).garbled with tries := (s.fecLink k).garbled.tries + 1 }, ?_, hasks, hcrc, hreplays, htx, ?_⟩
    · rw [if_pos hst]
      exact hexec
    · rw [if_pos hst, htries]
  · rw [if_neg hst] at hexec
    exact ⟨_, by rw [if_neg hst]; exact hexec, hasks, hcrc, hreplays, htx, by rw [if_neg hst, htries]⟩

section
variable (hok : flitOk f = true)
include hok

/-- R405: the link once the acknowledgement of a flit has been taken. -/
def Link.ackedBy (l : Link) (w : Word) : Link := if fldN w 7 1 = 1 then l.acked (fld w 8 12) else l

omit hcarries hok in
theorem Link.acked_eq (l : Link) (ack : BitVec 12) : ∃ r, l.acked ack = { l with replay := r } := by
  unfold Link.acked
  split
  · exact ⟨_, rfl⟩
  · exact ⟨_, rfl⟩

omit hcarries hok in
theorem Link.ackedBy_eq (l : Link) (w : Word) : ∃ r, l.ackedBy w = { l with replay := r } := by
  unfold Link.ackedBy
  split
  · exact l.acked_eq _
  · exact ⟨_, rfl⟩

theorem exec_flitReceive_ok : exec (.flitReceive k f) s =
    if fldN (wordAt f 0) 5 2 = 3 then .next (s.fecCount k)
    else if fldN (wordAt f 0) 5 2 = 1 then .next ((s.fecCount k).setLink k ((s.fecLink k).ackedBy (wordAt f 0)))
    else if fldN (wordAt f 0) 5 2 = 2 then .next ((s.fecCount k).setLink k (((s.fecLink k).ackedBy (wordAt f 0)).resend (fld (wordAt f 0) 20 12)))
    else if fld (wordAt f 0) 20 12 = ((s.fecLink k).ackedBy (wordAt f 0)).rxseq then
      .next ((s.fecCount k).flitData k ((s.fecLink k).ackedBy (wordAt f 0)) f)
    else .next ((s.fecCount k).setLink k ((s.fecLink k).ackedBy (wordAt f 0)).gap) :=
  (exec_flitReceive_live hcarries).trans (if_neg (by rw [hok]; decide))

theorem exec_flitReceive_reserved (h : fldN (wordAt f 0) 5 2 = 3) : exec (.flitReceive k f) s = .next (s.fecCount k) :=
  (exec_flitReceive_ok hcarries hok).trans (if_pos h)

theorem exec_flitReceive_ack (h : fldN (wordAt f 0) 5 2 = 1) : exec (.flitReceive k f) s =
    .next ((s.fecCount k).setLink k ((s.fecLink k).ackedBy (wordAt f 0))) :=
  (exec_flitReceive_ok hcarries hok).trans ((if_neg (by omega)).trans (if_pos h))

theorem exec_flitReceive_request (h : fldN (wordAt f 0) 5 2 = 2) : exec (.flitReceive k f) s =
    .next ((s.fecCount k).setLink k (((s.fecLink k).ackedBy (wordAt f 0)).resend (fld (wordAt f 0) 20 12))) :=
  (exec_flitReceive_ok hcarries hok).trans ((if_neg (by omega)).trans ((if_neg (by omega)).trans (if_pos h)))

section
variable (h : fldN (wordAt f 0) 5 2 = 0)
include h

theorem exec_flitReceive_data : exec (.flitReceive k f) s =
    if fld (wordAt f 0) 20 12 = ((s.fecLink k).ackedBy (wordAt f 0)).rxseq then
      .next ((s.fecCount k).flitData k ((s.fecLink k).ackedBy (wordAt f 0)) f)
    else .next ((s.fecCount k).setLink k ((s.fecLink k).ackedBy (wordAt f 0)).gap) :=
  (exec_flitReceive_ok hcarries hok).trans ((if_neg (by omega)).trans ((if_neg (by omega)).trans (if_neg (by omega))))

theorem exec_flitReceive_outOfSequence (hseq : fld (wordAt f 0) 20 12 ≠ (s.fecLink k).rxseq) : ∃ l',
    exec (.flitReceive k f) s = .next ((s.fecCount k).setLink k l') ∧ (s.fecLink k).Asks l'
    ∧ ((s.fecLink k).asked = true → l'.tx = (s.fecLink k).tx)
    ∧ ((s.fecLink k).asked = false → l'.tx = (s.fecLink k).tx ++ [(s.fecLink k).request]) := by
  have hexec := exec_flitReceive_data hcarries hok h
  obtain ⟨r, hacked⟩ := (s.fecLink k).ackedBy_eq (wordAt f 0)
  rw [hacked, if_neg hseq] at hexec
  obtain ⟨hasks, -, -, hasked, hask⟩ := Link.gap_of_carries (l := { s.fecLink k with replay := r }) hcarries
  exact ⟨_, hexec, hasks, hasked, fun ha => (hask ha).1⟩

/-- R405, R406: the transactions that the payload of a flit completes, and the bytes left. -/
def Link.unpacks (l : Link) (f : List Byte) : List Txn × List Byte := unpack 300 (l.rx ++ (f.drop 12).take (16 * fldN (wordAt f 0) 0 4))

/-- R405: the link once a flit in sequence has been taken. -/
def Link.takesFlit (l : Link) (f : List Byte) : Link := { l with
  rxseq := l.rxseq + 1, got := true, asked := false, tries := 0, rx := (l.unpacks f).2, st := if l.st = .retrying then l.left else l.st }

omit hcarries hok h in
theorem State.flitData_eq (u : State) (l : Link) : u.flitData k l f =
    { u.setLink k (l.takesFlit f) with agenda := (l.unpacks f).1.map (fun t => .ev (txnStep t)) ++ u.agenda } := rfl

theorem exec_flitReceive_inSequence (hseq : fld (wordAt f 0) 20 12 = (s.fecLink k).rxseq) : ∃ s', exec (.flitReceive k f) s = .next s'
    ∧ (s'.link k).rxseq = (s.fecLink k).rxseq + 1 ∧ (s'.link k).got = true ∧ (s'.link k).asked = false ∧ (s'.link k).tries = 0
    ∧ (s'.link k).st = (if (s.fecLink k).st = .retrying then (s.fecLink k).left else (s.fecLink k).st)
    ∧ s'.agenda = ((s.fecLink k).unpacks f).1.map (fun t => .ev (txnStep t)) ++ s.agenda
    ∧ (s'.link k).rx = ((s.fecLink k).unpacks f).2 ∧ s'.mem = s.mem := by
  have hexec := exec_flitReceive_data hcarries hok h
  obtain ⟨r, hacked⟩ := (s.fecLink k).ackedBy_eq (wordAt f 0)
  rw [hacked, if_pos hseq, State.flitData_eq] at hexec
  have hlink : State.link { (s.fecCount k).setLink k (Link.takesFlit { s.fecLink k with replay := r } f) with
      agenda := (Link.unpacks { s.fecLink k with replay := r } f).1.map (fun t => .ev (txnStep t)) ++ (s.fecCount k).agenda } k
      = Link.takesFlit { s.fecLink k with replay := r } f := State.link_setLink (s.fecCount k) k _
  refine ⟨_, hexec, ?_, ?_, ?_, ?_, ?_, rfl, ?_, rfl⟩
  · rw [hlink]; rfl
  · rw [hlink]; rfl
  · rw [hlink]; rfl
  · rw [hlink]; rfl
  · rw [hlink]; rfl
  · rw [hlink]; rfl
end
end
end
end

end Sys2Proof.Machine
end

section
/-! PROOFS. Transactions: receipt in order and the refusals (R406, R407, R434). -/

namespace Sys2Proof.Machine

/-! Receipt of transactions (R406, R407, R434). -/

section
variable {s : State} {t : Txn} {f : State → Option State}

/-- R407: how far the ESEQ of a transaction is from the one its source is expected to send. -/
def State.ahead (s : State) (t : Txn) : Nat := (t.eseq - (s.ep t.src.toNat).expect).toNat

theorem State.receive_relays (h : t.dst ≠ Config.endpoint) : s.receive t f = s.relay t := if_pos h

section
variable (hdst : t.dst = Config.endpoint)
include hdst

theorem State.receive_here : s.receive t f =
    if s.ahead t = 0 then
      match f (s.counted t) with
      | some s' => s'
      | none => s.setEp t.src.toNat { s.ep t.src.toNat with
          held := if (s.ep t.src.toNat).held.contains t then (s.ep t.src.toNat).held else (s.ep t.src.toNat).held ++ [t] }
    else if s.ahead t < 256 then s.setEp t.src.toNat { s.ep t.src.toNat with
      held := if (s.ep t.src.toNat).held.contains t then (s.ep t.src.toNat).held else (s.ep t.src.toNat).held ++ [t] }
    else if 65536 - 256 ≤ s.ahead t then
      match (s.ep t.src.toNat).answers.find? (fun a => a.eseq == t.eseq) with
      | some a => { s with outq := s.outq ++ [a.txn] }
      | none => s
    else s := if_neg (not_not.2 hdst)

/-- R407: a transaction that comes early is held. -/
theorem State.receive_holds (hlo : 1 ≤ s.ahead t) (hhi : s.ahead t < 256) : t ∈ ((s.receive t f).ep t.src.toNat).held
    ∧ ((s.receive t f).ep t.src.toNat).expect = (s.ep t.src.toNat).expect ∧ (s.receive t f).outq = s.outq ∧ (s.receive t f).mem = s.mem := by
  have hreceive := (State.receive_here (s := s) (f := f) hdst).trans ((if_neg (by omega)).trans (if_pos hhi))
  rw [hreceive, State.ep_setEp]
  refine ⟨?_, rfl, rfl, rfl⟩
  show t ∈ if (s.ep t.src.toNat).held.contains t then (s.ep t.src.toNat).held else (s.ep t.src.toNat).held ++ [t]
  split
  next hheld => exact List.contains_iff_mem.1 hheld
  next => exact List.mem_append_right _ List.mem_cons_self

theorem State.receive_drops (hlo : 256 ≤ s.ahead t) (hhi : s.ahead t < 65280) : s.receive t f = s :=
  (State.receive_here hdst).trans ((if_neg (by omega)).trans ((if_neg (by omega)).trans (if_neg (by omega))))

section
variable (hlate : 65280 ≤ s.ahead t)
include hlate

theorem State.receive_late : s.receive t f =
    match (s.ep t.src.toNat).answers.find? (fun a => a.eseq == t.eseq) with
    | some a => { s with outq := s.outq ++ [a.txn] }
    | none => s :=
  (State.receive_here hdst).trans ((if_neg (by omega)).trans ((if_neg (by omega)).trans (if_pos (by omega))))

theorem State.receive_repeats {y : Answer} (h : (s.ep t.src.toNat).answers.find? (fun a => a.eseq == t.eseq) = some y) :
    s.receive t f = { s with outq := s.outq ++ [y.txn] } := by
  rw [State.receive_late hdst hlate, h]

theorem State.receive_forgotten (h : (s.ep t.src.toNat).answers.find? (fun a => a.eseq == t.eseq) = none) : s.receive t f = s := by
  rw [State.receive_late hdst hlate, h]
end
end

/-- R406, R434: a step that receives a transaction with a checked header from an endpoint that must be allowed. -/
def Gated (i : Instr) (s : State) (t : Txn) (hdr allowed : Bool) : Prop :=
  ∃ (may : State → Bool) (go : State → Option State),
    exec i s = .next (s.receive t (fun x => x.gate t hdr false (may x) go)) ∧ may (s.counted t) = allowed

/-- R406: what a refusal, by reason, leaves. -/
theorem Gated.answers {i : Instr} {may : State → Bool} {go : State → Option State} {hdr : Bool}
    (hexec : exec i s = .next (s.receive t (fun x => x.gate t hdr false (may x) go))) (hdue : s.due t) {r : Byte}
    (hgate : (s.counted t).gate t hdr false (may (s.counted t)) go = some ((s.counted t).refuse t r)) :
    Answers i s t (answerTo t 7 r []) (fun s' => s'.mem = s.mem) :=
  answers_of_reply (x := s.counted t) (nack := true) (hexec.trans (congrArg _ (State.receive_of_due hdue hgate))) rfl
    (State.reply_mem ..)

/-- R407, R434: a gated transaction is passed on, held, answered again, ignored or refused. -/
theorem Gated.receipt {i : Instr} {hdr allowed : Bool} (h : Gated i s t hdr allowed) :
    (t.dst ≠ Config.endpoint → exec i s = .next (s.relay t))
    ∧ (t.dst = Config.endpoint → 1 ≤ s.ahead t → s.ahead t < 256 → ∃ s', exec i s = .next s' ∧ t ∈ (s'.ep t.src.toNat).held
        ∧ (s'.ep t.src.toNat).expect = (s.ep t.src.toNat).expect ∧ s'.outq = s.outq ∧ s'.mem = s.mem)
    ∧ (t.dst = Config.endpoint → 256 ≤ s.ahead t → s.ahead t < 65280 → exec i s = .next s)
    ∧ (t.dst = Config.endpoint → 65280 ≤ s.ahead t →
        (∀ y, (s.ep t.src.toNat).answers.find? (fun y => y.eseq == t.eseq) = some y → exec i s = .next { s with outq := s.outq ++ [y.txn] })
        ∧ ((s.ep t.src.toNat).answers.find? (fun y => y.eseq == t.eseq) = none → exec i s = .next s))
    ∧ (s.due t → s.sec.boot = .fail → Answers i s t (answerTo t 7 0x11 []) (fun s' => s'.mem = s.mem))
    ∧ (s.due t → s.sec.boot ≠ .fail → hdr = false → Answers i s t (answerTo t 7 0x10 []) (fun s' => s'.mem = s.mem))
    ∧ (s.due t → s.sec.boot ≠ .fail → hdr = true → allowed = false → Answers i s t (answerTo t 7 0x11 []) (fun s' => s'.mem = s.mem)) := by
  obtain ⟨may, go, hexec, hmay⟩ := h
  refine ⟨fun hdst => ?_, fun hdst hlo hhi => ⟨_, hexec, State.receive_holds hdst hlo hhi⟩, fun hdst hlo hhi => ?_,
    fun hdst hlate => ⟨fun y hy => ?_, fun hnone => ?_⟩, fun hdue hboot => ?_, fun hdue hboot hbad => ?_, fun hdue hboot hgood hdenied => ?_⟩
  · rw [hexec, State.receive_relays hdst]
  · rw [hexec, State.receive_drops hdst hlo hhi]
  · rw [hexec, State.receive_repeats hdst hlate hy]
  · rw [hexec, State.receive_forgotten hdst hlate hnone]
  · exact Gated.answers hexec hdue (State.gate_of_bootfail _ hboot (Bool.and_false hdr))
  · rw [hbad] at hexec
    exact Gated.answers hexec hdue (State.gate_of_badhdr _ _ hboot)
  · rw [hgood] at hexec
    refine Gated.answers hexec hdue ?_
    rw [hmay, hdenied]
    exact State.gate_of_denied hboot

theorem gated_read : Gated (.read t) s t (txnHeadOk t 0 false && t.opx == 0 && deviceRange t.addr.toNat (16 * t.len.toNat)) (s.sec.mem t.src) :=
  ⟨fun x => x.sec.mem t.src, _, rfl, rfl⟩

theorem gated_write : Gated (.write t) s t (txnHeadOk t 1 true && decide (t.opx.toNat < 16) && deviceRange t.addr.toNat (writeBytesOf t))
    (s.sec.mem t.src) := ⟨fun x => x.sec.mem t.src, _, rfl, rfl⟩

theorem gated_enq : Gated (.enq t) s t (enqHeaderOk t) (s.sec.serves t.src (s.queue (t.addr.toNat % 2048)).ctx) :=
  ⟨fun x => x.sec.serves t.src (x.queue (t.addr.toNat % 2048)).ctx, _, rfl, rfl⟩

theorem gated_signal : Gated (.signal t) s t (txnHeadOk t 3 true && t.opx == 0 && t.len == 1 && signalAddrOk t.addr)
    (s.sec.serves t.src (s.region (t.addr.toNat % 64)).ctx.toNat) :=
  ⟨fun x => x.sec.serves t.src (x.region (t.addr.toNat % 64)).ctx.toNat, _, rfl, rfl⟩

/-- R406: the header of a read-modify-write of `n` bytes. -/
def rmwHeadOk (t : Txn) (type n : Nat) (ox : Bool) : Bool :=
  txnHeadOk t type true && t.len == 1 && ox && decide (t.addr.toNat % n = 0) && deviceRange t.addr.toNat n

theorem gated_atomic : Gated (.atomic t) s t (rmwHeadOk t 4 4 (decide (t.opx.toNat < 15))) (s.sec.mem t.src) :=
  ⟨fun x => x.sec.mem t.src, _, rfl, rfl⟩

theorem gated_xchg64 : Gated (.xchg64 t) s t (rmwHeadOk t 4 8 (t.opx == 0x10)) (s.sec.mem t.src) := ⟨fun x => x.sec.mem t.src, _, rfl, rfl⟩

theorem gated_cas64 : Gated (.cas64 t) s t (rmwHeadOk t 4 8 (t.opx == 0x11)) (s.sec.mem t.src) := ⟨fun x => x.sec.mem t.src, _, rfl, rfl⟩

theorem gated_reduce : Gated (.reduce t) s t (rmwHeadOk t 5 4 (decide (t.opx.toNat < 10))) (s.sec.mem t.src) :=
  ⟨fun x => x.sec.mem t.src, _, rfl, rfl⟩
end

end Sys2Proof.Machine
end

section
/-! PROOFS. Transactions on memory: READ, WRITE, the read-modify-writes (R406, R421). -/

namespace Sys2Proof.Machine

/-! Transactions on memory (R406, R421). -/

section
variable {s : State} {t : Txn}

/-! What the marks and the log of poison leave alone. -/

theorem State.noteRead_controls (s : State) (l : List Nat) : (s.noteRead l).controls = s.controls := by
  unfold State.noteRead
  split
  · rfl
  · exact foldl_unchanged State.controls (fun s g => State.noteGroup_controls s g) l s

theorem State.noteWrite_controls (s : State) (pa n : Nat) : (s.noteWrite pa n).controls = s.controls := by
  unfold State.noteWrite
  split
  · rfl
  · exact State.noteRead_controls ..

theorem State.logPoison_controls (s : State) (t : Txn) (pa n : Nat) : (s.logPoison t pa n).controls = s.controls := by
  unfold State.logPoison
  exact (foldl_unchanged State.controls (fun s _ => State.dflLog_controls s _) _ _).trans (State.noteBytes_controls ..)

theorem State.outq_of_controls {x y : State} (h : x.controls = y.controls) : x.outq = y.outq := by
  have houtq : x.controls.outq = y.controls.outq := by rw [h]
  exact houtq

theorem State.logPoison_outq (s : State) (t : Txn) (pa n : Nat) : (s.logPoison t pa n).outq = s.outq :=
  State.outq_of_controls (s.logPoison_controls t pa n)

/-- R419: a read of groups without known flaws marks nothing. -/
theorem State.noteGroup_of_no_flaws (h : s.flaws = []) (g : Nat) : (s.noteGroup g).flaws = [] ∧ (s.noteGroup g).poison = s.poison := by
  unfold State.noteGroup
  split
  · split
    · exact ⟨h, rfl⟩
    · exact ⟨h, rfl⟩
  · rw [h]
    exact ⟨h, rfl⟩

theorem State.noteBytes_poison (h : s.flaws = []) (pa n : Nat) : (s.noteBytes pa n).poison = s.poison := by
  unfold State.noteBytes State.noteRead
  split
  · rfl
  · split
    · rfl
    · refine And.right (foldl_keeps (fun x : State => x.flaws = [] ∧ x.poison = s.poison) ?_ _ ⟨h, rfl⟩)
      rintro x g ⟨hflaws, hpoison⟩
      obtain ⟨hf, hp⟩ := State.noteGroup_of_no_flaws hflaws g
      exact ⟨hf, hp.trans hpoison⟩

theorem State.logPoison_poison (h : s.flaws = []) (t : Txn) (pa n : Nat) : (s.logPoison t pa n).poison = s.poison := by
  unfold State.logPoison
  exact (foldl_unchanged State.poison (fun s _ => State.dflLog_poison s _) _ _).trans (State.noteBytes_poison h pa n)

/-! READ and WRITE. -/

theorem State.fabricWrite_poisoned {a : Nat} {l : List Byte} (h : s.poisoned a l.length true = true) :
    (s.fabricWrite t a l).mem = s.mem := by
  unfold State.fabricWrite
  rw [if_pos h, State.logPoison_mem]

theorem State.fabricWrite_clean {a : Nat} {l : List Byte} (h : s.poisoned a l.length true = false) :
    (s.fabricWrite t a l).mem = s.mem.writeBytes a l := by
  have hclean : ¬ s.poisoned a l.length true = true := by rw [h]; decide
  unfold State.fabricWrite
  rw [if_neg hclean]
  rfl

theorem State.fabricWrite_outq (a : Nat) (l : List Byte) : (s.fabricWrite t a l).outq = s.outq := by
  unfold State.fabricWrite
  split
  · exact s.logPoison_outq t _ _
  · exact State.outq_of_controls (State.noteWrite_controls s _ _)

section
variable (hdue : s.due t) (hgo : s.sec.boot ≠ .fail) (hmem : s.sec.mem t.src = true)
include hdue hgo hmem

/-- R406, R421: the bytes that a READ answers. -/
def State.readAnswer (s : State) (a n : Nat) : List Byte := (List.range n).map (fun k => s.fabricRead (a + k))

omit hdue hgo hmem in
theorem State.readAnswer_get (s : State) (a : Nat) {n j : Nat} (hj : j < n) :
    (s.readAnswer a n)[j]? = some (if s.poisoned (a + j) 1 false = true then 0 else s.mem.read (a + j)) := by
  unfold State.readAnswer
  rw [List.getElem?_map, List.getElem?_range hj]
  rfl

theorem answers_read (hhdr : txnHeadOk t 0 false = true) (hopx : t.opx = 0) (hrange : deviceRange t.addr.toNat (16 * t.len.toNat) = true) :
    ∃ l, l.length = 16 * t.len.toNat
      ∧ (∀ j, j < 16 * t.len.toNat → l[j]? = some (if s.poisoned (t.addr.toNat + j) 1 false = true then 0 else s.mem.read (t.addr.toNat + j)))
      ∧ Answers (.read t) s t (answerTo t 6 0 l) (fun s' => s'.mem = s.mem ∧ (s.flaws = [] → s'.poison = s.poison)) := by
  have hok : (txnHeadOk t 0 false && t.opx == 0 && deviceRange t.addr.toNat (16 * t.len.toNat)) = true := by rw [hhdr, hopx, hrange]; rfl
  have hexec : exec (.read t) s = .next (((s.counted t).logPoison t t.addr.toNat (16 * t.len.toNat)).respond t
      ((s.counted t).readAnswer t.addr.toNat (16 * t.len.toNat))) := by
    refine congrArg Host.Outcome.next (State.receive_of_due hdue ?_)
    rw [hok, State.counted_sec, hmem]
    exact State.gate_of_allowed _ hgo
  refine ⟨(s.counted t).readAnswer t.addr.toNat (16 * t.len.toNat), ?_, fun j hj => State.readAnswer_get (s.counted t) _ hj,
    answers_of_reply (nack := false) hexec ((s.counted t).logPoison_outq t _ _) ⟨?_, fun hflaws => ?_⟩⟩
  · unfold State.readAnswer
    rw [List.length_map, List.length_range]
  · rw [State.reply_mem, State.logPoison_mem, State.counted_mem]
  · exact State.logPoison_poison (s := s.counted t) hflaws t _ _

theorem answers_write (hinv : s.Inv) (hhdr : txnHeadOk t 1 true = true) (hopx : t.opx.toNat < 16)
    (hrange : deviceRange t.addr.toNat (writeBytesOf t) = true) :
    Answers (.write t) s t (answerTo t 6 0 []) (fun s' =>
      (s.poisoned t.addr.toNat (t.data.take (writeBytesOf t)).length true = true → s'.mem = s.mem)
      ∧ (s.poisoned t.addr.toNat (t.data.take (writeBytesOf t)).length true = false →
          (∀ j, j < writeBytesOf t → t.data[j]? ≠ none → some (s'.mem.read (t.addr.toNat + j)) = t.data[j]?)
          ∧ ∀ b, (b < t.addr.toNat ∨ t.addr.toNat + writeBytesOf t ≤ b) → s'.mem.read b = s.mem.read b)) := by
  have hok : (txnHeadOk t 1 true && decide (t.opx.toNat < 16) && deviceRange t.addr.toNat (writeBytesOf t)) = true := by
    rw [hhdr, hrange, decide_eq_true hopx]
    rfl
  have hexec : exec (.write t) s = .next (((s.counted t).fabricWrite t t.addr.toNat (t.data.take (writeBytesOf t))).respond t []) := by
    refine congrArg Host.Outcome.next (State.receive_of_due hdue ?_)
    rw [hok, State.counted_sec, hmem]
    exact State.gate_of_allowed _ hgo
  refine answers_of_reply (nack := false) hexec (State.fabricWrite_outq (s := s.counted t) _ _) ⟨fun hpoison => ?_, fun hclean => ?_⟩
  · rw [State.reply_mem]
    exact State.fabricWrite_poisoned (s := s.counted t) hpoison
  · have hwritten : ((s.counted t).fabricWrite t t.addr.toNat (t.data.take (writeBytesOf t))).mem =
        s.mem.writeBytes t.addr.toNat (t.data.take (writeBytesOf t)) := State.fabricWrite_clean (s := s.counted t) hclean
    rw [State.reply_mem, hwritten]
    refine ⟨fun j hj hdata => ?_, fun b hb => ?_⟩
    · have hlen : j < t.data.length := by
        by_contra hnot
        exact hdata (List.getElem?_eq_none (not_lt.1 hnot))
      have hj' : j < (t.data.take (writeBytesOf t)).length := by
        rw [List.length_take]
        omega
      rw [Memory.read_writeBytes_inside hinv _ hj', List.getElem_take, List.getElem?_eq_getElem hlen]
    · refine Memory.read_writeBytes_outside _ _ ?_
      have hle := List.length_take_le (writeBytesOf t) t.data
      omega
end

/-! Read-modify-writes. -/

section
variable {n : Nat} {f : Nat → Nat × Option Nat}

theorem State.fabricRmw_poisoned (h : s.poisoned t.addr.toNat n false = true) :
    s.fabricRmw t n f = (s.logPoison t t.addr.toNat n, 0) := if_pos h

/-- R406: what a read-modify-write leaves of memory. -/
def Memory.modified (m : Memory) (a n : Nat) : Option Nat → Memory
  | some w => m.writeN a n w
  | none => m

theorem State.fabricRmw_clean (h : s.poisoned t.addr.toNat n false = false) :
    (s.fabricRmw t n f).2 = (f (s.mem.readN t.addr.toNat n)).1
    ∧ (s.fabricRmw t n f).1.mem = s.mem.modified t.addr.toNat n (f (s.mem.readN t.addr.toNat n)).2
    ∧ (s.fabricRmw t n f).1.outq = s.outq := by
  have hclean : ¬ s.poisoned t.addr.toNat n false = true := by rw [h]; decide
  have houtq := State.outq_of_controls (s.noteBytes_controls t.addr.toNat n)
  unfold State.fabricRmw
  rw [if_neg hclean]
  rcases f (s.mem.readN t.addr.toNat n) with ⟨v, _ | w⟩
  · exact ⟨rfl, State.noteBytes_mem .., houtq⟩
  · exact ⟨rfl, rfl, houtq⟩

variable (hdue : s.due t) (hgo : s.sec.boot ≠ .fail) (hmem : s.sec.mem t.src = true) {i : Instr} {type : Nat} {ox answer : Bool}
  (hok : rmwHeadOk t type n ox = true) (hexec : exec i s = .next (s.rmw t type n ox answer f))
include hdue hgo hmem hok hexec

theorem exec_rmw_of_due : exec i s = .next (((s.counted t).fabricRmw t n f).1.respond t
    (if answer then unitOf ((s.counted t).fabricRmw t n f).2 n else [])) := by
  refine hexec.trans (congrArg Host.Outcome.next ?_)
  unfold State.rmw
  refine State.receive_of_due hdue ?_
  unfold rmwHeadOk at hok
  rw [hok, State.counted_sec, hmem]
  exact State.gate_of_allowed _ hgo

theorem answers_rmw_poisoned (hpoison : s.poisoned t.addr.toNat n false = true) :
    Answers i s t (answerTo t 6 0 (if answer then unitOf 0 n else [])) (fun s' => s'.mem = s.mem) := by
  have hdone := exec_rmw_of_due hdue hgo hmem hok hexec
  rw [State.fabricRmw_poisoned (s := s.counted t) hpoison] at hdone
  refine answers_of_reply (nack := false) hdone ((s.counted t).logPoison_outq t _ _) ?_
  rw [State.reply_mem, State.logPoison_mem, State.counted_mem]

theorem answers_rmw_clean (hclean : s.poisoned t.addr.toNat n false = false) :
    Answers i s t (answerTo t 6 0 (if answer then unitOf (f (s.mem.readN t.addr.toNat n)).1 n else [])) (fun s' =>
      s'.mem = s.mem.modified t.addr.toNat n (f (s.mem.readN t.addr.toNat n)).2) := by
  have hdone := exec_rmw_of_due hdue hgo hmem hok hexec
  obtain ⟨hval, hmem', houtq⟩ := State.fabricRmw_clean (s := s.counted t) (f := f) hclean
  rw [hval] at hdone
  refine answers_of_reply (nack := false) hdone houtq ?_
  rw [State.reply_mem]
  exact hmem'
end
end

end Sys2Proof.Machine
end

section
/-! PROOFS. Signals of the fabric (R337, R338, R406). -/

namespace Sys2Proof.Machine

/-! Signals of the fabric (R337, R406, R407). -/

section
variable {s : State} {t : Txn}

/-- R406: the signal of a SIGNAL transaction. -/
def State.signalOf (s : State) (t : Txn) : Signal :=
  { id := s.fresh, region := t.addr.toNat % 64, h := BitVec.ofNat 4 (t.addr.toNat / 2 ^ 8), payload := wordAt t.data 0, fab := true
    sender := t.src.toNat, reply := t.eseq.toNat }

/-- R407: the state that takes the signal of a transaction. -/
def State.signalled (s : State) (t : Txn) : State := { s.counted t with fresh := s.fresh + 1 }

theorem State.signalled_sigDecide (g : Signal) : (s.signalled t).sigDecide g = s.sigDecide g := rfl

/-- R406, R407: an answer enters the list of its source and waits for a port. -/
theorem State.reply_eq (x : State) (ep eseq : Nat) (nack : Bool) (opx : Byte) (data : List Byte) :
    ∃ e q, x.reply ep eseq nack opx data = { x with eps := e, outq := q } := ⟨_, _, rfl⟩

/-- R337: the state without the signal `g`. -/
def State.unsignalled (x : State) (g : Signal) : State := { x with signals := x.signals.filter (fun y => y.id != g.id) }

theorem State.sigDone_of_fab (x : State) {g : Signal} (h : g.fab = true) : x.sigDone g = (x.unsignalled g).reply g.sender g.reply false 0 [] :=
  if_pos h

theorem State.sigNack_of_fab (x : State) {g : Signal} (h : g.fab = true) (r : Byte) :
    x.sigNack g r = (x.unsignalled g).reply g.sender g.reply true r [] := if_pos h

section
variable (hdue : s.due t) (hgo : s.sec.boot ≠ .fail) (hhdr : txnHeadOk t 3 true = true) (hopx : t.opx = 0) (hlen : t.len = 1)
  (haddr : signalAddrOk t.addr = true) (hserves : s.sec.serves t.src (s.region (t.addr.toNat % 64)).ctx.toNat = true)
include hdue hgo hhdr hopx hlen haddr hserves

theorem exec_signal : exec (.signal t) s = .next ((s.signalled t).takeSignal (s.signalOf t)) := by
  have hok : (txnHeadOk t 3 true && t.opx == 0 && t.len == 1 && signalAddrOk t.addr) = true := by rw [hhdr, hopx, hlen, haddr]; rfl
  refine congrArg Host.Outcome.next (State.receive_of_due hdue ?_)
  have hserves' : (s.counted t).sec.serves t.src ((s.counted t).region (t.addr.toNat % 64)).ctx.toNat = true := hserves
  rw [hok, hserves']
  exact State.gate_of_allowed _ hgo

/-- R337: a signal that is not taken is answered with a NACK. -/
theorem answers_signal_nack {r : Byte} (htake : (s.signalled t).takeSignal (s.signalOf t) = (s.signalled t).sigNack (s.signalOf t) r) :
    Answers (.signal t) s t (answerTo t 7 r []) (fun s' => s'.mem = s.mem ∧ s'.regions = s.regions) := by
  have hexec := exec_signal hdue hgo hhdr hopx hlen haddr hserves
  rw [htake, State.sigNack_of_fab _ rfl] at hexec
  refine answers_of_reply (x := (s.signalled t).unsignalled (s.signalOf t)) (nack := true) hexec rfl ?_
  obtain ⟨e, q, hreply⟩ := ((s.signalled t).unsignalled (s.signalOf t)).reply_eq t.src.toNat t.eseq.toNat true r []
  rw [hreply]
  exact ⟨rfl, rfl⟩

theorem answers_signal_fenced (h : s.sigDecide (s.signalOf t) = .fenced) :
    Answers (.signal t) s t (answerTo t 7 8 []) (fun s' => s'.mem = s.mem ∧ s'.regions = s.regions) := by
  refine answers_signal_nack hdue hgo hhdr hopx hlen haddr hserves ?_
  rw [← State.signalled_sigDecide (t := t)] at h
  unfold State.takeSignal
  dsimp only
  rw [h]

theorem answers_signal_busy (h : s.sigDecide (s.signalOf t) = .busy) :
    Answers (.signal t) s t (answerTo t 7 7 []) (fun s' => s'.mem = s.mem ∧ s'.regions = s.regions) := by
  refine answers_signal_nack hdue hgo hhdr hopx hlen haddr hserves ?_
  rw [← State.signalled_sigDecide (t := t)] at h
  unfold State.takeSignal
  dsimp only
  rw [h]

/-- R337: a signal that the state `x` has taken is answered. -/
theorem answers_signal_done {x : State} {P : State → Prop} (htake : (s.signalled t).takeSignal (s.signalOf t) = x.sigDone (s.signalOf t))
    (houtq : x.outq = s.outq) (hP : ∀ l e q, P { x with signals := l, eps := e, outq := q }) : Answers (.signal t) s t (answerTo t 6 0 []) P := by
  have hexec := exec_signal hdue hgo hhdr hopx hlen haddr hserves
  rw [htake, State.sigDone_of_fab _ rfl] at hexec
  refine answers_of_reply (x := x.unsignalled (s.signalOf t)) (nack := false) hexec houtq ?_
  obtain ⟨e, q, hreply⟩ := (x.unsignalled (s.signalOf t)).reply_eq t.src.toNat t.eseq.toNat false 0 []
  rw [hreply]
  exact hP _ e q

/-! A token at a source (R337). -/

omit hdue hgo hhdr hopx hlen haddr hserves in
/-- R99: ports of a C-tile are read as they were written. -/
theorem State.ports_setPorts_of_core (x : State) {tile : Nat} (unit : Nat) (p : Ports) (h : kindOfTile tile = .c) :
    (x.setPorts tile unit p).ports tile unit = p ∧ (x.setPorts tile unit p).outq = x.outq := by
  unfold State.setPorts State.ports
  rw [h]
  dsimp only
  by_cases helem : unit < 16
  · rw [if_pos helem, if_pos helem, State.elem_setElem]
    exact ⟨rfl, rfl⟩
  · by_cases hpress : unit = 16
    · rw [if_neg helem, if_neg helem, if_pos hpress, if_pos hpress, State.press_setPress]
      exact ⟨rfl, rfl⟩
    · rw [if_neg helem, if_neg helem, if_neg hpress, if_neg hpress, State.copyEng_setCopy]
      exact ⟨rfl, rfl⟩

omit hdue hgo hhdr hopx hlen haddr hserves in
theorem State.enter_of_core (x : State) {d : EndPt} (tok : Token) (h : kindOfTile d.tile = .c) :
    (((x.enter d tok).ports d.tile d.unit).inAt d.port).buf = ((x.ports d.tile d.unit).inAt d.port).buf ++ [tok] ∧ (x.enter d tok).outq = x.outq := by
  obtain ⟨hports, houtq⟩ := x.ports_setPorts_of_core d.unit ((x.ports d.tile d.unit).setIn d.port
    { (x.ports d.tile d.unit).inAt d.port with buf := ((x.ports d.tile d.unit).inAt d.port).buf ++ [tok] }) h
  refine ⟨?_, houtq⟩
  unfold State.enter
  dsimp only
  rw [hports, Ports.inAt_setIn, if_pos rfl]

theorem answers_signal_token {d : EndPt} {tok : Token} (h : s.sigDecide (s.signalOf t) = .token d tok) (hcore : kindOfTile d.tile = .c) :
    Answers (.signal t) s t (answerTo t 6 0 []) (fun s' => ((s'.ports d.tile d.unit).inAt d.port).buf =
      ((s.ports d.tile d.unit).inAt d.port).buf ++ [tok]) := by
  obtain ⟨hbuf, houtq⟩ := (s.signalled t).enter_of_core tok hcore
  refine answers_signal_done hdue hgo hhdr hopx hlen haddr hserves (x := (s.signalled t).enter d tok) ?_ houtq (fun _ _ _ => hbuf)
  rw [← State.signalled_sigDecide (t := t)] at h
  unfold State.takeSignal
  dsimp only
  rw [h]

/-! An event, and a signal that nothing handles (R338). -/

theorem answers_signal_event (h : s.sigDecide (s.signalOf t) = .event)
    (hfree : (s.ctx (s.ctxOfRegion (t.addr.toNat % 64))).st ≠ .free) (hfaulted : (s.ctx (s.ctxOfRegion (t.addr.toNat % 64))).st ≠ .faulted) :
    Answers (.signal t) s t (answerTo t 6 0 []) (fun s' => ∃ r, (s'.ctx (s.ctxOfRegion (t.addr.toNat % 64))).events =
      (s.ctx (s.ctxOfRegion (t.addr.toNat % 64))).events ++ [(none, r)]) := by
  have hpost := State.postEvent_of_live (s := s.signalled t) (k := s.ctxOfRegion (t.addr.toNat % 64)) hfree hfaulted none
    ((s.signalled t).signalRecord (s.signalOf t))
  rw [← State.signalled_sigDecide (t := t)] at h
  have htake : (s.signalled t).takeSignal (s.signalOf t) = ((s.signalled t).postEvent (s.ctxOfRegion (t.addr.toNat % 64)) none
      ((s.signalled t).signalRecord (s.signalOf t))).sigDone (s.signalOf t) := by
    unfold State.takeSignal
    dsimp only
    rw [h]
    rfl
  rw [hpost] at htake
  refine answers_signal_done hdue hgo hhdr hopx hlen haddr hserves htake rfl (fun _ _ _ => ⟨(s.signalled t).signalRecord (s.signalOf t), ?_⟩)
  exact congrArg Ctx.events (State.ctx_setCtx (s.signalled t) _ _)

section
variable {reason : BitVec 4} (h : s.sigDecide (s.signalOf t) = .unhandled reason)
include h

theorem answers_signal_full (hfull : 32 ≤ (s.region (t.addr.toNat % 64)).unh.length) :
    Answers (.signal t) s t (answerTo t 7 7 []) (fun s' => s'.mem = s.mem ∧ s'.regions = s.regions) := by
  refine answers_signal_nack hdue hgo hhdr hopx hlen haddr hserves ?_
  rw [← State.signalled_sigDecide (t := t)] at h
  unfold State.takeSignal
  dsimp only
  rw [h]
  exact if_pos hfull

/-- R338: the state with the record of an unhandled signal in its region. -/
def State.unhandledIn (x : State) (g : Signal) (reason : BitVec 4) : State :=
  x.setRegion g.region { x.region g.region with unh := (x.region g.region).unh ++ [x.unhandledOf g reason] }

theorem answers_signal_unhandled (hroom : (s.region (t.addr.toNat % 64)).unh.length < 32) :
    Answers (.signal t) s t (answerTo t 6 0 []) (fun s' =>
      (s'.region (t.addr.toNat % 64)).unh = (s.region (t.addr.toNat % 64)).unh ++ [s.unhandledOf (s.signalOf t) reason]) := by
  rw [← State.signalled_sigDecide (t := t)] at h
  have htake : ∃ c, (s.signalled t).takeSignal (s.signalOf t) =
      State.sigDone { (s.signalled t).unhandledIn (s.signalOf t) reason with ctxs := c } (s.signalOf t) := by
    unfold State.takeSignal
    dsimp only
    rw [h]
    dsimp only
    have hnot : ¬ 32 ≤ ((s.signalled t).region (s.signalOf t).region).unh.length := not_le.2 hroom
    rw [if_neg hnot]
    obtain ⟨c, hc⟩ := State.postEvent_none ((s.signalled t).unhandledIn (s.signalOf t) reason) ((s.signalled t).ctxOfRegion (s.signalOf t).region) _
    exact ⟨c, congrArg (State.sigDone · (s.signalOf t)) hc⟩
  obtain ⟨c, htake⟩ := htake
  refine answers_signal_done hdue hgo hhdr hopx hlen haddr hserves htake rfl (fun _ _ _ => ?_)
  exact congrArg Region.unh (State.region_setRegion (s.signalled t) _ _)
end
end
end

end Sys2Proof.Machine
end

section
/-! PROOFS. Transactions: passing on, answers, resending, ATOMIC to REDUCE (R406, R407, R409). -/

namespace Sys2Proof.Machine

/-! Passing on, answers to the device's own transactions, resending (R406, R407, R409). -/

section
variable {s : State} {t : Txn}

/-- R407: a transaction can be passed on. -/
def State.Passes (s : State) (t : Txn) : Prop :=
  t.type = 6 ∨ t.type = 7 ∨ ∃ k, k < 18 ∧ (s.link k).carries = true ∧ Config.reaches k t.dst = true

theorem State.passes_iff : s.Passes t ↔
    (t.type == 6 || t.type == 7 || (List.range 18).any (fun k => (s.link k).carries && Config.reaches k t.dst)) = true := by
  unfold State.Passes
  rw [Bool.or_eq_true, Bool.or_eq_true, beq_iff_eq, beq_iff_eq, List.any_eq_true, or_assoc]
  simp only [List.mem_range, Bool.and_eq_true]

theorem State.relay_passes (h : s.Passes t) : s.relay t = { s with outq := s.outq ++ [t] } := by
  unfold State.relay
  dsimp only
  rw [if_pos (State.passes_iff.1 h)]

theorem State.relay_lost (h : ¬ s.Passes t) : s.relay t = { s with outq := s.outq ++
    [{ type := 7, dst := t.src, src := t.dst, eseq := t.eseq, len := 0, opx := 0x12, addr := 0, data := [] }] } := by
  unfold State.relay
  dsimp only
  rw [if_neg (mt State.passes_iff.2 h)]

/-- R407: the source once its transaction of this ESEQ is answered. -/
def Endpoint.ends (e : Endpoint) (eseq : BitVec 16) : Endpoint := { e with sent := e.sent.filter (fun x => x.1.eseq != eseq) }

section
variable (hdst : t.dst = Config.endpoint)
include hdst

theorem exec_response : exec (.response t) s =
    match (s.ep t.src.toNat).sent.find? (fun x => x.1.eseq == t.eseq) with
    | none => .next s
    | some (q, _) =>
      if (!responseOk q t) = true then .next s
      else .next { s.answered t.src.toNat t.eseq with accs := s.accs.map (fun a =>
        if a.st = .fabric t.src.toNat t.eseq.toNat then a.answered (q.addr.toNat / 16 * 16 + a.va % 16) t.data else a) } :=
  if_neg (not_not.2 hdst)

theorem exec_response_unknown (h : (s.ep t.src.toNat).sent.find? (fun x => x.1.eseq == t.eseq) = none) : exec (.response t) s = .next s := by
  rw [exec_response hdst, h]

section
variable {q : Txn} {age : Nat} (h : (s.ep t.src.toNat).sent.find? (fun x => x.1.eseq == t.eseq) = some (q, age))
include h

theorem exec_response_bad (hok : responseOk q t = false) : exec (.response t) s = .next s := by
  rw [exec_response hdst, h]
  exact if_pos (by rw [hok]; rfl)

theorem exec_response_ends (hok : responseOk q t = true) : ∃ s', exec (.response t) s = .next s'
    ∧ s'.ep t.src.toNat = (s.ep t.src.toNat).ends t.eseq ∧ s'.mem = s.mem
    ∧ s'.accs = s.accs.map (fun a => if a.st = .fabric t.src.toNat t.eseq.toNat then
        a.answered (q.addr.toNat / 16 * 16 + a.va % 16) t.data else a) := by
  have hgood : ¬ (!responseOk q t) = true := by rw [hok]; decide
  have hexec := exec_response (s := s) hdst
  rw [h] at hexec
  exact ⟨_, hexec.trans (if_neg hgood), State.ep_setEp s _ _, rfl, rfl⟩
end

theorem exec_nack : exec (.nack t) s = if (!nackOk t) = true ∨ nackRetries t.opx = true then .next s else .next (s.answered t.src.toNat t.eseq) :=
  if_neg (not_not.2 hdst)

theorem exec_nack_keeps (h : nackOk t = false ∨ t.opx = 0x07 ∨ t.opx = 0x12) : exec (.nack t) s = .next s := by
  refine (exec_nack hdst).trans (if_pos ?_)
  obtain h | h | h := h
  · exact Or.inl (by rw [h]; rfl)
  · exact Or.inr (by rw [h]; decide)
  · exact Or.inr (by rw [h]; decide)

theorem exec_nack_ends (hok : nackOk t = true) (h7 : t.opx ≠ 0x07) (h12 : t.opx ≠ 0x12) : exec (.nack t) s =
    .next (s.setEp t.src.toNat ((s.ep t.src.toNat).ends t.eseq)) := by
  refine (exec_nack hdst).trans (if_neg ?_)
  unfold nackRetries
  rw [hok, Bool.or_eq_true, beq_iff_eq, beq_iff_eq]
  rintro (h | h | h)
  · exact absurd h (by decide)
  · exact h7 h
  · exact h12 h
end

/-! What a RESPONSE makes of an access (R197, R290). -/

theorem Access.answered_combine (a : Access) (pa : Nat) {data : List Byte} {op : BitVec 4} {v : Dword} (hact : a.act = .combine op v)
    (hsize : a.size = 4) : a.answered pa data = { a with st := .done 0 } := by
  unfold Access.answered
  rw [hact]
  exact if_pos hsize

theorem Access.answered_plain (a : Access) (pa : Nat) {data : List Byte} (hcombine : ∀ op v, a.act ≠ .combine op v)
    (hswap : ∀ op v old, a.act ≠ .swap op v old) : a.answered pa data = { a with st := .done (answerValue a data) } := by
  unfold Access.answered
  split
  next op v hact => exact absurd hact (hcombine op v)
  next op v old hact => exact absurd hact (hswap op v old)
  next => rfl

/-! Resending (R407). -/

section
variable {ep : Nat} {eseq : BitVec 16}

theorem exec_resend_unknown (h : (s.ep ep).sent.find? (fun x => x.1.eseq == eseq) = none) : exec (.transactionResend ep eseq) s = .next s := by
  show execTransactionResend ep eseq s = _
  unfold execTransactionResend
  dsimp only
  rw [h]

variable {age : Nat} (h : (s.ep ep).sent.find? (fun x => x.1.eseq == eseq) = some (t, age))
include h

theorem exec_resend : exec (.transactionResend ep eseq) s =
    if 225000 ≤ age then .next { s.setEp ep { s.ep ep with sent := (s.ep ep).sent.map (fun x => if x.1.eseq = eseq then (x.1, 0) else x) } with
      outq := s.outq ++ [t] }
    else .next s := by
  show execTransactionResend ep eseq s = _
  unfold execTransactionResend
  dsimp only
  rw [h]

theorem exec_resend_waits (hage : age < 225000) : exec (.transactionResend ep eseq) s = .next s :=
  (exec_resend h).trans (if_neg (not_le.2 hage))

theorem exec_resend_goes (hage : 225000 ≤ age) : ∃ s', exec (.transactionResend ep eseq) s = .next s' ∧ s'.outq = s.outq ++ [t]
    ∧ (s'.ep ep).sent = (s.ep ep).sent.map (fun x => if x.1.eseq = eseq then (x.1, 0) else x) ∧ s'.mem = s.mem :=
  ⟨_, (exec_resend h).trans (if_pos hage), rfl, congrArg Endpoint.sent (State.ep_setEp s _ _), rfl⟩
end
end

/-! The read-modify-writes of the obligation (R406). -/

section
variable {s : State} {t : Txn}

theorem rmwHeadOk_of {type n : Nat} {ox : Bool} (hhdr : txnHeadOk t type true = true) (hlen : t.len = 1) (hox : ox = true)
    (halign : t.addr.toNat % n = 0) (hrange : deviceRange t.addr.toNat n = true) : rmwHeadOk t type n ox = true := by
  unfold rmwHeadOk
  rw [hhdr, hlen, hox, decide_eq_true halign, hrange]
  rfl

/-- R192, R406: the new word of an ATOMIC, and whether it is written. -/
def atomicOf (t : Txn) (old : Nat) : Word × Bool := atomicNew (0xAB + t.opx) (Word.ofNat old) (wordAt t.data 0) (wordAt t.data 4)

/-- R193, R406: the new word of a REDUCE. -/
def reduceOf (t : Txn) (old : Nat) : Word := (atomicNew (reduceAs (0xBA + t.opx)) (Word.ofNat old) (wordAt t.data 0) 0).1

theorem opcode_of_opx {op : Nat} (base : Nat) (h : t.opx.toNat = op) : BitVec.ofNat 8 base + t.opx = BitVec.ofNat 8 (base + op) := by
  rw [← h]
  exact BitVec.eq_of_toNat_eq (by simp)

theorem atomicOf_eq {op : Nat} (h : t.opx.toNat = op) (old : Nat) : atomicOf t old =
    atomicNew (BitVec.ofNat 8 (0xAB + op)) (Word.ofNat old) (wordAt t.data 0) (wordAt t.data 4) := by
  rw [← opcode_of_opx 0xAB h]
  rfl

theorem reduceOf_eq {op : Nat} (h : t.opx.toNat = op) (old : Nat) : reduceOf t old =
    (atomicNew (reduceAs (BitVec.ofNat 8 (0xBA + op))) (Word.ofNat old) (wordAt t.data 0) 0).1 := by
  rw [← opcode_of_opx 0xBA h]
  rfl

/-- R406: the new value of a CAS64, where it is written. -/
def casOf (t : Txn) (old : Nat) : Option Nat := if old = dwordAt t.data 8 then some (dwordAt t.data 0) else none

theorem Memory.modified_casOf (m : Memory) (t : Txn) (a n old : Nat) :
    m.modified a n (casOf t old) = if old = dwordAt t.data 8 then m.writeN a n (dwordAt t.data 0) else m := by
  unfold casOf
  split
  · rfl
  · rfl

theorem Memory.modified_ite (m : Memory) (a n w : Nat) (p : Prop) [Decidable p] :
    m.modified a n (if p then some w else none) = if p then m.writeN a n w else m := by
  split
  · rfl
  · rfl

/-- R406: a read-modify-write that answers the old word. -/
theorem answers_fetch {i : Instr} {type n : Nat} {ox : Bool} {g : Nat → Option Nat} (hdue : s.due t) (hgo : s.sec.boot ≠ .fail)
    (hmem : s.sec.mem t.src = true) (hok : rmwHeadOk t type n ox = true) (hclean : s.poisoned t.addr.toNat n false = false)
    (hexec : exec i s = .next (s.rmw t type n ox true (fun old => (old, g old)))) :
    Answers i s t (answerTo t 6 0 (unitOf (s.mem.readN t.addr.toNat n) n)) (fun s' =>
      s'.mem = s.mem.modified t.addr.toNat n (g (s.mem.readN t.addr.toNat n))) :=
  answers_rmw_clean hdue hgo hmem hok hexec hclean

section
variable (hdue : s.due t) (hgo : s.sec.boot ≠ .fail) (hmem : s.sec.mem t.src = true) (hlen : t.len = 1)
include hdue hgo hmem hlen

section
variable (hhdr : txnHeadOk t 4 true = true)
include hhdr

section
variable (hopx : t.opx.toNat < 15) (halign : t.addr.toNat % 4 = 0) (hrange : deviceRange t.addr.toNat 4 = true)
include hopx halign hrange

theorem answers_atomic_poisoned (h : s.poisoned t.addr.toNat 4 false = true) :
    Answers (.atomic t) s t (answerTo t 6 0 (unitOf 0 4)) (fun s' => s'.mem = s.mem) :=
  answers_rmw_poisoned (answer := true) hdue hgo hmem (rmwHeadOk_of hhdr hlen (decide_eq_true hopx) halign hrange) rfl h

theorem answers_atomic_clean (h : s.poisoned t.addr.toNat 4 false = false) :
    Answers (.atomic t) s t (answerTo t 6 0 (unitOf (s.mem.readN t.addr.toNat 4) 4)) (fun s' => s'.mem =
      if (atomicOf t (s.mem.readN t.addr.toNat 4)).2 = true then
        s.mem.writeN t.addr.toNat 4 (atomicOf t (s.mem.readN t.addr.toNat 4)).1.toNat else s.mem) := by
  rw [← Memory.modified_ite]
  exact answers_rmw_clean (answer := true)
    (f := fun old => (old, if (atomicOf t old).2 then some (atomicOf t old).1.toNat else none)) hdue hgo hmem
    (rmwHeadOk_of hhdr hlen (decide_eq_true hopx) halign hrange) rfl h
end

section
variable (halign : t.addr.toNat % 8 = 0) (hrange : deviceRange t.addr.toNat 8 = true) (h : s.poisoned t.addr.toNat 8 false = false)
include halign hrange h

theorem answers_xchg64 (hopx : t.opx = 0x10) : Answers (.xchg64 t) s t (answerTo t 6 0 (unitOf (s.mem.readN t.addr.toNat 8) 8)) (fun s' =>
    s'.mem = s.mem.writeN t.addr.toNat 8 (dwordAt t.data 0)) :=
  answers_rmw_clean (answer := true) (f := fun old => (old, some (dwordAt t.data 0))) hdue hgo hmem
    (rmwHeadOk_of hhdr hlen (beq_iff_eq.2 hopx) halign hrange) rfl h

omit hdue hgo hmem hlen hhdr halign hrange h in
theorem exec_cas64 : exec (.cas64 t) s = .next (s.rmw t 4 8 (t.opx == 0x11) true (fun old => (old, casOf t old))) := rfl

theorem answers_cas64 (hopx : t.opx = 0x11) : Answers (.cas64 t) s t (answerTo t 6 0 (unitOf (s.mem.readN t.addr.toNat 8) 8)) (fun s' =>
    s'.mem = s.mem.modified t.addr.toNat 8 (casOf t (s.mem.readN t.addr.toNat 8))) :=
  answers_fetch hdue hgo hmem (rmwHeadOk_of hhdr hlen (beq_iff_eq.2 hopx) halign hrange) h exec_cas64
end
end

omit hdue hgo hmem hlen in
theorem exec_reduce : exec (.reduce t) s = .next (s.rmw t 5 4 (decide (t.opx.toNat < 10)) false (fun old => (0, some (reduceOf t old).toNat))) := rfl

theorem answers_reduce (hhdr : txnHeadOk t 5 true = true) (hopx : t.opx.toNat < 10) (halign : t.addr.toNat % 4 = 0)
    (hrange : deviceRange t.addr.toNat 4 = true) : Answers (.reduce t) s t (answerTo t 6 0 []) (fun s' => s'.mem =
      if s.poisoned t.addr.toNat 4 false = true then s.mem else
        s.mem.writeN t.addr.toNat 4 (reduceOf t (s.mem.readN t.addr.toNat 4)).toNat) := by
  have hok := rmwHeadOk_of hhdr hlen (decide_eq_true hopx) halign hrange
  cases h : s.poisoned t.addr.toNat 4 false with
  | true => exact answers_rmw_poisoned (answer := false) hdue hgo hmem hok exec_reduce h
  | false => exact answers_rmw_clean (answer := false) hdue hgo hmem hok exec_reduce h
end
end

end Sys2Proof.Machine
end

section
/-! PROOFS. The obligation on links and transactions, O59. -/

namespace Sys2Proof.Machine

/-! The obligation on links and transactions. -/

theorem Answers.mem_congr {i : Instr} {s : State} {t a : Txn} {m m' : Memory} (h : Answers i s t a (fun s' => s'.mem = m)) (hm : m = m') :
    Answers i s t a (fun s' => s'.mem = m') := by
  rw [← hm]
  exact h

/-- Settles O59: each clause is the lemma about its event, command or transaction; the eight transactions that perform something share their
receipt (`Gated.receipt`), the read-modify-writes the access (`answers_rmw_clean`, `answers_rmw_poisoned`). -/
theorem linksFabric : Obligations.LinksFabric := by
  unfold Obligations.LinksFabric
  refine ⟨?_, ?_, ?_, ?_, ?_, ?_, ?_⟩
  case refine_1 =>
    intro s k lanes
    refine ⟨exec_linkTrainingDone_idle, fun hst hentered => ⟨exec_linkTrainingDone_up hst hentered, exec_linkTrainingDone_again hst hentered,
      fun h hlast => ⟨exec_linkTrainingDone_two hst hentered h hlast, exec_linkTrainingDone_one hst hentered h hlast,
        exec_linkTrainingDone_none hst hentered h hlast⟩⟩, fun h => trains_of_exec (if_pos h), fun h => if_neg h,
      fun h => trains_of_exec (if_pos h), fun hup hdegraded => if_neg (not_or.2 ⟨hup, hdegraded⟩), fun h => if_pos h,
      exec_linkDisable_goes, ⟨_, rfl, s.fenceLink_link k, s.fenceLink_fell k⟩, exec_replayExhausted_trains,
      exec_replayExhausted_idle, fun seq => exec_replayRequest_idle, fun seq h => if_pos h⟩
  case refine_2 =>
    intro s k f
    refine ⟨s.fecLink_eq k, exec_flitReceive_drops, exec_flitReceive_felled, exec_flitReceive_garbled, fun hcarries hok =>
      ⟨exec_flitReceive_reserved hcarries hok, exec_flitReceive_ack hcarries hok, exec_flitReceive_request hcarries hok,
        exec_flitReceive_outOfSequence hcarries hok, exec_flitReceive_inSequence hcarries hok⟩⟩
  case refine_3 =>
    intro s t a mem rmw d x hx
    simp only [List.mem_cons, List.not_mem_nil, or_false] at hx
    obtain rfl | rfl | rfl | rfl | rfl | rfl | rfl | rfl := hx
    · exact gated_read.receipt
    · exact gated_write.receipt
    · exact gated_enq.receipt
    · exact gated_signal.receipt
    · exact gated_atomic.receipt
    · exact gated_xchg64.receipt
    · exact gated_cas64.receipt
    · exact gated_reduce.receipt
  case refine_4 =>
    intro s t hinv hdue hgo hmem
    refine ⟨answers_read hdue hgo hmem, answers_write hdue hgo hmem hinv, fun op => ⟨fun hop hhdr hlen hopx halign hrange => ?_,
      fun hop hhdr hlen hopx halign hrange => ?_⟩, fun hhdr hlen halign hrange hclean => ⟨answers_xchg64 hdue hgo hmem hlen hhdr halign hrange hclean,
        fun hopx => (answers_cas64 hdue hgo hmem hlen hhdr halign hrange hclean hopx).mem_congr (Memory.modified_casOf ..)⟩⟩
    · have hlt : t.opx.toNat < 15 := hopx ▸ hop
      refine ⟨answers_atomic_poisoned hdue hgo hmem hlen hhdr hlt halign hrange, fun hclean => ?_⟩
      rw [← atomicOf_eq hopx]
      exact answers_atomic_clean hdue hgo hmem hlen hhdr hlt halign hrange hclean
    · rw [← reduceOf_eq hopx]
      exact answers_reduce hdue hgo hmem hlen hhdr (hopx ▸ hop) halign hrange
  case refine_5 =>
    intro s t hdue hgo hhdr hopx hlen haddr hserves
    refine ⟨answers_signal_fenced hdue hgo hhdr hopx hlen haddr hserves, answers_signal_busy hdue hgo hhdr hopx hlen haddr hserves,
      fun d tok h hcore _ => answers_signal_token hdue hgo hhdr hopx hlen haddr hserves h hcore,
      answers_signal_event hdue hgo hhdr hopx hlen haddr hserves, fun reason h => ⟨fun hfull => ?_, fun hroom => ?_⟩⟩
    · obtain ⟨s', hexec, houtq, hstored, -, hregions⟩ := answers_signal_full hdue hgo hhdr hopx hlen haddr hserves h hfull
      exact ⟨s', hexec, houtq, hstored, hregions⟩
    · obtain ⟨s', hexec, houtq, hstored, hunh⟩ := answers_signal_unhandled hdue hgo hhdr hopx hlen haddr hserves h hroom
      exact ⟨s', hexec, houtq, hstored, _, hunh, rfl, rfl, rfl, rfl, rfl⟩
  case refine_6 =>
    intro s t
    refine ⟨State.relay_passes, State.relay_lost, fun h => ⟨if_pos h, if_pos h⟩, exec_response_unknown, fun q age hdst h =>
      ⟨exec_response_bad hdst h, exec_response_ends hdst h⟩, fun a pa => a.answered_plain pa, fun a pa op v => a.answered_combine pa,
      exec_nack_keeps, exec_nack_ends⟩
  case refine_7 =>
    intro s ep eseq
    exact ⟨exec_resend_unknown, fun t age h => ⟨exec_resend_waits h, exec_resend_goes h⟩⟩

end Sys2Proof.Machine
end
